-- ==== Sys2Proof/Word.lean ====
section
/-! DEFINITION. The register word, the byte of an addressed memory, and the list tables the state is built of.

Registers are 32 bits wide (R511). Sparse storage is a list of key and value pairs in one canonical form:
keys strictly rising, and no entry equal to what its key reads as when nothing is listed. -/

namespace Sys2Proof

/-- One 32-bit register (R511). -/
abbrev Word := BitVec 32

/-- One byte of the CMB store (R73). -/
abbrev Byte := BitVec 8

/-- A clipped value: the nearest number of the range `lo` to `hi`. -/
def clampNat (lo hi v : Nat) : Nat := if v < lo then lo else if hi < v then hi else v

/-- Addition that stops at `top`. -/
def satAdd (top a b : Nat) : Nat := if top < a + b then top else a + b

/-- One when the condition holds, else zero: a flag as a field's value. -/
def b2n (b : Bool) : Nat := if b then 1 else 0

/-- The value of a two's complement field of `w` bits. -/
def toSigned (w v : Nat) : Int := if v < 2 ^ (w - 1) then (v : Int) else (v : Int) - (2 ^ w : Nat)

/-- A signed number as a two's complement field of `w` bits. -/
def ofSigned (w : Nat) (i : Int) : Nat := (i % ((2 ^ w : Nat) : Int)).toNat

end Sys2Proof
end

