-- ==== Sys2Proof/Syntax.lean ====
section
/-! DEFINITION. The commands and events the block takes: one constructor for each row of the opcode table, in the table's order.

The table gives the rows no bit fields. The operands are what identifies the object a row acts on (a fetch number, a function index,
a register offset, a die) and what the outside world or the analogue parts decide (data, a pass or fail status, a measured value). -/

namespace Sys2Proof

/-- The parts of a submission entry that the queue engine and the stitch scheduler use (R101, R106, R114).
`nlb` counts LBAs from 1; `ranges` lists (first LBA, count) for Dataset Management, and source ranges for Copy. -/
structure Sqe where
  opcode : Nat
  cid    : Nat
  nsid   : Nat
  slba   : Nat
  nlb    : Nat
  ranges : List (Nat × Nat)
  /-- PRCHK: bit 2 guard, bit 1 application tag, bit 0 reference tag (R136). -/
  prchk  : Nat
  /-- The placement handle that DTYPE 2h names in DSPEC (R132). -/
  ph     : Option Nat
  /-- LR: the soft read of the ladder is omitted (R132, R219). -/
  lr     : Bool
  /-- The host page of each LBA's data, in order; empty where the command has no host data (R79). -/
  pages  : List Nat
  /-- DPTR names a PRP list or an SGL segment that must be fetched (R88). -/
  list   : Bool
  deriving DecidableEq, Repr

/-- One dword of a memory request: offset in bytes, data and byte enables (R511). -/
structure DwReq where
  addr : Nat
  data : Word
  be   : Nat
  deriving DecidableEq, Repr

/-- A page of a translation completion: untranslated page, size in pages, translated page, R, W and U (R78, R79). -/
structure TransPage where
  page  : Nat
  pages : Nat
  dest  : Nat
  r     : Bool
  w     : Bool
  u     : Bool
  deriving DecidableEq, Repr

/-- The outcome a PRG Response Message carries (R81). -/
inductive PrgOutcome where
  | success | invalid | failure
  deriving DecidableEq, Repr

/-- The kinds of non-posted request the device sends (R88, HIF_CTOLOG.KIND). -/
inductive NpKind where
  | dataRead | listFetch | translation | sqFetch
  deriving DecidableEq, Repr

/-- What an uncorrectable HBM error hit (R324). -/
inductive HbmObject where
  /-- A coarse entry or overlay block of an extent. -/
  | mapEntry (e : Nat)
  | ownerTable (e : Nat)
  /-- A buffered slot of a command's write. -/
  | bufferSlot (cmd lba : Nat)
  /-- A codeword in read staging. -/
  | staging (read : Nat)
  | parity (course : Nat)
  /-- A record in journal staging, in one of its two copies or in both. -/
  | journal (both : Bool)
  /-- Valid-slot counts, reader pins or block-table entries of a die. -/
  | counts (die : Nat)
  /-- CMB data, by the burst's first byte in the store. -/
  | cmb (byte : Nat)
  /-- An entry of a CMB submission queue of a function. -/
  | cmbQueue (fn : Nat)
  /-- A slot of the copy workspace. -/
  | copy (id : Nat)
  /-- Firmware: the active supervisor's part, or another. -/
  | firmware (active : Bool)
  /-- Memory that holds nothing. -/
  | unused
  deriving DecidableEq, Repr

/-- The link-layer and transaction-layer errors of R91. -/
inductive LinkError where
  | receiver | badTlp | badDllp | replayTimer | replayRollover | correctedInternal | advisory
  | dlProtocol | fcProtocol | overflow | malformed | poisoned | ecrc | unsupported | completerAbort | uncorrectableInternal
  | completionTimeout | unexpectedCompletion
  deriving DecidableEq, Repr

/-- One 4 KiB slot of host data: the data as one number, its metadata, and the results of the checks at ingress (R136). -/
structure HostSlot where
  data : Nat
  meta_ : Nat
  guardOk : Bool
  appOk : Bool
  refOk : Bool
  deriving DecidableEq, Repr

/-- What the compressors did with the extents of a write: whether they were busy, the LBAs whose input check failed, and the first LBAs
of extents whose verification failed (R338, R339). -/
structure CmpOutcome where
  busy      : Bool
  badInput  : List Nat
  badVerify : List Nat
  deriving DecidableEq, Repr

/-- The header of a received Sasasis frame with the result of its CRC and the port it came in on (R388). -/
structure FrameHdr where
  port    : Nat
  crcOk   : Bool
  version : Nat
  src     : Nat
  dst     : Nat
  tag     : Nat
  seq     : Nat
  ack     : Nat
  credit  : Nat
  deriving DecidableEq, Repr

/-- A join ticket (R393): system tag, serial number as a number, device ID, flags, not-after time, signature, and whether its length and
version are right. -/
structure JoinTicket where
  wellFormed : Bool
  tag        : Nat
  sn         : Nat
  id         : Nat
  flags      : Nat
  notAfter   : Nat
  sigR       : Nat
  sigS       : Nat
  deriving DecidableEq, Repr

/-- A member entry of a roll-up: ID, whether a critical warning bit is set, read-only mode, supervisor firmware version, age of its last
digest in units of 100 ms (R395). -/
structure RollEntry where
  id   : Nat
  warn : Bool
  ro   : Bool
  fw   : Nat
  age  : Nat
  deriving DecidableEq, Repr

/-- A member as the fleet registry carries it: ID, serial number and address (R406). -/
structure RegEntry where
  id   : Nat
  sn   : Nat
  addr : Nat
  deriving DecidableEq, Repr

/-- The payload of a reliable frame (R390, R399). A DATA frame's slots carry plaintext; `wellFormed` covers its sub-header and check
values. A SCHEDULE carries a time, 0 to cancel, or a member's answer. -/
inductive FrameBody where
  | copyOpen (copy win off count : Nat)
  | data (copy win off : Nat) (slots : List Nat) (wellFormed : Bool)
  | copyEnd (copy sent reason : Nat)
  | rollup (entries : List RollEntry)
  | registry (seq : Nat) (entries : List RegEntry)
  | manager (role epoch id : Nat)
  | join (t : JoinTicket)
  | joinAck (entries : List RegEntry)
  | patrol
  | fwPart (offset : Nat) (blocks : List Nat)
  | schedule (answer : Bool) (time : Nat) (ok : Bool)
  deriving DecidableEq, Repr

/-- What a cold start finds outside the block's state (R279 to R283, R291 to R299, R319, R418, R425, R433, R495, R496). -/
structure StartFacts where
  /-- Milliseconds from PERST deassertion to step 8 of R279. -/
  ms        : Nat
  /-- A REFT edge was seen at step 1; the level of HOLD_OK; the regulator's answer to VOUT_MODE, if it answers. -/
  reft      : Bool
  hold      : Bool
  voutMode  : Option Nat
  /-- The calibration row verified; the lowest pseudo-channel that failed the pattern, if any. -/
  calOk     : Bool
  badPc     : Option Nat
  /-- The copies of each slot that read valid, one bit each; the part that failed its digest or did not start, 0 for none. -/
  valid1    : Nat
  valid2    : Nat
  failPart  : Nat
  /-- The die description that the most dies match, and the blocks and wordlines of their parameter page. -/
  desc      : Option Nat
  blocks    : Nat
  wls       : Nat
  /-- LUNs that answered on each channel, and the channels with another number. -/
  luns      : Nat
  fewer     : List (Nat × Nat)
  /-- Dies that answered and may not be used: no valid parameter page, another description, a requirement of R296. -/
  unfit     : List Nat
  /-- Dies that did not answer, and dies whose unique ID is not the roster's. -/
  gone      : List Nat
  swapped   : List Nat
  /-- Factory bad-block marks, by die × 4,096 + block. -/
  badBlocks : List Nat
  /-- Channels on which training passed below the ceiling, with the highest code; 5 for none. -/
  rates     : List (Nat × Nat)
  /-- Tinked wordlines found: block, first wordline. -/
  tinked    : List (Nat × Nat)
  /-- Groups that could not be read from copy A, and from copy B. -/
  lostA     : List Nat
  lostB     : List Nat
  /-- Segments whose newer kept checkpoint (1), or both (2), could not be read. -/
  badCkpts  : List (Nat × Nat)
  /-- Dumped slots that could not be read, by their place in the directory. -/
  badDump   : List Nat
  /-- A copy of the seed table matched its digest. -/
  seeds     : Bool
  deriving DecidableEq, Repr

/-- The rows of the opcode table. -/
inductive Instr where
  /-- VDD_AON_APPLIED (R49). VDD_AON rises: the monotonic count and device time start from 0 and only the AON domain runs while PFAIL_N is low. -/
  | vddAonApplied
  /-- GAUGE_WINDOW_END (R37). The 10 µs gauge-ring measurement window ends and the region's pace is computed from the cycle count. -/
  | gaugeWindowEnd (region cycles : Nat)
  /-- GAUGE_PERIOD_END (R44). At the end of each gauge period the governor raises, lowers or holds its voltage request and PACE_LOW, PACE_STAT and READ_VOUT/READ_IOUT are updated. -/
  | gaugePeriodEnd (vout iout : Nat)
  /-- PMBUS_TRANSACTION_DONE (R46). A PMBus transaction to the core regulator ends; three failed acknowledges or PECs in a row set NOACK and hold the request. -/
  | pmbusTransactionDone (ok : Bool) (code data : Nat)
  /-- VOUT_DEVIATION_TIMEOUT (R46). READ_VOUT has differed from the request by more than 25 mV for 1 ms, setting PACE_VSTAT.VRFAULT and recording an event. -/
  | voutDeviationTimeout
  /-- VR_ALERT (R46). VR_ALERT_N asserts; the device reads STATUS_WORD, records it and sends CLEAR_FAULTS. -/
  | vrAlert (status : Nat)
  /-- VDD_CORE_LOW (R46). VDD_CORE stays below 0.60 V for 5 µs and is treated as loss of power, starting the power-fail sequence. -/
  | vddCoreLow
  /-- RAIL_LOW (R488). VDD_SK, VCCQ_F, VDD_HBM or VDDQ_HBM stays below 95 % of its minimum for 5 µs with PFAIL_N high and is treated as PFAIL_N asserted. -/
  | railLow (rail : Nat)
  /-- REFT_LOST (R51). No REFT edge for 100 ns: the timekeeper switches to the backup oscillator, sets REFTLOST and REFTSEEN and records an event. -/
  | reftLost
  /-- REFT_REGAINED (R51). A REFT edge returns and the timekeeper goes back to REFT without a step in either count. -/
  | reftRegained
  /-- DEVICE_TIME_SLEW_DONE (R50). A backward setting of 1 ms or less has been absorbed and device time returns to its normal rate. -/
  | deviceTimeSlewDone
  /-- TIME_OFFSET_APPLY (R396). Every 1 s the mean strand offset of the last 8 kept exchanges is applied to device time and TK_ADJ.TRIM is set from their slope. -/
  | timeOffsetApply
  /-- LATCHED_PAIR_LO_READ (R513). A read of a LO register of a 64-bit pair latches the whole value for the requester, so the next HI read returns its upper part. -/
  | latchedPairLoRead (requester pair : Nat)
  /-- PACE_MINCLR (R58). Writing PACE_CTL.MINCLR sets every PACE_GAUGE[r].MIN to that region's current pace. -/
  | paceMinclr (pf : Nat)
  /-- REGISTER_WRITE (R514). A write to BAR2 fields without a row of their own is checked against the session role, then stores RW values with clipping, clears W1C bits and appends the settings record for K-class fields. -/
  | registerWrite (pf off : Nat) (val : Word) (be : Nat)
  /-- PERST_ASSERT (R83). A PERSTp_N asserts: a port fundamental reset of that port, or a cold reset if both are asserted at once. -/
  | perstAssert (port : Nat)
  /-- COLD_RESET (R83). The whole device resets, wiping on-die SRAM except AON SRAM and zeroing HBM before the map is loaded. -/
  | coldReset
  /-- PERST_DEASSERT (R84). PERSTp_N deasserts and the port runs its fundamental-reset sequence of link training, configuration retry and readiness. -/
  | perstDeassert (port width rate : Nat) (reversed : Bool)
  /-- COLD_START (R495). The first PERST deassertion ending a cold reset starts the boot ROM, calibration check, boot loader, HBM training and zeroing and then recovery. -/
  | coldStart (f : StartFacts)
  /-- HOT_RESET_RECEIVED (R83). A hot reset arrives on port p and resets that port, its PF and its VFs, with training restarted at once. -/
  | hotResetReceived (port : Nat)
  /-- DL_DOWN (R83). The data link of port p goes down and the port is reset as for a hot reset. -/
  | dlDown (port : Nat)
  /-- LINK_TRAINING_FAIL (R67). A port can form no width, records an event, leaves UP at 0 and keeps retrying detection. -/
  | linkTrainingFail (port : Nat)
  /-- LINK_LAYER_ERROR (R91). A receiver, DLLP, replay, flow-control or framing error is reported through AER and handled by retry or retraining. -/
  | linkLayerError (port : Nat) (error : LinkError) (lane : Nat)
  /-- L1_IDLE_TIMER (R370). After 10 µs with no TLP to send or receive the port requests ASPM L1. -/
  | l1IdleTimer (port : Nat)
  /-- MEMORY_REQUEST_RECEIVED (R76). An incoming memory TLP is decoded against the BARs and enables in force and carried out, or answered Unsupported Request. -/
  | memoryRequestReceived (port tag : Nat) (write : Bool) (dws : List DwReq) (poisoned : Bool)
  /-- CONFIG_READ (R87). A configuration read is answered, or given Configuration Request Retry Status while the function is in reset or not yet ready. -/
  | configRead (fn tag reg : Nat)
  /-- CONFIG_WRITE (R76). A configuration write without a row of its own, such as a BAR rewrite, takes effect for TLPs received after its completion. -/
  | configWrite (fn tag reg : Nat) (val : Word)
  /-- BUS_MASTER_ENABLE_CLEAR (R77). BME is cleared: no new request is sent for the function after 2 µs and stitches that need DMA wait. -/
  | busMasterEnableClear (fn : Nat)
  /-- BUS_MASTER_ENABLE_SET (R77). BME is set and waiting stitches resume in their original order. -/
  | busMasterEnableSet (fn : Nat)
  /-- VF_ENABLE_CLEAR (R77). VF Enable is cleared and every VF of the PF is torn down as if by FLR. -/
  | vfEnableClear (pf : Nat)
  /-- VF_ENABLE_SET (R87). VF Enable is set; during a teardown the VFs answer retry status until it ends and then appear freshly reset. -/
  | vfEnableSet (pf : Nat)
  /-- PF_FLR (R83). Initiate FLR on a PF resets its queue contexts, staged data, CMB share and session and tears down its VFs. -/
  | pfFlr (pf : Nat)
  /-- VF_FLR (R83). Initiate FLR on a VF resets its queue contexts and staged data. -/
  | vfFlr (vf : Nat)
  /-- FLR_COMPLETE (R86). An FLR ends within t_FLR and the function stops answering retry status. -/
  | flrComplete (fn : Nat)
  /-- TRANSLATION_COMPLETION (R79). An ATS translation completion arrives and fills the cache or, lacking the access, becomes a translation fault. -/
  | translationCompletion (port tag stitch : Nat) (pages : List TransPage)
  /-- PRG_RESPONSE (R81). A PRG Response Message arrives and the parked stitch resumes or is abandoned by its outcome. -/
  | prgResponse (prg : Nat) (outcome : PrgOutcome)
  /-- PAGE_REQUEST_TIMEOUT (R81). The page-request timer expires and the group is handled as Invalid Request, setting PRIFAILSEEN. -/
  | pageRequestTimeout (prg : Nat)
  /-- INVALIDATE_REQUEST (R82). An Invalidate Request removes the function's cache entries in the range and stitches using them re-translate. -/
  | invalidateRequest (fn itag page pages : Nat)
  /-- INVALIDATE_COMPLETION_SEND (R82). Once every TLP issued under the old translation has been sent, the Invalidate Completion is sent. -/
  | invalidateCompletionSend (fn itag : Nat)
  /-- ATC_FLUSH (R95). Writing HIF_ATC_CTL.FLUSH invalidates every translation cache entry. -/
  | atcFlush (pf : Nat)
  /-- COMPLETION_RECEIVED (R89). A PCIe completion arrives and is used for its request, or dropped as an Unexpected Completion if its tag is quarantined or it does not match. -/
  | completionReceived (port tag : Nat) (fits poisoned : Bool) (header : List Nat) (requester : Nat)
  /-- COMPLETION_TIMEOUT (R89). A non-posted request's completion timeout wins, AER records it and its command or fetch is handled by request kind. -/
  | completionTimeout (port tag : Nat)
  /-- TAG_QUARANTINE_END (R90). A timed-out tag's quarantine of twice the timeout ends and the tag returns to the pool. -/
  | tagQuarantineEnd (port tag : Nat)
  /-- GET_VERSION (R92). An SPDM GET_VERSION over DOE is answered by the security cores. -/
  | getVersion (pf : Nat)
  /-- GET_CAPABILITIES (R92). An SPDM GET_CAPABILITIES is answered, with CTExponent 15. -/
  | getCapabilities (pf : Nat)
  /-- NEGOTIATE_ALGORITHMS (R92). An SPDM NEGOTIATE_ALGORITHMS is answered with ECDSA P-384 and SHA-384 only. -/
  | negotiateAlgorithms (pf asym hash : Nat)
  /-- GET_DIGESTS (R92). An SPDM GET_DIGESTS returns the digest of certificate slot 0. -/
  | getDigests (pf : Nat)
  /-- GET_CERTIFICATE (R92). An SPDM GET_CERTIFICATE returns the device identity chain of slot 0. -/
  | getCertificate (pf slot offset length : Nat)
  /-- CHALLENGE (R92). An SPDM CHALLENGE is answered with a signed response within 32.8 ms. -/
  | challenge (pf slot nonce : Nat)
  /-- GET_MEASUREMENTS (R93). An SPDM GET_MEASUREMENTS returns measurement blocks 1 to 8. -/
  | getMeasurements (pf index nonce : Nat) (signed : Bool)
  /-- SPDM_UNSUPPORTED_REQUEST (R92). Any other SPDM request is answered ERROR with UnsupportedRequest. -/
  | spdmUnsupportedRequest (pf code : Nat)
  /-- HIF_CNTCLR (R95). Writing HIF_CTL.CNTCLR clears the HIF port counters, HIF_UXCPL_CNT and HIF_PRI_STAT.LATE. -/
  | hifCntclr (pf : Nat)
  /-- SQ_TAIL_DOORBELL_WRITE (R100). A submission-queue tail doorbell write is checked and either advances the tail for fetch or is ignored and logged as invalid. -/
  | sqTailDoorbellWrite (fn qid val : Nat)
  /-- CQ_HEAD_DOORBELL_WRITE (R118). A completion-queue head doorbell write is checked and frees entries, after which held completions are posted oldest first. -/
  | cqHeadDoorbellWrite (fn qid val : Nat)
  /-- FETCH_GRANT (R103). The queue engine grants a fetch to an admin queue or, by weighted round robin, to an I/O queue of a function with a free slot and issues the fetch reads. -/
  | fetchGrant
  /-- SUBMISSION_FETCH_COMPLETE (R101). Submission entries return from a fetch read and are accepted in queue order. -/
  | submissionFetchComplete (port tag : Nat) (entries : List Sqe)
  /-- INTERLOCK_ADMIT (R114). As interlock entries free, waiting commands take their entries in fetch-number order. -/
  | interlockAdmit
  /-- STITCH_CUT (R107). As stitch entries free, the next stitches are cut in fetch-number order. -/
  | stitchCut
  /-- RESOURCE_GRANT (R108). A freed resource goes to the waiting stitch of lowest level and then lowest fetch number. -/
  | resourceGrant (res : Nat)
  /-- STITCH_RESUME (R112). A parked stitch resumes from its slot at its own level and fetch number when its reason clears. -/
  | stitchResume (stitch : Nat)
  /-- STITCH_AGING_EXPIRY (R110). A ready host stitch has waited AGEMS without a resource and rises one level, up to level 2. -/
  | stitchAgingExpiry (stitch : Nat)
  /-- LEVEL6_STARVATION (R505). Level-6 internal work that has waited 1 s takes level 5 for one grant. -/
  | level6Starvation (res : Nat)
  /-- COMPLETION_POST (R117). After a command's last stitch its completion entry is posted, or held while its queue is full. -/
  | completionPost (cmd : Nat)
  /-- INTERRUPT_AGGREGATION_TIMEOUT (R119). The coalescing aggregation time expires and the vector is raised. -/
  | interruptAggregationTimeout (fn cq : Nat)
  /-- MSIX_VECTOR_UNMASK (R119). A vector with pending state is unmasked and its message is sent. -/
  | msixVectorUnmask (fn vec : Nat)
  /-- CONTROLLER_RESET (R121). CC.EN goes from 1 to 0: fetch stops and every command of the function ends without completion by its state. -/
  | controllerReset (fn : Nat)
  /-- CONTROLLER_ENABLE (R84). CC.EN is set to 1 and the controller becomes ready, after any shutdown or reset in progress finishes. -/
  | controllerEnable (fn ams asqSize acqSize : Nat)
  /-- SHUTDOWN_NORMAL (R122). CC.SHN = 01b stops fetch, completes accepted commands and waits for the lifeline commit before SHST reads 10b. -/
  | shutdownNormal (fn : Nat)
  /-- SHUTDOWN_ABRUPT (R122). CC.SHN = 10b stops fetch, ends accepted commands as for controller reset and waits for the commit before SHST reads 10b. -/
  | shutdownAbrupt (fn : Nat)
  /-- SHUTDOWN_COMPLETE (R122). A function's shutdown work and the awaited commit are done and CSTS.SHST reads 10b. -/
  | shutdownComplete (fn : Nat)
  /-- CLEAN_STOP (R271). When every enabled function has shut down normally, the device programs the buffer, checkpoints changed segments, writes a CLEAN marker and anchor and sets ALLSHN. -/
  | cleanStop (len : Nat)
  /-- QEN_CNTCLR (R127). Writing QEN_CTL.CNTCLR clears every QEN_CNT[n]. -/
  | qenCntclr (pf : Nat)
  /-- QEN_HISTCLR (R127). Writing QEN_CTL.HISTCLR clears every QEN_HIST[b]. -/
  | qenHistclr (pf : Nat)
  /-- UNSUPPORTED_COMMAND (R128). An absent opcode completes with 01h, a PF-only command on a VF with 01h. -/
  | unsupportedCommand (cmd : Nat)
  /-- CREATE_IO_SQ (R99). Create I/O Submission Queue creates a queue within the function's grant with its QPRIO class. -/
  | createIoSq (cmd qid size cq prio : Nat) (contiguous inCmb : Bool)
  /-- CREATE_IO_CQ (R99). Create I/O Completion Queue creates a queue with its MSI-X vector; placing it in the CMB is refused. -/
  | createIoCq (cmd qid size vec : Nat) (intEn contiguous inCmb : Bool)
  /-- DELETE_IO_SQ (R124). Delete I/O Submission Queue waits for every accepted command of the queue to complete and then deletes it. -/
  | deleteIoSq (cmd qid : Nat)
  /-- DELETE_IO_CQ (R99). Delete I/O Completion Queue deletes the queue and returns it to the function's allotment. -/
  | deleteIoCq (cmd qid : Nat)
  /-- GET_LOG_PAGE (R147). Get Log Page returns a standard or vendor log page. -/
  | getLogPage (cmd page numd offset sel : Nat) (rae : Bool)
  /-- IDENTIFY (R134). Identify returns controller, namespace or list data for a supported CNS. -/
  | identify (cmd cns cntid : Nat)
  /-- ABORT (R124). Abort completes successfully with not aborted and the target command continues. -/
  | abort (cmd sqid cid : Nat)
  /-- SET_FEATURES (R145). Set Features changes a standard or vendor feature, checking role and range and saving it where requested or persistent. -/
  | setFeatures (cmd fid : Nat) (save : Bool) (cdw11 cdw12 cdw13 : Nat) (data : List Nat)
  /-- SET_FEATURES_TIMESTAMP (R50). Set Features Timestamp sets device time from the host, by step or slew, or is ignored and recorded. -/
  | setFeaturesTimestamp (cmd timeMs : Nat)
  /-- GET_FEATURES (R145). Get Features returns the current, default, saved value or capabilities of a feature. -/
  | getFeatures (cmd fid select cdw11 : Nat)
  /-- ASYNC_EVENT_REQUEST (R149). An Asynchronous Event Request is held until an enabled event is posted to it. -/
  | asyncEventRequest (cmd : Nat)
  /-- NAMESPACE_CREATE (R157). Namespace Management create takes granules, draws a seed and commits the key set before completing. -/
  | namespaceCreate (cmd nsze ncap lbaf pi : Nat) (piFirst : Bool) (handles : List Nat)
  /-- NAMESPACE_DELETE (R157). Namespace Management delete sets the granules unwritten, crypto-erases the seed and returns the granules once the group is committed. -/
  | namespaceDelete (cmd : Nat)
  /-- NAMESPACE_ATTACHMENT (R138). Namespace Attachment attaches or detaches a namespace to controllers of either port. -/
  | namespaceAttachment (cmd : Nat) (attach : Bool) (controllers : List Nat)
  /-- DIRECTIVE_SEND (R131). Directive Send for the Identify or Data Placement directive. -/
  | directiveSend (cmd dtype doper dspec cdw12 : Nat)
  /-- DIRECTIVE_RECEIVE (R131). Directive Receive for the Identify or Data Placement directive. -/
  | directiveReceive (cmd dtype doper dspec : Nat)
  /-- FORMAT_NVM (R141). Format NVM sets the namespace's extents unwritten, with a crypto erase for SES 010b, and completes after the commit. -/
  | formatNvm (cmd ses lbaf pi : Nat) (piFirst : Bool)
  /-- FORMAT_PROGRESS_RECORD (R142). At least every 10 s the Format progress is recorded in log page C1h and the configuration store. -/
  | formatProgressRecord (progress : Nat)
  /-- SANITIZE (R143). Sanitize starts a crypto erase, block erase or overwrite and completes when the operation starts. -/
  | sanitize (cmd action passes pattern : Nat) (invert noDealloc : Bool)
  /-- SANITIZE_PROGRESS_RECORD (R143). At least every 10 s the sanitize progress is recorded in the configuration store. -/
  | sanitizeProgressRecord (progress : Nat)
  /-- SANITIZE_OPERATION_END (R143). The sanitize operation finishes or fails and the Sanitize Status log reports the outcome. -/
  | sanitizeOperationEnd (ok : Bool)
  /-- FIRMWARE_IMAGE_DOWNLOAD (R412). Firmware Image Download stages a 4 KiB-aligned block of the package, offset 0 opening a new download. -/
  | firmwareImageDownload (cmd offset length : Nat) (data : List Nat)
  /-- FIRMWARE_COMMIT (R413). Firmware Commit verifies the image and writes a slot, makes it pending or activates it at once by CA. -/
  | firmwareCommit (cmd ca fs ms failed : Nat)
  /-- ACTIVATION_DRAIN_TIMEOUT (R416). Accepted commands have not completed 800 ms after step 1, so activation is abandoned before any part switches. -/
  | activationDrainTimeout
  /-- SCHEDULED_ACTIVATION_DUE (R420). Device time reaches the armed time and live activation of the pending image starts, or is skipped during Format, Sanitize or recovery. -/
  | scheduledActivationDue (ms failed : Nat)
  /-- REGISTER_ACCESS (R151). Vendor command C0h reads or, with a mask, writes a BAR2 register as one indivisible read-modify-write. -/
  | registerAccess (cmd : Nat) (write : Bool) (off : Nat) (val mask : Word) (reserved : Nat)
  /-- ROLE_CHALLENGE (R152). Vendor command C1h returns a 128-byte challenge block, superseding the PF's previous one. -/
  | roleChallenge (cmd role reserved : Nat)
  /-- ROLE_ASSUME (R152). Vendor command C2h checks the signed challenge and opens a role session or completes with Access Denied. -/
  | roleAssume (cmd role number sigR sigS : Nat)
  /-- ROLE_RELEASE (R450). Vendor command C3h ends the PF's session. -/
  | roleRelease (cmd reserved : Nat)
  /-- EVENT_WINDOW_READ (R476). Vendor command C4h returns round records from the PF's cursor or cast-on records from an index. -/
  | eventWindowRead (cmd area count first : Nat)
  /-- EVENT_ROUND_CLEAR (R478). Vendor command C5h clears every round record, erasing the round sectors before completing. -/
  | eventRoundClear (cmd arg : Nat)
  /-- LIFE_CYCLE_TRANSITION (R458). Vendor command C6h checks and carries out a life-cycle transition through crypto erase, clean stop, key-set write and self cold reset. -/
  | lifeCycleTransition (cmd target reserved : Nat)
  /-- STRAND_CONFIGURE (R392). Vendor command C8h stores port, manager, role or leave settings selected by CDW10. -/
  | strandConfigure (cmd sel : Nat) (valid : Bool) (vals : List Nat)
  /-- STRAND_JOIN (R393). Vendor command C9h checks and stores a join ticket and sends JOIN to the section manager. -/
  | strandJoin (cmd : Nat) (t : JoinTicket)
  /-- PATROL_CONFIGURE (R376). Vendor command CAh sets the patrol period, flags and canary thresholds. -/
  | patrolConfigure (cmd period flags absW rise reserved : Nat)
  /-- SUPERVISOR_TEST_RUN (R153). Vendor command CBh action 00b runs the standby self-test at once and returns its result. -/
  | supervisorTestRun (cmd reserved code : Nat)
  /-- SUPERVISOR_TEST_YIELD (R153). Vendor command CBh action 01b makes the active supervisor yield within 1 ms. -/
  | supervisorTestYield (cmd reserved : Nat)
  /-- CALIBRATION_ROW_READ (R151). Vendor command CCh returns dwords of the factory calibration row. -/
  | calibrationRowRead (cmd numd offset : Nat)
  /-- FLUSH (R120). Flush completes after the open group, or every closed group, has committed. -/
  | flush (cmd : Nat)
  /-- READ (R19). A Read is cut into stitches, resolved through the interlock and map, read and decoded, and delivered to host memory. -/
  | read (cmd : Nat)
  /-- WRITE (R20). A Write's data is buffered with check values and placed in courses, with completion by the protected or exposed rule. -/
  | write (cmd : Nat) (data : List HostSlot) (cmp : CmpOutcome)
  /-- WRITE_UNCORRECTABLE (R176). Write Uncorrectable sets fine kind 01b on each covered slot. -/
  | writeUncorrectable (cmd : Nat)
  /-- COMPARE (R132). Compare reads the LBAs and completes with 85h on a mismatch. -/
  | compare (cmd : Nat) (data : List HostSlot)
  /-- WRITE_ZEROES (R132). Write Zeroes writes zeros through the write path. -/
  | writeZeroes (cmd : Nat)
  /-- DATASET_MANAGEMENT (R174). Dataset Management deallocates ranges by extent, ignoring partial deallocations where R174 says. -/
  | datasetManagement (cmd : Nat) (ad : Bool)
  /-- VERIFY (R132). Verify reads and checks the LBAs without transferring data. -/
  | verify (cmd : Nat)
  /-- IO_MANAGEMENT_RECEIVE (R132). I/O Management Receive returns Reclaim Unit Handle Status. -/
  | ioManagementReceive (cmd mo : Nat)
  /-- RECLAIM_UNIT_HANDLE_UPDATE (R197). I/O Management Send pads and closes the handle's open courses and reports Reclaim Unit Not Written to Capacity. -/
  | reclaimUnitHandleUpdate (cmd : Nat) (handles : List Nat)
  /-- COPY (R133). Copy reads its source ranges and writes the destination under read- and write-kind interlock entries. -/
  | copy (cmd : Nat)
  /-- STRAND_COPY_PUSH (R154). Strand Copy Push sends LBAs to a peer's receive window and completes when every slot is acknowledged. -/
  | strandCopyPush (cmd path win target off : Nat)
  /-- MAP_UNIT_APPLY (R204). When an atomic unit's slots are program-safe and its command fully buffered, its map updates apply in one lane operation and its batch goes to the lifeline. -/
  | mapUnitApply (cmd nsid unit : Nat)
  /-- SEAM_START (R168). The reclaim engine starts seaming an extent by reading its 16 slots. -/
  | seamStart (e : Nat) (bad : List Nat)
  /-- SEAM_COMMIT (R168). A seam's run is program-safe and the map engine applies it conditionally with its SEAM_COMMIT record. -/
  | seamCommit (copy : Nat)
  /-- RMW_WRITEBACK (R173). A read-modify-write image is program-safe and is applied conditionally, restarting if the entry changed. -/
  | rmwWriteback (job : Nat) (bad : List Nat)
  /-- MAP_SEGMENT_STALL (R179). An uncorrectable HBM or map-format error stalls its segment, holding lookups and updates while the supervisor reloads it. -/
  | mapSegmentStall (cause e : Nat)
  /-- SEGMENT_RECOVERY_COMPLETE (R179). The segment's checkpoint and journal have been replayed; the stall clears, or the segment is lost. -/
  | segmentRecoveryComplete (ok : Bool) (replayed : Nat)
  /-- OWNER_TABLE_ERROR (R179). An uncorrectable error in the owner table is repaired from a scan of the coarse map with seaming suspended. -/
  | ownerTableError (e : Nat) (done : Bool)
  /-- AGE_EPOCH_TICK (R162). Each 10 s of monotonic count advances MAP_EPOCH. -/
  | ageEpochTick
  /-- MAP_CNTCLR (R181). Writing MAP_CTL.CNTCLR clears every MAP_CNT[n]. -/
  | mapCntclr (pf : Nat)
  /-- MAP_HISTCLR (R181). Writing MAP_CTL.HISTCLR clears every MAP_SEAMPG[k]. -/
  | mapHistclr (pf : Nat)
  /-- HOLD_OK_DEASSERT (R185). HOLD_OK deasserts and the device enters exposed mode within 10 µs. -/
  | holdOkDeassert
  /-- HOLD_OK_ASSERT (R185). HOLD_OK asserts and, with the other conditions, starts the 1 s count to protected mode. -/
  | holdOkAssert
  /-- PROTECTED_MODE_TIMER (R185). All four conditions have held for 1 s and the device returns to protected mode, completing waiting buffered writes. -/
  | protectedModeTimer
  /-- WRITE_BUFFER_UE (R187). An uncorrectable error in a buffered slot fails the write or marks the LBA write-uncorrectable. -/
  | writeBufferUe (cmd lba : Nat)
  /-- ROW_PROGRAM_ISSUE (R196). A member's wordline, or a row's parity, is issued for programming once its slots are placed. -/
  | rowProgramIssue (course pos : Nat)
  /-- PROGRAM_COMPLETE (R203). A wordline program ends with pass status, advancing program-safe points and closing the course after its last row. -/
  | programComplete (course pos : Nat)
  /-- PROGRAM_FAIL (R205). A data member reports program failure; it is dropped, parity adjusted, its unsafe slots placed again and the block later retired. -/
  | programFail (course pos : Nat)
  /-- PARITY_PROGRAM_FAIL (R206). A parity member reports program failure and the course closes early with its unsafe slots placed again. -/
  | parityProgramFail (course pos : Nat)
  /-- ROW_IDLE_TIMEOUT (R196). No slot has been placed in a partial row for IDLEMS and the row is padded and programmed. -/
  | rowIdleTimeout (course : Nat)
  /-- EXPOSED_ROW_TIMEOUT (R196). In exposed mode a row's oldest slot has waited 200 µs and the row is padded. -/
  | exposedRowTimeout (course : Nat)
  /-- ERASE_ISSUE (R21). An erase-pending block's group is committed and its pins reach zero, so its erase is issued. -/
  | eraseIssue (die block : Nat)
  /-- ERASE_COMPLETE (R193). An erase ends; a fail is erased once more or retired, a pass leads to the open check. -/
  | eraseComplete (die : Nat) (pass : Bool)
  /-- OPEN_CHECK (R193). The open check reads of wordline 0 and the last wordline end, and the block joins the pool or is erased again or retired. -/
  | openCheck (die block : Nat) (pass : Bool)
  /-- DESTAGE_MOVE (R202). The reclaim engine copies staged SLC slots into the host-data band, committing each move conditionally. -/
  | destageMove (course : Nat) (bad : List Nat)
  /-- PARITY_ACCUMULATOR_UE (R200). An uncorrectable HBM error in a parity accumulator is recomputed from the row's buffered data slots. -/
  | parityAccumulatorUe (course : Nat)
  /-- CRS_CNTCLR (R209). Writing CRS_CTL.CNTCLR clears every CRS_CNT[n]. -/
  | crsCntclr (pf : Nat)
  /-- CRS_PFLOGCLR (R209). Writing CRS_CTL.PFLOGCLR clears every CRS_PFLOG[j]. -/
  | crsPflogclr (pf : Nat)
  /-- PAGE_READ_ISSUE (R224). The channel sequencer queues an L0 read for a die and starts its tail-cut deadline, suspending a program or erase where allowed. -/
  | pageReadIssue (read : Nat)
  /-- CODEWORD_ARRIVAL (R225). A codeword reaches a decoder, cancelling its deadline, or is discarded as late if the deadline won. -/
  | codewordArrival (read : Nat) (erased : Bool)
  /-- DECODE_COMPLETE (R218). An LDPC decode ends; a success passes the checks of R231, a failure climbs the next ladder step. -/
  | decodeComplete (read : Nat) (ok : Bool) (synd level check pi : Nat)
  /-- RECONSTRUCTION_COMPLETE (R221). A slot rebuilt from its row's surviving members and parity is checked, or the reconstruction fails under R223. -/
  | reconstructionComplete (read lost check pi : Nat)
  /-- TAIL_CUT_DEADLINE (R225). The tail-cut deadline wins against a codeword; reconstruction begins and the miss counts against the die. -/
  | tailCutDeadline (read : Nat)
  /-- TLER_LIMIT (R219). The Error Recovery time limit wins and the codeword ends at L6 with cause 010b. -/
  | tlerLimit (read : Nat)
  /-- SLOW_PROBE_TIMER (R229). Every PROBEMS a probe page of each slow die is read to measure tR. -/
  | slowProbeTimer (die tr total : Nat)
  /-- SLOW_DIE_HOLD_EXPIRY (R229). HOLDS seconds have passed since a slow die's classification or last miss and it is released. -/
  | slowDieHoldExpiry (die : Nat)
  /-- ECC_CNTCLR (R236). Writing ECC_CTL.CNTCLR clears every ECC_CNT[n]. -/
  | eccCntclr (pf : Nat)
  /-- ECC_SLOWLOGCLR (R236). Writing ECC_CTL.SLOWLOGCLR clears every ECC_SLOWLOG[j]. -/
  | eccSlowlogclr (pf : Nat)
  /-- ECC_RELEASE (R236). Writing ECC_CTL.RELEASE releases every slow die at once. -/
  | eccRelease (pf : Nat)
  /-- VICTIM_SELECT (R239). While F is below the effective target, the control cores rank closed courses and queue victims for the reclaim engine. -/
  | victimSelect
  /-- RECLAIM_COPY (R240). The reclaim engine reads a victim, tests each slot's validity and re-encodes valid slots into the reclaim band. -/
  | reclaimCopy (course : Nat) (bad : List Nat)
  /-- MOVE_COMMIT (R241). Copies are program-safe and MOVE_COMMIT is applied conditionally, emptying the victim towards erase-pending. -/
  | moveCommit (copy : Nat)
  /-- COURSE_AGE_REFRESH (R246). A course reaches AGEDAYS since closing and is queued for refresh at level 6. -/
  | courseAgeRefresh (course : Nat)
  /-- READ_ONLY_STALL (R253). F has stayed at 4 or below for STALLS with no worthwhile victim, so read-only mode is entered and parked writes complete with 20h. -/
  | readOnlyStall
  /-- RCL_CNTCLR (R255). Writing RCL_CTL.CNTCLR clears every RCL_CNT[n]. -/
  | rclCntclr (pf : Nat)
  /-- RCL_TTCLR (R255). Writing RCL_CTL.TTCLR clears every RCL_TENSTIME[k]. -/
  | rclTtclr (pf : Nat)
  /-- GROUP_TIMER_EXPIRY (R261). 500 µs after a group's first record the group closes with a STITCH_MARKER and is compressed and written to both copies. -/
  | groupTimerExpiry
  /-- GROUP_COMMIT (R263). A group's rows are program-safe on both copies and every earlier group is committed, so the group commits and its waiters proceed. -/
  | groupCommit (rowsA rowsB : Nat)
  /-- JOURNAL_COPY_FAIL (R264). A journal row fails to program on one copy; that copy's course closes and its groups are rewritten on a new course. -/
  | journalCopyFail (copy pos : Nat)
  /-- ANCHOR_TIMER (R266). 60 s after the last anchor, or with 8 released courses waiting, an anchor is written. -/
  | anchorTimer
  /-- CHECKPOINT_INTERVAL (R268). Every INTERVAL the next segment or part in the round is copied, compressed and written, or marked unchanged. -/
  | checkpointInterval (len : Nat)
  /-- CHECKPOINT_MARK (R268). A checkpoint's pages are program-safe and its CHECKPOINT_MARK is recorded, superseding older checkpoints and releasing journal courses. -/
  | checkpointMark (num : Nat)
  /-- PFAIL_ASSERT (R277). PFAIL_N is low for 1 µs and the power-fail dump runs: fetch stops, dies reset, the FINAL group closes and unapplied slots are dumped and sealed. -/
  | pfailAssert
  /-- DUMP_END (R278). At dump step 7 PHYs idle and, if power has returned, the device cold-resets itself. -/
  | dumpEnd (quiet written : Nat) (rows : List (Nat × Nat)) (back : Bool)
  /-- LIF_CNTCLR (R286). Writing LIF_CTL.CNTCLR clears every LIF_CNT[n]. -/
  | lifCntclr (pf : Nat)
  /-- LIF_PFHISTCLR (R286). Writing LIF_CTL.PFHISTCLR clears every LIF_PFHIST[k]. -/
  | lifPfhistclr (pf : Nat)
  /-- STATUS_POLL (R293). A status poll with 78h falls due and the LUN reports ready or busy. -/
  | statusPoll (die : Nat) (ready : Bool)
  /-- FLASH_OP_TIMEOUT (R294). An operation is still busy after TOMULT tenths of its maximum; the LUN is reset and the operation ends by its kind. -/
  | flashOpTimeout (die kind obj rate : Nat)
  /-- LUN_RESET_TIMEOUT (R294). A LUN's FAh brings no ready status within 10 ms and the LUN is taken out of service. -/
  | lunResetTimeout (die : Nat)
  /-- ZQ_SHORT_TIMER (R300). Every ZQSMS a ZQ short calibration runs on each LUN. -/
  | zqShortTimer (skein : Nat)
  /-- TEMP_RETRAIN (R300). Skein Tj has moved by DT since the last training and DCC and DQ training run. -/
  | tempRetrain (skein tj : Nat) (failed : List (Nat × Nat))
  /-- SKEIN_LINK_STALL (R306). A skein link with work pending completes no handshake for 10 µs and is recovered. -/
  | skeinLinkStall (skein : Nat)
  /-- SKEIN_LINK_DOWN_LONG (R306). Three recoveries fail or the link stays down 1 s and the skein die is reset. -/
  | skeinLinkDownLong (skein : Nat)
  /-- SKEIN_FAILED (R306). The skein is still down 5 s after the loss; it is declared failed and its dies taken out of service. -/
  | skeinFailed (skein : Nat)
  /-- SKN_CNTCLR (R308). Writing SKN_CTL[s].CNTCLR clears the skein's counters and its channels' CHN_ERR. -/
  | sknCntclr (pf skein : Nat)
  /-- SKN_RETRAIN (R308). Writing SKN_CTL[s].RETRAIN retrains every channel of the skein in full. -/
  | sknRetrain (pf skein : Nat)
  /-- CHN_RETRAIN (R308). Writing CHN_CFG[c].RETRAIN retrains the channel in full. -/
  | chnRetrain (pf chan : Nat)
  /-- HBM_REFRESH (R320). A bank's per-bank refresh interval expires and a refresh is issued, or postponed up to 4 intervals. -/
  | hbmRefresh (pc bank : Nat) (waiting : Bool)
  /-- ROW_ACTIVATE_LIMIT (R316). A row reaches ROWMAX activates; its neighbours are refreshed and the leading port is throttled on the bank. -/
  | rowActivateLimit (pc bank row port : Nat)
  /-- THROTTLE_EXPIRY (R317). A port's activate throttle on a bank ends after THROTMS. -/
  | throttleExpiry (pc bank port : Nat)
  /-- HBM_MAXWAIT (R315). A request has waited MAXWAIT and goes ahead of every newer request of its pseudo-channel. -/
  | hbmMaxwait (port : Nat)
  /-- HBM_SCRUB_PERIOD (R323). A scrub pass starts, reading every burst and writing corrections back. -/
  | hbmScrubPeriod (corrected : List Nat)
  /-- HBM_UNCORRECTABLE (R324). An uncorrectable HBM error is recorded and handled by area, with post-package repair of the row. -/
  | hbmUncorrectable (addr port : Nat) (hit : HbmObject) (repaired : Bool)
  /-- HBM_ZERO_DONE (R326). Zeroing of all 192 GiB ends and ZERODONE lets HBM be read. -/
  | hbmZeroDone (ms : Nat)
  /-- HBM_CNTCLR (R328). Writing HBM_CTL.CNTCLR clears every HBM_CNT[n]. -/
  | hbmCntclr (pf : Nat)
  /-- HBM_SCRUBNOW (R328). Writing HBM_CTL.SCRUBNOW starts a scrub pass at once. -/
  | hbmScrubnow (pf : Nat)
  /-- CMP_BYPASS_TIMEOUT (R339). An extent has waited CMP_BYP.US for a compressor and is stored uncompressed. -/
  | cmpBypassTimeout (slot : Nat)
  /-- CMP_TEST_RUN (R343). Writing CMP_TEST.RUN compresses and decompresses a test pattern on every unit and reports the result. -/
  | cmpTestRun (pf : Nat) (failed : List (Nat × Nat))
  /-- CMP_CNTCLR (R345). Writing CMP_CTL.CNTCLR clears every CMP_CNT[n]. -/
  | cmpCntclr (pf : Nat)
  /-- SUPERVISOR_WATCHDOG (R347). No supervisor heartbeat for WDMS and the AON domain forces a yield with cause 000b. -/
  | supervisorWatchdog
  /-- TASK_LIMIT_EXPIRY (R347). A supervisor-owned task has been runnable without a step for TASKMS and the supervisor yields with cause 011b. -/
  | taskLimitExpiry
  /-- SUPERVISOR_SELF_CHECK_FAIL (R347). An SRAM ECC error, digest mismatch, HBM error or control-flow signature mismatch makes the supervisor yield. -/
  | supervisorSelfCheckFail (cause : Nat)
  /-- SWITCH_OVER (R353). After a yield the standby loads firmware, restores the snapshot and intent log, reconciles and takes control within t_SWITCH. -/
  | switchOver (ms : Nat) (badBank : Bool) (completed redone tested : Nat)
  /-- SNAPSHOT_TIMER (R350). Every 50 ms the supervisor writes a snapshot into the other AON SRAM bank. -/
  | snapshotTimer
  /-- STANDBY_SELF_TEST (R358). Every PERIOD in PS0 to PS2 the standby is woken for its self-test. -/
  | standbySelfTest (code : Nat) (failed : List (Nat × Nat))
  /-- STANDBY_TEST_RETRY (R358). 1 s after a failed self-test it is repeated; a second failure clears STBYOK. -/
  | standbyTestRetry (code : Nat)
  /-- SUP_CNTCLR (R360). Writing SUP_CTL.CNTCLR clears every SUP_CNT[n]. -/
  | supCntclr (pf : Nat)
  /-- SUP_LOGCLR (R360). Writing SUP_CTL.LOGCLR clears every SUP_SWLOG[k]. -/
  | supLogclr (pf : Nat)
  /-- APST_IDLE_TIMEOUT (R366). A controller has been idle for its APST idle time and moves to PS3 or PS4. -/
  | apstIdleTimeout (fn : Nat)
  /-- POWER_STATE_ENTRY (R367). Every enabled controller selects a non-operational state and entry runs P1 to P5. -/
  | powerStateEntry (base : List Nat)
  /-- DRAIN_LIMIT (R367). The P2 drain limit wins and entry is abandoned with cause 1000b. -/
  | drainLimit
  /-- WAKE (R369). A wake abandons entry before VOUT_COMMAND or exits PS3 or PS4 to the last operational state. -/
  | wake (cause dur : Nat) (ok : Bool)
  /-- PS2_SLOT_TIMER (R364). In PS2 the active half of the skeins changes every SLOTMS. -/
  | ps2SlotTimer
  /-- PATROL_WAKE (R373). In PS4 the patrol period expires; the sequencer samples sensors and HOLD_OK and reads one skein's canaries. -/
  | patrolWake (temps : List Nat) (holdOk : Bool) (canaries : List (Bool × Nat × Nat)) (us dur : Nat) (ok : Bool)
  /-- PS3_SENSOR_SAMPLE (R373). In PS3 each PERIOD the AON domain samples temperatures and HOLD_OK. -/
  | ps3SensorSample (temps : List Nat) (holdOk : Bool)
  /-- PWR_CNTCLR (R380). Writing PWR_CTL.CNTCLR clears every PWR_CNT[n]. -/
  | pwrCntclr (pf : Nat)
  /-- PWR_HISTCLR (R380). Writing PWR_CTL.HISTCLR clears PWR_TIME and PWR_ENTHIST. -/
  | pwrHistclr (pf : Nat)
  /-- PAT_CNTCLR (R383). Writing PAT_CTL.CNTCLR clears every PAT_CNT[n]. -/
  | patCntclr (pf : Nat)
  /-- HEARTBEAT (R394). A HEARTBEAT frame is received by a manager, answered with HB_REPLY and its digest kept. -/
  | heartbeat (h : FrameHdr) (digest : List Nat)
  /-- HB_REPLY (R396). An HB_REPLY frame is received and its stamps give a time-offset exchange. -/
  | hbReply (h : FrameHdr) (t1 t2 t3 t4 epoch : Nat)
  /-- ACK (R398). An ACK frame retires reliable frames and acknowledges copy slots. -/
  | ack (h : FrameHdr) (copy slots : Nat)
  /-- NAK (R401). A NAK frame fails the copy it names with C1h or C2h by cause. -/
  | nak (h : FrameHdr) (cause win copy seq : Nat)
  /-- HOLD (R398). A HOLD frame stops the retransmit count towards the peer for the time it names. -/
  | hold (h : FrameHdr) (ms : Nat)
  /-- COPY_OPEN (R390). A COPY_OPEN frame opens a copy at the receiver. -/
  | copyOpen (h : FrameHdr) (copy win off count : Nat)
  /-- DATA (R401). A DATA frame is validated against the live window and its slots become strand writes, or it is NAKed. -/
  | data (h : FrameHdr) (copy win off : Nat) (slots : List Nat) (wellFormed : Bool)
  /-- COPY_END (R402). A COPY_END frame ends a copy, incomplete strand writes being discarded whole. -/
  | copyEnd (h : FrameHdr) (copy sent reason : Nat)
  /-- ROLLUP (R395). A ROLLUP frame reaches the top manager, which keeps it and updates STR_SECT. -/
  | rollup (h : FrameHdr) (entries : List RollEntry)
  /-- REGISTRY (R406). A REGISTRY frame gives a deputy part of the fleet registry. -/
  | registry (h : FrameHdr) (seq : Nat) (entries : List RegEntry)
  /-- MANAGER (R406). A MANAGER frame names a new manager, which members follow by epoch. -/
  | manager (h : FrameHdr) (role epoch id : Nat)
  /-- JOIN (R393). A JOIN frame's ticket is checked by the manager, which answers JOIN_ACK or NAK 04h. -/
  | join (h : FrameHdr) (t : JoinTicket)
  /-- JOIN_ACK (R393). A JOIN_ACK frame makes the device a member and gives it a registry extract. -/
  | joinAck (h : FrameHdr) (entries : List RegEntry)
  /-- PATROL_NOTICE (R394). A PATROL frame marks the sender patrolling rather than missing. -/
  | patrolNotice (h : FrameHdr)
  /-- FW_PART (R421). An FW_PART frame delivers firmware package blocks for staging or forwarding. -/
  | fwPart (h : FrameHdr) (offset : Nat) (blocks : List Nat)
  /-- SCHEDULE (R421). A SCHEDULE frame makes a member verify and write the staged image and arm itself, answering its result. -/
  | schedule (h : FrameHdr) (answer : Bool) (time : Nat) (ok : Bool)
  /-- HEARTBEAT_TIMER (R394). Every 100 ms a member sends a HEARTBEAT to its manager. -/
  | heartbeatTimer
  /-- HEARTBEAT_MISS (R394). A member has missed MISS heartbeats in a row and is marked missing. -/
  | heartbeatMiss (peer : Nat)
  /-- ACK_DELAY_TIMER (R398). 20 µs after the last unacknowledged receipt an ACK is sent alone. -/
  | ackDelayTimer (peer : Nat)
  /-- RETRANSMIT_TIMEOUT (R398). A reliable frame is unacknowledged after 200 µs and is resent, the peer becoming unreachable after 8. -/
  | retransmitTimeout (peer seq : Nat)
  /-- HOLD_EXPIRY (R398). A peer's HOLD expires and the retransmit count resumes. -/
  | holdExpiry (peer : Nat)
  /-- STRAND_WRITE_TIMEOUT (R402). 1 s passes with no frame for a copy and its incomplete strand writes are discarded. -/
  | strandWriteTimeout (copy : Nat)
  /-- STRAND_WRITE_ACK (R403). A strand write is buffered, or program-safe and committed in exposed mode, and its slots are acknowledged. -/
  | strandWriteAck (copy fetch : Nat)
  /-- CREDIT_WAIT_TIMEOUT (R403). Credit from a peer has stayed at 0 for CREDS and the peer is treated as unreachable. -/
  | creditWaitTimeout (peer : Nat)
  /-- ROLLUP_TIMER (R395). Every 10 s a section manager sends ROLLUP to the top manager. -/
  | rollupTimer
  /-- SECTION_ROLLUP_STALE (R395). A section's roll-up is 20 s overdue and is marked stale. -/
  | sectionRollupStale (sect : Nat)
  /-- REGISTRY_TIMER (R406). Every 10 s a manager sends its registry to its deputies. -/
  | registryTimer
  /-- MANAGER_LOST (R406). No HB_REPLY for MGRMS and the member takes its manager as lost. -/
  | managerLost
  /-- REGISTRY_LOAD_TIMEOUT (R406). A new manager's deputies do not answer within 2 s and it starts with an empty registry. -/
  | registryLoadTimeout
  /-- TIME_EXCHANGE_TIMEOUT (R397). No time exchange has been kept for 10 s and the device reports itself out of section time. -/
  | timeExchangeTimeout
  /-- STRAND_PORT_LINK_CHANGE (R404). A strand port's link goes up or down; frames are resent on the other port. -/
  | strandPortLinkChange (port : Nat) (up : Bool)
  /-- STR_WSEL_WRITE (R408). Writing STR_WSEL selects a window and loads its staging copy from the live window. -/
  | strWselWrite (pf win : Nat)
  /-- STR_WCTL_COMMIT (R400). Writing STR_WCTL.COMMIT makes the staged window live in one step, or is refused with STR_WSTAT.ERR. -/
  | strWctlCommit (pf : Nat)
  /-- STR_CNTCLR (R408). Writing STR_CTL.CNTCLR clears every STR_CNT[n]. -/
  | strCntclr (pf : Nat)
  /-- FWU_CNTCLR (R423). Writing FWU_CTL.CNTCLR clears every FWU_CNT[n]. -/
  | fwuCntclr (pf : Nat)
  /-- FWU_DISCARD (R423). Writing FWU_CTL.DISCARD empties the firmware staging area. -/
  | fwuDiscard (pf : Nat)
  /-- CFS_PROGRAM_COMPLETE (R427). A configuration-store word program passes verify or fails after 16 pulses and the next request is taken. -/
  | cfsProgramComplete (erased : Bool) (pulses : Nat) (pass : Bool)
  /-- CFS_ERASE_COMPLETE (R428). A configuration-store sector erase ends and its blank check decides whether it is used or erased again. -/
  | cfsEraseComplete (pass blank : Bool)
  /-- CFS_SCRUB_PERIOD (R443). Every 24 h every store word is read and live records with 2-bit corrections rewritten. -/
  | cfsScrubPeriod (one two bad : List Nat)
  /-- CFS_SCRUB (R445). Writing CFS_CTL.SCRUB starts a store scrub pass at once. -/
  | cfsScrub (pf : Nat) (one two bad : List Nat)
  /-- CFS_CNTCLR (R445). Writing CFS_CTL.CNTCLR clears every CFS_CNT[n]. -/
  | cfsCntclr (pf : Nat)
  /-- CFS_DPSEL_WRITE (R440). Writing CFS_DPSEL loads the staging buffer from the named live record, discarding uncommitted data. -/
  | cfsDpselWrite (pf : Nat) (val : Word)
  /-- CFS_DPDATA_ACCESS (R440). A CFS_DPDATA access reads or writes the staged dword and advances OFFSET. -/
  | cfsDpdataAccess (pf : Nat) (write : Bool) (val : Word)
  /-- CFS_DPCTL_COMMIT (R440). Writing CFS_DPCTL.COMMIT appends the staged die description as a new record, or sets ERR. -/
  | cfsDpctlCommit (pf : Nat)
  /-- CFS_DPCTL_DISCARD (R445). Writing CFS_DPCTL.DISCARD discards the data-port staging buffer. -/
  | cfsDpctlDiscard (pf : Nat)
  /-- SESSION_IDLE_TIMEOUT (R450). A session has had no admin command or BAR2 write for 15 minutes and ends. -/
  | sessionIdleTimeout (pf : Nat)
  /-- SEC_KSEL_WRITE (R453). Writing SEC_KSEL loads the 96-byte key staging buffer with the selected key. -/
  | secKselWrite (pf : Nat) (val : Word)
  /-- SEC_KDATA_ACCESS (R453). A SEC_KDATA access reads or writes the staged dword and advances OFFSET. -/
  | secKdataAccess (pf : Nat) (write : Bool) (val : Word)
  /-- SEC_KCTL_COMMIT (R453). Writing SEC_KCTL.COMMIT writes the new key set and ends sessions of that role, or sets ERR. -/
  | secKctlCommit (pf : Nat)
  /-- SEC_KCTL_DISCARD (R465). Writing SEC_KCTL.DISCARD discards the key staging buffer. -/
  | secKctlDiscard (pf : Nat)
  /-- SEC_DBG_UNLOCK (R463). Writing SEC_DBG.UNLOCK in TEST with the maker role makes the DBG balls live until cold reset. -/
  | secDbgUnlock (pf : Nat)
  /-- SEC_CNTCLR (R465). Writing SEC_CTL.CNTCLR clears every SEC_CNT[n]. -/
  | secCntclr (pf : Nat)
  /-- SEC_DENYCLR (R465). Writing SEC_CTL.DENYCLR clears SEC_DENYLOG. -/
  | secDenyclr (pf : Nat)
  /-- EVENT_PERSIST_TIMER (R472). 1 s after the oldest staged record, the staged records are persisted to the configuration store. -/
  | eventPersistTimer
  /-- EVW_DATA0_READ (R474). A read of EVW_DATA[0] latches the record at the cursor or CASTIDX, jumping a behind cursor to the oldest record. -/
  | evwData0Read (pf : Nat)
  /-- EVW_DATA7_READ (R474). A read of EVW_DATA[7] returns the latched dword and advances the cursor or CASTIDX. -/
  | evwData7Read (pf : Nat)
  /-- EVW_CURSOR_WRITE (R475). Writing EVW_CURSOR sets the cursor, marking it behind if out of range. -/
  | evwCursorWrite (pf seq : Nat)
  /-- EVW_SEEKOLD (R481). Writing EVW_CTL.SEEKOLD moves the cursor to EVW_OLDEST. -/
  | evwSeekold (pf : Nat)
  /-- EVW_SEEKNEW (R481). Writing EVW_CTL.SEEKNEW moves the cursor to EVW_NEWEST + 1. -/
  | evwSeeknew (pf : Nat)
  /-- GEN_SCRCLR (R522). Writing GEN_CTL.SCRCLR clears GEN_SCRATCH[0] to GEN_SCRATCH[3]. -/
  | genScrclr (pf : Nat)
  /-- MI_STATUS_READ (R497). A basic management block read at code 00h returns the NVMe-MI status data, waking the device in PS3 or PS4. -/
  | miStatusRead (dur : Nat) (ok : Bool)
  /-- MI_VENDOR_ID_READ (R497). A basic management block read at code 08h returns the vendor ID and serial number. -/
  | miVendorIdRead (dur : Nat) (ok : Bool)
  /-- I3C_SETDASA (R497). SETDASA gives the device a dynamic I3C address, after which it answers only I3C SDR. -/
  | i3cSetdasa (addr : Nat)
  /-- I3C_RSTDAA (R497). RSTDAA removes the dynamic address and the device answers at its static address again. -/
  | i3cRstdaa
  /-- HEALTH_PUBLISH_TIMER (R497). Every 100 ms the host-admin cores publish the health copy served on the management port. -/
  | healthPublishTimer
  /-- DIE_TJ_PAST_105 (R40). A die's Tj rises above or falls back below 105 °C, raising or restoring the governor's PS0 floor between 0.78 V and 0.80 V. -/
  | dieTjPast105 (die : Nat) (above : Bool)
  /-- HBM_STACK_PAST_85 (R320). An HBM stack's temperature passes 85 °C or falls back, doubling or restoring the per-bank refresh rate and setting HBM_STACK[k].HOT and HBM_STAT.HOTSEEN. -/
  | hbmStackPast85 (stack temp : Nat)
  /-- TEMPERATURE_THRESHOLD_CROSS (R145). A temperature sensor crosses its feature 04h over-temperature threshold, WCTEMP or CCTEMP in an operational state, raising or clearing the SMART temperature warning and its asynchronous event. -/
  | temperatureThresholdCross (sensor temp : Nat)
  /-- SKEIN_LINK_RECOVERED (R306). Recovery of a stalled skein link completes within 1 ms, LINKUP returns to 1 and the operations queued for the skein resume. -/
  | skeinLinkRecovered (skein : Nat) (rates : List (Nat × Nat))
  /-- NEIGHBOUR_SOLICITATION (R386). In UDP-over-IPv6 mode an IPv6 neighbour discovery message arrives on a strand port and the device answers a solicitation for its own address or learns a peer's link address. -/
  | neighbourSolicitation (port target source mac : Nat) (advert : Bool)
  deriving DecidableEq, Repr

end Sys2Proof
end

