-- ==== Sys2Proof/Decode.lean ====
section
/-! DEFINITION. The command that a word spells. The opcode table gives no row any bits (every "fields" is empty), so no word spells a command:
commands reach the block as constructors of `Instr`, put in its queue. -/

namespace Sys2Proof

/-- The command that a word of `nbits` bits spells by the table's bits: none. -/
def decodeTableWord (_nbits _w : Nat) : Option Instr := none

end Sys2Proof
end

