-- ==== Sys2Proof/Config.lean ====
section
/-! DEFINITION. What a module fixes (keys, serial number, calibration) and the free values: constants with no body. -/

namespace Sys2Proof

/-- A part of a firmware image (R410): ID, version, security version, the interface version it provides and those it requires of parts
01h to 0Ch, and its SHA-384. -/
structure FwPart where
  id       : Nat
  major    : Nat
  minor    : Nat
  patch    : Nat
  svn      : Nat
  provides : Nat
  requires : List Nat
  digest   : Nat
  deriving DecidableEq, Repr

/-- A value the spec leaves open, by the number of values drawn before it (log entry 2). -/
opaque Config.freeNat : Nat → Nat

/-- The maker key written at Uskai test (R447), x then y. -/
opaque Config.makerKey : Nat

/-- ECDSA P-384 verification (R152, R414): key, digest of the message, r, s. -/
opaque Config.ecdsaOk : Nat → Nat → Nat → Nat → Bool

/-- The SHA-384 digest of a list of dwords or bytes (R93, R439). -/
opaque Config.sha384 : List Nat → Nat

/-- An ECDSA P-384 signature by the device identity key (R92). -/
opaque Config.deviceSign : Nat → Nat

/-- A byte of the device identity chain of certificate slot 0 (R92). -/
opaque Config.certByte : Nat → Nat

/-- The length in bytes of the certificates of that chain, which follow the chain's length and root hash. -/
opaque Config.certBytes : Nat

/-- A dword of the factory calibration row (R432). -/
opaque Config.calDword : Nat → Nat

/-- A dword of an option ROM image (R74): the SHA-384 of the image, dword number. -/
opaque Config.romDword : Nat → Nat → Nat

/-- The size in slots, 1 to 16, that the compressor makes of a whole extent, by its content (R338). -/
opaque Config.compressedSlots : List Nat → Nat

/-- The kind of the first fault that a decompressor finds in an image made of independent-block frames, if any (R341, R414). -/
opaque Config.frameFault : List Nat → Option Nat

/-- A dword of log page or Identify content that NVM Express or the module fixes: page, selector, dword index (R134, R147). -/
opaque Config.pageDword : Nat → Nat → Nat → Nat

/-- What fixes the length of a key set (R434). -/
opaque Config.keyWords : Nat

/-- The image in slot 1 of a module as shipped (R418). -/
opaque Config.factoryImage : List FwPart

/-- The Uskai firmware key (R414), x then y. -/
opaque Config.firmwareKey : Nat

/-- The rate trim in ppb that the slope of the kept time exchanges gives (R396): offsets in ns and their device times. -/
opaque Config.slopePpb : List (Int × Nat) → Int

end Sys2Proof
end

