-- ==== Sys2Proof/Machine/RegTable.lean ====
section
/-! DEFINITION. The register map of BAR2 (R509 to R520): every field of every register, its place, access code (R514),
reset class (R515), write role (R517), default and clipping rule, as the register tables of the chapters give them. -/

namespace Sys2Proof.Machine

/-- A field of a register: the offset of the register, the lowest bit and the width. -/
structure Fld where
  off : Nat
  lo  : Nat
  wid : Nat
  deriving DecidableEq, Repr

/-- The access codes of R514. -/
inductive Access where
  | ro | rw | w1c | w1s | wo
  deriving DecidableEq, Repr

/-- The reset classes of R515. -/
inductive ResetClass where
  | c | h | f | k
  deriving DecidableEq, Repr

/-- The roles of R447, lowest first; `none` is no role. -/
inductive Role where
  | none | operator | installer | maker
  deriving DecidableEq, Repr

/-- A role as the number that role fields carry (R447): 0 none, 1 operator, 2 installer, 3 maker. -/
def Role.num : Role → Nat
  | .none => 0
  | .operator => 1
  | .installer => 2
  | .maker => 3

/-- The role a two-bit role field names. -/
def Role.ofNum : Nat → Role
  | 1 => .operator
  | 2 => .installer
  | 3 => .maker
  | _ => .none

/-- What a write stores of a value: any; clipped to a range; left unchanged for values of a range;
left unchanged for the two end values; or a rule of its own (`Ops.clipSpecial`). -/
inductive Clip where
  | any
  | range (lo hi : Nat)
  | keep (lo hi : Nat)
  | keepEnds
  | special
  deriving DecidableEq, Repr

/-- One row of a register table; arrays have `n1` entries at stride `s1`, each of `n2` at stride `s2`. -/
structure FieldRow where
  fld  : Fld
  n1   : Nat
  s1   : Nat
  n2   : Nat
  s2   : Nat
  acc  : Access
  cls  : ResetClass
  role : Role
  dflt : Nat
  clip : Clip
  deriving DecidableEq, Repr

namespace Reg

/-- GEN_ID (R522). -/
def genId : Nat := 0x00000
/-- GEN_REV (R522). -/
def genRev : Nat := 0x00004
/-- GEN_SN[i], 5 entries (R522). -/
def genSn (i : Nat) : Nat := 0x00008 + 4 * i
/-- GEN_STATE (R522). -/
def genState : Nat := 0x0001C
/-- GEN_CONFIG (R522). -/
def genConfig : Nat := 0x00020
/-- GEN_RAWGIB (R522). -/
def genRawgib : Nat := 0x00024
/-- GEN_FWVER0 (R522). -/
def genFwver0 : Nat := 0x00028
/-- GEN_FWVER1 (R522). -/
def genFwver1 : Nat := 0x0002C
/-- GEN_BOOT (R522). -/
def genBoot : Nat := 0x00030
/-- GEN_STARTS (R522). -/
def genStarts : Nat := 0x00034
/-- GEN_MONO_LO (R522). -/
def genMonoLo : Nat := 0x00038
/-- GEN_MONO_HI (R522). -/
def genMonoHi : Nat := 0x0003C
/-- GEN_SCRATCH[i], 4 entries (R522). -/
def genScratch (i : Nat) : Nat := 0x00040 + 4 * i
/-- GEN_CFGPEND (R522). -/
def genCfgpend : Nat := 0x00050
/-- GEN_LASTRST (R522). -/
def genLastrst : Nat := 0x00054
/-- GEN_TEMP (R522). -/
def genTemp : Nat := 0x00058
/-- GEN_CTL (R522). -/
def genCtl : Nat := 0x0005C
/-- PACE_CTL (R58). -/
def paceCtl : Nat := 0x00100
/-- PACE_STAT (R59). -/
def paceStat : Nat := 0x00104
/-- PACE_LOW (R60). -/
def paceLow : Nat := 0x00108
/-- PACE_VREQ (R61). -/
def paceVreq : Nat := 0x0010C
/-- PACE_VSTAT (R62). -/
def paceVstat : Nat := 0x00110
/-- TK_CTL (R63). -/
def tkCtl : Nat := 0x00114
/-- TK_STAT (R64). -/
def tkStat : Nat := 0x00118
/-- TK_ADJ (R65). -/
def tkAdj : Nat := 0x0011C
/-- TK_TIME_LO (R65). -/
def tkTimeLo : Nat := 0x00120
/-- TK_TIME_HI (R65). -/
def tkTimeHi : Nat := 0x00124
/-- PACE_GAUGE[i], 30 entries (R65). -/
def paceGauge (i : Nat) : Nat := 0x00180 + 4 * i
/-- HIF_CTL (R95). -/
def hifCtl : Nat := 0x00200
/-- HIF_STAT (R95). -/
def hifStat : Nat := 0x00204
/-- HIF_PORT_CTL[i], 2 entries (R95). -/
def hifPortCtl (i : Nat) : Nat := 0x00208 + 4 * i
/-- HIF_PORT_STAT[i], 2 entries (R95). -/
def hifPortStat (i : Nat) : Nat := 0x00210 + 4 * i
/-- HIF_ROM_CTL (R95). -/
def hifRomCtl : Nat := 0x00218
/-- HIF_CMB_SPLIT (R95). -/
def hifCmbSplit : Nat := 0x0021C
/-- HIF_ATC_CTL (R95). -/
def hifAtcCtl : Nat := 0x00220
/-- HIF_ATC_STAT (R95). -/
def hifAtcStat : Nat := 0x00224
/-- HIF_ATC_INVCNT (R95). -/
def hifAtcInvcnt : Nat := 0x00228
/-- HIF_PRI_CTL (R95). -/
def hifPriCtl : Nat := 0x0022C
/-- HIF_PRI_STAT (R95). -/
def hifPriStat : Nat := 0x00230
/-- HIF_CTO_LAST (R95). -/
def hifCtoLast : Nat := 0x00234
/-- HIF_QUAR_STAT (R95). -/
def hifQuarStat : Nat := 0x00238
/-- HIF_UXCPL_CNT (R95). -/
def hifUxcplCnt : Nat := 0x0023C
/-- HIF_FLR_STAT (R95). -/
def hifFlrStat : Nat := 0x00240
/-- HIF_DMA_STAT (R95). -/
def hifDmaStat : Nat := 0x00244
/-- HIF_UXLOG[i][j] (R95). -/
def hifUxlog (i j : Nat) : Nat := 0x00250 + 56 * i + 4 * j
/-- HIF_LANE[i][j] (R95). -/
def hifLane (i j : Nat) : Nat := 0x002C0 + 64 * i + 4 * j
/-- HIF_CTOLOG[i][j] (R95). -/
def hifCtolog (i j : Nat) : Nat := 0x00340 + 64 * i + 4 * j
/-- HIF_FLRPEND[i], 32 entries (R95). -/
def hifFlrpend (i : Nat) : Nat := 0x003C0 + 4 * i
/-- HIF_CNT[i][j] (R96). -/
def hifCnt (i j : Nat) : Nat := 0x00440 + 72 * i + 4 * j
/-- HIF_DOE_STAT[i], 2 entries (R95). -/
def hifDoeStat (i : Nat) : Nat := 0x004D0 + 4 * i
/-- QEN_CTL (R126). -/
def qenCtl : Nat := 0x00500
/-- QEN_STAT (R126). -/
def qenStat : Nat := 0x00504
/-- QEN_QALLOT (R126). -/
def qenQallot : Nat := 0x00508
/-- QEN_ARB (R126). -/
def qenArb : Nat := 0x0050C
/-- QEN_AGE (R126). -/
def qenAge : Nat := 0x00510
/-- QEN_SLOTRES (R126). -/
def qenSlotres : Nat := 0x00514
/-- QEN_FETCH_LO (R126). -/
def qenFetchLo : Nat := 0x00518
/-- QEN_FETCH_HI (R126). -/
def qenFetchHi : Nat := 0x0051C
/-- QEN_SLOTUSE (R126). -/
def qenSlotuse : Nat := 0x00520
/-- QEN_STITCHUSE (R126). -/
def qenStitchuse : Nat := 0x00524
/-- QEN_ILKUSE (R126). -/
def qenIlkuse : Nat := 0x00528
/-- QEN_PINUSE (R126). -/
def qenPinuse : Nat := 0x0052C
/-- QEN_CQHELD (R126). -/
def qenCqheld : Nat := 0x00530
/-- QEN_QUSE (R126). -/
def qenQuse : Nat := 0x00534
/-- QEN_SHN_STAT (R126). -/
def qenShnStat : Nat := 0x00538
/-- QEN_ERRLOG (R126). -/
def qenErrlog : Nat := 0x0053C
/-- QEN_PARK[i], 16 entries (R126). -/
def qenPark (i : Nat) : Nat := 0x00540 + 4 * i
/-- QEN_CNT[i], 32 entries (R126). -/
def qenCnt (i : Nat) : Nat := 0x00580 + 4 * i
/-- QEN_HIST[i], 32 entries (R126). -/
def qenHist (i : Nat) : Nat := 0x00600 + 4 * i
/-- MAP_CTL (R181). -/
def mapCtl : Nat := 0x00700
/-- MAP_STAT (R181). -/
def mapStat : Nat := 0x00704
/-- MAP_CAP_CTL (R181). -/
def mapCapCtl : Nat := 0x00708
/-- MAP_CAP_MIB (R181). -/
def mapCapMib : Nat := 0x0070C
/-- MAP_FREE_MIB (R181). -/
def mapFreeMib : Nat := 0x00710
/-- MAP_GRAN_USE (R181). -/
def mapGranUse : Nat := 0x00714
/-- MAP_POOL_USE (R181). -/
def mapPoolUse : Nat := 0x00718
/-- MAP_POOL_STAT (R181). -/
def mapPoolStat : Nat := 0x0071C
/-- MAP_SEAM_CTL (R181). -/
def mapSeamCtl : Nat := 0x00720
/-- MAP_SEAM_RATE (R181). -/
def mapSeamRate : Nat := 0x00724
/-- MAP_STALL_STAT (R181). -/
def mapStallStat : Nat := 0x00728
/-- MAP_UE_LAST (R181). -/
def mapUeLast : Nat := 0x0072C
/-- MAP_REC_LAST (R181). -/
def mapRecLast : Nat := 0x00730
/-- MAP_UE_IDX_LO (R181). -/
def mapUeIdxLo : Nat := 0x00734
/-- MAP_UE_IDX_HI (R181). -/
def mapUeIdxHi : Nat := 0x00738
/-- MAP_EPOCH (R181). -/
def mapEpoch : Nat := 0x0073C
/-- MAP_STALLSEG[i], 8 entries (R181). -/
def mapStallseg (i : Nat) : Nat := 0x00740 + 4 * i
/-- MAP_SEAMPG[i], 8 entries (R181). -/
def mapSeampg (i : Nat) : Nat := 0x00760 + 4 * i
/-- MAP_CNT[i], 32 entries (R181). -/
def mapCnt (i : Nat) : Nat := 0x00780 + 4 * i
/-- CRS_CTL (R209). -/
def crsCtl : Nat := 0x00800
/-- CRS_STAT (R209). -/
def crsStat : Nat := 0x00804
/-- CRS_LAYOUT (R209). -/
def crsLayout : Nat := 0x00808
/-- CRS_STAGE (R209). -/
def crsStage : Nat := 0x0080C
/-- CRS_FREE (R209). -/
def crsFree : Nat := 0x00810
/-- CRS_OPEN (R209). -/
def crsOpen : Nat := 0x00814
/-- CRS_BUF (R209). -/
def crsBuf : Nat := 0x00818
/-- CRS_STG_USE (R209). -/
def crsStgUse : Nat := 0x0081C
/-- CRS_RATE (R209). -/
def crsRate : Nat := 0x00820
/-- CRS_ROWAGE (R209). -/
def crsRowage : Nat := 0x00824
/-- CRS_SEQ_LO (R209). -/
def crsSeqLo : Nat := 0x00828
/-- CRS_SEQ_HI (R209). -/
def crsSeqHi : Nat := 0x0082C
/-- CRS_RETIRED (R209). -/
def crsRetired : Nat := 0x00830
/-- CRS_TINKED (R209). -/
def crsTinked : Nat := 0x00834
/-- CRS_EXP (R209). -/
def crsExp : Nat := 0x00838
/-- CRS_PFPEND (R209). -/
def crsPfpend : Nat := 0x0083C
/-- CRS_PFLOG[i], 8 entries (R209). -/
def crsPflog (i : Nat) : Nat := 0x00840 + 4 * i
/-- CRS_CNT[i], 24 entries (R209). -/
def crsCnt (i : Nat) : Nat := 0x00860 + 4 * i
/-- CRS_RUH[i], 16 entries (R209). -/
def crsRuh (i : Nat) : Nat := 0x008C0 + 2 * i
/-- CRS_SKFREE[i], 8 entries (R209). -/
def crsSkfree (i : Nat) : Nat := 0x008E0 + 2 * i
/-- CRS_SKOPEN[i], 8 entries (R209). -/
def crsSkopen (i : Nat) : Nat := 0x008F0 + 2 * i
/-- ECC_CTL (R236). -/
def eccCtl : Nat := 0x00900
/-- ECC_STAT (R236). -/
def eccStat : Nat := 0x00904
/-- ECC_TCUT (R236). -/
def eccTcut : Nat := 0x00908
/-- ECC_SLOW_CTL (R236). -/
def eccSlowCtl : Nat := 0x0090C
/-- ECC_SUS_CTL (R236). -/
def eccSusCtl : Nat := 0x00910
/-- ECC_SOFT_CTL (R236). -/
def eccSoftCtl : Nat := 0x00914
/-- ECC_SLOW_STAT (R236). -/
def eccSlowStat : Nat := 0x00918
/-- ECC_UE_LOC (R236). -/
def eccUeLoc : Nat := 0x0091C
/-- ECC_UE_PAGE (R236). -/
def eccUePage : Nat := 0x00920
/-- ECC_CHK_LOC (R236). -/
def eccChkLoc : Nat := 0x00924
/-- ECC_CHK_PAGE (R236). -/
def eccChkPage : Nat := 0x00928
/-- ECC_SYNW (R236). -/
def eccSynw : Nat := 0x0092C
/-- ECC_SLOWLOG[i], 8 entries (R236). -/
def eccSlowlog (i : Nat) : Nat := 0x00930 + 4 * i
/-- ECC_CNT[i], 24 entries (R236). -/
def eccCnt (i : Nat) : Nat := 0x00950 + 4 * i
/-- ECC_HARDBUSY (R236). -/
def eccHardbusy : Nat := 0x009B0
/-- ECC_SOFTBUSY (R236). -/
def eccSoftbusy : Nat := 0x009B2
/-- ECC_RECBUSY (R236). -/
def eccRecbusy : Nat := 0x009B4
/-- ECC_PROBEOUT (R236). -/
def eccProbeout : Nat := 0x009B6
/-- ECC_SKSLOW[i], 8 entries (R236). -/
def eccSkslow (i : Nat) : Nat := 0x009B8 + 2 * i
/-- ECC_SKCUT[i], 8 entries (R236). -/
def eccSkcut (i : Nat) : Nat := 0x009C8 + 2 * i
/-- ECC_SKSUS[i], 8 entries (R236). -/
def eccSksus (i : Nat) : Nat := 0x009D8 + 2 * i
/-- RCL_CTL (R255). -/
def rclCtl : Nat := 0x00A00
/-- RCL_STAT (R255). -/
def rclStat : Nat := 0x00A04
/-- RCL_VICT (R255). -/
def rclVict : Nat := 0x00A08
/-- RCL_REF_CTL (R255). -/
def rclRefCtl : Nat := 0x00A0C
/-- RCL_EOL (R255). -/
def rclEol : Nat := 0x00A10
/-- RCL_TENSION (R255). -/
def rclTension : Nat := 0x00A14
/-- RCL_SPARE (R255). -/
def rclSpare : Nat := 0x00A18
/-- RCL_SPUSED (R255). -/
def rclSpused : Nat := 0x00A1C
/-- RCL_HEALTH (R255). -/
def rclHealth : Nat := 0x00A20
/-- RCL_EC_MIN (R255). -/
def rclEcMin : Nat := 0x00A24
/-- RCL_EC_MEAN (R255). -/
def rclEcMean : Nat := 0x00A28
/-- RCL_EC_MAX (R255). -/
def rclEcMax : Nat := 0x00A2C
/-- RCL_RATED (R255). -/
def rclRated : Nat := 0x00A30
/-- RCL_QUEUE (R255). -/
def rclQueue : Nat := 0x00A34
/-- RCL_COPY (R255). -/
def rclCopy : Nat := 0x00A38
/-- RCL_LASTVIC (R255). -/
def rclLastvic : Nat := 0x00A3C
/-- RCL_DIESOUT (R255). -/
def rclDiesout : Nat := 0x00A40
/-- RCL_RO (R255). -/
def rclRo : Nat := 0x00A44
/-- RCL_RETDAY (R255). -/
def rclRetday : Nat := 0x00A48
/-- RCL_TENSTIME[i], 8 entries (R255). -/
def rclTenstime (i : Nat) : Nat := 0x00A60 + 4 * i
/-- RCL_CNT[i], 13 entries (R255). -/
def rclCnt (i : Nat) : Nat := 0x00A80 + 4 * i
/-- LIF_CTL (R286). -/
def lifCtl : Nat := 0x00B00
/-- LIF_STAT (R286). -/
def lifStat : Nat := 0x00B04
/-- LIF_HOLDUP (R286). -/
def lifHoldup : Nat := 0x00B08
/-- LIF_HOLD_STAT (R286). -/
def lifHoldStat : Nat := 0x00B0C
/-- LIF_GSEQ_LO (R286). -/
def lifGseqLo : Nat := 0x00B10
/-- LIF_GSEQ_HI (R286). -/
def lifGseqHi : Nat := 0x00B14
/-- LIF_JUSE (R286). -/
def lifJuse : Nat := 0x00B18
/-- LIF_CKPT_CTL (R286). -/
def lifCkptCtl : Nat := 0x00B1C
/-- LIF_CKPT_STAT (R286). -/
def lifCkptStat : Nat := 0x00B20
/-- LIF_CKPT_AGE (R286). -/
def lifCkptAge : Nat := 0x00B24
/-- LIF_PF_LAST (R286). -/
def lifPfLast : Nat := 0x00B28
/-- LIF_PF_MARGIN (R286). -/
def lifPfMargin : Nat := 0x00B2C
/-- LIF_REC_LAST (R286). -/
def lifRecLast : Nat := 0x00B30
/-- LIF_REC_GRP (R286). -/
def lifRecGrp : Nat := 0x00B34
/-- LIF_ANCHOR (R286). -/
def lifAnchor : Nat := 0x00B38
/-- LIF_COPYERR (R286). -/
def lifCopyerr : Nat := 0x00B3C
/-- LIF_PFHIST[i], 8 entries (R286). -/
def lifPfhist (i : Nat) : Nat := 0x00B40 + 4 * i
/-- LIF_CNT[i], 24 entries (R286). -/
def lifCnt (i : Nat) : Nat := 0x00B60 + 4 * i
/-- PWR_CTL (R380). -/
def pwrCtl : Nat := 0x00C00
/-- PWR_STAT (R380). -/
def pwrStat : Nat := 0x00C04
/-- PWR_PS1 (R380). -/
def pwrPs1 : Nat := 0x00C08
/-- PWR_PS2 (R380). -/
def pwrPs2 : Nat := 0x00C0C
/-- PWR_LTR (R380). -/
def pwrLtr : Nat := 0x00C10
/-- PWR_WAKE (R380). -/
def pwrWake : Nat := 0x00C14
/-- PWR_ENTRY (R380). -/
def pwrEntry : Nat := 0x00C18
/-- PWR_SAVE (R380). -/
def pwrSave : Nat := 0x00C1C
/-- PWR_TIME[i], 8 entries (R380). -/
def pwrTime (i : Nat) : Nat := 0x00C20 + 4 * i
/-- PWR_ENTHIST[i], 8 entries (R380). -/
def pwrEnthist (i : Nat) : Nat := 0x00C40 + 4 * i
/-- PWR_CNT[i], 32 entries (R380). -/
def pwrCnt (i : Nat) : Nat := 0x00C60 + 4 * i
/-- PAT_CTL (R383). -/
def patCtl : Nat := 0x00D00
/-- PAT_STAT (R383). -/
def patStat : Nat := 0x00D04
/-- PAT_THR (R383). -/
def patThr : Nat := 0x00D08
/-- PAT_TEMP (R383). -/
def patTemp : Nat := 0x00D0C
/-- PAT_LAST (R383). -/
def patLast : Nat := 0x00D10
/-- PAT_ESC (R383). -/
def patEsc : Nat := 0x00D14
/-- PAT_HOLD (R383). -/
def patHold : Nat := 0x00D18
/-- PAT_CANARY (R383). -/
def patCanary : Nat := 0x00D1C
/-- PAT_BIN[i], 8 entries (R383). -/
def patBin (i : Nat) : Nat := 0x00D20 + 4 * i
/-- PAT_SKWORST[i], 8 entries (R383). -/
def patSkworst (i : Nat) : Nat := 0x00D40 + 4 * i
/-- PAT_CNT[i], 16 entries (R383). -/
def patCnt (i : Nat) : Nat := 0x00D60 + 4 * i
/-- HBM_CTL (R328). -/
def hbmCtl : Nat := 0x00E00
/-- HBM_STAT (R328). -/
def hbmStat : Nat := 0x00E04
/-- HBM_ORDER (R328). -/
def hbmOrder : Nat := 0x00E08
/-- HBM_WDRAIN (R328). -/
def hbmWdrain : Nat := 0x00E0C
/-- HBM_ACT_CTL (R328). -/
def hbmActCtl : Nat := 0x00E10
/-- HBM_THROT (R328). -/
def hbmThrot : Nat := 0x00E14
/-- HBM_ARB (R328). -/
def hbmArb : Nat := 0x00E18
/-- HBM_SCRUB (R328). -/
def hbmScrub : Nat := 0x00E1C
/-- HBM_UE_LAST (R328). -/
def hbmUeLast : Nat := 0x00E20
/-- HBM_UE_ADDR_LO (R328). -/
def hbmUeAddrLo : Nat := 0x00E24
/-- HBM_UE_ADDR_HI (R328). -/
def hbmUeAddrHi : Nat := 0x00E28
/-- HBM_ZERO (R328). -/
def hbmZero : Nat := 0x00E2C
/-- HBM_STACK[i], 4 entries (R328). -/
def hbmStack (i : Nat) : Nat := 0x00E30 + 4 * i
/-- HBM_CNT[i], 16 entries (R328). -/
def hbmCnt (i : Nat) : Nat := 0x00E40 + 4 * i
/-- HBM_PORT[i], 8 entries (R328). -/
def hbmPort (i : Nat) : Nat := 0x00E80 + 4 * i
/-- HBM_PC_DLY[i], 128 entries (R328). -/
def hbmPcDly (i : Nat) : Nat := 0x01000 + 8 * i
/-- HBM_PC_STAT[i], 128 entries (R328). -/
def hbmPcStat (i : Nat) : Nat := 0x01004 + 8 * i
/-- CMP_CTL (R345). -/
def cmpCtl : Nat := 0x01400
/-- CMP_STAT (R345). -/
def cmpStat : Nat := 0x01404
/-- CMP_BYP (R345). -/
def cmpByp : Nat := 0x01408
/-- CMP_NSCNT (R345). -/
def cmpNscnt : Nat := 0x0140C
/-- CMP_RATE (R345). -/
def cmpRate : Nat := 0x01410
/-- CMP_DRATE (R345). -/
def cmpDrate : Nat := 0x01414
/-- CMP_RATIO (R345). -/
def cmpRatio : Nat := 0x01418
/-- CMP_BUSY (R345). -/
def cmpBusy : Nat := 0x0141C
/-- CMP_ERRLOG (R345). -/
def cmpErrlog : Nat := 0x01420
/-- CMP_ERRSEQ (R345). -/
def cmpErrseq : Nat := 0x01424
/-- CMP_JSTREAM (R345). -/
def cmpJstream : Nat := 0x01428
/-- CMP_TEST (R345). -/
def cmpTest : Nat := 0x0142C
/-- CMP_CNT[i], 20 entries (R345). -/
def cmpCnt (i : Nat) : Nat := 0x01430 + 4 * i
/-- SUP_CTL (R360). -/
def supCtl : Nat := 0x01500
/-- SUP_STAT (R360). -/
def supStat : Nat := 0x01504
/-- SUP_STEST (R360). -/
def supStest : Nat := 0x01508
/-- SUP_DIAG (R360). -/
def supDiag : Nat := 0x0150C
/-- SUP_SNAP (R360). -/
def supSnap : Nat := 0x01510
/-- SUP_SWLAST (R360). -/
def supSwlast : Nat := 0x01514
/-- SUP_STRES (R360). -/
def supStres : Nat := 0x01518
/-- SUP_PEND (R360). -/
def supPend : Nat := 0x0151C
/-- SUP_HB (R360). -/
def supHb : Nat := 0x01520
/-- SUP_FWVER (R360). -/
def supFwver : Nat := 0x01524
/-- SUP_SWTOTAL (R360). -/
def supSwtotal : Nat := 0x01528
/-- SUP_INTENT (R360). -/
def supIntent : Nat := 0x0152C
/-- SUP_SWLOG[i], 8 entries (R360). -/
def supSwlog (i : Nat) : Nat := 0x01530 + 4 * i
/-- SUP_CNT[i], 16 entries (R360). -/
def supCnt (i : Nat) : Nat := 0x01550 + 4 * i
/-- STR_CTL (R408). -/
def strCtl : Nat := 0x01600
/-- STR_STAT (R408). -/
def strStat : Nat := 0x01604
/-- STR_ID (R408). -/
def strId : Nat := 0x01608
/-- STR_ENCAP (R408). -/
def strEncap : Nat := 0x0160C
/-- STR_L3 (R408). -/
def strL3 : Nat := 0x01610
/-- STR_PORT[i], 2 entries (R408). -/
def strPort (i : Nat) : Nat := 0x01614 + 4 * i
/-- STR_HB (R408). -/
def strHb : Nat := 0x0161C
/-- STR_RTX (R408). -/
def strRtx : Nat := 0x01620
/-- STR_MGR (R408). -/
def strMgr : Nat := 0x01624
/-- STR_DEPUTY (R408). -/
def strDeputy : Nat := 0x01628
/-- STR_TOFF (R408). -/
def strToff : Nat := 0x0162C
/-- STR_ROLLUP (R408). -/
def strRollup : Nat := 0x01630
/-- STR_WSEL (R408). -/
def strWsel : Nat := 0x01634
/-- STR_WBASE_LO (R408). -/
def strWbaseLo : Nat := 0x01638
/-- STR_WBASE_HI (R408). -/
def strWbaseHi : Nat := 0x0163C
/-- STR_WLEN (R408). -/
def strWlen : Nat := 0x01640
/-- STR_WSRC (R408). -/
def strWsrc : Nat := 0x01644
/-- STR_WCTL (R408). -/
def strWctl : Nat := 0x01648
/-- STR_WSTAT (R408). -/
def strWstat : Nat := 0x0164C
/-- STR_WOPEN (R408). -/
def strWopen : Nat := 0x01650
/-- STR_PEERS (R408). -/
def strPeers : Nat := 0x01654
/-- STR_CREDIT (R408). -/
def strCredit : Nat := 0x01658
/-- STR_LASTNAK (R408). -/
def strLastnak : Nat := 0x0165C
/-- STR_CNT[i], 32 entries (R408). -/
def strCnt (i : Nat) : Nat := 0x01680 + 4 * i
/-- STR_SECT[i], 64 entries (R408). -/
def strSect (i : Nat) : Nat := 0x01700 + 4 * i
/-- FWU_CTL (R423). -/
def fwuCtl : Nat := 0x01800
/-- FWU_STAT (R423). -/
def fwuStat : Nat := 0x01804
/-- FWU_STAGE (R423). -/
def fwuStage : Nat := 0x01808
/-- FWU_VERIFY (R423). -/
def fwuVerify : Nat := 0x0180C
/-- FWU_SLOT (R423). -/
def fwuSlot : Nat := 0x01810
/-- FWU_SCHED_LO (R423). -/
def fwuSchedLo : Nat := 0x01814
/-- FWU_SCHED_HI (R423). -/
def fwuSchedHi : Nat := 0x01818
/-- FWU_ACT (R423). -/
def fwuAct : Nat := 0x0181C
/-- FWU_FLEET (R423). -/
def fwuFleet : Nat := 0x01820
/-- FWU_SVN[i], 12 entries (R423). -/
def fwuSvn (i : Nat) : Nat := 0x01840 + 4 * i
/-- FWU_CNT[i], 3 entries (R423). -/
def fwuCnt (i : Nat) : Nat := 0x01880 + 4 * i
/-- SEC_CTL (R465). -/
def secCtl : Nat := 0x01900
/-- SEC_STAT (R465). -/
def secStat : Nat := 0x01904
/-- SEC_LC (R465). -/
def secLc : Nat := 0x01908
/-- SEC_SESS[i], 2 entries (R465). -/
def secSess (i : Nat) : Nat := 0x0190C + 4 * i
/-- SEC_KSEL (R465). -/
def secKsel : Nat := 0x01914
/-- SEC_KDATA (R465). -/
def secKdata : Nat := 0x01918
/-- SEC_KCTL (R465). -/
def secKctl : Nat := 0x0191C
/-- SEC_KEYS (R465). -/
def secKeys : Nat := 0x01920
/-- SEC_DENYLOG (R465). -/
def secDenylog : Nat := 0x01924
/-- SEC_LCLAST (R465). -/
def secLclast : Nat := 0x01928
/-- SEC_DBG (R465). -/
def secDbg : Nat := 0x0192C
/-- SEC_NSKEY (R465). -/
def secNskey : Nat := 0x01930
/-- SEC_CELAST (R465). -/
def secCelast : Nat := 0x01934
/-- SEC_FAIL (R465). -/
def secFail : Nat := 0x01938
/-- SEC_RNG (R465). -/
def secRng : Nat := 0x0193C
/-- SEC_CNT[i], 24 entries (R465). -/
def secCnt (i : Nat) : Nat := 0x01940 + 4 * i
/-- EVW_CTL (R481). -/
def evwCtl : Nat := 0x01A00
/-- EVW_STAT (R481). -/
def evwStat : Nat := 0x01A04
/-- EVW_CURSOR (R481). -/
def evwCursor : Nat := 0x01A08
/-- EVW_OLDEST (R481). -/
def evwOldest : Nat := 0x01A0C
/-- EVW_NEWEST (R481). -/
def evwNewest : Nat := 0x01A10
/-- EVW_CASTUSE (R481). -/
def evwCastuse : Nat := 0x01A14
/-- EVW_PERSIST (R481). -/
def evwPersist : Nat := 0x01A18
/-- EVW_DROP (R481). -/
def evwDrop : Nat := 0x01A1C
/-- EVW_DATA[i], 8 entries (R481). -/
def evwData (i : Nat) : Nat := 0x01A20 + 4 * i
/-- CFS_CTL (R445). -/
def cfsCtl : Nat := 0x01B00
/-- CFS_STAT (R445). -/
def cfsStat : Nat := 0x01B04
/-- CFS_BUSY (R445). -/
def cfsBusy : Nat := 0x01B08
/-- CFS_SPARE (R445). -/
def cfsSpare : Nat := 0x01B0C
/-- CFS_ECMAX (R445). -/
def cfsEcmax : Nat := 0x01B10
/-- CFS_LASTERR (R445). -/
def cfsLasterr : Nat := 0x01B14
/-- CFS_CFGUSE (R445). -/
def cfsCfguse : Nat := 0x01B18
/-- CFS_CALSTAT (R445). -/
def cfsCalstat : Nat := 0x01B1C
/-- CFS_BOOTLOC (R445). -/
def cfsBootloc : Nat := 0x01B20
/-- CFS_DPSEL (R445). -/
def cfsDpsel : Nat := 0x01B24
/-- CFS_DPDATA (R445). -/
def cfsDpdata : Nat := 0x01B28
/-- CFS_DPCTL (R445). -/
def cfsDpctl : Nat := 0x01B2C
/-- CFS_AREA[i], 8 entries (R445). -/
def cfsArea (i : Nat) : Nat := 0x01B40 + 4 * i
/-- CFS_CNT[i], 12 entries (R445). -/
def cfsCnt (i : Nat) : Nat := 0x01B60 + 4 * i
/-- SKN_CTL[i], 8 entries (R308). -/
def sknCtl (i : Nat) : Nat := 0x02000 + 128 * i
/-- SKN_STAT[i], 8 entries (R308). -/
def sknStat (i : Nat) : Nat := 0x02004 + 128 * i
/-- SKN_LINK[i], 8 entries (R308). -/
def sknLink (i : Nat) : Nat := 0x02008 + 128 * i
/-- SKN_TEMP[i], 8 entries (R308). -/
def sknTemp (i : Nat) : Nat := 0x0200C + 128 * i
/-- SKN_SCHED[i], 8 entries (R308). -/
def sknSched (i : Nat) : Nat := 0x02010 + 128 * i
/-- SKN_POLL[i], 8 entries (R308). -/
def sknPoll (i : Nat) : Nat := 0x02014 + 128 * i
/-- SKN_TRAIN[i], 8 entries (R308). -/
def sknTrain (i : Nat) : Nat := 0x02018 + 128 * i
/-- SKN_ZQ[i], 8 entries (R308). -/
def sknZq (i : Nat) : Nat := 0x0201C + 128 * i
/-- SKN_QUEUE[i], 8 entries (R308). -/
def sknQueue (i : Nat) : Nat := 0x02020 + 128 * i
/-- SKN_BUSY[i], 8 entries (R308). -/
def sknBusy (i : Nat) : Nat := 0x02024 + 128 * i
/-- SKN_XFER[i], 8 entries (R308). -/
def sknXfer (i : Nat) : Nat := 0x02028 + 128 * i
/-- SKN_DIES[i], 8 entries (R308). -/
def sknDies (i : Nat) : Nat := 0x0202C + 128 * i
/-- SKN_ERRLOG[i], 8 entries (R308). -/
def sknErrlog (i : Nat) : Nat := 0x02030 + 128 * i
/-- SKN_DOWN[i], 8 entries (R308). -/
def sknDown (i : Nat) : Nat := 0x02034 + 128 * i
/-- SKN_RATE[i], 8 entries (R308). -/
def sknRate (i : Nat) : Nat := 0x02038 + 128 * i
/-- SKN_FWVER[i], 8 entries (R308). -/
def sknFwver (i : Nat) : Nat := 0x0203C + 128 * i
/-- SKN_CNT[i][j] (R308). -/
def sknCnt (i j : Nat) : Nat := 0x02040 + 128 * i + 4 * j
/-- CHN_CFG[i], 512 entries (R308). -/
def chnCfg (i : Nat) : Nat := 0x04000 + 16 * i
/-- CHN_STAT[i], 512 entries (R308). -/
def chnStat (i : Nat) : Nat := 0x04004 + 16 * i
/-- CHN_ERR[i], 512 entries (R308). -/
def chnErr (i : Nat) : Nat := 0x04008 + 16 * i

end Reg

namespace F

/-- PACE_CTL.MINCLR (R58). -/
def paceCtlMinclr : Fld := ⟨Reg.paceCtl, 31, 1⟩
/-- PACE_CTL.PERIOD (R58). -/
def paceCtlPeriod : Fld := ⟨Reg.paceCtl, 24, 4⟩
/-- PACE_CTL.MODE (R58). -/
def paceCtlMode : Fld := ⟨Reg.paceCtl, 22, 2⟩
/-- PACE_CTL.GOAL (R58). -/
def paceCtlGoal : Fld := ⟨Reg.paceCtl, 0, 12⟩
/-- PACE_STAT.BELOW (R59). -/
def paceStatBelow : Fld := ⟨Reg.paceStat, 31, 1⟩
/-- PACE_STAT.CAPPED (R59). -/
def paceStatCapped : Fld := ⟨Reg.paceStat, 30, 1⟩
/-- PACE_STAT.BELOWSEEN (R59). -/
def paceStatBelowseen : Fld := ⟨Reg.paceStat, 29, 1⟩
/-- PACE_STAT.SEQ (R59). -/
def paceStatSeq : Fld := ⟨Reg.paceStat, 0, 16⟩
/-- PACE_LOW.REGION (R60). -/
def paceLowRegion : Fld := ⟨Reg.paceLow, 16, 5⟩
/-- PACE_LOW.PACE (R60). -/
def paceLowPace : Fld := ⟨Reg.paceLow, 0, 16⟩
/-- PACE_VREQ.VMAX (R61). -/
def paceVreqVmax : Fld := ⟨Reg.paceVreq, 16, 10⟩
/-- PACE_VREQ.TARGET (R61). -/
def paceVreqTarget : Fld := ⟨Reg.paceVreq, 0, 10⟩
/-- PACE_VSTAT.VRFAULT (R62). -/
def paceVstatVrfault : Fld := ⟨Reg.paceVstat, 31, 1⟩
/-- PACE_VSTAT.NOACK (R62). -/
def paceVstatNoack : Fld := ⟨Reg.paceVstat, 30, 1⟩
/-- PACE_VSTAT.ALERT (R62). -/
def paceVstatAlert : Fld := ⟨Reg.paceVstat, 29, 1⟩
/-- PACE_VSTAT.VOUT (R62). -/
def paceVstatVout : Fld := ⟨Reg.paceVstat, 16, 10⟩
/-- PACE_VSTAT.REQ (R62). -/
def paceVstatReq : Fld := ⟨Reg.paceVstat, 0, 10⟩
/-- TK_CTL.HOSTTS (R63). -/
def tkCtlHostts : Fld := ⟨Reg.tkCtl, 1, 1⟩
/-- TK_CTL.STRANDT (R63). -/
def tkCtlStrandt : Fld := ⟨Reg.tkCtl, 0, 1⟩
/-- TK_STAT.REFTLOST (R64). -/
def tkStatReftlost : Fld := ⟨Reg.tkStat, 31, 1⟩
/-- TK_STAT.REFTSEEN (R64). -/
def tkStatReftseen : Fld := ⟨Reg.tkStat, 30, 1⟩
/-- TK_STAT.ORIGIN (R64). -/
def tkStatOrigin : Fld := ⟨Reg.tkStat, 28, 2⟩
/-- TK_STAT.STEPPED (R64). -/
def tkStatStepped : Fld := ⟨Reg.tkStat, 27, 1⟩
/-- TK_ADJ.TRIM (R65). -/
def tkAdjTrim : Fld := ⟨Reg.tkAdj, 0, 24⟩
/-- TK_TIME_LO.TIME (R65). -/
def tkTimeLoTime : Fld := ⟨Reg.tkTimeLo, 0, 32⟩
/-- TK_TIME_HI.TIME (R65). -/
def tkTimeHiTime : Fld := ⟨Reg.tkTimeHi, 0, 32⟩
/-- PACE_GAUGE.MIN (R65). -/
def paceGaugeMin (i : Nat) : Fld := ⟨Reg.paceGauge i, 16, 16⟩
/-- PACE_GAUGE.PACE (R65). -/
def paceGaugePace (i : Nat) : Fld := ⟨Reg.paceGauge i, 0, 16⟩
/-- HIF_CTL.CNTCLR (R95). -/
def hifCtlCntclr : Fld := ⟨Reg.hifCtl, 31, 1⟩
/-- HIF_CTL.ROEN (R95). -/
def hifCtlRoen : Fld := ⟨Reg.hifCtl, 0, 1⟩
/-- HIF_STAT.LATECPLSEEN (R95). -/
def hifStatLatecplseen : Fld := ⟨Reg.hifStat, 31, 1⟩
/-- HIF_STAT.CTOSEEN (R95). -/
def hifStatCtoseen : Fld := ⟨Reg.hifStat, 30, 1⟩
/-- HIF_STAT.PRIFAILSEEN (R95). -/
def hifStatPrifailseen : Fld := ⟨Reg.hifStat, 29, 1⟩
/-- HIF_PORT_CTL.MAXRATE (R95). -/
def hifPortCtlMaxrate (i : Nat) : Fld := ⟨Reg.hifPortCtl i, 0, 3⟩
/-- HIF_PORT_STAT.UP (R95). -/
def hifPortStatUp (i : Nat) : Fld := ⟨Reg.hifPortStat i, 31, 1⟩
/-- HIF_PORT_STAT.WIDTH (R95). -/
def hifPortStatWidth (i : Nat) : Fld := ⟨Reg.hifPortStat i, 24, 5⟩
/-- HIF_PORT_STAT.RATE (R95). -/
def hifPortStatRate (i : Nat) : Fld := ⟨Reg.hifPortStat i, 21, 3⟩
/-- HIF_PORT_STAT.FLIT (R95). -/
def hifPortStatFlit (i : Nat) : Fld := ⟨Reg.hifPortStat i, 20, 1⟩
/-- HIF_PORT_STAT.REVERSED (R95). -/
def hifPortStatReversed (i : Nat) : Fld := ⟨Reg.hifPortStat i, 19, 1⟩
/-- HIF_PORT_STAT.LPM (R95). -/
def hifPortStatLpm (i : Nat) : Fld := ⟨Reg.hifPortStat i, 17, 2⟩
/-- HIF_PORT_STAT.RETRAINS (R95). -/
def hifPortStatRetrains (i : Nat) : Fld := ⟨Reg.hifPortStat i, 0, 16⟩
/-- HIF_ROM_CTL.ROMDIS (R95). -/
def hifRomCtlRomdis : Fld := ⟨Reg.hifRomCtl, 0, 1⟩
/-- HIF_CMB_SPLIT.PF0GIB (R95). -/
def hifCmbSplitPf0gib : Fld := ⟨Reg.hifCmbSplit, 0, 4⟩
/-- HIF_ATC_CTL.FLUSH (R95). -/
def hifAtcCtlFlush : Fld := ⟨Reg.hifAtcCtl, 0, 1⟩
/-- HIF_ATC_STAT.VALID (R95). -/
def hifAtcStatValid : Fld := ⟨Reg.hifAtcStat, 0, 17⟩
/-- HIF_ATC_INVCNT.COUNT (R95). -/
def hifAtcInvcntCount : Fld := ⟨Reg.hifAtcInvcnt, 0, 32⟩
/-- HIF_PRI_CTL.TIMEOUT (R95). -/
def hifPriCtlTimeout : Fld := ⟨Reg.hifPriCtl, 0, 16⟩
/-- HIF_PRI_STAT.LATE (R95). -/
def hifPriStatLate : Fld := ⟨Reg.hifPriStat, 16, 16⟩
/-- HIF_PRI_STAT.OUT (R95). -/
def hifPriStatOut : Fld := ⟨Reg.hifPriStat, 0, 13⟩
/-- HIF_CTO_LAST.PORT (R95). -/
def hifCtoLastPort : Fld := ⟨Reg.hifCtoLast, 31, 1⟩
/-- HIF_CTO_LAST.FUNC (R95). -/
def hifCtoLastFunc : Fld := ⟨Reg.hifCtoLast, 0, 11⟩
/-- HIF_QUAR_STAT.TAGS1 (R95). -/
def hifQuarStatTags1 : Fld := ⟨Reg.hifQuarStat, 16, 16⟩
/-- HIF_QUAR_STAT.TAGS0 (R95). -/
def hifQuarStatTags0 : Fld := ⟨Reg.hifQuarStat, 0, 16⟩
/-- HIF_UXCPL_CNT.COUNT (R95). -/
def hifUxcplCntCount : Fld := ⟨Reg.hifUxcplCnt, 0, 32⟩
/-- HIF_FLR_STAT.PF1 (R95). -/
def hifFlrStatPf1 : Fld := ⟨Reg.hifFlrStat, 17, 1⟩
/-- HIF_FLR_STAT.PF0 (R95). -/
def hifFlrStatPf0 : Fld := ⟨Reg.hifFlrStat, 16, 1⟩
/-- HIF_FLR_STAT.VFCNT (R95). -/
def hifFlrStatVfcnt : Fld := ⟨Reg.hifFlrStat, 0, 11⟩
/-- HIF_DMA_STAT.HELD (R95). -/
def hifDmaStatHeld : Fld := ⟨Reg.hifDmaStat, 0, 11⟩
/-- HIF_UXLOG.DW (R95). -/
def hifUxlogDw (i j : Nat) : Fld := ⟨Reg.hifUxlog i j, 0, 32⟩
/-- HIF_LANE.PRESET (R95). -/
def hifLanePreset (i j : Nat) : Fld := ⟨Reg.hifLane i j, 24, 8⟩
/-- HIF_LANE.VMARGIN (R95). -/
def hifLaneVmargin (i j : Nat) : Fld := ⟨Reg.hifLane i j, 16, 8⟩
/-- HIF_LANE.TMARGIN (R95). -/
def hifLaneTmargin (i j : Nat) : Fld := ⟨Reg.hifLane i j, 8, 8⟩
/-- HIF_LANE.ERRS (R95). -/
def hifLaneErrs (i j : Nat) : Fld := ⟨Reg.hifLane i j, 0, 8⟩
/-- HIF_CTOLOG.VALID (R95). -/
def hifCtologValid (i j : Nat) : Fld := ⟨Reg.hifCtolog i j, 31, 1⟩
/-- HIF_CTOLOG.KIND (R95). -/
def hifCtologKind (i j : Nat) : Fld := ⟨Reg.hifCtolog i j, 28, 3⟩
/-- HIF_CTOLOG.FUNC (R95). -/
def hifCtologFunc (i j : Nat) : Fld := ⟨Reg.hifCtolog i j, 14, 11⟩
/-- HIF_CTOLOG.TAG (R95). -/
def hifCtologTag (i j : Nat) : Fld := ⟨Reg.hifCtolog i j, 0, 14⟩
/-- HIF_FLRPEND.VF (R95). -/
def hifFlrpendVf (i : Nat) : Fld := ⟨Reg.hifFlrpend i, 0, 32⟩
/-- HIF_DOE_STAT.SERVED (R95). -/
def hifDoeStatServed (i : Nat) : Fld := ⟨Reg.hifDoeStat i, 0, 16⟩
/-- QEN_CTL.CNTCLR (R126). -/
def qenCtlCntclr : Fld := ⟨Reg.qenCtl, 31, 1⟩
/-- QEN_CTL.HISTCLR (R126). -/
def qenCtlHistclr : Fld := ⟨Reg.qenCtl, 30, 1⟩
/-- QEN_STAT.SLOTSEEN (R126). -/
def qenStatSlotseen : Fld := ⟨Reg.qenStat, 31, 1⟩
/-- QEN_STAT.ILKSEEN (R126). -/
def qenStatIlkseen : Fld := ⟨Reg.qenStat, 30, 1⟩
/-- QEN_STAT.STITCHSEEN (R126). -/
def qenStatStitchseen : Fld := ⟨Reg.qenStat, 29, 1⟩
/-- QEN_STAT.CQHELDSEEN (R126). -/
def qenStatCqheldseen : Fld := ⟨Reg.qenStat, 28, 1⟩
/-- QEN_STAT.DBERRSEEN (R126). -/
def qenStatDberrseen : Fld := ⟨Reg.qenStat, 27, 1⟩
/-- QEN_QALLOT.VFIO (R126). -/
def qenQallotVfio : Fld := ⟨Reg.qenQallot, 16, 6⟩
/-- QEN_QALLOT.PF0IO (R126). -/
def qenQallotPf0io : Fld := ⟨Reg.qenQallot, 0, 16⟩
/-- QEN_ARB.VFW (R126). -/
def qenArbVfw : Fld := ⟨Reg.qenArb, 24, 8⟩
/-- QEN_ARB.PFW (R126). -/
def qenArbPfw : Fld := ⟨Reg.qenArb, 16, 8⟩
/-- QEN_AGE.AGEMS (R126). -/
def qenAgeAgems : Fld := ⟨Reg.qenAge, 0, 16⟩
/-- QEN_SLOTRES.CAP (R126). -/
def qenSlotresCap : Fld := ⟨Reg.qenSlotres, 16, 16⟩
/-- QEN_SLOTRES.RES (R126). -/
def qenSlotresRes : Fld := ⟨Reg.qenSlotres, 0, 7⟩
/-- QEN_FETCH_LO.FN (R126). -/
def qenFetchLoFn : Fld := ⟨Reg.qenFetchLo, 0, 32⟩
/-- QEN_FETCH_HI.FN (R126). -/
def qenFetchHiFn : Fld := ⟨Reg.qenFetchHi, 0, 32⟩
/-- QEN_SLOTUSE.USED (R126). -/
def qenSlotuseUsed : Fld := ⟨Reg.qenSlotuse, 0, 19⟩
/-- QEN_STITCHUSE.USED (R126). -/
def qenStitchuseUsed : Fld := ⟨Reg.qenStitchuse, 0, 21⟩
/-- QEN_ILKUSE.USED (R126). -/
def qenIlkuseUsed : Fld := ⟨Reg.qenIlkuse, 0, 18⟩
/-- QEN_PINUSE.BLOCKS (R126). -/
def qenPinuseBlocks : Fld := ⟨Reg.qenPinuse, 0, 32⟩
/-- QEN_CQHELD.CQS (R126). -/
def qenCqheldCqs : Fld := ⟨Reg.qenCqheld, 0, 17⟩
/-- QEN_QUSE.PAIRS (R126). -/
def qenQusePairs : Fld := ⟨Reg.qenQuse, 0, 17⟩
/-- QEN_SHN_STAT.ALLSHN (R126). -/
def qenShnStatAllshn : Fld := ⟨Reg.qenShnStat, 31, 1⟩
/-- QEN_SHN_STAT.SHNFN (R126). -/
def qenShnStatShnfn : Fld := ⟨Reg.qenShnStat, 0, 11⟩
/-- QEN_ERRLOG.FUNC (R126). -/
def qenErrlogFunc : Fld := ⟨Reg.qenErrlog, 21, 11⟩
/-- QEN_ERRLOG.REASON (R126). -/
def qenErrlogReason : Fld := ⟨Reg.qenErrlog, 17, 3⟩
/-- QEN_ERRLOG.CQ (R126). -/
def qenErrlogCq : Fld := ⟨Reg.qenErrlog, 16, 1⟩
/-- QEN_ERRLOG.QID (R126). -/
def qenErrlogQid : Fld := ⟨Reg.qenErrlog, 0, 16⟩
/-- QEN_PARK.NOW (R126). -/
def qenParkNow (i : Nat) : Fld := ⟨Reg.qenPark i, 0, 21⟩
/-- QEN_CNT.COUNT (R126). -/
def qenCntCount (i : Nat) : Fld := ⟨Reg.qenCnt i, 0, 32⟩
/-- QEN_HIST.COUNT (R126). -/
def qenHistCount (i : Nat) : Fld := ⟨Reg.qenHist i, 0, 32⟩
/-- MAP_CTL.CNTCLR (R181). -/
def mapCtlCntclr : Fld := ⟨Reg.mapCtl, 31, 1⟩
/-- MAP_CTL.HISTCLR (R181). -/
def mapCtlHistclr : Fld := ⟨Reg.mapCtl, 30, 1⟩
/-- MAP_STAT.LIGHTSEEN (R181). -/
def mapStatLightseen : Fld := ⟨Reg.mapStat, 31, 1⟩
/-- MAP_STAT.URGENTSEEN (R181). -/
def mapStatUrgentseen : Fld := ⟨Reg.mapStat, 30, 1⟩
/-- MAP_STAT.RMWSEEN (R181). -/
def mapStatRmwseen : Fld := ⟨Reg.mapStat, 29, 1⟩
/-- MAP_STAT.POOLFULLSEEN (R181). -/
def mapStatPoolfullseen : Fld := ⟨Reg.mapStat, 28, 1⟩
/-- MAP_STAT.STALLSEEN (R181). -/
def mapStatStallseen : Fld := ⟨Reg.mapStat, 27, 1⟩
/-- MAP_STAT.LOSTSEEN (R181). -/
def mapStatLostseen : Fld := ⟨Reg.mapStat, 26, 1⟩
/-- MAP_CAP_CTL.OP (R181). -/
def mapCapCtlOp : Fld := ⟨Reg.mapCapCtl, 0, 10⟩
/-- MAP_CAP_MIB.MIB (R181). -/
def mapCapMibMib : Fld := ⟨Reg.mapCapMib, 0, 30⟩
/-- MAP_FREE_MIB.MIB (R181). -/
def mapFreeMibMib : Fld := ⟨Reg.mapFreeMib, 0, 30⟩
/-- MAP_GRAN_USE.GRAN (R181). -/
def mapGranUseGran : Fld := ⟨Reg.mapGranUse, 0, 21⟩
/-- MAP_POOL_USE.BLOCKS (R181). -/
def mapPoolUseBlocks : Fld := ⟨Reg.mapPoolUse, 0, 29⟩
/-- MAP_POOL_STAT.MODE (R181). -/
def mapPoolStatMode : Fld := ⟨Reg.mapPoolStat, 30, 2⟩
/-- MAP_POOL_STAT.OCC (R181). -/
def mapPoolStatOcc : Fld := ⟨Reg.mapPoolStat, 0, 14⟩
/-- MAP_SEAM_CTL.COLD (R181). -/
def mapSeamCtlCold : Fld := ⟨Reg.mapSeamCtl, 24, 8⟩
/-- MAP_SEAM_CTL.LIGHTBW (R181). -/
def mapSeamCtlLightbw : Fld := ⟨Reg.mapSeamCtl, 0, 8⟩
/-- MAP_SEAM_RATE.MBPS (R181). -/
def mapSeamRateMbps : Fld := ⟨Reg.mapSeamRate, 0, 16⟩
/-- MAP_STALL_STAT.REC (R181). -/
def mapStallStatRec : Fld := ⟨Reg.mapStallStat, 31, 1⟩
/-- MAP_STALL_STAT.NOW (R181). -/
def mapStallStatNow : Fld := ⟨Reg.mapStallStat, 0, 13⟩
/-- MAP_UE_LAST.CAUSE (R181). -/
def mapUeLastCause : Fld := ⟨Reg.mapUeLast, 30, 2⟩
/-- MAP_UE_LAST.SEG (R181). -/
def mapUeLastSeg : Fld := ⟨Reg.mapUeLast, 0, 13⟩
/-- MAP_REC_LAST.MS (R181). -/
def mapRecLastMs : Fld := ⟨Reg.mapRecLast, 0, 16⟩
/-- MAP_UE_IDX_LO.IDX (R181). -/
def mapUeIdxLoIdx : Fld := ⟨Reg.mapUeIdxLo, 0, 32⟩
/-- MAP_UE_IDX_HI.IDX (R181). -/
def mapUeIdxHiIdx : Fld := ⟨Reg.mapUeIdxHi, 0, 2⟩
/-- MAP_EPOCH.EPOCH (R181). -/
def mapEpochEpoch : Fld := ⟨Reg.mapEpoch, 0, 32⟩
/-- MAP_STALLSEG.VALID (R181). -/
def mapStallsegValid (i : Nat) : Fld := ⟨Reg.mapStallseg i, 31, 1⟩
/-- MAP_STALLSEG.SEG (R181). -/
def mapStallsegSeg (i : Nat) : Fld := ⟨Reg.mapStallseg i, 0, 13⟩
/-- MAP_SEAMPG.COUNT (R181). -/
def mapSeampgCount (i : Nat) : Fld := ⟨Reg.mapSeampg i, 0, 32⟩
/-- MAP_CNT.COUNT (R181). -/
def mapCntCount (i : Nat) : Fld := ⟨Reg.mapCnt i, 0, 32⟩
/-- CRS_CTL.CNTCLR (R209). -/
def crsCtlCntclr : Fld := ⟨Reg.crsCtl, 31, 1⟩
/-- CRS_CTL.PFLOGCLR (R209). -/
def crsCtlPflogclr : Fld := ⟨Reg.crsCtl, 30, 1⟩
/-- CRS_CTL.STAGE (R209). -/
def crsCtlStage : Fld := ⟨Reg.crsCtl, 8, 2⟩
/-- CRS_CTL.IDLEMS (R209). -/
def crsCtlIdlems : Fld := ⟨Reg.crsCtl, 0, 8⟩
/-- CRS_STAT.EXPOSED (R209). -/
def crsStatExposed : Fld := ⟨Reg.crsStat, 31, 1⟩
/-- CRS_STAT.EXPOSEDSEEN (R209). -/
def crsStatExposedseen : Fld := ⟨Reg.crsStat, 30, 1⟩
/-- CRS_STAT.PFAILSEEN (R209). -/
def crsStatPfailseen : Fld := ⟨Reg.crsStat, 29, 1⟩
/-- CRS_STAT.EFAILSEEN (R209). -/
def crsStatEfailseen : Fld := ⟨Reg.crsStat, 28, 1⟩
/-- CRS_STAT.OPENCHKSEEN (R209). -/
def crsStatOpenchkseen : Fld := ⟨Reg.crsStat, 27, 1⟩
/-- CRS_STAT.EARLYSEEN (R209). -/
def crsStatEarlyseen : Fld := ⟨Reg.crsStat, 26, 1⟩
/-- CRS_STAT.STAGING (R209). -/
def crsStatStaging : Fld := ⟨Reg.crsStat, 25, 1⟩
/-- CRS_STAT.STGFULLSEEN (R209). -/
def crsStatStgfullseen : Fld := ⟨Reg.crsStat, 24, 1⟩
/-- CRS_LAYOUT.WSEL (R209). -/
def crsLayoutWsel : Fld := ⟨Reg.crsLayout, 8, 2⟩
/-- CRS_LAYOUT.PLY2 (R209). -/
def crsLayoutPly2 : Fld := ⟨Reg.crsLayout, 4, 1⟩
/-- CRS_STAGE.LIMIT (R209). -/
def crsStageLimit : Fld := ⟨Reg.crsStage, 24, 8⟩
/-- CRS_STAGE.ON (R209). -/
def crsStageOn : Fld := ⟨Reg.crsStage, 16, 8⟩
/-- CRS_STAGE.OFF (R209). -/
def crsStageOff : Fld := ⟨Reg.crsStage, 8, 8⟩
/-- CRS_STAGE.DRAIN (R209). -/
def crsStageDrain : Fld := ⟨Reg.crsStage, 0, 8⟩
/-- CRS_FREE.DIES (R209). -/
def crsFreeDies : Fld := ⟨Reg.crsFree, 16, 16⟩
/-- CRS_FREE.F (R209). -/
def crsFreeF : Fld := ⟨Reg.crsFree, 0, 16⟩
/-- CRS_OPEN.COURSES (R209). -/
def crsOpenCourses : Fld := ⟨Reg.crsOpen, 0, 16⟩
/-- CRS_BUF.LIMMIB (R209). -/
def crsBufLimmib : Fld := ⟨Reg.crsBuf, 16, 16⟩
/-- CRS_BUF.USEDMIB (R209). -/
def crsBufUsedmib : Fld := ⟨Reg.crsBuf, 0, 16⟩
/-- CRS_STG_USE.GIB (R209). -/
def crsStgUseGib : Fld := ⟨Reg.crsStgUse, 0, 14⟩
/-- CRS_RATE.HOSTMBPS (R209). -/
def crsRateHostmbps : Fld := ⟨Reg.crsRate, 16, 16⟩
/-- CRS_RATE.STGMBPS (R209). -/
def crsRateStgmbps : Fld := ⟨Reg.crsRate, 0, 16⟩
/-- CRS_ROWAGE.MS (R209). -/
def crsRowageMs : Fld := ⟨Reg.crsRowage, 0, 16⟩
/-- CRS_SEQ_LO.SEQ (R209). -/
def crsSeqLoSeq : Fld := ⟨Reg.crsSeqLo, 0, 32⟩
/-- CRS_SEQ_HI.SEQ (R209). -/
def crsSeqHiSeq : Fld := ⟨Reg.crsSeqHi, 0, 16⟩
/-- CRS_RETIRED.BLOCKS (R209). -/
def crsRetiredBlocks : Fld := ⟨Reg.crsRetired, 0, 32⟩
/-- CRS_TINKED.WL (R209). -/
def crsTinkedWl : Fld := ⟨Reg.crsTinked, 0, 32⟩
/-- CRS_EXP.CAUSE (R209). -/
def crsExpCause : Fld := ⟨Reg.crsExp, 29, 3⟩
/-- CRS_EXP.ENTRIES (R209). -/
def crsExpEntries : Fld := ⟨Reg.crsExp, 0, 16⟩
/-- CRS_PFPEND.NOW (R209). -/
def crsPfpendNow : Fld := ⟨Reg.crsPfpend, 0, 8⟩
/-- CRS_PFLOG.VALID (R209). -/
def crsPflogValid (i : Nat) : Fld := ⟨Reg.crsPflog i, 31, 1⟩
/-- CRS_PFLOG.KIND (R209). -/
def crsPflogKind (i : Nat) : Fld := ⟨Reg.crsPflog i, 29, 2⟩
/-- CRS_PFLOG.DIE (R209). -/
def crsPflogDie (i : Nat) : Fld := ⟨Reg.crsPflog i, 12, 13⟩
/-- CRS_PFLOG.BLOCK (R209). -/
def crsPflogBlock (i : Nat) : Fld := ⟨Reg.crsPflog i, 0, 12⟩
/-- CRS_CNT.COUNT (R209). -/
def crsCntCount (i : Nat) : Fld := ⟨Reg.crsCnt i, 0, 32⟩
/-- CRS_RUH.ACTIVE (R209). -/
def crsRuhActive (i : Nat) : Fld := ⟨Reg.crsRuh i, 15, 1⟩
/-- CRS_RUH.OPEN (R209). -/
def crsRuhOpen (i : Nat) : Fld := ⟨Reg.crsRuh i, 0, 12⟩
/-- CRS_SKFREE.MIN (R209). -/
def crsSkfreeMin (i : Nat) : Fld := ⟨Reg.crsSkfree i, 0, 16⟩
/-- CRS_SKOPEN.OPEN (R209). -/
def crsSkopenOpen (i : Nat) : Fld := ⟨Reg.crsSkopen i, 0, 16⟩
/-- ECC_CTL.CNTCLR (R236). -/
def eccCtlCntclr : Fld := ⟨Reg.eccCtl, 31, 1⟩
/-- ECC_CTL.SLOWLOGCLR (R236). -/
def eccCtlSlowlogclr : Fld := ⟨Reg.eccCtl, 30, 1⟩
/-- ECC_CTL.RELEASE (R236). -/
def eccCtlRelease : Fld := ⟨Reg.eccCtl, 29, 1⟩
/-- ECC_CTL.TCUTEN (R236). -/
def eccCtlTcuten : Fld := ⟨Reg.eccCtl, 1, 1⟩
/-- ECC_CTL.PREREC (R236). -/
def eccCtlPrerec : Fld := ⟨Reg.eccCtl, 0, 1⟩
/-- ECC_STAT.SLOWSEEN (R236). -/
def eccStatSlowseen : Fld := ⟨Reg.eccStat, 31, 1⟩
/-- ECC_STAT.UESEEN (R236). -/
def eccStatUeseen : Fld := ⟨Reg.eccStat, 30, 1⟩
/-- ECC_STAT.CHKSEEN (R236). -/
def eccStatChkseen : Fld := ⟨Reg.eccStat, 29, 1⟩
/-- ECC_STAT.RECFAILSEEN (R236). -/
def eccStatRecfailseen : Fld := ⟨Reg.eccStat, 28, 1⟩
/-- ECC_STAT.SUSLIMSEEN (R236). -/
def eccStatSuslimseen : Fld := ⟨Reg.eccStat, 27, 1⟩
/-- ECC_TCUT.DEADLINE (R236). -/
def eccTcutDeadline : Fld := ⟨Reg.eccTcut, 0, 10⟩
/-- ECC_SLOW_CTL.MISSES (R236). -/
def eccSlowCtlMisses : Fld := ⟨Reg.eccSlowCtl, 28, 4⟩
/-- ECC_SLOW_CTL.HOLDS (R236). -/
def eccSlowCtlHolds : Fld := ⟨Reg.eccSlowCtl, 16, 8⟩
/-- ECC_SLOW_CTL.PROBEMS (R236). -/
def eccSlowCtlProbems : Fld := ⟨Reg.eccSlowCtl, 8, 8⟩
/-- ECC_SLOW_CTL.PROBETR (R236). -/
def eccSlowCtlProbetr : Fld := ⟨Reg.eccSlowCtl, 0, 8⟩
/-- ECC_SUS_CTL.PGMMIN (R236). -/
def eccSusCtlPgmmin : Fld := ⟨Reg.eccSusCtl, 24, 8⟩
/-- ECC_SUS_CTL.ERSMIN (R236). -/
def eccSusCtlErsmin : Fld := ⟨Reg.eccSusCtl, 16, 8⟩
/-- ECC_SUS_CTL.PGMMAX (R236). -/
def eccSusCtlPgmmax : Fld := ⟨Reg.eccSusCtl, 8, 8⟩
/-- ECC_SUS_CTL.ERSMAX (R236). -/
def eccSusCtlErsmax : Fld := ⟨Reg.eccSusCtl, 0, 8⟩
/-- ECC_SOFT_CTL.L3EN (R236). -/
def eccSoftCtlL3en : Fld := ⟨Reg.eccSoftCtl, 16, 1⟩
/-- ECC_SOFT_CTL.L2MAX (R236). -/
def eccSoftCtlL2max : Fld := ⟨Reg.eccSoftCtl, 8, 4⟩
/-- ECC_SOFT_CTL.DELTA (R236). -/
def eccSoftCtlDelta : Fld := ⟨Reg.eccSoftCtl, 0, 8⟩
/-- ECC_SLOW_STAT.NOW (R236). -/
def eccSlowStatNow : Fld := ⟨Reg.eccSlowStat, 0, 14⟩
/-- ECC_UE_LOC.VALID (R236). -/
def eccUeLocValid : Fld := ⟨Reg.eccUeLoc, 31, 1⟩
/-- ECC_UE_LOC.DIE (R236). -/
def eccUeLocDie : Fld := ⟨Reg.eccUeLoc, 12, 13⟩
/-- ECC_UE_LOC.BLOCK (R236). -/
def eccUeLocBlock : Fld := ⟨Reg.eccUeLoc, 0, 12⟩
/-- ECC_UE_PAGE.CAUSE (R236). -/
def eccUePageCause : Fld := ⟨Reg.eccUePage, 29, 3⟩
/-- ECC_UE_PAGE.PAGE (R236). -/
def eccUePagePage : Fld := ⟨Reg.eccUePage, 2, 13⟩
/-- ECC_UE_PAGE.SLOT (R236). -/
def eccUePageSlot : Fld := ⟨Reg.eccUePage, 0, 2⟩
/-- ECC_CHK_LOC.VALID (R236). -/
def eccChkLocValid : Fld := ⟨Reg.eccChkLoc, 31, 1⟩
/-- ECC_CHK_LOC.DIE (R236). -/
def eccChkLocDie : Fld := ⟨Reg.eccChkLoc, 12, 13⟩
/-- ECC_CHK_LOC.BLOCK (R236). -/
def eccChkLocBlock : Fld := ⟨Reg.eccChkLoc, 0, 12⟩
/-- ECC_CHK_PAGE.KIND (R236). -/
def eccChkPageKind : Fld := ⟨Reg.eccChkPage, 30, 2⟩
/-- ECC_CHK_PAGE.PAGE (R236). -/
def eccChkPagePage : Fld := ⟨Reg.eccChkPage, 2, 13⟩
/-- ECC_CHK_PAGE.SLOT (R236). -/
def eccChkPageSlot : Fld := ⟨Reg.eccChkPage, 0, 2⟩
/-- ECC_SYNW.MAX (R236). -/
def eccSynwMax : Fld := ⟨Reg.eccSynw, 16, 16⟩
/-- ECC_SYNW.MEAN (R236). -/
def eccSynwMean : Fld := ⟨Reg.eccSynw, 0, 16⟩
/-- ECC_SLOWLOG.VALID (R236). -/
def eccSlowlogValid (i : Nat) : Fld := ⟨Reg.eccSlowlog i, 31, 1⟩
/-- ECC_SLOWLOG.EVENT (R236). -/
def eccSlowlogEvent (i : Nat) : Fld := ⟨Reg.eccSlowlog i, 30, 1⟩
/-- ECC_SLOWLOG.DIE (R236). -/
def eccSlowlogDie (i : Nat) : Fld := ⟨Reg.eccSlowlog i, 12, 13⟩
/-- ECC_SLOWLOG.AGE (R236). -/
def eccSlowlogAge (i : Nat) : Fld := ⟨Reg.eccSlowlog i, 0, 12⟩
/-- ECC_CNT.COUNT (R236). -/
def eccCntCount (i : Nat) : Fld := ⟨Reg.eccCnt i, 0, 32⟩
/-- ECC_HARDBUSY.BUSY (R236). -/
def eccHardbusyBusy : Fld := ⟨Reg.eccHardbusy, 0, 16⟩
/-- ECC_SOFTBUSY.BUSY (R236). -/
def eccSoftbusyBusy : Fld := ⟨Reg.eccSoftbusy, 0, 16⟩
/-- ECC_RECBUSY.NOW (R236). -/
def eccRecbusyNow : Fld := ⟨Reg.eccRecbusy, 0, 16⟩
/-- ECC_PROBEOUT.NOW (R236). -/
def eccProbeoutNow : Fld := ⟨Reg.eccProbeout, 0, 16⟩
/-- ECC_SKSLOW.DIES (R236). -/
def eccSkslowDies (i : Nat) : Fld := ⟨Reg.eccSkslow i, 0, 16⟩
/-- ECC_SKCUT.CUTS (R236). -/
def eccSkcutCuts (i : Nat) : Fld := ⟨Reg.eccSkcut i, 0, 16⟩
/-- ECC_SKSUS.SUSP (R236). -/
def eccSksusSusp (i : Nat) : Fld := ⟨Reg.eccSksus i, 0, 16⟩
/-- RCL_CTL.CNTCLR (R255). -/
def rclCtlCntclr : Fld := ⟨Reg.rclCtl, 31, 1⟩
/-- RCL_CTL.TTCLR (R255). -/
def rclCtlTtclr : Fld := ⟨Reg.rclCtl, 30, 1⟩
/-- RCL_STAT.TENSIONSEEN (R255). -/
def rclStatTensionseen : Fld := ⟨Reg.rclStat, 31, 1⟩
/-- RCL_STAT.TENS7SEEN (R255). -/
def rclStatTens7seen : Fld := ⟨Reg.rclStat, 30, 1⟩
/-- RCL_STAT.HOLDSEEN (R255). -/
def rclStatHoldseen : Fld := ⟨Reg.rclStat, 29, 1⟩
/-- RCL_STAT.SPARESEEN (R255). -/
def rclStatSpareseen : Fld := ⟨Reg.rclStat, 28, 1⟩
/-- RCL_STAT.DEGRADEDSEEN (R255). -/
def rclStatDegradedseen : Fld := ⟨Reg.rclStat, 27, 1⟩
/-- RCL_STAT.ROSEEN (R255). -/
def rclStatRoseen : Fld := ⟨Reg.rclStat, 26, 1⟩
/-- RCL_STAT.DIEOUTSEEN (R255). -/
def rclStatDieoutseen : Fld := ⟨Reg.rclStat, 25, 1⟩
/-- RCL_VICT.MODE (R255). -/
def rclVictMode : Fld := ⟨Reg.rclVict, 31, 1⟩
/-- RCL_VICT.TARGET (R255). -/
def rclVictTarget : Fld := ⟨Reg.rclVict, 16, 8⟩
/-- RCL_VICT.BATCH (R255). -/
def rclVictBatch : Fld := ⟨Reg.rclVict, 0, 6⟩
/-- RCL_REF_CTL.AGEDAYS (R255). -/
def rclRefCtlAgedays : Fld := ⟨Reg.rclRefCtl, 16, 16⟩
/-- RCL_REF_CTL.RDLIM (R255). -/
def rclRefCtlRdlim : Fld := ⟨Reg.rclRefCtl, 0, 8⟩
/-- RCL_EOL.THRESH (R255). -/
def rclEolThresh : Fld := ⟨Reg.rclEol, 24, 8⟩
/-- RCL_EOL.DEGRADED (R255). -/
def rclEolDegraded : Fld := ⟨Reg.rclEol, 16, 8⟩
/-- RCL_EOL.STALLS (R255). -/
def rclEolStalls : Fld := ⟨Reg.rclEol, 0, 8⟩
/-- RCL_TENSION.LEVEL (R255). -/
def rclTensionLevel : Fld := ⟨Reg.rclTension, 16, 3⟩
/-- RCL_TENSION.RCLLVL (R255). -/
def rclTensionRcllvl : Fld := ⟨Reg.rclTension, 0, 3⟩
/-- RCL_SPARE.S0 (R255). -/
def rclSpareS0 : Fld := ⟨Reg.rclSpare, 0, 32⟩
/-- RCL_SPUSED.USED (R255). -/
def rclSpusedUsed : Fld := ⟨Reg.rclSpused, 0, 32⟩
/-- RCL_HEALTH.PCTUSED (R255). -/
def rclHealthPctused : Fld := ⟨Reg.rclHealth, 24, 8⟩
/-- RCL_HEALTH.AVAIL (R255). -/
def rclHealthAvail : Fld := ⟨Reg.rclHealth, 0, 14⟩
/-- RCL_EC_MIN.COUNT (R255). -/
def rclEcMinCount : Fld := ⟨Reg.rclEcMin, 0, 32⟩
/-- RCL_EC_MEAN.COUNT (R255). -/
def rclEcMeanCount : Fld := ⟨Reg.rclEcMean, 0, 32⟩
/-- RCL_EC_MAX.COUNT (R255). -/
def rclEcMaxCount : Fld := ⟨Reg.rclEcMax, 0, 32⟩
/-- RCL_RATED.CYCLES (R255). -/
def rclRatedCycles : Fld := ⟨Reg.rclRated, 0, 16⟩
/-- RCL_QUEUE.REFQ (R255). -/
def rclQueueRefq : Fld := ⟨Reg.rclQueue, 16, 16⟩
/-- RCL_QUEUE.VICQ (R255). -/
def rclQueueVicq : Fld := ⟨Reg.rclQueue, 0, 16⟩
/-- RCL_COPY.MBPS (R255). -/
def rclCopyMbps : Fld := ⟨Reg.rclCopy, 16, 16⟩
/-- RCL_COPY.WAF (R255). -/
def rclCopyWaf : Fld := ⟨Reg.rclCopy, 0, 16⟩
/-- RCL_LASTVIC.REASON (R255). -/
def rclLastvicReason : Fld := ⟨Reg.rclLastvic, 29, 3⟩
/-- RCL_LASTVIC.VALIDPCT (R255). -/
def rclLastvicValidpct : Fld := ⟨Reg.rclLastvic, 0, 8⟩
/-- RCL_DIESOUT.DIES (R255). -/
def rclDiesoutDies : Fld := ⟨Reg.rclDiesout, 0, 14⟩
/-- RCL_RO.RO (R255). -/
def rclRoRo : Fld := ⟨Reg.rclRo, 31, 1⟩
/-- RCL_RO.CAUSE (R255). -/
def rclRoCause : Fld := ⟨Reg.rclRo, 29, 2⟩
/-- RCL_RETDAY.BLOCKS (R255). -/
def rclRetdayBlocks : Fld := ⟨Reg.rclRetday, 0, 32⟩
/-- RCL_TENSTIME.SECONDS (R255). -/
def rclTenstimeSeconds (i : Nat) : Fld := ⟨Reg.rclTenstime i, 0, 32⟩
/-- RCL_CNT.COUNT (R255). -/
def rclCntCount (i : Nat) : Fld := ⟨Reg.rclCnt i, 0, 32⟩
/-- LIF_CTL.CNTCLR (R286). -/
def lifCtlCntclr : Fld := ⟨Reg.lifCtl, 31, 1⟩
/-- LIF_CTL.PFHISTCLR (R286). -/
def lifCtlPfhistclr : Fld := ⟨Reg.lifCtl, 30, 1⟩
/-- LIF_STAT.PFAILSEEN (R286). -/
def lifStatPfailseen : Fld := ⟨Reg.lifStat, 31, 1⟩
/-- LIF_STAT.DUMPSHORTSEEN (R286). -/
def lifStatDumpshortseen : Fld := ⟨Reg.lifStat, 30, 1⟩
/-- LIF_STAT.COPYERRSEEN (R286). -/
def lifStatCopyerrseen : Fld := ⟨Reg.lifStat, 29, 1⟩
/-- LIF_STAT.GAPSEEN (R286). -/
def lifStatGapseen : Fld := ⟨Reg.lifStat, 28, 1⟩
/-- LIF_STAT.JURGENTSEEN (R286). -/
def lifStatJurgentseen : Fld := ⟨Reg.lifStat, 27, 1⟩
/-- LIF_STAT.JFULLSEEN (R286). -/
def lifStatJfullseen : Fld := ⟨Reg.lifStat, 26, 1⟩
/-- LIF_STAT.CKPTFAILSEEN (R286). -/
def lifStatCkptfailseen : Fld := ⟨Reg.lifStat, 25, 1⟩
/-- LIF_STAT.HOLDOK (R286). -/
def lifStatHoldok : Fld := ⟨Reg.lifStat, 24, 1⟩
/-- LIF_HOLDUP.DECL (R286). -/
def lifHoldupDecl : Fld := ⟨Reg.lifHoldup, 0, 10⟩
/-- LIF_HOLD_STAT.NEED (R286). -/
def lifHoldStatNeed : Fld := ⟨Reg.lifHoldStat, 16, 10⟩
/-- LIF_HOLD_STAT.DUMPEST (R286). -/
def lifHoldStatDumpest : Fld := ⟨Reg.lifHoldStat, 0, 10⟩
/-- LIF_GSEQ_LO.SEQ (R286). -/
def lifGseqLoSeq : Fld := ⟨Reg.lifGseqLo, 0, 32⟩
/-- LIF_GSEQ_HI.SEQ (R286). -/
def lifGseqHiSeq : Fld := ⟨Reg.lifGseqHi, 0, 16⟩
/-- LIF_JUSE.COURSESB (R286). -/
def lifJuseCoursesb : Fld := ⟨Reg.lifJuse, 24, 8⟩
/-- LIF_JUSE.COURSESA (R286). -/
def lifJuseCoursesa : Fld := ⟨Reg.lifJuse, 16, 8⟩
/-- LIF_JUSE.SKB (R286). -/
def lifJuseSkb : Fld := ⟨Reg.lifJuse, 8, 3⟩
/-- LIF_JUSE.SKA (R286). -/
def lifJuseSka : Fld := ⟨Reg.lifJuse, 0, 3⟩
/-- LIF_CKPT_CTL.URGENT (R286). -/
def lifCkptCtlUrgent : Fld := ⟨Reg.lifCkptCtl, 8, 8⟩
/-- LIF_CKPT_CTL.INTERVAL (R286). -/
def lifCkptCtlInterval : Fld := ⟨Reg.lifCkptCtl, 0, 8⟩
/-- LIF_CKPT_STAT.URGENT (R286). -/
def lifCkptStatUrgent : Fld := ⟨Reg.lifCkptStat, 31, 1⟩
/-- LIF_CKPT_STAT.NEXTSEG (R286). -/
def lifCkptStatNextseg : Fld := ⟨Reg.lifCkptStat, 16, 13⟩
/-- LIF_CKPT_STAT.ROUNDS (R286). -/
def lifCkptStatRounds : Fld := ⟨Reg.lifCkptStat, 0, 16⟩
/-- LIF_CKPT_AGE.OLDEST (R286). -/
def lifCkptAgeOldest : Fld := ⟨Reg.lifCkptAge, 0, 16⟩
/-- LIF_PF_LAST.DUMPMIB (R286). -/
def lifPfLastDumpmib : Fld := ⟨Reg.lifPfLast, 16, 16⟩
/-- LIF_PF_LAST.QUIET (R286). -/
def lifPfLastQuiet : Fld := ⟨Reg.lifPfLast, 0, 16⟩
/-- LIF_PF_MARGIN.MARGIN (R286). -/
def lifPfMarginMargin : Fld := ⟨Reg.lifPfMargin, 0, 16⟩
/-- LIF_REC_LAST.KIND (R286). -/
def lifRecLastKind : Fld := ⟨Reg.lifRecLast, 30, 2⟩
/-- LIF_REC_LAST.MS (R286). -/
def lifRecLastMs : Fld := ⟨Reg.lifRecLast, 0, 16⟩
/-- LIF_REC_GRP.GROUPS (R286). -/
def lifRecGrpGroups : Fld := ⟨Reg.lifRecGrp, 0, 32⟩
/-- LIF_ANCHOR.WRITES (R286). -/
def lifAnchorWrites : Fld := ⟨Reg.lifAnchor, 0, 32⟩
/-- LIF_COPYERR.VALID (R286). -/
def lifCopyerrValid : Fld := ⟨Reg.lifCopyerr, 31, 1⟩
/-- LIF_COPYERR.COPY (R286). -/
def lifCopyerrCopy : Fld := ⟨Reg.lifCopyerr, 30, 1⟩
/-- LIF_COPYERR.CAUSE (R286). -/
def lifCopyerrCause : Fld := ⟨Reg.lifCopyerr, 28, 2⟩
/-- LIF_COPYERR.GSEQ (R286). -/
def lifCopyerrGseq : Fld := ⟨Reg.lifCopyerr, 0, 28⟩
/-- LIF_PFHIST.VALID (R286). -/
def lifPfhistValid (i : Nat) : Fld := ⟨Reg.lifPfhist i, 31, 1⟩
/-- LIF_PFHIST.SHORT (R286). -/
def lifPfhistShort (i : Nat) : Fld := ⟨Reg.lifPfhist i, 30, 1⟩
/-- LIF_PFHIST.DUMP (R286). -/
def lifPfhistDump (i : Nat) : Fld := ⟨Reg.lifPfhist i, 17, 13⟩
/-- LIF_PFHIST.QUIET (R286). -/
def lifPfhistQuiet (i : Nat) : Fld := ⟨Reg.lifPfhist i, 0, 17⟩
/-- LIF_CNT.COUNT (R286). -/
def lifCntCount (i : Nat) : Fld := ⟨Reg.lifCnt i, 0, 32⟩
/-- SKN_CTL.CNTCLR (R308). -/
def sknCtlCntclr (i : Nat) : Fld := ⟨Reg.sknCtl i, 31, 1⟩
/-- SKN_CTL.RETRAIN (R308). -/
def sknCtlRetrain (i : Nat) : Fld := ⟨Reg.sknCtl i, 30, 1⟩
/-- SKN_STAT.LINKUP (R308). -/
def sknStatLinkup (i : Nat) : Fld := ⟨Reg.sknStat i, 31, 1⟩
/-- SKN_STAT.DOWNSEEN (R308). -/
def sknStatDownseen (i : Nat) : Fld := ⟨Reg.sknStat i, 30, 1⟩
/-- SKN_STAT.FAILED (R308). -/
def sknStatFailed (i : Nat) : Fld := ⟨Reg.sknStat i, 29, 1⟩
/-- SKN_STAT.TOUTSEEN (R308). -/
def sknStatToutseen (i : Nat) : Fld := ⟨Reg.sknStat i, 28, 1⟩
/-- SKN_STAT.OUTSEEN (R308). -/
def sknStatOutseen (i : Nat) : Fld := ⟨Reg.sknStat i, 27, 1⟩
/-- SKN_STAT.FALLBACKSEEN (R308). -/
def sknStatFallbackseen (i : Nat) : Fld := ⟨Reg.sknStat i, 26, 1⟩
/-- SKN_LINK.RECOVERS (R308). -/
def sknLinkRecovers (i : Nat) : Fld := ⟨Reg.sknLink i, 16, 16⟩
/-- SKN_LINK.RATE (R308). -/
def sknLinkRate (i : Nat) : Fld := ⟨Reg.sknLink i, 0, 16⟩
/-- SKN_TEMP.TJ (R308). -/
def sknTempTj (i : Nat) : Fld := ⟨Reg.sknTemp i, 16, 8⟩
/-- SKN_TEMP.TRAINTJ (R308). -/
def sknTempTraintj (i : Nat) : Fld := ⟨Reg.sknTemp i, 8, 8⟩
/-- SKN_SCHED.LUNQ (R308). -/
def sknSchedLunq (i : Nat) : Fld := ⟨Reg.sknSched i, 0, 8⟩
/-- SKN_POLL.FIRST (R308). -/
def sknPollFirst (i : Nat) : Fld := ⟨Reg.sknPoll i, 24, 8⟩
/-- SKN_POLL.RDINT (R308). -/
def sknPollRdint (i : Nat) : Fld := ⟨Reg.sknPoll i, 16, 8⟩
/-- SKN_POLL.PEINT (R308). -/
def sknPollPeint (i : Nat) : Fld := ⟨Reg.sknPoll i, 8, 8⟩
/-- SKN_POLL.TOMULT (R308). -/
def sknPollTomult (i : Nat) : Fld := ⟨Reg.sknPoll i, 0, 8⟩
/-- SKN_TRAIN.DT (R308). -/
def sknTrainDt (i : Nat) : Fld := ⟨Reg.sknTrain i, 24, 8⟩
/-- SKN_TRAIN.ZQSMS (R308). -/
def sknTrainZqsms (i : Nat) : Fld := ⟨Reg.sknTrain i, 0, 16⟩
/-- SKN_ZQ.PDCODE (R308). -/
def sknZqPdcode (i : Nat) : Fld := ⟨Reg.sknZq i, 16, 8⟩
/-- SKN_ZQ.PUCODE (R308). -/
def sknZqPucode (i : Nat) : Fld := ⟨Reg.sknZq i, 8, 8⟩
/-- SKN_ZQ.AGE (R308). -/
def sknZqAge (i : Nat) : Fld := ⟨Reg.sknZq i, 0, 8⟩
/-- SKN_QUEUE.RD (R308). -/
def sknQueueRd (i : Nat) : Fld := ⟨Reg.sknQueue i, 16, 16⟩
/-- SKN_QUEUE.PE (R308). -/
def sknQueuePe (i : Nat) : Fld := ⟨Reg.sknQueue i, 0, 16⟩
/-- SKN_BUSY.CH (R308). -/
def sknBusyCh (i : Nat) : Fld := ⟨Reg.sknBusy i, 16, 7⟩
/-- SKN_BUSY.LUN (R308). -/
def sknBusyLun (i : Nat) : Fld := ⟨Reg.sknBusy i, 0, 11⟩
/-- SKN_XFER.MAXWAIT (R308). -/
def sknXferMaxwait (i : Nat) : Fld := ⟨Reg.sknXfer i, 16, 16⟩
/-- SKN_XFER.MEANWAIT (R308). -/
def sknXferMeanwait (i : Nat) : Fld := ⟨Reg.sknXfer i, 0, 16⟩
/-- SKN_DIES.INSVC (R308). -/
def sknDiesInsvc (i : Nat) : Fld := ⟨Reg.sknDies i, 11, 11⟩
/-- SKN_DIES.NOTUSED (R308). -/
def sknDiesNotused (i : Nat) : Fld := ⟨Reg.sknDies i, 0, 11⟩
/-- SKN_ERRLOG.VALID (R308). -/
def sknErrlogValid (i : Nat) : Fld := ⟨Reg.sknErrlog i, 31, 1⟩
/-- SKN_ERRLOG.KIND (R308). -/
def sknErrlogKind (i : Nat) : Fld := ⟨Reg.sknErrlog i, 28, 3⟩
/-- SKN_ERRLOG.CH (R308). -/
def sknErrlogCh (i : Nat) : Fld := ⟨Reg.sknErrlog i, 4, 6⟩
/-- SKN_ERRLOG.LUN (R308). -/
def sknErrlogLun (i : Nat) : Fld := ⟨Reg.sknErrlog i, 0, 4⟩
/-- SKN_DOWN.US (R308). -/
def sknDownUs (i : Nat) : Fld := ⟨Reg.sknDown i, 0, 32⟩
/-- SKN_RATE.AT4800 (R308). -/
def sknRateAt4800 (i : Nat) : Fld := ⟨Reg.sknRate i, 24, 7⟩
/-- SKN_RATE.AT3600 (R308). -/
def sknRateAt3600 (i : Nat) : Fld := ⟨Reg.sknRate i, 16, 7⟩
/-- SKN_RATE.BELOW (R308). -/
def sknRateBelow (i : Nat) : Fld := ⟨Reg.sknRate i, 8, 7⟩
/-- SKN_RATE.DOWN (R308). -/
def sknRateDown (i : Nat) : Fld := ⟨Reg.sknRate i, 0, 7⟩
/-- SKN_FWVER.MAJOR (R308). -/
def sknFwverMajor (i : Nat) : Fld := ⟨Reg.sknFwver i, 24, 8⟩
/-- SKN_FWVER.MINOR (R308). -/
def sknFwverMinor (i : Nat) : Fld := ⟨Reg.sknFwver i, 16, 8⟩
/-- SKN_FWVER.PATCH (R308). -/
def sknFwverPatch (i : Nat) : Fld := ⟨Reg.sknFwver i, 0, 16⟩
/-- SKN_CNT.COUNT (R308). -/
def sknCntCount (i j : Nat) : Fld := ⟨Reg.sknCnt i j, 0, 32⟩
/-- CHN_CFG.RETRAIN (R308). -/
def chnCfgRetrain (i : Nat) : Fld := ⟨Reg.chnCfg i, 31, 1⟩
/-- CHN_CFG.MAXRATE (R308). -/
def chnCfgMaxrate (i : Nat) : Fld := ⟨Reg.chnCfg i, 16, 3⟩
/-- CHN_CFG.LUNOUT (R308). -/
def chnCfgLunout (i : Nat) : Fld := ⟨Reg.chnCfg i, 0, 16⟩
/-- CHN_STAT.UP (R308). -/
def chnStatUp (i : Nat) : Fld := ⟨Reg.chnStat i, 31, 1⟩
/-- CHN_STAT.RATE (R308). -/
def chnStatRate (i : Nat) : Fld := ⟨Reg.chnStat i, 28, 3⟩
/-- CHN_STAT.FALLBACK (R308). -/
def chnStatFallback (i : Nat) : Fld := ⟨Reg.chnStat i, 27, 1⟩
/-- CHN_STAT.LUNS (R308). -/
def chnStatLuns (i : Nat) : Fld := ⟨Reg.chnStat i, 16, 5⟩
/-- CHN_STAT.INSVC (R308). -/
def chnStatInsvc (i : Nat) : Fld := ⟨Reg.chnStat i, 0, 16⟩
/-- CHN_ERR.TIMEOUTS (R308). -/
def chnErrTimeouts (i : Nat) : Fld := ⟨Reg.chnErr i, 24, 8⟩
/-- CHN_ERR.RESETS (R308). -/
def chnErrResets (i : Nat) : Fld := ⟨Reg.chnErr i, 16, 8⟩
/-- CHN_ERR.TRAINS (R308). -/
def chnErrTrains (i : Nat) : Fld := ⟨Reg.chnErr i, 8, 8⟩
/-- CHN_ERR.FAILS (R308). -/
def chnErrFails (i : Nat) : Fld := ⟨Reg.chnErr i, 0, 8⟩
/-- HBM_CTL.CNTCLR (R328). -/
def hbmCtlCntclr : Fld := ⟨Reg.hbmCtl, 31, 1⟩
/-- HBM_CTL.SCRUBNOW (R328). -/
def hbmCtlScrubnow : Fld := ⟨Reg.hbmCtl, 30, 1⟩
/-- HBM_CTL.SCRUBH (R328). -/
def hbmCtlScrubh : Fld := ⟨Reg.hbmCtl, 0, 8⟩
/-- HBM_STAT.CESEEN (R328). -/
def hbmStatCeseen : Fld := ⟨Reg.hbmStat, 31, 1⟩
/-- HBM_STAT.UESEEN (R328). -/
def hbmStatUeseen : Fld := ⟨Reg.hbmStat, 30, 1⟩
/-- HBM_STAT.THROTSEEN (R328). -/
def hbmStatThrotseen : Fld := ⟨Reg.hbmStat, 29, 1⟩
/-- HBM_STAT.HOTSEEN (R328). -/
def hbmStatHotseen : Fld := ⟨Reg.hbmStat, 28, 1⟩
/-- HBM_STAT.ZERODONE (R328). -/
def hbmStatZerodone : Fld := ⟨Reg.hbmStat, 27, 1⟩
/-- HBM_STAT.SREF (R328). -/
def hbmStatSref : Fld := ⟨Reg.hbmStat, 26, 1⟩
/-- HBM_STAT.DLYOK (R328). -/
def hbmStatDlyok : Fld := ⟨Reg.hbmStat, 25, 1⟩
/-- HBM_ORDER.WS (R328). -/
def hbmOrderWs : Fld := ⟨Reg.hbmOrder, 10, 2⟩
/-- HBM_ORDER.TBL (R328). -/
def hbmOrderTbl : Fld := ⟨Reg.hbmOrder, 8, 2⟩
/-- HBM_ORDER.STG (R328). -/
def hbmOrderStg : Fld := ⟨Reg.hbmOrder, 6, 2⟩
/-- HBM_ORDER.WBUF (R328). -/
def hbmOrderWbuf : Fld := ⟨Reg.hbmOrder, 4, 2⟩
/-- HBM_ORDER.OVL (R328). -/
def hbmOrderOvl : Fld := ⟨Reg.hbmOrder, 2, 2⟩
/-- HBM_ORDER.CMAP (R328). -/
def hbmOrderCmap : Fld := ⟨Reg.hbmOrder, 0, 2⟩
/-- HBM_WDRAIN.HIGH (R328). -/
def hbmWdrainHigh : Fld := ⟨Reg.hbmWdrain, 8, 8⟩
/-- HBM_WDRAIN.LOW (R328). -/
def hbmWdrainLow : Fld := ⟨Reg.hbmWdrain, 0, 8⟩
/-- HBM_ACT_CTL.ROWMAX (R328). -/
def hbmActCtlRowmax : Fld := ⟨Reg.hbmActCtl, 16, 16⟩
/-- HBM_ACT_CTL.THROTMS (R328). -/
def hbmActCtlThrotms : Fld := ⟨Reg.hbmActCtl, 8, 8⟩
/-- HBM_ACT_CTL.TGAP (R328). -/
def hbmActCtlTgap : Fld := ⟨Reg.hbmActCtl, 0, 8⟩
/-- HBM_THROT.PORTS (R328). -/
def hbmThrotPorts : Fld := ⟨Reg.hbmThrot, 24, 8⟩
/-- HBM_THROT.LASTPC (R328). -/
def hbmThrotLastpc : Fld := ⟨Reg.hbmThrot, 0, 7⟩
/-- HBM_ARB.MAXWAIT (R328). -/
def hbmArbMaxwait : Fld := ⟨Reg.hbmArb, 8, 8⟩
/-- HBM_ARB.HITRUN (R328). -/
def hbmArbHitrun : Fld := ⟨Reg.hbmArb, 0, 8⟩
/-- HBM_SCRUB.PCT (R328). -/
def hbmScrubPct : Fld := ⟨Reg.hbmScrub, 16, 8⟩
/-- HBM_SCRUB.HOURS (R328). -/
def hbmScrubHours : Fld := ⟨Reg.hbmScrub, 0, 16⟩
/-- HBM_UE_LAST.AREA (R328). -/
def hbmUeLastArea : Fld := ⟨Reg.hbmUeLast, 29, 3⟩
/-- HBM_UE_LAST.PORT (R328). -/
def hbmUeLastPort : Fld := ⟨Reg.hbmUeLast, 26, 3⟩
/-- HBM_UE_LAST.PC (R328). -/
def hbmUeLastPc : Fld := ⟨Reg.hbmUeLast, 0, 7⟩
/-- HBM_UE_ADDR_LO.ADDR (R328). -/
def hbmUeAddrLoAddr : Fld := ⟨Reg.hbmUeAddrLo, 0, 32⟩
/-- HBM_UE_ADDR_HI.ADDR (R328). -/
def hbmUeAddrHiAddr : Fld := ⟨Reg.hbmUeAddrHi, 0, 6⟩
/-- HBM_ZERO.BUSY (R328). -/
def hbmZeroBusy : Fld := ⟨Reg.hbmZero, 31, 1⟩
/-- HBM_ZERO.MS (R328). -/
def hbmZeroMs : Fld := ⟨Reg.hbmZero, 0, 16⟩
/-- HBM_STACK.TEMP (R328). -/
def hbmStackTemp (i : Nat) : Fld := ⟨Reg.hbmStack i, 24, 8⟩
/-- HBM_STACK.HOT (R328). -/
def hbmStackHot (i : Nat) : Fld := ⟨Reg.hbmStack i, 23, 1⟩
/-- HBM_STACK.SREF (R328). -/
def hbmStackSref (i : Nat) : Fld := ⟨Reg.hbmStack i, 22, 1⟩
/-- HBM_STACK.UE (R328). -/
def hbmStackUe (i : Nat) : Fld := ⟨Reg.hbmStack i, 0, 16⟩
/-- HBM_CNT.COUNT (R328). -/
def hbmCntCount (i : Nat) : Fld := ⟨Reg.hbmCnt i, 0, 32⟩
/-- HBM_PORT.WAITMAX (R328). -/
def hbmPortWaitmax (i : Nat) : Fld := ⟨Reg.hbmPort i, 16, 16⟩
/-- HBM_PORT.GBPS (R328). -/
def hbmPortGbps (i : Nat) : Fld := ⟨Reg.hbmPort i, 0, 16⟩
/-- HBM_PC_DLY.RDQS (R328). -/
def hbmPcDlyRdqs (i : Nat) : Fld := ⟨Reg.hbmPcDly i, 24, 8⟩
/-- HBM_PC_DLY.WDQ (R328). -/
def hbmPcDlyWdq (i : Nat) : Fld := ⟨Reg.hbmPcDly i, 16, 8⟩
/-- HBM_PC_DLY.CA (R328). -/
def hbmPcDlyCa (i : Nat) : Fld := ⟨Reg.hbmPcDly i, 8, 8⟩
/-- HBM_PC_DLY.TC (R328). -/
def hbmPcDlyTc (i : Nat) : Fld := ⟨Reg.hbmPcDly i, 4, 4⟩
/-- HBM_PC_DLY.RL (R328). -/
def hbmPcDlyRl (i : Nat) : Fld := ⟨Reg.hbmPcDly i, 0, 4⟩
/-- HBM_PC_STAT.CE (R328). -/
def hbmPcStatCe (i : Nat) : Fld := ⟨Reg.hbmPcStat i, 24, 8⟩
/-- HBM_PC_STAT.UE (R328). -/
def hbmPcStatUe (i : Nat) : Fld := ⟨Reg.hbmPcStat i, 20, 4⟩
/-- HBM_PC_STAT.THROT (R328). -/
def hbmPcStatThrot (i : Nat) : Fld := ⟨Reg.hbmPcStat i, 16, 4⟩
/-- HBM_PC_STAT.WQ (R328). -/
def hbmPcStatWq (i : Nat) : Fld := ⟨Reg.hbmPcStat i, 8, 8⟩
/-- HBM_PC_STAT.RQ (R328). -/
def hbmPcStatRq (i : Nat) : Fld := ⟨Reg.hbmPcStat i, 0, 8⟩
/-- CMP_CTL.CNTCLR (R345). -/
def cmpCtlCntclr : Fld := ⟨Reg.cmpCtl, 31, 1⟩
/-- CMP_CTL.LEVEL (R345). -/
def cmpCtlLevel : Fld := ⟨Reg.cmpCtl, 0, 3⟩
/-- CMP_STAT.BADSEEN (R345). -/
def cmpStatBadseen : Fld := ⟨Reg.cmpStat, 31, 1⟩
/-- CMP_STAT.VERIFYSEEN (R345). -/
def cmpStatVerifyseen : Fld := ⟨Reg.cmpStat, 30, 1⟩
/-- CMP_STAT.BYPSEEN (R345). -/
def cmpStatBypseen : Fld := ⟨Reg.cmpStat, 29, 1⟩
/-- CMP_BYP.US (R345). -/
def cmpBypUs : Fld := ⟨Reg.cmpByp, 0, 16⟩
/-- CMP_NSCNT.NS (R345). -/
def cmpNscntNs : Fld := ⟨Reg.cmpNscnt, 0, 11⟩
/-- CMP_RATE.INMBPS (R345). -/
def cmpRateInmbps : Fld := ⟨Reg.cmpRate, 16, 16⟩
/-- CMP_RATE.OUTMBPS (R345). -/
def cmpRateOutmbps : Fld := ⟨Reg.cmpRate, 0, 16⟩
/-- CMP_DRATE.MBPS (R345). -/
def cmpDrateMbps : Fld := ⟨Reg.cmpDrate, 0, 16⟩
/-- CMP_RATIO.PCT (R345). -/
def cmpRatioPct : Fld := ⟨Reg.cmpRatio, 0, 16⟩
/-- CMP_BUSY.DEC (R345). -/
def cmpBusyDec : Fld := ⟨Reg.cmpBusy, 16, 6⟩
/-- CMP_BUSY.COMP (R345). -/
def cmpBusyComp : Fld := ⟨Reg.cmpBusy, 0, 5⟩
/-- CMP_ERRLOG.VALID (R345). -/
def cmpErrlogValid : Fld := ⟨Reg.cmpErrlog, 31, 1⟩
/-- CMP_ERRLOG.KIND (R345). -/
def cmpErrlogKind : Fld := ⟨Reg.cmpErrlog, 28, 3⟩
/-- CMP_ERRLOG.OBJ (R345). -/
def cmpErrlogObj : Fld := ⟨Reg.cmpErrlog, 25, 3⟩
/-- CMP_ERRLOG.UNIT (R345). -/
def cmpErrlogUnit : Fld := ⟨Reg.cmpErrlog, 0, 6⟩
/-- CMP_ERRSEQ.SEQ (R345). -/
def cmpErrseqSeq : Fld := ⟨Reg.cmpErrseq, 0, 32⟩
/-- CMP_JSTREAM.SPLIT (R345). -/
def cmpJstreamSplit : Fld := ⟨Reg.cmpJstream, 31, 1⟩
/-- CMP_JSTREAM.POS (R345). -/
def cmpJstreamPos : Fld := ⟨Reg.cmpJstream, 0, 16⟩
/-- CMP_TEST.RUN (R345). -/
def cmpTestRun : Fld := ⟨Reg.cmpTest, 31, 1⟩
/-- CMP_TEST.PASS (R345). -/
def cmpTestPass : Fld := ⟨Reg.cmpTest, 30, 1⟩
/-- CMP_TEST.DECFAIL (R345). -/
def cmpTestDecfail : Fld := ⟨Reg.cmpTest, 29, 1⟩
/-- CMP_TEST.DECFIRST (R345). -/
def cmpTestDecfirst : Fld := ⟨Reg.cmpTest, 16, 5⟩
/-- CMP_TEST.FAILMAP (R345). -/
def cmpTestFailmap : Fld := ⟨Reg.cmpTest, 0, 16⟩
/-- CMP_CNT.COUNT (R345). -/
def cmpCntCount (i : Nat) : Fld := ⟨Reg.cmpCnt i, 0, 32⟩
/-- SUP_CTL.CNTCLR (R360). -/
def supCtlCntclr : Fld := ⟨Reg.supCtl, 31, 1⟩
/-- SUP_CTL.LOGCLR (R360). -/
def supCtlLogclr : Fld := ⟨Reg.supCtl, 30, 1⟩
/-- SUP_STAT.STBYOK (R360). -/
def supStatStbyok : Fld := ⟨Reg.supStat, 31, 1⟩
/-- SUP_STAT.ACTIVE (R360). -/
def supStatActive : Fld := ⟨Reg.supStat, 30, 1⟩
/-- SUP_STAT.RESTORING (R360). -/
def supStatRestoring : Fld := ⟨Reg.supStat, 29, 1⟩
/-- SUP_STAT.FAILED (R360). -/
def supStatFailed : Fld := ⟨Reg.supStat, 28, 1⟩
/-- SUP_STAT.SWSEEN (R360). -/
def supStatSwseen : Fld := ⟨Reg.supStat, 27, 1⟩
/-- SUP_STAT.STFAILSEEN (R360). -/
def supStatStfailseen : Fld := ⟨Reg.supStat, 26, 1⟩
/-- SUP_STAT.LATEACT (R360). -/
def supStatLateact : Fld := ⟨Reg.supStat, 25, 1⟩
/-- SUP_STEST.PERIOD (R360). -/
def supStestPeriod : Fld := ⟨Reg.supStest, 0, 10⟩
/-- SUP_DIAG.WDMS (R360). -/
def supDiagWdms : Fld := ⟨Reg.supDiag, 24, 8⟩
/-- SUP_DIAG.TASKMS (R360). -/
def supDiagTaskms : Fld := ⟨Reg.supDiag, 0, 16⟩
/-- SUP_SNAP.AGE (R360). -/
def supSnapAge : Fld := ⟨Reg.supSnap, 16, 16⟩
/-- SUP_SNAP.SEQ (R360). -/
def supSnapSeq : Fld := ⟨Reg.supSnap, 0, 16⟩
/-- SUP_SWLAST.CAUSE (R360). -/
def supSwlastCause : Fld := ⟨Reg.supSwlast, 29, 3⟩
/-- SUP_SWLAST.MS (R360). -/
def supSwlastMs : Fld := ⟨Reg.supSwlast, 0, 16⟩
/-- SUP_STRES.VALID (R360). -/
def supStresValid : Fld := ⟨Reg.supStres, 31, 1⟩
/-- SUP_STRES.PASS (R360). -/
def supStresPass : Fld := ⟨Reg.supStres, 30, 1⟩
/-- SUP_STRES.CODE (R360). -/
def supStresCode : Fld := ⟨Reg.supStres, 16, 8⟩
/-- SUP_STRES.AGE (R360). -/
def supStresAge : Fld := ⟨Reg.supStres, 0, 16⟩
/-- SUP_PEND.HELD (R360). -/
def supPendHeld : Fld := ⟨Reg.supPend, 0, 16⟩
/-- SUP_HB.MAXUS (R360). -/
def supHbMaxus : Fld := ⟨Reg.supHb, 0, 16⟩
/-- SUP_FWVER.MAJOR (R360). -/
def supFwverMajor : Fld := ⟨Reg.supFwver, 24, 8⟩
/-- SUP_FWVER.MINOR (R360). -/
def supFwverMinor : Fld := ⟨Reg.supFwver, 16, 8⟩
/-- SUP_FWVER.PATCH (R360). -/
def supFwverPatch : Fld := ⟨Reg.supFwver, 0, 16⟩
/-- SUP_SWTOTAL.COUNT (R360). -/
def supSwtotalCount : Fld := ⟨Reg.supSwtotal, 0, 32⟩
/-- SUP_INTENT.OPEN (R360). -/
def supIntentOpen : Fld := ⟨Reg.supIntent, 0, 8⟩
/-- SUP_SWLOG.VALID (R360). -/
def supSwlogValid (i : Nat) : Fld := ⟨Reg.supSwlog i, 31, 1⟩
/-- SUP_SWLOG.CAUSE (R360). -/
def supSwlogCause (i : Nat) : Fld := ⟨Reg.supSwlog i, 28, 3⟩
/-- SUP_SWLOG.MS (R360). -/
def supSwlogMs (i : Nat) : Fld := ⟨Reg.supSwlog i, 16, 12⟩
/-- SUP_SWLOG.AGE (R360). -/
def supSwlogAge (i : Nat) : Fld := ⟨Reg.supSwlog i, 0, 16⟩
/-- SUP_CNT.COUNT (R360). -/
def supCntCount (i : Nat) : Fld := ⟨Reg.supCnt i, 0, 32⟩
/-- PWR_CTL.CNTCLR (R380). -/
def pwrCtlCntclr : Fld := ⟨Reg.pwrCtl, 31, 1⟩
/-- PWR_CTL.HISTCLR (R380). -/
def pwrCtlHistclr : Fld := ⟨Reg.pwrCtl, 30, 1⟩
/-- PWR_CTL.DRAIN (R380). -/
def pwrCtlDrain : Fld := ⟨Reg.pwrCtl, 0, 8⟩
/-- PWR_STAT.PS (R380). -/
def pwrStatPs : Fld := ⟨Reg.pwrStat, 29, 3⟩
/-- PWR_STAT.LASTOP (R380). -/
def pwrStatLastop : Fld := ⟨Reg.pwrStat, 26, 3⟩
/-- PWR_STAT.STEP (R380). -/
def pwrStatStep : Fld := ⟨Reg.pwrStat, 23, 3⟩
/-- PWR_STAT.ABORTSEEN (R380). -/
def pwrStatAbortseen : Fld := ⟨Reg.pwrStat, 22, 1⟩
/-- PWR_STAT.DRAINSEEN (R380). -/
def pwrStatDrainseen : Fld := ⟨Reg.pwrStat, 21, 1⟩
/-- PWR_STAT.ESCSEEN (R380). -/
def pwrStatEscseen : Fld := ⟨Reg.pwrStat, 20, 1⟩
/-- PWR_STAT.ODD (R380). -/
def pwrStatOdd : Fld := ⟨Reg.pwrStat, 19, 1⟩
/-- PWR_PS1.RDGBPS (R380). -/
def pwrPs1Rdgbps : Fld := ⟨Reg.pwrPs1, 16, 16⟩
/-- PWR_PS1.WRGBPS (R380). -/
def pwrPs1Wrgbps : Fld := ⟨Reg.pwrPs1, 0, 16⟩
/-- PWR_PS2.SLOTMS (R380). -/
def pwrPs2Slotms : Fld := ⟨Reg.pwrPs2, 16, 8⟩
/-- PWR_PS2.RDGBPS (R380). -/
def pwrPs2Rdgbps : Fld := ⟨Reg.pwrPs2, 0, 16⟩
/-- PWR_LTR.OPUS (R380). -/
def pwrLtrOpus : Fld := ⟨Reg.pwrLtr, 16, 16⟩
/-- PWR_WAKE.CAUSE (R380). -/
def pwrWakeCause : Fld := ⟨Reg.pwrWake, 28, 4⟩
/-- PWR_WAKE.EXIT (R380). -/
def pwrWakeExit : Fld := ⟨Reg.pwrWake, 0, 16⟩
/-- PWR_ENTRY.MS (R380). -/
def pwrEntryMs : Fld := ⟨Reg.pwrEntry, 16, 16⟩
/-- PWR_ENTRY.DRAINMS (R380). -/
def pwrEntryDrainms : Fld := ⟨Reg.pwrEntry, 0, 16⟩
/-- PWR_SAVE.VALID (R380). -/
def pwrSaveValid : Fld := ⟨Reg.pwrSave, 31, 1⟩
/-- PWR_SAVE.CRCOK (R380). -/
def pwrSaveCrcok : Fld := ⟨Reg.pwrSave, 30, 1⟩
/-- PWR_SAVE.SIZE (R380). -/
def pwrSaveSize : Fld := ⟨Reg.pwrSave, 0, 11⟩
/-- PWR_TIME.SECONDS (R380). -/
def pwrTimeSeconds (i : Nat) : Fld := ⟨Reg.pwrTime i, 0, 32⟩
/-- PWR_ENTHIST.VALID (R380). -/
def pwrEnthistValid (i : Nat) : Fld := ⟨Reg.pwrEnthist i, 31, 1⟩
/-- PWR_ENTHIST.TARGET (R380). -/
def pwrEnthistTarget (i : Nat) : Fld := ⟨Reg.pwrEnthist i, 28, 3⟩
/-- PWR_ENTHIST.REACHED (R380). -/
def pwrEnthistReached (i : Nat) : Fld := ⟨Reg.pwrEnthist i, 25, 3⟩
/-- PWR_ENTHIST.CAUSE (R380). -/
def pwrEnthistCause (i : Nat) : Fld := ⟨Reg.pwrEnthist i, 21, 4⟩
/-- PWR_ENTHIST.AGE (R380). -/
def pwrEnthistAge (i : Nat) : Fld := ⟨Reg.pwrEnthist i, 0, 21⟩
/-- PWR_CNT.COUNT (R380). -/
def pwrCntCount (i : Nat) : Fld := ⟨Reg.pwrCnt i, 0, 32⟩
/-- PAT_CTL.CNTCLR (R383). -/
def patCtlCntclr : Fld := ⟨Reg.patCtl, 31, 1⟩
/-- PAT_CTL.HOLDESC (R383). -/
def patCtlHoldesc : Fld := ⟨Reg.patCtl, 30, 1⟩
/-- PAT_CTL.CANEN (R383). -/
def patCtlCanen : Fld := ⟨Reg.patCtl, 29, 1⟩
/-- PAT_CTL.PERIOD (R383). -/
def patCtlPeriod : Fld := ⟨Reg.patCtl, 0, 12⟩
/-- PAT_STAT.ACTIVE (R383). -/
def patStatActive : Fld := ⟨Reg.patStat, 31, 1⟩
/-- PAT_STAT.HOLDSEEN (R383). -/
def patStatHoldseen : Fld := ⟨Reg.patStat, 30, 1⟩
/-- PAT_STAT.TEMPSEEN (R383). -/
def patStatTempseen : Fld := ⟨Reg.patStat, 29, 1⟩
/-- PAT_STAT.CANSEEN (R383). -/
def patStatCanseen : Fld := ⟨Reg.patStat, 28, 1⟩
/-- PAT_STAT.NEXTSK (R383). -/
def patStatNextsk : Fld := ⟨Reg.patStat, 0, 3⟩
/-- PAT_THR.ABS (R383). -/
def patThrAbs : Fld := ⟨Reg.patThr, 16, 16⟩
/-- PAT_THR.RISE (R383). -/
def patThrRise : Fld := ⟨Reg.patThr, 0, 16⟩
/-- PAT_TEMP.HIGHEST (R383). -/
def patTempHighest : Fld := ⟨Reg.patTemp, 24, 8⟩
/-- PAT_TEMP.SENSOR (R383). -/
def patTempSensor : Fld := ⟨Reg.patTemp, 16, 8⟩
/-- PAT_LAST.SK (R383). -/
def patLastSk : Fld := ⟨Reg.patLast, 29, 3⟩
/-- PAT_LAST.READS (R383). -/
def patLastReads : Fld := ⟨Reg.patLast, 12, 10⟩
/-- PAT_LAST.US (R383). -/
def patLastUs : Fld := ⟨Reg.patLast, 0, 12⟩
/-- PAT_ESC.CAUSE (R383). -/
def patEscCause : Fld := ⟨Reg.patEsc, 28, 4⟩
/-- PAT_ESC.DIE (R383). -/
def patEscDie : Fld := ⟨Reg.patEsc, 15, 13⟩
/-- PAT_ESC.BIN (R383). -/
def patEscBin : Fld := ⟨Reg.patEsc, 12, 3⟩
/-- PAT_ESC.VALUE (R383). -/
def patEscValue : Fld := ⟨Reg.patEsc, 0, 12⟩
/-- PAT_HOLD.SAMPLES (R383). -/
def patHoldSamples : Fld := ⟨Reg.patHold, 16, 16⟩
/-- PAT_HOLD.LOW (R383). -/
def patHoldLow : Fld := ⟨Reg.patHold, 0, 16⟩
/-- PAT_CANARY.VALID (R383). -/
def patCanaryValid : Fld := ⟨Reg.patCanary, 31, 1⟩
/-- PAT_CANARY.ENTRIES (R383). -/
def patCanaryEntries : Fld := ⟨Reg.patCanary, 20, 11⟩
/-- PAT_CANARY.AGE (R383). -/
def patCanaryAge : Fld := ⟨Reg.patCanary, 0, 20⟩
/-- PAT_BIN.MAX (R383). -/
def patBinMax (i : Nat) : Fld := ⟨Reg.patBin i, 16, 16⟩
/-- PAT_BIN.BASE (R383). -/
def patBinBase (i : Nat) : Fld := ⟨Reg.patBin i, 0, 16⟩
/-- PAT_SKWORST.MAX (R383). -/
def patSkworstMax (i : Nat) : Fld := ⟨Reg.patSkworst i, 16, 16⟩
/-- PAT_SKWORST.AGE (R383). -/
def patSkworstAge (i : Nat) : Fld := ⟨Reg.patSkworst i, 0, 16⟩
/-- PAT_CNT.COUNT (R383). -/
def patCntCount (i : Nat) : Fld := ⟨Reg.patCnt i, 0, 32⟩
/-- STR_CTL.CNTCLR (R408). -/
def strCtlCntclr : Fld := ⟨Reg.strCtl, 31, 1⟩
/-- STR_CTL.SP1EN (R408). -/
def strCtlSp1en : Fld := ⟨Reg.strCtl, 1, 1⟩
/-- STR_CTL.SP0EN (R408). -/
def strCtlSp0en : Fld := ⟨Reg.strCtl, 0, 1⟩
/-- STR_STAT.JOINED (R408). -/
def strStatJoined : Fld := ⟨Reg.strStat, 31, 1⟩
/-- STR_STAT.OUTOFTIME (R408). -/
def strStatOutoftime : Fld := ⟨Reg.strStat, 30, 1⟩
/-- STR_STAT.MGRLOSTSEEN (R408). -/
def strStatMgrlostseen : Fld := ⟨Reg.strStat, 29, 1⟩
/-- STR_STAT.UNREACHSEEN (R408). -/
def strStatUnreachseen : Fld := ⟨Reg.strStat, 28, 1⟩
/-- STR_STAT.NAKSEEN (R408). -/
def strStatNakseen : Fld := ⟨Reg.strStat, 27, 1⟩
/-- STR_STAT.STALESEEN (R408). -/
def strStatStaleseen : Fld := ⟨Reg.strStat, 26, 1⟩
/-- STR_STAT.ROLESEEN (R408). -/
def strStatRoleseen : Fld := ⟨Reg.strStat, 25, 1⟩
/-- STR_STAT.REJECTSEEN (R408). -/
def strStatRejectseen : Fld := ⟨Reg.strStat, 24, 1⟩
/-- STR_ID.ROLE (R408). -/
def strIdRole : Fld := ⟨Reg.strId, 30, 2⟩
/-- STR_ID.SECTION (R408). -/
def strIdSection : Fld := ⟨Reg.strId, 16, 6⟩
/-- STR_ID.ID (R408). -/
def strIdId : Fld := ⟨Reg.strId, 0, 15⟩
/-- STR_ENCAP.MODE (R408). -/
def strEncapMode : Fld := ⟨Reg.strEncap, 31, 1⟩
/-- STR_ENCAP.ETYPE (R408). -/
def strEncapEtype : Fld := ⟨Reg.strEncap, 0, 16⟩
/-- STR_L3.VLANEN (R408). -/
def strL3Vlanen : Fld := ⟨Reg.strL3, 31, 1⟩
/-- STR_L3.PCP (R408). -/
def strL3Pcp : Fld := ⟨Reg.strL3, 28, 3⟩
/-- STR_L3.VID (R408). -/
def strL3Vid : Fld := ⟨Reg.strL3, 16, 12⟩
/-- STR_L3.PORT (R408). -/
def strL3Port : Fld := ⟨Reg.strL3, 0, 16⟩
/-- STR_PORT.UP (R408). -/
def strPortUp (i : Nat) : Fld := ⟨Reg.strPort i, 31, 1⟩
/-- STR_PORT.DOWNS (R408). -/
def strPortDowns (i : Nat) : Fld := ⟨Reg.strPort i, 0, 16⟩
/-- STR_HB.MISS (R408). -/
def strHbMiss : Fld := ⟨Reg.strHb, 16, 8⟩
/-- STR_HB.MGRMS (R408). -/
def strHbMgrms : Fld := ⟨Reg.strHb, 0, 16⟩
/-- STR_RTX.CREDS (R408). -/
def strRtxCreds : Fld := ⟨Reg.strRtx, 0, 16⟩
/-- STR_MGR.TOP (R408). -/
def strMgrTop : Fld := ⟨Reg.strMgr, 16, 16⟩
/-- STR_MGR.SECT (R408). -/
def strMgrSect : Fld := ⟨Reg.strMgr, 0, 16⟩
/-- STR_DEPUTY.DEP1 (R408). -/
def strDeputyDep1 : Fld := ⟨Reg.strDeputy, 16, 16⟩
/-- STR_DEPUTY.DEP0 (R408). -/
def strDeputyDep0 : Fld := ⟨Reg.strDeputy, 0, 16⟩
/-- STR_TOFF.OFFSET (R408). -/
def strToffOffset : Fld := ⟨Reg.strToff, 0, 32⟩
/-- STR_ROLLUP.AGE (R408). -/
def strRollupAge : Fld := ⟨Reg.strRollup, 16, 16⟩
/-- STR_ROLLUP.SEQ (R408). -/
def strRollupSeq : Fld := ⟨Reg.strRollup, 0, 16⟩
/-- STR_WSEL.WIN (R408). -/
def strWselWin : Fld := ⟨Reg.strWsel, 0, 8⟩
/-- STR_WBASE_LO.LBA (R408). -/
def strWbaseLoLba : Fld := ⟨Reg.strWbaseLo, 0, 32⟩
/-- STR_WBASE_HI.LBA (R408). -/
def strWbaseHiLba : Fld := ⟨Reg.strWbaseHi, 0, 32⟩
/-- STR_WLEN.LEN (R408). -/
def strWlenLen : Fld := ⟨Reg.strWlen, 0, 32⟩
/-- STR_WSRC.ANY (R408). -/
def strWsrcAny : Fld := ⟨Reg.strWsrc, 31, 1⟩
/-- STR_WSRC.SRC (R408). -/
def strWsrcSrc : Fld := ⟨Reg.strWsrc, 0, 15⟩
/-- STR_WCTL.COMMIT (R408). -/
def strWctlCommit : Fld := ⟨Reg.strWctl, 31, 1⟩
/-- STR_WCTL.OPEN (R408). -/
def strWctlOpen : Fld := ⟨Reg.strWctl, 30, 1⟩
/-- STR_WCTL.NSID (R408). -/
def strWctlNsid : Fld := ⟨Reg.strWctl, 0, 11⟩
/-- STR_WSTAT.OPEN (R408). -/
def strWstatOpen : Fld := ⟨Reg.strWstat, 31, 1⟩
/-- STR_WSTAT.STAGED (R408). -/
def strWstatStaged : Fld := ⟨Reg.strWstat, 30, 1⟩
/-- STR_WSTAT.ERR (R408). -/
def strWstatErr : Fld := ⟨Reg.strWstat, 27, 3⟩
/-- STR_WSTAT.COPIES (R408). -/
def strWstatCopies : Fld := ⟨Reg.strWstat, 0, 16⟩
/-- STR_WOPEN.OPEN (R408). -/
def strWopenOpen : Fld := ⟨Reg.strWopen, 0, 9⟩
/-- STR_PEERS.MEMBERS (R408). -/
def strPeersMembers : Fld := ⟨Reg.strPeers, 16, 16⟩
/-- STR_PEERS.REACH (R408). -/
def strPeersReach : Fld := ⟨Reg.strPeers, 0, 16⟩
/-- STR_CREDIT.GRANT (R408). -/
def strCreditGrant : Fld := ⟨Reg.strCredit, 16, 16⟩
/-- STR_CREDIT.WAITING (R408). -/
def strCreditWaiting : Fld := ⟨Reg.strCredit, 0, 16⟩
/-- STR_LASTNAK.CAUSE (R408). -/
def strLastnakCause : Fld := ⟨Reg.strLastnak, 24, 8⟩
/-- STR_LASTNAK.WIN (R408). -/
def strLastnakWin : Fld := ⟨Reg.strLastnak, 16, 8⟩
/-- STR_LASTNAK.DIR (R408). -/
def strLastnakDir : Fld := ⟨Reg.strLastnak, 15, 1⟩
/-- STR_LASTNAK.PEER (R408). -/
def strLastnakPeer : Fld := ⟨Reg.strLastnak, 0, 15⟩
/-- STR_CNT.COUNT (R408). -/
def strCntCount (i : Nat) : Fld := ⟨Reg.strCnt i, 0, 32⟩
/-- STR_SECT.VALID (R408). -/
def strSectValid (i : Nat) : Fld := ⟨Reg.strSect i, 31, 1⟩
/-- STR_SECT.STALE (R408). -/
def strSectStale (i : Nat) : Fld := ⟨Reg.strSect i, 30, 1⟩
/-- STR_SECT.MEMBERS (R408). -/
def strSectMembers (i : Nat) : Fld := ⟨Reg.strSect i, 21, 9⟩
/-- STR_SECT.STALEMEM (R408). -/
def strSectStalemem (i : Nat) : Fld := ⟨Reg.strSect i, 12, 9⟩
/-- STR_SECT.WARN (R408). -/
def strSectWarn (i : Nat) : Fld := ⟨Reg.strSect i, 4, 8⟩
/-- STR_SECT.RO (R408). -/
def strSectRo (i : Nat) : Fld := ⟨Reg.strSect i, 3, 1⟩
/-- STR_SECT.FWMIX (R408). -/
def strSectFwmix (i : Nat) : Fld := ⟨Reg.strSect i, 2, 1⟩
/-- FWU_CTL.CNTCLR (R423). -/
def fwuCtlCntclr : Fld := ⟨Reg.fwuCtl, 31, 1⟩
/-- FWU_CTL.DISCARD (R423). -/
def fwuCtlDiscard : Fld := ⟨Reg.fwuCtl, 30, 1⟩
/-- FWU_STAT.ACTIVATING (R423). -/
def fwuStatActivating : Fld := ⟨Reg.fwuStat, 31, 1⟩
/-- FWU_STAT.PENDING (R423). -/
def fwuStatPending : Fld := ⟨Reg.fwuStat, 30, 1⟩
/-- FWU_STAT.ARMED (R423). -/
def fwuStatArmed : Fld := ⟨Reg.fwuStat, 29, 1⟩
/-- FWU_STAT.VFAILSEEN (R423). -/
def fwuStatVfailseen : Fld := ⟨Reg.fwuStat, 28, 1⟩
/-- FWU_STAT.AFAILSEEN (R423). -/
def fwuStatAfailseen : Fld := ⟨Reg.fwuStat, 27, 1⟩
/-- FWU_STAT.SKIPSEEN (R423). -/
def fwuStatSkipseen : Fld := ⟨Reg.fwuStat, 26, 1⟩
/-- FWU_STAGE.FUNC (R423). -/
def fwuStageFunc : Fld := ⟨Reg.fwuStage, 21, 11⟩
/-- FWU_STAGE.BLOCKS (R423). -/
def fwuStageBlocks : Fld := ⟨Reg.fwuStage, 0, 15⟩
/-- FWU_VERIFY.RESULT (R423). -/
def fwuVerifyResult : Fld := ⟨Reg.fwuVerify, 28, 4⟩
/-- FWU_VERIFY.PART (R423). -/
def fwuVerifyPart : Fld := ⟨Reg.fwuVerify, 24, 4⟩
/-- FWU_VERIFY.MS (R423). -/
def fwuVerifyMs : Fld := ⟨Reg.fwuVerify, 0, 16⟩
/-- FWU_SLOT.PENDINGSLOT (R423). -/
def fwuSlotPendingslot : Fld := ⟨Reg.fwuSlot, 4, 2⟩
/-- FWU_SLOT.RUNNING (R423). -/
def fwuSlotRunning : Fld := ⟨Reg.fwuSlot, 2, 2⟩
/-- FWU_SLOT.COMMITTED (R423). -/
def fwuSlotCommitted : Fld := ⟨Reg.fwuSlot, 0, 2⟩
/-- FWU_SCHED_LO.TIME (R423). -/
def fwuSchedLoTime : Fld := ⟨Reg.fwuSchedLo, 0, 32⟩
/-- FWU_SCHED_HI.TIME (R423). -/
def fwuSchedHiTime : Fld := ⟨Reg.fwuSchedHi, 0, 32⟩
/-- FWU_ACT.STEP (R423). -/
def fwuActStep : Fld := ⟨Reg.fwuAct, 29, 3⟩
/-- FWU_ACT.OUTCOME (R423). -/
def fwuActOutcome : Fld := ⟨Reg.fwuAct, 26, 3⟩
/-- FWU_ACT.MS (R423). -/
def fwuActMs : Fld := ⟨Reg.fwuAct, 0, 16⟩
/-- FWU_FLEET.READY (R423). -/
def fwuFleetReady : Fld := ⟨Reg.fwuFleet, 16, 16⟩
/-- FWU_FLEET.NOTREADY (R423). -/
def fwuFleetNotready : Fld := ⟨Reg.fwuFleet, 0, 16⟩
/-- FWU_SVN.SVN (R423). -/
def fwuSvnSvn (i : Nat) : Fld := ⟨Reg.fwuSvn i, 0, 32⟩
/-- FWU_CNT.COUNT (R423). -/
def fwuCntCount (i : Nat) : Fld := ⟨Reg.fwuCnt i, 0, 32⟩
/-- CFS_CTL.CNTCLR (R445). -/
def cfsCtlCntclr : Fld := ⟨Reg.cfsCtl, 31, 1⟩
/-- CFS_CTL.SCRUB (R445). -/
def cfsCtlScrub : Fld := ⟨Reg.cfsCtl, 30, 1⟩
/-- CFS_STAT.REPROGSEEN (R445). -/
def cfsStatReprogseen : Fld := ⟨Reg.cfsStat, 31, 1⟩
/-- CFS_STAT.PFAILSEEN (R445). -/
def cfsStatPfailseen : Fld := ⟨Reg.cfsStat, 30, 1⟩
/-- CFS_STAT.EFAILSEEN (R445). -/
def cfsStatEfailseen : Fld := ⟨Reg.cfsStat, 29, 1⟩
/-- CFS_STAT.UESEEN (R445). -/
def cfsStatUeseen : Fld := ⟨Reg.cfsStat, 28, 1⟩
/-- CFS_STAT.RETIRESEEN (R445). -/
def cfsStatRetireseen : Fld := ⟨Reg.cfsStat, 27, 1⟩
/-- CFS_STAT.NORESERVE (R445). -/
def cfsStatNoreserve : Fld := ⟨Reg.cfsStat, 26, 1⟩
/-- CFS_BUSY.OP (R445). -/
def cfsBusyOp : Fld := ⟨Reg.cfsBusy, 29, 3⟩
/-- CFS_BUSY.SECTOR (R445). -/
def cfsBusySector : Fld := ⟨Reg.cfsBusy, 9, 9⟩
/-- CFS_BUSY.QUEUE (R445). -/
def cfsBusyQueue : Fld := ⟨Reg.cfsBusy, 0, 9⟩
/-- CFS_SPARE.RETIRED (R445). -/
def cfsSpareRetired : Fld := ⟨Reg.cfsSpare, 16, 9⟩
/-- CFS_SPARE.RESERVE (R445). -/
def cfsSpareReserve : Fld := ⟨Reg.cfsSpare, 0, 9⟩
/-- CFS_ECMAX.COUNT (R445). -/
def cfsEcmaxCount : Fld := ⟨Reg.cfsEcmax, 15, 17⟩
/-- CFS_ECMAX.SECTOR (R445). -/
def cfsEcmaxSector : Fld := ⟨Reg.cfsEcmax, 0, 9⟩
/-- CFS_LASTERR.VALID (R445). -/
def cfsLasterrValid : Fld := ⟨Reg.cfsLasterr, 31, 1⟩
/-- CFS_LASTERR.KIND (R445). -/
def cfsLasterrKind : Fld := ⟨Reg.cfsLasterr, 28, 3⟩
/-- CFS_LASTERR.WORD (R445). -/
def cfsLasterrWord : Fld := ⟨Reg.cfsLasterr, 0, 18⟩
/-- CFS_CFGUSE.FREESEC (R445). -/
def cfsCfguseFreesec : Fld := ⟨Reg.cfsCfguse, 24, 8⟩
/-- CFS_CFGUSE.COMPACT (R445). -/
def cfsCfguseCompact : Fld := ⟨Reg.cfsCfguse, 0, 16⟩
/-- CFS_CALSTAT.VALID (R445). -/
def cfsCalstatValid : Fld := ⟨Reg.cfsCalstat, 31, 1⟩
/-- CFS_CALSTAT.PASS (R445). -/
def cfsCalstatPass : Fld := ⟨Reg.cfsCalstat, 30, 1⟩
/-- CFS_CALSTAT.LOCK (R445). -/
def cfsCalstatLock : Fld := ⟨Reg.cfsCalstat, 29, 1⟩
/-- CFS_CALSTAT.LAYOUT (R445). -/
def cfsCalstatLayout : Fld := ⟨Reg.cfsCalstat, 0, 16⟩
/-- CFS_BOOTLOC.GEN (R445). -/
def cfsBootlocGen : Fld := ⟨Reg.cfsBootloc, 16, 16⟩
/-- CFS_BOOTLOC.BANK (R445). -/
def cfsBootlocBank : Fld := ⟨Reg.cfsBootloc, 15, 1⟩
/-- CFS_BOOTLOC.VALID2 (R445). -/
def cfsBootlocValid2 : Fld := ⟨Reg.cfsBootloc, 4, 4⟩
/-- CFS_BOOTLOC.VALID1 (R445). -/
def cfsBootlocValid1 : Fld := ⟨Reg.cfsBootloc, 0, 4⟩
/-- CFS_DPSEL.KIND (R445). -/
def cfsDpselKind : Fld := ⟨Reg.cfsDpsel, 24, 8⟩
/-- CFS_DPSEL.INDEX (R445). -/
def cfsDpselIndex : Fld := ⟨Reg.cfsDpsel, 16, 8⟩
/-- CFS_DPSEL.OFFSET (R445). -/
def cfsDpselOffset : Fld := ⟨Reg.cfsDpsel, 2, 10⟩
/-- CFS_DPDATA.DATA (R445). -/
def cfsDpdataData : Fld := ⟨Reg.cfsDpdata, 0, 32⟩
/-- CFS_DPCTL.COMMIT (R445). -/
def cfsDpctlCommit : Fld := ⟨Reg.cfsDpctl, 31, 1⟩
/-- CFS_DPCTL.DISCARD (R445). -/
def cfsDpctlDiscard : Fld := ⟨Reg.cfsDpctl, 30, 1⟩
/-- CFS_DPCTL.BUSY (R445). -/
def cfsDpctlBusy : Fld := ⟨Reg.cfsDpctl, 29, 1⟩
/-- CFS_DPCTL.ERR (R445). -/
def cfsDpctlErr : Fld := ⟨Reg.cfsDpctl, 26, 3⟩
/-- CFS_AREA.SECTORS (R445). -/
def cfsAreaSectors (i : Nat) : Fld := ⟨Reg.cfsArea i, 24, 8⟩
/-- CFS_AREA.ECMEAN (R445). -/
def cfsAreaEcmean (i : Nat) : Fld := ⟨Reg.cfsArea i, 0, 24⟩
/-- CFS_CNT.COUNT (R445). -/
def cfsCntCount (i : Nat) : Fld := ⟨Reg.cfsCnt i, 0, 32⟩
/-- SEC_CTL.CNTCLR (R465). -/
def secCtlCntclr : Fld := ⟨Reg.secCtl, 31, 1⟩
/-- SEC_CTL.DENYCLR (R465). -/
def secCtlDenyclr : Fld := ⟨Reg.secCtl, 30, 1⟩
/-- SEC_CTL.MAKEREN (R465). -/
def secCtlMakeren : Fld := ⟨Reg.secCtl, 29, 1⟩
/-- SEC_STAT.DENYSEEN (R465). -/
def secStatDenyseen : Fld := ⟨Reg.secStat, 31, 1⟩
/-- SEC_STAT.AUTHFAILSEEN (R465). -/
def secStatAuthfailseen : Fld := ⟨Reg.secStat, 30, 1⟩
/-- SEC_STAT.LOCKOUTSEEN (R465). -/
def secStatLockoutseen : Fld := ⟨Reg.secStat, 29, 1⟩
/-- SEC_STAT.KEYCHGSEEN (R465). -/
def secStatKeychgseen : Fld := ⟨Reg.secStat, 28, 1⟩
/-- SEC_STAT.DBGSEEN (R465). -/
def secStatDbgseen : Fld := ⟨Reg.secStat, 27, 1⟩
/-- SEC_STAT.WIPING (R465). -/
def secStatWiping : Fld := ⟨Reg.secStat, 26, 1⟩
/-- SEC_LC.STATE (R465). -/
def secLcState : Fld := ⟨Reg.secLc, 30, 2⟩
/-- SEC_LC.PREV (R465). -/
def secLcPrev : Fld := ⟨Reg.secLc, 28, 2⟩
/-- SEC_LC.TRANS (R465). -/
def secLcTrans : Fld := ⟨Reg.secLc, 0, 16⟩
/-- SEC_SESS.ROLE (R465). -/
def secSessRole (i : Nat) : Fld := ⟨Reg.secSess i, 30, 2⟩
/-- SEC_SESS.IDLE (R465). -/
def secSessIdle (i : Nat) : Fld := ⟨Reg.secSess i, 0, 10⟩
/-- SEC_KSEL.OFFSET (R465). -/
def secKselOffset : Fld := ⟨Reg.secKsel, 2, 6⟩
/-- SEC_KSEL.KEY (R465). -/
def secKselKey : Fld := ⟨Reg.secKsel, 0, 2⟩
/-- SEC_KDATA.DATA (R465). -/
def secKdataData : Fld := ⟨Reg.secKdata, 0, 32⟩
/-- SEC_KCTL.COMMIT (R465). -/
def secKctlCommit : Fld := ⟨Reg.secKctl, 31, 1⟩
/-- SEC_KCTL.DISCARD (R465). -/
def secKctlDiscard : Fld := ⟨Reg.secKctl, 30, 1⟩
/-- SEC_KCTL.BUSY (R465). -/
def secKctlBusy : Fld := ⟨Reg.secKctl, 29, 1⟩
/-- SEC_KCTL.ERR (R465). -/
def secKctlErr : Fld := ⟨Reg.secKctl, 26, 3⟩
/-- SEC_KEYS.OPKEY (R465). -/
def secKeysOpkey : Fld := ⟨Reg.secKeys, 31, 1⟩
/-- SEC_KEYS.INSTKEY (R465). -/
def secKeysInstkey : Fld := ⟨Reg.secKeys, 30, 1⟩
/-- SEC_KEYS.MAKERKEY (R465). -/
def secKeysMakerkey : Fld := ⟨Reg.secKeys, 29, 1⟩
/-- SEC_KEYS.GEN (R465). -/
def secKeysGen : Fld := ⟨Reg.secKeys, 0, 16⟩
/-- SEC_DENYLOG.VALID (R465). -/
def secDenylogValid : Fld := ⟨Reg.secDenylog, 31, 1⟩
/-- SEC_DENYLOG.SRC (R465). -/
def secDenylogSrc : Fld := ⟨Reg.secDenylog, 29, 2⟩
/-- SEC_DENYLOG.NEED (R465). -/
def secDenylogNeed : Fld := ⟨Reg.secDenylog, 27, 2⟩
/-- SEC_DENYLOG.FUNC (R465). -/
def secDenylogFunc : Fld := ⟨Reg.secDenylog, 16, 11⟩
/-- SEC_DENYLOG.TARGET (R465). -/
def secDenylogTarget : Fld := ⟨Reg.secDenylog, 0, 15⟩
/-- SEC_LCLAST.VALID (R465). -/
def secLclastValid : Fld := ⟨Reg.secLclast, 31, 1⟩
/-- SEC_LCLAST.FROM (R465). -/
def secLclastFrom : Fld := ⟨Reg.secLclast, 29, 2⟩
/-- SEC_LCLAST.TO (R465). -/
def secLclastTo : Fld := ⟨Reg.secLclast, 27, 2⟩
/-- SEC_LCLAST.ROLE (R465). -/
def secLclastRole : Fld := ⟨Reg.secLclast, 25, 2⟩
/-- SEC_LCLAST.MS (R465). -/
def secLclastMs : Fld := ⟨Reg.secLclast, 0, 16⟩
/-- SEC_DBG.UNLOCK (R465). -/
def secDbgUnlock : Fld := ⟨Reg.secDbg, 31, 1⟩
/-- SEC_NSKEY.BUSY (R465). -/
def secNskeyBusy : Fld := ⟨Reg.secNskey, 31, 1⟩
/-- SEC_NSKEY.KEYS (R465). -/
def secNskeyKeys : Fld := ⟨Reg.secNskey, 0, 11⟩
/-- SEC_CELAST.KIND (R465). -/
def secCelastKind : Fld := ⟨Reg.secCelast, 29, 3⟩
/-- SEC_CELAST.MS (R465). -/
def secCelastMs : Fld := ⟨Reg.secCelast, 0, 16⟩
/-- SEC_FAIL.TOTAL (R465). -/
def secFailTotal : Fld := ⟨Reg.secFail, 16, 16⟩
/-- SEC_FAIL.PF1 (R465). -/
def secFailPf1 : Fld := ⟨Reg.secFail, 4, 4⟩
/-- SEC_FAIL.PF0 (R465). -/
def secFailPf0 : Fld := ⟨Reg.secFail, 0, 4⟩
/-- SEC_RNG.OK (R465). -/
def secRngOk : Fld := ⟨Reg.secRng, 31, 1⟩
/-- SEC_RNG.RESEEDS (R465). -/
def secRngReseeds : Fld := ⟨Reg.secRng, 0, 16⟩
/-- SEC_CNT.COUNT (R465). -/
def secCntCount (i : Nat) : Fld := ⟨Reg.secCnt i, 0, 32⟩
/-- EVW_CTL.SEEKOLD (R481). -/
def evwCtlSeekold : Fld := ⟨Reg.evwCtl, 31, 1⟩
/-- EVW_CTL.SEEKNEW (R481). -/
def evwCtlSeeknew : Fld := ⟨Reg.evwCtl, 30, 1⟩
/-- EVW_CTL.AREA (R481). -/
def evwCtlArea : Fld := ⟨Reg.evwCtl, 29, 1⟩
/-- EVW_CTL.CASTIDX (R481). -/
def evwCtlCastidx : Fld := ⟨Reg.evwCtl, 0, 14⟩
/-- EVW_STAT.OVERRUN (R481). -/
def evwStatOverrun : Fld := ⟨Reg.evwStat, 31, 1⟩
/-- EVW_STAT.CLEARED (R481). -/
def evwStatCleared : Fld := ⟨Reg.evwStat, 30, 1⟩
/-- EVW_STAT.DROPSEEN (R481). -/
def evwStatDropseen : Fld := ⟨Reg.evwStat, 29, 1⟩
/-- EVW_STAT.PFLOSTSEEN (R481). -/
def evwStatPflostseen : Fld := ⟨Reg.evwStat, 28, 1⟩
/-- EVW_STAT.CASTFULL (R481). -/
def evwStatCastfull : Fld := ⟨Reg.evwStat, 27, 1⟩
/-- EVW_STAT.STAGED (R481). -/
def evwStatStaged : Fld := ⟨Reg.evwStat, 0, 8⟩
/-- EVW_CURSOR.SEQ (R481). -/
def evwCursorSeq : Fld := ⟨Reg.evwCursor, 0, 32⟩
/-- EVW_OLDEST.SEQ (R481). -/
def evwOldestSeq : Fld := ⟨Reg.evwOldest, 0, 32⟩
/-- EVW_NEWEST.SEQ (R481). -/
def evwNewestSeq : Fld := ⟨Reg.evwNewest, 0, 32⟩
/-- EVW_CASTUSE.USED (R481). -/
def evwCastuseUsed : Fld := ⟨Reg.evwCastuse, 0, 15⟩
/-- EVW_PERSIST.AGEMS (R481). -/
def evwPersistAgems : Fld := ⟨Reg.evwPersist, 16, 16⟩
/-- EVW_PERSIST.LOST (R481). -/
def evwPersistLost : Fld := ⟨Reg.evwPersist, 0, 16⟩
/-- EVW_DROP.COUNT (R481). -/
def evwDropCount : Fld := ⟨Reg.evwDrop, 0, 32⟩
/-- EVW_DATA.DW (R481). -/
def evwDataDw (i : Nat) : Fld := ⟨Reg.evwData i, 0, 32⟩
/-- GEN_ID.DEVICE (R522). -/
def genIdDevice : Fld := ⟨Reg.genId, 16, 16⟩
/-- GEN_ID.VENDOR (R522). -/
def genIdVendor : Fld := ⟨Reg.genId, 0, 16⟩
/-- GEN_REV.STEPPING (R522). -/
def genRevStepping : Fld := ⟨Reg.genRev, 24, 8⟩
/-- GEN_REV.GRADE (R522). -/
def genRevGrade : Fld := ⟨Reg.genRev, 16, 8⟩
/-- GEN_REV.MAPVER (R522). -/
def genRevMapver : Fld := ⟨Reg.genRev, 8, 8⟩
/-- GEN_SN.SN (R522). -/
def genSnSn (i : Nat) : Fld := ⟨Reg.genSn i, 0, 32⟩
/-- GEN_STATE.LC (R522). -/
def genStateLc : Fld := ⟨Reg.genState, 30, 2⟩
/-- GEN_STATE.DEAD (R522). -/
def genStateDead : Fld := ⟨Reg.genState, 29, 1⟩
/-- GEN_STATE.CFS (R522). -/
def genStateCfs : Fld := ⟨Reg.genState, 28, 1⟩
/-- GEN_STATE.RDY1 (R522). -/
def genStateRdy1 : Fld := ⟨Reg.genState, 27, 1⟩
/-- GEN_STATE.RDY0 (R522). -/
def genStateRdy0 : Fld := ⟨Reg.genState, 26, 1⟩
/-- GEN_STATE.READONLY (R522). -/
def genStateReadonly : Fld := ⟨Reg.genState, 25, 1⟩
/-- GEN_STATE.EXPOSED (R522). -/
def genStateExposed : Fld := ⟨Reg.genState, 24, 1⟩
/-- GEN_STATE.SUPFAIL (R522). -/
def genStateSupfail : Fld := ⟨Reg.genState, 23, 1⟩
/-- GEN_STATE.PS (R522). -/
def genStatePs : Fld := ⟨Reg.genState, 20, 3⟩
/-- GEN_STATE.RECOVERING (R522). -/
def genStateRecovering : Fld := ⟨Reg.genState, 19, 1⟩
/-- GEN_STATE.GATED (R522). -/
def genStateGated : Fld := ⟨Reg.genState, 18, 1⟩
/-- GEN_CONFIG.SKEINS (R522). -/
def genConfigSkeins : Fld := ⟨Reg.genConfig, 28, 4⟩
/-- GEN_CONFIG.CHANNELS (R522). -/
def genConfigChannels : Fld := ⟨Reg.genConfig, 16, 10⟩
/-- GEN_CONFIG.DIES (R522). -/
def genConfigDies : Fld := ⟨Reg.genConfig, 0, 14⟩
/-- GEN_RAWGIB.GIB (R522). -/
def genRawgibGib : Fld := ⟨Reg.genRawgib, 0, 21⟩
/-- GEN_FWVER0.MAJOR (R522). -/
def genFwver0Major : Fld := ⟨Reg.genFwver0, 16, 16⟩
/-- GEN_FWVER0.MINOR (R522). -/
def genFwver0Minor : Fld := ⟨Reg.genFwver0, 0, 16⟩
/-- GEN_FWVER1.PATCH (R522). -/
def genFwver1Patch : Fld := ⟨Reg.genFwver1, 0, 32⟩
/-- GEN_BOOT.COMMITTED (R522). -/
def genBootCommitted : Fld := ⟨Reg.genBoot, 30, 2⟩
/-- GEN_BOOT.RUNNING (R522). -/
def genBootRunning : Fld := ⟨Reg.genBoot, 28, 2⟩
/-- GEN_BOOT.FAILPART (R522). -/
def genBootFailpart : Fld := ⟨Reg.genBoot, 24, 4⟩
/-- GEN_BOOT.COPIES (R522). -/
def genBootCopies : Fld := ⟨Reg.genBoot, 20, 4⟩
/-- GEN_STARTS.COUNT (R522). -/
def genStartsCount : Fld := ⟨Reg.genStarts, 0, 32⟩
/-- GEN_MONO_LO.NS (R522). -/
def genMonoLoNs : Fld := ⟨Reg.genMonoLo, 0, 32⟩
/-- GEN_MONO_HI.NS (R522). -/
def genMonoHiNs : Fld := ⟨Reg.genMonoHi, 0, 32⟩
/-- GEN_SCRATCH.DATA (R522). -/
def genScratchData (i : Nat) : Fld := ⟨Reg.genScratch i, 0, 32⟩
/-- GEN_CFGPEND.LOSTSEEN (R522). -/
def genCfgpendLostseen : Fld := ⟨Reg.genCfgpend, 31, 1⟩
/-- GEN_CFGPEND.PEND (R522). -/
def genCfgpendPend : Fld := ⟨Reg.genCfgpend, 0, 16⟩
/-- GEN_LASTRST.CAUSE (R522). -/
def genLastrstCause : Fld := ⟨Reg.genLastrst, 28, 4⟩
/-- GEN_TEMP.TEMP (R522). -/
def genTempTemp : Fld := ⟨Reg.genTemp, 24, 8⟩
/-- GEN_TEMP.SENSOR (R522). -/
def genTempSensor : Fld := ⟨Reg.genTemp, 16, 8⟩
/-- GEN_CTL.SCRCLR (R522). -/
def genCtlScrclr : Fld := ⟨Reg.genCtl, 31, 1⟩
/-- HIF_CNT.COUNT (R96). -/
def hifCntCount (i j : Nat) : Fld := ⟨Reg.hifCnt i j, 0, 32⟩

end F

/-- Fields of the GEN block, part 1. -/
def rowsGenA : List FieldRow :=
  [ ⟨F.genIdDevice, 1, 131072, 1, 1, .ro, .c, .none, 29970, .any⟩,
    ⟨F.genIdVendor, 1, 131072, 1, 1, .ro, .c, .none, 8094, .any⟩,
    ⟨F.genRevStepping, 1, 131072, 1, 1, .ro, .c, .none, 16, .any⟩,
    ⟨F.genRevGrade, 1, 131072, 1, 1, .ro, .c, .none, 0, .any⟩,
    ⟨F.genRevMapver, 1, 131072, 1, 1, .ro, .c, .none, 1, .any⟩,
    ⟨F.genSnSn 0, 5, 4, 1, 1, .ro, .c, .none, 0, .any⟩,
    ⟨F.genStateLc, 1, 131072, 1, 1, .ro, .c, .none, 0, .any⟩,
    ⟨F.genStateDead, 1, 131072, 1, 1, .ro, .c, .none, 0, .any⟩,
    ⟨F.genStateCfs, 1, 131072, 1, 1, .ro, .c, .none, 0, .any⟩,
    ⟨F.genStateRdy1, 1, 131072, 1, 1, .ro, .c, .none, 0, .any⟩,
    ⟨F.genStateRdy0, 1, 131072, 1, 1, .ro, .c, .none, 0, .any⟩,
    ⟨F.genStateReadonly, 1, 131072, 1, 1, .ro, .c, .none, 0, .any⟩,
    ⟨F.genStateExposed, 1, 131072, 1, 1, .ro, .c, .none, 0, .any⟩,
    ⟨F.genStateSupfail, 1, 131072, 1, 1, .ro, .c, .none, 0, .any⟩,
    ⟨F.genStatePs, 1, 131072, 1, 1, .ro, .c, .none, 0, .any⟩,
    ⟨F.genStateRecovering, 1, 131072, 1, 1, .ro, .c, .none, 0, .any⟩,
    ⟨F.genStateGated, 1, 131072, 1, 1, .ro, .c, .none, 0, .any⟩,
    ⟨F.genConfigSkeins, 1, 131072, 1, 1, .ro, .c, .none, 0, .any⟩,
    ⟨F.genConfigChannels, 1, 131072, 1, 1, .ro, .c, .none, 0, .any⟩,
    ⟨F.genConfigDies, 1, 131072, 1, 1, .ro, .c, .none, 0, .any⟩ ]

/-- Fields of the GEN block, part 2. -/
def rowsGenB : List FieldRow :=
  [ ⟨F.genRawgibGib, 1, 131072, 1, 1, .ro, .c, .none, 0, .any⟩,
    ⟨F.genFwver0Major, 1, 131072, 1, 1, .ro, .c, .none, 0, .any⟩,
    ⟨F.genFwver0Minor, 1, 131072, 1, 1, .ro, .c, .none, 0, .any⟩,
    ⟨F.genFwver1Patch, 1, 131072, 1, 1, .ro, .c, .none, 0, .any⟩,
    ⟨F.genBootCommitted, 1, 131072, 1, 1, .ro, .c, .none, 0, .any⟩,
    ⟨F.genBootRunning, 1, 131072, 1, 1, .ro, .c, .none, 0, .any⟩,
    ⟨F.genBootFailpart, 1, 131072, 1, 1, .ro, .c, .none, 0, .any⟩,
    ⟨F.genBootCopies, 1, 131072, 1, 1, .ro, .c, .none, 0, .any⟩,
    ⟨F.genStartsCount, 1, 131072, 1, 1, .ro, .k, .none, 0, .any⟩,
    ⟨F.genMonoLoNs, 1, 131072, 1, 1, .ro, .c, .none, 0, .any⟩,
    ⟨F.genMonoHiNs, 1, 131072, 1, 1, .ro, .c, .none, 0, .any⟩,
    ⟨F.genScratchData 0, 4, 4, 1, 1, .rw, .c, .operator, 0, .any⟩,
    ⟨F.genCfgpendLostseen, 1, 131072, 1, 1, .w1c, .k, .operator, 0, .any⟩,
    ⟨F.genCfgpendPend, 1, 131072, 1, 1, .ro, .c, .none, 0, .any⟩,
    ⟨F.genLastrstCause, 1, 131072, 1, 1, .ro, .k, .none, 0, .any⟩,
    ⟨F.genTempTemp, 1, 131072, 1, 1, .ro, .c, .none, 0, .any⟩,
    ⟨F.genTempSensor, 1, 131072, 1, 1, .ro, .c, .none, 0, .any⟩,
    ⟨F.genCtlScrclr, 1, 131072, 1, 1, .wo, .c, .operator, 0, .any⟩ ]

/-- Fields of the GEN block. -/
def rowsGen : List FieldRow := rowsGenA ++ rowsGenB

/-- Fields of the PACE block, part 1. -/
def rowsPaceA : List FieldRow :=
  [ ⟨F.paceCtlMinclr, 1, 131072, 1, 1, .wo, .c, .operator, 0, .any⟩,
    ⟨F.paceCtlPeriod, 1, 131072, 1, 1, .rw, .k, .installer, 0, .keep 3 15⟩,
    ⟨F.paceCtlMode, 1, 131072, 1, 1, .rw, .k, .installer, 0, .keep 2 3⟩,
    ⟨F.paceCtlGoal, 1, 131072, 1, 1, .rw, .k, .installer, 1000, .range 600 1400⟩,
    ⟨F.paceStatBelow, 1, 131072, 1, 1, .ro, .c, .none, 0, .any⟩,
    ⟨F.paceStatCapped, 1, 131072, 1, 1, .w1c, .c, .operator, 0, .any⟩,
    ⟨F.paceStatBelowseen, 1, 131072, 1, 1, .w1c, .c, .operator, 0, .any⟩,
    ⟨F.paceStatSeq, 1, 131072, 1, 1, .ro, .c, .none, 0, .any⟩,
    ⟨F.paceLowRegion, 1, 131072, 1, 1, .ro, .c, .none, 0, .any⟩,
    ⟨F.paceLowPace, 1, 131072, 1, 1, .ro, .c, .none, 0, .any⟩,
    ⟨F.paceVreqVmax, 1, 131072, 1, 1, .rw, .k, .installer, 900, .range 780 900⟩,
    ⟨F.paceVreqTarget, 1, 131072, 1, 1, .rw, .k, .installer, 800, .any⟩,
    ⟨F.paceVstatVrfault, 1, 131072, 1, 1, .w1c, .c, .operator, 0, .any⟩,
    ⟨F.paceVstatNoack, 1, 131072, 1, 1, .w1c, .c, .operator, 0, .any⟩,
    ⟨F.paceVstatAlert, 1, 131072, 1, 1, .ro, .c, .none, 0, .any⟩,
    ⟨F.paceVstatVout, 1, 131072, 1, 1, .ro, .c, .none, 0, .any⟩,
    ⟨F.paceVstatReq, 1, 131072, 1, 1, .ro, .c, .none, 0, .any⟩,
    ⟨F.tkCtlHostts, 1, 131072, 1, 1, .rw, .k, .installer, 1, .any⟩,
    ⟨F.tkCtlStrandt, 1, 131072, 1, 1, .rw, .k, .installer, 1, .any⟩,
    ⟨F.tkStatReftlost, 1, 131072, 1, 1, .ro, .k, .none, 0, .any⟩ ]

/-- Fields of the PACE block, part 2. -/
def rowsPaceB : List FieldRow :=
  [ ⟨F.tkStatReftseen, 1, 131072, 1, 1, .w1c, .k, .operator, 0, .any⟩,
    ⟨F.tkStatOrigin, 1, 131072, 1, 1, .ro, .k, .none, 0, .any⟩,
    ⟨F.tkStatStepped, 1, 131072, 1, 1, .w1c, .k, .operator, 0, .any⟩,
    ⟨F.tkAdjTrim, 1, 131072, 1, 1, .ro, .k, .none, 0, .any⟩,
    ⟨F.tkTimeLoTime, 1, 131072, 1, 1, .ro, .k, .none, 0, .any⟩,
    ⟨F.tkTimeHiTime, 1, 131072, 1, 1, .ro, .k, .none, 0, .any⟩,
    ⟨F.paceGaugeMin 0, 30, 4, 1, 1, .ro, .c, .none, 0, .any⟩,
    ⟨F.paceGaugePace 0, 30, 4, 1, 1, .ro, .c, .none, 0, .any⟩ ]

/-- Fields of the PACE block. -/
def rowsPace : List FieldRow := rowsPaceA ++ rowsPaceB

/-- Fields of the HIF block, part 1. -/
def rowsHifA : List FieldRow :=
  [ ⟨F.hifCtlCntclr, 1, 131072, 1, 1, .wo, .c, .operator, 0, .any⟩,
    ⟨F.hifCtlRoen, 1, 131072, 1, 1, .rw, .k, .installer, 1, .any⟩,
    ⟨F.hifStatLatecplseen, 1, 131072, 1, 1, .w1c, .c, .operator, 0, .any⟩,
    ⟨F.hifStatCtoseen, 1, 131072, 1, 1, .w1c, .c, .operator, 0, .any⟩,
    ⟨F.hifStatPrifailseen, 1, 131072, 1, 1, .w1c, .c, .operator, 0, .any⟩,
    ⟨F.hifPortCtlMaxrate 0, 2, 4, 1, 1, .rw, .k, .installer, 7, .range 1 7⟩,
    ⟨F.hifPortStatUp 0, 2, 4, 1, 1, .ro, .c, .none, 0, .any⟩,
    ⟨F.hifPortStatWidth 0, 2, 4, 1, 1, .ro, .c, .none, 0, .any⟩,
    ⟨F.hifPortStatRate 0, 2, 4, 1, 1, .ro, .c, .none, 0, .any⟩,
    ⟨F.hifPortStatFlit 0, 2, 4, 1, 1, .ro, .c, .none, 0, .any⟩,
    ⟨F.hifPortStatReversed 0, 2, 4, 1, 1, .ro, .c, .none, 0, .any⟩,
    ⟨F.hifPortStatLpm 0, 2, 4, 1, 1, .ro, .c, .none, 0, .any⟩,
    ⟨F.hifPortStatRetrains 0, 2, 4, 1, 1, .ro, .c, .none, 0, .any⟩,
    ⟨F.hifRomCtlRomdis, 1, 131072, 1, 1, .rw, .k, .installer, 0, .any⟩,
    ⟨F.hifCmbSplitPf0gib, 1, 131072, 1, 1, .rw, .k, .installer, 4, .range 0 8⟩,
    ⟨F.hifAtcCtlFlush, 1, 131072, 1, 1, .wo, .c, .operator, 0, .any⟩,
    ⟨F.hifAtcStatValid, 1, 131072, 1, 1, .ro, .c, .none, 0, .any⟩,
    ⟨F.hifAtcInvcntCount, 1, 131072, 1, 1, .ro, .c, .none, 0, .any⟩,
    ⟨F.hifPriCtlTimeout, 1, 131072, 1, 1, .rw, .k, .installer, 1000, .range 10 60000⟩,
    ⟨F.hifPriStatLate, 1, 131072, 1, 1, .ro, .c, .none, 0, .any⟩ ]

/-- Fields of the HIF block, part 2. -/
def rowsHifB : List FieldRow :=
  [ ⟨F.hifPriStatOut, 1, 131072, 1, 1, .ro, .c, .none, 0, .any⟩,
    ⟨F.hifCtoLastPort, 1, 131072, 1, 1, .ro, .c, .none, 0, .any⟩,
    ⟨F.hifCtoLastFunc, 1, 131072, 1, 1, .ro, .c, .none, 0, .any⟩,
    ⟨F.hifQuarStatTags1, 1, 131072, 1, 1, .ro, .c, .none, 0, .any⟩,
    ⟨F.hifQuarStatTags0, 1, 131072, 1, 1, .ro, .c, .none, 0, .any⟩,
    ⟨F.hifUxcplCntCount, 1, 131072, 1, 1, .ro, .c, .none, 0, .any⟩,
    ⟨F.hifFlrStatPf1, 1, 131072, 1, 1, .ro, .c, .none, 0, .any⟩,
    ⟨F.hifFlrStatPf0, 1, 131072, 1, 1, .ro, .c, .none, 0, .any⟩,
    ⟨F.hifFlrStatVfcnt, 1, 131072, 1, 1, .ro, .c, .none, 0, .any⟩,
    ⟨F.hifDmaStatHeld, 1, 131072, 1, 1, .ro, .c, .none, 0, .any⟩,
    ⟨F.hifUxlogDw 0 0, 2, 56, 14, 4, .ro, .c, .none, 0, .any⟩,
    ⟨F.hifLanePreset 0 0, 2, 64, 16, 4, .ro, .c, .none, 0, .any⟩,
    ⟨F.hifLaneVmargin 0 0, 2, 64, 16, 4, .ro, .c, .none, 0, .any⟩,
    ⟨F.hifLaneTmargin 0 0, 2, 64, 16, 4, .ro, .c, .none, 0, .any⟩,
    ⟨F.hifLaneErrs 0 0, 2, 64, 16, 4, .ro, .c, .none, 0, .any⟩,
    ⟨F.hifCtologValid 0 0, 2, 64, 16, 4, .ro, .c, .none, 0, .any⟩,
    ⟨F.hifCtologKind 0 0, 2, 64, 16, 4, .ro, .c, .none, 0, .any⟩,
    ⟨F.hifCtologFunc 0 0, 2, 64, 16, 4, .ro, .c, .none, 0, .any⟩,
    ⟨F.hifCtologTag 0 0, 2, 64, 16, 4, .ro, .c, .none, 0, .any⟩,
    ⟨F.hifFlrpendVf 0, 32, 4, 1, 1, .ro, .c, .none, 0, .any⟩ ]

/-- Fields of the HIF block, part 3. -/
def rowsHifC : List FieldRow :=
  [ ⟨F.hifDoeStatServed 0, 2, 4, 1, 1, .ro, .c, .none, 0, .any⟩,
    ⟨F.hifCntCount 0 0, 2, 72, 18, 4, .ro, .c, .none, 0, .any⟩ ]

/-- Fields of the HIF block. -/
def rowsHif : List FieldRow := rowsHifA ++ rowsHifB ++ rowsHifC

/-- Fields of the QEN block, part 1. -/
def rowsQenA : List FieldRow :=
  [ ⟨F.qenCtlCntclr, 1, 131072, 1, 1, .wo, .c, .operator, 0, .any⟩,
    ⟨F.qenCtlHistclr, 1, 131072, 1, 1, .wo, .c, .operator, 0, .any⟩,
    ⟨F.qenStatSlotseen, 1, 131072, 1, 1, .w1c, .c, .operator, 0, .any⟩,
    ⟨F.qenStatIlkseen, 1, 131072, 1, 1, .w1c, .c, .operator, 0, .any⟩,
    ⟨F.qenStatStitchseen, 1, 131072, 1, 1, .w1c, .c, .operator, 0, .any⟩,
    ⟨F.qenStatCqheldseen, 1, 131072, 1, 1, .w1c, .c, .operator, 0, .any⟩,
    ⟨F.qenStatDberrseen, 1, 131072, 1, 1, .w1c, .c, .operator, 0, .any⟩,
    ⟨F.qenQallotVfio, 1, 131072, 1, 1, .rw, .k, .installer, 31, .range 1 62⟩,
    ⟨F.qenQallotPf0io, 1, 131072, 1, 1, .rw, .k, .installer, 0, .any⟩,
    ⟨F.qenArbVfw, 1, 131072, 1, 1, .rw, .k, .installer, 1, .range 1 255⟩,
    ⟨F.qenArbPfw, 1, 131072, 1, 1, .rw, .k, .installer, 8, .range 1 255⟩,
    ⟨F.qenAgeAgems, 1, 131072, 1, 1, .rw, .k, .installer, 10, .range 1 1000⟩,
    ⟨F.qenSlotresCap, 1, 131072, 1, 1, .rw, .k, .installer, 4096, .range 4 16384⟩,
    ⟨F.qenSlotresRes, 1, 131072, 1, 1, .rw, .k, .installer, 32, .range 2 64⟩,
    ⟨F.qenFetchLoFn, 1, 131072, 1, 1, .ro, .c, .none, 0, .any⟩,
    ⟨F.qenFetchHiFn, 1, 131072, 1, 1, .ro, .c, .none, 0, .any⟩,
    ⟨F.qenSlotuseUsed, 1, 131072, 1, 1, .ro, .c, .none, 0, .any⟩,
    ⟨F.qenStitchuseUsed, 1, 131072, 1, 1, .ro, .c, .none, 0, .any⟩,
    ⟨F.qenIlkuseUsed, 1, 131072, 1, 1, .ro, .c, .none, 0, .any⟩,
    ⟨F.qenPinuseBlocks, 1, 131072, 1, 1, .ro, .c, .none, 0, .any⟩ ]

/-- Fields of the QEN block, part 2. -/
def rowsQenB : List FieldRow :=
  [ ⟨F.qenCqheldCqs, 1, 131072, 1, 1, .ro, .c, .none, 0, .any⟩,
    ⟨F.qenQusePairs, 1, 131072, 1, 1, .ro, .c, .none, 0, .any⟩,
    ⟨F.qenShnStatAllshn, 1, 131072, 1, 1, .ro, .c, .none, 0, .any⟩,
    ⟨F.qenShnStatShnfn, 1, 131072, 1, 1, .ro, .c, .none, 0, .any⟩,
    ⟨F.qenErrlogFunc, 1, 131072, 1, 1, .ro, .c, .none, 0, .any⟩,
    ⟨F.qenErrlogReason, 1, 131072, 1, 1, .ro, .c, .none, 0, .any⟩,
    ⟨F.qenErrlogCq, 1, 131072, 1, 1, .ro, .c, .none, 0, .any⟩,
    ⟨F.qenErrlogQid, 1, 131072, 1, 1, .ro, .c, .none, 0, .any⟩,
    ⟨F.qenParkNow 0, 16, 4, 1, 1, .ro, .c, .none, 0, .any⟩,
    ⟨F.qenCntCount 0, 32, 4, 1, 1, .ro, .c, .none, 0, .any⟩,
    ⟨F.qenHistCount 0, 32, 4, 1, 1, .ro, .c, .none, 0, .any⟩ ]

/-- Fields of the QEN block. -/
def rowsQen : List FieldRow := rowsQenA ++ rowsQenB

/-- Fields of the MAP block, part 1. -/
def rowsMapA : List FieldRow :=
  [ ⟨F.mapCtlCntclr, 1, 131072, 1, 1, .wo, .c, .operator, 0, .any⟩,
    ⟨F.mapCtlHistclr, 1, 131072, 1, 1, .wo, .c, .operator, 0, .any⟩,
    ⟨F.mapStatLightseen, 1, 131072, 1, 1, .w1c, .c, .operator, 0, .any⟩,
    ⟨F.mapStatUrgentseen, 1, 131072, 1, 1, .w1c, .c, .operator, 0, .any⟩,
    ⟨F.mapStatRmwseen, 1, 131072, 1, 1, .w1c, .c, .operator, 0, .any⟩,
    ⟨F.mapStatPoolfullseen, 1, 131072, 1, 1, .w1c, .c, .operator, 0, .any⟩,
    ⟨F.mapStatStallseen, 1, 131072, 1, 1, .w1c, .c, .operator, 0, .any⟩,
    ⟨F.mapStatLostseen, 1, 131072, 1, 1, .w1c, .k, .operator, 0, .any⟩,
    ⟨F.mapCapCtlOp, 1, 131072, 1, 1, .rw, .k, .installer, 70, .special⟩,
    ⟨F.mapCapMibMib, 1, 131072, 1, 1, .ro, .c, .none, 0, .any⟩,
    ⟨F.mapFreeMibMib, 1, 131072, 1, 1, .ro, .c, .none, 0, .any⟩,
    ⟨F.mapGranUseGran, 1, 131072, 1, 1, .ro, .c, .none, 0, .any⟩,
    ⟨F.mapPoolUseBlocks, 1, 131072, 1, 1, .ro, .c, .none, 0, .any⟩,
    ⟨F.mapPoolStatMode, 1, 131072, 1, 1, .ro, .c, .none, 0, .any⟩,
    ⟨F.mapPoolStatOcc, 1, 131072, 1, 1, .ro, .c, .none, 0, .any⟩,
    ⟨F.mapSeamCtlCold, 1, 131072, 1, 1, .rw, .k, .operator, 6, .any⟩,
    ⟨F.mapSeamCtlLightbw, 1, 131072, 1, 1, .rw, .k, .operator, 4, .range 1 64⟩,
    ⟨F.mapSeamRateMbps, 1, 131072, 1, 1, .ro, .c, .none, 0, .any⟩,
    ⟨F.mapStallStatRec, 1, 131072, 1, 1, .ro, .c, .none, 0, .any⟩,
    ⟨F.mapStallStatNow, 1, 131072, 1, 1, .ro, .c, .none, 0, .any⟩ ]

/-- Fields of the MAP block, part 2. -/
def rowsMapB : List FieldRow :=
  [ ⟨F.mapUeLastCause, 1, 131072, 1, 1, .ro, .c, .none, 0, .any⟩,
    ⟨F.mapUeLastSeg, 1, 131072, 1, 1, .ro, .c, .none, 0, .any⟩,
    ⟨F.mapRecLastMs, 1, 131072, 1, 1, .ro, .c, .none, 0, .any⟩,
    ⟨F.mapUeIdxLoIdx, 1, 131072, 1, 1, .ro, .c, .none, 0, .any⟩,
    ⟨F.mapUeIdxHiIdx, 1, 131072, 1, 1, .ro, .c, .none, 0, .any⟩,
    ⟨F.mapEpochEpoch, 1, 131072, 1, 1, .ro, .c, .none, 0, .any⟩,
    ⟨F.mapStallsegValid 0, 8, 4, 1, 1, .ro, .c, .none, 0, .any⟩,
    ⟨F.mapStallsegSeg 0, 8, 4, 1, 1, .ro, .c, .none, 0, .any⟩,
    ⟨F.mapSeampgCount 0, 8, 4, 1, 1, .ro, .c, .none, 0, .any⟩,
    ⟨F.mapCntCount 0, 32, 4, 1, 1, .ro, .c, .none, 0, .any⟩ ]

/-- Fields of the MAP block. -/
def rowsMap : List FieldRow := rowsMapA ++ rowsMapB

/-- Fields of the CRS block, part 1. -/
def rowsCrsA : List FieldRow :=
  [ ⟨F.crsCtlCntclr, 1, 131072, 1, 1, .wo, .c, .operator, 0, .any⟩,
    ⟨F.crsCtlPflogclr, 1, 131072, 1, 1, .wo, .c, .operator, 0, .any⟩,
    ⟨F.crsCtlStage, 1, 131072, 1, 1, .rw, .k, .installer, 0, .keep 3 3⟩,
    ⟨F.crsCtlIdlems, 1, 131072, 1, 1, .rw, .k, .operator, 50, .range 1 255⟩,
    ⟨F.crsStatExposed, 1, 131072, 1, 1, .ro, .c, .none, 0, .any⟩,
    ⟨F.crsStatExposedseen, 1, 131072, 1, 1, .w1c, .c, .operator, 0, .any⟩,
    ⟨F.crsStatPfailseen, 1, 131072, 1, 1, .w1c, .c, .operator, 0, .any⟩,
    ⟨F.crsStatEfailseen, 1, 131072, 1, 1, .w1c, .c, .operator, 0, .any⟩,
    ⟨F.crsStatOpenchkseen, 1, 131072, 1, 1, .w1c, .c, .operator, 0, .any⟩,
    ⟨F.crsStatEarlyseen, 1, 131072, 1, 1, .w1c, .c, .operator, 0, .any⟩,
    ⟨F.crsStatStaging, 1, 131072, 1, 1, .ro, .c, .none, 0, .any⟩,
    ⟨F.crsStatStgfullseen, 1, 131072, 1, 1, .w1c, .c, .operator, 0, .any⟩,
    ⟨F.crsLayoutWsel, 1, 131072, 1, 1, .rw, .k, .installer, 1, .special⟩,
    ⟨F.crsLayoutPly2, 1, 131072, 1, 1, .rw, .k, .installer, 1, .special⟩,
    ⟨F.crsStageLimit, 1, 131072, 1, 1, .rw, .k, .installer, 112, .range 0 160⟩,
    ⟨F.crsStageOn, 1, 131072, 1, 1, .rw, .k, .operator, 25, .range 5 90⟩,
    ⟨F.crsStageOff, 1, 131072, 1, 1, .rw, .k, .operator, 10, .special⟩,
    ⟨F.crsStageDrain, 1, 131072, 1, 1, .rw, .k, .operator, 75, .range 10 95⟩,
    ⟨F.crsFreeDies, 1, 131072, 1, 1, .ro, .c, .none, 0, .any⟩,
    ⟨F.crsFreeF, 1, 131072, 1, 1, .ro, .c, .none, 0, .any⟩ ]

/-- Fields of the CRS block, part 2. -/
def rowsCrsB : List FieldRow :=
  [ ⟨F.crsOpenCourses, 1, 131072, 1, 1, .ro, .c, .none, 0, .any⟩,
    ⟨F.crsBufLimmib, 1, 131072, 1, 1, .ro, .c, .none, 0, .any⟩,
    ⟨F.crsBufUsedmib, 1, 131072, 1, 1, .ro, .c, .none, 0, .any⟩,
    ⟨F.crsStgUseGib, 1, 131072, 1, 1, .ro, .c, .none, 0, .any⟩,
    ⟨F.crsRateHostmbps, 1, 131072, 1, 1, .ro, .c, .none, 0, .any⟩,
    ⟨F.crsRateStgmbps, 1, 131072, 1, 1, .ro, .c, .none, 0, .any⟩,
    ⟨F.crsRowageMs, 1, 131072, 1, 1, .ro, .c, .none, 0, .any⟩,
    ⟨F.crsSeqLoSeq, 1, 131072, 1, 1, .ro, .c, .none, 0, .any⟩,
    ⟨F.crsSeqHiSeq, 1, 131072, 1, 1, .ro, .c, .none, 0, .any⟩,
    ⟨F.crsRetiredBlocks, 1, 131072, 1, 1, .ro, .k, .none, 0, .any⟩,
    ⟨F.crsTinkedWl, 1, 131072, 1, 1, .ro, .c, .none, 0, .any⟩,
    ⟨F.crsExpCause, 1, 131072, 1, 1, .ro, .k, .none, 0, .any⟩,
    ⟨F.crsExpEntries, 1, 131072, 1, 1, .ro, .k, .none, 0, .any⟩,
    ⟨F.crsPfpendNow, 1, 131072, 1, 1, .ro, .c, .none, 0, .any⟩,
    ⟨F.crsPflogValid 0, 8, 4, 1, 1, .ro, .c, .none, 0, .any⟩,
    ⟨F.crsPflogKind 0, 8, 4, 1, 1, .ro, .c, .none, 0, .any⟩,
    ⟨F.crsPflogDie 0, 8, 4, 1, 1, .ro, .c, .none, 0, .any⟩,
    ⟨F.crsPflogBlock 0, 8, 4, 1, 1, .ro, .c, .none, 0, .any⟩,
    ⟨F.crsCntCount 0, 24, 4, 1, 1, .ro, .c, .none, 0, .any⟩,
    ⟨F.crsRuhActive 0, 16, 2, 1, 1, .ro, .c, .none, 0, .any⟩ ]

/-- Fields of the CRS block, part 3. -/
def rowsCrsC : List FieldRow :=
  [ ⟨F.crsRuhOpen 0, 16, 2, 1, 1, .ro, .c, .none, 0, .any⟩,
    ⟨F.crsSkfreeMin 0, 8, 2, 1, 1, .ro, .c, .none, 0, .any⟩,
    ⟨F.crsSkopenOpen 0, 8, 2, 1, 1, .ro, .c, .none, 0, .any⟩ ]

/-- Fields of the CRS block. -/
def rowsCrs : List FieldRow := rowsCrsA ++ rowsCrsB ++ rowsCrsC

/-- Fields of the ECC block, part 1. -/
def rowsEccA : List FieldRow :=
  [ ⟨F.eccCtlCntclr, 1, 131072, 1, 1, .wo, .c, .operator, 0, .any⟩,
    ⟨F.eccCtlSlowlogclr, 1, 131072, 1, 1, .wo, .c, .operator, 0, .any⟩,
    ⟨F.eccCtlRelease, 1, 131072, 1, 1, .wo, .c, .operator, 0, .any⟩,
    ⟨F.eccCtlTcuten, 1, 131072, 1, 1, .rw, .k, .installer, 1, .any⟩,
    ⟨F.eccCtlPrerec, 1, 131072, 1, 1, .rw, .k, .installer, 1, .any⟩,
    ⟨F.eccStatSlowseen, 1, 131072, 1, 1, .w1c, .c, .operator, 0, .any⟩,
    ⟨F.eccStatUeseen, 1, 131072, 1, 1, .w1c, .c, .operator, 0, .any⟩,
    ⟨F.eccStatChkseen, 1, 131072, 1, 1, .w1c, .c, .operator, 0, .any⟩,
    ⟨F.eccStatRecfailseen, 1, 131072, 1, 1, .w1c, .c, .operator, 0, .any⟩,
    ⟨F.eccStatSuslimseen, 1, 131072, 1, 1, .w1c, .c, .operator, 0, .any⟩,
    ⟨F.eccTcutDeadline, 1, 131072, 1, 1, .rw, .k, .operator, 100, .range 20 1000⟩,
    ⟨F.eccSlowCtlMisses, 1, 131072, 1, 1, .rw, .k, .installer, 8, .range 2 15⟩,
    ⟨F.eccSlowCtlHolds, 1, 131072, 1, 1, .rw, .k, .installer, 60, .range 10 255⟩,
    ⟨F.eccSlowCtlProbems, 1, 131072, 1, 1, .rw, .k, .operator, 10, .range 1 100⟩,
    ⟨F.eccSlowCtlProbetr, 1, 131072, 1, 1, .rw, .k, .operator, 30, .range 15 80⟩,
    ⟨F.eccSusCtlPgmmin, 1, 131072, 1, 1, .rw, .k, .operator, 10, .any⟩,
    ⟨F.eccSusCtlErsmin, 1, 131072, 1, 1, .rw, .k, .operator, 50, .any⟩,
    ⟨F.eccSusCtlPgmmax, 1, 131072, 1, 1, .rw, .k, .operator, 4, .any⟩,
    ⟨F.eccSusCtlErsmax, 1, 131072, 1, 1, .rw, .k, .operator, 16, .any⟩,
    ⟨F.eccSoftCtlL3en, 1, 131072, 1, 1, .rw, .k, .installer, 1, .any⟩ ]

/-- Fields of the ECC block, part 2. -/
def rowsEccB : List FieldRow :=
  [ ⟨F.eccSoftCtlL2max, 1, 131072, 1, 1, .rw, .k, .operator, 8, .range 1 8⟩,
    ⟨F.eccSoftCtlDelta, 1, 131072, 1, 1, .rw, .k, .operator, 4, .range 1 255⟩,
    ⟨F.eccSlowStatNow, 1, 131072, 1, 1, .ro, .c, .none, 0, .any⟩,
    ⟨F.eccUeLocValid, 1, 131072, 1, 1, .ro, .c, .none, 0, .any⟩,
    ⟨F.eccUeLocDie, 1, 131072, 1, 1, .ro, .c, .none, 0, .any⟩,
    ⟨F.eccUeLocBlock, 1, 131072, 1, 1, .ro, .c, .none, 0, .any⟩,
    ⟨F.eccUePageCause, 1, 131072, 1, 1, .ro, .c, .none, 0, .any⟩,
    ⟨F.eccUePagePage, 1, 131072, 1, 1, .ro, .c, .none, 0, .any⟩,
    ⟨F.eccUePageSlot, 1, 131072, 1, 1, .ro, .c, .none, 0, .any⟩,
    ⟨F.eccChkLocValid, 1, 131072, 1, 1, .ro, .c, .none, 0, .any⟩,
    ⟨F.eccChkLocDie, 1, 131072, 1, 1, .ro, .c, .none, 0, .any⟩,
    ⟨F.eccChkLocBlock, 1, 131072, 1, 1, .ro, .c, .none, 0, .any⟩,
    ⟨F.eccChkPageKind, 1, 131072, 1, 1, .ro, .c, .none, 0, .any⟩,
    ⟨F.eccChkPagePage, 1, 131072, 1, 1, .ro, .c, .none, 0, .any⟩,
    ⟨F.eccChkPageSlot, 1, 131072, 1, 1, .ro, .c, .none, 0, .any⟩,
    ⟨F.eccSynwMax, 1, 131072, 1, 1, .ro, .c, .none, 0, .any⟩,
    ⟨F.eccSynwMean, 1, 131072, 1, 1, .ro, .c, .none, 0, .any⟩,
    ⟨F.eccSlowlogValid 0, 8, 4, 1, 1, .ro, .c, .none, 0, .any⟩,
    ⟨F.eccSlowlogEvent 0, 8, 4, 1, 1, .ro, .c, .none, 0, .any⟩,
    ⟨F.eccSlowlogDie 0, 8, 4, 1, 1, .ro, .c, .none, 0, .any⟩ ]

/-- Fields of the ECC block, part 3. -/
def rowsEccC : List FieldRow :=
  [ ⟨F.eccSlowlogAge 0, 8, 4, 1, 1, .ro, .c, .none, 0, .any⟩,
    ⟨F.eccCntCount 0, 24, 4, 1, 1, .ro, .c, .none, 0, .any⟩,
    ⟨F.eccHardbusyBusy, 1, 131072, 1, 1, .ro, .c, .none, 0, .any⟩,
    ⟨F.eccSoftbusyBusy, 1, 131072, 1, 1, .ro, .c, .none, 0, .any⟩,
    ⟨F.eccRecbusyNow, 1, 131072, 1, 1, .ro, .c, .none, 0, .any⟩,
    ⟨F.eccProbeoutNow, 1, 131072, 1, 1, .ro, .c, .none, 0, .any⟩,
    ⟨F.eccSkslowDies 0, 8, 2, 1, 1, .ro, .c, .none, 0, .any⟩,
    ⟨F.eccSkcutCuts 0, 8, 2, 1, 1, .ro, .c, .none, 0, .any⟩,
    ⟨F.eccSksusSusp 0, 8, 2, 1, 1, .ro, .c, .none, 0, .any⟩ ]

/-- Fields of the ECC block. -/
def rowsEcc : List FieldRow := rowsEccA ++ rowsEccB ++ rowsEccC

/-- Fields of the RCL block, part 1. -/
def rowsRclA : List FieldRow :=
  [ ⟨F.rclCtlCntclr, 1, 131072, 1, 1, .wo, .c, .operator, 0, .any⟩,
    ⟨F.rclCtlTtclr, 1, 131072, 1, 1, .wo, .c, .operator, 0, .any⟩,
    ⟨F.rclStatTensionseen, 1, 131072, 1, 1, .w1c, .c, .operator, 0, .any⟩,
    ⟨F.rclStatTens7seen, 1, 131072, 1, 1, .w1c, .c, .operator, 0, .any⟩,
    ⟨F.rclStatHoldseen, 1, 131072, 1, 1, .w1c, .c, .operator, 0, .any⟩,
    ⟨F.rclStatSpareseen, 1, 131072, 1, 1, .w1c, .k, .operator, 0, .any⟩,
    ⟨F.rclStatDegradedseen, 1, 131072, 1, 1, .w1c, .k, .operator, 0, .any⟩,
    ⟨F.rclStatRoseen, 1, 131072, 1, 1, .w1c, .k, .operator, 0, .any⟩,
    ⟨F.rclStatDieoutseen, 1, 131072, 1, 1, .w1c, .k, .operator, 0, .any⟩,
    ⟨F.rclVictMode, 1, 131072, 1, 1, .rw, .k, .operator, 0, .any⟩,
    ⟨F.rclVictTarget, 1, 131072, 1, 1, .rw, .k, .operator, 24, .special⟩,
    ⟨F.rclVictBatch, 1, 131072, 1, 1, .rw, .k, .operator, 8, .range 1 63⟩,
    ⟨F.rclRefCtlAgedays, 1, 131072, 1, 1, .rw, .k, .operator, 90, .range 7 1000⟩,
    ⟨F.rclRefCtlRdlim, 1, 131072, 1, 1, .rw, .k, .operator, 20, .range 2 200⟩,
    ⟨F.rclEolThresh, 1, 131072, 1, 1, .rw, .k, .installer, 10, .range 5 50⟩,
    ⟨F.rclEolDegraded, 1, 131072, 1, 1, .rw, .k, .installer, 5, .special⟩,
    ⟨F.rclEolStalls, 1, 131072, 1, 1, .rw, .k, .installer, 10, .range 1 60⟩,
    ⟨F.rclTensionLevel, 1, 131072, 1, 1, .ro, .c, .none, 0, .any⟩,
    ⟨F.rclTensionRcllvl, 1, 131072, 1, 1, .ro, .c, .none, 0, .any⟩,
    ⟨F.rclSpareS0, 1, 131072, 1, 1, .ro, .k, .none, 0, .any⟩ ]

/-- Fields of the RCL block, part 2. -/
def rowsRclB : List FieldRow :=
  [ ⟨F.rclSpusedUsed, 1, 131072, 1, 1, .ro, .k, .none, 0, .any⟩,
    ⟨F.rclHealthPctused, 1, 131072, 1, 1, .ro, .c, .none, 0, .any⟩,
    ⟨F.rclHealthAvail, 1, 131072, 1, 1, .ro, .c, .none, 0, .any⟩,
    ⟨F.rclEcMinCount, 1, 131072, 1, 1, .ro, .c, .none, 0, .any⟩,
    ⟨F.rclEcMeanCount, 1, 131072, 1, 1, .ro, .c, .none, 0, .any⟩,
    ⟨F.rclEcMaxCount, 1, 131072, 1, 1, .ro, .c, .none, 0, .any⟩,
    ⟨F.rclRatedCycles, 1, 131072, 1, 1, .ro, .c, .none, 0, .any⟩,
    ⟨F.rclQueueRefq, 1, 131072, 1, 1, .ro, .c, .none, 0, .any⟩,
    ⟨F.rclQueueVicq, 1, 131072, 1, 1, .ro, .c, .none, 0, .any⟩,
    ⟨F.rclCopyMbps, 1, 131072, 1, 1, .ro, .c, .none, 0, .any⟩,
    ⟨F.rclCopyWaf, 1, 131072, 1, 1, .ro, .c, .none, 0, .any⟩,
    ⟨F.rclLastvicReason, 1, 131072, 1, 1, .ro, .c, .none, 0, .any⟩,
    ⟨F.rclLastvicValidpct, 1, 131072, 1, 1, .ro, .c, .none, 0, .any⟩,
    ⟨F.rclDiesoutDies, 1, 131072, 1, 1, .ro, .k, .none, 0, .any⟩,
    ⟨F.rclRoRo, 1, 131072, 1, 1, .ro, .k, .none, 0, .any⟩,
    ⟨F.rclRoCause, 1, 131072, 1, 1, .ro, .k, .none, 0, .any⟩,
    ⟨F.rclRetdayBlocks, 1, 131072, 1, 1, .ro, .c, .none, 0, .any⟩,
    ⟨F.rclTenstimeSeconds 0, 8, 4, 1, 1, .ro, .c, .none, 0, .any⟩,
    ⟨F.rclCntCount 0, 13, 4, 1, 1, .ro, .c, .none, 0, .any⟩ ]

/-- Fields of the RCL block. -/
def rowsRcl : List FieldRow := rowsRclA ++ rowsRclB

/-- Fields of the LIF block, part 1. -/
def rowsLifA : List FieldRow :=
  [ ⟨F.lifCtlCntclr, 1, 131072, 1, 1, .wo, .c, .operator, 0, .any⟩,
    ⟨F.lifCtlPfhistclr, 1, 131072, 1, 1, .wo, .c, .installer, 0, .any⟩,
    ⟨F.lifStatPfailseen, 1, 131072, 1, 1, .w1c, .k, .operator, 0, .any⟩,
    ⟨F.lifStatDumpshortseen, 1, 131072, 1, 1, .w1c, .k, .operator, 0, .any⟩,
    ⟨F.lifStatCopyerrseen, 1, 131072, 1, 1, .w1c, .c, .operator, 0, .any⟩,
    ⟨F.lifStatGapseen, 1, 131072, 1, 1, .w1c, .k, .operator, 0, .any⟩,
    ⟨F.lifStatJurgentseen, 1, 131072, 1, 1, .w1c, .c, .operator, 0, .any⟩,
    ⟨F.lifStatJfullseen, 1, 131072, 1, 1, .w1c, .c, .operator, 0, .any⟩,
    ⟨F.lifStatCkptfailseen, 1, 131072, 1, 1, .w1c, .c, .operator, 0, .any⟩,
    ⟨F.lifStatHoldok, 1, 131072, 1, 1, .ro, .c, .none, 0, .any⟩,
    ⟨F.lifHoldupDecl, 1, 131072, 1, 1, .rw, .k, .installer, 0, .range 0 600⟩,
    ⟨F.lifHoldStatNeed, 1, 131072, 1, 1, .ro, .c, .none, 0, .any⟩,
    ⟨F.lifHoldStatDumpest, 1, 131072, 1, 1, .ro, .c, .none, 0, .any⟩,
    ⟨F.lifGseqLoSeq, 1, 131072, 1, 1, .ro, .c, .none, 0, .any⟩,
    ⟨F.lifGseqHiSeq, 1, 131072, 1, 1, .ro, .c, .none, 0, .any⟩,
    ⟨F.lifJuseCoursesb, 1, 131072, 1, 1, .ro, .c, .none, 0, .any⟩,
    ⟨F.lifJuseCoursesa, 1, 131072, 1, 1, .ro, .c, .none, 0, .any⟩,
    ⟨F.lifJuseSkb, 1, 131072, 1, 1, .ro, .c, .none, 0, .any⟩,
    ⟨F.lifJuseSka, 1, 131072, 1, 1, .ro, .c, .none, 0, .any⟩,
    ⟨F.lifCkptCtlUrgent, 1, 131072, 1, 1, .rw, .k, .installer, 40, .range 20 48⟩ ]

/-- Fields of the LIF block, part 2. -/
def rowsLifB : List FieldRow :=
  [ ⟨F.lifCkptCtlInterval, 1, 131072, 1, 1, .rw, .k, .installer, 5, .range 1 50⟩,
    ⟨F.lifCkptStatUrgent, 1, 131072, 1, 1, .ro, .c, .none, 0, .any⟩,
    ⟨F.lifCkptStatNextseg, 1, 131072, 1, 1, .ro, .c, .none, 0, .any⟩,
    ⟨F.lifCkptStatRounds, 1, 131072, 1, 1, .ro, .c, .none, 0, .any⟩,
    ⟨F.lifCkptAgeOldest, 1, 131072, 1, 1, .ro, .c, .none, 0, .any⟩,
    ⟨F.lifPfLastDumpmib, 1, 131072, 1, 1, .ro, .k, .none, 0, .any⟩,
    ⟨F.lifPfLastQuiet, 1, 131072, 1, 1, .ro, .k, .none, 0, .any⟩,
    ⟨F.lifPfMarginMargin, 1, 131072, 1, 1, .ro, .k, .none, 0, .any⟩,
    ⟨F.lifRecLastKind, 1, 131072, 1, 1, .ro, .c, .none, 0, .any⟩,
    ⟨F.lifRecLastMs, 1, 131072, 1, 1, .ro, .c, .none, 0, .any⟩,
    ⟨F.lifRecGrpGroups, 1, 131072, 1, 1, .ro, .c, .none, 0, .any⟩,
    ⟨F.lifAnchorWrites, 1, 131072, 1, 1, .ro, .k, .none, 0, .any⟩,
    ⟨F.lifCopyerrValid, 1, 131072, 1, 1, .ro, .c, .none, 0, .any⟩,
    ⟨F.lifCopyerrCopy, 1, 131072, 1, 1, .ro, .c, .none, 0, .any⟩,
    ⟨F.lifCopyerrCause, 1, 131072, 1, 1, .ro, .c, .none, 0, .any⟩,
    ⟨F.lifCopyerrGseq, 1, 131072, 1, 1, .ro, .c, .none, 0, .any⟩,
    ⟨F.lifPfhistValid 0, 8, 4, 1, 1, .ro, .k, .none, 0, .any⟩,
    ⟨F.lifPfhistShort 0, 8, 4, 1, 1, .ro, .k, .none, 0, .any⟩,
    ⟨F.lifPfhistDump 0, 8, 4, 1, 1, .ro, .k, .none, 0, .any⟩,
    ⟨F.lifPfhistQuiet 0, 8, 4, 1, 1, .ro, .k, .none, 0, .any⟩ ]

/-- Fields of the LIF block, part 3. -/
def rowsLifC : List FieldRow :=
  [ ⟨F.lifCntCount 0, 24, 4, 1, 1, .ro, .c, .none, 0, .any⟩ ]

/-- Fields of the LIF block. -/
def rowsLif : List FieldRow := rowsLifA ++ rowsLifB ++ rowsLifC

/-- Fields of the PWR block, part 1. -/
def rowsPwrA : List FieldRow :=
  [ ⟨F.pwrCtlCntclr, 1, 131072, 1, 1, .wo, .c, .operator, 0, .any⟩,
    ⟨F.pwrCtlHistclr, 1, 131072, 1, 1, .wo, .c, .operator, 0, .any⟩,
    ⟨F.pwrCtlDrain, 1, 131072, 1, 1, .rw, .k, .installer, 10, .range 1 100⟩,
    ⟨F.pwrStatPs, 1, 131072, 1, 1, .ro, .c, .none, 0, .any⟩,
    ⟨F.pwrStatLastop, 1, 131072, 1, 1, .ro, .c, .none, 0, .any⟩,
    ⟨F.pwrStatStep, 1, 131072, 1, 1, .ro, .c, .none, 0, .any⟩,
    ⟨F.pwrStatAbortseen, 1, 131072, 1, 1, .w1c, .c, .operator, 0, .any⟩,
    ⟨F.pwrStatDrainseen, 1, 131072, 1, 1, .w1c, .c, .operator, 0, .any⟩,
    ⟨F.pwrStatEscseen, 1, 131072, 1, 1, .w1c, .c, .operator, 0, .any⟩,
    ⟨F.pwrStatOdd, 1, 131072, 1, 1, .ro, .c, .none, 0, .any⟩,
    ⟨F.pwrPs1Rdgbps, 1, 131072, 1, 1, .ro, .c, .none, 0, .any⟩,
    ⟨F.pwrPs1Wrgbps, 1, 131072, 1, 1, .ro, .c, .none, 0, .any⟩,
    ⟨F.pwrPs2Slotms, 1, 131072, 1, 1, .rw, .k, .operator, 5, .range 1 50⟩,
    ⟨F.pwrPs2Rdgbps, 1, 131072, 1, 1, .ro, .c, .none, 0, .any⟩,
    ⟨F.pwrLtrOpus, 1, 131072, 1, 1, .rw, .k, .installer, 20, .range 1 65535⟩,
    ⟨F.pwrWakeCause, 1, 131072, 1, 1, .ro, .c, .none, 0, .any⟩,
    ⟨F.pwrWakeExit, 1, 131072, 1, 1, .ro, .c, .none, 0, .any⟩,
    ⟨F.pwrEntryMs, 1, 131072, 1, 1, .ro, .c, .none, 0, .any⟩,
    ⟨F.pwrEntryDrainms, 1, 131072, 1, 1, .ro, .c, .none, 0, .any⟩,
    ⟨F.pwrSaveValid, 1, 131072, 1, 1, .ro, .c, .none, 0, .any⟩ ]

/-- Fields of the PWR block, part 2. -/
def rowsPwrB : List FieldRow :=
  [ ⟨F.pwrSaveCrcok, 1, 131072, 1, 1, .ro, .c, .none, 0, .any⟩,
    ⟨F.pwrSaveSize, 1, 131072, 1, 1, .ro, .c, .none, 0, .any⟩,
    ⟨F.pwrTimeSeconds 0, 8, 4, 1, 1, .ro, .c, .none, 0, .any⟩,
    ⟨F.pwrEnthistValid 0, 8, 4, 1, 1, .ro, .c, .none, 0, .any⟩,
    ⟨F.pwrEnthistTarget 0, 8, 4, 1, 1, .ro, .c, .none, 0, .any⟩,
    ⟨F.pwrEnthistReached 0, 8, 4, 1, 1, .ro, .c, .none, 0, .any⟩,
    ⟨F.pwrEnthistCause 0, 8, 4, 1, 1, .ro, .c, .none, 0, .any⟩,
    ⟨F.pwrEnthistAge 0, 8, 4, 1, 1, .ro, .c, .none, 0, .any⟩,
    ⟨F.pwrCntCount 0, 32, 4, 1, 1, .ro, .c, .none, 0, .any⟩ ]

/-- Fields of the PWR block. -/
def rowsPwr : List FieldRow := rowsPwrA ++ rowsPwrB

/-- Fields of the PAT block, part 1. -/
def rowsPatA : List FieldRow :=
  [ ⟨F.patCtlCntclr, 1, 131072, 1, 1, .wo, .c, .operator, 0, .any⟩,
    ⟨F.patCtlHoldesc, 1, 131072, 1, 1, .rw, .k, .operator, 1, .any⟩,
    ⟨F.patCtlCanen, 1, 131072, 1, 1, .rw, .k, .operator, 1, .any⟩,
    ⟨F.patCtlPeriod, 1, 131072, 1, 1, .rw, .k, .operator, 60, .range 1 3600⟩,
    ⟨F.patStatActive, 1, 131072, 1, 1, .ro, .c, .none, 0, .any⟩,
    ⟨F.patStatHoldseen, 1, 131072, 1, 1, .w1c, .c, .operator, 0, .any⟩,
    ⟨F.patStatTempseen, 1, 131072, 1, 1, .w1c, .c, .operator, 0, .any⟩,
    ⟨F.patStatCanseen, 1, 131072, 1, 1, .w1c, .c, .operator, 0, .any⟩,
    ⟨F.patStatNextsk, 1, 131072, 1, 1, .ro, .c, .none, 0, .any⟩,
    ⟨F.patThrAbs, 1, 131072, 1, 1, .rw, .k, .operator, 320, .range 64 1000⟩,
    ⟨F.patThrRise, 1, 131072, 1, 1, .rw, .k, .operator, 96, .range 16 500⟩,
    ⟨F.patTempHighest, 1, 131072, 1, 1, .ro, .c, .none, 0, .any⟩,
    ⟨F.patTempSensor, 1, 131072, 1, 1, .ro, .c, .none, 0, .any⟩,
    ⟨F.patLastSk, 1, 131072, 1, 1, .ro, .c, .none, 0, .any⟩,
    ⟨F.patLastReads, 1, 131072, 1, 1, .ro, .c, .none, 0, .any⟩,
    ⟨F.patLastUs, 1, 131072, 1, 1, .ro, .c, .none, 0, .any⟩,
    ⟨F.patEscCause, 1, 131072, 1, 1, .ro, .c, .none, 0, .any⟩,
    ⟨F.patEscDie, 1, 131072, 1, 1, .ro, .c, .none, 0, .any⟩,
    ⟨F.patEscBin, 1, 131072, 1, 1, .ro, .c, .none, 0, .any⟩,
    ⟨F.patEscValue, 1, 131072, 1, 1, .ro, .c, .none, 0, .any⟩ ]

/-- Fields of the PAT block, part 2. -/
def rowsPatB : List FieldRow :=
  [ ⟨F.patHoldSamples, 1, 131072, 1, 1, .ro, .c, .none, 0, .any⟩,
    ⟨F.patHoldLow, 1, 131072, 1, 1, .ro, .c, .none, 0, .any⟩,
    ⟨F.patCanaryValid, 1, 131072, 1, 1, .ro, .c, .none, 0, .any⟩,
    ⟨F.patCanaryEntries, 1, 131072, 1, 1, .ro, .c, .none, 0, .any⟩,
    ⟨F.patCanaryAge, 1, 131072, 1, 1, .ro, .c, .none, 0, .any⟩,
    ⟨F.patBinMax 0, 8, 4, 1, 1, .ro, .c, .none, 0, .any⟩,
    ⟨F.patBinBase 0, 8, 4, 1, 1, .ro, .c, .none, 0, .any⟩,
    ⟨F.patSkworstMax 0, 8, 4, 1, 1, .ro, .c, .none, 0, .any⟩,
    ⟨F.patSkworstAge 0, 8, 4, 1, 1, .ro, .c, .none, 0, .any⟩,
    ⟨F.patCntCount 0, 16, 4, 1, 1, .ro, .c, .none, 0, .any⟩ ]

/-- Fields of the PAT block. -/
def rowsPat : List FieldRow := rowsPatA ++ rowsPatB

/-- Fields of the HBM block, part 1. -/
def rowsHbmA : List FieldRow :=
  [ ⟨F.hbmCtlCntclr, 1, 131072, 1, 1, .wo, .c, .operator, 0, .any⟩,
    ⟨F.hbmCtlScrubnow, 1, 131072, 1, 1, .wo, .c, .operator, 0, .any⟩,
    ⟨F.hbmCtlScrubh, 1, 131072, 1, 1, .rw, .k, .operator, 24, .range 1 168⟩,
    ⟨F.hbmStatCeseen, 1, 131072, 1, 1, .w1c, .c, .operator, 0, .any⟩,
    ⟨F.hbmStatUeseen, 1, 131072, 1, 1, .w1c, .c, .operator, 0, .any⟩,
    ⟨F.hbmStatThrotseen, 1, 131072, 1, 1, .w1c, .c, .operator, 0, .any⟩,
    ⟨F.hbmStatHotseen, 1, 131072, 1, 1, .w1c, .c, .operator, 0, .any⟩,
    ⟨F.hbmStatZerodone, 1, 131072, 1, 1, .ro, .c, .none, 0, .any⟩,
    ⟨F.hbmStatSref, 1, 131072, 1, 1, .ro, .c, .none, 0, .any⟩,
    ⟨F.hbmStatDlyok, 1, 131072, 1, 1, .ro, .c, .none, 0, .any⟩,
    ⟨F.hbmOrderWs, 1, 131072, 1, 1, .rw, .k, .installer, 1, .keep 3 3⟩,
    ⟨F.hbmOrderTbl, 1, 131072, 1, 1, .rw, .k, .installer, 0, .keep 3 3⟩,
    ⟨F.hbmOrderStg, 1, 131072, 1, 1, .rw, .k, .installer, 1, .keep 3 3⟩,
    ⟨F.hbmOrderWbuf, 1, 131072, 1, 1, .rw, .k, .installer, 1, .keep 3 3⟩,
    ⟨F.hbmOrderOvl, 1, 131072, 1, 1, .rw, .k, .installer, 0, .keep 3 3⟩,
    ⟨F.hbmOrderCmap, 1, 131072, 1, 1, .rw, .k, .installer, 0, .keep 3 3⟩,
    ⟨F.hbmWdrainHigh, 1, 131072, 1, 1, .rw, .k, .operator, 48, .range 16 60⟩,
    ⟨F.hbmWdrainLow, 1, 131072, 1, 1, .rw, .k, .operator, 16, .special⟩,
    ⟨F.hbmActCtlRowmax, 1, 131072, 1, 1, .rw, .k, .installer, 4096, .range 512 32768⟩,
    ⟨F.hbmActCtlThrotms, 1, 131072, 1, 1, .rw, .k, .installer, 32, .range 1 255⟩ ]

/-- Fields of the HBM block, part 2. -/
def rowsHbmB : List FieldRow :=
  [ ⟨F.hbmActCtlTgap, 1, 131072, 1, 1, .rw, .k, .installer, 10, .range 1 100⟩,
    ⟨F.hbmThrotPorts, 1, 131072, 1, 1, .ro, .c, .none, 0, .any⟩,
    ⟨F.hbmThrotLastpc, 1, 131072, 1, 1, .ro, .c, .none, 0, .any⟩,
    ⟨F.hbmArbMaxwait, 1, 131072, 1, 1, .rw, .k, .operator, 4, .range 1 100⟩,
    ⟨F.hbmArbHitrun, 1, 131072, 1, 1, .rw, .k, .operator, 16, .range 1 64⟩,
    ⟨F.hbmScrubPct, 1, 131072, 1, 1, .ro, .c, .none, 0, .any⟩,
    ⟨F.hbmScrubHours, 1, 131072, 1, 1, .ro, .c, .none, 0, .any⟩,
    ⟨F.hbmUeLastArea, 1, 131072, 1, 1, .ro, .c, .none, 0, .any⟩,
    ⟨F.hbmUeLastPort, 1, 131072, 1, 1, .ro, .c, .none, 0, .any⟩,
    ⟨F.hbmUeLastPc, 1, 131072, 1, 1, .ro, .c, .none, 0, .any⟩,
    ⟨F.hbmUeAddrLoAddr, 1, 131072, 1, 1, .ro, .c, .none, 0, .any⟩,
    ⟨F.hbmUeAddrHiAddr, 1, 131072, 1, 1, .ro, .c, .none, 0, .any⟩,
    ⟨F.hbmZeroBusy, 1, 131072, 1, 1, .ro, .c, .none, 0, .any⟩,
    ⟨F.hbmZeroMs, 1, 131072, 1, 1, .ro, .c, .none, 0, .any⟩,
    ⟨F.hbmStackTemp 0, 4, 4, 1, 1, .ro, .c, .none, 0, .any⟩,
    ⟨F.hbmStackHot 0, 4, 4, 1, 1, .ro, .c, .none, 0, .any⟩,
    ⟨F.hbmStackSref 0, 4, 4, 1, 1, .ro, .c, .none, 0, .any⟩,
    ⟨F.hbmStackUe 0, 4, 4, 1, 1, .ro, .c, .none, 0, .any⟩,
    ⟨F.hbmCntCount 0, 16, 4, 1, 1, .ro, .c, .none, 0, .any⟩,
    ⟨F.hbmPortWaitmax 0, 8, 4, 1, 1, .ro, .c, .none, 0, .any⟩ ]

/-- Fields of the HBM block, part 3. -/
def rowsHbmC : List FieldRow :=
  [ ⟨F.hbmPortGbps 0, 8, 4, 1, 1, .ro, .c, .none, 0, .any⟩,
    ⟨F.hbmPcDlyRdqs 0, 128, 8, 1, 1, .rw, .c, .maker, 0, .any⟩,
    ⟨F.hbmPcDlyWdq 0, 128, 8, 1, 1, .rw, .c, .maker, 0, .any⟩,
    ⟨F.hbmPcDlyCa 0, 128, 8, 1, 1, .rw, .c, .maker, 0, .any⟩,
    ⟨F.hbmPcDlyTc 0, 128, 8, 1, 1, .rw, .c, .maker, 0, .any⟩,
    ⟨F.hbmPcDlyRl 0, 128, 8, 1, 1, .rw, .c, .maker, 0, .any⟩,
    ⟨F.hbmPcStatCe 0, 128, 8, 1, 1, .ro, .c, .none, 0, .any⟩,
    ⟨F.hbmPcStatUe 0, 128, 8, 1, 1, .ro, .c, .none, 0, .any⟩,
    ⟨F.hbmPcStatThrot 0, 128, 8, 1, 1, .ro, .c, .none, 0, .any⟩,
    ⟨F.hbmPcStatWq 0, 128, 8, 1, 1, .ro, .c, .none, 0, .any⟩,
    ⟨F.hbmPcStatRq 0, 128, 8, 1, 1, .ro, .c, .none, 0, .any⟩ ]

/-- Fields of the HBM block. -/
def rowsHbm : List FieldRow := rowsHbmA ++ rowsHbmB ++ rowsHbmC

/-- Fields of the CMP block, part 1. -/
def rowsCmpA : List FieldRow :=
  [ ⟨F.cmpCtlCntclr, 1, 131072, 1, 1, .wo, .c, .operator, 0, .any⟩,
    ⟨F.cmpCtlLevel, 1, 131072, 1, 1, .rw, .k, .operator, 3, .range 0 5⟩,
    ⟨F.cmpStatBadseen, 1, 131072, 1, 1, .w1c, .c, .operator, 0, .any⟩,
    ⟨F.cmpStatVerifyseen, 1, 131072, 1, 1, .w1c, .c, .operator, 0, .any⟩,
    ⟨F.cmpStatBypseen, 1, 131072, 1, 1, .w1c, .c, .operator, 0, .any⟩,
    ⟨F.cmpBypUs, 1, 131072, 1, 1, .rw, .k, .operator, 1000, .range 50 10000⟩,
    ⟨F.cmpNscntNs, 1, 131072, 1, 1, .ro, .c, .none, 0, .any⟩,
    ⟨F.cmpRateInmbps, 1, 131072, 1, 1, .ro, .c, .none, 0, .any⟩,
    ⟨F.cmpRateOutmbps, 1, 131072, 1, 1, .ro, .c, .none, 0, .any⟩,
    ⟨F.cmpDrateMbps, 1, 131072, 1, 1, .ro, .c, .none, 0, .any⟩,
    ⟨F.cmpRatioPct, 1, 131072, 1, 1, .ro, .c, .none, 0, .any⟩,
    ⟨F.cmpBusyDec, 1, 131072, 1, 1, .ro, .c, .none, 0, .any⟩,
    ⟨F.cmpBusyComp, 1, 131072, 1, 1, .ro, .c, .none, 0, .any⟩,
    ⟨F.cmpErrlogValid, 1, 131072, 1, 1, .ro, .c, .none, 0, .any⟩,
    ⟨F.cmpErrlogKind, 1, 131072, 1, 1, .ro, .c, .none, 0, .any⟩,
    ⟨F.cmpErrlogObj, 1, 131072, 1, 1, .ro, .c, .none, 0, .any⟩,
    ⟨F.cmpErrlogUnit, 1, 131072, 1, 1, .ro, .c, .none, 0, .any⟩,
    ⟨F.cmpErrseqSeq, 1, 131072, 1, 1, .ro, .c, .none, 0, .any⟩,
    ⟨F.cmpJstreamSplit, 1, 131072, 1, 1, .ro, .c, .none, 0, .any⟩,
    ⟨F.cmpJstreamPos, 1, 131072, 1, 1, .ro, .c, .none, 0, .any⟩ ]

/-- Fields of the CMP block, part 2. -/
def rowsCmpB : List FieldRow :=
  [ ⟨F.cmpTestRun, 1, 131072, 1, 1, .w1s, .c, .operator, 0, .any⟩,
    ⟨F.cmpTestPass, 1, 131072, 1, 1, .ro, .c, .none, 0, .any⟩,
    ⟨F.cmpTestDecfail, 1, 131072, 1, 1, .ro, .c, .none, 0, .any⟩,
    ⟨F.cmpTestDecfirst, 1, 131072, 1, 1, .ro, .c, .none, 0, .any⟩,
    ⟨F.cmpTestFailmap, 1, 131072, 1, 1, .ro, .c, .none, 0, .any⟩,
    ⟨F.cmpCntCount 0, 20, 4, 1, 1, .ro, .c, .none, 0, .any⟩ ]

/-- Fields of the CMP block. -/
def rowsCmp : List FieldRow := rowsCmpA ++ rowsCmpB

/-- Fields of the SUP block, part 1. -/
def rowsSupA : List FieldRow :=
  [ ⟨F.supCtlCntclr, 1, 131072, 1, 1, .wo, .c, .operator, 0, .any⟩,
    ⟨F.supCtlLogclr, 1, 131072, 1, 1, .wo, .c, .installer, 0, .any⟩,
    ⟨F.supStatStbyok, 1, 131072, 1, 1, .ro, .k, .none, 0, .any⟩,
    ⟨F.supStatActive, 1, 131072, 1, 1, .ro, .k, .none, 0, .any⟩,
    ⟨F.supStatRestoring, 1, 131072, 1, 1, .ro, .c, .none, 0, .any⟩,
    ⟨F.supStatFailed, 1, 131072, 1, 1, .ro, .k, .none, 0, .any⟩,
    ⟨F.supStatSwseen, 1, 131072, 1, 1, .w1c, .k, .operator, 0, .any⟩,
    ⟨F.supStatStfailseen, 1, 131072, 1, 1, .w1c, .k, .operator, 0, .any⟩,
    ⟨F.supStatLateact, 1, 131072, 1, 1, .w1c, .c, .operator, 0, .any⟩,
    ⟨F.supStestPeriod, 1, 131072, 1, 1, .rw, .k, .installer, 15, .range 1 600⟩,
    ⟨F.supDiagWdms, 1, 131072, 1, 1, .rw, .k, .maker, 20, .range 5 100⟩,
    ⟨F.supDiagTaskms, 1, 131072, 1, 1, .rw, .k, .maker, 200, .range 50 10000⟩,
    ⟨F.supSnapAge, 1, 131072, 1, 1, .ro, .c, .none, 0, .any⟩,
    ⟨F.supSnapSeq, 1, 131072, 1, 1, .ro, .c, .none, 0, .any⟩,
    ⟨F.supSwlastCause, 1, 131072, 1, 1, .ro, .k, .none, 0, .any⟩,
    ⟨F.supSwlastMs, 1, 131072, 1, 1, .ro, .k, .none, 0, .any⟩,
    ⟨F.supStresValid, 1, 131072, 1, 1, .ro, .c, .none, 0, .any⟩,
    ⟨F.supStresPass, 1, 131072, 1, 1, .ro, .c, .none, 0, .any⟩,
    ⟨F.supStresCode, 1, 131072, 1, 1, .ro, .c, .none, 0, .any⟩,
    ⟨F.supStresAge, 1, 131072, 1, 1, .ro, .c, .none, 0, .any⟩ ]

/-- Fields of the SUP block, part 2. -/
def rowsSupB : List FieldRow :=
  [ ⟨F.supPendHeld, 1, 131072, 1, 1, .ro, .c, .none, 0, .any⟩,
    ⟨F.supHbMaxus, 1, 131072, 1, 1, .ro, .c, .none, 0, .any⟩,
    ⟨F.supFwverMajor, 1, 131072, 1, 1, .ro, .c, .none, 0, .any⟩,
    ⟨F.supFwverMinor, 1, 131072, 1, 1, .ro, .c, .none, 0, .any⟩,
    ⟨F.supFwverPatch, 1, 131072, 1, 1, .ro, .c, .none, 0, .any⟩,
    ⟨F.supSwtotalCount, 1, 131072, 1, 1, .ro, .k, .none, 0, .any⟩,
    ⟨F.supIntentOpen, 1, 131072, 1, 1, .ro, .c, .none, 0, .any⟩,
    ⟨F.supSwlogValid 0, 8, 4, 1, 1, .ro, .k, .none, 0, .any⟩,
    ⟨F.supSwlogCause 0, 8, 4, 1, 1, .ro, .k, .none, 0, .any⟩,
    ⟨F.supSwlogMs 0, 8, 4, 1, 1, .ro, .k, .none, 0, .any⟩,
    ⟨F.supSwlogAge 0, 8, 4, 1, 1, .ro, .k, .none, 0, .any⟩,
    ⟨F.supCntCount 0, 16, 4, 1, 1, .ro, .c, .none, 0, .any⟩ ]

/-- Fields of the SUP block. -/
def rowsSup : List FieldRow := rowsSupA ++ rowsSupB

/-- Fields of the STR block, part 1. -/
def rowsStrA : List FieldRow :=
  [ ⟨F.strCtlCntclr, 1, 131072, 1, 1, .wo, .c, .operator, 0, .any⟩,
    ⟨F.strCtlSp1en, 1, 131072, 1, 1, .rw, .k, .installer, 1, .any⟩,
    ⟨F.strCtlSp0en, 1, 131072, 1, 1, .rw, .k, .installer, 1, .any⟩,
    ⟨F.strStatJoined, 1, 131072, 1, 1, .ro, .k, .none, 0, .any⟩,
    ⟨F.strStatOutoftime, 1, 131072, 1, 1, .ro, .c, .none, 0, .any⟩,
    ⟨F.strStatMgrlostseen, 1, 131072, 1, 1, .w1c, .c, .operator, 0, .any⟩,
    ⟨F.strStatUnreachseen, 1, 131072, 1, 1, .w1c, .c, .operator, 0, .any⟩,
    ⟨F.strStatNakseen, 1, 131072, 1, 1, .w1c, .c, .operator, 0, .any⟩,
    ⟨F.strStatStaleseen, 1, 131072, 1, 1, .w1c, .c, .operator, 0, .any⟩,
    ⟨F.strStatRoleseen, 1, 131072, 1, 1, .w1c, .c, .operator, 0, .any⟩,
    ⟨F.strStatRejectseen, 1, 131072, 1, 1, .w1c, .c, .operator, 0, .any⟩,
    ⟨F.strIdRole, 1, 131072, 1, 1, .ro, .k, .none, 0, .any⟩,
    ⟨F.strIdSection, 1, 131072, 1, 1, .ro, .k, .none, 0, .any⟩,
    ⟨F.strIdId, 1, 131072, 1, 1, .ro, .k, .none, 0, .any⟩,
    ⟨F.strEncapMode, 1, 131072, 1, 1, .rw, .k, .installer, 0, .any⟩,
    ⟨F.strEncapEtype, 1, 131072, 1, 1, .rw, .k, .installer, 34997, .keep 0 0x5FF⟩,
    ⟨F.strL3Vlanen, 1, 131072, 1, 1, .rw, .k, .installer, 0, .any⟩,
    ⟨F.strL3Pcp, 1, 131072, 1, 1, .rw, .k, .installer, 0, .any⟩,
    ⟨F.strL3Vid, 1, 131072, 1, 1, .rw, .k, .installer, 1, .keepEnds⟩,
    ⟨F.strL3Port, 1, 131072, 1, 1, .rw, .k, .installer, 51200, .keep 0 0⟩ ]

/-- Fields of the STR block, part 2. -/
def rowsStrB : List FieldRow :=
  [ ⟨F.strPortUp 0, 2, 4, 1, 1, .ro, .c, .none, 0, .any⟩,
    ⟨F.strPortDowns 0, 2, 4, 1, 1, .ro, .c, .none, 0, .any⟩,
    ⟨F.strHbMiss, 1, 131072, 1, 1, .rw, .k, .installer, 3, .range 2 20⟩,
    ⟨F.strHbMgrms, 1, 131072, 1, 1, .rw, .k, .installer, 1000, .range 300 10000⟩,
    ⟨F.strRtxCreds, 1, 131072, 1, 1, .rw, .k, .operator, 10, .range 1 600⟩,
    ⟨F.strMgrTop, 1, 131072, 1, 1, .ro, .k, .none, 0, .any⟩,
    ⟨F.strMgrSect, 1, 131072, 1, 1, .ro, .k, .none, 0, .any⟩,
    ⟨F.strDeputyDep1, 1, 131072, 1, 1, .ro, .k, .none, 0, .any⟩,
    ⟨F.strDeputyDep0, 1, 131072, 1, 1, .ro, .k, .none, 0, .any⟩,
    ⟨F.strToffOffset, 1, 131072, 1, 1, .ro, .c, .none, 0, .any⟩,
    ⟨F.strRollupAge, 1, 131072, 1, 1, .ro, .c, .none, 0, .any⟩,
    ⟨F.strRollupSeq, 1, 131072, 1, 1, .ro, .c, .none, 0, .any⟩,
    ⟨F.strWselWin, 1, 131072, 1, 1, .rw, .c, .operator, 0, .any⟩,
    ⟨F.strWbaseLoLba, 1, 131072, 1, 1, .rw, .c, .operator, 0, .any⟩,
    ⟨F.strWbaseHiLba, 1, 131072, 1, 1, .rw, .c, .operator, 0, .any⟩,
    ⟨F.strWlenLen, 1, 131072, 1, 1, .rw, .c, .operator, 0, .any⟩,
    ⟨F.strWsrcAny, 1, 131072, 1, 1, .rw, .c, .operator, 0, .any⟩,
    ⟨F.strWsrcSrc, 1, 131072, 1, 1, .rw, .c, .operator, 0, .any⟩,
    ⟨F.strWctlCommit, 1, 131072, 1, 1, .wo, .c, .operator, 0, .any⟩,
    ⟨F.strWctlOpen, 1, 131072, 1, 1, .rw, .c, .operator, 0, .any⟩ ]

/-- Fields of the STR block, part 3. -/
def rowsStrC : List FieldRow :=
  [ ⟨F.strWctlNsid, 1, 131072, 1, 1, .rw, .c, .operator, 0, .any⟩,
    ⟨F.strWstatOpen, 1, 131072, 1, 1, .ro, .k, .none, 0, .any⟩,
    ⟨F.strWstatStaged, 1, 131072, 1, 1, .ro, .c, .none, 0, .any⟩,
    ⟨F.strWstatErr, 1, 131072, 1, 1, .ro, .c, .none, 0, .any⟩,
    ⟨F.strWstatCopies, 1, 131072, 1, 1, .ro, .c, .none, 0, .any⟩,
    ⟨F.strWopenOpen, 1, 131072, 1, 1, .ro, .k, .none, 0, .any⟩,
    ⟨F.strPeersMembers, 1, 131072, 1, 1, .ro, .c, .none, 0, .any⟩,
    ⟨F.strPeersReach, 1, 131072, 1, 1, .ro, .c, .none, 0, .any⟩,
    ⟨F.strCreditGrant, 1, 131072, 1, 1, .rw, .k, .operator, 4096, .range 256 65535⟩,
    ⟨F.strCreditWaiting, 1, 131072, 1, 1, .ro, .c, .none, 0, .any⟩,
    ⟨F.strLastnakCause, 1, 131072, 1, 1, .ro, .c, .none, 0, .any⟩,
    ⟨F.strLastnakWin, 1, 131072, 1, 1, .ro, .c, .none, 0, .any⟩,
    ⟨F.strLastnakDir, 1, 131072, 1, 1, .ro, .c, .none, 0, .any⟩,
    ⟨F.strLastnakPeer, 1, 131072, 1, 1, .ro, .c, .none, 0, .any⟩,
    ⟨F.strCntCount 0, 32, 4, 1, 1, .ro, .c, .none, 0, .any⟩,
    ⟨F.strSectValid 0, 64, 4, 1, 1, .ro, .c, .none, 0, .any⟩,
    ⟨F.strSectStale 0, 64, 4, 1, 1, .ro, .c, .none, 0, .any⟩,
    ⟨F.strSectMembers 0, 64, 4, 1, 1, .ro, .c, .none, 0, .any⟩,
    ⟨F.strSectStalemem 0, 64, 4, 1, 1, .ro, .c, .none, 0, .any⟩,
    ⟨F.strSectWarn 0, 64, 4, 1, 1, .ro, .c, .none, 0, .any⟩ ]

/-- Fields of the STR block, part 4. -/
def rowsStrD : List FieldRow :=
  [ ⟨F.strSectRo 0, 64, 4, 1, 1, .ro, .c, .none, 0, .any⟩,
    ⟨F.strSectFwmix 0, 64, 4, 1, 1, .ro, .c, .none, 0, .any⟩ ]

/-- Fields of the STR block. -/
def rowsStr : List FieldRow := rowsStrA ++ rowsStrB ++ rowsStrC ++ rowsStrD

/-- Fields of the FWU block, part 1. -/
def rowsFwuA : List FieldRow :=
  [ ⟨F.fwuCtlCntclr, 1, 131072, 1, 1, .wo, .c, .operator, 0, .any⟩,
    ⟨F.fwuCtlDiscard, 1, 131072, 1, 1, .wo, .c, .installer, 0, .any⟩,
    ⟨F.fwuStatActivating, 1, 131072, 1, 1, .ro, .c, .none, 0, .any⟩,
    ⟨F.fwuStatPending, 1, 131072, 1, 1, .ro, .k, .none, 0, .any⟩,
    ⟨F.fwuStatArmed, 1, 131072, 1, 1, .ro, .c, .none, 0, .any⟩,
    ⟨F.fwuStatVfailseen, 1, 131072, 1, 1, .w1c, .c, .operator, 0, .any⟩,
    ⟨F.fwuStatAfailseen, 1, 131072, 1, 1, .w1c, .k, .operator, 0, .any⟩,
    ⟨F.fwuStatSkipseen, 1, 131072, 1, 1, .w1c, .c, .operator, 0, .any⟩,
    ⟨F.fwuStageFunc, 1, 131072, 1, 1, .ro, .c, .none, 0, .any⟩,
    ⟨F.fwuStageBlocks, 1, 131072, 1, 1, .ro, .c, .none, 0, .any⟩,
    ⟨F.fwuVerifyResult, 1, 131072, 1, 1, .ro, .c, .none, 0, .any⟩,
    ⟨F.fwuVerifyPart, 1, 131072, 1, 1, .ro, .c, .none, 0, .any⟩,
    ⟨F.fwuVerifyMs, 1, 131072, 1, 1, .ro, .c, .none, 0, .any⟩,
    ⟨F.fwuSlotPendingslot, 1, 131072, 1, 1, .ro, .k, .none, 0, .any⟩,
    ⟨F.fwuSlotRunning, 1, 131072, 1, 1, .ro, .c, .none, 0, .any⟩,
    ⟨F.fwuSlotCommitted, 1, 131072, 1, 1, .ro, .k, .none, 1, .any⟩,
    ⟨F.fwuSchedLoTime, 1, 131072, 1, 1, .ro, .c, .none, 0, .any⟩,
    ⟨F.fwuSchedHiTime, 1, 131072, 1, 1, .ro, .c, .none, 0, .any⟩,
    ⟨F.fwuActStep, 1, 131072, 1, 1, .ro, .c, .none, 0, .any⟩,
    ⟨F.fwuActOutcome, 1, 131072, 1, 1, .ro, .c, .none, 0, .any⟩ ]

/-- Fields of the FWU block, part 2. -/
def rowsFwuB : List FieldRow :=
  [ ⟨F.fwuActMs, 1, 131072, 1, 1, .ro, .c, .none, 0, .any⟩,
    ⟨F.fwuFleetReady, 1, 131072, 1, 1, .ro, .c, .none, 0, .any⟩,
    ⟨F.fwuFleetNotready, 1, 131072, 1, 1, .ro, .c, .none, 0, .any⟩,
    ⟨F.fwuSvnSvn 0, 12, 4, 1, 1, .ro, .k, .none, 0, .any⟩,
    ⟨F.fwuCntCount 0, 3, 4, 1, 1, .ro, .c, .none, 0, .any⟩ ]

/-- Fields of the FWU block. -/
def rowsFwu : List FieldRow := rowsFwuA ++ rowsFwuB

/-- Fields of the SEC block, part 1. -/
def rowsSecA : List FieldRow :=
  [ ⟨F.secCtlCntclr, 1, 131072, 1, 1, .wo, .c, .operator, 0, .any⟩,
    ⟨F.secCtlDenyclr, 1, 131072, 1, 1, .wo, .c, .operator, 0, .any⟩,
    ⟨F.secCtlMakeren, 1, 131072, 1, 1, .rw, .k, .installer, 0, .any⟩,
    ⟨F.secStatDenyseen, 1, 131072, 1, 1, .w1c, .c, .operator, 0, .any⟩,
    ⟨F.secStatAuthfailseen, 1, 131072, 1, 1, .w1c, .c, .operator, 0, .any⟩,
    ⟨F.secStatLockoutseen, 1, 131072, 1, 1, .w1c, .c, .operator, 0, .any⟩,
    ⟨F.secStatKeychgseen, 1, 131072, 1, 1, .w1c, .k, .operator, 0, .any⟩,
    ⟨F.secStatDbgseen, 1, 131072, 1, 1, .w1c, .k, .operator, 0, .any⟩,
    ⟨F.secStatWiping, 1, 131072, 1, 1, .ro, .c, .none, 0, .any⟩,
    ⟨F.secLcState, 1, 131072, 1, 1, .ro, .k, .none, 0, .any⟩,
    ⟨F.secLcPrev, 1, 131072, 1, 1, .ro, .k, .none, 0, .any⟩,
    ⟨F.secLcTrans, 1, 131072, 1, 1, .ro, .k, .none, 0, .any⟩,
    ⟨F.secSessRole 0, 2, 4, 1, 1, .ro, .c, .none, 0, .any⟩,
    ⟨F.secSessIdle 0, 2, 4, 1, 1, .ro, .c, .none, 0, .any⟩,
    ⟨F.secKselOffset, 1, 131072, 1, 1, .rw, .c, .operator, 0, .any⟩,
    ⟨F.secKselKey, 1, 131072, 1, 1, .rw, .c, .operator, 0, .any⟩,
    ⟨F.secKdataData, 1, 131072, 1, 1, .rw, .c, .installer, 0, .any⟩,
    ⟨F.secKctlCommit, 1, 131072, 1, 1, .wo, .c, .installer, 0, .any⟩,
    ⟨F.secKctlDiscard, 1, 131072, 1, 1, .wo, .c, .operator, 0, .any⟩,
    ⟨F.secKctlBusy, 1, 131072, 1, 1, .ro, .c, .none, 0, .any⟩ ]

/-- Fields of the SEC block, part 2. -/
def rowsSecB : List FieldRow :=
  [ ⟨F.secKctlErr, 1, 131072, 1, 1, .ro, .c, .none, 0, .any⟩,
    ⟨F.secKeysOpkey, 1, 131072, 1, 1, .ro, .k, .none, 0, .any⟩,
    ⟨F.secKeysInstkey, 1, 131072, 1, 1, .ro, .k, .none, 0, .any⟩,
    ⟨F.secKeysMakerkey, 1, 131072, 1, 1, .ro, .k, .none, 0, .any⟩,
    ⟨F.secKeysGen, 1, 131072, 1, 1, .ro, .k, .none, 0, .any⟩,
    ⟨F.secDenylogValid, 1, 131072, 1, 1, .ro, .c, .none, 0, .any⟩,
    ⟨F.secDenylogSrc, 1, 131072, 1, 1, .ro, .c, .none, 0, .any⟩,
    ⟨F.secDenylogNeed, 1, 131072, 1, 1, .ro, .c, .none, 0, .any⟩,
    ⟨F.secDenylogFunc, 1, 131072, 1, 1, .ro, .c, .none, 0, .any⟩,
    ⟨F.secDenylogTarget, 1, 131072, 1, 1, .ro, .c, .none, 0, .any⟩,
    ⟨F.secLclastValid, 1, 131072, 1, 1, .ro, .k, .none, 0, .any⟩,
    ⟨F.secLclastFrom, 1, 131072, 1, 1, .ro, .k, .none, 0, .any⟩,
    ⟨F.secLclastTo, 1, 131072, 1, 1, .ro, .k, .none, 0, .any⟩,
    ⟨F.secLclastRole, 1, 131072, 1, 1, .ro, .k, .none, 0, .any⟩,
    ⟨F.secLclastMs, 1, 131072, 1, 1, .ro, .k, .none, 0, .any⟩,
    ⟨F.secDbgUnlock, 1, 131072, 1, 1, .w1s, .c, .maker, 0, .any⟩,
    ⟨F.secNskeyBusy, 1, 131072, 1, 1, .ro, .c, .none, 0, .any⟩,
    ⟨F.secNskeyKeys, 1, 131072, 1, 1, .ro, .c, .none, 0, .any⟩,
    ⟨F.secCelastKind, 1, 131072, 1, 1, .ro, .k, .none, 0, .any⟩,
    ⟨F.secCelastMs, 1, 131072, 1, 1, .ro, .k, .none, 0, .any⟩ ]

/-- Fields of the SEC block, part 3. -/
def rowsSecC : List FieldRow :=
  [ ⟨F.secFailTotal, 1, 131072, 1, 1, .ro, .k, .none, 0, .any⟩,
    ⟨F.secFailPf1, 1, 131072, 1, 1, .ro, .c, .none, 0, .any⟩,
    ⟨F.secFailPf0, 1, 131072, 1, 1, .ro, .c, .none, 0, .any⟩,
    ⟨F.secRngOk, 1, 131072, 1, 1, .ro, .c, .none, 0, .any⟩,
    ⟨F.secRngReseeds, 1, 131072, 1, 1, .ro, .c, .none, 0, .any⟩,
    ⟨F.secCntCount 0, 24, 4, 1, 1, .ro, .c, .none, 0, .any⟩ ]

/-- Fields of the SEC block. -/
def rowsSec : List FieldRow := rowsSecA ++ rowsSecB ++ rowsSecC

/-- Fields of the EVW block, part 1. -/
def rowsEvwA : List FieldRow :=
  [ ⟨F.evwCtlSeekold, 1, 131072, 1, 1, .wo, .f, .operator, 0, .any⟩,
    ⟨F.evwCtlSeeknew, 1, 131072, 1, 1, .wo, .f, .operator, 0, .any⟩,
    ⟨F.evwCtlArea, 1, 131072, 1, 1, .rw, .f, .operator, 0, .any⟩,
    ⟨F.evwCtlCastidx, 1, 131072, 1, 1, .rw, .f, .operator, 0, .any⟩,
    ⟨F.evwStatOverrun, 1, 131072, 1, 1, .w1c, .f, .operator, 0, .any⟩,
    ⟨F.evwStatCleared, 1, 131072, 1, 1, .w1c, .f, .operator, 0, .any⟩,
    ⟨F.evwStatDropseen, 1, 131072, 1, 1, .w1c, .k, .operator, 0, .any⟩,
    ⟨F.evwStatPflostseen, 1, 131072, 1, 1, .w1c, .k, .operator, 0, .any⟩,
    ⟨F.evwStatCastfull, 1, 131072, 1, 1, .ro, .k, .none, 0, .any⟩,
    ⟨F.evwStatStaged, 1, 131072, 1, 1, .ro, .c, .none, 0, .any⟩,
    ⟨F.evwCursorSeq, 1, 131072, 1, 1, .rw, .f, .operator, 0, .any⟩,
    ⟨F.evwOldestSeq, 1, 131072, 1, 1, .ro, .k, .none, 0, .any⟩,
    ⟨F.evwNewestSeq, 1, 131072, 1, 1, .ro, .k, .none, 0, .any⟩,
    ⟨F.evwCastuseUsed, 1, 131072, 1, 1, .ro, .k, .none, 0, .any⟩,
    ⟨F.evwPersistAgems, 1, 131072, 1, 1, .ro, .c, .none, 0, .any⟩,
    ⟨F.evwPersistLost, 1, 131072, 1, 1, .ro, .k, .none, 0, .any⟩,
    ⟨F.evwDropCount, 1, 131072, 1, 1, .ro, .k, .none, 0, .any⟩,
    ⟨F.evwDataDw 0, 8, 4, 1, 1, .ro, .f, .none, 0, .any⟩ ]

/-- Fields of the EVW block. -/
def rowsEvw : List FieldRow := rowsEvwA

/-- Fields of the CFS block, part 1. -/
def rowsCfsA : List FieldRow :=
  [ ⟨F.cfsCtlCntclr, 1, 131072, 1, 1, .wo, .c, .operator, 0, .any⟩,
    ⟨F.cfsCtlScrub, 1, 131072, 1, 1, .wo, .c, .operator, 0, .any⟩,
    ⟨F.cfsStatReprogseen, 1, 131072, 1, 1, .w1c, .c, .operator, 0, .any⟩,
    ⟨F.cfsStatPfailseen, 1, 131072, 1, 1, .w1c, .c, .operator, 0, .any⟩,
    ⟨F.cfsStatEfailseen, 1, 131072, 1, 1, .w1c, .c, .operator, 0, .any⟩,
    ⟨F.cfsStatUeseen, 1, 131072, 1, 1, .w1c, .c, .operator, 0, .any⟩,
    ⟨F.cfsStatRetireseen, 1, 131072, 1, 1, .w1c, .k, .operator, 0, .any⟩,
    ⟨F.cfsStatNoreserve, 1, 131072, 1, 1, .ro, .k, .none, 0, .any⟩,
    ⟨F.cfsBusyOp, 1, 131072, 1, 1, .ro, .c, .none, 0, .any⟩,
    ⟨F.cfsBusySector, 1, 131072, 1, 1, .ro, .c, .none, 0, .any⟩,
    ⟨F.cfsBusyQueue, 1, 131072, 1, 1, .ro, .c, .none, 0, .any⟩,
    ⟨F.cfsSpareRetired, 1, 131072, 1, 1, .ro, .k, .none, 0, .any⟩,
    ⟨F.cfsSpareReserve, 1, 131072, 1, 1, .ro, .k, .none, 0, .any⟩,
    ⟨F.cfsEcmaxCount, 1, 131072, 1, 1, .ro, .k, .none, 0, .any⟩,
    ⟨F.cfsEcmaxSector, 1, 131072, 1, 1, .ro, .k, .none, 0, .any⟩,
    ⟨F.cfsLasterrValid, 1, 131072, 1, 1, .ro, .c, .none, 0, .any⟩,
    ⟨F.cfsLasterrKind, 1, 131072, 1, 1, .ro, .c, .none, 0, .any⟩,
    ⟨F.cfsLasterrWord, 1, 131072, 1, 1, .ro, .c, .none, 0, .any⟩,
    ⟨F.cfsCfguseFreesec, 1, 131072, 1, 1, .ro, .c, .none, 0, .any⟩,
    ⟨F.cfsCfguseCompact, 1, 131072, 1, 1, .ro, .k, .none, 0, .any⟩ ]

/-- Fields of the CFS block, part 2. -/
def rowsCfsB : List FieldRow :=
  [ ⟨F.cfsCalstatValid, 1, 131072, 1, 1, .ro, .c, .none, 0, .any⟩,
    ⟨F.cfsCalstatPass, 1, 131072, 1, 1, .ro, .c, .none, 0, .any⟩,
    ⟨F.cfsCalstatLock, 1, 131072, 1, 1, .ro, .c, .none, 0, .any⟩,
    ⟨F.cfsCalstatLayout, 1, 131072, 1, 1, .ro, .c, .none, 0, .any⟩,
    ⟨F.cfsBootlocGen, 1, 131072, 1, 1, .ro, .c, .none, 0, .any⟩,
    ⟨F.cfsBootlocBank, 1, 131072, 1, 1, .ro, .c, .none, 0, .any⟩,
    ⟨F.cfsBootlocValid2, 1, 131072, 1, 1, .ro, .c, .none, 0, .any⟩,
    ⟨F.cfsBootlocValid1, 1, 131072, 1, 1, .ro, .c, .none, 0, .any⟩,
    ⟨F.cfsDpselKind, 1, 131072, 1, 1, .rw, .c, .operator, 0, .any⟩,
    ⟨F.cfsDpselIndex, 1, 131072, 1, 1, .rw, .c, .operator, 0, .any⟩,
    ⟨F.cfsDpselOffset, 1, 131072, 1, 1, .rw, .c, .operator, 0, .any⟩,
    ⟨F.cfsDpdataData, 1, 131072, 1, 1, .rw, .c, .installer, 0, .any⟩,
    ⟨F.cfsDpctlCommit, 1, 131072, 1, 1, .wo, .c, .installer, 0, .any⟩,
    ⟨F.cfsDpctlDiscard, 1, 131072, 1, 1, .wo, .c, .operator, 0, .any⟩,
    ⟨F.cfsDpctlBusy, 1, 131072, 1, 1, .ro, .c, .none, 0, .any⟩,
    ⟨F.cfsDpctlErr, 1, 131072, 1, 1, .ro, .c, .none, 0, .any⟩,
    ⟨F.cfsAreaSectors 0, 8, 4, 1, 1, .ro, .c, .none, 0, .any⟩,
    ⟨F.cfsAreaEcmean 0, 8, 4, 1, 1, .ro, .c, .none, 0, .any⟩,
    ⟨F.cfsCntCount 0, 12, 4, 1, 1, .ro, .c, .none, 0, .any⟩ ]

/-- Fields of the CFS block. -/
def rowsCfs : List FieldRow := rowsCfsA ++ rowsCfsB

/-- Fields of the SKN block, part 1. -/
def rowsSknA : List FieldRow :=
  [ ⟨F.sknCtlCntclr 0, 8, 128, 1, 1, .wo, .c, .operator, 0, .any⟩,
    ⟨F.sknCtlRetrain 0, 8, 128, 1, 1, .wo, .c, .operator, 0, .any⟩,
    ⟨F.sknStatLinkup 0, 8, 128, 1, 1, .ro, .c, .none, 0, .any⟩,
    ⟨F.sknStatDownseen 0, 8, 128, 1, 1, .w1c, .c, .operator, 0, .any⟩,
    ⟨F.sknStatFailed 0, 8, 128, 1, 1, .ro, .k, .none, 0, .any⟩,
    ⟨F.sknStatToutseen 0, 8, 128, 1, 1, .w1c, .c, .operator, 0, .any⟩,
    ⟨F.sknStatOutseen 0, 8, 128, 1, 1, .w1c, .c, .operator, 0, .any⟩,
    ⟨F.sknStatFallbackseen 0, 8, 128, 1, 1, .w1c, .c, .operator, 0, .any⟩,
    ⟨F.sknLinkRecovers 0, 8, 128, 1, 1, .ro, .c, .none, 0, .any⟩,
    ⟨F.sknLinkRate 0, 8, 128, 1, 1, .ro, .c, .none, 0, .any⟩,
    ⟨F.sknTempTj 0, 8, 128, 1, 1, .ro, .c, .none, 0, .any⟩,
    ⟨F.sknTempTraintj 0, 8, 128, 1, 1, .ro, .c, .none, 0, .any⟩,
    ⟨F.sknSchedLunq 0, 8, 128, 1, 1, .rw, .k, .operator, 8, .range 1 32⟩,
    ⟨F.sknPollFirst 0, 8, 128, 1, 1, .rw, .k, .operator, 90, .range 50 100⟩,
    ⟨F.sknPollRdint 0, 8, 128, 1, 1, .rw, .k, .operator, 4, .range 1 40⟩,
    ⟨F.sknPollPeint 0, 8, 128, 1, 1, .rw, .k, .operator, 20, .range 5 200⟩,
    ⟨F.sknPollTomult 0, 8, 128, 1, 1, .rw, .k, .installer, 20, .range 15 50⟩,
    ⟨F.sknTrainDt 0, 8, 128, 1, 1, .rw, .k, .operator, 10, .range 3 40⟩,
    ⟨F.sknTrainZqsms 0, 8, 128, 1, 1, .rw, .k, .operator, 1000, .range 100 10000⟩,
    ⟨F.sknZqPdcode 0, 8, 128, 1, 1, .ro, .c, .none, 0, .any⟩ ]

/-- Fields of the SKN block, part 2. -/
def rowsSknB : List FieldRow :=
  [ ⟨F.sknZqPucode 0, 8, 128, 1, 1, .ro, .c, .none, 0, .any⟩,
    ⟨F.sknZqAge 0, 8, 128, 1, 1, .ro, .c, .none, 0, .any⟩,
    ⟨F.sknQueueRd 0, 8, 128, 1, 1, .ro, .c, .none, 0, .any⟩,
    ⟨F.sknQueuePe 0, 8, 128, 1, 1, .ro, .c, .none, 0, .any⟩,
    ⟨F.sknBusyCh 0, 8, 128, 1, 1, .ro, .c, .none, 0, .any⟩,
    ⟨F.sknBusyLun 0, 8, 128, 1, 1, .ro, .c, .none, 0, .any⟩,
    ⟨F.sknXferMaxwait 0, 8, 128, 1, 1, .ro, .c, .none, 0, .any⟩,
    ⟨F.sknXferMeanwait 0, 8, 128, 1, 1, .ro, .c, .none, 0, .any⟩,
    ⟨F.sknDiesInsvc 0, 8, 128, 1, 1, .ro, .c, .none, 0, .any⟩,
    ⟨F.sknDiesNotused 0, 8, 128, 1, 1, .ro, .c, .none, 0, .any⟩,
    ⟨F.sknErrlogValid 0, 8, 128, 1, 1, .ro, .c, .none, 0, .any⟩,
    ⟨F.sknErrlogKind 0, 8, 128, 1, 1, .ro, .c, .none, 0, .any⟩,
    ⟨F.sknErrlogCh 0, 8, 128, 1, 1, .ro, .c, .none, 0, .any⟩,
    ⟨F.sknErrlogLun 0, 8, 128, 1, 1, .ro, .c, .none, 0, .any⟩,
    ⟨F.sknDownUs 0, 8, 128, 1, 1, .ro, .c, .none, 0, .any⟩,
    ⟨F.sknRateAt4800 0, 8, 128, 1, 1, .ro, .c, .none, 0, .any⟩,
    ⟨F.sknRateAt3600 0, 8, 128, 1, 1, .ro, .c, .none, 0, .any⟩,
    ⟨F.sknRateBelow 0, 8, 128, 1, 1, .ro, .c, .none, 0, .any⟩,
    ⟨F.sknRateDown 0, 8, 128, 1, 1, .ro, .c, .none, 0, .any⟩,
    ⟨F.sknFwverMajor 0, 8, 128, 1, 1, .ro, .c, .none, 0, .any⟩ ]

/-- Fields of the SKN block, part 3. -/
def rowsSknC : List FieldRow :=
  [ ⟨F.sknFwverMinor 0, 8, 128, 1, 1, .ro, .c, .none, 0, .any⟩,
    ⟨F.sknFwverPatch 0, 8, 128, 1, 1, .ro, .c, .none, 0, .any⟩,
    ⟨F.sknCntCount 0 0, 8, 128, 16, 4, .ro, .c, .none, 0, .any⟩ ]

/-- Fields of the SKN block. -/
def rowsSkn : List FieldRow := rowsSknA ++ rowsSknB ++ rowsSknC

/-- Fields of the CHN block, part 1. -/
def rowsChnA : List FieldRow :=
  [ ⟨F.chnCfgRetrain 0, 512, 16, 1, 1, .wo, .c, .operator, 0, .any⟩,
    ⟨F.chnCfgMaxrate 0, 512, 16, 1, 1, .rw, .k, .installer, 4, .keep 5 7⟩,
    ⟨F.chnCfgLunout 0, 512, 16, 1, 1, .rw, .k, .installer, 0, .special⟩,
    ⟨F.chnStatUp 0, 512, 16, 1, 1, .ro, .c, .none, 0, .any⟩,
    ⟨F.chnStatRate 0, 512, 16, 1, 1, .ro, .c, .none, 0, .any⟩,
    ⟨F.chnStatFallback 0, 512, 16, 1, 1, .ro, .c, .none, 0, .any⟩,
    ⟨F.chnStatLuns 0, 512, 16, 1, 1, .ro, .c, .none, 0, .any⟩,
    ⟨F.chnStatInsvc 0, 512, 16, 1, 1, .ro, .c, .none, 0, .any⟩,
    ⟨F.chnErrTimeouts 0, 512, 16, 1, 1, .ro, .c, .none, 0, .any⟩,
    ⟨F.chnErrResets 0, 512, 16, 1, 1, .ro, .c, .none, 0, .any⟩,
    ⟨F.chnErrTrains 0, 512, 16, 1, 1, .ro, .c, .none, 0, .any⟩,
    ⟨F.chnErrFails 0, 512, 16, 1, 1, .ro, .c, .none, 0, .any⟩ ]

/-- Fields of the CHN block. -/
def rowsChn : List FieldRow := rowsChnA

/-- The field rows of the block an offset lies in (R509). -/
def blockRows (off : Nat) : List FieldRow :=
  if 0x0 ≤ off ∧ off < 0x100 then rowsGen
  else if 0x100 ≤ off ∧ off < 0x200 then rowsPace
  else if 0x200 ≤ off ∧ off < 0x500 then rowsHif
  else if 0x500 ≤ off ∧ off < 0x700 then rowsQen
  else if 0x700 ≤ off ∧ off < 0x800 then rowsMap
  else if 0x800 ≤ off ∧ off < 0x900 then rowsCrs
  else if 0x900 ≤ off ∧ off < 0xA00 then rowsEcc
  else if 0xA00 ≤ off ∧ off < 0xB00 then rowsRcl
  else if 0xB00 ≤ off ∧ off < 0xC00 then rowsLif
  else if 0xC00 ≤ off ∧ off < 0xD00 then rowsPwr
  else if 0xD00 ≤ off ∧ off < 0xE00 then rowsPat
  else if 0xE00 ≤ off ∧ off < 0x1400 then rowsHbm
  else if 0x1400 ≤ off ∧ off < 0x1500 then rowsCmp
  else if 0x1500 ≤ off ∧ off < 0x1600 then rowsSup
  else if 0x1600 ≤ off ∧ off < 0x1800 then rowsStr
  else if 0x1800 ≤ off ∧ off < 0x1900 then rowsFwu
  else if 0x1900 ≤ off ∧ off < 0x1A00 then rowsSec
  else if 0x1A00 ≤ off ∧ off < 0x1B00 then rowsEvw
  else if 0x1B00 ≤ off ∧ off < 0x1C00 then rowsCfs
  else if 0x2000 ≤ off ∧ off < 0x2400 then rowsSkn
  else if 0x4000 ≤ off ∧ off < 0x6000 then rowsChn
  else []

/-- Whether a row has a register at an offset. -/
def FieldRow.at (r : FieldRow) (off : Nat) : Bool :=
  let d := off - r.fld.off
  decide (r.fld.off ≤ off) && decide (d / r.s1 < r.n1) &&
    (decide (d % r.s1 = 0) || (decide (r.s2 ≠ 0) && decide (d % r.s1 / r.s2 < r.n2) && decide (d % r.s1 % r.s2 = 0)))

/-- The rows of the fields of the register at an offset. -/
def rowsAt (off : Nat) : List FieldRow := (blockRows off).filter (fun r => r.at off)

/-- The value a field row contributes to its register. -/
def FieldRow.dfltWord (r : FieldRow) : Word := BitVec.ofNat 32 (r.dflt <<< r.fld.lo)

/-- What the register at an offset reads as where nothing is listed: every field at its default (R515). -/
def regDefault (off : Nat) : Word := (rowsAt off).foldl (fun w r => w ||| r.dfltWord) 0

/-- The mask of a field's bits. -/
def Fld.mask (f : Fld) : Word := BitVec.ofNat 32 ((2 ^ f.wid - 1) <<< f.lo)

end Sys2Proof.Machine
end

