-- ==== Sys2Proof/Machine/Tab.lean ====
section
/-! DEFINITION. Sparse tables: lists of (key, value) pairs with rising keys.

`Tab` functions hold objects that may be absent. `Sparse` functions hold a value at every key, with a default that is not listed. -/

namespace Sys2Proof.Machine

/-- The value listed under a key, if any. -/
def Tab.find {α : Type} (k : Nat) : List (Nat × α) → Option α
  | [] => none
  | (j, v) :: rest => if j = k then some v else Tab.find k rest

/-- The table with `v` under the key `k`, the keys kept in rising order. -/
def Tab.put {α : Type} (k : Nat) (v : α) : List (Nat × α) → List (Nat × α)
  | [] => [(k, v)]
  | (j, w) :: rest =>
    if k < j then (k, v) :: (j, w) :: rest
    else if j = k then (k, v) :: rest
    else (j, w) :: Tab.put k v rest

/-- The table without the key `k`. -/
def Tab.del {α : Type} (k : Nat) (t : List (Nat × α)) : List (Nat × α) := t.filter (fun p => p.1 != k)

/-- The table with the value under `k`, where there is one, changed by `f`. -/
def Tab.upd {α : Type} (k : Nat) (f : α → α) (t : List (Nat × α)) : List (Nat × α) :=
  t.map (fun p => if p.1 = k then (p.1, f p.2) else p)

/-- Whether a key is listed. -/
def Tab.has {α : Type} (k : Nat) (t : List (Nat × α)) : Bool := (Tab.find k t).isSome

/-- The value listed under a key, or `d`. -/
def Tab.getD {α : Type} (k : Nat) (d : α) (t : List (Nat × α)) : α := (Tab.find k t).getD d

/-- The value at a key of a sparse store: the listed one, else the default's. -/
def Sparse.get {α : Type} (d : Nat → α) (k : Nat) : List (Nat × α) → α
  | [] => d k
  | (j, v) :: rest => if j = k then v else Sparse.get d k rest

/-- The store with `v` at the key `k`: the entry is left out where `v` is what the key reads as unlisted. -/
def Sparse.set {α : Type} [DecidableEq α] (d : Nat → α) (k : Nat) (v : α) (t : List (Nat × α)) : List (Nat × α) :=
  (Tab.put k v t).filter (fun p => decide (p.1 ≠ k) || decide (v ≠ d k))

/-- Keys strictly rise, all of them above `lo` where one is given. -/
def Sparse.rising {α : Type} : List (Nat × α) → Bool
  | [] => true
  | [_] => true
  | (j, _) :: (k, w) :: rest => decide (j < k) && Sparse.rising ((k, w) :: rest)

/-- The canonical form: rising keys and no entry that its key reads as unlisted. -/
def Sparse.wf {α : Type} [DecidableEq α] (d : Nat → α) (t : List (Nat × α)) : Bool :=
  Sparse.rising t && t.all (fun p => decide (p.2 ≠ d p.1))

/-- A list with one more element, unless it is already there. -/
def insertNew {α : Type} [DecidableEq α] (a : α) (l : List α) : List α := if a ∈ l then l else l ++ [a]

/-- The first `n` of a list that has a newest element put in front. -/
def pushFront {α : Type} (n : Nat) (a : α) (l : List α) : List α := (a :: l).take n

/-- The sum of a list of numbers. -/
def sumNat (l : List Nat) : Nat := l.foldl (· + ·) 0

/-- The largest of a list of numbers, 0 for none. -/
def maxNat (l : List Nat) : Nat := l.foldl Nat.max 0

/-- The smallest of a list of numbers, if there is one. -/
def minNat? : List Nat → Option Nat
  | [] => none
  | a :: l => some (l.foldl Nat.min a)

end Sys2Proof.Machine
end

