-- ==== Sys2Proof/Machine/Types.lean ====
section
/-! DEFINITION. The parts of the state, unit by unit: plain data. -/

namespace Sys2Proof.Machine

/-! ### Time and timers -/

/-- The timekeeper's counts (R49, R50). Device time is kept in units of 10⁻⁹ ns so that trim and slew lose nothing. -/
structure Clock where
  /-- VDD_AON is present, so the counts advance (R48, R49). -/
  aonUp    : Bool
  /-- The monotonic count, ns (R49). -/
  mono     : Nat
  /-- Device time in units of 10⁻⁹ ns (R49). -/
  devFine  : Nat
  /-- What a slew has still to absorb, in units of 10⁻⁹ ns (R50). -/
  slewLeft : Nat
  deriving DecidableEq, Repr

/-- The timers the device arms, each named by the row that its expiry is (R52 to R54, R507). -/
inductive TimerId where
  | voutDeviation
  | l1Idle (port : Nat)
  | pageRequest (prg : Nat)
  | completionTimeout (port tag : Nat)
  | tagQuarantine (port tag : Nat)
  | flr (fn : Nat)
  | stitchAging (stitch : Nat)
  | intAggregation (fn vec : Nat)
  | rowIdle (course : Nat)
  | exposedRow (course : Nat)
  | protectedMode
  | tailCut (read : Nat)
  | slowProbe (die : Nat)
  | slowHold (die : Nat)
  | tler (read : Nat)
  | readOnlyStall
  | groupTimer
  | anchorTimer
  | checkpointInterval
  | flashOp (die : Nat)
  | lunReset (die : Nat)
  | skeinFail (skein : Nat)
  | zqShort (skein : Nat)
  | skeinDown (skein : Nat)
  | throttle (pc bank port : Nat)
  | hbmScrub
  | cmpBypass (extent : Nat)
  | watchdog
  | snapshot
  | standbyTest
  | standbyRetry
  | ps2Slot
  | drain
  | patrol
  | ps3Sensor
  | ageEpoch
  | eventPersist
  | sessionIdle (pf : Nat)
  | cfsScrub
  | heartbeat
  | heartbeatMiss (peer : Nat)
  | rollup
  | sectionStale (sect : Nat)
  | timeExchange
  | timeOffset
  | ackDelay (peer : Nat)
  | retransmit (peer seq : Nat)
  | holdExpiry (peer : Nat)
  | strandWrite (copy : Nat)
  | creditWait (copy : Nat)
  | registry
  | registryLoad
  | managerLost
  | activationDrain
  | scheduled
  | healthPublish
  | level6 (res : Nat)
  deriving DecidableEq, Repr

/-- An armed timer: it expires when the monotonic count reaches `due` (R52). -/
structure Timer where
  id  : TimerId
  due : Nat
  deriving DecidableEq, Repr

/-! ### Gauge and governor -/

/-- The gauge of one region over a gauge period (R56): lowest, sum, number and highest of its readings. -/
structure GaugeSpan where
  low  : Nat
  sum  : Nat
  num  : Nat
  high : Nat
  deriving DecidableEq, Repr

/-- A gauge period that has ended (R56, log page C4h): PACE_STAT.SEQ, the voltage requested, READ_VOUT, READ_IOUT and its gauges. -/
structure PaceRec where
  seq  : Nat
  req  : Nat
  vout : Nat
  iout : Nat
  span : List (Nat × GaugeSpan)
  deriving DecidableEq, Repr

/-- The governor and the gauge rings (R37 to R46). -/
structure Pace where
  /-- Regions with a reading since cold reset. -/
  measured   : List Nat
  /-- Readings of the present period, by region (R56). -/
  span       : List (Nat × GaugeSpan)
  /-- The last 1,024 periods, newest first, for log page C4h (R56). -/
  history    : List PaceRec
  /-- Monotonic count since which PACE_LOW has been at or above GOAL + 60 MHs (R44). -/
  fastSince  : Option Nat
  /-- Failed PMBus transactions in succession (R46). -/
  pmbusFails : Nat
  /-- Output current of the last READ_IOUT (R42). -/
  iout       : Nat
  /-- The exponent read with VOUT_MODE at start-up (R42), two's complement of 5 bits. -/
  voutExp    : Nat
  /-- Dies whose Tj is above 105 °C (R40): 0 the core die, 1 + s skein die s, 9 + k HBM stack k. -/
  hotDies    : List Nat
  deriving DecidableEq, Repr

/-! ### Event recorder -/

/-- An event record (R467). -/
structure EventRec where
  code : Nat
  sev  : Nat
  src  : Nat
  time : Nat
  seq  : Nat
  p0   : Nat
  p1   : Nat
  p2   : Nat
  p3   : Nat
  deriving DecidableEq, Repr

/-- The registers of the EVW block that are banked per PF, with the behind mark and the latch (R474, R475). -/
structure EvwBank where
  area    : Nat
  castIdx : Nat
  cursor  : Nat
  overrun : Bool
  cleared : Bool
  behind  : Bool
  latch   : List Nat
  deriving DecidableEq, Repr

/-- What the recorder keeps in AON SRAM: the staging ring and the sequence to come (R468, R471). -/
structure Staging where
  /-- Records staged and not persisted, oldest first. -/
  staged  : List EventRec
  /-- SEQ of the next record. -/
  nextSeq : Nat
  /-- Records refused since the last 0006h (R471). -/
  refused : Nat
  /-- Role-gated writes of the last second (R452): offset, value, function, first time, writes so far. -/
  gated   : List (Nat × Nat × Nat × Nat × Nat)
  /-- Monotonic count at the last persistence (EVW_PERSIST.AGEMS). -/
  lastPersist : Nat
  deriving DecidableEq, Repr

/-- The event areas in the configuration store (R469, R470). -/
structure EventAreas where
  /-- Cast-on records, oldest first. -/
  cast  : List EventRec
  /-- Round records, in SEQ order, at most 65,536. -/
  round : List EventRec
  /-- SEQ last persisted in order, for the gap of R473. -/
  last  : Nat
  /-- The newest SEQ that a round clear has named, while staged records of it remain (R478). -/
  clearTo : Option Nat
  deriving DecidableEq, Repr

/-! ### Configuration store -/

/-- The areas of R424, the key sectors told from the counter sectors (R434, R436) and the anchor log from the record log (R437). -/
inductive CfsArea where
  | calibration | keys | counters | anchorLog | recordLog | castOn | round | bootLocator | loaderBank
  deriving DecidableEq, Repr

/-- What the store keeps of a sector besides its content: erases, program failures since the last erase, failed erases (R425). -/
structure Sector where
  erases     : Nat
  progFails  : Nat
  eraseFails : Nat
  retired    : Bool
  deriving DecidableEq, Repr

/-- An area of R424: the sector being written and its next word, the sectors erased ahead, the full ones oldest first. -/
structure AreaState where
  cur    : Nat
  word   : Nat
  erased : List Nat
  full   : List Nat
  deriving DecidableEq, Repr

/-- A live record of the record log (R437, R438). -/
structure CfsRecord where
  gen     : Nat
  sector  : Nat
  payload : List Nat
  deriving DecidableEq, Repr

/-- The work a requester hands to the store's controller (R429). -/
inductive CfsWork where
  | event (seq : Nat)
  | settings
  /-- The settings record with feature values, for a Set Features by fetch number. -/
  | features (cmd : Nat)
  | record (kind index : Nat) (payload : List Nat) (port : Bool)
  | keySet
  | counterRec (values : List Nat)
  | anchor
  | dumpSeal
  | locator
  | loader
  | move (kind index sector : Nat)
  | rewrite (word : Nat)
  /-- The retire word of a sector, programmed to zeros (R425). -/
  | retire (sector : Nat)
  | erase (sector : Nat)
  deriving DecidableEq, Repr

/-- A waiting or running request: its rank of R429 and the words still to program. -/
structure CfsJob where
  rank  : Nat
  work  : CfsWork
  words : Nat
  /-- Words of the whole record, for writing it again (R427). -/
  total : Nat
  deriving DecidableEq, Repr

/-- The store's controller (R429): the operation in progress and the requests waiting, in order of arrival. -/
structure CfsCtl where
  op        : Option CfsJob
  /-- An erase suspended for the operation in progress (R429). -/
  heldErase : Option CfsJob
  /-- Suspensions of that erase, at most 32. -/
  suspends  : Nat
  queue     : List CfsJob
  /-- The staging buffer of the data port (R440), by dword; unlisted dwords are 0. -/
  dpBuf     : List (Nat × Word)
  deriving DecidableEq, Repr

/-! ### Security -/

/-- A session (R450). -/
structure Session where
  role    : Role
  lastUse : Nat
  deriving DecidableEq, Repr

/-- A challenge issued with C1h (R152). -/
structure Challenge where
  number   : Nat
  role     : Role
  issued   : Nat
  used     : Bool
  nonce    : Nat
  deriving DecidableEq, Repr

/-- The key set of the keys area (R434). Keys are the 768-bit numbers x then y; the device identity key pair itself cannot be read. -/
structure KeySet where
  opKey    : Option Nat
  instKey  : Option Nat
  makerKey : Option Nat
  gen      : Nat
  /-- Generation of the seed-wrapping key (R434, R461). -/
  wrapGen  : Nat
  /-- The seed table: NSID and seed, wrapped under `wrapGen` (R434, R460). -/
  seeds    : List (Nat × Nat)
  deriving DecidableEq, Repr

/-- The security unit's volatile state (R450, R453, R152). -/
structure Sec where
  sess0  : Option Session
  sess1  : Option Session
  chal0  : Option Challenge
  chal1  : Option Challenge
  /-- Challenge numbers issued. -/
  chalNo : Nat
  /-- Times of failed C2h on PF0 and PF1 (R152). -/
  fails0 : List Nat
  fails1 : List Nat
  /-- Staging buffer of the key port, 24 dwords; unlisted dwords are 0 (R453). -/
  kbuf   : List (Nat × Word)
  /-- A key commit is being written: the key number and value. -/
  commit : Option (Nat × Nat)
  /-- A C6h in progress: fetch number, target, role, time of acceptance, step of R458. -/
  lcRun  : Option (Nat × Nat × Nat × Nat × Nat)
  deriving DecidableEq, Repr

/-! ### Host link, functions and queues -/

/-- A completion status: type, code and DNR (R155, R523). -/
structure Status where
  sct : Nat
  sc  : Nat
  dnr : Bool
  deriving DecidableEq, Repr

/-- A completion queue entry (R117). -/
structure Cqe where
  cid    : Nat
  sqid   : Nat
  sqhd   : Nat
  status : Status
  dw0    : Nat
  deriving DecidableEq, Repr

/-- What the device sends: host link TLPs, SPDM responses, PMBus transactions, strand frames, sideband answers. -/
inductive Tx where
  /-- A completion queue entry written to a function's queue. -/
  | cqe (fn cq : Nat) (e : Cqe)
  /-- An MSI-X message. -/
  | msix (fn vec : Nat)
  /-- Data of one slot written to host memory for a command. -/
  | hostData (cmd lba data : Nat)
  /-- A buffer of dwords or fields returned to the host for a command. -/
  | hostBuf (cmd : Nat) (data : List Nat)
  /-- A completion for a memory or configuration read: port, tag and dwords. -/
  | readCpl (port tag : Nat) (data : List Nat)
  /-- Data from the CMB returned poisoned (R91). -/
  | poisonedCpl (port tag : Nat) (data : List Nat)
  /-- An Unsupported Request completion. -/
  | unsupported (port tag : Nat)
  /-- A Configuration Request Retry Status completion. -/
  | retry (port tag : Nat)
  /-- A non-posted request: port, tag, kind. -/
  | request (port tag : Nat) (kind : NpKind)
  /-- A page request: function, group, page, last. -/
  | pageRequest (fn prg page : Nat) (last : Bool)
  /-- An Invalidate Completion. -/
  | invalidateCpl (fn itag : Nat)
  /-- An SPDM response: PF, code, content. -/
  | spdm (pf code : Nat) (data : List Nat)
  /-- A PMBus command and its data. -/
  | pmbus (code data : Nat)
  /-- A strand frame: destination, type and fields. -/
  | frame (dst type : Nat) (data : List Nat)
  /-- A sideband answer. -/
  | sideband (data : List Nat)
  /-- A port's request for a link state: 1 L1 (R370). -/
  | link (port state : Nat)
  /-- A Latency Tolerance Reporting message of a port, in µs (R370). -/
  | ltr (port us : Nat)
  deriving DecidableEq, Repr

/-- An entry of the translation cache (R78). -/
structure AtcEntry where
  fn    : Nat
  page  : Nat
  pages : Nat
  dest  : Nat
  r     : Bool
  w     : Bool
  u     : Bool
  deriving DecidableEq, Repr

/-- A page request group outstanding (R80, R81). -/
structure PageGroup where
  prg    : Nat
  fn     : Nat
  stitch : Nat
  pages  : List Nat
  /-- Its page requests have been sent; the others wait for one to retire. -/
  sent   : Bool
  deriving DecidableEq, Repr

/-- An Invalidate Request whose completion is owed (R82). -/
structure Invalidation where
  fn   : Nat
  itag : Nat
  deriving DecidableEq, Repr

/-- A non-posted request outstanding on a port (R88 to R90). -/
structure NpReq where
  port : Nat
  tag  : Nat
  fn   : Nat
  kind : NpKind
  /-- The command or the submission queue it serves. -/
  obj  : Nat
  /-- Length asked for, in bytes. -/
  len  : Nat
  /-- Outstanding when its function was reset (R86). -/
  orphan : Bool
  deriving DecidableEq, Repr

/-- The state of one host port (R66, R67, R84). -/
structure Port where
  /-- PERSTp_N is asserted. -/
  perst    : Bool
  up       : Bool
  width    : Nat
  rate     : Nat
  reversed : Bool
  /-- Link power state: 0 L0, 1 L1.0, 2 L1.1, 3 L1.2. -/
  lpm      : Nat
  /-- Configuration requests are answered with retry status after a fundamental or hot reset (R84, R85). -/
  retry    : Bool
  /-- The expansion ROM is implemented since the last fundamental reset (R74). -/
  rom      : Bool
  deriving DecidableEq, Repr

/-- The store behind both CMBs (R73, R75), by byte. -/
abbrev CmbStore := List (Nat × Byte)

/-- A submission queue (R99 to R101). -/
structure Sq where
  size  : Nat
  /-- The head last reported to the host. -/
  head  : Nat
  /-- The next entry to fetch. -/
  fetch : Nat
  tail  : Nat
  cq    : Nat
  /-- QPRIO: 0 urgent, 1 high, 2 medium, 3 low. -/
  prio  : Nat
  inCmb : Bool
  /-- Entries asked for and not yet accepted. -/
  asked : Nat
  /-- Fetch timeouts in a row (R89). -/
  tmouts : Nat
  /-- The fetch number of a Delete I/O SQ waiting for commands in flight (R124). -/
  deleting : Option Nat
  deriving DecidableEq, Repr

/-- A completion queue (R117 to R119). -/
structure Cq where
  size : Nat
  head : Nat
  tail : Nat
  /-- The interrupt vector, if interrupts are enabled. -/
  vec  : Option Nat
  /-- Entries posted and not yet taken by the host, oldest first. -/
  entries : List Cqe
  /-- Finished commands whose entries are held, oldest first (R118). -/
  held : List Nat
  /-- Completions waiting for the coalescing time or threshold (R119). -/
  merged : Nat
  deriving DecidableEq, Repr

/-- What a function is going through (R86, R87). -/
inductive FnReset where
  | none | flr | teardown
  deriving DecidableEq, Repr

/-- One function: its configuration space, controller registers, queues and features. -/
structure Func where
  bme      : Bool
  mse      : Bool
  atsEn    : Bool
  priEn    : Bool
  /-- Outstanding Page Request Allocation. -/
  priAlloc : Nat
  roEn     : Bool
  /-- PF only: VF Enable, VF MSE, NumVFs. -/
  vfEn     : Bool
  vfMse    : Bool
  numVfs   : Nat
  bar0     : Nat
  bar2     : Nat
  bar4     : Nat
  romBar   : Nat
  /-- PF only: VF BAR0/1. -/
  vfBar    : Nat
  /-- Max Payload Size and Max Read Request Size, bytes. -/
  mps      : Nat
  mrrs     : Nat
  /-- Device Control 2: Completion Timeout encoding as written, and disable (R88). -/
  cto      : Nat
  ctoDis   : Bool
  msixEn   : Bool
  msixMaskAll : Bool
  /-- Masked and pending vectors; every vector is masked after a reset (R83). -/
  unmasked : List Nat
  pend     : List Nat
  /-- Message address and data of the MSI-X table, by dword of the table; unlisted dwords are 0. -/
  msixTab  : List (Nat × Word)
  /-- NVMe controller registers as the host wrote them (CC, AQA, ASQ, ACQ), by dword number; unlisted dwords are 0. -/
  nvme     : List (Nat × Nat)
  /-- Other configuration dwords written, by register number. -/
  cfg      : List (Nat × Nat)
  reset    : FnReset
  /-- CC.EN, CC.SHN in force, CC.AMS, CSTS.RDY, CSTS.SHST, CSTS.CFS. -/
  en       : Bool
  shn      : Nat
  ams      : Nat
  rdy      : Bool
  shst     : Nat
  cfs      : Bool
  /-- CC.EN was set while a shutdown or reset runs; it takes effect after it (R87). -/
  enWait   : Bool
  /-- Queues granted by Number of Queues: submission, completion (R99). -/
  qgrant   : Option (Nat × Nat)
  sqs      : List (Nat × Sq)
  cqs      : List (Nat × Cq)
  /-- Current feature values set on this controller (R145). -/
  feats    : List (Nat × Nat)
  /-- Asynchronous Event Requests outstanding, oldest first, by fetch number (R149). -/
  aers     : List Nat
  /-- Asynchronous events waiting for a request: type, information, log page. -/
  aens     : List (Nat × Nat × Nat)
  /-- Types masked until their log page is read. -/
  aenMask  : List Nat
  /-- Namespaces attached. -/
  nss      : List Nat
  /-- Namespaces changed since log page 04h was read. -/
  changed  : List Nat
  /-- Error log entries of the controller, newest first (page 01h). -/
  errors   : List (Nat × Nat × Nat)
  /-- I/O fetch grants used in the present round (R103). -/
  grants   : Nat
  /-- What a shutdown waits for: the group whose commit ends it (R122). -/
  shnGroup : Option Nat
  /-- Admin queue sizes given with the enable. -/
  aqa      : Nat × Nat
  /-- The power state selected and the last operational one (R365). -/
  psel     : Nat
  plast    : Nat
  deriving DecidableEq, Repr

/-- Where a command slot's command stands. -/
inductive CmdPhase where
  /-- Waiting for interlock entries (R114). -/
  | waitLock
  /-- Being carried out. -/
  | active
  /-- Carried out, waiting for a commit group (R117, R120, R141, R157): the group number. -/
  | waitGroup (g : Nat)
  /-- Waiting for protected mode or for programming and commit, in exposed mode (R117, R185). -/
  | waitDurable
  /-- Waiting for a configuration-store write (R435, R460). -/
  | waitStore
  /-- Finished; its completion is not posted yet. -/
  | finished (st : Status) (dw0 : Nat)
  deriving DecidableEq, Repr

/-- A command slot in use (R105). -/
structure Cmd where
  fn       : Nat
  sq       : Nat
  admin    : Bool
  sqe      : Sqe
  accepted : Nat
  /-- The level of its stitches (R108). -/
  level    : Nat
  phase    : CmdPhase
  /-- Next LBA to cut into a stitch, and the end (R106). -/
  nextCut  : Nat
  endCut   : Nat
  /-- Slots buffered or delivered so far. -/
  doneSlots : Nat
  /-- A failure met by one of its stitches, reported when the others have stopped (R81). -/
  failure  : Option Status
  /-- Dropped by a reset: it continues without a completion (R121). -/
  dropped  : Bool
  /-- Fully buffered (R115, R121). -/
  buffered : Bool
  /-- The exposed rule applies to it, by the mode at its full buffering (R184). -/
  exposed  : Bool
  /-- Vendor feature C3h of its namespace when it was accepted (R340). -/
  cmpEn    : Bool
  /-- The lowest LBA that ended at L6 or is marked (R233). -/
  badLba   : Option Nat
  deriving DecidableEq, Repr

/-- What a stitch is doing. -/
inductive StitchPhase where
  | ready
  /-- Holds a resource: its number of R108. -/
  | running (res : Nat)
  /-- Parked for a reason of R111. -/
  | parked (reason : Nat)
  deriving DecidableEq, Repr

/-- A stitch entry (R106 to R112). -/
structure Stitch where
  cmd    : Nat
  first  : Nat
  count  : Nat
  level  : Nat
  phase  : StitchPhase
  /-- Slot within the stitch at which it goes on. -/
  at_    : Nat
  /-- Monotonic count since which it has been ready. -/
  since  : Nat
  /-- Page request groups sent for it (R81). -/
  groups : Nat
  /-- Blocks it pins (R113). -/
  pins   : List Nat
  /-- The resource it waits for (R108): 0 DMA, 1 ECC, 2 compression and crypto, 3 channel operation queues, 4 read staging. -/
  want   : Nat
  deriving DecidableEq, Repr

/-- An interlock entry (R114). -/
structure Lock where
  cmd   : Nat
  nsid  : Nat
  first : Nat
  count : Nat
  write : Bool
  /-- A write kind that buffers data (Write, Write Zeroes, Copy, strand write). -/
  data  : Bool
  deriving DecidableEq, Repr

/-- Internal work waiting at level 6 for a resource: resource, id, since (R108, R505). -/
structure IntWork where
  res   : Nat
  id    : Nat
  level : Nat
  since : Nat
  deriving DecidableEq, Repr

/-- A fetch read of submission entries (R101): function, queue, tag and entries asked for; those that have arrived out of order. -/
structure Fetch where
  fn  : Nat
  qid : Nat
  tag : Nat
  num : Nat
  got : Option (List Sqe)
  deriving DecidableEq, Repr

/-- The queue engine and stitch scheduler. -/
structure Qen where
  /-- Fetch number of the last command accepted (R102). -/
  lastFetch : Nat
  cmds      : List (Nat × Cmd)
  /-- Commands finished and not yet posted, in the order in which they finished (R117). -/
  finishOrder : List Nat
  stitches  : List (Nat × Stitch)
  nextStitch : Nat
  locks     : List Lock
  /-- Internal work waiting for a resource. -/
  internal  : List IntWork
  /-- Reader pins by block number (R113). -/
  pins      : List (Nat × Nat)
  /-- Stop of fetch on every function, for activation, power entry or a transition (R123). -/
  fetchStop : Bool
  /-- Fetch reads outstanding, oldest first. -/
  fetches   : List Fetch
  /-- Functions served last: admin round robin, I/O round robin. -/
  lastAdmin : Nat
  lastIo    : Nat
  /-- Queues served last, by function (R104), and weighted grants left by class. -/
  lastQ     : List (Nat × Nat)
  wrrLeft   : List (Nat × Nat × Nat × Nat)
  /-- Allotment in force since cold reset: VFIO, PF0IO (R98); RES, CAP (R105). -/
  vfio      : Nat
  pf0io     : Nat
  res       : Nat
  cap       : Nat
  deriving DecidableEq, Repr

/-- The host interface units besides the functions. -/
structure Hif where
  port0 : Port
  port1 : Port
  atc   : List AtcEntry
  groups : List PageGroup
  nextPrg : Nat
  invals : List Invalidation
  reqs   : List NpReq
  nextTag0 : Nat
  nextTag1 : Nat
  /-- Tags in quarantine: port, tag (R90). -/
  quar   : List (Nat × Nat)
  cmb    : CmbStore
  /-- Bytes of the CMB stored marked poisoned (R91). -/
  poisoned : List Nat
  /-- Writes beyond a PF's share, discarded and counted (R73). -/
  cmbOver  : Nat
  /-- PF0GIB in force since cold reset (R73). -/
  split  : Nat
  /-- AER status bits by port. -/
  aer0   : List LinkError
  aer1   : List LinkError
  /-- BAR2 writes held in PS4 until exit step 6 (R518). -/
  held   : List (Nat × DwReq)
  /-- SPDM connection state by PF: version and algorithms negotiated (R92). -/
  spdm0  : Nat
  spdm1  : Nat
  deriving DecidableEq, Repr

/-! ### Namespaces, admin commands and features -/

/-- A namespace (R138, R156). -/
structure Ns where
  /-- LBAs (NSZE = NCAP). -/
  size     : Nat
  lbaf     : Nat
  /-- Protection information: type 0 to 3, and whether it lies in the first bytes of the metadata (R135). -/
  pi       : Nat
  piFirst  : Bool
  /-- Granule numbers, in the order of the namespace's LBAs (R156). -/
  granules : List Nat
  /-- Vendor feature C3h (R146). -/
  compress : Bool
  /-- Reclaim unit handles named by its placement handles, in order (R139). -/
  handles  : List Nat
  /-- A Format of it is in progress (R141). -/
  formatting : Bool
  deriving DecidableEq, Repr

/-- A Format in progress or the last one (R141, R142, log page C1h). -/
structure FormatRun where
  nsid     : Nat
  ses      : Nat
  lbaf     : Nat
  /-- 0 none, 1 in progress, 2 completed, 3 failed. -/
  state    : Nat
  progress : Nat
  resumed  : Nat
  start    : Nat
  last     : Nat
  /-- The command, while it is outstanding. -/
  cmd      : Option Nat
  /-- The group whose commit it waits for. -/
  group    : Option Nat
  deriving DecidableEq, Repr

/-- The Sanitize operation (R143, R144). -/
structure SanitizeRun where
  /-- 0 never, 1 completed, 2 in progress, 3 failed. -/
  state    : Nat
  action   : Nat
  passes   : Nat
  pattern  : Nat
  invert   : Bool
  noDealloc : Bool
  progress : Nat
  deriving DecidableEq, Repr

/-- A crypto erase on its way (R461): namespaces, cause (as SEC_CELAST.KIND), the group of its records, whether the seeds have been
replaced, and the monotonic count at its start. -/
structure CryptoRun where
  nsids : List Nat
  why   : Nat
  group : Nat
  keyed : Bool
  start : Nat
  deriving DecidableEq, Repr

/-- Device-wide admin state. -/
structure Admin where
  /-- Saved feature values (R145), by identifier and selector. -/
  saved    : List (Nat × Nat)
  /-- Vendor feature C0h, units of 256 MiB. -/
  limit    : Nat
  /-- Vendor feature C5h: START and STEP. -/
  start    : Nat
  step     : Nat
  /-- FDP configuration index while FDP is enabled (R140). -/
  fdp      : Option Nat
  /-- Sanitize Config NODRM (R143). -/
  nodrm    : Bool
  format   : FormatRun
  sanitize : SanitizeRun
  /-- FDP events, newest first: type and handle (R140). -/
  fdpEvents : List (Nat × Nat)
  /-- FDP event types enabled by feature 1Eh, by reclaim unit handle. -/
  fdpEn    : List (Nat × List Nat)
  /-- Log page 0Fh lists endurance group 1 (R147). -/
  egEvent  : Bool
  /-- Flags [0] to [3] of log page C0h as last reported (R149). -/
  c0flags  : Nat
  /-- Host commands and data of log page 02h: read and write commands, data units. -/
  reads    : Nat
  writes   : Nat
  mediaErrs : Nat
  /-- Critical warning bits (R147, R251). -/
  critWarn : Nat
  /-- Why critical warning bit 2 is set: 0 spare, 1 a segment or the seed table lost, 2 a journal gap, 3 a skein, 4 HBM, 5 one skein left
  for both journal copies (R179, R251, R264, R280, R283, R306, R325). -/
  degraded : List Nat
  /-- Granules of deleted namespaces, with the group whose commit frees them (R157). -/
  freeing  : List (Nat × List Nat)
  /-- Crypto erases on their way, oldest first (R461). -/
  crypto   : List CryptoRun
  /-- A switch-over since cold reset (log page C0h). -/
  switched : Bool
  deriving DecidableEq, Repr

/-! ### The two-grain map -/

/-- A coarse entry (R160). -/
inductive CEntry where
  | coarse (addr : Nat)
  | overlay (idx : Nat)
  | frame (addr count : Nat)
  | unwritten
  deriving DecidableEq, Repr

/-- A fine entry (R161). -/
inductive FEntry where
  | mapped (psa : Nat)
  | marked
  | unwritten
  deriving DecidableEq, Repr

/-- What an extent's entries say, its overlay block included. -/
inductive Ext where
  | coarse (addr : Nat)
  | frame (addr count : Nat)
  | fine (fs : List FEntry)
  | unwritten
  deriving DecidableEq, Repr

/-- An overlay block in use with its owner-table entry (R161, R162). -/
structure Overlay where
  owner : Nat
  epoch : Nat
  fine  : List FEntry
  deriving DecidableEq, Repr

/-- An update held in its lane for a stalled segment (R179). -/
inductive HeldUpd where
  | unit (cmd nsid unit : Nat)
  | copy (id : Nat)
  | rmw (id : Nat)
  deriving DecidableEq, Repr

/-- The map engine (R156 to R179). -/
structure MapSt where
  /-- Coarse entries that are not unwritten, by map index. -/
  coarse   : List (Nat × CEntry)
  /-- Overlay blocks in use, by overlay index. -/
  overlays : List (Nat × Overlay)
  /-- Valid-slot counts that are not 0, by block number (R162). -/
  valid    : List (Nat × Nat)
  /-- Segments stalled, oldest stall first, with the monotonic count of the detection. -/
  stalled  : List (Nat × Nat)
  /-- Segments lost (R179). -/
  lost     : List Nat
  /-- Updates held, in order of arrival, with the segment they wait for. -/
  held     : List (Nat × HeldUpd)
  /-- Seaming is suspended for a scan of the coarse map (R179). -/
  scanning : Bool
  deriving DecidableEq, Repr

/-! ### Lifeline -/

/-- A lifeline record (R258). -/
inductive Rec where
  | mapSet (e : Nat) (c : CEntry)
  | mapFine (e slot : Nat) (f : FEntry)
  | dealloc (e count mask : Nat)
  | courseOpen (seq pos die block w : Nat) (ply2 slc : Bool) (band handle : Nat)
  | courseClose (seq row : Nat) (early : Bool) (dropped : Nat)
  | erasePending (die block : Nat)
  | eraseDone (die block count : Nat)
  | retire (die block reason : Nat) (pending : Bool)
  | moveCommit (e slot : Nat) (whole frame : Bool) (count old new : Nat)
  | seamCommit (e psa : Nat) (frame : Bool) (count : Nat)
  | checkpointMark (seg : Nat) (part unchanged : Bool) (start psa len : Nat)
  | stitchMarker (group num crc : Nat) (final clean : Bool)
  deriving DecidableEq, Repr

/-- A commit group: its sequence, the monotonic count at which it opened, its records with their SEQ and batch-end flag (R257, R261). -/
structure Group where
  num    : Nat
  opened : Nat
  recs   : List (Nat × Bool × Rec)
  deriving DecidableEq, Repr

/-- One journal copy: the course being written and the courses held, oldest first (R265). -/
structure JCopy where
  /-- Sequence number of the open course, 0 for none. -/
  course  : Nat
  skein   : Nat
  q       : Nat
  /-- Rows used in the open course. -/
  rows    : Nat
  /-- Courses held with the first SEQ written to each, oldest first. -/
  courses : List (Nat × Nat)
  /-- The next course, formed before the open one fills: its sequence number, skein and q. -/
  ahead   : Option (Nat × Nat × Nat)
  /-- Frames of its compression stream since the stream's start (R335). -/
  frames  : Nat
  deriving DecidableEq, Repr

/-- A block-table entry (R270), with the state of its erase and open check (R193). -/
inductive BlkState where
  | erased | opened | closed | erasePending | retirePending | retired | bad | excluded
  deriving DecidableEq, Repr

/-- A flash block. -/
structure Blk where
  state  : BlkState
  ec     : Nat
  course : Nat
  pos    : Nat
  level  : Nat
  tinked : Option Nat
  reads  : Nat
  /-- The commit group that must be committed before its erase (R263, R272). -/
  group  : Nat
  /-- Erase failures and failed open checks in a row (R193). -/
  eFails : Nat
  cFails : Nat
  /-- Erased and waiting for the open check. -/
  checking : Bool
  /-- Reason of a RETIRE record (R258). -/
  why    : Nat
  deriving DecidableEq, Repr

/-- A checkpoint of a segment or, with `part`, of a block-table part (R268 to R270). -/
structure Ckpt where
  num    : Nat
  part   : Bool
  start  : Nat
  psa    : Nat
  len    : Nat
  course : Nat
  time   : Nat
  /-- The group that holds its mark. -/
  group  : Nat
  exts   : List (Nat × Ext)
  deriving DecidableEq, Repr

/-- An anchor (R266). -/
structure Anchor where
  courseA : Nat
  courseB : Nat
  group   : Nat
  dumpGen : Nat
  dumpPending : Bool
  clean   : Bool
  deriving DecidableEq, Repr

/-- The lifeline unit. -/
structure Lif where
  /-- SEQ of the next record (R257). -/
  nextRec   : Nat
  openGroup : Option Group
  /-- Groups closed and not committed, oldest first. -/
  waiting   : List Group
  /-- Sequence of the last group closed and of the last committed. -/
  closed    : Nat
  committed : Nat
  /-- Committed groups that the journal still holds, oldest first. -/
  journal   : List Group
  copyA     : JCopy
  copyB     : JCopy
  /-- Released journal courses waiting for an anchor (R266, R267). -/
  released  : List Nat
  /-- The checkpoints being written: noted S and captured content (R268). -/
  running   : List Ckpt
  /-- The kept checkpoints, newest first, by segment, or 8,192 + part (R269). -/
  kept      : List (Nat × List Ckpt)
  /-- Segments, and 8,192 + parts, with a record since their last checkpoint. -/
  touched   : List Nat
  /-- The next block-table part of the round. -/
  nextPart  : Nat
  anchor    : Option Anchor
  /-- The anchor being written. -/
  anchorNext : Option Anchor
  deriving DecidableEq, Repr

/-- A dumped slot and its directory entry (R276). -/
structure DumpSlot where
  nsid   : Nat
  lba    : Nat
  cmd    : Nat
  posted : Bool
  data   : Nat
  mdata  : Nat
  deriving DecidableEq, Repr

/-- The dump area and the dump seal (R275 to R278). -/
structure Dump where
  formed  : Bool
  gen     : Nat
  /-- Blocks of the dump area, by block number. -/
  blocks  : List Nat
  /-- The seal: generation and slot count, absent or short where energy ran out. -/
  sealed  : Option (Nat × Nat)
  /-- Dumped slots, in order of the directory. -/
  slots   : List DumpSlot
  /-- A dump runs since this monotonic count (R277); `ended` once it has reached step 7, or where there is none to write (R496). -/
  running : Option Nat
  ended   : Bool
  /-- Slots to write, images of read-modify-writes among them. -/
  total   : Nat
  deriving DecidableEq, Repr

/-! ### Write buffer, courses and flash -/

/-- A slot of the write buffer (R183, R186). -/
structure BufSlot where
  cmd   : Nat
  /-- The function it was written through, 2,048 for a strand write (R503). -/
  fn    : Nat
  nsid  : Nat
  lba   : Nat
  data  : Nat
  mdata : Nat
  /-- Its flash copy: the PSA, or that of its frame's first slot. -/
  place : Option Nat
  /-- Slots of the frame that holds it, 0 where it is not compressed. -/
  frame : Nat
  /-- Its map update has applied, in this commit group. -/
  applied : Bool
  group : Nat
  /-- Lost to an HBM error (R187). -/
  lost  : Bool
  /-- It waited to be placed again after a program failure (R205). -/
  again : Bool
  deriving DecidableEq, Repr

/-- The write buffer. -/
structure Buf where
  slots  : List (Nat × BufSlot)
  nextId : Nat
  /-- Slots reserved by admitted writes and not yet buffered, by fetch number (R502). -/
  resv   : List (Nat × Nat)
  deriving DecidableEq, Repr

/-- A codeword as written to a page (R211 to R213). -/
structure Codeword where
  /-- HDR.TYPE. -/
  type  : Nat
  nsid  : Nat
  tag   : Nat
  fidx  : Nat
  /-- The slot's data and metadata; for a frame's first slot the extent's, in order. -/
  data  : List (Nat × Nat)
  /-- The generation of the namespace key it is encrypted with. -/
  key   : Nat
  deriving DecidableEq, Repr

/-- A member of a course (R189, R194). -/
structure Member where
  die  : Nat
  blk  : Nat
  /-- Slots placed or padded so far. -/
  next : Nat
  /-- Wordlines issued, and programmed with pass status. -/
  iss  : Nat
  done : Nat
  /-- Dropped from this row onward (R205). -/
  drop : Option Nat
  deriving DecidableEq, Repr

/-- A course (R189 to R191). -/
structure Course where
  w       : Nat
  ply     : Nat
  slc     : Bool
  /-- Band as in COURSE_OPEN: 0 host data, 1 staging, 2 reclaim, 3 and 4 journal copies, 5 system, 6 dump. -/
  band    : Nat
  handle  : Nat
  group   : Nat
  rank    : Nat
  /-- Members by position; a missing member of a short course is `none`. -/
  members : List (Option Member)
  /-- The data index at which the next whole extent goes. -/
  nextMem : Nat
  /-- The data index of the small-slot member, and the wordline it is filling. -/
  small   : Nat
  smallWl : Nat
  /-- The last row that will program. -/
  last    : Nat
  closed  : Bool
  early   : Bool
  /-- Age epoch and monotonic count at its close. -/
  closeEpoch : Nat
  closeTime  : Nat
  /-- A program failed in it and its data is still moving: the block numbers (R205 step 5). -/
  moving  : List Nat
  deriving DecidableEq, Repr

/-- A band: the place whose course takes the next stitch (R190, R194). -/
structure Band where
  kind   : Nat
  handle : Nat
  next   : Nat
  deriving DecidableEq, Repr

/-- Why a course waits for the reclaim engine (RCL_LASTVIC.REASON), and its level. -/
structure Victim where
  course : Nat
  reason : Nat
  level  : Nat
  deriving DecidableEq, Repr

/-- A copy in the copy workspace: a move, or a seam (R168, R202, R240, R241). -/
structure Copy where
  /-- The course it comes from; 0 for a seam. -/
  course : Nat
  /-- RCL_LASTVIC.REASON, 8 destaging, 9 a failed block, 10 a die out of service, 11 a seam. -/
  reason : Nat
  e      : Nat
  slot   : Nat
  whole  : Bool
  frame  : Bool
  count  : Nat
  old    : Nat
  new    : Nat
  /-- The extent read at the start of a seam. -/
  seen   : Ext
  /-- Distinct pages read for a seam. -/
  pages  : Nat
  deriving DecidableEq, Repr

/-- A read-modify-write (R173): the extent's value when read, its image's place and what it carries. -/
structure Rmw where
  cmd    : Nat
  nsid   : Nat
  e      : Nat
  /-- First LBA of the extent. -/
  lba    : Nat
  seen   : Ext
  place  : Option Nat
  /-- Slots of the image's frame, 0 where it is stored as a run. -/
  frame  : Nat
  /-- Old slots that ended at L6 and are not covered (R173). -/
  bad    : List Nat
  /-- It marks the host's slots instead of writing them (R176). -/
  marks  : List Nat
  restarts : Nat
  deriving DecidableEq, Repr

/-- The course manager, write buffer and reclaim engine. -/
structure Crs where
  courses : List (Nat × Course)
  bands   : List Band
  /-- The last course sequence number. -/
  lastSeq : Nat
  /-- Codewords placed, by PSA. -/
  media   : List (Nat × Codeword)
  rmws    : List (Nat × Rmw)
  copies  : List (Nat × Copy)
  nextJob : Nat
  victims : List Victim
  /-- Host and reclaim slots placed in the present 64 MiB (R244). -/
  hostPlaced : Nat
  rclPlaced  : Nat
  /-- Courses emptied whose records may not be committed yet (R263). -/
  emptied : List (Nat × Course)
  /-- Monotonic counts of the retirements of the last 24 h (R251). -/
  retTimes : List Nat
  /-- Monotonic count at which the write tension last changed. -/
  tensSince : Nat
  /-- Slots programmed for hosts and in all, for RCL_COPY.WAF. -/
  hostProg : Nat
  allProg  : Nat
  deriving DecidableEq, Repr

/-- Die geometry and timing from target discovery, times in ns (R188, R217, R295). -/
structure Geom where
  blocks : Nat
  wls    : Nat
  /-- Rated capacity, MiB, and endurance. -/
  rated  : Nat
  endur  : Nat
  tr     : Nat
  trMax  : Nat
  trSlc  : Nat
  trSlcMax : Nat
  tp     : Nat
  tpMax  : Nat
  tpSlc  : Nat
  tpSlcMax : Nat
  te     : Nat
  teMax  : Nat
  /-- The die suspends programs, and erases (R441). -/
  suspendP : Bool
  suspendE : Bool
  maxRate : Nat
  deriving DecidableEq, Repr

/-- An array operation of a die (R293, R303): kind 0 read, 1 program, 2 erase, 3 features and training. -/
structure FlashOp where
  kind  : Nat
  /-- The course and position programmed, or the block erased. -/
  obj   : Nat
  pos   : Nat
  /-- The monotonic count that its run is counted from; while it is suspended, how long it has run. -/
  start : Nat
  /-- Reads that suspended it are being served. -/
  suspended : Bool
  suspends : Nat
  level : Nat
  deriving DecidableEq, Repr

/-- A channel (R291, R308). -/
structure Chan where
  up   : Bool
  rate : Nat
  fallback : Bool
  deriving DecidableEq, Repr

/-- The flash side: discovery, dies, blocks and operations. -/
structure Fl where
  geom   : Geom
  /-- LUNs found on each channel, and LUN ranks admitted (R299). -/
  luns   : Nat
  ranks  : Nat
  /-- Channels on which another number of LUNs answered. -/
  lunsAt : List (Nat × Nat)
  /-- LUN ranks that the roster holds as admitted, the description in use, and dies of those ranks that were never used (R296, R298). -/
  admitted : Nat
  desc   : Option Nat
  unused : List Nat
  /-- A die roster has been written (R298). -/
  roster : Bool
  /-- Dies out of service with the reason: 0 retirements, 1 not answering, 2 LUNOUT, 3 replaced, 4 channel, 5 skein (R250, R298). -/
  out    : List (Nat × Nat)
  /-- Blocks that differ from a good block never erased, by die × 4,096 + block. -/
  blks   : List (Nat × Blk)
  ops    : List (Nat × FlashOp)
  chans  : List (Nat × Chan)
  /-- Times of operation timeouts, by die (R294). -/
  touts  : List (Nat × List Nat)
  /-- A LUN reset runs: die and what it was doing. -/
  resets : List (Nat × FlashOp)
  /-- Dies classed slow with the time of classification or of the last counted miss (R227, R229). -/
  slow   : List (Nat × Nat)
  /-- Times of counted misses, by die. -/
  misses : List (Nat × List Nat)
  /-- Skein links down: skein, monotonic count of the loss, recoveries failed (R306). -/
  down   : List (Nat × Nat × Nat)
  /-- Good blocks at first discovery, all dies (R249). -/
  good   : Nat
  /-- Raw capacity admitted, MiB (R31, R299). -/
  raw    : Nat
  /-- Mean syndrome weights reported by L0 decodes: block, decodes, sum (R220). -/
  synd   : List (Nat × Nat × Nat)
  /-- Tracked read levels, by die, age bin and erase band (R220). -/
  levels : List (Nat × Nat)
  deriving DecidableEq, Repr

/-! ### Read path -/

/-- Where a codeword read stands (R218 to R225). -/
inductive ReadPhase where
  | queued | atDie | decoding | rebuilding
  /-- Decoded and checked, waiting for the other codewords of its frame. -/
  | decoded
  deriving DecidableEq, Repr

/-- A codeword being read for a command. -/
structure CwRead where
  cmd   : Nat
  stitch : Nat
  nsid  : Nat
  lba   : Nat
  psa   : Nat
  /-- For a compressed extent: slots of the frame and the slot's index in the extent. -/
  frame : Nat
  index : Nat
  /-- Ladder step. -/
  step  : Nat
  phase : ReadPhase
  /-- 0 L4 of the ladder, 1 a tail cut, 2 in advance for a slow die. -/
  why   : Nat
  /-- Issued again after a failed reconstruction: no deadline, no L4. -/
  again : Bool
  /-- L1 to L3 were skipped for a slow die or an erased codeword. -/
  skipped : Bool
  /-- The deadline won, and the codeword at the die is still to come. -/
  late  : Bool
  start : Nat
  deriving DecidableEq, Repr

/-- The read path. -/
structure Rd where
  reads  : List (Nat × CwRead)
  nextId : Nat
  /-- Late codewords still at their dies, by read id. -/
  late   : List Nat
  /-- Reads ended at each step L0 to L6 and tail cuts since cold reset, for log page C2h: eight numbers. -/
  ended  : List Nat
  deriving DecidableEq, Repr

/-! ### Map memory (R310 to R329) -/

/-- A throttle in force (R317): pseudo-channel, bank, row and port. -/
structure Throttle where
  pc   : Nat
  bank : Nat
  row  : Nat
  port : Nat
  deriving DecidableEq, Repr

/-- The map memory controller. -/
structure Hbm where
  /-- HBM_ORDER in force since cold reset (R313). -/
  order     : Nat
  /-- Per-bank refreshes since counter 6 last moved (units of 2^10). -/
  refreshes : Nat
  /-- Refreshes postponed, by pseudo-channel × 48 + bank, 1 to 4 (R320). -/
  postponed : List (Nat × Nat)
  throttles : List Throttle
  /-- Rows listed for repair at every start (R325): (pseudo-channel × 48 + bank) × 32,768 + row. -/
  repaired  : List Nat
  /-- Zeroing runs since this monotonic count (R326). -/
  zeroing   : Option Nat
  /-- Monotonic count at which the last scrub pass ended. -/
  scrubbed  : Nat
  deriving DecidableEq, Repr

/-! ### Supervisors (R347 to R361) -/

/-- A snapshot bank's header and the part of its body that the model's state distinguishes (R350). -/
structure Snapshot where
  seq      : Nat
  time     : Nat
  at_      : Nat
  format   : FormatRun
  sanitize : SanitizeRun
  stalled  : List Nat
  ps       : Nat
  armed    : Option Nat
  deriving DecidableEq, Repr

/-- The two supervisors and the AON part that watches them. -/
structure Sup where
  snap0    : Option Snapshot
  snap1    : Option Snapshot
  /-- A switch-over runs: its cause and the monotonic count of the first yield (R353). -/
  yielded  : Option (Nat × Nat)
  /-- Monotonic counts at which earlier switch-overs began (R357). -/
  switches : List Nat
  /-- Flag [3] of log page C0h (R358). -/
  stFail   : Bool
  /-- The core that the switch-over makes active (R348, R356). -/
  target   : Nat
  /-- The core that yielded restores onto itself (R356). -/
  onto     : Bool
  /-- Configuration-store writes requested during the switch-over (R354, R430). -/
  writes   : List CfsJob
  deriving DecidableEq, Repr

/-! ### Power states and patrol (R362 to R384) -/

/-- The saved register set (R371). -/
structure SavedSet where
  target : Nat
  lastOp : Nat
  dlys   : List Word
  rates  : List Nat
  zq     : List Word
  req    : Nat
  slotMs : Nat
  ltr    : Nat
  deriving DecidableEq, Repr

/-- A canary (R374). -/
structure Canary where
  psa  : Nat
  bin  : Nat
  base : Nat
  deriving DecidableEq, Repr

/-- The power sequencer and the patrol sequencer. -/
structure Pwr where
  /-- An entry in progress: its target and the monotonic count at which it began (R367). -/
  entry    : Option (Nat × Nat)
  /-- Monotonic count at which P2 of that entry ended. -/
  drained  : Nat
  /-- Monotonic count up to which `times` counts, and the ns spent in PS0 to PS4 (PWR_TIME). -/
  since    : Nat
  times    : List Nat
  saved    : Option SavedSet
  canaries : List Canary
  /-- HOLD_OK was low at the last patrol sample (R375). -/
  lowLast  : Bool
  /-- The state the device returns to by itself when the queued refresh has committed (R375). -/
  back     : Option Nat
  /-- The last temperatures of sensors 1 to 13, °C in two's complement (R145). -/
  temps    : List Nat
  /-- Highest canary weights by age bin in the sweep that runs (PAT_BIN). -/
  sweep    : List Nat
  deriving DecidableEq, Repr

/-! ### Strand fabric (R385 to R409) -/

/-- A live receive window (R400). -/
structure Window where
  nsid : Nat
  base : Nat
  len  : Nat
  any  : Bool
  src  : Nat
  open_ : Bool
  deriving DecidableEq, Repr

/-- A reliable frame sent and not acknowledged: sequence, type, content and retransmissions (R398). -/
structure Unacked where
  seq   : Nat
  type  : Nat
  data  : List Nat
  tries : Nat
  deriving DecidableEq, Repr

/-- What the strand engine keeps of a peer (R398, R403). -/
structure Peer where
  /-- Last SEQ sent. -/
  sent    : Nat
  unacked : List Unacked
  /-- Highest SEQ received in order. -/
  got     : Nat
  /-- Frames held until their gaps are filled, at most 256. -/
  early   : List (Nat × FrameBody)
  /-- DATA slots the peer will still accept. -/
  credit  : Nat
  reach   : Bool
  deriving DecidableEq, Repr

/-- A copy being sent (R154, R399). -/
structure OutCopy where
  cmd    : Nat
  fn     : Nat
  peer   : Nat
  win    : Nat
  off    : Nat
  path   : Nat
  nsid   : Nat
  slba   : Nat
  total  : Nat
  sent   : Nat
  acked  : Nat
  deriving DecidableEq, Repr

/-- A strand write: the part of a copy in one 1 MiB unit (R402). -/
structure InWrite where
  fetch    : Nat
  nsid     : Nat
  lba      : Nat
  count    : Nat
  /-- Slots received: LBA and data. -/
  got      : List (Nat × Nat)
  buffered : Bool
  exposed  : Bool
  acked    : Bool
  deriving DecidableEq, Repr

/-- A copy being received. -/
structure InCopy where
  peer   : Nat
  id     : Nat
  win    : Nat
  off    : Nat
  count  : Nat
  recv   : Nat
  ackedSlots : Nat
  writes : List InWrite
  deriving DecidableEq, Repr

/-- A member of the fleet registry (R394, R406): 0 present, 1 missing, 2 patrolling. -/
structure FleetMember where
  sn     : Nat
  addr   : Nat
  digest : List Nat
  heard  : Nat
  state  : Nat
  deriving DecidableEq, Repr

/-- The strand engine and the fleet duties. -/
structure Strand where
  ticket  : Option JoinTicket
  /-- Selector values stored by C8h, by selector (R392). -/
  config  : List (Nat × List Nat)
  peers   : List (Nat × Peer)
  members : List (Nat × FleetMember)
  /-- Registry sequence and the epoch of the manager followed. -/
  regSeq  : Nat
  epoch   : Nat
  /-- A new manager waits for its deputies' registry (R406). -/
  loading : Bool
  out     : List (Nat × OutCopy)
  /-- Copies received, by peer × 2^32 + copy ID. -/
  ins     : List (Nat × InCopy)
  nextCopy : Nat
  windows : List (Nat × Window)
  up0     : Bool
  up1     : Bool
  /-- The last 8 exchanges kept: offset in ns and device time; round trips of the last 64 (R396). -/
  kept    : List (Int × Nat)
  trips   : List Nat
  /-- Heartbeats answered are missing since this many; totals for log page C3h. -/
  missed  : Nat
  /-- Link addresses learnt by neighbour discovery: address and MAC (R386). -/
  neigh   : List (Nat × Nat)
  /-- The last roll-up's entries of each section, on a top manager (R395). -/
  rolls   : List (Nat × List RollEntry)
  /-- Section managers heard from, on a top manager. -/
  mgrs    : List Nat
  /-- STR_ENCAP and STR_L3 in force since cold reset (R386). -/
  encap   : Nat
  l3      : Nat
  deriving DecidableEq, Repr

/-! ### Firmware (R410 to R423) -/

/-- A live activation in progress (R415): the Firmware Commit it serves, its start, the slot and the step. -/
structure Activation where
  cmd   : Option Nat
  start : Nat
  slot  : Nat
  deriving DecidableEq, Repr

/-- The firmware unit. -/
structure Fwu where
  /-- Blocks staged: 4 KiB block number and content. -/
  stage : List (Nat × Nat)
  /-- The function that opened the download (R412). -/
  owner : Option Nat
  /-- The image of each slot. -/
  slot1 : List FwPart
  slot2 : List FwPart
  /-- The package each slot was written from, by block, for the fleet (R421). -/
  raw1  : List (Nat × Nat)
  raw2  : List (Nat × Nat)
  /-- The boot loader bank that the boot locator names, and the one its next record names (R442). -/
  bank  : Nat
  bankNext : Nat
  /-- Words of a boot loader to be written once its bank is erased. -/
  bankWords : Nat
  /-- Parts running live, by ID, where they differ from the slot loaded at the start. -/
  running : List FwPart
  armed : Option Nat
  run   : Option Activation
  /-- Answers of members to SCHEDULE, in order: whether armed (R421). -/
  fleet : List Bool
  deriving DecidableEq, Repr

/-! ### Pins and the management sideband (R486 to R498) -/

/-- Inputs sampled by the AON domain, and the sideband target. -/
structure Pins where
  /-- PFAIL_N is low. -/
  pfail   : Bool
  /-- Rails below their limit: 0 VDD_CORE, 1 VDD_SK, 2 VCCQ_F, 3 VDD_HBM, 4 VDDQ_HBM. -/
  lowRails : List Nat
  /-- TEST_MODE is high. -/
  test    : Bool
  /-- The dynamic I3C address, once assigned. -/
  dynAddr : Option Nat
  /-- The health copy published last (R354, R497): critical warning, composite temperature, percentage used, spare, flags, ready. -/
  health  : List Nat
  deriving DecidableEq, Repr


end Sys2Proof.Machine
end

