-- ==== Sys2Proof/Machine/Initial.lean ====
section
/-! DEFINITION. The values the parts of the state have after a cold reset of a module as shipped. -/

namespace Sys2Proof.Machine

/-- The areas of the store as drawn at Uskai test (R424): 4 key and counter sectors, 16 configuration sectors, 33 cast-on, 131 round,
2 boot locator and 64 loader bank sectors, numbered in that order from sector 1 (DESIGN CHOICE, log entry 5). Words 0 and 1 of a
sector are the header and the retire word (R425). -/
def CfsArea.initial : List (Nat × AreaState) :=
  [ (1, { cur := 1, word := 2, erased := [2], full := [] }),
    (2, { cur := 3, word := 2, erased := [4], full := [] }),
    (3, { cur := 5, word := 2, erased := [6, 7, 8], full := [] }),
    (4, { cur := 9, word := 2, erased := (List.range 11).map (· + 10), full := [] }),
    (5, { cur := 21, word := 2, erased := (List.range 32).map (· + 22), full := [] }),
    (6, { cur := 54, word := 2, erased := (List.range 130).map (· + 55), full := [] }),
    (7, { cur := 185, word := 2, erased := [186], full := [] }),
    (8, { cur := 187, word := 2, erased := (List.range 63).map (· + 188), full := [] }) ]

/-- The number of an area in the area table. -/
def CfsArea.num : CfsArea → Nat
  | .calibration => 0
  | .keys => 1
  | .counters => 2
  | .anchorLog => 3
  | .recordLog => 4
  | .castOn => 5
  | .round => 6
  | .bootLocator => 7
  | .loaderBank => 8

/-- A sector with no erases and no failures. -/
def Sector.fresh : Sector := { erases := 0, progFails := 0, eraseFails := 0, retired := false }

/-- A port in fundamental reset (R84). -/
def Port.initial : Port :=
  { perst := true, up := false, width := 0, rate := 0, reversed := false, lpm := 0, retry := true, rom := true }

/-- The host interface after a cold reset (R83). -/
def Hif.initial : Hif :=
  { port0 := Port.initial, port1 := Port.initial, atc := [], groups := [], nextPrg := 0, invals := [], reqs := [],
    nextTag0 := 0, nextTag1 := 0, quar := [], cmb := [], poisoned := [], cmbOver := 0, split := 4, aer0 := [], aer1 := [], held := [],
    spdm0 := 0, spdm1 := 0 }

/-- A function after a reset that reaches its configuration space (R83): base-specification values. -/
def Func.initial : Func :=
  { bme := false, mse := false, atsEn := false, priEn := false, priAlloc := 0, roEn := true, vfEn := false, vfMse := false,
    numVfs := 0, bar0 := 0, bar2 := 0, bar4 := 0, romBar := 0, vfBar := 0, mps := 128, mrrs := 512, cto := 0, ctoDis := false,
    msixEn := false, msixMaskAll := false, unmasked := [], pend := [], msixTab := [], nvme := [], cfg := [], reset := .none, en := false, shn := 0,
    ams := 0, rdy := false, shst := 0, cfs := false, enWait := false, qgrant := none, sqs := [], cqs := [], feats := [],
    aers := [], aens := [], aenMask := [], nss := [], changed := [], errors := [], grants := 0, shnGroup := none, aqa := (0, 0), psel := 0, plast := 0 }

/-- The queue engine after a cold reset, with the default allotment (R98, R105). -/
def Qen.initial : Qen :=
  { lastFetch := 0, cmds := [], finishOrder := [], stitches := [], nextStitch := 0, locks := [], internal := [], pins := [],
    fetchStop := false, fetches := [], lastAdmin := 0, lastIo := 0, lastQ := [], wrrLeft := [], vfio := 31, pf0io := 0,
    res := 32, cap := 4096 }

/-- Admin state with the defaults of R146: limit 4 GiB, START 16, STEP 1. -/
def Admin.initial : Admin :=
  { saved := [], limit := 16, start := 16, step := 1, fdp := none, nodrm := false,
    format := { nsid := 0, ses := 0, lbaf := 0, state := 0, progress := 0, resumed := 0, start := 0, last := 0, cmd := none, group := none },
    sanitize := { state := 0, action := 0, passes := 0, pattern := 0, invert := false, noDealloc := false, progress := 0 },
    fdpEvents := [], fdpEn := [], egEvent := false, c0flags := 0, reads := 0, writes := 0, mediaErrs := 0, critWarn := 0, degraded := [], freeing := [], crypto := [], switched := false }

/-- A journal copy before its first course (R265). Copy B starts on skein 4. -/
def JCopy.initial (skein : Nat) : JCopy := { course := 0, skein := skein, q := 0, rows := 0, courses := [], ahead := none, frames := 0 }

/-- The lifeline as a module leaves Uskai: an empty anchor log, SEQ 1 next (R257, R525). -/
def Lif.initial : Lif :=
  { nextRec := 1, openGroup := none, waiting := [], closed := 0, committed := 0, journal := [], copyA := JCopy.initial 0,
    copyB := JCopy.initial 4, released := [], running := [], kept := [], touched := [], nextPart := 0, anchor := none,
    anchorNext := none }

/-- The course manager with nothing open. -/
def Crs.initial : Crs :=
  { courses := [], bands := [], lastSeq := 0, media := [], rmws := [], copies := [], nextJob := 1, victims := [], hostPlaced := 0,
    rclPlaced := 0, emptied := [], retTimes := [], tensSince := 0, hostProg := 0, allProg := 0 }

/-- The reference die (R188, R217, R248, R249). -/
def Geom.reference : Geom :=
  { blocks := 2192, wls := 2731, rated := 262144, endur := 3000, tr := 40000, trMax := 80000, trSlc := 25000, trSlcMax := 50000,
    tp := 1150000, tpMax := 2500000, tpSlc := 240000, tpSlcMax := 600000, te := 5000000, teMax := 10000000, suspendP := true, suspendE := true,
    maxRate := 3 }

/-- The flash side before target discovery (R297). -/
def Fl.initial : Fl :=
  { geom := Geom.reference, luns := 0, ranks := 0, lunsAt := [], admitted := 0, desc := none, unused := [], roster := false, out := [], blks := [], ops := [], chans := [], touts := [],
    resets := [], slow := [], misses := [], down := [], good := 0, raw := 0, synd := [], levels := [] }

/-- A good block never erased: treated as erase-pending at a first start (R525). -/
def Blk.fresh : Blk :=
  { state := .erasePending, ec := 0, course := 0, pos := 0, level := 0, tinked := none, reads := 0, group := 0, eFails := 0,
    cFails := 0, checking := false, why := 0 }

/-- The map memory with nothing repaired, the default orders (R313). -/
def Hbm.initial : Hbm :=
  { order := 0x450, refreshes := 0, postponed := [], throttles := [], repaired := [], zeroing := none, scrubbed := 0 }

/-- The supervisors before any snapshot. -/
def Sup.initial : Sup := { snap0 := none, snap1 := none, yielded := none, switches := [], stFail := false, target := 0, onto := false, writes := [] }

/-- The power sequencer in PS0. -/
def Pwr.initial : Pwr :=
  { entry := none, drained := 0, since := 0, times := List.replicate 5 0, saved := none, canaries := [], lowLast := false, back := none, temps := List.replicate 13 0,
    sweep := List.replicate 5 0 }

/-- The strand engine of a device that has joined nothing. -/
def Strand.initial : Strand :=
  { ticket := none, config := [], peers := [], members := [], regSeq := 0, epoch := 0, loading := false, out := [], ins := [],
    nextCopy := 1, windows := [], up0 := false, up1 := false, kept := [], trips := [], missed := 0, neigh := [], rolls := [], mgrs := [], encap := 0x88B5, l3 := 0x1C800 }

/-- The firmware unit as a module leaves Uskai: the factory image in slot 1 (DESIGN CHOICE, log entry 18). -/
def Fwu.initial : Fwu :=
  { stage := [], owner := none, slot1 := Config.factoryImage, slot2 := [], raw1 := [], raw2 := [], bank := 0, bankNext := 0, bankWords := 0, running := [], armed := none, run := none, fleet := [] }

/-- The pins: PFAIL_N high, every rail in range. -/
def Pins.initial : Pins := { pfail := false, lowRails := [], test := false, dynAddr := none, health := [] }

/-- A peer before any frame. -/
def Peer.initial : Peer := { sent := 0, unacked := [], got := 0, early := [], credit := 0, reach := true }

end Sys2Proof.Machine
end

