-- ==== Sys2Proof/Machine/State.lean ====
section
/-! DEFINITION. The state of the block: every register, queue, table, buffer, counter, mode and pin the spec gives it, as plain data. -/

namespace Sys2Proof.Machine

/-- Why the machine stops at an event. All are safe: they stop the model where the named occurrence cannot arise in the hardware. -/
inductive Fault where
  /-- A row names a command slot, stitch, course, die, group or other object that does not exist or is not in the phase the row
  needs: the occurrence it stands for cannot arise in this state. Raised by event rows only. Safe. -/
  | noSuchObject
  /-- An operand lies outside the range the spec gives the object (a port other than 0 and 1, a region above 29). Safe. -/
  | outOfRange
  /-- The unit the row acts on has no power or is held in reset, so the occurrence cannot arise (R49, R84). Safe. -/
  | unpowered
  deriving DecidableEq, Repr

/-- Why a command has no meaning. -/
inductive Refusal where
  /-- The row of this mnemonic is not modelled yet. Raised by Dispatch only. Safe. -/
  | notModelled (mnemonic : String)
  deriving DecidableEq, Repr

/-! ### The whole state -/

/-- The block: its queue of waiting commands and everything the spec gives it. -/
structure State where
  /-- Commands waiting, first in first out. -/
  pending : List Instr
  /-- The timekeeper (R49, R50). -/
  clk : Clock
  /-- Armed timers (R52). -/
  timers : List Timer
  /-- Register contents that differ from their defaults (R511). -/
  regs : List (Nat × Word)
  /-- Latched upper halves of the pairs of R513, by pair and requester. -/
  latches : List (Nat × Nat)
  /-- Monotonic count at which an aged register was set. -/
  stamps : List (Nat × Nat)
  /-- Gauges and governor (R37 to R46). -/
  pace : Pace
  /-- The recorder's staging ring (R471). -/
  stg : Staging
  /-- The event areas (R469, R470). -/
  areas : EventAreas
  /-- EVW bank of PF0 (R474). -/
  bank0 : EvwBank
  /-- EVW bank of PF1 (R474). -/
  bank1 : EvwBank
  /-- The configuration store's controller (R429). -/
  cfs : CfsCtl
  /-- Sectors of the store whose attributes are not those of a fresh sector (R425). -/
  sectors : List (Nat × Sector)
  /-- The areas of the store, by number (R424). -/
  areaTab : List (Nat × AreaState)
  /-- Reserve sectors left (R424). -/
  reserve : List Nat
  /-- Live records, by 256 × kind + index (R437, R438). -/
  records : List (Nat × CfsRecord)
  /-- The key set (R434). -/
  keys : KeySet
  /-- RW fields of class K as the settings record holds them (R516, R524). -/
  savedRegs : List (Nat × Word)
  /-- The security unit (R450, R453). -/
  sec : Sec
  /-- Host ports, translation unit, CMB (R66 to R90). -/
  hif : Hif
  /-- Functions that differ from their reset state, by function index (R71). -/
  fns : List (Nat × Func)
  /-- Queue engine, stitch scheduler, interlock table (R97 to R124). -/
  q : Qen
  /-- What the device has sent, newest first. -/
  tx : List Tx
  /-- Namespaces, by NSID (R138). -/
  nss : List (Nat × Ns)
  /-- Features, Format and Sanitize (R141 to R146). -/
  adm : Admin
  /-- The model's own counter of free values drawn. -/
  free : Nat
  /-- The map engine (R156 to R179). -/
  map : MapSt
  /-- The lifeline unit (R257 to R272). -/
  lif : Lif
  /-- Dump area and seal (R275 to R278). -/
  dump : Dump
  /-- The write buffer (R183 to R187). -/
  buf : Buf
  /-- Courses, placement, copies and reclamation (R189 to R207, R238 to R253). -/
  crs : Crs
  /-- Flash channels, dies and blocks (R288 to R306). -/
  fl : Fl
  /-- Codeword reads in progress (R218 to R233). -/
  rd : Rd
  /-- The map memory controller (R310 to R329). -/
  hbm : Hbm
  /-- The supervisors (R347 to R361). -/
  sup : Sup
  /-- Power states and patrol (R362 to R384). -/
  pwr : Pwr
  /-- The strand fabric (R385 to R409). -/
  str : Strand
  /-- Firmware (R410 to R423). -/
  fwu : Fwu
  /-- Pins and the management sideband (R486 to R498). -/
  pins : Pins
  deriving DecidableEq, Repr

/-- The block right after a cold reset, before either PERST has deasserted (R83, R462, R495). -/
def State.reset : State :=
  { pending := [],
    clk := { aonUp := true, mono := 0, devFine := 0, slewLeft := 0 },
    timers := [],
    regs := [],
    latches := [],
    stamps := [],
    pace := { measured := [], span := [], history := [], fastSince := none, pmbusFails := 0, iout := 0, voutExp := 0, hotDies := [] },
    stg := { staged := [], nextSeq := 1, refused := 0, gated := [], lastPersist := 0 },
    areas := { cast := [], round := [], last := 0, clearTo := none },
    bank0 := { area := 0, castIdx := 0, cursor := 0, overrun := false, cleared := false, behind := false, latch := [] },
    bank1 := { area := 0, castIdx := 0, cursor := 0, overrun := false, cleared := false, behind := false, latch := [] },
    cfs := { op := none, heldErase := none, suspends := 0, queue := [], dpBuf := [] },
    sectors := [],
    areaTab := CfsArea.initial,
    reserve := (List.range 261).map (· + 251),
    records := [],
    keys := { opKey := none, instKey := none, makerKey := some Config.makerKey, gen := 1, wrapGen := 1, seeds := [] },
    savedRegs := [],
    sec := { sess0 := none, sess1 := none, chal0 := none, chal1 := none, chalNo := 0, fails0 := [], fails1 := [], kbuf := [], commit := none, lcRun := none },
    hif := Hif.initial,
    fns := [],
    q := Qen.initial,
    tx := [],
    nss := [],
    adm := Admin.initial,
    free := 0,
    map := { coarse := [], overlays := [], valid := [], stalled := [], lost := [], held := [], scanning := false },
    lif := Lif.initial,
    dump := { formed := false, gen := 0, blocks := [], sealed := none, slots := [], running := none, ended := false, total := 0 },
    buf := { slots := [], nextId := 0, resv := [] },
    crs := Crs.initial,
    fl := Fl.initial,
    rd := { reads := [], nextId := 0, late := [], ended := List.replicate 8 0 },
    hbm := Hbm.initial,
    sup := Sup.initial,
    pwr := Pwr.initial,
    str := Strand.initial,
    fwu := Fwu.initial,
    pins := Pins.initial }

end Sys2Proof.Machine
end

