-- ==== Sys2Proof/Machine/Flags.lean ====
section
/-! DEFINITION. Fields and flags of registers: reading, storing, sticky bits, saturating and wrapping counters, clipping (R514),
and the completion statuses with their DNR bits (R155, R523). -/

namespace Sys2Proof.Machine

/-! ### Register fields -/

/-- The dword a field lies in: the 16-bit registers lie two to a dword (R511). -/
def Fld.dw (f : Fld) : Nat := f.off - f.off % 4

/-- The lowest bit of a field within its dword. -/
def Fld.sh (f : Fld) : Nat := f.lo + 8 * (f.off % 4)

/-- The stored word of a register. -/
def State.word (s : State) (off : Nat) : Word := Sparse.get regDefault off s.regs

/-- The state with a register's stored word replaced. -/
def State.setWord (s : State) (off : Nat) (w : Word) : State := { s with regs := Sparse.set regDefault off w s.regs }

/-- A field of a word. -/
def Fld.get (f : Fld) (w : Word) : Nat := w.toNat / 2 ^ f.sh % 2 ^ f.wid

/-- A word with a field replaced by the low bits of a value. -/
def Fld.put (f : Fld) (v : Nat) (w : Word) : Word :=
  BitVec.ofNat 32 (w.toNat - f.get w * 2 ^ f.sh + v % 2 ^ f.wid * 2 ^ f.sh)

/-- The stored value of a field. -/
def State.fld (s : State) (f : Fld) : Nat := f.get (s.word f.dw)

/-- The state with a field's stored value replaced. -/
def State.setFld (s : State) (f : Fld) (v : Nat) : State := s.setWord f.dw (f.put v (s.word f.dw))

/-- Whether a one-bit field is 1. -/
def State.flag (s : State) (f : Fld) : Bool := s.fld f != 0

/-- A sticky or status bit set. -/
def State.setFlag (s : State) (f : Fld) : State := s.setFld f 1

/-- A bit cleared. -/
def State.clrFlag (s : State) (f : Fld) : State := s.setFld f 0

/-- A status bit that follows a condition. -/
def State.putFlag (s : State) (f : Fld) (b : Bool) : State := s.setFld f (b2n b)

/-- A counter that stops at its largest value. -/
def State.addSat (s : State) (f : Fld) (n : Nat) : State := s.setFld f (satAdd (2 ^ f.wid - 1) (s.fld f) n)

/-- A counter that wraps. -/
def State.addWrap (s : State) (f : Fld) (n : Nat) : State := s.setFld f (s.fld f + n)

/-- A value stored in a field that saturates. -/
def State.putSat (s : State) (f : Fld) (n : Nat) : State := s.setFld f (Nat.min (2 ^ f.wid - 1) n)

/-- Registers cleared to 0. -/
def State.clearWords (s : State) (offs : List Nat) : State := offs.foldl (fun t o => t.setWord o 0) s

/-- The module is of grade B, by byte 6 of the calibration row (R3, R432). -/
def gradeB : Bool := decide (Config.calDword 1 / 2 ^ 16 % 2 ^ 8 = 1)

/-! ### Clipping (the descriptions of the register tables) -/

/-- What an RW field without a rule of its own stores of a value. -/
def Clip.apply (c : Clip) (wid old v : Nat) : Nat :=
  match c with
  | .any => v
  | .range lo hi => clampNat lo hi v
  | .keep lo hi => if lo ≤ v ∧ v ≤ hi then old else v
  | .keepEnds => if v = 0 ∨ v = 2 ^ wid - 1 then old else v
  | .special => v

/-! ### Statuses (R155, R523) -/

/-- 00h, successful completion. -/
def St.ok : Status := ⟨0, 0x00, false⟩
/-- 01h, Invalid Command Opcode. -/
def St.badOpcode : Status := ⟨0, 0x01, true⟩
/-- 02h, Invalid Field in Command. -/
def St.badField : Status := ⟨0, 0x02, true⟩
/-- 04h, Data Transfer Error. -/
def St.dataTransfer : Status := ⟨0, 0x04, false⟩
/-- 06h, Internal Error. -/
def St.internal : Status := ⟨0, 0x06, false⟩
/-- 0Bh, Invalid Namespace or Format (NVM Express; not in R155 or R523). -/
def St.badNamespace : Status := ⟨0, 0x0B, true⟩
/-- 0Ch, Command Sequence Error. -/
def St.sequence : Status := ⟨0, 0x0C, false⟩
/-- 1Dh, Sanitize In Progress (R143). -/
def St.sanitizing : Status := ⟨0, 0x1D, false⟩
/-- 20h, Namespace Is Write Protected. -/
def St.writeProtected : Status := ⟨0, 0x20, true⟩
/-- 20h with DNR 0, for a full overlay pool (R169). -/
def St.poolFull : Status := ⟨0, 0x20, false⟩
/-- 21h, Command Interrupted (R23). -/
def St.interrupted : Status := ⟨0, 0x21, false⟩
/-- 29h, FDP Disabled (NVM Express). -/
def St.fdpDisabled : Status := ⟨0, 0x29, true⟩
/-- 80h, LBA Out of Range. -/
def St.lbaRange : Status := ⟨0, 0x80, true⟩
/-- 84h, Format In Progress (R141). -/
def St.formatting : Status := ⟨0, 0x84, false⟩
/-- Type 1h, 01h: Invalid Queue Identifier (NVM Express). -/
def St.badQid : Status := ⟨1, 0x01, true⟩
/-- Type 1h, 02h: Invalid Queue Size (NVM Express). -/
def St.badQsize : Status := ⟨1, 0x02, true⟩
/-- Type 1h, 00h: Completion Queue Invalid (NVM Express). -/
def St.badCq : Status := ⟨1, 0x00, true⟩
/-- Type 1h, 05h: Asynchronous Event Request Limit Exceeded (NVM Express). -/
def St.aerLimit : Status := ⟨1, 0x05, true⟩
/-- Type 1h, 08h: Invalid Interrupt Vector (NVM Express). -/
def St.badVector : Status := ⟨1, 0x08, true⟩
/-- Type 1h, 0Ch: Invalid Queue Deletion (NVM Express). -/
def St.badQdelete : Status := ⟨1, 0x0C, true⟩
/-- 07h, Invalid Firmware Image (R414, R417). -/
def St.badImage : Status := ⟨1, 0x07, true⟩
/-- 06h, Invalid Firmware Slot (NVM Express). -/
def St.badSlot : Status := ⟨1, 0x06, true⟩
/-- 09h, Invalid Log Page. -/
def St.badLogPage : Status := ⟨1, 0x09, true⟩
/-- 0Bh, Firmware Activation Requires Conventional Reset. -/
def St.needsReset : Status := ⟨1, 0x0B, true⟩
/-- 0Dh, Feature Identifier Not Saveable. -/
def St.notSaveable : Status := ⟨1, 0x0D, true⟩
/-- 12h, Firmware Activation Requires Maximum Time Violation. -/
def St.timeViolation : Status := ⟨1, 0x12, false⟩
/-- 13h under R414 order 3, Firmware Activation Prohibited. -/
def St.prohibited : Status := ⟨1, 0x13, true⟩
/-- 13h under R416. -/
def St.prohibitedNow : Status := ⟨1, 0x13, false⟩
/-- 15h, Namespace Insufficient Capacity. -/
def St.capacity : Status := ⟨1, 0x15, true⟩
/-- 16h, Namespace Identifier Unavailable (NVM Express). -/
def St.noNsid : Status := ⟨1, 0x16, true⟩
/-- 18h, Namespace Already Attached (NVM Express). -/
def St.attached : Status := ⟨1, 0x18, true⟩
/-- 1Ah, Namespace Not Attached (NVM Express). -/
def St.notAttached : Status := ⟨1, 0x1A, true⟩
/-- 81h, Unrecovered Read Error (R233): DNR 0 for the TLER limit. -/
def St.unrecovered (tler : Bool) : Status := ⟨2, 0x81, !tler⟩
/-- 82h, End-to-end Guard Check Error. -/
def St.guardCheck : Status := ⟨2, 0x82, true⟩
/-- 83h, End-to-end Application Tag Check Error. -/
def St.appCheck : Status := ⟨2, 0x83, true⟩
/-- 84h, End-to-end Reference Tag Check Error. -/
def St.refCheck : Status := ⟨2, 0x84, true⟩
/-- 85h, Compare Failure. -/
def St.compare : Status := ⟨2, 0x85, true⟩
/-- 86h, Access Denied (R152). -/
def St.accessDenied : Status := ⟨2, 0x86, true⟩
/-- C0h, Role Required. -/
def St.roleRequired : Status := ⟨7, 0xC0, true⟩
/-- C1h, Window Closed (R154). -/
def St.windowClosed : Status := ⟨7, 0xC1, true⟩
/-- C2h, Peer Unreachable (R154). -/
def St.unreachable : Status := ⟨7, 0xC2, false⟩
/-- C3h, Compression Check Mismatch. -/
def St.compressCheck : Status := ⟨7, 0xC3, true⟩

/-- Whether a status is successful. -/
def Status.isOk (st : Status) : Bool := st.sct = 0 && st.sc = 0

end Sys2Proof.Machine
end

