-- ==== Sys2Proof/Machine/Ops.lean ====
section
/-! DEFINITION. The operations every unit shares: time and timers, free values, messages sent, event staging, requests to the
configuration store, functions, command slots and their completion. -/

namespace Sys2Proof.Machine

/-! ### Outcomes -/

/-- A next state where a condition holds, a named fault where it does not. -/
def guarded (b : Bool) (f : Fault) (t : State) : Host.Outcome State Fault Refusal := if b then .next t else .fault f

/-- A next state built from an object that must be there. -/
def withSome {α : Type} (o : Option α) (k : α → State) : Host.Outcome State Fault Refusal :=
  match o with
  | some a => .next (k a)
  | none => .fault .noSuchObject

/-! ### Time (R49 to R54) -/

/-- The rate trim, ppb (TK_ADJ.TRIM, R65). -/
def State.trim (s : State) : Int := toSigned 24 (s.fld F.tkAdjTrim)

/-- The counts moved on by a span of the monotonic count: device time runs at its trimmed rate, 500 ppm slower while a slew is
being absorbed (R50). -/
def Clock.run (c : Clock) (trim : Int) (d : Nat) : Clock :=
  let full := ((d : Int) * (1000000000 + trim)).toNat
  let a := Nat.min c.slewLeft (full / 2000)
  { c with mono := c.mono + d, devFine := c.devFine + full - a, slewLeft := c.slewLeft - a }

/-- The state at a later monotonic count; nothing where that count has already passed or VDD_AON is absent. -/
def State.advanceTo (s : State) (m : Nat) : State :=
  if s.clk.aonUp then { s with clk := s.clk.run s.trim (m - s.clk.mono) } else s

/-- Device time, ns, as a 64-bit count (R49). -/
def State.devTime (s : State) : Nat := s.clk.devFine / 1000000000 % 2 ^ 64

/-- Whether a timer is armed. -/
def State.armed (s : State) (id : TimerId) : Bool := s.timers.any (fun t => t.id = id)

/-- When an armed timer expires. -/
def State.dueOf (s : State) (id : TimerId) : Option Nat := (s.timers.find? (fun t => t.id = id)).map (·.due)

/-- A timer cancelled (R54). -/
def State.cancel (s : State) (id : TimerId) : State := { s with timers := s.timers.filter (fun t => t.id ≠ id) }

/-- A timer armed, or armed afresh, to expire after a span in ns (R52). -/
def State.arm (s : State) (id : TimerId) (ns : Nat) : State :=
  { s with timers := (s.timers.filter (fun t => t.id ≠ id)) ++ [⟨id, s.clk.mono + ns⟩] }

/-- A timer armed unless it already runs. -/
def State.armOnce (s : State) (id : TimerId) (ns : Nat) : State := if s.armed id then s else s.arm id ns

/-- A timer's expiry: it is no longer armed, and the monotonic count has reached its due time (R52). -/
def State.expire (s : State) (id : TimerId) : State :=
  let m := (s.dueOf id).getD s.clk.mono
  (s.cancel id).advanceTo m

/-- The shape of every timer row (R53, R54): where the timer runs it wins and acts once; where its event came first it has been
cancelled, and the expiry is withdrawn before it has any effect. -/
def onTimer (s : State) (id : TimerId) (k : State → State) : Host.Outcome State Fault Refusal :=
  if s.armed id then .next (k (s.expire id)) else .next s

/-- Spans of time in ns. -/
def nsUs (n : Nat) : Nat := n * 1000
def nsMs (n : Nat) : Nat := n * 1000000
def nsSec (n : Nat) : Nat := n * 1000000000

/-- The monotonic count noted for an aged register, and the fields that report its age. -/
def State.stamp (s : State) (off : Nat) : State := { s with stamps := Tab.put off s.clk.mono s.stamps }

/-- The span since an aged register was noted, in units, saturating; 0 where it never was. -/
def State.ageOf (s : State) (off unit top : Nat) : Nat :=
  match Tab.find off s.stamps with
  | some m => Nat.min top ((s.clk.mono - m) / unit)
  | none => 0

/-- A log of `n` registers moved down one place, with the ages; entry 0 is then to be written. -/
def State.shiftLog (s : State) (reg : Nat → Nat) (n : Nat) : State :=
  (List.range (n - 1)).foldl (fun t i =>
    let a := reg (n - 1 - i)
    let b := reg (n - 2 - i)
    let u := t.setWord a (t.word b)
    match Tab.find b u.stamps with
    | some m => { u with stamps := Tab.put a m u.stamps }
    | none => { u with stamps := Tab.del a u.stamps }) s

/-! ### Free values and messages -/

/-- The next free value, the counter moved on. -/
def State.draw (s : State) : Nat × State := (Config.freeNat s.free, { s with free := s.free + 1 })

/-- A message sent. -/
def State.send (s : State) (m : Tx) : State := { s with tx := m :: s.tx }

/-- Messages sent in order. -/
def State.sendAll (s : State) (ms : List Tx) : State := ms.foldl (fun t m => t.send m) s

/-! ### Event staging (R467 to R472, R479) -/

/-- The source and level of each event code of R479. Codes of ports and skeins take their source from `eventFrom`. -/
def evKind (code : Nat) : Nat × Nat :=
  match code with
  | 0x0001 => (0x43, 0) | 0x0002 => (17, 4) | 0x0003 => (14, 3) | 0x0005 => (14, 1) | 0x0006 => (14, 2)
  | 0x0101 => (17, 2) | 0x0102 => (17, 2) | 0x0103 => (17, 2) | 0x0104 => (17, 2)
  | 0x0105 => (13, 2) | 0x0106 => (13, 0) | 0x0107 => (19, 1)
  | 0x0201 => (0x40, 3) | 0x0202 => (2, 2) | 0x0203 => (2, 2) | 0x0204 => (0x40, 2)
  | 0x0301 => (4, 3) | 0x0302 => (4, 1) | 0x0303 => (4, 4) | 0x0304 => (4, 3) | 0x0305 => (4, 1)
  | 0x0401 => (5, 3) | 0x0402 => (5, 2) | 0x0403 => (5, 2) | 0x0404 => (5, 2) | 0x0405 => (5, 1) | 0x0406 => (5, 1)
  | 0x0501 => (18, 2) | 0x0502 => (18, 0) | 0x0503 => (6, 3) | 0x0504 => (6, 3)
  | 0x0601 => (18, 3) | 0x0602 => (18, 3) | 0x0603 => (18, 4) | 0x0604 => (18, 3)
  | 0x0701 => (8, 1) | 0x0702 => (8, 3) | 0x0703 => (8, 2) | 0x0704 => (8, 4) | 0x0705 => (8, 3)
  | 0x0801 => (22, 2) | 0x0802 => (22, 3) | 0x0803 => (22, 3) | 0x0804 => (22, 4)
  | 0x0901 => (11, 3) | 0x0902 => (11, 2) | 0x0903 => (11, 4)
  | 0x0A01 => (9, 2) | 0x0B01 => (17, 3) | 0x0B02 => (17, 3) | 0x0B03 => (17, 4) | 0x0C01 => (17, 2)
  | 0x0D01 => (12, 3) | 0x0D02 => (12, 2) | 0x0D03 => (12, 2) | 0x0D04 => (21, 1)
  | 0x0E01 => (20, 2) | 0x0E02 => (21, 1) | 0x0E03 => (21, 3) | 0x0E04 => (21, 2) | 0x0E05 => (0x43, 4)
  | 0x0F01 => (16, 3) | 0x0F02 => (16, 2) | 0x0F03 => (20, 4)
  | 0x1001 => (20, 1) | 0x1002 => (20, 0) | 0x1003 => (20, 1) | 0x1004 => (20, 2) | 0x1005 => (20, 2) | 0x1006 => (20, 2)
  | _ => (0, 0)

/-- The SEQ after a SEQ: it wraps from FFFF_FFFFh to 1 (R468). -/
def nextSeq (n : Nat) : Nat := if n = 0xFFFFFFFF then 1 else n + 1

/-- The SEQ before a SEQ. -/
def prevSeq (n : Nat) : Nat := if n = 1 then 0xFFFFFFFF else n - 1

/-- Whether SEQ `a` comes before `b`, by their difference modulo 2^32 taken as signed (R468). -/
def seqBefore (a b : Nat) : Bool := decide (toSigned 32 ((b + 2 ^ 32 - a) % 2 ^ 32) > 0)

/-- A request put in the store's queue behind those of its rank (R429). -/
def State.cfsPut (s : State) (j : CfsJob) : State := { s with cfs := { s.cfs with queue := s.cfs.queue ++ [j] } }

/-- The waiting request that is carried out next: the first of the lowest rank (R429). -/
def cfsNext (q : List CfsJob) : Option CfsJob :=
  match minNat? (q.map (·.rank)) with
  | some r => q.find? (fun j => j.rank = r)
  | none => none

/-- Whether a job erases. -/
def CfsJob.isErase (j : CfsJob) : Bool := match j.work with | .erase _ => true | _ => false

/-- Whether the sectors of a round clear are still to be erased (R478). -/
def State.roundErasing (s : State) : Bool :=
  let a := Tab.getD 6 ⟨0, 2, [], []⟩ s.areaTab
  s.areas.clearTo.isSome && (s.cfs.op.toList ++ s.cfs.heldErase.toList ++ s.cfs.queue).any (fun j => match j.work with
    | .erase b => decide (b = a.cur) || a.full.contains b
    | _ => false)

/-- The requests that may be taken: records staged during the erase of a round clear are persisted after it (R478). -/
def State.cfsReady (s : State) : List CfsJob :=
  if s.roundErasing then s.cfs.queue.filter (fun j => match j.work with | .event _ => false | _ => true) else s.cfs.queue

/-- The controller takes its next operation (R429): one at a time; an erase gives way to a waiting program at most 32 times. -/
def State.cfsStart (s : State) : State :=
  match s.cfs.op with
  | none =>
    match s.cfs.heldErase, cfsNext (s.cfsReady.filter (fun j => !j.isErase)) with
    | some e, none => { s with cfs := { s.cfs with op := some e, heldErase := none } }
    | some _, some j => { s with cfs := { s.cfs with op := some j, queue := s.cfs.queue.erase j } }
    | none, _ =>
      match cfsNext s.cfsReady with
      | some j => { s with cfs := { s.cfs with op := some j, queue := s.cfs.queue.erase j, suspends := 0 } }
      | none => s
  | some e =>
    match e.isErase && decide (s.cfs.suspends < 32), cfsNext (s.cfsReady.filter (fun j => !j.isErase)) with
    | true, some j =>
      { s with cfs := { s.cfs with op := some j, heldErase := some e, queue := s.cfs.queue.erase j,
                                   suspends := s.cfs.suspends + 1 } }
    | _, _ => s

/-- A request to the configuration store: it waits at its rank and is started when the controller is free (R429); one made during a
switch-over waits for its end (R354, R430). -/
def State.cfsRequest (s : State) (rank : Nat) (w : CfsWork) (words : Nat) : State :=
  if s.sup.yielded.isSome then { s with sup := { s.sup with writes := s.sup.writes ++ [⟨rank, w, words, words⟩] } }
  else (s.cfsPut ⟨rank, w, words, words⟩).cfsStart

/-- The requests held during a switch-over handed to the controller. -/
def State.cfsRelease (s : State) : State :=
  (s.sup.writes.foldl (fun (t : State) j => t.cfsPut j) { s with sup := { s.sup with writes := [] } }).cfsStart

/-- Whether persistence of a record has been asked for. -/
def State.persisting (s : State) (seq : Nat) : Bool :=
  (s.cfs.queue ++ s.sup.writes).any (fun j => j.work = .event seq) || s.cfs.op.any (fun j => j.work = .event seq)

/-- Persistence asked for of every staged record, at a rank of R429: one word each, and a second while the cast-on area takes it. -/
def State.persistStaged (s : State) (rank : Nat) : State :=
  s.stg.staged.foldl (fun t r =>
    if t.persisting r.seq then t else t.cfsRequest rank (.event r.seq) (if r.seq ≤ 16384 then 2 else 1)) s

/-- A record put in the staging ring (R471): stamped, numbered, readable at once. The persistence timer runs from the oldest staged
record, and 64 waiting records are persisted without it (R472). -/
def State.stageRec (s : State) (code src lvl p0 p1 p2 p3 : Nat) : State :=
  let n := s.stg.nextSeq
  let r : EventRec :=
    { code := code, sev := lvl + 64 * s.fld F.tkStatOrigin, src := src, time := s.devTime, seq := n,
      p0 := p0 % 2 ^ 32, p1 := p1 % 2 ^ 32, p2 := p2 % 2 ^ 32, p3 := p3 % 2 ^ 32 }
  let t := { s with stg := { s.stg with staged := s.stg.staged ++ [r], nextSeq := nextSeq n } }
  let t := t.armOnce .eventPersist 1000000000
  if 64 ≤ t.stg.staged.length then t.persistStaged 4 else t

/-- A record refused: counted in EVW_DROP and for the next 0006h, DROPSEEN set (R471). -/
def State.refuseRec (s : State) : State :=
  { s with regs := ((s.addSat F.evwDropCount 1).setFlag F.evwStatDropseen).regs, stg := { s.stg with refused := s.stg.refused + 1 } }

/-- An event of a unit handed to the recorder: staged, or refused for want of space, which takes no SEQ (R471). -/
def State.stageEvent (s : State) (code src lvl p0 p1 p2 p3 : Nat) : State :=
  let n := s.stg.staged.length
  if 128 ≤ n ∨ (112 ≤ n ∧ lvl < 3) then s.refuseRec
  else s.stageRec code src lvl p0 p1 p2 p3

/-- An event of R479 with its source and level. -/
def State.event (s : State) (code : Nat) (p0 p1 p2 p3 : Nat := 0) : State :=
  s.stageEvent code (evKind code).1 (evKind code).2 p0 p1 p2 p3

/-- An event of a host port or of a skein: the source is counted from the table's first. -/
def State.eventFrom (s : State) (code k : Nat) (p0 p1 p2 p3 : Nat := 0) : State :=
  s.stageEvent code ((evKind code).1 + k) (evKind code).2 p0 p1 p2 p3

/-! ### Functions -/

/-- A function by its device-wide index (R71). -/
def State.func (s : State) (i : Nat) : Func := Sparse.get (fun _ => Func.initial) i s.fns

/-- A function replaced. -/
def State.setFunc (s : State) (i : Nat) (f : Func) : State :=
  { s with fns := Sparse.set (fun _ => Func.initial) i f s.fns }

/-- A function changed. -/
def State.updFunc (s : State) (i : Nat) (g : Func → Func) : State := s.setFunc i (g (s.func i))

/-- Whether an index is a physical function's. -/
def isPf (i : Nat) : Bool := decide (i < 2)

/-- The port, and so the PF, a function belongs to (R71). -/
def portOf (i : Nat) : Nat := if i < 2 then i else (i - 2) / 512

/-- The virtual functions of a PF that are enabled. -/
def State.vfsOf (s : State) (pf : Nat) : List Nat :=
  (List.range (Nat.min 512 (s.func pf).numVfs)).map (fun n => 2 + 512 * pf + n)

/-- A host port. -/
def State.port (s : State) (p : Nat) : Port := if p = 0 then s.hif.port0 else s.hif.port1

/-- A host port replaced. -/
def State.setPort (s : State) (p : Nat) (x : Port) : State :=
  if p = 0 then { s with hif := { s.hif with port0 := x } } else { s with hif := { s.hif with port1 := x } }

/-- A host port counter of R96 raised. -/
def State.hifCnt (s : State) (p n : Nat) : State := s.addSat (F.hifCntCount p n) 1

/-- A port sends or receives a TLP: its link is in L0, and the 10 µs of R370 start afresh. -/
def State.linkUse (s : State) (p : Nat) : State :=
  if (s.port p).up then (s.setPort p { s.port p with lpm := 0 }).arm (.l1Idle p) 10000 else s

/-- A TLP received on a port. -/
def State.tlpIn (s : State) (p : Nat) : State := (s.hifCnt p 0).linkUse p

/-- A counter of R127 raised; it saturates. -/
def State.qenCnt (s : State) (n : Nat) (k : Nat := 1) : State := s.addSat (F.qenCntCount n) k

/-- An error reported through AER on a port (R91). -/
def State.aer (s : State) (p : Nat) (e : LinkError) : State :=
  if p = 0 then { s with hif := { s.hif with aer0 := insertNew e s.hif.aer0 } }
  else { s with hif := { s.hif with aer1 := insertNew e s.hif.aer1 } }

/-- An MSI-X vector raised: a message, or pending state while the vector, the function mask or the enable holds it (R119, R77). -/
def State.raise (s : State) (i vec : Nat) : State :=
  let f := s.func i
  if f.msixEn then
    if f.msixMaskAll || !(f.unmasked.contains vec) || !f.bme then
      s.setFunc i { f with pend := insertNew vec f.pend }
    else (s.send (.msix i vec)).qenCnt 24
  else s

/-! ### Command slots -/

/-- A command by its fetch number. -/
def State.cmd (s : State) (c : Nat) : Option Cmd := Tab.find c s.q.cmds

/-- A command changed. -/
def State.updCmd (s : State) (c : Nat) (g : Cmd → Cmd) : State :=
  { s with q := { s.q with cmds := Tab.upd c g s.q.cmds } }

/-- The interlock entries of a command released (R114). -/
def State.unlock (s : State) (c : Nat) : State :=
  { s with q := { s.q with locks := s.q.locks.filter (fun l => l.cmd ≠ c) } }

/-- The stitches of a command freed, with the pins they hold (R112, R113). -/
def unpin (pins : List (Nat × Nat)) (bs : List Nat) : List (Nat × Nat) :=
  bs.foldl (fun t b => match Tab.find b t with
    | some n => if n ≤ 1 then Tab.del b t else Tab.put b (n - 1) t
    | none => t) pins

/-- A pin added to each block of a list. -/
def addPins (pins : List (Nat × Nat)) (bs : List Nat) : List (Nat × Nat) :=
  bs.foldl (fun t b => Tab.put b (Tab.getD b 0 t + 1) t) pins

/-- Every stitch of a command freed. -/
def State.dropStitches (s : State) (c : Nat) : State :=
  let mine := s.q.stitches.filter (fun p => p.2.cmd = c)
  let t := mine.foldl (fun t p => t.cancel (.stitchAging p.1)) s
  { t with q := { t.q with stitches := t.q.stitches.filter (fun p => p.2.cmd ≠ c),
                           pins := mine.foldl (fun ps p => unpin ps p.2.pins) t.q.pins } }

/-- A command finishes with a status and Dword 0: its entry waits to be posted in the order of finishing (R117). A command that
a reset dropped has no completion (R121): its slot is freed. -/
def State.finish (s : State) (c : Nat) (st : Status) (dw0 : Nat := 0) : State :=
  match s.cmd c with
  | none => s
  | some k =>
    let t := s.dropStitches c
    if k.dropped then { t with q := { t.q with cmds := Tab.del c t.q.cmds } }
    else
      let t := t.updCmd c (fun k => { k with phase := .finished st dw0 })
      { t with q := { t.q with finishOrder := t.q.finishOrder ++ [c] } }

/-- A failing command: its interlock entries go with it (R116). -/
def State.fail (s : State) (c : Nat) (st : Status) : State := (s.unlock c).finish c st

/-- Whether a command is an admin command being carried out. -/
def State.adminAt (s : State) (c : Nat) : Option Cmd :=
  match s.cmd c with
  | some k => if k.admin && decide (k.phase = .active) then some k else none
  | none => none

/-- Whether a command is an I/O command being carried out with a given opcode. -/
def State.ioAt (s : State) (c op : Nat) : Option Cmd :=
  match s.cmd c with
  | some k => if !k.admin && decide (k.phase = .active) && decide (k.sqe.opcode = op) then some k else none
  | none => none

/-- A sanitize is in progress (R143). -/
def State.sanitizing (s : State) : Bool := decide (s.adm.sanitize.state = 2)

/-- The admin commands allowed while a sanitize is in progress: those NVM Express allows (queue creation and deletion, Get Log Page,
Identify, Abort, features, Asynchronous Event Request), and C4h (R143). -/
def sanitizeAllows (op : Nat) : Bool := [0x00, 0x01, 0x02, 0x04, 0x05, 0x06, 0x08, 0x09, 0x0A, 0x0C, 0xC4].contains op

/-- The meaning of an admin row: it acts on an admin command in its slot. While a sanitize is in progress, commands that NVM Express
does not allow complete with 1Dh (R143). -/
def onAdmin (s : State) (c : Nat) (k : Cmd → State) : Host.Outcome State Fault Refusal :=
  withSome (s.adminAt c) (fun x =>
    if s.sanitizing && !(sanitizeAllows x.sqe.opcode) then s.finish c St.sanitizing else k x)

/-- A Format of a namespace is in progress (R141); FFFF_FFFFh names every namespace. -/
def State.formattingNs (s : State) (nsid : Nat) : Bool :=
  if nsid = 0xFFFFFFFF then s.nss.any (fun p => p.2.formatting) else (Tab.find nsid s.nss).any (·.formatting)

/-- The meaning of an I/O row: 1Dh while a sanitize runs, 84h while a Format of the namespace runs (R141, R143). -/
def onIo (s : State) (c op : Nat) (k : Cmd → State) : Host.Outcome State Fault Refusal :=
  withSome (s.ioAt c op) (fun x =>
    if s.sanitizing then s.fail c St.sanitizing
    else if s.formattingNs x.sqe.nsid then s.fail c St.formatting
    else k x)

/-- The meaning of an I/O row that works on a namespace attached to the command's controller (R133). -/
def onNs (s : State) (c op : Nat) (k : Cmd → Ns → State) : Host.Outcome State Fault Refusal :=
  onIo s c op (fun x =>
    match Tab.find x.sqe.nsid s.nss with
    | some n => if (s.func x.fn).nss.contains x.sqe.nsid then k x n else s.fail c St.badNamespace
    | none => s.fail c St.badNamespace)

/-- An asynchronous event of a function (R149): it completes an outstanding request, or waits for one. Its type is masked until
the log page it names is read. -/
def State.asyncEvent (s : State) (i type info page : Nat) : State :=
  let f := s.func i
  if f.aenMask.contains (type * 256 + page) then s
  else
    match f.aers with
    | a :: rest =>
      (s.setFunc i { f with aers := rest, aenMask := insertNew (type * 256 + page) f.aenMask }).finish a St.ok
        (type + 256 * info + 65536 * page)
    | [] => s.setFunc i { f with aens := insertNew (type, info, page) f.aens }

/-- An asynchronous event on every enabled controller that has it enabled by a bit of the configuration feature. -/
def State.asyncAll (s : State) (bit type info page : Nat) : State :=
  (s.fns.map (·.1)).foldl (fun t i =>
    if (t.func i).rdy && (Tab.getD 0x0B 0 (t.func i).feats).testBit bit then t.asyncEvent i type info page else t) s

/-- The event information of a critical warning bit, as NVM Express numbers it: 2 spare, 1 temperature, 0 subsystem reliability. -/
def smartInfo (bit : Nat) : Nat := if bit = 0 then 2 else if bit = 1 then 1 else 0

/-- A vendor-specific asynchronous event on every ready controller (R149). -/
def State.asyncVendor (s : State) (page : Nat) : State :=
  (s.fns.map (·.1)).foldl (fun t i => if (t.func i).rdy then t.asyncEvent i 7 page page else t) s

/-- Flags [0] to [3] of log page C0h: read-only, exposed, a switch-over since cold reset, the last standby self-test failed (R148). -/
def State.c0Flags (s : State) : Nat :=
  b2n (s.flag F.rclRoRo) + 2 * b2n (s.flag F.crsStatExposed) + 4 * b2n s.adm.switched +
    8 * b2n s.sup.stFail

/-- A change of those flags reported (R149). -/
def State.noteC0 (s : State) : State :=
  if s.c0Flags = s.adm.c0flags then s
  else (({ s with adm := { s.adm with c0flags := s.c0Flags } } : State)).asyncVendor 0xC0

/-- The endurance group's event for a critical warning bit: log page 0Fh and its notice, where feature 18h of a controller names the
bit (R145, R147, R149). -/
def State.egWarn (s : State) (bit : Nat) : State :=
  let on := fun (f : Func) => f.rdy && (Tab.getD 0x18 0 f.feats / 2 ^ 16 % 2 ^ 8).testBit bit
  if s.fns.any (fun p => on p.2) then
    let t : State := { s with adm := { s.adm with egEvent := true } }
    (t.fns.map (·.1)).foldl (fun t i =>
      if on (t.func i) && (Tab.getD 0x0B 0 (t.func i).feats).testBit 14 then t.asyncEvent i 2 5 0x0F else t) t
  else s

/-- A critical warning bit set, with the SMART asynchronous event the first time (R147, R149); bits 0, 2 and 3 are the endurance
group's as well. -/
def State.critWarn (s : State) (bit : Nat) : State :=
  if s.adm.critWarn.testBit bit then s
  else
    let t := (({ s with adm := { s.adm with critWarn := s.adm.critWarn ||| 2 ^ bit } } : State)).asyncAll bit 1 (smartInfo bit) 2
    if bit = 1 ∨ bit = 4 then t else t.egWarn bit

/-- An FDP event recorded where feature 1Eh enables its type for the handle, with the notice (R140, R149); the notice's information
is a free value. -/
def State.fdpEvent (s : State) (type handle : Nat) : State :=
  if s.adm.fdp.isSome && (Tab.getD handle [] s.adm.fdpEn).contains type then
    let (info, t) := (({ s with adm := { s.adm with fdpEvents := pushFront 64 (type, handle) s.adm.fdpEvents } } : State)).draw
    (t.fns.map (·.1)).foldl (fun t i => if (t.func i).rdy then t.asyncEvent i 2 (info % 256) 0x23 else t) t
  else s

/-- A critical warning bit cleared. -/
def State.critClear (s : State) (bit : Nat) : State :=
  if s.adm.critWarn.testBit bit then { s with adm := { s.adm with critWarn := s.adm.critWarn - 2 ^ bit } } else s

/-- A supervisor-owned command: held in its slot while a switch-over runs, ended with 06h once the supervisor has failed (R355, R357). -/
def State.superGate (s : State) (c : Nat) (t : State) : State :=
  if s.flag F.supStatFailed then s.finish c St.internal
  else if s.sup.yielded.isSome then s
  else t

/-- CSTS.CFS set on a list of functions. -/
def State.setCfs (s : State) (is : List Nat) : State := is.foldl (fun t i => t.updFunc i (fun f => { f with cfs := true })) s

/-- Every function with state of its own, and both PFs. -/
def State.allFuncs (s : State) : List Nat := insertNew 1 (insertNew 0 (s.fns.map (·.1)))

end Sys2Proof.Machine
end

