-- ==== Sys2Proof/Machine/Operands.lean ====
section
/-! DEFINITION. Operand forms: LBA ranges, extents, atomic units and stitches; interlock ranges and conflicts; which functions,
namespaces and queues an operand names. -/

namespace Sys2Proof.Machine

/-! ### Ranges of LBAs -/

/-- LBAs of a stitch boundary: every multiple of 64 (R106). -/
def stitchSpan : Nat := 64

/-- LBAs of an atomic unit: 1 MiB (R137). -/
def unitSpan : Nat := 256

/-- LBAs of an extent: 64 KiB. -/
def extentSpan : Nat := 16

/-- The next multiple of `n` above `a`. -/
def nextMultiple (n a : Nat) : Nat := (a / n + 1) * n

/-- The pieces of the range `a` up to `e` between multiples of `n`, at most `k` of them: (first, count). -/
def cutRange (n : Nat) : Nat → Nat → Nat → List (Nat × Nat)
  | 0, _, _ => []
  | k + 1, a, e =>
    if e ≤ a then []
    else
      let b := Nat.min e (nextMultiple n a)
      (a, b - a) :: cutRange n k b e

/-- The pieces of a range that lie between multiples of `n`. -/
def pieces (n first count : Nat) : List (Nat × Nat) := cutRange n (count / n + 2) first (first + count)

/-- Whether two ranges overlap. -/
def overlaps (a n b m : Nat) : Bool := decide (a < b + m) && decide (b < a + n)

/-- Whether a range covers an LBA. -/
def covers (a n l : Nat) : Bool := decide (a ≤ l) && decide (l < a + n)

/-- A range widened outward to extent boundaries (R114). -/
def widen (r : Nat × Nat) : Nat × Nat :=
  let a := r.1 / extentSpan * extentSpan
  let e := (r.1 + r.2 + extentSpan - 1) / extentSpan * extentSpan
  (a, e - a)

/-- The LBAs of a range. -/
def lbas (first count : Nat) : List Nat := (List.range count).map (· + first)

/-! ### Interlock entries (R114, R115) -/

/-- Whether two entries conflict: same namespace, overlapping ranges, at least one a write (R115). -/
def Lock.conflicts (a b : Lock) : Bool :=
  decide (a.nsid = b.nsid) && overlaps a.first a.count b.first b.count && (a.write || b.write)

end Sys2Proof.Machine

namespace Sys2Proof

open Sys2Proof.Machine

/-- The ranges a command takes entries for: (first, count, write kind, buffers data). -/
def Sqe.lockRanges (q : Sqe) : List (Nat × Nat × Bool × Bool) :=
  match q.opcode with
  | 0x01 | 0x08 => [(q.slba, q.nlb, true, true)]
  | 0x04 => [(q.slba, q.nlb, true, false)]
  | 0x09 => q.ranges.map (fun r => (r.1, r.2, true, false))
  | 0x02 | 0x05 | 0x0C | 0x81 => [(q.slba, q.nlb, false, false)]
  | 0x19 => q.ranges.map (fun r => (r.1, r.2, false, false)) ++ [(q.slba, sumNat (q.ranges.map (·.2)), true, true)]
  | _ => []

/-- The entries of an I/O command; in a namespace with compression enabled each range is widened to extents. -/
def Sqe.locks (q : Sqe) (cmd : Nat) (compress : Bool) : List Lock :=
  q.lockRanges.map (fun r =>
    let ab := if compress then widen (r.1, r.2.1) else (r.1, r.2.1)
    ⟨cmd, q.nsid, ab.1, ab.2, r.2.2.1, r.2.2.2⟩)

/-- The LBAs a command transfers or works on, as the stitch scheduler cuts them (R106): a command that moves no host data has one
stitch, here a range of one. -/
def Sqe.stitchRange (q : Sqe) : Nat × Nat :=
  match q.opcode with
  | 0x01 | 0x02 | 0x05 => (q.slba, q.slba + q.nlb)
  | _ => (0, 1)

/-- Whether a command is an I/O command that reads or changes LBAs. -/
def Sqe.needsLock (q : Sqe) (admin : Bool) : Bool := !admin && !q.lockRanges.isEmpty

end Sys2Proof
end

