-- ==== Sys2Proof/Machine/Evw.lean ====
section
/-! DEFINITION. The event window (R468 to R478, R481): cursors, the latch, reading, clearing and persistence of event records. -/

namespace Sys2Proof.Machine

/-! ### Records and the window -/

/-- The eight dwords of a record (R467). -/
def EventRec.dwords (r : EventRec) : List Nat :=
  [r.code + 2 ^ 16 * r.sev + 2 ^ 24 * r.src, r.time % 2 ^ 32, r.time / 2 ^ 32, r.seq, r.p0, r.p1, r.p2, r.p3]

/-- Staged records that a round clear has not named (R478). -/
def State.liveStaged (s : State) : List EventRec :=
  match s.areas.clearTo with
  | none => s.stg.staged
  | some n => s.stg.staged.filter (fun r => seqBefore n r.seq)

/-- A record put in SEQ order among others. -/
def insertSeq (r : EventRec) : List EventRec → List EventRec
  | [] => [r]
  | a :: rest => if seqBefore a.seq r.seq then a :: insertSeq r rest else r :: a :: rest

/-- The records readable in the round area, persisted ones and staged ones, in SEQ order (R470, R471). -/
def State.readable (s : State) : List EventRec := s.liveStaged.foldl (fun l r => insertSeq r l) s.areas.round

/-- EVW_OLDEST: the oldest readable round record; 0 if none. -/
def State.evwOldest (s : State) : Nat := (s.readable.head?.map (·.seq)).getD 0

/-- EVW_NEWEST: the newest record staged; 0 if none ever was. -/
def State.evwNewest (s : State) : Nat :=
  if s.stg.nextSeq = 1 ∧ s.readable.isEmpty ∧ s.areas.cast.isEmpty then 0 else prevSeq s.stg.nextSeq

/-- A PF's bank. -/
def State.bank (s : State) (pf : Nat) : EvwBank := if pf = 0 then s.bank0 else s.bank1

/-- A PF's bank replaced. -/
def State.setBank (s : State) (pf : Nat) (b : EvwBank) : State :=
  if pf = 0 then { s with bank0 := b } else { s with bank1 := b }

/-- A bank after a reset of its class: the cursor is set to EVW_OLDEST (R481). -/
def State.resetBank (s : State) (pf : Nat) : State :=
  s.setBank pf { area := 0, castIdx := 0, cursor := s.evwOldest, overrun := false, cleared := false, behind := false, latch := [] }

/-- The record of a SEQ in the round area or the staging ring. -/
def State.findRec (s : State) (seq : Nat) : Option EventRec := s.readable.find? (fun r => r.seq = seq)

/-- A bank whose cursor is marked behind jumps to the oldest record, with OVERRUN (R475). -/
def State.catchUp (s : State) (pf : Nat) : State :=
  let b := s.bank pf
  if b.behind then s.setBank pf { b with cursor := s.evwOldest, behind := false, overrun := true } else s

/-- The record that a read of EVW_DATA[0] latches: the cursor's, or the cast-on record at CASTIDX (R474). -/
def State.atCursor (s : State) (pf : Nat) : Option EventRec :=
  let b := s.bank pf
  if b.area = 0 then s.findRec b.cursor else s.areas.cast[b.castIdx]?

/-- A read of EVW_DATA[0]: a whole record is latched, or 32 zero bytes, and dword 0 returned (R474, R475). -/
def State.evwRead0 (s : State) (pf : Nat) : Nat × State :=
  let t := if (s.bank pf).area = 0 then s.catchUp pf else s
  match t.atCursor pf with
  | some r => (r.dwords.headD 0, t.setBank pf { t.bank pf with latch := r.dwords })
  | none => (0, t.setBank pf { t.bank pf with latch := [] })

/-- The cursor, or CASTIDX, moved on by one. -/
def EvwBank.advance (b : EvwBank) : EvwBank :=
  if b.area = 0 then { b with cursor := nextSeq b.cursor } else { b with castIdx := (b.castIdx + 1) % 2 ^ 14 }

/-- A read of EVW_DATA[7]: the latched dword, and the cursor or CASTIDX advances where a record was latched (R474). -/
def State.evwRead7 (s : State) (pf : Nat) : Nat × State :=
  let b := s.bank pf
  (b.latch.getD 7 0, if b.latch.isEmpty then s else s.setBank pf b.advance)

/-- Whether a SEQ lies between EVW_OLDEST and EVW_NEWEST + 1 (R475). -/
def State.evwInRange (s : State) (seq : Nat) : Bool :=
  let o := if s.readable.isEmpty then s.stg.nextSeq else s.evwOldest
  decide ((seq + 2 ^ 32 - o) % 2 ^ 32 ≤ (s.stg.nextSeq + 2 ^ 32 - o) % 2 ^ 32) && decide (seq ≠ 0)

/-- EVW_CURSOR written: the cursor, marked behind where the SEQ is out of range (R475, R481). -/
def State.evwCursor (s : State) (pf seq : Nat) : State :=
  s.setBank pf { s.bank pf with cursor := seq, behind := !(s.evwInRange seq) }

/-- SEEKOLD (R481). -/
def State.evwSeekOld (s : State) (pf : Nat) : State :=
  s.setBank pf { s.bank pf with cursor := s.evwOldest, behind := false }

/-- SEEKNEW (R481). -/
def State.evwSeekNew (s : State) (pf : Nat) : State :=
  s.setBank pf { s.bank pf with cursor := s.stg.nextSeq, behind := false }

/-! ### Persistence (R469 to R473) -/

/-- The mark of a bank set where the record its cursor names is displaced (R475). -/
def EvwBank.displace (b : EvwBank) (seq : Nat) : EvwBank := if b.cursor = seq then { b with behind := true } else b

/-- A record enters the round area; past 65,536 records the oldest is displaced (R470). -/
def State.roundAdd (s : State) (r : EventRec) : State :=
  let rs := insertSeq r s.areas.round
  if 65536 < rs.length then
    let o := (rs.head?.map (·.seq)).getD 0
    { s with areas := { s.areas with round := rs.tail }, bank0 := s.bank0.displace o, bank1 := s.bank1.displace o }
  else { s with areas := { s.areas with round := rs } }

/-- A record enters the cast-on area while that has room for its SEQ (R469). -/
def State.castAdd (s : State) (r : EventRec) : State :=
  if s.areas.cast.length < 16384 ∧ r.seq ≤ 16384 ∧ r.seq = s.areas.cast.length + 1 then
    { s with areas := { s.areas with cast := s.areas.cast ++ [r] } }
  else s

/-- Code 0006h staged with the count of refused records once space has returned (R471). -/
def State.reportDrops (s : State) : State :=
  if s.stg.refused ≠ 0 ∧ s.stg.staged.length < 112 then
    let t := s.event 0x0006 s.stg.refused
    { t with stg := { t.stg with refused := 0 } }
  else s

/-- A staged record's word has been written: it leaves the ring and enters its areas (R469 to R472). -/
def State.persisted (s : State) (seq : Nat) : State :=
  match s.stg.staged.find? (fun r => r.seq = seq) with
  | none => s
  | some r =>
    let named := s.areas.clearTo.any (fun n => !(seqBefore n seq))
    let t := s.castAdd r
    let t := if named then t else t.roundAdd r
    let t := { t with stg := { t.stg with staged := t.stg.staged.filter (fun x => x.seq ≠ seq), lastPersist := t.clk.mono },
                      areas := { t.areas with last := seq, clearTo := if named then t.areas.clearTo else none } }
    let t := if t.stg.staged.isEmpty then t.cancel .eventPersist else t.arm .eventPersist (nsSec 1)
    t.reportDrops

/-- EVENT_PERSIST_TIMER: 1 s after the oldest was staged, every staged record is handed to the store at the fourth rank (R472). -/
def execEventPersistTimer (s : State) : Host.Outcome State Fault Refusal :=
  onTimer s .eventPersist (fun t => t.persistStaged 4)

/-! ### Clearing (R478) -/

/-- A bank's cursor after a round clear: one that names a cleared record or is marked behind moves to the first record after it. -/
def EvwBank.afterClear (b : EvwBank) (last first : Nat) : EvwBank :=
  if b.behind || !(seqBefore last b.cursor) then { b with cursor := first, behind := false, cleared := true } else b

/-- Every round record up to the newest is cleared: 0005h is the first record after them, and the round sectors are erased. -/
def State.roundClear (s : State) (fn : Nat) : State :=
  let n := s.readable.length
  let last := prevSeq s.stg.nextSeq
  let first := s.stg.nextSeq
  let t : State := { s with areas := { s.areas with round := [], clearTo := some last } }
  let t := t.event 0x0005 fn n last
  let t := { t with bank0 := t.bank0.afterClear last first, bank1 := t.bank1.afterClear last first }
  let a := Tab.getD 6 ⟨0, 2, [], []⟩ t.areaTab
  (a.full ++ [a.cur]).foldl (fun u sec => u.cfsRequest 4 (.erase sec) 1) t

end Sys2Proof.Machine
end

