-- ==== Sys2Proof/Machine/Pace.lean ====
section
/-! DEFINITION. Gauge rings, the core-voltage governor, the regulator's faults and the timekeeper (R37 to R56). -/

namespace Sys2Proof.Machine

/-! ### Gauges (R37, R56) -/

/-- The governed set: regions 0 to 16 and 18 to 21 (R38). -/
def governed (r : Nat) : Bool := decide (r ≤ 16) || (decide (18 ≤ r) && decide (r ≤ 21))

/-- PACE_STAT.BELOW: some measured region other than 17 reads below 1,000 MHs (R56, R59). -/
def State.paceBelow (s : State) : Bool :=
  s.pace.measured.any (fun r => decide (r ≠ 17) && decide (s.fld (F.paceGaugePace r) < 1000))

/-- BELOW brought up to date; the first time it becomes 1 since BELOWSEEN was cleared sets that bit and records the event (R56). -/
def State.paceCheck (s : State) (r p : Nat) : State :=
  let was := s.flag F.paceStatBelow
  let now := s.paceBelow
  let t := s.putFlag F.paceStatBelow now
  if now && !was && !(s.flag F.paceStatBelowseen) then (t.setFlag F.paceStatBelowseen).event 0x0101 r p else t

/-- A reading added to a region's span of the present gauge period (R56). -/
def GaugeSpan.add (g : Option GaugeSpan) (p : Nat) : GaugeSpan :=
  match g with
  | none => ⟨p, p, 1, p⟩
  | some g => ⟨Nat.min g.low p, g.sum + p, g.num + 1, Nat.max g.high p⟩

/-- A region's reading stored: PACE, and MIN where it is the lowest (R65). -/
def State.gaugeRead (s : State) (r p : Nat) : State :=
  let first := !(s.pace.measured.contains r)
  let t := s.setFld (F.paceGaugePace r) p
  let t := if first || decide (p < s.fld (F.paceGaugeMin r)) then t.setFld (F.paceGaugeMin r) p else t
  { t with pace := { t.pace with measured := insertNew r t.pace.measured,
                                 span := Tab.put r (GaugeSpan.add (Tab.find r t.pace.span) p) t.pace.span } }

/-- GAUGE_WINDOW_END: pace is the cycle count over the 10 µs window, rounded down to a whole MHs (R37). -/
def execGaugeWindowEnd (region cycles : Nat) (s : State) : Host.Outcome State Fault Refusal :=
  let p := cycles / 10
  guarded (decide (region < 30) && decide (p < 65536)) .outOfRange ((s.gaugeRead region p).paceCheck region p)

/-- PACE_MINCLR's action: every MIN takes its region's present pace (R58). -/
def State.paceMinClear (s : State) : State :=
  (List.range 30).foldl (fun t r => t.setFld (F.paceGaugeMin r) (t.fld (F.paceGaugePace r))) s

/-! ### The governor (R40 to R46) -/

/-- The device power state (PWR_STAT.PS). -/
def State.ps (s : State) : Nat := s.fld F.pwrStatPs

/-- The governor's floor in mV (R40, R44). -/
def State.voltFloor (s : State) : Nat :=
  match s.ps with
  | 0 => if s.pace.hotDies.isEmpty then 780 else 800
  | 1 => 740
  | 2 => 700
  | _ => 650

/-- A new request sent to the regulator, followed by STATUS_WORD (R42). -/
def State.requestVolts (s : State) (mv : Nat) : State :=
  if mv = s.fld F.paceVstatReq then s
  else ((s.setFld F.paceVstatReq mv).send (.pmbus 0x21 mv)).send (.pmbus 0x79 0)

/-- The slowest region of the governed set, among those measured. -/
def State.slowest (s : State) : Option (Nat × Nat) :=
  (s.pace.measured.filter governed).foldl (fun best r =>
    let p := s.fld (F.paceGaugePace r)
    match best with
    | none => some (r, p)
    | some (r', p') => if p < p' ∨ (p = p' ∧ r < r') then some (r, p) else some (r', p')) none

/-- The request the governor makes at the end of a gauge period (R44, R45). -/
def State.governorRequest (s : State) (low : Nat) (fastFor : Bool) : Nat :=
  let req := s.fld F.paceVstatReq
  let vmax := s.fld F.paceVreqVmax
  if s.fld F.paceCtlMode = 1 then clampNat 650 vmax (s.fld F.paceVreqTarget)
  else if 3 ≤ s.ps then 650
  else if low < s.fld F.paceCtlGoal then Nat.max s.voltFloor (Nat.min vmax (req + 10))
  else if fastFor then Nat.max s.voltFloor (Nat.min vmax (req - 10))
  else Nat.max s.voltFloor (Nat.min vmax req)

/-- The governor at the end of a gauge period: PACE_LOW, the 1 s count, the request and CAPPED (R44, R45). A request is held while
the regulator does not answer, and the transaction retried (R46). Before any gauge has been read only fixed mode has a request to make. -/
def State.govern (s : State) : State :=
  match s.slowest with
  | none => if s.fld F.paceCtlMode = 1 ∧ s.pace.pmbusFails < 3 then s.requestVolts (s.governorRequest 0 false) else s
  | some (r, p) =>
    let s := (s.setFld F.paceLowRegion r).setFld F.paceLowPace p
    let goal := s.fld F.paceCtlGoal
    let fastAt := if goal + 60 ≤ p then some (s.pace.fastSince.getD s.clk.mono) else none
    let s := { s with pace := { s.pace with fastSince := fastAt } }
    let fast := fastAt.any (fun m => decide (m + 1000000000 ≤ s.clk.mono))
    let s := if s.fld F.paceCtlMode = 0 ∧ s.fld F.paceVstatReq = s.fld F.paceVreqVmax ∧ p < goal
             then s.setFlag F.paceStatCapped else s
    if 3 ≤ s.pace.pmbusFails then s.send (.pmbus 0x21 (s.fld F.paceVstatReq))
    else s.requestVolts (s.governorRequest p fast)

/-- Whether READ_VOUT differs from the request by more than 25 mV (R46). -/
def voltsOff (vout req : Nat) : Bool := decide (req + 25 < vout) || decide (vout + 25 < req)

/-- GAUGE_PERIOD_END: SEQ advances, the voltage readings are taken, the governor acts, and each region's lowest, mean and highest
pace of the period go to the history (R44, R56, R59). -/
def execGaugePeriodEnd (vout iout : Nat) (s : State) : Host.Outcome State Fault Refusal :=
  let s := (s.addWrap F.paceStatSeq 1).setFld F.paceVstatVout vout
  let s := (s.send (.pmbus 0x8B vout)).send (.pmbus 0x8C iout)
  let v : PaceRec := ⟨s.fld F.paceStatSeq, s.fld F.paceVstatReq, vout, iout, s.pace.span⟩
  let s := { s with pace := { s.pace with iout := iout, history := pushFront 1024 v s.pace.history, span := [] } }
  let s := if voltsOff vout (s.fld F.paceVstatReq) then s.armOnce .voutDeviation (nsMs 1) else s.cancel .voutDeviation
  .next (s.govern.paceCheck (s.fld F.paceLowRegion) (s.fld F.paceLowPace))

/-- PMBUS_TRANSACTION_DONE: the third failure in succession sets NOACK, records the event and holds the request; a success ends the
hold. VOUT_MODE gives the exponent; once CLEAR_FAULTS is acknowledged the regulator has released VR_ALERT_N (R42, R46; DESIGN CHOICE, log
entry 116). -/
def execPmbusTransactionDone (ok : Bool) (code data : Nat) (s : State) : Host.Outcome State Fault Refusal :=
  if ok then
    let s := if code = 0x03 then s.clrFlag F.paceVstatAlert else s
    .next { s with pace := { s.pace with pmbusFails := 0, voutExp := if code = 0x20 then data % 32 else s.pace.voutExp } }
  else
    let n := s.pace.pmbusFails + 1
    let t := { s with pace := { s.pace with pmbusFails := n } }
    .next (if n = 3 then (t.setFlag F.paceVstatNoack).event 0x0102 data (s.fld F.paceVstatReq) else t)

/-- VOUT_DEVIATION_TIMEOUT: VRFAULT and its event; the governor continues (R46). -/
def execVoutDeviationTimeout (s : State) : Host.Outcome State Fault Refusal :=
  onTimer s .voutDeviation (fun t =>
    (t.setFlag F.paceVstatVrfault).event 0x0103 (t.fld F.paceVstatVout) (t.fld F.paceVstatReq))

/-- VR_ALERT: STATUS_WORD is read and recorded, and CLEAR_FAULTS sent (R46). -/
def execVrAlert (status : Nat) (s : State) : Host.Outcome State Fault Refusal :=
  let s := s.setFlag F.paceVstatAlert
  .next (((s.send (.pmbus 0x79 status)).event 0x0104 status (s.fld F.paceVstatReq)).send (.pmbus 0x03 0))

/-- DIE_TJ_PAST_105: the PS0 floor is 0.80 V while any die's Tj exceeds 105 °C (R40). -/
def execDieTjPast105 (die : Nat) (above : Bool) (s : State) : Host.Outcome State Fault Refusal :=
  let hs := if above then insertNew die s.pace.hotDies else s.pace.hotDies.filter (· ≠ die)
  guarded (decide (die < 13)) .outOfRange { s with pace := { s.pace with hotDies := hs } }

/-! ### Operational power states (R362 to R366) -/

/-- The power state a controller counts for: the one selected, PS4 where it is not enabled or has shut down (R365). -/
def Func.selects (f : Func) : Nat := if !f.en || decide (f.shst = 2) then 4 else f.psel

/-- The state that the selections choose: the lowest-numbered operational one, or the lowest non-operational one; PS3 stands for PS4 while a
manager role is held or a receive window is open (R365, R366). -/
def State.chosenPs (s : State) : Nat :=
  let n := (minNat? (s.allFuncs.map (fun i => (s.func i).selects))).getD 4
  if n = 4 ∧ (2 ≤ s.fld F.strIdRole ∨ s.str.windows.any (fun w => w.2.open_)) then 3 else n

/-- The device in another power state: the time of the state left is counted, and PS2 starts its rotation (R364, R380). -/
def State.setPs (s : State) (n : Nat) : State :=
  let ts := s.pwr.times.set s.ps (s.pwr.times.getD s.ps 0 + (s.clk.mono - s.pwr.since))
  let t : State := { s with pwr := { s.pwr with times := ts, since := s.clk.mono } }
  let t := ((t.setFld F.pwrStatPs n).addWrap (F.pwrCntCount n) 1).clrFlag F.pwrStatOdd
  if n = 2 then t.arm .ps2Slot (nsMs (t.fld F.pwrPs2Slotms)) else t.cancel .ps2Slot

/-- A move between operational states, which stops nothing (R363). It waits out a switch-over (R354). -/
def State.applyPs (s : State) : State :=
  if s.sup.yielded.isSome ∨ 3 ≤ s.ps ∨ 3 ≤ s.chosenPs ∨ s.chosenPs = s.ps then s else s.setPs s.chosenPs

/-! ### The timekeeper (R49 to R51) -/

/-- Device time set to a value in ns (R50): a move back of 1 ms or less is slewed, any other move is a step that sets STEPPED; an
earlier slew not yet absorbed is dropped. -/
def State.setTime (s : State) (new : Nat) : State :=
  let shown := s.devTime
  if new = shown then { s with clk := { s.clk with slewLeft := 0 } }
  else if new < shown ∧ shown - new ≤ 1000000 then
    { s with clk := { s.clk with slewLeft := (shown - new) * 1000000000 } }
  else ({ s with clk := { s.clk with slewLeft := 0, devFine := new % 2 ^ 64 * 1000000000 } } : State).setFlag F.tkStatStepped

/-- STR_STAT.OUTOFTIME brought up to date: REFT is lost, or a member has kept no exchange for 10 s or applied an offset above 50 µs (R397). -/
def State.noteSectionTime (s : State) : State :=
  s.putFlag F.strStatOutoftime (s.flag F.tkStatReftlost || (s.flag F.strStatJoined &&
    (!(s.armed .timeExchange) || decide (50000 < (toSigned 32 (s.fld F.strToffOffset)).natAbs))))

/-- REFT_LOST: the backup oscillator takes over; REFTLOST and REFTSEEN are set and the event recorded (R51). The device reports
itself out of section time (R397). -/
def execReftLost (s : State) : Host.Outcome State Fault Refusal :=
  let t := (s.setFlag F.tkStatReftlost).setFlag F.strStatOutoftime
  let t := if s.flag F.tkStatReftlost then t else t.setFlag F.tkStatReftseen
  .next (if s.flag F.tkStatReftlost then t else t.event 0x0105 (s.clk.mono / 1000))

/-- REFT_REGAINED: the timekeeper returns to REFT without a step in either count (R51). -/
def execReftRegained (s : State) : Host.Outcome State Fault Refusal :=
  .next (if s.flag F.tkStatReftlost then (s.clrFlag F.tkStatReftlost).noteSectionTime.event 0x0106 (s.clk.mono / 1000) else s)

/-- DEVICE_TIME_SLEW_DONE: the counts run on until the difference is absorbed, and device time is back at its rate (R50). -/
def execDeviceTimeSlewDone (s : State) : Host.Outcome State Fault Refusal :=
  let perNs := ((1000000000 + s.trim).toNat) / 2000
  let d := if perNs = 0 then 0 else (s.clk.slewLeft + perNs - 1) / perNs
  let t := s.advanceTo (s.clk.mono + d)
  .next { t with clk := { t.clk with slewLeft := 0 } }

end Sys2Proof.Machine
end

