-- ==== Sys2Proof/Machine/Cfs.lean ====
section
/-! DEFINITION. The configuration store (R424 to R446): words, sectors, areas, the record log and its data port. -/

namespace Sys2Proof.Machine

/-- A counter of R446 raised; it wraps. -/
def State.cfsCnt (s : State) (n : Nat) (k : Nat := 1) : State := s.addWrap (F.cfsCntCount n) k

/-- The store's last error (CFS_LASTERR). -/
def State.cfsErr (s : State) (kind word : Nat) : State :=
  ((s.setFlag F.cfsLasterrValid).setFld F.cfsLasterrKind kind).setFld F.cfsLasterrWord word

/-- An area of the area table. -/
def State.area (s : State) (a : Nat) : AreaState := Tab.getD a ⟨0, 2, [], []⟩ s.areaTab

/-- An area replaced. -/
def State.setArea (s : State) (a : Nat) (x : AreaState) : State := { s with areaTab := Tab.put a x s.areaTab }

/-- A sector's attributes. -/
def State.sector (s : State) (n : Nat) : Sector := Sparse.get (fun _ => Sector.fresh) n s.sectors

/-- A sector's attributes replaced. -/
def State.setSector (s : State) (n : Nat) (x : Sector) : State :=
  { s with sectors := Sparse.set (fun _ => Sector.fresh) n x s.sectors }

/-- The area a program goes to, by its number (R424). -/
def CfsJob.areaNum (j : CfsJob) : Nat :=
  match j.work with
  | .event _ => if j.words = 2 then 5 else 6
  | .settings => 4
  | .features _ => 4
  | .record _ _ _ _ => 4
  | .keySet => 1
  | .counterRec _ => 2
  | .anchor => 3
  | .dumpSeal => 4
  | .locator => 7
  | .loader => 8
  | .move _ _ _ => 4
  | .rewrite _ => 4
  | .retire _ => 4
  | .erase _ => 9

/-- The area that uses a sector. -/
def State.areaOfSector (s : State) (sec : Nat) : Option Nat :=
  (s.areaTab.find? (fun p => p.2.cur = sec || p.2.full.contains sec || p.2.erased.contains sec)).map (·.1)

/-- The area a job writes to: a scrub rewrite goes to the area its word lies in (R443). -/
def State.jobArea (s : State) (j : CfsJob) : Nat :=
  match j.work with
  | .rewrite w => (s.areaOfSector (w / 512)).getD 4
  | _ => j.areaNum

/-- The word a program goes to: the write point of its area, or the retire word of a sector (R425). -/
def State.cfsWord (s : State) (j : CfsJob) : Nat :=
  match j.work with
  | .retire b => b * 512 + 1
  | _ => (s.area (s.jobArea j)).cur * 512 + (s.area (s.jobArea j)).word

/-- The live records that lie in a sector, as kind, index pairs. -/
def State.recordsIn (s : State) (sec : Nat) : List (Nat × Nat) :=
  (s.records.filter (fun p => p.2.sector = sec)).map (fun p => (p.1 / 256, p.1 % 256))

/-- Compaction of the record log while fewer than two of its sectors are erased (R437): the live records of the oldest full sector
are copied to the write point and the sector is then erased. -/
def State.compact (s : State) : State :=
  let a := s.area 4
  match decide (a.erased.length < 2), a.full with
  | true, o :: rest =>
    if s.cfs.queue.any (fun j => j.work = .erase o) then s
    else
      let t := (s.recordsIn o).foldl (fun u kx =>
        let n := 1 + (((Tab.find (256 * kx.1 + kx.2) u.records).map (fun r => r.payload.length)).getD 0 + 7) / 8
        u.cfsPut ⟨6, .move kx.1 kx.2 o, n, n⟩) s
      let t := t.setArea 4 { a with full := rest ++ [o] }
      ((t.cfsCnt 10).addSat F.cfsCfguseCompact 1).cfsRequest 6 (.erase o) 1
  | _, _ => s

/-- The write point of an area moved on by one word: a full sector gives way to the next erased one, and a ring area erases its
oldest sector ahead (R424, R429). -/
def State.advanceArea (s : State) (a : Nat) : State :=
  let x := s.area a
  if x.word + 1 < 512 then s.setArea a { x with word := x.word + 1 }
  else
    let t := s.setArea a { cur := x.erased.headD x.cur, word := 2, erased := x.erased.tail, full := x.full ++ [x.cur] }
    match a, (t.area a).erased, (t.area a).full with
    | 6, [], o :: _ => t.cfsRequest 4 (.erase o) 1
    | 3, [], o :: _ => t.cfsRequest 2 (.erase o) 1
    | 2, [], o :: _ => t.cfsRequest 3 (.erase o) 1
    | 7, [], o :: _ => t.cfsRequest 5 (.erase o) 1
    | 4, _, _ => t.compact
    | _, _, _ => t

/-- A sector retired (R425): its live content is moved, it is replaced from the reserve, and the event recorded. -/
def State.retireSector (s : State) (sec : Nat) : State :=
  let t := s.setSector sec { s.sector sec with retired := true }
  let t := ((t.addSat F.cfsSpareRetired 1).setFlag F.cfsStatRetireseen).cfsCnt 6
  let t := (t.event 0x0F02 sec).cfsRequest 6 (.retire sec) 1
  let t := (t.recordsIn sec).foldl (fun u kx =>
    let n := 1 + (((Tab.find (256 * kx.1 + kx.2) u.records).map (fun r => r.payload.length)).getD 0 + 7) / 8
    u.cfsRequest 6 (.move kx.1 kx.2 sec) n) t
  match t.areaOfSector sec with
  | none => t
  | some a =>
    let x := t.area a
    let x := { x with full := x.full.filter (· ≠ sec), erased := x.erased.filter (· ≠ sec) }
    let x := if x.cur = sec then { x with cur := x.erased.headD x.cur, word := 2, erased := x.erased.tail } else x
    match t.reserve with
    | [] => (t.setArea a x).setFlag F.cfsStatNoreserve
    | r :: rest =>
      let t := ({ t with reserve := rest } : State).setArea a { x with full := x.full ++ [r] }
      t.cfsRequest 6 (.erase r) 1

/-- The bits of a register that its RW fields of class K take. -/
def kMask (off : Nat) : Word :=
  (rowsAt off).foldl (fun w r => if r.acc = .rw ∧ r.cls = .k then w ||| (Fld.mask r.fld) else w) 0

/-- The settings record as it is programmed: every RW field of class K, the other bits at their defaults (R516, R524). -/
def State.settingsImage (s : State) : List (Nat × Word) :=
  (s.regs.map (fun p => (p.1, (p.2 &&& kMask p.1) ||| (regDefault p.1 &&& ~~~ kMask p.1)))).filter (fun p => p.2 ≠ regDefault p.1)

/-- A request for the settings record after a K-class write: it waits at the fifth rank, and GEN_CFGPEND.PEND counts it (R516). -/
def State.saveSettings (s : State) : State := (s.addSat F.genCfgpendPend 1).cfsRequest 5 .settings 2

/-- The length of a key set: 1 to 128 words, fixed by the module (R434). -/
def keySetWords : Nat := 1 + Config.keyWords % 128

/-- Commands that wait for a store write, by opcode, finished successfully. -/
def State.finishWaiting (s : State) (op : Nat) : State :=
  (s.q.cmds.filter (fun p => p.2.admin && decide (p.2.phase = .waitStore) && decide (p.2.sqe.opcode = op))).foldl
    (fun t p => t.finish p.1 St.ok p.2.doneSlots) s

/-- A Format ends (R141, R142): the namespaces serve I/O again, the record of page C1h is written, the command completes if it is still
outstanding, and a Format that was resumed is reported. -/
def State.formatEnd (s : State) (ok : Bool) : State :=
  let f := s.adm.format
  let all := decide (f.nsid = 0xFFFFFFFF)
  let ns := s.nss.map (fun p => if all || decide (p.1 = f.nsid) then (p.1, { p.2 with formatting := false }) else p)
  let g : FormatRun := { f with state := if ok then 2 else 3, progress := 65535, last := s.devTime, cmd := none, group := none }
  let t := ({ s with nss := ns, adm := { s.adm with format := g } } : State).cfsRequest 5 (.record 8 0 [g.state, g.progress] false) 2
  let t := match f.cmd with
    | some c => t.finish c (if ok then St.ok else St.internal)
    | none => t
  if f.resumed = 0 then t else t.asyncVendor 0xC1

/-- Whether a key-set write still waits or runs. -/
def State.keySetWaits (s : State) : Bool :=
  (s.cfs.queue ++ s.cfs.op.toList ++ s.sup.writes).any (fun j => decide (j.work = .keySet))

/-- A life-cycle change takes effect with its key set (R456, R458 steps 5 and 6): SEC_LC, the event, the completion. The device then resets
itself. P0 of the event holds the old state in bits [3:2] and the new in [1:0]. -/
def State.lifeCycleDone (s : State) : State :=
  match s.sec.lcRun with
  | some (c, target, role, at_, 5) =>
    let old := s.fld F.secLcState
    let t := ((s.setFld F.secLcPrev old).setFld F.secLcState target).addWrap F.secLcTrans 1
    let t := (((t.setFlag F.secLclastValid).setFld F.secLclastFrom old).setFld F.secLclastTo target).setFld F.secLclastRole role
    let t := (t.putSat F.secLclastMs ((t.clk.mono - at_) / 1000000)).addWrap (F.secCntCount 16) 1
    let t := if old = 1 ∧ target = 0 then t.clrFlag F.secCtlMakeren else t
    let t := if old = 0 ∧ target = 1 then { t with fl := { t.fl with roster := false } } else t
    let t := (t.event 0x1005 (old * 4 + target) role).persistStaged 4
    ({ t with sec := { t.sec with lcRun := some (c, target, role, at_, 7) } } : State).finish c St.ok
  | _ => s

/-- A crypto erase whose seeds no sector holds any more is over: SEC_CELAST, the count, and what waited for it (R461). -/
def State.cryptoSettled (s : State) (r : CryptoRun) : State :=
  let t := (s.setFld F.secCelastKind r.why).putSat F.secCelastMs ((s.clk.mono - r.start) / 1000000)
  let t := t.addWrap (F.secCntCount 19) 1
  if r.why = 1 then t.formatEnd true
  else if r.why = 3 then { t with sec := { t.sec with lcRun := t.sec.lcRun.map (fun x => (x.1, x.2.1, x.2.2.1, x.2.2.2.1, 4)) } }
  else t

/-- What follows a key set once no sector holds an older one (R435, R461): crypto erases whose seeds were replaced end, and the
commands that waited for it complete. -/
def State.keySetSettled (s : State) : State :=
  if s.keySetWaits then s
  else
    let done := s.adm.crypto.filter (·.keyed)
    let t : State := { s with adm := { s.adm with crypto := s.adm.crypto.filter (fun r => !r.keyed) } }
    ((done.foldl (fun t r => t.cryptoSettled r) t).finishWaiting 0x0D).lifeCycleDone

/-- A key committed through the key port takes effect (R453): presence bits, generation, KEYCHGSEEN, the event; the sessions of its
role end through `endRole`. -/
def State.keyCommitted (s : State) (endRole : State → Nat → State) : State :=
  match s.sec.commit with
  | none => s
  | some (k, v) =>
    let ks := if k = 1 then { s.keys with opKey := if v = 0 then none else some v } else { s.keys with instKey := some v }
    let t : State := { s with keys := ks, sec := { s.sec with commit := none } }
    let t := (t.putFlag F.secKeysOpkey ks.opKey.isSome).putFlag F.secKeysInstkey ks.instKey.isSome
    let t := ((t.clrFlag F.secKctlBusy).setFlag F.secStatKeychgseen).addWrap (F.secCntCount 14) 1
    endRole (t.event 0x1006 k k) k

/-- What a finished request brings about. `endRole` ends the sessions of a role, `anchored` and `located` are what follows an anchor
and a boot locator record. -/
def State.cfsDone (s : State) (j : CfsJob) (endRole : State → Nat → State) : State :=
  match j.work with
  | .event seq => s.persisted seq
  | .settings =>
    let t : State := { s with savedRegs := s.settingsImage }
    t.setFld F.genCfgpendPend (s.fld F.genCfgpendPend - 1)
  | .features c => ({ s with savedRegs := s.settingsImage } : State).finish c St.ok
  | .record k i p port =>
    let g := ((Tab.find (256 * k + i) s.records).map (·.gen)).getD 0
    let t := { s with records := Tab.put (256 * k + i) ⟨g + 1, (s.area 4).cur, p⟩ s.records }
    if port then t.clrFlag F.cfsDpctlBusy else t
  | .keySet =>
    let a := s.area 1
    let t := s.setArea 1 { cur := a.erased.headD a.cur, word := 2, erased := [], full := [a.cur] }
    let t := { t with keys := { t.keys with gen := t.keys.gen + 1 } }
    let t := (t.setFld F.secKeysGen t.keys.gen).keyCommitted endRole
    t.cfsRequest 3 (.erase a.cur) 1
  | .counterRec _ => s
  | .anchor =>
    ({ s with lif := { s.lif with anchor := s.lif.anchorNext.orElse (fun _ => s.lif.anchor), anchorNext := none } } : State).addSat
      F.lifAnchorWrites 1
  | .dumpSeal => s
  | .locator =>
    let busy := decide (s.fwu.bankWords ≠ 0) || s.cfs.queue.any (fun k => decide (k.work = .loader))
    (({ s with fwu := { s.fwu with bank := if busy then s.fwu.bank else s.fwu.bankNext } } : State).setFld F.cfsBootlocGen (s.fld F.cfsBootlocGen + 1)).finishWaiting 0x10
  | .loader => s.cfsRequest 5 .locator 16
  | .move k i o =>
    match Tab.find (256 * k + i) s.records with
    | some r => if r.sector = o then { s with records := Tab.put (256 * k + i) { r with sector := (s.area 4).cur } s.records } else s
    | none => s
  | .rewrite _ => s
  | .retire _ => s
  | .erase _ => s

/-- A failed request: a data-port or key-port commit reports it; every other requester writes its record again (R427, R440). -/
def State.cfsRefused (s : State) (j : CfsJob) : State :=
  match j.work with
  | .record _ _ _ true => (s.clrFlag F.cfsDpctlBusy).setFld F.cfsDpctlErr 4
  | .keySet =>
    match s.sec.commit with
    | some _ => (({ s with sec := { s.sec with commit := none } } : State).clrFlag F.secKctlBusy).setFld F.secKctlErr 4
    | none => s.cfsPut { j with words := j.total }
  | _ => s.cfsPut { j with words := j.total }

/-- Whether a job programs the retire word of a sector, the one program to a word not found erased (R425). -/
def CfsJob.retires (j : CfsJob) : Bool := match j.work with | .retire _ => true | _ => false

/-- The write point moved on past a job's word. -/
def State.advanceJob (s : State) (j : CfsJob) : State := if j.retires then s else s.advanceArea (s.jobArea j)

/-- The controller free for its next operation (R429). -/
def State.cfsFree (s : State) : State := { s with cfs := { s.cfs with op := none } }

/-- A word's program ends (R427): refused, failed after 16 pulses, or passed; then the job's next word, or the next request. `endRole` ends the
sessions of a role. -/
def State.programComplete (s : State) (j : CfsJob) (erased : Bool) (pulses : Nat) (pass : Bool)
    (endRole : State → Nat → State) : State :=
  let w := s.cfsWord j
  if !erased && !j.retires then
    let t := (((s.setFlag F.cfsStatReprogseen).cfsErr 0 w).cfsCnt 2).event 0x0F01 w
    ((t.advanceJob j).cfsFree.cfsRefused j).cfsStart
  else if !pass then
    let t := ((((s.setFlag F.cfsStatPfailseen).cfsErr 1 w).cfsCnt 3).cfsCnt 1 16).advanceJob j
    let sec := w / 512
    let x := t.sector sec
    let t := (t.setSector sec { x with progFails := x.progFails + 1 }).cfsPut { j with words := j.total }
    (if 4 ≤ x.progFails + 1 then t.retireSector sec else t).cfsFree.cfsStart
  else
    let t := ((s.cfsCnt 0).cfsCnt 1 pulses).advanceJob j
    if j.words ≤ 1 then (t.cfsFree.cfsDone j endRole).cfsStart
    else { t with cfs := { t.cfs with op := some { j with words := j.words - 1 } } }

/-- Whether a job erases a sector with a property. -/
def CfsJob.erases (j : CfsJob) (f : Nat → Bool) : Bool := match j.work with | .erase b => f b | _ => false

/-- The store's erase count leader (CFS_ECMAX). -/
def State.ecMax (s : State) (sec n : Nat) : State :=
  if s.fld F.cfsEcmaxCount < n then (s.setFld F.cfsEcmaxCount n).setFld F.cfsEcmaxSector sec else s

/-- A sector erased and blank-checked goes to the erased sectors of its area. -/
def AreaState.blanked (x : AreaState) (sec : Nat) : AreaState :=
  if x.cur = sec then { x with word := 2 }
  else { x with full := x.full.filter (· ≠ sec), erased := if x.full.contains sec then x.erased ++ [sec] else x.erased }

/-- An erase ends (R428): failure twice retires the sector, a failed blank check leads to another erase, and a blank sector is taken
into use. A key set is complete, and a round clear done, when its last erase is. -/
def State.eraseComplete (s : State) (j : CfsJob) (sec : Nat) (pass blank : Bool) : State :=
  let x := s.sector sec
  let t : State := { s with cfs := { s.cfs with op := none } }
  let t := (t.setSector sec { x with erases := x.erases + 1 }).ecMax sec (x.erases + 1)
  let t := t.cfsCnt 4
  if !pass then
    let t := ((t.setFlag F.cfsStatEfailseen).cfsErr 2 (sec * 512)).cfsCnt 5
    let y := t.sector sec
    let t := t.setSector sec { y with eraseFails := y.eraseFails + 1 }
    (if 2 ≤ y.eraseFails + 1 then t.retireSector sec else t.cfsPut { j with words := 1 }).cfsStart
  else if !blank then ((t.cfsErr 4 (sec * 512)).cfsPut { j with words := 1 }).cfsStart
  else
    let y := t.sector sec
    let t := t.setSector sec { y with progFails := 0, eraseFails := 0 }
    let t := match t.areaOfSector sec with
      | some a => t.setArea a ((t.area a).blanked sec)
      | none => t
    let left := t.cfs.queue.filter (·.isErase)
    let t := if (t.areaOfSector sec) = some 1 then t.keySetSettled else t
    let bank := left.any (fun k => k.erases (fun b => decide ((t.areaOfSector b) = some 8)))
    let t := if decide (t.fwu.bankWords ≠ 0) && decide ((t.areaOfSector sec) = some 8) && !bank then
        ({ t with fwu := { t.fwu with bankWords := 0 } } : State).cfsRequest 5 .loader t.fwu.bankWords else t
    let more := left.any (fun k => k.erases (fun b => decide ((t.areaOfSector b) = some 6)))
    let t := if decide ((t.areaOfSector sec) = some 6) && !more then t.finishWaiting 0xC5 else t
    t.cfsStart

/-- CFS_ERASE_COMPLETE: meaning only while an erase is in progress. -/
def execCfsEraseComplete (pass blank : Bool) (s : State) : Host.Outcome State Fault Refusal :=
  match s.cfs.op with
  | some j => match j.work with
    | .erase sec => .next (s.eraseComplete j sec pass blank)
    | _ => .fault .noSuchObject
  | none => .fault .noSuchObject

/-! ### Scrub (R443) -/

/-- A scrub pass: every word is read. Words corrected with two bit errors in live records are written again at level 6, except in
sector 0 and the cast-on area; uncorrectable words are reported. -/
def State.cfsScrubPass (s : State) (one two bad : List Nat) : State :=
  let t := ((s.cfsCnt 7 one.length).cfsCnt 8 two.length).cfsCnt 9 bad.length
  let t := bad.foldl (fun u w => (u.setFlag F.cfsStatUeseen).cfsErr 3 w) t
  let t := two.foldl (fun u w =>
    if w / 512 = 0 ∨ u.areaOfSector (w / 512) = some 5 then u else u.cfsRequest 6 (.rewrite w) 1) t
  t.arm .cfsScrub (nsSec 86400)

/-- CFS_SCRUB_PERIOD (R443). -/
def execCfsScrubPeriod (one two bad : List Nat) (s : State) : Host.Outcome State Fault Refusal :=
  onTimer s .cfsScrub (fun t => t.cfsScrubPass one two bad)

/-! ### The data port (R440, R441) -/

/-- One bit of a reflected CRC32C. -/
def crcBit (c : Nat) : Nat := if c % 2 = 1 then (c / 2) ^^^ 0x82F63B78 else c / 2

/-- Thirty-two bits of a reflected CRC32C. -/
def crcBits : Nat → Nat → Nat
  | 0, c => c
  | n + 1, c => crcBits n (crcBit c)

/-- The CRC32C of a list of little-endian dwords. -/
def crc32c (dws : List Nat) : Nat := (dws.foldl (fun c d => crcBits 32 (c ^^^ d)) 0xFFFFFFFF) ^^^ 0xFFFFFFFF

/-- A staged dword of the data port. -/
def State.dpDword (s : State) (k : Nat) : Word := Tab.getD k 0 s.cfs.dpBuf

/-- CFS_DPSEL written: the staging buffer is loaded from the live record named, or with zeros (R440). -/
def State.dpSelect (s : State) (v : Word) : State :=
  let t := s.setWord Reg.cfsDpsel (v &&& 0xFFFF0FFC)
  let p := ((Tab.find (t.fld F.cfsDpselKind * 256 + t.fld F.cfsDpselIndex) t.records).map (·.payload)).getD []
  let buf := (p.zip (List.range p.length)).map (fun q => (q.2, (BitVec.ofNat 32 q.1 : Word)))
  { t with cfs := { t.cfs with dpBuf := buf.filter (fun q => q.2 ≠ 0) } }

/-- OFFSET moved on by 1. -/
def State.dpAdvance (s : State) : State := s.addWrap F.cfsDpselOffset 1

/-- An access to CFS_DPDATA: the dword at OFFSET is read or written, and OFFSET advances (R440). -/
def State.dpAccess (s : State) (write : Bool) (v : Word) : Word × State :=
  let o := s.fld F.cfsDpselOffset
  if write then
    (v, ({ s with cfs := { s.cfs with dpBuf := Sparse.set (fun _ => 0) o v s.cfs.dpBuf } } : State).dpAdvance)
  else (s.dpDword o, s.dpAdvance)

/-- The error a commit of the data port meets, 0 for none (R440, CFS_DPCTL.ERR). -/
def State.dpError (s : State) : Nat :=
  let a := s.area 4
  if s.fld F.cfsDpselKind ≠ 2 then 1
  else if 15 < s.fld F.cfsDpselIndex then 2
  else if crc32c ((List.range 127).map (fun k => (s.dpDword k).toNat)) ≠ (s.dpDword 127).toNat then 3
  else if a.erased.isEmpty ∧ 512 < a.word + 17 then 5
  else 0

/-- CFS_DPCTL.COMMIT: the 512-byte description is appended as a new record of kind 02h, or ERR is set (R440, R441). -/
def State.dpCommit (s : State) : State :=
  let e := s.dpError
  let t := s.setFld F.cfsDpctlErr e
  if e ≠ 0 then t
  else
    let p := (List.range 128).map (fun k => (s.dpDword k).toNat)
    (t.setFlag F.cfsDpctlBusy).cfsRequest 5
      (.record 2 (s.fld F.cfsDpselIndex) p true) 17

/-- CFS_DPCTL.DISCARD. -/
def State.dpDiscard (s : State) : State := { s with cfs := { s.cfs with dpBuf := [] } }

/-- CALIBRATION_ROW_READ: CCh returns dwords of the factory calibration row without a role; a range past dword 1,023 completes with
02h (R151, R431). -/
def execCalibrationRowRead (cmd numd offset : Nat) (s : State) : Host.Outcome State Fault Refusal :=
  onAdmin s cmd (fun k =>
    if !isPf k.fn then s.finish cmd St.badOpcode
    else if numd = 0 ∨ 1024 < numd ∨ 1024 < offset + numd then s.finish cmd St.badField
    else (s.send (.hostBuf cmd ((List.range numd).map (fun i => Config.calDword (offset + i))))).finish cmd St.ok)

end Sys2Proof.Machine
end

