-- ==== Sys2Proof/Machine/Sec.lean ====
section
/-! DEFINITION. Roles, sessions, challenges, refusals and the key port (R447 to R455, R463, R465, R466, R152). -/

namespace Sys2Proof.Machine

/-- A counter of R466 raised; it wraps. -/
def State.secCnt (s : State) (n : Nat) : State := s.addWrap (F.secCntCount n) 1

/-- The life-cycle state: 0 TEST, 1 INSTALLED, 2 RETIRED (SEC_LC.STATE). -/
def State.lc (s : State) : Nat := s.fld F.secLcState

/-- A PF's session. -/
def State.session (s : State) (pf : Nat) : Option Session := if pf = 0 then s.sec.sess0 else if pf = 1 then s.sec.sess1 else none

/-- A PF's session replaced. -/
def State.setSession (s : State) (pf : Nat) (x : Option Session) : State :=
  if pf = 0 then { s with sec := { s.sec with sess0 := x } } else { s with sec := { s.sec with sess1 := x } }

/-- The role of a function: that of its session; a VF has none (R447). -/
def State.roleOf (s : State) (fn : Nat) : Role := ((s.session fn).map (·.role)).getD .none

/-- Whether a function may do what needs a role (R447 to R449): a higher role holds every right of a lower one, and in TEST the
operator's and installer's are granted to a PF without a session. -/
def State.mayAs (s : State) (fn : Nat) (need : Role) : Bool :=
  decide (need = .none) || (isPf fn && (decide (need.num ≤ (s.roleOf fn).num) || (decide (s.lc = 0) && decide (need.num ≤ 2))))

/-- A session's end (R450, R452): event 1002h with the reason 1 release, 2 idle, 3 reset, 4 life cycle, 5 key change
(DESIGN CHOICE: the spec gives the reasons no numbers, log entry 6). -/
def State.endSession (s : State) (pf reason : Nat) : State :=
  match s.session pf with
  | none => s
  | some _ =>
    let t := ((s.setSession pf none).cancel (.sessionIdle pf)).event 0x1002 pf reason
    match reason with
    | 1 => t.secCnt 7
    | 2 => t.secCnt 8
    | _ => t.secCnt 9

/-- The sessions of a role ended, after its key changed (R450, R453). -/
def State.endRole (s : State) (role : Nat) : State :=
  [0, 1].foldl (fun t p => if (t.roleOf p).num = role then t.endSession p 5 else t) s

/-- A session's use: an admin command from its PF or a BAR2 write through it starts the 15 minutes afresh (R450). -/
def State.touch (s : State) (pf : Nat) : State :=
  match s.session pf with
  | some x => (s.setSession pf (some { x with lastUse := s.clk.mono })).arm (.sessionIdle pf) (nsSec 900)
  | none => s

/-- SESSION_IDLE_TIMEOUT (R450). -/
def execSessionIdleTimeout (pf : Nat) (s : State) : Host.Outcome State Fault Refusal :=
  onTimer s (.sessionIdle pf) (fun t => t.endSession pf 2)

/-- A refusal for want of a role (R451, SEC_DENYLOG): source 0 BAR2, 1 C0h, 2 vendor feature, 3 vendor command. -/
def State.deny (s : State) (src : Nat) (need : Role) (fn target : Nat) : State :=
  let t := (s.setFlag F.secStatDenyseen).setFlag F.secDenylogValid
  let t := ((t.setFld F.secDenylogSrc src).setFld F.secDenylogNeed need.num).setFld F.secDenylogFunc fn
  let t := t.setFld F.secDenylogTarget target
  let t := t.event 0x1004 (t.word Reg.secDenylog).toNat
  match src with
  | 2 => t.secCnt 12
  | 3 => t.secCnt 13
  | _ => t.secCnt 11

/-- A vendor admin command of a PF that needs a role (R129, R151): the role is checked before any field. -/
def onVendor (s : State) (cmd : Nat) (need : Role) (k : Cmd → State) : Host.Outcome State Fault Refusal :=
  onAdmin s cmd (fun c =>
    if !isPf c.fn then s.finish cmd St.badOpcode
    else if s.mayAs c.fn need then k c
    else (s.deny 3 need c.fn c.sqe.opcode).finish cmd St.roleRequired)

/-! ### Role-gated writes (R452) -/

/-- The event of accepted writes: 1003h with the number of identical writes of the second as the repeat count. -/
def State.gatedEvent (s : State) (g : Nat × Nat × Nat × Nat × Nat) : State := s.event 0x1003 g.1 g.2.1 g.2.2.1 g.2.2.2.2

/-- Accepted writes whose second is over are recorded (R452). -/
def State.flushGated (s : State) (all : Bool) : State :=
  let due := s.stg.gated.filter (fun g => all || decide (g.2.2.2.1 + 1000000000 ≤ s.clk.mono))
  let t := due.foldl (fun t g => t.gatedEvent g) s
  { t with stg := { t.stg with gated := s.stg.gated.filter (fun g => !(all || decide (g.2.2.2.1 + 1000000000 ≤ s.clk.mono))) } }

/-- An accepted role-gated write noted: identical writes within 1 s are counted together (R452). -/
def State.noteGated (s : State) (target val fn : Nat) : State :=
  let t := (s.flushGated false).secCnt 10
  let same := fun (g : Nat × Nat × Nat × Nat × Nat) => decide (g.1 = target) && decide (g.2.1 = val) && decide (g.2.2.1 = fn)
  let gs := if t.stg.gated.any same
    then t.stg.gated.map (fun g => if same g then (g.1, g.2.1, g.2.2.1, g.2.2.2.1, g.2.2.2.2 + 1) else g)
    else t.stg.gated ++ [(target, val, fn, t.clk.mono, 1)]
  { t with stg := { t.stg with gated := gs } }

/-! ### Challenges (R152, R455) -/

/-- The failed C2h of a PF within the last 60 s. -/
def State.recentFails (s : State) (pf : Nat) : List Nat :=
  (if pf = 0 then s.sec.fails0 else s.sec.fails1).filter (fun m => decide (s.clk.mono < m + 60000000000))

/-- The public key of a role (R447). -/
def KeySet.key (k : KeySet) : Role → Option Nat
  | .operator => k.opKey
  | .installer => k.instKey
  | .maker => k.makerKey
  | .none => none

/-- The dwords of a challenge block (R152): nonce, serial number, function and role, number, monotonic count. -/
def Challenge.block (c : Challenge) (fn lc : Nat) : List Nat :=
  (List.range 12).map (fun i => c.nonce / 2 ^ (32 * i) % 2 ^ 32) ++ (List.range 5).map (fun i => Config.calDword (2 + i)) ++
    [fn + 2 ^ 16 * c.role.num + 2 ^ 24 * lc, c.number, c.issued % 2 ^ 32, c.issued / 2 ^ 32 % 2 ^ 32] ++ List.replicate 11 0

/-- ROLE_CHALLENGE: C1h returns a challenge block that supersedes the PF's previous one; Dword 0 is its number (R151, R152). -/
def execRoleChallenge (cmd role reserved : Nat) (s : State) : Host.Outcome State Fault Refusal :=
  onVendor s cmd .none (fun c =>
    if reserved ≠ 0 ∨ role = 0 ∨ 3 < role then s.finish cmd St.badField
    else
      let (nonce, t) := s.draw
      let n := (t.sec.chalNo + 1) % 2 ^ 32
      let ch : Challenge := ⟨n, Role.ofNum role, t.clk.mono, false, nonce⟩
      let t : State := { t with sec := { t.sec with chalNo := n, chal0 := if c.fn = 0 then some ch else t.sec.chal0,
                                                    chal1 := if c.fn = 1 then some ch else t.sec.chal1 } }
      ((t.secCnt 0).send (.hostBuf cmd (ch.block c.fn t.lc))).finish cmd St.ok n)

/-- How a C2h ends: 0 pass, 1 signature, 2 superseded, stale, wrong role or the maker role refused, 3 lockout (event 1001h). -/
def State.authResult (s : State) (fn role number r sg : Nat) : Nat :=
  match if fn = 0 then s.sec.chal0 else s.sec.chal1 with
  | none => if 3 ≤ (s.recentFails fn).length then 3 else 2
  | some ch =>
    if 3 ≤ (s.recentFails fn).length then 3
    else if ch.number ≠ number ∨ ch.role.num ≠ role ∨ ch.issued + 30000000000 < s.clk.mono then 2
    else if role = 3 ∧ s.lc = 1 ∧ s.flag F.secCtlMakeren = false then 2
    else if (s.keys.key ch.role).any (fun k => Config.ecdsaOk k (Config.sha384 (ch.block fn s.lc)) r sg) then 0
    else 1

/-- A failed C2h counted: AUTHFAILSEEN, the total, and LOCKOUTSEEN at the third within 60 s. -/
def State.authFailed (s : State) (fn why : Nat) : State :=
  let l := (s.recentFails fn) ++ [s.clk.mono]
  let t : State := { s with sec := { s.sec with fails0 := if fn = 0 then l else s.sec.fails0,
                                                fails1 := if fn = 1 then l else s.sec.fails1 } }
  let t := (t.setFlag F.secStatAuthfailseen).addSat F.secFailTotal 1
  let t := if l.length = 3 then t.setFlag F.secStatLockoutseen else t
  t.secCnt (why + 3)

/-- ROLE_ASSUME: C2h opens a session of the challenge's role, replacing the PF's, or completes with Access Denied; either way it is
recorded (R152, R450, R455). -/
def execRoleAssume (cmd role number sigR sigS : Nat) (s : State) : Host.Outcome State Fault Refusal :=
  onVendor s cmd .none (fun c =>
    if role = 0 ∨ 3 < role then s.finish cmd St.badField
    else
      let why := s.authResult c.fn role number sigR sigS
      let t := s.event 0x1001 c.fn role why
      if why = 0 then
        (((t.setSession c.fn (some ⟨Role.ofNum role, t.clk.mono⟩)).arm (.sessionIdle c.fn) (nsSec 900)).secCnt role).finish cmd St.ok
      else (t.authFailed c.fn why).finish cmd St.accessDenied)

/-- ROLE_RELEASE: C3h ends the PF's session (R450). -/
def execRoleRelease (cmd reserved : Nat) (s : State) : Host.Outcome State Fault Refusal :=
  onVendor s cmd .none (fun c =>
    if reserved ≠ 0 then s.finish cmd St.badField else (s.endSession c.fn 1).finish cmd St.ok)

/-! ### The key port (R453, R454) -/

/-- The prime of P-384. -/
def p384 : Nat := 2 ^ 384 - 2 ^ 128 - 2 ^ 96 + 2 ^ 32 - 1

/-- The coefficient b of P-384 (FIPS 186-5). -/
def p384b : Nat :=
  0xb3312fa7e23ee7e4988e056be3f82d19181d9c6efe8141120314088f5013875ac656398d8a2ed19d2a85c8edd3ec2aef

/-- Whether a key, x then y, lies on the P-384 curve. -/
def onCurve (k : Nat) : Bool :=
  let x := k / 2 ^ 384
  let y := k % 2 ^ 384
  decide (x < p384) && decide (y < p384) && decide (y * y % p384 = (x * x * x + (p384 - 3) * x + p384b) % p384)

/-- A dword with its bytes reversed: keys lie most significant byte first (R453). -/
def bswap (n : Nat) : Nat := n % 256 * 2 ^ 24 + n / 256 % 256 * 2 ^ 16 + n / 65536 % 256 * 256 + n / 2 ^ 24 % 256

/-- The number that 24 staged dwords spell. -/
def kbufValue (buf : List (Nat × Word)) : Nat :=
  (List.range 24).foldl (fun acc i => acc * 2 ^ 32 + bswap (Tab.getD i (0 : Word) buf).toNat) 0

/-- The staged dwords of a key. -/
def kbufOf (k : Nat) : List (Nat × Word) :=
  ((List.range 24).map (fun i => (i, (BitVec.ofNat 32 (bswap (k / 2 ^ (32 * (23 - i)) % 2 ^ 32)) : Word)))).filter
    (fun p => p.2 ≠ 0)

/-- SEC_KSEL written: the staging buffer is loaded with the selected key, or with zeros (R453). -/
def State.keySelect (s : State) (v : Word) : State :=
  let t := s.setWord Reg.secKsel (v &&& 0xFF)
  let k := (t.keys.key (Role.ofNum (t.fld F.secKselKey))).getD 0
  { t with sec := { t.sec with kbuf := kbufOf k } }

/-- An access to SEC_KDATA: the dword at OFFSET is read or written, and OFFSET advances; past dword 23 there is nothing (R453). -/
def State.keyAccess (s : State) (write : Bool) (v : Word) : Word × State :=
  let o := s.fld F.secKselOffset
  let t := s.addWrap F.secKselOffset 1
  if write then
    (v, if o < 24 then { t with sec := { t.sec with kbuf := Sparse.set (fun _ => 0) o v t.sec.kbuf } } else t)
  else (Tab.getD o 0 s.sec.kbuf, t)

/-- The error a key commit meets, 0 for none (R453, R454, SEC_KCTL.ERR). -/
def State.keyError (s : State) (pf : Nat) : Nat :=
  let key := s.fld F.secKselKey
  let v := kbufValue s.sec.kbuf
  if key = 3 ∨ key = 0 then 3
  else if key = 2 ∧ s.keys.instKey.isSome ∧ (s.roleOf pf).num < 2 then 1
  else if s.mayAs pf .installer = false then 1
  else if key = 1 ∧ v = 0 then 0
  else if onCurve v then 0 else 2

/-- SEC_KCTL.COMMIT: the new key set is written under R435, or ERR is set (R453). -/
def State.keyCommit (s : State) (pf : Nat) : State :=
  let e := s.keyError pf
  let t := s.setFld F.secKctlErr e
  if e ≠ 0 then t.secCnt 15
  else
    let v := kbufValue s.sec.kbuf
    (({ t with sec := { t.sec with commit := some (s.fld F.secKselKey, v) } } : State).setFlag F.secKctlBusy).cfsRequest 3
      .keySet keySetWords

/-- SEC_KCTL.DISCARD. -/
def State.keyDiscard (s : State) : State := { s with sec := { s.sec with kbuf := [] } }

/-- SEC_DBG.UNLOCK written with 1: in TEST the DBG_* balls become live; in other states the write is discarded (R463). -/
def State.debugUnlock (s : State) : State :=
  if s.lc = 0 then ((s.setFlag F.secDbgUnlock).setFlag F.secStatDbgseen).secCnt 20 else s

/-! ### The event window's commands (R476 to R478) -/

/-- Whether a function may read event records (R477). -/
def State.mayReadEvents (s : State) (fn : Nat) : Bool :=
  isPf fn && (decide (s.lc = 0) || s.flag F.genStateDead || decide (1 ≤ (s.roleOf fn).num))

/-- Up to `n` records from a PF's cursor, which advances past them (R476). -/
def State.takeRound : Nat → Nat → State → List EventRec × State
  | 0, _, s => ([], s)
  | n + 1, pf, s =>
    match s.findRec (s.bank pf).cursor with
    | none => ([], s)
    | some r =>
      let (rs, t) := State.takeRound n pf (s.setBank pf { s.bank pf with cursor := nextSeq (s.bank pf).cursor })
      (r :: rs, t)

/-- EVENT_WINDOW_READ: C4h returns records from the cursor (AREA 0) or from a cast-on index (AREA 1), padded with zeros (R476, R477). -/
def execEventWindowRead (cmd area count first : Nat) (s : State) : Host.Outcome State Fault Refusal :=
  onAdmin s cmd (fun c =>
    if !isPf c.fn then s.finish cmd St.badOpcode
    else if !(s.mayReadEvents c.fn) then (s.deny 3 .operator c.fn 0xC4).finish cmd St.roleRequired
    else if count = 0 ∨ 128 < count ∨ 1 < area ∨ 2 ^ 14 ≤ first then s.finish cmd St.badField
    else if area = 1 then
      let rs := (s.areas.cast.drop first).take count
      let ds := rs.flatMap EventRec.dwords
      (s.send (.hostBuf cmd (ds ++ List.replicate (8 * count - ds.length) 0))).finish cmd St.ok rs.length
    else
      let passed := (s.bank c.fn).behind
      let (rs, t) := State.takeRound count c.fn (s.catchUp c.fn)
      let ds := rs.flatMap EventRec.dwords
      (t.send (.hostBuf cmd (ds ++ List.replicate (8 * count - ds.length) 0))).finish cmd St.ok (rs.length + 2 ^ 31 * b2n passed))

/-- EVENT_ROUND_CLEAR: C5h clears every round record up to the newest and completes when the round sectors are erased (R478). -/
def execEventRoundClear (cmd arg : Nat) (s : State) : Host.Outcome State Fault Refusal :=
  onVendor s cmd .installer (fun c =>
    if arg ≠ 1 then s.finish cmd St.badField
    else ((s.noteGated 0xC5 arg c.fn).roundClear c.fn).updCmd cmd (fun k => { k with phase := .waitStore }))

end Sys2Proof.Machine
end

