-- ==== Sys2Proof/Machine/Queue.lean ====
section
/-! DEFINITION. Queues, fetch, command slots, stitches, the interlock table, completions and the controller's enable, reset and
shutdown (R97 to R127, R502 to R505). -/

namespace Sys2Proof.Machine

/-! ### Allotment (R97 to R99) -/

/-- The I/O queue pairs a function is allotted (R98). -/
def State.allot (s : State) (fn : Nat) : Nat :=
  let rest := 64510 - 1024 * s.q.vfio
  let p0 := if s.q.pf0io = 0 then (rest + 1) / 2 else Nat.min s.q.pf0io (rest - 1)
  if fn = 0 then p0 else if fn = 1 then rest - p0 else s.q.vfio

/-- Queue pairs created, admin queues included (QEN_QUSE). -/
def State.pairsUsed (s : State) : Nat := sumNat (s.fns.map (fun p => p.2.sqs.length))

/-! ### Doorbells (R100, R118) -/

/-- An invalid doorbell write: ignored, logged, counted, and reported to an outstanding request (R100). -/
def State.badDoorbell (s : State) (fn qid reason : Nat) (cq : Bool) : State :=
  let t := (s.setFld F.qenErrlogFunc fn).setFld F.qenErrlogReason reason
  let t := (t.putFlag F.qenErrlogCq cq).setFld F.qenErrlogQid qid
  let t := (t.setFlag F.qenStatDberrseen).qenCnt 15
  if (t.func fn).aers.isEmpty then t else t.asyncEvent fn 0 (if reason = 0 then 0 else 1) 1

/-- The reason a tail doorbell is invalid, if it is: the lowest that applies. -/
def Sq.badTail (q : Option Sq) (v : Nat) : Option Nat :=
  match q with
  | none => some 0
  | some q =>
    if q.size ≤ v then some 1
    else if (q.head + 2 * q.size - q.tail - 1) % q.size < (v + q.size - q.tail) % q.size then some 2
    else none

/-- A submission-queue tail doorbell. A command submitted to a controller in a non-operational state returns it to its last operational
state (R365). -/
def State.sqDoorbell (s : State) (fn qid v : Nat) : State :=
  let f := s.func fn
  match Sq.badTail (Tab.find qid f.sqs) v with
  | some r => s.badDoorbell fn qid r false
  | none =>
    let moved := decide (3 ≤ f.psel) && (Tab.find qid f.sqs).any (fun q => decide (q.tail ≠ v))
    (s.setFunc fn { f with sqs := Tab.upd qid (fun q => { q with tail := v }) f.sqs, psel := if moved then f.plast else f.psel }).applyPs

/-- SQ_TAIL_DOORBELL_WRITE (R100). -/
def execSqTailDoorbellWrite (fn qid val : Nat) (s : State) : Host.Outcome State Fault Refusal :=
  guarded (decide (fn < 1026)) .outOfRange (s.sqDoorbell fn qid val)

/-- The reason a head doorbell is invalid, if it is. -/
def Cq.badHead (q : Option Cq) (v : Nat) : Option Nat :=
  match q with
  | none => some 0
  | some q =>
    if q.size ≤ v then some 1
    else if q.entries.length < (v + q.size - q.head) % q.size then some 3
    else none

/-! ### Posting completions (R117 to R119) -/

/-- The histogram bucket of a latency in ns (R127). -/
def latencyBucket (ns : Nat) : Nat := Nat.min 31 (Nat.log2 (ns / 1000))

/-- The interrupt of a completion queue: coalesced under features 08h and 09h, or raised at once (R119). -/
def State.cqInterrupt (s : State) (fn cq : Nat) : State :=
  let f := s.func fn
  match Tab.find cq f.cqs with
  | none => s
  | some q =>
    match q.vec with
    | none => s
    | some v =>
      let ic := Tab.getD 0x08 0 f.feats
      let off := decide (ic / 256 % 256 = 0) || (Tab.getD (0x09 + 256 * v) 0 f.feats).testBit 16 || decide (cq = 0)
      if off then s.raise fn v
      else if ic % 256 < q.merged + 1 then
        ((s.setFunc fn { f with cqs := Tab.put cq { q with merged := 0 } f.cqs }).cancel (.intAggregation fn cq)).raise fn v
      else
        let t := s.setFunc fn { f with cqs := Tab.put cq { q with merged := q.merged + 1 } f.cqs }
        (if q.merged = 0 then t.arm (.intAggregation fn cq) (nsUs (100 * (ic / 256 % 256))) else t.qenCnt 25)

/-- A finished command's entry written to its queue; its slot is freed (R117, R105). -/
def State.postEntry (s : State) (c cq : Nat) (k : Cmd) (st : Status) (dw0 : Nat) : State :=
  let f := s.func k.fn
  let sqhd := ((Tab.find k.sq f.sqs).map (·.fetch)).getD 0
  let e : Cqe := ⟨k.sqe.cid, k.sq, sqhd, st, dw0⟩
  let f := { f with sqs := Tab.upd k.sq (fun q => { q with head := sqhd }) f.sqs,
                    cqs := Tab.upd cq (fun q => { q with tail := (q.tail + 1) % Nat.max 1 q.size, entries := q.entries ++ [e] }) f.cqs }
  let t := (s.setFunc k.fn f).send (.cqe k.fn cq e)
  let t := { t with q := { t.q with cmds := Tab.del c t.q.cmds, finishOrder := t.q.finishOrder.filter (· ≠ c) } }
  let t := (t.qenCnt 2).linkUse (portOf k.fn)
  let t := if st.isOk then t else t.qenCnt 22
  let t := if st.sct = 0 ∧ st.sc = 0x20 then t.qenCnt 23 else t
  let t := if k.admin then t else t.addSat (F.qenHistCount (latencyBucket (t.clk.mono - k.accepted))) 1
  t.cqInterrupt k.fn cq

/-- Whether a completion queue is full: one entry always stays free. -/
def Cq.isFull (q : Cq) : Bool := decide (q.size ≤ q.entries.length + 1)

/-- A finished command's entry posted, or held while its queue is full or holds older ones (R117, R118). -/
def State.post (s : State) (c : Nat) : State :=
  match s.cmd c with
  | none => s
  | some k =>
    match k.phase with
    | .finished st dw0 =>
      let f := s.func k.fn
      let cq := ((Tab.find k.sq f.sqs).map (·.cq)).getD 0
      match Tab.find cq f.cqs with
      | none => { s with q := { s.q with cmds := Tab.del c s.q.cmds, finishOrder := s.q.finishOrder.filter (· ≠ c) } }
      | some q =>
        if q.held.contains c then s
        else if q.isFull || !q.held.isEmpty || !f.bme then
          let t := s.setFunc k.fn { f with cqs := Tab.put cq { q with held := q.held ++ [c] } f.cqs }
          if q.isFull then (t.setFlag F.qenStatCqheldseen).qenCnt 14 else t
        else s.postEntry c cq k st dw0
    | _ => s

/-- Up to `n` held entries of a queue posted, oldest-finished first (R118). -/
def State.postHeld : Nat → Nat → Nat → State → State
  | 0, _, _, s => s
  | n + 1, fn, cq, s =>
    let f := s.func fn
    match Tab.find cq f.cqs with
    | none => s
    | some q =>
      match q.held with
      | [] => s
      | c :: rest =>
        if q.isFull || !f.bme then s
        else
          let t := s.setFunc fn { f with cqs := Tab.put cq { q with held := rest } f.cqs }
          match t.cmd c with
          | some k => match k.phase with
            | .finished st dw0 => State.postHeld n fn cq (t.postEntry c cq k st dw0)
            | _ => State.postHeld n fn cq t
          | none => State.postHeld n fn cq t

/-- A completion-queue head doorbell: entries are freed, then held completions posted (R100, R118). -/
def State.cqDoorbell (s : State) (fn qid v : Nat) : State :=
  let f := s.func fn
  match Cq.badHead (Tab.find qid f.cqs) v, Tab.find qid f.cqs with
  | some r, _ => s.badDoorbell fn qid r true
  | none, some q =>
    let n := (v + q.size - q.head) % q.size
    let t := s.setFunc fn { f with cqs := Tab.put qid { q with head := v, entries := q.entries.drop n } f.cqs }
    State.postHeld (q.held.length) fn qid t
  | none, none => s

/-- CQ_HEAD_DOORBELL_WRITE (R118). -/
def execCqHeadDoorbellWrite (fn qid val : Nat) (s : State) : Host.Outcome State Fault Refusal :=
  guarded (decide (fn < 1026)) .outOfRange (s.cqDoorbell fn qid val)

/-- INTERRUPT_AGGREGATION_TIMEOUT: the vector is raised for the completions merged so far (R119). -/
def execInterruptAggregationTimeout (fn cq : Nat) (s : State) : Host.Outcome State Fault Refusal :=
  onTimer s (.intAggregation fn cq) (fun t =>
    let f := t.func fn
    match Tab.find cq f.cqs with
    | none => t
    | some q =>
      let u := t.setFunc fn { f with cqs := Tab.put cq { q with merged := 0 } f.cqs }
      match q.vec with
      | some v => u.raise fn v
      | none => u)

/-- MSIX_VECTOR_UNMASK: a vector with pending state sends its message (R119). -/
def State.unmaskVector (s : State) (fn vec : Nat) : State :=
  let f := s.func fn
  let f' := { f with unmasked := insertNew vec f.unmasked }
  if f.pend.contains vec && f.msixEn && !f.msixMaskAll && f.bme then
    ((s.setFunc fn { f' with pend := f.pend.filter (· ≠ vec) }).send (.msix fn vec)).qenCnt 24
  else s.setFunc fn f'

/-- MSIX_VECTOR_UNMASK. -/
def execMsixVectorUnmask (fn vec : Nat) (s : State) : Host.Outcome State Fault Refusal :=
  guarded (decide (fn < 1026) && decide (vec < if isPf fn then 2048 else 64)) .outOfRange (s.unmaskVector fn vec)

/-! ### Command slots and fetch (R101 to R105) -/

/-- A function's commands in slots: all, and admin. -/
def State.slotsOf (s : State) (fn : Nat) : Nat × Nat :=
  let mine := s.q.cmds.filter (fun p => decide (p.2.fn = fn) && !p.2.dropped)
  (mine.length, (mine.filter (fun p => p.2.admin)).length)

/-- Slots of the shared pool in use (R105): what each function holds above its reserve. -/
def State.poolUsed (s : State) : Nat := sumNat (s.allFuncs.map (fun i => (s.slotsOf i).1 - s.q.res))

/-- How many more commands a function has slots for (R105); two of its reserve stay with its admin queue. -/
def State.slotsFree (s : State) (fn : Nat) (admin : Bool) : Nat :=
  let (n, a) := s.slotsOf fn
  let pool := Nat.min (262144 - 1026 * s.q.res - s.poolUsed) (16 * s.q.cap - Nat.max n s.q.res)
  if admin then Nat.max (2 - a) (s.q.res - n) + pool else (s.q.res - 2 - (n - Nat.min a 2)) + pool

/-- Entries of a queue not yet asked for. -/
def Sq.waiting (q : Sq) : Nat := (q.tail + 2 * q.size - q.fetch - q.asked) % Nat.max 1 q.size

/-- Whether a function may be fetched for. -/
def Func.fetchable (f : Func) : Bool := f.rdy && f.en && decide (f.shst = 0) && f.bme && decide (f.reset = .none)

/-- The first of a list that follows `last` in round-robin order. -/
def roundRobin (last : Nat) (l : List Nat) : Option Nat :=
  match l.find? (fun i => decide (last < i)) with
  | some i => some i
  | none => l.head?

/-- The queues of a function that have entries to fetch: admin, or I/O. -/
def Func.readyQueues (f : Func) (admin : Bool) : List Nat :=
  ((f.sqs.filter (fun p => decide (0 < p.2.waiting) && decide (p.2.deleting = none))).map (·.1)).filter (fun q => (q = 0) = admin)

/-- The functions a grant may go to. -/
def State.grantees (s : State) (admin : Bool) : List Nat :=
  s.allFuncs.filter (fun i => (s.func i).fetchable && !((s.func i).readyQueues admin).isEmpty && decide (0 < s.slotsFree i admin))

/-- A function's weight in a round (R103). -/
def State.weight (s : State) (fn : Nat) : Nat := if isPf fn then s.fld F.qenArbPfw else s.fld F.qenArbVfw

/-- The Arbitration feature of a function, with its default (R104). -/
def Func.arbitration (f : Func) : Nat := Tab.getD 0x01 0x07030003 f.feats

/-- The I/O queue a function's arbitration mechanism chooses (R104): round robin, or urgent first and then high, medium and low by
weighted round robin. -/
def State.chooseQueue (s : State) (fn : Nat) : Option (Nat × State) :=
  let f := s.func fn
  let qs := f.readyQueues false
  let last := Tab.getD fn 0 s.q.lastQ
  let ofPrio := fun (p : Nat) => qs.filter (fun q => ((Tab.find q f.sqs).map (·.prio)) = some p)
  let note := fun (t : State) (q : Nat) => ({ t with q := { t.q with lastQ := Tab.put fn q t.q.lastQ } } : State)
  if f.ams = 0 then (roundRobin last qs).map (fun q => (q, note s q))
  else
    match roundRobin last (ofPrio 0) with
    | some q => some (q, note s q)
    | none =>
      let a := f.arbitration
      let full := (a / 2 ^ 24 % 256 + 1, a / 2 ^ 16 % 256 + 1, a / 2 ^ 8 % 256 + 1)
      let cur := ((s.q.wrrLeft.find? (fun w => w.1 = fn)).map (·.2)).getD full
      let pick := fun (c : Nat × Nat × Nat) =>
        if 0 < c.1 ∧ !(ofPrio 1).isEmpty then some (1, (c.1 - 1, c.2.1, c.2.2))
        else if 0 < c.2.1 ∧ !(ofPrio 2).isEmpty then some (2, (c.1, c.2.1 - 1, c.2.2))
        else if 0 < c.2.2 ∧ !(ofPrio 3).isEmpty then some (3, (c.1, c.2.1, c.2.2 - 1))
        else none
      match (pick cur).orElse (fun _ => pick full) with
      | none => none
      | some (p, left) =>
        let t : State := { s with q := { s.q with wrrLeft := (fn, left) :: s.q.wrrLeft.filter (fun w => w.1 ≠ fn) } }
        (roundRobin last (ofPrio p)).map (fun q => (q, note t q))

/-- A tag of a port's pool for a new non-posted request, quarantined tags left out (R90). -/
def State.newTag (s : State) (p : Nat) : Nat × State :=
  let n := if p = 0 then s.hif.nextTag0 else s.hif.nextTag1
  let used := (s.hif.reqs.filter (fun r => r.port = p)).map (·.tag) ++ (s.hif.quar.filter (fun r => r.1 = p)).map (·.2)
  let tag := ((List.range (used.length + 1)).map (fun k => (n + k) % 16384)).find? (fun t => !(used.contains t)) |>.getD n
  let h := if p = 0 then { s.hif with nextTag0 := (tag + 1) % 16384 } else { s.hif with nextTag1 := (tag + 1) % 16384 }
  (tag, { s with hif := h })

/-- The completion timeout of a function in ns, if enabled (R88). -/
def Func.timeoutNs (f : Func) : Option Nat :=
  if f.ctoDis then none
  else some (match f.cto with
    | 1 => nsUs 80
    | 2 => nsMs 8
    | 5 => nsMs 40
    | 6 => nsMs 160
    | 9 => nsMs 700
    | 10 => nsMs 2800
    | 13 => nsSec 10
    | 14 => nsSec 50
    | _ => nsMs 30)

/-- A non-posted request sent: its tag, and its completion timeout armed (R88). -/
def State.request (s : State) (fn : Nat) (kind : NpKind) (obj len : Nat) : Nat × State :=
  let p := portOf fn
  let (tag, t) := s.newTag p
  let t := ({ t with hif := { t.hif with reqs := t.hif.reqs ++ [⟨p, tag, fn, kind, obj, len, false⟩] } } : State).send
    (.request p tag kind)
  let t := (t.hifCnt p 1).linkUse p
  (tag, match (t.func fn).timeoutNs with
    | some ns => t.arm (.completionTimeout p tag) ns
    | none => t)

/-- Fetch reads for `n` entries of a queue, at most min(8, MRRS / 64) to a read (R101). -/
def State.fetchReads : Nat → Nat → Nat → Nat → State → State
  | 0, _, _, _, s => s
  | k + 1, fn, qid, n, s =>
    if n = 0 then s
    else
      let m := Nat.min n (Nat.max 1 (Nat.min 8 ((s.func fn).mrrs / 64)))
      let (tag, t) := s.request fn .sqFetch qid (64 * m)
      let t := { t with q := { t.q with fetches := t.q.fetches ++ [({ fn := fn, qid := qid, tag := tag, num := m, got := none } : Fetch)] } }
      let t := t.updFunc fn (fun f => { f with sqs := Tab.upd qid (fun q => { q with asked := q.asked + m }) f.sqs })
      State.fetchReads k fn qid (n - m) t

/-- A grant to a queue: up to 2^AB entries, never more than the function has slots for (R101). -/
def State.grantQueue (s : State) (fn qid : Nat) : State :=
  let ab := (s.func fn).arbitration % 8
  let burst := if ab = 7 then 64 else 2 ^ ab
  let wait := ((Tab.find qid (s.func fn).sqs).map Sq.waiting).getD 0
  State.fetchReads 64 fn qid (Nat.min burst (Nat.min wait (s.slotsFree fn (qid = 0)))) s

/-- Grants withheld for want of slots: SLOTSEEN and the count (R105). -/
def State.withheld (s : State) : State :=
  if s.allFuncs.any (fun i => (s.func i).fetchable &&
      ((!((s.func i).readyQueues true).isEmpty && decide (s.slotsFree i true = 0)) ||
       (!((s.func i).readyQueues false).isEmpty && decide (s.slotsFree i false = 0)))) then
    (s.setFlag F.qenStatSlotseen).qenCnt 11
  else s

/-- FETCH_GRANT: admin queues first, round robin across functions; then I/O by weighted round robin across functions and the
function's own mechanism within it (R103, R104). With nothing to grant, nothing happens. -/
def execFetchGrant (s : State) : Host.Outcome State Fault Refusal :=
  let s := s.withheld
  if s.q.fetchStop then .next s
  else
    match roundRobin s.q.lastAdmin (s.grantees true) with
    | some fn => .next (({ s with q := { s.q with lastAdmin := fn } } : State).grantQueue fn 0)
    | none =>
      let gs := s.grantees false
      let left := gs.filter (fun i => decide ((s.func i).grants < s.weight i))
      let s := if left.isEmpty then gs.foldl (fun t i => t.updFunc i (fun f => { f with grants := 0 })) s else s
      match roundRobin s.q.lastIo (if left.isEmpty then gs else left) with
      | none => .next s
      | some fn =>
        let t : State := ({ s with q := { s.q with lastIo := fn } } : State).updFunc fn (fun f => { f with grants := f.grants + 1 })
        match t.chooseQueue fn with
        | some (q, t) => .next (t.grantQueue fn q)
        | none => .next t

/-! ### Interlock (R114, R115) -/

/-- A stitch entry for a range of a command, ready and ageing (R107, R110). -/
def State.addStitch (s : State) (c : Nat) (k : Cmd) (first count : Nat) : State :=
  let id := s.q.nextStitch
  let w := if k.sqe.opcode = 0x02 ∨ k.sqe.opcode = 0x05 ∨ k.sqe.opcode = 0x0C then 3 else 0
  let st : Stitch := ⟨c, first, count, k.level, .ready, 0, s.clk.mono, 0, [], w⟩
  let t := { s with q := { s.q with stitches := Tab.put id st s.q.stitches, nextStitch := id + 1 } }
  ((t.updCmd c (fun k => { k with nextCut := first + count })).arm (.stitchAging id) (nsMs (s.fld F.qenAgeAgems))).qenCnt 3

/-- Whether a further stitch entry is free: one is kept in reserve for each command slot (R107). -/
def State.entryFree (s : State) (c : Nat) : Bool :=
  let mine := s.q.stitches.any (fun p => p.2.cmd = c)
  !mine || decide (s.q.stitches.length + (262144 - s.q.cmds.length) < 1048576)

/-- Up to `n` further stitches of a command cut at each multiple of 64 LBAs (R106, R107). -/
def State.cutStitches : Nat → Nat → State → State
  | 0, _, s => s
  | n + 1, c, s =>
    match s.cmd c with
    | none => s
    | some k =>
      if k.endCut ≤ k.nextCut then s
      else if s.entryFree c then
        State.cutStitches n c (s.addStitch c k k.nextCut (Nat.min k.endCut (nextMultiple stitchSpan k.nextCut) - k.nextCut))
      else (s.setFlag F.qenStatStitchseen).qenCnt 13

/-- The conflicting entries of earlier commands that a later entry waits for before map resolution: a read for an earlier write that
is not fully buffered, or that buffers no data (R115). -/
def State.earlierWrites (s : State) (c : Nat) : List Lock :=
  let mine := s.q.locks.filter (fun l => l.cmd = c && !l.write)
  s.q.locks.filter (fun l => l.write && decide (l.cmd < c) && mine.any (fun m => m.conflicts l) &&
    (!l.data || !((s.cmd l.cmd).any (·.buffered))))

/-- A stitch parked for a reason (R111): it gives up its resource and keeps its slot, entries and pins. -/
def State.park (s : State) (id reason : Nat) : State :=
  let t := { s with q := { s.q with stitches := Tab.upd id (fun x => { x with phase := .parked reason }) s.q.stitches } }
  let t := (t.cancel (.stitchAging id)).qenCnt 5
  if reason = 0 then
    match Tab.find id s.q.stitches with
    | some x => t.hifCnt (portOf (((s.cmd x.cmd).map (·.fn)).getD 0)) 10
    | none => t
  else t

/-- Every ready stitch of a command parked for a reason. -/
def State.parkAll (s : State) (c reason : Nat) : State :=
  (s.q.stitches.filter (fun p => decide (p.2.cmd = c) && decide (p.2.phase = .ready))).foldl (fun t p => t.park p.1 reason) s

/-- A command begins once its entries are in the table: its stitches are cut; a read that must wait for an earlier write parks its
stitches under reason 2 (R106, R111, R115). -/
def State.begin (s : State) (c : Nat) : State :=
  let t := s.updCmd c (fun k => { k with phase := .active })
  let t := State.cutStitches 64 c t
  if (t.earlierWrites c).isEmpty then t else (t.parkAll c 2).qenCnt 7

/-- Whether a waiting command's entries fit, none with a lower fetch number waiting before it (R114). -/
def State.mayLock (s : State) (c n : Nat) : Bool :=
  decide (s.q.locks.length + n ≤ 131072) &&
    !(s.q.cmds.any (fun p => decide (p.1 < c) && decide (p.2.phase = .waitLock)))

/-- An I/O command takes its entries, or waits for them with ILKSEEN set (R114). -/
def State.admitLock (s : State) (c : Nat) : State :=
  match s.cmd c with
  | none => s
  | some k =>
    let ls := k.sqe.locks c (((Tab.find k.sqe.nsid s.nss).map (·.compress)).getD false)
    if s.mayLock c ls.length then ({ s with q := { s.q with locks := s.q.locks ++ ls } } : State).begin c
    else ((s.updCmd c (fun k => { k with phase := .waitLock })).setFlag F.qenStatIlkseen).qenCnt 12

/-- INTERLOCK_ADMIT: waiting commands take their entries in fetch-number order while they fit (R114). -/
def execInterlockAdmit (s : State) : Host.Outcome State Fault Refusal :=
  .next (((s.q.cmds.filter (fun p => decide (p.2.phase = .waitLock))).map (·.1)).foldl (fun t c =>
    match t.cmd c with
    | some k =>
      let ls := k.sqe.locks c (((Tab.find k.sqe.nsid t.nss).map (·.compress)).getD false)
      if t.mayLock c ls.length then ({ t with q := { t.q with locks := t.q.locks ++ ls } } : State).begin c else t
    | none => t) s)

/-- STITCH_CUT: as entries free, further stitches are cut in fetch-number order across commands (R107). -/
def execStitchCut (s : State) : Host.Outcome State Fault Refusal :=
  .next ((s.q.cmds.filter (fun p => decide (p.2.phase = .active))).foldl (fun t p => State.cutStitches 64 p.1 t) s)

/-! ### Acceptance (R102, R105) -/

/-- The level of a command's stitches (R108). -/
def Func.levelOf (f : Func) (qid : Nat) : Nat :=
  if qid = 0 then 1
  else if f.ams = 0 then 4
  else 2 + ((Tab.find qid f.sqs).map (·.prio)).getD 2

/-- A command accepted into a slot with the next fetch number (R102). -/
def State.accept (s : State) (fn qid : Nat) (e : Sqe) : State :=
  let c := s.q.lastFetch + 1
  let r := e.stitchRange
  let admin := decide (qid = 0)
  let k : Cmd := { fn := fn, sq := qid, admin := admin, sqe := e, accepted := s.clk.mono, level := (s.func fn).levelOf qid,
                   phase := .active, nextCut := r.1, endCut := r.2, doneSlots := 0, failure := none, dropped := false,
                   buffered := false, exposed := false,
                   cmpEn := ((Tab.find e.nsid s.nss).map (·.compress)).getD false, badLba := none }
  let t := { s with q := { s.q with lastFetch := c, cmds := Tab.put c k s.q.cmds } }
  let t := t.updFunc fn (fun f => { f with sqs := Tab.upd qid (fun q =>
    { q with fetch := (q.fetch + 1) % Nat.max 1 q.size, asked := q.asked - 1, tmouts := 0 }) f.sqs })
  let t := if admin then (t.qenCnt 1).touch fn else t.qenCnt 0
  if e.needsLock admin then t.admitLock c else t.begin c

/-- Fetch reads of a queue whose entries have arrived in order are accepted, oldest first (R101). -/
def State.acceptArrived : Nat → Nat → Nat → State → State
  | 0, _, _, s => s
  | n + 1, fn, qid, s =>
    match s.q.fetches.find? (fun f => decide (f.fn = fn) && decide (f.qid = qid)) with
    | none => s
    | some f =>
      match f.got with
      | none => s
      | some es =>
        let t := { s with q := { s.q with fetches := s.q.fetches.erase f } }
        State.acceptArrived n fn qid (es.foldl (fun u e => u.accept fn qid e) t)

/-- SUBMISSION_FETCH_COMPLETE: the entries of a fetch read arrive, win against its timeout, and are accepted in queue order. -/
def execSubmissionFetchComplete (port tag : Nat) (entries : List Sqe) (s : State) : Host.Outcome State Fault Refusal :=
  match s.q.fetches.find? (fun f => decide (f.tag = tag) && decide (portOf f.fn = port) && decide (f.got = none)) with
  | none => .fault .noSuchObject
  | some f =>
    if entries.length ≠ f.num then .fault .outOfRange
    else
      let t := s.cancel (.completionTimeout port tag)
      let t := { t with hif := { t.hif with reqs := t.hif.reqs.filter (fun r => !(decide (r.port = port) && decide (r.tag = tag))) },
                        q := { t.q with fetches := t.q.fetches.map (fun g => if g = f then { g with got := some entries } else g) } }
      .next (State.acceptArrived (t.q.fetches.length) f.fn f.qid t)

/-! ### Resources and levels (R108 to R112) -/

/-- Whether one waiting item goes before another: the lower level, then the lower number. -/
def before (a b : Nat × Nat) : Bool := decide (a.1 < b.1) || (decide (a.1 = b.1) && decide (a.2 < b.2))

/-- The ready stitch a freed resource goes to (R108). -/
def State.firstReady (s : State) (res : Nat) : Option (Nat × Stitch) :=
  (s.q.stitches.filter (fun p => decide (p.2.phase = .ready) && decide (p.2.want = res))).foldl (fun best p =>
    match best with
    | none => some p
    | some b => if before (p.2.level, p.2.cmd) (b.2.level, b.2.cmd) then some p else some b) none

/-- The internal work waiting for a resource that goes first. -/
def State.firstInternal (s : State) (res : Nat) : Option IntWork :=
  (s.q.internal.filter (fun w => w.res = res)).foldl (fun best w =>
    match best with
    | none => some w
    | some b => if before (w.level, w.since) (b.level, b.since) then some w else some b) none

/-- A freed resource: it goes to the lowest level and, within it, the lowest fetch number; internal work of an equal level
comes after host stitches. The stitch it went to, if one. Grants ahead of an older stitch of a higher level number are counted (R108, R127). -/
def State.grantResource (s : State) (res : Nat) : Option Nat × State :=
  match s.firstReady res, s.firstInternal res with
  | none, none => (none, s)
  | some (id, st), w =>
    if w.any (fun w => decide (w.level < st.level)) then
      (none, { s with q := { s.q with internal := s.q.internal.filter (fun x => some x ≠ w) } })
    else
      let older := s.q.stitches.any (fun p => decide (p.2.phase = .ready) && decide (p.2.want = res) &&
        decide (p.2.cmd < st.cmd) && decide (st.level < p.2.level))
      let t := { s with q := { s.q with stitches := Tab.put id { st with phase := .running res } s.q.stitches } }
      let t := t.cancel (.stitchAging id)
      (some id, if older then t.qenCnt 4 else t)
  | none, some w => (none, { s with q := { s.q with internal := s.q.internal.filter (fun x => x ≠ w) } })

/-- STITCH_AGING_EXPIRY: a ready host stitch rises one level for each AGEMS it waits, up to level 2 (R110). -/
def execStitchAgingExpiry (stitch : Nat) (s : State) : Host.Outcome State Fault Refusal :=
  onTimer s (.stitchAging stitch) (fun t =>
    match Tab.find stitch t.q.stitches with
    | none => t
    | some x =>
      if x.phase = .ready ∧ 2 < x.level then
        let u := { t with q := { t.q with stitches := Tab.put stitch { x with level := x.level - 1 } t.q.stitches } }
        (if 3 < x.level then u.arm (.stitchAging stitch) (nsMs (t.fld F.qenAgeAgems)) else u).qenCnt 16
      else t)

/-- LEVEL6_STARVATION: internal work that has waited 1 s at level 6 takes level 5 for one grant (R505). -/
def execLevel6Starvation (res : Nat) (s : State) : Host.Outcome State Fault Refusal :=
  match s.q.internal.find? (fun w => decide (w.res = res) && decide (w.level = 6) && decide (w.since + 1000000000 ≤ s.clk.mono)) with
  | some w => .next { s with q := { s.q with internal := s.q.internal.map (fun x => if x = w then { x with level := 5 } else x) } }
  | none => .next s

/-- Whether a command has finished and its entry is not posted. -/
def State.isFinished (s : State) (c : Nat) : Bool := s.q.finishOrder.contains c

/-- A Delete I/O SQ whose queue has no command left deletes it and finishes (R124). -/
def State.settleDeletes (s : State) : State :=
  s.fns.foldl (fun t p => p.2.sqs.foldl (fun u q =>
    match q.2.deleting with
    | some c =>
      if u.q.cmds.any (fun k => decide (k.2.fn = p.1) && decide (k.2.sq = q.1) && !k.2.dropped) then u
      else (u.updFunc p.1 (fun f => { f with sqs := Tab.del q.1 f.sqs })).finish c St.ok
    | none => u) t) s

/-- COMPLETION_POST: a finished command's entry is posted, or held while its queue is full; deletions of queues that waited for it go
on (R117, R118, R124). -/
def execCompletionPost (cmd : Nat) (s : State) : Host.Outcome State Fault Refusal :=
  guarded (s.isFinished cmd) .noSuchObject ((s.post cmd).settleDeletes)

/-- The commit that a Flush or a shutdown waits for (R120, R122): of the open group, or of the last closed one not yet committed. -/
def State.awaited (s : State) : Option Nat :=
  match s.lif.openGroup with
  | some g => some g.num
  | none => if s.lif.committed < s.lif.closed then some s.lif.closed else none

/-- Whether a command names a namespace attached to its controller, or every namespace. -/
def State.namesNs (s : State) (k : Cmd) : Bool :=
  decide (k.sqe.nsid = 0xFFFFFFFF) || ((Tab.find k.sqe.nsid s.nss).isSome && (s.func k.fn).nss.contains k.sqe.nsid)

/-- FLUSH: completes after the open group's commit, or every closed group's, or at once if none waits (R120). -/
def execFlush (cmd : Nat) (s : State) : Host.Outcome State Fault Refusal :=
  onIo s cmd 0x00 (fun k =>
    if !s.namesNs k then s.fail cmd St.badNamespace
    else match s.awaited with
      | some g => s.updCmd cmd (fun k => { k with phase := .waitGroup g })
      | none => (s.finish cmd St.ok).qenCnt 17)

/-! ### Ends of commands at resets (R121) -/

/-- The slots of a write that survive a reset: those of its atomic units that are fully buffered (R121, R137). -/
def State.keptUnits (s : State) (c : Nat) (k : Cmd) : List Nat :=
  ((pieces unitSpan k.sqe.slba (k.endCut - k.sqe.slba)).filter (fun p =>
    decide (((s.buf.slots.filter (fun b => decide (b.2.cmd = c) && covers p.1 p.2 b.2.lba)).length) = p.2))).map (·.1 / unitSpan)

/-- A command of a function that a reset reaches (R121): reads end; a write keeps the atomic units that are fully buffered and goes on
without a completion; the rest of its buffered slots are discarded; Format and Sanitize continue. -/
def State.endCommand (s : State) (c : Nat) : State :=
  match s.cmd c with
  | none => s
  | some k =>
    let gone := fun (t : State) =>
      ({ (t.dropStitches c).unlock c with
          q := { ((t.dropStitches c).unlock c).q with
            cmds := Tab.del c t.q.cmds, finishOrder := t.q.finishOrder.filter (· ≠ c) } } : State)
    let t := s.qenCnt 20
    let op := k.sqe.opcode
    if !k.admin && (op = 0x01 || op = 0x08 || op = 0x19) then
      let keep := s.keptUnits c k
      let done := match k.phase with | .finished _ _ => true | _ => false
      let bs := if k.buffered || done then t.buf.slots
        else t.buf.slots.filter (fun b => !(decide (b.2.cmd = c) && !(keep.contains (b.2.lba / unitSpan)) && !b.2.applied))
      let t : State := { t with buf := { t.buf with slots := bs } }
      if bs.any (fun b => decide (b.2.cmd = c) && !b.2.applied) then
        let t := t.dropStitches c
        let t := t.updCmd c (fun k => { k with dropped := true, buffered := true, phase := .active })
        { t with q := { t.q with finishOrder := t.q.finishOrder.filter (· ≠ c) } }
      else gone t
    else if k.admin && op = 0x80 then gone { t with adm := { t.adm with format := { t.adm.format with cmd := none } } }
    else gone t

/-- Every command of a function ended as by a controller reset; its fetches and outstanding requests are abandoned. -/
def State.endCommands (s : State) (fn : Nat) : State :=
  let t := ((s.q.cmds.filter (fun p => decide (p.2.fn = fn) && !p.2.dropped)).map (·.1)).foldl (fun t c => t.endCommand c) s
  { t with q := { t.q with fetches := t.q.fetches.filter (fun f => f.fn ≠ fn) } }

/-- The feature values and the power state that a controller takes at its reset: the saved ones (R145, R365). -/
def State.takeSaved (s : State) (f : Func) : Func :=
  let p := Tab.getD 0x02 0 s.adm.saved
  { f with feats := s.adm.saved, psel := p, plast := if p ≤ 2 then p else 0 }

/-- The staging area emptied. -/
def State.fwDiscard (s : State) : State :=
  (({ s with fwu := { s.fwu with stage := [], owner := none } } : State).setFld F.fwuStageBlocks 0).setFld F.fwuStageFunc 0

/-- The download that a function owns goes with the function's reset (R412). -/
def State.dropDownload (s : State) (fn : Nat) : State := if s.fwu.owner = some fn then s.fwDiscard else s

/-- A controller reset (CC.EN 1 to 0): commands end without completion, queues go, pending messages are discarded, configuration space
stays, the PF's session ends (R83, R121, R450). -/
def State.ctrlReset (s : State) (fn : Nat) : State :=
  let t := (s.endCommands fn).dropDownload fn
  let f := t.func fn
  let f := { f with sqs := [], cqs := [], aers := [], aens := [], aenMask := [], pend := [], errors := [], qgrant := none, en := false,
                    enWait := false, rdy := false, shn := 0, shst := 0, shnGroup := none, grants := 0,
                    nvme := f.nvme.filter (fun p => decide (9 ≤ p.1) && decide (p.1 ≤ 13)) }
  let t := (t.setFunc fn (t.takeSaved f)).qenCnt 18
  (if isPf fn then t.endSession fn 3 else t).applyPs

/-- The cold start has loaded a slot: the supervisor runs (R495). -/
def State.started (s : State) : Bool := s.flag F.fwuSlotRunning

/-- The committed image. -/
def State.committedImage (s : State) : List FwPart := if s.fld F.fwuSlotCommitted = 2 then s.fwu.slot2 else s.fwu.slot1

/-- The parts running now. -/
def State.runningImage (s : State) : List FwPart := if s.fwu.running.isEmpty then s.committedImage else s.fwu.running

/-- The counter of a part ID. -/
def State.svnOf (s : State) (id : Nat) : Nat := s.fld (F.fwuSvnSvn (id - 1))

/-- The counters of an image raised to its security versions. -/
def State.raiseSvn (s : State) (img : List FwPart) : State :=
  img.foldl (fun t p => if t.svnOf p.id < p.svn then t.setFld (F.fwuSvnSvn (p.id - 1)) p.svn else t) s

/-- The anti-rollback counters raised to the running image's security versions, and recorded (R418). -/
def State.raiseRunning (s : State) : State :=
  if s.runningImage.all (fun p => decide (p.svn ≤ s.svnOf p.id)) then s
  else (s.raiseSvn s.runningImage).cfsRequest 3 (.counterRec (s.runningImage.map (·.svn))) 2

/-- A controller's admin queues created and CSTS.RDY set, once nothing holds it: the start and its recovery, a failed start (R84, R319,
R433). -/
def State.becomeReady (s : State) (fn : Nat) : State :=
  let f := s.func fn
  if !s.started || f.cfs then s.setFunc fn { f with enWait := true, en := true }
  else
    let sq : Sq := ⟨f.aqa.1, 0, 0, 0, 0, 0, false, 0, 0, none⟩
    let cq : Cq := ⟨f.aqa.2, 0, 0, some 0, [], [], 0⟩
    (s.setFunc fn { f with en := true, enWait := false, rdy := true, shst := 0, sqs := Tab.put 0 sq f.sqs, cqs := Tab.put 0 cq f.cqs }).raiseRunning.applyPs

/-- CONTROLLER_RESET (R121): a controller that is not enabled has nothing to reset; an enable that still waits goes with it. -/
def execControllerReset (fn : Nat) (s : State) : Host.Outcome State Fault Refusal :=
  let f := s.func fn
  guarded (decide (fn < 1026)) .outOfRange (if f.en || f.enWait then s.ctrlReset fn else s)

/-- CC.EN written from 0 to 1: the admin queues are created and CSTS.RDY set, after a shutdown or reset in progress (R84, R87). -/
def State.ctrlEnable (s : State) (fn ams asqSize acqSize : Nat) : State :=
  let f := s.func fn
  let t := s.setFunc fn { f with ams := ams, aqa := (asqSize, acqSize) }
  if f.rdy && f.en && decide (f.shst = 0) then s
  else if f.shst = 1 || decide (f.reset ≠ .none) then t.updFunc fn (fun f => { f with enWait := true })
  else t.becomeReady fn

/-- CONTROLLER_ENABLE (R84, R87). An admin queue holds 2 to 4,096 entries (R99). -/
def execControllerEnable (fn ams asqSize acqSize : Nat) (s : State) : Host.Outcome State Fault Refusal :=
  guarded (decide (fn < 1026) && decide (2 ≤ asqSize) && decide (asqSize ≤ 4096) && decide (2 ≤ acqSize) && decide (acqSize ≤ 4096))
    .outOfRange (s.ctrlEnable fn ams asqSize acqSize)

/-- CC.SHN written: 01b stops fetch, accepted commands complete, and the commit of R120 is awaited; 10b ends the accepted commands as a
controller reset does, and the commit is awaited (R122). A shutdown that runs or has ended takes no other. -/
def State.shutdown (s : State) (fn shn : Nat) : State :=
  if (s.func fn).shst = 0 then
    let t := if shn = 2 then s.endCommands fn else s
    t.updFunc fn (fun f => { f with shn := shn, shst := 1, shnGroup := s.awaited })
  else s

/-- SHUTDOWN_NORMAL (R122). -/
def execShutdownNormal (fn : Nat) (s : State) : Host.Outcome State Fault Refusal := guarded (decide (fn < 1026)) .outOfRange (s.shutdown fn 1)

/-- SHUTDOWN_ABRUPT (R122). -/
def execShutdownAbrupt (fn : Nat) (s : State) : Host.Outcome State Fault Refusal := guarded (decide (fn < 1026)) .outOfRange (s.shutdown fn 2)

/-- Whether a function's shutdown work is done: no accepted command left but Asynchronous Event Requests, which wait for an event, and the
awaited group committed. -/
def State.shutdownDone (s : State) (fn : Nat) : Bool :=
  let f := s.func fn
  decide (f.shst = 1) && !(s.q.cmds.any (fun p => decide (p.2.fn = fn) && !p.2.dropped && !(p.2.admin && decide (p.2.sqe.opcode = 0x0C)))) &&
    (f.shnGroup.all (fun g => decide (g ≤ s.lif.committed)))

/-- SHUTDOWN_COMPLETE: CSTS.SHST reads 10b; an enable that waited for it begins (R87, R122). CSTS.SHST holds during a switch-over (R354). -/
def execShutdownComplete (fn : Nat) (s : State) : Host.Outcome State Fault Refusal :=
  let t := (s.updFunc fn (fun f => { f with shst := 2 })).qenCnt 19
  guarded (s.shutdownDone fn) .noSuchObject
    (if s.sup.yielded.isSome then s else if (s.func fn).enWait then t.becomeReady fn else t.applyPs)

end Sys2Proof.Machine
end

