-- ==== Sys2Proof/Machine/Journal.lean ====
section
/-! DEFINITION. Physical slot addresses, the encodings of map entries and lifeline records, batches and commit groups
(R159 to R161, R257 to R262). -/

namespace Sys2Proof.Machine

/-! ### Physical slot addresses (R159) -/

/-- The PSA of a slot. -/
def psaOf (die block page slot : Nat) : Nat := die * 2 ^ 27 + block * 2 ^ 15 + page * 4 + slot

/-- The block number of a PSA: die × 4,096 + block. -/
def psaBlk (p : Nat) : Nat := p / 2 ^ 15

/-- The slot of a PSA within its block, in PSA order. -/
def psaSlot (p : Nat) : Nat := p % 2 ^ 15

/-- DIE of a PSA. -/
def psaDie (p : Nat) : Nat := p / 2 ^ 27

/-- BLOCK of a PSA. -/
def psaBlock (p : Nat) : Nat := p / 2 ^ 15 % 4096

/-- PAGE of a PSA. -/
def psaPage (p : Nat) : Nat := p / 4 % 8192

/-- The block number of a block of a die. -/
def blkId (die block : Nat) : Nat := die * 4096 + block

/-! ### Encodings (R160, R161, R257, R258) -/

/-- A coarse entry as its 48 bits. -/
def CEntry.encode : CEntry → Nat
  | .coarse a => a % 2 ^ 40
  | .overlay i => 2 ^ 46 + i % 2 ^ 40
  | .frame a n => 2 ^ 47 + n % 16 * 2 ^ 42 + a % 2 ^ 40
  | .unwritten => 3 * 2 ^ 46

/-- A fine entry as its 48 bits. -/
def FEntry.encode : FEntry → Nat
  | .mapped p => p % 2 ^ 40
  | .marked => 2 ^ 46
  | .unwritten => 3 * 2 ^ 46

/-- Fields packed from bit 0 upward: (value, width). -/
def packBits : List (Nat × Nat) → Nat
  | [] => 0
  | (v, w) :: rest => v % 2 ^ w + 2 ^ w * packBits rest

/-- The code of a course's W (R258). -/
def wCode (w : Nat) : Nat := if w = 16 then 0 else if w = 32 then 1 else 2

/-- TYPE and the 192-bit payload of a record. -/
def Rec.payload : Rec → Nat × Nat
  | .mapSet e c => (1, packBits [(e, 34), (c.encode, 48)])
  | .mapFine e i f => (2, packBits [(e, 34), (i, 4), (f.encode, 48)])
  | .dealloc e n m => (3, packBits [(e, 34), (n, 32), (m, 16)])
  | .courseOpen q p d b w p2 slc band h =>
    (4, packBits [(q, 48), (p, 6), (d, 13), (b, 12), (wCode w, 2), (b2n p2, 1), (b2n slc, 1), (band, 3), (h, 4)])
  | .courseClose q r e d => (5, packBits [(q, 48), (r, 12), (b2n e, 1), (0, 3), (d, 64)])
  | .erasePending d b => (6, packBits [(d, 13), (b, 12)])
  | .eraseDone d b n => (7, packBits [(d, 13), (b, 12), (n, 24)])
  | .retire d b r _ => (8, packBits [(d, 13), (b, 12), (r, 3)])
  | .moveCommit e i w f n o p => (9, packBits [(e, 34), (i, 4), (b2n w, 1), (b2n f, 1), (n, 4), (o, 40), (p, 40)])
  | .seamCommit e p f n => (10, packBits [(e, 34), (0, 0), (p, 40), (b2n f, 1), (n, 4)])
  | .checkpointMark g pt u st p l => (11, packBits [(g, 13), (b2n pt, 1), (b2n u, 1), (st, 48), (p, 40), (l, 32)])
  | .stitchMarker g n c _ _ => (12, packBits [(g, 48), (n, 14), (c, 32)])

/-- FLAGS of a record (R257). -/
def Rec.flags (r : Rec) (last : Bool) : Nat :=
  b2n last + match r with
    | .stitchMarker _ _ _ f c => 2 * b2n f + 4 * b2n c
    | .retire _ _ _ p => 8 * b2n p
    | _ => 0

/-- A record as its 32 bytes, in eight dwords (R257). -/
def recDwords (x : Nat × Bool × Rec) : List Nat :=
  let p := x.2.2.payload
  let n := packBits [(p.1, 8), (x.2.2.flags x.2.1, 8), (x.1, 48), (p.2, 192)]
  (List.range 8).map (fun i => n / 2 ^ (32 * i) % 2 ^ 32)

/-! ### Batches and groups (R259, R261) -/

/-- A lifeline counter of R287 raised; it wraps. -/
def State.lifCnt (s : State) (n : Nat) (k : Nat := 1) : State := s.addWrap (F.lifCntCount n) k

/-- The map segment of a map index (R158). -/
def segOf (e : Nat) : Nat := 3 * (e / 16) / 2 ^ 19

/-- The segment, or 8,192 + block-table part, that a record changes (R268, R270). -/
def Rec.touches : Rec → List Nat
  | .mapSet e _ | .mapFine e _ _ | .moveCommit e _ _ _ _ _ _ | .seamCommit e _ _ _ => [segOf e]
  | .dealloc e n _ => (List.range (segOf (e + n - 1) - segOf e + 1)).map (· + segOf e)
  | .courseOpen _ _ d _ _ _ _ _ _ | .erasePending d _ | .eraseDone d _ _ | .retire d _ _ _ => [8192 + d / 512]
  | _ => []

/-- SEQ after a record's (R257). -/
def nextRecSeq (n : Nat) : Nat := if n = 2 ^ 48 - 1 then 1 else n + 1

/-- Records numbered from a SEQ; the last carries BATCH_END. -/
def numberRecs : Nat → List Rec → List (Nat × Bool × Rec)
  | _, [] => []
  | n, r :: rest => (n, rest.isEmpty, r) :: numberRecs (nextRecSeq n) rest

/-- The SEQ that follows `k` records from `n`. -/
def seqAfter : Nat → Nat → Nat
  | n, 0 => n
  | n, k + 1 => seqAfter (nextRecSeq n) k

/-- The open group closed with its stitch marker (R261). -/
def State.closeGroup (s : State) (final clean : Bool) : State :=
  match s.lif.openGroup with
  | none => s
  | some g =>
    let blank := (s.lif.nextRec, true, Rec.stitchMarker g.num (g.recs.length + 1) 0 final clean)
    let crc := crc32c ((g.recs ++ [blank]).flatMap recDwords)
    let g := { g with recs := g.recs ++ [(s.lif.nextRec, true, Rec.stitchMarker g.num (g.recs.length + 1) crc final clean)] }
    let t := s.cancel .groupTimer
    ({ t with lif := { t.lif with openGroup := none, waiting := t.lif.waiting ++ [g], closed := g.num,
                                  nextRec := nextRecSeq t.lif.nextRec } } : State).lifCnt 0

/-- A group opened, its 500 µs counted from its first record. -/
def State.openNew (s : State) : State :=
  match s.lif.openGroup with
  | some _ => s
  | none =>
    let g : Group := { num := s.lif.closed + 1, opened := s.clk.mono, recs := [] }
    ({ s with lif := { s.lif with openGroup := some g } } : State).arm .groupTimer (nsUs 500)

/-- A batch of records accepted: it joins the open group, which is closed first if the batch would take it past 8,192 records, the
marker included (R261). -/
def State.batch (s : State) (rs : List Rec) : State :=
  if rs.isEmpty then s
  else
    let full := s.lif.openGroup.any (fun g => decide (8192 < g.recs.length + rs.length + 1))
    let t := if full then (s.closeGroup false false).lifCnt 3 else s
    let t := t.openNew
    let ns := numberRecs t.lif.nextRec rs
    let og := t.lif.openGroup.map (fun g => { g with recs := g.recs ++ ns })
    let tc := (rs.flatMap Rec.touches).foldl (fun l x => insertNew x l) t.lif.touched
    let t := { t with lif := { t.lif with openGroup := og, nextRec := seqAfter t.lif.nextRec rs.length, touched := tc } }
    t.lifCnt 0 rs.length

/-- The group that the last accepted record lies in: the open one, or the last closed. -/
def State.lastGroup (s : State) : Nat := (s.lif.openGroup.map (·.num)).getD s.lif.closed

/-- GROUP_TIMER_EXPIRY: the open group closes 500 µs after its first record (R261). -/
def execGroupTimerExpiry (s : State) : Host.Outcome State Fault Refusal :=
  onTimer s .groupTimer (fun t => (t.closeGroup false false).lifCnt 2)

end Sys2Proof.Machine
end

