-- ==== Sys2Proof/Machine/Blocks.lean ====
section
/-! DEFINITION. Dies and blocks, the free-course count, write tension, spares, retirement and the stages of end of life
(R192, R243 to R253, R270). -/

namespace Sys2Proof.Machine

/-- A counter of R210 raised; it wraps. -/
def State.crsCnt (s : State) (n : Nat) (k : Nat := 1) : State := s.addWrap (F.crsCntCount n) k

/-- A counter of R256 raised; it wraps. -/
def State.rclCnt (s : State) (n : Nat) (k : Nat := 1) : State := s.addWrap (F.rclCntCount n) k

/-- A counter of R309 of a die's skein raised; it wraps. -/
def State.sknCnt (s : State) (die n : Nat) (k : Nat := 1) : State := s.addWrap (F.sknCntCount (die / 1024) n) k

/-! ### Blocks and dies -/

/-- A block by its number. -/
def State.blk (s : State) (b : Nat) : Blk := Sparse.get (fun _ => Blk.fresh) b s.fl.blks

/-- A block replaced. -/
def State.setBlk (s : State) (b : Nat) (x : Blk) : State :=
  { s with fl := { s.fl with blks := Sparse.set (fun _ => Blk.fresh) b x s.fl.blks } }

/-- A block changed. -/
def State.updBlk (s : State) (b : Nat) (f : Blk → Blk) : State := s.setBlk b (f (s.blk b))

/-- Whether a die has been admitted and is in service (R250, R299). -/
def State.inSvc (s : State) (d : Nat) : Bool :=
  decide (d < 8192) && decide (d % 16 < s.fl.ranks) && !(Tab.has d s.fl.out) && !(s.fl.unused.contains d)

/-- Whether a die's skein lies in the active half in PS2 (R364). -/
def State.inTurn (s : State) (d : Nat) : Bool := decide (s.fld F.pwrStatPs ≠ 2) || decide (d / 1024 % 2 = s.fld F.pwrStatOdd)

/-- Whether a die can take an operation: nothing runs on it, its skein's link is up, and in PS2 its skein lies in the active half
(R293, R306, R364). -/
def State.dieFree (s : State) (d : Nat) : Bool :=
  !(Tab.has d s.fl.ops) && !(Tab.has d s.fl.resets) && !(Tab.has (d / 1024) s.fl.down) && s.inSvc d && s.inTurn d

/-- The temperature of a sensor: 0 the core die, 1 to 8 the skeins, 9 to 12 the stacks, each shown in its unit's register (R145, R308, R328). -/
def State.setTemp (s : State) (i c : Nat) : State :=
  let t : State := { s with pwr := { s.pwr with temps := s.pwr.temps.set i (c % 256) } }
  if 1 ≤ i ∧ i ≤ 8 then t.setFld (F.sknTempTj (i - 1)) c else if 9 ≤ i ∧ i ≤ 12 then t.setFld (F.hbmStackTemp (i - 9)) c else t

/-- The highest of the sensors: its value and its number from 1 (R145). -/
def hottest (temps : List Nat) : Nat × Nat :=
  (List.range temps.length).foldl (fun b i => if toSigned 8 b.1 < toSigned 8 (temps.getD i 0) then (temps.getD i 0, i + 1) else b)
    (temps.getD 0 0, 1)

/-- N, the dies in service (R192). -/
def State.diesUp (s : State) : Nat := 512 * s.fl.ranks -
  ((s.fl.out.map (·.1)).filter (fun d => decide (d % 16 < s.fl.ranks) && !(s.fl.unused.contains d))).length - s.fl.unused.length

/-- The erased blocks of a die: listed, since a block never erased is erase-pending (R525). -/
def State.erasedOn (s : State) (d : Nat) : List Nat :=
  (s.fl.blks.filter (fun p => decide (p.1 / 4096 = d) && decide (p.2.state = .erased))).map (·.1)

/-- E, the erased blocks on the dies in service (R192). -/
def State.erasedAll (s : State) : Nat :=
  (s.fl.blks.filter (fun p => decide (p.2.state = .erased) && s.inSvc (p.1 / 4096))).length

/-- The free-course count F = floor(E / N) (R192). -/
def State.freeF (s : State) : Nat := s.erasedAll / s.diesUp

/-- Good blocks of a die at its first discovery. -/
def State.goodOn (s : State) (d : Nat) : Nat :=
  s.fl.geom.blocks - (s.fl.blks.filter (fun p => decide (p.1 / 4096 = d) && decide (p.2.state = .bad))).length

/-- The blocks of a die that have been retired. -/
def State.retiredOn (s : State) (d : Nat) : Nat :=
  (s.fl.blks.filter (fun p => decide (p.1 / 4096 = d) && decide (p.2.state = .retired))).length

/-- A die's spare allotment (R249). -/
def State.allotment (s : State) (d : Nat) : Nat := s.goodOn d * 25 / 1000

/-- The least-worn erased block of a die: lowest erase count, then lowest number (R191). -/
def State.leastWorn (s : State) (d : Nat) : Option Nat :=
  (s.erasedOn d).foldl (fun best b =>
    match best with
    | none => some b
    | some a => if (s.blk b).ec < (s.blk a).ec then some b else some a) none

/-! ### Write tension (R244) -/

/-- The level for a free-course count: the highest n with F ≤ START − n × STEP. -/
def tensionOf (f start step : Nat) : Nat := ((List.range 7).filter (fun n => decide (f + (n + 1) * step ≤ start))).length

/-- The R108 level at which reclamation runs at a tension level. -/
def reclaimLevel (n : Nat) : Nat := if n ≤ 1 then 6 else if n ≤ 3 then 5 else 4

/-- Closed courses of the host, staging and reclaim bands (R238). -/
def State.closedCourses (s : State) : List (Nat × Course) :=
  s.crs.courses.filter (fun p => p.2.closed && decide (p.2.band ≤ 2))

/-- The valid-slot count of a block (R162). -/
def State.validOf (s : State) (b : Nat) : Nat := Tab.getD b 0 s.map.valid

/-- The block number of a member. -/
def Member.id (m : Member) : Nat := blkId m.die m.blk

/-- The members a course has. -/
def Course.present (c : Course) : List Member := c.members.filterMap (fun m => m)

/-- The positions of a course's parity members (R189). -/
def Course.parityPos (n : Nat) (c : Course) : List Nat := if c.ply = 1 then [n % c.w] else [n % c.w, (n + 1) % c.w]

/-- Positions of the data members, by data index (R189). -/
def Course.dataPos (n : Nat) (c : Course) : List Nat := (List.range c.w).filter (fun p => !((c.parityPos n).contains p))

/-- The slots that one block carries (R188). -/
def Geom.slots (g : Geom) (slc : Bool) : Nat := if slc then (g.wls - 1) * 4 else Nat.min 8192 (3 * g.wls - 1) * 4

/-- The sum of the valid-slot counts of a course's members. -/
def State.courseValid (s : State) (c : Course) : Nat := sumNat (c.present.map (fun m => s.validOf m.id))

/-- A course's data capacity (R239). -/
def State.courseCap (s : State) (n : Nat) (c : Course) : Nat :=
  let live := ((c.dataPos n).filter (fun p => ((c.members[p]?).bind (fun m => m)).any (fun m => m.drop.isNone))).length
  live * s.fl.geom.slots c.slc

/-- Whether some closed course would gain at least one member block if reclaimed (R253). -/
def State.worthwhile (s : State) : Bool :=
  s.closedCourses.any (fun p =>
    let k := p.2.w - p.2.ply
    decide (s.courseValid p.2 * k < (k - 1) * s.courseCap p.1 p.2))

/-- A course queued for the reclaim engine, for a reason of RCL_LASTVIC or 8 to 10: one queued already for space or refresh keeps its
place, and the lower-numbered level stands (R246). -/
def State.queueVictim (s : State) (n reason level : Nat) : State :=
  let same := fun (v : Victim) => decide (v.course = n) && (decide (v.reason = reason) || (decide (v.reason ≤ 5) && decide (reason ≤ 5)))
  if s.crs.victims.any same then
    { s with crs := { s.crs with victims := s.crs.victims.map (fun v => if same v then { v with level := Nat.min v.level level } else v) } }
  else
    let t := { s with crs := { s.crs with victims := s.crs.victims ++ [⟨n, reason, level⟩] } }
    if 5 < reason then t
    else
      let pct := match Tab.find n s.crs.courses with
        | some c => 100 * s.courseValid c / s.courseCap n c
        | none => 0
      let t := (t.setFld F.rclLastvicReason reason).setFld F.rclLastvicValidpct pct
      let t := if reason = 0 then t.rclCnt 0 else t.rclCnt 1
      if 1 ≤ reason ∧ reason ≤ 4 then t.rclCnt (if reason = 1 then 2 else if reason = 2 then 3 else if reason = 3 then 4 else 5) else t

/-- Everything that follows F brought up to date: the tension level with its sticky bits and times, and the stall of R253
(R243 to R245). -/
def State.noteF (s : State) : State :=
  let f := s.freeF
  let n := tensionOf f s.adm.start s.adm.step
  let old := s.fld F.rclTensionLevel
  let t := if n = old then s else
    let u := s.addSat (F.rclTenstimeSeconds old) ((s.clk.mono - s.crs.tensSince) / 1000000000)
    ((({ u with crs := { u.crs with tensSince := s.clk.mono } } : State).setFld F.rclTensionLevel n).setFld F.rclTensionRcllvl
      (reclaimLevel n))
  let t := if old < n ∧ old = 0 then t.setFlag F.rclStatTensionseen else t
  let t := if n = 7 ∧ old ≠ 7 then t.setFlag F.rclStatTens7seen else t
  let t := if f ≤ 4 ∧ s.fl.ranks ≠ 0 then t.setFlag F.rclStatHoldseen else t
  if f ≤ 4 ∧ s.fl.ranks ≠ 0 ∧ !(s.worthwhile) ∧ !(s.flag F.rclRoRo) then
    t.armOnce .readOnlyStall (nsSec (s.fld F.rclEolStalls))
  else t.cancel .readOnlyStall

/-! ### Failing writes (R116) -/

/-- The buffered slots of a write discarded, and its reservation with them. -/
def State.discardSlots (s : State) (c : Nat) : State :=
  { s with
    buf := { s.buf with slots := s.buf.slots.filter (fun p => !(decide (p.2.cmd = c) && !p.2.applied)),
                        resv := Tab.del c s.buf.resv }
    crs := { s.crs with rmws := s.crs.rmws.filter (fun p => p.2.cmd ≠ c) } }

/-- A write that fails before it is fully buffered (R116). -/
def State.failWrite (s : State) (c : Nat) (st : Status) : State := (s.discardSlots c).fail c st

/-! ### Stages of end of life (R249 to R252) -/

/-- Available spare in units of 0.01 % (R249). -/
def State.spare (s : State) : Nat :=
  let s0 := s.fld F.rclSpareS0
  if s0 = 0 then 10000 else 10000 * (s0 - s.fld F.rclSpusedUsed) / s0

/-- The spare left in units of 0.01 % (R249). -/
def State.spareLeft (s : State) : Nat := Nat.min 10000 s.spare

/-- Erase counts over the good blocks of dies in service: lowest, mean, highest (R248). -/
def State.eraseCounts (s : State) : Nat × Nat × Nat :=
  let mine := s.fl.blks.filter (fun p => s.inSvc (p.1 / 4096) && decide (p.2.state ≠ .bad) && decide (p.2.state ≠ .excluded) &&
    decide (p.2.state ≠ .retired))
  let total := sumNat (((List.range 8192).filter (fun d => s.inSvc d)).map (fun d => s.goodOn d - s.retiredOn d))
  let ecs := mine.map (fun p => p.2.ec)
  (if mine.length < total then 0 else (minNat? ecs).getD 0, sumNat ecs / Nat.max 1 total, maxNat ecs)

/-- Percentage Used (R248). -/
def State.pctUsed (s : State) : Nat := Nat.min 255 (100 * s.eraseCounts.2.1 / Nat.max 1 s.fl.geom.endur)

/-- A cause of critical warning bit 2 added. -/
def State.degrade (s : State) (cause : Nat) : State :=
  ({ s with adm := { s.adm with degraded := insertNew cause s.adm.degraded } } : State).critWarn 2

/-- A cause of critical warning bit 2 gone: the bit clears with its last cause. -/
def State.undegrade (s : State) (cause : Nat) : State :=
  let l := s.adm.degraded.filter (· ≠ cause)
  let t := { s with adm := { s.adm with degraded := l } }
  if l.isEmpty then t.critClear 2 else t

/-- Whether an I/O command writes host data or marks. -/
def writesData (op : Nat) : Bool := [0x01, 0x08, 0x04, 0x19].contains op

/-- Read-only mode entered at one instant (R252): writes not fully buffered complete with 20h. -/
def State.enterReadOnly (s : State) (cause : Nat) : State :=
  if s.flag F.rclRoRo then s
  else
    let t := ((s.setFlag F.rclRoRo).setFld F.rclRoCause cause).setFlag F.rclStatRoseen
    let t := (t.critWarn 3).event 0x0603 t.spare cause
    let ws := t.q.cmds.filter (fun p => !p.2.admin && writesData p.2.sqe.opcode && !p.2.buffered && !p.2.dropped &&
      (match p.2.phase with | .finished _ _ => false | _ => true))
    ((ws.foldl (fun t p => (t.failWrite p.1 St.writeProtected).rclCnt 10) t).cancel .readOnlyStall).noteC0

/-- Retirements of the last 24 h (RCL_RETDAY). -/
def State.retDay (s : State) : Nat := (s.crs.retTimes.filter (fun m => decide (s.clk.mono < m + 86400000000000))).length

/-- The thresholds of R251 tested. -/
def State.checkSpare (s : State) : State :=
  let a := s.spare
  let s0 := s.fld F.rclSpareS0
  let t := if a < 100 * s.fld F.rclEolThresh then
      (if s.adm.critWarn.testBit 0 then s else ((s.setFlag F.rclStatSpareseen).critWarn 0).event 0x0601 a)
    else s.critClear 0
  let deg := decide (a < 100 * t.fld F.rclEolDegraded) || decide (s0 * 5 < 1000 * t.retDay)
  let t := if deg then
      (if t.adm.degraded.contains 0 then t else ((t.setFlag F.rclStatDegradedseen).degrade 0).event 0x0602 a)
    else t.undegrade 0
  if a < 200 then t.enterReadOnly 1 else t

/-- A die taken out of service (R250): its courses lack a member, its slots wait to be moved at level 4, and its good blocks count as
used spare. -/
def State.dieOut (s : State) (d reason : Nat) : State :=
  if !(s.inSvc d) then s
  else
    let left := s.goodOn d - s.retiredOn d
    let t := { s with fl := { s.fl with out := Tab.put d reason s.fl.out, slow := Tab.del d s.fl.slow } }
    let t := ((t.setFld F.rclDiesoutDies t.fl.out.length).setFlag F.rclStatDieoutseen).event 0x0604 d reason
    let t := t.putSat F.rclSpusedUsed (t.fld F.rclSpusedUsed + left)
    let cs := (t.crs.courses.filter (fun p => p.2.present.any (fun m => m.die = d))).map (·.1)
    (cs.foldl (fun t n => t.queueVictim n 10 4) t).checkSpare.noteF

/-- A block retired for good: RETIRE recorded, counted, its die's count tested (R205 step 6, R207, R249, R250). -/
def State.retire (s : State) (b reason : Nat) : State :=
  let d := b / 4096
  let t := s.updBlk b (fun x => { x with state := .retired, why := reason })
  let t := (t.batch [.retire d (b % 4096) reason false]).event 0x0405 d (b % 4096) reason
  let t := ((t.addSat F.crsRetiredBlocks 1).crsCnt 12).addSat F.rclSpusedUsed 1
  let t := { t with crs := { t.crs with retTimes := t.clk.mono :: t.crs.retTimes } }
  let t := if 2 * t.allotment d < t.retiredOn d then t.dieOut d 0 else t
  t.checkSpare.noteF

/-- An entry in CRS_PFLOG: kind 0 program, 1 erase, 2 open check; entry 0 is the newest. -/
def State.pfLog (s : State) (kind b : Nat) : State :=
  let t := (List.range 7).foldl (fun t i => t.setWord (Reg.crsPflog (7 - i)) (t.word (Reg.crsPflog (6 - i)))) s
  (((t.setFld (F.crsPflogValid 0) 1).setFld (F.crsPflogKind 0) kind).setFld (F.crsPflogDie 0) (b / 4096)).setFld
    (F.crsPflogBlock 0) (b % 4096)

/-- READ_ONLY_STALL (R253): no course can be formed and none is worth reclaiming, for STALLS seconds. -/
def execReadOnlyStall (s : State) : Host.Outcome State Fault Refusal :=
  onTimer s .readOnlyStall (fun t => if t.freeF ≤ 4 ∧ !(t.worthwhile) then t.enterReadOnly 2 else t)

end Sys2Proof.Machine
end

