-- ==== Sys2Proof/Machine/Map.lean ====
section
/-! DEFINITION. The two-grain map (R156 to R182): entries, lookups, updates, free folds, the overlay pool's states, deallocation,
capacity, stalls of segments. -/

namespace Sys2Proof.Machine

/-- A counter of R182 raised; it wraps. -/
def State.mapCnt (s : State) (n : Nat) (k : Nat := 1) : State := s.addWrap (F.mapCntCount n) k

/-! ### Entries (R156 to R164) -/

/-- The map index of an LBA of a namespace (R156). -/
def Ns.index (n : Ns) (lba : Nat) : Option Nat := (n.granules[lba / 2 ^ 18]?).map (fun g => g * 16384 + lba / 16 % 16384)

/-- An extent's coarse entry. -/
def State.centry (s : State) (e : Nat) : CEntry := Sparse.get (fun _ => CEntry.unwritten) e s.map.coarse

/-- What an extent's entries say. -/
def State.ext (s : State) (e : Nat) : Ext :=
  match s.centry e with
  | .coarse a => .coarse a
  | .frame a n => .frame a n
  | .unwritten => .unwritten
  | .overlay i => ((Tab.find i s.map.overlays).map (fun o => Ext.fine o.fine)).getD .unwritten

/-- The block references of an extent: (block number, slots). -/
def Ext.refs : Ext → List (Nat × Nat)
  | .coarse a => [(psaBlk a, 16)]
  | .frame a n => [(psaBlk a, n + 1)]
  | .fine fs => fs.filterMap (fun f => match f with | .mapped p => some (psaBlk p, 1) | _ => none)
  | .unwritten => []

/-- The sixteen fine entries that stand for an extent; none for a compressed one. -/
def Ext.fines : Ext → Option (List FEntry)
  | .coarse a => some ((List.range 16).map (fun j => .mapped (a + j)))
  | .unwritten => some (List.replicate 16 .unwritten)
  | .fine fs => some fs
  | .frame _ _ => none

/-- The coarse value a run of fine entries folds to (R167). -/
def foldFines (fs : List FEntry) : Option Ext :=
  if fs.all (fun f => decide (f = .unwritten)) then some .unwritten
  else match fs with
    | .mapped p :: _ =>
      if p % 4 = 0 ∧ fs = (List.range 16).map (fun j => FEntry.mapped (p + j)) then some (.coarse p) else none
    | _ => none

/-! ### The overlay pool (R169) -/

/-- Overlay blocks in the pool. -/
def poolTotal : Nat := 357913941

/-- The seaming state for a number of blocks in use and the state before (R169). -/
def poolMode (old used : Nat) : Nat :=
  if 350755662 ≤ used ∨ (old = 3 ∧ 343597383 < used) then 3
  else if 90 * poolTotal ≤ 100 * used ∨ (2 ≤ old ∧ 85 * poolTotal ≤ 100 * used) then 2
  else if 60 * poolTotal ≤ 100 * used ∨ (1 ≤ old ∧ 55 * poolTotal ≤ 100 * used) then 1
  else 0

/-- MAP_POOL_STAT.MODE. -/
def State.pool (s : State) : Nat := s.fld F.mapPoolStatMode

/-- The seaming state brought up to date with the blocks in use; entering a state sets its sticky bit. -/
def State.notePool (s : State) : State :=
  let m := poolMode s.pool s.map.overlays.length
  if m = s.pool then s
  else
    let t := s.setFld F.mapPoolStatMode m
    match m with
    | 1 => t.setFlag F.mapStatLightseen
    | 2 => t.setFlag F.mapStatUrgentseen
    | 3 => t.setFlag F.mapStatRmwseen
    | _ => t

/-- The lowest number from `n` that a rising table does not list. -/
def firstFree {α : Type} : Nat → List (Nat × α) → Nat
  | n, [] => n
  | n, (k, _) :: rest => if k = n then firstFree (n + 1) rest else n

/-! ### Courses emptied (R222) -/

/-- References taken from, or added to, blocks. -/
def addRefs (v : List (Nat × Nat)) (l : List (Nat × Nat)) : List (Nat × Nat) :=
  l.foldl (fun v p => Tab.put p.1 (Tab.getD p.1 0 v + p.2) v) v

/-- References dropped; a count of 0 is not listed. -/
def dropRefs (v : List (Nat × Nat)) (l : List (Nat × Nat)) : List (Nat × Nat) :=
  l.foldl (fun v p => let n := Tab.getD p.1 0 v - p.2
                      if n = 0 then Tab.del p.1 v else Tab.put p.1 n v) v

/-- Codewords of a block gone. -/
def State.dropMedia (s : State) (b : Nat) : State :=
  { s with crs := { s.crs with media := s.crs.media.filter (fun p => psaBlk p.1 ≠ b) } }

/-- A course whose every member's count is 0 leaves the list: good blocks become erase-pending together with a record, failed ones are
retired (R205 step 6, R222). -/
def State.courseEmpty (s : State) (n : Nat) (c : Course) : State :=
  let good := (c.present.filter (fun m => decide ((s.blk m.id).state = .closed))).map Member.id
  let bad := (c.present.filter (fun m => decide ((s.blk m.id).state = .retirePending))).map Member.id
  let quiet := !(s.crs.victims.any (fun v => v.course = n))
  let cs := Tab.del n s.crs.courses
  let t := { s with crs := { s.crs with courses := cs, victims := s.crs.victims.filter (fun v => v.course ≠ n),
                                        emptied := Tab.put n c s.crs.emptied } }
  let t := t.batch (good.map (fun b => Rec.erasePending (b / 4096) (b % 4096)))
  let t := good.foldl (fun t b => t.updBlk b (fun x => { x with state := .erasePending, group := t.lastGroup })) t
  let t := bad.foldl (fun t b => t.retire b (t.blk b).why) t
  if quiet then t.rclCnt 7 else t

/-- A course tested for emptiness: closed, nothing of it moving, no member's slot mapped. -/
def State.settleCourse (s : State) (n : Nat) : State :=
  match Tab.find n s.crs.courses with
  | some c => if c.closed && decide (c.band ≤ 2) && decide (s.courseValid c = 0) then s.courseEmpty n c else s
  | none => s

/-- The courses of blocks that lost references, tested. -/
def State.settle (s : State) (bs : List Nat) : State :=
  (bs.filter (fun b => decide (s.validOf b = 0))).foldl (fun t b => t.settleCourse (t.blk b).course) s

/-! ### Updates (R165, R167) -/

/-- An extent's entries replaced: overlay blocks taken and freed, valid-slot counts moved, the pool's state kept. -/
def State.putExt (s : State) (e : Nat) (x : Ext) : State :=
  let old := s.ext e
  let v := dropRefs (addRefs s.map.valid x.refs) old.refs
  let held := match s.centry e with | .overlay i => some i | _ => none
  let m := s.map
  let t := match x with
    | .fine fs =>
      let i := held.getD (firstFree 0 m.overlays)
      let ov : Overlay := { owner := e, epoch := s.fld F.mapEpochEpoch % 256, fine := fs }
      let m := { m with valid := v, overlays := Tab.put i ov m.overlays,
                        coarse := Sparse.set (fun _ => CEntry.unwritten) e (.overlay i) m.coarse }
      let t := { s with map := m }
      if held.isNone then t.mapCnt 6 else t
    | .coarse _ | .frame _ _ | .unwritten =>
      let c := match x with | .coarse a => CEntry.coarse a | .frame a n => .frame a n | _ => .unwritten
      let ovs := match held with | some i => Tab.del i m.overlays | none => m.overlays
      let m := { m with valid := v, overlays := ovs, coarse := Sparse.set (fun _ => CEntry.unwritten) e c m.coarse }
      let t := { s with map := m }
      if held.isSome then t.mapCnt 7 else t
  (t.notePool).settle (old.refs.map (·.1))

/-- Fine entries set, with the free fold that they make possible (R167). -/
def State.putFines (s : State) (e : Nat) (fs : List FEntry) : State :=
  match foldFines fs with
  | some x => (s.putExt e x).mapCnt 8
  | none => s.putExt e (.fine fs)

/-- A list with some positions replaced. -/
def setAll {α : Type} (l : List α) (ps : List (Nat × α)) : List α := ps.foldl (fun l p => l.set p.1 p.2) l

/-- Slots of an extent written or marked (R165, R176): the new entries, and their records. The extent is not compressed. -/
def State.setSlots (s : State) (e : Nat) (ps : List (Nat × FEntry)) : State × List Rec :=
  match (s.ext e).fines with
  | none => (s, [])
  | some fs => (((s.putFines e (setAll fs ps)).mapCnt 5 ps.length), ps.map (fun p => Rec.mapFine e p.1 p.2))

/-- A whole extent written as a run or a frame (R165). -/
def State.setWhole (s : State) (e : Nat) (x : Ext) : State × List Rec :=
  let c := match x with | .coarse a => CEntry.coarse a | .frame a n => .frame a n | _ => .unwritten
  ((s.putExt e x).mapCnt 4, [.mapSet e c])

/-! ### Lookup (R164) -/

/-- Where a slot is. -/
inductive Look where
  | unwritten
  | flash (psa : Nat)
  | frame (addr slots i : Nat)
  | marked
  deriving DecidableEq, Repr

/-- Slot `i` of an extent. -/
def Ext.look (x : Ext) (i : Nat) : Look :=
  match x with
  | .unwritten => .unwritten
  | .coarse a => .flash (a + i)
  | .frame a n => .frame a (n + 1) i
  | .fine fs => match fs[i]? with
    | some (.mapped p) => .flash p
    | some .marked => .marked
    | _ => .unwritten

/-- The lookup of an LBA; an LBA beyond the granule table reads as unwritten. -/
def State.lookup (s : State) (n : Ns) (lba : Nat) : Look :=
  match n.index lba with
  | some e => (s.ext e).look (lba % 16)
  | none => .unwritten

/-- The lookup counters of one extent (R182). -/
def State.countLookup (s : State) (e : Nat) : State :=
  match s.ext e with
  | .coarse _ => s.mapCnt 0
  | .fine _ => s.mapCnt 1
  | .unwritten => s.mapCnt 2
  | .frame _ _ => s.mapCnt 3

/-! ### Segments stalled and lost (R179) -/

/-- Whether a segment is stalled. -/
def State.segStalled (s : State) (g : Nat) : Bool := Tab.has g s.map.stalled

/-- Whether a segment is lost. -/
def State.segLost (s : State) (g : Nat) : Bool := s.map.lost.contains g

/-- The segments of a range of LBAs of a namespace, by the extents of its ends and of every granule between. -/
def Ns.segs (n : Ns) (slba nlb : Nat) : List Nat :=
  ((pieces 16 slba nlb).filterMap (fun p => (n.index p.1).map segOf)).foldl (fun l x => insertNew x l) []

/-- An error noted: MAP_UE_LAST, MAP_UE_IDX and the count. -/
def State.mapError (s : State) (cause e : Nat) : State :=
  (((s.setFld F.mapUeLastCause cause).setFld F.mapUeLastSeg (segOf e)).setWord Reg.mapUeIdxLo (BitVec.ofNat 32 e)).setFld
    F.mapUeIdxHiIdx (e / 2 ^ 32) |>.mapCnt 20

/-- A segment stalled (R179 step 1): the sticky bit, the event, the list. A further error in a stalled segment restarts its recovery,
and in a lost one changes nothing. -/
def State.stall (s : State) (cause e : Nat) : State :=
  let g := segOf e
  if s.segLost g then s
  else
    let t := s.mapError cause e
    if t.segStalled g then t
    else
      let t := { t with map := { t.map with stalled := t.map.stalled ++ [(g, t.clk.mono)] } }
      (t.setFlag F.mapStatStallseen).event 0x0301 g (t.word Reg.mapUeLast).toNat

/-- MAP_SEGMENT_STALL: cause 0 coarse entry, 1 overlay block, 3 map-format error (R179, R163). -/
def execMapSegmentStall (cause e : Nat) (s : State) : Host.Outcome State Fault Refusal :=
  guarded (decide (e < 2 ^ 34) && (decide (cause ≤ 1) || decide (cause = 3))) .outOfRange (s.stall cause e)

/-- OWNER_TABLE_ERROR: the supervisor repairs the owner table from a scan of the coarse map, with seaming suspended meanwhile; the row
says whether the scan begins or ends (R179). -/
def execOwnerTableError (e : Nat) (done : Bool) (s : State) : Host.Outcome State Fault Refusal :=
  if done then
    let fix := s.map.overlays.map (fun p => match s.map.coarse.find? (fun c => c.2 = .overlay p.1) with
      | some c => (p.1, { p.2 with owner := c.1 })
      | none => p)
    .next { s with map := { s.map with scanning := false, overlays := fix } }
  else .next { s.mapError 2 e with map := { (s.mapError 2 e).map with scanning := true } }

/-- AGE_EPOCH_TICK: MAP_EPOCH counts 10 s of monotonic count (R162). -/
def execAgeEpochTick (s : State) : Host.Outcome State Fault Refusal :=
  onTimer s .ageEpoch (fun t => (t.addWrap F.mapEpochEpoch 1).arm .ageEpoch (nsSec 10))

/-! ### Deallocation (R174) -/

/-- Whole extents of a range of map indices set unwritten, with one record for the range. -/
def State.deallocWhole (s : State) (e count : Nat) : State × List Rec :=
  if count = 0 then (s, [])
  else
    let es := (s.map.coarse.filter (fun p => decide (e ≤ p.1) && decide (p.1 < e + count))).map (·.1)
    ((es.foldl (fun t x => t.putExt x .unwritten) s).mapCnt 15 count, [.dealloc e count 0xFFFF])

/-- The slot mask of a part of an extent. -/
def slotMask (i n : Nat) : Nat := (2 ^ n - 1) * 2 ^ i

/-- Part of an extent deallocated: carried out in kinds 01b, 00b and 11b, ignored in the RMW state for the last two, for compressed
extents, and where the namespace has compression enabled. -/
def State.deallocPart (s : State) (n : Ns) (e i k : Nat) : State × List Rec :=
  let skip := match s.ext e with
    | .frame _ _ => true
    | .fine _ => n.compress
    | _ => n.compress || decide (s.pool = 3)
  match skip, (s.ext e).fines with
  | false, some fs =>
    let ps := (List.range k).map (fun j => (i + j, FEntry.unwritten))
    ((s.putFines e (setAll fs ps)).mapCnt 16 k, [.dealloc e 1 (slotMask i k)])
  | _, _ => (s.mapCnt 17, [])

/-- One range deallocated: its whole extents by granule, its part extents one by one. -/
def State.deallocRange (s : State) (n : Ns) (slba nlb : Nat) : State × List Rec :=
  (pieces (2 ^ 18) slba nlb).foldl (fun acc g =>
    match n.index g.1 with
    | none => acc
    | some e0 =>
      let a := (g.1 + 15) / 16 * 16
      let b := (g.1 + g.2) / 16 * 16
      if b < a then
        let (t, r) := acc.1.deallocPart n e0 (g.1 % 16) g.2
        (t, acc.2 ++ r)
      else
        let (t, r0) := if g.1 < a then acc.1.deallocPart n e0 (g.1 % 16) (a - g.1) else (acc.1, [])
        let (t, r1) := t.deallocWhole (e0 / 16384 * 16384 + a / 16 % 16384) ((b - a) / 16)
        let (t, r2) := if b < g.1 + g.2 then t.deallocPart n (e0 / 16384 * 16384 + b / 16 % 16384) 0 (g.1 + g.2 - b) else (t, [])
        (t, acc.2 ++ r0 ++ r1 ++ r2)) (s, [])

/-! ### Capacity (R177, R178) -/

/-- W and ply of the host-data layout: CRS_LAYOUT, or the enabled FDP configuration's, which is given here by its index (R189). -/
def State.layout (s : State) : Nat × Nat :=
  let w := match s.fld F.crsLayoutWsel with | 0 => 16 | 1 => 32 | _ => 64
  match s.adm.fdp with
  | none => (w, 1 + s.fld F.crsLayoutPly2)
  | some i => (16 * 2 ^ (i / 2), 1 + i % 2)

/-- User capacity in MiB (R177). -/
def State.userMib (s : State) : Nat := s.fl.raw * (1000 - s.fld F.mapCapCtlOp) / 1000

/-- MiB in namespaces. -/
def State.nsMib (s : State) : Nat := sumNat (s.nss.map (fun p => p.2.size)) / 256

/-- The lowest over-provisioning, in 0.1 %, that a layout allows (R178). -/
def State.lowestOp (s : State) (w ply : Nat) : Nat :=
  let raw := s.fl.raw * 1024
  let data := s.fl.good * ((s.fl.geom.slots false) * 4) * (w - ply) / w
  match (List.range 331).find? (fun i => decide (raw * 50 + raw * 1000 ≤ (i + 70) * raw + data * 1000)) with
  | some i => i + 70
  | none => 400

/-- The lowest free granules, `k` of them, if there are that many (R157). -/
def freeGranules (used : List Nat) : Nat → Nat → Nat → List Nat
  | 0, _, _ => []
  | _, 0, _ => []
  | fuel + 1, k + 1, g =>
    if used.contains g then freeGranules used fuel (k + 1) (g + 1) else g :: freeGranules used fuel k (g + 1)

/-- Granules that namespaces, or deletions not yet committed, hold (R157). -/
def State.usedGranules (s : State) : List Nat := s.nss.flatMap (fun p => p.2.granules) ++ s.adm.freeing.flatMap (·.2)

/-- NUSE: the LBAs of a namespace that are not unwritten (R138). -/
def State.nuse (s : State) (n : Ns) : Nat :=
  sumNat ((s.map.coarse.filter (fun p => n.granules.contains (p.1 / 16384))).map (fun p =>
    match s.ext p.1 with
    | .fine fs => (fs.filter (fun f => decide (f ≠ .unwritten))).length
    | .unwritten => 0
    | _ => 16))

end Sys2Proof.Machine
end

