-- ==== Sys2Proof/Machine/AdminCmd.lean ====
section
/-! DEFINITION. Admin commands on queues, identification, asynchronous events, directives and the timestamp (R128 to R140, R149, R151). -/

namespace Sys2Proof.Machine

/-- UNSUPPORTED_COMMAND: an absent opcode, or a PF command on a VF, completes with 01h (R128, R129). -/
def execUnsupportedCommand (cmd : Nat) (s : State) : Host.Outcome State Fault Refusal :=
  match s.cmd cmd with
  | some k => if k.phase = .active then .next (s.fail cmd St.badOpcode) else .fault .noSuchObject
  | none => .fault .noSuchObject

/-- The queues a function has been granted (R99): the grant of Number of Queues, or one pair before it is made. -/
def State.grantOf (s : State) (fn : Nat) : Nat × Nat := ((s.func fn).qgrant).getD (s.allot fn, s.allot fn)

/-- CREATE_IO_CQ: identifier within the grant and free, size 2 to 16,384, contiguous, a vector the function has, not in the CMB
(R73, R99, R119, R131). -/
def execCreateIoCq (cmd qid size vec : Nat) (intEn contiguous inCmb : Bool) (s : State) : Host.Outcome State Fault Refusal :=
  onAdmin s cmd (fun k =>
    let f := s.func k.fn
    if qid = 0 ∨ (s.grantOf k.fn).2 < qid ∨ Tab.has qid f.cqs then s.finish cmd St.badQid
    else if size < 2 ∨ 16384 < size then s.finish cmd St.badQsize
    else if !contiguous || inCmb then s.finish cmd St.badField
    else if intEn ∧ (if isPf k.fn then 2048 else 64) ≤ vec then s.finish cmd St.badVector
    else (s.setFunc k.fn { f with cqs := Tab.put qid ⟨size, 0, 0, if intEn then some vec else none, [], [], 0⟩ f.cqs }).finish cmd St.ok)

/-- CREATE_IO_SQ: identifier within the grant and free, size 2 to 16,384, contiguous, a completion queue that exists; only a PF may
place it in its CMB share (R73, R99, R104). -/
def execCreateIoSq (cmd qid size cq prio : Nat) (contiguous inCmb : Bool) (s : State) : Host.Outcome State Fault Refusal :=
  onAdmin s cmd (fun k =>
    let f := s.func k.fn
    let share := if k.fn = 0 then s.hif.split else 8 - s.hif.split
    if qid = 0 ∨ (s.grantOf k.fn).1 < qid ∨ Tab.has qid f.sqs then s.finish cmd St.badQid
    else if size < 2 ∨ 16384 < size then s.finish cmd St.badQsize
    else if cq = 0 ∨ !(Tab.has cq f.cqs) then s.finish cmd St.badCq
    else if !contiguous ∨ 3 < prio ∨ (inCmb ∧ (!(isPf k.fn) ∨ share = 0)) then s.finish cmd St.badField
    else (s.setFunc k.fn { f with sqs := Tab.put qid ⟨size, 0, 0, 0, cq, prio, inCmb, 0, 0, none⟩ f.sqs }).finish cmd St.ok)

/-- DELETE_IO_SQ: waits until every command accepted from the queue has posted its completion, then deletes it (R124). -/
def execDeleteIoSq (cmd qid : Nat) (s : State) : Host.Outcome State Fault Refusal :=
  onAdmin s cmd (fun k =>
    let f := s.func k.fn
    if qid = 0 ∨ !(Tab.has qid f.sqs) then s.finish cmd St.badQid
    else if s.q.cmds.any (fun c => decide (c.2.fn = k.fn) && decide (c.2.sq = qid) && !c.2.dropped) then
      ((s.setFunc k.fn { f with sqs := Tab.upd qid (fun q => { q with deleting := some cmd }) f.sqs }).updCmd cmd
        (fun c => { c with phase := .waitDurable })).qenCnt 27
    else (s.setFunc k.fn { f with sqs := Tab.del qid f.sqs }).finish cmd St.ok)

/-- DELETE_IO_CQ: deletes the queue and returns it to the allotment (R99); a queue still named by a submission queue is kept, as NVM
Express requires. -/
def execDeleteIoCq (cmd qid : Nat) (s : State) : Host.Outcome State Fault Refusal :=
  onAdmin s cmd (fun k =>
    let f := s.func k.fn
    if qid = 0 ∨ !(Tab.has qid f.cqs) then s.finish cmd St.badQid
    else if f.sqs.any (fun q => q.2.cq = qid) then s.finish cmd St.badQdelete
    else (s.setFunc k.fn { f with cqs := Tab.del qid f.cqs }).finish cmd St.ok)

/-- ABORT: always successful, with bit 0 of Dword 0 set: not aborted (R124). -/
def execAbort (cmd _sqid _cid : Nat) (s : State) : Host.Outcome State Fault Refusal :=
  onAdmin s cmd (fun _ => (s.qenCnt 21).finish cmd St.ok 1)

/-- ASYNC_EVENT_REQUEST: held until an event is posted to it; AERL is 15, so a seventeenth is refused (R134, R149). -/
def execAsyncEventRequest (cmd : Nat) (s : State) : Host.Outcome State Fault Refusal :=
  onAdmin s cmd (fun k =>
    let f := s.func k.fn
    match f.aens with
    | (ty, info, page) :: rest =>
      (s.setFunc k.fn { f with aens := rest, aenMask := insertNew (ty * 256 + page) f.aenMask }).finish cmd St.ok
        (ty + 256 * info + 65536 * page)
    | [] =>
      if 16 ≤ f.aers.length then s.finish cmd St.aerLimit
      else (s.setFunc k.fn { f with aers := f.aers ++ [cmd] }).updCmd cmd (fun c => { c with phase := .waitDurable }))

/-- SET_FEATURES_TIMESTAMP: sets device time unless the strand holds it or TK_CTL.HOSTTS is 0, when the value is ignored and recorded;
it completes with 00h either way (R50). -/
def execSetFeaturesTimestamp (cmd timeMs : Nat) (s : State) : Host.Outcome State Fault Refusal :=
  onAdmin s cmd (fun _ =>
    if s.fld F.tkStatOrigin ≠ 2 ∧ s.flag F.tkCtlHostts then
      ((s.setTime (timeMs * 1000000)).setFld F.tkStatOrigin 1).finish cmd St.ok
    else (s.event 0x0107 (timeMs % 2 ^ 32) (timeMs / 2 ^ 32)).finish cmd St.ok)

/-! ### Identify (R131, R134, R135, R137, R138) -/

/-- The CNS values that are supported. -/
def identifyCns (cns : Nat) : Bool :=
  [0x00, 0x01, 0x02, 0x03, 0x05, 0x06, 0x08, 0x10, 0x11, 0x12, 0x13, 0x1C].contains cns

/-- Identify Controller, the fields of R134 from CNTLID to NANAGRPID in the order of its table; the serial number is that of the
calibration row. -/
def identifyCtrl (fn : Nat) : List Nat :=
  [0x20000, fn + 1, 10, 25000000, 10000000, 0x80010, 0x2E, 3, 15, 0x14, 1, 20, 0x06, 255, 4, 1,
   if gradeB then 383 else 378, if gradeB then 388 else 383, 0x80000007, 0x66, 0x44, 1024, 1024, 0x1DF, 0, 0, 0x04, 0x06, 255, 255,
   0, 0, 1, 1, 1, 1] ++ (List.range 5).map (fun i => Config.calDword (2 + i))

/-- Identify Namespace: NSZE, NCAP, NUSE, NSFEAT.OPTPERF and NSABP, NLBAF, FLBAS, MC, DPC, DPS, NAWUN, NAWUPF, NABSN, NABO, NABSPF,
NPWG, NPWA, NPDG, NOWS, DLFEAT, ANAGRPID. -/
def Ns.identify (used : Nat) (n : Ns) : List Nat :=
  [n.size, n.size, used, 0x12, 2, n.lbaf, 0x03, 0x1F, n.pi + 8 * b2n n.piFirst, 255, 255, 255, 0, 255, 15, 255, 15, 255, 0, 1]

/-- The fields common to all namespaces, for NSID FFFF_FFFFh: sizes and FLBAS are 0 (R131). -/
def identifyCommon : List Nat := [0, 0, 0, 0x12, 2, 0, 0x03, 0x1F, 0, 255, 255, 255, 0, 255, 15, 255, 15, 255, 0, 0]

/-- The data of an Identify, or the status that refuses it. -/
def State.identify (s : State) (fn cns nsid cntid : Nat) : Except Status (List Nat) :=
  match cns with
  | 0x00 | 0x05 =>
    if nsid = 0xFFFFFFFF then .ok identifyCommon
    else if !(s.func fn).nss.contains nsid then (if Tab.has nsid s.nss then .ok (List.replicate 20 0) else .error St.badNamespace)
    else .ok (((Tab.find nsid s.nss).map (fun n => Ns.identify (s.nuse n) n)).getD (List.replicate 20 0))
  | 0x01 | 0x06 => .ok (identifyCtrl fn)
  | 0x02 => .ok ((s.func fn).nss.filter (fun n => decide (nsid < n)))
  | 0x03 => if Tab.has nsid s.nss then .ok ((List.range 8).map (Config.pageDword 3 nsid)) else .error St.badNamespace
  | 0x08 => .ok (((Tab.find nsid s.nss).map (fun n => Ns.identify (s.nuse n) n)).getD (List.replicate 20 0))
  | 0x10 => .ok ((s.nss.map (·.1)).filter (fun n => decide (nsid < n)))
  | 0x11 => .ok (((Tab.find nsid s.nss).map (fun n => Ns.identify (s.nuse n) n)).getD (List.replicate 20 0))
  | 0x12 => .ok (((List.range 1026).filter (fun i => (s.func i).nss.contains nsid && decide (cntid ≤ i + 1))).map (· + 1))
  | 0x13 => .ok (((List.range 1026).filter (fun i => decide (cntid ≤ i + 1))).map (· + 1))
  | 0x1C => .ok [1]
  | _ => .error St.badField

/-- IDENTIFY: the data of a supported CNS; any other completes with 02h (R131). -/
def execIdentify (cmd cns cntid : Nat) (s : State) : Host.Outcome State Fault Refusal :=
  onAdmin s cmd (fun k =>
    match s.identify k.fn cns k.sqe.nsid cntid with
    | .ok d => (s.send (.hostBuf cmd d)).finish cmd St.ok
    | .error e => s.finish cmd e)

/-! ### Directives (R131) -/

/-- The directives: Identify (00h) and Data Placement (02h); Streams (01h) is absent. -/
def directiveOk (dtype : Nat) : Bool := decide (dtype = 0) || decide (dtype = 2)

/-- DIRECTIVE_SEND: Enable Directive of the Identify directive; an operation or type that is absent completes with 02h. -/
def execDirectiveSend (cmd dtype doper _dspec cdw12 : Nat) (s : State) : Host.Outcome State Fault Refusal :=
  onAdmin s cmd (fun k =>
    if !(directiveOk dtype) ∨ dtype ≠ 0 ∨ doper ≠ 1 then s.finish cmd St.badField
    else if cdw12 / 256 % 256 ≠ 2 then s.finish cmd St.badField
    else (s.updFunc k.fn (fun f => { f with cfg := Tab.put 0x10000 (cdw12 % 2) f.cfg })).finish cmd St.ok)

/-- DIRECTIVE_RECEIVE: Return Parameters of the Identify directive: directives supported and enabled. -/
def execDirectiveReceive (cmd dtype doper _dspec : Nat) (s : State) : Host.Outcome State Fault Refusal :=
  onAdmin s cmd (fun k =>
    if !(directiveOk dtype) ∨ dtype ≠ 0 ∨ doper ≠ 1 then s.finish cmd St.badField
    else (s.send (.hostBuf cmd [0x5, 1 + 4 * Tab.getD 0x10000 0 (s.func k.fn).cfg])).finish cmd St.ok)

end Sys2Proof.Machine
end

