-- ==== Sys2Proof/Machine/Course.lean ====
section
/-! DEFINITION. Courses: forming, placing, rows and padding, programs and their failures, the program-safe point, closing
(R189 to R207). -/

namespace Sys2Proof.Machine

/-! ### Rows and members -/

/-- Slots on one wordline of a member. -/
def spw (slc : Bool) : Nat := if slc then 4 else 12

/-- A course by its sequence number. -/
def State.course (s : State) (n : Nat) : Option Course := Tab.find n s.crs.courses

/-- A course changed. -/
def State.updCourse (s : State) (n : Nat) (f : Course → Course) : State :=
  { s with crs := { s.crs with courses := Tab.upd n f s.crs.courses } }

/-- A member by position. -/
def Course.mem (c : Course) (pos : Nat) : Option Member := (c.members[pos]?).bind (fun m => m)

/-- A member replaced. -/
def Course.setMem (c : Course) (pos : Nat) (m : Member) : Course := { c with members := c.members.set pos (some m) }

/-- Slots that a member may still take: those up to the course's last row. -/
def Course.room (c : Course) (g : Geom) : Nat := Nat.min (g.slots c.slc) ((c.last + 1) * spw c.slc)

/-- Whether a member's wordline has all its slots placed. -/
def Member.full (m : Member) (g : Geom) (slc : Bool) (row : Nat) : Bool :=
  decide (Nat.min (g.slots slc) ((row + 1) * spw slc) ≤ m.next)

/-- Whether a member still serves a row (R205). -/
def Member.serves (m : Member) (row : Nat) : Bool := m.drop.all (fun d => decide (row < d))

/-- Whether a member has programmed enough for wordline `w` to be program-safe on its block (R203). -/
def Member.safe (m : Member) (g : Geom) (slc : Bool) (w : Nat) : Bool :=
  m.serves w && (if slc then decide (w < m.done) else decide (w + 1 < m.done) || (decide (w < m.done) && decide (m.done = g.wls)))

/-- Whether wordline `w` of a member of a course is program-safe: on its own block and on every parity block (R203). -/
def State.rowSafe (s : State) (n : Nat) (c : Course) (pos w : Nat) : Bool :=
  (c.mem pos).any (fun m => m.safe s.fl.geom c.slc w) &&
    (c.parityPos n).all (fun p => (c.mem p).all (fun m => m.safe s.fl.geom c.slc w))

/-- Whether a PSA is program-safe. A course that has been emptied is not listed; a slot of it was. -/
def State.psafe (s : State) (p : Nat) : Bool :=
  let b := s.blk (psaBlk p)
  match s.course b.course with
  | some c => s.rowSafe b.course c b.pos (psaSlot p / spw c.slc)
  | none => decide (b.course ≠ 0)

/-- Whether a run of slots is program-safe: its last slot is. -/
def State.runSafe (s : State) (p k : Nat) : Bool := s.psafe p && s.psafe (p + (k - 1))

/-! ### Forming courses (R190, R191, R243) -/

/-- Whether a die can supply a block for a band (R191). -/
def State.supplies (s : State) (band d : Nat) : Bool :=
  s.inSvc d && !(s.erasedOn d).isEmpty &&
    (decide (2 ≤ band) || (!(Tab.has d s.fl.slow) && decide (4 < (s.erasedOn d).length)))

/-- Whether a band forms courses at the present F (R192, R243). -/
def State.mayForm (s : State) (band : Nat) : Bool :=
  if band ≤ 1 then decide (4 < s.freeF) && (decide (band = 0) || decide (s.adm.start < s.freeF))
  else if band = 2 then decide (2 ≤ s.freeF) else true

/-- The open course of a band at a channel group and LUN rank. -/
def State.openAt (s : State) (band handle g l : Nat) : Option (Nat × Course) :=
  s.crs.courses.find? (fun p => !p.2.closed && decide (p.2.band = band) && decide (p.2.handle = handle) &&
    decide (p.2.group = g) && decide (p.2.rank = l))

/-- The die that a channel gives a course: that of the LUN rank, or of a rank that has not yet formed in the band (R191). -/
def State.pickDie (s : State) (band handle w g l i : Nat) : Option Nat :=
  let ch := g + i * (512 / w)
  if s.supplies band (16 * ch + l) then some (16 * ch + l)
  else ((List.range s.fl.ranks).find? (fun r => decide (r ≠ l) && (s.openAt band handle g r).isNone &&
    s.supplies band (16 * ch + r))).map (fun r => 16 * ch + r)

/-- A course opened on given blocks by position, with its records (R189, R258). -/
def State.openCourse (s : State) (w ply : Nat) (slc : Bool) (band handle g l : Nat) (bs : List (Option Nat)) : State :=
  let n := s.crs.lastSeq + 1
  let ms := bs.map (fun b => b.map (fun b => ({ die := b / 4096, blk := b % 4096, next := 0, iss := 0, done := 0, drop := none } : Member)))
  let c : Course := { w := w, ply := ply, slc := slc, band := band, handle := handle, group := g, rank := l, members := ms,
                      nextMem := 0, small := 0, smallWl := 0, last := s.fl.geom.wls - 1, closed := false, early := false,
                      closeEpoch := 0, closeTime := 0, moving := [] }
  let ps := (List.range w).filterMap (fun i => ((bs[i]?).bind (fun b => b)).map (fun b => (i, b)))
  let t := { s with crs := { s.crs with courses := Tab.put n c s.crs.courses, lastSeq := n } }
  let t := ps.foldl (fun t p => t.updBlk p.2 (fun x => { x with state := .opened, course := n, pos := p.1, level := 0 })) t
  let t := (t.setWord Reg.crsSeqLo (BitVec.ofNat 32 n)).setFld F.crsSeqHiSeq (n / 2 ^ 32)
  t.batch (ps.map (fun p => Rec.courseOpen n p.1 (p.2 / 4096) (p.2 % 4096) w (decide (ply = 2)) slc band handle))

/-- W and ply of a band's courses: the host-data layout, or 16 and 1 for journal, system and dump courses (R189, R265, R269, R275). -/
def State.bandLayout (s : State) (band : Nat) : Nat × Nat := if band ≤ 2 then s.layout else (16, 1)

/-- A course formed for a band: whole, or short of at most W / 8 members (R191). -/
def State.formCourse (s : State) (band handle g l : Nat) : Option State :=
  if !(s.mayForm band) then none
  else
    let (w, ply) := s.bandLayout band
    let ds := (List.range w).map (fun i => s.pickDie band handle w g l i)
    let bs := ds.map (fun d => d.bind s.leastWorn)
    if (bs.filter Option.isSome).length < w - w / 8 then none
    else
      let slc := decide (band = 1) || decide (3 ≤ band)
      let t := s.openCourse w ply slc band handle g l bs
      some ((if band = 1 then t.crsCnt 3 else if slc then t else t.crsCnt 2).noteF)

/-! ### Placing (R194) -/

/-- The band of a kind and handle, opened at its first place. -/
def State.bandOf (s : State) (kind handle : Nat) : Band :=
  (s.crs.bands.find? (fun b => decide (b.kind = kind) && decide (b.handle = handle))).getD ⟨kind, handle, 0⟩

/-- A band replaced. -/
def State.setBand (s : State) (b : Band) : State :=
  { s with crs := { s.crs with
      bands := (s.crs.bands.filter (fun x => !(decide (x.kind = b.kind) && decide (x.handle = b.handle)))) ++ [b] } }

/-- Whether a course has a data member with room for `k` slots, aligned to a page where asked. -/
def Course.fits (c : Course) (n : Nat) (g : Geom) (k : Nat) (page : Bool) : Bool :=
  (c.dataPos n).any (fun p => (c.mem p).any (fun m =>
    m.drop.isNone && decide ((if page then (m.next + 3) / 4 * 4 else m.next) + k ≤ c.room g)))

/-- The course that takes the next stitch of a band: the next place of the band whose course has room, forming it where there is none.
At most `fuel` places are tried. -/
def State.courseFor : Nat → Nat → Nat → Nat → Bool → State → Option (Nat × State)
  | 0, _, _, _, _, _ => none
  | fuel + 1, kind, handle, k, page, s =>
    let b := s.bandOf kind handle
    let groups := 512 / (s.bandLayout kind).1
    let p := b.next % Nat.max 1 (groups * s.fl.ranks)
    let t := s.setBand { b with next := p + 1 }
    match s.openAt kind handle (p % groups) (p / groups) with
    | some (n, c) => if c.fits n s.fl.geom k page then some (n, t) else State.courseFor fuel kind handle k page t
    | none =>
      match t.formCourse kind handle (p % groups) (p / groups) with
      | some u => some (u.crs.lastSeq, u)
      | none => State.courseFor fuel kind handle k page t

/-- The timers of a course's partial row, after a slot has been placed in it (R196). -/
def State.rowTimers (s : State) (n : Nat) : State :=
  let t := s.arm (.rowIdle n) (nsMs (s.fld F.crsCtlIdlems))
  if t.flag F.crsStatExposed then t.armOnce (.exposedRow n) (nsUs 200) else t

/-- Slots counted as placed by a band, for the ratio of R244: host slots, or reclaim slots. -/
def State.countPlaced (s : State) (band k : Nat) : State :=
  let h := if band ≤ 1 then s.crs.hostPlaced + k else s.crs.hostPlaced
  let r := if band = 2 then s.crs.rclPlaced + k else s.crs.rclPlaced
  if 16384 ≤ h + r then { s with crs := { s.crs with hostPlaced := 0, rclPlaced := 0 } }
  else { s with crs := { s.crs with hostPlaced := h, rclPlaced := r } }

/-- Codewords put at a place of a member; the slots passed over are padded. -/
def State.putAt (s : State) (n : Nat) (c : Course) (pos : Nat) (m : Member) (start : Nat) (cws : List Codeword) : Nat × State :=
  let p := psaOf m.die m.blk 0 0 + start
  let c := c.setMem pos { m with next := start + cws.length }
  let md := (List.range cws.length).foldl (fun md i => match cws[i]? with | some w => Tab.put (p + i) w md | none => md) s.crs.media
  let t := { s with crs := { s.crs with courses := Tab.put n c s.crs.courses, media := md } }
  (p, (((t.crsCnt 1 (start - m.next)).countPlaced c.band cws.length).rowTimers n))

/-- The first data index, from `i` on and round once, whose member has room for `k` slots. -/
def Course.memberFor (c : Course) (n : Nat) (g : Geom) (i k : Nat) (page : Bool) : Option (Nat × Nat × Member) :=
  let ps := c.dataPos n
  let order := (List.range ps.length).map (fun j => (i + j) % Nat.max 1 ps.length)
  order.findSome? (fun j => (ps[j]?).bind (fun p => (c.mem p).bind (fun m =>
    if m.drop.isNone && decide ((if page then (m.next + 3) / 4 * 4 else m.next) + k ≤ c.room g) then some (j, p, m) else none)))

/-- A run of codewords placed in a course: consecutive slots of the next data member with room, on a page boundary where asked. -/
def State.placeRun (s : State) (n : Nat) (page : Bool) (cws : List Codeword) : Option (Nat × State) :=
  (s.course n).bind (fun c =>
    (c.memberFor n s.fl.geom c.nextMem cws.length page).map (fun x =>
      s.putAt n { c with nextMem := x.1 + 1 } x.2.1 x.2.2 (if page then (x.2.2.next + 3) / 4 * 4 else x.2.2.next) cws))

/-- One slot of a part extent placed in the course's small-slot member, which moves on at each wordline boundary; slot 0 of an extent
starts a page. -/
def State.placeSmall (s : State) (n : Nat) (lba : Nat) (cw : Codeword) : Option (Nat × State) :=
  (s.course n).bind (fun c =>
    let page := decide (lba % 16 = 0)
    let at_ := fun (m : Member) => if page then (m.next + 3) / 4 * 4 else m.next
    let now := c.memberFor n s.fl.geom c.small 1 page
    let pick := match now with
      | some (i, p, m) =>
        if i = c.small ∧ c.smallWl ≠ 0 ∧ at_ m / spw c.slc + 1 ≠ c.smallWl then c.memberFor n s.fl.geom (c.small + 1) 1 page
        else some (i, p, m)
      | none => none
    pick.map (fun x =>
      s.putAt n { c with small := x.1, smallWl := at_ x.2.2 / spw c.slc + 1 } x.2.1 x.2.2 (at_ x.2.2) [cw]))

/-- A slot that continues, in LBA order, the last slot placed of the same extent goes directly after it while that place is free. -/
def State.placeAfter (s : State) (prev : Nat) (cw : Codeword) : Option (Nat × State) :=
  let b := s.blk (psaBlk prev)
  (s.course b.course).bind (fun c =>
    (c.mem b.pos).bind (fun m =>
      if !c.closed && m.drop.isNone && decide (m.next = psaSlot prev + 1) && decide (m.next < c.room s.fl.geom)
      then some (s.putAt b.course c b.pos m m.next [cw]) else none))

/-! ### Closing (R196, R207) -/

/-- The dropped members of a course, one bit per position. -/
def Course.droppedMask (c : Course) : Nat :=
  sumNat ((List.range c.w).map (fun p => if (c.mem p).any (fun m => m.drop.isSome) then 2 ^ p else 0))

/-- Block-table parts changed: 512 dies fill one (R270). COURSE_CLOSE names no die, and replays onto the parts of its course's members. -/
def State.touchParts (s : State) (dies : List Nat) : State :=
  { s with lif := { s.lif with touched := dies.foldl (fun l d => insertNew (8192 + d / 512) l) s.lif.touched } }

/-- A course closed: its blocks are closed, COURSE_CLOSE is recorded, and its successor is formed (R190, R196). EARLYSEEN is for the early
closes of R206 and R207, which have dropped members (R209). -/
def State.closeCourse (s : State) (n : Nat) (row : Nat) : State :=
  match s.course n with
  | none => s
  | some c =>
    let t := s.updCourse n (fun c => { c with closed := true, closeEpoch := s.fld F.mapEpochEpoch, closeTime := s.clk.mono })
    let t := c.present.foldl (fun t m => t.updBlk m.id (fun x => if x.state = .opened then { x with state := .closed } else x)) t
    let t := (t.cancel (.rowIdle n)).cancel (.exposedRow n)
    let t := t.batch [.courseClose n row c.early c.droppedMask]
    let t := (t.touchParts (c.present.map (fun m => m.id / 4096))).crsCnt 4
    let t := if c.early then t.crsCnt 5 else t
    let t := if c.early && decide (c.droppedMask ≠ 0) then t.setFlag F.crsStatEarlyseen else t
    let t := if c.band ≤ 2 then (t.formCourse c.band c.handle c.group c.rank).getD t else t
    t.settleCourse n

/-- Whether every member still serving has programmed the course's last row. -/
def Course.finished (c : Course) : Bool := c.present.all (fun m => m.drop.isSome || decide (c.last < m.done))

/-- Buffered slots placed in a course that are not yet program-safe, by PSA. -/
def State.unsafeIn (s : State) (n : Nat) : List Nat :=
  (s.buf.slots.filterMap (fun p => p.2.place)).filter (fun p => decide ((s.blk (psaBlk p)).course = n) && !(s.psafe p))

/-! ### Padding (R196) -/

/-- Every serving data member padded up to the end of a row. -/
def State.padTo (s : State) (n : Nat) (row : Nat) : State :=
  match s.course n with
  | none => s
  | some c =>
    let top := Nat.min (s.fl.geom.slots c.slc) ((row + 1) * spw c.slc)
    let pads := sumNat ((c.dataPos n).map (fun p => ((c.mem p).map (fun m => if m.serves row then top - m.next else 0)).getD 0))
    let c := (c.dataPos n).foldl (fun c p => match c.mem p with
      | some m => if m.serves row && decide (m.next < top) then c.setMem p { m with next := top } else c
      | none => c) c
    ((({ s with crs := { s.crs with courses := Tab.put n c s.crs.courses } } : State).crsCnt 1 pads).crsCnt 15)

/-- The highest row that has received data. -/
def Course.topRow (c : Course) (n : Nat) : Option Nat :=
  let m := maxNat ((c.dataPos n).map (fun p => ((c.mem p).map (·.next)).getD 0))
  if m = 0 then none else some ((m - 1) / spw c.slc)

/-- Whether every serving member has programmed a row. -/
def Course.rowDone (c : Course) (row : Nat) : Bool := c.present.all (fun m => !(m.serves row) || decide (row < m.done))

/-- A course's partial row padded; where there is none and slots of the row below wait for the program-safe point, the next row is
padded whole once that row has programmed. -/
def State.padRow (s : State) (n : Nat) : State :=
  match s.course n with
  | none => s
  | some c =>
    match c.topRow n with
    | none => s
    | some r =>
      let partly := (c.dataPos n).any (fun p => (c.mem p).any (fun m => m.serves r && !(m.full s.fl.geom c.slc r)))
      if partly then s.padTo n r
      else if !c.slc && c.rowDone r && decide (r + 1 ≤ c.last) && !(s.unsafeIn n).isEmpty then s.padTo n (r + 1)
      else s

/-- ROW_IDLE_TIMEOUT (R196). -/
def execRowIdleTimeout (course : Nat) (s : State) : Host.Outcome State Fault Refusal :=
  onTimer s (.rowIdle course) (fun t => t.padRow course)

/-- EXPOSED_ROW_TIMEOUT (R196). -/
def execExposedRowTimeout (course : Nat) (s : State) : Host.Outcome State Fault Refusal :=
  onTimer s (.exposedRow course) (fun t => if t.flag F.crsStatExposed then t.padRow course else t)

/-! ### The dump area (R275) -/

/-- The least-worn erased block of a die on a plane, for a die that can supply one on each of its four planes. -/
def State.planeBlock (s : State) (d q : Nat) : Option Nat :=
  let on := fun (p : Nat) => (s.erasedOn d).filter (fun b => decide (b % 4 = p))
  if !(s.inSvc d) || (List.range 4).any (fun p => (on p).isEmpty) then none
  else (on q).foldl (fun best b => match best with
    | none => some b
    | some a => if (s.blk b).ec < (s.blk a).ec then some b else some a) none

/-- The dump area formed: four bands of W = 16, ply 1 in SLC mode, one for each plane; a group short of 14 dies sits out. -/
def State.formDump (s : State) : State :=
  let places := (List.range s.fl.ranks).flatMap (fun l => (List.range 32).flatMap (fun g => (List.range 4).map (fun q => (l, g, q))))
  let before := s.crs.lastSeq
  let t := places.foldl (fun t p =>
    let bs := (List.range 16).map (fun i => s.planeBlock (16 * (p.2.1 + 32 * i) + p.1) p.2.2)
    if (bs.filter Option.isSome).length < 14 then t else t.openCourse 16 1 true 6 p.2.2 p.2.1 p.1 bs) s
  if t.crs.lastSeq = before then t
  else
    let bs := (t.crs.courses.filter (fun p => decide (before < p.1) && decide (p.2.band = 6))).flatMap (fun p => p.2.present.map (·.id))
    ({ t with dump := { t.dump with formed := true, gen := t.dump.gen + 1, blocks := bs } } : State).noteF

/-! ### Programs (R196, R203) -/

/-- A timeout in ns of an operation with a maximum time (R293). -/
def State.opTimeout (s : State) (die max : Nat) : Nat := max * s.fld (F.sknPollTomult (die / 1024)) / 10

/-- Whether a member's next wordline may be issued: a data member's once its slots are placed, parity once every data member of the row
has passed (R196). -/
def State.mayIssue (s : State) (n : Nat) (c : Course) (pos : Nat) (m : Member) : Bool :=
  let row := m.iss
  decide (m.iss = m.done) && m.serves row && decide (row ≤ c.last) && s.dieFree m.die &&
    (if (c.parityPos n).contains pos then
       (c.dataPos n).all (fun p => (c.mem p).all (fun d => !(d.serves row) || decide (row < d.done)))
     else m.full s.fl.geom c.slc row)

/-- The lowest level among the commands whose slots a member's wordline carries; 6 for pads alone (R196). -/
def State.rowLevel (s : State) (b row : Nat) (slc : Bool) : Nat :=
  let cs := (s.buf.slots.filter (fun p => p.2.place.any (fun q => decide (psaBlk q = b) && decide (psaSlot q / spw slc ≤ row) &&
    !(s.psafe q)))).map (fun p => ((s.cmd p.2.cmd).map (·.level)).getD 4)
  (minNat? cs).getD 6

/-- ROW_PROGRAM_ISSUE: a member's wordline, or a row's parity, goes to its die (R196). -/
def execRowProgramIssue (course pos : Nat) (s : State) : Host.Outcome State Fault Refusal :=
  match s.course course with
  | none => .fault .noSuchObject
  | some c =>
    match c.mem pos with
    | none => .fault .noSuchObject
    | some m =>
      let op : FlashOp := { kind := 1, obj := course, pos := pos, start := s.clk.mono, suspended := false, suspends := 0,
                            level := if 3 ≤ c.band then 0 else s.rowLevel m.id m.iss c.slc }
      let t := s.updCourse course (fun c => c.setMem pos { m with iss := m.iss + 1 })
      let t := { t with fl := { t.fl with ops := Tab.put m.die op t.fl.ops } }
      let t := (t.sknCnt m.die 2).sknCnt m.die 11
      guarded (!c.closed && s.mayIssue course c pos m) .noSuchObject
        (t.arm (.flashOp m.die) (t.opTimeout m.die (if c.slc then t.fl.geom.tpSlcMax else t.fl.geom.tpMax)))

/-- A die's operation over: it is free again. -/
def State.opEnd (s : State) (die : Nat) : State :=
  ({ s with fl := { s.fl with ops := Tab.del die s.fl.ops } } : State).cancel (.flashOp die)

/-- The program in progress on a member's die, if it is that member's. -/
def State.programOf (s : State) (course pos : Nat) : Option (Course × Member) :=
  (s.course course).bind (fun c => (c.mem pos).bind (fun m =>
    if (Tab.find m.die s.fl.ops).any (fun o => decide (o.kind = 1) && decide (o.obj = course) && decide (o.pos = pos) && !o.suspended)
    then some (c, m) else none))

/-- PROGRAM_COMPLETE: pass status. The program-safe points move; in exposed mode a row above waiting slots is padded at once; after its
last row the course closes (R196, R203). -/
def execProgramComplete (course pos : Nat) (s : State) : Host.Outcome State Fault Refusal :=
  withSome (s.programOf course pos) (fun x =>
    let m := x.2
    let t := (s.opEnd m.die).updCourse course (fun c => c.setMem pos { m with done := m.iss })
    let par := (x.1.parityPos course).contains pos
    let t := if par then t.crsCnt 7 (if x.1.slc then 1 else 3) else t.crsCnt 6
    match t.course course with
    | none => t
    | some c =>
      let t := { t with crs := { t.crs with
          allProg := t.crs.allProg + spw c.slc, hostProg := if c.band ≤ 1 then t.crs.hostProg + spw c.slc else t.crs.hostProg } }
      if c.finished && (decide (c.band ≤ 2) || decide (c.band = 5)) then t.closeCourse course c.last
      else if c.rowDone (m.iss - 1) && !(t.unsafeIn course).isEmpty then
        (if t.flag F.crsStatExposed then t.padRow course else t.armOnce (.rowIdle course) (nsMs (t.fld F.crsCtlIdlems)))
      else t)

end Sys2Proof.Machine
end

