-- ==== Sys2Proof/Machine/Write.lean ====
section
/-! DEFINITION. The write buffer and the acknowledgement rule, placing of host data, read-modify-writes, unit updates, protected and
exposed mode, program failures (R173, R183 to R207, R502, R503). -/

namespace Sys2Proof.Machine

/-! ### Limit, admission (R183, R244, R502, R503) -/

/-- The write-buffer limit in slots (vendor feature C0h). -/
def State.bufLimit (s : State) : Nat := s.adm.limit * 65536

/-- Slots counted against the limit: buffered, reserved, and read-modify-write images (R183). -/
def State.bufUsed (s : State) : Nat :=
  s.buf.slots.length + sumNat (s.buf.resv.map (·.2)) + 16 * s.crs.rmws.length

/-- Slots that a function's writes hold. -/
def State.bufOf (s : State) (fn : Nat) : Nat := (s.buf.slots.filter (fun p => p.2.fn = fn)).length

/-- Host slots admitted per reclaim slot at a tension level, as a fraction (R244). -/
def tensionRatio (n : Nat) : Nat × Nat :=
  match n with
  | 1 => (8, 1) | 2 => (4, 1) | 3 => (2, 1) | 4 => (1, 1) | 5 => (1, 2) | 6 => (1, 4) | _ => (1, 8)

/-- Whether write tension admits host slots now: always at level 0, by its share of the present 64 MiB while reclamation has copy work
queued, never at F ≤ 4 (R244, R245). -/
def State.tensionAdmits (s : State) : Bool :=
  let n := s.fld F.rclTensionLevel
  let (a, b) := tensionRatio n
  decide (4 < s.freeF) && (decide (n = 0) || (s.crs.victims.isEmpty && s.crs.copies.isEmpty) ||
    decide (s.crs.hostPlaced * (a + b) < 16384 * a))

/-- Either journal copy holds 49 courses or more (R267). -/
def State.journalFull (s : State) : Bool := decide (49 ≤ s.lif.copyA.courses.length) || decide (49 ≤ s.lif.copyB.courses.length)

/-- Whether an earlier write waits for buffer space in a way that holds a later one: one of its own function, or any held by the
shared limit (R502). -/
def State.earlierWaits (s : State) (c fn : Nat) : Bool :=
  s.q.stitches.any (fun p => decide (p.2.phase = .parked 4) && decide (p.2.cmd < c) &&
    ((s.cmd p.2.cmd).any (fun k => decide (k.fn = fn) || decide (s.bufOf k.fn < s.bufLimit / 2))))

/-- Whether a write of `n` slots is admitted to the buffer. -/
def State.admits (s : State) (c fn n : Nat) : Bool :=
  decide (s.bufUsed + n ≤ s.bufLimit) && decide (s.bufOf fn + n ≤ s.bufLimit / 2) && s.tensionAdmits && !s.journalFull &&
    !(s.earlierWaits c fn)

/-- A write held back: its stitches park under reason 4, with the counts of what holds it (R111, R245, R267). -/
def State.holdWrite (s : State) (c : Nat) : State :=
  let t := (s.parkAll c 4).crsCnt 18
  let t := if s.journalFull then (t.setFlag F.lifStatJfullseen).lifCnt 21 else t
  if s.tensionAdmits then t else t.rclCnt 9

/-! ### Protected and exposed mode (R184, R185, R274) -/

/-- t_HOLD in units of 0.1 ms for the present limit and dies in service (R274). -/
def State.holdNeed (s : State) : Nat :=
  let t := s.fl.geom.tpSlc + 5000
  let n := s.diesUp * 61440
  if 716 * t ≤ n then 30 + (15 * s.adm.limit + 3) / 4
  else if n = 0 then 1023
  else Nat.min 1023 (30 + (15 * s.adm.limit * 716 * t + 4 * n - 1) / (4 * n))

/-- The lowest-numbered cause for which protected mode cannot hold; 0 when all four conditions hold. -/
def State.exposedCause (s : State) : Nat :=
  if !(s.flag F.lifStatHoldok) then 1
  else if s.fld F.lifHoldupDecl = 0 then 2
  else if s.fld F.lifHoldupDecl < s.holdNeed then 3
  else if !s.dump.formed then 4
  else 0

/-- Entry to exposed mode (R185). -/
def State.enterExposed (s : State) (cause : Nat) : State :=
  let t := ((s.setFlag F.crsStatExposed).setFlag F.crsStatExposedseen).setFld F.crsExpCause cause
  let t := ((t.addSat F.crsExpEntries 1).crsCnt 19).event 0x0401 cause
  let t := t.critWarn 4
  (((t.crs.courses.filter (fun p => !p.2.closed && decide (p.2.band ≤ 2))).map (·.1)).foldl (fun t n =>
    t.armOnce (.exposedRow n) (nsUs 200)) t).noteC0

/-- The conditions of R184 tested after any of them may have changed: entry at once, or the 1 s count, which a failing condition stops. -/
def State.protCheck (s : State) : State :=
  let c := s.exposedCause
  if !(s.flag F.crsStatExposed) then (if c = 0 then s else s.enterExposed c)
  else if c = 0 then s.armOnce .protectedMode (nsSec 1)
  else s.cancel .protectedMode

/-- HOLD_OK_DEASSERT (R185). -/
def execHoldOkDeassert (s : State) : Host.Outcome State Fault Refusal := .next ((s.clrFlag F.lifStatHoldok).protCheck)

/-- HOLD_OK_ASSERT (R185). -/
def execHoldOkAssert (s : State) : Host.Outcome State Fault Refusal := .next ((s.setFlag F.lifStatHoldok).protCheck)

/-- A completed write of the exposed rule, or a command whose failure was noted, finished (R187). -/
def State.finishWrite (s : State) (c : Nat) : State :=
  match s.cmd c with
  | some k => if k.phase = .waitDurable then
      match k.failure with
      | some st => s.finish c st
      | none => (s.finish c St.ok).crsCnt 20
    else s
  | none => s

/-- PROTECTED_MODE_TIMER: all four conditions have held for 1 s; fully buffered writes that waited get their completions (R185). -/
def execProtectedModeTimer (s : State) : Host.Outcome State Fault Refusal :=
  onTimer s .protectedMode (fun t =>
    if t.exposedCause ≠ 0 then t
    else
      let t := ((t.clrFlag F.crsStatExposed).critClear 4).noteC0
      (t.q.cmds.filter (fun p => !p.2.admin && p.2.buffered && p.2.exposed && decide (p.2.failure = none))).foldl (fun t p => t.finishWrite p.1) t)

/-! ### Staging (R201) -/

/-- Staged slots that the map references. -/
def State.stagedSlots (s : State) : Nat := sumNat ((s.crs.courses.filter (fun p => p.2.band = 1)).map (fun p => s.courseValid p.2))

/-- Whether staging may be used at all. -/
def State.stagingAllowed (s : State) : Bool :=
  s.adm.fdp.isNone && decide (s.fld F.rclTensionLevel = 0) && decide (s.stagedSlots < s.fld F.crsStageLimit * 16777216)

/-- Host placement turned to or from SLC mode. -/
def State.noteStaging (s : State) : State :=
  let mode := s.fld F.crsCtlStage
  let b := 100 * s.buf.slots.length
  let now := s.flag F.crsStatStaging
  let want := if mode = 1 then false else if mode = 2 then true
    else decide (s.fld F.crsStageOn * s.bufLimit < b) || (now && decide (s.fld F.crsStageOff * s.bufLimit ≤ b))
  let t := if s.fld F.crsStageLimit * 16777216 ≤ s.stagedSlots ∧ s.fld F.crsStageLimit ≠ 0 then s.setFlag F.crsStatStgfullseen else s
  t.putFlag F.crsStatStaging (want && s.stagingAllowed)

/-- The band that host data goes to: staging, host data, or the reclaim band in read-only mode (R190, R201, R252). -/
def State.hostBand (s : State) : Nat := if s.flag F.rclRoRo then 2 else if s.flag F.crsStatStaging then 1 else 0

/-! ### Stored slots -/

/-- The codeword at a PSA. -/
def State.codeword (s : State) (p : Nat) : Option Codeword := Tab.find p s.crs.media

/-- The seed of a namespace (R434); 0 where it has none. -/
def State.seedOf (s : State) (nsid : Nat) : Nat := Tab.getD nsid 0 s.keys.seeds

/-- Data and metadata of slot `i` of an extent's entries, as flash holds them; unwritten slots and marks are zeros. -/
def State.slotData (s : State) (x : Ext) (i : Nat) : Nat × Nat :=
  match x.look i with
  | .flash p => (((s.codeword p).bind (fun w => w.data[0]?))).getD (0, 0)
  | .frame a _ j => (((s.codeword a).bind (fun w => w.data[j]?))).getD (0, 0)
  | _ => (0, 0)

/-- The codeword of one host slot (R212, R213). -/
def hostWord (nsid lba data mdata key : Nat) : Codeword :=
  { type := 0, nsid := nsid, tag := lba, fidx := 0, data := [(data, mdata)], key := key }

/-- The codewords of a compressed frame of `k` slots: the first carries the extent's content. -/
def frameWords (nsid lba k : Nat) (ds : List (Nat × Nat)) (key : Nat) : List Codeword :=
  (List.range k).map (fun i => { type := 1, nsid := nsid, tag := lba, fidx := i, data := if i = 0 then ds else [], key := key })

/-- The codewords of sixteen slots stored as a run. -/
def runWords (nsid lba : Nat) (ds : List (Nat × Nat)) (key : Nat) : List Codeword :=
  (List.range 16).map (fun i => let d := (ds[i]?).getD (0, 0); hostWord nsid (lba + i) d.1 d.2 key)

/-- A counter of R346 raised; it wraps. -/
def State.cmpCnt (s : State) (n : Nat) (k : Nat := 1) : State := s.addWrap (F.cmpCntCount n) k

/-- A rejected frame noted (R342, R346): the object, the KIND of R341, the self-test's failing unit. Which 4 KiB failed and the frame's SEQ are
not stated by anything the model holds: free values. -/
def State.rejectFrame (s : State) (obj kind unit : Nat) : State :=
  let (u, t) := s.draw
  let (q, t) := t.draw
  let t := ((t.setFld F.cmpErrlogValid 1).setFld F.cmpErrlogKind kind).setFld F.cmpErrlogObj obj
  let t := (t.setFld F.cmpErrlogUnit (if kind = 5 ∧ (obj = 0 ∨ obj = 4) then u % 16 else 0)).setFld F.cmpErrseqSeq q
  ((t.setFlag F.cmpStatBadseen).cmpCnt (10 + kind)).event 0x0A01 (t.word Reg.cmpErrlog).toNat (q % 2 ^ 32) unit

/-- DEFLATE blocks emitted for one piece of work: how many of each type is a matter of the data, free values (R331, R346). -/
def State.emitBlocks (s : State) : State :=
  let (a, t) := s.draw
  let (b, t) := t.draw
  let (c, t) := t.draw
  ((t.cmpCnt 16 a).cmpCnt 17 b).cmpCnt 18 c

/-- Frames decompressed whose number nothing of the model holds: a free value (R346). -/
def State.framesRead (s : State) : State := let (n, t) := s.draw; t.cmpCnt 9 n

/-- A whole extent offered to the compressor, its frame decoded again: the slots of the frame, 0 where it is stored as a run. In what way a frame
decodes wrongly is free (R338, R339, R341). -/
def State.compress (s : State) (lba : Nat) (ds : List (Nat × Nat)) (o : CmpOutcome) : Nat × State :=
  let t := ((s.cmpCnt 0).emitBlocks).cmpCnt 9
  if o.badVerify.contains lba then
    let (v, t) := t.draw
    (0, ((t.setFlag F.cmpStatVerifyseen).cmpCnt 4).rejectFrame 4 (v % 6) 0)
  else
    let k := Config.compressedSlots (ds.map (·.1))
    if 1 ≤ k ∧ k ≤ 15 then (k, t.cmpCnt 1) else (0, t.cmpCnt 2)

/-! ### Placing host slots (R194, R195) -/

/-- A buffered slot changed. -/
def State.updSlot (s : State) (id : Nat) (f : BufSlot → BufSlot) : State :=
  { s with buf := { s.buf with slots := Tab.upd id f s.buf.slots } }

/-- A band's course for the next stitch. -/
def State.nextCourse (s : State) (kind handle k : Nat) (page : Bool) : Option (Nat × State) :=
  State.courseFor (Nat.max 1 (512 / s.layout.1 * s.fl.ranks)) kind handle k page s

/-- A run placed in a band: in the course the stitch goes to where it has room, else in the band's next. -/
def State.placeIn (s : State) (course : Option Nat) (kind handle : Nat) (page : Bool) (cws : List Codeword) : Option (Nat × State) :=
  match course.bind (fun n => s.placeRun n page cws) with
  | some r => some r
  | none => (s.nextCourse kind handle cws.length page).bind (fun x => x.2.placeRun x.1 page cws)

/-- One slot of a part extent placed: directly after the last slot of its extent in LBA order, or in the small-slot member. -/
def State.placeOne (s : State) (course : Option Nat) (kind handle : Nat) (b : BufSlot) : Option (Nat × State) :=
  let cw := hostWord b.nsid b.lba b.data b.mdata (s.seedOf b.nsid)
  let prev := if b.lba % 16 = 0 then none
    else ((s.buf.slots.filter (fun p => decide (p.2.nsid = b.nsid) && decide (p.2.lba + 1 = b.lba) && decide (p.2.frame = 0))).getLast?).bind (·.2.place)
  match prev.bind (fun p => s.placeAfter p cw) with
  | some r => some r
  | none =>
    match course.bind (fun n => s.placeSmall n b.lba cw) with
    | some r => some r
    | none => (s.nextCourse kind handle 1 (b.lba % 16 = 0)).bind (fun x => x.2.placeSmall x.1 b.lba cw)

/-- The slots of a command in one extent, not yet applied or placed, in LBA order, with their ids. -/
def State.slotsIn (s : State) (c nsid lba n : Nat) : List (Nat × BufSlot) :=
  s.buf.slots.filter (fun p => decide (p.2.cmd = c) && decide (p.2.nsid = nsid) && covers lba n p.2.lba && !p.2.applied)

/-- Whole extents: a frame or a run; the slots of a part extent one by one. Slots for which no course has room stay unplaced. -/
def State.placeExtent (s : State) (c nsid lba handle : Nat) (course : Option Nat) (cmp : Bool) (o : CmpOutcome) : State :=
  let ps := (s.slotsIn c nsid lba 16).filter (fun p => p.2.place.isNone)
  let kind := s.hostBand
  if ps.length = 16 ∧ !(ps.any (·.2.lost)) then
    let ds := ps.map (fun p => (p.2.data, p.2.mdata))
    let (k, t) := if cmp then s.compress lba ds o else (0, s)
    let cws := if k = 0 then runWords nsid lba ds (s.seedOf nsid) else frameWords nsid lba k ds (s.seedOf nsid)
    match t.placeIn course kind handle (k = 0) cws with
    | some (p, u) =>
      let u := u.crsCnt 0 cws.length
      let u := if kind = 1 then u.crsCnt 16 cws.length else u
      (List.range 16).foldl (fun u i => match ps[i]? with
        | some q => u.updSlot q.1 (fun b => { b with place := some (if k = 0 then p + i else p), frame := k })
        | none => u) u
    | none => t
  else
    ps.foldl (fun t p =>
      match t.placeOne course kind handle p.2 with
      | some (q, u) =>
        let u := u.crsCnt 0
        (if kind = 1 then u.crsCnt 16 else u).updSlot p.1 (fun b => { b with place := some q, frame := 0 })
      | none => t) s

/-! ### Read-modify-writes (R165, R173, R176) -/

/-- Whether a write of part of an extent is carried out by read-modify-write: into a compressed extent, in a namespace with compression
enabled, and in the RMW state into an extent of kind 00b or 11b. -/
def State.needsRmw (s : State) (e : Nat) (cmp : Bool) : Bool :=
  match s.ext e with
  | .frame _ _ => true
  | .fine _ => cmp
  | _ => cmp || decide (s.pool = 3)

/-- The image of a read-modify-write: the old slots under the host's. -/
def State.rmwImage (s : State) (r : Rmw) : List (Nat × Nat) :=
  let mine := s.slotsIn r.cmd r.nsid r.lba 16
  (List.range 16).map (fun i =>
    match (mine.filter (fun p => p.2.lba = r.lba + i)).getLast? with
    | some p => (p.2.data, p.2.mdata)
    | none => if r.bad.contains i then (0, 0) else s.slotData r.seen i)

/-- A read-modify-write's image placed in the reclaim band: as a frame where compression is wanted and fits, else as a run. -/
def State.placeRmw (s : State) (id : Nat) (r : Rmw) (cmp : Bool) : State :=
  let ds := s.rmwImage r
  let plain := !cmp || !r.marks.isEmpty || !r.bad.isEmpty
  let (k, t) := if plain then (0, s) else s.compress r.lba ds ⟨false, [], []⟩
  let cws := if k = 0 then runWords r.nsid r.lba ds (s.seedOf r.nsid) else frameWords r.nsid r.lba k ds (s.seedOf r.nsid)
  let (pl, t) := match t.placeIn none 2 0 (k = 0) cws with
    | some (p, u) => (some p, u)
    | none => (none, t)
  { t with crs := { t.crs with rmws := Tab.put id { r with place := pl, frame := k } t.crs.rmws } }

/-- A read-modify-write started for an extent, unless one of the same command runs (R173). -/
def State.startRmw (s : State) (c nsid e lba : Nat) (marks : List Nat) (cmp : Bool) : State :=
  if s.crs.rmws.any (fun p => decide (p.2.cmd = c) && decide (p.2.e = e)) then s
  else
    let id := s.crs.nextJob
    let x := s.ext e
    let t := match x with | .frame _ _ => s.mapCnt 13 | _ => if cmp then s.mapCnt 13 else s.mapCnt 14
    let r : Rmw := { cmd := c, nsid := nsid, e := e, lba := lba, seen := x, place := none, frame := 0, bad := [], marks := marks, restarts := 0 }
    ({ t with crs := { t.crs with nextJob := id + 1 } } : State).placeRmw id r cmp

/-- The slots of one stitch placed: to one course of the band, extent by extent; part extents that need it by read-modify-write. -/
def State.placeStitch (s : State) (c nsid : Nat) (n : Ns) (first count handle : Nat) (cmp : Bool) (o : CmpOutcome) : State :=
  let (course, t) := match s.nextCourse s.hostBand handle 16 true with
    | some (k, u) => (some k, u)
    | none => (none, s)
  (pieces 16 first count).foldl (fun t p =>
    let lba := p.1 / 16 * 16
    match n.index p.1 with
    | some e => if p.2 ≠ 16 ∧ t.needsRmw e cmp then t.startRmw c nsid e lba [] cmp
                else if p.2 = 16 ∧ cmp ∧ o.busy then
                  match (t.slotsIn c nsid lba 1).head? with
                  | some q => t.arm (.cmpBypass q.1) (nsUs (t.fld F.cmpBypUs))
                  | none => t
                else t.placeExtent c nsid lba handle course cmp o
    | none => t) t

/-- Slots of every command left without a place are placed as courses become available (R194, R205). -/
def State.placeWaiting (s : State) : State :=
  let ps := s.buf.slots.filter (fun p => p.2.place.isNone && !p.2.applied && !p.2.lost)
  ps.foldl (fun t p =>
    if t.crs.rmws.any (fun r => decide (r.2.cmd = p.2.cmd) && decide (r.2.nsid = p.2.nsid) && decide (r.2.lba = p.2.lba / 16 * 16)) then t
    else t.placeExtent p.2.cmd p.2.nsid (p.2.lba / 16 * 16) 0 none false ⟨false, [], []⟩) s

/-! ### Buffering (R20 steps 2 and 3) -/

/-- Slots put in the buffer. -/
def State.bufferSlots (s : State) (c fn nsid slba : Nat) (ds : List (Nat × Nat)) : State :=
  let b := s.buf
  let new := (List.range ds.length).map (fun i =>
    let d := (ds[i]?).getD (0, 0)
    (b.nextId + i, ({ cmd := c, fn := fn, nsid := nsid, lba := slba + i, data := d.1, mdata := d.2, place := none, frame := 0,
                      applied := false, group := 0, lost := false, again := false } : BufSlot)))
  { s with buf := { b with slots := b.slots ++ new, nextId := b.nextId + ds.length, resv := Tab.del c b.resv } }

/-- A write whose every stitch is buffered: in protected mode it completes, in exposed mode it waits (R117, R184). -/
def State.fullyBuffered (s : State) (c : Nat) : State :=
  let t := s.updCmd c (fun k => { k with buffered := true, exposed := s.flag F.crsStatExposed })
  if s.flag F.crsStatExposed then (t.updCmd c (fun k => { k with phase := .waitDurable })).dropStitches c
  else t.finish c St.ok

/-- Whether a command waits for an earlier one before its updates may apply: an overlapping write not applied or a read not resolved
(R115). -/
def State.earlierLocks (s : State) (c : Nat) (write : Bool) : List Lock :=
  let mine := s.q.locks.filter (fun l => decide (l.cmd = c) && l.write)
  s.q.locks.filter (fun l => decide (l.cmd < c) && decide (l.write = write) && mine.any (fun m => m.conflicts l))

/-- The data of a write's slots buffered, its stitches placed and its completion decided. -/
def State.bufferWrite (s : State) (c : Nat) (k : Cmd) (n : Ns) (slba nlb handle : Nat) (ds : List (Nat × Nat)) (o : CmpOutcome) : State :=
  let t := s.bufferSlots c k.fn k.sqe.nsid slba ds
  let t := { t with adm := { t.adm with writes := t.adm.writes + 1 } }
  let t := if (t.earlierLocks c false).isEmpty then t else t.qenCnt 8
  let t := if (t.earlierLocks c true).isEmpty then t else t.qenCnt 9
  let t := (pieces stitchSpan slba nlb).foldl (fun t p => t.placeStitch c k.sqe.nsid n p.1 p.2 handle k.cmpEn o) t
  (t.fullyBuffered c).noteStaging

/-- What refuses a range of LBAs of a namespace: too long, or past its end (R133). -/
def Ns.refuses (n : Ns) (slba nlb most : Nat) : Option Status :=
  if nlb = 0 ∨ most < nlb then some St.badField
  else if n.size < slba + nlb then some St.lbaRange
  else none

/-- The protection error of data at ingress, by the fields that PRCHK selects; type 3 reference tags are not checked (R136). -/
def Ns.ingress (n : Ns) (prchk : Nat) (ds : List HostSlot) : Option Status :=
  if n.pi = 0 then none
  else if prchk.testBit 2 && ds.any (fun d => !d.guardOk) then some St.guardCheck
  else if prchk.testBit 1 && ds.any (fun d => !d.appOk) then some St.appCheck
  else if prchk.testBit 0 && decide (n.pi ≠ 3) && ds.any (fun d => !d.refOk) then some St.refCheck
  else none

/-- The reclaim unit handle of a write: that of its placement handle, or of handle 0 (R140); `none` where the namespace has none such. -/
def State.handleOf (s : State) (n : Ns) (q : Sqe) : Option Nat :=
  match s.adm.fdp with
  | none => some 0
  | some _ => n.handles[q.ph.getD 0]?

/-- A write refused before its data is read: its length or range, its placement handle, read-only mode, a lost seed table or segment
(R133, R140, R179, R252, R283). -/
def State.writeRefused (s : State) (k : Cmd) (n : Ns) : Option Status :=
  match n.refuses k.sqe.slba k.sqe.nlb 1024 with
  | some st => some st
  | none =>
    if (s.handleOf n k.sqe).isNone then some St.badField
    else if s.flag F.rclRoRo then some St.writeProtected
    else if s.adm.degraded.contains 6 ∨ (n.segs k.sqe.slba k.sqe.nlb).any s.segLost then some St.internal
    else none

/-- The waiting of a write whose stitches cannot begin: any parked for another reason than buffer space. -/
def State.stitchHeld (s : State) (c : Nat) : Bool :=
  s.q.stitches.any (fun p => decide (p.2.cmd = c) && (match p.2.phase with | .parked r => decide (r ≠ 4) | _ => false))

/-- Whether a request sent for a command is still to be answered (R88). -/
def State.dmaWaits (s : State) (c : Nat) : Bool :=
  s.hif.reqs.any (fun r => !r.orphan && (match r.kind with
    | .sqFetch => false
    | .translation => (Tab.find r.obj s.q.stitches).any (fun x => decide (x.cmd = c))
    | _ => decide (r.obj = c)))

/-- Parked stitches of a command made ready again (R112). -/
def State.unpark (s : State) (c : Nat) : State :=
  (s.q.stitches.filter (fun p => decide (p.2.cmd = c) && (match p.2.phase with | .parked _ => true | _ => false))).foldl (fun t p =>
    ({ t with q := { t.q with stitches := Tab.put p.1 { p.2 with phase := .ready, since := t.clk.mono } t.q.stitches } } : State).qenCnt 6) s

/-- WRITE: the host data is read into the buffer with its check values and placed; the completion follows the protected or the exposed
rule. A write that finds no room or is held by tension parks under reason 4 (R20, R183, R184, R194, R245). -/
def execWrite (cmd : Nat) (data : List HostSlot) (cmp : CmpOutcome) (s : State) : Host.Outcome State Fault Refusal :=
  onNs s cmd 0x01 (fun k n =>
    match s.writeRefused k n with
    | some st => if st = St.writeProtected then (s.failWrite cmd st).rclCnt 10 else s.failWrite cmd st
    | none =>
      if s.stitchHeld cmd || s.dmaWaits cmd then s
      else if !(s.admits cmd k.fn k.sqe.nlb) then s.holdWrite cmd
      else
        match n.ingress k.sqe.prchk data with
        | some st => s.failWrite cmd st
        | none =>
          if !cmp.badInput.isEmpty && k.cmpEn then (s.failWrite cmd St.dataTransfer).cmpCnt 5
          else
            (s.unpark cmd).bufferWrite cmd k n k.sqe.slba k.sqe.nlb ((s.handleOf n k.sqe).getD 0)
              ((List.range k.sqe.nlb).map (fun i => ((data[i]?).map (fun d => (d.data, d.meta_))).getD (0, 0))) cmp)

/-- WRITE_ZEROES: zeros through the write path; DEAC is ignored (R132). -/
def execWriteZeroes (cmd : Nat) (s : State) : Host.Outcome State Fault Refusal :=
  onNs s cmd 0x08 (fun k n =>
    match s.writeRefused k n with
    | some st => if st = St.writeProtected then (s.failWrite cmd st).rclCnt 10 else s.failWrite cmd st
    | none =>
      if !(s.admits cmd k.fn k.sqe.nlb) then s.holdWrite cmd
      else (s.unpark cmd).bufferWrite cmd k n k.sqe.slba k.sqe.nlb ((s.handleOf n k.sqe).getD 0) (List.replicate k.sqe.nlb (0, 0))
        ⟨false, [], []⟩)

/-- CMP_BYPASS_TIMEOUT: an extent that has waited CMP_BYP.US for a compressor is stored uncompressed; it is named by its first buffered
slot (R339). -/
def execCmpBypassTimeout (slot : Nat) (s : State) : Host.Outcome State Fault Refusal :=
  onTimer s (.cmpBypass slot) (fun t =>
    match Tab.find slot t.buf.slots with
    | some b => (((t.setFlag F.cmpStatBypseen).cmpCnt 0).cmpCnt 3).placeExtent b.cmd b.nsid b.lba 0 none false ⟨false, [], []⟩
    | none => t)

/-- The extents that wait for a compressor, by first slot, oldest wait first. -/
def State.cmpWaiting (s : State) : List Nat := s.timers.filterMap (fun t => match t.id with | .cmpBypass i => some i | _ => none)

/-! ### Map updates (R165, R187, R204) -/

/-- The buffered slots of a unit of a command whose update has not applied. -/
def State.unitSlots (s : State) (c nsid unit : Nat) : List (Nat × BufSlot) := s.slotsIn c nsid (256 * unit) 256

/-- Whether an extent of a unit is carried by a read-modify-write. -/
def State.rmwOf (s : State) (c nsid lba : Nat) : Option (Nat × Rmw) :=
  s.crs.rmws.find? (fun p => decide (p.2.cmd = c) && decide (p.2.nsid = nsid) && decide (p.2.lba = lba))

/-- Whether a buffered slot is program-safe, or lost, or carried by a read-modify-write. -/
def State.slotReady (s : State) (b : BufSlot) : Bool :=
  b.lost || (s.rmwOf b.cmd b.nsid (b.lba / 16 * 16)).isSome ||
    b.place.any (fun p => if b.frame = 0 then s.psafe p else s.runSafe p b.frame)

/-- Whether a command's every stitch is buffered; one that has left its slot is. -/
def State.cmdBuffered (s : State) (c : Nat) : Bool := (s.cmd c).all (fun k => k.buffered)

/-- An extent whose lane a read-modify-write holds after its third restart (R506). -/
def State.laneHeld (s : State) (e me : Nat) : Bool :=
  s.crs.rmws.any (fun p => decide (p.2.e = e) && decide (3 ≤ p.2.restarts) && decide (p.1 ≠ me))

/-- Slots whose update applied, in the group that holds their records. -/
def State.markApplied (s : State) (ids : List Nat) (g : Nat) : State :=
  ids.foldl (fun t i => t.updSlot i (fun b => { b with applied := true, group := g })) s

/-- One extent of a unit applied: a run, a frame, or fine entries; slots lost to an HBM error are marked (R165, R187). -/
def State.applyExtent (s : State) (e : Nat) (ps : List (Nat × BufSlot)) : State × List Rec :=
  let whole := decide (ps.length = 16) && ps.all (fun p => !p.2.lost)
  match whole, ps with
  | true, p :: _ =>
    let a := p.2.place.getD 0
    if p.2.frame ≠ 0 ∧ ps.all (fun q => q.2.place = some a) then s.setWhole e (.frame a (p.2.frame - 1))
    else if a % 4 = 0 ∧ ps.map (fun q => q.2.place) = (List.range 16).map (fun j => some (a + j)) then s.setWhole e (.coarse a)
    else
      let fs := ps.map (fun q => FEntry.mapped (q.2.place.getD 0))
      ((s.putFines e fs).mapCnt 5 16, (List.range 16).map (fun i => Rec.mapFine e i (fs.getD i .unwritten)))
  | _, _ =>
    s.setSlots e (ps.map (fun q => (q.2.lba % 16, if q.2.lost then FEntry.marked else FEntry.mapped (q.2.place.getD 0))))

/-- The interlock entries of a command released once none of its slots waits for its update (R114, R204). -/
def State.settleCmd (s : State) (c : Nat) : State :=
  if s.buf.slots.any (fun p => decide (p.2.cmd = c) && !p.2.applied) then s
  else
    let t := s.unlock c
    match t.cmd c with
    | some k => if k.dropped then { t with q := { t.q with cmds := Tab.del c t.q.cmds } } else t
    | none => t

/-- The extents of a unit applied in one lane operation, with one batch of records; an extent that has become compressed needs a
read-modify-write first. -/
def State.applyUnit (s : State) (c nsid unit : Nat) : State :=
  match Tab.find nsid s.nss with
  | none => s
  | some n =>
    let ps := s.unitSlots c nsid unit
    let (t, rs, done) := (List.range 16).foldl (fun (acc : State × List Rec × List Nat) i =>
      let lba := 256 * unit + 16 * i
      let qs := ps.filter (fun p => covers lba 16 p.2.lba)
      match qs.isEmpty, s.rmwOf c nsid lba, n.index lba with
      | false, none, some e =>
        let part := decide (qs.length ≠ 16) || qs.any (·.2.lost)
        if part && (match acc.1.ext e with | .frame _ _ => true | _ => false) then (acc.1.startRmw c nsid e lba [] n.compress, acc.2)
        else
          let (u, r) := acc.1.applyExtent e qs
          (u, acc.2.1 ++ r, acc.2.2 ++ qs.map (·.1))
      | _, _, _ => acc) (s, [], [])
    let t := t.batch rs
    ((t.markApplied done t.lastGroup).settleCmd c)

/-- A read-modify-write's extent written back: a frame, a run, or a run with its lost slots marked and the marks of a Write
Uncorrectable (R173, R176). -/
def State.writeBack (s : State) (id : Nat) (r : Rmw) : State :=
  let p := r.place.getD 0
  let marks := r.bad ++ r.marks
  let (t, rs) := if r.frame ≠ 0 then s.setWhole r.e (.frame p (r.frame - 1))
    else if marks.isEmpty then s.setWhole r.e (.coarse p)
    else
      let fs := (List.range 16).map (fun i => if marks.contains i then FEntry.marked else FEntry.mapped (p + i))
      ((s.putFines r.e fs).mapCnt 5 16, (List.range 16).map (fun i => Rec.mapFine r.e i (fs.getD i .unwritten)))
  let t := (t.mapCnt 18 r.marks.length).batch rs
  let ids := (t.slotsIn r.cmd r.nsid r.lba 16).map (·.1)
  let t := { t with crs := { t.crs with rmws := Tab.del id t.crs.rmws } }
  let t := (t.markApplied ids t.lastGroup).settleCmd r.cmd
  if !r.marks.isEmpty && !(t.crs.rmws.any (fun q => q.2.cmd = r.cmd)) then
    (t.updCmd r.cmd (fun k => { k with phase := .waitGroup t.lastGroup }))
  else t

/-- WRITE_BUFFER_UE: before full buffering the write fails with 04h; after it the slot's data is lost, the LBA is marked in the unit's own
update, and a completion not yet posted becomes 04h (R187). -/
def execWriteBufferUe (cmd lba : Nat) (s : State) : Host.Outcome State Fault Refusal :=
  match s.buf.slots.find? (fun p => decide (p.2.cmd = cmd) && decide (p.2.lba = lba) && !p.2.applied) with
  | none => .fault .noSuchObject
  | some p =>
    if !(s.cmdBuffered cmd) then .next (s.failWrite cmd St.dataTransfer)
    else
      let t := s.updSlot p.1 (fun b => { b with lost := true })
      let t := { t with adm := { t.adm with mediaErrs := t.adm.mediaErrs + 1 } }
      let t := t.event 0x0304 p.2.nsid (lba % 2 ^ 32) (lba / 2 ^ 32)
      .next (match t.cmd cmd with
        | some _ =>
          let u := t.updCmd cmd (fun k => { k with failure := some St.dataTransfer, phase := .waitDurable })
          { u with q := { u.q with finishOrder := u.q.finishOrder.filter (· ≠ cmd) } }
        | none => t)

/-! ### Program failures (R205 to R207) -/

/-- Slots of a block on given wordlines that are not program-safe lose their place and are placed again (R205 step 3). -/
def State.replaceSlots (s : State) (b : Nat) (slc : Bool) (row : Nat) : State :=
  let hit := s.buf.slots.filter (fun p => !p.2.applied && p.2.place.any (fun q => decide (psaBlk q = b) &&
    decide (row ≤ psaSlot (q + (p.2.frame - 1)) / spw slc) && !(s.slotReady p.2)))
  let units := (hit.map (fun p => (p.2.cmd, p.2.nsid, p.2.lba / 256))).foldl (fun l u => insertNew u l) []
  let t := hit.foldl (fun t p => t.updSlot p.1 (fun x => { x with place := none, frame := 0, again := true })) s
  let rm := s.crs.rmws.filter (fun p => p.2.place.any (fun q => decide (psaBlk q = b) && decide (row ≤ psaSlot (q + 15) / spw slc)))
  let t := rm.foldl (fun t p => t.placeRmw p.1 { p.2 with place := none } (decide (p.2.frame ≠ 0))) t
  ((t.crsCnt 13 hit.length).crsCnt 21 units.length).placeWaiting

/-- A failed block: the log, the counts, RETIRE with PENDING, and its data queued to be moved (R205 steps 1 and 5). -/
def State.blockFailed (s : State) (n : Nat) (c : Course) (m : Member) (row : Nat) : State :=
  let t := (s.opEnd m.die).updBlk m.id (fun x => { x with state := .retirePending, why := 0 })
  let t := ((t.setFlag F.crsStatPfailseen).pfLog 0 m.id).event 0x0402 m.die m.blk row
  let t := (t.crsCnt 8).addSat (F.chnErrFails (m.die / 16)) 1
  let t := t.batch [.retire m.die m.blk 0 true]
  let t := t.updCourse n (fun c => { c with moving := insertNew m.id c.moving })
  let t := t.queueVictim n 9 2
  if c.ply = 1 then t.queueVictim n 5 6 else t

/-- More than W / 8 data members dropped: one further row is padded and the course closes after it (R207). -/
def State.earlyIfDropped (s : State) (n : Nat) : State :=
  match s.course n with
  | none => s
  | some c =>
    let lost := ((c.dataPos n).filter (fun p => (c.mem p).any (fun m => m.drop.isSome))).length
    if c.w / 8 < lost ∧ !c.early then
      let top := (c.topRow n).getD 0
      let last := Nat.min c.last (if c.slc then top else top + 1)
      let t := (s.updCourse n (fun c => { c with last := last, early := true })).padTo n last
      match t.course n with
      | some c => if c.finished then t.closeCourse n c.last else t
      | none => t
    else s

/-- A data member's program failure: the row's accumulators are recomputed without it, counted as R210 says (R205, log entry 120). -/
def State.dataFail (s : State) (n : Nat) (c : Course) (pos : Nat) (m : Member) : State :=
  let row := m.iss - 1
  let t := s.blockFailed n c m row
  let t := (t.updCourse n (fun c => c.setMem pos { m with drop := some row })).crsCnt 22
  (t.replaceSlots m.id c.slc (if c.slc then row else row - 1)).earlyIfDropped n

/-- PROGRAM_FAIL (R205). -/
def execProgramFail (course pos : Nat) (s : State) : Host.Outcome State Fault Refusal :=
  match s.programOf course pos with
  | some (c, m) => guarded (!((c.parityPos course).contains pos)) .noSuchObject (s.dataFail course c pos m)
  | none => .fault .noSuchObject

/-- A parity member's program failure: the course closes early below it, and the slots of rows w − 1 and w and above are placed again
(R206). -/
def State.parityFail (s : State) (n : Nat) (c : Course) (pos : Nat) (m : Member) : State :=
  let row := m.iss - 1
  let t := s.blockFailed n c m row
  let t := t.updCourse n (fun c => { (c.setMem pos { m with drop := some row }) with early := true, last := row - 2 })
  let t := c.present.foldl (fun t d => t.replaceSlots d.id c.slc (if c.slc then row else row - 1)) t
  t.closeCourse n (row - 2)

/-- PARITY_PROGRAM_FAIL (R206). -/
def execParityProgramFail (course pos : Nat) (s : State) : Host.Outcome State Fault Refusal :=
  match s.programOf course pos with
  | some (c, m) => guarded ((c.parityPos course).contains pos) .noSuchObject (s.parityFail course c pos m)
  | none => .fault .noSuchObject

/-- PARITY_ACCUMULATOR_UE: recomputed from the row's data slots, which are still buffered (R200). -/
def execParityAccumulatorUe (course : Nat) (s : State) : Host.Outcome State Fault Refusal :=
  guarded ((s.course course).any (fun c => !c.closed)) .noSuchObject (s.crsCnt 22)

end Sys2Proof.Machine
end

