-- ==== Sys2Proof/Machine/AdminNs.lean ====
section
/-! DEFINITION. Namespaces created, deleted and attached; Format NVM and Sanitize; crypto erase (R138 to R144, R157, R252, R460, R461). -/

namespace Sys2Proof.Machine

/-- 0Ah, Invalid Format (NVM Express): an LBA format or protection type that R135 does not offer. -/
def St.badFormat : Status := ⟨1, 0x0A, true⟩
/-- 1Ch, Controller List Invalid (NVM Express). -/
def St.badControllers : Status := ⟨1, 0x1C, true⟩

/-! ### Formats and protection (R135) -/

/-- Whether a namespace may have a format and a protection type: format 0 has no metadata. -/
def formatOk (lbaf pi : Nat) : Bool := decide (lbaf ≤ 2) && decide (pi ≤ 3) && (decide (lbaf ≠ 0) || decide (pi = 0))

/-- The meaning of an admin row marked PF: on a VF the opcode completes with 01h (R129). -/
def onPf (s : State) (c : Nat) (k : Cmd → State) : Host.Outcome State Fault Refusal :=
  onAdmin s c (fun x => if isPf x.fn then k x else s.finish c St.badOpcode)

/-! ### Ending what a namespace has in flight -/

/-- The commands of a namespace that are still being carried out end with a status; `none` is every namespace. -/
def State.endNsIo (s : State) (nsid : Option Nat) (st : Status) : State :=
  let mine := s.q.cmds.filter (fun p => !p.2.admin && (nsid.all (fun n => decide (p.2.sqe.nsid = n))) && !p.2.dropped &&
    (match p.2.phase with | .finished _ _ => false | _ => true))
  mine.foldl (fun t p => t.failWrite p.1 st) s

/-- The buffered slots of a namespace whose updates have not applied, and its read-modify-writes, discarded with their interlock entries.
Its commands have ended. -/
def State.dropNsSlots (s : State) (nsid : Option Nat) : State :=
  let other := fun (n : Nat) => !(nsid.all (fun m => decide (m = n)))
  { s with buf := { s.buf with slots := s.buf.slots.filter (fun p => other p.2.nsid || p.2.applied) },
           crs := { s.crs with rmws := s.crs.rmws.filter (fun p => other p.2.nsid) },
           q := { s.q with locks := s.q.locks.filter (fun l => other l.nsid),
                           cmds := s.q.cmds.filter (fun p => other p.2.sqe.nsid || !p.2.dropped) } }

/-- Every extent of a namespace set unwritten by the first rule of R174, one record for each granule, in one batch. -/
def State.clearNs (s : State) (n : Ns) : State :=
  let (t, rs) := n.granules.foldl (fun (acc : State × List Rec) g =>
    let (u, r) := acc.1.deallocWhole (g * 16384) 16384
    (u, acc.2 ++ r)) (s, [])
  t.batch rs

/-! ### Crypto erase (R461) -/

/-- A crypto erase begun: it waits for the commit of the records just accepted. -/
def State.cryptoStart (s : State) (nsids : List Nat) (why : Nat) : State :=
  let r : CryptoRun := { nsids := nsids, why := why, group := s.lastGroup, keyed := false, start := s.clk.mono }
  { s with adm := { s.adm with crypto := s.adm.crypto ++ [r] } }

/-- A fresh seed for a namespace. -/
def State.newSeed (s : State) (nsid : Nat) : State :=
  let (v, t) := s.draw
  ({ t with keys := { t.keys with seeds := Tab.put nsid v t.keys.seeds } } : State).secCnt 18

/-- A lost seed table is back in service once every namespace has been crypto-erased (R283). -/
def State.seedsBack (s : State) : State :=
  if s.nss.all (fun p => Tab.has p.1 s.keys.seeds) then s.undegrade 6 else s

/-- Crypto erases whose records are committed replace their seeds, or remove them, and one new wrapping key and one key set cover all. -/
def State.cryptoStep (s : State) : State :=
  let due := s.adm.crypto.filter (fun r => !r.keyed && decide (r.group ≤ s.lif.committed))
  if due.isEmpty then s
  else
    let t := due.foldl (fun t r => r.nsids.foldl (fun t n =>
      if r.why = 4 then { t with keys := { t.keys with seeds := Tab.del n t.keys.seeds } } else t.newSeed n) t) s
    let cr := t.adm.crypto.map (fun r => if !r.keyed && decide (r.group ≤ t.lif.committed) then { r with keyed := true } else r)
    let t : State := { t with adm := { t.adm with crypto := cr }, keys := { t.keys with wrapGen := t.keys.wrapGen + 1 } }
    (t.seedsBack).cfsRequest 3 .keySet keySetWords

/-! ### Namespace Management and Attachment (R138, R157, R460) -/

/-- A namespace's change noted on its controllers, with the Namespace Attribute Changed notice (R149). -/
def State.nsChanged (s : State) (nsid : Nat) (fns : List Nat) : State :=
  fns.foldl (fun t i =>
    let t := t.updFunc i (fun f => { f with changed := insertNew nsid f.changed })
    if (t.func i).rdy && (Tab.getD 0x0B 0 (t.func i).feats).testBit 8 then t.asyncEvent i 2 0 4 else t) s

/-- NAMESPACE_CREATE: NSZE equals NCAP, a non-zero multiple of 1 MiB within the unallocated capacity; the lowest free granules and NSID;
it completes once the key set that names the new seed is committed, with the NSID in Dword 0. -/
def execNamespaceCreate (cmd nsze ncap lbaf pi : Nat) (piFirst : Bool) (handles : List Nat) (s : State) :
    Host.Outcome State Fault Refusal :=
  onPf s cmd (fun _ =>
    if nsze ≠ ncap ∨ nsze = 0 ∨ nsze % 256 ≠ 0 then s.finish cmd St.badField
    else if !(formatOk lbaf pi) then s.finish cmd St.badFormat
    else if 16 < handles.length ∨ handles.any (fun h => decide (16 ≤ h)) ∨ (s.adm.fdp.isNone ∧ !handles.isEmpty) then
      s.finish cmd St.badField
    else if s.userMib < s.nsMib + nsze / 256 then s.finish cmd St.capacity
    else
      let id := firstFree 1 s.nss
      if 1024 < id then s.finish cmd St.noNsid
      else
        let gs := freeGranules s.usedGranules 1048576 ((nsze + 262143) / 262144) 0
        let n : Ns := { size := nsze, lbaf := lbaf, pi := pi, piFirst := piFirst, granules := gs, compress := false,
                        handles := if handles.isEmpty then [0] else handles, formatting := false }
        let t := (({ s with nss := Tab.put id n s.nss } : State).newSeed id).cfsRequest 3 .keySet keySetWords
        (t.mapCnt 26).updCmd cmd (fun c => { c with phase := .waitStore, doneSlots := id }))

/-- A window as its record (kind 06h) holds it. -/
def Window.payload (w : Window) : List Nat := [w.nsid, w.base % 2 ^ 32, w.base / 2 ^ 32, w.len, b2n w.any, w.src, b2n w.open_]

/-- Every receive window that names a namespace closed (R400). -/
def State.closeWindows (s : State) (nsid : Nat) : State :=
  let ws := s.str.windows.map (fun p => if p.2.nsid = nsid then (p.1, { p.2 with open_ := false }) else p)
  let t := (s.str.windows.filter (fun p => decide (p.2.nsid = nsid) && p.2.open_)).foldl
    (fun t p => t.cfsRequest 5 (.record 6 p.1 { p.2 with open_ := false }.payload false) 2) { s with str := { s.str with windows := ws } }
  t.setFld F.strWopenOpen (ws.filter (fun p => p.2.open_)).length

/-- One namespace deleted: its commands end, its entries are set unwritten, its granules wait for the commit. -/
def State.deleteNs (s : State) (nsid : Nat) : State :=
  match Tab.find nsid s.nss with
  | none => s
  | some n =>
    let t := ((s.endNsIo (some nsid) St.badNamespace).dropNsSlots (some nsid)).clearNs n
    let t := { t with nss := Tab.del nsid t.nss, adm := { t.adm with freeing := t.adm.freeing ++ [(t.lastGroup, n.granules)] } }
    let on := (t.fns.filter (fun p => p.2.nss.contains nsid)).map (·.1)
    let t := on.foldl (fun t i => t.updFunc i (fun f => { f with nss := f.nss.filter (· ≠ nsid) })) t
    ((t.nsChanged nsid on).closeWindows nsid).mapCnt 27

/-- NAMESPACE_DELETE: the entries of the namespace, or of all for NSID FFFF_FFFFh, are set unwritten and its seed removed by the order of
R461; the granules are free once the group is committed. -/
def execNamespaceDelete (cmd : Nat) (s : State) : Host.Outcome State Fault Refusal :=
  onPf s cmd (fun k =>
    let ids := if k.sqe.nsid = 0xFFFFFFFF then s.nss.map (·.1) else [k.sqe.nsid]
    if !(ids.all (fun n => Tab.has n s.nss)) then s.finish cmd St.badNamespace
    else if ids.any s.formattingNs then s.finish cmd St.formatting
    else
      let t := (ids.foldl (fun t n => t.deleteNs n) s).cryptoStart ids 4
      (t.updCmd cmd (fun c => { c with phase := .waitStore })).cryptoStep)

/-- NAMESPACE_ATTACHMENT: to or from any controllers of either port; a controller is named by CNTLID, its function index plus 1. -/
def execNamespaceAttachment (cmd : Nat) (attach : Bool) (controllers : List Nat) (s : State) : Host.Outcome State Fault Refusal :=
  onPf s cmd (fun k =>
    let n := k.sqe.nsid
    let on := fun (i : Nat) => (s.func (i - 1)).nss.contains n
    if !(Tab.has n s.nss) then s.finish cmd St.badNamespace
    else if controllers.isEmpty ∨ controllers.any (fun i => decide (i = 0) || decide (1026 < i)) then s.finish cmd St.badControllers
    else if attach ∧ controllers.any on then s.finish cmd St.attached
    else if !attach ∧ controllers.any (fun i => !(on i)) then s.finish cmd St.notAttached
    else
      let t := controllers.foldl (fun t i => t.updFunc (i - 1) (fun f =>
        { f with nss := if attach then insertNew n f.nss else f.nss.filter (· ≠ n) })) s
      (t.nsChanged n (controllers.map (· - 1))).finish cmd St.ok)

/-! ### Format NVM (R141, R142) -/

/-- The namespaces of a Format set unwritten under their new format, with the records' group awaited, and the crypto erase begun where
SES asks for it. -/
def State.formatRun (s : State) (ids : List Nat) (ses : Nat) : State :=
  let t := ids.foldl (fun t i => match Tab.find i t.nss with | some n => ((t.dropNsSlots (some i)).clearNs n).closeWindows i | none => t) s
  let t := if ses = 2 then t.cryptoStart ids 1 else t
  { t with adm := { t.adm with format := { t.adm.format with group := if ses = 2 then none else some t.lastGroup } } }

/-- A Format without a crypto erase ends once the group holding its records is committed. -/
def State.formatStep (s : State) : State :=
  match s.adm.format.group with
  | some g => if s.adm.format.state = 1 ∧ g ≤ s.lif.committed then s.formatEnd true else s
  | none => s

/-- A Format begun: the commands of its namespaces end with 84h, the namespaces take the format and the protection, and the run is in
progress (R141, R142). -/
def State.formatBegin (s : State) (cmd ses lbaf pi : Nat) (piFirst : Bool) (nsid : Nat) (ids : List Nat) : State :=
  let t := ids.foldl (fun t n => t.endNsIo (some n) St.formatting) s
  let ns := t.nss.map (fun p => if ids.contains p.1 then
    (p.1, { p.2 with lbaf := lbaf, pi := pi, piFirst := piFirst, formatting := true }) else p)
  let fr : FormatRun := { nsid := nsid, ses := ses, lbaf := lbaf, state := 1, progress := 0, resumed := 0, start := t.devTime,
                          last := t.devTime, cmd := some cmd, group := none }
  ({ t with nss := ns, adm := { t.adm with format := fr } } : State)

/-- FORMAT_NVM: SES 0 to 2, LBAF and protection as R135 offers, one namespace or all. SES 0 and 1 complete with 20h in read-only mode; a
namespace under Format, 84h. -/
def execFormatNvm (cmd ses lbaf pi : Nat) (piFirst : Bool) (s : State) : Host.Outcome State Fault Refusal :=
  onPf s cmd (fun k =>
    s.superGate cmd <|
    let id := k.sqe.nsid
    let ids := if id = 0xFFFFFFFF then s.nss.map (·.1) else [id]
    if 2 < ses then s.finish cmd St.badField
    else if !(formatOk lbaf pi) then s.finish cmd St.badFormat
    else if !(ids.all (fun n => Tab.has n s.nss)) then s.finish cmd St.badNamespace
    else if lbaf ≠ 0 ∧ ids.any (fun n => (Tab.find n s.nss).any (·.compress)) then s.finish cmd St.badField
    else if s.formattingNs id then s.finish cmd St.formatting
    else if s.flag F.rclRoRo ∧ ses ≠ 2 then s.finish cmd St.writeProtected
    else
      ((((s.formatBegin cmd ses lbaf pi piFirst id ids).formatRun ids ses).updCmd cmd (fun c => { c with phase := .waitStore })).cryptoStep).formatStep)

/-- FORMAT_PROGRESS_RECORD: page C1h and the configuration store take the progress, in units of 1/65,536 (R142). -/
def execFormatProgressRecord (progress : Nat) (s : State) : Host.Outcome State Fault Refusal :=
  let f := s.adm.format
  let g : FormatRun := { f with progress := Nat.min 65535 progress, last := s.devTime }
  guarded (decide (f.state = 1)) .noSuchObject
    (({ s with adm := { s.adm with format := g } } : State).cfsRequest 5 (.record 8 0 [1, g.progress] false) 2)

/-! ### Sanitize (R143, R144) -/

/-- The progress of a sanitize written to the configuration store. -/
def State.recordSanitize (s : State) : State :=
  let z := s.adm.sanitize
  s.cfsRequest 5
    (.record 8 1 [z.state, z.action, z.progress] false) 2

/-- The dword an overwrite leaves: the pattern, inverted after an odd number of inversions (OIPBP inverts between passes). -/
def SanitizeRun.left (z : SanitizeRun) : Nat :=
  if z.invert && decide (z.passes % 2 = 0) then 0xFFFFFFFF - z.pattern % 2 ^ 32 else z.pattern % 2 ^ 32

/-- A slot's 4,096 bytes filled with one dword. -/
def fillSlot (d : Nat) : Nat := (List.range 1024).foldl (fun acc _ => acc * 2 ^ 32 + d) 0

/-- Every namespace set unwritten. -/
def State.clearAll (s : State) : State := s.nss.foldl (fun t p => t.clearNs p.2) s

/-- A sanitize begun: what was in flight ends with 1Dh, and the run is in progress and recorded (R143). -/
def State.sanitizeBegin (s : State) (action passes pattern : Nat) (invert noDealloc : Bool) : State :=
  let t := (s.endNsIo none St.sanitizing).dropNsSlots none
  let z : SanitizeRun := { state := 2, action := action, passes := passes, pattern := pattern, invert := invert,
                           noDealloc := noDealloc, progress := 0 }
  ({ t with adm := { t.adm with sanitize := z } } : State).recordSanitize

/-- What a sanitize does at its start: all is set unwritten but for an overwrite; a crypto erase of every namespace begins; a block erase
closes the open courses of user data early (R143, R144). -/
def State.sanitizeErase (s : State) (action : Nat) : State :=
  let t := if action = 3 then s else s.clearAll
  let t := if action = 4 then t.cryptoStart (t.nss.map (·.1)) 2 else t
  if action = 2 then
    ((t.crs.courses.filter (fun p => !p.2.closed && decide (p.2.band ≤ 2))).map (·.1)).foldl (fun t n =>
      (t.updCourse n (fun c => { c with early := true })).closeCourse n (((t.course n).bind (fun c => c.topRow n)).getD 0)) t
  else t

/-- SANITIZE: crypto erase (4), block erase (2) or overwrite (3, with 1 to 16 passes). It completes when the operation starts; what was in
flight ends with 1Dh. In read-only mode block erase and overwrite complete with 20h. -/
def execSanitize (cmd action passes pattern : Nat) (invert noDealloc : Bool) (s : State) : Host.Outcome State Fault Refusal :=
  onPf s cmd (fun _ =>
    s.superGate cmd <|
    if action < 2 ∨ 4 < action ∨ (action = 3 ∧ (passes = 0 ∨ 16 < passes)) then s.finish cmd St.badField
    else if s.flag F.rclRoRo ∧ action ≠ 4 then s.finish cmd St.writeProtected
    else if s.adm.format.state = 1 then s.finish cmd St.formatting
    else
      (((s.sanitizeBegin action passes pattern invert noDealloc).sanitizeErase action).finish cmd St.ok).cryptoStep)

/-- SANITIZE_PROGRESS_RECORD: the Sanitize Status log and the configuration store take the progress (R143). -/
def execSanitizeProgressRecord (progress : Nat) (s : State) : Host.Outcome State Fault Refusal :=
  guarded s.sanitizing .noSuchObject
    (({ s with adm := { s.adm with sanitize := { s.adm.sanitize with progress := Nat.min 65535 progress } } } : State).recordSanitize)

/-- An overwrite's last pass: every mapped slot holds the pattern, or is unwritten where deallocation follows. -/
def State.overwritten (s : State) : State :=
  if s.adm.sanitize.noDealloc then
    let d := fillSlot s.adm.sanitize.left
    { s with crs := { s.crs with media := s.crs.media.map (fun p => (p.1, { p.2 with data := p.2.data.map (fun x => (d, x.2)) })) } }
  else s.clearAll

/-- SANITIZE_OPERATION_END: the operation has finished, or failed and leaves the subsystem sanitize-failed (R143). A crypto erase cannot
finish before its key set. -/
def execSanitizeOperationEnd (ok : Bool) (s : State) : Host.Outcome State Fault Refusal :=
  let t := if ok && decide (s.adm.sanitize.action = 3) then s.overwritten else s
  let z := t.adm.sanitize
  guarded (s.sanitizing && !(ok && s.adm.crypto.any (fun r => r.why = 2))) .noSuchObject
    (({ t with adm := { t.adm with sanitize := { z with state := if ok then 1 else 3, progress := 65535 } } } : State).recordSanitize)

end Sys2Proof.Machine
end

