-- ==== Sys2Proof/Machine/Lifeline.lean ====
section
/-! DEFINITION. Commits and what they release, journal copies and their courses, anchors, checkpoints and the clean stop
(R186, R263 to R272). -/

namespace Sys2Proof.Machine

/-! ### Record sequences (R257) -/

/-- Whether a record sequence is earlier than another, by their difference modulo 2^48. -/
def recBefore (a b : Nat) : Bool := decide (0 < toSigned 48 ((b + 2 ^ 48 - a) % 2 ^ 48))

/-- The earliest of a list of sequences, if there is one. -/
def recEarliest : List Nat → Option Nat
  | [] => none
  | a :: l => some (l.foldl (fun m x => if recBefore x m then x else m) a)

/-! ### Journal courses (R264, R265) -/

/-- Whether a skein has a die in service. -/
def State.skeinUp (s : State) (k : Nat) : Bool := (List.range 1024).any (fun d => s.inSvc (1024 * k + d))

/-- The skein a copy's course lies on: the first in service from `start` of its parity that does not hold the other copy's course, else
one of the other parity, else the other copy's own. -/
def State.pickSkein (s : State) (start other : Nat) : Nat :=
  let order := [0, 2, 4, 6, 1, 3, 5, 7].map (fun i => (start + i) % 8)
  (order.find? (fun k => decide (k ≠ other) && s.skeinUp k)).getD other

/-- A journal copy by number: 0 copy A, 1 copy B. -/
def Lif.copy (l : Lif) (i : Nat) : JCopy := if i = 0 then l.copyA else l.copyB

/-- A journal copy replaced. -/
def State.setCopy (s : State) (i : Nat) (j : JCopy) : State :=
  if i = 0 then { s with lif := { s.lif with copyA := j } } else { s with lif := { s.lif with copyB := j } }

/-- Rows of a journal course: every page of a block in SLC mode but the footer. -/
def State.journalRows (s : State) : Nat := s.fl.geom.wls - 1

/-- The die of a channel with the most erased blocks, and its least-worn block. -/
def State.journalBlock (s : State) (ch : Nat) : Option Nat :=
  let best := (List.range s.fl.ranks).foldl (fun (b : Option Nat) l =>
    let d := 16 * ch + l
    if !(s.inSvc d) || (s.erasedOn d).isEmpty then b
    else match b with
      | none => some d
      | some a => if (s.erasedOn a).length < (s.erasedOn d).length then some d else b) none
  best.bind s.leastWorn

/-- A journal course formed on a skein: W = 16, ply 1, SLC, its members on channels 64s + 4i + q. -/
def State.formJournal (s : State) (copy skein q : Nat) : Nat × State :=
  let bs := (List.range 16).map (fun i => s.journalBlock (64 * skein + 4 * i + q))
  let t := (s.openCourse 16 1 true (3 + copy) 0 skein 0 bs).lifCnt 5
  (t.crs.lastSeq, t.noteF)

/-- The place of a copy's next course: q runs 0 to 3 and then the skein advances; copy B lies opposite copy A. -/
def State.nextPlace (s : State) (copy : Nat) : Nat × Nat :=
  let a := s.lif.copyA
  let b := s.lif.copyB
  if copy = 0 then
    if a.course = 0 then (s.pickSkein a.skein 8, 0)
    else if a.q < 3 then (if s.skeinUp a.skein then a.skein else s.pickSkein a.skein b.skein, a.q + 1)
    else (((List.range 8).map (fun i => (a.skein + 1 + i) % 8)).find? (fun k => s.skeinUp k) |>.getD a.skein, 0)
  else
    let w := (a.ahead.map (·.2)).getD (a.skein, a.q)
    (s.pickSkein ((w.1 + 4) % 8) w.1, w.2)

/-- A copy's next course formed ahead. -/
def State.formAhead (s : State) (copy : Nat) : State :=
  let (k, q) := s.nextPlace copy
  let (n, t) := s.formJournal copy k q
  t.setCopy copy { t.lif.copy copy with ahead := some (n, k, q) }

/-- A copy moved to a course; the first record written to it is noted. -/
def State.switchCopy (s : State) (copy n skein q first : Nat) : State :=
  let j := s.lif.copy copy
  let t := if j.course = 0 then s else s.closeCourse j.course (j.rows - 1)
  t.setCopy copy { t.lif.copy copy with course := n, skein := skein, q := q, rows := 0, ahead := none, frames := 0,
                                        courses := j.courses ++ [(n, first)] }

/-- A copy given its first course, or moved on to the course formed ahead. -/
def State.nextCopyCourse (s : State) (copy first : Nat) : State :=
  match (s.lif.copy copy).ahead with
  | some (n, k, q) => s.switchCopy copy n k q first
  | none =>
    let (k, q) := s.nextPlace copy
    let (n, t) := s.formJournal copy k q
    t.switchCopy copy n k q first

/-- A group's rows on a copy: the course moves on where they do not fit, and the next course is formed while 16 rows are left. -/
def State.writeRows (s : State) (copy rows first : Nat) : State :=
  let j := s.lif.copy copy
  let t := if j.course = 0 ∨ s.journalRows < j.rows + rows then s.nextCopyCourse copy first else s
  let j := t.lif.copy copy
  let t := t.setCopy copy { j with rows := j.rows + rows, frames := j.frames + 1 }
  if s.journalRows < j.rows + rows + 16 ∧ j.ahead.isNone then t.formAhead copy else t

/-- Only one skein in service keeps critical warning bit 2 set (R264). -/
def State.noteSkeins (s : State) : State :=
  if ((List.range 8).filter (fun k => s.skeinUp k)).length = 1 then s.degrade 5 else s.undegrade 5

/-! ### Fill thresholds, release and anchors (R266, R267) -/

/-- The urgent state of the journal brought up to date. -/
def State.noteJournal (s : State) : State :=
  let u := s.fld F.lifCkptCtlUrgent
  let above := decide (u ≤ s.lif.copyA.courses.length) || decide (u ≤ s.lif.copyB.courses.length)
  if above && !(s.flag F.lifCkptStatUrgent) then
    ((s.setFlag F.lifCkptStatUrgent).setFlag F.lifStatJurgentseen).lifCnt 22 |>.arm .checkpointInterval 0
  else if above then s else s.clrFlag F.lifCkptStatUrgent

/-- The committed checkpoints of a segment or part, newest first. -/
def State.keptOf (s : State) (num : Nat) : List Ckpt :=
  (Tab.getD num [] s.lif.kept).filter (fun c => decide (c.group ≤ s.lif.committed))

/-- The start sequence below which no record is needed: the earliest start of an older kept checkpoint. A segment or part without two
checkpoints needs every record. -/
def State.releaseSeq (s : State) : Nat :=
  let nums := s.lif.touched ++ s.lif.kept.map (·.1) ++ s.lif.running.map (·.num)
  (recEarliest (nums.map (fun n => ((s.keptOf n)[1]?.map (·.start)).getD 1))).getD s.lif.nextRec

/-- The courses of a copy that may be released: all but the open one whose every record is earlier than a sequence. -/
def releasable (cut : Nat) : List (Nat × Nat) → List Nat
  | (n, _) :: (m, f) :: rest => if recBefore f cut || decide (f = cut) then n :: releasable cut ((m, f) :: rest) else []
  | _ => []

/-- Courses of the journal released. -/
def State.releaseJournal (s : State) : State :=
  let cut := s.releaseSeq
  let ra := releasable cut s.lif.copyA.courses
  let rb := releasable cut s.lif.copyB.courses
  let t := { s with lif := { s.lif with
    released := s.lif.released ++ ra ++ rb
    copyA := { s.lif.copyA with courses := s.lif.copyA.courses.drop ra.length }
    copyB := { s.lif.copyB with courses := s.lif.copyB.courses.drop rb.length } } }
  t.lifCnt 6 (ra.length + rb.length)

/-- The first group recovery has to read: the first with a record in a course still retained. -/
def State.anchorGroup (s : State) : Nat :=
  let firsts := ((s.lif.copyA.courses.head?).map (·.2)).toList ++ ((s.lif.copyB.courses.head?).map (·.2)).toList
  match recEarliest firsts with
  | none => s.lif.committed + 1
  | some f => ((s.lif.journal.find? (fun g => (g.recs.getLast?).any (fun r => !(recBefore r.1 f)))).map (·.num)).getD (s.lif.committed + 1)

/-- An anchor handed to the configuration store, and the 60 s counted from it. -/
def State.writeAnchor (s : State) (clean : Bool) : State :=
  let a : Anchor := { courseA := ((s.lif.copyA.courses.head?).map (·.1)).getD 0, courseB := ((s.lif.copyB.courses.head?).map (·.1)).getD 0,
                      group := s.anchorGroup, dumpGen := s.dump.gen, dumpPending := s.dump.sealed.isSome, clean := clean }
  (({ s with lif := { s.lif with anchorNext := some a } } : State).cfsRequest 2 .anchor 2).arm .anchorTimer (nsSec 60)

/-- Released courses that the written anchor no longer names become erase-pending, and the groups before it are no longer held. -/
def State.freeReleased (s : State) : State :=
  match s.lif.anchor with
  | none => s
  | some a =>
    let gone := s.lif.released.filter (fun n => decide (n < a.courseA) && decide (n < a.courseB))
    let t := gone.foldl (fun t n => match t.course n with | some c => t.courseEmpty n c | none => t) s
    { t with lif := { t.lif with released := t.lif.released.filter (fun n => !(gone.contains n)),
                                 journal := t.lif.journal.filter (fun g => decide (a.group ≤ g.num)) } }

/-- Release, the anchor that 8 waiting courses call for, and the thresholds. -/
def State.tendJournal (s : State) : State :=
  let t := s.freeReleased.releaseJournal.noteJournal
  if 8 ≤ t.lif.released.length ∧ t.lif.anchorNext.isNone then t.writeAnchor false else t

/-- ANCHOR_TIMER: 60 s after the last anchor (R266). -/
def execAnchorTimer (s : State) : Host.Outcome State Fault Refusal :=
  onTimer s .anchorTimer (fun t => t.tendJournal.writeAnchor false)

/-! ### Commit (R263, R186) -/

/-- Slots whose record is committed leave the buffer. -/
def State.releaseSlots (s : State) : State :=
  { s with buf := { s.buf with slots := s.buf.slots.filter (fun p => !(p.2.applied && decide (p.2.group ≤ s.lif.committed))) } }

/-- The commands that waited for a group now committed, oldest first: Flush counts as such; the rest complete with 00h. -/
def State.finishGroup (s : State) : State :=
  (s.q.cmds.filter (fun p => match p.2.phase with | .waitGroup g => decide (g ≤ s.lif.committed) | _ => false)).foldl (fun t p =>
    let t := if !p.2.admin && decide (p.2.sqe.opcode = 0x00) then t.qenCnt 17 else t
    if p.2.admin then t.finish p.1 St.ok else (t.unlock p.1).finish p.1 St.ok) s

/-- Exposed-rule writes with no slot left to program or commit complete (R117, R185, R187). -/
def State.finishDurable (s : State) : State :=
  (s.q.cmds.filter (fun p => !p.2.admin && decide (p.2.phase = .waitDurable) && p.2.buffered &&
    !(s.buf.slots.any (fun b => b.2.cmd = p.1)))).foldl (fun t p => t.finishWrite p.1) s

/-- Granules of deleted namespaces return to the free set once their group is committed (R157). -/
def State.freeGranulesStep (s : State) : State :=
  { s with adm := { s.adm with freeing := s.adm.freeing.filter (fun p => decide (s.lif.committed < p.1)) } }

/-- The function index that stands for slots taken from a dump. -/
def dumpFn : Nat := 2049

/-- A dump whose every unit is committed is consumed: the store records it, the dump blocks become erase-pending, and a new dump area is
formed (R275, R282 step 4). -/
def State.consumeDump (s : State) : State :=
  if s.dump.sealed.isNone || s.buf.slots.any (fun p => p.2.fn = dumpFn) || s.dump.running.isSome then s
  else
    let t := { s with dump := { s.dump with sealed := none, slots := [], blocks := [], formed := false } }
    let t := (s.crs.courses.filter (fun p => p.2.band = 6)).foldl (fun t p => t.courseEmpty p.1 p.2) t
    ((t.cfsRequest 5 (.record 9 0 [s.dump.gen, 1] false) 2).formDump).protCheck

/-- Superseded checkpoints: the two latest committed ones are kept, with any not yet committed; system courses that hold no kept or
running checkpoint are emptied (R269). -/
def State.pruneKept (s : State) : State :=
  let keep := fun (l : List Ckpt) =>
    let fresh := l.filter (fun c => decide (s.lif.committed < c.group))
    let old := l.filter (fun c => decide (c.group ≤ s.lif.committed))
    fresh ++ old.take 2
  let ks := s.lif.kept.map (fun p => (p.1, keep p.2))
  let used := (ks.flatMap (fun p => p.2.map (·.course))) ++ s.lif.running.map (·.course)
  let t := { s with lif := { s.lif with kept := ks } }
  (t.crs.courses.filter (fun p => decide (p.2.band = 5) && p.2.closed && !(used.contains p.1))).foldl (fun t p => t.courseEmpty p.1 p.2) t

/-- Whether a group's marker carries CLEAN. -/
def Group.isClean (g : Group) : Bool := g.recs.any (fun r => match r.2.2 with | .stitchMarker _ _ _ _ c => c | _ => false)

/-- LIF_GSEQ. -/
def State.noteGroup (s : State) (n : Nat) : State :=
  (s.setWord Reg.lifGseqLo (BitVec.ofNat 32 n)).setFld F.lifGseqHiSeq (n / 2 ^ 32)

/-- A clean stop's group committed: the anchor with CLEAN = 1; a life-cycle change goes on to its key set (R271, R458). -/
def State.cleanStopped (s : State) : State :=
  let t := ((s.writeAnchor true).lifCnt 23).setFlag F.qenShnStatAllshn
  match t.sec.lcRun with
  | some (c, target, role, at_, 4) =>
    ({ t with sec := { t.sec with lcRun := some (c, target, role, at_, 5) } } : State).cfsRequest 3 .keySet keySetWords
  | _ => t

/-- Emptied courses whose records are committed, or whose blocks have moved on, need no longer be remembered. -/
def State.pruneEmptied (s : State) : State :=
  let still := fun (p : Nat × Course) => p.2.present.any (fun m => decide ((s.blk m.id).course = p.1) &&
    decide ((s.blk m.id).state = .erasePending) && decide (s.lif.committed < (s.blk m.id).group))
  { s with crs := { s.crs with emptied := s.crs.emptied.filter still } }

/-- What the commit of a group brings about: everything that waited for it proceeds. -/
def State.afterCommit (s : State) : State :=
  s.releaseSlots.finishGroup.finishDurable.freeGranulesStep.cryptoStep.formatStep.consumeDump.pruneKept.pruneEmptied.tendJournal

/-- Where one copy's stream starts with a group, the other's starts with it too, and from there both are in the same state (R335). -/
def State.joinStreams (s : State) : State :=
  if s.lif.copyA.frames = 1 ∨ s.lif.copyB.frames = 1 then
    let t := if s.lif.copyA.frames = s.lif.copyB.frames then s else s.cmpCnt 7
    (t.setCopy 0 { s.lif.copyA with frames := 1 }).setCopy 1 { s.lif.copyB with frames := 1 }
  else s

/-- The oldest closed group committed. -/
def State.commitGroup (s : State) (g : Group) (rowsA rowsB : Nat) : State :=
  let first := (g.recs.head?.map (·.1)).getD s.lif.nextRec
  let t := ((s.writeRows 0 rowsA first).writeRows 1 rowsB first).joinStreams
  let t := ((t.lifCnt 1).lifCnt 4 (rowsA + rowsB)).cmpCnt 6 |>.emitBlocks
  let t := { t with lif := { t.lif with waiting := t.lif.waiting.filter (fun w => w.num ≠ g.num), committed := g.num,
                                        journal := t.lif.journal ++ [g] } }
  let t := (t.noteGroup g.num).afterCommit
  if g.isClean then t.cleanStopped else t

/-- GROUP_COMMIT: the oldest closed group's rows, as many as its compressed form takes on each copy, are program-safe on both. -/
def execGroupCommit (rowsA rowsB : Nat) (s : State) : Host.Outcome State Fault Refusal :=
  match s.lif.waiting with
  | g :: _ => guarded (decide (0 < rowsA) && decide (0 < rowsB)) .outOfRange (s.commitGroup g rowsA rowsB)
  | [] => .fault .noSuchObject

/-! ### A journal copy fails (R264) -/

/-- LIF_COPYERR and its event. -/
def State.copyError (s : State) (copy cause gseq : Nat) : State :=
  let t := ((s.setFld F.lifCopyerrValid 1).setFld F.lifCopyerrCopy copy).setFld F.lifCopyerrCause cause
  let t := (t.setFld F.lifCopyerrGseq gseq).setFlag F.lifStatCopyerrseen
  t.event 0x0703 (t.word Reg.lifCopyerr).toNat

/-- A copy's course closed early and a new one formed at once on a skein that does not hold the other copy; the groups not yet
program-safe are written again there. -/
def State.moveCopy (s : State) (copy : Nat) : State :=
  let j := s.lif.copy copy
  let o := s.lif.copy (1 - copy)
  let t := s.updCourse j.course (fun c => { c with early := true })
  let k := t.pickSkein ((j.skein + 2) % 8) o.skein
  let (n, t) := t.formJournal copy k j.q
  let first := ((s.lif.waiting.head?).bind (fun g => g.recs.head?)).map (·.1) |>.getD s.lif.nextRec
  (t.switchCopy copy n k j.q first).noteSkeins

/-- A journal course's block that failed: retired once the journal no longer needs it. -/
def State.journalBlockFailed (s : State) (m : Member) (row : Nat) : State :=
  let t := s.updBlk m.id (fun x => { x with state := .retirePending, why := 0 })
  let t := ((t.setFlag F.crsStatPfailseen).pfLog 0 m.id).event 0x0402 m.die m.blk row
  let t := (t.crsCnt 8).addSat (F.chnErrFails (m.die / 16)) 1
  t.batch [.retire m.die m.blk 0 true]

/-- JOURNAL_COPY_FAIL: a row fails to program on one copy, in the course's member `pos`. -/
def execJournalCopyFail (copy pos : Nat) (s : State) : Host.Outcome State Fault Refusal :=
  let j := s.lif.copy copy
  match (s.course j.course).bind (fun c => c.mem pos) with
  | some m =>
    guarded (decide (copy < 2)) .outOfRange
      (let t := (s.copyError copy 0 ((s.lif.waiting.head?.map (·.num)).getD s.lif.closed)).lifCnt 11
       (t.journalBlockFailed m j.rows).moveCopy copy)
  | none => .fault .noSuchObject

/-! ### Checkpoints (R268 to R270) -/

/-- Slots of a system course that a checkpoint of a compressed length takes, within one member. -/
def State.ckptSlots (s : State) (len : Nat) : Nat := clampNat 1 ((s.fl.geom.wls - 1) * 4) ((len + 4095) / 4096)

/-- Slots taken in a course's next data member with room. -/
def State.reserveRun (s : State) (n k : Nat) : Option (Nat × Nat × State) :=
  (s.course n).bind (fun c =>
    (c.memberFor n s.fl.geom c.nextMem k true).map (fun x =>
      let a := (x.2.2.next + 3) / 4 * 4
      let c := ({ c with nextMem := x.1 + 1 }).setMem x.2.1 { x.2.2 with next := a + k }
      let t := { s with crs := { s.crs with courses := Tab.put n c s.crs.courses } }
      (psaOf x.2.2.die x.2.2.blk 0 0 + a, n, (t.crsCnt 1 (a - x.2.2.next)).rowTimers n)))

/-- A place for a checkpoint: in an open system course with room, else in a new one while fewer than `most` are open. -/
def State.placeSystem (s : State) (k most : Nat) : Option (Nat × Nat × State) :=
  let os := (s.crs.courses.filter (fun p => decide (p.2.band = 5) && !p.2.closed))
  match os.findSome? (fun p => s.reserveRun p.1 k) with
  | some r => some r
  | none =>
    if most ≤ os.length then none
    else (State.courseFor (Nat.max 1 (32 * s.fl.ranks)) 5 0 k true s).bind (fun x => x.2.reserveRun x.1 k)

/-- The extents of a segment as they stand. -/
def State.segContent (s : State) (g : Nat) : List (Nat × Ext) :=
  (s.map.coarse.filter (fun p => decide (segOf p.1 = g))).map (fun p => (p.1, s.ext p.1))

/-- Blocks of 64 KiB of a checkpoint's content: a segment's 16 MiB of coarse entries and 96 bytes of fine entries for each overlaid extent, or the
32 MiB of a part (R268, R270, R337). -/
def State.ckptBlocks (s : State) (num : Nat) : Nat :=
  if num < 8192 then
    (2 ^ 24 + 96 * ((s.segContent num).filter (fun p => match p.2 with | .fine _ => true | _ => false)).length + 65535) / 65536
  else 512

/-- A checkpoint begun: S noted, the content copied, its pages placed. Where no system course has room it waits for the next round. -/
def State.startCkpt (s : State) (num len most : Nat) : State :=
  match s.placeSystem (s.ckptSlots len) most with
  | none => s
  | some (p, n, t) =>
    let c : Ckpt := { num := num, part := decide (8192 ≤ num), start := s.lif.nextRec, psa := p, len := len, course := n, time := s.clk.mono,
                      group := 0, exts := if num < 8192 then s.segContent num else [] }
    let t := (t.cmpCnt 8 (s.ckptBlocks num)).emitBlocks
    { t with lif := { t.lif with running := t.lif.running ++ [c], touched := t.lif.touched.filter (· ≠ num) } }

/-- A mark for a segment or part with no record since its last checkpoint: the checkpoint is named again with a new S. -/
def State.markUnchanged (s : State) (num : Nat) : State :=
  let c := (Tab.getD num [] s.lif.kept).head?
  let psa := (c.map (·.psa)).getD 0
  let t := (s.batch [.checkpointMark (num % 8192) (decide (8192 ≤ num)) true s.lif.nextRec psa ((c.map (·.len)).getD 0)]).lifCnt 8
  match c with
  | some c =>
    let c := { c with start := s.lif.nextRec, group := t.lastGroup }
    { t with lif := { t.lif with kept := Tab.put num (c :: Tab.getD num [] t.lif.kept) t.lif.kept } }
  | none => t

/-- A segment whose kept checkpoint lies in a system course more than 30 minutes old and less than a quarter used by kept checkpoints. -/
def State.outOfTurn (s : State) : Option Nat :=
  let ks := s.lif.kept.flatMap (·.2)
  let sparse := s.crs.courses.filter (fun p => decide (p.2.band = 5) && p.2.closed && decide (p.2.closeTime + 1800000000000 ≤ s.clk.mono) &&
    decide (4 * sumNat ((ks.filter (fun c => c.course = p.1)).map (fun c => s.ckptSlots c.len)) < s.courseCap p.1 p.2))
  ((ks.filter (fun c => sparse.any (fun p => p.1 = c.course) && !(s.lif.running.any (fun r => r.num = c.num)))).head?).map (·.num)

/-- The next segment, or block-table part after every 384 segments, of the round. -/
def State.nextCkpt (s : State) : Nat × State :=
  let g := s.fld F.lifCkptStatNextseg
  let p := s.lif.nextPart
  if (if g = 0 then p ≠ 0 else p < g / 384) then
    (8192 + p, { s with lif := { s.lif with nextPart := (p + 1) % 16 } })
  else
    let t := s.setFld F.lifCkptStatNextseg ((g + 1) % 6144)
    (g, if g + 1 = 6144 then t.addWrap F.lifCkptStatRounds 1 else t)

/-- CHECKPOINT_INTERVAL: the next in the round is copied and written in a compressed length, or marked unchanged; back to back while
urgent (R267, R268). -/
def execCheckpointInterval (len : Nat) (s : State) : Host.Outcome State Fault Refusal :=
  onTimer s .checkpointInterval (fun t =>
    let t := match t.outOfTurn with
      | some n => (t.startCkpt n len 4).lifCnt 10
      | none => t
    let (num, t) := t.nextCkpt
    let t := if t.lif.running.any (fun c => c.num = num) then t
      else if t.lif.touched.contains num then t.startCkpt num len 4
      else t.markUnchanged num
    t.arm .checkpointInterval (if t.flag F.lifCkptStatUrgent then 0 else nsMs (t.fld F.lifCkptCtlInterval)))

/-- A running checkpoint's mark recorded. -/
def State.markCkpt (s : State) (c : Ckpt) : State :=
  let t := s.batch [.checkpointMark (c.num % 8192) c.part false c.start c.psa c.len]
  let c := { c with group := t.lastGroup }
  let t := { t with lif := { t.lif with running := t.lif.running.filter (fun r => r.num ≠ c.num),
                                        kept := Tab.put c.num (c :: Tab.getD c.num [] t.lif.kept) t.lif.kept } }
  (if c.part then t.lifCnt 9 else t.lifCnt 7).pruneKept

/-- CHECKPOINT_MARK: the checkpoint's pages are program-safe (R268 step 4). Parts are numbered from 8,192. -/
def execCheckpointMark (num : Nat) (s : State) : Host.Outcome State Fault Refusal :=
  match s.lif.running.find? (fun c => c.num = num) with
  | some c => guarded (s.runSafe c.psa (s.ckptSlots c.len)) .noSuchObject (s.markCkpt c)
  | none => .fault .noSuchObject

/-! ### The clean stop (R122, R271, R458) -/

/-- Whether every enabled function has shut down normally. -/
def State.allShutDown (s : State) : Bool :=
  let en := s.fns.filter (fun p => p.2.en)
  !en.isEmpty && en.all (fun p => decide (p.2.shst = 2) && decide (p.2.shn = 1))

/-- Whether every accepted command has completed, one that waits for this left out; Asynchronous Event Requests stay (R123). -/
def State.drainedFor (s : State) (own : Option Nat) : Bool :=
  s.q.cmds.all (fun p => decide (some p.1 = own) || (p.2.admin && decide (p.2.sqe.opcode = 0x0C)))

/-- Whether a life-cycle change has reached its clean stop or the step before it: the accepted commands have completed (R458). -/
def State.lcStopping (s : State) : Bool :=
  s.sec.lcRun.any (fun r => decide (r.2.2.2.2 = 2 ∨ r.2.2.2.2 = 4) && s.drainedFor (some r.1))

/-- Into RETIRED every namespace is crypto-erased before the clean stop (R458 step 3). -/
def State.lcErase (s : State) : State :=
  match s.sec.lcRun with
  | some (c, target, role, at_, 2) =>
    let step := if target = 2 ∧ !s.nss.isEmpty then 3 else 4
    let t : State := { s with sec := { s.sec with lcRun := some (c, target, role, at_, step) } }
    if step = 3 then ((t.dropNsSlots none).clearAll.cryptoStart (t.nss.map (·.1)) 3).cryptoStep else t
  | _ => s

/-- CLEAN_STOP: the write buffer is programmed, every touched segment and part is checkpointed, then the CLEAN group closes and its commit
brings the anchor. One row stands for each advance: partial rows are padded while slots wait; checkpoints start; and once nothing
waits, the group closes, alone if it must. The length is that of the checkpoints begun. -/
def execCleanStop (len : Nat) (s : State) : Host.Outcome State Fault Refusal :=
  let t := s.lcErase
  let waiting := t.buf.slots.any (fun p => !p.2.applied) || !t.crs.rmws.isEmpty
  let opens := (t.crs.courses.filter (fun p => !p.2.closed && (decide (p.2.band ≤ 2) || decide (p.2.band = 5)))).map (·.1)
  let pads := fun (u : State) => opens.foldl (fun u n => u.padRow n) u
  guarded (s.allShutDown || s.lcStopping) .noSuchObject
    (if t.sec.lcRun.any (fun r => r.2.2.2.2 = 3) then t
     else if waiting then pads t
     else if !t.lif.touched.isEmpty || !t.lif.running.isEmpty then pads (t.lif.touched.foldl (fun u n => u.startCkpt n len 32) t)
     else (t.openNew).closeGroup false true)

end Sys2Proof.Machine
end

