-- ==== Sys2Proof/Machine/Erase.lean ====
section
/-! DEFINITION. Erases and the open check; Dataset Management and Write Uncorrectable; parked stitches resumed
(R21, R111, R112, R169, R174, R176, R193, R207). -/

namespace Sys2Proof.Machine

/-! ### Erase and open check (R21, R193) -/

/-- Whether a block's erase may be issued: erase-pending with its group committed, no reader pins, its die free (R113, R263, R272). -/
def State.mayErase (s : State) (d b : Nat) : Bool :=
  let x := s.blk (blkId d b)
  decide (x.state = .erasePending) && !x.checking && decide (x.group ≤ s.lif.committed) && !(Tab.has (blkId d b) s.q.pins) && s.dieFree d &&
    decide (b < s.fl.geom.blocks)

/-- ERASE_ISSUE. -/
def execEraseIssue (die block : Nat) (s : State) : Host.Outcome State Fault Refusal :=
  let op : FlashOp := { kind := 2, obj := blkId die block, pos := 0, start := s.clk.mono, suspended := false, suspends := 0, level := 6 }
  let t := { s with fl := { s.fl with ops := Tab.put die op s.fl.ops } }
  guarded (s.mayErase die block) .noSuchObject
    ((t.dropMedia (blkId die block)).arm (.flashOp die) (t.opTimeout die t.fl.geom.teMax))

/-- A block erased with pass status: its count rises, ERASE_DONE is recorded, and the open check follows. -/
def State.erasedOk (s : State) (b : Nat) : State :=
  let t := s.updBlk b (fun x => { x with ec := x.ec + 1, checking := true, eFails := 0, reads := 0, level := 0, tinked := none,
                                         course := 0, pos := 0 })
  let t := { t with fl := { t.fl with synd := t.fl.synd.filter (fun p => p.1 ≠ b) } }
  ((t.batch [.eraseDone (b / 4096) (b % 4096) (t.blk b).ec]).rclCnt 8).sknCnt (b / 4096) 3 |>.sknCnt (b / 4096) 11

/-- A failed erase: one more erase, or retirement after the second (R207). -/
def State.eraseFailed (s : State) (b : Nat) : State :=
  let n := (s.blk b).eFails + 1
  let t := s.updBlk b (fun x => { x with eFails := n, checking := false })
  let t := (((t.setFlag F.crsStatEfailseen).pfLog 1 b).event 0x0403 (b / 4096) (b % 4096)).crsCnt 9
  let t := t.addSat (F.chnErrFails (b / 4096 / 16)) 1
  if 2 ≤ n then t.retire b 1 else t

/-- The erase in progress on a die, by its block. -/
def State.eraseOf (s : State) (d : Nat) : Option Nat :=
  (Tab.find d s.fl.ops).bind (fun o => if o.kind = 2 ∧ !o.suspended then some o.obj else none)

/-- ERASE_COMPLETE: the die's erase ends with pass or fail status (R193 step 1). -/
def execEraseComplete (die : Nat) (pass : Bool) (s : State) : Host.Outcome State Fault Refusal :=
  withSome (s.eraseOf die) (fun b => if pass then (s.opEnd die).erasedOk b else (s.opEnd die).eraseFailed b)

/-- OPEN_CHECK: a pass puts the block in the erased pool; a fail has it erased again, a second in a row retires it (R193). -/
def execOpenCheck (die block : Nat) (pass : Bool) (s : State) : Host.Outcome State Fault Refusal :=
  let b := blkId die block
  guarded ((s.blk b).checking && decide ((s.blk b).state = .erasePending)) .noSuchObject
    (if pass then
       ((s.updBlk b (fun x => { x with state := .erased, checking := false, cFails := 0 })).noteF).placeWaiting
     else
       let n := (s.blk b).cFails + 1
       let t := s.updBlk b (fun x => { x with checking := false, cFails := n })
       let t := (((t.setFlag F.crsStatOpenchkseen).pfLog 2 b).event 0x0404 die block).crsCnt 10
       if 2 ≤ n then t.retire b 2 else t.crsCnt 11)

/-! ### Order among overlapping commands (R115) -/

/-- Whether an earlier overlapping command holds back a command's own updates. -/
def State.mustWait (s : State) (c : Nat) : Bool := !(s.earlierLocks c true).isEmpty || !(s.earlierLocks c false).isEmpty

/-- A command held back by an earlier one: its stitches park under reason 2. -/
def State.holdBack (s : State) (c : Nat) : State := (s.parkAll c 2).qenCnt 7

/-- The segments of a namespace's ranges. -/
def Ns.segsOf (n : Ns) (rs : List (Nat × Nat)) : List Nat := rs.flatMap (fun r => n.segs r.1 r.2)

/-- Why a command cannot touch its ranges now: a lost segment ends it with 06h, a stalled one parks it under reason 3 (R179). -/
def State.segGate (s : State) (c : Nat) (n : Ns) (rs : List (Nat × Nat)) : Option State :=
  let gs := n.segsOf rs
  if gs.any s.segLost then some (s.failWrite c St.internal)
  else if gs.any s.segStalled then some ((s.parkAll c 3).mapCnt 24)
  else none

/-- A command whose effect is recorded completes once its group is committed, or at once where nothing waits (R263). -/
def State.awaitRecorded (s : State) (c : Nat) : State :=
  if s.lif.committed < s.lastGroup then s.updCmd c (fun k => { k with phase := .waitGroup s.lastGroup })
  else (s.unlock c).finish c St.ok

/-! ### Dataset Management (R132, R174) -/

/-- Ranges deallocated one after another, with their records (R174). -/
def State.deallocRanges (s : State) (n : Ns) (rs : List (Nat × Nat)) : State × List Rec :=
  rs.foldl (fun (acc : State × List Rec) r =>
    let (u, l) := acc.1.deallocRange n r.1 r.2
    (u, acc.2 ++ l)) (s, [])

/-- A deallocation that has applied: it completes with the group of its records, or of those before it where it made none. -/
def State.deallocated (s : State) (cmd : Nat) (recs : List Rec) : State :=
  if recs.isEmpty then
    match s.awaited with
    | some g => s.updCmd cmd (fun k => { k with phase := .waitGroup g })
    | none => (s.unlock cmd).finish cmd St.ok
  else (s.batch recs).awaitRecorded cmd

/-- DATASET_MANAGEMENT: with AD the ranges are deallocated; the integral attributes alone do nothing. At most 256 ranges; a range past the
namespace completes with 80h. -/
def execDatasetManagement (cmd : Nat) (ad : Bool) (s : State) : Host.Outcome State Fault Refusal :=
  onNs s cmd 0x09 (fun k n =>
    let rs := k.sqe.ranges
    if rs.isEmpty ∨ 256 < rs.length then s.fail cmd St.badField
    else if rs.any (fun r => decide (n.size < r.1 + r.2)) then s.fail cmd St.lbaRange
    else if !ad then s.fail cmd St.ok
    else if s.mustWait cmd then s.holdBack cmd
    else
      match s.segGate cmd n rs with
      | some t => t
      | none =>
        let r := (s.unpark cmd).deallocRanges n rs
        r.1.deallocated cmd r.2)

/-! ### Write Uncorrectable (R169, R176) -/

/-- Overlay blocks that the marks of a range need beyond those their extents hold. -/
def State.overlaysNeeded (s : State) (n : Ns) (slba nlb : Nat) : Nat :=
  ((pieces 16 slba nlb).filter (fun p => (n.index p.1).any (fun e =>
    match s.centry e with | .overlay _ => false | _ => true))).length

/-- One extent's slots marked: directly, or by a read-modify-write of a compressed extent. -/
def State.markPiece (s : State) (c nsid : Nat) (n : Ns) (first count : Nat) : State × List Rec :=
  match n.index first with
  | none => (s, [])
  | some e =>
    let ps := (List.range count).map (· + first % 16)
    match s.ext e with
    | .frame _ _ => (s.startRmw c nsid e (first / 16 * 16) ps n.compress, [])
    | _ =>
      let (t, r) := s.setSlots e (ps.map (fun i => (i, FEntry.marked)))
      (t.mapCnt 18 count, r)

/-- A range marked, in one batch; the command waits for its read-modify-writes, or for the group of its records. -/
def State.markRange (s : State) (cmd nsid : Nat) (n : Ns) (slba nlb : Nat) : State :=
  let r := (pieces 16 slba nlb).foldl (fun (acc : State × List Rec) p =>
    let (u, l) := acc.1.markPiece cmd nsid n p.1 p.2
    (u, acc.2 ++ l)) (s, [])
  let t := r.1.batch r.2
  if t.crs.rmws.any (fun r => r.2.cmd = cmd) then t.updCmd cmd (fun k => { k with phase := .waitDurable })
  else t.awaitRecorded cmd

/-- WRITE_UNCORRECTABLE: fine kind 01b for each slot. With no overlay block free it completes with 06h and marks nothing. -/
def execWriteUncorrectable (cmd : Nat) (s : State) : Host.Outcome State Fault Refusal :=
  onNs s cmd 0x04 (fun k n =>
    match n.refuses k.sqe.slba k.sqe.nlb 65536 with
    | some st => s.fail cmd st
    | none =>
      if s.flag F.rclRoRo then (s.fail cmd St.writeProtected).rclCnt 10
      else if s.mustWait cmd then s.holdBack cmd
      else
        match s.segGate cmd n [(k.sqe.slba, k.sqe.nlb)] with
        | some t => t
        | none =>
          if poolTotal < s.map.overlays.length + s.overlaysNeeded n k.sqe.slba k.sqe.nlb then
            ((s.fail cmd St.internal).setFlag F.mapStatPoolfullseen).mapCnt 25
          else
            ((s.unpark cmd).updCmd cmd (fun k => { k with buffered := true })).markRange cmd k.sqe.nsid n k.sqe.slba k.sqe.nlb)

/-! ### Parked stitches (R111, R112) -/

/-- Whether what a parked stitch waits for has come about. -/
def State.mayResume (s : State) (id : Nat) (x : Stitch) (k : Cmd) (reason : Nat) : Bool :=
  match reason with
  | 0 => !(s.hif.groups.any (fun g => g.stitch = id))
  | 1 => (s.func k.fn).bme
  | 2 => (s.earlierWrites x.cmd).isEmpty && (!(writesData k.sqe.opcode || decide (k.sqe.opcode = 0x09)) || !(s.mustWait x.cmd) ||
           decide (k.sqe.opcode = 0x01))
  | 3 => (Tab.find k.sqe.nsid s.nss).all (fun n =>
           !((n.segsOf (k.sqe.lockRanges.map (fun r => (r.1, r.2.1)))).any s.segStalled))
  | 4 => s.admits x.cmd k.fn k.sqe.nlb
  | _ => true

/-- A parked stitch back in the queue of its level, ready from now. -/
def State.resume (s : State) (id : Nat) (x : Stitch) : State :=
  let t := { s with q := { s.q with stitches := Tab.put id { x with phase := .ready, since := s.clk.mono } s.q.stitches } }
  (if 2 < x.level then t.arm (.stitchAging id) (nsMs (t.fld F.qenAgeAgems)) else t).qenCnt 6

/-- STITCH_RESUME: the stitch's reason has cleared; it goes on from its slot at its own level and fetch number. -/
def execStitchResume (stitch : Nat) (s : State) : Host.Outcome State Fault Refusal :=
  match Tab.find stitch s.q.stitches with
  | none => .fault .noSuchObject
  | some x =>
    match x.phase, s.cmd x.cmd with
    | .parked r, some k => guarded (s.mayResume stitch x k r) .noSuchObject (s.resume stitch x)
    | _, _ => .fault .noSuchObject

end Sys2Proof.Machine
end

