-- ==== Sys2Proof/Machine/ReadPath.lean ====
section
/-! DEFINITION. The read path: resolution, page reads and suspends, the retry ladder, tail cuts, reconstruction, checks, slow dies, and
what Read, Compare, Verify and Copy do with their slots (R19, R115, R132, R133, R218 to R236). -/

namespace Sys2Proof.Machine

/-- A counter of R237 raised; it wraps. -/
def State.eccCnt (s : State) (n : Nat) (k : Nat := 1) : State :=
  let t := s.addWrap (F.eccCntCount n) k
  if n < 8 then { t with rd := { t.rd with ended := t.rd.ended.set n (t.rd.ended.getD n 0 + k) } } else t

/-- 83h of type 1h, Command Size Limit Exceeded (NVM Express): the limits of Copy (R132). -/
def St.copyLimit : Status := ⟨1, 0x83, true⟩

/-! ### Refresh queue (R246) -/

/-- The course of a block queued for refresh after step L5 (R218). -/
def State.refreshBlock (s : State) (b : Nat) : State :=
  (s.eccCnt 5).queueVictim (s.blk b).course 1 5

/-- One page read counted on its block; the course is queued at RDLIM × 10,000 reads (R246). -/
def State.countRead (s : State) (b : Nat) : State :=
  let t := s.updBlk b (fun x => { x with reads := x.reads + 1 })
  if (t.blk b).reads = t.fld F.rclRefCtlRdlim * 10000 ∧ (t.blk b).course ≠ 0 then t.queueVictim (t.blk b).course 3 5 else t

/-! ### Read levels (R220) -/

/-- The program-age bin of a block: under 1 hour, 1 day, 1 week, 30 days, or older. -/
def State.ageBin (s : State) (b : Nat) : Nat :=
  match s.course (s.blk b).course with
  | none => 0
  | some c =>
    if !c.closed then 0
    else
      let a := (s.clk.mono - c.closeTime) / 1000000000
      if a < 3600 then 0 else if a < 86400 then 1 else if a < 604800 then 2 else if a < 2592000 then 3 else 4

/-- The key of a tracked level: die, age bin, erase-count band. -/
def State.levelKey (s : State) (b : Nat) : Nat := (b / 4096 * 8 + s.ageBin b) * 32768 + (s.blk b).ec / 500

/-- A level that recovered a codeword at L1 or L2: it becomes the block's stored level and the tracked one. -/
def State.noteLevel (s : State) (b level : Nat) : State :=
  let t := s.updBlk b (fun x => { x with level := level % 8 })
  { t with fl := { t.fl with levels := Tab.put (s.levelKey b) (level % 8) t.fl.levels } }

/-- The syndrome weight of an L0 decode: a block whose mean over 64 reads is above 320 moves to the tracked level. -/
def State.noteSynd (s : State) (b w : Nat) : State :=
  let old := ((s.fl.synd.find? (fun p => p.1 = b)).map (·.2)).getD (0, 0)
  let n := old.1 + 1
  let sum := old.2 + w
  let rest := s.fl.synd.filter (fun p => p.1 ≠ b)
  if n < 64 then { s with fl := { s.fl with synd := (b, n, sum) :: rest } }
  else
    let t := { s with fl := { s.fl with synd := rest } }
    if 320 * 64 < sum then t.updBlk b (fun x => { x with level := Tab.getD (s.levelKey b) x.level s.fl.levels }) else t

/-! ### Slow dies (R226 to R229) -/

/-- An entry of ECC_SLOWLOG: 0 classified, 1 released; entry 0 is the newest. -/
def State.slowLog (s : State) (event die : Nat) : State :=
  let t := s.shiftLog Reg.eccSlowlog 8
  (((t.setFld (F.eccSlowlogValid 0) 1).setFld (F.eccSlowlogEvent 0) event).setFld (F.eccSlowlogDie 0) die).stamp (Reg.eccSlowlog 0)

/-- HOLDS seconds from now, and the next probe. -/
def State.holdSlow (s : State) (d : Nat) : State :=
  ({ s with fl := { s.fl with slow := Tab.put d s.clk.mono s.fl.slow } } : State).arm (.slowHold d) (nsSec (s.fld F.eccSlowCtlHolds))

/-- A die classed slow. -/
def State.classSlow (s : State) (d : Nat) : State :=
  let t := ((s.setFlag F.eccStatSlowseen).slowLog 0 d).event 0x0501 d
  ((t.eccCnt 12).holdSlow d).arm (.slowProbe d) (nsMs (10 * t.fld F.eccSlowCtlProbems))

/-- A counted miss: on a slow die it holds it slow; MISSES within 1 s class a die. -/
def State.countMiss (s : State) (d : Nat) : State :=
  if Tab.has d s.fl.slow then s.holdSlow d
  else
    let l := ((Tab.getD d [] s.fl.misses).filter (fun m => decide (s.clk.mono < m + 1000000000))) ++ [s.clk.mono]
    let t := { s with fl := { s.fl with misses := Tab.put d l s.fl.misses } }
    if t.fld F.eccSlowCtlMisses ≤ l.length then
      ({ t with fl := { t.fl with misses := Tab.del d t.fl.misses } } : State).classSlow d
    else t

/-- A die released. -/
def State.releaseSlow (s : State) (d : Nat) : State :=
  let t := { s with fl := { s.fl with slow := Tab.del d s.fl.slow } }
  ((((t.cancel (.slowHold d)).cancel (.slowProbe d)).slowLog 1 d).event 0x0502 d).eccCnt 13

/-- SLOW_DIE_HOLD_EXPIRY. -/
def execSlowDieHoldExpiry (die : Nat) (s : State) : Host.Outcome State Fault Refusal :=
  onTimer s (.slowHold die) (fun t => if Tab.has die t.fl.slow then t.releaseSlow die else t)

/-- Every slow die released (ECC_CTL.RELEASE, R229). -/
def State.releaseAllSlow (s : State) : State := (s.fl.slow.map (·.1)).foldl (fun t d => t.releaseSlow d) s

/-- SLOW_PROBE_TIMER: a probe page is read to measure tR; it counts as a miss above PROBETR tenths of the typical tR or beyond the
deadline from queueing to arrival. The row gives both times in ns (R229). -/
def execSlowProbeTimer (die tr total : Nat) (s : State) : Host.Outcome State Fault Refusal :=
  onTimer s (.slowProbe die) (fun t =>
    if !(Tab.has die t.fl.slow) then t
    else
      let t := ((t.eccCnt 14).sknCnt die 0).arm (.slowProbe die) (nsMs (10 * t.fld F.eccSlowCtlProbems))
      if t.fld F.eccSlowCtlProbetr * t.fl.geom.tr < 10 * tr ∨ t.fld F.eccTcutDeadline * 10000 < total then (t.eccCnt 15).countMiss die
      else t)

/-! ### Delivery -/

/-- The slots of a read or compare that leave the device: a slot sent for a Read. -/
def State.deliverSlot (s : State) (c lba data : Nat) : State :=
  let t := s.updCmd c (fun k => { k with doneSlots := k.doneSlots + 1 })
  if ((s.cmd c).map (·.sqe.opcode)) = some 0x02 then t.send (.hostData c lba data) else t

/-- A failure noted on a command: the first stands, except that an unrecovered slot replaces a miscompare. -/
def State.noteFailure (s : State) (c : Nat) (st : Status) : State :=
  s.updCmd c (fun k => { k with failure := if k.failure = none ∨ k.failure = some St.compare then some st else k.failure })

/-- The failing LBA of a command, the lowest kept. -/
def State.noteBad (s : State) (c lba : Nat) : State :=
  s.updCmd c (fun k => { k with badLba := some (Nat.min lba (k.badLba.getD lba)) })

/-- The end of a read-type command that met a failure: 81h is counted, logged in Error Information and in the media errors once per
command (R233). -/
def State.endFailed (s : State) (c : Nat) (k : Cmd) (st : Status) : State :=
  let t := if st.sct = 2 ∧ st.sc = 0x81 then
      let u := (s.eccCnt 22).updFunc k.fn (fun f => { f with errors := pushFront 256 (k.sqe.cid, 0x81, k.badLba.getD 0) f.errors })
      { u with adm := { u.adm with mediaErrs := u.adm.mediaErrs + 1 } }
    else s
  t.failWrite c st

/-- The data of a range as the map now gives it, buffered slots of earlier writes first. -/
def State.slotNow (s : State) (c nsid : Nat) (n : Ns) (lba : Nat) : Nat × Nat :=
  match (s.buf.slots.filter (fun p => decide (p.2.nsid = nsid) && decide (p.2.lba = lba) && decide (p.2.cmd < c) && !p.2.applied &&
      !p.2.lost)).getLast? with
  | some p => (p.2.data, p.2.mdata)
  | none => match n.index lba with
    | some e => s.slotData (s.ext e) (lba % 16)
    | none => (0, 0)

/-- The source ranges of a Copy, LBA by LBA. -/
def copySources (q : Sqe) : List Nat := q.ranges.flatMap (fun r => lbas r.1 r.2)

/-- A Copy whose sources are read: its data goes through the write path (R132, R133). -/
def State.copyWrite (s : State) (c : Nat) (k : Cmd) : State :=
  match Tab.find k.sqe.nsid s.nss with
  | none => s.failWrite c St.badNamespace
  | some n =>
    let ds := (copySources k.sqe).map (fun l => s.slotNow c k.sqe.nsid n l)
    let lk := s.q.locks.filter (fun l => !(decide (l.cmd = c) && !l.write))
    let t : State := { s with q := { s.q with locks := lk } }
    t.bufferWrite c k n k.sqe.slba ds.length ((s.handleOf n k.sqe).getD 0) ds ⟨false, [], []⟩

/-- Every slot of a command is staged: Read, Compare and Verify complete, a Copy writes, a Strand Copy Push has its source. -/
def State.readsDone (s : State) (c : Nat) : State :=
  match s.cmd c with
  | none => s
  | some k =>
    if s.rd.reads.any (fun r => r.2.cmd = c) then s
    else
      match k.failure with
      | some st => s.endFailed c k st
      | none =>
        if k.sqe.opcode = 0x19 then s.copyWrite c k
        else if k.sqe.opcode = 0x81 then s.updCmd c (fun k => { k with buffered := true })
        else (s.unlock c).finish c St.ok

/-! ### Codeword reads -/

/-- A codeword read. -/
def State.cw (s : State) (r : Nat) : Option CwRead := Tab.find r s.rd.reads

/-- A codeword read changed. -/
def State.updCw (s : State) (r : Nat) (f : CwRead → CwRead) : State := { s with rd := { s.rd with reads := Tab.upd r f s.rd.reads } }

/-- A codeword read over: its timers stop and its pin is dropped. -/
def State.dropCw (s : State) (r : Nat) (x : CwRead) : State :=
  let t := (s.cancel (.tailCut r)).cancel (.tler r)
  { t with rd := { t.rd with reads := Tab.del r t.rd.reads }, q := { t.q with pins := unpin t.q.pins [psaBlk x.psa] } }

/-- The reads of the frame that a codeword belongs to. -/
def State.frameReads (s : State) (x : CwRead) : List (Nat × CwRead) :=
  s.rd.reads.filter (fun p => decide (p.2.cmd = x.cmd) && decide (p.2.lba = x.lba) && decide (p.2.frame = x.frame) && decide (x.frame ≠ 0))

/-- A codeword, or all those of its frame, ended without data: the command fails once its other reads are done. -/
def State.abandonCw (s : State) (r : Nat) (x : CwRead) (st : Status) : State :=
  let t := (if x.frame = 0 then [(r, x)] else s.frameReads x).foldl (fun t p => t.dropCw p.1 p.2) s
  ((t.noteBad x.cmd x.lba).noteFailure x.cmd st).readsDone x.cmd

/-- A codeword at L6 (R233): location, cause, event, the command's failure. The mapping is left as it was. -/
def State.atL6 (s : State) (r : Nat) (x : CwRead) (cause : Nat) : State :=
  let d := psaDie x.psa
  let t := ((s.setFld F.eccUeLocValid 1).setFld F.eccUeLocDie d).setFld F.eccUeLocBlock (psaBlock x.psa)
  let t := ((t.setFld F.eccUePageCause cause).setFld F.eccUePagePage (psaPage x.psa)).setFld F.eccUePageSlot (x.psa % 4)
  let t := ((t.setFlag F.eccStatUeseen).eccCnt 6).event 0x0503 d (psaBlock x.psa) (t.word Reg.eccUePage).toNat x.nsid
  t.abandonCw r x (St.unrecovered (decide (cause = 2)))

/-- The cause that R236 gives a codeword whose ladder ends: 3 L3 omitted, 1 steps skipped or L4 barred, 0 every step ran. -/
def State.causeOf (s : State) (x : CwRead) : Nat :=
  if ((s.cmd x.cmd).any (fun k => k.sqe.lr)) || !(s.flag F.eccSoftCtlL3en) then 3
  else if x.again || x.skipped then 1 else 0

/-- Reconstruction of a codeword begun (R221): `why` 0 at L4, 1 a tail cut, 2 in advance. Its reads are counted. -/
def State.rebuild (s : State) (r : Nat) (x : CwRead) (why : Nat) : State :=
  let n := (s.blk (psaBlk x.psa)).course
  let k := match s.course n with
    | some c => ((c.dataPos n).filter (fun p => (c.mem p).any (fun m => m.serves (psaSlot x.psa / spw c.slc)))).length
    | none => 0
  ((s.cancel (.tailCut r)).updCw r (fun y => { y with phase := .rebuilding, why := why, step := if why = 0 then 4 else y.step })).eccCnt 10 k

/-- Whether a die is classed slow and its slots are rebuilt in advance (R228). -/
def State.bypassed (s : State) (d : Nat) : Bool := Tab.has d s.fl.slow && s.flag F.eccCtlPrerec

/-- A codeword read set up for a slot: queued at its die, or rebuilt in advance; its block is pinned. In PS2 it may have to wait for
its skein's slot (R113, R228, R364). -/
def State.newCw (s : State) (c stitch nsid lba psa frame index : Nat) : State :=
  let r := s.rd.nextId
  let x : CwRead := { cmd := c, stitch := stitch, nsid := nsid, lba := lba, psa := psa, frame := frame, index := index, step := 0,
                      phase := .queued, why := 0, again := false, skipped := false, late := false, start := s.clk.mono }
  let t := { s with rd := { s.rd with reads := Tab.put r x s.rd.reads, nextId := r + 1 }, q := { s.q with pins := addPins s.q.pins [psaBlk psa] } }
  if s.bypassed (psaDie psa) then (t.rebuild r x 2).eccCnt 9
  else if s.inTurn (psaDie psa) then t
  else t.addWrap (F.pwrCntCount 16) 1

/-- The stitch of a command that covers an LBA. -/
def State.stitchAt (s : State) (c lba : Nat) : Nat :=
  ((s.q.stitches.find? (fun p => decide (p.2.cmd = c) && covers p.2.first p.2.count lba)).map (·.1)).getD 0

/-- One slot of a command resolved (R19 steps 3 to 5): from an earlier write's buffered slots, or by the lookup of R164. A compressed
extent's frame is read once. -/
def State.resolveSlot (s : State) (c nsid : Nat) (n : Ns) (lba : Nat) : State :=
  match (s.buf.slots.filter (fun p => decide (p.2.nsid = nsid) && decide (p.2.lba = lba) && decide (p.2.cmd < c) && !p.2.applied)).getLast? with
  | some p =>
    if p.2.lost then ((s.noteBad c lba).noteFailure c (St.unrecovered false)).mapCnt 19 else s.deliverSlot c lba p.2.data
  | none =>
    match s.lookup n lba with
    | .unwritten => s.deliverSlot c lba 0
    | .marked => ((s.noteBad c lba).noteFailure c (St.unrecovered false)).mapCnt 19
    | .flash p => s.newCw c (s.stitchAt c lba) nsid lba p 0 0
    | .frame a k _ =>
      let l0 := lba / 16 * 16
      if s.rd.reads.any (fun r => decide (r.2.cmd = c) && decide (r.2.nsid = nsid) && decide (r.2.lba = l0) && decide (r.2.frame ≠ 0)) then s
      else (List.range k).foldl (fun t i => t.newCw c (s.stitchAt c lba) nsid l0 (a + i) k i) s

/-- The extents of a range counted by kind (R182). -/
def State.countLookups (s : State) (n : Ns) (slba nlb : Nat) : State :=
  (pieces 16 slba nlb).foldl (fun t p => match n.index p.1 with | some e => t.countLookup e | none => t) s

/-- Ranges of LBAs resolved for a command; where nothing comes from flash it is done at once. -/
def State.readRanges (s : State) (c nsid : Nat) (n : Ns) (rs : List (Nat × Nat)) : State :=
  let t := rs.foldl (fun t r => (t.countLookups n r.1 r.2)) (s.unpark c)
  let t := rs.foldl (fun t r => (lbas r.1 r.2).foldl (fun t l => t.resolveSlot c nsid n l) t) t
  t.readsDone c

/-- The gate that every read-type command passes: limits, a lost seed table, earlier writes still to be buffered, stalled and lost
segments (R115, R133, R179, R283). -/
def State.readGate (s : State) (c : Nat) (k : Cmd) (n : Ns) (rs : List (Nat × Nat)) (go : State) : State :=
  if rs.any (fun r => decide (n.size < r.1 + r.2)) then s.failWrite c St.lbaRange
  else if s.adm.degraded.contains 6 then s.failWrite c St.internal
  else if s.rd.reads.any (fun r => r.2.cmd = c) || k.buffered then s
  else if !(s.earlierWrites c).isEmpty then s.holdBack c
  else match s.segGate c n rs with
    | some t => t
    | none => if s.stitchHeld c && s.q.stitches.any (fun p => decide (p.2.cmd = c) && decide (p.2.phase = .parked 0 ∨ p.2.phase = .parked 1)) || s.dmaWaits c
              then s else go

/-- READ (R19, R132). -/
def execRead (cmd : Nat) (s : State) : Host.Outcome State Fault Refusal :=
  onNs s cmd 0x02 (fun k n =>
    if k.sqe.nlb = 0 ∨ 1024 < k.sqe.nlb then s.fail cmd St.badField
    else
      let r := [(k.sqe.slba, k.sqe.nlb)]
      let t := { s with adm := { s.adm with reads := s.adm.reads + 1 } }
      s.readGate cmd k n r (t.readRanges cmd k.sqe.nsid n r))

/-- VERIFY: up to 256 MiB, no data transferred (R132). -/
def execVerify (cmd : Nat) (s : State) : Host.Outcome State Fault Refusal :=
  onNs s cmd 0x0C (fun k n =>
    if k.sqe.nlb = 0 ∨ 65536 < k.sqe.nlb then s.fail cmd St.badField
    else
      let r := [(k.sqe.slba, k.sqe.nlb)]
      s.readGate cmd k n r (s.readRanges cmd k.sqe.nsid n r))

/-- COMPARE: a mismatch of any slot completes with 85h (R132). -/
def execCompare (cmd : Nat) (data : List HostSlot) (s : State) : Host.Outcome State Fault Refusal :=
  onNs s cmd 0x05 (fun k n =>
    if k.sqe.nlb = 0 ∨ 1024 < k.sqe.nlb then s.fail cmd St.badField
    else
      let r := [(k.sqe.slba, k.sqe.nlb)]
      let same := (List.range k.sqe.nlb).all (fun i => (data[i]?).any (fun d =>
        decide ((d.data, d.meta_) = s.slotNow cmd k.sqe.nsid n (k.sqe.slba + i))))
      let t := if same then s else s.noteFailure cmd St.compare
      s.readGate cmd k n r (t.readRanges cmd k.sqe.nsid n r))

/-- COPY: at most 128 source ranges of 16,384 LBAs and 262,144 LBAs in all; the sources are read and written through the write path
(R132, R133). -/
def execCopy (cmd : Nat) (s : State) : Host.Outcome State Fault Refusal :=
  onNs s cmd 0x19 (fun k n =>
    let rs := k.sqe.ranges
    let total := sumNat (rs.map (·.2))
    if rs.isEmpty ∨ rs.any (fun r => decide (r.2 = 0)) then s.failWrite cmd St.badField
    else if 128 < rs.length ∨ rs.any (fun r => decide (16384 < r.2)) ∨ 262144 < total then s.failWrite cmd St.copyLimit
    else if n.size < k.sqe.slba + total then s.failWrite cmd St.lbaRange
    else if (s.handleOf n k.sqe).isNone then s.failWrite cmd St.badField
    else if s.flag F.rclRoRo then (s.failWrite cmd St.writeProtected).rclCnt 10
    else if (n.segs k.sqe.slba total).any s.segLost then s.failWrite cmd St.internal
    else if !(s.admits cmd k.fn total) && !(Tab.has cmd s.buf.resv) then s.holdWrite cmd
    else
      let t := { s with buf := { s.buf with resv := Tab.put cmd total s.buf.resv } }
      s.readGate cmd k n rs (t.readRanges cmd k.sqe.nsid n rs))

/-! ### At the die (R224 to R230) -/

/-- Whether a read's level lets it suspend an operation: levels 0 to 5. -/
def State.readLevel (s : State) (x : CwRead) : Nat := ((s.cmd x.cmd).map (·.level)).getD 4

/-- A program or erase suspended for a read where R230 allows; at its limit SUSLIMSEEN is set. -/
def State.suspendFor (s : State) (d level : Nat) : State :=
  match Tab.find d s.fl.ops with
  | none => s
  | some o =>
    if o.suspended || decide (5 < level) || !(if o.kind = 1 then s.fl.geom.suspendP else s.fl.geom.suspendE) || decide (o.kind = 1 ∧ o.level = 0) || decide (2 < o.kind) || s.dump.running.isSome
    then s
    else
      let run := s.clk.mono - o.start
      let (least, most) := if o.kind = 1 then (s.fld F.eccSusCtlPgmmin * 10000, s.fld F.eccSusCtlPgmmax)
        else (s.fld F.eccSusCtlErsmin * 10000, s.fld F.eccSusCtlErsmax)
      if most ≤ o.suspends then s.setFlag F.eccStatSuslimseen
      else if run < least then s
      else
        let t := { s with fl := { s.fl with ops := Tab.put d { o with start := run, suspended := true, suspends := o.suspends + 1 } s.fl.ops } }
        ((t.cancel (.flashOp d)).eccCnt (if o.kind = 1 then 16 else 17)).sknCnt d 7 |>.sknCnt d 11

/-- A suspended operation goes on once no read is at its die. The time it was suspended does not count (R293). -/
def State.resumeOp (s : State) (d : Nat) : State :=
  match Tab.find d s.fl.ops with
  | none => s
  | some o =>
    if o.suspended && !(s.rd.reads.any (fun r => decide (psaDie r.2.psa = d) && decide (r.2.phase = .atDie))) then
      let max := if o.kind = 1 then s.fl.geom.tpMax else s.fl.geom.teMax
      let op : FlashOp := { o with start := s.clk.mono - o.start, suspended := false }
      (({ s with fl := { s.fl with ops := Tab.put d op s.fl.ops } } : State).sknCnt d 11).arm (.flashOp d) (s.opTimeout d max - o.start)
    else s

/-- PAGE_READ_ISSUE: a codeword's L0 read is queued for its die; its deadline and the TLER limit start, and an operation in the way may be
suspended. A die classed slow meanwhile is bypassed. -/
def execPageReadIssue (read : Nat) (s : State) : Host.Outcome State Fault Refusal :=
  match s.cw read with
  | none => .fault .noSuchObject
  | some x =>
    let d := psaDie x.psa
    let tler := ((s.cmd x.cmd).map (fun k => Tab.getD 0x05 0 (s.func k.fn).feats % 65536)).getD 0
    guarded (decide (x.phase = .queued) && !(Tab.has (d / 1024) s.fl.down) && s.inTurn d) .noSuchObject
      (if s.bypassed d && !x.again then (s.rebuild read x 2).eccCnt 9
       else
         let t := s.updCw read (fun y => { y with phase := .atDie, start := s.clk.mono })
         let t := (t.sknCnt d 0).sknCnt d 11
         let t := t.countRead (psaBlk x.psa)
         let t := if t.flag F.eccCtlTcuten && !x.again then t.arm (.tailCut read) (t.fld F.eccTcutDeadline * 10000) else t
         let t := if tler = 0 then t else t.arm (.tler read) (nsMs (100 * tler))
         t.suspendFor d (s.readLevel x))

/-- CODEWORD_ARRIVAL: the codeword reaches a decoder and its deadline is cancelled; one whose deadline won is discarded as late, one whose read
has ended is discarded; one classed erased goes directly to L4 (R214, R225). -/
def execCodewordArrival (read : Nat) (erased : Bool) (s : State) : Host.Outcome State Fault Refusal :=
  if s.rd.late.contains read then
    .next (({ s with rd := { s.rd with late := s.rd.late.filter (· ≠ read) } } : State).eccCnt 8)
  else
    match s.cw read with
    | none => guarded (decide (read < s.rd.nextId)) .noSuchObject s
    | some x =>
      let t := (s.cancel (.tailCut read)).sknCnt (psaDie x.psa) 1
      guarded (decide (x.phase = .atDie)) .noSuchObject
        ((if erased then
            (if x.again then t.atL6 read { x with skipped := true } (t.causeOf { x with skipped := true })
             else (t.updCw read (fun y => { y with skipped := true })).rebuild read x 0)
          else t.updCw read (fun y => { y with phase := .decoding })).resumeOp (psaDie x.psa))

/-- TAIL_CUT_DEADLINE: the deadline wins; reconstruction begins at once, and the miss counts against the die unless the read waited behind an
operation that could not be suspended (R225, R226). -/
def execTailCutDeadline (read : Nat) (s : State) : Host.Outcome State Fault Refusal :=
  onTimer s (.tailCut read) (fun t =>
    match t.cw read with
    | none => t
    | some x =>
      let d := psaDie x.psa
      let blocked := (Tab.find d t.fl.ops).any (fun o => !o.suspended)
      let u := (t.rebuild read x 1).eccCnt 7
      let u := { u with rd := { u.rd with late := u.rd.late ++ [read] } }
      (if blocked then u else u.countMiss d).resumeOp d)

/-- TLER_LIMIT: the limit wins against the step in progress and the codeword ends at L6 with cause 010b (R219). -/
def execTlerLimit (read : Nat) (s : State) : Host.Outcome State Fault Refusal :=
  onTimer s (.tler read) (fun t =>
    match t.cw read with
    | some x => ((t.eccCnt 23).atL6 read x 2).resumeOp (psaDie x.psa)
    | none => t)

/-! ### Decoding, checks and the ladder (R218 to R223, R231, R232) -/

/-- The next step of the ladder after a failed decode; 6 where none is left. -/
def State.nextStep (s : State) (x : CwRead) : Nat :=
  let slow := Tab.has (psaDie x.psa) s.fl.slow
  let noL3 := ((s.cmd x.cmd).any (fun k => k.sqe.lr)) || !(s.flag F.eccSoftCtlL3en)
  let n := if x.step = 0 then (if slow && !x.again then 4 else 1) else if x.step = 1 then 2 else if x.step = 2 then (if noL3 then 4 else 3) else 4
  if n = 4 ∧ x.again then 6 else n

/-- The ladder climbed after a failed decode. A read at an offset sets the read-retry feature and restores it (R302). -/
def State.climb (s : State) (r : Nat) (x : CwRead) : State :=
  let n := s.nextStep x
  let skip := decide (x.step = 0) && decide (n = 4)
  let t := s.updCw r (fun y => { y with skipped := y.skipped || skip })
  if n = 6 then t.atL6 r x (t.causeOf x)
  else if n = 4 then t.rebuild r x 0
  else ((t.updCw r (fun y => { y with step := n })).sknCnt (psaDie x.psa) 0).sknCnt (psaDie x.psa) 11 |>.sknCnt (psaDie x.psa) 14 2

/-- The end of a read whose rebuilt codeword, or one that may not be rebuilt, failed a check: 1 header, 2 frame, 3 CRC-64 (R232). -/
def State.checkEnds (s : State) (r : Nat) (x : CwRead) (check : Nat) : State :=
  let d := psaDie x.psa
  let t := ((s.setFld F.eccChkLocValid 1).setFld F.eccChkLocDie d).setFld F.eccChkLocBlock (psaBlock x.psa)
  let t := (t.setFld F.eccChkPageKind (if check = 1 then 1 else if check = 2 then 2 else 0)).setFld F.eccChkPagePage (psaPage x.psa)
  let t := ((t.setFld F.eccChkPageSlot (x.psa % 4)).setFlag F.eccStatChkseen).eccCnt 21
  let t := t.event 0x0504 d (psaBlock x.psa) (t.word Reg.eccChkPage).toNat
  let t := if check = 1 then
      match (Tab.find x.nsid t.nss).bind (fun n => n.index x.lba) with
      | some e => t.stall 3 e
      | none => t
    else t
  t.abandonCw r x (if check = 2 then St.compressCheck else St.guardCheck)

/-- The protection-information status of R136: 1 guard, 2 application tag, 3 reference tag. -/
def piStatus (p : Nat) : Option Status :=
  match p with
  | 1 => some St.guardCheck
  | 2 => some St.appCheck
  | 3 => some St.refCheck
  | _ => none

/-- A codeword that passed: a single slot is delivered, a frame's once all its codewords have. -/
def State.passCw (s : State) (r : Nat) (x : CwRead) (pi : Nat) : State :=
  let t := match piStatus pi with
    | some st => s.noteFailure x.cmd st
    | none => s
  if x.frame = 0 then
    let d := (((t.codeword x.psa).bind (fun w => w.data[0]?)).getD (0, 0)).1
    (((t.deliverSlot x.cmd x.lba d).dropCw r x)).readsDone x.cmd
  else
    let t := t.updCw r (fun y => { y with phase := .decoded })
    let fs := t.frameReads x
    if fs.all (fun p => decide (p.2.phase = .decoded)) then
      match t.cmd x.cmd, fs with
      | some k, (_, y) :: _ =>
        let ds := ((t.codeword (x.psa - x.index)).map (·.data)).getD []
        let mine := (List.range 16).filter (fun i => k.sqe.lockRanges.any (fun q => covers q.1 q.2.1 (y.lba + i)))
        let t := mine.foldl (fun t i => t.deliverSlot x.cmd (y.lba + i) ((ds[i]?).getD (0, 0)).1) t
        ((fs.foldl (fun t p => t.dropCw p.1 p.2) t).cmpCnt 9).readsDone x.cmd
      | _, _ => fs.foldl (fun t p => t.dropCw p.1 p.2) t
    else t

/-- A check counted: 18 CRC-64, 19 header, 20 frame. -/
def checkCounter (check : Nat) : Nat := if check = 1 then 19 else if check = 2 then 20 else 18

/-- A failed check noted: a frame's names its rejection, of a kind that the row does not tell (R231, R342). -/
def State.noteCheck (s : State) (check : Nat) : State :=
  let t := s.eccCnt (checkCounter check)
  if check = 2 then (t.draw.2).rejectFrame 0 (t.draw.1 % 6) 0 else t

/-- A codeword decoded at a step, its checks made. A failed check at L0 to L3 sends it, or its whole frame, to L4. -/
def State.decoded (s : State) (r : Nat) (x : CwRead) (check pi : Nat) : State :=
  if check = 0 then
    let t := s.eccCnt x.step
    let t := if x.step = 3 then t.refreshBlock (psaBlk x.psa) else t
    t.passCw r x pi
  else
    let t := s.noteCheck check
    if x.again then t.checkEnds r x check
    else (if x.frame = 0 then [(r, x)] else s.frameReads x).foldl (fun t p => t.rebuild p.1 p.2 0) t

/-- DECODE_COMPLETE: an LDPC decode at the codeword's present step ends. A success carries its syndrome weight, the level that worked, the
first check of R231 that failed (0 none) and the protection check; a failure climbs. -/
def execDecodeComplete (read : Nat) (ok : Bool) (synd level check pi : Nat) (s : State) : Host.Outcome State Fault Refusal :=
  match s.cw read with
  | none => .fault .noSuchObject
  | some x =>
    let b := psaBlk x.psa
    let t := if x.step = 0 then s.noteSynd b synd else s
    guarded (decide (x.phase = .decoding)) .noSuchObject
      (if ok then (if x.step = 1 ∨ x.step = 2 then t.noteLevel b level else t).decoded read x check pi else t.climb read x)

/-- A reconstruction that failed (R223): L4 ends at L6; a tail cut or a rebuild in advance reads the die again without deadline or L4. -/
def State.rebuildFailed (s : State) (r : Nat) (x : CwRead) : State :=
  let t := (s.setFlag F.eccStatRecfailseen).eccCnt 11
  if x.why = 0 then t.atL6 r x (t.causeOf x)
  else t.updCw r (fun y => { y with again := true, phase := .queued, step := 0 })

/-- RECONSTRUCTION_COMPLETE: `lost` counts the further members of the row that were lost; it fails where they exceed the ply. A rebuilt
codeword passes the same checks, and a failure of one ends the read (R221, R223, R232). -/
def execReconstructionComplete (read lost check pi : Nat) (s : State) : Host.Outcome State Fault Refusal :=
  match s.cw read with
  | none => .fault .noSuchObject
  | some x =>
    let ply := ((s.course (s.blk (psaBlk x.psa)).course).map (·.ply)).getD 0
    guarded (decide (x.phase = .rebuilding)) .noSuchObject
      (if ply < lost + 1 then s.rebuildFailed read x
       else if check ≠ 0 then (s.noteCheck check).checkEnds read x check
       else if x.why = 0 then ((s.eccCnt 4).refreshBlock (psaBlk x.psa)).passCw read x pi
       else s.passCw read x pi)

end Sys2Proof.Machine
end

