-- ==== Sys2Proof/Machine/Reclaim.lean ====
section
/-! DEFINITION. Reclamation: victims, copies, conditional moves, seams, destaging, refresh; segment recovery; reclaim unit handles
(R166, R168, R169, R179, R197, R202, R234, R238 to R246). -/

namespace Sys2Proof.Machine

/-! ### Choosing victims (R238, R239) -/

/-- The effective target. -/
def State.victimTarget (s : State) : Nat := Nat.max (s.fld F.rclVictTarget) (s.adm.start + 1)

/-- Whether a course may be chosen for space. -/
def State.mayReclaim (s : State) (n : Nat) (c : Course) : Bool :=
  c.closed && (decide (c.band = 0) || decide (c.band = 2)) && c.moving.isEmpty && !(s.crs.victims.any (fun v => v.course = n)) &&
    !(s.crs.copies.any (fun p => p.2.course = n))

/-- A course's rank: cost-benefit (1 − u) × A / (1 + u), or 1 − u, as a fraction; higher goes first. -/
def State.victimRank (s : State) (n : Nat) (c : Course) : Nat × Nat :=
  let v := s.courseValid c
  let k := s.courseCap n c
  let age := Nat.min 8640 ((s.fld F.mapEpochEpoch + 2 ^ 32 - c.closeEpoch) % 2 ^ 32)
  if s.fld F.rclVictMode = 0 ∧ s.fld F.rclTensionLevel < 4 then ((k - v) * age, k + v) else (k - v, Nat.max 1 k)

/-- The victim that goes first; the lower course sequence wins a tie. -/
def State.bestVictim (s : State) : Option Nat :=
  ((s.crs.courses.filter (fun p => s.mayReclaim p.1 p.2)).foldl (fun (best : Option (Nat × Nat × Nat)) p =>
    let r := s.victimRank p.1 p.2
    match best with
    | none => some (p.1, r)
    | some b => if b.2.1 * r.2 < r.1 * b.2.2 then some (p.1, r) else some b) none).map (·.1)

/-- Up to `k` victims queued for space. -/
def State.queueBest : Nat → State → State
  | 0, s => s
  | k + 1, s => match s.bestVictim with
    | some n => State.queueBest k (s.queueVictim n 0 (reclaimLevel (s.fld F.rclTensionLevel)))
    | none => s

/-- VICTIM_SELECT: while F is below the effective target, up to BATCH victims are kept queued; none while a sanitize runs (R239, R242). -/
def execVictimSelect (s : State) : Host.Outcome State Fault Refusal :=
  if s.sanitizing ∨ s.victimTarget ≤ s.freeF then .next s
  else
    let have_ := (s.crs.victims.filter (fun v => v.reason = 0)).length
    .next (State.queueBest (s.fld F.rclVictBatch - have_) s)

/-- COURSE_AGE_REFRESH: a course closed AGEDAYS ago is queued at level 6 (R246). -/
def execCourseAgeRefresh (course : Nat) (s : State) : Host.Outcome State Fault Refusal :=
  match s.course course with
  | some c => guarded (c.closed && decide (c.band ≤ 2) &&
      decide (c.closeTime + nsSec (86400 * s.fld F.rclRefCtlAgedays) ≤ s.clk.mono)) .noSuchObject (s.queueVictim course 2 6)
  | none => .fault .noSuchObject

/-! ### Copies (R234, R240, R241) -/

/-- Extents that refer to a block, with what they say. -/
def State.extentsOn (s : State) (b : Nat) : List (Nat × Ext) :=
  (s.map.coarse.map (fun p => (p.1, s.ext p.1))).filter (fun p => p.2.refs.any (fun r => r.1 = b))

/-- The units of a block that a copy moves: (extent, slot, PSA, slots, whole, frame), one for each run, frame or fine slot. -/
def State.unitsOn (s : State) (b : Nat) : List (Nat × Nat × Nat × Nat × Bool × Bool) :=
  (s.extentsOn b).flatMap (fun p => match p.2 with
    | .coarse a => [(p.1, 0, a, 16, true, false)]
    | .frame a n => [(p.1, 0, a, n + 1, true, true)]
    | .fine fs => (List.range 16).filterMap (fun i => match (fs[i]? : Option FEntry) with
        | some (FEntry.mapped q) => if psaBlk q = b then some (p.1, i, q, 1, false, false) else none
        | _ => none)
    | .unwritten => [])

/-- A unit put in its place by PSA. -/
def insertUnit (u : Nat × Nat × Nat × Nat × Bool × Bool) : List (Nat × Nat × Nat × Nat × Bool × Bool) →
    List (Nat × Nat × Nat × Nat × Bool × Bool)
  | [] => [u]
  | v :: rest => if u.2.2.1 ≤ v.2.2.1 then u :: v :: rest else v :: insertUnit u rest

/-- The units of a block in the order in which its pages are read. -/
def State.unitsInOrder (s : State) (b : Nat) : List (Nat × Nat × Nat × Nat × Bool × Bool) :=
  (s.unitsOn b).foldl (fun l u => insertUnit u l) []

/-- Slots of an extent that a read by the reclaim engine lost at L6: marked as fine kind 01b; a compressed extent loses all its slots. -/
def State.markLost (s : State) (e slot psa count : Nat) : State :=
  let t := ((s.setFlag F.eccStatUeseen).eccCnt 6).event 0x0503 (psaDie psa) (psaBlock psa) (psaPage psa * 4 + psa % 4)
    (((s.nss.find? (fun p => p.2.granules.contains (e / 16384))).map (·.1)).getD 0)
  match t.ext e with
  | .frame _ _ =>
    let fs := List.replicate 16 FEntry.marked
    let t := (t.putFines e fs).mapCnt 5 16
    t.batch ((List.range 16).map (fun i => Rec.mapFine e i .marked))
  | _ =>
    let (t, r) := t.setSlots e ((List.range count).map (fun i => (slot + i, FEntry.marked)))
    t.batch r

/-- Codewords at consecutive slots. -/
def State.wordsAt (s : State) (psa k : Nat) : List Codeword :=
  (List.range k).map (fun i => (s.codeword (psa + i)).getD ⟨0, 0, 0, 0, [(0, 0)], 0⟩)

/-- Runs placed in a band: one slot goes to the small-slot member, a run or frame to the next data member. -/
def State.placeCopy (s : State) (kind : Nat) (k lba : Nat) (page : Bool) (ws : List Codeword) : Option (Nat × State) :=
  match k, ws with
  | 1, [w] => (s.nextCourse kind 0 1 (lba % 16 = 0)).bind (fun x => x.2.placeSmall x.1 lba w)
  | _, _ => s.placeIn none kind 0 page ws

/-- A copy noted in the workspace. -/
def State.addCopy (s : State) (c : Copy) : State :=
  { s with crs := { s.crs with copies := Tab.put s.crs.nextJob c s.crs.copies, nextJob := s.crs.nextJob + 1 } }

/-- One unit of a victim: lost, already being copied, or re-encoded unchanged into a band. -/
def State.copyUnit (s : State) (course reason kind : Nat) (bad : List Nat) (u : Nat × Nat × Nat × Nat × Bool × Bool) : State :=
  let (e, slot, psa, k, whole, frame) := u
  if s.crs.copies.any (fun p => decide (p.2.old = psa) && decide (p.2.reason ≠ 11)) then s
  else
    let lost := (List.range k).filter (fun i => bad.contains (psa + i))
    if !lost.isEmpty then
      if frame then s.markLost e 0 psa 16 else lost.foldl (fun t i => t.markLost e (slot + i) (psa + i) 1) s
    else
      match s.placeCopy kind k (e % 2 * 16 + slot) (whole && !frame) (s.wordsAt psa k) with
      | none => s
      | some (p, t) =>
        t.addCopy { course := course, reason := reason, e := e, slot := slot, whole := whole, frame := frame, count := k - 1, old := psa,
                    new := p, seen := .unwritten, pages := 0 }

/-! ### Seaming (R166, R168, R169) -/

/-- The namespace and first LBA of an extent. -/
def State.lbaOf (s : State) (e : Nat) : Option (Nat × Ns × Nat) :=
  s.nss.findSome? (fun p => (p.2.granules.findIdx? (fun g => g = e / 16384)).map (fun i => (p.1, p.2, i * 2 ^ 18 + e % 16384 * 16)))

/-- Distinct pages among the slots of an extent. -/
def pagesOf (fs : List FEntry) : Nat :=
  (fs.foldl (fun (l : List Nat) f => match f with | .mapped p => insertNew (p / 4) l | _ => l) []).length

/-- Whether an extent may be seamed: overlaid, no mark, not being seamed, its segment in service, no owner-table scan. -/
def State.maySeam (s : State) (e : Nat) : Bool :=
  (match s.ext e with | .fine fs => !(fs.contains .marked) | _ => false) && !s.map.scanning && !(s.segStalled (segOf e)) &&
    !(s.segLost (segOf e)) && !(s.crs.copies.any (fun p => decide (p.2.reason = 11) && decide (p.2.e = e)))

/-- A seam's sixteen slots read and written as one run, or as a frame where the namespace compresses and R172 allows. -/
def State.seamStart (s : State) (e : Nat) (bad : List Nat) : State :=
  match s.ext e, s.lbaOf e with
  | .fine fs, some (id, n, lba) =>
    let lost := (List.range 16).filter (fun i => match (fs[i]? : Option FEntry) with | some (FEntry.mapped p) => bad.contains p | _ => false)
    if !lost.isEmpty then
      lost.foldl (fun t i => match (fs[i]? : Option FEntry) with | some (FEntry.mapped p) => t.markLost e i p 1 | _ => t) s
    else
      let ds := (List.range 16).map (fun i => s.slotData (s.ext e) i)
      let (k, t) := if n.compress then s.compress lba ds ⟨false, [], []⟩ else (0, s)
      let ws := if k = 0 then runWords id lba ds (s.seedOf id) else frameWords id lba k ds (s.seedOf id)
      match t.placeIn none 2 0 (k = 0) ws with
      | none => t
      | some (p, t) =>
        t.addCopy { course := 0, reason := 11, e := e, slot := 0, whole := true, frame := decide (k ≠ 0), count := k - 1, old := 0, new := p,
                    seen := .fine fs, pages := pagesOf fs }
  | _, _ => s

/-- SEAM_START: the engine seams an extent while the pool is in its light state or above (R168, R169). `bad` lists slots that ended at L6. -/
def execSeamStart (e : Nat) (bad : List Nat) (s : State) : Host.Outcome State Fault Refusal :=
  guarded (s.maySeam e && decide (1 ≤ s.pool)) .noSuchObject (s.seamStart e bad)

/-- A pass over blocks of a victim: while the pool is quiet fine slots move alone, otherwise their extents are seamed. -/
def State.copyBlocks (s : State) (course reason kind : Nat) (bad : List Nat) (bs : List Nat) : State :=
  bs.foldl (fun t b => (t.unitsInOrder b).foldl (fun t u =>
    if !(u.2.2.2.2.1) && decide (1 ≤ t.pool) && decide (kind = 2) then (if t.maySeam u.1 then t.seamStart u.1 bad else t)
    else t.copyUnit course reason kind bad u) t) s

/-- RECLAIM_COPY: one pass over a queued course. Reason 9 copies the failed blocks, or the whole course where a parity block failed; reason 10
the blocks of dies out of service. `bad` lists PSAs whose reads ended at L6. -/
def execReclaimCopy (course : Nat) (bad : List Nat) (s : State) : Host.Outcome State Fault Refusal :=
  match s.crs.victims.find? (fun v => v.course = course), s.course course with
  | some v, some c =>
    let pos := c.dataPos course
    let all := pos.filterMap (fun p => (c.mem p).map Member.id)
    let failed := all.filter (fun b => c.moving.contains b)
    let bs := if v.reason = 9 ∧ !failed.isEmpty then failed
      else if v.reason = 10 then all.filter (fun b => !(s.inSvc (b / 4096))) else all
    let t := { s with crs := { s.crs with victims := s.crs.victims.erase v } }
    .next (t.copyBlocks course v.reason 2 bad bs)
  | _, _ => .fault .noSuchObject

/-- DESTAGE_MOVE: staged slots of a closed staging course re-encoded into the host-data band (R202). -/
def execDestageMove (course : Nat) (bad : List Nat) (s : State) : Host.Outcome State Fault Refusal :=
  match s.course course with
  | some c => guarded (c.closed && decide (c.band = 1)) .noSuchObject
      (s.copyBlocks course 8 0 bad ((c.dataPos course).filterMap (fun p => (c.mem p).map Member.id)))
  | none => .fault .noSuchObject

/-! ### Conditional updates (R166, R241, R259) -/

/-- Whether the map still names a copy's source. -/
def State.stillNames (s : State) (c : Copy) : Bool :=
  match s.ext c.e with
  | .coarse a => c.whole && !c.frame && decide (a = c.old)
  | .frame a n => c.whole && c.frame && decide (a = c.old) && decide (n = c.count)
  | .fine fs => !c.whole && decide (fs[c.slot]? = some (.mapped c.old))
  | .unwritten => false

/-- The map update of a move. -/
def State.applyMove (s : State) (c : Copy) : State :=
  match s.ext c.e with
  | .coarse _ => s.putExt c.e (.coarse c.new)
  | .frame _ n => s.putExt c.e (.frame c.new n)
  | .fine fs => s.putFines c.e (fs.set c.slot (.mapped c.new))
  | .unwritten => s

/-- What the end of a copy means for its source: a failed data block with nothing left is retired and reported as Media Reallocated, and a
course not yet empty after its last copy is queued again (R197, R205 step 6, R241). -/
def State.afterMove (s : State) (c : Copy) : State :=
  match s.course c.course with
  | none => s
  | some k =>
    let data := (k.dataPos c.course).filterMap (fun p => (k.mem p).map Member.id)
    let empty := k.moving.filter (fun b => data.contains b && decide (s.validOf b = 0))
    let t := s.updCourse c.course (fun k => { k with moving := k.moving.filter (fun b => !(empty.contains b)) })
    let t := empty.foldl (fun t b => (t.retire b (t.blk b).why).fdpEvent 0x80 k.handle) t
    if t.crs.copies.any (fun p => p.2.course = c.course) || decide (c.reason = 8) || !(empty.isEmpty) then t
    else
      let again := t.queueVictim c.course c.reason (if c.reason = 9 then 2 else if c.reason = 10 then 4 else 6)
      again.rclCnt 11

/-- The counters of a copied unit. -/
def State.countCopy (s : State) (c : Copy) : State :=
  let n := c.count + 1
  let n := if c.whole && !c.frame then 16 else n
  if c.reason = 8 then s.crsCnt 17 n
  else if c.reason = 9 then s.crsCnt 14 n
  else if c.reason = 10 then s.rclCnt 12 n
  else s.rclCnt 6 n

/-- A move applied, or discarded where the map names its source no longer; its record is accepted first. -/
def State.moveCommit (s : State) (id : Nat) (c : Copy) : State :=
  let t := { s with crs := { s.crs with copies := Tab.del id s.crs.copies } }
  let t := t.batch [.moveCommit c.e c.slot c.whole c.frame (if c.frame then c.count else 0) c.old c.new]
  let t := if t.stillNames c then ((t.applyMove c).mapCnt 11).countCopy c else t.mapCnt 12
  t.afterMove c

/-- A seam applied, with its record, or discarded. -/
def State.seamCommit (s : State) (id : Nat) (c : Copy) : State :=
  let t := { s with crs := { s.crs with copies := Tab.del id s.crs.copies } }
  if t.ext c.e = c.seen then
    let t := t.putExt c.e (if c.frame then .frame c.new c.count else .coarse c.new)
    let t := (t.batch [.seamCommit c.e c.new c.frame (if c.frame then c.count else 0)]).mapCnt 9
    t.addSat (F.mapSeampgCount ((c.pages - 1) / 2)) 1
  else t.mapCnt 10

/-- A finished copy handed to the map engine: held for a stalled segment, discarded for a lost one. -/
def State.commitCopy (s : State) (id : Nat) (c : Copy) : State :=
  let g := segOf c.e
  if s.segStalled g then { s with map := { s.map with held := insertNew (g, HeldUpd.copy id) s.map.held } }
  else if s.segLost g then { s with crs := { s.crs with copies := Tab.del id s.crs.copies } }
  else if c.reason = 11 then s.seamCommit id c else s.moveCommit id c

/-- Whether a copy's slots are program-safe. -/
def State.copySafe (s : State) (c : Copy) : Bool := s.runSafe c.new (if c.whole && !c.frame then 16 else c.count + 1)

/-- MOVE_COMMIT: the copies are program-safe. -/
def execMoveCommit (copy : Nat) (s : State) : Host.Outcome State Fault Refusal :=
  match Tab.find copy s.crs.copies with
  | some c => guarded (s.copySafe c && decide (c.reason ≠ 11)) .noSuchObject (s.commitCopy copy c)
  | none => .fault .noSuchObject

/-- SEAM_COMMIT: the seam's run is program-safe. -/
def execSeamCommit (copy : Nat) (s : State) : Host.Outcome State Fault Refusal :=
  match Tab.find copy s.crs.copies with
  | some c => guarded (s.copySafe c && decide (c.reason = 11)) .noSuchObject (s.commitCopy copy c)
  | none => .fault .noSuchObject

/-! ### Recovery of a segment (R179) -/

/-- A held update applied in its turn. -/
def State.applyHeld (s : State) (h : HeldUpd) : State :=
  match h with
  | .unit c n u => s.applyUnit c n u
  | .copy id => match Tab.find id s.crs.copies with | some c => s.commitCopy id c | none => s
  | .rmw id => match Tab.find id s.crs.rmws with
    | some r => if s.ext r.e = r.seen then s.writeBack id r
        else (s.mapCnt 28).placeRmw id { r with seen := s.ext r.e, place := none, bad := [], restarts := r.restarts + 1 }
          (((Tab.find r.nsid s.nss).map (·.compress)).getD false)
    | none => s

/-- The slots of a write lost with their segment: a completion not yet posted becomes 06h, and a posted write's slots are named by event 0304h. -/
def State.loseUnit (s : State) (c nsid unit : Nat) : State :=
  let ps := s.unitSlots c nsid unit
  let ids := ps.map (·.1)
  let t := { s with buf := { s.buf with slots := s.buf.slots.filter (fun p => !(ids.contains p.1)) } }
  let t := match t.cmd c with
    | some k => if k.dropped then t else
      let u := { t with q := { t.q with finishOrder := t.q.finishOrder.filter (· ≠ c) } }
      u.updCmd c (fun k => { k with failure := some St.internal, phase := .waitDurable })
    | none => ps.foldl (fun (u : State) (p : Nat × BufSlot) => u.event 0x0304 p.2.nsid (p.2.lba % 2 ^ 32) (p.2.lba / 2 ^ 32)) t
  (t.settleCmd c).finishDurable

/-- A held update of a lost segment discarded. -/
def State.discardHeld (s : State) (h : HeldUpd) : State :=
  match h with
  | .unit c n u => s.loseUnit c n u
  | .copy id => { s with crs := { s.crs with copies := Tab.del id s.crs.copies } }
  | .rmw id => match Tab.find id s.crs.rmws with
    | some r => (({ s with crs := { s.crs with rmws := Tab.del id s.crs.rmws } } : State)).loseUnit r.cmd r.nsid (r.lba / 256)
    | none => s

/-- MAP_UNIT_APPLY: every slot of the unit is program-safe and its command fully buffered. Updates for a stalled segment are held; those
for a lost one are discarded (R179, R204). -/
def execMapUnitApply (cmd nsid unit : Nat) (s : State) : Host.Outcome State Fault Refusal :=
  let ps := s.unitSlots cmd nsid unit
  let es : List Nat := match Tab.find nsid s.nss with
    | some n => ps.filterMap (fun (p : Nat × BufSlot) => n.index p.2.lba)
    | none => []
  guarded (!ps.isEmpty && ps.all (fun p => s.slotReady p.2) && s.cmdBuffered cmd && (s.earlierLocks cmd true).isEmpty &&
      (s.earlierLocks cmd false).isEmpty && !(es.any (fun e => s.laneHeld e 0))) .noSuchObject
    (match (es.map segOf).find? (fun g => s.segStalled g) with
     | some g => { s with map := { s.map with held := insertNew (g, HeldUpd.unit cmd nsid unit) s.map.held } }
     | none => if (es.map segOf).any s.segLost then s.loseUnit cmd nsid unit else s.applyUnit cmd nsid unit)

/-- RMW_WRITEBACK: the image is program-safe and is applied only if the extent still holds what was read; otherwise the work starts
again from the present value. Old slots that ended at L6 and that the host does not cover are marked, and their image is stored as a
run (R166, R173, R506). -/
def execRmwWriteback (job : Nat) (bad : List Nat) (s : State) : Host.Outcome State Fault Refusal :=
  match Tab.find job s.crs.rmws with
  | none => .fault .noSuchObject
  | some r =>
    let mine := (s.slotsIn r.cmd r.nsid r.lba 16).map (fun p => p.2.lba % 16)
    let bad := bad.filter (fun i => !(mine.contains i) && !(r.bad.contains i))
    let cmp := ((Tab.find r.nsid s.nss).map (·.compress)).getD false
    guarded (r.place.any (fun p => s.runSafe p (if r.frame = 0 then 16 else r.frame)) && s.cmdBuffered r.cmd &&
        (s.earlierLocks r.cmd true).isEmpty && (s.earlierLocks r.cmd false).isEmpty) .noSuchObject
      (if s.segStalled (segOf r.e) then { s with map := { s.map with held := insertNew (segOf r.e, HeldUpd.rmw job) s.map.held } }
       else if s.segLost (segOf r.e) then s.discardHeld (.rmw job)
       else if s.ext r.e ≠ r.seen then
         (s.mapCnt 28).placeRmw job { r with seen := s.ext r.e, place := none, bad := [], restarts := r.restarts + 1 } cmp
       else if !bad.isEmpty && decide (r.frame ≠ 0) then s.placeRmw job { r with bad := r.bad ++ bad, place := none } cmp
       else s.writeBack job { r with bad := r.bad ++ bad })

/-- The commands parked on a segment. -/
def State.parkedOn (s : State) (g : Nat) : List Nat :=
  (s.q.cmds.filter (fun p => s.q.stitches.any (fun x => decide (x.2.cmd = p.1) && decide (x.2.phase = .parked 3)) &&
    (Tab.find p.2.sqe.nsid s.nss).any (fun n => (n.segsOf (p.2.sqe.lockRanges.map (fun r => (r.1, r.2.1)))).contains g))).map (·.1)

/-- SEGMENT_RECOVERY_COMPLETE: the oldest stalled segment is reloaded, having replayed a number of records, and its held updates apply in order
of arrival; or, no checkpoint being readable, it is lost until the next cold reset. -/
def execSegmentRecoveryComplete (ok : Bool) (replayed : Nat) (s : State) : Host.Outcome State Fault Refusal :=
  match s.map.stalled with
  | [] => .fault .noSuchObject
  | (g, since_) :: rest =>
    let hs := (s.map.held.filter (fun h => h.1 = g)).map (·.2)
    let t := { s with map := { s.map with stalled := rest, held := s.map.held.filter (fun h => h.1 ≠ g) } }
    let t := t.framesRead
    let ms := (t.clk.mono - since_) / 1000000
    .next (if ok then
        let t := ((t.putSat F.mapRecLastMs ms).event 0x0302 g ms).mapCnt 21
        hs.foldl (fun t h => t.applyHeld h) (t.mapCnt 23 replayed)
      else
        let t := { t with map := { t.map with lost := insertNew g t.map.lost } }
        let t := (((t.setFlag F.mapStatLostseen).event 0x0303 g ms).degrade 1).mapCnt 22
        let t := hs.foldl (fun t h => t.discardHeld h) t
        (t.parkedOn g).foldl (fun t c => t.failWrite c St.internal) t)

/-! ### Reclaim unit handles (R132, R139, R140, R197) -/

/-- Slots still to be written in the open courses of a handle. -/
def State.handleRoom (s : State) (h : Nat) : Nat :=
  sumNat ((s.crs.courses.filter (fun p => !p.2.closed && decide (p.2.band = 0) && decide (p.2.handle = h))).map (fun p =>
    sumNat ((p.2.dataPos p.1).map (fun q => ((p.2.mem q).map (fun m => p.2.room s.fl.geom - m.next)).getD 0))))

/-- IO_MANAGEMENT_RECEIVE: Reclaim Unit Handle Status only (MO 01h): for each placement handle its number, its reclaim unit handle and the slots
that remain. -/
def execIoManagementReceive (cmd mo : Nat) (s : State) : Host.Outcome State Fault Refusal :=
  onNs s cmd 0x12 (fun _ n =>
    if mo ≠ 1 then s.fail cmd St.badField
    else if s.adm.fdp.isNone then s.fail cmd St.fdpDisabled
    else
      let d := (List.range n.handles.length).flatMap (fun i => let h := n.handles.getD i 0; [i, h, s.handleRoom h])
      (s.send (.hostBuf cmd (n.handles.length :: d))).finish cmd St.ok)

/-- A handle's open courses padded and closed once their padded rows have programmed; each not written to capacity is reported. -/
def State.updateHandle (s : State) (h : Nat) : State :=
  (s.crs.courses.filter (fun p => !p.2.closed && decide (p.2.band = 0) && decide (p.2.handle = h))).foldl (fun t p =>
    let top := (p.2.topRow p.1).getD 0
    let last := Nat.min p.2.last (if p.2.slc then top else top + 1)
    let t := (t.updCourse p.1 (fun c => { c with last := last, early := true })).padTo p.1 last
    (t.fdpEvent 0 h).crsCnt 23) s

/-- RECLAIM_UNIT_HANDLE_UPDATE: the placement handles named; one that the namespace does not have completes with 02h. -/
def execReclaimUnitHandleUpdate (cmd : Nat) (handles : List Nat) (s : State) : Host.Outcome State Fault Refusal :=
  onNs s cmd 0x1D (fun _ n =>
    if s.adm.fdp.isNone then s.fail cmd St.fdpDisabled
    else if handles.any (fun i => decide (n.handles.length ≤ i)) then s.fail cmd St.badField
    else (handles.foldl (fun t i => t.updateHandle (n.handles.getD i 0)) s).finish cmd St.ok)

end Sys2Proof.Machine
end

