-- ==== Sys2Proof/Machine/Flash.lean ====
section
/-! DEFINITION. Flash channels: status polls, timeouts and LUN resets, training, and the loss of a skein link (R291 to R306). -/

namespace Sys2Proof.Machine

/-! ### Faults of a LUN (R293, R294) -/

/-- SKN_ERRLOG of a die's skein. -/
def State.sknErr (s : State) (d kind : Nat) : State :=
  let k := d / 1024
  (((s.setFld (F.sknErrlogValid k) 1).setFld (F.sknErrlogKind k) kind).setFld (F.sknErrlogCh k) (d / 16 % 64)).setFld
    (F.sknErrlogLun k) (d % 16)

/-- Codewords queued at a die that no longer answers are treated as erased: they go to L4, or end where L4 is barred (R214, R294). -/
def State.readsLost (s : State) (d : Nat) : State :=
  (s.rd.reads.filter (fun p => decide (psaDie p.2.psa = d) && (decide (p.2.phase = .atDie) || decide (p.2.phase = .queued)))).foldl
    (fun t p =>
      let u := t.cancel (.tailCut p.1)
      let x := { p.2 with skipped := true }
      if x.again then u.atL6 p.1 x (u.causeOf x) else (u.updCw p.1 (fun y => { y with skipped := true })).rebuild p.1 x 0) s

/-- A channel of the table of trained channels. -/
def State.chan (s : State) (c : Nat) : Chan := Tab.getD c ⟨false, 0, false⟩ s.fl.chans

/-- A channel replaced. -/
def State.setChan (s : State) (c : Nat) (x : Chan) : State := { s with fl := { s.fl with chans := Tab.put c x s.fl.chans } }

/-- A channel whose LUNs are all out of service is itself out of service (R294). -/
def State.checkChan (s : State) (c : Nat) : State :=
  if (List.range 16).any (fun l => s.inSvc (16 * c + l)) then s else s.setChan c { s.chan c with up := false }

/-- The program or erase in progress, or suspended, on a die ends as a fail status (R294). -/
def State.opFails (s : State) (d : Nat) : State :=
  match Tab.find d s.fl.ops with
  | none => s
  | some o =>
    if o.kind = 2 then (s.opEnd d).eraseFailed o.obj
    else
      match (s.course o.obj).bind (fun c => (c.mem o.pos).map (fun m => (c, m))) with
      | some (c, m) => if (c.parityPos o.obj).contains o.pos then s.parityFail o.obj c o.pos m else s.dataFail o.obj c o.pos m
      | none => s.opEnd d

/-- A die taken out of service: what it was doing ends, and its queued reads are rebuilt. -/
def State.takeOut (s : State) (d reason : Nat) : State :=
  let t := (s.opFails d).cancel (.lunReset d)
  let t := { t with fl := { t.fl with resets := Tab.del d t.fl.resets } }
  ((t.dieOut d reason).readsLost d).checkChan (d / 16)

/-- A LUN stops answering. -/
def State.lunGone (s : State) (d : Nat) : State :=
  let k := d / 1024
  let t := (s.setFlag (F.sknStatOutseen k)).sknErr d 4
  (t.eventFrom 0x0802 k (t.word (Reg.sknErrlog k)).toNat).takeOut d 1

/-- A LUN reset with FAh: it ends a suspended operation too, and must answer within 10 ms. -/
def State.lunReset (s : State) (d kind : Nat) : State :=
  let o : FlashOp := { kind := kind, obj := 0, pos := 0, start := s.clk.mono, suspended := false, suspends := 0, level := 0 }
  let t := s.opFails d
  let t := { t with fl := { t.fl with resets := Tab.put d o t.fl.resets } }
  (((t.sknCnt d 6).sknCnt d 11).addSat (F.chnErrResets (d / 16)) 1).arm (.lunReset d) (nsMs 10)

/-- A timeout counted: three within 60 s and the LUN has stopped answering. -/
def State.noteTimeout (s : State) (d kind : Nat) : State :=
  let k := d / 1024
  let l := ((Tab.getD d [] s.fl.touts).filter (fun m => decide (s.clk.mono < m + 60000000000))) ++ [s.clk.mono]
  let t := { s with fl := { s.fl with touts := Tab.put d l s.fl.touts } }
  let t := (((t.setFlag (F.sknStatToutseen k)).sknErr d kind).sknCnt d 5).addSat (F.chnErrTimeouts (d / 16)) 1
  t.eventFrom 0x0801 k (t.word (Reg.sknErrlog k)).toNat

/-- The LUN is reset, or taken out of service after its third timeout in 60 s. -/
def State.afterTimeout (s : State) (d kind : Nat) : State :=
  if 3 ≤ (Tab.getD d [] s.fl.touts).length then s.lunGone d else s.lunReset d kind

/-- STATUS_POLL: a ready status ends a LUN reset after ZQ long; it wins against an operation's timeout, whose result is then reported by the
row of its kind (R293, R294). A busy LUN is polled again. -/
def execStatusPoll (die : Nat) (ready : Bool) (s : State) : Host.Outcome State Fault Refusal :=
  let t := s.sknCnt die 4
  guarded (s.inSvc die) .noSuchObject
    (if !ready then t
     else if Tab.has die t.fl.resets then
       ({ t with fl := { t.fl with resets := Tab.del die t.fl.resets } } : State).cancel (.lunReset die)
     else t.cancel (.flashOp die))

/-! ### Training (R291, R300, R301) -/

/-- The highest rate code a channel may train at. -/
def State.rateCeiling (s : State) (c : Nat) : Nat := Nat.min (s.fld (F.chnCfgMaxrate c)) s.fl.geom.maxRate

/-- A channel trained in full from the code `top` down, passing on every LUN at the codes up to `rate`; a number above 4 means at none, and the
channel is out of service. -/
def State.trainFrom (s : State) (c top rate : Nat) : State :=
  let k := c / 64
  let old := s.chan c
  let t := s.addSat (F.chnErrTrains c) 1
  if 4 < rate then
    let t := ((t.sknErr (16 * c) 6).setFlag (F.sknStatFallbackseen k)).setChan c { old with up := false }
    (List.range 16).foldl (fun t l => if t.inSvc (16 * c + l) then t.takeOut (16 * c + l) 4 else t) t
  else
    let r := Nat.min rate top
    let t := t.setChan c { up := old.up, rate := r, fallback := decide (r < t.rateCeiling c) }
    if r < top then ((t.setFlag (F.sknStatFallbackseen k)).addWrap (F.sknCntCount k 9) 1).sknErr (16 * c) 6 else t

/-- Full training with the choice of rate (R291, R300). -/
def State.trainFull (s : State) (c rate : Nat) : State := s.trainFrom c (s.rateCeiling c) rate

/-- Full training after a failure: it begins at the same rate (R301). -/
def State.trainAgain (s : State) (c rate : Nat) : State := s.trainFrom c (s.chan c).rate rate

/-- Full training of a channel whose outcome a register write does not carry: the rate reached is a free value. -/
def State.retrain (s : State) (c : Nat) : State :=
  if (s.chan c).up then
    let (v, t) := s.draw
    t.trainFull c (v % 6)
  else s

/-- FLASH_OP_TIMEOUT: kind 0 the codeword read `obj`, 1 the program or erase in progress, 3 features, ZQ or training, where `obj` counts the
timeouts of the same work and a second is a training failure. Where the status won, nothing happens (R294, R301). -/
def execFlashOpTimeout (die kind obj rate : Nat) (s : State) : Host.Outcome State Fault Refusal :=
  match kind with
  | 0 =>
    match s.cw obj with
    | none => .next s
    | some x =>
      if x.phase = .atDie ∧ psaDie x.psa = die then
        let t := ((s.noteTimeout die 0).cancel (.tailCut obj)).countMiss die
        let y := { x with skipped := true }
        let t := if y.again then t.atL6 obj y (t.causeOf y) else (t.updCw obj (fun z => { z with skipped := true })).rebuild obj y 0
        .next (t.afterTimeout die 0)
      else .next s
  | 1 =>
    onTimer s (.flashOp die) (fun t =>
      let e := if (Tab.find die t.fl.ops).any (fun o => decide (o.kind = 2)) then 2 else 1
      ((t.noteTimeout die e).opFails die).afterTimeout die e)
  | _ =>
    guarded (s.inSvc die) .noSuchObject
      (let t := s.noteTimeout die 3
       (if 2 ≤ obj then t.trainAgain (die / 16) rate else t).afterTimeout die 3)

/-- LUN_RESET_TIMEOUT: FAh brought no ready status within 10 ms (R294). -/
def execLunResetTimeout (die : Nat) (s : State) : Host.Outcome State Fault Refusal :=
  onTimer s (.lunReset die) (fun t => t.lunGone die)

/-- The dies of a skein in service. -/
def State.diesOn (s : State) (k : Nat) : List Nat := ((List.range 1024).map (· + 1024 * k)).filter s.inSvc

/-- ZQ_SHORT_TIMER: one calibration for each LUN in service, none during a dump (R300). -/
def execZqShortTimer (skein : Nat) (s : State) : Host.Outcome State Fault Refusal :=
  onTimer s (.zqShort skein) (fun t =>
    let t := t.arm (.zqShort skein) (nsMs (t.fld (F.sknTrainZqsms skein)))
    if t.dump.running.isSome then t else t.addWrap (F.sknCntCount skein 8) (t.diesOn skein).length)

/-- How far Tj has moved from a skein's last training, °C. -/
def State.tjMoved (s : State) (k tj : Nat) : Nat := (toSigned 8 tj - toSigned 8 (s.fld (F.sknTempTraintj k))).natAbs

/-- TEMP_RETRAIN: DCC and DQ training on every LUN of a skein. `failed` lists the channels on which it failed, with the highest code at which the
full training that follows passes (R300, R301). -/
def execTempRetrain (skein tj : Nat) (failed : List (Nat × Nat)) (s : State) : Host.Outcome State Fault Refusal :=
  let t := ((s.setTemp (skein + 1) tj).setFld (F.sknTempTraintj skein) tj).addWrap (F.sknCntCount skein 8) (s.diesOn skein).length
  guarded (decide (skein < 8) && decide (s.fld (F.sknTrainDt skein) ≤ s.tjMoved skein tj) && !s.dump.running.isSome &&
      failed.all (fun p => decide (p.1 / 64 = skein))) .noSuchObject
    (failed.foldl (fun t p => if (t.chan p.1).up then t.trainAgain p.1 p.2 else t) t)

/-! ### Loss of a skein link (R306) -/

/-- A link's outage so far, µs. -/
def State.outage (s : State) (k : Nat) : Nat := match Tab.find k s.fl.down with
  | some x => (s.clk.mono - x.1) / 1000
  | none => 0

/-- SKEIN_LINK_STALL: no handshake for 10 µs. A recovery begins; at a link that is down already, one more recovery has failed and the next
begins. -/
def execSkeinLinkStall (skein : Nat) (s : State) : Host.Outcome State Fault Refusal :=
  let x := Tab.find skein s.fl.down
  let t := { s with fl := { s.fl with down := Tab.put skein (match x with
    | some y => (y.1, y.2 + 1)
    | none => (s.clk.mono - 10000, 0)) s.fl.down } }
  let t := (t.addSat (F.sknLinkRecovers skein) 1).addWrap (F.sknCntCount skein 10) 1
  let t := if x.isSome then t else
    ((((t.setFlag (F.sknStatDownseen skein)).arm (.skeinDown skein) 999990000).arm (.skeinFail skein) 4999990000).eventFrom 0x0803 skein 10)
  guarded (decide (skein < 8) && !(s.flag (F.sknStatFailed skein)) && decide (10000 ≤ s.clk.mono) && x.all (fun y => decide (y.2 < 3)))
    .noSuchObject t

/-- A link back in service: SKN_DOWN, the timers, and queued operations go on. -/
def State.linkBack (s : State) (k : Nat) : State :=
  let t := s.putSat (F.sknDownUs k) (s.outage k)
  let t := (t.cancel (.skeinDown k)).cancel (.skeinFail k)
  { t with fl := { t.fl with down := Tab.del k t.fl.down } }

/-- SKEIN_LINK_RECOVERED: after a reset of the skein die every channel is trained in full, to the codes listed. -/
def execSkeinLinkRecovered (skein : Nat) (rates : List (Nat × Nat)) (s : State) : Host.Outcome State Fault Refusal :=
  withSome (Tab.find skein s.fl.down) (fun x =>
    let t := s.linkBack skein
    if 8 ≤ x.2 then
      ((List.range 64).map (· + 64 * skein)).foldl (fun t c => if (t.chan c).up then t.trainFull c (Tab.getD c 5 rates) else t) t
    else t)

/-- The skein die reset: programs and erases cut off end as fail statuses. -/
def State.resetSkein (s : State) (k : Nat) : State :=
  let t := ((s.fl.ops.map (·.1)).filter (fun d => decide (d / 1024 = k))).foldl (fun t d => t.opFails d) s
  { t with fl := { t.fl with down := Tab.upd k (fun y => (y.1, 8)) t.fl.down } }

/-- SKEIN_LINK_DOWN_LONG: three recoveries have failed, or the link has been down for 1 s. -/
def execSkeinLinkDownLong (skein : Nat) (s : State) : Host.Outcome State Fault Refusal :=
  match Tab.find skein s.fl.down with
  | none => .next s
  | some x =>
    if 8 ≤ x.2 then .next s
    else if 3 ≤ x.2 then .next ((s.cancel (.skeinDown skein)).resetSkein skein)
    else onTimer s (.skeinDown skein) (fun t => t.resetSkein skein)

/-- A journal copy whose open course lay on a failed skein goes on on another of the same parity. -/
def State.copyOffSkein (s : State) (copy k : Nat) : State :=
  let j := s.lif.copy copy
  if j.course ≠ 0 ∧ j.skein = k then s.moveCopy copy else s

/-- A skein declared failed: its dies go out of service, and the journal copies move off it. -/
def State.skeinGone (s : State) (k : Nat) : State :=
  let us := s.outage k
  let t := (s.setFlag (F.sknStatFailed k)).cancel (.skeinDown k)
  let t := (t.eventFrom 0x0804 k us).degrade 3
  let t := (t.diesOn k).foldl (fun t d => t.takeOut d 5) t
  (((t.copyOffSkein 0 k).copyOffSkein 1 k).noteSkeins).protCheck

/-- SKEIN_FAILED: still down 5 s after the loss. -/
def execSkeinFailed (skein : Nat) (s : State) : Host.Outcome State Fault Refusal := onTimer s (.skeinFail skein) (fun t => t.skeinGone skein)

end Sys2Proof.Machine
end

