-- ==== Sys2Proof/Machine/StrandCore.lean ====
section
/-! DEFINITION. The strand engine's frames: sending, acknowledgement, retransmission, credit, and copies being sent (R388 to R391, R398, R399,
R403 to R405). -/

namespace Sys2Proof.Machine

/-- A counter of R409 raised; it wraps. -/
def State.strCnt (s : State) (n : Nat) (k : Nat := 1) : State := s.addWrap (F.strCntCount n) k

/-- The device's own ID, from its ticket; 0 without one. -/
def State.ownId (s : State) : Nat := (s.str.ticket.map (·.id)).getD 0

/-- Whether the device is a member (STR_STAT.JOINED). -/
def State.joined (s : State) : Bool := s.flag F.strStatJoined

/-- The fleet role: 0 none, 1 worker, 2 section manager, 3 top manager. -/
def State.fleetRole (s : State) : Nat := s.fld F.strIdRole

/-- The section of an ID (R391). -/
def sectionOf (id : Nat) : Nat := (id - 1) / 256

/-- The manager a device answers to: its section manager, or the top manager for a section manager (R394). -/
def State.managerOf (s : State) : Nat := if s.fleetRole = 2 then s.fld F.strMgrTop else if s.fleetRole = 3 then 0 else s.fld F.strMgrSect

/-- Whether a strand port can carry frames: its link is up, and it is in use outside PS4 (R385, R408). -/
def State.strandUp (s : State) : Bool :=
  ((s.str.up0 && s.flag F.strCtlSp0en) || (s.str.up1 && s.flag F.strCtlSp1en)) && decide (s.ps ≠ 4)

/-- What is kept of a peer. -/
def State.peer (s : State) (p : Nat) : Peer := Tab.getD p Peer.initial s.str.peers

/-- A peer replaced. -/
def State.setPeer (s : State) (p : Nat) (x : Peer) : State := { s with str := { s.str with peers := Tab.put p x s.str.peers } }

/-- Slots of a peer's strand writes that are reserved or still in the write buffer. -/
def State.heldFor (s : State) (p : Nat) : Nat :=
  let fs := (s.str.ins.filter (fun q => q.2.peer = p)).flatMap (fun q => q.2.writes.map (·.fetch))
  (s.buf.slots.filter (fun b => fs.contains b.2.cmd)).length + sumNat ((s.buf.resv.filter (fun r => fs.contains r.1)).map (·.2))

/-- The credit granted to a peer now (R403). -/
def State.creditFor (s : State) (p : Nat) : Nat := s.fld F.strCreditGrant - s.heldFor p

/-- A frame sent: its sequence, acknowledgement and credit, then its payload. -/
def State.sendFrame (s : State) (dst type seq : Nat) (data : List Nat) : State :=
  if s.strandUp then
    ((s.send (.frame dst type ([seq, (s.peer dst).got, s.creditFor dst] ++ data))).strCnt 0).cancel (.ackDelay dst)
  else s

/-- A reliable frame sent: the next sequence of the pair, its retransmit timer started (R398). -/
def State.sendReliable (s : State) (dst type : Nat) (data : List Nat) : State :=
  let p := s.peer dst
  let n := p.sent + 1
  let t := s.setPeer dst { p with sent := n, unacked := p.unacked ++ [⟨n, type, data, 0⟩] }
  (t.sendFrame dst type n data).arm (.retransmit dst n) 200000

/-- Role or membership changed: the flag, and asynchronous event C3h (R149, R393). -/
def State.roleChanged (s : State) : State := (s.setFlag F.strStatRoleseen).asyncVendor 0xC3

/-! ### Copies being sent -/

/-- A copy that ends: its command completes with the slots acknowledged in Dword 0 (R154). -/
def State.endCopy (s : State) (id : Nat) (c : OutCopy) (st : Status) : State :=
  let t : State := { s with str := { s.str with out := Tab.del id s.str.out } }
  let t := if st.isOk then t.strCnt 12 else if st.sc = 0xC1 then t.strCnt 13 else if st.sc = 0xC2 then t.strCnt 14 else t
  (t.unlock c.cmd).finish c.cmd st c.acked

/-- A copy abandoned: COPY_END with reason 1 (R402, R404). -/
def State.abandonCopy (s : State) (id : Nat) (c : OutCopy) (st : Status) : State :=
  (s.sendReliable c.peer 0x12 [id, c.sent, 1]).endCopy id c st

/-- The DATA frames that a peer's credit allows, one or two slots each, copies in order; COPY_END follows the last slot (R399, R403). -/
def State.pump : Nat → Nat → State → State
  | 0, _, s => s
  | n + 1, p, s =>
    let q := s.peer p
    match s.str.out.find? (fun c => decide (c.2.peer = p) && decide (c.2.sent < c.2.total)) with
    | none => s
    | some (id, c) =>
      if q.credit = 0 then
        (if s.armed (.creditWait p) then s else (s.strCnt 30).arm (.creditWait p) (nsSec (s.fld F.strRtxCreds)))
      else
        let k := Nat.min 2 (Nat.min q.credit (c.total - c.sent))
        let ds := (List.range k).map (fun i => match Tab.find c.nsid s.nss with
          | some ns => (s.slotNow c.cmd c.nsid ns (c.slba + c.sent + i)).1
          | none => 0)
        let t := s.setPeer p { q with credit := q.credit - k }
        let t := (t.sendReliable p 0x11 ([id, c.win, k, c.off + c.sent] ++ ds)).strCnt 2
        let t := { t with str := { t.str with out := Tab.put id { c with sent := c.sent + k } t.str.out } }
        State.pump n p (if c.sent + k = c.total then t.sendReliable p 0x12 [id, c.total, 0] else t)

/-- As many frames as the copies to a peer may still need. -/
def State.pumpAll (s : State) (p : Nat) : State :=
  s.pump (sumNat ((s.str.out.filter (fun c => c.2.peer = p)).map (fun c => c.2.total - c.2.sent))) p

/-- Copies that must end: their command went with a reset of its function, or the device is in read-only mode (R404). -/
def State.tidyCopies (s : State) : State :=
  (s.str.out.filter (fun c => (s.cmd c.2.cmd).isNone || s.flag F.rclRoRo)).foldl
    (fun t c => t.abandonCopy c.1 c.2 St.writeProtected) s

/-- What the header of a received frame carries: acknowledged frames retire, and the peer's credit is taken (R398, R403). -/
def State.takeHeader (s : State) (h : FrameHdr) : State :=
  let p := s.peer h.src
  let done := p.unacked.filter (fun u => decide (u.seq ≤ h.ack))
  let t := done.foldl (fun t u => t.cancel (.retransmit h.src u.seq)) s
  let t := t.setPeer h.src { p with unacked := p.unacked.filter (fun u => decide (h.ack < u.seq)), credit := h.credit, reach := true }
  (if h.credit = 0 then t else t.cancel (.creditWait h.src)).tidyCopies.pumpAll h.src

/-- The checks of R389 on a received frame; those of membership where `memb` is set. The state counts what was dropped. -/
def State.frameIn (s : State) (h : FrameHdr) (memb : Bool) : Bool × State :=
  let t := s.strCnt 1
  if !h.crcOk then (false, t.strCnt 6)
  else if h.version ≠ 1 ∨ s.str.ticket.all (fun k => decide (k.tag ≠ h.tag)) ∨ h.dst ≠ s.ownId ∨ (memb ∧ !(Tab.has h.src s.str.members)) then
    (false, (t.strCnt 7).setFlag F.strStatRejectseen)
  else (true, t.takeHeader h)

/-- A frame that needs no reliable order, handled where it passes. -/
def onFrame (s : State) (h : FrameHdr) (memb : Bool) (k : State → State) : Host.Outcome State Fault Refusal :=
  guarded (s.strandUp && decide (h.port < 2)) .unpowered
    (let r := s.frameIn h memb
     if r.1 then k r.2 else r.2)

/-- A peer unreachable: its copies fail with C2h, its frames are given up (R398, R403). -/
def State.unreachable (s : State) (p : Nat) : State :=
  let q := s.peer p
  let t := q.unacked.foldl (fun t u => t.cancel (.retransmit p u.seq)) s
  let t := (t.cancel (.creditWait p)).setPeer p { q with unacked := [], reach := false, credit := 0 }
  let t := (t.setFlag F.strStatUnreachseen).event 0x0D02 p
  (s.str.out.filter (fun c => c.2.peer = p)).foldl (fun t c => t.endCopy c.1 c.2 St.unreachable) t

/-- HOLD: a hold, of at most 50 ms, stops the retransmit count towards the peer (R398). -/
def execHold (h : FrameHdr) (ms : Nat) (s : State) : Host.Outcome State Fault Refusal :=
  onFrame s h s.joined (fun t => (t.strCnt 11).arm (.holdExpiry h.src) (nsMs (Nat.min 50 ms)))

/-- HOLD_EXPIRY: the retransmit count resumes. -/
def execHoldExpiry (peer : Nat) (s : State) : Host.Outcome State Fault Refusal := onTimer s (.holdExpiry peer) (fun t => t)

/-- RETRANSMIT_TIMEOUT: the frame is sent again with RETX set; after 8 retransmissions the peer is unreachable. A hold, or credit 0 for DATA,
stops the count (R398, R403). -/
def execRetransmitTimeout (peer seq : Nat) (s : State) : Host.Outcome State Fault Refusal :=
  onTimer s (.retransmit peer seq) (fun t =>
    let q := t.peer peer
    match q.unacked.find? (fun u => decide (u.seq = seq)) with
    | none => t
    | some u =>
      if t.armed (.holdExpiry peer) || (decide (u.type = 0x11) && decide (q.credit = 0)) then t.arm (.retransmit peer seq) 200000
      else if 8 ≤ u.tries then t.unreachable peer
      else
        let us := q.unacked.map (fun v => if v.seq = seq then { v with tries := v.tries + 1 } else v)
        (((t.setPeer peer { q with unacked := us }).strCnt 4).sendFrame peer u.type seq u.data).arm (.retransmit peer seq) 200000)

/-- ACK_DELAY_TIMER: an ACK alone, 20 µs after the last unacknowledged receipt (R398). -/
def execAckDelayTimer (peer : Nat) (s : State) : Host.Outcome State Fault Refusal :=
  onTimer s (.ackDelay peer) (fun t => t.sendFrame peer 0x03 0 [])

/-- CREDIT_WAIT_TIMEOUT: credit has stayed at 0 for CREDS seconds (R403). -/
def execCreditWaitTimeout (peer : Nat) (s : State) : Host.Outcome State Fault Refusal :=
  onTimer s (.creditWait peer) (fun t => t.unreachable peer)

/-- ACK: slots of a copy acknowledged; the command completes when every slot is (R154, R403). -/
def execAck (h : FrameHdr) (copy slots : Nat) (s : State) : Host.Outcome State Fault Refusal :=
  onFrame s h s.joined (fun t =>
    match Tab.find copy t.str.out with
    | none => t
    | some c =>
      if c.peer ≠ h.src then t
      else
        let c := { c with acked := Nat.min c.total (Nat.max c.acked slots) }
        let t := t.strCnt 18 (c.acked - ((Tab.find copy s.str.out).map (·.acked)).getD 0)
        let t := { t with str := { t.str with out := Tab.put copy c t.str.out } }
        if c.acked = c.total then t.endCopy copy c St.ok else t)

/-- STR_LASTNAK. -/
def State.lastNak (s : State) (cause win dir peer : Nat) : State :=
  let t := ((s.setFld F.strLastnakCause cause).setFld F.strLastnakWin win).setFld F.strLastnakDir dir
  (t.setFld F.strLastnakPeer peer).setFlag F.strStatNakseen

/-- NAK: the copy ends with C1h for causes 01h to 03h and C2h for the others; cause 04h of no copy refuses a JOIN (R393, R401). -/
def execNak (h : FrameHdr) (cause win copy _seq : Nat) (s : State) : Host.Outcome State Fault Refusal :=
  onFrame s h s.joined (fun t =>
    let t := (t.lastNak cause win 1 h.src).strCnt 9
    match Tab.find copy t.str.out with
    | some c => if c.peer = h.src then t.abandonCopy copy c (if cause ≤ 3 then St.windowClosed else St.unreachable) else t
    | none => if cause = 4 ∧ !t.joined then (t.setFlag F.strStatRejectseen).event 0x0D03 t.ownId else t)

/-- STRAND_COPY_PUSH: the source is read as for a host read; once it is staged the copy is opened and its slots go out as credit allows. PATH
11b, a namespace with metadata and a target out of range complete with 02h; a peer not known, C2h (R154, R399). -/
def execStrandCopyPush (cmd path win target off : Nat) (s : State) : Host.Outcome State Fault Refusal :=
  onNs s cmd 0x81 (fun k n =>
    if path = 3 ∨ n.lbaf ≠ 0 ∨ target = 0 ∨ 0x4000 < target ∨ 255 < win ∨ k.sqe.nlb = 0 ∨ 65536 < k.sqe.nlb then s.fail cmd St.badField
    else if n.size < k.sqe.slba + k.sqe.nlb then s.fail cmd St.lbaRange
    else if !s.joined ∨ !(Tab.has target s.str.members) ∨ !s.strandUp then (s.fail cmd St.unreachable).strCnt 14
    else if s.str.out.any (fun c => decide (c.2.cmd = cmd)) then s
    else if !k.buffered then
      let r := [(k.sqe.slba, k.sqe.nlb)]
      s.readGate cmd k n r (s.readRanges cmd k.sqe.nsid n r)
    else
      let id := s.str.nextCopy
      let c : OutCopy := { cmd := cmd, fn := k.fn, peer := target, win := win, off := off, path := path, nsid := k.sqe.nsid,
                           slba := k.sqe.slba, total := k.sqe.nlb, sent := 0, acked := 0 }
      let t : State := { s with str := { s.str with nextCopy := id % (2 ^ 32 - 1) + 1, out := Tab.put id c s.str.out } }
      (t.sendReliable target 0x10 [id, win, off, k.sqe.nlb]).pumpAll target)

/-- STRAND_PORT_LINK_CHANGE: a port's link goes up or down; when one goes down the unacknowledged frames go out on the other (R404). -/
def execStrandPortLinkChange (port : Nat) (up : Bool) (s : State) : Host.Outcome State Fault Refusal :=
  let was := if port = 0 then s.str.up0 else s.str.up1
  let t : State := { s with str := { s.str with up0 := if port = 0 then up else s.str.up0, up1 := if port = 1 then up else s.str.up1 } }
  let t := if was && !up then t.addSat (F.strPortDowns port) 1 else t
  guarded (decide (port < 2)) .outOfRange
    (if was && !up && t.strandUp then
       t.str.peers.foldl (fun t p => p.2.unacked.foldl (fun t u => (t.sendFrame p.1 u.type u.seq u.data).strCnt 4) t) t
     else t)

end Sys2Proof.Machine
end

