-- ==== Sys2Proof/Machine/Fwu.lean ====
section
/-! DEFINITION. Firmware: the package, download, verification, commit and activation (R410 to R421). -/

namespace Sys2Proof.Machine

/-! ### The package (R410) -/

/-- A byte of a staged package; a block holds 4,096 bytes as one little-endian number. -/
def State.fwByte (s : State) (i : Nat) : Nat := Tab.getD (i / 4096) 0 s.fwu.stage / 256 ^ (i % 4096) % 256

/-- A little-endian field of a package: bytes `lo` to `lo + n − 1`. -/
def State.fwField (s : State) (lo n : Nat) : Nat := (List.range n).foldl (fun acc i => acc + s.fwByte (lo + i) * 256 ^ i) 0

/-- The bytes of a range of the package. -/
def State.fwBytes (s : State) (lo n : Nat) : List Nat := (List.range n).map (fun i => s.fwByte (lo + i))

/-- Entry `i` begins at this byte. -/
def entryAt (i : Nat) : Nat := 64 + 256 * i

/-- The parts that a package names, in order. -/
def State.fwParts (s : State) : List FwPart :=
  (List.range (s.fwField 8 2)).map (fun i =>
    let b := entryAt i
    { id := s.fwByte b, major := s.fwField (b + 4) 2, minor := s.fwField (b + 6) 2, patch := s.fwField (b + 8) 4,
      svn := s.fwField (b + 12) 4, provides := s.fwField (b + 72) 2,
      requires := (List.range 12).map (fun k => s.fwField (b + 74 + 2 * k) 2), digest := s.fwField (b + 24) 48 })

/-- Ranges given as (offset, length) that do not overlap each other. -/
def disjoint : List (Nat × Nat) → Bool
  | [] => true
  | r :: rest => rest.all (fun q => !(overlaps r.1 r.2 q.1 q.2)) && disjoint rest

/-- R414 order 1. -/
def State.fwHeaderOk (s : State) : Bool :=
  let len := s.fwField 4 4
  let n := s.fwField 8 2
  let rs := (List.range n).map (fun i => (s.fwField (entryAt i + 16) 4, s.fwField (entryAt i + 20) 4))
  let ids := (List.range n).map (fun i => s.fwByte (entryAt i))
  decide (s.fwField 0 4 = 0x0149465A) && decide (len % 4096 = 0) && decide (4096 ≤ len) && decide (len ≤ 67108864) &&
    decide (1 ≤ n) && decide (n ≤ 12) && decide (s.fwField 10 2 = 1) &&
    decide (crc32c ((List.range 1020).map (fun k => s.fwField (16 + 4 * k) 4)) = s.fwField 12 4) &&
    rs.all (fun r => decide (4096 ≤ r.1) && decide (r.1 % 4096 = 0) && decide (r.1 + r.2 ≤ len)) && disjoint rs &&
    ids.all (fun i => decide (1 ≤ i) && decide (i ≤ 10)) && decide (ids.eraseDups.length = n) &&
    (List.range (len / 4096)).all (fun k => Tab.has k s.fwu.stage)

/-- R414 order 2 for entry `i`: the image matches its SHA-384 and the signature verifies. -/
def State.fwEntryOk (s : State) (i : Nat) : Bool :=
  let b := entryAt i
  decide (Config.sha384 (s.fwBytes (s.fwField (b + 16) 4) (s.fwField (b + 20) 4)) = s.fwField (b + 24) 48) &&
    Config.ecdsaOk Config.firmwareKey (Config.sha384 (s.fwBytes b 104)) (s.fwField (b + 104) 48) (s.fwField (b + 152) 48)

/-- The image of a slot. -/
def State.slotImage (s : State) (k : Nat) : List FwPart := if k = 2 then s.fwu.slot2 else s.fwu.slot1

/-- An image with the parts of another put in the place of its own. -/
def mergeParts (old new : List FwPart) : List FwPart :=
  old.filter (fun p => !(new.any (fun q => decide (q.id = p.id)))) ++ new

/-- Whether every interface requirement of an image is met (R414 order 4). -/
def imageOk (img : List FwPart) : Bool :=
  img.all (fun p => (List.range 12).all (fun k =>
    let need := p.requires.getD k 0
    decide (need = 0) || img.any (fun q => decide (q.id = k + 1) && decide (need ≤ q.provides))))

/-- The order in which live parts switch (R411, R415): sequencers, ECC, strand, control cores, supervisor, then the option ROM. -/
def liveOrder : List Nat := [3, 4, 5, 2, 1, 9]

/-- The mixtures that an activation passes through (R414 order 5). -/
def mixtures (old new : List FwPart) : List (List FwPart) :=
  (List.range (liveOrder.length + 1)).map (fun n =>
    mergeParts old (new.filter (fun p => (liveOrder.take n).contains p.id)))

/-- The first check of R414 that fails, with the part it fails at: 0 where all pass. -/
def State.fwVerify (s : State) (live : Bool) : Nat × Nat :=
  let ps := s.fwParts
  let img := mergeParts s.committedImage ps
  if !s.fwHeaderOk then (1, 0)
  else
    match (List.range ps.length).find? (fun i => !(s.fwEntryOk i)), ps.find? (fun p => decide (p.svn < s.svnOf p.id)) with
    | some i, _ => (2, s.fwByte (entryAt i))
    | none, some p => (3, p.id)
    | none, none =>
      if !(imageOk img) then (4, 0)
      else if live && !((mixtures s.runningImage img).all imageOk) then (5, 0)
      else (0, 0)

/-- FWU_VERIFY and what follows a verification. -/
def State.noteVerify (s : State) (r : Nat × Nat) (ms : Nat) : State :=
  let t := ((s.setFld F.fwuVerifyResult (r.1 + 1)).setFld F.fwuVerifyPart r.2).putSat F.fwuVerifyMs ms
  if r.1 = 0 then t.addWrap (F.fwuCntCount 1) 1
  else (t.setFlag F.fwuStatVfailseen).event 0x0E01 (t.word Reg.fwuVerify).toNat

/-- The status of a failed order of R414. -/
def verifyStatus (o : Nat) : Status := if o = 3 then St.prohibited else if o = 5 then St.needsReset else St.badImage

/-- What the frames of the package's compressed parts, checked as they are written, show: the kind of the first fault (R341, R414). -/
def State.fwFrameFault (s : State) : Option Nat :=
  (List.range s.fwParts.length).findSome? (fun i =>
    let b := entryAt i
    if s.fwByte (b + 1) % 2 = 1 then Config.frameFault (s.fwBytes (s.fwField (b + 16) 4) (s.fwField (b + 20) 4)) else none)

/-! ### Download (R412) -/

/-- A commit ends the ownership of a download; what is staged stays (R412). -/
def State.fwRelease (s : State) : State := ({ s with fwu := { s.fwu with owner := none } } : State).setFld F.fwuStageFunc 0

/-- FIRMWARE_IMAGE_DOWNLOAD: whole 4 KiB blocks within 64 MiB; offset 0 opens a new download for the function that sends it. -/
def execFirmwareImageDownload (cmd offset length : Nat) (data : List Nat) (s : State) : Host.Outcome State Fault Refusal :=
  onPf s cmd (fun k =>
    s.superGate cmd <|
    if offset % 4096 ≠ 0 ∨ length % 4096 ≠ 0 ∨ length = 0 ∨ 67108864 < offset + length then s.finish cmd St.badField
    else if offset ≠ 0 ∧ s.fwu.owner.any (fun o => decide (o ≠ k.fn)) then s.finish cmd St.badField
    else
      let t := if offset = 0 then s.fwDiscard else s
      let n := length / 4096
      let st := (List.range n).foldl (fun l i => Tab.put (offset / 4096 + i) (data.getD i 0) l) t.fwu.stage
      let t : State := { t with fwu := { t.fwu with stage := st, owner := if offset = 0 then some k.fn else t.fwu.owner } }
      let t := (t.setFld F.fwuStageFunc (t.fwu.owner.getD 0)).setFld F.fwuStageBlocks st.length
      (t.addWrap (F.fwuCntCount 0) n).finish cmd St.ok)

/-! ### Slots and activation (R413, R415 to R418) -/

/-- A slot written with an image, in four copies. -/
def State.writeSlot (s : State) (k : Nat) (img : List FwPart) : State :=
  { s with fwu := { s.fwu with
      slot1 := if k = 2 then s.fwu.slot1 else img, slot2 := if k = 2 then img else s.fwu.slot2,
      raw1 := if k = 2 then s.fwu.raw1 else s.fwu.stage, raw2 := if k = 2 then s.fwu.stage else s.fwu.raw2 } }

/-- Part 0Ah of the staged package written into the boot loader bank not in use, which is erased first; the next locator record names it (R442). -/
def State.writeLoader (s : State) : State :=
  match (List.range s.fwParts.length).find? (fun i => decide (s.fwByte (entryAt i) = 10)) with
  | none => s
  | some i =>
    let len := s.fwField (entryAt i + 20) 4
    let a := s.area 8
    let all := a.cur :: (a.erased ++ a.full)
    let h := all.length / 2
    let pending := decide (s.fwu.bankNext ≠ s.fwu.bank)
    let half := if pending then all.take h else all.drop h
    let rest := if pending then all.drop h else all.take h
    let t := s.setArea 8 { cur := half.headD a.cur, word := 2, erased := half.tail, full := rest }
    let t := half.foldl (fun t k => t.cfsRequest 5 (.erase k) 1) t
    { t with fwu := { t.fwu with bankNext := 1 - t.fwu.bank, bankWords := (len + 31) / 32 } }

/-- The slot that FS selects: 0 is the one the boot locator does not name. -/
def State.slotOf (s : State) (fs : Nat) : Nat := if fs = 0 then 3 - s.fld F.fwuSlotCommitted else fs

/-- A slot named by the boot locator as pending for the next cold reset (R418). -/
def State.makePending (s : State) (k : Nat) : State :=
  (((s.setFlag F.fwuStatPending).setFld F.fwuSlotPendingslot k).cfsRequest 5 .locator 16)

/-- Whether anything stands against an activation: Format, Sanitize or segment recovery (R416). -/
def State.activationBarred (s : State) : Bool :=
  decide (s.adm.format.state = 1) || s.sanitizing || !s.map.stalled.isEmpty

/-- Step 1 of an activation. -/
def State.activate (s : State) (cmd : Option Nat) (k : Nat) : State :=
  let t : State := { s with fwu := { s.fwu with run := some ⟨cmd, s.clk.mono, k⟩, armed := none }, q := { s.q with fetchStop := true } }
  let t := ((t.setFlag F.fwuStatActivating).clrFlag F.fwuStatArmed).setFld F.fwuActStep 1
  ((t.asyncAll 9 2 1 3).arm .activationDrain (nsMs 800)).cancel .scheduled

/-- An activation over: fetch resumes, FWU_ACT tells how it ended. -/
def State.activationOver (s : State) (r : Activation) (outcome : Nat) : State :=
  let t : State := { s with fwu := { s.fwu with run := none }, q := { s.q with fetchStop := false } }
  let t := (t.clrFlag F.fwuStatActivating).cancel .activationDrain
  (t.setFld F.fwuActOutcome outcome).putSat F.fwuActMs ((t.clk.mono - r.start) / 1000000)

/-- Versions that registers report of running parts. -/
def State.noteVersions (s : State) : State :=
  s.runningImage.foldl (fun t p =>
    if p.id = 1 then
      let t := ((t.setFld F.supFwverMajor p.major).setFld F.supFwverMinor p.minor).setFld F.supFwverPatch p.patch
      ((t.setFld F.genFwver0Major p.major).setFld F.genFwver0Minor p.minor).setFld F.genFwver1Patch p.patch
    else if p.id = 3 then
      (List.range 8).foldl (fun t k => ((t.setFld (F.sknFwverMajor k) p.major).setFld (F.sknFwverMinor k) p.minor).setFld
        (F.sknFwverPatch k) p.patch) t
    else t) s

/-- Steps 2 to 7 once the accepted commands have completed: the live parts switch, the boot locator names the new slot, and the counters rise;
or a part fails to start and everything goes back to the old image (R415, R417). -/
def State.activateParts (s : State) (r : Activation) (ms failed : Nat) : State :=
  let t := s.advanceTo (Nat.max s.clk.mono (r.start + ms * 1000000))
  let img := t.slotImage r.slot
  if failed = 0 then
    let live := mergeParts t.runningImage (img.filter (fun p => liveOrder.contains p.id))
    let t : State := { t with fwu := { t.fwu with running := live } }
    let t := ((t.setFld F.fwuSlotCommitted r.slot).setFld F.fwuSlotRunning r.slot).setFld F.fwuSlotPendingslot 0
    let t := (((t.clrFlag F.fwuStatPending).cfsRequest 5 .locator 16).raiseSvn img).cfsRequest 3 (.counterRec (img.map (·.svn))) 2
    let t := ((t.setFld F.fwuActStep 7).activationOver r 1).noteVersions
    let t := (t.event 0x0E02 (t.word Reg.fwuAct).toNat).addWrap (F.fwuCntCount 2) 1
    match r.cmd with
    | some c => t.finish c St.ok
    | none => t
  else
    let t := (t.setFld F.fwuActStep (Nat.min 6 failed)).activationOver r 2
    let t := ((t.setFlag F.fwuStatAfailseen).clrFlag F.fwuStatPending).setFld F.fwuSlotPendingslot 0
    let t := (t.cfsRequest 5 .locator 16).event 0x0E03 (t.word Reg.fwuAct).toNat
    match r.cmd with
    | some c => t.finish c St.badImage
    | none => t

/-- CA 010b: an image already in a slot is verified again and made pending (R413). -/
def State.commitSlot (s : State) (cmd slot ms : Nat) : State :=
  let img := s.slotImage slot
  let bad := img.isEmpty || !(imageOk img)
  let t := s.noteVerify (if bad then (4, 0) else match img.find? (fun p => decide (p.svn < s.svnOf p.id)) with
    | some p => (3, p.id)
    | none => (0, 0)) ms
  if t.fld F.fwuVerifyResult ≠ 1 then t.finish cmd (verifyStatus (t.fld F.fwuVerifyResult - 1))
  else (t.updCmd cmd (fun c => { c with phase := .waitStore })).makePending slot

/-- A verified package written to a slot, then what the action asks for (R413, R415). -/
def State.commitWrite (s : State) (cmd ca slot : Nat) : State :=
  let t := s.writeLoader.writeSlot slot (mergeParts s.committedImage s.fwParts)
  if ca = 0 then t.finish cmd St.ok
  else if ca = 1 then (t.updCmd cmd (fun c => { c with phase := .waitStore })).makePending slot
  else t.activate (some cmd) slot

/-- The staged package verified, its compressed parts unpacked, and written (R412 to R415). -/
def State.commitStaged (s : State) (cmd ca slot ms : Nat) : State :=
  let v := s.fwVerify (decide (ca = 3))
  let t := s.noteVerify v ms
  if v.1 ≠ 0 then t.finish cmd (verifyStatus v.1)
  else
    match t.fwFrameFault with
    | some kind => (t.rejectFrame 3 kind 0).finish cmd St.badImage
    | none => t.commitWrite cmd ca slot

/-- The role a commit needs: maker in TEST, installer or higher elsewhere (R414). -/
def State.mayCommit (s : State) (fn : Nat) : Bool :=
  if s.lc = 0 then decide ((s.roleOf fn).num = 3) else decide (2 ≤ (s.roleOf fn).num)

/-- FIRMWARE_COMMIT: the role, then the action; CA 011b starts the activation, and the row again, once the accepted commands have completed,
is its steps 2 to 7, taking `ms` in all and failing at step `failed` where that is not 0 (R413 to R417). -/
def execFirmwareCommit (cmd ca fs ms failed : Nat) (s : State) : Host.Outcome State Fault Refusal :=
  onPf s cmd (fun k =>
    s.superGate cmd <|
    match s.fwu.run with
    | some r =>
      if r.cmd = some cmd then (if s.drainedFor (some cmd) then s.activateParts r ms failed else s)
      else s.finish cmd St.prohibitedNow
    | none =>
      if !(s.mayCommit k.fn) then
        (s.deny 3 (if s.lc = 0 then .maker else .installer) k.fn 0x10).finish cmd St.roleRequired
      else if 3 < ca ∨ 2 < fs then s.finish cmd St.badField
      else
        let t := s.fwRelease.noteGated 0x10 ca k.fn
        if ca = 2 then t.commitSlot cmd (t.slotOf fs) ms
        else if ca = 3 ∧ t.activationBarred then t.finish cmd St.prohibitedNow
        else t.commitStaged cmd ca (t.slotOf fs) ms)

/-- ACTIVATION_DRAIN_TIMEOUT: 800 ms after step 1 the commands have not all completed; the image stays in its slot, pending (R416). -/
def execActivationDrainTimeout (s : State) : Host.Outcome State Fault Refusal :=
  onTimer s .activationDrain (fun t =>
    match t.fwu.run with
    | none => t
    | some r =>
      let u := (t.activationOver r 5).makePending r.slot
      match r.cmd with
      | some c => u.finish c St.timeViolation
      | none => u)

/-- A scheduled activation skipped (R420). -/
def State.skipActivation (s : State) : State :=
  let t : State := { s with fwu := { s.fwu with armed := none } }
  let t := ((t.clrFlag F.fwuStatArmed).setFlag F.fwuStatSkipseen).setFld F.fwuActOutcome 3
  (t.cancel .scheduled).event 0x0E04 (t.word Reg.fwuAct).toNat

/-- SCHEDULED_ACTIVATION_DUE: device time has reached the armed time; the activation starts, or is skipped. It waits out a switch-over. Once it
runs and the accepted commands have completed, the row is its steps 2 to 7 (R356, R420). -/
def execScheduledActivationDue (ms failed : Nat) (s : State) : Host.Outcome State Fault Refusal :=
  match s.fwu.run, s.fwu.armed with
  | some r, _ => .next (if r.cmd.isNone && s.drainedFor none then s.activateParts r ms failed else s)
  | none, some at_ =>
    .next (if s.devTime < at_ then s
      else if s.sup.yielded.isSome then s.setFlag F.supStatLateact
      else if s.activationBarred || !(s.flag F.fwuStatPending) then s.skipActivation
      else s.activate none (s.fld F.fwuSlotPendingslot))
  | none, none => .next s

/-- A device time armed for the pending image, or disarmed with 0; the refusal of R420 answers `false` (feature C1h, R421). -/
def State.armActivation (s : State) (arm : Bool) (time : Nat) : Bool × State :=
  if !arm then
    (true, (({ s with fwu := { s.fwu with armed := none } } : State).clrFlag F.fwuStatArmed).cancel .scheduled)
  else if s.flag F.tkStatReftlost || !(s.flag F.fwuStatPending) || decide (time < s.devTime + 2000000000) ||
      !((mixtures s.runningImage (s.slotImage (s.fld F.fwuSlotPendingslot))).all imageOk) then (false, s)
  else
    (true, ((({ s with fwu := { s.fwu with armed := some time } } : State).setFlag F.fwuStatArmed).arm .scheduled
      (time - s.devTime)))

/-- The package a slot was written from. -/
def State.rawOf (s : State) (k : Nat) : List (Nat × Nat) := if k = 2 then s.fwu.raw2 else s.fwu.raw1

/-- Whom a manager hands firmware to: a top manager the section managers and its own section, a section manager its section (R421). -/
def State.fleetTargets (s : State) : List Nat :=
  let mine := (s.str.members.map (·.1)).filter (fun i => decide (i ≠ s.ownId) && decide (sectionOf i = sectionOf s.ownId))
  if s.fleetRole = 3 then mine ++ s.str.mgrs.filter (fun i => !(mine.contains i))
  else if s.fleetRole = 2 then mine else []

/-- FWU_FLEET on a top manager: itself and the members that have answered that they are armed, and the others it knows of (R421). -/
def State.noteFleet (s : State) : State :=
  if s.fleetRole ≠ 3 then s
  else
    let known := (s.ownId :: (s.str.members.map (·.1) ++ s.str.mgrs ++ s.str.rolls.flatMap (fun r => r.2.map (·.id)))).eraseDups.length
    let ready := b2n s.fwu.armed.isSome + (s.fwu.fleet.filter (fun b => b)).length
    let t := s.putSat F.fwuFleetReady ready
    t.putSat F.fwuFleetNotready (if s.fwu.armed.isSome then known - ready else 0)

/-- A package sent on as FW_PART frames of one block each, then SCHEDULE with the time, 0 to cancel (R421). -/
def State.spread (s : State) (blocks : List (Nat × Nat)) (time : Nat) : State :=
  let t := ({ s with fwu := { s.fwu with fleet := [] } } : State).noteFleet
  s.fleetTargets.foldl (fun t i =>
    (blocks.foldl (fun t b => t.sendReliable i 0x30 [4096 * b.1, b.2]) t).sendReliable i 0x31 [0, time]) t

/-- A member's answer to SCHEDULE: a section manager sends it on to the top manager, which counts it (R421). -/
def State.noteScheduled (s : State) (time : Nat) (ok : Bool) : State :=
  if time = 0 then s
  else if s.fleetRole = 2 then s.sendReliable (s.fld F.strMgrTop) 0x31 [1, time, b2n ok]
  else ({ s with fwu := { s.fwu with fleet := s.fwu.fleet ++ [ok] } } : State).noteFleet

/-- A verified package armed at a member for a time: written to its own slot, pending, answered, and sent on by a section manager (R421). -/
def State.armPackage (s : State) (src time : Nat) : State :=
  let k := s.slotOf 0
  let t := (s.writeLoader.writeSlot k (mergeParts s.committedImage s.fwParts)).makePending k
  let r := t.armActivation true time
  let t := r.2.sendReliable src 0x31 [1, time, b2n r.1]
  if t.fleetRole = 2 then t.spread s.fwu.stage time else t

/-- SCHEDULE with a time at a member: what is staged is verified against its own committed image, written to its own slot and armed; the
answer says whether it is, and a section manager passes both on to its section (R421). -/
def State.takeSchedule (s : State) (src time : Nat) : State :=
  let v := s.fwVerify true
  let t := s.noteVerify v 0
  if v.1 ≠ 0 then t.sendReliable src 0x31 [1, time, 0]
  else
    match t.fwFrameFault with
    | some kind => (t.rejectFrame 3 kind 0).sendReliable src 0x31 [1, time, 0]
    | none => t.armPackage src time

end Sys2Proof.Machine
end

