-- ==== Sys2Proof/Machine/Strand.lean ====
section
/-! DEFINITION. Receive windows, strand writes, membership, heartbeats, roll-ups, time across the section and managers (R391 to R406). -/

namespace Sys2Proof.Machine

/-! ### Receive windows (R400) -/

/-- STR_WSEL written: the staging copy is loaded from the live window. -/
def State.windowSelect (s : State) (w : Nat) : State :=
  let x := (Tab.find w s.str.windows).getD ⟨0, 0, 0, false, 0, false⟩
  let t := (s.setFld F.strWselWin w).setFld F.strWbaseLoLba (x.base % 2 ^ 32)
  let t := ((t.setFld F.strWbaseHiLba (x.base / 2 ^ 32)).setFld F.strWlenLen x.len).setFld F.strWsrcAny (b2n x.any)
  ((t.setFld F.strWsrcSrc x.src).setFld F.strWctlOpen (b2n x.open_)).setFld F.strWctlNsid x.nsid

/-- The staging copy. -/
def State.staged (s : State) : Window :=
  { nsid := s.fld F.strWctlNsid, base := s.fld F.strWbaseLoLba + 2 ^ 32 * s.fld F.strWbaseHiLba, len := s.fld F.strWlenLen,
    any := s.flag F.strWsrcAny, src := s.fld F.strWsrcSrc, open_ := s.flag F.strWctlOpen }

/-- STR_WSTAT.ERR of a commit, 0 where it is accepted: the lowest cause that applies. -/
def State.windowError (s : State) (x : Window) : Nat :=
  match Tab.find x.nsid s.nss with
  | none => 1
  | some n =>
    if n.lbaf ≠ 0 then 1
    else if n.size < x.base + x.len then 2
    else if x.base % 256 ≠ 0 ∨ x.len % 256 ≠ 0 then 3
    else if x.open_ ∧ s.flag F.rclRoRo then 4
    else 0

/-- STR_WCTL.COMMIT: the staging copy becomes live in one step and is recorded, or ERR is set. -/
def State.windowCommit (s : State) : State :=
  let x := s.staged
  let e := s.windowError x
  let t := s.setFld F.strWstatErr e
  if e ≠ 0 then t.strCnt 28
  else
    let w := s.fld F.strWselWin
    let ws := Tab.put w x s.str.windows
    let t : State := { t with str := { t.str with windows := ws } }
    ((t.setFld F.strWopenOpen (ws.filter (fun p => p.2.open_)).length).strCnt 27).cfsRequest 5 (.record 6 w x.payload false) 2

/-! ### Strand writes (R401 to R403) -/

/-- The key of a copy being received. -/
def copyKey (peer id : Nat) : Nat := peer * 2 ^ 32 + id

/-- A received copy replaced. -/
def State.setIn (s : State) (k : Nat) (c : InCopy) : State := { s with str := { s.str with ins := Tab.put k c s.str.ins } }

/-- The NAK cause of a DATA frame, 0 where it is valid: the lowest that applies. -/
def State.dataError (s : State) (peer win off n : Nat) (known ok : Bool) : Nat :=
  match Tab.find win s.str.windows with
  | none => 1
  | some x =>
    if !x.open_ ∨ x.len < off + n then 1
    else if s.flag F.rclRoRo then 2
    else if !x.any ∧ x.src ≠ peer then 3
    else if !known ∨ !ok ∨ n = 0 ∨ 2 < n then 5
    else 0

/-- A frame refused with a NAK. -/
def State.nak (s : State) (peer cause win copy seq : Nat) : State :=
  ((s.sendFrame peer 0x04 0 [cause, win, copy, seq]).strCnt 8).lastNak cause win 0 peer

/-- A new strand write of a copy for the unit of an LBA: its fetch number, its slot and its interlock entry (R402). -/
def State.newWrite (s : State) (c : InCopy) (x : Window) (lba : Nat) : InWrite × State :=
  let n := s.q.lastFetch + 1
  let a := Nat.max (x.base + c.off) (lba / 256 * 256)
  let e := Nat.min (x.base + c.off + c.count) (lba / 256 * 256 + 256)
  let sqe : Sqe := { opcode := 0x01, cid := 0, nsid := x.nsid, slba := a, nlb := e - a, ranges := [], prchk := 0, ph := none, lr := false, pages := [], list := false }
  let cmp := ((Tab.find x.nsid s.nss).map (·.compress)).getD false
  let k : Cmd := { fn := 2048, sq := 0, admin := false, sqe := sqe, accepted := s.clk.mono, level := 4, phase := .active, nextCut := e, endCut := e,
                   doneSlots := 0, failure := none, dropped := true, buffered := false, exposed := false, cmpEn := cmp, badLba := none }
  let resv := if s.admits n 2048 (e - a) then Tab.put n (e - a) s.buf.resv else s.buf.resv
  ({ fetch := n, nsid := x.nsid, lba := a, count := e - a, got := [], buffered := false, exposed := false, acked := false },
   { s with q := { s.q with lastFetch := n, cmds := Tab.put n k s.q.cmds, locks := s.q.locks ++ sqe.locks n cmp },
            buf := { s.buf with resv := resv } })

/-- The data of a whole strand write buffered and placed, once the buffer admits it. -/
def State.bufferStrand (s : State) (w : InWrite) : InWrite × State :=
  match s.cmd w.fetch, Tab.find w.nsid s.nss with
  | some k, some n =>
    if w.got.length = w.count && !w.buffered && (Tab.has w.fetch s.buf.resv || s.admits w.fetch 2048 w.count) then
      let ds := (List.range w.count).map (fun i => (Tab.getD (w.lba + i) 0 w.got, 0))
      let t := s.bufferSlots w.fetch 2048 w.nsid w.lba ds
      let t := (pieces stitchSpan w.lba w.count).foldl (fun t p => t.placeStitch w.fetch w.nsid n p.1 p.2 (n.handles.headD 0) k.cmpEn ⟨false, [], []⟩) t
      ({ w with buffered := true, exposed := s.flag F.crsStatExposed }, (t.fullyBuffered w.fetch).noteStaging)
    else (w, s)
  | _, _ => (w, s)

/-- One slot of a copy put in the strand write of its unit. -/
def State.takeSlot (s : State) (key : Nat) (x : Window) (lba data : Nat) : State :=
  match Tab.find key s.str.ins with
  | none => s
  | some c =>
    let (w, t) := match c.writes.find? (fun w => covers w.lba w.count lba) with
      | some w => (w, s)
      | none => s.newWrite c x lba
    let (w, t) := t.bufferStrand { w with got := Tab.put lba data w.got }
    t.setIn key { c with recv := c.recv + 1, writes := (c.writes.filter (fun v => decide (v.fetch ≠ w.fetch))) ++ [w] }

/-- The strand writes of a copy whose slots have not all arrived are discarded whole (R402). -/
def State.discardWrites (s : State) (key : Nat) (c : InCopy) : State :=
  let gone := c.writes.filter (fun w => !w.buffered)
  let t := gone.foldl (fun (t : State) w =>
    let u := t.unlock w.fetch
    { u with q := { u.q with cmds := Tab.del w.fetch u.q.cmds }, buf := { u.buf with resv := Tab.del w.fetch u.buf.resv } }) s
  let c := { c with writes := c.writes.filter (·.buffered) }
  let t := (t.strCnt 16 gone.length).cancel (.strandWrite key)
  if c.writes.all (·.acked) then { t with str := { t.str with ins := Tab.del key t.str.ins } } else t.setIn key c

/-- A DATA frame validated against the live window (R401). -/
def State.takeData (s : State) (h : FrameHdr) (copy win off : Nat) (slots : List Nat) (ok : Bool) : State :=
  let key := copyKey h.src copy
  let s := s.strCnt 3
  let known := (Tab.find key s.str.ins).any (fun c => decide (c.win = win) && decide (c.off ≤ off) && decide (off + slots.length ≤ c.off + c.count))
  let e := s.dataError h.src win off slots.length known ok
  match Tab.find win s.str.windows with
  | some x =>
    if e ≠ 0 then s.nak h.src e win copy h.seq
    else ((List.range slots.length).foldl (fun t i => t.takeSlot key x (x.base + off + i) (slots.getD i 0)) s).arm (.strandWrite key) (nsSec 1)
  | none => s.nak h.src 1 win copy h.seq

/-- STRAND_WRITE_TIMEOUT: 1 s with no frame for a copy (R402). -/
def execStrandWriteTimeout (copy : Nat) (s : State) : Host.Outcome State Fault Refusal :=
  onTimer s (.strandWrite copy) (fun t => match Tab.find copy t.str.ins with
    | some c => t.discardWrites copy c
    | none => t)

/-- STRAND_WRITE_ACK: a strand write parked for space is buffered when there is room; a buffered one is acknowledged, in exposed mode once it is
program-safe and committed (R402, R403). -/
def execStrandWriteAck (copy fetch : Nat) (s : State) : Host.Outcome State Fault Refusal :=
  match Tab.find copy s.str.ins with
  | none => .fault .noSuchObject
  | some c =>
    match c.writes.find? (fun w => decide (w.fetch = fetch) && !w.acked) with
    | none => .fault .noSuchObject
    | some w =>
      let (w, t) := s.bufferStrand w
      let put := fun (t : State) (w : InWrite) (n : Nat) =>
        t.setIn copy { c with ackedSlots := c.ackedSlots + n, writes := (c.writes.filter (fun v => decide (v.fetch ≠ fetch))) ++ [w] }
      if !w.buffered then .next (put t w 0)
      else if w.exposed && t.buf.slots.any (fun b => decide (b.2.cmd = fetch)) then .next (put t w 0)
      else
        let t := put t { w with acked := true } w.count
        let t := (t.sendFrame c.peer 0x03 0 [c.id, c.ackedSlots + w.count]).strCnt 17 w.count
        .next (if c.ackedSlots + w.count = c.count then (({ t with str := { t.str with ins := Tab.del copy t.str.ins } } : State).strCnt 15).cancel
          (.strandWrite copy) else t)

/-! ### Membership and the registry (R391 to R395, R406) -/

/-- A member of the registry. -/
def State.setMember (s : State) (id : Nat) (m : FleetMember) : State := { s with str := { s.str with members := Tab.put id m s.str.members } }

/-- A registry entry as a member. -/
def memberOf (r : RegEntry) : FleetMember := { sn := r.sn, addr := r.addr, digest := [], heard := 0, state := 0 }

/-- The registry's entries taken, those held kept where they are already known. -/
def State.takeRegistry (s : State) (es : List RegEntry) : State :=
  es.foldl (fun t e => match Tab.find e.id t.str.members with
    | some m => t.setMember e.id { m with sn := e.sn, addr := e.addr }
    | none => t.setMember e.id (memberOf e)) s

/-- The registry as frames carry it. -/
def State.registryData (s : State) : List Nat := s.str.members.flatMap (fun p => [p.1, p.2.sn, p.2.addr])

/-- The module's serial number as a number, from the calibration row (R385). -/
def ownSerial : Nat := (List.range 5).foldl (fun acc i => acc + Config.calDword (2 + i) * 2 ^ (32 * i)) 0

/-- The checks of a ticket that any device makes: form, tag, ID, time and the installer's signature over bytes 0 to 39 (R393). -/
def State.ticketOk (s : State) (t : JoinTicket) : Bool :=
  t.wellFormed && decide (t.tag ≠ 0) && decide (1 ≤ t.id) && decide (t.id ≤ 0x4000) && decide (s.devTime < t.notAfter) &&
    s.keys.instKey.any (fun k => Config.ecdsaOk k (Config.sha384 [1, 136, t.tag, t.sn, t.id, t.flags, t.notAfter]) t.sigR t.sigS)

/-- The fields of a ticket in their order (R393). -/
def ticketWords (k : JoinTicket) : List Nat := [k.tag, k.sn, k.id, k.flags, k.notAfter, k.sigR, k.sigS]

/-- JOIN sent to the section manager with the stored ticket (R393). -/
def State.sendJoin (s : State) : State :=
  match s.str.ticket with
  | some k => if s.fld F.strMgrSect = 0 ∨ k.notAfter ≤ s.devTime then s
      else s.sendReliable (s.fld F.strMgrSect) 0x23 (ticketWords k)
  | none => s

/-- Timers of a member: heartbeats, the manager's answers, time exchanges; those of a manager: roll-ups and the registry. -/
def State.startFleet (s : State) : State :=
  let t := ((s.arm .heartbeat (nsMs 100)).arm .managerLost (nsMs (s.fld F.strHbMgrms))).arm .timeExchange (nsSec 10)
  let t := if t.flag F.tkCtlStrandt then t.armOnce .timeOffset (nsSec 1) else t
  if 2 ≤ t.fleetRole then (t.arm .rollup (nsSec 10)).arm .registry (nsSec 10) else t

/-- The device becomes a member: its ID, section and role (R393). -/
def State.becomeMember (s : State) : State :=
  let t := ((s.setFlag F.strStatJoined).setFld F.strIdId s.ownId).setFld F.strIdSection (sectionOf s.ownId)
  let t := if t.fleetRole = 0 then t.setFld F.strIdRole 1 else t
  (t.startFleet).roleChanged

/-- The device leaves the system: ticket, ID and windows go (C8h selector 3h). -/
def State.leave (s : State) : State :=
  let t := (s.str.windows.map (·.2.nsid)).foldl (fun t n => t.closeWindows n) s
  let t : State := { t with str := { t.str with ticket := none, members := [], peers := [], rolls := [], mgrs := [] } }
  let t := (((t.clrFlag F.strStatJoined).setFld F.strIdId 0).setFld F.strIdSection 0).setFld F.strIdRole 0
  let t := ((t.cancel .heartbeat).cancel .managerLost).cancel .timeExchange
  (((t.cancel .rollup).cancel .registry).cancel .timeOffset).roleChanged

/-- A manager heard of: the highest epoch is followed, the lower ID at equal epochs (R391). -/
def State.followManager (s : State) (role epoch id : Nat) : State :=
  let cur := if role = 3 then s.fld F.strMgrTop else s.fld F.strMgrSect
  if epoch < s.str.epoch ∨ (epoch = s.str.epoch ∧ cur ≠ 0 ∧ cur ≤ id) then s
  else
    let t : State := { s with str := { s.str with epoch := epoch } }
    let t := if role = 3 then t.setFld F.strMgrTop id else t
    let t := if role = 2 ∨ sectionOf id = sectionOf t.ownId then t.setFld F.strMgrSect id else t
    let t := if id ≠ t.ownId ∧ 2 ≤ t.fleetRole ∧ (t.fleetRole = role) then
        ((t.setFld F.strIdRole 1).setFld F.strDeputyDep0 0).setFld F.strDeputyDep1 0 else t
    t.roleChanged.sendJoin

/-- STR_SECT of a section from its last roll-up (R395). -/
def State.noteSection (s : State) (k : Nat) (es : List RollEntry) : State :=
  let t := ((s.setFld (F.strSectValid k) 1).clrFlag (F.strSectStale k)).setFld (F.strSectMembers k) (Nat.min 256 es.length)
  let t := t.setFld (F.strSectStalemem k) (es.filter (fun e => decide (100 < e.age))).length
  let t := (t.putSat (F.strSectWarn k) (es.filter (·.warn)).length).putFlag (F.strSectRo k) (es.any (·.ro))
  t.putFlag (F.strSectFwmix k) (es.any (fun e => es.any (fun d => decide (d.fw ≠ e.fw))))

/-- A new manager takes up its role: MANAGER to every member it knows of. -/
def State.announce (s : State) : State :=
  let t : State := { s with str := { s.str with loading := false } }
  (t.str.members.filter (fun p => decide (p.1 ≠ t.ownId))).foldl (fun t p => t.sendReliable p.1 0x22 [t.fleetRole, t.str.epoch, t.ownId]) t

/-! ### What a reliable frame brings about -/

/-- The effect of a frame's payload, in SEQ order (R390, R398). -/
def State.deliver (s : State) (h : FrameHdr) (b : FrameBody) : State :=
  match b with
  | .copyOpen copy win off count =>
    (s.setIn (copyKey h.src copy) { peer := h.src, id := copy, win := win, off := off, count := count, recv := 0, ackedSlots := 0, writes := [] }).arm
      (.strandWrite (copyKey h.src copy)) (nsSec 1)
  | .data copy win off slots ok =>
    if s.ps = 3 then ((s.sendFrame h.src 0x05 0 [5]).strCnt 10).takeData h copy win off slots ok
    else s.takeData h copy win off slots ok
  | .copyEnd copy _ _ => match Tab.find (copyKey h.src copy) s.str.ins with
    | some c => if c.recv = c.count ∧ c.writes.all (·.buffered) then s.cancel (.strandWrite (copyKey h.src copy))
        else s.discardWrites (copyKey h.src copy) c
    | none => s
  | .rollup es =>
    if s.fleetRole ≠ 3 then s
    else
      let k := sectionOf h.src
      let t : State := { s with str := { s.str with rolls := Tab.put k es s.str.rolls, mgrs := insertNew h.src s.str.mgrs } }
      (((t.noteSection k es).strCnt 22).stamp Reg.strRollup).arm (.sectionStale k) (nsSec 20)
  | .registry seq es =>
    if seq < s.str.regSeq then s
    else
      let t := (({ s with str := { s.str with regSeq := seq } } : State).takeRegistry es).cancel .registryLoad
      if s.str.loading then t.announce else t
  | .manager role epoch id => s.followManager role epoch id
  | .join k =>
    if s.fleetRole < 2 then s
    else
      let clash := (Tab.find k.id s.str.members).any (fun m => decide (m.sn ≠ k.sn))
      if s.ticketOk k && !clash then
        (s.setMember k.id { sn := k.sn, addr := h.port, digest := [], heard := s.clk.mono, state := 0 }).sendReliable h.src 0x24 s.registryData
      else (((s.sendFrame h.src 0x04 0 [4, 0, 0, h.seq]).strCnt 8).lastNak 4 0 0 h.src).event 0x0D03 k.id
  | .joinAck es => (s.takeRegistry es).becomeMember
  | .patrol => match Tab.find h.src s.str.members with
    | some m => (s.setMember h.src { m with state := 2 }).cancel (.heartbeatMiss h.src)
    | none => s
  | .fwPart offset blocks =>
    let st := (List.range blocks.length).foldl (fun l i => Tab.put (offset / 4096 + i) (blocks.getD i 0) l)
      (if offset = 0 then [] else s.fwu.stage)
    ({ s with fwu := { s.fwu with stage := st, owner := none } } : State).setFld F.fwuStageBlocks st.length
  | .schedule true time ok => s.noteScheduled time ok
  | .schedule false time _ =>
    if time = 0 then (s.armActivation false 0).2.sendReliable h.src 0x31 [1, 0, 1]
    else s.takeSchedule h.src time

/-- The frames held that have become next in order, delivered. -/
def State.deliverHeld : Nat → FrameHdr → State → State
  | 0, _, s => s
  | n + 1, h, s =>
    let p := s.peer h.src
    match Tab.find (p.got + 1) p.early with
    | none => s
    | some b =>
      let t := s.setPeer h.src { p with got := p.got + 1, early := Tab.del (p.got + 1) p.early }
      State.deliverHeld n h (t.deliver { h with seq := p.got + 1 } b)

/-- Whether a frame belongs to a copy. -/
def isCopyFrame : FrameBody → Bool
  | .copyOpen _ _ _ _ => true
  | .data _ _ _ _ _ => true
  | .copyEnd _ _ _ => true
  | _ => false

/-- A reliable frame: a frame for a window wakes the device from PS3 and is answered with a hold (R369, R404); a duplicate is discarded and acknowledged, one out of order is held, and one in order is delivered with those it lets
through (R389, R398). -/
def onReliable (s : State) (h : FrameHdr) (memb : Bool) (b : FrameBody) : Host.Outcome State Fault Refusal :=
  onFrame s h memb (fun t =>
    let p := t.peer h.src
    if t.ps = 3 ∧ isCopyFrame b then (t.sendFrame h.src 0x05 0 [5]).strCnt 10
    else if h.seq ≤ p.got ∨ Tab.has h.seq p.early then (t.strCnt 5).sendFrame h.src 0x03 0 []
    else
      let t := t.arm (.ackDelay h.src) 20000
      if h.seq = p.got + 1 then ((t.setPeer h.src { p with got := h.seq }).deliver h b).deliverHeld 256 h
      else if p.early.length < 256 then t.setPeer h.src { p with early := Tab.put h.seq b p.early } else t)

/-- COPY_OPEN (R390). -/
def execCopyOpen (h : FrameHdr) (copy win off count : Nat) (s : State) : Host.Outcome State Fault Refusal :=
  onReliable s h true (.copyOpen copy win off count)
/-- DATA (R401). -/
def execData (h : FrameHdr) (copy win off : Nat) (slots : List Nat) (wellFormed : Bool) (s : State) : Host.Outcome State Fault Refusal :=
  onReliable s h true (.data copy win off slots wellFormed)
/-- COPY_END (R402). -/
def execCopyEnd (h : FrameHdr) (copy sent reason : Nat) (s : State) : Host.Outcome State Fault Refusal :=
  onReliable s h true (.copyEnd copy sent reason)
/-- ROLLUP (R395). -/
def execRollup (h : FrameHdr) (entries : List RollEntry) (s : State) : Host.Outcome State Fault Refusal := onReliable s h true (.rollup entries)
/-- REGISTRY (R406). -/
def execRegistry (h : FrameHdr) (seq : Nat) (entries : List RegEntry) (s : State) : Host.Outcome State Fault Refusal :=
  onReliable s h true (.registry seq entries)
/-- MANAGER (R391, R406). -/
def execManager (h : FrameHdr) (role epoch id : Nat) (s : State) : Host.Outcome State Fault Refusal :=
  onReliable s h true (.manager role epoch id)
/-- JOIN: its sender is not yet a member (R393). -/
def execJoin (h : FrameHdr) (t : JoinTicket) (s : State) : Host.Outcome State Fault Refusal := onReliable s h false (.join t)
/-- JOIN_ACK: the device has no registry yet (R393). -/
def execJoinAck (h : FrameHdr) (entries : List RegEntry) (s : State) : Host.Outcome State Fault Refusal := onReliable s h false (.joinAck entries)
/-- PATROL_NOTICE (R394). -/
def execPatrolNotice (h : FrameHdr) (s : State) : Host.Outcome State Fault Refusal := onReliable s h true .patrol
/-- FW_PART (R421). -/
def execFwPart (h : FrameHdr) (offset : Nat) (blocks : List Nat) (s : State) : Host.Outcome State Fault Refusal :=
  onReliable s h true (.fwPart offset blocks)
/-- SCHEDULE (R421). -/
def execSchedule (h : FrameHdr) (answer : Bool) (time : Nat) (ok : Bool) (s : State) : Host.Outcome State Fault Refusal :=
  onReliable s h true (.schedule answer time ok)

/-! ### Heartbeats, roll-ups and registries (R394, R395, R406) -/

/-- The digest of a HEARTBEAT (R390). -/
def State.digest (s : State) : List Nat :=
  [s.fld F.rclTensionLevel, s.c0Flags, s.spare, s.fl.slow.length, (hottest s.pwr.temps).1, s.ps, s.fld F.rclHealthPctused, (s.word Reg.supFwver).toNat,
   s.clk.mono]

/-- HEARTBEAT_TIMER: a member's heartbeat to its manager, every 100 ms. -/
def execHeartbeatTimer (s : State) : Host.Outcome State Fault Refusal :=
  onTimer s .heartbeat (fun t =>
    let t := t.arm .heartbeat (nsMs 100)
    if !t.joined ∨ t.managerOf = 0 ∨ t.managerOf = t.ownId then t else (t.sendFrame t.managerOf 0x01 0 t.digest).strCnt 19)

/-- HEARTBEAT: a manager keeps the digest and answers with its stamps and epoch; the member is present again. -/
def execHeartbeat (h : FrameHdr) (digest : List Nat) (s : State) : Host.Outcome State Fault Refusal :=
  onFrame s h true (fun t =>
    match Tab.find h.src t.str.members with
    | none => t
    | some m =>
      if t.fleetRole < 2 then t
      else
        let t := (t.setMember h.src { m with digest := digest, heard := t.clk.mono, state := 0 }).arm (.heartbeatMiss h.src)
          (nsMs (100 * t.fld F.strHbMiss))
        t.sendFrame h.src 0x02 0 [t.devTime, t.devTime, t.str.epoch])

/-- HEARTBEAT_MISS: MISS heartbeats in a row. -/
def execHeartbeatMiss (peer : Nat) (s : State) : Host.Outcome State Fault Refusal :=
  onTimer s (.heartbeatMiss peer) (fun t =>
    match Tab.find peer t.str.members with
    | some m =>
      let n := t.fld F.strHbMiss
      let t := (t.setMember peer { m with state := 1 }).strCnt 20 n
      { t with str := { t.str with missed := t.str.missed + n } }
    | none => t)

/-- A member's roll-up entry, with the age of its digest. -/
def State.rollEntry (s : State) (id : Nat) (m : FleetMember) : RollEntry :=
  { id := id, warn := decide (m.digest.getD 1 0 ≠ 0), ro := decide (m.digest.getD 1 0 % 2 = 1), fw := m.digest.getD 7 0,
    age := (s.clk.mono - m.heard) / 100000000 }

/-- ROLLUP_TIMER: every 10 s a section manager's roll-up; members last heard more than 10 s ago are marked stale, but not those on patrol.
It waits while the top manager is lost (R406). -/
def execRollupTimer (s : State) : Host.Outcome State Fault Refusal :=
  onTimer s .rollup (fun t =>
    let t := t.arm .rollup (nsSec 10)
    let mine := t.str.members.filter (fun p => decide (sectionOf p.1 = sectionOf t.ownId))
    let stale := (mine.filter (fun p => decide (p.2.state ≠ 2) && decide (p.2.heard + 10000000000 < t.clk.mono))).length
    let t := if stale = 0 then t else (t.setFlag F.strStatStaleseen).strCnt 23 stale
    let es := mine.map (fun p => t.rollEntry p.1 p.2)
    if t.fleetRole = 2 ∧ !(t.armed .managerLost) then t
    else if t.fleetRole = 2 then
      ((t.sendReliable (t.fld F.strMgrTop) 0x20 (es.flatMap (fun e => [e.id, b2n e.warn, b2n e.ro, e.fw, e.age]))).strCnt 21).stamp Reg.strRollup
    else if t.fleetRole = 3 then
      (({ t with str := { t.str with rolls := Tab.put (sectionOf t.ownId) es t.str.rolls } } : State).noteSection (sectionOf t.ownId) es).stamp Reg.strRollup
    else t)

/-- SECTION_ROLLUP_STALE: no roll-up of a section within 20 s of the one before. -/
def execSectionRollupStale (sect : Nat) (s : State) : Host.Outcome State Fault Refusal :=
  onTimer s (.sectionStale sect) (fun t => ((t.setFlag (F.strSectStale sect)).setFlag F.strStatStaleseen).strCnt 23)

/-- REGISTRY_TIMER: every 10 s a manager's registry to its two deputies. -/
def execRegistryTimer (s : State) : Host.Outcome State Fault Refusal :=
  onTimer s .registry (fun t =>
    let t : State := { t with str := { t.str with regSeq := t.str.regSeq + 1 } }
    let t := (t.arm .registry (nsSec 10)).setFld F.strRollupSeq t.str.regSeq
    let deps := [t.fld F.strDeputyDep0, t.fld F.strDeputyDep1].filter (· ≠ 0)
    if t.fleetRole < 2 then t else deps.foldl (fun t d => t.sendReliable d 0x21 (t.str.regSeq :: t.registryData)) t)

/-- MANAGER_LOST: no HB_REPLY for MGRMS. A device that answers to no other has none to lose. -/
def execManagerLost (s : State) : Host.Outcome State Fault Refusal :=
  onTimer s .managerLost (fun t =>
    if t.managerOf = 0 ∨ t.managerOf = t.ownId then t
    else (((t.setFlag F.strStatMgrlostseen).event 0x0D01 t.managerOf).strCnt 29).asyncVendor 0xC3)

/-- REGISTRY_LOAD_TIMEOUT: no deputy answered within 2 s, and the manager starts with an empty registry. -/
def execRegistryLoadTimeout (s : State) : Host.Outcome State Fault Refusal :=
  onTimer s .registryLoad (fun t =>
    if t.str.loading then ({ t with str := { t.str with members := t.str.members.filter (fun p => decide (p.1 = t.ownId)) } } : State).announce else t)

/-! ### Time across a section (R396, R397) -/

/-- HB_REPLY: the exchange is kept unless its round trip exceeds twice the least of the last 64. -/
def execHbReply (h : FrameHdr) (t1 t2 t3 t4 epoch : Nat) (s : State) : Host.Outcome State Fault Refusal :=
  onFrame s h true (fun t =>
    let t := t.arm .managerLost (nsMs (t.fld F.strHbMgrms))
    let t := if t.str.epoch < epoch then { t with str := { t.str with epoch := epoch } } else t
    if !(t.flag F.tkCtlStrandt) then t
    else
      let trip := (t4 - t1) - (t3 - t2)
      let trips := (trip :: t.str.trips).take 64
      let least := (minNat? trips).getD trip
      let off : Int := (((t2 : Int) - t1) - ((t4 : Int) - t3)) / 2
      let t : State := { t with str := { t.str with trips := trips } }
      if 2 * least < trip then t.strCnt 25
      else
        let t := (({ t with str := { t.str with kept := (off, t4) :: t.str.kept.take 7 } } : State).strCnt 24).arm .timeExchange (nsSec 10)
        t.noteSectionTime)

/-- TIME_OFFSET_APPLY: every 1 s the mean offset of the exchanges kept is applied under R50 and their slope sets the trim, within ±200 ppm. -/
def execTimeOffsetApply (s : State) : Host.Outcome State Fault Refusal :=
  onTimer s .timeOffset (fun t =>
    let t := t.arm .timeOffset (nsSec 1)
    if t.str.kept.isEmpty ∨ !(t.flag F.tkCtlStrandt) then t
    else
      let mean : Int := (t.str.kept.foldl (fun a p => a + p.1) 0) / t.str.kept.length
      let trim := Config.slopePpb t.str.kept
      let trim := if trim < -200000 then -200000 else if 200000 < trim then 200000 else trim
      let was := t.flag F.tkStatStepped
      let u := (t.clrFlag F.tkStatStepped).setTime (((t.devTime : Int) + mean).toNat % 2 ^ 64)
      let u := if u.flag F.tkStatStepped then u.strCnt 26 else u.putFlag F.tkStatStepped was
      let u := (u.setFld F.tkStatOrigin 2).setFld F.tkAdjTrim (ofSigned 24 trim)
      let top : Int := 2 ^ 31 - 1
      let u := u.setFld F.strToffOffset (ofSigned 32 (if mean < -top then -top else if top < mean then top else mean))
      let u : State := { u with str := { u.str with kept := u.str.kept.map (fun p => (p.1 - mean, p.2)) } }
      u.noteSectionTime)

/-- TIME_EXCHANGE_TIMEOUT: no exchange kept for 10 s. -/
def execTimeExchangeTimeout (s : State) : Host.Outcome State Fault Refusal :=
  onTimer s .timeExchange (fun t => t.noteSectionTime)

/-! ### Vendor commands C8h and C9h (R392, R393) -/

/-- What an accepted C8h selector sets: 0 port, 1 managers, 2 role with epoch and deputies, 3 leave. -/
def State.strandSet (s : State) (sel : Nat) (v : List Nat) : State :=
  match sel with
  | 0 =>
    let t := ((s.setFld F.strEncapMode (v.getD 0 0)).setFld F.strEncapEtype (v.getD 1 0)).setFld F.strL3Port (v.getD 2 0)
    (((t.setFld F.strL3Vlanen (v.getD 3 0)).setFld F.strL3Pcp (v.getD 4 0)).setFld F.strL3Vid (v.getD 5 0)).saveSettings
  | 1 => ((s.setFld F.strMgrTop (v.getD 0 0)).setFld F.strMgrSect (v.getD 1 0)).sendJoin
  | 2 =>
    let role := v.getD 0 0
    let t := ((s.setFld F.strIdRole role).setFld F.strDeputyDep0 (if role = 1 then 0 else v.getD 2 0)).setFld F.strDeputyDep1
      (if role = 1 then 0 else v.getD 3 0)
    let t : State := { t with str := { t.str with epoch := v.getD 1 0 } }
    let t := if role = 3 then (t.setFld F.strMgrTop t.ownId).setFld F.strMgrSect t.ownId
      else if role = 2 then t.setFld F.strMgrSect t.ownId else t
    let t := if 2 ≤ role then (({ t with str := { t.str with loading := true } } : State).arm .registryLoad (nsSec 2)).startFleet else t
    t.roleChanged
  | _ => s.leave

/-- Whether the values of a selector lie in their ranges. -/
def strandValid (sel : Nat) (v : List Nat) : Bool :=
  match sel with
  | 0 => decide (v.getD 0 0 ≤ 1) && decide (0x0600 ≤ v.getD 1 0) && decide (v.getD 1 0 < 65536) && decide (v.getD 2 0 ≠ 0) &&
      decide (v.getD 2 0 < 65536) && decide (v.getD 3 0 ≤ 1) && decide (v.getD 4 0 ≤ 7) && decide (1 ≤ v.getD 5 0) && decide (v.getD 5 0 ≤ 0xFFE)
  | 1 => decide (1 ≤ v.getD 0 0) && decide (v.getD 0 0 ≤ 0x4000) && decide (1 ≤ v.getD 1 0) && decide (v.getD 1 0 ≤ 0x4000)
  | 2 => decide (1 ≤ v.getD 0 0) && decide (v.getD 0 0 ≤ 3)
  | 3 => decide (v.getD 0 0 = 1)
  | _ => false

/-- STRAND_CONFIGURE: C8h. `valid` says that no reserved byte of the block is set; `vals` holds its fields in the order of R392. -/
def execStrandConfigure (cmd sel : Nat) (valid : Bool) (vals : List Nat) (s : State) : Host.Outcome State Fault Refusal :=
  onVendor s cmd .installer (fun c =>
    s.superGate cmd <|
    if !valid || !(strandValid sel vals) then s.finish cmd St.badField
    else
      let t := (s.noteGated 0xC8 sel c.fn).strandSet sel vals
      let t : State := { t with str := { t.str with config := Tab.put sel vals t.str.config } }
      let t := t.cfsRequest 5 (.record 5 sel vals false) 2
      (t.event 0x0D04 sel t.str.epoch).finish cmd St.ok)

/-- STRAND_JOIN: C9h checks and stores a ticket, answers its ID and sends JOIN. -/
def execStrandJoin (cmd : Nat) (t : JoinTicket) (s : State) : Host.Outcome State Fault Refusal :=
  onVendor s cmd .operator (fun c =>
    s.superGate cmd <|
    if !(s.ticketOk t) || decide (t.sn ≠ ownSerial) then s.finish cmd St.badField
    else
      let u := s.noteGated 0xC9 t.id c.fn
      let u : State := { u with str := { u.str with ticket := some t } }
      ((u.cfsRequest 5 (.record 5 4 (ticketWords t) false) 9).sendJoin).finish cmd St.ok t.id)

/-- NEIGHBOUR_SOLICITATION: in mode 1 a solicitation for an address of the device is answered, and a neighbour's link address is learnt (R386). -/
def execNeighbourSolicitation (port target source mac : Nat) (advert : Bool) (s : State) : Host.Outcome State Fault Refusal :=
  let own := (Tab.getD 0 [] s.str.config).drop 6
  let t : State := { s with str := { s.str with neigh := Tab.put source mac s.str.neigh } }
  guarded (decide (port < 2) && s.strandUp) .unpowered
    (if s.str.encap < 2 ^ 31 then s
     else if advert then t
     else if own.getD port 0 = target then t.send (.frame source 0x88 [target]) else s)

end Sys2Proof.Machine
end

