-- ==== Sys2Proof/Machine/Reset.lean ====
section
/-! DEFINITION. Resets: of a function, of a port, of the whole device (R83 to R87, R462, R515), and the pins that bring them. -/

namespace Sys2Proof.Machine

/-! ### Functions (R83, R86) -/

/-- A function's translations: cached entries, page request groups and owed invalidations go with it. -/
def State.dropTranslations (s : State) (fn : Nat) : State :=
  let t := (s.hif.groups.filter (fun g => g.fn = fn)).foldl (fun t g => t.cancel (.pageRequest g.prg)) s
  { t with hif := { t.hif with groups := t.hif.groups.filter (fun g => g.fn ≠ fn), invals := t.hif.invals.filter (fun i => i.fn ≠ fn),
                               atc := t.hif.atc.filter (fun a => a.fn ≠ fn) } }

/-- A span twice a function's completion timeout (R86, R90). -/
def Func.quarantineNs (f : Func) : Nat := 2 * ((({ f with ctoDis := false } : Func).timeoutNs).getD 0)

/-- The non-posted requests of a function at its FLR: their completions will be dropped, and their tags stay in quarantine for twice the
timeout, or until the FLR ends (R86). -/
def State.orphanReqs (s : State) (fn atLeast : Nat) : State :=
  let span := Nat.max (s.func fn).quarantineNs atLeast
  (s.hif.reqs.filter (fun r => decide (r.fn = fn) && !r.orphan)).foldl (fun t r =>
    let t := (t.cancel (.completionTimeout r.port r.tag)).arm (.tagQuarantine r.port r.tag) span
    { t with hif := { t.hif with quar := insertNew (r.port, r.tag) t.hif.quar,
                                 reqs := t.hif.reqs.map (fun x => if x = r then { x with orphan := true } else x) } }) s

/-- A function's commands end, and its contexts and its configuration space take their reset values; the attachments of its
controller stay. Its pending bits and unsent messages go (R83, R121). -/
def State.resetFn (s : State) (fn : Nat) (why : FnReset) : State :=
  let t := ((s.endCommands fn).dropDownload fn).dropTranslations fn
  t.setFunc fn (t.takeSaved { Func.initial with nss := (s.func fn).nss, reset := why })

/-- What a reset that reaches a PF takes besides: its session, its EVW bank and its latches (R450, R513, R515). -/
def State.resetPf (s : State) (pf : Nat) : State :=
  let t := (s.endSession pf 3).resetBank pf
  { t with latches := t.latches.filter (fun l => decide (l.1 / 16 % 2 ≠ pf)) }

/-- The VFs of a PF torn down as if each had received an FLR (R77, R83). -/
def State.tearDown (s : State) (pf : Nat) : State :=
  (s.vfsOf pf).foldl (fun t v => ((t.orphanReqs v (nsMs 100)).resetFn v .teardown)) s

/-- Whether a function is in an FLR or a teardown. -/
def State.inReset (s : State) (fn : Nat) : Bool := decide ((s.func fn).reset ≠ .none)

/-- VF_ENABLE_CLEAR: the VFs are torn down; a second clear finds them so (R77). -/
def execVfEnableClear (pf : Nat) (s : State) : Host.Outcome State Fault Refusal :=
  guarded (isPf pf) .outOfRange
    (if !(s.func pf).vfEn then s
     else ((s.tearDown pf).updFunc pf (fun f => { f with vfEn := false })).arm (.flr pf) (nsMs 100))

/-- VF_ENABLE_SET: the VFs appear, freshly reset; during a teardown they answer retry status until it ends (R87). -/
def execVfEnableSet (pf : Nat) (s : State) : Host.Outcome State Fault Refusal :=
  guarded (isPf pf) .outOfRange (s.updFunc pf (fun f => { f with vfEn := true }))

/-- The bytes of a PF's share of the CMB store: first and number (R73). -/
def State.cmbShare (s : State) (pf : Nat) : Nat × Nat :=
  if pf = 0 then (0, s.hif.split * 2 ^ 30) else (s.hif.split * 2 ^ 30, (8 - s.hif.split) * 2 ^ 30)

/-- A PF's CMB share zeroed (R315). -/
def State.zeroCmb (s : State) (pf : Nat) : State :=
  let sh := s.cmbShare pf
  let out := fun (a : Nat) => !(covers sh.1 sh.2 a)
  { s with hif := { s.hif with cmb := s.hif.cmb.filter (fun p => out p.1), poisoned := s.hif.poisoned.filter out } }

/-- PF_FLR: contexts, staged data, CMB share and session of the PF go, and its VFs are torn down; a second FLR is absorbed (R83, R86, R87). -/
def execPfFlr (pf : Nat) (s : State) : Host.Outcome State Fault Refusal :=
  guarded (isPf pf) .outOfRange
    (if (s.func pf).reset = .flr then s
     else
       let t := ((s.tearDown pf).orphanReqs pf (nsMs 100)).resetFn pf .flr
       (((t.zeroCmb pf).resetPf pf).hifCnt pf 11).arm (.flr pf) (nsMs 100))

/-- Whether a VF is there: enabled, or still being torn down (R77, R87). -/
def State.vfThere (s : State) (vf : Nat) : Bool :=
  ((s.func (portOf vf)).vfEn && (s.vfsOf (portOf vf)).contains vf) || s.inReset vf

/-- VF_FLR: absorbed by a reset of the VF, or of its PF, that is in progress (R86, R87). -/
def execVfFlr (vf : Nat) (s : State) : Host.Outcome State Fault Refusal :=
  if vf < 2 ∨ 1026 ≤ vf then .fault .outOfRange
  else guarded (s.vfThere vf || s.inReset (portOf vf)) .noSuchObject
    (if s.inReset vf || s.inReset (portOf vf) then s
     else (((s.orphanReqs vf (nsMs 20)).resetFn vf .flr).hifCnt (portOf vf) 11).arm (.flr vf) (nsMs 20))

/-- FLR_COMPLETE: an FLR, or the teardown of a PF's VFs, has ended; the functions answer again (R86). -/
def execFlrComplete (fn : Nat) (s : State) : Host.Outcome State Fault Refusal :=
  let vfs := if isPf fn then (s.fns.map (·.1)).filter (fun i => decide (2 ≤ i) && decide (portOf i = fn) && decide ((s.func i).reset = .teardown))
    else []
  guarded (s.inReset fn || s.armed (.flr fn)) .noSuchObject
    ((fn :: vfs).foldl (fun t i => t.updFunc i (fun f => { f with reset := .none })) (s.cancel (.flr fn)))

/-! ### Ports (R83 to R85) -/

/-- A port reset: its PF and VFs take reset values, its requests are forgotten, its link goes down; what was an FLR is over (R83, R87). -/
def State.resetPort (s : State) (p : Nat) (fundamental : Bool) : State :=
  let fns := p :: (s.fns.map (·.1)).filter (fun i => decide (2 ≤ i) && decide (portOf i = p))
  let t := fns.foldl (fun t i => (t.resetFn i .none).cancel (.flr i)) s
  let t := (s.hif.reqs.filter (fun r => r.port = p)).foldl (fun t r => t.cancel (.completionTimeout p r.tag)) t
  let t := (s.hif.quar.filter (fun r => r.1 = p)).foldl (fun t r => t.cancel (.tagQuarantine p r.2)) t
  let t : State := { t with hif := { t.hif with reqs := t.hif.reqs.filter (fun r => r.port ≠ p), quar := t.hif.quar.filter (fun r => r.1 ≠ p),
                                                spdm0 := if p = 0 then 0 else t.hif.spdm0, spdm1 := if p = 0 then t.hif.spdm1 else 0 } }
  let x := t.port p
  ((t.setPort p { x with up := false, lpm := 0, retry := true, rom := if fundamental then !(t.flag F.hifRomCtlRomdis) else x.rom }).cancel
    (.l1Idle p)).resetPf p

/-- A link trained: width, rate, reversal (R67). -/
def State.linkUp (s : State) (p width rate : Nat) (rev : Bool) : State :=
  let x := s.port p
  (s.setPort p { x with up := true, width := width, rate := rate, reversed := rev, lpm := 0 }).arm (.l1Idle p) (nsUs 10)

/-- A hot reset's path: as a port fundamental reset, and training restarts at once. The link comes back as it was, at a rate up to the
ceiling (DESIGN CHOICE, log entry 29); LINK_TRAINING_FAIL says where it does not. -/
def State.hotReset (s : State) (p : Nat) : State :=
  let x := s.port p
  let t := (s.resetPort p false).addSat (F.hifPortStatRetrains p) 1
  if x.up then t.linkUp p x.width (Nat.min x.rate (s.fld (F.hifPortCtlMaxrate p))) x.reversed else t

/-- Whether a port takes no reset because it is already in a fundamental one. -/
def onPort (s : State) (p : Nat) (t : State) : Host.Outcome State Fault Refusal :=
  if 1 < p then .fault .outOfRange else if (s.port p).perst then .next s else .next t

/-- HOT_RESET_RECEIVED (R83, R85). -/
def execHotResetReceived (port : Nat) (s : State) : Host.Outcome State Fault Refusal := onPort s port ((s.hotReset port).hifCnt port 12)

/-- DL_DOWN: handled as a hot reset (R83). -/
def execDlDown (port : Nat) (s : State) : Host.Outcome State Fault Refusal := onPort s port ((s.hotReset port).hifCnt port 13)

/-- LINK_TRAINING_FAIL: the event, UP 0, and detection goes on (R67). -/
def execLinkTrainingFail (port : Nat) (s : State) : Host.Outcome State Fault Refusal :=
  onPort s port ((s.setPort port { s.port port with up := false, width := 0 }).eventFrom 0x0201 port)

/-- What a link error does beyond AER (R91, R96): the counters, the lane's error count, retraining. -/
def State.linkError (s : State) (p : Nat) (e : LinkError) (lane : Nat) : State :=
  let t := s.aer p e
  match e with
  | .receiver => (t.hifCnt p 15).addSat (F.hifLaneErrs p lane) 1
  | .replayTimer | .replayRollover => t.hifCnt p 14
  | .dlProtocol | .fcProtocol | .overflow | .malformed => t.addSat (F.hifPortStatRetrains p) 1
  | .poisoned => t.hifCnt p 5
  | .ecrc => t.hifCnt p 17
  | .uncorrectableInternal => (t.hotReset p).hifCnt p 12
  | _ => t

/-- LINK_LAYER_ERROR (R91). -/
def execLinkLayerError (port : Nat) (error : LinkError) (lane : Nat) (s : State) : Host.Outcome State Fault Refusal :=
  if 15 < lane then .fault .outOfRange else onPort s port (s.linkError port error lane)

/-- L1_IDLE_TIMER: 10 µs without a TLP; the port requests L1 (R370). -/
def execL1IdleTimer (port : Nat) (s : State) : Host.Outcome State Fault Refusal :=
  onTimer s (.l1Idle port) (fun t => (t.setPort port { t.port port with lpm := 1 }).send (.link port 1))

/-! ### The whole device (R83, R462, R515) -/

/-- The bits of a register that survive every reset: its fields of class K (R515). SUP_STAT.FAILED alone of them ends with a cold
reset (R360). -/
def keptMask (off : Nat) : Word :=
  (rowsAt off).foldl (fun w r => if r.cls = .k ∧ ¬ (off = Reg.supStat ∧ r.fld = F.supStatFailed) then w ||| r.fld.mask else w) 0

/-- The registers after a cold reset: fields of class K as they were, the others at their defaults. -/
def keptRegs (regs : List (Nat × Word)) : List (Nat × Word) :=
  (regs.map (fun p => (p.1, (p.2 &&& keptMask p.1) ||| (regDefault p.1 &&& ~~~ keptMask p.1)))).filter (fun p => decide (p.2 ≠ regDefault p.1))

/-- The registers whose age outlives a cold reset. -/
def keptStamp (off : Nat) : Bool := decide (Reg.supSwlog 0 ≤ off) && decide (off < Reg.supSwlog 8)

/-- Timers of the AON domain and of the store's controller. -/
def TimerId.survives : TimerId → Bool
  | .eventPersist => true
  | _ => false

/-- Admin state after a cold reset: what the store holds, with no command behind it. A lost segment's and the seed table's degradations are
found again by recovery (R179, R283). -/
def Admin.afterReset (a : Admin) : Admin :=
  { a with format := { a.format with cmd := none, group := none }, switched := false, c0flags := 0,
           degraded := a.degraded.filter (fun d => decide (d ≠ 1) && decide (d ≠ 6)) }

/-- The flash side after a cold reset: what the dies and the store hold (R227, R297). -/
def Fl.afterReset (f : Fl) : Fl :=
  { f with ops := [], resets := [], chans := [], touts := [], slow := [], misses := [], down := [], synd := [], levels := [], luns := 0, lunsAt := [], ranks := 0 }

/-- The lifeline after a cold reset: the journal, the checkpoints and the anchor; what was not committed is lost (R257, R280).
An anchor handed to the store's controller is still written (R430). -/
def Lif.afterReset (l : Lif) : Lif :=
  let next := match l.journal.getLast? with
    | some g => (match g.recs.getLast? with | some r => nextRecSeq r.1 | none => l.nextRec)
    | none => l.nextRec
  { l with nextRec := next, openGroup := none, waiting := [], closed := l.committed, running := [], touched := [], nextPart := 0 }

/-- A cold reset: on-die SRAM except AON SRAM, and all HBM, are wiped; the store, flash, the AON domain and class K fields stay. `wipe` takes AON
SRAM too, after the event records are persisted (R83, R462). -/
def State.coldReset (s : State) (cause : Nat) : State :=
  let s := (s.endSession 0 3).endSession 1 3
  let regs := keptRegs s.regs
  let t : State := { s with
    timers := s.timers.filter (fun t => t.id.survives), regs := regs, latches := [], stamps := s.stamps.filter (fun p => keptStamp p.1),
    pace := State.reset.pace, sec := { State.reset.sec with fails0 := s.sec.fails0, fails1 := s.sec.fails1 },
    hif := { Hif.initial with port0 := { Port.initial with perst := s.hif.port0.perst }, port1 := { Port.initial with perst := s.hif.port1.perst } },
    fns := (s.fns.map (fun p => (p.1, s.takeSaved { Func.initial with nss := p.2.nss }))).filter (fun p => decide (p.2 ≠ Func.initial)),
    q := Qen.initial, adm := s.adm.afterReset, map := State.reset.map, lif := s.lif.afterReset,
    dump := { s.dump with formed := false, running := none, ended := false, total := 0 }, buf := State.reset.buf,
    crs := { s.crs with bands := [], rmws := [], copies := [], victims := [], hostPlaced := 0, rclPlaced := 0, tensSince := s.clk.mono },
    fl := s.fl.afterReset, rd := State.reset.rd, hbm := { Hbm.initial with repaired := s.hbm.repaired, zeroing := if s.hif.port0.perst && s.hif.port1.perst then none else some s.clk.mono }, sup := Sup.initial,
    pwr := { Pwr.initial with temps := s.pwr.temps, since := s.clk.mono },
    str := { Strand.initial with ticket := s.str.ticket, config := s.str.config, windows := s.str.windows, epoch := s.str.epoch },
    fwu := { s.fwu with stage := [], owner := none, running := [], armed := none, run := none, fleet := [] },
    cfs := { s.cfs with dpBuf := [], queue := s.cfs.queue ++ s.sup.writes, suspends := 0,
                        heldErase := none, op := s.cfs.op.filter (fun j => !j.isErase) },
    pins := { s.pins with dynAddr := none, health := [], lowRails := [] } }
  let t : State := { t with
    hif := { t.hif with split := t.fld F.hifCmbSplitPf0gib },
    q := { t.q with vfio := t.fld F.qenQallotVfio, pf0io := t.fld F.qenQallotPf0io, res := t.fld F.qenSlotresRes,
                    cap := 16 * t.fld F.qenSlotresCap },
    hbm := { t.hbm with order := (t.word Reg.hbmOrder).toNat },
    str := { t.str with encap := (t.word Reg.strEncap).toNat, l3 := (t.word Reg.strL3).toNat } }
  ((t.setFld F.genLastrstCause cause).resetBank 0).resetBank 1

/-- COLD_RESET: both PERSTs asserted at once, or power applied (R83, R522). -/
def execColdReset (s : State) : Host.Outcome State Fault Refusal :=
  .next (s.coldReset (if s.hif.port0.perst && s.hif.port1.perst then 1 else 0))

/-- PERST_ASSERT: a port fundamental reset, or a cold reset with the other port's; during a dump it is held until step 7 (R83, R278). -/
def execPerstAssert (port : Nat) (s : State) : Host.Outcome State Fault Refusal :=
  if 1 < port then .fault .outOfRange
  else if (s.port port).perst then .next s
  else
    let t := s.setPort port { s.port port with perst := true }
    if s.dump.running.isSome then .next t
    else if (s.port (1 - port)).perst then .next (t.coldReset 1)
    else .next (t.resetPort port true)

/-- PERST_DEASSERT: the port's fundamental-reset sequence; its link trains at one of the widths of R67 and a rate up to the ceiling. The first
after a cold reset begins the start, and HBM is zeroed (R326, R495). With the link down and PERST high it is a retried detection that succeeds. The board releases PFAIL_N and has every rail in range before it (R489);
while a dump runs nothing comes of it (R278). -/
def execPerstDeassert (port width rate : Nat) (reversed : Bool) (s : State) : Host.Outcome State Fault Refusal :=
  if 1 < port ∨ ¬ [1, 8, 16].contains width ∨ rate = 0 ∨ s.fld (F.hifPortCtlMaxrate port) < rate then .fault .outOfRange
  else if (s.port port).up || s.dump.running.isSome then .next s
  else
    let s : State := { s with pins := { s.pins with pfail := false, lowRails := [] } }
    let zero := if s.hif.port0.perst && s.hif.port1.perst && !(s.flag F.hbmStatZerodone) then some s.clk.mono else s.hbm.zeroing
    .next ((({ s with hbm := { s.hbm with zeroing := zero } } : State).setPort port { s.port port with perst := false, retry := true, rom := !(s.flag F.hifRomCtlRomdis) }).linkUp port width rate reversed)

/-- The RW fields of class K as the settings record holds them (R516, R524). -/
def State.loadSettings (s : State) : State :=
  let k := fun (p : Nat × Word) => (p.1, (p.2 &&& ~~~ kMask p.1) ||| (regDefault p.1 &&& kMask p.1))
  let t : State := { s with regs := (s.regs.map k).filter (fun p => decide (p.2 ≠ regDefault p.1)) }
  t.savedRegs.foldl (fun u p => u.setWord p.1 ((u.word p.1 &&& ~~~ kMask p.1) ||| (p.2 &&& kMask p.1))) t

/-- A cold reset after a power-fail dump: writes of class K fields not yet programmed at the dump are lost (R278, R516). -/
def State.dumpReset (s : State) (cause : Nat) : State :=
  let t := s.coldReset cause
  if s.fld F.genCfgpendPend ≠ 0 then t.loadSettings.setFlag F.genCfgpendLostseen else t

/-- VDD_AON_APPLIED: the AON domain starts with both counts at 0 and its own flags clear; what it alone held is lost, the class K fields come
from the settings record, and only it runs until PFAIL_N is released (R49, R50, R489, R524). -/
def execVddAonApplied (s : State) : Host.Outcome State Fault Refusal :=
  let lost := s.stg.staged.length
  let t := s.coldReset 0
  let aon := [Reg.tkStat, Reg.tkAdj]
  let t : State := { t with
    regs := t.regs.filter (fun p => !(aon.contains p.1)), clk := State.reset.clk, timers := [], stamps := [],
    stg := { t.stg with staged := [], gated := [], lastPersist := 0, refused := 0 }, pins := { t.pins with pfail := true },
    hif := { t.hif with port0 := Port.initial, port1 := Port.initial },
    cfs := { t.cfs with op := none, heldErase := none, suspends := 0, queue := [] },
    lif := { t.lif with anchorNext := none }, sec := { t.sec with fails0 := [], fails1 := [] }, pwr := Pwr.initial,
    crs := { t.crs with retTimes := [], tensSince := 0,
                        courses := t.crs.courses.map (fun p => (p.1, { p.2 with closeTime := 0 })) } }
  let t := t.loadSettings
  let t := if s.fld F.genCfgpendPend ≠ 0 then t.setFlag F.genCfgpendLostseen else t
  let first := (s.stg.staged.head?.map (·.seq)).getD 0
  .next (if lost = 0 then t else ((t.addSat F.evwPersistLost lost).setFlag F.evwStatPflostseen).event 0x0003 lost first)

end Sys2Proof.Machine
end

