-- ==== Sys2Proof/Machine/HostLink.lean ====
section
/-! DEFINITION. The host link in traffic: bus mastering, host memory access and translation, completions and their timeouts, configuration
space (R70 to R82, R87 to R91). -/

namespace Sys2Proof.Machine

/-! ### Host memory access (R75, R78 to R81) -/

/-- Whether a host page is a CMB address of a function's PF, by the BAR4/5 value in force (R75). -/
def State.pageInCmb (s : State) (fn page : Nat) : Bool :=
  let p := portOf fn
  let b := (s.func p).bar4
  decide (b ≠ 0) && decide (b ≤ page * 4096) && decide (page * 4096 < b + 2 ^ 33)

/-- Whether a command's data lies in host memory for a stitch, and the slots of the stitch still to transfer with their pages. -/
def State.stitchPages (s : State) (k : Cmd) (x : Stitch) : List (Nat × Nat) :=
  ((List.range x.count).filter (fun i => decide (x.at_ ≤ i))).filterMap (fun i =>
    match (k.sqe.pages[x.first + i - k.sqe.slba]? : Option Nat) with
    | some p => if s.pageInCmb k.fn p then none else some (i, p)
    | none => none)

/-- The cached translation of a function's page. -/
def State.atcFind (s : State) (fn page : Nat) : Option AtcEntry :=
  s.hif.atc.find? (fun a => decide (a.fn = fn) && covers a.page a.pages page)

/-- A use of an entry: the least recently used of a set goes first when the set is full (R78). -/
def State.atcUse (s : State) (a : AtcEntry) : State := { s with hif := { s.hif with atc := s.hif.atc.erase a ++ [a] } }

/-- The set of an entry: 4,096 sets by the low bits of the page (DESIGN CHOICE, log entry 30). -/
def AtcEntry.setOf (a : AtcEntry) : Nat := a.page % 4096

/-- An entry added to its set of 16. -/
def State.atcFill (s : State) (a : AtcEntry) : State :=
  let rest := s.hif.atc.filter (fun b => !(decide (b.fn = a.fn) && decide (b.page = a.page)))
  let same := rest.filter (fun b => decide (b.setOf = a.setOf))
  let rest := if same.length < 16 then rest else match same with | o :: _ => rest.erase o | [] => rest
  { s with hif := { s.hif with atc := rest ++ [a] } }

/-- The access a command's data needs: write permission to deliver a read's, read permission to fetch a write's (R79). -/
def AtcEntry.grants (a : AtcEntry) (op : Nat) : Bool := if op = 0x02 then a.w else a.r

/-- A command that cannot reach its host memory: 04h, after its other stitches stop; a write leaves no partial data visible (R81, R89). -/
def State.dmaFail (s : State) (c : Nat) : State :=
  let gs := s.hif.groups.filter (fun g => (Tab.find g.stitch s.q.stitches).any (fun x => decide (x.cmd = c)))
  let t := gs.foldl (fun t g => t.cancel (.pageRequest g.prg)) s
  let t : State := { t with hif := { t.hif with groups := t.hif.groups.filter (fun g => !(gs.contains g)) } }
  if t.rd.reads.any (fun r => r.2.cmd = c) then (t.noteFailure c St.dataTransfer).dropStitches c
  else t.failWrite c St.dataTransfer

/-- Page requests outstanding, of one function or of the device. -/
def State.pagesOut (s : State) (fn : Option Nat) : Nat :=
  sumNat ((s.hif.groups.filter (fun g => g.sent && fn.all (fun f => decide (g.fn = f)))).map (fun g => g.pages.length))

/-- Groups whose page requests fit the limits are sent: 4,096 in all, and the function's allocation (R80). -/
def State.sendGroups (s : State) : State :=
  s.hif.groups.foldl (fun t g =>
    if g.sent || decide (4096 < t.pagesOut none + g.pages.length) || decide ((t.func g.fn).priAlloc < t.pagesOut (some g.fn) + g.pages.length)
    then t
    else
      let n := g.pages.length
      let t : State := { t with hif := { t.hif with groups := t.hif.groups.map (fun h => if h = g then { g with sent := true } else h) } }
      let t := ((List.range n).foldl (fun t i => t.send (.pageRequest g.fn g.prg (g.pages.getD i 0) (decide (i + 1 = n)))) t)
      (t.addSat (F.hifCntCount (portOf g.fn) 8) n).arm (.pageRequest g.prg) (nsMs (t.fld F.hifPriCtlTimeout))) s

/-- A translation fault at a slot of a stitch: with PRI it parks and a group of page requests goes out, at most four to a stitch; without
PRI, and at the fifth fault, the command fails (R80, R81). -/
def State.transFault (s : State) (id slot : Nat) (pages : List Nat) : State :=
  match Tab.find id s.q.stitches with
  | none => s
  | some x =>
    let fn := ((s.cmd x.cmd).map (·.fn)).getD 0
    if !(s.func fn).priEn || decide (4 ≤ x.groups) || decide ((s.func fn).priAlloc < pages.length) then s.dmaFail x.cmd
    else
      let t : State := { s with q := { s.q with stitches := Tab.put id { x with at_ := slot, groups := x.groups + 1 } s.q.stitches } }
      let g : PageGroup := { prg := t.hif.nextPrg, fn := fn, stitch := id, pages := pages, sent := false }
      let t : State := { t with hif := { t.hif with groups := t.hif.groups ++ [g], nextPrg := (t.hif.nextPrg + 1) % 512 } }
      (t.park id 0).sendGroups

/-- The data read, and the list fetch before a command's first stitch, that a stitch with its translations sends (R88). -/
def State.dmaReads (s : State) (k : Cmd) (x : Stitch) : State :=
  let t := if k.sqe.list && decide (x.first = k.sqe.slba) && decide (x.at_ = 0) then (s.request k.fn .listFetch x.cmd 4096).2 else s
  if k.sqe.opcode = 0x01 ∨ k.sqe.opcode = 0x05 then (t.request k.fn .dataRead x.cmd (4096 * (x.count - x.at_))).2 else t

/-- A stitch granted a resource reaches for its host memory: Bus Master Enable, then one translation request for every missing page, then
the data (R77 to R79). -/
def State.dmaStart (s : State) (id : Nat) : State :=
  match Tab.find id s.q.stitches with
  | none => s
  | some x =>
    match s.cmd x.cmd with
    | none => s
    | some k =>
      let ps := s.stitchPages k x
      if ps.isEmpty then s
      else if !(s.func k.fn).bme then s.park id 1
      else if !(s.func k.fn).atsEn then s.dmaReads k x
      else
        let missing := ps.filter (fun p => (s.atcFind k.fn p.2).isNone)
        let bad := ps.filter (fun p => (s.atcFind k.fn p.2).any (fun a => !(a.grants k.sqe.opcode)))
        if !missing.isEmpty then ((s.request k.fn .translation id (4096 * missing.length)).2).hifCnt (portOf k.fn) 6
        else match bad with
          | [] => (ps.foldl (fun t p => match t.atcFind k.fn p.2 with | some a => t.atcUse a | none => t) s).dmaReads k x
          | b :: _ => s.transFault id b.1 (ps.map (·.2))

/-- RESOURCE_GRANT: a freed compressor goes to the extent that has waited longest; any other resource goes by level and fetch number, and
the stitch reaches for its host memory (R79, R108, R339). -/
def execResourceGrant (res : Nat) (s : State) : Host.Outcome State Fault Refusal :=
  match res, s.cmpWaiting with
  | 2, i :: _ =>
    match Tab.find i s.buf.slots with
    | some b => .next ((s.cancel (.cmpBypass i)).placeExtent b.cmd b.nsid b.lba 0 none true ⟨false, [], []⟩)
    | none => .next (s.cancel (.cmpBypass i))
  | _, _ =>
    let g := s.grantResource res
    .next (match g.1 with | some id => g.2.dmaStart id | none => g.2)

/-- A live request of a port by its tag. -/
def State.reqAt (s : State) (port tag : Nat) : Option NpReq :=
  s.hif.reqs.find? (fun r => decide (r.port = port) && decide (r.tag = tag) && !r.orphan)

/-- A request answered: its tag returns to the pool, its timeout is cancelled. -/
def State.answered (s : State) (r : NpReq) : State :=
  ({ s with hif := { s.hif with reqs := s.hif.reqs.erase r } } : State).cancel (.completionTimeout r.port r.tag)

/-- A translation completion for a stitch: the pages with the access needed fill the cache; the first without it, or left out, is a
translation fault (R79, R80). -/
def State.translated (s : State) (r : NpReq) (pages : List TransPage) : State :=
  match Tab.find r.obj s.q.stitches with
  | none => s
  | some x =>
    match s.cmd x.cmd with
    | none => s
    | some k =>
      let op := k.sqe.opcode
      let entry := fun (p : TransPage) => ({ fn := r.fn, page := p.page, pages := p.pages, dest := p.dest, r := p.r, w := p.w, u := p.u } : AtcEntry)
      let t := (pages.filter (fun p => (entry p).grants op)).foldl (fun t p => t.atcFill (entry p)) s
      let ps := t.stitchPages k x
      match ps.filter (fun p => !((t.atcFind r.fn p.2).any (fun a => a.grants op))) with
      | [] => t.dmaReads k x
      | b :: rest => t.transFault r.obj b.1 (b.2 :: rest.map (·.2))

/-- TRANSLATION_COMPLETION (R79). -/
def execTranslationCompletion (port tag _stitch : Nat) (pages : List TransPage) (s : State) : Host.Outcome State Fault Refusal :=
  match s.reqAt port tag with
  | some r => guarded (decide (r.kind = .translation)) .noSuchObject (((s.answered r).tlpIn port).translated r pages)
  | none => .fault .noSuchObject

/-- PRG_RESPONSE: success lets the stitch resume; another outcome abandons it. A response to no outstanding group has lost to the timer
and is counted (R81). -/
def execPrgResponse (prg : Nat) (outcome : PrgOutcome) (s : State) : Host.Outcome State Fault Refusal :=
  match s.hif.groups.find? (fun g => decide (g.prg = prg) && g.sent) with
  | none => .next (s.addSat F.hifPriStatLate 1)
  | some g =>
    let t : State := ({ s with hif := { s.hif with groups := s.hif.groups.erase g } } : State).cancel (.pageRequest prg)
    let t := match outcome with
      | .success => t
      | _ => match Tab.find g.stitch t.q.stitches with
        | some x => (t.hifCnt (portOf g.fn) 9).dmaFail x.cmd
        | none => t.hifCnt (portOf g.fn) 9
    .next t.sendGroups

/-- PAGE_REQUEST_TIMEOUT: as Invalid Request, with PRIFAILSEEN (R81). -/
def execPageRequestTimeout (prg : Nat) (s : State) : Host.Outcome State Fault Refusal :=
  onTimer s (.pageRequest prg) (fun t =>
    match t.hif.groups.find? (fun g => decide (g.prg = prg)) with
    | none => t
    | some g =>
      let u : State := { t with hif := { t.hif with groups := t.hif.groups.erase g } }
      let u := (((u.setFlag F.hifStatPrifailseen).event 0x0202 g.fn prg).hifCnt (portOf g.fn) 9)
      (match Tab.find g.stitch u.q.stitches with
        | some x => u.dmaFail x.cmd
        | none => u).sendGroups)

/-- INVALIDATE_REQUEST: the entries of the range go at once, and a completion is owed (R82). -/
def execInvalidateRequest (fn itag page pages : Nat) (s : State) : Host.Outcome State Fault Refusal :=
  let t : State := { s with hif := { s.hif with
    atc := s.hif.atc.filter (fun a => !(decide (a.fn = fn) && overlaps a.page a.pages page pages)),
    invals := s.hif.invals ++ [⟨fn, itag⟩] } }
  guarded (decide (fn < 1026)) .outOfRange (t.hifCnt (portOf fn) 7)

/-- INVALIDATE_COMPLETION_SEND (R82). -/
def execInvalidateCompletionSend (fn itag : Nat) (s : State) : Host.Outcome State Fault Refusal :=
  let t : State := { s with hif := { s.hif with invals := s.hif.invals.erase ⟨fn, itag⟩ } }
  guarded (s.hif.invals.contains ⟨fn, itag⟩) .noSuchObject ((t.send (.invalidateCpl fn itag)).addWrap F.hifAtcInvcntCount 1)

/-! ### Completions and their timeouts (R88 to R90) -/

/-- An Unexpected Completion: dropped, counted, logged, reported (R90). -/
def State.unexpected (s : State) (p tag : Nat) (header : List Nat) (idx : Nat) : State :=
  let t := ((s.hifCnt p 4).addSat F.hifUxcplCntCount 1).setFlag F.hifStatLatecplseen
  let t := (List.range 14).foldl (fun t i => t.setFld (F.hifUxlogDw p i) (header.getD i 0)) t
  (t.aer p .unexpectedCompletion).eventFrom 0x0204 p tag (header.getD 2 0 / 65536 % 65536 + header.getD 1 0 / 65536 % 65536 * 65536) idx

/-- COMPLETION_RECEIVED: it serves the live request whose tag and lengths it fits; for a request of a function reset meanwhile it is dropped
and counted only; else it is an Unexpected Completion (R86, R89, R90). `requester` is the function index its routing ID names, FFFF_FFFFh if none. -/
def execCompletionReceived (port tag : Nat) (fits poisoned : Bool) (header : List Nat) (requester : Nat) (s : State) :
    Host.Outcome State Fault Refusal :=
  if 1 < port then .fault .outOfRange
  else
    let s := s.tlpIn port
    if s.hif.reqs.any (fun r => decide (r.port = port) && decide (r.tag = tag) && r.orphan) then .next (s.hifCnt port 4)
    else match s.reqAt port tag with
      | none => .next (s.unexpected port tag header requester)
      | some r =>
        if !fits then .next (s.unexpected port tag header requester)
        else match r.kind with
          | .sqFetch | .translation => .fault .noSuchObject
          | _ =>
            let t := s.answered r
            .next (if poisoned then ((t.hifCnt port 5).aer port .poisoned).dmaFail r.obj else t)

/-- HIF_CTOLOG.KIND of a request. -/
def NpReq.code (r : NpReq) : Nat := match r.kind with | .dataRead => 0 | .listFetch => 1 | .translation => 2 | .sqFetch => 3

/-- A timed-out request entered in HIF_CTO_LAST and at the front of its port's HIF_CTOLOG (R90). -/
def State.logTimeout (s : State) (r : NpReq) : State :=
  let p := r.port
  let t := (List.range 15).foldl (fun t i => t.setWord (Reg.hifCtolog p (15 - i)) (t.word (Reg.hifCtolog p (14 - i)))) s
  let t := (t.setFld (F.hifCtologValid p 0) 1).setFld (F.hifCtologKind p 0) r.code
  let t := (t.setFld (F.hifCtologFunc p 0) r.fn).setFld (F.hifCtologTag p 0) r.tag
  (t.setFld F.hifCtoLastPort p).setFld F.hifCtoLastFunc r.fn

/-- COMPLETION_TIMEOUT: the tag is quarantined for twice the timeout; a data request fails its command, and a fetch is made again after the
quarantine, the third in a row setting CSTS.CFS (R89, R90). -/
def execCompletionTimeout (port tag : Nat) (s : State) : Host.Outcome State Fault Refusal :=
  onTimer s (.completionTimeout port tag) (fun t =>
    match t.reqAt port tag with
    | none => t
    | some r =>
      let u := ((t.answered r).logTimeout r).setFlag F.hifStatCtoseen
      let u := (((u.aer port .completionTimeout).hifCnt port 3).event 0x0203 r.fn tag).arm (.tagQuarantine port tag) (u.func r.fn).quarantineNs
      let u : State := { u with hif := { u.hif with quar := insertNew (port, tag) u.hif.quar } }
      match r.kind with
      | .dataRead | .listFetch => u.dmaFail r.obj
      | .translation => (match Tab.find r.obj u.q.stitches with | some x => u.dmaFail x.cmd | none => u)
      | .sqFetch =>
        let n := ((Tab.find r.obj (u.func r.fn).sqs).map (·.tmouts)).getD 0 + 1
        let u := u.updFunc r.fn (fun f => { f with sqs := Tab.upd r.obj (fun q => { q with tmouts := n }) f.sqs })
        if n = 3 then u.setCfs [r.fn] else u)

/-- TAG_QUARANTINE_END: the tag returns to the pool, and a fetch that timed out under it is made again (R89, R90). -/
def execTagQuarantineEnd (port tag : Nat) (s : State) : Host.Outcome State Fault Refusal :=
  onTimer s (.tagQuarantine port tag) (fun t =>
    let left := t.hif.reqs.filter (fun r => !(decide (r.port = port) && decide (r.tag = tag) && r.orphan))
    let t : State := { t with hif := { t.hif with quar := t.hif.quar.erase (port, tag), reqs := left } }
    match t.q.fetches.find? (fun f => decide (f.tag = tag) && decide (portOf f.fn = port) && decide (f.got = none)) with
    | none => t
    | some f =>
      let (n, u) := t.request f.fn .sqFetch f.qid (64 * f.num)
      { u with q := { u.q with fetches := u.q.fetches.map (fun g => if g = f then { g with tag := n } else g) } })

/-! ### Bus mastering (R77) -/

/-- Bus Master Enable cleared: ready stitches that need host memory wait. -/
def State.bmeClear (s : State) (fn : Nat) : State :=
  let t := s.updFunc fn (fun f => { f with bme := false })
  (t.q.stitches.filter (fun p => decide (p.2.phase = .ready) && (t.cmd p.2.cmd).any (fun k => decide (k.fn = fn) && !(t.stitchPages k p.2).isEmpty))).foldl
    (fun t p => t.park p.1 1) t

/-- Bus Master Enable set: the waiting stitches resume in their order, and held completions and messages go out. -/
def State.bmeSet (s : State) (fn : Nat) : State :=
  let t := s.updFunc fn (fun f => { f with bme := true })
  let t := (t.q.stitches.filter (fun p => decide (p.2.phase = .parked 1) && (t.cmd p.2.cmd).any (fun k => decide (k.fn = fn)))).foldl
    (fun t p => t.resume p.1 p.2) t
  let t := ((t.func fn).cqs.map (·.1)).foldl (fun t q => State.postHeld (((Tab.find q (t.func fn).cqs).map (·.held.length)).getD 0) fn q t) t
  let vs := (t.func fn).pend.filter (fun v => (t.func fn).unmasked.contains v)
  if (t.func fn).msixEn && !(t.func fn).msixMaskAll then
    vs.foldl (fun t v => (t.updFunc fn (fun f => { f with pend := f.pend.filter (· ≠ v) })).raise fn v) t
  else t

/-- BUS_MASTER_ENABLE_CLEAR (R77). -/
def execBusMasterEnableClear (fn : Nat) (s : State) : Host.Outcome State Fault Refusal := guarded (decide (fn < 1026)) .outOfRange (s.bmeClear fn)

/-- BUS_MASTER_ENABLE_SET (R77). -/
def execBusMasterEnableSet (fn : Nat) (s : State) : Host.Outcome State Fault Refusal := guarded (decide (fn < 1026)) .outOfRange (s.bmeSet fn)

/-- ATC_FLUSH's effect: every cached translation goes; stitches translate again (R95). -/
def State.atcFlush (s : State) : State := { s with hif := { s.hif with atc := [] } }

/-! ### Configuration space (R70, R71, R76, R87)

Registers of the header carry their dword numbers. The spec gives the capabilities no places, so the model numbers their registers itself
(DESIGN CHOICE, log entry 31): 40h Device Control, 41h Device Control 2, 42h MSI-X control, 43h ATS control, 44h PRI control, 45h
page request allocation, 46h SR-IOV control, 47h NumVFs, 48h and 4Eh AER uncorrectable and correctable status, 49h and 4Ah VF BAR0/1, 4Bh
InitialVFs and TotalVFs, 4Ch First VF Offset and VF Stride, 4Dh VF Device ID. -/

/-- Size of a BAR in bytes as it stands for a PF: 0 where it is not implemented (R72 to R74). -/
def State.barSize (s : State) (fn bar : Nat) : Nat :=
  if 2 ≤ fn then 0
  else match bar with
    | 0 => 2 ^ 20
    | 2 => 2 ^ 17
    | 4 => if (s.cmbShare fn).2 = 0 then 0 else 2 ^ 33
    | _ => if (s.port fn).rom then 2 ^ 18 else 0

/-- The dead state (R419). -/
def State.dead (s : State) : Bool := s.flag F.genStateDead

/-- A BAR's value with a dword written: bits below the size read 0. -/
def barPut (size old : Nat) (high : Bool) (v : Nat) : Nat :=
  if size = 0 then 0
  else
    let x := if high then old % 2 ^ 32 + v * 2 ^ 32 else old / 2 ^ 32 * 2 ^ 32 + v
    x / size * size

/-- The AER status bit of an error: whether it is correctable, and its bit in that status register (PCI Express Base 7.0). -/
def aerBit : LinkError → Bool × Nat
  | .receiver => (true, 0)
  | .badTlp => (true, 6)
  | .badDllp => (true, 7)
  | .replayRollover => (true, 8)
  | .replayTimer => (true, 12)
  | .advisory => (true, 13)
  | .correctedInternal => (true, 14)
  | .dlProtocol => (false, 4)
  | .poisoned => (false, 12)
  | .fcProtocol => (false, 13)
  | .completionTimeout => (false, 14)
  | .completerAbort => (false, 15)
  | .unexpectedCompletion => (false, 16)
  | .overflow => (false, 17)
  | .malformed => (false, 18)
  | .ecrc => (false, 19)
  | .unsupported => (false, 20)
  | .uncorrectableInternal => (false, 22)

/-- Errors reported on a port and not cleared. -/
def State.aerOf (s : State) (p : Nat) : List LinkError := if p = 0 then s.hif.aer0 else s.hif.aer1

/-- An AER status register as it reads. -/
def State.aerStatus (s : State) (p : Nat) (cor : Bool) : Nat :=
  sumNat (((s.aerOf p).filter (fun e => (aerBit e).1 = cor)).map (fun e => 2 ^ (aerBit e).2))

/-- The bits written with 1 of an AER status register cleared. -/
def State.aerClear (s : State) (p : Nat) (cor : Bool) (v : Nat) : State :=
  let left := (s.aerOf p).filter (fun e => !(decide ((aerBit e).1 = cor) && v.testBit (aerBit e).2))
  if p = 0 then { s with hif := { s.hif with aer0 := left } } else { s with hif := { s.hif with aer1 := left } }

/-- ATS or PRI disabled: parked stitches of the function are abandoned (R81). -/
def State.priOff (s : State) (fn : Nat) : State :=
  let cs := (s.hif.groups.filter (fun g => g.fn = fn)).filterMap (fun g => (Tab.find g.stitch s.q.stitches).map (·.cmd))
  cs.foldl (fun t c => t.dmaFail c) s

/-- A configuration write's effect. -/
def State.configWrite (s : State) (fn reg v : Nat) : State :=
  let f := s.func fn
  let bar := fun (b : Nat) => if s.dead then 0 else s.barSize fn b
  match reg with
  | 0x01 =>
    let t := s.setFunc fn { f with mse := v.testBit 1 }
    if v.testBit 2 then (if f.bme then t else t.bmeSet fn) else (if f.bme then t.bmeClear fn else t)
  | 0x04 | 0x05 => s.setFunc fn { f with bar0 := barPut (bar 0) f.bar0 (reg = 5) v }
  | 0x06 | 0x07 => s.setFunc fn { f with bar2 := barPut (s.barSize fn 2) f.bar2 (reg = 7) v }
  | 0x08 | 0x09 => s.setFunc fn { f with bar4 := barPut (bar 4) f.bar4 (reg = 9) v }
  | 0x0C => s.setFunc fn { f with romBar := if bar 6 = 0 then 0 else v / 2 ^ 18 * 2 ^ 18 + v % 2 }
  | 0x40 => s.setFunc fn { f with roEn := v.testBit 4, mps := Nat.min 512 (128 * 2 ^ (v / 32 % 8)), mrrs := Nat.min 4096 (128 * 2 ^ (v / 4096 % 8)) }
  | 0x41 => s.setFunc fn { f with cto := v % 16, ctoDis := v.testBit 4 }
  | 0x42 =>
    let t := s.setFunc fn { f with msixEn := v.testBit 31, msixMaskAll := v.testBit 30 }
    if v.testBit 31 && !(v.testBit 30) && f.bme then
      (f.pend.filter (fun p => f.unmasked.contains p)).foldl (fun t p => (t.updFunc fn (fun f => { f with pend := f.pend.filter (· ≠ p) })).raise fn p) t
    else t
  | 0x43 => let t := s.setFunc fn { f with atsEn := v.testBit 31 }; if v.testBit 31 then t else (t.priOff fn).dropTranslations fn
  | 0x44 => let t := s.setFunc fn { f with priEn := v.testBit 0 && f.atsEn }; if v.testBit 0 then t else t.priOff fn
  | 0x45 => s.setFunc fn { f with priAlloc := v }
  | 0x46 => if isPf fn then s.setFunc fn { f with vfMse := v.testBit 3 } else s
  | 0x47 => if isPf fn && !f.vfEn then s.setFunc fn { f with numVfs := Nat.min 512 (v % 65536) } else s
  | 0x48 => s.aerClear (portOf fn) false v
  | 0x4E => s.aerClear (portOf fn) true v
  | 0x49 | 0x4A => if isPf fn then s.setFunc fn { f with vfBar := barPut (2 ^ 16) f.vfBar (reg = 0x4A) v } else s
  | _ => s.setFunc fn { f with cfg := Tab.put reg v f.cfg }

/-- What a configuration register reads (R71). -/
def State.configValue (s : State) (fn reg : Nat) : Nat :=
  let f := s.func fn
  match reg with
  | 0x00 => if isPf fn then 0x75121F9E else 0xFFFFFFFF
  | 0x01 => 2 * b2n f.mse + 4 * b2n f.bme
  | 0x02 => 0x01080200 + Config.calDword 1 / 2 ^ 24 % 2 ^ 8
  | 0x04 => f.bar0 % 2 ^ 32 + (if isPf fn && !s.dead then 4 else 0)
  | 0x05 => f.bar0 / 2 ^ 32
  | 0x06 => f.bar2 % 2 ^ 32 + (if isPf fn then 4 else 0)
  | 0x07 => f.bar2 / 2 ^ 32
  | 0x08 => f.bar4 % 2 ^ 32 + (if isPf fn && !s.dead && decide ((s.cmbShare fn).2 ≠ 0) then 12 else 0)
  | 0x09 => f.bar4 / 2 ^ 32
  | 0x0B => 0x00011F9E
  | 0x0C => f.romBar
  | 0x40 => 16 * b2n f.roEn + 32 * Nat.log2 (f.mps / 128) + 4096 * Nat.log2 (f.mrrs / 128)
  | 0x41 => f.cto + 16 * b2n f.ctoDis
  | 0x42 => 2 ^ 31 * b2n f.msixEn + 2 ^ 30 * b2n f.msixMaskAll + 65536 * (if isPf fn then 2047 else 63)
  | 0x43 => 2 ^ 31 * b2n f.atsEn
  | 0x44 => b2n f.priEn
  | 0x45 => f.priAlloc
  | 0x46 => b2n f.vfEn + 8 * b2n f.vfMse
  | 0x47 => f.numVfs
  | 0x48 => s.aerStatus (portOf fn) false
  | 0x4E => s.aerStatus (portOf fn) true
  | 0x49 => f.vfBar % 2 ^ 32 + (if isPf fn then 4 else 0)
  | 0x4A => f.vfBar / 2 ^ 32
  | 0x4B => if isPf fn && !s.dead then 512 + 65536 * 512 else 0
  | 0x4C => if isPf fn then 1 + 65536 else 0
  | 0x4D => if isPf fn then 65536 * 0x7513 else 0
  | _ => Tab.getD reg (Config.pageDword 0x100 (b2n (isPf fn)) reg) f.cfg

/-- Whether configuration requests to a function get retry status for sure: a reset in progress, a start not far enough, TEST_MODE (R84, R87,
R493). -/
def State.mustRetry (s : State) (fn : Nat) : Bool :=
  s.inReset fn || (decide (2 ≤ fn) && s.inReset (portOf fn)) || s.pins.test || (!s.started && !s.dead && !(s.func 0).cfs)

/-- The shape of a configuration request: the link must be up; a VF that is not enabled is not there; retry status while it must, and, after a
port reset, for a time the spec only bounds (R84, R85), here a free value's. -/
def onConfig (s : State) (fn tag : Nat) (k : State → State) : Host.Outcome State Fault Refusal :=
  let p := portOf fn
  if 1026 ≤ fn then .fault .outOfRange
  else if !(s.port p).up then .fault .unpowered
  else if !(isPf fn) && !(s.vfThere fn) then
    .next ((((s.send (.unsupported p tag)).hifCnt p 2).tlpIn p).aer p .unsupported)
  else
    let s := s.tlpIn p
    if s.mustRetry fn then .next ((s.send (.retry p tag)).hifCnt p 16)
    else if (s.port p).retry then
      let (n, t) := s.draw
      if n % 2 = 1 then .next ((t.send (.retry p tag)).hifCnt p 16)
      else .next (k (t.setPort p { t.port p with retry := false }))
    else .next (k s)

/-- CONFIG_READ (R87). -/
def execConfigRead (fn tag reg : Nat) (s : State) : Host.Outcome State Fault Refusal :=
  onConfig s fn tag (fun t => t.send (.readCpl (portOf fn) tag [t.configValue fn reg]))

/-- CONFIG_WRITE (R76). -/
def execConfigWrite (fn tag reg : Nat) (val : Word) (s : State) : Host.Outcome State Fault Refusal :=
  onConfig s fn tag (fun t => (t.configWrite fn reg val.toNat).send (.readCpl (portOf fn) tag []))

end Sys2Proof.Machine
end

