-- ==== Sys2Proof/Machine/Doe.lean ====
section
/-! DEFINITION. Attestation over DOE: the SPDM requests a PF's mailbox answers (R92, R93).

SPDM's own numbers are taken from SPDM 1.2, which the spec names without giving them (PRESUMED, log entry 32): response codes, error
codes and the order GET_VERSION, GET_CAPABILITIES, NEGOTIATE_ALGORITHMS in which a connection is set up. -/

namespace Sys2Proof.Machine

/-- How far a PF's connection has been set up: 0 nothing, 1 version, 2 capabilities, 3 algorithms. -/
def State.spdmAt (s : State) (pf : Nat) : Nat := if pf = 0 then s.hif.spdm0 else s.hif.spdm1

/-- A connection's progress noted. -/
def State.spdmSet (s : State) (pf n : Nat) : State :=
  if pf = 0 then { s with hif := { s.hif with spdm0 := n } } else { s with hif := { s.hif with spdm1 := n } }

/-- A response sent and counted (HIF_DOE_STAT). -/
def State.spdmAnswer (s : State) (pf code : Nat) (data : List Nat) : State := (s.send (.spdm pf code data)).addWrap (F.hifDoeStatServed pf) 1

/-- ERROR: 01h invalid request, 04h unexpected request, 07h unsupported request. -/
def State.spdmError (s : State) (pf e : Nat) : State := s.spdmAnswer pf 0x7F [e]

/-- A request that needs the connection set up to a point. -/
def onSpdm (s : State) (pf need : Nat) (t : State) : Host.Outcome State Fault Refusal :=
  if 1 < pf then .fault .outOfRange else if s.spdmAt pf < need then .next (s.spdmError pf 4) else .next t

/-- GET_VERSION: SPDM 1.2; the connection starts afresh. -/
def execGetVersion (pf : Nat) (s : State) : Host.Outcome State Fault Refusal :=
  onSpdm s pf 0 ((s.spdmSet pf 1).spdmAnswer pf 0x04 [0x1200])

/-- GET_CAPABILITIES: CTExponent 15 (R92). -/
def execGetCapabilities (pf : Nat) (s : State) : Host.Outcome State Fault Refusal :=
  onSpdm s pf 1 ((s.spdmSet pf 2).spdmAnswer pf 0x61 [15])

/-- The algorithm bits of SPDM 1.2: ECDSA P-384 and SHA-384. -/
def ecdsaP384 : Nat := 0x80
/-- SHA-384 as a hash bit. -/
def sha384Bit : Nat := 0x02

/-- NEGOTIATE_ALGORITHMS: ECDSA P-384 and SHA-384, or an error where the requester offers neither (R92). -/
def execNegotiateAlgorithms (pf asym hash : Nat) (s : State) : Host.Outcome State Fault Refusal :=
  onSpdm s pf 2
    (if asym.testBit 7 && hash.testBit 1 then (s.spdmSet pf 3).spdmAnswer pf 0x63 [ecdsaP384, sha384Bit] else s.spdmError pf 1)

/-- Bytes of the identity chain: 4 of length, 48 of root hash, then the certificates (SPDM 1.2, log entry 32). -/
def certLen : Nat := 52 + Config.certBytes

/-- The digest of the chain of slot 0. -/
def chainDigest : Nat := Config.sha384 ((List.range certLen).map Config.certByte)

/-- GET_DIGESTS: slot 0 alone holds a chain (R92). -/
def execGetDigests (pf : Nat) (s : State) : Host.Outcome State Fault Refusal := onSpdm s pf 3 (s.spdmAnswer pf 0x01 [1, chainDigest])

/-- GET_CERTIFICATE: part of the chain of slot 0; the other slots are empty (R92). -/
def execGetCertificate (pf slot offset length : Nat) (s : State) : Host.Outcome State Fault Refusal :=
  onSpdm s pf 3
    (if slot ≠ 0 ∨ certLen ≤ offset then s.spdmError pf 1
     else
       let n := Nat.min length (certLen - offset)
       s.spdmAnswer pf 0x02 ([n, certLen - offset - n] ++ (List.range n).map (fun i => Config.certByte (offset + i))))

/-- CHALLENGE: a signed answer over the nonce and the digest of the chain (R92). -/
def execChallenge (pf slot nonce : Nat) (s : State) : Host.Outcome State Fault Refusal :=
  onSpdm s pf 3 (if slot ≠ 0 then s.spdmError pf 1 else s.spdmAnswer pf 0x03 [chainDigest, Config.deviceSign (Config.sha384 [nonce, chainDigest])])

/-- The digest of the parts of the committed image with some IDs. -/
def State.partsDigest (s : State) (ids : List Nat) : Nat :=
  Config.sha384 ((s.committedImage.filter (fun p => ids.contains p.id)).map (·.digest))

/-- The digest of the configuration area: the live records of measured kinds in order of kind and index (R439). -/
def State.configDigest (s : State) : Nat :=
  Config.sha384 (((s.records.filter (fun r => [1, 2, 5].contains (r.1 / 256))).flatMap (fun r => r.2.payload)) ++
    s.savedRegs.flatMap (fun p => [p.1, p.2.toNat]))

/-- Measurement block `i` of R93. -/
def State.measurement (s : State) (i : Nat) : List Nat :=
  match i with
  | 1 => [s.partsDigest [1]]
  | 2 => [s.partsDigest [2]]
  | 3 => [s.partsDigest [3]]
  | 4 => [s.partsDigest [4]]
  | 5 => [s.partsDigest [5]]
  | 6 => (List.range 12).map (fun k => s.svnOf (k + 1))
  | 7 => [s.lc]
  | _ => [s.configDigest]

/-- GET_MEASUREMENTS: one block, all of them with FFh, or their number with 0; signed on request (R93). -/
def execGetMeasurements (pf index nonce : Nat) (signed : Bool) (s : State) : Host.Outcome State Fault Refusal :=
  let blocks := if index = 0 then some [8]
    else if index = 0xFF then some ((List.range 8).flatMap (fun i => (i + 1) :: s.measurement (i + 1)))
    else if index ≤ 8 then some (index :: s.measurement index) else none
  onSpdm s pf 3 (match blocks with
    | none => s.spdmError pf 1
    | some b => s.spdmAnswer pf 0x60 (b ++ (if signed then [Config.deviceSign (Config.sha384 (nonce :: b))] else [])))

/-- SPDM_UNSUPPORTED_REQUEST: ERROR with UnsupportedRequest and the request's code (R92). -/
def execSpdmUnsupportedRequest (pf code : Nat) (s : State) : Host.Outcome State Fault Refusal :=
  onSpdm s pf 0 (s.spdmAnswer pf 0x7F [7, code])

end Sys2Proof.Machine
end

