-- ==== Sys2Proof/Machine/Power.lean ====
section
/-! DEFINITION. Power states and patrol: entry to PS3 and PS4 and its abort points, exit, APST, the patrol sequencer, temperatures
(R364 to R384, R145). -/

namespace Sys2Proof.Machine

/-- A counter of R381 raised; it wraps. -/
def State.pwrCnt (s : State) (n : Nat) : State := s.addWrap (F.pwrCntCount n) 1

/-- A counter of R384 raised; it wraps. -/
def State.patCnt (s : State) (n : Nat) (k : Nat := 1) : State := s.addWrap (F.patCntCount n) k

/-! ### Temperatures (R145, R375) -/

/-- A temperature in kelvin, from °C in two's complement. -/
def kelvin (c : Nat) : Int := toSigned 8 c + 273

/-- WCTEMP in kelvin: 378 on grade A, 383 on grade B (R134). -/
def wctemp : Int := if gradeB then 383 else 378

/-- A threshold of feature 04h: TMPSEL and THSEL select it; unset, the composite's upper one is WCTEMP and the others never trip. -/
def threshold (f : Func) (sel : Nat) (under : Bool) : Int :=
  match Tab.find (0x04 + 256 * (sel + 16 * b2n under)) f.feats with
  | some v => (v % 65536 : Nat)
  | none => if under then 0 else if sel = 0 then wctemp else 65535

/-- The sensors, 0 for the composite, that stand past a threshold of any controller. -/
def State.pastThreshold (s : State) (temps : List Nat) : List Nat :=
  (List.range 14).filter (fun i =>
    let t := kelvin (if i = 0 then (hottest temps).1 else temps.getD (i - 1) 0)
    (decide (i = 0) && decide (wctemp ≤ t)) ||
      s.fns.any (fun p => p.2.rdy && (decide (threshold p.2 i false ≤ t) || decide (t ≤ threshold p.2 i true))))

/-- The SMART temperature warning brought up to date, with its asynchronous event. -/
def State.noteTemps (s : State) : State :=
  if (s.pastThreshold s.pwr.temps).isEmpty then s.critClear 1 else s.critWarn 1

/-- TEMPERATURE_THRESHOLD_CROSS (R145). -/
def execTemperatureThresholdCross (sensor temp : Nat) (s : State) : Host.Outcome State Fault Refusal :=
  guarded (decide (1 ≤ sensor) && decide (sensor ≤ 13) && decide (s.ps ≤ 2)) .outOfRange
    (s.setTemp (sensor - 1) temp).noteTemps

/-- Samples of the sensors and of HOLD_OK (R373): PAT_TEMP, PAT_HOLD. -/
def State.sample (s : State) (temps : List Nat) (hold : Bool) : State :=
  let h := hottest temps
  let t := (List.range 13).foldl (fun t i => t.setTemp i (temps.getD i 0)) s
  let t := (({ t with pwr := { t.pwr with lowLast := !hold } } : State).setFld F.patTempHighest h.1).setFld F.patTempSensor h.2
  let t := (t.addSat F.patHoldSamples 1).putFlag F.lifStatHoldok hold
  if hold then t else ((t.addSat F.patHoldLow 1).setFlag F.patStatHoldseen).patCnt 8

/-! ### The health copy (R497) -/

/-- DCC and DQ training of a skein's channels, at its Tj (R308, R369, R373). -/
def State.dqTrained (s : State) (k : Nat) : State := s.setFld (F.sknTempTraintj k) (s.pwr.temps.getD (k + 1) 0)

/-- The health copy as the host-admin cores publish it: critical warning, composite temperature in °C, Percentage Used, ready, failed, link
state of the ports. -/
def State.publish (s : State) : State :=
  let h := [s.adm.critWarn, (hottest s.pwr.temps).1, s.pctUsed, b2n s.started,
            b2n (s.flag F.genStateDead || s.fns.any (fun p => p.2.cfs)), b2n s.hif.port0.up + 2 * b2n s.hif.port1.up]
  { s with pins := { s.pins with health := h } }

/-! ### Entry (R366 to R368, R371, R374) -/

/-- What postpones entry: a supervisor-owned operation or segment recovery, an activation due within 1 s, read-only entry or a die's removal being
processed, or the refresh a patrol escalation queued (R366, R375). -/
def State.entryWaits (s : State) : Bool :=
  decide (s.adm.format.state = 1) || s.sanitizing || !s.map.stalled.isEmpty || s.fwu.run.isSome || s.sec.lcRun.isSome || s.sup.yielded.isSome ||
    s.fwu.armed.any (fun a => decide (a < s.devTime + 1000000000)) || s.armed .readOnlyStall || s.crs.victims.any (fun v => decide (v.reason = 10)) ||
    (s.pwr.back.isSome && (s.crs.victims.any (fun v => decide (v.reason = 4)) || s.crs.copies.any (fun c => decide (c.2.reason = 4))))

/-- An entry attempt's record at the front of PWR_ENTHIST. -/
def State.logEntry (s : State) (target reached cause : Nat) : State :=
  let t := s.shiftLog Reg.pwrEnthist 8
  let t := ((t.setFld (F.pwrEnthistValid 0) 1).setFld (F.pwrEnthistTarget 0) target).setFld (F.pwrEnthistReached 0) reached
  (t.setFld (F.pwrEnthistCause 0) cause).stamp (Reg.pwrEnthist 0)

/-- The supervisor watched again (R347, R358, R368). -/
def State.watch (s : State) : State :=
  ((s.arm .watchdog (nsMs (s.fld F.supDiagWdms))).arm .standbyTest (nsSec (s.fld F.supStestPeriod))).arm .snapshot (nsMs 50)

/-- Entry abandoned for a cause: a PWR_WAKE code, 1000b drain limit, 1001b switch-over (R368). -/
def State.abandonEntry (s : State) (cause : Nat) : State :=
  match s.pwr.entry with
  | none => s
  | some e =>
    let t := (s.logEntry e.1 (s.fld F.pwrStatStep) cause).cancel .drain
    let t : State := { t with pwr := { t.pwr with entry := none, saved := none }, q := { t.q with fetchStop := false } }
    let t := ((t.setFld F.pwrStatStep 0).setFlag F.pwrStatAbortseen).clrFlag F.pwrSaveValid
    let t := t.clrFlag F.hbmStatSref
    let t := if s.fld F.pwrStatStep ≤ 2 then t else t.watch
    if cause = 8 then (t.setFlag F.pwrStatDrainseen).pwrCnt 6 else if cause = 9 then t.pwrCnt 7 else t.pwrCnt 5

/-- DRAIN_LIMIT (R367). -/
def execDrainLimit (s : State) : Host.Outcome State Fault Refusal := onTimer s .drain (fun t => t.abandonEntry 8)

/-- Whether P2 has ended: no command but Asynchronous Event Requests, nothing buffered, no copy in flight, every group committed. -/
def State.drainedAll (s : State) : Bool :=
  s.drainedFor none && s.buf.slots.all (fun b => b.2.applied) && s.crs.rmws.isEmpty && s.crs.copies.isEmpty && s.lif.openGroup.isNone &&
    s.lif.waiting.isEmpty

/-- The blocks from which a skein's canaries of an age bin are taken: longest programmed first, one to a channel, at most 16 (R374). -/
def State.canaryBlocks (s : State) (k bin : Nat) : List Nat :=
  let old := fun (b : Nat) => ((s.course (s.blk b).course).map (·.closeTime)).getD 0
  let mine := (s.fl.blks.filter (fun p => decide (p.1 / 4194304 = k) && decide (p.2.state = .closed) &&
    (s.course p.2.course).any (fun c => c.closed && !c.slc) && decide (s.ageBin p.1 = bin))).map (·.1)
  let sorted := mine.mergeSort (fun a b => decide (old a < old b) || (decide (old a = old b) && decide (a ≤ b)))
  (sorted.foldl (fun (l : List Nat) b => if l.any (fun x => decide (x / 65536 = b / 65536)) then l else l ++ [b]) []).take 16

/-- The canary table chosen at P3: the upper page of the middle wordline of each block, with the weight just read as its baseline (R374). -/
def State.chooseCanaries (s : State) (base : List Nat) : State :=
  let all := (List.range 8).flatMap (fun k => (List.range 5).flatMap (fun b => (s.canaryBlocks k b).map (fun x => (x, b))))
  let page := 3 * (s.fl.geom.wls / 2) + 2
  let cs := (List.range all.length).map (fun i =>
    let x := all.getD i (0, 0)
    ({ psa := x.1 * 2 ^ 15 + 4 * page, bin := x.2, base := base.getD i (Config.freeNat (s.free + i)) } : Canary))
  let t : State := { s with pwr := { s.pwr with canaries := cs }, free := s.free + all.length }
  let t := (List.range 5).foldl (fun t b =>
    let m := cs.filter (fun c => decide (c.bin = b))
    t.putSat (F.patBinBase b) (sumNat (m.map (·.base)) / Nat.max 1 m.length)) t
  (((t.setFlag F.patCanaryValid).setFld F.patCanaryEntries cs.length).stamp Reg.patCanary).patCnt 9

/-- The saved register set (R371). -/
def State.savedSet (s : State) (target : Nat) : SavedSet :=
  { target := target, lastOp := s.ps, dlys := (List.range 128).map (fun p => s.word (Reg.hbmPcDly p)),
    rates := (List.range 512).map (fun c => (s.chan c).rate), zq := (List.range 8).map (fun k => s.word (Reg.sknZq k)),
    req := s.fld F.paceVstatReq, slotMs := s.fld F.pwrPs2Slotms, ltr := (s.word Reg.pwrLtr).toNat }

/-- P3: the saved set and the health copy; for PS4 also the canaries, the save image with the translation cache emptied, and the notice to the section manager;
the watchdog pauses (R367, R371, R372). -/
def State.entrySave (s : State) (target : Nat) (base : List Nat) : State :=
  let t : State := { s with pwr := { s.pwr with saved := some (s.savedSet target), drained := s.clk.mono } }
  let t := t.publish
  let t := (((((t.cancel .drain).cancel .watchdog).cancel .standbyTest).cancel .standbyRetry).cancel .snapshot).setFld F.pwrStatStep 3
  if target = 3 then t
  else
    let (n, t) := ((t.chooseCanaries base).atcFlush).draw
    let t := (t.setFlag F.pwrSaveValid).setFld F.pwrSaveSize (n % 1025)
    if t.joined && decide (t.managerOf ≠ 0) && decide (t.managerOf ≠ t.ownId) then t.sendReliable t.managerOf 0x25 [] else t

/-- An LTR message on each port whose link is up (R370). -/
def State.sendLtr (s : State) (us : Nat) : State :=
  [0, 1].foldl (fun t p => if (t.port p).up then t.send (.ltr p us) else t) s

/-- P5: 0.65 V requested, the state reached; for PS4 the regions are gated and the patrol timer starts (R367, R373). -/
def State.entryEnd (s : State) (target begun : Nat) : State :=
  let op := s.ps
  let t := ((s.setFld F.pwrStatLastop op).logEntry target 5 15).setFld F.pwrStatStep 0
  let t := ((t.setPs target).requestVolts 650).sendLtr (if target = 3 then 5000 else 40000)
  let t := (t.putSat F.pwrEntryMs ((t.clk.mono - begun) / 1000000)).putSat F.pwrEntryDrainms ((t.pwr.drained - begun) / 1000000)
  let t : State := { t with pwr := { t.pwr with entry := none, back := none } }
  if target = 4 then t.arm .patrol (nsSec (t.fld F.patCtlPeriod)) else t.arm .ps3Sensor (nsSec (t.fld F.patCtlPeriod))

/-- POWER_STATE_ENTRY: each occurrence is the next step of entry once it may begin: P1 stops fetch; P2 drains, pads rows and closes the FINAL
group; P3 saves, `base` giving the weights of the canaries read; P4 puts the stacks into self-refresh; P5 ends it (R367). -/
def execPowerStateEntry (base : List Nat) (s : State) : Host.Outcome State Fault Refusal :=
  match s.pwr.entry with
  | none =>
    guarded (decide (3 ≤ s.chosenPs) && decide (s.ps ≤ 2)) .noSuchObject
      (if s.entryWaits then s
       else (({ s with pwr := { s.pwr with entry := some (s.chosenPs, s.clk.mono) }, q := { s.q with fetchStop := true } } : State).setFld F.pwrStatStep 1))
  | some (target, begun) =>
    .next (match s.fld F.pwrStatStep with
      | 1 => (s.setFld F.pwrStatStep 2).arm .drain (nsMs (10 * s.fld F.pwrCtlDrain))
      | 2 =>
        if s.drainedAll then s.entrySave target base
        else
          let opens := (s.crs.courses.filter (fun p => !p.2.closed && decide (p.2.band ≤ 2))).map (·.1)
          let t := opens.foldl (fun t n => t.padRow n) s
          if s.drainedFor none && s.buf.slots.all (fun b => b.2.applied) && s.crs.rmws.isEmpty && s.crs.copies.isEmpty then t.closeGroup true false else t
      | 3 => (s.setFld F.pwrStatStep 4).setFlag F.hbmStatSref
      | _ => (s.setFld F.pwrStatStep 5).entryEnd target begun)

/-- Exit to the last operational state, or to the one now selected: `dur` is its length in units of 10 µs, and `ok` the checks of the
saved set and the save image; a failed check is a cold reset (R369). -/
def State.exitPs (s : State) (cause dur : Nat) (ok : Bool) : State :=
  let stop := s.clk.mono + 10000 * dur
  let skip := s.dueOf .patrol |>.any (fun d => decide (d ≤ stop))
  let t := if skip then s.patCnt 10 else s
  let t := (((t.advanceTo stop).cancel .patrol).cancel .ps3Sensor).pwrCnt (8 + cause)
  if !ok then ((t.pwrCnt 14).clrFlag F.pwrSaveCrcok).coldReset 4
  else
    let n := if t.chosenPs ≤ 2 then t.chosenPs else t.fld F.pwrStatLastop
    let t := t.clrFlag F.hbmStatSref
    let t := if s.ps = 4 then (List.range 8).foldl (fun t k => t.dqTrained k) ((t.setFlag F.pwrSaveCrcok).clrFlag F.pwrSaveValid) else t
    let t := (t.setPs n).requestVolts ((t.setPs n).voltFloor)
    let t := ((t.setFld F.pwrWakeCause cause).putSat F.pwrWakeExit dur).sendLtr (t.fld F.pwrLtrOpus)
    let t : State := { t with pwr := { t.pwr with saved := none }, q := { t.q with fetchStop := false }, hbm := { t.hbm with postponed := [] } }
    t.watch.protCheck

/-- A wake: before VOUT_COMMAND it abandons entry, after it is an exit (R368, R369). -/
def State.wake (s : State) (cause dur : Nat) (ok : Bool) : State :=
  if s.pwr.entry.isSome then s.abandonEntry cause
  else if s.ps ≤ 2 then s
  else s.exitPs cause dur ok

/-- PS2_SLOT_TIMER: the other half of the skeins takes its turn (R364). -/
def execPs2SlotTimer (s : State) : Host.Outcome State Fault Refusal :=
  onTimer s .ps2Slot (fun t => ((t.putFlag F.pwrStatOdd (!(t.flag F.pwrStatOdd))).pwrCnt 15).arm .ps2Slot (nsMs (t.fld F.pwrPs2Slotms)))

/-- PS3_SENSOR_SAMPLE (R373). -/
def execPs3SensorSample (temps : List Nat) (holdOk : Bool) (s : State) : Host.Outcome State Fault Refusal :=
  if temps.length ≠ 13 then .fault .outOfRange
  else onTimer s .ps3Sensor (fun t => ((t.sample temps holdOk).patCnt 11).arm .ps3Sensor (nsSec (t.fld F.patCtlPeriod)))

/-- The target that the APST table of a controller gives for a state, 0 for none: feature 0Ch holds the enable, then 32 bits for each state, the
target in bits [7:3] (R145). -/
def Func.apstTarget (f : Func) : Nat :=
  let v := Tab.getD 0x0C 0 f.feats
  if v % 2 = 0 then 0
  else
    let e := v / 2 / 2 ^ (32 * f.psel) % 2 ^ 32
    if e / 256 = 0 then 0 else e / 8 % 32

/-- APST_IDLE_TIMEOUT: a controller idle for its APST time moves to PS3 or PS4 (R366). -/
def execApstIdleTimeout (fn : Nat) (s : State) : Host.Outcome State Fault Refusal :=
  let f := s.func fn
  let idle := f.rdy && s.q.cmds.all (fun p => decide (p.2.fn ≠ fn) || (p.2.admin && decide (p.2.sqe.opcode = 0x0C)))
  let aim := f.apstTarget
  .next (if idle ∧ (aim = 3 ∨ aim = 4) then
      (s.setFunc fn { f with psel := aim, plast := if f.psel ≤ 2 then f.psel else f.plast }).applyPs
    else s)

/-! ### Patrol (R373 to R376) -/

/-- The courses with a member on a die in an age bin, queued for refresh at level 6 (R246). -/
def State.refreshBin (s : State) (die bin : Nat) : State :=
  let cs := s.closedCourses.filter (fun p => p.2.present.any (fun m => decide (m.die = die) && decide (s.ageBin m.id = bin)))
  cs.foldl (fun t p => t.queueVictim p.1 4 6) s

/-- The escalation cause of a canary's reading, 0 for none: decoded, weight (R375). -/
def State.canaryCause (s : State) (c : Canary) (ok : Bool) (w : Nat) : Nat :=
  if !ok then 5 else if s.fld F.patThrAbs < w then 3 else if c.base + s.fld F.patThrRise < w then 4 else 0

/-- Step 3 and 4 of a patrol wake for a skein: its canaries' readings in order, each decoded or not, its weight and its best level. The state, and
the readings that escalate: cause, canary, weight, level. -/
def State.readCanaries (s : State) (k : Nat) (rs : List (Bool × Nat × Nat)) : State × List (Nat × Canary × Nat × Nat) :=
  let mine := (s.pwr.canaries.filter (fun c => decide (c.psa / 2 ^ 37 = k))).zip rs
  let sweep := mine.foldl (fun (l : List Nat) m => l.set m.1.bin (Nat.max (l.getD m.1.bin 0) m.2.2.1)) s.pwr.sweep
  let t : State := { s with pwr := { s.pwr with sweep := sweep } }
  let t := if k = 7 then
      let u := (List.range 5).foldl (fun t b => t.putSat (F.patBinMax b) (sweep.getD b 0)) t
      { u with pwr := { u.pwr with sweep := List.replicate 5 0 } }
    else t
  let t := (t.putSat (F.patSkworstMax k) (maxNat (mine.map (fun m => m.2.2.1)))).stamp (Reg.patSkworst k)
  let t := ((t.setFld F.patLastReads mine.length).patCnt 1 mine.length).patCnt 2 (mine.filter (fun m => !m.2.1)).length
  (t, mine.filterMap (fun m =>
    let c := s.canaryCause m.1 m.2.1 m.2.2.1
    if c = 0 then none else some (c, m.1, m.2.2.1, m.2.2.2)))

/-- What an escalating canary brings: its tracked level where the weight rose, and refresh of the die's bin (R375). -/
def State.canaryAction (s : State) (e : Nat × Canary × Nat × Nat) : State :=
  let b := psaBlk e.2.1.psa
  let t := if e.1 = 4 then { s with fl := { s.fl with levels := Tab.put (s.levelKey b) (e.2.2.2 % 8) s.fl.levels } } else s
  t.refreshBin (b / 4096) e.2.1.bin

/-- An escalation: PAT_ESC, its flags, counter and event, the lowest cause that holds; the return of R375 is noted, or every controller moves to
its last operational state. -/
def State.escalate (s : State) (cause die bin value : Nat) : State :=
  let t := ((s.setFld F.patEscCause cause).setFld F.patEscDie die).setFld F.patEscBin bin
  let t := ((t.setFld F.patEscValue value).setFlag F.pwrStatEscseen).patCnt (2 + cause)
  let t := if cause = 1 then t.setFlag F.patStatTempseen else if 3 ≤ cause then t.setFlag F.patStatCanseen else t
  let t := t.event 0x0C01 (t.word Reg.patEsc).toNat
  let en := t.fns.filter (fun p => p.2.en)
  if en.all (fun p => decide (Tab.getD 0x11 0 p.2.feats % 2 = 1)) then { t with pwr := { t.pwr with back := some t.ps } }
  else en.foldl (fun t p => t.updFunc p.1 (fun f => { f with psel := if f.psel ≤ 2 then f.psel else f.plast })) t

/-- A patrol wake before any exit: samples, canaries, comparison; the state and whether it escalates (R373, R375). -/
def State.patrol (s : State) (temps : List Nat) (hold : Bool) (rs : List (Bool × Nat × Nat)) (us : Nat) : Bool × State :=
  let k := s.fld F.patStatNextsk
  let low2 := !hold && s.pwr.lowLast && s.flag F.patCtlHoldesc
  let t := (((s.sample temps hold).dqTrained k).patCnt 0).setFld F.patStatNextsk ((k + 1) % 8)
  let t := ((t.setFld F.patLastSk k).putSat F.patLastUs us).setFld F.patLastReads 0
  let (t, es) := if t.flag F.patCtlCanen then t.readCanaries k rs else (t, [])
  let hot := !(t.pastThreshold t.pwr.temps).isEmpty
  match hot, low2, es with
  | true, _, _ => (true, (es.foldl (fun t e => t.canaryAction e) (t.escalate 1 0 0 (hottest t.pwr.temps).1)).noteTemps)
  | false, true, _ => (true, es.foldl (fun t e => t.canaryAction e) (t.escalate 2 0 0 0))
  | false, false, e :: rest =>
    let low := rest.foldl (fun b x => if x.1 < b.1 then x else b) e
    (true, (e :: rest).foldl (fun t e => t.canaryAction e) (t.escalate low.1 (psaDie low.2.1.psa) low.2.1.bin low.2.2.1))
  | false, false, [] => (false, t)

/-- PATROL_CONFIGURE: CAh sets the PAT registers as a write of them would; a value out of range or a reserved byte is refused (R376). -/
def execPatrolConfigure (cmd period flags absW rise reserved : Nat) (s : State) : Host.Outcome State Fault Refusal :=
  onVendor s cmd .operator (fun c =>
    s.superGate cmd <|
    if period = 0 ∨ 3600 < period ∨ 3 < flags ∨ absW < 64 ∨ 1000 < absW ∨ rise < 16 ∨ 500 < rise ∨ reserved ≠ 0 then s.finish cmd St.badField
    else
      let t := ((s.noteGated 0xCA period c.fn).setFld F.patCtlPeriod period).setFld F.patCtlCanen (flags % 2)
      let t := ((t.setFld F.patCtlHoldesc (flags / 2)).setFld F.patThrAbs absW).setFld F.patThrRise rise
      t.saveSettings.finish cmd St.ok)

end Sys2Proof.Machine
end

