-- ==== Sys2Proof/Machine/Cmp.lean ====
section
/-! DEFINITION. The self-test of the compression engine (R343 to R346). -/

namespace Sys2Proof.Machine

/-- The self-test's result: `failed` lists the failing units, 0 to 15 compressors, 16 to 47 decompressors, each with the KIND of R341. One event
names each failing unit (R343). -/
def State.cmpTested (s : State) (failed : List (Nat × Nat)) : State :=
  let us := failed.map (·.1)
  let decs := us.filter (fun u => decide (16 ≤ u))
  let t := failed.foldl (fun t f => t.rejectFrame 5 f.2 f.1) ((s.cmpCnt 19).emitBlocks.framesRead)
  let t := ((t.clrFlag F.cmpTestRun).putFlag F.cmpTestPass failed.isEmpty).putFlag F.cmpTestDecfail (!decs.isEmpty)
  let t := t.setFld F.cmpTestDecfirst (((minNat? decs).getD 16) - 16)
  t.setFld F.cmpTestFailmap (sumNat ((List.range 16).map (fun u => if us.contains u then 2 ^ u else 0)))

/-- CMP_CTL.CNTCLR (R345). -/
def State.cmpCntClr (s : State) : State := s.clearWords ((List.range 20).map Reg.cmpCnt)

end Sys2Proof.Machine
end

