-- ==== Sys2Proof/Machine/Sup.lean ====
section
/-! DEFINITION. The supervisors: yields, switch-over, snapshots, standby self-test (R347 to R361). -/

namespace Sys2Proof.Machine

/-- A counter of R361 raised; it wraps. -/
def State.supCnt (s : State) (n : Nat) (k : Nat := 1) : State := s.addWrap (F.supCntCount n) k

/-- The supervisor-owned admin commands (R130): Format NVM, Sanitize, Firmware Commit and Download, C6h, C8h, C9h, CAh. -/
def superOwned (op : Nat) : Bool := [0x80, 0x84, 0x10, 0x11, 0xC6, 0xC8, 0xC9, 0xCA].contains op

/-- Whether a command is supervisor-owned and not finished. -/
def Cmd.owned (k : Cmd) : Bool :=
  k.admin && superOwned k.sqe.opcode && (match k.phase with | .finished _ _ => false | _ => true)

/-- The supervisor-owned commands in their slots and not finished, by fetch number. -/
def State.ownedCmds (s : State) : List Nat := (s.q.cmds.filter (fun p => p.2.owned)).map (·.1)

/-- A life-cycle transition caught by a yield (R459): before step 5 it is dropped, with the old state in force; later it goes on
without its command. -/
def State.transitionYield (s : State) : State :=
  match s.sec.lcRun with
  | none => s
  | some (_, target, role, at_, step) =>
    if step < 5 then { s with sec := { s.sec with lcRun := none }, q := { s.q with fetchStop := false } }
    else { s with sec := { s.sec with lcRun := some (0, target, role, at_, step) } }

/-- A live activation caught by a yield (R356): one that serves a Firmware Commit has not taken effect; a scheduled one starts again. -/
def State.activationYield (s : State) : State :=
  match s.fwu.run with
  | none => s
  | some r => if r.cmd.isSome then s.activationOver r 0 else s

/-- The supervisor-owned work that a yield stops (R353 step 2, R356): the commands end with a status, a Format goes on without its command,
entry to a power state is abandoned. -/
def State.stopOwned (s : State) (st : Status) : State :=
  let owned := s.ownedCmds
  let t := owned.foldl (fun t c => t.finish c st) s
  let t := if st = St.interrupted then t.supCnt 13 owned.length else t
  let t : State := { t with adm := { t.adm with format := { t.adm.format with cmd := none } } }
  ((t.transitionYield.activationYield.abandonEntry 9).cancel .watchdog).cancel .snapshot

/-- The supervisor has failed (R357): both cores are held in reset, CFS is set on every function, its commands end with 06h. -/
def State.supFailed (s : State) (code : Nat) : State :=
  let t := (s.stopOwned St.internal).setCfs (s.allFuncs ++ s.vfsOf 0 ++ s.vfsOf 1)
  let t := ((t.setFlag F.supStatFailed).clrFlag F.supStatRestoring).event 0x0B03 code
  ((({ t with sup := { t.sup with yielded := none } } : State).cancel .standbyTest).cancel .standbyRetry).cfsRelease

/-- Whether a switch-over would be the fourth within 10 minutes of the first of three earlier ones (R357). -/
def State.fourth (s : State) : Bool :=
  decide (3 ≤ (s.sup.switches.filter (fun m => decide (s.clk.mono ≤ m + 600000000000))).length)

/-- A yield (R348, R353 steps 1 and 2): the cause is latched, the commands end with 21h, and the standby is the core to come, or the yielding
core itself where there is none. A second yield during the switch-over starts it again on the other core, if that has passed its self-test
meanwhile (R356). The test of the core that yielded is due at once. -/
def State.superYield (s : State) (cause : Nat) : State :=
  if s.flag F.supStatFailed ∨ s.dump.running.isSome then s
  else
    let stby := s.flag F.supStatStbyok
    match s.sup.yielded with
    | some (_, m) =>
      let core := if stby then 1 - s.sup.target else s.sup.target
      ((({ s with sup := { s.sup with yielded := some (cause, m), target := core, onto := !stby } } : State).setFld F.supSwlastCause cause).clrFlag
        F.supStatStbyok).arm .standbyTest 0
    | none =>
      if s.fourth then s.supFailed 0
      else
        let act := s.fld F.supStatActive
        let t := (((s.stopOwned St.interrupted).setFld F.supSwlastCause cause).setFlag F.supStatRestoring).clrFlag F.supStatStbyok
        let t := (t.cancel .standbyRetry).arm .standbyTest 0
        { t with sup := { t.sup with yielded := some (cause, t.clk.mono), target := if stby then 1 - act else act, onto := !stby,
                                     switches := (t.clk.mono :: t.sup.switches).take 3 } }

/-- SUPERVISOR_WATCHDOG: no heartbeat for WDMS; the AON domain forces the yield (R347, R361). -/
def execSupervisorWatchdog (s : State) : Host.Outcome State Fault Refusal :=
  onTimer s .watchdog (fun t =>
    let us := Nat.min 65535 (t.fld F.supDiagWdms * 1000)
    (((if t.fld F.supHbMaxus < us then t.setFld F.supHbMaxus us else t).supCnt 15)).superYield 0)

/-- TASK_LIMIT_EXPIRY: a supervisor-owned task has completed no step for TASKMS (R347). -/
def execTaskLimitExpiry (s : State) : Host.Outcome State Fault Refusal := .next (s.superYield 3)

/-- SUPERVISOR_SELF_CHECK_FAIL: an ECC error in the core's SRAM (1), a digest mismatch or HBM error (2), or a control-flow signature mismatch
(4) (R347). -/
def execSupervisorSelfCheckFail (cause : Nat) (s : State) : Host.Outcome State Fault Refusal :=
  guarded ([1, 2, 4].contains cause) .outOfRange (s.superYield cause)

/-- The result of a self-test of a core in the registers (R358, R360, R361). -/
def State.noteTest (s : State) (code : Nat) : State :=
  let t := (((s.setFlag F.supStresValid).putFlag F.supStresPass (decide (code = 0))).setFld F.supStresCode code).stamp Reg.supStres
  let t := t.supCnt 7
  if code = 0 then t else t.supCnt 8

/-- The standby's self-test has passed or failed: a pass makes it the standby and clears flag [3]; a first failure is repeated after 1 s; a
second sets flag [3] (R348, R358). -/
def State.standbyResult (s : State) (code : Nat) (retry : Bool) : State :=
  let t := s.noteTest code
  if code = 0 then
    (({ t with sup := { t.sup with stFail := false } } : State).setFlag F.supStatStbyok).noteC0.cancel .standbyRetry
  else if retry then
    (((({ t with sup := { t.sup with stFail := true } } : State).clrFlag F.supStatStbyok).setFlag F.supStatStfailseen).noteC0).event 0x0B02 code
  else t.arm .standbyRetry (nsSec 1)

/-- A self-test result code: 0, or 1 to 5 (R358). -/
def testCode (code : Nat) : Bool := decide (code ≤ 5)

/-- The self-test of the core that yielded: by passing it becomes the standby, and a core that fails while restoring onto itself fails the
supervisor (R348, R357). -/
def State.yieldTest (s : State) (code : Nat) : State :=
  let t := s.noteTest code
  if s.sup.onto then (if code = 0 then t else t.supFailed code) else t.putFlag F.supStatStbyok (decide (code = 0))

/-- STANDBY_SELF_TEST: every PERIOD seconds in PS0 to PS2, the test of R343 with it, whose failing units are listed; in a switch-over the test of
the core that yielded (R343, R353, R358). -/
def execStandbySelfTest (code : Nat) (failed : List (Nat × Nat)) (s : State) : Host.Outcome State Fault Refusal :=
  if testCode code then
    onTimer s .standbyTest (fun t =>
      if t.sup.yielded.isSome then t.yieldTest code
      else ((t.arm .standbyTest (nsSec (t.fld F.supStestPeriod))).cmpTested failed).standbyResult code false)
  else .fault .outOfRange

/-- STANDBY_TEST_RETRY: the repeat 1 s after a failed self-test (R358). -/
def execStandbyTestRetry (code : Nat) (s : State) : Host.Outcome State Fault Refusal :=
  if testCode code then onTimer s .standbyRetry (fun t => t.standbyResult code true) else .fault .outOfRange

/-- SUPERVISOR_TEST_RUN: CBh with action 00b runs the standby self-test and answers its result (R151, R153). `reserved` holds the reserved
bits and CDW10 [1], which no action sets. -/
def execSupervisorTestRun (cmd reserved code : Nat) (s : State) : Host.Outcome State Fault Refusal :=
  if testCode code then
    onVendor s cmd .maker (fun _ =>
      if reserved ≠ 0 then s.finish cmd St.badField
      else (s.standbyResult code false).finish cmd St.ok (b2n (decide (code = 0)) + 256 * code))
  else .fault .outOfRange

/-- SUPERVISOR_TEST_YIELD: CBh with action 01b completes, and the supervisor yields (R153). -/
def execSupervisorTestYield (cmd reserved : Nat) (s : State) : Host.Outcome State Fault Refusal :=
  onVendor s cmd .maker (fun _ =>
    if reserved ≠ 0 then s.finish cmd St.badField else (s.finish cmd St.ok).superYield 5)

/-! ### Snapshots and the switch-over -/

/-- What a snapshot taken now holds (R350). -/
def State.snapshot (s : State) (seq : Nat) : Snapshot :=
  { seq := seq, time := s.devTime, at_ := s.clk.mono, format := s.adm.format, sanitize := s.adm.sanitize,
    stalled := s.map.stalled.map (·.1), ps := s.ps, armed := s.fwu.armed }

/-- The sequence of the newest snapshot, 0 for none, and whether bank 1 holds it. -/
def Sup.newest (u : Sup) : Nat × Bool :=
  let a := (u.snap0.map (·.seq)).getD 0
  let b := (u.snap1.map (·.seq)).getD 0
  if a < b then (b, true) else (a, false)

/-- SNAPSHOT_TIMER: every 50 ms a snapshot goes to the bank that does not hold the newest (R350). -/
def execSnapshotTimer (s : State) : Host.Outcome State Fault Refusal :=
  onTimer s .snapshot (fun t =>
    let n := t.sup.newest
    let sn := t.snapshot ((n.1 + 1) % 2 ^ 32)
    let u := if n.2 || decide (n.1 = 0) then { t.sup with snap0 := some sn } else { t.sup with snap1 := some sn }
    (((({ t with sup := u } : State).setFld F.supSnapSeq sn.seq).stamp Reg.supSnap).supCnt 9).arm .snapshot (nsMs 50))

/-- An entry of the switch-over log (R359, R360). -/
def State.logSwitch (s : State) (cause ms : Nat) : State :=
  let t := s.shiftLog Reg.supSwlog 8
  (((t.setFld (F.supSwlogValid 0) 1).setFld (F.supSwlogCause 0) cause).putSat (F.supSwlogMs 0) ms).stamp (Reg.supSwlog 0)

/-- Control taken at step 7 of R353. -/
def State.takeControl (s : State) (cause ms : Nat) (badBank : Bool) (completed redone : Nat) : State :=
  let t := (((s.setFld F.supStatActive s.sup.target).clrFlag F.supStatRestoring).putSat F.supSwlastMs ms).setFlag F.supStatSwseen
  let t := ((t.logSwitch cause ms).addWrap F.supSwtotalCount 1).supCnt 0
  let t := ((t.supCnt (1 + cause)).supCnt 10 (b2n badBank)).supCnt 11 completed
  let t := (t.supCnt 12 redone).supCnt 14 s.ownedCmds.length
  let f := t.adm.format
  let g : FormatRun := { f with resumed := if f.state = 1 then f.resumed + 1 else f.resumed }
  let t : State := { t with sup := { t.sup with yielded := none }, adm := { t.adm with switched := true, format := g } }
  (((t.event 0x0B01 cause ms).noteC0).watch.saveSettings).applyPs.cfsRelease

/-- SWITCH_OVER: steps 3 to 7 of R353, `ms` after the first yield. `badBank`: the newest snapshot bank was invalid; `completed` and `redone`:
intents so resolved (R351); `tested`: the self-test code of the core that yielded, where STANDBY_SELF_TEST has not brought it before (R348). -/
def execSwitchOver (ms : Nat) (badBank : Bool) (completed redone tested : Nat) (s : State) : Host.Outcome State Fault Refusal :=
  match s.sup.yielded with
  | none => .fault .noSuchObject
  | some (cause, m) =>
    let t := s.advanceTo (m + nsMs ms)
    let t := if t.armed .standbyTest then (t.cancel .standbyTest).yieldTest tested else t
    guarded (decide (ms ≤ 600) && testCode tested) .outOfRange (if t.sup.yielded.isNone then t else t.takeControl cause ms badBank completed redone)

/-- SUP_CNTCLR (R360). -/
def State.supCntClr (s : State) : State := s.clearWords ((List.range 16).map Reg.supCnt)

/-- SUP_LOGCLR (R360). -/
def State.supLogClr (s : State) : State :=
  let offs := (List.range 8).map Reg.supSwlog
  let t := s.clearWords offs
  { t with stamps := t.stamps.filter (fun p => !(offs.contains p.1)) }

end Sys2Proof.Machine
end

