-- ==== Sys2Proof/Machine/Pfail.lean ====
section
/-! DEFINITION. Loss of power: the power-fail dump and its end (R46, R273 to R278, R473, R488, R496). -/

namespace Sys2Proof.Machine

/-! ### The dump begins -/

/-- The units with buffered slots not applied: command, namespace and unit, in the order of buffering. -/
def State.openUnits (s : State) : List (Nat × Nat × Nat) :=
  ((s.buf.slots.filter (fun p => !p.2.applied)).map (fun p => (p.2.cmd, p.2.nsid, p.2.lba / unitSpan))).foldl (fun l u => insertNew u l) []

/-- A unit whose every slot is program-safe, with nothing earlier before it, applies its updates (R277 step 2). -/
def State.applySafe (s : State) (u : Nat × Nat × Nat) : State :=
  let ps := s.unitSlots u.1 u.2.1 u.2.2
  let es : List Nat := match Tab.find u.2.1 s.nss with
    | some n => ps.filterMap (fun (p : Nat × BufSlot) => n.index p.2.lba)
    | none => []
  if !ps.isEmpty && ps.all (fun p => s.slotReady p.2 && p.2.place.isSome) && s.cmdBuffered u.1 && (s.earlierLocks u.1 true).isEmpty &&
      (s.earlierLocks u.1 false).isEmpty && !(es.any (fun e => s.laneHeld e 0 || s.segStalled (segOf e)))
  then s.applyUnit u.1 u.2.1 u.2.2 else s

/-- Whether the write of a slot has had its completion posted, or its strand write been acknowledged. -/
def State.wasPosted (s : State) (b : BufSlot) : Bool :=
  if b.fn = 2048 then !(s.str.ins.any (fun c => c.2.writes.any (fun w => decide (w.fetch = b.cmd) && !w.acked)))
  else (s.cmd b.cmd).isNone

/-- The slots that the dump holds (R276): those of units not applied, and those to be placed again. -/
def State.dumpSlots (s : State) (posted : BufSlot → Bool) : List DumpSlot :=
  (s.buf.slots.filter (fun p => (!p.2.applied || p.2.again) && !p.2.lost)).map (fun p =>
    { nsid := p.2.nsid, lba := p.2.lba, cmd := p.2.cmd, posted := posted p.2, data := p.2.data, mdata := p.2.mdata })

/-- A die that is programming or erasing is reset: a tinked wordline, or a block that stays erase-pending (R277 step 2). -/
def State.stopDie (s : State) (d : Nat) (o : FlashOp) : State :=
  let t := s.cancel (.flashOp d)
  match o.kind, (t.course o.obj).bind (fun c => (c.mem o.pos).map (fun m => (c, m))) with
  | 1, some (_, m) => t.updBlk m.id (fun b => { b with tinked := some (b.tinked.getD m.done) })
  | _, _ => t

/-- The store at PFAIL_N: an erase is abandoned, settings records still waiting are lost, power-fail writes come first (R430, R473, R516). -/
def State.storePfail (s : State) : State :=
  let keep := fun (j : CfsJob) => match j.work with
    | .settings | .features _ => false
    | _ => true
  let erasing := s.cfs.heldErase.isSome || s.cfs.op.any (·.isErase)
  let t : State := { s with
    cfs := { s.cfs with op := s.cfs.op.filter (fun j => !j.isErase), heldErase := none,
                        queue := (s.cfs.queue ++ s.sup.writes).filter keep |>.map (fun j => match j.work with
                          | .event _ => { j with rank := 1 }
                          | _ => j) },
    sup := { s.sup with writes := [] } }
  if erasing then t.cfsCnt 11 else t

/-- The event 0002h staged, and persistence asked for at the first rank, 0002h first (R473). -/
def State.pfailEvent (s : State) : State :=
  let n := s.stg.nextSeq
  let t := s.event 0x0002 (s.buf.slots.length / 256)
  (if t.stg.nextSeq = n then t else if t.persisting n then t else t.cfsRequest 1 (.event n) (if n ≤ 16384 then 2 else 1)).persistStaged 1

/-- What the fall of power ends besides host commands: a switch-over, an activation, a power-state entry, reads, copies and every timer but the
recorder's (R277, R356, R378, R417). -/
def State.powerEnds (s : State) : State :=
  let t := match s.fwu.run with
    | some r => s.activationOver r 4
    | none => s
  let t := t.clrFlag F.supStatRestoring
  let ops := t.fl.ops
  let t := ops.foldl (fun t p => t.stopDie p.1 p.2) t
  { t with sup := { t.sup with yielded := none }, pwr := { t.pwr with entry := none },
           crs := { t.crs with copies := [], victims := [] }, rd := State.reset.rd,
           fl := { t.fl with ops := [], resets := [] }, timers := t.timers.filter (fun x => x.id.survives) }

/-- Steps 1 to 4 of R277 where the dump area is formed: commands end as by a controller reset, safe units apply, the FINAL group closes, and what
remains is to be dumped. Before it is formed only event records are written (R496). -/
def State.powerFail (s : State) : State :=
  if s.dump.running.isSome then s
  else
    let posted := s.wasPosted
    let t := { s with q := { s.q with fetchStop := true } }
    let t := t.allFuncs.foldl (fun t i => t.endCommands i) t
    let t := t.openUnits.foldl (fun t u => t.applySafe u) t
    let t := t.powerEnds.storePfail.pfailEvent
    if !s.dump.formed then
      { t with dump := { t.dump with running := some s.clk.mono, ended := true, total := 0 },
               q := { t.q with fetchStop := true, cmds := [], locks := [], stitches := [], internal := [] }, buf := State.reset.buf }
    else
      let t := (t.setFlag F.lifStatPfailseen).closeGroup true false
      let ds := t.dumpSlots posted
      { t with dump := { t.dump with running := some s.clk.mono, ended := false, slots := ds, total := ds.length + 16 * t.crs.rmws.length },
               q := { t.q with fetchStop := true, cmds := [], locks := [], stitches := [], internal := [] },
               buf := { t.buf with slots := t.buf.slots.filter (fun p => p.2.applied && !p.2.again), resv := [] },
               crs := { t.crs with rmws := [] } }

/-- PFAIL_ASSERT: PFAIL_N low for 1 µs (R273, R277). -/
def execPfailAssert (s : State) : Host.Outcome State Fault Refusal :=
  .next ({ s with pins := { s.pins with pfail := true } } : State).powerFail

/-- A supply rail below its limit, treated as PFAIL_N while that is high (R46, R488). -/
def State.railFall (s : State) (r : Nat) : State :=
  let t : State := { s with pins := { s.pins with lowRails := insertNew r s.pins.lowRails } }
  if s.pins.pfail then t else t.powerFail

/-- RAIL_LOW: rails 1 VDD_SK, 2 VCCQ_F, 3 VDD_HBM, 4 VDDQ_HBM below 95 % of their minimum for 5 µs (R488). -/
def execRailLow (rail : Nat) (s : State) : Host.Outcome State Fault Refusal :=
  guarded (decide (1 ≤ rail) && decide (rail ≤ 4)) .outOfRange (s.railFall rail)

/-- VDD_CORE_LOW: VDD_CORE below 0.60 V for 5 µs (R46). -/
def execVddCoreLow (s : State) : Host.Outcome State Fault Refusal := .next (s.railFall 0)

/-! ### The dump ends -/

/-- The groups closed commit, each with its rows on the two copies (R277 step 5). -/
def State.commitAll (s : State) (rows : List (Nat × Nat)) : State :=
  ((List.range s.lif.waiting.length).zip s.lif.waiting).foldl (fun t x =>
    let r := (rows[x.1]?).getD (1, 1)
    t.commitGroup x.2 (Nat.max 1 r.1) (Nat.max 1 r.2)) s

/-- LIF_PF_LAST, LIF_PF_MARGIN and LIF_PFHIST of a dump of `n` slots, `short` where energy ran out (R277 step 7, R286). -/
def State.noteDump (s : State) (n quiet : Nat) (short : Bool) : State :=
  let t := (s.putSat F.lifPfLastDumpmib (n / 256)).putSat F.lifPfLastQuiet quiet
  let t := t.setFld F.lifPfMarginMargin (ofSigned 16 ((10 * s.fld F.lifHoldupDecl : Nat) - (Nat.min 65535 quiet : Nat)))
  let t := t.shiftLog Reg.lifPfhist 8
  let t := ((t.setFld (F.lifPfhistValid 0) 1).putFlag (F.lifPfhistShort 0) short).setFld (F.lifPfhistDump 0) (Nat.min 4096 (n / 1024))
  (((t.putSat (F.lifPfhistQuiet 0) quiet).lifCnt 14).lifCnt 15 n).cfsRequest 1 .dumpSeal 8

/-- Steps 4 to 7 of R277: `written` slots were dumped before energy ended; all of them means that the seal was written (R278). -/
def State.dumpDone (s : State) (quiet written : Nat) (rows : List (Nat × Nat)) : State :=
  let n := Nat.min written s.dump.total
  let whole := decide (n = s.dump.total)
  let t := (s.advanceTo (s.dump.running.getD s.clk.mono + 10000 * quiet)).commitAll rows
  let sl := if n = 0 && !whole then none else some (t.dump.gen, n)
  let t : State := { t with dump := { t.dump with sealed := sl, ended := true } }
  t.noteDump n quiet (!whole)

/-- DUMP_END: all PHYs are idle, `quiet` units of 10 µs after PFAIL_N. Where both PERSTs fell meanwhile, or power is present again (`back`), the
device cold-resets itself; a PERST of one port that was held is carried out (R83, R277, R278). -/
def execDumpEnd (quiet written : Nat) (rows : List (Nat × Nat)) (back : Bool) (s : State) : Host.Outcome State Fault Refusal :=
  let t := if s.dump.ended then s else s.dumpDone quiet written rows
  let both := s.hif.port0.perst && s.hif.port1.perst
  let u : State := { t with pins := { t.pins with pfail := !back } }
  guarded s.dump.running.isSome .noSuchObject
    (if back then u.dumpReset (if both then 1 else 2)
    else if both then u.dumpReset 1
    else if s.hif.port0.perst then u.resetPort 0 true
    else if s.hif.port1.perst then u.resetPort 1 true
    else u)

end Sys2Proof.Machine
end

