-- ==== Sys2Proof/Machine/Hbm.lean ====
section
/-! DEFINITION. The map memory: address orders, refresh, row activation, scrubbing, uncorrectable errors, zeroing (R310 to R329). -/

namespace Sys2Proof.Machine

/-- A counter of R329 raised; it wraps. -/
def State.hbmCnt (s : State) (n : Nat) (k : Nat := 1) : State := s.addWrap (F.hbmCntCount n) k

/-! ### Addresses (R311 to R313) -/

/-- The area of a byte address: 0 coarse map, 1 overlay pool, 2 write buffer, 3 read staging, 4 tables, 5 workspace (R34, R311, R328). -/
def hbmArea (a : Nat) : Nat :=
  if a < 96 * 2 ^ 30 then 0 else if a < 128 * 2 ^ 30 then 1 else if a < 144 * 2 ^ 30 then 2 else if a < 152 * 2 ^ 30 then 3
  else if a < 168 * 2 ^ 30 then 4 else 5

/-- The row of an address, A[35:21]. -/
def hbmRow (a : Nat) : Nat := a / 2 ^ 21 % 2 ^ 15

/-- The pseudo-channel of an address under an order (R312). -/
def hbmPc (order a : Nat) : Nat :=
  if order = 0 then (a / 2 ^ 8 % 128) ^^^ (hbmRow a % 128) else if order = 1 then a / 2 ^ 10 % 128 else a / 2 ^ 8 % 128

/-- The bank of an address under an order, numbered over the stack IDs: 16 × SID + bank (R310 to R312). -/
def hbmBank (order a : Nat) : Nat :=
  a / 2 ^ 36 * 16 +
    (if order = 0 then (a / 2 ^ 15 % 16) ^^^ (hbmRow a / 128 % 16) else if order = 1 then a / 2 ^ 17 % 16 else a / 2 ^ 15 % 16)

/-- The order in force of an area. -/
def State.orderOf (s : State) (area : Nat) : Nat := s.hbm.order / 4 ^ area % 4

/-! ### Refresh and row activation (R316, R317, R320) -/

/-- Per-bank refreshes issued, counted in units of 2^10. -/
def State.countRefresh (s : State) (n : Nat) : State :=
  let r := s.hbm.refreshes + n
  ({ s with hbm := { s.hbm with refreshes := r % 1024 } } : State).hbmCnt 6 (r / 1024)

/-- HBM_REFRESH: a bank's interval ends. While reads wait for the bank up to 4 refreshes are postponed; they are then issued back to back. -/
def execHbmRefresh (pc bank : Nat) (waiting : Bool) (s : State) : Host.Outcome State Fault Refusal :=
  let k := pc * 48 + bank
  let p := Tab.getD k 0 s.hbm.postponed
  guarded (decide (pc < 128) && decide (bank < 48) && !(s.flag F.hbmStatSref)) .outOfRange
    (if waiting && decide (p < 4) then { s with hbm := { s.hbm with postponed := Tab.put k (p + 1) s.hbm.postponed } }
     else ({ s with hbm := { s.hbm with postponed := Tab.del k s.hbm.postponed } } : State).countRefresh (p + 1))

/-- HBM_THROT.PORTS brought up to date. -/
def State.noteThrottles (s : State) : State :=
  s.setFld F.hbmThrotPorts (sumNat ((List.range 8).map (fun q => if s.hbm.throttles.any (fun t => decide (t.port = q)) then 2 ^ q else 0)))

/-- The nearest neighbours of a row, two on each side. -/
def neighbours (row : Nat) : List Nat :=
  ((if 2 ≤ row then [row - 2] else []) ++ (if 1 ≤ row then [row - 1] else []) ++ [row + 1, row + 2]).filter (fun r => decide (r < 32768))

/-- ROW_ACTIVATE_LIMIT: the neighbours are refreshed, and the port with the most activates is throttled on the bank; a second trigger restarts the
throttle. No port is exempt (R316, R317). -/
def execRowActivateLimit (pc bank row port : Nat) (s : State) : Host.Outcome State Fault Refusal :=
  let others := s.hbm.throttles.filter (fun t => !(decide (t.pc = pc) && decide (t.bank = bank) && decide (t.port = port)))
  let t : State := { s with hbm := { s.hbm with throttles := others ++ [⟨pc, bank, row, port⟩] } }
  let t := (((t.setFld F.hbmThrotLastpc pc).noteThrottles.hbmCnt 8 (neighbours row).length).hbmCnt 9).addSat (F.hbmPcStatThrot pc) 1
  let t := (t.setFlag F.hbmStatThrotseen).event 0x0902 pc bank row port
  guarded (decide (pc < 128) && decide (bank < 48) && decide (row < 32768) && decide (port < 8)) .outOfRange
    (t.arm (.throttle pc bank port) (nsMs (t.fld F.hbmActCtlThrotms)))

/-- THROTTLE_EXPIRY (R317). -/
def execThrottleExpiry (pc bank port : Nat) (s : State) : Host.Outcome State Fault Refusal :=
  onTimer s (.throttle pc bank port) (fun t =>
    let l := t.hbm.throttles.filter (fun x => !(decide (x.pc = pc) && decide (x.bank = bank) && decide (x.port = port)))
    ({ t with hbm := { t.hbm with throttles := l } } : State).noteThrottles)

/-- HBM_MAXWAIT: a request of a port is raised (R315); its place in the queue is not state. -/
def execHbmMaxwait (port : Nat) (s : State) : Host.Outcome State Fault Refusal := guarded (decide (port < 8)) .outOfRange (s.hbmCnt 14)

/-- HBM_STACK_PAST_85: the refresh rate is doubled above 85 °C and restored at or below it (R320). -/
def execHbmStackPast85 (stack temp : Nat) (s : State) : Host.Outcome State Fault Refusal :=
  let hot := decide (85 < toSigned 8 temp)
  let t := (s.setTemp (9 + stack) temp).putFlag (F.hbmStackHot stack) hot
  guarded (decide (stack < 4) && decide (temp < 256)) .outOfRange (if hot && !(s.flag (F.hbmStackHot stack)) then t.setFlag F.hbmStatHotseen else t)

/-! ### Scrubbing (R322, R323) -/

/-- HBM_SCRUB_PERIOD: a pass that reads every burst and writes corrections back; `corrected` names the pseudo-channel of each. It waits for the
end of a dump and of self-refresh. -/
def execHbmScrubPeriod (corrected : List Nat) (s : State) : Host.Outcome State Fault Refusal :=
  if s.flag F.hbmStatSref ∨ s.dump.running.isSome then .next s
  else
    onTimer s .hbmScrub (fun t =>
      let t := corrected.foldl (fun t p => t.addSat (F.hbmPcStatCe (p % 128)) 1) t
      let n := corrected.length
      let t := if n = 0 then t else t.setFlag F.hbmStatCeseen
      let t := ((t.hbmCnt 10 n).hbmCnt 13 n).hbmCnt 12
      ({ t with hbm := { t.hbm with scrubbed := t.clk.mono } } : State).arm .hbmScrub (nsSec (3600 * t.fld F.hbmCtlScrubh)))

/-- SCRUBNOW: a pass starts at once; HBM_SCRUB_PERIOD is that pass. -/
def State.scrubNow (s : State) : State := s.arm .hbmScrub 0

/-! ### Uncorrectable errors (R324, R325) -/

/-- The error recorded, and bit 2 of the critical warning at a pseudo-channel's fourth (R324, R325). -/
def State.noteUe (s : State) (a port : Nat) : State :=
  let area := hbmArea a
  let pc := hbmPc (s.orderOf area) a
  let t := ((s.setFld F.hbmUeLastArea area).setFld F.hbmUeLastPort port).setFld F.hbmUeLastPc pc
  let t := (t.setFld F.hbmUeAddrLoAddr (a % 2 ^ 32)).setFld F.hbmUeAddrHiAddr (a / 2 ^ 32)
  let t := ((t.setFlag F.hbmStatUeseen).addSat (F.hbmStackUe (pc / 32)) 1).addSat (F.hbmPcStatUe pc) 1
  let t := (t.hbmCnt 11).event 0x0901 (t.word Reg.hbmUeLast).toNat (a % 2 ^ 32) (a / 2 ^ 32)
  if 4 ≤ t.fld (F.hbmPcStatUe pc) then t.degrade 4 else t

/-- Post-package repair of the row, listed for every start (R325, R438). -/
def State.repairRow (s : State) (a : Nat) : State :=
  let o := s.orderOf (hbmArea a)
  let r := (hbmPc o a * 48 + hbmBank o a) * 32768 + hbmRow a
  if s.hbm.repaired.contains r then s
  else
    let t : State := { s with hbm := { s.hbm with repaired := s.hbm.repaired ++ [r] } }
    (t.hbmCnt 15).cfsRequest 5 (.record 7 0 t.hbm.repaired false) (1 + t.hbm.repaired.length)

/-- Whether the object lies in the area that the address names, for the areas of R328 that hold one kind of object. -/
def hitFits (h : HbmObject) (a : Nat) : Bool :=
  match h with
  | .mapEntry _ => decide (hbmArea a ≤ 1)
  | .bufferSlot _ _ => decide (hbmArea a = 2)
  | .staging _ => decide (hbmArea a = 3)
  | .cmb _ | .cmbQueue _ | .copy _ | .firmware _ => decide (hbmArea a = 5)
  | .ownerTable _ | .journal _ | .counts _ => decide (hbmArea a = 4)
  | .parity _ | .unused => true

/-- The handling by area (R324). Counts, pins, block-table entries and firmware parts are rebuilt as
they were; a copy is made again from its source, into the slots it was to take. -/
def State.ueHandle (s : State) (a : Nat) (h : HbmObject) : Host.Outcome State Fault Refusal :=
  match h with
  | .mapEntry e => execMapSegmentStall (hbmArea a) e s
  | .ownerTable e => execOwnerTableError e false s
  | .bufferSlot c lba => execWriteBufferUe c lba s
  | .staging r => withSome (s.cw r) (fun x => s.abandonCw r x St.internal)
  | .parity n => execParityAccumulatorUe n s
  | .journal both => .next (if both then s.powerFail else s)
  | .counts _ => .next s
  | .cmb b => .next { s with hif := { s.hif with poisoned := (lbas (b / 32 * 32) 32).foldl (fun l x => insertNew x l) s.hif.poisoned } }
  | .cmbQueue fn => .next (s.setCfs [fn])
  | .copy id => guarded (Tab.has id s.crs.copies) .noSuchObject s
  | .firmware active => .next (if active then s.superYield 2 else s)
  | .unused => .next s

/-- HBM_UNCORRECTABLE: an error at a byte address, met by a port, 7 for scrubbing; `repaired`: the bank had a repair resource left. -/
def execHbmUncorrectable (addr port : Nat) (hit : HbmObject) (repaired : Bool) (s : State) : Host.Outcome State Fault Refusal :=
  let t := s.noteUe addr port
  if decide (addr < 192 * 2 ^ 30) && decide (port < 8) && hitFits hit addr then (if repaired then t.repairRow addr else t).ueHandle addr hit
  else .fault .outOfRange

/-! ### Zeroing (R326) -/

/-- HBM_ZERO_DONE: `ms` after it began; HBM may now be read. -/
def execHbmZeroDone (ms : Nat) (s : State) : Host.Outcome State Fault Refusal :=
  match s.hbm.zeroing with
  | none => .fault .noSuchObject
  | some m =>
    let t := s.advanceTo (m + nsMs ms)
    let t : State := { t with hbm := { t.hbm with zeroing := none } }
    .next ((t.setFlag F.hbmStatZerodone).putSat F.hbmZeroMs ms)

end Sys2Proof.Machine
end

