-- ==== Sys2Proof/Machine/Features.lean ====
section
/-! DEFINITION. Set Features and Get Features: the standard features of R145 and the vendor features of R146. -/

namespace Sys2Proof.Machine

/-! ### What is supported -/

/-- The standard features of R145. -/
def standardFeature (fid : Nat) : Bool :=
  [0x01, 0x02, 0x04, 0x05, 0x07, 0x08, 0x09, 0x0A, 0x0B, 0x0C, 0x0E, 0x11, 0x16, 0x17, 0x18, 0x1D, 0x1E, 0x80].contains fid

/-- The vendor features of R146. -/
def vendorFeature (fid : Nat) : Bool := decide (0xC0 ≤ fid) && decide (fid ≤ 0xC5)

/-- The features that the tables of R145 and R146 mark saveable. -/
def saveable (fid : Nat) : Bool :=
  [0x01, 0x02, 0x04, 0x05, 0x08, 0x0A, 0x0B, 0x0C, 0x11, 0x16, 0x18, 0xC0, 0xC2, 0xC3, 0xC4, 0xC5].contains fid

/-- The role that a vendor feature's Set needs (R146). -/
def featureRole (fid : Nat) : Role := if [0xC0, 0xC1, 0xC5].contains fid then .installer else .operator

/-- What names one value of a feature with several: the sensor and threshold of 04h, the vector of 09h, the placement handle of 1Eh. -/
def featureKey (fid cdw11 : Nat) : Nat :=
  match fid with
  | 0x04 => 0x04 + 256 * (cdw11 / 2 ^ 16 % 16 + 16 * (cdw11 / 2 ^ 20 % 4))
  | 0x09 => 0x09 + 256 * (cdw11 % 65536)
  | _ => fid

/-- The default of a feature value: those of R103 and R134 where they give one, else 0. -/
def featureDefault (key : Nat) : Nat :=
  match key % 256 with
  | 0x01 => 0x07030003
  | 0x04 =>
    if key = 0x04 then wctemp.toNat else if key / 256 / 16 = 1 then 0 else 0xFFFF
  | 0xC0 => 16
  | 0xC2 => 100
  | 0xC4 => 60
  | 0xC5 => 16 + 256
  | _ => 0

/-! ### Set -/

/-- A standard feature's value set on a controller, saved for all where SV is 1; a saved value is written with the settings record
before the command completes (R145). -/
def State.storeFeature (s : State) (cmd fn key val : Nat) (save : Bool) : State :=
  let t := s.updFunc fn (fun f => { f with feats := Tab.put key val f.feats })
  if save then
    (({ t with adm := { t.adm with saved := Tab.put key val t.adm.saved } } : State).updCmd cmd
      (fun k => { k with phase := .waitStore })).cfsRequest 5 (.features cmd) 2
  else t.finish cmd St.ok

/-- Number of Queues: the grant is made once after each controller reset, the lesser of what is asked for and the allotment (R99). -/
def State.setQueues (s : State) (cmd fn cdw11 : Nat) : State :=
  let ask := (cdw11 % 65536 + 1, cdw11 / 65536 % 65536 + 1)
  if ask.1 = 65536 ∨ ask.2 = 65536 then s.finish cmd St.badField
  else if (s.func fn).qgrant.isSome then s.finish cmd St.sequence
  else
    let g := (Nat.min ask.1 (s.allot fn), Nat.min ask.2 (s.allot fn))
    (s.updFunc fn (fun f => { f with qgrant := some g })).finish cmd St.ok (g.1 - 1 + 65536 * (g.2 - 1))

/-- The APST table: enable, then 32 bits for each state; only PS3 and PS4 may be targets (R145). -/
def apstValue (cdw11 : Nat) (data : List Nat) : Option Nat :=
  let es := data.take 32
  if es.all (fun e => decide (e / 2 ^ 8 % 2 ^ 24 = 0) || decide (e / 8 % 32 = 3) || decide (e / 8 % 32 = 4)) then
    some (cdw11 % 2 + 2 * (List.range es.length).foldl (fun acc i => acc + es.getD i 0 % 2 ^ 32 * 2 ^ (32 * i)) 0)
  else none

/-- Flexible Data Placement: FDP of endurance group 1 enabled with a configuration, or disabled, while no namespace exists (R140). -/
def State.setFdp (s : State) (cmd cdw11 cdw12 : Nat) : State :=
  let idx := cdw12 / 256 % 256
  if cdw11 % 65536 ≠ 1 ∨ (cdw12 % 2 = 1 ∧ 5 < idx) then s.finish cmd St.badField
  else if !s.nss.isEmpty then s.finish cmd St.sequence
  else
    let t : State := { s with adm := { s.adm with fdp := if cdw12 % 2 = 1 then some idx else none, fdpEn := [] } }
    (t.updCmd cmd (fun k => { k with phase := .waitStore })).cfsRequest 5 (.features cmd) 2

/-- FDP Events: event types of a placement handle enabled or disabled; the device reports types 00h and 80h (R140). -/
def State.setFdpEvents (s : State) (cmd nsid fn cdw11 cdw12 : Nat) (data : List Nat) : State :=
  let ph := cdw11 % 65536
  let ts := data.take (cdw11 / 65536 % 256)
  match Tab.find nsid s.nss with
  | none => s.finish cmd St.badNamespace
  | some n =>
    if !(s.func fn).nss.contains nsid then s.finish cmd St.badNamespace
    else if s.adm.fdp.isNone then s.finish cmd St.fdpDisabled
    else if n.handles.length ≤ ph ∨ ts.any (fun t => t ≠ 0 ∧ t ≠ 0x80) then s.finish cmd St.badField
    else
      let h := n.handles.getD ph 0
      let old := Tab.getD h [] s.adm.fdpEn
      let new := if cdw12 % 2 = 1 then ts.foldl (fun l t => insertNew t l) old else old.filter (fun t => !ts.contains t)
      ({ s with adm := { s.adm with fdpEn := Tab.put h new s.adm.fdpEn } } : State).finish cmd St.ok

/-- A standard feature set (R145). -/
def State.setStandard (s : State) (cmd fid fn nsid : Nat) (save : Bool) (cdw11 cdw12 : Nat) (data : List Nat) : State :=
  let key := featureKey fid cdw11
  let put := fun (v : Nat) => s.storeFeature cmd fn key v save
  match fid with
  | 0x02 =>
    let p := cdw11 % 32
    if 4 < p then s.finish cmd St.badField
    else ((put p).updFunc fn (fun f => { f with psel := p, plast := if p ≤ 2 then p else f.plast })).applyPs
  | 0x04 =>
    if 13 < cdw11 / 2 ^ 16 % 16 ∧ cdw11 / 2 ^ 16 % 16 ≠ 15 ∨ 1 < cdw11 / 2 ^ 20 % 4 then s.finish cmd St.badField
    else if cdw11 / 2 ^ 16 % 16 = 15 then
      let th := cdw11 / 2 ^ 20 % 4
      ((List.range 14).foldl (fun t i => (t.updFunc fn (fun f =>
          { f with feats := Tab.put (0x04 + 256 * (i + 16 * th)) (cdw11 % 65536) f.feats }))) (put (cdw11 % 65536))).noteTemps
    else (put (cdw11 % 65536)).noteTemps
  | 0x05 => if cdw11.testBit 16 then s.finish cmd St.badField else put (cdw11 % 65536)
  | 0x07 => s.setQueues cmd fn cdw11
  | 0x08 => put (cdw11 % 65536)
  | 0x09 => if (if isPf fn then 2048 else 64) ≤ cdw11 % 65536 then s.finish cmd St.badField else put (cdw11 % 2 ^ 17)
  | 0x0A => put (cdw11 % 2)
  | 0x0C => match apstValue cdw11 data with
    | some v => put v
    | none => s.finish cmd St.badField
  | 0x0E =>
    if s.fld F.tkStatOrigin ≠ 2 ∧ s.flag F.tkCtlHostts then ((s.setTime (data.headD 0 % 2 ^ 48 * 1000000)).setFld F.tkStatOrigin 1).finish cmd St.ok
    else (s.event 0x0107 (data.headD 0 % 2 ^ 32) (data.headD 0 % 2 ^ 48 / 2 ^ 32)).finish cmd St.ok
  | 0x11 => put (cdw11 % 2)
  | 0x16 => put (data.headD 0)
  | 0x17 =>
    (({ s with adm := { s.adm with nodrm := decide (cdw11 % 2 = 1) } } : State).updCmd cmd (fun k => { k with phase := .waitStore })).cfsRequest 5
      (.features cmd) 2
  | 0x18 => if cdw11 % 65536 ≠ 1 then s.finish cmd St.badField else put cdw11
  | 0x1D => s.setFdp cmd cdw11 cdw12
  | 0x1E => s.setFdpEvents cmd nsid fn cdw11 cdw12 data
  | _ => put cdw11

/-- A vendor feature whose fields are in range: the state with it in force, or the refusal of a field (R146). -/
def State.setVendor (s : State) (fid fn nsid cdw11 cdw12 cdw13 : Nat) : Except Status State :=
  match fid with
  | 0xC0 =>
    let t : State := { s with adm := { s.adm with limit := cdw11 } }
    let decl := s.fld F.lifHoldupDecl
    if cdw11 = 0 ∨ 64 < cdw11 ∨ (decl ≠ 0 ∧ decl < t.holdNeed) then .error St.badField else .ok t.protCheck
  | 0xC1 =>
    let r := s.armActivation (decide (cdw11 = 1)) (cdw12 % 2 ^ 32 + cdw13 % 2 ^ 32 * 2 ^ 32)
    if 1 < cdw11 ∨ !r.1 then .error St.badField
    else if r.2.fleetRole = 3 then
      .ok (if cdw11 = 1 then r.2.spread (r.2.rawOf (r.2.fld F.fwuSlotPendingslot)) (cdw12 % 2 ^ 32 + cdw13 % 2 ^ 32 * 2 ^ 32) else r.2.spread [] 0)
    else .ok r.2
  | 0xC2 => if cdw11 < 20 ∨ 1000 < cdw11 then .error St.badField else .ok (s.setFld F.eccTcutDeadline cdw11)
  | 0xC3 =>
    match Tab.find nsid s.nss with
    | none => .error St.badNamespace
    | some n =>
      if !(s.func fn).nss.contains nsid then .error St.badNamespace
      else if 1 < cdw11 ∨ (cdw11 = 1 ∧ n.lbaf ≠ 0) then .error St.badField
      else .ok { s with nss := Tab.put nsid { n with compress := decide (cdw11 = 1) } s.nss }
  | 0xC4 => if cdw11 = 0 ∨ 3600 < cdw11 then .error St.badField else .ok (s.setFld F.patCtlPeriod cdw11)
  | _ =>
    let st := cdw11 % 256
    let sp := cdw11 / 256
    if st < 8 ∨ 64 < st ∨ sp = 0 ∨ 4 < sp ∨ st < 5 + 7 * sp then .error St.badField
    else .ok (({ s with adm := { s.adm with start := st, step := sp } } : State).noteF)

/-- SET_FEATURES: a vendor feature's role before any field; a feature that is absent completes with 02h; SV = 1 with 0Dh where the
feature is not saveable or the function is a VF (R145, R146). -/
def execSetFeatures (cmd fid : Nat) (save : Bool) (cdw11 cdw12 cdw13 : Nat) (data : List Nat) (s : State) :
    Host.Outcome State Fault Refusal :=
  onAdmin s cmd (fun k =>
    if vendorFeature fid ∧ !(s.mayAs k.fn (featureRole fid)) then (s.deny 2 (featureRole fid) k.fn fid).finish cmd St.roleRequired
    else if !(vendorFeature fid) ∧ !(standardFeature fid) then s.finish cmd St.badField
    else if save ∧ (!(saveable fid) ∨ !(isPf k.fn)) then s.finish cmd St.notSaveable
    else if standardFeature fid then s.setStandard cmd fid k.fn k.sqe.nsid save cdw11 cdw12 data
    else
      match s.setVendor fid k.fn k.sqe.nsid cdw11 cdw12 cdw13 with
      | .error e => s.finish cmd e
      | .ok t =>
        let t := t.noteGated fid cdw11 k.fn
        if fid = 0xC1 then t.finish cmd St.ok
        else (t.updCmd cmd (fun k => { k with phase := .waitStore })).cfsRequest 5 (.features cmd) 2)

/-! ### Get -/

/-- The current value of a feature, as Dword 0 gives it. -/
def State.featureNow (s : State) (fid fn nsid cdw11 : Nat) : Nat :=
  let f := s.func fn
  match fid with
  | 0x02 => f.psel
  | 0x07 => let g := f.qgrant.getD (s.allot fn, s.allot fn); g.1 - 1 + 65536 * (g.2 - 1)
  | 0x09 => Tab.getD (featureKey fid cdw11) (cdw11 % 65536) f.feats
  | 0x0C => Tab.getD 0x0C 0 f.feats % 2
  | 0x0E => 0
  | 0x16 => 0
  | 0x17 => b2n s.adm.nodrm
  | 0x1D => match s.adm.fdp with
    | some i => 1 + 256 * i
    | none => 0
  | 0x1E => ((Tab.find nsid s.nss).map (fun n => (Tab.getD (n.handles.getD (cdw11 % 65536) 0) [] s.adm.fdpEn).length)).getD 0
  | 0xC0 => s.adm.limit
  | 0xC1 => b2n s.fwu.armed.isSome
  | 0xC2 => s.fld F.eccTcutDeadline
  | 0xC3 => ((Tab.find nsid s.nss).map (fun n => b2n n.compress)).getD 0
  | 0xC4 => s.fld F.patCtlPeriod
  | 0xC5 => s.adm.start + 256 * s.adm.step
  | _ => Tab.getD (featureKey fid cdw11) (featureDefault (featureKey fid cdw11)) f.feats

/-- The data that Get Features of some features returns: the APST table, the timestamp with its origin, the host behaviour and the FDP
event types enabled. -/
def State.featureData (s : State) (fid fn nsid cdw11 : Nat) : List Nat :=
  let f := s.func fn
  match fid with
  | 0x0C => (List.range 32).map (fun i => Tab.getD 0x0C 0 f.feats / 2 / 2 ^ (32 * i) % 2 ^ 32)
  | 0x0E => [s.devTime / 1000000 % 2 ^ 48, if s.fld F.tkStatOrigin = 0 then 0 else 1]
  | 0x16 => [Tab.getD 0x16 0 f.feats]
  | 0x1E => ((Tab.find nsid s.nss).map (fun n => Tab.getD (n.handles.getD (cdw11 % 65536) 0) [] s.adm.fdpEn)).getD []
  | _ => []

/-- The saved value of a feature, or its default (R145, R146). -/
def State.featureSaved (s : State) (fid fn nsid cdw11 : Nat) : Nat :=
  if vendorFeature fid ∧ fid ≠ 0xC1 then s.featureNow fid fn nsid cdw11
  else Tab.getD (featureKey fid cdw11) (featureDefault (featureKey fid cdw11)) s.adm.saved

/-- GET_FEATURES: SEL 000b the current value, 001b the default, 010b the saved value, 011b the capabilities (R145). -/
def execGetFeatures (cmd fid select cdw11 : Nat) (s : State) : Host.Outcome State Fault Refusal :=
  onAdmin s cmd (fun k =>
    if !(vendorFeature fid) ∧ !(standardFeature fid) then s.finish cmd St.badField
    else
      match select with
      | 0 =>
        let d := s.featureData fid k.fn k.sqe.nsid cdw11
        if (fid = 0xC3 ∨ fid = 0x1E) ∧ !(Tab.has k.sqe.nsid s.nss && (s.func k.fn).nss.contains k.sqe.nsid) then s.finish cmd St.badNamespace
        else (if d.isEmpty then s else s.send (.hostBuf cmd d)).finish cmd St.ok (s.featureNow fid k.fn k.sqe.nsid cdw11)
      | 1 => s.finish cmd St.ok (featureDefault (featureKey fid cdw11))
      | 2 => s.finish cmd St.ok (s.featureSaved fid k.fn k.sqe.nsid cdw11)
      | 3 => s.finish cmd St.ok (b2n (saveable fid) + 2 * b2n (decide (fid = 0xC3)) + 4)
      | _ => s.finish cmd St.badField)

end Sys2Proof.Machine
end

