-- ==== Sys2Proof/Machine/Live.lean ====
section
/-! DEFINITION. What the read-only fields report that follow the device's state instead of being stored: one row for each, by chapter.
A figure that depends on the traffic of the last second or on an analogue measurement is a free value (log entry 2). -/

namespace Sys2Proof.Machine

/-- A live field, or an array of them: the field of entry i, the number of entries, and its value, `none` for a free one. -/
structure LiveRow where
  fld : Nat → Fld
  n   : Nat
  val : State → Nat → Option Nat

/-- A single live field. -/
def one (f : Fld) (v : State → Nat) : LiveRow := ⟨fun _ => f, 1, fun s _ => some (v s)⟩

/-- An array of live fields. -/
def arr (f : Nat → Fld) (n : Nat) (v : State → Nat → Nat) : LiveRow := ⟨f, n, fun s i => some (v s i)⟩

/-- A single free field. -/
def oneFree (f : Fld) : LiveRow := ⟨fun _ => f, 1, fun _ _ => none⟩

/-- An array of free fields. -/
def arrFree (f : Nat → Fld) (n : Nat) : LiveRow := ⟨f, n, fun _ _ => none⟩

/-- A value that stops at the top of its field. -/
def sat (w v : Nat) : Nat := Nat.min (2 ^ w - 1) v

/-! ### What the rows report -/

/-- Commands in their slots that park stitches for a reason. -/
def State.parkedFor (s : State) (k : Nat) : Nat := (s.q.stitches.filter (fun p => decide (p.2.phase = .parked k))).length

/-- Courses open in bands that satisfy a condition. -/
def State.openCourses (s : State) (f : Course → Bool) : List (Nat × Course) := s.crs.courses.filter (fun p => !p.2.closed && f p.2)

/-- The channels of a skein. -/
def skeinChans (k : Nat) : List Nat := (List.range 64).map (fun i => 64 * k + i)

/-- The channels of a skein that satisfy a condition. -/
def State.chansOf (s : State) (k : Nat) (f : Chan → Bool) : Nat := ((skeinChans k).filter (fun c => f (s.chan c))).length

/-- The dies of a skein in service. -/
def State.svcOf (s : State) (k : Nat) : Nat := ((List.range 1024).filter (fun d => s.inSvc (1024 * k + d))).length

/-- Peers reachable: every peer whose frames arrive (log page C3h). -/
def State.reached (s : State) : Nat := (s.str.peers.filter (fun p => p.2.reach)).length

/-- Sectors of an area of the store: the one written, those erased ahead and the full ones. -/
def AreaState.sectors (a : AreaState) : List Nat := a.cur :: (a.erased ++ a.full)

/-- The sectors of area `a` of CFS_AREA, in the order of R424. -/
def State.areaSectors (s : State) (a : Nat) : List Nat :=
  let of := fun (n : Nat) => ((Tab.find n s.areaTab).map AreaState.sectors).getD []
  match a with
  | 0 => [0]
  | 1 => of 1 ++ of 2
  | 2 => of 3 ++ of 4
  | 3 => of 5
  | 4 => of 6
  | 5 => of 7
  | 6 => of 8
  | _ => []

/-- The sector of the store's operation. -/
def State.cfsSector (s : State) : Nat :=
  match s.cfs.op with
  | some j => match j.work with
    | .erase b => b
    | _ => s.cfsWord j / 512
  | none => 0

/-- The store's operation as CFS_BUSY.OP codes it. -/
def State.cfsOp (s : State) : Nat :=
  match s.cfs.op with
  | none => 0
  | some j => if s.cfs.heldErase.isSome then 3 else if j.isErase then 2 else 1

/-- Supervisor-owned operations begun and not done: a Format, a Sanitize, an activation, a transition (R351). -/
def State.intents (s : State) : Nat :=
  b2n (decide (s.adm.format.state = 1)) + b2n s.sanitizing + b2n s.fwu.run.isSome + b2n s.sec.lcRun.isSome

/-- A function's VF bits: those with an FLR or a teardown in progress (R87). -/
def State.vfResets (s : State) : List Nat := ((s.fns.filter (fun p => decide (2 ≤ p.1) && decide (p.2.reset ≠ .none))).map (fun p => p.1 - 2))

/-- Seconds in a power state since cold reset or HISTCLR (PWR_TIME). -/
def State.psTime (s : State) (k : Nat) : Nat :=
  (s.pwr.times.getD k 0 + if k = s.ps then s.clk.mono - s.pwr.since else 0) / 1000000000

/-- From a cold start until step 8 of R279 has ended, or the module is dead (R522 with its worked example). -/
def State.recovering (s : State) : Bool := !s.started && !(s.flag F.genStateDead) && !(s.hif.port0.perst && s.hif.port1.perst)

/-- The LUNs that answered on a channel. -/
def State.lunsOn (s : State) (c : Nat) : Nat := Tab.getD c s.fl.luns s.fl.lunsAt

/-! ### The rows -/

/-- GEN and the timekeeper (R65, R522). -/
def liveGen : List LiveRow := [
  one F.genIdDevice (fun _ => 0x7512), one F.genIdVendor (fun _ => 0x1F9E),
  one F.genRevStepping (fun _ => Config.calDword 1 / 2 ^ 24 % 2 ^ 8), one F.genRevGrade (fun _ => Config.calDword 1 / 2 ^ 16 % 2 ^ 8),
  one F.genRevMapver (fun _ => 1), arr F.genSnSn 5 (fun _ k => Config.calDword (2 + k)),
  one F.genStateLc (fun s => s.lc), one F.genStateCfs (fun s => b2n (s.flag F.genStateDead || s.fns.any (fun p => p.2.cfs))),
  one F.genStateRdy1 (fun s => b2n (s.func 1).rdy), one F.genStateRdy0 (fun s => b2n (s.func 0).rdy),
  one F.genStateReadonly (fun s => s.fld F.rclRoRo), one F.genStateExposed (fun s => s.fld F.crsStatExposed),
  one F.genStateSupfail (fun s => s.fld F.supStatFailed), one F.genStatePs (fun s => s.ps), one F.genStateRecovering (fun s => b2n s.recovering),
  one F.genStateGated (fun s => b2n (decide (s.ps = 4))),
  one F.genConfigSkeins (fun s => ((List.range 8).filter (fun k => !(Tab.has k s.fl.down) && s.skeinUp k)).length),
  one F.genConfigChannels (fun s => sumNat ((List.range 8).map (fun k => s.chansOf k (·.up)))),
  one F.genConfigDies (fun s => s.diesUp), one F.genRawgibGib (fun s => Nat.min 1048576 (s.fl.raw / 1024)),
  one F.genBootCommitted (fun s => s.fld F.fwuSlotCommitted), one F.genBootRunning (fun s => s.fld F.fwuSlotRunning),
  one F.genTempTemp (fun s => (hottest s.pwr.temps).1), one F.genTempSensor (fun s => (hottest s.pwr.temps).2) ]

/-- HIF (R95). -/
def liveHif : List LiveRow := [
  arr F.hifPortStatUp 2 (fun s p => b2n (s.port p).up), arr F.hifPortStatWidth 2 (fun s p => (s.port p).width),
  arr F.hifPortStatRate 2 (fun s p => (s.port p).rate), arr F.hifPortStatFlit 2 (fun s p => b2n (decide (6 ≤ (s.port p).rate))),
  arr F.hifPortStatReversed 2 (fun s p => b2n (s.port p).reversed), arr F.hifPortStatLpm 2 (fun s p => (s.port p).lpm),
  one F.hifAtcStatValid (fun s => s.hif.atc.length),
  one F.hifPriStatOut (fun s => sumNat ((s.hif.groups.filter (·.sent)).map (fun g => g.pages.length))),
  one F.hifQuarStatTags1 (fun s => sat 16 (s.hif.quar.filter (fun q => decide (q.1 = 1))).length),
  one F.hifQuarStatTags0 (fun s => sat 16 (s.hif.quar.filter (fun q => decide (q.1 = 0))).length),
  one F.hifFlrStatPf1 (fun s => b2n (decide ((s.func 1).reset ≠ .none))), one F.hifFlrStatPf0 (fun s => b2n (decide ((s.func 0).reset ≠ .none))),
  one F.hifFlrStatVfcnt (fun s => s.vfResets.length),
  one F.hifDmaStatHeld (fun s => (s.fns.filter (fun p => !p.2.bme && s.q.stitches.any (fun x => (s.cmd x.2.cmd).any (fun k => decide (k.fn = p.1))))).length),
  arr F.hifFlrpendVf 32 (fun s i => sumNat ((s.vfResets.filter (fun v => decide (v / 32 = i))).map (fun v => 2 ^ (v % 32)))),
  arrFree (F.hifLanePreset 0) 16, arrFree (F.hifLaneVmargin 0) 16, arrFree (F.hifLaneTmargin 0) 16,
  arrFree (F.hifLanePreset 1) 16, arrFree (F.hifLaneVmargin 1) 16, arrFree (F.hifLaneTmargin 1) 16,
  arrFree (F.hifCntCount 0) 2, arrFree (F.hifCntCount 1) 2 ]

/-- QEN (R126). -/
def liveQen : List LiveRow := [
  one F.qenSlotuseUsed (fun s => s.q.cmds.length), one F.qenStitchuseUsed (fun s => s.q.stitches.length),
  one F.qenIlkuseUsed (fun s => s.q.locks.length), one F.qenPinuseBlocks (fun s => s.q.pins.length),
  one F.qenCqheldCqs (fun s => sumNat (s.fns.map (fun p => (p.2.cqs.filter (fun q => !q.2.held.isEmpty)).length))),
  one F.qenQusePairs (fun s => s.pairsUsed), one F.qenShnStatShnfn (fun s => (s.fns.filter (fun p => decide (p.2.shst = 2))).length),
  arr F.qenParkNow 16 (fun s k => if k < 6 then s.parkedFor k else 0) ]

/-- MAP (R181). -/
def liveMap : List LiveRow := [
  one F.mapCapMibMib (fun s => s.userMib), one F.mapFreeMibMib (fun s => s.userMib - s.nsMib),
  one F.mapGranUseGran (fun s => s.usedGranules.length), one F.mapPoolUseBlocks (fun s => s.map.overlays.length),
  one F.mapPoolStatOcc (fun s => s.map.overlays.length * 10000 / poolTotal), oneFree F.mapSeamRateMbps,
  one F.mapStallStatRec (fun s => b2n (!s.map.stalled.isEmpty && s.sup.yielded.isNone)), one F.mapStallStatNow (fun s => s.map.stalled.length),
  arr F.mapStallsegValid 8 (fun s k => b2n (decide (k < s.map.stalled.length))),
  arr F.mapStallsegSeg 8 (fun s k => (s.map.stalled.getD k (0, 0)).1) ]

/-- CRS (R209). -/
def liveCrs : List LiveRow := [
  one F.crsFreeDies (fun s => s.diesUp), one F.crsFreeF (fun s => sat 16 s.freeF), one F.crsOpenCourses (fun s => sat 16 (s.openCourses (fun _ => true)).length),
  one F.crsBufLimmib (fun s => 256 * s.adm.limit), one F.crsBufUsedmib (fun s => sat 16 (s.buf.slots.length / 256)),
  one F.crsStgUseGib (fun s => sat 14 (s.stagedSlots / 262144)), oneFree F.crsRateHostmbps, oneFree F.crsRateStgmbps, oneFree F.crsRowageMs,
  one F.crsPfpendNow (fun s => sat 8 (sumNat (s.crs.courses.map (fun p => p.2.moving.length)))),
  arr F.crsRuhActive 16 (fun s k => b2n (s.crs.bands.any (fun b => decide (b.kind = 0) && decide (b.handle = k)))),
  arr F.crsRuhOpen 16 (fun s k => sat 12 (s.openCourses (fun c => decide (c.band = 0) && decide (c.handle = k))).length),
  arr F.crsSkfreeMin 8 (fun s k => sat 16 ((minNat? (((List.range 1024).filter (fun d => s.inSvc (1024 * k + d))).map (fun d =>
    (s.erasedOn (1024 * k + d)).length))).getD 0)),
  arr F.crsSkopenOpen 8 (fun s k => sat 16 (sumNat ((s.openCourses (fun _ => true)).map (fun p =>
    (p.2.present.filter (fun m => decide (m.die / 1024 = k))).length)))) ]

/-- ECC (R236). -/
def liveEcc : List LiveRow := [
  one F.eccSlowStatNow (fun s => s.fl.slow.length), oneFree F.eccSynwMax, oneFree F.eccSynwMean,
  arr F.eccSlowlogAge 8 (fun s i => s.ageOf (Reg.eccSlowlog i) 1000000000 4095), oneFree F.eccHardbusyBusy, oneFree F.eccSoftbusyBusy,
  one F.eccRecbusyNow (fun s => sat 16 (s.rd.reads.filter (fun r => decide (r.2.phase = .rebuilding))).length), oneFree F.eccProbeoutNow,
  arr F.eccSkslowDies 8 (fun s k => (s.fl.slow.filter (fun p => decide (p.1 / 1024 = k))).length), arrFree F.eccSkcutCuts 8, arrFree F.eccSksusSusp 8 ]

/-- RCL (R255). -/
def liveRcl : List LiveRow := [
  one F.rclHealthPctused (fun s => s.pctUsed), one F.rclHealthAvail (fun s => s.spareLeft), one F.rclEcMinCount (fun s => s.eraseCounts.1),
  one F.rclEcMeanCount (fun s => s.eraseCounts.2.1), one F.rclEcMaxCount (fun s => s.eraseCounts.2.2), one F.rclRatedCycles (fun s => s.fl.geom.endur),
  one F.rclQueueRefq (fun s => sat 16 (s.crs.victims.filter (fun v => decide (1 ≤ v.reason) && decide (v.reason ≤ 5))).length),
  one F.rclQueueVicq (fun s => sat 16 (s.crs.victims.filter (fun v => decide (v.reason = 0))).length), oneFree F.rclCopyMbps, oneFree F.rclCopyWaf,
  one F.rclRetdayBlocks (fun s => s.retDay),
  arr F.rclTenstimeSeconds 8 (fun s k => sat 32 (s.fld (F.rclTenstimeSeconds k) +
    if k = s.fld F.rclTensionLevel then (s.clk.mono - s.crs.tensSince) / 1000000000 else 0)) ]

/-- LIF (R286). -/
def liveLif : List LiveRow := [
  one F.lifHoldStatNeed (fun s => s.holdNeed), oneFree F.lifHoldStatDumpest,
  one F.lifJuseCoursesb (fun s => s.lif.copyB.courses.length), one F.lifJuseCoursesa (fun s => s.lif.copyA.courses.length),
  one F.lifJuseSkb (fun s => s.lif.copyB.skein), one F.lifJuseSka (fun s => s.lif.copyA.skein),
  one F.lifCkptAgeOldest (fun s => sat 16 (maxNat (s.lif.kept.filterMap (fun p => p.2.head?.map (fun c => (s.clk.mono - c.time) / 1000000000))))) ]

/-- SKN and CHN (R308). -/
def liveSkn : List LiveRow := [
  arr F.sknStatLinkup 8 (fun s k => b2n (!(Tab.has k s.fl.down) && s.skeinUp k)), arrFree F.sknLinkRate 8, arrFree F.sknZqPdcode 8, arrFree F.sknZqPucode 8,
  arr F.sknZqAge 8 (fun s k => s.ageOf (Reg.sknZq k) 1000000000 255),
  arr F.sknQueueRd 8 (fun s k => sat 16 (s.rd.reads.filter (fun r => decide (r.2.phase = .queued) && decide (psaDie r.2.psa / 1024 = k))).length),
  arrFree F.sknQueuePe 8, arrFree F.sknBusyCh 8, arr F.sknBusyLun 8 (fun s k => (s.fl.ops.filter (fun o => decide (o.1 / 1024 = k))).length),
  arrFree F.sknXferMaxwait 8, arrFree F.sknXferMeanwait 8, arr F.sknDiesInsvc 8 (fun s k => s.svcOf k),
  arr F.sknDiesNotused 8 (fun s k => sumNat ((skeinChans k).map s.lunsOn) - s.svcOf k), arr F.sknRateAt4800 8 (fun s k => s.chansOf k (fun c => c.up && decide (c.rate = 4))),
  arr F.sknRateAt3600 8 (fun s k => s.chansOf k (fun c => c.up && decide (c.rate = 3))),
  arr F.sknRateBelow 8 (fun s k => s.chansOf k (fun c => c.up && decide (c.rate < 3))), arr F.sknRateDown 8 (fun s k => s.chansOf k (fun c => !c.up)),
  arr F.chnStatUp 512 (fun s c => b2n (s.chan c).up), arr F.chnStatRate 512 (fun s c => (s.chan c).rate),
  arr F.chnStatFallback 512 (fun s c => b2n (s.chan c).fallback), arr F.chnStatLuns 512 (fun s c => s.lunsOn c),
  arr F.chnStatInsvc 512 (fun s c => sumNat ((List.range 16).map (fun l => b2n (s.inSvc (16 * c + l)) * 2 ^ l))) ]

/-- HBM (R328). -/
def liveHbm : List LiveRow := [
  oneFree F.hbmScrubPct, one F.hbmScrubHours (fun s => sat 16 ((s.clk.mono - s.hbm.scrubbed) / 3600000000000)), one F.hbmZeroBusy (fun s => b2n s.hbm.zeroing.isSome),
  arr F.hbmStackSref 4 (fun s _ => b2n (decide (3 ≤ s.ps) || decide (4 ≤ s.fld F.pwrStatStep))), arrFree F.hbmPortWaitmax 8, arrFree F.hbmPortGbps 8,
  arrFree F.hbmPcStatWq 128, arrFree F.hbmPcStatRq 128 ]

/-- CMP (R345). -/
def liveCmp : List LiveRow := [
  one F.cmpNscntNs (fun s => (s.nss.filter (fun p => p.2.compress)).length), oneFree F.cmpRateInmbps, oneFree F.cmpRateOutmbps, oneFree F.cmpDrateMbps,
  oneFree F.cmpRatioPct, oneFree F.cmpBusyDec, oneFree F.cmpBusyComp,
  one F.cmpJstreamSplit (fun s => b2n (decide (s.lif.copyA.frames ≠ s.lif.copyB.frames))), one F.cmpJstreamPos (fun s => sat 16 (s.lif.copyA.frames - 1)) ]

/-- SUP, PWR and PAT (R360, R380, R383). -/
def liveSup : List LiveRow := [
  one F.supSnapAge (fun s => s.ageOf Reg.supSnap 1000000 65535), one F.supStresAge (fun s => s.ageOf Reg.supStres 1000000000 65535),
  one F.supPendHeld (fun s => if s.sup.yielded.isSome then sat 16 s.ownedCmds.length else 0), one F.supIntentOpen (fun s => s.intents),
  arr F.supSwlogAge 8 (fun s i => s.ageOf (Reg.supSwlog i) 60000000000 65535),
  one F.pwrPs1Rdgbps (fun _ => 280), one F.pwrPs1Wrgbps (fun _ => 110), one F.pwrPs2Rdgbps (fun _ => 160),
  arr F.pwrTimeSeconds 8 (fun s k => if k < 5 then sat 32 (s.psTime k) else 0),
  arr F.pwrEnthistAge 8 (fun s i => s.ageOf (Reg.pwrEnthist i) 1000000000 (2 ^ 21 - 1)), one F.patStatActive (fun _ => 0),
  one F.patCanaryAge (fun s => s.ageOf Reg.patCanary 1000000000 (2 ^ 20 - 1)), arr F.patSkworstAge 8 (fun s k => s.ageOf (Reg.patSkworst k) 1000000000 65535) ]

/-- STR and FWU (R408, R423). -/
def liveStr : List LiveRow := [
  arr F.strPortUp 2 (fun s p => b2n (if p = 0 then s.str.up0 else s.str.up1)), one F.strRollupAge (fun s => s.ageOf Reg.strRollup 1000000000 65535),
  one F.strWstatOpen (fun s => b2n ((Tab.find (s.fld F.strWselWin) s.str.windows).any (·.open_))),
  one F.strWstatStaged (fun s => b2n (decide (s.staged ≠ (Tab.find (s.fld F.strWselWin) s.str.windows).getD ⟨0, 0, 0, false, 0, false⟩))),
  one F.strWstatCopies (fun s => (s.str.ins.filter (fun c => decide (c.2.win = s.fld F.strWselWin) && !c.2.writes.isEmpty)).length),
  one F.strPeersMembers (fun s => sat 16 s.str.members.length), one F.strPeersReach (fun s => sat 16 s.reached),
  one F.strCreditWaiting (fun s => (s.str.out.filter (fun c => s.armed (.creditWait c.1))).length) ]

/-- CFS, SEC and the device-wide EVW fields (R445, R465, R481). -/
def liveSys : List LiveRow := [
  one F.cfsBusyOp (fun s => s.cfsOp), one F.cfsBusySector (fun s => s.cfsSector), one F.cfsBusyQueue (fun s => sat 9 (s.cfs.queue.length + s.sup.writes.length)),
  one F.cfsSpareReserve (fun s => s.reserve.length), one F.cfsCfguseFreesec (fun s => sat 8 (s.area 4).erased.length),
  arr F.cfsAreaSectors 8 (fun s a => (s.areaSectors a).length),
  arr F.cfsAreaEcmean 8 (fun s a => sumNat ((s.areaSectors a).map (fun b => (s.sector b).erases)) / Nat.max 1 (s.areaSectors a).length),
  one F.cfsCalstatLock (fun _ => 1),
  one F.secStatWiping (fun s => b2n (s.sec.lcRun.isSome || !s.adm.crypto.isEmpty)),
  arr F.secSessRole 2 (fun s p => (s.roleOf p).num),
  arr F.secSessIdle 2 (fun s p => ((s.session p).map (fun x => Nat.min 900 ((s.clk.mono - x.lastUse) / 1000000000))).getD 0),
  one F.secKeysMakerkey (fun s => b2n s.keys.makerKey.isSome), one F.secNskeyBusy (fun s => b2n (!s.adm.crypto.isEmpty)),
  one F.secNskeyKeys (fun s => s.keys.seeds.length), one F.secFailPf1 (fun s => sat 4 (s.recentFails 1).length),
  one F.secFailPf0 (fun s => sat 4 (s.recentFails 0).length), oneFree F.secRngOk, oneFree F.secRngReseeds,
  one F.evwStatCastfull (fun s => b2n (decide (16384 ≤ s.areas.cast.length))), one F.evwStatStaged (fun s => s.stg.staged.length),
  one F.evwOldestSeq (fun s => s.evwOldest), one F.evwNewestSeq (fun s => s.evwNewest), one F.evwCastuseUsed (fun s => s.areas.cast.length),
  one F.evwPersistAgems (fun s => sat 16 ((s.clk.mono - s.stg.lastPersist) / 1000000)) ]

/-- Every live row. -/
def liveRows : List LiveRow :=
  liveGen ++ (liveHif ++ (liveQen ++ (liveMap ++ (liveCrs ++ (liveEcc ++ (liveRcl ++ (liveLif ++ (liveSkn ++ (liveHbm ++ (liveCmp ++
    (liveSup ++ (liveStr ++ liveSys))))))))))))

/-- The fields of a row that lie in the dword at an offset, with their values. -/
def LiveRow.at (r : LiveRow) (s : State) (off : Nat) : List (Fld × Option Nat) :=
  let b := (r.fld 0).off
  let st := (r.fld 1).off - b
  [off, off + 2].filterMap (fun o =>
    if o < b then none
    else if st = 0 then (if o = b then some (r.fld 0, r.val s 0) else none)
    else if (o - b) % st = 0 ∧ (o - b) / st < r.n then some (r.fld ((o - b) / st), r.val s ((o - b) / st))
    else none)

/-- A register's word as a read finds it: the stored fields and the live ones; free values are drawn. -/
def State.liveWord (s : State) (off : Nat) : Word × State :=
  (liveRows.flatMap (fun r => r.at s off)).foldl (fun (wt : Word × State) x =>
    match x.2 with
    | some v => (x.1.put v wt.1, wt.2)
    | none => let d := wt.2.draw; (x.1.put d.1 wt.1, d.2)) (s.word off, s)

/-! ### Output pins (R463, R486, R494) -/

/-- LED_ACT: lit while any command is outstanding, off in PS3 and PS4. -/
def State.ledAct (s : State) : Bool := !s.q.cmds.isEmpty && decide (s.ps ≤ 2)

/-- LED_FAULT: lit in the dead state and, but for PS3 and PS4, while CSTS.CFS is 1 on any function or the supervisor has failed. -/
def State.ledFault (s : State) : Bool :=
  s.flag F.genStateDead || (decide (s.ps ≤ 2) && (s.flag F.supStatFailed || s.fns.any (fun p => p.2.cfs)))

/-- Whether the DBG_* balls are live: unlocked, in TEST. -/
def State.debugLive (s : State) : Bool := decide (s.lc = 0) && s.flag F.secDbgUnlock

end Sys2Proof.Machine
end

