-- ==== Sys2Proof/Machine/RegAccess.lean ====
section
/-! DEFINITION. Reads and writes of the registers of BAR2, by BAR2 and by C0h (R451, R452, R509 to R519, R151), and the rows of the
register fields that act when they are written. -/

namespace Sys2Proof.Machine

/-! ### Reading (R474, R477, R513, R518, R519) -/

/-- The LO and HI registers of the nine pairs of R513, in its order. -/
def pairRegs : List (Nat × Nat) :=
  [(Reg.genMonoLo, Reg.genMonoHi), (Reg.tkTimeLo, Reg.tkTimeHi), (Reg.qenFetchLo, Reg.qenFetchHi), (Reg.mapUeIdxLo, Reg.mapUeIdxHi),
   (Reg.crsSeqLo, Reg.crsSeqHi), (Reg.lifGseqLo, Reg.lifGseqHi), (Reg.hbmUeAddrLo, Reg.hbmUeAddrHi), (Reg.strWbaseLo, Reg.strWbaseHi),
   (Reg.fwuSchedLo, Reg.fwuSchedHi)]

/-- The value of a pair (R513). -/
def State.pairValue (s : State) (i : Nat) : Nat :=
  let stored := fun (p : Nat × Nat) => (s.word p.1).toNat + 2 ^ 32 * (s.word p.2).toNat
  match i with
  | 0 => s.clk.mono % 2 ^ 64
  | 1 => s.devTime
  | 2 => s.q.lastFetch
  | 4 => s.crs.lastSeq
  | 8 => s.fwu.armed.getD 0
  | _ => stored (pairRegs.getD i (0, 0))

/-- A read of a pair's LO register: the whole value is latched for the requester (R513). -/
def State.latchPair (s : State) (req i : Nat) : Nat × State :=
  let v := s.pairValue i
  (v % 2 ^ 32, { s with latches := Tab.put (req * 16 + i) (v / 2 ^ 32) s.latches })

/-- Whether BAR2 decodes an offset: in the dead state GEN and EVW only (R519). -/
def State.decodesReg (s : State) (off : Nat) : Bool :=
  decide (off < 0x10000) && (!(s.flag F.genStateDead) || decide (off < 0x100) || (decide (0x1A00 ≤ off) && decide (off < 0x1B00)))

/-- The banked EVW fields put in their registers' words (R474). -/
def State.banked (s : State) (pf off : Nat) (w : Word) : Word :=
  let b := s.bank pf
  if off = Reg.evwCtl then F.evwCtlArea.put b.area (F.evwCtlCastidx.put b.castIdx w)
  else if off = Reg.evwStat then F.evwStatOverrun.put (b2n b.overrun) (F.evwStatCleared.put (b2n b.cleared) w)
  else if off = Reg.evwCursor then F.evwCursorSeq.put b.cursor w
  else w

/-- The rows of the register at an offset, each with its field of that register. -/
def rowsOf (off : Nat) : List FieldRow := (rowsAt off).map (fun r => { r with fld := { r.fld with off := off } })

/-- Whether a dword holds a register, or two 16-bit ones (R510, R511). -/
def namesReg (off : Nat) : Bool := !(rowsOf off).isEmpty || !(rowsOf (off + 2)).isEmpty

/-- A read of the register at an offset for a requester of R513 (0 and 1 BAR2 through PF0 and PF1, 2 and 3 C0h): the dword and the state
after the side effects of the read. -/
def State.regRead (s : State) (req off : Nat) : Word × State :=
  let pf := req % 2
  let evw := fun (r : Nat × State) => ((BitVec.ofNat 32 r.1 : Word), r.2)
  if !(s.decodesReg off) || !(namesReg off) then (0, s)
  else
    match pairRegs.findIdx? (fun p => decide (p.1 = off)), pairRegs.findIdx? (fun p => decide (p.2 = off)) with
    | some i, _ => evw (s.latchPair req i)
    | none, some i => (BitVec.ofNat 32 (Tab.getD (req * 16 + i) 0 s.latches), s)
    | none, none =>
      if Reg.evwData 0 ≤ off ∧ off ≤ Reg.evwData 7 then
        let k := (off - Reg.evwData 0) / 4
        if !(s.mayReadEvents pf) then (0, s)
        else if k = 0 then evw (s.evwRead0 pf)
        else if k = 7 then evw (s.evwRead7 pf)
        else (BitVec.ofNat 32 ((s.bank pf).latch.getD k 0), s)
      else if off = Reg.secKdata then s.keyAccess false 0
      else if off = Reg.cfsDpdata then s.dpAccess false 0
      else
        let r := s.liveWord off
        (s.banked pf off r.1, r.2)

/-- The register's value for a requester, as a read would give it, without the side effects of a read. -/
def State.regPeek (s : State) (req off : Nat) : Word × State :=
  let pf := req % 2
  match pairRegs.findIdx? (fun p => decide (p.1 = off)), pairRegs.findIdx? (fun p => decide (p.2 = off)) with
  | some i, _ => (BitVec.ofNat 32 (s.pairValue i), s)
  | none, some i => (if i = 7 then s.word off else BitVec.ofNat 32 (Tab.getD (req * 16 + i) 0 s.latches), s)
  | none, none =>
    if Reg.evwData 0 ≤ off ∧ off ≤ Reg.evwData 7 then
      (if s.mayReadEvents pf then BitVec.ofNat 32 ((s.bank pf).latch.getD ((off - Reg.evwData 0) / 4) 0) else 0, s)
    else
      let r := s.liveWord off
      (s.banked pf off r.1, r.2)

/-- Whether a block answers in PS4 (R518). -/
def alwaysOn (off : Nat) : Bool := decide (off < 0x200) || (decide (0xC00 ≤ off) && decide (off < 0xE00))

/-- MSI-X vectors of a function (R509, R72). -/
def vectorsOf (fn : Nat) : Nat := if isPf fn then 2048 else 64

/-- A dword of a function's MSI-X table: message address, data, and vector control with its mask bit. -/
def State.msixRead (s : State) (fn k : Nat) : Word :=
  if k % 4 = 3 then BitVec.ofNat 32 (b2n (!((s.func fn).unmasked.contains (k / 4)))) else Tab.getD k 0 (s.func fn).msixTab

/-- A dword of a function's pending-bit array. -/
def State.pbaRead (s : State) (fn k : Nat) : Word :=
  BitVec.ofNat 32 (sumNat (((s.func fn).pend.filter (fun v => decide (v / 32 = k))).map (fun v => 2 ^ (v % 32))))

/-- A write of a dword of the MSI-X table; clearing a mask bit is MSIX_VECTOR_UNMASK (R119). -/
def State.msixWrite (s : State) (fn k : Nat) (val mask : Word) : State :=
  if k % 4 = 3 then
    if mask.toNat % 2 = 0 then s
    else if val.toNat % 2 = 0 then s.unmaskVector fn (k / 4)
    else s.updFunc fn (fun f => { f with unmasked := f.unmasked.filter (· ≠ k / 4) })
  else
    let w := (s.msixRead fn k &&& ~~~mask) ||| (val &&& mask)
    s.updFunc fn (fun f => { f with msixTab := Sparse.set (fun _ => (0 : Word)) k w f.msixTab })

/-- The part of BAR2 above the registers (R509): MSI-X table, pending-bit array, reserved ranges that read 0; none of it in the dead state. -/
def State.highRead (s : State) (pf off : Nat) : Word :=
  if s.flag F.genStateDead then 0
  else if off < 0x18000 then s.msixRead pf ((off - 0x10000) / 4)
  else if off < 0x18100 then s.pbaRead pf ((off - 0x18000) / 4)
  else 0

/-- A write to that part. -/
def State.highWrite (s : State) (pf off : Nat) (val mask : Word) : State :=
  if s.flag F.genStateDead ∨ 0x18000 ≤ off then s else s.msixWrite pf ((off - 0x10000) / 4) val mask

/-- A read over BAR2: in PS4 the gated blocks read 0 (R518). -/
def State.barRead (s : State) (pf off : Nat) : Word × State :=
  if s.ps = 4 ∧ !(alwaysOn off) then (0, s)
  else if 0x10000 ≤ off then (s.highRead pf off, s)
  else s.regRead pf off

/-! ### Clears -/

/-- A log cleared: its registers and their ages. -/
def State.clearLog (s : State) (offs : List Nat) : State :=
  let t := s.clearWords offs
  { t with stamps := t.stamps.filter (fun p => !(offs.contains p.1)) }

/-- HIF_CTL.CNTCLR (R95). -/
def State.hifCntClr (s : State) : State :=
  ((s.clearWords ((List.range 18).flatMap (fun n => [Reg.hifCnt 0 n, Reg.hifCnt 1 n]))).setFld F.hifUxcplCntCount 0).setFld F.hifPriStatLate 0

/-- SKN_CTL[s].CNTCLR: the skein's counters and its channels' error registers (R308). -/
def State.sknCntClr (s : State) (k : Nat) : State := s.clearWords ((List.range 16).map (Reg.sknCnt k) ++ (skeinChans k).map Reg.chnErr)

/-- PWR_CTL.HISTCLR: the times in each state and the entry history (R380). -/
def State.pwrHistClr (s : State) : State :=
  let t := s.clearLog ((List.range 8).map Reg.pwrEnthist)
  { t with pwr := { t.pwr with times := List.replicate 5 0, since := t.clk.mono } }

/-- RCL_CTL.TTCLR (R255). -/
def State.ttClr (s : State) : State :=
  let t := s.clearWords ((List.range 8).map Reg.rclTenstime)
  { t with crs := { t.crs with tensSince := t.clk.mono } }

/-- A channel in service retrained in full (R300). -/
def State.retrainChan (s : State) (c : Nat) : State := if (s.chan c).up then s.retrain c else s

/-- Every channel of a skein retrained in full (R308). -/
def State.retrainSkein (s : State) (k : Nat) : State := (skeinChans k).foldl (fun t c => t.retrainChan c) s

/-! ### What a WO or W1S bit does -/

/-- The counter clears: the CNTCLR bits of the block control registers. -/
def State.cntClr (s : State) (f : Fld) : Option State :=
  let clr := fun (n : Nat) (r : Nat → Nat) => some (s.clearWords ((List.range n).map r))
  if f = F.hifCtlCntclr then some s.hifCntClr
  else if f = F.qenCtlCntclr then clr 32 Reg.qenCnt
  else if f = F.mapCtlCntclr then clr 32 Reg.mapCnt
  else if f = F.crsCtlCntclr then clr 24 Reg.crsCnt
  else if f = F.eccCtlCntclr then clr 24 Reg.eccCnt
  else if f = F.rclCtlCntclr then clr 13 Reg.rclCnt
  else if f = F.lifCtlCntclr then clr 24 Reg.lifCnt
  else if f = F.hbmCtlCntclr then clr 16 Reg.hbmCnt
  else if f = F.cmpCtlCntclr then some s.cmpCntClr
  else if f = F.supCtlCntclr then some s.supCntClr
  else if f = F.pwrCtlCntclr then clr 32 Reg.pwrCnt
  else if f = F.patCtlCntclr then clr 16 Reg.patCnt
  else if f = F.strCtlCntclr then clr 32 Reg.strCnt
  else if f = F.fwuCtlCntclr then clr 3 Reg.fwuCnt
  else if f = F.cfsCtlCntclr then clr 12 Reg.cfsCnt
  else if f = F.secCtlCntclr then clr 24 Reg.secCnt
  else none

/-- The log and histogram clears. -/
def State.logClr (s : State) (f : Fld) : Option State :=
  if f = F.qenCtlHistclr then some (s.clearWords ((List.range 32).map Reg.qenHist))
  else if f = F.mapCtlHistclr then some (s.clearWords ((List.range 8).map Reg.mapSeampg))
  else if f = F.crsCtlPflogclr then some (s.clearWords ((List.range 8).map Reg.crsPflog))
  else if f = F.eccCtlSlowlogclr then some (s.clearLog ((List.range 8).map Reg.eccSlowlog))
  else if f = F.rclCtlTtclr then some s.ttClr
  else if f = F.lifCtlPfhistclr then some ((s.clearWords ((List.range 8).map Reg.lifPfhist)).cfsRequest 5 (.record 9 0 [] false) 2)
  else if f = F.supCtlLogclr then some s.supLogClr
  else if f = F.pwrCtlHistclr then some s.pwrHistClr
  else if f = F.secCtlDenyclr then some (s.setWord Reg.secDenylog 0)
  else if f = F.genCtlScrclr then some (s.clearWords ((List.range 4).map Reg.genScratch))
  else none

/-- What writing 1 to a WO or W1S field does, for a PF. A pass or a test that the bit starts ends with its own row. -/
def State.regAction (s : State) (pf : Nat) (f : Fld) : State :=
  match s.cntClr f, s.logClr f with
  | some t, _ => t
  | none, some t => t
  | none, none =>
    if f = F.paceCtlMinclr then s.paceMinClear
    else if f = F.hifAtcCtlFlush then s.atcFlush
    else if f = F.eccCtlRelease then s.releaseAllSlow
    else if f = F.hbmCtlScrubnow then s.scrubNow
    else if f = F.cmpTestRun then s.setFlag F.cmpTestRun
    else if f = F.strWctlCommit then s.windowCommit
    else if f = F.fwuCtlDiscard then s.fwDiscard
    else if f = F.cfsCtlScrub then s.arm .cfsScrub 0
    else if f = F.cfsDpctlCommit then s.dpCommit
    else if f = F.cfsDpctlDiscard then s.dpDiscard
    else if f = F.secKctlCommit then s.keyCommit pf
    else if f = F.secKctlDiscard then s.keyDiscard
    else if f = F.secDbgUnlock then s.debugUnlock
    else if f = F.evwCtlSeekold then s.evwSeekOld pf
    else if f = F.evwCtlSeeknew then s.evwSeekNew pf
    else if 0x2000 ≤ f.off ∧ f.off < 0x2400 then
      let k := (f.off - 0x2000) / 0x80
      if f = F.sknCtlCntclr k then s.sknCntClr k else if f = F.sknCtlRetrain k then s.retrainSkein k else s
    else if 0x4000 ≤ f.off ∧ f.off < 0x6000 then
      let c := (f.off - 0x4000) / 0x10
      if f = F.chnCfgRetrain c then s.retrainChan c else s
    else s

/-! ### Writing (R451, R452, R511, R514, R516) -/

/-- A register's word as a write finds it: the stored word, with banked fields and the staged dword of a data port. -/
def State.writeView (s : State) (pf off : Nat) : Word :=
  if off = Reg.secKdata then Tab.getD (s.fld F.secKselOffset) 0 s.sec.kbuf
  else if off = Reg.cfsDpdata then s.dpDword (s.fld F.cfsDpselOffset)
  else s.banked pf off (s.word off)

/-- The dies of a channel that are out of service, as the bits of CHN_CFG.LUNOUT that stay 1. -/
def State.outBits (s : State) (off : Nat) : Nat :=
  let c := (off - 0x4000) / 0x10
  (List.range 16).foldl (fun m l => if Tab.has (16 * c + l) s.fl.out then m ||| 2 ^ l else m) 0

/-- What an RW field stores of a value: its clipping rule (R514); `w` is the register's new word so far, which the fields to the left of it
have reached. -/
def State.clipped (s : State) (r : FieldRow) (w : Word) (old v : Nat) : Nat :=
  match r.clip with
  | .special =>
    if r.fld = F.crsStageOff then Nat.min v (F.crsStageOn.get w - 5)
    else if r.fld = F.hbmWdrainLow then Nat.min v (F.hbmWdrainHigh.get w - 8)
    else if r.fld = F.rclVictTarget then clampNat (s.adm.start + 1) 128 v
    else if r.fld = F.rclEolDegraded then clampNat 3 (F.rclEolThresh.get w - 1) v
    else if r.fld = F.mapCapCtlOp then Nat.max (clampNat 70 400 v) (s.lowestOp s.layout.1 s.layout.2)
    else if 0x4000 ≤ r.fld.off then v ||| s.outBits r.fld.off
    else v
  | c => c.apply r.fld.wid old v

/-- The RW fields of a register that a mask reaches, stored in a word one after another, from the left. -/
def State.storeRw (s : State) (rows : List FieldRow) (old merged mask : Word) : Word :=
  rows.foldl (fun w r =>
    if r.acc = .rw ∧ r.fld.get mask ≠ 0 then r.fld.put (s.clipped r w (r.fld.get old) (r.fld.get merged)) w else w) old

/-- A write of CRS_LAYOUT that would need a higher OP leaves both fields unchanged; WSEL 11b leaves itself unchanged (R178, R209). -/
def State.layoutWrite (s : State) (merged : Word) (word : Word) : Word × State :=
  let ws := if F.crsLayoutWsel.get merged = 3 then s.fld F.crsLayoutWsel else F.crsLayoutWsel.get merged
  let p := F.crsLayoutPly2.get merged
  let need := s.lowestOp (16 * 2 ^ ws) (1 + p)
  let keep := F.crsLayoutWsel.put (s.fld F.crsLayoutWsel) (F.crsLayoutPly2.put (s.fld F.crsLayoutPly2) word)
  if s.fld F.mapCapCtlOp < need then (keep, s.event 0x0406 merged.toNat need (s.fld F.mapCapCtlOp))
  else (F.crsLayoutWsel.put ws word, s)

/-- The new word of a register and the events of a refused value: MAP_CAP_CTL.OP while a namespace exists, and CRS_LAYOUT (R181, R209). -/
def State.newWord (s : State) (off : Nat) (rows : List FieldRow) (old merged mask : Word) : Word × State :=
  let w := s.storeRw rows old merged mask
  if off = Reg.mapCapCtl ∧ F.mapCapCtlOp.get mask ≠ 0 ∧ !s.nss.isEmpty then
    (F.mapCapCtlOp.put (F.mapCapCtlOp.get old) w, s.event 0x0305 (F.mapCapCtlOp.get merged) s.nss.length)
  else if off = Reg.crsLayout ∧ (F.crsLayoutWsel.get mask ≠ 0 ∨ F.crsLayoutPly2.get mask ≠ 0) then s.layoutWrite merged w
  else (w, s)

/-- The bits of W1C fields that a write clears. -/
def clearBits (rows : List FieldRow) (ones : Word) : Word :=
  rows.foldl (fun w r => if r.acc = .w1c then w ||| (r.fld.mask &&& ones) else w) 0

/-- A register's new word stored: in the PF's bank, the data ports, the staging copies, or the register itself (R400, R440, R453, R474). -/
def State.storeWord (s : State) (pf off : Nat) (w : Word) : State :=
  let b := s.bank pf
  if off = Reg.evwCtl then s.setBank pf { b with area := F.evwCtlArea.get w, castIdx := F.evwCtlCastidx.get w }
  else if off = Reg.evwStat then
    (s.setBank pf { b with overrun := decide (F.evwStatOverrun.get w = 1), cleared := decide (F.evwStatCleared.get w = 1) }).setWord off
      (F.evwStatOverrun.put 0 (F.evwStatCleared.put 0 w))
  else if off = Reg.evwCursor then s.evwCursor pf w.toNat
  else if off = Reg.secKsel then s.keySelect w
  else if off = Reg.secKdata then (s.keyAccess true w).2
  else if off = Reg.cfsDpsel then s.dpSelect w
  else if off = Reg.cfsDpdata then (s.dpAccess true w).2
  else if off = Reg.strWsel then s.windowSelect (F.strWselWin.get w)
  else s.setWord off w

/-- What follows at once from a stored value. -/
def State.regEffect (s : State) (off : Nat) : State :=
  if off = Reg.lifHoldup then s.protCheck
  else if off = Reg.rclEol then s.checkSpare.noteF
  else if off = Reg.crsCtl ∨ off = Reg.crsStage then s.noteStaging
  else if off = Reg.lifCkptCtl then s.noteJournal
  else s

/-- The fields that a write would change: an RW field whose stored value would differ, a W1C, W1S or WO field written with 1 (R451). -/
def State.changes (s : State) (rows : List FieldRow) (old merged mask ones : Word) : List FieldRow :=
  rows.filter (fun r =>
    match r.acc with
    | .ro => false
    | .rw => decide (r.fld.get mask ≠ 0) && decide (s.clipped r (s.storeRw rows old merged mask) (r.fld.get old) (r.fld.get merged) ≠ r.fld.get old)
    | _ => decide (r.fld.get ones ≠ 0))

/-- Whether a PF may change a field: it has the write role, which the EVW block does not ask for in the dead state (R451, R477, R481). -/
def State.mayWrite (s : State) (pf : Nat) (r : FieldRow) : Bool :=
  s.mayAs pf r.role || (s.flag F.genStateDead && decide (0x1A00 ≤ r.fld.off) && decide (r.fld.off < 0x1B00))

/-- The highest role among the fields that a write would change and may not. -/
def State.missing (s : State) (pf : Nat) (rows : List FieldRow) : Option Role :=
  (rows.filter (fun r => !(s.mayWrite pf r))).foldl (fun b r =>
    match b with
    | some x => if x.num < r.role.num then some r.role else b
    | none => some r.role) none

/-- A write of the masked bits of a register through a PF, by BAR2 (source 0) or C0h (source 1): refused whole where a field it would
change needs a role that the PF does not hold; else RW fields take their clipped values, W1C bits clear and actions happen; an accepted
change is recorded, and one of class K goes to the settings record (R451, R452, R514, R516). The flag is false for a refusal. -/
def State.regWrite (s : State) (src pf off : Nat) (val mask : Word) : Bool × State :=
  if !(s.decodesReg off) ∨ mask = 0 ∨ (s.flag F.genStateDead ∧ off < 0x100) then (true, s)
  else
    let rows := rowsOf off
    let old := s.writeView pf off
    let ones := val &&& mask
    let merged := (old &&& ~~~mask) ||| ones
    let hit := s.changes rows old merged mask ones
    match s.missing pf hit with
    | some role => (false, s.deny src role pf (off / 4))
    | none =>
      if rows.all (fun r => decide (r.acc = .ro)) then (true, s)
      else
        let (w, t) := s.newWord off rows old merged mask
        let t := t.storeWord pf off (w &&& ~~~(clearBits rows ones))
        let t := (hit.filter (fun r => decide (r.acc = .wo) || decide (r.acc = .w1s))).foldl (fun t r => t.regAction pf r.fld) t
        let t := t.regEffect off
        let t := if hit.any (fun r => decide (r.role ≠ .none)) then t.noteGated off (if off = Reg.secKdata then 0 else ones.toNat) pf else t
        (true, if hit.any (fun r => decide (r.cls = .k)) then t.saveSettings else t)

/-- Byte enables as a mask of bits (R511). -/
def beMask (be : Nat) : Word :=
  BitVec.ofNat 32 (sumNat ((List.range 4).map (fun i => if be.testBit i then 255 * 2 ^ (8 * i) else 0)))

/-- A write over BAR2 that reaches its target. -/
def State.barStore (s : State) (pf off : Nat) (val mask : Word) : State :=
  if 0x10000 ≤ off then s.highWrite pf off val mask else (s.regWrite 0 pf off val mask).2

/-- A write over BAR2 through a PF: it is a use of the PF's session; in PS4 a gated block's write is held until exit step 6 (R450, R518). -/
def State.barWrite (s : State) (pf off : Nat) (val : Word) (be : Nat) : State :=
  let t := s.touch pf
  if t.ps = 4 ∧ !(alwaysOn off) then { t with hif := { t.hif with held := t.hif.held ++ [(pf, ⟨off, val, be⟩)] } }
  else t.barStore pf off val (beMask be)

/-! ### The rows -/

/-- A row of BAR2 reaches a PF whose port is out of reset. -/
def onBar (s : State) (pf : Nat) (t : State) : Host.Outcome State Fault Refusal :=
  if 1 < pf then .fault .outOfRange else if (s.port pf).perst then .fault .unpowered else .next t

/-- The RW fields of a register as a write of them that changes nothing carries them. -/
def State.rwKept (s : State) (pf off : Nat) : Word :=
  (rowsOf off).foldl (fun w r => if r.acc = .rw then w ||| (r.fld.mask &&& s.writeView pf off) else w) 0

/-- A write of 1 to one bit of a register through a PF, its other fields left as they are. -/
def State.writeBit (s : State) (pf : Nat) (f : Fld) : State :=
  let m : Word := BitVec.ofNat 32 (2 ^ f.lo)
  let t := s.touch pf
  if t.ps = 4 ∧ !(alwaysOn f.off) then
    { t with hif := { t.hif with held := t.hif.held ++ [(pf, ⟨f.off, m ||| t.rwKept pf f.off, 2 ^ (f.lo / 8)⟩)] } }
  else (t.regWrite 0 pf f.off m m).2

/-- The meaning of a row that writes 1 to one field. -/
def onBit (s : State) (pf : Nat) (f : Fld) : Host.Outcome State Fault Refusal := onBar s pf (s.writeBit pf f)

/-- LATCHED_PAIR_LO_READ: the value of a pair is latched for a requester (R513). -/
def execLatchedPairLoRead (requester pair : Nat) (s : State) : Host.Outcome State Fault Refusal :=
  guarded (decide (requester < 4) && decide (pair < 9)) .outOfRange (s.latchPair requester pair).2

/-- REGISTER_WRITE (R451, R511, R514). -/
def execRegisterWrite (pf off : Nat) (val : Word) (be : Nat) (s : State) : Host.Outcome State Fault Refusal :=
  onBar s pf (s.barWrite pf off val be)

/-- REGISTER_ACCESS: C0h reads a register, or writes the masked bits as one indivisible read-modify-write; Dword 0 is its value after the
access, for a data port the value written (R151, R451, R512). -/
def execRegisterAccess (cmd : Nat) (write : Bool) (off : Nat) (val mask : Word) (reserved : Nat) (s : State) :
    Host.Outcome State Fault Refusal :=
  onAdmin s cmd (fun k =>
    if !isPf k.fn then s.finish cmd St.badOpcode
    else if !write then
      if reserved ≠ 0 ∨ off % 4 ≠ 0 ∨ 0x10000 ≤ off then s.finish cmd St.badField
      else let r := s.regRead (2 + k.fn) off; r.2.finish cmd St.ok r.1.toNat
    else
      let old := s.writeView k.fn off
      let r := s.regWrite 1 k.fn off val mask
      if !r.1 then r.2.finish cmd St.roleRequired
      else if reserved ≠ 0 ∨ off % 4 ≠ 0 ∨ 0x10000 ≤ off then s.finish cmd St.badField
      else if off = Reg.secKdata ∨ off = Reg.cfsDpdata then r.2.finish cmd St.ok ((old &&& ~~~mask) ||| (val &&& mask)).toNat
      else let x := r.2.regPeek (2 + k.fn) off; x.2.finish cmd St.ok x.1.toNat)

/-- PACE_MINCLR (R58). -/
def execPaceMinclr (pf : Nat) (s : State) : Host.Outcome State Fault Refusal := onBit s pf F.paceCtlMinclr
/-- ATC_FLUSH (R95). -/
def execAtcFlush (pf : Nat) (s : State) : Host.Outcome State Fault Refusal := onBit s pf F.hifAtcCtlFlush
/-- HIF_CNTCLR (R95). -/
def execHifCntclr (pf : Nat) (s : State) : Host.Outcome State Fault Refusal := onBit s pf F.hifCtlCntclr
/-- QEN_CNTCLR (R126). -/
def execQenCntclr (pf : Nat) (s : State) : Host.Outcome State Fault Refusal := onBit s pf F.qenCtlCntclr
/-- QEN_HISTCLR (R126). -/
def execQenHistclr (pf : Nat) (s : State) : Host.Outcome State Fault Refusal := onBit s pf F.qenCtlHistclr
/-- MAP_CNTCLR (R181). -/
def execMapCntclr (pf : Nat) (s : State) : Host.Outcome State Fault Refusal := onBit s pf F.mapCtlCntclr
/-- MAP_HISTCLR (R181). -/
def execMapHistclr (pf : Nat) (s : State) : Host.Outcome State Fault Refusal := onBit s pf F.mapCtlHistclr
/-- CRS_CNTCLR (R209). -/
def execCrsCntclr (pf : Nat) (s : State) : Host.Outcome State Fault Refusal := onBit s pf F.crsCtlCntclr
/-- CRS_PFLOGCLR (R209). -/
def execCrsPflogclr (pf : Nat) (s : State) : Host.Outcome State Fault Refusal := onBit s pf F.crsCtlPflogclr
/-- ECC_CNTCLR (R236). -/
def execEccCntclr (pf : Nat) (s : State) : Host.Outcome State Fault Refusal := onBit s pf F.eccCtlCntclr
/-- ECC_SLOWLOGCLR (R236). -/
def execEccSlowlogclr (pf : Nat) (s : State) : Host.Outcome State Fault Refusal := onBit s pf F.eccCtlSlowlogclr
/-- ECC_RELEASE (R229). -/
def execEccRelease (pf : Nat) (s : State) : Host.Outcome State Fault Refusal := onBit s pf F.eccCtlRelease
/-- RCL_CNTCLR (R255). -/
def execRclCntclr (pf : Nat) (s : State) : Host.Outcome State Fault Refusal := onBit s pf F.rclCtlCntclr
/-- RCL_TTCLR (R255). -/
def execRclTtclr (pf : Nat) (s : State) : Host.Outcome State Fault Refusal := onBit s pf F.rclCtlTtclr
/-- LIF_CNTCLR (R286). -/
def execLifCntclr (pf : Nat) (s : State) : Host.Outcome State Fault Refusal := onBit s pf F.lifCtlCntclr
/-- LIF_PFHISTCLR (R286). -/
def execLifPfhistclr (pf : Nat) (s : State) : Host.Outcome State Fault Refusal := onBit s pf F.lifCtlPfhistclr
/-- SKN_CNTCLR (R308). -/
def execSknCntclr (pf skein : Nat) (s : State) : Host.Outcome State Fault Refusal :=
  if 8 ≤ skein then .fault .outOfRange else onBit s pf (F.sknCtlCntclr skein)
/-- SKN_RETRAIN (R308). -/
def execSknRetrain (pf skein : Nat) (s : State) : Host.Outcome State Fault Refusal :=
  if 8 ≤ skein then .fault .outOfRange else onBit s pf (F.sknCtlRetrain skein)
/-- CHN_RETRAIN (R308). -/
def execChnRetrain (pf chan : Nat) (s : State) : Host.Outcome State Fault Refusal :=
  if 512 ≤ chan then .fault .outOfRange else onBit s pf (F.chnCfgRetrain chan)
/-- HBM_CNTCLR (R328). -/
def execHbmCntclr (pf : Nat) (s : State) : Host.Outcome State Fault Refusal := onBit s pf F.hbmCtlCntclr
/-- HBM_SCRUBNOW (R328). -/
def execHbmScrubnow (pf : Nat) (s : State) : Host.Outcome State Fault Refusal := onBit s pf F.hbmCtlScrubnow
/-- CMP_CNTCLR (R345). -/
def execCmpCntclr (pf : Nat) (s : State) : Host.Outcome State Fault Refusal := onBit s pf F.cmpCtlCntclr
/-- SUP_CNTCLR (R360). -/
def execSupCntclr (pf : Nat) (s : State) : Host.Outcome State Fault Refusal := onBit s pf F.supCtlCntclr
/-- SUP_LOGCLR (R360). -/
def execSupLogclr (pf : Nat) (s : State) : Host.Outcome State Fault Refusal := onBit s pf F.supCtlLogclr
/-- PWR_CNTCLR (R380). -/
def execPwrCntclr (pf : Nat) (s : State) : Host.Outcome State Fault Refusal := onBit s pf F.pwrCtlCntclr
/-- PWR_HISTCLR (R380). -/
def execPwrHistclr (pf : Nat) (s : State) : Host.Outcome State Fault Refusal := onBit s pf F.pwrCtlHistclr
/-- PAT_CNTCLR (R383). -/
def execPatCntclr (pf : Nat) (s : State) : Host.Outcome State Fault Refusal := onBit s pf F.patCtlCntclr
/-- STR_CNTCLR (R408). -/
def execStrCntclr (pf : Nat) (s : State) : Host.Outcome State Fault Refusal := onBit s pf F.strCtlCntclr
/-- STR_WCTL_COMMIT (R400). -/
def execStrWctlCommit (pf : Nat) (s : State) : Host.Outcome State Fault Refusal := onBit s pf F.strWctlCommit
/-- FWU_CNTCLR (R423). -/
def execFwuCntclr (pf : Nat) (s : State) : Host.Outcome State Fault Refusal := onBit s pf F.fwuCtlCntclr
/-- FWU_DISCARD (R412). -/
def execFwuDiscard (pf : Nat) (s : State) : Host.Outcome State Fault Refusal := onBit s pf F.fwuCtlDiscard
/-- CFS_CNTCLR (R445). -/
def execCfsCntclr (pf : Nat) (s : State) : Host.Outcome State Fault Refusal := onBit s pf F.cfsCtlCntclr
/-- CFS_DPCTL_COMMIT (R440). -/
def execCfsDpctlCommit (pf : Nat) (s : State) : Host.Outcome State Fault Refusal := onBit s pf F.cfsDpctlCommit
/-- CFS_DPCTL_DISCARD (R440). -/
def execCfsDpctlDiscard (pf : Nat) (s : State) : Host.Outcome State Fault Refusal := onBit s pf F.cfsDpctlDiscard
/-- SEC_KCTL_COMMIT (R453). -/
def execSecKctlCommit (pf : Nat) (s : State) : Host.Outcome State Fault Refusal := onBit s pf F.secKctlCommit
/-- SEC_KCTL_DISCARD (R453). -/
def execSecKctlDiscard (pf : Nat) (s : State) : Host.Outcome State Fault Refusal := onBit s pf F.secKctlDiscard
/-- SEC_DBG_UNLOCK (R463). -/
def execSecDbgUnlock (pf : Nat) (s : State) : Host.Outcome State Fault Refusal := onBit s pf F.secDbgUnlock
/-- SEC_CNTCLR (R465). -/
def execSecCntclr (pf : Nat) (s : State) : Host.Outcome State Fault Refusal := onBit s pf F.secCtlCntclr
/-- SEC_DENYCLR (R465). -/
def execSecDenyclr (pf : Nat) (s : State) : Host.Outcome State Fault Refusal := onBit s pf F.secCtlDenyclr
/-- EVW_SEEKOLD (R481). -/
def execEvwSeekold (pf : Nat) (s : State) : Host.Outcome State Fault Refusal := onBit s pf F.evwCtlSeekold
/-- EVW_SEEKNEW (R481). -/
def execEvwSeeknew (pf : Nat) (s : State) : Host.Outcome State Fault Refusal := onBit s pf F.evwCtlSeeknew
/-- GEN_SCRCLR (R522). -/
def execGenScrclr (pf : Nat) (s : State) : Host.Outcome State Fault Refusal := onBit s pf F.genCtlScrclr

/-- CMP_TEST_RUN: the bit starts the self-test, unless it runs already; the row carries its result (R343). -/
def execCmpTestRun (pf : Nat) (failed : List (Nat × Nat)) (s : State) : Host.Outcome State Fault Refusal :=
  let t := if s.flag F.cmpTestRun then s else s.writeBit pf F.cmpTestRun
  onBar s pf (if t.flag F.cmpTestRun then t.cmpTested failed else t)

/-- CFS_SCRUB: the bit starts a pass of R443 at once; the row carries what the pass finds. -/
def execCfsScrub (pf : Nat) (one two bad : List Nat) (s : State) : Host.Outcome State Fault Refusal :=
  let t := s.writeBit pf F.cfsCtlScrub
  onBar s pf (if t.dueOf .cfsScrub = some t.clk.mono then t.cfsScrubPass one two bad else t)

/-- STR_WSEL_WRITE (R400). -/
def execStrWselWrite (pf win : Nat) (s : State) : Host.Outcome State Fault Refusal :=
  onBar s pf (s.barWrite pf Reg.strWsel (BitVec.ofNat 32 win) 1)

/-- CFS_DPSEL_WRITE (R440). -/
def execCfsDpselWrite (pf : Nat) (val : Word) (s : State) : Host.Outcome State Fault Refusal := onBar s pf (s.barWrite pf Reg.cfsDpsel val 15)

/-- CFS_DPDATA_ACCESS (R440). -/
def execCfsDpdataAccess (pf : Nat) (write : Bool) (val : Word) (s : State) : Host.Outcome State Fault Refusal :=
  onBar s pf (if write then s.barWrite pf Reg.cfsDpdata val 15 else (s.barRead pf Reg.cfsDpdata).2)

/-- SEC_KSEL_WRITE (R453). -/
def execSecKselWrite (pf : Nat) (val : Word) (s : State) : Host.Outcome State Fault Refusal := onBar s pf (s.barWrite pf Reg.secKsel val 15)

/-- SEC_KDATA_ACCESS (R453). -/
def execSecKdataAccess (pf : Nat) (write : Bool) (val : Word) (s : State) : Host.Outcome State Fault Refusal :=
  onBar s pf (if write then s.barWrite pf Reg.secKdata val 15 else (s.barRead pf Reg.secKdata).2)

/-- EVW_DATA0_READ (R474). -/
def execEvwData0Read (pf : Nat) (s : State) : Host.Outcome State Fault Refusal := onBar s pf (s.barRead pf (Reg.evwData 0)).2

/-- EVW_DATA7_READ (R474). -/
def execEvwData7Read (pf : Nat) (s : State) : Host.Outcome State Fault Refusal := onBar s pf (s.barRead pf (Reg.evwData 7)).2

/-- EVW_CURSOR_WRITE (R475, R481). -/
def execEvwCursorWrite (pf seq : Nat) (s : State) : Host.Outcome State Fault Refusal :=
  onBar s pf (s.barWrite pf Reg.evwCursor (BitVec.ofNat 32 seq) 15)

end Sys2Proof.Machine
end

