-- ==== Sys2Proof/Machine/LowPower.lean ====
section
/-! DEFINITION. Waking from PS3 and PS4, the patrol wake (R368, R369, R373 to R375, R518) and the management sideband (R497, R498). -/

namespace Sys2Proof.Machine

/-! ### Wakes -/

/-- Exit step 6: the BAR2 writes held in PS4 take effect in the order of their arrival (R518). -/
def State.applyBarHeld (s : State) : State :=
  if s.ps = 4 then s
  else s.hif.held.foldl (fun (t : State) w => t.barStore w.1 w.2.addr w.2.data (beMask w.2.be)) { s with hif := { s.hif with held := [] } }

/-- A wake with its held writes (R369, R518). -/
def State.wakeUp (s : State) (cause dur : Nat) (ok : Bool) : State := (s.wake cause dur ok).applyBarHeld

/-- WAKE: before VOUT_COMMAND it abandons entry, after it the device exits to its last operational state; awake, it finds nothing to do. A
strand frame wakes from PS3 only (R368, R369). -/
def execWake (cause dur : Nat) (ok : Bool) (s : State) : Host.Outcome State Fault Refusal :=
  guarded (decide (cause ≤ 5) && !(decide (cause = 5) && decide (s.ps = 4))) .outOfRange (s.wakeUp cause dur ok)

/-- PATROL_WAKE: the period timer expires in PS4: the sequencer samples, reads skein s's canaries and compares; it sleeps again with the timer
armed afresh, or escalates and wakes the device with cause 0010b (R373, R375). -/
def execPatrolWake (temps : List Nat) (holdOk : Bool) (canaries : List (Bool × Nat × Nat)) (us dur : Nat) (ok : Bool) (s : State) :
    Host.Outcome State Fault Refusal :=
  if temps.length ≠ 13 then .fault .outOfRange
  else onTimer s .patrol (fun t =>
    let r := t.patrol temps holdOk canaries us
    if r.1 then r.2.wakeUp 2 dur ok else r.2.arm .patrol (nsSec (r.2.fld F.patCtlPeriod)))

/-! ### The management sideband (R497, R498) -/

/-- HEALTH_PUBLISH_TIMER: the copy is published every 100 ms, but not during a switch-over nor in PS3 and PS4 (R354, R497, R498). -/
def execHealthPublishTimer (s : State) : Host.Outcome State Fault Refusal :=
  onTimer s .healthPublish (fun t =>
    (if t.sup.yielded.isSome || decide (3 ≤ t.ps) || t.dump.running.isSome then t else t.publish).arm .healthPublish (nsMs 100))

/-- A temperature as the basic management command codes it: 7Fh for 127 °C and above, C4h for −60 °C and below. -/
def miTemp (c : Nat) : Nat := if toSigned 8 c < -60 then 0xC4 else c % 256

/-- The status data of a basic management read at 00h: length, status flags, SMART warnings inverted, composite temperature, drive life used,
two reserved bytes. Flag [7], SMBus arbitration, is a free value; [6] not ready, [5] functional, [4] reset not required, [3:2] link states.
In the dead state Drive Functional is 0 and Drive Not Ready 1; the layout is NVMe-MI's. -/
def State.miStatus (s : State) : List Nat × State :=
  let h := s.pins.health
  let dead := s.flag F.genStateDead
  let ready := decide (h.getD 3 0 = 1) && !dead
  let temp := if 3 ≤ s.ps then (hottest s.pwr.temps).1 else h.getD 1 0
  let links := h.getD 5 0
  let (arb, t) := s.draw
  let flags := 128 * (arb % 2) + 64 * b2n (!ready) + 32 * b2n (!dead) + 16 * b2n (decide (h.getD 4 0 = 0) && !dead) + 8 * (links % 2) +
    4 * (links / 2 % 2) + 3
  ([6, flags, 255 - h.getD 0 0 % 256, miTemp temp, h.getD 2 0, 0, 0], t)

/-- A basic management read: not answered during a dump, impossible with VDD_AON absent; in PS3 and PS4 the answer is followed by a wake of
cause 0100b (R497, R498). -/
def miRead (s : State) (dur : Nat) (ok : Bool) (r : List Nat × State) : Host.Outcome State Fault Refusal :=
  if !s.clk.aonUp then .fault .unpowered
  else if s.dump.running.isSome then .next s
  else
    let t := r.2.send (.sideband r.1)
    .next (if 3 ≤ s.ps then t.wakeUp 4 dur ok else t)

/-- MI_STATUS_READ (R497, R498). -/
def execMiStatusRead (dur : Nat) (ok : Bool) (s : State) : Host.Outcome State Fault Refusal := miRead s dur ok s.miStatus

/-- MI_VENDOR_ID_READ: length, vendor ID with the most significant byte first, and the 20 bytes of the serial number (R497). -/
def execMiVendorIdRead (dur : Nat) (ok : Bool) (s : State) : Host.Outcome State Fault Refusal :=
  miRead s dur ok ([22, 0x1F, 0x9E] ++ (List.range 20).map (fun i => Config.calDword (2 + i / 4) / 256 ^ (i % 4) % 256), s)

/-- I3C_SETDASA: from here the device answers only I3C SDR at the dynamic address (R497). -/
def execI3cSetdasa (addr : Nat) (s : State) : Host.Outcome State Fault Refusal :=
  if !s.clk.aonUp then .fault .unpowered
  else guarded (decide (addr < 128)) .outOfRange { s with pins := { s.pins with dynAddr := some addr } }

/-- I3C_RSTDAA: the static address is in force again (R497). -/
def execI3cRstdaa (s : State) : Host.Outcome State Fault Refusal :=
  if !s.clk.aonUp then .fault .unpowered else .next { s with pins := { s.pins with dynAddr := none } }

end Sys2Proof.Machine
end

