-- ==== Sys2Proof/Machine/Mem.lean ====
section
/-! DEFINITION. Memory requests from the host (R72 to R76, R91, R511): their decoding against the windows, the NVMe controller registers and
doorbells, the CMB and the expansion ROM. -/

namespace Sys2Proof.Machine

/-! ### Decoding (R72, R76, R519) -/

/-- What a memory address of a port reaches. -/
inductive MemTarget where
  | nvme (fn off : Nat)
  | regs (pf off : Nat)
  | cmb (pf off : Nat)
  | rom (pf off : Nat)
  | nothing
  deriving DecidableEq, Repr

/-- Whether an address lies in a window; a BAR that holds 0 has no address and decodes nothing (DESIGN CHOICE, log entry 33). -/
def inWindow (base size addr : Nat) : Bool := decide (base ≠ 0) && covers base size addr

/-- The window that an address hits, by the BARs and enables in force (R76). -/
def State.memTarget (s : State) (p addr : Nat) : MemTarget :=
  let f := s.func p
  let rom := f.romBar / 2 ^ 18 * 2 ^ 18
  if f.mse && inWindow f.bar2 (s.barSize p 2) addr then .regs p (addr - f.bar2)
  else if s.dead then .nothing
  else if f.mse && inWindow f.bar0 (s.barSize p 0) addr then .nvme p (addr - f.bar0)
  else if f.mse && inWindow f.bar4 (s.barSize p 4) addr then .cmb p (addr - f.bar4)
  else if f.mse && f.romBar % 2 = 1 && inWindow rom (s.barSize p 6) addr then .rom p (addr - rom)
  else if f.vfEn && f.vfMse && inWindow f.vfBar (65536 * Nat.min 512 f.numVfs) addr then
    .nvme (2 + 512 * p + (addr - f.vfBar) / 65536) ((addr - f.vfBar) % 65536)
  else .nothing

/-! ### NVMe registers (R134, R121, R122) -/

/-- A controller register as written, by dword number. -/
def Func.nvmeReg (f : Func) (k : Nat) : Nat := Tab.getD k 0 f.nvme

/-- A controller register as read (R134): CAP, VS, CC, CSTS, AQA, ASQ, ACQ, CMBLOC, CMBSZ; the others read 0. CMBLOC names BAR4 with offset 0;
CMBSZ counts units of 256 MiB (DESIGN CHOICE, log entry 34). -/
def State.nvmeRead (s : State) (fn k : Nat) : Nat :=
  let f := s.func fn
  let gib := if isPf fn then (s.cmbShare fn).2 / 2 ^ 30 else 0
  match k with
  | 0 => 16383 + 2 ^ 16 + 2 ^ 17 + 120 * 2 ^ 24
  | 1 => 4 * 2 ^ 20 + b2n (isPf fn) * 2 ^ 25
  | 2 => 0x00020000
  | 5 => f.nvmeReg 5 / 2 * 2 + b2n (f.en || f.enWait)
  | 7 => b2n f.rdy + 2 * b2n f.cfs + 4 * f.shst
  | 9 | 10 | 11 | 12 | 13 => f.nvmeReg k
  | 14 => if gib = 0 then 0 else 4
  | 15 => if gib = 0 then 0 else 1 + 8 + 16 + 4 * 2 ^ 8 + 4 * gib * 2 ^ 12
  | _ => 0

/-- CC written: EN from 0 to 1 with the sizes of AQA, EN from 1 to 0, or SHN (R84, R121, R122). An admin queue of one entry does not exist,
so such an AQA enables nothing (R99). -/
def State.ccWrite (s : State) (fn v : Nat) : State :=
  let f := s.func fn
  let aqa := f.nvmeReg 9
  let t := s.setFunc fn { f with nvme := Sparse.set (fun _ => 0) 5 v f.nvme }
  let was := f.en || f.enWait
  let keepCc := fun (t : State) => t.updFunc fn (fun f => { f with nvme := Sparse.set (fun _ => 0) 5 v f.nvme })
  if v % 2 = 0 then (if was then keepCc (t.ctrlReset fn) else t)
  else
    let asq := aqa % 4096 + 1
    let acq := aqa / 65536 % 4096 + 1
    let t := if (was && !f.enWait && decide (f.shst = 0)) || decide (asq < 2) || decide (acq < 2) then t else t.ctrlEnable fn (v / 2048 % 8) asq acq
    let shn := v / 16384 % 4
    if shn = 1 ∨ shn = 2 then t.shutdown fn shn else t

/-- A controller register or doorbell written (R72, R100). -/
def State.nvmeWrite (s : State) (fn off : Nat) (val mask : Word) : State :=
  let k := off / 4
  if 0x1000 ≤ off then
    let n := (off - 0x1000) / 4
    let v := (val &&& mask).toNat % 65536
    if mask = 0 then s else if n % 2 = 0 then s.sqDoorbell fn (n / 2) v else s.cqDoorbell fn (n / 2) v
  else
    let old : Word := BitVec.ofNat 32 ((s.func fn).nvmeReg k)
    let w := ((old &&& ~~~mask) ||| (val &&& mask)).toNat
    if k = 5 then s.ccWrite fn w
    else if 9 ≤ k ∧ k ≤ 13 then s.updFunc fn (fun f => { f with nvme := Sparse.set (fun _ => 0) k w f.nvme })
    else s

/-! ### The CMB (R73, R91) -/

/-- A dword of a PF's CMB window, and whether it holds poisoned bytes; beyond the PF's share zeros. -/
def State.cmbRead (s : State) (pf off : Nat) : Nat × Bool :=
  let sh := s.cmbShare pf
  if sh.2 ≤ off then (0, false)
  else
    let bs := (List.range 4).map (fun i => (Sparse.get (fun _ => (0 : Byte)) (sh.1 + off + i) s.hif.cmb).toNat)
    (bs.foldr (fun b v => b + 256 * v) 0, (List.range 4).any (fun i => s.hif.poisoned.contains (sh.1 + off + i)))

/-- A byte of the store written, marked poisoned or clean. -/
def Hif.putByte (h : Hif) (a : Nat) (b : Byte) (poisoned : Bool) : Hif :=
  { h with cmb := Sparse.set (fun _ => (0 : Byte)) a b h.cmb,
           poisoned := if poisoned then insertNew a h.poisoned else h.poisoned.filter (· ≠ a) }

/-- A dword of a PF's CMB window written; beyond the share it is discarded and counted. -/
def State.cmbWrite (s : State) (pf off : Nat) (d : DwReq) (poisoned : Bool) : State :=
  let sh := s.cmbShare pf
  if sh.2 ≤ off then { s with hif := { s.hif with cmbOver := s.hif.cmbOver + 1 } }
  else
    let h := (List.range 4).foldl (fun (h : Hif) i =>
      if d.be.testBit i then h.putByte (sh.1 + off + i) (BitVec.ofNat 8 (d.data.toNat / 256 ^ i)) poisoned else h) s.hif
    { s with hif := h }

/-! ### Requests (R76, R511) -/

/-- One dword of a memory write carried out. Poisoned data goes to the CMB only: elsewhere the write is dropped (PCI Express Base 7.0). -/
def State.memStore (s : State) (t : MemTarget) (d : DwReq) (poisoned : Bool) : State :=
  let mask := beMask d.be
  match t with
  | .cmb pf off => s.cmbWrite pf off d poisoned
  | .nvme fn off =>
    if poisoned then s
    else if 0x8000 ≤ off ∧ 2 ≤ fn then (if off < 0x8400 then s.msixWrite fn ((off - 0x8000) / 4) d.data mask else s)
    else s.nvmeWrite fn off d.data mask
  | .regs pf off => if poisoned then s else s.barWrite pf off d.data d.be
  | .rom _ _ => s
  | .nothing => s

/-- One dword of a memory read: its value, whether it is poisoned, and the state after the read's side effects; a BAR2 dword with no byte
enables has none (R511). -/
def State.memLoad (s : State) (t : MemTarget) (be : Nat) : (Nat × Bool) × State :=
  match t with
  | .cmb pf off => (s.cmbRead pf off, s)
  | .nvme fn off =>
    if 0x8000 ≤ off ∧ 2 ≤ fn then
      ((if off < 0x8400 then (s.msixRead fn ((off - 0x8000) / 4)).toNat
        else if 0xC000 ≤ off ∧ off < 0xC008 then (s.pbaRead fn ((off - 0xC000) / 4)).toNat
        else 0, false), s)
    else (((if 0x1000 ≤ off then 0 else s.nvmeRead fn (off / 4)), false), s)
  | .regs pf off =>
    let r := s.barRead pf off
    ((r.1.toNat, false), if be % 16 = 0 then s else r.2)
  | .rom _ off => ((Config.romDword (((s.committedImage.find? (fun p => decide (p.id = 9))).map (·.digest)).getD 0) (off / 4), false), s)
  | .nothing => ((0, false), s)

/-- The dwords of a read in ascending order: their values, whether any is poisoned, the state after them. -/
def State.memLoads (s : State) (p : Nat) (dws : List DwReq) : (List Nat × Bool) × State :=
  dws.foldl (fun (acc : (List Nat × Bool) × State) d =>
    let r := acc.2.memLoad (acc.2.memTarget p d.addr) d.be
    ((acc.1.1 ++ [r.1.1], acc.1.2 || r.1.2), r.2)) (([], false), s)

/-- MEMORY_REQUEST_RECEIVED: a TLP on a port, a dword at a time in ascending order; one that hits no enabled window is answered
Unsupported Request (R76, R91, R511). -/
def execMemoryRequestReceived (port tag : Nat) (write : Bool) (dws : List DwReq) (poisoned : Bool) (s : State) :
    Host.Outcome State Fault Refusal :=
  match dws with
  | [] => .fault .outOfRange
  | d :: _ =>
    if 1 < port then .fault .outOfRange
    else if !(s.port port).up then .fault .unpowered
    else
      let s := s.tlpIn port
      let s := if poisoned then (s.hifCnt port 5).aer port .poisoned else s
      if s.memTarget port d.addr = .nothing then
        .next (if write then s.aer port .unsupported else ((s.send (.unsupported port tag)).hifCnt port 2).aer port .unsupported)
      else if write then .next (dws.foldl (fun (t : State) d => t.memStore (t.memTarget port d.addr) d poisoned) s)
      else
        let r := s.memLoads port dws
        .next (r.2.send (if r.1.2 then .poisonedCpl port tag r.1.1 else .readCpl port tag r.1.1))

end Sys2Proof.Machine
end

