-- ==== Sys2Proof/Machine/LogPages.lean ====
section
/-! DEFINITION. Get Log Page: the standard pages of R147 and the vendor pages of R148. A page is a list of little-endian fields; bytes that no
field names read 0. -/

namespace Sys2Proof.Machine

/-- A field of a log page: first byte, width in bytes, value. -/
structure PageField where
  at_ : Nat
  wid : Nat
  val : Nat
  deriving DecidableEq, Repr

/-- A log page: its size in bytes and its fields. -/
structure Page where
  size   : Nat
  fields : List PageField
  deriving DecidableEq, Repr

/-- What a field puts into dword `k` of its page. -/
def PageField.dword (f : PageField) (k : Nat) : Nat :=
  let v := f.val % 256 ^ f.wid
  if f.at_ + f.wid ≤ 4 * k ∨ 4 * k + 4 ≤ f.at_ then 0
  else if 4 * k ≤ f.at_ then v * 256 ^ (f.at_ - 4 * k) % 2 ^ 32
  else v / 256 ^ (4 * k - f.at_) % 2 ^ 32

/-- Dwords of a page from a byte offset: at most `n`, and none past its end. -/
def Page.dwords (p : Page) (offset n : Nat) : List Nat :=
  (List.range (Nat.min n ((p.size - offset + 3) / 4))).map (fun i => sumNat (p.fields.map (fun f => f.dword (offset / 4 + i))))

/-- Dwords as fields from a byte on. -/
def dwordFields (at_ : Nat) (l : List Nat) : List PageField := (List.range l.length).map (fun i => ⟨at_ + 4 * i, 4, l.getD i 0⟩)

/-! ### Standard pages (R134, R139, R140, R143, R144, R147): their layouts are those of NVM Express Base 2.0 -/

/-- 01h: 64 bytes an entry, newest first: status and LBA of commands that ended with an error. -/
def Func.errorPage (f : Func) : Page :=
  ⟨16384, (List.range f.errors.length).flatMap (fun i =>
    let e := f.errors.getD i (0, 0, 0)
    [⟨64 * i, 8, f.errors.length - i⟩, ⟨64 * i + 10, 2, e.1⟩, ⟨64 * i + 12, 2, 2 * (0x200 + e.2.1)⟩, ⟨64 * i + 16, 8, e.2.2⟩])⟩

/-- 02h. Data units, busy time, cycles, hours and shutdowns, which the spec gives no source for, are free values from `d` on. -/
def State.smartPage (s : State) (d : Nat) : Page :=
  let free := fun (at_ wid i : Nat) => (⟨at_, wid, Config.freeNat (d + i)⟩ : PageField)
  let sensors := (List.range 8).map (fun i => (⟨200 + 2 * i, 2, (kelvin (s.pwr.temps.getD i 0)).toNat⟩ : PageField))
  ⟨512, [⟨0, 1, s.adm.critWarn⟩, ⟨1, 2, (kelvin (hottest s.pwr.temps).1).toNat⟩, ⟨3, 1, s.spareLeft / 100⟩, ⟨4, 1, s.fld F.rclEolThresh⟩,
    ⟨5, 1, s.pctUsed⟩, ⟨6, 1, s.adm.critWarn &&& 0xD⟩, free 32 16 0, free 48 16 1, ⟨64, 16, s.adm.reads⟩, ⟨80, 16, s.adm.writes⟩, free 96 16 2,
    free 112 16 3, free 128 16 4, free 144 16 5, ⟨160, 16, s.adm.mediaErrs⟩, free 176 16 6, free 192 4 7, free 196 4 8] ++ sensors⟩

/-- The version of the supervisor part of an image, as the revision of its slot: major, minor and patch. -/
def revisionOf (img : List FwPart) : Nat :=
  match img.find? (fun p => decide (p.id = 1)) with
  | some p => p.major % 2 ^ 16 + p.minor % 2 ^ 16 * 2 ^ 16 + p.patch % 2 ^ 32 * 2 ^ 32
  | none => 0

/-- 03h: the slot that runs, the one that will, and the revisions. -/
def State.slotPage (s : State) : Page :=
  let next := if s.fld F.fwuSlotPendingslot = 0 then 0 else s.fld F.fwuSlotPendingslot
  ⟨512, [⟨0, 1, s.fld F.fwuSlotRunning + 16 * next⟩, ⟨8, 8, revisionOf s.fwu.slot1⟩, ⟨16, 8, revisionOf s.fwu.slot2⟩]⟩

/-- The admin opcodes of R131 that a function is given. -/
def adminOpcodes (pf : Bool) : List Nat :=
  [0x00, 0x01, 0x02, 0x04, 0x05, 0x06, 0x08, 0x09, 0x0A, 0x0C, 0x19, 0x1A] ++
    (if pf then [0x0D, 0x10, 0x11, 0x15, 0x80, 0x84, 0xC0, 0xC1, 0xC2, 0xC3, 0xC4, 0xC5, 0xC6, 0xC8, 0xC9, 0xCA, 0xCB, 0xCC] else [])

/-- The I/O opcodes of R132. -/
def ioOpcodes (pf : Bool) : List Nat := [0x00, 0x01, 0x02, 0x04, 0x05, 0x08, 0x09, 0x0C, 0x12, 0x19, 0x1D] ++ (if pf then [0x81] else [])

/-- 05h: bit 0 of an entry says that the opcode is supported; its effects are NVM Express's and the module's. -/
def effectsPage (pf : Bool) : Page :=
  let entry := fun (base op : Nat) => (⟨base + 4 * op, 4, Config.pageDword 5 (base / 1024) op / 2 * 2 + 1⟩ : PageField)
  ⟨4096, (adminOpcodes pf).map (entry 0) ++ (ioOpcodes pf).map (entry 1024)⟩

/-- 12h: bit 0 of an entry says that the feature is supported. -/
def featuresPage : Page :=
  ⟨1024, ((List.range 256).filter (fun f => standardFeature f || vendorFeature f)).map (fun f => ⟨4 * f, 4, Config.pageDword 0x12 0 f / 2 * 2 + 1⟩)⟩

/-- 13h. -/
def miCommandsPage : Page := ⟨4096, dwordFields 0 ((List.range 256).map (Config.pageDword 0x13 0))⟩

/-- 09h, endurance group 1; figures with no source in the spec are free values from `d` on. -/
def State.endurancePage (s : State) (d : Nat) : Page :=
  let free := fun (at_ i : Nat) => (⟨at_, 16, Config.freeNat (d + i)⟩ : PageField)
  ⟨512, [⟨0, 1, s.adm.critWarn &&& 0xD⟩, ⟨3, 1, s.spareLeft / 100⟩, ⟨4, 1, s.fld F.rclEolThresh⟩, ⟨5, 1, s.pctUsed⟩, free 32 0, free 48 1, free 64 2,
    free 80 3, ⟨96, 16, s.adm.reads⟩, ⟨112, 16, s.adm.writes⟩, ⟨128, 16, s.adm.mediaErrs⟩, free 144 4, ⟨160, 16, s.userMib * 2 ^ 20⟩,
    ⟨176, 16, (s.userMib - s.nsMib) * 2 ^ 20⟩]⟩

/-- 0Ch: group 1, Optimized, with the namespaces attached to the controller (R134). -/
def Func.anaPage (f : Func) : Page :=
  ⟨48 + 4 * f.nss.length, [⟨8, 2, 1⟩, ⟨16, 4, 1⟩, ⟨20, 4, f.nss.length⟩, ⟨32, 1, 1⟩] ++ dwordFields 48 f.nss⟩

/-- 0Fh. -/
def State.aggregatePage (s : State) : Page := ⟨4096, if s.adm.egEvent then [⟨0, 8, 1⟩, ⟨8, 2, 1⟩] else []⟩

/-- The reclaim unit size of FDP configuration `i` in bytes (R139): (W − ply) blocks of the die found at discovery. -/
def State.rusz (s : State) (i : Nat) : Nat := (16 * 2 ^ (i / 2) - (1 + i % 2)) * (s.fl.geom.slots false * 4096)

/-- 20h: the six configurations, each with one reclaim group and 16 reclaim unit handles, Initially Isolated (type 1). -/
def State.fdpConfigs (s : State) : Page :=
  ⟨16 + 6 * 128, [⟨0, 2, 5⟩, ⟨4, 4, 16 + 6 * 128⟩] ++ (List.range 6).flatMap (fun i =>
    let b := 16 + 128 * i
    [⟨b, 2, 128⟩, ⟨b + 2, 1, 0x80⟩, ⟨b + 4, 4, 1⟩, ⟨b + 8, 2, 16⟩, ⟨b + 10, 2, 15⟩, ⟨b + 12, 4, 1024⟩, ⟨b + 16, 8, s.rusz i⟩] ++
      (List.range 16).map (fun h => (⟨b + 64 + 4 * h, 1, 1⟩ : PageField)))⟩

/-- 21h: a handle named by a namespace is host specified (1), another unused (0). -/
def State.handleUsage (s : State) : Page :=
  ⟨8 + 16 * 8, ⟨0, 2, 16⟩ :: (List.range 16).map (fun h => ⟨8 + 8 * h, 1, b2n (s.nss.any (fun p => p.2.handles.contains h))⟩)⟩

/-- 22h: bytes programmed for hosts and in all; the media bytes erased are a free value. -/
def State.fdpStats (s : State) (d : Nat) : Page :=
  ⟨64, [⟨0, 16, s.crs.hostProg * 4096⟩, ⟨16, 16, s.crs.allProg * 4096⟩, ⟨32, 16, Config.freeNat d⟩]⟩

/-- 23h: the events with their types and reclaim unit handles; their times are free values from `d` on. -/
def State.fdpEventsPage (s : State) (d : Nat) : Page :=
  let es := s.adm.fdpEvents
  ⟨64 + 64 * 63, ⟨0, 4, es.length⟩ :: (List.range es.length).flatMap (fun i =>
    let e := es.getD i (0, 0)
    [⟨64 + 64 * i, 1, e.1⟩, ⟨64 + 64 * i + 4, 8, Config.freeNat (d + i)⟩, ⟨64 + 64 * i + 34, 2, e.2⟩])⟩

/-- 81h: progress, status with the overwrite passes completed, the command's dword 10 and the estimates of R144; bit 8 of the status, and the
estimates that R144 does not give, are free values from `d` on. -/
def State.sanitizePage (s : State) (d : Nat) : Page :=
  let z := s.adm.sanitize
  let prog := if z.state = 2 then z.progress else 65535
  let passes := if z.action ≠ 3 then 0 else if z.state = 1 then z.passes else z.passes * z.progress / 65536
  let free := fun (at_ i : Nat) => (⟨at_, 4, Config.freeNat (d + i)⟩ : PageField)
  ⟨512, [⟨0, 2, prog⟩, ⟨2, 2, z.state + 8 * (passes % 32) + 256 * (Config.freeNat d % 2)⟩,
    ⟨4, 4, z.action + 16 * (z.passes % 16) + 256 * b2n z.invert + 512 * b2n z.noDealloc⟩,
    ⟨8, 4, 7037 * (if z.passes = 0 then 1 else z.passes)⟩, ⟨12, 4, 30⟩, ⟨16, 4, 10⟩, free 20 1, free 24 2, free 28 3]⟩

/-! ### Vendor pages (R148) -/

/-- Journal space in use: the rows of the courses that the fuller copy holds (DESIGN CHOICE, log entry 35). -/
def State.journalBytes (s : State) : Nat :=
  Nat.max s.lif.copyA.courses.length s.lif.copyB.courses.length * s.journalRows * 15 * 16384

/-- C0h, Device Health. -/
def State.healthPage (s : State) : Page :=
  ⟨512, [⟨0, 2, 1⟩, ⟨2, 1, s.fld F.rclTensionLevel⟩,
    ⟨3, 1, s.c0Flags + 16 * b2n (s.flag F.paceStatBelow) + 32 * b2n (s.flag F.tkStatReftlost)⟩, ⟨4, 2, s.fld F.paceLowPace⟩,
    ⟨6, 1, s.fld F.paceLowRegion⟩, ⟨8, 2, s.spareLeft⟩, ⟨10, 2, sat 16 s.freeF⟩, ⟨12, 4, s.fl.slow.length⟩, ⟨16, 8, s.devTime⟩,
    ⟨24, 4, 256 * s.adm.limit⟩, ⟨28, 4, s.buf.slots.length / 256⟩, ⟨32, 8, s.journalBytes⟩, ⟨40, 2, s.map.overlays.length * 10000 / poolTotal⟩]⟩

/-- C1h, Format Progress; the estimate of the time left is a free value. -/
def State.formatPage (s : State) (d : Nat) : Page :=
  let f := s.adm.format
  ⟨64, [⟨0, 4, f.nsid⟩, ⟨4, 1, f.state⟩, ⟨5, 1, f.ses⟩, ⟨6, 1, f.lbaf⟩, ⟨8, 2, f.progress⟩, ⟨10, 2, f.resumed⟩, ⟨16, 8, f.start⟩, ⟨24, 8, f.last⟩,
    ⟨32, 4, if f.state = 1 then Config.freeNat d else 0⟩]⟩

/-- C2h, Course and Media Statistics. -/
def State.mediaPage (s : State) : Page :=
  let e := s.eraseCounts
  ⟨1536, [⟨0, 4, e.1⟩, ⟨4, 4, e.2.1⟩, ⟨8, 4, e.2.2⟩, ⟨12, 4, e.2.2 - e.1⟩, ⟨16, 4, s.fld F.crsRetiredBlocks⟩,
    ⟨20, 4, (s.fl.blks.filter (fun p => decide (p.2.state = .bad))).length⟩, ⟨24, 8, s.fld F.crsTinkedWl⟩,
    ⟨32, 2, sat 16 (s.openCourses (fun _ => true)).length⟩, ⟨34, 2, sat 16 s.freeF⟩] ++
    (List.range 8).map (fun i => (⟨40 + 8 * i, 8, s.rd.ended.getD i 0⟩ : PageField)) ++
    (List.range 1024).map (fun i => (⟨512 + i, 1, sumNat ((s.fl.slow.filter (fun p => decide (p.1 / 8 = i))).map (fun p => 2 ^ (p.1 % 8)))⟩ : PageField))⟩

/-- C3h, Strand Status. -/
def State.strandPage (s : State) : Page :=
  ⟨512, [⟨0, 2, s.ownId⟩, ⟨2, 1, s.fleetRole⟩, ⟨3, 1, sectionOf s.ownId⟩, ⟨4, 2, s.fld F.strMgrSect⟩, ⟨6, 2, s.fld F.strMgrTop⟩,
    ⟨8, 1, b2n s.str.up0 + 2 * b2n s.str.up1⟩, ⟨10, 2, sat 16 s.reached⟩, ⟨12, 2, (s.str.windows.filter (fun w => w.2.open_)).length⟩,
    ⟨16, 8, s.str.missed⟩, ⟨24, 8, s.fld (F.strCntCount 12)⟩, ⟨32, 8, s.fld (F.strCntCount 15)⟩,
    ⟨40, 8, ofSigned 64 ((s.str.kept.head?.map (·.1)).getD 0)⟩]⟩

/-- The fields of a record of C4h. -/
def PaceRec.fields (r : PaceRec) (b : Nat) : List PageField :=
  [⟨b, 2, r.seq⟩, ⟨b + 2, 2, r.req⟩, ⟨b + 4, 2, r.vout⟩, ⟨b + 6, 4, r.iout⟩] ++ r.span.flatMap (fun p =>
    [⟨b + 16 + 8 * p.1, 2, p.2.low⟩, ⟨b + 18 + 8 * p.1, 2, p.2.sum / Nat.max 1 p.2.num⟩, ⟨b + 20 + 8 * p.1, 2, p.2.high⟩])

/-- C4h, Pace History: oldest record first. -/
def State.pacePage (s : State) : Page :=
  let rs := s.pace.history.reverse
  ⟨262208, [⟨0, 2, rs.length⟩, ⟨2, 2, s.fld F.paceCtlPeriod⟩] ++
    (List.range rs.length).flatMap (fun i => ((rs[i]?).map (fun r => r.fields (64 + 256 * i))).getD [])⟩

/-! ### The command -/

/-- A page that is supported (R147, R148), as a function reads it. -/
def State.logPage (s : State) (fn id : Nat) : Option Page :=
  let f := s.func fn
  let d := s.free
  match id with
  | 0x01 => some f.errorPage
  | 0x02 => some (s.smartPage d)
  | 0x03 => some s.slotPage
  | 0x04 => some ⟨4096, dwordFields 0 f.changed⟩
  | 0x05 => some (effectsPage (isPf fn))
  | 0x09 => some (s.endurancePage d)
  | 0x0C => some f.anaPage
  | 0x0F => some s.aggregatePage
  | 0x12 => some featuresPage
  | 0x13 => some miCommandsPage
  | 0x20 => some s.fdpConfigs
  | 0x21 => some s.handleUsage
  | 0x22 => some (s.fdpStats d)
  | 0x23 => some (s.fdpEventsPage d)
  | 0x81 => some (s.sanitizePage d)
  | 0xC0 => some s.healthPage
  | 0xC1 => some (s.formatPage d)
  | 0xC2 => some s.mediaPage
  | 0xC3 => some s.strandPage
  | 0xC4 => some s.pacePage
  | _ => none

/-- The pages of endurance group 1, whose log specific identifier must be 1. -/
def groupPage (id : Nat) : Bool := [0x09, 0x20, 0x21, 0x22, 0x23].contains id

/-- What a read of a page without RAE does: its asynchronous events may be posted again; the list of changed namespaces and the endurance
group's event are cleared. -/
def State.pageRead (s : State) (fn id : Nat) : State :=
  let t := s.updFunc fn (fun f => { f with aenMask := f.aenMask.filter (fun m => decide (m % 256 ≠ id)),
                                           changed := if id = 4 then [] else f.changed })
  if id = 0x09 then { t with adm := { t.adm with egEvent := false } } else t

/-- GET_LOG_PAGE: `numd` dwords of a page from a byte offset, which must be a multiple of 4 within the page; a page that is absent completes
with 09h (R128, R131, R133, R147, R148). While a sanitize runs, the vendor pages but C0h and C1h complete with 1Dh (R143). -/
def execGetLogPage (cmd page numd offset sel : Nat) (rae : Bool) (s : State) : Host.Outcome State Fault Refusal :=
  onAdmin s cmd (fun k =>
    match s.logPage k.fn page with
    | none => s.finish cmd St.badLogPage
    | some p =>
      if s.sanitizing ∧ 0xC2 ≤ page then s.finish cmd St.sanitizing
      else if offset % 4 ≠ 0 ∨ p.size < offset ∨ 2 ^ 20 < numd ∨ (groupPage page ∧ sel ≠ 1) then s.finish cmd St.badField
      else
        let t := s.send (.hostBuf cmd (p.dwords offset numd))
        let t : State := { t with free := t.free + 128 }
        (if rae then t else t.pageRead k.fn page).finish cmd St.ok)

end Sys2Proof.Machine
end

