-- ==== Sys2Proof/Machine/LifeCycle.lean ====
section
/-! DEFINITION. Life-cycle transitions (R455 to R459, R462) and the end of a configuration-store program, which carries them to their reset. -/

namespace Sys2Proof.Machine

/-- The role that a transition needs (R456): 0 TEST, 1 INSTALLED, 2 RETIRED; none for a transition not listed. -/
def transitionRole (old new : Nat) : Option Role :=
  match old, new with
  | 0, 1 | 1, 2 | 0, 2 => some .installer
  | 1, 0 | 2, 0 => some .maker
  | _, _ => none

/-- Whether a session gives the role that C6h needs: unlike other commands it needs one in TEST too, and INSTALLED to TEST needs MAKEREN
(R449, R456). -/
def State.mayTransit (s : State) (fn new : Nat) (need : Role) : Bool :=
  decide (need.num ≤ (s.roleOf fn).num) && (decide (s.lc ≠ 1) || decide (new ≠ 0) || s.flag F.secCtlMakeren)

/-- What makes an allowed transition complete with 0Ch (R457); a missing installer key does too (DESIGN CHOICE, log entry 36). -/
def State.transitionBlocked (s : State) (new : Nat) : Bool :=
  (decide (new ≠ 2) && !s.nss.isEmpty) || (decide (s.lc = 0) && decide (new = 1) && s.keys.instKey.isNone) ||
    decide (s.adm.format.state = 1) || s.sanitizing || s.fwu.run.isSome || !s.map.stalled.isEmpty || s.fwu.armed.isSome

/-- LIFE_CYCLE_TRANSITION: C6h checks the transition, its role and its conditions, counting a refusal, then steps 1 and 2 of R458: the transition runs (SEC_STAT.WIPING), and fetch stops
on every function. CLEAN_STOP carries on steps 3 and 4, the key set step 5. -/
def execLifeCycleTransition (cmd target reserved : Nat) (s : State) : Host.Outcome State Fault Refusal :=
  onVendor s cmd .none (fun k =>
    s.superGate cmd <|
    match transitionRole s.lc target with
    | none => (s.secCnt 17).finish cmd St.badField
    | some need =>
      if !(s.mayTransit k.fn target need) then ((s.deny 3 need k.fn 0xC6).secCnt 17).finish cmd St.roleRequired
      else if reserved ≠ 0 then (s.secCnt 17).finish cmd St.badField
      else if s.sec.lcRun.isSome ∨ s.transitionBlocked target then (s.secCnt 17).finish cmd St.sequence
      else
        let t := s.noteGated 0xC6 target k.fn
        { t with sec := { t.sec with lcRun := some (cmd, target, (s.roleOf k.fn).num, s.clk.mono, 2) }, q := { t.q with fetchStop := true } })

/-- Step 7 of R458: the sessions end, and once every event record is persisted the device cold-resets itself, AON SRAM wiped as well
(R450, R462). -/
def State.lcReset (s : State) : State :=
  match s.sec.lcRun with
  | some (c, _, _, _, 7) =>
    if s.sec.sess0.isSome || s.sec.sess1.isSome then ((s.endSession 0 4).endSession 1 4).persistStaged 4
    else if s.stg.staged.isEmpty then
      let t := (s.post c).coldReset 3
      { t with sec := State.reset.sec, stg := { t.stg with gated := [] } }
    else s
  | _ => s

/-- CFS_PROGRAM_COMPLETE: meaning only while a program is in progress (R427). -/
def execCfsProgramComplete (erased : Bool) (pulses : Nat) (pass : Bool) (s : State) : Host.Outcome State Fault Refusal :=
  match s.cfs.op with
  | some j =>
    if j.isErase then .fault .noSuchObject
    else .next (s.programComplete j erased pulses pass State.endRole).lcReset
  | none => .fault .noSuchObject

end Sys2Proof.Machine
end

