-- ==== Sys2Proof/Machine/Discover.lean ====
section
/-! DEFINITION. The first part of a cold start: regulator, calibration row, boot locator and supervisor load, staged events, and target discovery
(R291 to R299, R318, R319, R418, R419, R425, R432, R433, R442, R472, R495, R496). -/

namespace Sys2Proof.Machine

/-! ### Steps 1 to 4 of R495 -/

/-- Records staged before the reset are persisted before any new one is staged (R472). -/
def State.flushStaged (s : State) : State :=
  let ev := fun (j : CfsJob) => match j.work with
    | .event _ => false
    | _ => true
  let t : State := { s with cfs := { s.cfs with queue := s.cfs.queue.filter ev, op := s.cfs.op.filter ev } }
  s.stg.staged.foldl (fun t r =>
    let t := (t.advanceArea 6).cfsCnt 0
    let t := if r.seq ≤ 16384 then (t.advanceArea 5).cfsCnt 0 else t
    t.persisted r.seq) t

/-- Erases that a reset cut short begin again: an area that keeps a sector erased ahead and has none erases its oldest, and a round clear still
in force erases its sectors (R425, R430, R478). -/
def State.eraseAgain (s : State) : State :=
  let queued := fun (t : State) (o : Nat) => t.cfs.queue.any (fun j => j.work = .erase o)
  let t := [(1, 3), (2, 3), (3, 2), (6, 4), (7, 5)].foldl (fun (t : State) (p : Nat × Nat) =>
    match (t.area p.1).erased, (t.area p.1).full with
    | [], o :: _ => if queued t o then t else t.cfsRequest p.2 (.erase o) 1
    | _, _ => t) s
  let t := if t.areas.clearTo.isSome then (t.area 6).full.foldl (fun t o => if queued t o then t else t.cfsRequest 4 (.erase o) 1) t else t
  t.compact

/-- Step 1: the linear exponent is read, the slew rate set and 0.80 V requested, or the regulator does not answer and its power-on voltage
stays (R42, R43, R46, R496). -/
def State.startVolts (s : State) (mode : Option Nat) : State :=
  match mode with
  | some m =>
    let t := (s.send (.pmbus 0x20 m)).send (.pmbus 0x27 1)
    ({ t with pace := { t.pace with voutExp := m % 32 } } : State).requestVolts 800
  | none => ({ s with pace := { s.pace with pmbusFails := 3 } } : State).setFlag F.paceVstatNoack

/-- No REFT edge at step 1: the backup oscillator (R51, R496). -/
def State.startReft (s : State) (edge : Bool) : State :=
  if edge then s
  else
    let t := (s.setFlag F.tkStatReftlost).setFlag F.strStatOutoftime
    if s.flag F.tkStatReftlost then t else (t.setFlag F.tkStatReftseen).event 0x0105 (s.clk.mono / 1000)

/-- Both PFs report CSTS.CFS and never become ready (R319, R433). -/
def State.neverReady (s : State) : State := (s.setCfs [0, 1]).publish

/-- The delays of the calibration row in HBM_PC_DLY, once the row has verified (R318, R319). -/
def State.loadDelays (s : State) : State :=
  (List.range 128).foldl (fun t p => t.setWord (Reg.hbmPcDly p) (BitVec.ofNat 32 (Config.calDword (256 + p)))) s

/-- The slot that the boot locator names: a pending one from its commit onward (R418). -/
def State.bootSlot (s : State) : Nat :=
  if s.flag F.fwuStatPending ∧ s.fld F.fwuSlotPendingslot ≠ 0 then s.fld F.fwuSlotPendingslot else s.fld F.fwuSlotCommitted

/-- The boot registers: what read valid, the copies that failed, the loader bank, the slot named. -/
def State.noteBoot (s : State) (slot valid1 valid2 part : Nat) : State :=
  let v := if slot = 2 then valid2 % 16 else valid1 % 16
  let t := ((s.setFld F.cfsBootlocValid1 valid1).setFld F.cfsBootlocValid2 valid2).setFld F.cfsBootlocBank s.fwu.bank
  let t := ((t.setFld F.genBootFailpart part).setFld F.genBootCopies (15 - v)).setFld F.fwuSlotCommitted slot
  (t.setFld F.fwuSlotPendingslot 0).clrFlag F.fwuStatPending

/-- The dead state (R419, R519). -/
def State.die (s : State) (copy part : Nat) : State := ((s.setFlag F.genStateDead).event 0x0E05 copy part).publish

/-- The slot loaded: it runs, whatever ran before (R418). -/
def State.runSlot (s : State) (slot : Nat) : State :=
  (({ s with fwu := { s.fwu with running := [] } } : State).setFld F.fwuSlotRunning slot).noteVersions

/-! ### Target discovery (R295 to R299) -/

/-- Bytes `lo` to `lo + n − 1` of a record's payload, little-endian. -/
def payloadField (p : List Nat) (lo n : Nat) : Nat :=
  (List.range n).foldl (fun acc i => acc + p.getD ((lo + i) / 4) 0 / 256 ^ ((lo + i) % 4) % 256 * 256 ^ i) 0

/-- The geometry and timing that a die description and a parameter page give (R441). -/
def geomOf (p : List Nat) (blocks wls : Nat) : Geom :=
  let us := fun (lo : Nat) => payloadField p lo 2 * 1000
  { blocks := blocks, wls := wls, rated := payloadField p 32 4 * 1024, endur := payloadField p 36 2, tr := us 40, trMax := us 42,
    trSlc := us 44, trSlcMax := us 46, tp := us 48, tpMax := us 50, tpSlc := us 52, tpSlcMax := us 54, te := us 56, teMax := us 58,
    suspendP := (payloadField p 39 1).testBit 0, suspendE := (payloadField p 39 1).testBit 1, maxRate := payloadField p 38 1 }

/-- The requirements of R296 that a geometry can fail. -/
def Geom.fits (g : Geom) : Bool :=
  decide (683 ≤ g.wls) && decide (g.wls ≤ 2731) && decide (1024 ≤ g.blocks) && decide (g.blocks ≤ 4096) &&
    decide (g.rated * 64 ≤ g.blocks * (3 * g.wls - 1)) && decide (0 < g.rated)

/-- A die description of the record log (R438, R441). -/
def State.description (s : State) (i : Nat) (blocks wls : Nat) : Option Geom :=
  ((Tab.find (2 * 256 + i) s.records).map (fun r => geomOf r.payload blocks wls)).filter (fun g => g.fits)

/-- The number of channels on which LUN `l` is a usable die. -/
def State.usableAt (s : State) (f : StartFacts) (l : Nat) : Nat :=
  let bad := (f.unfit ++ f.gone).eraseDups
  ((List.range 512).filter (fun c => decide (l < s.lunsOn c) && !(bad.contains (16 * c + l)))).length

/-- Ranks admitted whole in ascending order while they stay within 1 PiB: their number and capacity in MiB (R299). -/
def State.admission (s : State) (f : StartFacts) : Nat × Nat × Bool :=
  (List.range 16).foldl (fun (a : Nat × Nat × Bool) l =>
    let cap := s.fl.geom.rated * s.usableAt f l
    if a.2.2 && decide (0 < cap) && decide (a.2.1 + cap ≤ 2 ^ 30) then (l + 1, a.2.1 + cap, true) else (a.1, a.2.1, false)) (0, 0, true)

/-- The roster written at a first discovery: admission, the description, factory marks, allotments and the spare base (R249, R298, R299). Blocks
retired before the roster was rebuilt count as bad from then on. -/
def State.writeRoster (s : State) (f : StartFacts) : State :=
  let (ranks, raw, _) := s.admission f
  let bad := (f.unfit ++ f.gone).eraseDups
  let unused := (List.range 8192).filter (fun d => decide (d % 16 < ranks) && (bad.contains d || !(decide (d % 16 < s.lunsOn (d / 16)))))
  let old := s.fl.blks.filterMap (fun p => if f.swapped.contains (p.1 / 4096) then none
    else if p.2.state = .retired then some (p.1, { p.2 with state := .bad }) else some p)
  let t : State := { s with fl := { s.fl with ranks := ranks, admitted := ranks, raw := raw, unused := unused, out := [], roster := true, blks := old } }
  let t := (f.badBlocks.filter (fun b => t.inSvc (b / 4096))).foldl (fun t b => t.updBlk b (fun x => { x with state := .bad })) t
  let dies := (List.range 8192).filter t.inSvc
  let t : State := { t with fl := { t.fl with good := sumNat (dies.map t.goodOn) } }
  let t := ((t.setFld F.rclSpareS0 (sumNat (dies.map t.allotment))).setFld F.rclSpusedUsed 0).setFld F.rclDiesoutDies 0
  (List.range 16).foldl (fun t i => t.cfsRequest 5 (.record 3 i ((List.range 512).map (fun j => t.goodOn (512 * i + j))) false) 65) t

/-- A die out of service at a start, with what discovery saw: 4 not answering, 5 no valid parameter page. -/
def State.notFound (s : State) (d kind : Nat) : State :=
  if s.inSvc d then
    let k := d / 1024
    let t := (s.setFlag (F.sknStatOutseen k)).sknErr d kind
    (t.eventFrom 0x0802 k (t.word (Reg.sknErrlog k)).toNat).dieOut d 1
  else s

/-- A later start follows the roster (R298). -/
def State.followRoster (s : State) (f : StartFacts) : State :=
  let t : State := { s with fl := { s.fl with ranks := s.fl.admitted } }
  let short := (List.range 8192).filter (fun d => t.inSvc d && !(decide (d % 16 < t.lunsOn (d / 16))))
  let t := (f.gone ++ short).foldl (fun t d => t.notFound d 4) t
  let t := f.unfit.foldl (fun t d => t.notFound d 5) t
  f.swapped.foldl (fun t d => t.dieOut d 3) t

/-- The dies that CHN_CFG.LUNOUT takes out of service (R308). -/
def State.lunOut (s : State) : State :=
  (List.range 512).foldl (fun t c =>
    let m := t.fld (F.chnCfgLunout c)
    if m = 0 then t else (List.range 16).foldl (fun t l => if m.testBit l then t.dieOut (16 * c + l) 2 else t) t) s

/-- Every channel with a die in service trained in full (R291, R297 step 5), the short calibration begun on every skein, Tj noted. -/
def State.trainAll (s : State) (rates : List (Nat × Nat)) : State :=
  let t := (List.range 512).foldl (fun t c =>
    if (List.range 16).any (fun l => t.inSvc (16 * c + l)) then (t.setChan c ⟨true, 0, false⟩).trainFull c (Tab.getD c 4 rates) else t) s
  (List.range 8).foldl (fun t k =>
    let tj := t.pwr.temps.getD (k + 1) 0
    let t := ((t.setFld (F.sknTempTj k) tj).setFld (F.sknTempTraintj k) tj).stamp (Reg.sknZq k)
    if t.skeinUp k then t.arm (.zqShort k) (nsMs (t.fld (F.sknTrainZqsms k))) else t) t

/-- R297: with no description that the dies match, or one whose requirements they fail, no die is used. -/
def State.discover (s : State) (f : StartFacts) : State :=
  let t : State := { s with fl := { s.fl with luns := Nat.min 16 f.luns, lunsAt := f.fewer } }
  let pick := if s.fl.roster then s.fl.desc else f.desc
  match pick.bind (fun i => t.description i f.blocks f.wls) with
  | none => t
  | some g =>
    let t : State := { t with fl := { t.fl with geom := g, desc := pick } }
    let t := if t.fl.roster then t.followRoster f else t.writeRoster f
    (t.lunOut.trainAll f.rates).setFld F.rclDiesoutDies t.lunOut.fl.out.length

end Sys2Proof.Machine
end

