-- ==== Sys2Proof/Machine/Recover.lean ====
section
/-! DEFINITION. Recovery: the journal and the checkpoints read, the replay, courses left open, re-erases, the dump, a first start
(R246, R259, R260, R279 to R284, R525). -/

namespace Sys2Proof.Machine

/-! ### Replay (R259, R260) -/

/-- A map as replay builds it: the extents that are not unwritten. -/
abbrev Replayed := List (Nat × Ext)

/-- An extent of it. -/
def replayGet (m : Replayed) (e : Nat) : Ext := Sparse.get (fun _ => Ext.unwritten) e m

/-- An extent of it set. -/
def replayPut (e : Nat) (x : Ext) (m : Replayed) : Replayed := Sparse.set (fun _ => Ext.unwritten) e x m

/-- Fine entries set, with the free fold. -/
def replayFines (e : Nat) (fs : List FEntry) (m : Replayed) : Replayed := replayPut e ((foldFines fs).getD (.fine fs)) m

/-- The fine entries that a fine record works on: those of a compressed extent have no place of their own. -/
def replayBase (x : Ext) : List FEntry := x.fines.getD (List.replicate 16 .unwritten)

/-- What a coarse entry of MAP_SET says. -/
def CEntry.toExt : CEntry → Ext
  | .coarse a => .coarse a
  | .frame a n => .frame a n
  | .overlay _ | .unwritten => .unwritten

/-- The conditional record: applied only if the entry still names its old PSA. -/
def replayMove (m : Replayed) (e slot : Nat) (whole frame : Bool) (count old new : Nat) : Replayed :=
  match replayGet m e with
  | .coarse a => if whole && !frame && decide (a = old) then replayPut e (.coarse new) m else m
  | .frame a n => if whole && frame && decide (a = old) && decide (n = count) then replayPut e (.frame new n) m else m
  | .fine fs => if !whole && decide (fs[slot]? = some (.mapped old)) then replayFines e (fs.set slot (.mapped new)) m else m
  | .unwritten => m

/-- A record replayed; `on` says of an extent whether its segment's replay has reached the record. -/
def replayRec (on : Nat → Bool) (m : Replayed) : Rec → Replayed
  | .mapSet e c => if on e then replayPut e c.toExt m else m
  | .mapFine e i f => if on e then replayFines e ((replayBase (replayGet m e)).set i f) m else m
  | .dealloc e n mask =>
    if mask = 0xFFFF then m.filter (fun p => !(decide (e ≤ p.1) && decide (p.1 < e + n) && on p.1))
    else if on e then
      match (replayGet m e).fines with
      | some fs => replayFines e ((List.range 16).map (fun i => if mask.testBit i then FEntry.unwritten else fs.getD i .unwritten)) m
      | none => m
    else m
  | .moveCommit e i w f n o p => if on e then replayMove m e i w f n o p else m
  | .seamCommit e p f n => if on e then replayPut e (if f then .frame p n else .coarse p) m else m
  | .courseOpen .. | .courseClose .. | .erasePending .. | .eraseDone .. | .retire .. | .checkpointMark .. | .stitchMarker .. => m

/-- The groups to apply: up to the first that neither copy holds; and those after them. -/
def passOne (lostA lostB : List Nat) : List Group → List Group × List Group
  | [] => ([], [])
  | g :: rest =>
    if lostA.contains g.num && lostB.contains g.num then ([], g :: rest)
    else
      let r := passOne lostA lostB rest
      (g :: r.1, r.2)

/-! ### Pass 1: the journal (R280) -/

/-- A group read from copy B after copy A failed. Which of the four failures of R280 it was is not told apart: a free value. -/
def State.fellBack (s : State) (g : Nat) : State :=
  let (v, t) := s.draw
  (t.lifCnt 12).copyError 0 (1 + v % 2) (g % 2 ^ 28)

/-- The last group to apply found: sequences go on from it, and marks in later groups do not count. -/
def State.readJournal (s : State) (lostA lostB : List Nat) : List Group × State :=
  let from_ := (s.lif.anchor.map (·.group)).getD 0
  let r := passOne lostA lostB (s.lif.journal.filter (fun g => decide (from_ ≤ g.num)))
  let t := (r.1.filter (fun g => lostA.contains g.num)).foldl (fun t g => t.fellBack g.num) s
  let t := match r.2 with
    | [] => t
    | g :: rest =>
      let seq := (g.recs.head?.map (fun (x : Nat × Bool × Rec) => x.1)).getD t.lif.nextRec
      let u : State := { t with lif := { t.lif with nextRec := seq, closed := g.num - 1, committed := g.num - 1,
                                                    journal := t.lif.journal.filter (fun x => decide (x.num < g.num)) } }
      if rest.any (fun x => !(lostA.contains x.num && lostB.contains x.num)) then
        let u := ((u.fellBack g.num).setFlag F.lifStatGapseen).degrade 2
        u.event 0x0704 (u.word Reg.lifCopyerr).toNat
      else u
  let top := t.lif.committed
  let keep := fun (l : List Ckpt) => l.filter (fun (c : Ckpt) => decide (c.group ≤ top))
  let t : State := { t with lif := { t.lif with kept := t.lif.kept.map (fun (p : Nat × List Ckpt) => (p.1, keep p.2)) } }
  (r.1, t.noteGroup t.lif.committed)

/-! ### Steps 4 to 6: checkpoints, pass 2, valid counts (R279, R283) -/

/-- The checkpoint that a segment is loaded from, with `bad` of the kept ones unreadable: nothing where both are; a segment with fewer than two
starts, in place of an older one, from nothing at SEQ 1. -/
def chooseCkpt (kept : List Ckpt) (bad : Nat) : Option (Nat × List (Nat × Ext)) :=
  match kept.drop bad with
  | c :: _ => some (c.start, c.exts)
  | [] => if 2 ≤ kept.length then none else some (1, [])

/-- One segment's loading noted: an unreadable checkpoint, or both. -/
def State.noteCkpt (s : State) (g bad : Nat) (lost : Bool) : State :=
  let t := if bad = 0 then s else s.setFlag F.lifStatCkptfailseen
  if lost then
    let t : State := { t with map := { t.map with lost := insertNew g t.map.lost } }
    (((t.setFlag F.mapStatLostseen).event 0x0303 g).degrade 1).mapCnt 22
  else if bad = 0 then t else t.lifCnt 13

/-- An extent put in the map memory as recovery loads it: overlay blocks are taken in order. -/
def State.loadExt (s : State) (e : Nat) (x : Ext) : State :=
  let m := s.map
  let v := addRefs m.valid x.refs
  let set := fun (c : CEntry) => Sparse.set (fun _ => CEntry.unwritten) e c m.coarse
  match x with
  | .fine fs =>
    let i := m.overlays.length
    let ov : Overlay := { owner := e, epoch := s.fld F.mapEpochEpoch % 256, fine := fs }
    ({ s with map := { m with valid := v, overlays := Tab.put i ov m.overlays, coarse := set (.overlay i) } } : State).mapCnt 6
  | .coarse a => { s with map := { m with valid := v, coarse := set (.coarse a) } }
  | .frame a n => { s with map := { m with valid := v, coarse := set (.frame a n) } }
  | .unwritten => s

/-- The map loaded from checkpoints and replayed from the groups to apply. -/
def State.loadMap (s : State) (groups : List Group) (bad : List (Nat × Nat)) : State :=
  let segs := (s.lif.kept.map (·.1)).filter (fun g => decide (g < 6144))
  let picks := segs.map (fun g => (g, chooseCkpt (s.keptOf g) (Tab.getD g 0 bad)))
  let t := s.lif.kept.foldl (fun t p =>
    let b := Nat.min (Tab.getD p.1 0 bad) (s.keptOf p.1).length
    t.noteCkpt p.1 b (decide (p.1 < 6144) && (chooseCkpt (s.keptOf p.1) b).isNone)) s
  let base := picks.foldl (fun m p => match p.2 with
    | some c => c.2.foldl (fun m x => replayPut x.1 x.2 m) m
    | none => m) []
  let start := fun (g : Nat) => match picks.find? (fun p => p.1 = g) with
    | some (_, some c) => c.1
    | _ => 1
  let gone := fun (g : Nat) => t.map.lost.contains g
  let m := groups.foldl (fun m g => g.recs.foldl (fun m r =>
    replayRec (fun e => !(gone (segOf e)) && !(recBefore r.1 (start (segOf e)))) m r.2.2) m) base
  let t := m.foldl (fun t p => t.loadExt p.1 p.2) t
  t.notePool

/-! ### Courses and blocks (R281) -/

/-- Courses of host data emptied by a record that is not among the groups applied stand again; other blocks whose ERASE_PENDING is not among them
have it recorded again. -/
def State.restoreEmptied (s : State) : State :=
  let open_ := fun (b : Blk) => decide (b.state = .erasePending) && decide (s.lif.committed < b.group)
  let back := s.crs.emptied.filter (fun p => decide (p.2.band ≤ 2) &&
    p.2.present.any (fun m => decide ((s.blk m.id).course = p.1) && open_ (s.blk m.id)))
  let t := back.foldl (fun (t : State) p =>
    let u := p.2.present.foldl (fun (u : State) m =>
      if (u.blk m.id).course = p.1 ∧ open_ (u.blk m.id) then u.updBlk m.id (fun b => { b with state := .closed, group := 0 }) else u) t
    { u with crs := { u.crs with courses := Tab.put p.1 p.2 u.crs.courses } }) s
  let t : State := { t with crs := { t.crs with emptied := [] } }
  (t.fl.blks.filter (fun p => open_ p.2)).foldl (fun t p =>
    let u := t.batch [.erasePending (p.1 / 4096) (p.1 % 4096)]
    u.updBlk p.1 (fun b => { b with group := u.lastGroup })) t

/-- A wordline found tinked. -/
def State.foundTinked (s : State) (b wl : Nat) : State :=
  let t := s.updBlk b (fun x => { x with tinked := some (Nat.min wl (x.tinked.getD wl)) })
  (t.addSat F.crsTinkedWl 1).lifCnt 19

/-- A course left open closed early at its highest complete row. -/
def State.closeFound (s : State) (n : Nat) (c : Course) : State :=
  let row := ((minNat? ((c.present.filter (fun m => m.drop.isNone)).map (·.done))).getD 0) - 1
  let t := s.updCourse n (fun c => { c with closed := true, early := true, closeEpoch := s.fld F.mapEpochEpoch, closeTime := s.clk.mono })
  let t := c.present.foldl (fun t m => t.updBlk m.id (fun x => if x.state = .opened then { x with state := .closed } else x)) t
  let t := (t.batch [.courseClose n row true c.droppedMask]).touchParts (c.present.map (fun m => m.id / 4096))
  ((t.setFlag F.crsStatEarlyseen).crsCnt 4).crsCnt 5

/-- Every course left open closed early. The open journal courses close with their copies' moves. -/
def State.closeOpen (s : State) : State :=
  (s.crs.courses.filter (fun p => !p.2.closed)).foldl (fun t p =>
    if p.1 = t.lif.copyA.course ∨ p.1 = t.lif.copyB.course then t.updCourse p.1 (fun c => { c with early := true })
    else t.closeFound p.1 p.2) s

/-- A course of a list emptied, where it is still listed. -/
def State.emptyAll (s : State) (ns : List Nat) : State :=
  ns.foldl (fun t n => match t.course n with | some c => t.courseEmpty n c | none => t) s

/-- New journal courses for both copies: those formed ahead hold nothing (R265, R279 step 6). -/
def State.newJournals (s : State) (first : Nat) : State :=
  let ahead := [s.lif.copyA.ahead, s.lif.copyB.ahead].filterMap (fun a => a.map (·.1))
  let t : State := { s with lif := { s.lif with copyA := { s.lif.copyA with ahead := none }, copyB := { s.lif.copyB with ahead := none } } }
  ((t.emptyAll ahead).nextCopyCourse 0 first).nextCopyCourse 1 first

/-- Courses queued again: those with a failed block still to be emptied, and those with data on dies out of service (R250, R281). -/
def State.requeue (s : State) : State :=
  s.crs.courses.foldl (fun t p =>
    let t := if p.2.moving.isEmpty then t
      else
        let u := t.queueVictim p.1 9 2
        if p.2.ply = 1 then u.queueVictim p.1 5 6 else u
    if decide (p.2.band ≤ 2) && p.2.present.any (fun m => !(t.inSvc m.die) && decide (0 < t.validOf m.id)) then t.queueVictim p.1 10 4 else t) s

/-- Step 6 of R279 for the courses: `first` is the SEQ that recovery's own records start at. -/
def State.tidyCourses (s : State) (first : Nat) : State :=
  let t := s.restoreEmptied.closeOpen
  let t := (t.crs.courses.filter (fun p => p.2.closed && decide (p.2.band ≤ 2))).foldl (fun t p => t.settleCourse p.1) t
  let t := if t.fl.ranks = 0 then t else t.newJournals first
  (if t.dump.sealed.isSome then t else t.emptyAll ((t.crs.courses.filter (fun p => p.2.band = 6)).map (·.1))).pruneKept.requeue

/-- After any but a clean stop every block's read count is set to half the limit (R246). -/
def State.halfReads (s : State) : State :=
  let half := s.fld F.rclRefCtlRdlim * 10000 / 2
  { s with fl := { s.fl with blks := s.fl.blks.map (fun p => (p.1, { p.2 with reads := half })) } }

/-! ### What waited for a commit that did not come (R142, R157, R461) -/

/-- Granules of deleted namespaces whose records were lost are set unwritten again, and so are the namespaces of a crypto erase that has not
replaced its keys; one that has is given its key set. -/
def State.redoErases (s : State) : State :=
  let t := (s.adm.freeing.filter (fun p => decide (s.lif.committed < p.1))).foldl (fun t p =>
    p.2.foldl (fun t g => let (u, r) := t.deallocWhole (g * 16384) 16384; u.batch r) t) s
  let late := fun (r : CryptoRun) => !r.keyed && decide (s.lif.committed < r.group)
  let t := (s.adm.crypto.filter late).foldl (fun t r => r.nsids.foldl (fun t i => match Tab.find i t.nss with
    | some n => t.clearNs n
    | none => t) t) t
  let g := t.lastGroup
  let t : State := { t with adm := { t.adm with freeing := t.adm.freeing.map (fun p => if s.lif.committed < p.1 then (g, p.2) else p),
                                                crypto := t.adm.crypto.map (fun r => if late r then { r with group := g } else r) } }
  if t.adm.crypto.any (·.keyed) && !t.keySetWaits then t.cfsRequest 3 .keySet keySetWords else t

/-- No copy of the seed table matches its digest (R283). R479 lists no event for it: the event's code, source and level are free values. -/
def State.loseSeeds (s : State) : State :=
  if s.nss.isEmpty then s
  else
    let t : State := { s with keys := { s.keys with seeds := [] } }
    let (code, t) := (t.degrade 6).draw
    let (src, t) := t.draw
    let (lvl, t) := t.draw
    t.stageEvent (code % 65536) (src % 256) (lvl % 5) 0 0 0 0

/-- A Format or a Sanitize that the stop cut short goes on (R142, R143). -/
def State.resumeErases (s : State) : State :=
  let f := s.adm.format
  let t := if f.state ≠ 1 then s
    else
      let ids := if f.nsid = 0xFFFFFFFF then s.nss.map (·.1) else [f.nsid]
      let t : State := { s with adm := { s.adm with format := { f with resumed := f.resumed + 1 } } }
      if f.ses = 2 ∧ t.adm.crypto.any (fun r => r.why = 1) then
        let u := t.formatRun ids 0
        { u with adm := { u.adm with format := { u.adm.format with group := none } } }
      else t.formatRun ids f.ses
  let z := t.adm.sanitize
  if z.state ≠ 2 ∨ z.action = 3 then t
  else
    let u := t.clearAll
    if z.action = 4 ∧ !(u.adm.crypto.any (fun r => r.why = 2)) then u.cryptoStart (u.nss.map (·.1)) 2 else u

/-! ### The dump (R282) -/

/-- The number that a dumped command's slots go by: those of the commands fetched after the start stay below it. -/
def dumpCmd (c : Nat) : Nat := c + 2 ^ 64

/-- The dumped slots by unit, in fetch order: command, namespace, unit and the slots with their places in the directory. -/
def dumpUnits (ds : List DumpSlot) : List (Nat × Nat × Nat × List (Nat × DumpSlot)) :=
  let xs := (List.range ds.length).zip ds
  let keys : List (Nat × List (Nat × Nat)) := ds.foldl (fun t d =>
    Tab.put d.cmd (insertNew (d.nsid, d.lba / 256) (Tab.getD d.cmd [] t)) t) []
  keys.flatMap (fun p => p.2.map (fun u => (p.1, u.1, u.2,
    xs.filter (fun x => decide (x.2.cmd = p.1) && decide (x.2.nsid = u.1) && decide (x.2.lba / 256 = u.2)))))

/-- The first LBAs of the extents of a unit. -/
def unitExtents (unit : Nat) : List Nat := (List.range 16).map (fun i => 256 * unit + 16 * i)

/-- Whether slots of an extent wait to be carried by a read-modify-write. -/
def State.partRmw (s : State) (n : Ns) (c nsid lba : Nat) : Bool :=
  let ps := (s.slotsIn c nsid lba 16).filter (fun p => p.2.place.isNone)
  !ps.isEmpty && decide (ps.length ≠ 16) && (n.index lba).any (fun e => s.needsRmw e n.compress)

/-- A readable unit buffered, and placed but for its part extents that need a read-modify-write. The directory does not name the placement
handle: handle 0. -/
def State.bufferDumped (s : State) (n : Ns) (c nsid unit : Nat) (ds : List DumpSlot) : State :=
  let t := ds.foldl (fun t d => t.bufferSlots c dumpFn nsid d.lba [(d.data, d.mdata)]) s
  (unitExtents unit).foldl (fun t lba =>
    if t.partRmw n c nsid lba then t else t.placeExtent c nsid lba 0 none n.compress ⟨false, [], []⟩) t

/-- A course's rows programmed within the start, up to where its slots are program-safe: its partial row is padded, and in TLC mode the row
above it. -/
def State.programThrough (s : State) (n : Nat) : State :=
  match s.course n with
  | none => s
  | some c =>
    match c.topRow n with
    | none => s
    | some r =>
      let row := Nat.min c.last (if c.slc then r else r + 1)
      let gain := fun (ps : List Nat) => sumNat (ps.map (fun p => match c.mem p with
        | some m => if m.serves row then row + 1 - m.done else 0
        | none => 0))
      let t := s.padTo n row
      let t := t.updCourse n (fun c => { c with members := c.members.map (fun o => o.map (fun m =>
        if m.serves row then { m with iss := Nat.max m.iss (row + 1), done := Nat.max m.done (row + 1) } else m)) })
      let data := gain (c.dataPos n)
      let t := (t.crsCnt 6 data).crsCnt 7 (gain (c.parityPos n) * (if c.slc then 1 else 3))
      let t : State := { t with crs := { t.crs with
        allProg := t.crs.allProg + spw c.slc * data, hostProg := if c.band ≤ 1 then t.crs.hostProg + spw c.slc * data else t.crs.hostProg } }
      match t.course n with
      | some c => if c.finished then t.closeCourse n c.last else t
      | none => t

/-- Every open course of the host, staging and reclaim bands programmed through. -/
def State.programOpen (s : State) : State :=
  ((s.crs.courses.filter (fun p => !p.2.closed && decide (p.2.band ≤ 2))).map (·.1)).foldl (fun t n => t.programThrough n) s

/-- The read-modify-writes of a command written back where their images are program-safe. -/
def State.writeBackAll (s : State) (c : Nat) : State :=
  (s.crs.rmws.filter (fun p => p.2.cmd = c)).foldl (fun t p =>
    if p.2.place.any (fun q => t.runSafe q (if p.2.frame = 0 then 16 else p.2.frame)) then t.writeBack p.1 p.2 else t) s

/-- A buffered unit applied in its turn, its read-modify-writes first carried out. -/
def State.applyDumped (s : State) (n : Ns) (c nsid unit : Nat) : State :=
  let parts := (unitExtents unit).filter (fun lba => s.partRmw n c nsid lba)
  let t := parts.foldl (fun t lba => match n.index lba with
    | some e => t.startRmw c nsid e lba [] n.compress
    | none => t) s
  let t := if parts.isEmpty then t else t.programOpen
  let t := if (t.unitSlots c nsid unit).all (fun p => t.slotReady p.2) then t.applyUnit c nsid unit else t
  (t.writeBackAll c).lifCnt 16

/-- A unit that cannot be completed: one whose completion was posted has its LBAs marked, a media error counted and event 0705h recorded; one
that was not is dropped. -/
def State.loseDumped (s : State) (n : Ns) (c nsid unit : Nat) (ds : List DumpSlot) : State :=
  let t := (s.setFlag F.lifStatDumpshortseen).lifCnt 17
  if !(ds.any (·.posted)) then t
  else
    let (t, rs) := (unitExtents unit).foldl (fun (acc : State × List Rec) lba =>
      let is := (ds.filter (fun d => covers lba 16 d.lba)).map (fun d => d.lba % 16)
      match is.isEmpty, n.index lba with
      | false, some e =>
        if acc.1.segLost (segOf e) then acc
        else
          match acc.1.ext e with
          | .frame _ _ => (acc.1.startRmw c nsid e lba is n.compress, acc.2)
          | _ =>
            let (u, r) := acc.1.setSlots e (is.map (fun i => (i, FEntry.marked)))
            (u.mapCnt 18 is.length, acc.2 ++ r)
      | _, _ => acc) (t, [])
    let t := ((t.batch rs).programOpen).writeBackAll c
    let t : State := { t with adm := { t.adm with mediaErrs := t.adm.mediaErrs + 1 } }
    let first := (minNat? (ds.map (·.lba))).getD 0
    t.event 0x0705 nsid (first % 2 ^ 32) (first / 2 ^ 32) ds.length

/-- The dump applied: every readable unit buffered, the rows programmed, then unit by unit in fetch order. Units of namespaces deleted since are
left out. -/
def State.applyDump (s : State) (bad : List Nat) : State :=
  match s.dump.sealed with
  | none => { s with dump := { s.dump with slots := [] } }
  | some (_, n) =>
    let us := (dumpUnits s.dump.slots).filterMap (fun u => (Tab.find u.2.1 s.nss).map (fun ns => (ns, u)))
    let fine := fun (ns : Ns) (u : Nat × Nat × Nat × List (Nat × DumpSlot)) =>
      u.2.2.2.all (fun x => decide (x.1 < n) && !(bad.contains x.1)) &&
        !((ns.segs (256 * u.2.2.1) 256).any s.segLost)
    let t := us.foldl (fun t p => if fine p.1 p.2 then
        t.bufferDumped p.1 (dumpCmd p.2.1) p.2.2.1 p.2.2.2.1 (p.2.2.2.2.map (·.2)) else t) s
    let t := t.programOpen
    let t := us.foldl (fun t p =>
      if fine p.1 p.2 then t.applyDumped p.1 (dumpCmd p.2.1) p.2.2.1 p.2.2.2.1
      else t.loseDumped p.1 (dumpCmd p.2.1) p.2.2.1 p.2.2.2.1 (p.2.2.2.2.map (·.2))) t
    let lost := (us.filter (fun p => !(fine p.1 p.2))).length
    let t := t.event (if lost = 0 then 0x0701 else 0x0702) (n / 256) lost
    if t.lastGroup ≤ t.lif.committed then t.consumeDump else t

/-! ### A first start (R525) -/

/-- The block table begins anew: factory marks stay, every other good block is erase-pending. -/
def State.freshBlocks (s : State) : State :=
  { s with
    fl := { s.fl with blks := (s.fl.blks.filter (fun p => p.2.state = .bad)).map (fun p => (p.1, { Blk.fresh with state := .bad })) }
    crs := { s.crs with courses := [], media := [], emptied := [], lastSeq := 0 }
    lif := Lif.initial, dump := State.reset.dump }

/-- The two lowest good blocks of a plane of a die. -/
def State.firstBlocks (s : State) (d q : Nat) : List Nat :=
  (((List.range (s.fl.geom.blocks / 4)).map (fun i => blkId d (4 * i + q))).filter (fun b => decide ((s.blk b).state = .erasePending))).take 2

/-- The blocks that the first journal courses and dump area take, erased and checked within the start. -/
def State.firstErases (s : State) : State :=
  let bs := ((List.range 8192).filter s.inSvc).flatMap (fun d => (List.range 4).flatMap (fun q => s.firstBlocks d q))
  (bs.foldl (fun t b => (t.erasedOk b).updBlk b (fun x => { x with state := .erased, checking := false })) s).noteF

/-! ### Recovery as a whole (R279) -/

/-- Steps 3 to 7 of R279, or of a first start; with the kind that LIF_REC_LAST reports: 0 none, 1 clean, 2 after a dump, 3 otherwise. -/
def State.recover (s : State) (f : StartFacts) : Nat × State :=
  if s.lif.anchor.isNone then
    let t := s.freshBlocks
    (0, if t.fl.ranks = 0 then t else (t.firstErases.newJournals 1).formDump)
  else
    let kind := if s.lif.anchor.any (·.clean) && (s.lif.journal.getLast?).any Group.isClean then 1 else if s.dump.sealed.isSome then 2 else 3
    let (groups, t) := s.readJournal f.lostA f.lostB
    let t := (if f.seeds then t else t.loseSeeds).loadMap groups f.badCkpts
    let t := if kind = 1 then t else (t.setFld F.lifRecGrpGroups groups.length).lifCnt 18 (sumNat (groups.map (fun g => g.recs.length)))
    let first := t.lif.nextRec
    let t := f.tinked.foldl (fun t p => t.foundTinked p.1 p.2) t
    let t := if kind = 1 then t else t.halfReads
    let t := (t.tidyCourses first).redoErases
    let t := t.applyDump f.badDump
    (kind, if t.dump.sealed.isSome || decide (t.fl.ranks = 0) || t.dump.formed then t else t.formDump)

end Sys2Proof.Machine
end

