-- ==== Sys2Proof/Machine/Start.lean ====
section
/-! DEFINITION. A cold start as one command: boot, discovery, recovery and what runs from ready on (R84, R142, R184, R185, R279, R319, R418, R419,
R433, R495, R496). -/

namespace Sys2Proof.Machine

/-- Whether a start may run: a port has left PERST, HBM is zeroed, TEST_MODE is low, the device has neither started nor failed to (R319, R326, R419, R433, R495). -/
def State.mayStart (s : State) : Bool :=
  !(s.hif.port0.perst && s.hif.port1.perst) && s.flag F.hbmStatZerodone && !s.started && !(s.flag F.genStateDead) && !((s.func 0).cfs) &&
    s.dump.running.isNone && !s.pins.pfail && !s.pins.test

/-- An anchor that the reset left with the store's controller has been written before it is read (R430). -/
def State.settleAnchor (s : State) : State :=
  match s.lif.anchorNext with
  | none => s
  | some a =>
    let other := fun (j : CfsJob) => decide (j.work ≠ .anchor)
    ({ s with lif := { s.lif with anchor := some a, anchorNext := none },
              cfs := { s.cfs with queue := s.cfs.queue.filter other, op := s.cfs.op.filter other } } : State).addSat F.lifAnchorWrites 1

/-- Steps 1 and 2 of R495: the clock moved to step 8 of R279, waiting events and erases, the regulator, the start counted, the degradations that
last. -/
def State.bootRom (s : State) (f : StartFacts) : State :=
  let t := s.advanceTo (s.clk.mono + nsMs (f.ms - s.fld F.hbmZeroMs))
  let t := ((t.settleAnchor.flushStaged.eraseAgain.startReft f.reft).startVolts f.voutMode).addSat F.genStartsCount 1
  { t with adm := { t.adm with critWarn := (t.adm.critWarn &&& 9) + (if t.adm.degraded.isEmpty then 0 else 4) } }

/-- The calibration row verified or not (R433). -/
def State.checkCal (s : State) (ok : Bool) : State :=
  let t := (s.setFlag F.cfsCalstatValid).putFlag F.cfsCalstatPass ok
  if ok then t.setFld F.cfsCalstatLayout (Config.calDword 1 % 65536) else (t.event 0x0F03).neverReady

/-- The slot named by the boot locator cannot start: the copy of the 0E05h record is the first that read valid, or 3 where none did (R419). -/
def State.bootFails (s : State) (valid part : Nat) : State :=
  let copy := ((List.range 4).find? (fun i => valid.testBit i)).getD 3
  s.die copy (if valid = 0 then 1 else part)

/-- HOLD_OK as sampled; every start begins exposed until the dump area has been formed (R185). -/
def State.startHold (s : State) (hold : Bool) : State :=
  let t : State := { s with pwr := { s.pwr with lowLast := !hold } }
  let t := t.putFlag F.lifStatHoldok hold
  let c := ({ t with dump := { t.dump with formed := false } } : State).exposedCause
  t.enterExposed (if c = 0 then 4 else c)

/-- What runs on its own from ready on. -/
def State.startTimers (s : State) : State :=
  let t := ((s.arm .checkpointInterval (nsMs (s.fld F.lifCkptCtlInterval))).arm .ageEpoch (nsSec 10)).arm .hbmScrub
    (nsSec (3600 * s.fld F.hbmCtlScrubh))
  ((t.arm .cfsScrub (nsSec 86400)).arm .healthPublish (nsMs 100)).watch

/-- A member goes on as one: it sends JOIN again (R393, R394). -/
def State.rejoin (s : State) : State := if s.joined then s.startFleet.sendJoin else s

/-- Everything measured at the end of recovery brought up to date. -/
def State.startChecks (s : State) : State :=
  let t := if s.fl.roster then s.noteF.checkSpare else s
  let t := t.protCheck.noteSkeins.noteTemps
  if t.adm.degraded.isEmpty then t.critClear 2 else t

/-- Step 8 of R279: LIF_REC_LAST, the anchor, the checkpoint round; then CSTS.RDY for the controllers that wait for it. -/
def State.becomeStarted (s : State) (kind ms slot : Nat) : State :=
  let t := (s.setFld F.lifRecLastKind kind).putSat F.lifRecLastMs ms
  let t := (t.writeAnchor false).startTimers.rejoin.startChecks
  let t := t.event 0x0001 (t.word Reg.lifRecLast).toNat slot (t.word Reg.supSwlast).toNat
  let t := (t.allFuncs.filter (fun i => (t.func i).enWait)).foldl (fun t i => t.becomeReady i) t
  t.publish

/-- From the supervisor's load on: discovery, recovery, the dump, ready. -/
def State.bringUp (s : State) (f : StartFacts) (slot : Nat) : State :=
  let t := ((s.runSlot slot).discover f).startHold f.hold
  let (kind, t) := t.framesRead.recover f
  (t.resumeErases.cryptoStep).becomeStarted kind f.ms slot

/-- The start up to where it fails or runs. -/
def State.coldStart (s : State) (f : StartFacts) : State :=
  let t := (s.bootRom f).checkCal f.calOk
  if !f.calOk then t
  else
    let t := t.loadDelays
    match f.badPc with
    | some p => (t.event 0x0903 p).neverReady
    | none =>
      let slot := t.bootSlot
      let valid := if slot = 2 then f.valid2 % 16 else f.valid1 % 16
      let t := (t.setFlag F.hbmStatDlyok).noteBoot slot f.valid1 f.valid2 f.failPart
      if valid = 0 ∨ f.failPart ≠ 0 then t.bootFails valid f.failPart else t.bringUp f slot

/-- COLD_START: the start as a whole, from the deassertion of the PERST that ends a cold reset to step 8 of R279, with what it found. -/
def execColdStart (f : StartFacts) (s : State) : Host.Outcome State Fault Refusal := guarded s.mayStart .noSuchObject (s.coldStart f)

end Sys2Proof.Machine
end

