-- ==== Sys2Proof/Machine/Families.lean ====
section
/-! DEFINITION. Every family of meanings gathered for the dispatch, and what passes while no command waits. -/

namespace Sys2Proof.Machine

/-- One cycle of REFT, 10 ns, with no command waiting: the counts advance, and role-gated writes whose second is over are recorded (R48, R49,
R452). Timers expire by their own commands (DESIGN CHOICE, log entry 1). -/
def State.tick (s : State) : State := (s.advanceTo (s.clk.mono + 10)).flushGated false

end Sys2Proof.Machine
end

