-- ==== Sys2Proof/Machine/Dispatch.lean ====
section
/-! DEFINITION. One arm per command: the meaning it calls. -/

namespace Sys2Proof.Machine

def exec (i : Instr) (s : State) : Host.Outcome State Fault Refusal :=
  match i with
  | .vddAonApplied => Sys2Proof.Machine.execVddAonApplied s
  | .gaugeWindowEnd region cycles => Sys2Proof.Machine.execGaugeWindowEnd region cycles s
  | .gaugePeriodEnd vout iout => Sys2Proof.Machine.execGaugePeriodEnd vout iout s
  | .pmbusTransactionDone ok code data => Sys2Proof.Machine.execPmbusTransactionDone ok code data s
  | .voutDeviationTimeout => Sys2Proof.Machine.execVoutDeviationTimeout s
  | .vrAlert status => Sys2Proof.Machine.execVrAlert status s
  | .vddCoreLow => Sys2Proof.Machine.execVddCoreLow s
  | .railLow rail => Sys2Proof.Machine.execRailLow rail s
  | .reftLost => Sys2Proof.Machine.execReftLost s
  | .reftRegained => Sys2Proof.Machine.execReftRegained s
  | .deviceTimeSlewDone => Sys2Proof.Machine.execDeviceTimeSlewDone s
  | .timeOffsetApply => Sys2Proof.Machine.execTimeOffsetApply s
  | .latchedPairLoRead requester pair => Sys2Proof.Machine.execLatchedPairLoRead requester pair s
  | .paceMinclr pf => Sys2Proof.Machine.execPaceMinclr pf s
  | .registerWrite pf off val be => Sys2Proof.Machine.execRegisterWrite pf off val be s
  | .perstAssert port => Sys2Proof.Machine.execPerstAssert port s
  | .coldReset => Sys2Proof.Machine.execColdReset s
  | .perstDeassert port width rate reversed => Sys2Proof.Machine.execPerstDeassert port width rate reversed s
  | .coldStart f => Sys2Proof.Machine.execColdStart f s
  | .hotResetReceived port => Sys2Proof.Machine.execHotResetReceived port s
  | .dlDown port => Sys2Proof.Machine.execDlDown port s
  | .linkTrainingFail port => Sys2Proof.Machine.execLinkTrainingFail port s
  | .linkLayerError port error lane => Sys2Proof.Machine.execLinkLayerError port error lane s
  | .l1IdleTimer port => Sys2Proof.Machine.execL1IdleTimer port s
  | .memoryRequestReceived port tag write dws poisoned => Sys2Proof.Machine.execMemoryRequestReceived port tag write dws poisoned s
  | .configRead fn tag reg => Sys2Proof.Machine.execConfigRead fn tag reg s
  | .configWrite fn tag reg val => Sys2Proof.Machine.execConfigWrite fn tag reg val s
  | .busMasterEnableClear fn => Sys2Proof.Machine.execBusMasterEnableClear fn s
  | .busMasterEnableSet fn => Sys2Proof.Machine.execBusMasterEnableSet fn s
  | .vfEnableClear pf => Sys2Proof.Machine.execVfEnableClear pf s
  | .vfEnableSet pf => Sys2Proof.Machine.execVfEnableSet pf s
  | .pfFlr pf => Sys2Proof.Machine.execPfFlr pf s
  | .vfFlr vf => Sys2Proof.Machine.execVfFlr vf s
  | .flrComplete fn => Sys2Proof.Machine.execFlrComplete fn s
  | .translationCompletion port tag stitch pages => Sys2Proof.Machine.execTranslationCompletion port tag stitch pages s
  | .prgResponse prg outcome => Sys2Proof.Machine.execPrgResponse prg outcome s
  | .pageRequestTimeout prg => Sys2Proof.Machine.execPageRequestTimeout prg s
  | .invalidateRequest fn itag page pages => Sys2Proof.Machine.execInvalidateRequest fn itag page pages s
  | .invalidateCompletionSend fn itag => Sys2Proof.Machine.execInvalidateCompletionSend fn itag s
  | .atcFlush pf => Sys2Proof.Machine.execAtcFlush pf s
  | .completionReceived port tag fits poisoned header requester => Sys2Proof.Machine.execCompletionReceived port tag fits poisoned header requester s
  | .completionTimeout port tag => Sys2Proof.Machine.execCompletionTimeout port tag s
  | .tagQuarantineEnd port tag => Sys2Proof.Machine.execTagQuarantineEnd port tag s
  | .getVersion pf => Sys2Proof.Machine.execGetVersion pf s
  | .getCapabilities pf => Sys2Proof.Machine.execGetCapabilities pf s
  | .negotiateAlgorithms pf asym hash => Sys2Proof.Machine.execNegotiateAlgorithms pf asym hash s
  | .getDigests pf => Sys2Proof.Machine.execGetDigests pf s
  | .getCertificate pf slot offset length => Sys2Proof.Machine.execGetCertificate pf slot offset length s
  | .challenge pf slot nonce => Sys2Proof.Machine.execChallenge pf slot nonce s
  | .getMeasurements pf index nonce signed => Sys2Proof.Machine.execGetMeasurements pf index nonce signed s
  | .spdmUnsupportedRequest pf code => Sys2Proof.Machine.execSpdmUnsupportedRequest pf code s
  | .hifCntclr pf => Sys2Proof.Machine.execHifCntclr pf s
  | .sqTailDoorbellWrite fn qid val => Sys2Proof.Machine.execSqTailDoorbellWrite fn qid val s
  | .cqHeadDoorbellWrite fn qid val => Sys2Proof.Machine.execCqHeadDoorbellWrite fn qid val s
  | .fetchGrant => Sys2Proof.Machine.execFetchGrant s
  | .submissionFetchComplete port tag entries => Sys2Proof.Machine.execSubmissionFetchComplete port tag entries s
  | .interlockAdmit => Sys2Proof.Machine.execInterlockAdmit s
  | .stitchCut => Sys2Proof.Machine.execStitchCut s
  | .resourceGrant res => Sys2Proof.Machine.execResourceGrant res s
  | .stitchResume stitch => Sys2Proof.Machine.execStitchResume stitch s
  | .stitchAgingExpiry stitch => Sys2Proof.Machine.execStitchAgingExpiry stitch s
  | .level6Starvation res => Sys2Proof.Machine.execLevel6Starvation res s
  | .completionPost cmd => Sys2Proof.Machine.execCompletionPost cmd s
  | .interruptAggregationTimeout fn cq => Sys2Proof.Machine.execInterruptAggregationTimeout fn cq s
  | .msixVectorUnmask fn vec => Sys2Proof.Machine.execMsixVectorUnmask fn vec s
  | .controllerReset fn => Sys2Proof.Machine.execControllerReset fn s
  | .controllerEnable fn ams asqSize acqSize => Sys2Proof.Machine.execControllerEnable fn ams asqSize acqSize s
  | .shutdownNormal fn => Sys2Proof.Machine.execShutdownNormal fn s
  | .shutdownAbrupt fn => Sys2Proof.Machine.execShutdownAbrupt fn s
  | .shutdownComplete fn => Sys2Proof.Machine.execShutdownComplete fn s
  | .cleanStop len => Sys2Proof.Machine.execCleanStop len s
  | .qenCntclr pf => Sys2Proof.Machine.execQenCntclr pf s
  | .qenHistclr pf => Sys2Proof.Machine.execQenHistclr pf s
  | .unsupportedCommand cmd => Sys2Proof.Machine.execUnsupportedCommand cmd s
  | .createIoSq cmd qid size cq prio contiguous inCmb => Sys2Proof.Machine.execCreateIoSq cmd qid size cq prio contiguous inCmb s
  | .createIoCq cmd qid size vec intEn contiguous inCmb => Sys2Proof.Machine.execCreateIoCq cmd qid size vec intEn contiguous inCmb s
  | .deleteIoSq cmd qid => Sys2Proof.Machine.execDeleteIoSq cmd qid s
  | .deleteIoCq cmd qid => Sys2Proof.Machine.execDeleteIoCq cmd qid s
  | .getLogPage cmd page numd offset sel rae => Sys2Proof.Machine.execGetLogPage cmd page numd offset sel rae s
  | .identify cmd cns cntid => Sys2Proof.Machine.execIdentify cmd cns cntid s
  | .abort cmd sqid cid => Sys2Proof.Machine.execAbort cmd sqid cid s
  | .setFeatures cmd fid save cdw11 cdw12 cdw13 data => Sys2Proof.Machine.execSetFeatures cmd fid save cdw11 cdw12 cdw13 data s
  | .setFeaturesTimestamp cmd timeMs => Sys2Proof.Machine.execSetFeaturesTimestamp cmd timeMs s
  | .getFeatures cmd fid select cdw11 => Sys2Proof.Machine.execGetFeatures cmd fid select cdw11 s
  | .asyncEventRequest cmd => Sys2Proof.Machine.execAsyncEventRequest cmd s
  | .namespaceCreate cmd nsze ncap lbaf pi piFirst handles => Sys2Proof.Machine.execNamespaceCreate cmd nsze ncap lbaf pi piFirst handles s
  | .namespaceDelete cmd => Sys2Proof.Machine.execNamespaceDelete cmd s
  | .namespaceAttachment cmd attach controllers => Sys2Proof.Machine.execNamespaceAttachment cmd attach controllers s
  | .directiveSend cmd dtype doper dspec cdw12 => Sys2Proof.Machine.execDirectiveSend cmd dtype doper dspec cdw12 s
  | .directiveReceive cmd dtype doper dspec => Sys2Proof.Machine.execDirectiveReceive cmd dtype doper dspec s
  | .formatNvm cmd ses lbaf pi piFirst => Sys2Proof.Machine.execFormatNvm cmd ses lbaf pi piFirst s
  | .formatProgressRecord progress => Sys2Proof.Machine.execFormatProgressRecord progress s
  | .sanitize cmd action passes pattern invert noDealloc => Sys2Proof.Machine.execSanitize cmd action passes pattern invert noDealloc s
  | .sanitizeProgressRecord progress => Sys2Proof.Machine.execSanitizeProgressRecord progress s
  | .sanitizeOperationEnd ok => Sys2Proof.Machine.execSanitizeOperationEnd ok s
  | .firmwareImageDownload cmd offset length data => Sys2Proof.Machine.execFirmwareImageDownload cmd offset length data s
  | .firmwareCommit cmd ca fs ms failed => Sys2Proof.Machine.execFirmwareCommit cmd ca fs ms failed s
  | .activationDrainTimeout => Sys2Proof.Machine.execActivationDrainTimeout s
  | .scheduledActivationDue ms failed => Sys2Proof.Machine.execScheduledActivationDue ms failed s
  | .registerAccess cmd write off val mask reserved => Sys2Proof.Machine.execRegisterAccess cmd write off val mask reserved s
  | .roleChallenge cmd role reserved => Sys2Proof.Machine.execRoleChallenge cmd role reserved s
  | .roleAssume cmd role number sigR sigS => Sys2Proof.Machine.execRoleAssume cmd role number sigR sigS s
  | .roleRelease cmd reserved => Sys2Proof.Machine.execRoleRelease cmd reserved s
  | .eventWindowRead cmd area count first => Sys2Proof.Machine.execEventWindowRead cmd area count first s
  | .eventRoundClear cmd arg => Sys2Proof.Machine.execEventRoundClear cmd arg s
  | .lifeCycleTransition cmd target reserved => Sys2Proof.Machine.execLifeCycleTransition cmd target reserved s
  | .strandConfigure cmd sel valid vals => Sys2Proof.Machine.execStrandConfigure cmd sel valid vals s
  | .strandJoin cmd t => Sys2Proof.Machine.execStrandJoin cmd t s
  | .patrolConfigure cmd period flags absW rise reserved => Sys2Proof.Machine.execPatrolConfigure cmd period flags absW rise reserved s
  | .supervisorTestRun cmd reserved code => Sys2Proof.Machine.execSupervisorTestRun cmd reserved code s
  | .supervisorTestYield cmd reserved => Sys2Proof.Machine.execSupervisorTestYield cmd reserved s
  | .calibrationRowRead cmd numd offset => Sys2Proof.Machine.execCalibrationRowRead cmd numd offset s
  | .flush cmd => Sys2Proof.Machine.execFlush cmd s
  | .read cmd => Sys2Proof.Machine.execRead cmd s
  | .write cmd data cmp => Sys2Proof.Machine.execWrite cmd data cmp s
  | .writeUncorrectable cmd => Sys2Proof.Machine.execWriteUncorrectable cmd s
  | .compare cmd data => Sys2Proof.Machine.execCompare cmd data s
  | .writeZeroes cmd => Sys2Proof.Machine.execWriteZeroes cmd s
  | .datasetManagement cmd ad => Sys2Proof.Machine.execDatasetManagement cmd ad s
  | .verify cmd => Sys2Proof.Machine.execVerify cmd s
  | .ioManagementReceive cmd mo => Sys2Proof.Machine.execIoManagementReceive cmd mo s
  | .reclaimUnitHandleUpdate cmd handles => Sys2Proof.Machine.execReclaimUnitHandleUpdate cmd handles s
  | .copy cmd => Sys2Proof.Machine.execCopy cmd s
  | .strandCopyPush cmd path win target off => Sys2Proof.Machine.execStrandCopyPush cmd path win target off s
  | .mapUnitApply cmd nsid unit => Sys2Proof.Machine.execMapUnitApply cmd nsid unit s
  | .seamStart e bad => Sys2Proof.Machine.execSeamStart e bad s
  | .seamCommit copy => Sys2Proof.Machine.execSeamCommit copy s
  | .rmwWriteback job bad => Sys2Proof.Machine.execRmwWriteback job bad s
  | .mapSegmentStall cause e => Sys2Proof.Machine.execMapSegmentStall cause e s
  | .segmentRecoveryComplete ok replayed => Sys2Proof.Machine.execSegmentRecoveryComplete ok replayed s
  | .ownerTableError e done => Sys2Proof.Machine.execOwnerTableError e done s
  | .ageEpochTick => Sys2Proof.Machine.execAgeEpochTick s
  | .mapCntclr pf => Sys2Proof.Machine.execMapCntclr pf s
  | .mapHistclr pf => Sys2Proof.Machine.execMapHistclr pf s
  | .holdOkDeassert => Sys2Proof.Machine.execHoldOkDeassert s
  | .holdOkAssert => Sys2Proof.Machine.execHoldOkAssert s
  | .protectedModeTimer => Sys2Proof.Machine.execProtectedModeTimer s
  | .writeBufferUe cmd lba => Sys2Proof.Machine.execWriteBufferUe cmd lba s
  | .rowProgramIssue course pos => Sys2Proof.Machine.execRowProgramIssue course pos s
  | .programComplete course pos => Sys2Proof.Machine.execProgramComplete course pos s
  | .programFail course pos => Sys2Proof.Machine.execProgramFail course pos s
  | .parityProgramFail course pos => Sys2Proof.Machine.execParityProgramFail course pos s
  | .rowIdleTimeout course => Sys2Proof.Machine.execRowIdleTimeout course s
  | .exposedRowTimeout course => Sys2Proof.Machine.execExposedRowTimeout course s
  | .eraseIssue die block => Sys2Proof.Machine.execEraseIssue die block s
  | .eraseComplete die pass => Sys2Proof.Machine.execEraseComplete die pass s
  | .openCheck die block pass => Sys2Proof.Machine.execOpenCheck die block pass s
  | .destageMove course bad => Sys2Proof.Machine.execDestageMove course bad s
  | .parityAccumulatorUe course => Sys2Proof.Machine.execParityAccumulatorUe course s
  | .crsCntclr pf => Sys2Proof.Machine.execCrsCntclr pf s
  | .crsPflogclr pf => Sys2Proof.Machine.execCrsPflogclr pf s
  | .pageReadIssue read => Sys2Proof.Machine.execPageReadIssue read s
  | .codewordArrival read erased => Sys2Proof.Machine.execCodewordArrival read erased s
  | .decodeComplete read ok synd level check pi => Sys2Proof.Machine.execDecodeComplete read ok synd level check pi s
  | .reconstructionComplete read lost check pi => Sys2Proof.Machine.execReconstructionComplete read lost check pi s
  | .tailCutDeadline read => Sys2Proof.Machine.execTailCutDeadline read s
  | .tlerLimit read => Sys2Proof.Machine.execTlerLimit read s
  | .slowProbeTimer die tr total => Sys2Proof.Machine.execSlowProbeTimer die tr total s
  | .slowDieHoldExpiry die => Sys2Proof.Machine.execSlowDieHoldExpiry die s
  | .eccCntclr pf => Sys2Proof.Machine.execEccCntclr pf s
  | .eccSlowlogclr pf => Sys2Proof.Machine.execEccSlowlogclr pf s
  | .eccRelease pf => Sys2Proof.Machine.execEccRelease pf s
  | .victimSelect => Sys2Proof.Machine.execVictimSelect s
  | .reclaimCopy course bad => Sys2Proof.Machine.execReclaimCopy course bad s
  | .moveCommit copy => Sys2Proof.Machine.execMoveCommit copy s
  | .courseAgeRefresh course => Sys2Proof.Machine.execCourseAgeRefresh course s
  | .readOnlyStall => Sys2Proof.Machine.execReadOnlyStall s
  | .rclCntclr pf => Sys2Proof.Machine.execRclCntclr pf s
  | .rclTtclr pf => Sys2Proof.Machine.execRclTtclr pf s
  | .groupTimerExpiry => Sys2Proof.Machine.execGroupTimerExpiry s
  | .groupCommit rowsA rowsB => Sys2Proof.Machine.execGroupCommit rowsA rowsB s
  | .journalCopyFail copy pos => Sys2Proof.Machine.execJournalCopyFail copy pos s
  | .anchorTimer => Sys2Proof.Machine.execAnchorTimer s
  | .checkpointInterval len => Sys2Proof.Machine.execCheckpointInterval len s
  | .checkpointMark num => Sys2Proof.Machine.execCheckpointMark num s
  | .pfailAssert => Sys2Proof.Machine.execPfailAssert s
  | .dumpEnd quiet written rows back => Sys2Proof.Machine.execDumpEnd quiet written rows back s
  | .lifCntclr pf => Sys2Proof.Machine.execLifCntclr pf s
  | .lifPfhistclr pf => Sys2Proof.Machine.execLifPfhistclr pf s
  | .statusPoll die ready => Sys2Proof.Machine.execStatusPoll die ready s
  | .flashOpTimeout die kind obj rate => Sys2Proof.Machine.execFlashOpTimeout die kind obj rate s
  | .lunResetTimeout die => Sys2Proof.Machine.execLunResetTimeout die s
  | .zqShortTimer skein => Sys2Proof.Machine.execZqShortTimer skein s
  | .tempRetrain skein tj failed => Sys2Proof.Machine.execTempRetrain skein tj failed s
  | .skeinLinkStall skein => Sys2Proof.Machine.execSkeinLinkStall skein s
  | .skeinLinkDownLong skein => Sys2Proof.Machine.execSkeinLinkDownLong skein s
  | .skeinFailed skein => Sys2Proof.Machine.execSkeinFailed skein s
  | .sknCntclr pf skein => Sys2Proof.Machine.execSknCntclr pf skein s
  | .sknRetrain pf skein => Sys2Proof.Machine.execSknRetrain pf skein s
  | .chnRetrain pf chan => Sys2Proof.Machine.execChnRetrain pf chan s
  | .hbmRefresh pc bank waiting => Sys2Proof.Machine.execHbmRefresh pc bank waiting s
  | .rowActivateLimit pc bank row port => Sys2Proof.Machine.execRowActivateLimit pc bank row port s
  | .throttleExpiry pc bank port => Sys2Proof.Machine.execThrottleExpiry pc bank port s
  | .hbmMaxwait port => Sys2Proof.Machine.execHbmMaxwait port s
  | .hbmScrubPeriod corrected => Sys2Proof.Machine.execHbmScrubPeriod corrected s
  | .hbmUncorrectable addr port hit repaired => Sys2Proof.Machine.execHbmUncorrectable addr port hit repaired s
  | .hbmZeroDone ms => Sys2Proof.Machine.execHbmZeroDone ms s
  | .hbmCntclr pf => Sys2Proof.Machine.execHbmCntclr pf s
  | .hbmScrubnow pf => Sys2Proof.Machine.execHbmScrubnow pf s
  | .cmpBypassTimeout slot => Sys2Proof.Machine.execCmpBypassTimeout slot s
  | .cmpTestRun pf failed => Sys2Proof.Machine.execCmpTestRun pf failed s
  | .cmpCntclr pf => Sys2Proof.Machine.execCmpCntclr pf s
  | .supervisorWatchdog => Sys2Proof.Machine.execSupervisorWatchdog s
  | .taskLimitExpiry => Sys2Proof.Machine.execTaskLimitExpiry s
  | .supervisorSelfCheckFail cause => Sys2Proof.Machine.execSupervisorSelfCheckFail cause s
  | .switchOver ms badBank completed redone tested => Sys2Proof.Machine.execSwitchOver ms badBank completed redone tested s
  | .snapshotTimer => Sys2Proof.Machine.execSnapshotTimer s
  | .standbySelfTest code failed => Sys2Proof.Machine.execStandbySelfTest code failed s
  | .standbyTestRetry code => Sys2Proof.Machine.execStandbyTestRetry code s
  | .supCntclr pf => Sys2Proof.Machine.execSupCntclr pf s
  | .supLogclr pf => Sys2Proof.Machine.execSupLogclr pf s
  | .apstIdleTimeout fn => Sys2Proof.Machine.execApstIdleTimeout fn s
  | .powerStateEntry base => Sys2Proof.Machine.execPowerStateEntry base s
  | .drainLimit => Sys2Proof.Machine.execDrainLimit s
  | .wake cause dur ok => Sys2Proof.Machine.execWake cause dur ok s
  | .ps2SlotTimer => Sys2Proof.Machine.execPs2SlotTimer s
  | .patrolWake temps holdOk canaries us dur ok => Sys2Proof.Machine.execPatrolWake temps holdOk canaries us dur ok s
  | .ps3SensorSample temps holdOk => Sys2Proof.Machine.execPs3SensorSample temps holdOk s
  | .pwrCntclr pf => Sys2Proof.Machine.execPwrCntclr pf s
  | .pwrHistclr pf => Sys2Proof.Machine.execPwrHistclr pf s
  | .patCntclr pf => Sys2Proof.Machine.execPatCntclr pf s
  | .heartbeat h digest => Sys2Proof.Machine.execHeartbeat h digest s
  | .hbReply h t1 t2 t3 t4 epoch => Sys2Proof.Machine.execHbReply h t1 t2 t3 t4 epoch s
  | .ack h copy slots => Sys2Proof.Machine.execAck h copy slots s
  | .nak h cause win copy seq => Sys2Proof.Machine.execNak h cause win copy seq s
  | .hold h ms => Sys2Proof.Machine.execHold h ms s
  | .copyOpen h copy win off count => Sys2Proof.Machine.execCopyOpen h copy win off count s
  | .data h copy win off slots wellFormed => Sys2Proof.Machine.execData h copy win off slots wellFormed s
  | .copyEnd h copy sent reason => Sys2Proof.Machine.execCopyEnd h copy sent reason s
  | .rollup h entries => Sys2Proof.Machine.execRollup h entries s
  | .registry h seq entries => Sys2Proof.Machine.execRegistry h seq entries s
  | .manager h role epoch id => Sys2Proof.Machine.execManager h role epoch id s
  | .join h t => Sys2Proof.Machine.execJoin h t s
  | .joinAck h entries => Sys2Proof.Machine.execJoinAck h entries s
  | .patrolNotice h => Sys2Proof.Machine.execPatrolNotice h s
  | .fwPart h offset blocks => Sys2Proof.Machine.execFwPart h offset blocks s
  | .schedule h answer time ok => Sys2Proof.Machine.execSchedule h answer time ok s
  | .heartbeatTimer => Sys2Proof.Machine.execHeartbeatTimer s
  | .heartbeatMiss peer => Sys2Proof.Machine.execHeartbeatMiss peer s
  | .ackDelayTimer peer => Sys2Proof.Machine.execAckDelayTimer peer s
  | .retransmitTimeout peer seq => Sys2Proof.Machine.execRetransmitTimeout peer seq s
  | .holdExpiry peer => Sys2Proof.Machine.execHoldExpiry peer s
  | .strandWriteTimeout copy => Sys2Proof.Machine.execStrandWriteTimeout copy s
  | .strandWriteAck copy fetch => Sys2Proof.Machine.execStrandWriteAck copy fetch s
  | .creditWaitTimeout peer => Sys2Proof.Machine.execCreditWaitTimeout peer s
  | .rollupTimer => Sys2Proof.Machine.execRollupTimer s
  | .sectionRollupStale sect => Sys2Proof.Machine.execSectionRollupStale sect s
  | .registryTimer => Sys2Proof.Machine.execRegistryTimer s
  | .managerLost => Sys2Proof.Machine.execManagerLost s
  | .registryLoadTimeout => Sys2Proof.Machine.execRegistryLoadTimeout s
  | .timeExchangeTimeout => Sys2Proof.Machine.execTimeExchangeTimeout s
  | .strandPortLinkChange port up => Sys2Proof.Machine.execStrandPortLinkChange port up s
  | .strWselWrite pf win => Sys2Proof.Machine.execStrWselWrite pf win s
  | .strWctlCommit pf => Sys2Proof.Machine.execStrWctlCommit pf s
  | .strCntclr pf => Sys2Proof.Machine.execStrCntclr pf s
  | .fwuCntclr pf => Sys2Proof.Machine.execFwuCntclr pf s
  | .fwuDiscard pf => Sys2Proof.Machine.execFwuDiscard pf s
  | .cfsProgramComplete erased pulses pass => Sys2Proof.Machine.execCfsProgramComplete erased pulses pass s
  | .cfsEraseComplete pass blank => Sys2Proof.Machine.execCfsEraseComplete pass blank s
  | .cfsScrubPeriod one two bad => Sys2Proof.Machine.execCfsScrubPeriod one two bad s
  | .cfsScrub pf one two bad => Sys2Proof.Machine.execCfsScrub pf one two bad s
  | .cfsCntclr pf => Sys2Proof.Machine.execCfsCntclr pf s
  | .cfsDpselWrite pf val => Sys2Proof.Machine.execCfsDpselWrite pf val s
  | .cfsDpdataAccess pf write val => Sys2Proof.Machine.execCfsDpdataAccess pf write val s
  | .cfsDpctlCommit pf => Sys2Proof.Machine.execCfsDpctlCommit pf s
  | .cfsDpctlDiscard pf => Sys2Proof.Machine.execCfsDpctlDiscard pf s
  | .sessionIdleTimeout pf => Sys2Proof.Machine.execSessionIdleTimeout pf s
  | .secKselWrite pf val => Sys2Proof.Machine.execSecKselWrite pf val s
  | .secKdataAccess pf write val => Sys2Proof.Machine.execSecKdataAccess pf write val s
  | .secKctlCommit pf => Sys2Proof.Machine.execSecKctlCommit pf s
  | .secKctlDiscard pf => Sys2Proof.Machine.execSecKctlDiscard pf s
  | .secDbgUnlock pf => Sys2Proof.Machine.execSecDbgUnlock pf s
  | .secCntclr pf => Sys2Proof.Machine.execSecCntclr pf s
  | .secDenyclr pf => Sys2Proof.Machine.execSecDenyclr pf s
  | .eventPersistTimer => Sys2Proof.Machine.execEventPersistTimer s
  | .evwData0Read pf => Sys2Proof.Machine.execEvwData0Read pf s
  | .evwData7Read pf => Sys2Proof.Machine.execEvwData7Read pf s
  | .evwCursorWrite pf seq => Sys2Proof.Machine.execEvwCursorWrite pf seq s
  | .evwSeekold pf => Sys2Proof.Machine.execEvwSeekold pf s
  | .evwSeeknew pf => Sys2Proof.Machine.execEvwSeeknew pf s
  | .genScrclr pf => Sys2Proof.Machine.execGenScrclr pf s
  | .miStatusRead dur ok => Sys2Proof.Machine.execMiStatusRead dur ok s
  | .miVendorIdRead dur ok => Sys2Proof.Machine.execMiVendorIdRead dur ok s
  | .i3cSetdasa addr => Sys2Proof.Machine.execI3cSetdasa addr s
  | .i3cRstdaa => Sys2Proof.Machine.execI3cRstdaa s
  | .healthPublishTimer => Sys2Proof.Machine.execHealthPublishTimer s
  | .dieTjPast105 die above => Sys2Proof.Machine.execDieTjPast105 die above s
  | .hbmStackPast85 stack temp => Sys2Proof.Machine.execHbmStackPast85 stack temp s
  | .temperatureThresholdCross sensor temp => Sys2Proof.Machine.execTemperatureThresholdCross sensor temp s
  | .skeinLinkRecovered skein rates => Sys2Proof.Machine.execSkeinLinkRecovered skein rates s
  | .neighbourSolicitation port target source mac advert => Sys2Proof.Machine.execNeighbourSolicitation port target source mac advert s

end Sys2Proof.Machine
end

