-- ==== Sys2Proof/Safety.lean ====
section
/-! DEFINITION. The terms in which statements speak of a command's run: when a command of a queue is carried out, how it has ended, and
what a safe outcome is. -/

namespace Sys2Proof.Machine

/-- An admin command is being carried out: it is in its slot, no reset dropped it, and no sanitize is in progress (R105, R121, R143). -/
def State.AdminRuns (s : State) (c : Nat) (k : Cmd) : Prop :=
  s.adminAt c = some k ∧ k.dropped = false ∧ s.sanitizing = false

/-- An admin command of a PF is being carried out (R129). -/
def State.PfRuns (s : State) (c : Nat) (k : Cmd) : Prop := s.AdminRuns c k ∧ k.fn < 2

/-- An I/O command is being carried out, with no sanitize and no Format of its namespace in progress (R141, R143). -/
def State.IoRuns (s : State) (c op : Nat) (k : Cmd) : Prop :=
  s.ioAt c op = some k ∧ k.dropped = false ∧ s.sanitizing = false ∧ s.formattingNs k.sqe.nsid = false

/-- An I/O command is being carried out on a namespace attached to its controller (R133). -/
def State.NsRuns (s : State) (c op : Nat) (k : Cmd) (n : Ns) : Prop :=
  s.IoRuns c op k ∧ Tab.find k.sqe.nsid s.nss = some n ∧ (s.func k.fn).nss.contains k.sqe.nsid = true

/-- A read-type command goes to the lookup of its slots: no read of it is under way, no earlier write has still to be buffered, no segment is stalled or lost,
the seed table is whole, and nothing holds its stitches (R115, R179, R283). -/
def State.ReadGoes (s : State) (c : Nat) (k : Cmd) (n : Ns) (rs : List (Nat × Nat)) : Prop :=
  s.adm.degraded.contains 6 = false ∧ s.rd.reads.any (fun r => r.2.cmd = c) = false ∧ k.buffered = false ∧ s.earlierWrites c = [] ∧
    s.segGate c n rs = none ∧ s.stitchHeld c = false ∧ s.dmaWaits c = false

/-- A supervisor-owned command is neither held by a switch-over nor ended by a failed supervisor (R355, R357). -/
def State.SupervisorFree (s : State) : Prop := s.flag F.supStatFailed = false ∧ s.sup.yielded = none

/-- A command has ended with a status and Dword 0; its entry waits to be posted (R117). -/
def State.Ended (t : State) (c : Nat) (st : Status) (d : Nat := 0) : Prop := (t.cmd c).map (·.phase) = some (.finished st d)

/-- A command waits for a write of the configuration store (R435, R460). -/
def State.AwaitsStore (t : State) (c : Nat) : Prop := (t.cmd c).map (·.phase) = some .waitStore

/-- A strand frame passes the checks of R389 on a port in use: the state after its header has been taken. -/
def State.FrameTaken (s : State) (h : FrameHdr) (memb : Bool) (u : State) : Prop :=
  s.strandUp = true ∧ h.port < 2 ∧ s.frameIn h memb = (true, u)

/-- A reliable frame is the next of its pair, and the device is awake for it (R369, R398). -/
def State.FrameNext (s : State) (h : FrameHdr) (memb : Bool) (b : FrameBody) (u : State) : Prop :=
  s.FrameTaken h memb u ∧ ¬(u.ps = 3 ∧ isCopyFrame b = true) ∧ h.seq = (u.peer h.src).got + 1 ∧ Tab.has h.seq (u.peer h.src).early = false

/-- What a reliable frame in order brings about, with the held frames that it lets through (R398). -/
def State.delivered (u : State) (h : FrameHdr) (b : FrameBody) : State :=
  (((u.arm (.ackDelay h.src) 20000).setPeer h.src { u.peer h.src with got := h.seq }).deliver h b).deliverHeld 256 h

/-- A write of 1 to a bit reaches its register: the port is out of reset, the block is decoded and answers, and the PF may write it (R451, R518, R519). -/
def State.BitLands (s : State) (pf : Nat) (role : Role) : Prop :=
  pf < 2 ∧ (s.port pf).perst = false ∧ s.flag F.genStateDead = false ∧ s.ps ≠ 4 ∧ s.mayAs pf role = true

/-- The row that writes 1 to a bit clears these registers; no other register changes but SEC_CNT[10], which counts the write, and the recorder's drop
counter and flag; and commands, namespaces, the flash side and the keys stay as they are (R451, R452, R514). -/
def BitClears (i : Nat → Instr) (role : Role) (offs : List Nat) : Prop :=
  ∀ (s : State) (pf : Nat), s.BitLands pf role →
    ∃ t, exec (i pf) s = .next t ∧ (∀ o ∈ offs, t.word o = 0) ∧
      (∀ o, o ∉ offs → o ≠ Reg.secCnt 10 → o ≠ Reg.evwDrop → o ≠ Reg.evwStat → t.word o = s.word o) ∧
      t.q = s.q ∧ t.nss = s.nss ∧ t.fl = s.fl ∧ t.keys = s.keys

/-- The cast-on area as R469 has it: at most 16,384 records, and index i holds the record of SEQ i + 1. -/
def State.CastOk (s : State) : Prop :=
  s.areas.cast.length ≤ 16384 ∧ ∀ i r, s.areas.cast[i]? = some r → r.seq = i + 1

/-- The rows in which the store's controller ends a program or an erase (R427, R428). -/
def endsStoreWork : Instr → Bool
  | .cfsProgramComplete .. | .cfsEraseComplete .. => true
  | _ => false

/-- The rows that may change the event areas: a record's word programmed, staged records persisted at a start, a round clear (R469, R472, R478). -/
def changesEventAreas : Instr → Bool
  | .cfsProgramComplete .. | .coldStart .. | .eventRoundClear .. => true
  | _ => false

/-- The rows that may change the key set: a namespace made, a crypto erase begun or let on by a commit, a key set written, a start that finds no seed
table (R434, R453, R460, R461). -/
def changesKeys : Instr → Bool
  | .namespaceCreate .. | .namespaceDelete .. | .formatNvm .. | .sanitize .. | .groupCommit .. | .cleanStop .. | .dumpEnd .. | .cfsProgramComplete ..
  | .coldStart .. => true
  | _ => false

/-- The rows that may change a namespace: made, deleted, formatted or its Format ended, its compression set (R138, R139, R141, R142, R330). -/
def changesNamespaces : Instr → Bool
  | .namespaceCreate .. | .namespaceDelete .. | .formatNvm .. | .setFeatures .. | .groupCommit .. | .dumpEnd .. | .cfsEraseComplete .. => true
  | _ => false

end Sys2Proof.Machine
end

