-- ==== Sys2Proof/Certificates/Slice0/Obligations.lean ====
section
/-! DEFINITION. The statements about the model, for the provers: what each row brings about, what a step keeps, and what only some rows change. -/

open Sys2Proof Sys2Proof.Machine

/-- The rows of the gauges, the governor and the timekeeper complete on every state and operand the spec gives them, and what each is for
happens (R37, R40 to R46, R49 to R52, R58, R513). VR_ALERT's status word is recorded and CLEAR_FAULTS sent last. A timer row whose timer was
cancelled is withdrawn without effect (R54). -/
def Obligations.PaceRowsComplete : Prop :=
  (∀ (s : State) (r c : Nat), r < 30 → c / 10 < 65536 →
    ∃ t, exec (.gaugeWindowEnd r c) s = .next t ∧ t.fld (F.paceGaugePace r) = c / 10 ∧ r ∈ t.pace.measured) ∧
  (∀ (s : State) (v i : Nat),
    ∃ t, exec (.gaugePeriodEnd v i) s = .next t ∧ t.pace.iout = i ∧ t.pace.span = [] ∧
      t.fld F.paceStatSeq = (s.fld F.paceStatSeq + 1) % 65536) ∧
  (∀ (s : State) (c d : Nat), ∃ t, exec (.pmbusTransactionDone true c d) s = .next t ∧ t.pace.pmbusFails = 0) ∧
  (∀ (s : State) (c d : Nat), ∃ t, exec (.pmbusTransactionDone false c d) s = .next t ∧ t.pace.pmbusFails = s.pace.pmbusFails + 1 ∧
      (s.pace.pmbusFails = 2 → t.flag F.paceVstatNoack = true)) ∧
  (∀ (s : State), s.armed .voutDeviation = true → ∃ t, exec .voutDeviationTimeout s = .next t ∧ t.flag F.paceVstatVrfault = true) ∧
  (∀ (s : State), s.armed .voutDeviation = false → exec .voutDeviationTimeout s = .next s) ∧
  (∀ (s : State) (st : Nat), ∃ t, exec (.vrAlert st) s = .next t ∧ t.tx = .pmbus 0x03 0 :: .pmbus 0x79 st :: s.tx ∧
      t.flag F.paceVstatAlert = true) ∧
  (∀ (s : State) (d : Nat) (above : Bool), d < 13 →
    ∃ t, exec (.dieTjPast105 d above) s = .next t ∧ t.pace.hotDies.contains d = above) ∧
  (∀ (s : State), ∃ t, exec .reftLost s = .next t ∧ t.flag F.tkStatReftlost = true ∧
      (s.flag F.tkStatReftlost = false → t.flag F.tkStatReftseen = true) ∧ t.clk = s.clk) ∧
  (∀ (s : State), ∃ t, exec .reftRegained s = .next t ∧ t.flag F.tkStatReftlost = false ∧ t.clk = s.clk) ∧
  (∀ (s : State), ∃ t, exec .deviceTimeSlewDone s = .next t ∧ t.clk.slewLeft = 0 ∧ s.clk.mono ≤ t.clk.mono) ∧
  (∀ (s : State), s.armed .timeOffset = true → s.flag F.tkCtlStrandt = false →
    exec .timeOffsetApply s = .next ((s.expire .timeOffset).arm .timeOffset 1000000000)) ∧
  (∀ (s : State), s.armed .timeOffset = true → s.flag F.tkCtlStrandt = true → s.str.kept ≠ [] →
    ∃ t, exec .timeOffsetApply s = .next t ∧ t.fld F.tkStatOrigin = 2) ∧
  (∀ (s : State) (q p : Nat), q < 4 → p < 9 →
    exec (.latchedPairLoRead q p) s = .next { s with latches := Tab.put (q * 16 + p) (s.pairValue p / 2 ^ 32) s.latches })

/-- The rows that bring resets, and the link's own rows, complete: a port reset where the other port is out of reset, a cold reset where it is not,
nothing where the port is in reset already; a fundamental reset ends with the link up at the width and rate it trained to (R67, R83 to R87, R370). -/
def Obligations.LinkResetRowsComplete : Prop :=
  (∀ (s : State) (p : Nat), p < 2 → (s.port p).perst = false → s.dump.running = none → (s.port (1 - p)).perst = false →
    exec (.perstAssert p) s = .next ((s.setPort p { s.port p with perst := true }).resetPort p true)) ∧
  (∀ (s : State) (p : Nat), p < 2 → (s.port p).perst = false → s.dump.running = none → (s.port (1 - p)).perst = true →
    exec (.perstAssert p) s = .next ((s.setPort p { s.port p with perst := true }).coldReset 1)) ∧
  (∀ (s : State), ∃ t, exec .coldReset s = .next t ∧ t.buf = State.reset.buf ∧ t.map = State.reset.map ∧ t.rd = State.reset.rd ∧
    t.clk = s.clk ∧ t.records = s.records ∧ t.crs.media = s.crs.media ∧ t.hif.cmb = []) ∧
  (∀ (s : State) (p w r : Nat) (v : Bool), p < 2 → w ∈ [1, 8, 16] → 0 < r → r ≤ s.fld (F.hifPortCtlMaxrate p) → (s.port p).up = false →
    s.dump.running = none →
    ∃ t, exec (.perstDeassert p w r v) s = .next t ∧ (t.port p).up = true ∧ (t.port p).perst = false ∧ (t.port p).width = w ∧
      (t.port p).rate = r ∧ (t.port p).reversed = v ∧ (t.port p).retry = true ∧ t.pins.pfail = false) ∧
  (∀ (s : State) (p : Nat), p < 2 → (s.port p).perst = false →
    exec (.hotResetReceived p) s = .next ((s.hotReset p).hifCnt p 12) ∧ exec (.dlDown p) s = .next ((s.hotReset p).hifCnt p 13) ∧
    (∃ t, exec (.linkTrainingFail p) s = .next t ∧ (t.port p).up = false) ∧
    (∀ (e : LinkError) (l : Nat), l ≤ 15 → exec (.linkLayerError p e l) s = .next (s.linkError p e l))) ∧
  (∀ (s : State) (p : Nat), s.armed (.l1Idle p) = true → ∃ t, exec (.l1IdleTimer p) s = .next t ∧ (t.port p).lpm = 1 ∧ t.tx = .link p 1 :: s.tx) ∧
  (∀ (s : State) (pf : Nat), pf < 2 → (s.func pf).vfEn = true →
    exec (.vfEnableClear pf) s = .next (((s.tearDown pf).updFunc pf (fun f => { f with vfEn := false })).arm (.flr pf) 100000000)) ∧
  (∀ (s : State) (pf : Nat), pf < 2 → ∃ t, exec (.vfEnableSet pf) s = .next t ∧ (t.func pf).vfEn = true ∧ (∀ i, i ≠ pf → t.func i = s.func i)) ∧
  (∀ (s : State) (pf : Nat), pf < 2 → (s.func pf).reset ≠ .flr → ∃ t, exec (.pfFlr pf) s = .next t ∧ t.armed (.flr pf) = true) ∧
  (∀ (s : State) (pf : Nat), pf < 2 → (s.func pf).reset = .flr → exec (.pfFlr pf) s = .next s) ∧
  (∀ (s : State) (v : Nat), 2 ≤ v → v < 1026 → s.vfThere v = true → s.inReset v = false → s.inReset (portOf v) = false →
    ∃ t, exec (.vfFlr v) s = .next t ∧ t.armed (.flr v) = true) ∧
  (∀ (s : State) (v : Nat), 2 ≤ v → v < 1026 → s.inReset v = true → exec (.vfFlr v) s = .next s) ∧
  (∀ (s : State) (i : Nat), s.inReset i = true → ∃ t, exec (.flrComplete i) s = .next t ∧ t.armed (.flr i) = false)

/-- The rows of host traffic complete: configuration requests are answered, memory requests are carried out or answered Unsupported Request, bus
mastering is switched, and completions and their timeouts act once (R76, R77, R86 to R91). -/
def Obligations.HostTrafficRowsComplete : Prop :=
  (∀ (s : State) (i tag r : Nat) (v : Word), i < 2 → (s.port i).up = true → (s.port i).retry = false → (s.tlpIn i).mustRetry i = false →
    exec (.configRead i tag r) s = .next ((s.tlpIn i).send (.readCpl i tag [(s.tlpIn i).configValue i r])) ∧
    exec (.configWrite i tag r v) s = .next (((s.tlpIn i).configWrite i r v.toNat).send (.readCpl i tag []))) ∧
  (∀ (s : State) (i tag r : Nat) (v : Word), i < 2 → (s.port i).up = true → (s.tlpIn i).mustRetry i = true →
    exec (.configRead i tag r) s = .next (((s.tlpIn i).send (.retry i tag)).hifCnt i 16) ∧
    exec (.configWrite i tag r v) s = .next (((s.tlpIn i).send (.retry i tag)).hifCnt i 16)) ∧
  (∀ (s : State) (p tag : Nat) (d : DwReq) (ds : List DwReq), p < 2 → (s.port p).up = true → (s.tlpIn p).memTarget p d.addr ≠ .nothing →
    exec (.memoryRequestReceived p tag true (d :: ds) false) s =
      .next ((d :: ds).foldl (fun (t : State) x => t.memStore (t.memTarget p x.addr) x false) (s.tlpIn p))) ∧
  (∀ (s : State) (p tag : Nat) (d : DwReq) (ds : List DwReq), p < 2 → (s.port p).up = true → (s.tlpIn p).memTarget p d.addr ≠ .nothing →
    ∃ t, exec (.memoryRequestReceived p tag false (d :: ds) false) s = .next t ∧
      (t.tx = .readCpl p tag ((s.tlpIn p).memLoads p (d :: ds)).1.1 :: ((s.tlpIn p).memLoads p (d :: ds)).2.tx ∨
        t.tx = .poisonedCpl p tag ((s.tlpIn p).memLoads p (d :: ds)).1.1 :: ((s.tlpIn p).memLoads p (d :: ds)).2.tx)) ∧
  (∀ (s : State) (p tag : Nat) (d : DwReq) (ds : List DwReq), p < 2 → (s.port p).up = true → (s.tlpIn p).memTarget p d.addr = .nothing →
    exec (.memoryRequestReceived p tag false (d :: ds) false) s =
      .next ((((s.tlpIn p).send (.unsupported p tag)).hifCnt p 2).aer p .unsupported)) ∧
  (∀ (s : State) (i : Nat), i < 1026 → exec (.busMasterEnableClear i) s = .next (s.bmeClear i) ∧ exec (.busMasterEnableSet i) s = .next (s.bmeSet i)) ∧
  (∀ (s : State) (p tag : Nat) (r : NpReq) (h : List Nat) (q : Nat), p < 2 →
    (s.tlpIn p).hif.reqs.any (fun x => decide (x.port = p) && decide (x.tag = tag) && x.orphan) = false →
    (s.tlpIn p).reqAt p tag = some r → (r.kind = .dataRead ∨ r.kind = .listFetch) →
    exec (.completionReceived p tag true false h q) s = .next ((s.tlpIn p).answered r)) ∧
  (∀ (s : State) (p tag : Nat) (fits poisoned : Bool) (h : List Nat) (q : Nat), p < 2 →
    (s.tlpIn p).hif.reqs.any (fun x => decide (x.port = p) && decide (x.tag = tag) && x.orphan) = false →
    (s.tlpIn p).reqAt p tag = none →
    ∃ t, exec (.completionReceived p tag fits poisoned h q) s = .next t ∧ t = (s.tlpIn p).unexpected p tag h q ∧
      t.flag F.hifStatLatecplseen = true) ∧
  (∀ (s : State) (p tag : Nat), s.armed (.completionTimeout p tag) = true →
    ∃ t, exec (.completionTimeout p tag) s = .next t ∧
      ((s.reqAt p tag).isSome = true → t.flag F.hifStatCtoseen = true ∧ (p, tag) ∈ t.hif.quar)) ∧
  (∀ (s : State) (p tag : Nat), s.armed (.tagQuarantine p tag) = true → (∀ f ∈ s.q.fetches, f.tag ≠ tag) → s.hif.quar.Nodup →
    ∃ t, exec (.tagQuarantineEnd p tag) s = .next t ∧ (p, tag) ∉ t.hif.quar)

/-- The rows of address translation complete: a translation completion is used for the stitch it was asked for, page requests end, invalidations are
answered, and the cache is flushed (R79 to R82, R95). -/
def Obligations.TranslationRowsComplete : Prop :=
  (∀ (s : State) (p tag x : Nat) (ps : List TransPage) (r : NpReq), s.reqAt p tag = some r → r.kind = .translation →
    exec (.translationCompletion p tag x ps) s = .next (((s.answered r).tlpIn p).translated r ps)) ∧
  (∀ (s : State) (g : Nat) (o : PrgOutcome), (∀ x ∈ s.hif.groups, x.prg ≠ g) →
    ∃ t, exec (.prgResponse g o) s = .next t ∧ t.fld F.hifPriStatLate = Nat.min 65535 (s.fld F.hifPriStatLate + 1) ∧ t.hif = s.hif) ∧
  (∀ (s : State) (g : PageGroup), s.hif.groups = [g] → g.sent = true → ∃ t, exec (.prgResponse g.prg .success) s = .next t ∧ t.hif.groups = []) ∧
  (∀ (s : State) (g : PageGroup), s.armed (.pageRequest g.prg) = true → s.hif.groups = [g] →
    ∃ t, exec (.pageRequestTimeout g.prg) s = .next t ∧ t.flag F.hifStatPrifailseen = true) ∧
  (∀ (s : State) (i itag a n : Nat), i < 1026 →
    ∃ t, exec (.invalidateRequest i itag a n) s = .next t ∧ ⟨i, itag⟩ ∈ t.hif.invals ∧
      (∀ e ∈ t.hif.atc, e.fn = i → overlaps e.page e.pages a n = false)) ∧
  (∀ (s : State) (i itag : Nat), ⟨i, itag⟩ ∈ s.hif.invals →
    ∃ t, exec (.invalidateCompletionSend i itag) s = .next t ∧ t.tx = .invalidateCpl i itag :: s.tx ∧
      t.fld F.hifAtcInvcntCount = (s.fld F.hifAtcInvcntCount + 1) % 2 ^ 32)

/-- The SPDM rows complete once a connection is set up: version 1.2, CTExponent 15, ECDSA P-384 with SHA-384, slot 0 alone holding a chain, one
measurement block by its index, and ERROR with UnsupportedRequest for every other request (R92, R93; the codes are SPDM 1.2's, log entry 32). -/
def Obligations.SpdmRowsComplete : Prop :=
  ∀ (s : State) (pf : Nat), pf < 2 →
    (∃ t, exec (.getVersion pf) s = .next t ∧ t.tx = .spdm pf 0x04 [0x1200] :: s.tx ∧ t.spdmAt pf = 1) ∧
    (1 ≤ s.spdmAt pf → ∃ t, exec (.getCapabilities pf) s = .next t ∧ t.tx = .spdm pf 0x61 [15] :: s.tx ∧ t.spdmAt pf = 2) ∧
    (∀ a h, 2 ≤ s.spdmAt pf → a.testBit 7 = true → h.testBit 1 = true →
      ∃ t, exec (.negotiateAlgorithms pf a h) s = .next t ∧ t.tx = .spdm pf 0x63 [0x80, 0x02] :: s.tx ∧ t.spdmAt pf = 3) ∧
    (∀ a h, 2 ≤ s.spdmAt pf → (a.testBit 7 = false ∨ h.testBit 1 = false) →
      ∃ t, exec (.negotiateAlgorithms pf a h) s = .next t ∧ t.tx = .spdm pf 0x7F [1] :: s.tx) ∧
    (3 ≤ s.spdmAt pf →
      (∃ t, exec (.getDigests pf) s = .next t ∧ t.tx = .spdm pf 0x01 [1, chainDigest] :: s.tx) ∧
      (∀ o n, o < certLen → ∃ t, exec (.getCertificate pf 0 o n) s = .next t ∧
        t.tx = .spdm pf 0x02 ([Nat.min n (certLen - o), certLen - o - Nat.min n (certLen - o)] ++
          (List.range (Nat.min n (certLen - o))).map (fun i => Config.certByte (o + i))) :: s.tx) ∧
      (∀ n, ∃ t, exec (.challenge pf 0 n) s = .next t ∧
        t.tx = .spdm pf 0x03 [chainDigest, Config.deviceSign (Config.sha384 [n, chainDigest])] :: s.tx) ∧
      (∀ k n, 1 ≤ k → k ≤ 8 → ∃ t, exec (.getMeasurements pf k n false) s = .next t ∧ t.tx = .spdm pf 0x60 (k :: s.measurement k) :: s.tx)) ∧
    (∀ c, ∃ t, exec (.spdmUnsupportedRequest pf c) s = .next t ∧ t.tx = .spdm pf 0x7F [7, c] :: s.tx ∧
      t.fld (F.hifDoeStatServed pf) = (s.fld (F.hifDoeStatServed pf) + 1) % 65536)

/-- The rows of doorbells, fetch, the interlock table and the stitch scheduler complete, each with its effect: a valid doorbell moves its pointer, an
invalid one is ignored and sets DBERRSEEN, a grant fetches, entries are accepted under the next fetch number, waiting commands begin, stitches are cut,
granted, resumed and aged (R100 to R112, R505). -/
def Obligations.QueueRowsComplete : Prop :=
  (∀ (s : State) (i k v : Nat) (q : Sq), i < 1026 → Tab.find k (s.func i).sqs = some q → Sq.badTail (some q) v = none →
    ∃ t, exec (.sqTailDoorbellWrite i k v) s = .next t ∧ Tab.find k (t.func i).sqs = some { q with tail := v }) ∧
  (∀ (s : State) (i k v r : Nat), i < 1026 → Sq.badTail (Tab.find k (s.func i).sqs) v = some r →
    ∃ t, exec (.sqTailDoorbellWrite i k v) s = .next t ∧ (t.func i).sqs = (s.func i).sqs ∧ t.flag F.qenStatDberrseen = true) ∧
  (∀ (s : State) (i k v : Nat) (q : Cq), i < 1026 → Tab.find k (s.func i).cqs = some q → Cq.badHead (some q) v = none → q.held = [] →
    ∃ t, exec (.cqHeadDoorbellWrite i k v) s = .next t ∧
      Tab.find k (t.func i).cqs = some { q with head := v, entries := q.entries.drop ((v + q.size - q.head) % q.size) }) ∧
  (∀ (s : State) (i k v r : Nat), i < 1026 → Cq.badHead (Tab.find k (s.func i).cqs) v = some r →
    ∃ t, exec (.cqHeadDoorbellWrite i k v) s = .next t ∧ (t.func i).cqs = (s.func i).cqs ∧ t.flag F.qenStatDberrseen = true) ∧
  (∀ (s : State) (i : Nat), s.withheld.q.fetchStop = false → roundRobin s.withheld.q.lastAdmin (s.withheld.grantees true) = some i →
    exec .fetchGrant s = .next (({ s.withheld with q := { s.withheld.q with lastAdmin := i } } : State).grantQueue i 0)) ∧
  (∀ (s : State), s.withheld.q.fetchStop = true → exec .fetchGrant s = .next s.withheld) ∧
  (∀ (s : State) (f : Fetch) (e : Sqe), s.q.fetches = [f] → f.got = none → f.num = 1 →
    ∃ t, exec (.submissionFetchComplete (portOf f.fn) f.tag [e]) s = .next t ∧ t.q.lastFetch = s.q.lastFetch + 1 ∧ t.q.fetches = []) ∧
  (∀ (s : State) (c : Nat) (k : Cmd), s.q.cmds = [(c, k)] → k.phase = .waitLock →
    s.mayLock c (k.sqe.locks c (((Tab.find k.sqe.nsid s.nss).map (·.compress)).getD false)).length = true →
    exec .interlockAdmit s = .next (({ s with q := { s.q with
      locks := s.q.locks ++ k.sqe.locks c (((Tab.find k.sqe.nsid s.nss).map (·.compress)).getD false) } } : State).begin c)) ∧
  (∀ (s : State) (c : Nat) (k : Cmd), s.q.cmds = [(c, k)] → k.phase = .active → exec .stitchCut s = .next (State.cutStitches 64 c s)) ∧
  (∀ (s : State) (res id : Nat) (x : Stitch), res ≠ 2 → s.firstReady res = some (id, x) → s.firstInternal res = none →
    ∃ t, exec (.resourceGrant res) s = .next t ∧ t = (s.grantResource res).2.dmaStart id) ∧
  (∀ (s : State) (id r : Nat) (x : Stitch) (k : Cmd), Tab.find id s.q.stitches = some x → x.phase = .parked r → s.cmd x.cmd = some k →
    s.mayResume id x k r = true →
    ∃ t, exec (.stitchResume id) s = .next t ∧ Tab.find id t.q.stitches = some { x with phase := .ready, since := s.clk.mono }) ∧
  (∀ (s : State) (id : Nat) (x : Stitch), s.armed (.stitchAging id) = true → Tab.find id s.q.stitches = some x → x.phase = .ready → 2 < x.level →
    ∃ t, exec (.stitchAgingExpiry id) s = .next t ∧ Tab.find id t.q.stitches = some { x with level := x.level - 1 }) ∧
  (∀ (s : State) (w : IntWork), s.q.internal = [w] → w.level = 6 → w.since + 1000000000 ≤ s.clk.mono →
    exec (.level6Starvation w.res) s = .next { s with q := { s.q with internal := [{ w with level := 5 }] } })

/-- The rows of completions, interrupts, enabling, reset and shutdown of a controller complete, each with its effect: a reset controller has no queue
and is not ready, while its configuration space stays; an enabled one is ready with its admin queues; a shutdown waits for the commit of R120
(R84, R117 to R122). -/
def Obligations.ControllerRowsComplete : Prop :=
  (∀ (s : State) (c : Nat), s.isFinished c = true → exec (.completionPost c) s = .next ((s.post c).settleDeletes)) ∧
  (∀ (s : State) (i k : Nat) (q : Cq), s.armed (.intAggregation i k) = true → Tab.find k (s.func i).cqs = some q →
    ∃ t, exec (.interruptAggregationTimeout i k) s = .next t ∧ Tab.find k (t.func i).cqs = some { q with merged := 0 }) ∧
  (∀ (s : State) (i v : Nat), i < 1026 → v < 64 → ∃ t, exec (.msixVectorUnmask i v) s = .next t ∧ v ∈ (t.func i).unmasked) ∧
  (∀ (s : State) (i : Nat), i < 1026 → (s.func i).en = true →
    ∃ t, exec (.controllerReset i) s = .next t ∧ (t.func i).en = false ∧ (t.func i).rdy = false ∧ (t.func i).sqs = [] ∧ (t.func i).cqs = [] ∧
      (t.func i).bme = (s.func i).bme ∧ (t.func i).unmasked = (s.func i).unmasked ∧ (t.func i).pend = []) ∧
  (∀ (s : State) (i : Nat), i < 1026 → (s.func i).en = false → (s.func i).enWait = false → exec (.controllerReset i) s = .next s) ∧
  (∀ (s : State) (i a m n : Nat), i < 1026 → 2 ≤ m → m ≤ 4096 → 2 ≤ n → n ≤ 4096 → s.started = true → (s.func i).cfs = false →
    (s.func i).shst ≠ 1 → (s.func i).reset = .none → (s.func i).rdy = false →
    ∃ t, exec (.controllerEnable i a m n) s = .next t ∧ (t.func i).rdy = true ∧ (t.func i).ams = a ∧
      (Tab.find 0 (t.func i).sqs).map (·.size) = some m ∧ (Tab.find 0 (t.func i).cqs).map (·.size) = some n) ∧
  (∀ (s : State) (i : Nat), i < 1026 → (s.func i).shst = 0 →
    ∃ t, exec (.shutdownNormal i) s = .next t ∧ (t.func i).shst = 1 ∧ (t.func i).shn = 1 ∧ (t.func i).shnGroup = s.awaited ∧ t.q = s.q) ∧
  (∀ (s : State) (i : Nat), i < 1026 → (s.func i).shst = 0 →
    ∃ t, exec (.shutdownAbrupt i) s = .next t ∧ (t.func i).shst = 1 ∧ (t.func i).shn = 2 ∧ (t.func i).shnGroup = s.awaited) ∧
  (∀ (s : State) (i : Nat), s.shutdownDone i = true → s.sup.yielded = none → (s.func i).enWait = false →
    ∃ t, exec (.shutdownComplete i) s = .next t ∧ (t.func i).shst = 2) ∧
  (∀ (s : State) (n : Nat), s.allShutDown = true → s.sec.lcRun = none → s.buf.slots.all (fun p => p.2.applied) = true → s.crs.rmws = [] →
    s.lif.touched = [] → s.lif.running = [] → exec (.cleanStop n) s = .next ((s.openNew).closeGroup false true)) ∧
  (∀ (s : State) (c g : Nat) (k : Cmd), s.ioAt c 0x00 = some k → s.sanitizing = false → s.formattingNs k.sqe.nsid = false → s.namesNs k = true → s.awaited = some g →
    exec (.flush c) s = .next (s.updCmd c (fun x => { x with phase := .waitGroup g }))) ∧
  (∀ (s : State) (c : Nat) (k : Cmd), s.ioAt c 0x00 = some k → s.sanitizing = false → s.formattingNs k.sqe.nsid = false → s.namesNs k = true → s.awaited = none →
    exec (.flush c) s = .next ((s.finish c St.ok).qenCnt 17))

/-- The queue, abort and event rows of the admin set complete, each with the status NVM Express and the spec give it and its effect: queues are created within
the grant and deleted, an Abort never aborts, an Asynchronous Event Request waits for an event or takes one (R99, R119, R124, R128, R129, R134, R149). -/
def Obligations.QueueCommandsComplete : Prop :=
  (∀ (s : State) (c : Nat) (k : Cmd), s.cmd c = some k → k.phase = .active → k.dropped = false →
    ∃ t, exec (.unsupportedCommand c) s = .next t ∧ t.Ended c ⟨0, 0x01, true⟩) ∧
  (∀ (s : State) (c qid size vec : Nat) (intEn : Bool) (k : Cmd), s.AdminRuns c k → qid ≠ 0 → qid ≤ (s.grantOf k.fn).2 →
    Tab.has qid (s.func k.fn).cqs = false → 2 ≤ size → size ≤ 16384 → (intEn = true → vec < 64) →
    ∃ t, exec (.createIoCq c qid size vec intEn true false) s = .next t ∧ t.Ended c St.ok ∧
      Tab.find qid (t.func k.fn).cqs = some ⟨size, 0, 0, if intEn then some vec else none, [], [], 0⟩) ∧
  (∀ (s : State) (c qid size vec : Nat) (intEn contiguous inCmb : Bool) (k : Cmd), s.AdminRuns c k →
    (qid = 0 ∨ (s.grantOf k.fn).2 < qid ∨ Tab.has qid (s.func k.fn).cqs = true) →
    ∃ t, exec (.createIoCq c qid size vec intEn contiguous inCmb) s = .next t ∧ t.Ended c ⟨1, 0x01, true⟩ ∧ t.fns = s.fns) ∧
  (∀ (s : State) (c qid size cq prio : Nat) (k : Cmd), s.AdminRuns c k → qid ≠ 0 → qid ≤ (s.grantOf k.fn).1 →
    Tab.has qid (s.func k.fn).sqs = false → 2 ≤ size → size ≤ 16384 → cq ≠ 0 → Tab.has cq (s.func k.fn).cqs = true → prio ≤ 3 →
    ∃ t, exec (.createIoSq c qid size cq prio true false) s = .next t ∧ t.Ended c St.ok ∧
      Tab.find qid (t.func k.fn).sqs = some ⟨size, 0, 0, 0, cq, prio, false, 0, 0, none⟩) ∧
  (∀ (s : State) (c qid size cq prio : Nat) (contiguous inCmb : Bool) (k : Cmd), s.AdminRuns c k →
    (qid = 0 ∨ (s.grantOf k.fn).1 < qid ∨ Tab.has qid (s.func k.fn).sqs = true) →
    ∃ t, exec (.createIoSq c qid size cq prio contiguous inCmb) s = .next t ∧ t.Ended c ⟨1, 0x01, true⟩ ∧ t.fns = s.fns) ∧
  (∀ (s : State) (c qid : Nat) (k : Cmd), s.AdminRuns c k → qid ≠ 0 → Tab.has qid (s.func k.fn).sqs = true →
    (∀ p ∈ s.q.cmds, ¬(p.2.fn = k.fn ∧ p.2.sq = qid)) →
    ∃ t, exec (.deleteIoSq c qid) s = .next t ∧ t.Ended c St.ok ∧ Tab.find qid (t.func k.fn).sqs = none) ∧
  (∀ (s : State) (c d qid : Nat) (k x : Cmd), s.AdminRuns c k → qid ≠ 0 → Tab.has qid (s.func k.fn).sqs = true →
    (d, x) ∈ s.q.cmds → x.fn = k.fn → x.sq = qid → x.dropped = false →
    ∃ t, exec (.deleteIoSq c qid) s = .next t ∧ (t.cmd c).map (·.phase) = some .waitDurable ∧ t.nss = s.nss) ∧
  (∀ (s : State) (c qid : Nat) (k : Cmd), s.AdminRuns c k → qid ≠ 0 → Tab.has qid (s.func k.fn).cqs = true →
    (∀ p ∈ (s.func k.fn).sqs, p.2.cq ≠ qid) →
    ∃ t, exec (.deleteIoCq c qid) s = .next t ∧ t.Ended c St.ok ∧ Tab.find qid (t.func k.fn).cqs = none) ∧
  (∀ (s : State) (c sqid cid : Nat) (k : Cmd), s.AdminRuns c k →
    ∃ t, exec (.abort c sqid cid) s = .next t ∧ t.Ended c St.ok 1 ∧ t.fns = s.fns ∧
      t.fld (F.qenCntCount 21) = satAdd (2 ^ (F.qenCntCount 21).wid - 1) (s.fld (F.qenCntCount 21)) 1) ∧
  (∀ (s : State) (c : Nat) (k : Cmd), s.AdminRuns c k → (s.func k.fn).aens = [] → (s.func k.fn).aers.length < 16 →
    ∃ t, exec (.asyncEventRequest c) s = .next t ∧ (t.func k.fn).aers = (s.func k.fn).aers ++ [c] ∧ (t.cmd c).map (·.phase) = some .waitDurable) ∧
  (∀ (s : State) (c : Nat) (k : Cmd), s.AdminRuns c k → (s.func k.fn).aens = [] → 16 ≤ (s.func k.fn).aers.length →
    ∃ t, exec (.asyncEventRequest c) s = .next t ∧ t.Ended c ⟨1, 0x05, true⟩) ∧
  (∀ (s : State) (c ty info page : Nat) (k : Cmd) (rest : List (Nat × Nat × Nat)), s.AdminRuns c k → (s.func k.fn).aens = (ty, info, page) :: rest →
    ∃ t, exec (.asyncEventRequest c) s = .next t ∧ t.Ended c St.ok (ty + 256 * info + 65536 * page) ∧ (t.func k.fn).aens = rest)

/-- The identification, log page, feature and directive rows complete: what is supported returns its data or takes its value, what is absent ends with the
status the spec names, and a vendor feature is refused without its role before any field (R50, R128, R131, R145, R146, R147). -/
def Obligations.FeatureRowsComplete : Prop :=
  (∀ (s : State) (c cns cntid : Nat) (k : Cmd) (d : List Nat), s.AdminRuns c k → s.identify k.fn cns k.sqe.nsid cntid = .ok d →
    ∃ t, exec (.identify c cns cntid) s = .next t ∧ t.Ended c St.ok ∧ t.tx = .hostBuf c d :: s.tx) ∧
  (∀ (s : State) (c cns cntid : Nat) (k : Cmd), s.AdminRuns c k → identifyCns cns = false →
    ∃ t, exec (.identify c cns cntid) s = .next t ∧ t.Ended c ⟨0, 0x02, true⟩ ∧ t.tx = s.tx) ∧
  (∀ (s : State) (c page numd offset sel : Nat) (rae : Bool) (k : Cmd) (p : Page), s.AdminRuns c k → s.logPage k.fn page = some p →
    offset % 4 = 0 → offset ≤ p.size → numd ≤ 2 ^ 20 → (groupPage page = true → sel = 1) →
    ∃ t, exec (.getLogPage c page numd offset sel rae) s = .next t ∧ t.Ended c St.ok ∧ t.tx = .hostBuf c (p.dwords offset numd) :: s.tx ∧
      (rae = true → t.fns = s.fns)) ∧
  (∀ (s : State) (c page numd offset sel : Nat) (rae : Bool) (k : Cmd), s.AdminRuns c k → s.logPage k.fn page = none →
    ∃ t, exec (.getLogPage c page numd offset sel rae) s = .next t ∧ t.Ended c ⟨1, 0x09, true⟩ ∧ t.tx = s.tx) ∧
  (∀ (s : State) (c cdw11 cdw12 cdw13 : Nat) (data : List Nat) (k : Cmd), s.AdminRuns c k →
    ∃ t, exec (.setFeatures c 0x08 false cdw11 cdw12 cdw13 data) s = .next t ∧ t.Ended c St.ok ∧
      Tab.find 0x08 (t.func k.fn).feats = some (cdw11 % 65536)) ∧
  (∀ (s : State) (c cdw11 cdw12 cdw13 : Nat) (data : List Nat) (k : Cmd), s.AdminRuns c k → (s.func k.fn).qgrant = none →
    cdw11 % 65536 < 65535 → cdw11 / 65536 % 65536 < 65535 →
    ∃ t, exec (.setFeatures c 0x07 false cdw11 cdw12 cdw13 data) s = .next t ∧
      (t.func k.fn).qgrant = some (Nat.min (cdw11 % 65536 + 1) (s.allot k.fn), Nat.min (cdw11 / 65536 % 65536 + 1) (s.allot k.fn))) ∧
  (∀ (s : State) (c fid cdw11 cdw12 cdw13 : Nat) (save : Bool) (data : List Nat) (k : Cmd), s.AdminRuns c k → vendorFeature fid = true →
    s.mayAs k.fn (featureRole fid) = false →
    ∃ t, exec (.setFeatures c fid save cdw11 cdw12 cdw13 data) s = .next t ∧ t = (s.deny 2 (featureRole fid) k.fn fid).finish c St.roleRequired ∧
      t.adm = s.adm) ∧
  (∀ (s : State) (c secs cdw12 cdw13 : Nat) (data : List Nat) (k : Cmd), s.AdminRuns c k → k.fn < 2 → s.mayAs k.fn .operator = true → 1 ≤ secs → secs ≤ 3600 →
    exec (.setFeatures c 0xC4 true secs cdw12 cdw13 data) s =
      .next (((((s.setFld F.patCtlPeriod secs).noteGated 0xC4 secs k.fn).updCmd c (fun k => { k with phase := .waitStore })).cfsRequest 5 (.features c) 2))) ∧
  (∀ (s : State) (c fid cdw11 cdw12 cdw13 : Nat) (save : Bool) (data : List Nat) (k : Cmd), s.AdminRuns c k → vendorFeature fid = false →
    standardFeature fid = false →
    ∃ t, exec (.setFeatures c fid save cdw11 cdw12 cdw13 data) s = .next t ∧ t.Ended c ⟨0, 0x02, true⟩ ∧ t.fns = s.fns) ∧
  (∀ (s : State) (c ms : Nat) (k : Cmd), s.AdminRuns c k → s.fld F.tkStatOrigin ≠ 2 → s.flag F.tkCtlHostts = true →
    ∃ t, exec (.setFeaturesTimestamp c ms) s = .next t ∧ t.Ended c St.ok ∧ t.fld F.tkStatOrigin = 1 ∧ t.clk = (s.setTime (ms * 1000000)).clk) ∧
  (∀ (s : State) (c ms : Nat) (k : Cmd), s.AdminRuns c k → (s.fld F.tkStatOrigin = 2 ∨ s.flag F.tkCtlHostts = false) →
    ∃ t, exec (.setFeaturesTimestamp c ms) s = .next t ∧ t.Ended c St.ok ∧ t.clk = s.clk) ∧
  (∀ (s : State) (c fid cdw11 : Nat) (k : Cmd), s.AdminRuns c k → (vendorFeature fid = true ∨ standardFeature fid = true) →
    ∃ t, exec (.getFeatures c fid 2 cdw11) s = .next t ∧ t.Ended c St.ok (s.featureSaved fid k.fn k.sqe.nsid cdw11)) ∧
  (∀ (s : State) (c cdw11 : Nat) (k : Cmd), s.AdminRuns c k →
    ∃ t, exec (.getFeatures c 0x07 0 cdw11) s = .next t ∧ t.Ended c St.ok (s.featureNow 0x07 k.fn k.sqe.nsid cdw11)) ∧
  (∀ (s : State) (c dspec : Nat) (en : Bool) (k : Cmd), s.AdminRuns c k →
    ∃ t, exec (.directiveSend c 0 1 dspec (512 + b2n en)) s = .next t ∧ t.Ended c St.ok ∧ Tab.find 0x10000 (t.func k.fn).cfg = some (b2n en)) ∧
  (∀ (s : State) (c doper dspec cdw12 : Nat) (k : Cmd), s.AdminRuns c k →
    ∃ t, exec (.directiveSend c 1 doper dspec cdw12) s = .next t ∧ t.Ended c ⟨0, 0x02, true⟩) ∧
  (∀ (s : State) (c dspec : Nat) (k : Cmd), s.AdminRuns c k →
    ∃ t, exec (.directiveReceive c 0 1 dspec) s = .next t ∧ t.Ended c St.ok ∧
      t.tx = .hostBuf c [0x5, 1 + 4 * Tab.getD 0x10000 0 (s.func k.fn).cfg] :: s.tx)

/-- The rows that create, delete, attach, format and sanitize namespaces complete: a namespace takes its geometry and waits for its key set, a deletion
waits for its crypto erase, a Format and a Sanitize start and record their progress (R138, R141 to R144, R157, R460, R461). -/
def Obligations.NamespaceRowsComplete : Prop :=
  (∀ (s : State) (c mib lbaf pi : Nat) (piFirst : Bool) (k : Cmd), s.PfRuns c k → mib ≠ 0 → formatOk lbaf pi = true → s.nsMib + mib ≤ s.userMib →
    firstFree 1 s.nss ≤ 1024 →
    ∃ t, exec (.namespaceCreate c (256 * mib) (256 * mib) lbaf pi piFirst []) s = .next t ∧ t.AwaitsStore c ∧
      Tab.find (firstFree 1 s.nss) t.nss = some ⟨256 * mib, lbaf, pi, piFirst,
        freeGranules s.usedGranules 1048576 ((256 * mib + 262143) / 262144) 0, false, [0], false⟩ ∧
      t.keys.seeds = Tab.put (firstFree 1 s.nss) (Config.freeNat s.free) s.keys.seeds) ∧
  (∀ (s : State) (c mib lbaf pi : Nat) (piFirst : Bool) (k : Cmd), s.PfRuns c k → mib ≠ 0 → formatOk lbaf pi = true → s.userMib < s.nsMib + mib →
    ∃ t, exec (.namespaceCreate c (256 * mib) (256 * mib) lbaf pi piFirst []) s = .next t ∧ t.Ended c ⟨1, 0x15, true⟩ ∧ t.nss = s.nss) ∧
  (∀ (s : State) (c : Nat) (k : Cmd), s.PfRuns c k → k.sqe.nsid ≠ 0xFFFFFFFF → Tab.has k.sqe.nsid s.nss = true → s.formattingNs k.sqe.nsid = false →
    exec (.namespaceDelete c) s = .next (((((s.deleteNs k.sqe.nsid).cryptoStart [k.sqe.nsid] 4).updCmd c
      (fun x => { x with phase := .waitStore })).cryptoStep))) ∧
  (∀ (s : State) (c : Nat) (k : Cmd), s.AdminRuns c k → 2 ≤ k.fn →
    ∃ t, exec (.namespaceDelete c) s = .next t ∧ t.Ended c ⟨0, 0x01, true⟩ ∧ t.nss = s.nss) ∧
  (∀ (s : State) (c i : Nat) (k : Cmd), s.PfRuns c k → Tab.has k.sqe.nsid s.nss = true → 1 ≤ i → i ≤ 1026 →
    (s.func (i - 1)).nss.contains k.sqe.nsid = false →
    exec (.namespaceAttachment c true [i]) s = .next (((s.updFunc (i - 1) (fun f => { f with nss := insertNew k.sqe.nsid f.nss })).nsChanged
      k.sqe.nsid [i - 1]).finish c St.ok)) ∧
  (∀ (s : State) (c ses lbaf pi : Nat) (piFirst : Bool) (k : Cmd), s.PfRuns c k → s.SupervisorFree → k.sqe.nsid ≠ 0xFFFFFFFF → ses ≤ 2 →
    formatOk lbaf pi = true → Tab.has k.sqe.nsid s.nss = true → (lbaf = 0 ∨ (Tab.find k.sqe.nsid s.nss).any (·.compress) = false) →
    s.formattingNs k.sqe.nsid = false → (s.flag F.rclRoRo = false ∨ ses = 2) →
    exec (.formatNvm c ses lbaf pi piFirst) s = .next (((((s.formatBegin c ses lbaf pi piFirst k.sqe.nsid [k.sqe.nsid]).formatRun [k.sqe.nsid] ses).updCmd c
      (fun x => { x with phase := .waitStore })).cryptoStep).formatStep)) ∧
  (∀ (s : State) (c ses lbaf pi : Nat) (piFirst : Bool) (k : Cmd), s.PfRuns c k → s.SupervisorFree → 2 < ses →
    ∃ t, exec (.formatNvm c ses lbaf pi piFirst) s = .next t ∧ t.Ended c ⟨0, 0x02, true⟩ ∧ t.nss = s.nss) ∧
  (∀ (s : State) (n : Nat), s.adm.format.state = 1 →
    ∃ t, exec (.formatProgressRecord n) s = .next t ∧ t.adm.format.progress = Nat.min 65535 n ∧ t.adm.format.last = s.devTime ∧ t.nss = s.nss) ∧
  (∀ (s : State) (c passes pattern : Nat) (invert noDealloc : Bool) (k : Cmd), s.PfRuns c k → s.SupervisorFree → s.adm.format.state ≠ 1 →
    exec (.sanitize c 4 passes pattern invert noDealloc) s =
      .next (((((s.sanitizeBegin 4 passes pattern invert noDealloc).sanitizeErase 4).finish c St.ok).cryptoStep))) ∧
  (∀ (s : State) (c action passes pattern : Nat) (invert noDealloc : Bool) (k : Cmd), s.PfRuns c k → s.SupervisorFree → (action < 2 ∨ 4 < action) →
    ∃ t, exec (.sanitize c action passes pattern invert noDealloc) s = .next t ∧ t.Ended c ⟨0, 0x02, true⟩ ∧ t.adm = s.adm) ∧
  (∀ (s : State) (n : Nat), s.sanitizing = true →
    ∃ t, exec (.sanitizeProgressRecord n) s = .next t ∧ t.adm.sanitize.progress = Nat.min 65535 n ∧
      t.sanitizing = true) ∧
  (∀ (s : State) (ok : Bool), s.sanitizing = true → (∀ r ∈ s.adm.crypto, r.why ≠ 2) → s.adm.sanitize.action ≠ 3 →
    ∃ t, exec (.sanitizeOperationEnd ok) s = .next t ∧ t.adm.sanitize.state = (if ok then 1 else 3) ∧ t.adm.sanitize.progress = 65535 ∧ t.nss = s.nss)

/-- The rows of the two-grain map complete: an error stalls its segment once and changes nothing in a lost one, the owner table's scan suspends seaming, the age
epoch counts, deallocations and marks apply or are held, a unit applies, a stalled segment comes back or is lost (R162, R169, R174, R176, R179, R204). -/
def Obligations.MapRowsComplete : Prop :=
  (∀ (s : State) (cause e : Nat), e < 2 ^ 34 → (cause ≤ 1 ∨ cause = 3) → s.segLost (segOf e) = false → s.segStalled (segOf e) = false →
    ∃ t, exec (.mapSegmentStall cause e) s = .next t ∧ t.map = { s.map with stalled := s.map.stalled ++ [(segOf e, s.clk.mono)] } ∧
      t.flag F.mapStatStallseen = true ∧ t.fld F.mapUeLastCause = cause ∧ t.fld F.mapUeLastSeg = segOf e) ∧
  (∀ (s : State) (cause e : Nat), e < 2 ^ 34 → (cause ≤ 1 ∨ cause = 3) → s.segLost (segOf e) = true →
    exec (.mapSegmentStall cause e) s = .next s) ∧
  (∀ (s : State) (e : Nat),
    ∃ t, exec (.ownerTableError e false) s = .next t ∧ t.map.scanning = true ∧ t.map.overlays = s.map.overlays ∧ t.fld F.mapUeLastCause = 2) ∧
  (∀ (s : State) (e : Nat), ∃ t, exec (.ownerTableError e true) s = .next t ∧ t.map.scanning = false ∧ t.map.coarse = s.map.coarse) ∧
  (∀ (s : State), s.armed .ageEpoch = true →
    ∃ t, exec .ageEpochTick s = .next t ∧ t.fld F.mapEpochEpoch = (s.fld F.mapEpochEpoch + 1) % 2 ^ 32 ∧ t.armed .ageEpoch = true) ∧
  (∀ (s : State), s.armed .ageEpoch = false → exec .ageEpochTick s = .next s) ∧
  (∀ (s : State) (c : Nat) (k : Cmd) (n : Ns), s.NsRuns c 0x09 k n → k.sqe.ranges ≠ [] → k.sqe.ranges.length ≤ 256 →
    (∀ r ∈ k.sqe.ranges, r.1 + r.2 ≤ n.size) →
    ∃ t, exec (.datasetManagement c false) s = .next t ∧ t.Ended c St.ok ∧ t.map = s.map) ∧
  (∀ (s : State) (c : Nat) (k : Cmd) (n : Ns), s.NsRuns c 0x09 k n → k.sqe.ranges ≠ [] → k.sqe.ranges.length ≤ 256 →
    (∀ r ∈ k.sqe.ranges, r.1 + r.2 ≤ n.size) → s.mustWait c = false → s.segGate c n k.sqe.ranges = none →
    exec (.datasetManagement c true) s =
      .next (((s.unpark c).deallocRanges n k.sqe.ranges).1.deallocated c ((s.unpark c).deallocRanges n k.sqe.ranges).2)) ∧
  (∀ (s : State) (c : Nat) (ad : Bool) (k : Cmd) (n : Ns), s.NsRuns c 0x09 k n → k.sqe.ranges ≠ [] → k.sqe.ranges.length ≤ 256 →
    (∃ r ∈ k.sqe.ranges, n.size < r.1 + r.2) →
    ∃ t, exec (.datasetManagement c ad) s = .next t ∧ t.Ended c ⟨0, 0x80, true⟩ ∧ t.map = s.map) ∧
  (∀ (s : State) (c : Nat) (k : Cmd) (n : Ns), s.NsRuns c 0x04 k n → n.refuses k.sqe.slba k.sqe.nlb 65536 = none → s.flag F.rclRoRo = false →
    s.mustWait c = false → s.segGate c n [(k.sqe.slba, k.sqe.nlb)] = none →
    s.map.overlays.length + s.overlaysNeeded n k.sqe.slba k.sqe.nlb ≤ poolTotal →
    exec (.writeUncorrectable c) s =
      .next (((s.unpark c).updCmd c (fun k => { k with buffered := true })).markRange c k.sqe.nsid n k.sqe.slba k.sqe.nlb)) ∧
  (∀ (s : State) (c : Nat) (k : Cmd) (n : Ns), s.NsRuns c 0x04 k n → n.refuses k.sqe.slba k.sqe.nlb 65536 = none → s.flag F.rclRoRo = false →
    s.mustWait c = false → s.segGate c n [(k.sqe.slba, k.sqe.nlb)] = none →
    poolTotal < s.map.overlays.length + s.overlaysNeeded n k.sqe.slba k.sqe.nlb →
    ∃ t, exec (.writeUncorrectable c) s = .next t ∧ t.Ended c ⟨0, 0x06, false⟩ ∧ t.map = s.map ∧ t.flag F.mapStatPoolfullseen = true) ∧
  (∀ (s : State) (c nsid u : Nat) (p : Nat × BufSlot) (ps : List (Nat × BufSlot)), s.unitSlots c nsid u = p :: ps →
    (∀ x ∈ p :: ps, s.slotReady x.2 = true) → s.cmdBuffered c = true → s.earlierLocks c true = [] → s.earlierLocks c false = [] →
    s.crs.rmws = [] → s.map.stalled = [] → s.map.lost = [] →
    exec (.mapUnitApply c nsid u) s = .next (s.applyUnit c nsid u)) ∧
  (∀ (s : State) (j : Nat) (r : Rmw) (p : Nat), Tab.find j s.crs.rmws = some r → r.place = some p → s.runSafe p (if r.frame = 0 then 16 else r.frame) = true →
    s.cmdBuffered r.cmd = true → s.earlierLocks r.cmd true = [] → s.earlierLocks r.cmd false = [] → s.segStalled (segOf r.e) = false →
    s.segLost (segOf r.e) = false → s.ext r.e = r.seen →
    exec (.rmwWriteback j []) s = .next (s.writeBack j r)) ∧
  (∀ (s : State) (j : Nat) (r : Rmw) (p : Nat), Tab.find j s.crs.rmws = some r → r.place = some p → s.runSafe p (if r.frame = 0 then 16 else r.frame) = true →
    s.cmdBuffered r.cmd = true → s.earlierLocks r.cmd true = [] → s.earlierLocks r.cmd false = [] → s.segStalled (segOf r.e) = true →
    ∃ t, exec (.rmwWriteback j []) s = .next t ∧ t.map.coarse = s.map.coarse ∧ t.map.held = insertNew (segOf r.e, HeldUpd.rmw j) s.map.held) ∧
  (∀ (s : State) (g m n : Nat) (rest : List (Nat × Nat)), s.map.stalled = (g, m) :: rest → s.map.held = [] →
    ∃ t, exec (.segmentRecoveryComplete true n) s = .next t ∧ t.map = { s.map with stalled := rest } ∧
      t.fld (F.mapCntCount 21) = (s.fld (F.mapCntCount 21) + 1) % 2 ^ 32 ∧ t.fld (F.mapCntCount 23) = (s.fld (F.mapCntCount 23) + n) % 2 ^ 32) ∧
  (∀ (s : State) (g m n : Nat) (rest : List (Nat × Nat)), s.map.stalled = (g, m) :: rest → s.map.held = [] →
    ∃ t, exec (.segmentRecoveryComplete false n) s = .next t ∧ t.map = { s.map with stalled := rest, lost := insertNew g s.map.lost } ∧
      t.flag F.mapStatLostseen = true)

/-- The rows that carry a write complete: a write that is admitted is buffered, placed and completed by the protected or the exposed rule, one that finds no room
parks under reason 4, one out of range, into read-only mode or with a wrong guard is refused; the modes of R184 change with HOLD_OK (R132, R133, R136, R183 to R187, R252). -/
def Obligations.WriteRowsComplete : Prop :=
  (∀ (s : State) (c : Nat) (data : List HostSlot) (cmp : CmpOutcome) (k : Cmd) (n : Ns), s.NsRuns c 0x01 k n → s.writeRefused k n = none →
    s.stitchHeld c = false → s.dmaWaits c = false → s.admits c k.fn k.sqe.nlb = true → n.ingress k.sqe.prchk data = none →
    (cmp.badInput = [] ∨ k.cmpEn = false) →
    exec (.write c data cmp) s = .next ((s.unpark c).bufferWrite c k n k.sqe.slba k.sqe.nlb ((s.handleOf n k.sqe).getD 0)
      ((List.range k.sqe.nlb).map (fun i => ((data[i]?).map (fun d => (d.data, d.meta_))).getD (0, 0))) cmp)) ∧
  (∀ (s : State) (c : Nat) (data : List HostSlot) (cmp : CmpOutcome) (k : Cmd) (n : Ns), s.NsRuns c 0x01 k n → s.writeRefused k n = none →
    s.stitchHeld c = false → s.dmaWaits c = false → s.admits c k.fn k.sqe.nlb = false →
    ∃ t, exec (.write c data cmp) s = .next t ∧ t.buf = s.buf ∧ t.tx = s.tx ∧ t.fld (F.crsCntCount 18) = (s.fld (F.crsCntCount 18) + 1) % 2 ^ 32) ∧
  (∀ (s : State) (c : Nat) (data : List HostSlot) (cmp : CmpOutcome) (k : Cmd) (n : Ns), s.NsRuns c 0x01 k n → 1 ≤ k.sqe.nlb → k.sqe.nlb ≤ 1024 →
    n.size < k.sqe.slba + k.sqe.nlb →
    ∃ t, exec (.write c data cmp) s = .next t ∧ t.Ended c ⟨0, 0x80, true⟩ ∧ t.map = s.map) ∧
  (∀ (s : State) (c : Nat) (data : List HostSlot) (cmp : CmpOutcome) (k : Cmd) (n : Ns), s.NsRuns c 0x01 k n → n.refuses k.sqe.slba k.sqe.nlb 1024 = none →
    (s.handleOf n k.sqe).isSome = true → s.flag F.rclRoRo = true →
    ∃ t, exec (.write c data cmp) s = .next t ∧ t.Ended c ⟨0, 0x20, true⟩ ∧ t.map = s.map) ∧
  (∀ (s : State) (c : Nat) (data : List HostSlot) (cmp : CmpOutcome) (k : Cmd) (n : Ns), s.NsRuns c 0x01 k n → s.writeRefused k n = none →
    s.stitchHeld c = false → s.dmaWaits c = false → s.admits c k.fn k.sqe.nlb = true → n.pi ≠ 0 → k.sqe.prchk.testBit 2 = true →
    (∃ d ∈ data, d.guardOk = false) →
    ∃ t, exec (.write c data cmp) s = .next t ∧ t.Ended c ⟨2, 0x82, true⟩ ∧ t.map = s.map) ∧
  (∀ (s : State) (c : Nat) (k : Cmd) (n : Ns), s.NsRuns c 0x08 k n → s.writeRefused k n = none → s.admits c k.fn k.sqe.nlb = true →
    exec (.writeZeroes c) s = .next ((s.unpark c).bufferWrite c k n k.sqe.slba k.sqe.nlb ((s.handleOf n k.sqe).getD 0)
      (List.replicate k.sqe.nlb (0, 0)) ⟨false, [], []⟩)) ∧
  (∀ (s : State) (i : Nat) (b : BufSlot), s.armed (.cmpBypass i) = true → Tab.find i s.buf.slots = some b →
    exec (.cmpBypassTimeout i) s = .next (((((s.expire (.cmpBypass i)).setFlag F.cmpStatBypseen).cmpCnt 0).cmpCnt 3).placeExtent b.cmd b.nsid b.lba 0
      none false ⟨false, [], []⟩)) ∧
  (∀ (s : State) (c lba : Nat) (p : Nat × BufSlot), s.buf.slots.find? (fun p => decide (p.2.cmd = c) && decide (p.2.lba = lba) && !p.2.applied) = some p →
    s.cmdBuffered c = true →
    ∃ t, exec (.writeBufferUe c lba) s = .next t ∧ t.buf.slots = Tab.upd p.1 (fun b => { b with lost := true }) s.buf.slots ∧
      t.adm.mediaErrs = s.adm.mediaErrs + 1) ∧
  (∀ (s : State) (c lba : Nat) (k : Cmd) (p : Nat × BufSlot), s.buf.slots.find? (fun p => decide (p.2.cmd = c) && decide (p.2.lba = lba) && !p.2.applied) = some p →
    s.cmd c = some k → k.buffered = false → k.dropped = false →
    ∃ t, exec (.writeBufferUe c lba) s = .next t ∧ t.Ended c ⟨0, 0x04, false⟩ ∧ t.map = s.map) ∧
  (∀ (s : State), s.flag F.crsStatExposed = false →
    ∃ t, exec .holdOkDeassert s = .next t ∧ t.flag F.crsStatExposed = true ∧ t.flag F.crsStatExposedseen = true ∧ t.fld F.crsExpCause = 1 ∧
      t.flag F.lifStatHoldok = false) ∧
  (∀ (s : State), s.flag F.crsStatExposed = true → (s.setFlag F.lifStatHoldok).exposedCause = 0 →
    ∃ t, exec .holdOkAssert s = .next t ∧ t.flag F.lifStatHoldok = true ∧ t.flag F.crsStatExposed = true ∧ t.armed .protectedMode = true) ∧
  (∀ (s : State), s.armed .protectedMode = true → s.exposedCause = 0 →
    ∃ t, exec .protectedModeTimer s = .next t ∧ t.flag F.crsStatExposed = false) ∧
  (∀ (s : State), s.armed .protectedMode = false → exec .protectedModeTimer s = .next s)

/-- The rows that program and erase flash complete: rows are padded by their timers, programs and erases occupy a die and free it, a pass moves the program-safe
point, a failure drops its member or closes its course, an erased block passes the open check or is retired (R193, R196, R200, R203, R205 to R207). -/
def Obligations.FlashWriteRowsComplete : Prop :=
  (∀ (s : State) (n : Nat), s.armed (.rowIdle n) = true → exec (.rowIdleTimeout n) s = .next ((s.expire (.rowIdle n)).padRow n)) ∧
  (∀ (s : State) (n : Nat), s.armed (.rowIdle n) = false → exec (.rowIdleTimeout n) s = .next s) ∧
  (∀ (s : State) (n : Nat), s.armed (.exposedRow n) = true → s.flag F.crsStatExposed = true →
    exec (.exposedRowTimeout n) s = .next ((s.expire (.exposedRow n)).padRow n)) ∧
  (∀ (s : State) (n pos : Nat) (c : Course) (m : Member), s.course n = some c → c.closed = false → c.mem pos = some m → s.mayIssue n c pos m = true →
    ∃ t, exec (.rowProgramIssue n pos) s = .next t ∧ (t.course n) = some (c.setMem pos { m with iss := m.iss + 1 }) ∧
      (Tab.find m.die t.fl.ops).map (·.kind) = some 1 ∧ t.armed (.flashOp m.die) = true ∧ t.map = s.map) ∧
  (∀ (s : State) (n pos : Nat) (c : Course) (m : Member), s.programOf n pos = some (c, m) → 3 ≤ c.band → c.band ≠ 5 → s.buf.slots = [] →
    ∃ t, exec (.programComplete n pos) s = .next t ∧ t.course n = some (c.setMem pos { m with done := m.iss }) ∧ Tab.find m.die t.fl.ops = none ∧
      t.map = s.map) ∧
  (∀ (s : State) (n pos : Nat) (x : Course × Member), s.programOf n pos = some x →
    ∃ t, exec (.programComplete n pos) s = .next t) ∧
  (∀ (s : State) (n pos : Nat) (c : Course) (m : Member), s.programOf n pos = some (c, m) → (c.parityPos n).contains pos = false →
    exec (.programFail n pos) s = .next (s.dataFail n c pos m)) ∧
  (∀ (s : State) (n pos : Nat) (c : Course) (m : Member), s.programOf n pos = some (c, m) → (c.parityPos n).contains pos = true →
    exec (.parityProgramFail n pos) s = .next (s.parityFail n c pos m)) ∧
  (∀ (s : State) (n : Nat) (c : Course), s.course n = some c → c.closed = false →
    ∃ t, exec (.parityAccumulatorUe n) s = .next t ∧ t.fld (F.crsCntCount 22) = (s.fld (F.crsCntCount 22) + 1) % 2 ^ 32 ∧ t.crs = s.crs ∧ t.map = s.map) ∧
  (∀ (s : State) (d b : Nat), s.mayErase d b = true →
    ∃ t, exec (.eraseIssue d b) s = .next t ∧ (Tab.find d t.fl.ops).map (·.kind) = some 2 ∧ t.armed (.flashOp d) = true ∧
      (∀ p ∈ t.crs.media, psaBlk p.1 ≠ blkId d b)) ∧
  (∀ (s : State) (d b : Nat), s.eraseOf d = some b →
    ∃ t, exec (.eraseComplete d true) s = .next t ∧ (t.blk b).ec = (s.blk b).ec + 1 ∧ (t.blk b).checking = true ∧ Tab.find d t.fl.ops = none) ∧
  (∀ (s : State) (d b : Nat), s.eraseOf d = some b → (s.blk b).eFails = 0 →
    ∃ t, exec (.eraseComplete d false) s = .next t ∧ (t.blk b).eFails = 1 ∧ t.flag F.crsStatEfailseen = true ∧ Tab.find d t.fl.ops = none) ∧
  (∀ (s : State) (d b : Nat), (s.blk (blkId d b)).checking = true → (s.blk (blkId d b)).state = .erasePending →
    exec (.openCheck d b true) s =
      .next (((s.updBlk (blkId d b) (fun x => { x with state := .erased, checking := false, cFails := 0 })).noteF).placeWaiting)) ∧
  (∀ (s : State) (d b : Nat), (s.blk (blkId d b)).checking = true → (s.blk (blkId d b)).state = .erasePending → (s.blk (blkId d b)).cFails = 0 →
    ∃ t, exec (.openCheck d b false) s = .next t ∧ (t.blk (blkId d b)).cFails = 1 ∧ (t.blk (blkId d b)).state = .erasePending ∧
      (t.blk (blkId d b)).checking = false ∧ t.flag F.crsStatOpenchkseen = true)

/-- The rows of the read-type commands complete: a command whose ranges are in reach resolves every slot, one whose length or range is wrong is refused, one that
touches a lost segment ends with 06h (R19, R132, R133, R164, R179). -/
def Obligations.ReadCommandsComplete : Prop :=
  (∀ (s : State) (c : Nat) (k : Cmd) (n : Ns), s.NsRuns c 0x02 k n → 1 ≤ k.sqe.nlb → k.sqe.nlb ≤ 1024 → k.sqe.slba + k.sqe.nlb ≤ n.size →
    s.ReadGoes c k n [(k.sqe.slba, k.sqe.nlb)] →
    exec (.read c) s = .next (({ s with adm := { s.adm with reads := s.adm.reads + 1 } } : State).readRanges c k.sqe.nsid n [(k.sqe.slba, k.sqe.nlb)])) ∧
  (∀ (s : State) (c : Nat) (k : Cmd) (n : Ns), s.NsRuns c 0x02 k n → (k.sqe.nlb = 0 ∨ 1024 < k.sqe.nlb) →
    ∃ t, exec (.read c) s = .next t ∧ t.Ended c ⟨0, 0x02, true⟩ ∧ t.tx = s.tx) ∧
  (∀ (s : State) (c : Nat) (k : Cmd) (n : Ns), s.NsRuns c 0x02 k n → 1 ≤ k.sqe.nlb → k.sqe.nlb ≤ 1024 → n.size < k.sqe.slba + k.sqe.nlb →
    ∃ t, exec (.read c) s = .next t ∧ t.Ended c ⟨0, 0x80, true⟩ ∧ t.tx = s.tx) ∧
  (∀ (s : State) (c g : Nat) (k : Cmd) (n : Ns), s.NsRuns c 0x02 k n → 1 ≤ k.sqe.nlb → k.sqe.nlb ≤ 1024 → k.sqe.slba + k.sqe.nlb ≤ n.size →
    s.adm.degraded.contains 6 = false → s.rd.reads = [] → k.buffered = false → s.earlierWrites c = [] → g ∈ n.segs k.sqe.slba k.sqe.nlb → s.segLost g = true →
    ∃ t, exec (.read c) s = .next t ∧ t.Ended c ⟨0, 0x06, false⟩ ∧ t.tx = s.tx) ∧
  (∀ (s : State) (c : Nat) (k : Cmd) (n : Ns), s.NsRuns c 0x0C k n → 1 ≤ k.sqe.nlb → k.sqe.nlb ≤ 65536 → k.sqe.slba + k.sqe.nlb ≤ n.size →
    s.ReadGoes c k n [(k.sqe.slba, k.sqe.nlb)] → exec (.verify c) s = .next (s.readRanges c k.sqe.nsid n [(k.sqe.slba, k.sqe.nlb)])) ∧
  (∀ (s : State) (c : Nat) (data : List HostSlot) (k : Cmd) (n : Ns), s.NsRuns c 0x05 k n → 1 ≤ k.sqe.nlb → k.sqe.nlb ≤ 1024 →
    k.sqe.slba + k.sqe.nlb ≤ n.size → s.ReadGoes c k n [(k.sqe.slba, k.sqe.nlb)] →
    (∀ i, i < k.sqe.nlb → (data[i]?).map (fun d => (d.data, d.meta_)) = some (s.slotNow c k.sqe.nsid n (k.sqe.slba + i))) →
    exec (.compare c data) s = .next (s.readRanges c k.sqe.nsid n [(k.sqe.slba, k.sqe.nlb)])) ∧
  (∀ (s : State) (c i : Nat) (data : List HostSlot) (k : Cmd) (n : Ns), s.NsRuns c 0x05 k n → 1 ≤ k.sqe.nlb → k.sqe.nlb ≤ 1024 →
    k.sqe.slba + k.sqe.nlb ≤ n.size → s.ReadGoes c k n [(k.sqe.slba, k.sqe.nlb)] → i < k.sqe.nlb →
    (data[i]?).map (fun d => (d.data, d.meta_)) ≠ some (s.slotNow c k.sqe.nsid n (k.sqe.slba + i)) →
    exec (.compare c data) s = .next ((s.noteFailure c ⟨2, 0x85, true⟩).readRanges c k.sqe.nsid n [(k.sqe.slba, k.sqe.nlb)])) ∧
  (∀ (s : State) (c : Nat) (k : Cmd) (n : Ns), s.NsRuns c 0x19 k n → k.sqe.ranges ≠ [] → k.sqe.ranges.length ≤ 128 →
    (∀ r ∈ k.sqe.ranges, 1 ≤ r.2 ∧ r.2 ≤ 16384 ∧ r.1 + r.2 ≤ n.size) → sumNat (k.sqe.ranges.map (·.2)) ≤ 262144 →
    k.sqe.slba + sumNat (k.sqe.ranges.map (·.2)) ≤ n.size → (s.handleOf n k.sqe).isSome = true → s.flag F.rclRoRo = false →
    (n.segs k.sqe.slba (sumNat (k.sqe.ranges.map (·.2)))).any s.segLost = false → s.admits c k.fn (sumNat (k.sqe.ranges.map (·.2))) = true →
    s.ReadGoes c k n k.sqe.ranges →
    exec (.copy c) s = .next (({ s with buf := { s.buf with resv := Tab.put c (sumNat (k.sqe.ranges.map (·.2))) s.buf.resv } } : State).readRanges c
      k.sqe.nsid n k.sqe.ranges)) ∧
  (∀ (s : State) (c : Nat) (k : Cmd) (n : Ns), s.NsRuns c 0x19 k n → 128 < k.sqe.ranges.length → (∀ r ∈ k.sqe.ranges, 1 ≤ r.2) →
    ∃ t, exec (.copy c) s = .next t ∧ t.Ended c ⟨1, 0x83, true⟩ ∧ t.map = s.map)

/-- The rows of codeword reads complete: a read goes to its die with its deadline, or is rebuilt where the die is slow; an arrival cancels the deadline; the ladder
climbs or delivers; a lost deadline rebuilds; the TLER limit ends at L6; a rebuild delivers or fails; slow dies are probed and released (R218 to R229, R231, R232). -/
def Obligations.CodewordRowsComplete : Prop :=
  (∀ (s : State) (r : Nat) (x : CwRead), s.cw r = some x → x.phase = .queued → x.again = false → s.bypassed (psaDie x.psa) = false →
    Tab.has (psaDie x.psa / 1024) s.fl.down = false → s.inTurn (psaDie x.psa) = true → s.flag F.eccCtlTcuten = true →
    ∃ t, exec (.pageReadIssue r) s = .next t ∧ (t.cw r).map (·.phase) = some .atDie ∧ t.armed (.tailCut r) = true ∧ t.map = s.map ∧ t.tx = s.tx) ∧
  (∀ (s : State) (r : Nat) (x : CwRead), s.cw r = some x → x.phase = .queued → x.again = false → s.bypassed (psaDie x.psa) = true →
    Tab.has (psaDie x.psa / 1024) s.fl.down = false → s.inTurn (psaDie x.psa) = true →
    ∃ t, exec (.pageReadIssue r) s = .next t ∧ (t.cw r).map (·.phase) = some .rebuilding ∧ (t.cw r).map (·.why) = some 2 ∧
      t.fld (F.eccCntCount 9) = (s.fld (F.eccCntCount 9) + 1) % 2 ^ 32) ∧
  (∀ (s : State) (r : Nat) (x : CwRead), s.rd.late.contains r = false → s.cw r = some x → x.phase = .atDie →
    ∃ t, exec (.codewordArrival r false) s = .next t ∧ (t.cw r).map (·.phase) = some .decoding ∧ t.armed (.tailCut r) = false) ∧
  (∀ (s : State) (r : Nat) (x : CwRead), s.rd.late.contains r = false → s.cw r = some x → x.phase = .atDie → x.again = false →
    ∃ t, exec (.codewordArrival r true) s = .next t ∧ (t.cw r).map (·.phase) = some .rebuilding ∧ (t.cw r).map (·.step) = some 4) ∧
  (∀ (s : State) (r : Nat) (erased : Bool), s.rd.late.contains r = true →
    ∃ t, exec (.codewordArrival r erased) s = .next t ∧ t.rd.reads = s.rd.reads ∧ t.rd.late.contains r = false ∧
      t.fld (F.eccCntCount 8) = (s.fld (F.eccCntCount 8) + 1) % 2 ^ 32) ∧
  (∀ (s : State) (r : Nat) (x : CwRead), s.armed (.tailCut r) = true → s.cw r = some x →
    ∃ t, exec (.tailCutDeadline r) s = .next t ∧ (t.cw r).map (·.phase) = some .rebuilding ∧ (t.cw r).map (·.why) = some 1 ∧
      t.rd.late = s.rd.late ++ [r]) ∧
  (∀ (s : State) (r : Nat), s.armed (.tailCut r) = false → exec (.tailCutDeadline r) s = .next s) ∧
  (∀ (s : State) (r : Nat) (x : CwRead), s.armed (.tler r) = true → s.cw r = some x → x.frame = 0 →
    ∃ t, exec (.tlerLimit r) s = .next t ∧ t.cw r = none ∧ t.fld F.eccUePageCause = 2 ∧ t.flag F.eccStatUeseen = true) ∧
  (∀ (s : State) (r synd level pi : Nat) (x : CwRead), s.cw r = some x → x.phase = .decoding → x.step = 0 →
    exec (.decodeComplete r true synd level 0 pi) s = .next ((s.noteSynd (psaBlk x.psa) synd).decoded r x 0 pi)) ∧
  (∀ (s : State) (r synd level pi : Nat) (x : CwRead), s.cw r = some x → x.phase = .decoding → (x.step = 1 ∨ x.step = 2) →
    exec (.decodeComplete r true synd level 0 pi) s = .next ((s.noteLevel (psaBlk x.psa) level).decoded r x 0 pi)) ∧
  (∀ (s : State) (r synd level pi : Nat) (x : CwRead), s.cw r = some x → x.phase = .decoding → x.step = 0 → x.again = false →
    Tab.has (psaDie x.psa) s.fl.slow = false →
    ∃ t, exec (.decodeComplete r false synd level 0 pi) s = .next t ∧ (t.cw r).map (·.step) = some 1 ∧ t.tx = s.tx) ∧
  (∀ (s : State) (r synd level check pi : Nat) (x : CwRead), s.cw r = some x → x.phase = .decoding → x.step = 3 → x.again = false → x.frame = 0 →
    check ≠ 0 → check ≠ 2 →
    ∃ t, exec (.decodeComplete r true synd level check pi) s = .next t ∧ (t.cw r).map (·.phase) = some .rebuilding ∧ (t.cw r).map (·.step) = some 4) ∧
  (∀ (s : State) (r lost pi : Nat) (x : CwRead) (c : Course), s.cw r = some x → x.phase = .rebuilding → s.course (s.blk (psaBlk x.psa)).course = some c →
    lost < c.ply → x.why ≠ 0 → exec (.reconstructionComplete r lost 0 pi) s = .next (s.passCw r x pi)) ∧
  (∀ (s : State) (r lost pi : Nat) (x : CwRead) (c : Course), s.cw r = some x → x.phase = .rebuilding → s.course (s.blk (psaBlk x.psa)).course = some c →
    lost < c.ply → x.why = 0 → exec (.reconstructionComplete r lost 0 pi) s = .next (((s.eccCnt 4).refreshBlock (psaBlk x.psa)).passCw r x pi)) ∧
  (∀ (s : State) (r lost pi : Nat) (x : CwRead) (c : Course), s.cw r = some x → x.phase = .rebuilding → s.course (s.blk (psaBlk x.psa)).course = some c →
    c.ply ≤ lost → x.why ≠ 0 →
    ∃ t, exec (.reconstructionComplete r lost 0 pi) s = .next t ∧ (t.cw r).map (·.phase) = some .queued ∧ (t.cw r).map (·.again) = some true ∧
      t.flag F.eccStatRecfailseen = true) ∧
  (∀ (s : State) (d tr total : Nat), s.armed (.slowProbe d) = true → Tab.has d s.fl.slow = true → 10 * tr ≤ s.fld F.eccSlowCtlProbetr * s.fl.geom.tr →
    total ≤ s.fld F.eccTcutDeadline * 10000 →
    ∃ t, exec (.slowProbeTimer d tr total) s = .next t ∧ t.armed (.slowProbe d) = true ∧ t.fl = s.fl ∧
      t.fld (F.eccCntCount 14) = (s.fld (F.eccCntCount 14) + 1) % 2 ^ 32) ∧
  (∀ (s : State) (d : Nat), s.armed (.slowHold d) = true → Tab.has d s.fl.slow = true →
    ∃ t, exec (.slowDieHoldExpiry d) s = .next t ∧ Tab.has d t.fl.slow = false ∧ t.armed (.slowProbe d) = false) ∧
  (∀ (s : State) (d : Nat), s.armed (.slowHold d) = false → exec (.slowDieHoldExpiry d) s = .next s)

/-- The rows of reclamation complete: victims are chosen below the target, courses queued by age are kept, passes copy, staged slots move, seams start and
commit, moves commit, the spare stall ends in read-only mode, and the reclaim unit handle rows answer (R168, R197, R202, R239 to R242, R246, R252, R253). -/
def Obligations.ReclaimRowsComplete : Prop :=
  (∀ (s : State), (s.sanitizing = true ∨ s.victimTarget ≤ s.freeF) → exec .victimSelect s = .next s) ∧
  (∀ (s : State), s.sanitizing = false → s.freeF < s.victimTarget →
    exec .victimSelect s = .next (State.queueBest (s.fld F.rclVictBatch - (s.crs.victims.filter (fun v => v.reason = 0)).length) s)) ∧
  (∀ (s : State) (n : Nat) (c : Course), s.course n = some c → c.closed = true → c.band ≤ 2 →
    c.closeTime + 86400 * s.fld F.rclRefCtlAgedays * 1000000000 ≤ s.clk.mono →
    exec (.courseAgeRefresh n) s = .next (s.queueVictim n 2 6)) ∧
  (∀ (s : State) (n : Nat) (bad : List Nat) (c : Course) (v : Victim), s.course n = some c → s.crs.victims = [v] → v.course = n → v.reason ≤ 5 →
    exec (.reclaimCopy n bad) s = .next (({ s with crs := { s.crs with victims := [] } } : State).copyBlocks n v.reason 2 bad
      ((c.dataPos n).filterMap (fun p => (c.mem p).map Member.id)))) ∧
  (∀ (s : State) (n : Nat) (bad : List Nat) (c : Course), s.course n = some c → c.closed = true → c.band = 1 →
    exec (.destageMove n bad) s = .next (s.copyBlocks n 8 0 bad ((c.dataPos n).filterMap (fun p => (c.mem p).map Member.id)))) ∧
  (∀ (s : State) (e : Nat) (bad : List Nat), s.maySeam e = true → 1 ≤ s.pool → exec (.seamStart e bad) s = .next (s.seamStart e bad)) ∧
  (∀ (s : State) (id : Nat) (c : Copy), Tab.find id s.crs.copies = some c → c.reason = 11 → s.copySafe c = true → s.segStalled (segOf c.e) = false →
    s.segLost (segOf c.e) = false → s.ext c.e ≠ c.seen →
    ∃ t, exec (.seamCommit id) s = .next t ∧ t.map = s.map ∧ Tab.find id t.crs.copies = none ∧
      t.fld (F.mapCntCount 10) = (s.fld (F.mapCntCount 10) + 1) % 2 ^ 32) ∧
  (∀ (s : State) (id : Nat) (c : Copy), Tab.find id s.crs.copies = some c → c.reason = 11 → s.copySafe c = true → s.segStalled (segOf c.e) = false →
    s.segLost (segOf c.e) = false → exec (.seamCommit id) s = .next (s.seamCommit id c)) ∧
  (∀ (s : State) (id : Nat) (c : Copy), Tab.find id s.crs.copies = some c → c.reason ≠ 11 → s.copySafe c = true → s.segStalled (segOf c.e) = false →
    s.segLost (segOf c.e) = false → exec (.moveCommit id) s = .next (s.moveCommit id c)) ∧
  (∀ (s : State) (id : Nat) (c : Copy), Tab.find id s.crs.copies = some c → c.reason ≠ 11 → s.copySafe c = true → s.segStalled (segOf c.e) = true →
    ∃ t, exec (.moveCommit id) s = .next t ∧ t.map = { s.map with held := insertNew (segOf c.e, HeldUpd.copy id) s.map.held } ∧ t.crs = s.crs) ∧
  (∀ (s : State), s.armed .readOnlyStall = true → s.freeF ≤ 4 → s.worthwhile = false → s.flag F.rclRoRo = false →
    ∃ t, exec .readOnlyStall s = .next t ∧ t.flag F.rclRoRo = true ∧ t.fld F.rclRoCause = 2 ∧ t.flag F.rclStatRoseen = true ∧ t.map = s.map) ∧
  (∀ (s : State), s.armed .readOnlyStall = false → exec .readOnlyStall s = .next s) ∧
  (∀ (s : State) (c i : Nat) (k : Cmd) (n : Ns), s.NsRuns c 0x12 k n → s.adm.fdp = some i →
    ∃ t, exec (.ioManagementReceive c 1) s = .next t ∧ t.Ended c St.ok ∧
      t.tx = .hostBuf c (n.handles.length :: (List.range n.handles.length).flatMap (fun j => [j, n.handles.getD j 0, s.handleRoom (n.handles.getD j 0)])) :: s.tx) ∧
  (∀ (s : State) (c mo : Nat) (k : Cmd) (n : Ns), s.NsRuns c 0x12 k n → mo ≠ 1 →
    ∃ t, exec (.ioManagementReceive c mo) s = .next t ∧ t.Ended c ⟨0, 0x02, true⟩ ∧ t.tx = s.tx) ∧
  (∀ (s : State) (c i : Nat) (hs : List Nat) (k : Cmd) (n : Ns), s.NsRuns c 0x1D k n → s.adm.fdp = some i → (∀ h ∈ hs, h < n.handles.length) →
    exec (.reclaimUnitHandleUpdate c hs) s = .next ((hs.foldl (fun t j => t.updateHandle (n.handles.getD j 0)) s).finish c St.ok)) ∧
  (∀ (s : State) (c i h : Nat) (hs : List Nat) (k : Cmd) (n : Ns), s.NsRuns c 0x1D k n → s.adm.fdp = some i → h ∈ hs → n.handles.length ≤ h →
    ∃ t, exec (.reclaimUnitHandleUpdate c hs) s = .next t ∧ t.Ended c ⟨0, 0x02, true⟩ ∧ t.crs = s.crs) ∧
  (∀ (s : State) (c : Nat) (hs : List Nat) (k : Cmd) (n : Ns), s.NsRuns c 0x1D k n → s.adm.fdp = none →
    ∃ t, exec (.reclaimUnitHandleUpdate c hs) s = .next t ∧ t.Ended c ⟨0, 0x29, true⟩ ∧ t.crs = s.crs)

/-- The rows of the lifeline complete: the group timer closes the open group with its marker, the oldest closed group commits, a failed journal
row moves its copy and is logged, checkpoints are begun, marked or named again in the round, anchors are handed to the store, and a clean stop
advances (R261, R263, R264, R266, R268, R271). -/
def Obligations.LifelineRowsComplete : Prop :=
  (∀ (s : State) (g : Group), s.armed .groupTimer = true → s.lif.openGroup = some g →
    ∃ t, exec .groupTimerExpiry s = .next t ∧ t.lif.openGroup = none ∧ t.lif.closed = g.num ∧ t.armed .groupTimer = false ∧
      t.lif.waiting.dropLast = s.lif.waiting ∧
      t.lif.waiting.getLast?.map (fun h => (h.num, h.recs.take g.recs.length, h.recs.length)) = some (g.num, g.recs, g.recs.length + 1) ∧
      t.lif.nextRec = nextRecSeq s.lif.nextRec ∧ t.fld (F.lifCntCount 2) = (s.fld (F.lifCntCount 2) + 1) % 2 ^ 32 ∧ t.map = s.map) ∧
  (∀ (s : State), s.armed .groupTimer = false → exec .groupTimerExpiry s = .next s) ∧
  (∀ (s : State) (a b : Nat) (g : Group) (gs : List Group), s.lif.waiting = g :: gs → 0 < a → 0 < b →
    exec (.groupCommit a b) s = .next (s.commitGroup g a b)) ∧
  (∀ (s : State) (a b : Nat), s.lif.waiting = [] → exec (.groupCommit a b) s = .fault .noSuchObject) ∧
  (∀ (s : State) (copy pos : Nat) (c : Course) (m : Member), copy < 2 → s.course (s.lif.copy copy).course = some c → c.mem pos = some m →
    exec (.journalCopyFail copy pos) s =
      .next (((((s.copyError copy 0 ((s.lif.waiting.head?.map (·.num)).getD s.lif.closed)).lifCnt 11).journalBlockFailed m
        (s.lif.copy copy).rows)).moveCopy copy)) ∧
  (∀ (s : State) (num len : Nat), s.armed .checkpointInterval = true → (s.expire .checkpointInterval).outOfTurn = none →
    (s.expire .checkpointInterval).nextCkpt.1 = num → s.lif.running.any (fun c => c.num = num) = false → s.lif.touched.contains num = false →
    Tab.getD num [] s.lif.kept = [] →
    ∃ t, exec (.checkpointInterval len) s = .next t ∧ t.lif.running = s.lif.running ∧ t.armed .checkpointInterval = true ∧
      t.fld (F.lifCntCount 8) = (s.fld (F.lifCntCount 8) + 1) % 2 ^ 32) ∧
  (∀ (s : State) (len : Nat), s.armed .checkpointInterval = true →
    ∃ t, exec (.checkpointInterval len) s = .next t ∧ t.armed .checkpointInterval = true) ∧
  (∀ (s : State) (num : Nat) (c : Ckpt), s.lif.running.find? (fun c => c.num = num) = some c → s.runSafe c.psa (s.ckptSlots c.len) = true →
    exec (.checkpointMark num) s = .next (s.markCkpt c)) ∧
  (∀ (s : State), s.armed .anchorTimer = true →
    ∃ t, exec .anchorTimer s = .next t ∧ t.armed .anchorTimer = true ∧ t.lif.anchorNext.isSome = true) ∧
  (∀ (s : State), s.armed .anchorTimer = false → exec .anchorTimer s = .next s)

/-- The rows of failing power complete: PFAIL_N, a low rail or a low core stops fetch, ends every command and runs the dump once the dump area is
formed; its end records the quiet time, and power that is back resets the device (R46, R273, R277, R278, R488). -/
def Obligations.PowerFailRowsComplete : Prop :=
  (∀ (s : State), s.dump.running = none →
    ∃ t, exec .pfailAssert s = .next t ∧ t.dump.running = some s.clk.mono ∧ t.q.cmds = [] ∧ t.q.fetchStop = true ∧ t.fl.ops = [] ∧
      t.crs.copies = [] ∧ (s.dump.formed = true → t.flag F.lifStatPfailseen = true ∧ t.lif.openGroup = none)) ∧
  (∀ (s : State), s.dump.running.isSome = true → exec .pfailAssert s = .next { s with pins := { s.pins with pfail := true } }) ∧
  (∀ (s : State), s.pins.pfail = false → s.dump.running = none →
    ∃ t, exec .vddCoreLow s = .next t ∧ t.dump.running = some s.clk.mono ∧ t.q.cmds = []) ∧
  (∀ (s : State) (r : Nat), 1 ≤ r → r ≤ 4 → s.pins.pfail = false → s.dump.running = none →
    ∃ t, exec (.railLow r) s = .next t ∧ t.dump.running = some s.clk.mono ∧ t.q.cmds = []) ∧
  (∀ (s : State) (r : Nat), 1 ≤ r → r ≤ 4 → s.pins.pfail = true →
    exec (.railLow r) s = .next { s with pins := { s.pins with lowRails := insertNew r s.pins.lowRails } }) ∧
  (∀ (s : State) (quiet written : Nat) (rows : List (Nat × Nat)), s.dump.running.isSome = true → s.dump.ended = false →
    s.hif.port0.perst = false → s.hif.port1.perst = false →
    ∃ t, exec (.dumpEnd quiet written rows false) s = .next t ∧ t.dump.ended = true ∧ t.fld F.lifPfLastQuiet = Nat.min 65535 quiet ∧
      t.fld (F.lifPfhistValid 0) = 1 ∧ t.fld (F.lifPfhistShort 0) = b2n (decide (written < s.dump.total)) ∧ t.pins.pfail = true) ∧
  (∀ (s : State) (quiet written : Nat) (rows : List (Nat × Nat)), s.dump.running.isSome = true → s.dump.ended = true →
    exec (.dumpEnd quiet written rows true) s =
      .next (({ s with pins := { s.pins with pfail := false } } : State).dumpReset (if s.hif.port0.perst && s.hif.port1.perst then 1 else 2)))

/-- The rows of the flash channels complete: polls are counted and a ready status cancels the limit it wins against, timeouts count, are logged and
reset or retire the LUN, calibration and training run, and the loss of a skein link is recovered or ends its dies' service (R293, R294, R300, R301,
R306). -/
def Obligations.ChannelRowsComplete : Prop :=
  (∀ (s : State) (d : Nat), s.inSvc d = true →
    ∃ t, exec (.statusPoll d false) s = .next t ∧ t.fld (F.sknCntCount (d / 1024) 4) = (s.fld (F.sknCntCount (d / 1024) 4) + 1) % 2 ^ 32 ∧ t.fl = s.fl) ∧
  (∀ (s : State) (d : Nat), s.inSvc d = true → Tab.has d s.fl.resets = true →
    ∃ t, exec (.statusPoll d true) s = .next t ∧ Tab.has d t.fl.resets = false ∧ t.armed (.lunReset d) = false) ∧
  (∀ (s : State) (d : Nat), s.inSvc d = true → Tab.has d s.fl.resets = false →
    ∃ t, exec (.statusPoll d true) s = .next t ∧ t.armed (.flashOp d) = false ∧ t.fl = s.fl) ∧
  (∀ (s : State) (d id r : Nat), s.cw id = none → exec (.flashOpTimeout d 0 id r) s = .next s) ∧
  (∀ (s : State) (d id r : Nat) (x : CwRead), s.cw id = some x → x.phase = .atDie → psaDie x.psa = d → x.again = false →
    exec (.flashOpTimeout d 0 id r) s =
      .next ((((((s.noteTimeout d 0).cancel (.tailCut id)).countMiss d).updCw id (fun z => { z with skipped := true })).rebuild id
        { x with skipped := true } 0).afterTimeout d 0)) ∧
  (∀ (s : State) (d id r : Nat), s.armed (.flashOp d) = false → exec (.flashOpTimeout d 1 id r) s = .next s) ∧
  (∀ (s : State) (d id r : Nat) (o : FlashOp), s.armed (.flashOp d) = true → Tab.find d s.fl.ops = some o → o.kind = 2 →
    exec (.flashOpTimeout d 1 id r) s = .next (((((s.expire (.flashOp d)).noteTimeout d 2)).opFails d).afterTimeout d 2)) ∧
  (∀ (s : State) (d r : Nat), s.inSvc d = true → exec (.flashOpTimeout d 3 1 r) s = .next ((s.noteTimeout d 3).afterTimeout d 3)) ∧
  (∀ (s : State) (d : Nat), s.armed (.lunReset d) = true → exec (.lunResetTimeout d) s = .next ((s.expire (.lunReset d)).lunGone d)) ∧
  (∀ (s : State) (d : Nat), s.armed (.lunReset d) = false → exec (.lunResetTimeout d) s = .next s) ∧
  (∀ (s : State) (k : Nat), s.armed (.zqShort k) = true → s.dump.running = none →
    ∃ t, exec (.zqShortTimer k) s = .next t ∧ t.armed (.zqShort k) = true ∧
      t.fld (F.sknCntCount k 8) = (s.fld (F.sknCntCount k 8) + (s.diesOn k).length) % 2 ^ 32 ∧ t.fl = s.fl) ∧
  (∀ (s : State) (k tj : Nat), k < 8 → s.fld (F.sknTrainDt k) ≤ s.tjMoved k tj → s.dump.running = none →
    ∃ t, exec (.tempRetrain k tj []) s = .next t ∧ t.fld (F.sknTempTj k) = tj % 256 ∧ t.fld (F.sknTempTraintj k) = tj % 256 ∧
      t.fld (F.sknCntCount k 8) = (s.fld (F.sknCntCount k 8) + (s.diesOn k).length) % 2 ^ 32 ∧ t.fl = s.fl) ∧
  (∀ (s : State) (k : Nat), k < 8 → s.flag (F.sknStatFailed k) = false → 10000 ≤ s.clk.mono → Tab.find k s.fl.down = none →
    ∃ t, exec (.skeinLinkStall k) s = .next t ∧ Tab.find k t.fl.down = some (s.clk.mono - 10000, 0) ∧ t.flag (F.sknStatDownseen k) = true ∧
      t.armed (.skeinDown k) = true ∧ t.armed (.skeinFail k) = true) ∧
  (∀ (s : State) (k : Nat) (x : Nat × Nat) (rates : List (Nat × Nat)), Tab.find k s.fl.down = some x → x.2 < 8 →
    ∃ t, exec (.skeinLinkRecovered k rates) s = .next t ∧ Tab.find k t.fl.down = none ∧ t.armed (.skeinDown k) = false ∧
      t.armed (.skeinFail k) = false ∧ t.fl.chans = s.fl.chans) ∧
  (∀ (s : State) (k : Nat) (x : Nat × Nat), Tab.find k s.fl.down = some x → 3 ≤ x.2 → x.2 < 8 →
    exec (.skeinLinkDownLong k) s = .next ((s.cancel (.skeinDown k)).resetSkein k)) ∧
  (∀ (s : State) (k : Nat), Tab.find k s.fl.down = none → exec (.skeinLinkDownLong k) s = .next s) ∧
  (∀ (s : State) (k : Nat), s.armed (.skeinFail k) = false → exec (.skeinFailed k) s = .next s) ∧
  (∀ (s : State) (k : Nat), s.armed (.skeinFail k) = true → exec (.skeinFailed k) s = .next ((s.expire (.skeinFail k)).skeinGone k))

/-- The rows of the map memory complete: refreshes are issued or postponed, an over-activated row has its port throttled for a time, requests are
raised, a hot stack is shown, a scrub pass counts what it corrected, an uncorrectable error is recorded and handled by its area, and zeroing ends
(R315 to R317, R320, R322 to R326). -/
def Obligations.MapMemoryRowsComplete : Prop :=
  (∀ (s : State) (pc b : Nat), pc < 128 → b < 48 → s.flag F.hbmStatSref = false → Tab.getD (pc * 48 + b) 0 s.hbm.postponed < 4 →
    exec (.hbmRefresh pc b true) s = .next { s with hbm := { s.hbm with
      postponed := Tab.put (pc * 48 + b) (Tab.getD (pc * 48 + b) 0 s.hbm.postponed + 1) s.hbm.postponed } }) ∧
  (∀ (s : State) (pc b : Nat), pc < 128 → b < 48 → s.flag F.hbmStatSref = false →
    exec (.hbmRefresh pc b false) s = .next (({ s with hbm := { s.hbm with postponed := Tab.del (pc * 48 + b) s.hbm.postponed } } : State).countRefresh
      (Tab.getD (pc * 48 + b) 0 s.hbm.postponed + 1))) ∧
  (∀ (s : State) (pc b r q : Nat), pc < 128 → b < 48 → r < 32768 → q < 8 →
    ∃ t, exec (.rowActivateLimit pc b r q) s = .next t ∧ ⟨pc, b, r, q⟩ ∈ t.hbm.throttles ∧ t.armed (.throttle pc b q) = true ∧
      t.flag F.hbmStatThrotseen = true ∧ t.fld F.hbmThrotLastpc = pc ∧ t.fld (F.hbmCntCount 9) = (s.fld (F.hbmCntCount 9) + 1) % 2 ^ 32) ∧
  (∀ (s : State) (pc b q : Nat), s.armed (.throttle pc b q) = true →
    ∃ t, exec (.throttleExpiry pc b q) s = .next t ∧ (∀ x ∈ t.hbm.throttles, ¬(x.pc = pc ∧ x.bank = b ∧ x.port = q)) ∧
      (∀ x ∈ s.hbm.throttles, ¬(x.pc = pc ∧ x.bank = b ∧ x.port = q) → x ∈ t.hbm.throttles)) ∧
  (∀ (s : State) (pc b q : Nat), s.armed (.throttle pc b q) = false → exec (.throttleExpiry pc b q) s = .next s) ∧
  (∀ (s : State) (q : Nat), q < 8 → exec (.hbmMaxwait q) s = .next (s.addWrap (F.hbmCntCount 14) 1)) ∧
  (∀ (s : State) (k temp : Nat), k < 4 → temp < 256 →
    ∃ t, exec (.hbmStackPast85 k temp) s = .next t ∧ t.fld (F.hbmStackTemp k) = temp ∧
      t.flag (F.hbmStackHot k) = decide (85 < toSigned 8 temp) ∧
      t.flag F.hbmStatHotseen = (s.flag F.hbmStatHotseen || (decide (85 < toSigned 8 temp) && !s.flag (F.hbmStackHot k)))) ∧
  (∀ (s : State) (l : List Nat), s.flag F.hbmStatSref = false → s.dump.running = none → s.armed .hbmScrub = true →
    ∃ t, exec (.hbmScrubPeriod l) s = .next t ∧ t.armed .hbmScrub = true ∧ t.fld (F.hbmCntCount 12) = (s.fld (F.hbmCntCount 12) + 1) % 2 ^ 32 ∧
      t.fld (F.hbmCntCount 13) = (s.fld (F.hbmCntCount 13) + l.length) % 2 ^ 32 ∧ (l ≠ [] → t.flag F.hbmStatCeseen = true)) ∧
  (∀ (s : State) (l : List Nat), (s.flag F.hbmStatSref = true ∨ s.dump.running.isSome = true) → exec (.hbmScrubPeriod l) s = .next s) ∧
  (∀ (s : State) (a q : Nat), a < 192 * 2 ^ 30 → q < 8 →
    ∃ t, exec (.hbmUncorrectable a q .unused false) s = .next t ∧ t.flag F.hbmStatUeseen = true ∧ t.fld F.hbmUeLastArea = hbmArea a ∧
      t.fld F.hbmUeLastPort = q ∧ t.fld F.hbmUeAddrLoAddr = a % 2 ^ 32 ∧ t.fld F.hbmUeAddrHiAddr = a / 2 ^ 32 ∧
      t.fld (F.hbmCntCount 11) = (s.fld (F.hbmCntCount 11) + 1) % 2 ^ 32 ∧ t.map = s.map) ∧
  (∀ (s : State) (a q fn : Nat), a < 192 * 2 ^ 30 → q < 8 → hbmArea a = 5 →
    exec (.hbmUncorrectable a q (.cmbQueue fn) false) s = .next ((s.noteUe a q).setCfs [fn])) ∧
  (∀ (s : State) (ms m : Nat), s.hbm.zeroing = some m →
    ∃ t, exec (.hbmZeroDone ms) s = .next t ∧ t.hbm.zeroing = none ∧ t.flag F.hbmStatZerodone = true ∧ t.fld F.hbmZeroMs = Nat.min 65535 ms) ∧
  (∀ (s : State) (ms : Nat), s.hbm.zeroing = none → exec (.hbmZeroDone ms) s = .fault .noSuchObject)

/-- The bypass of the compressor completes: an extent that has waited CMP_BYP.US counts as offered and as bypassed and is placed uncompressed; where
it was granted a compressor first, nothing happens (R54, R339). -/
def Obligations.BypassRowCompletes : Prop :=
  (∀ (s : State) (i : Nat) (b : BufSlot), s.armed (.cmpBypass i) = true → Tab.find i s.buf.slots = some b →
    exec (.cmpBypassTimeout i) s = .next ((((s.expire (.cmpBypass i)).setFlag F.cmpStatBypseen).cmpCnt 0 |>.cmpCnt 3).placeExtent b.cmd b.nsid b.lba 0
      none false ⟨false, [], []⟩)) ∧
  (∀ (s : State) (i : Nat), s.armed (.cmpBypass i) = true → Tab.find i s.buf.slots = none →
    ∃ t, exec (.cmpBypassTimeout i) s = .next t ∧ t.buf = s.buf ∧ t.regs = s.regs) ∧
  (∀ (s : State) (i : Nat), s.armed (.cmpBypass i) = false → exec (.cmpBypassTimeout i) s = .next s)

/-- The rows of the supervisors complete: each cause of a yield starts a switch-over with the standby, if there is one, as the core to come; a
second yield goes to the other core where that has passed its test; snapshots alternate between the banks; self-tests report their code; and at
step 7 the new core takes control (R347, R348, R350, R353, R356 to R358). -/
def Obligations.SupervisorRowsComplete : Prop :=
  (∀ (s : State), s.flag F.supStatFailed = false → s.dump.running = none → s.sup.yielded = none → s.fourth = false →
    ∃ t, exec .taskLimitExpiry s = .next t ∧ t.sup.yielded.map (·.1) = some 3 ∧ t.fld F.supSwlastCause = 3 ∧ t.flag F.supStatRestoring = true ∧
      t.flag F.supStatStbyok = false ∧ t.armed .standbyTest = true ∧
      t.sup.target = (if s.flag F.supStatStbyok then 1 - s.fld F.supStatActive else s.fld F.supStatActive)) ∧
  (∀ (s : State) (c : Nat), c ∈ [1, 2, 4] → s.flag F.supStatFailed = false → s.dump.running = none → s.sup.yielded = none → s.fourth = false →
    ∃ t, exec (.supervisorSelfCheckFail c) s = .next t ∧ t.sup.yielded.map (·.1) = some c ∧ t.fld F.supSwlastCause = c ∧
      t.flag F.supStatRestoring = true) ∧
  (∀ (s : State) (c m : Nat), s.flag F.supStatFailed = false → s.dump.running = none → s.sup.yielded = some (c, m) →
    ∃ t, exec .taskLimitExpiry s = .next t ∧ t.sup.yielded = some (3, m) ∧ t.sup.onto = !s.flag F.supStatStbyok ∧
      t.sup.target = (if s.flag F.supStatStbyok then 1 - s.sup.target else s.sup.target) ∧ t.q = s.q) ∧
  (∀ (s : State), s.armed .watchdog = true → (s.expire .watchdog).flag F.supStatFailed = false → s.dump.running = none → s.sup.yielded = none →
    (s.expire .watchdog).fourth = false →
    ∃ t, exec .supervisorWatchdog s = .next t ∧ t.sup.yielded.map (·.1) = some 0 ∧ t.fld F.supSwlastCause = 0 ∧ t.flag F.supStatRestoring = true) ∧
  (∀ (s : State), s.armed .watchdog = false → exec .supervisorWatchdog s = .next s) ∧
  (∀ (s : State), s.armed .snapshot = true → s.sup.newest.2 = true →
    ∃ t, exec .snapshotTimer s = .next t ∧ (t.sup.snap0.map (·.seq)) = some ((s.sup.newest.1 + 1) % 2 ^ 32) ∧ t.sup.snap1 = s.sup.snap1 ∧
      t.armed .snapshot = true ∧ t.fld (F.supCntCount 9) = (s.fld (F.supCntCount 9) + 1) % 2 ^ 32) ∧
  (∀ (s : State), s.armed .snapshot = true → s.sup.newest.2 = false → 0 < s.sup.newest.1 →
    ∃ t, exec .snapshotTimer s = .next t ∧ (t.sup.snap1.map (·.seq)) = some ((s.sup.newest.1 + 1) % 2 ^ 32) ∧ t.sup.snap0 = s.sup.snap0) ∧
  (∀ (s : State), s.armed .snapshot = false → exec .snapshotTimer s = .next s) ∧
  (∀ (s : State) (l : List (Nat × Nat)), s.armed .standbyTest = true → s.sup.yielded = none →
    ∃ t, exec (.standbySelfTest 0 l) s = .next t ∧ t.flag F.supStatStbyok = true ∧ t.sup.stFail = false ∧ t.armed .standbyRetry = false) ∧
  (∀ (s : State) (c : Nat) (l : List (Nat × Nat)), 1 ≤ c → c ≤ 5 → s.armed .standbyTest = true → s.sup.yielded = none →
    ∃ t, exec (.standbySelfTest c l) s = .next t ∧ t.armed .standbyRetry = true ∧ t.fld F.supStresCode = c ∧ t.flag F.supStresPass = false) ∧
  (∀ (s : State) (c : Nat) (l : List (Nat × Nat)), c ≤ 5 → s.armed .standbyTest = false → exec (.standbySelfTest c l) s = .next s) ∧
  (∀ (s : State) (c : Nat), 1 ≤ c → c ≤ 5 → s.armed .standbyRetry = true →
    ∃ t, exec (.standbyTestRetry c) s = .next t ∧ t.flag F.supStatStbyok = false ∧ t.flag F.supStatStfailseen = true ∧ t.sup.stFail = true) ∧
  (∀ (s : State) (c : Nat), c ≤ 5 → s.armed .standbyRetry = false → exec (.standbyTestRetry c) s = .next s) ∧
  (∀ (s : State) (c : Nat) (k : Cmd), s.PfRuns c k → k.sqe.opcode = 0xCB → s.mayAs k.fn .maker = true →
    ∃ t, exec (.supervisorTestRun c 0 0) s = .next t ∧ t.Ended c St.ok 1 ∧ t.flag F.supStatStbyok = true) ∧
  (∀ (s : State) (c r x : Nat) (k : Cmd), s.PfRuns c k → s.mayAs k.fn .maker = true → r ≠ 0 → x ≤ 5 →
    ∃ t, exec (.supervisorTestRun c r x) s = .next t ∧ t.Ended c St.badField ∧ t.sup = s.sup) ∧
  (∀ (s : State) (c : Nat) (k : Cmd), s.PfRuns c k → s.mayAs k.fn .maker = true →
    exec (.supervisorTestYield c 0) s = .next ((s.finish c St.ok).superYield 5)) ∧
  (∀ (s : State) (c r : Nat) (k : Cmd), s.PfRuns c k → s.mayAs k.fn .maker = false →
    ∃ t, exec (.supervisorTestYield c r) s = .next t ∧ t.Ended c St.roleRequired ∧ t.sup.yielded = s.sup.yielded) ∧
  (∀ (s : State) (ms done redone x c m : Nat) (bad : Bool), s.sup.yielded = some (c, m) → s.armed .standbyTest = false → ms ≤ 600 → x ≤ 5 →
    ∃ t, exec (.switchOver ms bad done redone x) s = .next t ∧ t.sup.yielded = none) ∧
  (∀ (s : State) (ms done redone x : Nat) (bad : Bool), s.sup.yielded = none → exec (.switchOver ms bad done redone x) s = .fault .noSuchObject)

/-- The rows of the power states complete: an idle controller moves by APST, entry takes its steps and may be abandoned, a wake leaves it, PS2's
halves take turns, PS3 samples, patrol sleeps again or escalates, and CAh sets the patrol registers (R364 to R369, R373, R375, R376, R145). -/
def Obligations.PowerStateRowsComplete : Prop :=
  (∀ (s : State) (fn : Nat), (s.func fn).rdy = true → s.q.cmds = [] → (s.func fn).apstTarget = 3 ∨ (s.func fn).apstTarget = 4 →
    ∃ t, exec (.apstIdleTimeout fn) s = .next t ∧ (t.func fn).psel = (s.func fn).apstTarget ∧ t.q = s.q) ∧
  (∀ (s : State) (fn : Nat), (s.func fn).apstTarget ≠ 3 → (s.func fn).apstTarget ≠ 4 → exec (.apstIdleTimeout fn) s = .next s) ∧
  (∀ (s : State) (b : List Nat), s.pwr.entry = none → 3 ≤ s.chosenPs → s.ps ≤ 2 → s.entryWaits = false →
    ∃ t, exec (.powerStateEntry b) s = .next t ∧ t.pwr.entry = some (s.chosenPs, s.clk.mono) ∧ t.q.fetchStop = true ∧ t.fld F.pwrStatStep = 1) ∧
  (∀ (s : State) (b : List Nat), s.pwr.entry = none → 3 ≤ s.chosenPs → s.ps ≤ 2 → s.entryWaits = true → exec (.powerStateEntry b) s = .next s) ∧
  (∀ (s : State) (b : List Nat) (e : Nat × Nat), s.pwr.entry = some e → s.fld F.pwrStatStep = 1 →
    ∃ t, exec (.powerStateEntry b) s = .next t ∧ t.fld F.pwrStatStep = 2 ∧ t.armed .drain = true) ∧
  (∀ (s : State) (b : List Nat) (e : Nat × Nat), s.pwr.entry = some e → s.fld F.pwrStatStep = 2 → s.drainedAll = true →
    exec (.powerStateEntry b) s = .next (s.entrySave e.1 b)) ∧
  (∀ (s : State) (b : List Nat) (e : Nat × Nat), s.pwr.entry = some e → s.fld F.pwrStatStep = 3 →
    ∃ t, exec (.powerStateEntry b) s = .next t ∧ t.fld F.pwrStatStep = 4 ∧ t.flag F.hbmStatSref = true) ∧
  (∀ (s : State) (b : List Nat) (e : Nat × Nat), s.pwr.entry = some e → s.fld F.pwrStatStep = 4 → e.1 = 3 ∨ e.1 = 4 →
    ∃ t, exec (.powerStateEntry b) s = .next t ∧ t.pwr.entry = none ∧ t.fld F.pwrStatPs = e.1 ∧ t.fld F.pwrStatStep = 0 ∧
      t.armed (if e.1 = 4 then .patrol else .ps3Sensor) = true) ∧
  (∀ (s : State) (e : Nat × Nat), s.armed .drain = true → s.pwr.entry = some e →
    ∃ t, exec .drainLimit s = .next t ∧ t.pwr.entry = none ∧ t.flag F.pwrStatDrainseen = true ∧ t.flag F.pwrStatAbortseen = true ∧
      t.q.fetchStop = false ∧ t.fld (F.pwrCntCount 6) = (s.fld (F.pwrCntCount 6) + 1) % 2 ^ 32) ∧
  (∀ (s : State), s.armed .drain = false → exec .drainLimit s = .next s) ∧
  (∀ (s : State) (c d : Nat) (ok : Bool), c ≤ 5 → s.pwr.entry = none → s.ps ≤ 2 → s.hif.held = [] → exec (.wake c d ok) s = .next s) ∧
  (∀ (s : State) (c d : Nat) (ok : Bool) (e : Nat × Nat), c ≤ 5 → s.pwr.entry = some e → s.ps ≤ 2 → s.hif.held = [] →
    ∃ t, exec (.wake c d ok) s = .next t ∧ t.pwr.entry = none ∧ t.fld F.pwrStatStep = 0 ∧ t.flag F.pwrStatAbortseen = true ∧ t.q.fetchStop = false) ∧
  (∀ (s : State) (c d : Nat) (ok : Bool), c ≤ 5 → s.ps = 3 → exec (.wake c d ok) s = .next (s.wakeUp c d ok)) ∧
  (∀ (s : State), s.armed .ps2Slot = true →
    ∃ t, exec .ps2SlotTimer s = .next t ∧ t.flag F.pwrStatOdd = !s.flag F.pwrStatOdd ∧ t.armed .ps2Slot = true ∧
      t.fld (F.pwrCntCount 15) = (s.fld (F.pwrCntCount 15) + 1) % 2 ^ 32 ∧ t.fl = s.fl) ∧
  (∀ (s : State), s.armed .ps2Slot = false → exec .ps2SlotTimer s = .next s) ∧
  (∀ (s : State) (l : List Nat) (h : Bool), l.length = 13 → s.armed .ps3Sensor = true →
    ∃ t, exec (.ps3SensorSample l h) s = .next t ∧ t.pwr.lowLast = !h ∧ t.armed .ps3Sensor = true ∧ t.fld F.patTempHighest = (hottest l).1 % 256 ∧
      t.fld (F.patCntCount 11) = (s.fld (F.patCntCount 11) + 1) % 2 ^ 32) ∧
  (∀ (s : State) (l : List Nat) (h : Bool), l.length = 13 → s.armed .ps3Sensor = false → exec (.ps3SensorSample l h) s = .next s) ∧
  (∀ (s : State) (l : List Nat) (h : Bool) (cs : List (Bool × Nat × Nat)) (us d : Nat) (ok : Bool), l.length = 13 → s.armed .patrol = true →
    exec (.patrolWake l h cs us d ok) s = .next (if ((s.expire .patrol).patrol l h cs us).1
      then ((s.expire .patrol).patrol l h cs us).2.wakeUp 2 d ok
      else ((s.expire .patrol).patrol l h cs us).2.arm .patrol (nsSec (((s.expire .patrol).patrol l h cs us).2.fld F.patCtlPeriod)))) ∧
  (∀ (s : State) (l : List Nat) (h : Bool) (cs : List (Bool × Nat × Nat)) (us d : Nat) (ok : Bool), l.length = 13 → s.armed .patrol = false →
    exec (.patrolWake l h cs us d ok) s = .next s) ∧
  (∀ (s : State) (c p f a r : Nat) (k : Cmd), s.PfRuns c k → s.mayAs k.fn .operator = true → s.SupervisorFree → 1 ≤ p → p ≤ 3600 → f ≤ 3 →
    64 ≤ a → a ≤ 1000 → 16 ≤ r → r ≤ 500 →
    ∃ t, exec (.patrolConfigure c p f a r 0) s = .next t ∧ t.Ended c St.ok ∧ t.fld F.patCtlPeriod = p ∧ t.fld F.patCtlCanen = f % 2 ∧
      t.fld F.patCtlHoldesc = f / 2 ∧ t.fld F.patThrAbs = a ∧ t.fld F.patThrRise = r) ∧
  (∀ (s : State) (c f a r : Nat) (k : Cmd), s.PfRuns c k → s.mayAs k.fn .operator = true → s.SupervisorFree →
    ∃ t, exec (.patrolConfigure c 0 f a r 0) s = .next t ∧ t.Ended c St.badField ∧ t.regs = s.regs) ∧
  (∀ (s : State) (c p f a r x : Nat) (k : Cmd), s.PfRuns c k → s.mayAs k.fn .operator = false →
    ∃ t, exec (.patrolConfigure c p f a r x) s = .next t ∧ t.Ended c St.roleRequired ∧ t.fld F.patCtlPeriod = s.fld F.patCtlPeriod)

/-- The rows of the temperature sensors and of the management sideband complete (R145, R354, R497, R498). -/
def Obligations.ManagementRowsComplete : Prop :=
  (∀ (s : State) (i c : Nat), 1 ≤ i → i ≤ 13 → s.ps ≤ 2 →
    exec (.temperatureThresholdCross i c) s = .next ((s.setTemp (i - 1) c).noteTemps)) ∧
  (∀ (s : State), s.armed .healthPublish = true → s.sup.yielded = none → s.ps ≤ 2 → s.dump.running = none →
    ∃ t, exec .healthPublishTimer s = .next t ∧ t.pins.health = (s.expire .healthPublish).publish.pins.health ∧ t.armed .healthPublish = true) ∧
  (∀ (s : State), s.armed .healthPublish = true → 3 ≤ s.ps →
    ∃ t, exec .healthPublishTimer s = .next t ∧ t.pins = s.pins ∧ t.armed .healthPublish = true) ∧
  (∀ (s : State), s.armed .healthPublish = false → exec .healthPublishTimer s = .next s) ∧
  (∀ (s : State) (d : Nat) (ok : Bool), s.clk.aonUp = true → s.dump.running = none → s.ps ≤ 2 →
    ∃ t l, exec (.miStatusRead d ok) s = .next t ∧ t.tx = .sideband l :: s.tx ∧ l.length = 7 ∧ l.head? = some 6 ∧ t.regs = s.regs) ∧
  (∀ (s : State) (d : Nat) (ok : Bool), s.clk.aonUp = true → s.dump.running = none → s.ps ≤ 2 →
    ∃ t l, exec (.miVendorIdRead d ok) s = .next t ∧ t.tx = .sideband (22 :: 0x1F :: 0x9E :: l) :: s.tx ∧ l.length = 20) ∧
  (∀ (s : State) (d : Nat) (ok : Bool), s.clk.aonUp = true → s.dump.running.isSome = true →
    exec (.miStatusRead d ok) s = .next s ∧ exec (.miVendorIdRead d ok) s = .next s) ∧
  (∀ (s : State) (a : Nat), s.clk.aonUp = true → a < 128 →
    exec (.i3cSetdasa a) s = .next { s with pins := { s.pins with dynAddr := some a } }) ∧
  (∀ (s : State), s.clk.aonUp = true → exec .i3cRstdaa s = .next { s with pins := { s.pins with dynAddr := none } })

/-- The reliable frames complete: one in order is delivered with the held frames it lets through, a duplicate is counted and acknowledged, and one
that fails the checks of R389 is dropped and counted (R389, R390, R398). -/
def Obligations.ReliableFramesComplete : Prop :=
  (∀ (s u : State) (h : FrameHdr) (copy win off n : Nat), s.FrameNext h true (.copyOpen copy win off n) u →
    exec (.copyOpen h copy win off n) s = .next (u.delivered h (.copyOpen copy win off n))) ∧
  (∀ (s u : State) (h : FrameHdr) (copy win off : Nat) (l : List Nat) (ok : Bool), s.FrameNext h true (.data copy win off l ok) u →
    exec (.data h copy win off l ok) s = .next (u.delivered h (.data copy win off l ok))) ∧
  (∀ (s u : State) (h : FrameHdr) (copy n r : Nat), s.FrameNext h true (.copyEnd copy n r) u →
    exec (.copyEnd h copy n r) s = .next (u.delivered h (.copyEnd copy n r))) ∧
  (∀ (s u : State) (h : FrameHdr) (es : List RollEntry), s.FrameNext h true (.rollup es) u →
    exec (.rollup h es) s = .next (u.delivered h (.rollup es))) ∧
  (∀ (s u : State) (h : FrameHdr) (n : Nat) (es : List RegEntry), s.FrameNext h true (.registry n es) u →
    exec (.registry h n es) s = .next (u.delivered h (.registry n es))) ∧
  (∀ (s u : State) (h : FrameHdr) (r e i : Nat), s.FrameNext h true (.manager r e i) u →
    exec (.manager h r e i) s = .next (u.delivered h (.manager r e i))) ∧
  (∀ (s u : State) (h : FrameHdr) (k : JoinTicket), s.FrameNext h false (.join k) u → exec (.join h k) s = .next (u.delivered h (.join k))) ∧
  (∀ (s u : State) (h : FrameHdr) (es : List RegEntry), s.FrameNext h false (.joinAck es) u →
    exec (.joinAck h es) s = .next (u.delivered h (.joinAck es))) ∧
  (∀ (s u : State) (h : FrameHdr), s.FrameNext h true .patrol u → exec (.patrolNotice h) s = .next (u.delivered h .patrol)) ∧
  (∀ (s u : State) (h : FrameHdr) (o : Nat) (l : List Nat), s.FrameNext h true (.fwPart o l) u →
    exec (.fwPart h o l) s = .next (u.delivered h (.fwPart o l))) ∧
  (∀ (s u : State) (h : FrameHdr) (a ok : Bool) (n : Nat), s.FrameNext h true (.schedule a n ok) u →
    exec (.schedule h a n ok) s = .next (u.delivered h (.schedule a n ok))) ∧
  (∀ (s u : State) (h : FrameHdr), s.FrameTaken h true u → h.seq ≤ (u.peer h.src).got → exec (.patrolNotice h) s = .next ((u.strCnt 5).sendFrame h.src 3 0 [])) ∧
  (∀ (s : State) (h : FrameHdr), s.strandUp = true → h.port < 2 → h.crcOk = false →
    exec (.patrolNotice h) s = .next ((s.strCnt 1).strCnt 6)) ∧
  (∀ (s : State) (h : FrameHdr), s.strandUp = true → h.port < 2 → h.crcOk = true → h.dst ≠ s.ownId →
    exec (.patrolNotice h) s = .next (((s.strCnt 1).strCnt 7).setFlag F.strStatRejectseen)) ∧
  (∀ (s u : State) (h : FrameHdr) (copy win off : Nat) (l : List Nat) (ok : Bool), s.FrameTaken h true u → u.ps = 3 →
    exec (.data h copy win off l ok) s = .next ((u.sendFrame h.src 5 0 [5]).strCnt 10))

/-- The unreliable frames and the strand engine's timers complete (R386, R394 to R398, R401 to R406). -/
def Obligations.StrandTimersComplete : Prop :=
  (∀ (s u : State) (h : FrameHdr) (d : List Nat) (m : FleetMember), s.FrameTaken h true u → Tab.find h.src u.str.members = some m → 2 ≤ u.fleetRole →
    ∃ t, exec (.heartbeat h d) s = .next t ∧ Tab.find h.src t.str.members = some { m with digest := d, heard := u.clk.mono, state := 0 } ∧
      t.armed (.heartbeatMiss h.src) = true) ∧
  (∀ (s u : State) (h : FrameHdr) (t1 t2 t3 t4 e : Nat), s.FrameTaken h true u → u.flag F.tkCtlStrandt = false →
    ∃ t, exec (.hbReply h t1 t2 t3 t4 e) s = .next t ∧ t.armed .managerLost = true ∧ t.str.kept = u.str.kept) ∧
  (∀ (s u : State) (h : FrameHdr) (t1 t2 t3 t4 e : Nat), s.FrameTaken h true u → u.flag F.tkCtlStrandt = true → u.str.trips = [] →
    ∃ t, exec (.hbReply h t1 t2 t3 t4 e) s = .next t ∧ t.armed .managerLost = true ∧
      t.str.kept.head? = some (((((t2 : Int) - t1) - ((t4 : Int) - t3)) / 2, t4) : Int × Nat)) ∧
  (∀ (s u : State) (h : FrameHdr) (copy n : Nat) (c : OutCopy), s.FrameTaken h s.joined u → Tab.find copy u.str.out = some c → c.peer = h.src →
    c.acked ≤ n → n < c.total → ∃ t, exec (.ack h copy n) s = .next t ∧ (Tab.find copy t.str.out).map (·.acked) = some n) ∧
  (∀ (s u : State) (h : FrameHdr) (copy n : Nat), s.FrameTaken h s.joined u → Tab.find copy u.str.out = none → exec (.ack h copy n) s = .next u) ∧
  (∀ (s u : State) (h : FrameHdr) (c w copy n : Nat), s.FrameTaken h s.joined u → Tab.find copy u.str.out = none → u.joined = true →
    ∃ t, exec (.nak h c w copy n) s = .next t ∧ t.flag F.strStatNakseen = true ∧ t.fld F.strLastnakCause = c % 256 ∧
      t.fld F.strLastnakDir = 1 ∧ t.str = u.str) ∧
  (∀ (s u : State) (h : FrameHdr) (ms : Nat), s.FrameTaken h s.joined u →
    ∃ t, exec (.hold h ms) s = .next t ∧ t.dueOf (.holdExpiry h.src) = some (u.clk.mono + nsMs (Nat.min 50 ms)) ∧ t.str = u.str) ∧
  (∀ (s : State) (p : Nat), s.armed (.holdExpiry p) = true →
    ∃ t, exec (.holdExpiry p) s = .next t ∧ t.armed (.holdExpiry p) = false ∧ t.str = s.str) ∧
  (∀ (s : State) (p : Nat), s.armed (.ackDelay p) = true → s.strandUp = true →
    ∃ t l, exec (.ackDelayTimer p) s = .next t ∧ t.tx = .frame p 3 l :: s.tx ∧ t.armed (.ackDelay p) = false) ∧
  (∀ (s : State) (p n : Nat), s.armed (.retransmit p n) = true → (s.peer p).unacked.find? (fun u => decide (u.seq = n)) = none →
    ∃ t, exec (.retransmitTimeout p n) s = .next t ∧ t.str = s.str ∧ t.tx = s.tx) ∧
  (∀ (s : State) (p n : Nat) (x : Unacked), s.armed (.retransmit p n) = true → (s.peer p).unacked.find? (fun u => decide (u.seq = n)) = some x →
    s.armed (.holdExpiry p) = false → x.type ≠ 0x11 → 8 ≤ x.tries →
    exec (.retransmitTimeout p n) s = .next ((s.expire (.retransmit p n)).unreachable p)) ∧
  (∀ (s : State) (p n : Nat) (x : Unacked), s.armed (.retransmit p n) = true → (s.peer p).unacked.find? (fun u => decide (u.seq = n)) = some x →
    s.armed (.holdExpiry p) = false → x.type ≠ 0x11 → x.tries < 8 →
    ∃ t, exec (.retransmitTimeout p n) s = .next t ∧ t.armed (.retransmit p n) = true ∧
      t.fld (F.strCntCount 4) = (s.fld (F.strCntCount 4) + 1) % 2 ^ 32) ∧
  (∀ (s : State) (p : Nat), s.armed (.creditWait p) = true →
    exec (.creditWaitTimeout p) s = .next ((s.expire (.creditWait p)).unreachable p)) ∧
  (∀ (s : State) (k : Nat) (c : InCopy), s.armed (.strandWrite k) = true → Tab.find k s.str.ins = some c →
    exec (.strandWriteTimeout k) s = .next ((s.expire (.strandWrite k)).discardWrites k c)) ∧
  (∀ (s : State) (k f : Nat) (c : InCopy) (w : InWrite), Tab.find k s.str.ins = some c →
    c.writes.find? (fun w => decide (w.fetch = f) && !w.acked) = some w → w.buffered = true → w.exposed = false → c.ackedSlots + w.count ≠ c.count →
    ∃ t, exec (.strandWriteAck k f) s = .next t ∧ (Tab.find k t.str.ins).map (·.ackedSlots) = some (c.ackedSlots + w.count) ∧
      t.fld (F.strCntCount 17) = (s.fld (F.strCntCount 17) + w.count) % 2 ^ 32) ∧
  (∀ (s : State), s.armed .heartbeat = true → s.joined = false → ∃ t, exec .heartbeatTimer s = .next t ∧ t.armed .heartbeat = true ∧ t.tx = s.tx) ∧
  (∀ (s : State), s.armed .heartbeat = true → s.joined = true → s.managerOf ≠ 0 → s.managerOf ≠ s.ownId → s.strandUp = true →
    ∃ t l, exec .heartbeatTimer s = .next t ∧ t.armed .heartbeat = true ∧ t.tx = .frame s.managerOf 1 l :: s.tx) ∧
  (∀ (s : State) (p : Nat) (m : FleetMember), s.armed (.heartbeatMiss p) = true → Tab.find p s.str.members = some m →
    ∃ t, exec (.heartbeatMiss p) s = .next t ∧ Tab.find p t.str.members = some { m with state := 1 } ∧ t.tx = s.tx) ∧
  (∀ (s : State), s.armed .rollup = true → s.fleetRole = 1 → ∃ t, exec .rollupTimer s = .next t ∧ t.armed .rollup = true ∧ t.tx = s.tx ∧ t.str = s.str) ∧
  (∀ (s : State) (k : Nat), k < 64 → s.armed (.sectionStale k) = true →
    ∃ t, exec (.sectionRollupStale k) s = .next t ∧ t.flag (F.strSectStale k) = true ∧ t.flag F.strStatStaleseen = true ∧ t.str = s.str) ∧
  (∀ (s : State), s.armed .registry = true → s.fleetRole < 2 →
    ∃ t, exec .registryTimer s = .next t ∧ t.armed .registry = true ∧ t.str.regSeq = s.str.regSeq + 1 ∧ t.tx = s.tx) ∧
  (∀ (s : State), s.armed .managerLost = true → s.managerOf ≠ 0 → s.managerOf ≠ s.ownId →
    ∃ t, exec .managerLost s = .next t ∧ t.flag F.strStatMgrlostseen = true ∧ t.armed .managerLost = false ∧
      t.fld (F.strCntCount 29) = (s.fld (F.strCntCount 29) + 1) % 2 ^ 32) ∧
  (∀ (s : State), s.armed .registryLoad = true → s.str.loading = false → ∃ t, exec .registryLoadTimeout s = .next t ∧ t.str = s.str ∧ t.tx = s.tx) ∧
  (∀ (s : State), s.armed .registryLoad = true → s.str.loading = true →
    ∃ t, exec .registryLoadTimeout s = .next t ∧ t.str.loading = false ∧ t.str.members = s.str.members.filter (fun p => decide (p.1 = s.ownId))) ∧
  (∀ (s : State), s.armed .timeExchange = true → s.joined = true →
    ∃ t, exec .timeExchangeTimeout s = .next t ∧ t.flag F.strStatOutoftime = true ∧ t.str = s.str) ∧
  (∀ (s : State) (p : Nat) (up : Bool), p < 2 → up = true ∨ s.str.peers = [] →
    ∃ t, exec (.strandPortLinkChange p up) s = .next t ∧ (if p = 0 then t.str.up0 else t.str.up1) = up ∧ t.tx = s.tx) ∧
  (∀ (s : State) (p a b m : Nat), p < 2 → s.strandUp = true → s.str.encap < 2 ^ 31 → exec (.neighbourSolicitation p a b m false) s = .next s) ∧
  (∀ (s : State) (p a b m : Nat), p < 2 → s.strandUp = true → 2 ^ 31 ≤ s.str.encap →
    ∃ t, exec (.neighbourSolicitation p a b m true) s = .next t ∧ Tab.find b t.str.neigh = some m ∧ t.tx = s.tx)

/-- The strand commands complete: C8h stores its selector, C9h stores a good ticket and answers its ID, and Strand Copy Push ends where it may not
go (R154, R392, R393, R399). -/
def Obligations.StrandCommandsComplete : Prop :=
  (∀ (s : State) (c sel : Nat) (v : List Nat) (k : Cmd), s.PfRuns c k → k.sqe.opcode = 0xC8 → s.mayAs k.fn .installer = true → s.SupervisorFree →
    strandValid sel v = true →
    ∃ t, exec (.strandConfigure c sel true v) s = .next t ∧ t.Ended c St.ok ∧ Tab.find sel t.str.config = some v) ∧
  (∀ (s : State) (c sel : Nat) (v : List Nat) (k : Cmd), s.PfRuns c k → s.mayAs k.fn .installer = true → s.SupervisorFree → strandValid sel v = false →
    ∃ t, exec (.strandConfigure c sel true v) s = .next t ∧ t.Ended c St.badField ∧ t.str = s.str) ∧
  (∀ (s : State) (c : Nat) (j : JoinTicket) (k : Cmd), s.PfRuns c k → k.sqe.opcode = 0xC9 → s.mayAs k.fn .operator = true → s.SupervisorFree →
    ∃ t, exec (.strandJoin c j) s = .next t ∧ (s.ticketOk j = true → j.sn = ownSerial → t.Ended c St.ok j.id ∧ t.str.ticket = some j) ∧
      (s.ticketOk j = false ∨ j.sn ≠ ownSerial → t.Ended c St.badField ∧ t.str = s.str)) ∧
  (∀ (s : State) (c path win target off : Nat) (k : Cmd) (n : Ns), s.NsRuns c 0x81 k n → n.lbaf ≠ 0 →
    ∃ t, exec (.strandCopyPush c path win target off) s = .next t ∧ t.Ended c St.badField ∧ t.str.out = s.str.out) ∧
  (∀ (s : State) (c path win target off : Nat) (k : Cmd) (n : Ns), s.NsRuns c 0x81 k n → n.lbaf = 0 → path < 3 → win ≤ 255 → 1 ≤ target →
    target ≤ 0x4000 → 1 ≤ k.sqe.nlb → k.sqe.nlb ≤ 65536 → k.sqe.slba + k.sqe.nlb ≤ n.size → s.joined = false →
    ∃ t, exec (.strandCopyPush c path win target off) s = .next t ∧ t.Ended c St.unreachable) ∧
  (∀ (s : State) (c path win target off : Nat) (k : Cmd) (n : Ns), s.NsRuns c 0x81 k n → n.lbaf = 0 → path < 3 → win ≤ 255 → 1 ≤ target →
    target ≤ 0x4000 → 1 ≤ k.sqe.nlb → k.sqe.nlb ≤ 65536 → k.sqe.slba + k.sqe.nlb ≤ n.size → s.joined = true → Tab.has target s.str.members = true →
    s.strandUp = true → s.str.out.any (fun x => decide (x.2.cmd = c)) = false → k.buffered = true →
    exec (.strandCopyPush c path win target off) s = .next ((({ s with str := { s.str with
        nextCopy := s.str.nextCopy % (2 ^ 32 - 1) + 1
        out := Tab.put s.str.nextCopy { cmd := c, fn := k.fn, peer := target, win := win, off := off, path := path, nsid := k.sqe.nsid,
                                        slba := k.sqe.slba, total := k.sqe.nlb, sent := 0, acked := 0 } s.str.out } } : State).sendReliable target 0x10
        [s.str.nextCopy, win, off, k.sqe.nlb]).pumpAll target))

/-- The firmware rows complete: a download stages its blocks, offset 0 opening a new one; a commit needs its role, verifies, writes its slot,
names it pending, or starts a live activation; the activation switches, rolls back, or is abandoned at 800 ms; a scheduled one starts or is
skipped (R412 to R417, R420). -/
def Obligations.FirmwareRowsComplete : Prop :=
  (∀ (s : State) (c len : Nat) (d : List Nat) (k : Cmd), s.PfRuns c k → s.SupervisorFree → len % 4096 = 0 → 0 < len → len ≤ 67108864 →
    ∃ t, exec (.firmwareImageDownload c 0 len d) s = .next t ∧ t.Ended c St.ok ∧ t.fwu.owner = some k.fn ∧
      (∀ b, Tab.has b t.fwu.stage = decide (b < len / 4096)) ∧ t.fld (F.fwuCntCount 0) = (s.fld (F.fwuCntCount 0) + len / 4096) % 2 ^ 32 ∧
      t.fwu.slot1 = s.fwu.slot1 ∧ t.fwu.slot2 = s.fwu.slot2) ∧
  (∀ (s : State) (c off len : Nat) (d : List Nat) (k : Cmd), s.PfRuns c k → s.SupervisorFree →
    off % 4096 ≠ 0 ∨ len % 4096 ≠ 0 ∨ 67108864 < off + len ∨ (off ≠ 0 ∧ ∃ o, s.fwu.owner = some o ∧ o ≠ k.fn) →
    ∃ t, exec (.firmwareImageDownload c off len d) s = .next t ∧ t.Ended c St.badField ∧ t.fwu = s.fwu ∧ t.regs = s.regs) ∧
  (∀ (s : State) (c ca fs ms x : Nat) (k : Cmd), s.PfRuns c k → s.SupervisorFree → s.fwu.run = none → s.lc ≠ 0 → (s.roleOf k.fn).num < 2 →
    ∃ t, exec (.firmwareCommit c ca fs ms x) s = .next t ∧ t.Ended c St.roleRequired ∧ t.fwu = s.fwu) ∧
  (∀ (s : State) (c ca fs ms x : Nat) (k : Cmd), s.PfRuns c k → s.SupervisorFree → s.fwu.run = none → s.lc ≠ 0 → 2 ≤ (s.roleOf k.fn).num →
    3 < ca ∨ 2 < fs → ∃ t, exec (.firmwareCommit c ca fs ms x) s = .next t ∧ t.Ended c St.badField ∧ t.fwu = s.fwu ∧ t.regs = s.regs) ∧
  (∀ (s : State) (c ca fs ms x : Nat) (k : Cmd), s.PfRuns c k → s.SupervisorFree → s.fwu.run = none → s.lc ≠ 0 → 2 ≤ (s.roleOf k.fn).num →
    fs ≤ 2 → ca = 0 ∨ (ca = 1 ∧ 1 ≤ fs) →
    ∃ t, exec (.firmwareCommit c ca fs ms x) s = .next t ∧ t.fwu.run = none ∧
      ((s.fwRelease.noteGated 0x10 ca k.fn).fwVerify false = (0, 0) → (s.fwRelease.noteGated 0x10 ca k.fn).fwFrameFault = none →
        t.fld F.fwuVerifyResult = 1 ∧ t.slotImage (s.slotOf fs) = mergeParts s.committedImage s.fwParts ∧
        (ca = 0 → t.Ended c St.ok ∧ t.fld F.fwuSlotPendingslot = s.fld F.fwuSlotPendingslot) ∧
        (ca = 1 → t.AwaitsStore c ∧ t.flag F.fwuStatPending = true ∧ t.fld F.fwuSlotPendingslot = fs)) ∧
      (1 ≤ ((s.fwRelease.noteGated 0x10 ca k.fn).fwVerify false).1 →
        t.Ended c (verifyStatus ((s.fwRelease.noteGated 0x10 ca k.fn).fwVerify false).1) ∧ t.fwu.slot1 = s.fwu.slot1 ∧ t.fwu.slot2 = s.fwu.slot2 ∧
        t.flag F.fwuStatVfailseen = true)) ∧
  (∀ (s : State) (c fs ms x : Nat) (k : Cmd), s.PfRuns c k → s.SupervisorFree → s.fwu.run = none → s.lc ≠ 0 → 2 ≤ (s.roleOf k.fn).num →
    fs ≤ 2 → s.sanitizing = false → s.adm.format.state = 1 ∨ s.map.stalled ≠ [] →
    ∃ t, exec (.firmwareCommit c 3 fs ms x) s = .next t ∧ t.Ended c St.prohibitedNow ∧ t.fwu.slot1 = s.fwu.slot1 ∧ t.fwu.slot2 = s.fwu.slot2) ∧
  (∀ (s : State) (c fs ms x : Nat) (k : Cmd), s.PfRuns c k → s.SupervisorFree → s.fwu.run = none → s.lc ≠ 0 → 2 ≤ (s.roleOf k.fn).num →
    fs ≤ 2 → s.adm.format.state ≠ 1 → s.map.stalled = [] →
    ∃ t, exec (.firmwareCommit c 3 fs ms x) s = .next t ∧
      ((s.fwRelease.noteGated 0x10 3 k.fn).fwVerify true = (0, 0) → (s.fwRelease.noteGated 0x10 3 k.fn).fwFrameFault = none →
        t.fwu.run.map (fun r => (r.cmd, r.slot)) = some (some c, s.slotOf fs) ∧ t.flag F.fwuStatActivating = true ∧ t.fld F.fwuActStep = 1 ∧
        t.q.fetchStop = true ∧ t.armed .activationDrain = true)) ∧
  (∀ (s : State) (c ca fs ms x : Nat) (k : Cmd) (r : Activation), s.PfRuns c k → s.SupervisorFree → s.fwu.run = some r → r.cmd = some c →
    s.drainedFor (some c) = false → exec (.firmwareCommit c ca fs ms x) s = .next s) ∧
  (∀ (s : State) (c ca fs ms : Nat) (k : Cmd) (r : Activation), s.PfRuns c k → s.SupervisorFree → s.fwu.run = some r → r.cmd = some c →
    s.drainedFor (some c) = true → 1 ≤ r.slot → r.slot ≤ 2 →
    ∃ t, exec (.firmwareCommit c ca fs ms 0) s = .next t ∧ t.fwu.run = none ∧ t.fld F.fwuSlotCommitted = r.slot ∧
      t.fld F.fwuSlotRunning = r.slot ∧ t.fld F.fwuActOutcome = 1 ∧ t.q.fetchStop = false ∧ t.flag F.fwuStatActivating = false) ∧
  (∀ (s : State) (c ca fs ms x : Nat) (k : Cmd) (r : Activation), s.PfRuns c k → s.SupervisorFree → s.fwu.run = some r → r.cmd = some c →
    s.drainedFor (some c) = true → 2 ≤ x → x ≤ 6 →
    ∃ t, exec (.firmwareCommit c ca fs ms x) s = .next t ∧ t.fwu.run = none ∧ t.fld F.fwuSlotCommitted = s.fld F.fwuSlotCommitted ∧
      t.fld F.fwuSlotRunning = s.fld F.fwuSlotRunning ∧ t.fwu.running = s.fwu.running ∧ t.flag F.fwuStatPending = false ∧
      t.flag F.fwuStatAfailseen = true ∧ t.fld F.fwuActOutcome = 2 ∧ t.q.fetchStop = false ∧ t.Ended c St.badImage) ∧
  (∀ (s : State) (r : Activation), s.armed .activationDrain = true → s.fwu.run = some r → 1 ≤ r.slot → r.slot ≤ 2 →
    ∃ t, exec .activationDrainTimeout s = .next t ∧ t.fwu.run = none ∧ t.fwu.running = s.fwu.running ∧ t.fld F.fwuActOutcome = 5 ∧
      t.flag F.fwuStatPending = true ∧ t.fld F.fwuSlotPendingslot = r.slot ∧ t.q.fetchStop = false) ∧
  (∀ (s : State), s.armed .activationDrain = false → exec .activationDrainTimeout s = .next s) ∧
  (∀ (s : State) (ms x at_ : Nat), s.fwu.run = none → s.fwu.armed = some at_ → at_ ≤ s.devTime → s.sup.yielded = none →
    s.flag F.fwuStatPending = true → s.activationBarred = false →
    ∃ t r, exec (.scheduledActivationDue ms x) s = .next t ∧ t.fwu.run = some r ∧ r.cmd = none ∧ r.slot = s.fld F.fwuSlotPendingslot ∧
      t.fwu.armed = none ∧ t.fld F.fwuActStep = 1 ∧ t.q.fetchStop = true) ∧
  (∀ (s : State) (ms x at_ : Nat), s.fwu.run = none → s.fwu.armed = some at_ → at_ ≤ s.devTime → s.sup.yielded = none →
    s.activationBarred = true →
    ∃ t, exec (.scheduledActivationDue ms x) s = .next t ∧ t.fwu.run = none ∧ t.fwu.armed = none ∧ t.flag F.fwuStatSkipseen = true ∧
      t.fld F.fwuActOutcome = 3 ∧ t.flag F.fwuStatPending = s.flag F.fwuStatPending) ∧
  (∀ (s : State) (ms x at_ : Nat), s.fwu.run = none → s.fwu.armed = some at_ → s.devTime < at_ →
    exec (.scheduledActivationDue ms x) s = .next s) ∧
  (∀ (s : State) (ms : Nat) (r : Activation), s.fwu.run = some r → r.cmd = none → s.drainedFor none = true → 1 ≤ r.slot → r.slot ≤ 2 →
    ∃ t, exec (.scheduledActivationDue ms 0) s = .next t ∧ t.fwu.run = none ∧ t.fld F.fwuSlotCommitted = r.slot ∧
      t.flag F.fwuStatPending = false ∧ t.fld F.fwuActOutcome = 1 ∧ t.q.fetchStop = false)

/-- The rows of the configuration store complete: a word's program passes, fails after 16 pulses, or is refused because the word is not erased;
an erase ends with its blank check; a scrub pass counts what it corrects (R427, R428, R443). -/
def Obligations.StoreRowsComplete : Prop :=
  (∀ (s : State) (j : CfsJob) (p : Nat), s.cfs.op = some j → j.isErase = false → 2 ≤ j.words → s.sec.lcRun = none →
    ∃ t, exec (.cfsProgramComplete true p true) s = .next t ∧ t.cfs.op = some { j with words := j.words - 1 } ∧
      t.fld (F.cfsCntCount 0) = (s.fld (F.cfsCntCount 0) + 1) % 2 ^ 32 ∧ t.fld (F.cfsCntCount 1) = (s.fld (F.cfsCntCount 1) + p) % 2 ^ 32) ∧
  (∀ (s : State) (j : CfsJob) (p seq : Nat), s.cfs.op = some j → j.work = .event seq → j.words = 1 → s.sec.lcRun = none →
    s.stg.staged.any (fun r => r.seq = seq) = true →
    ∃ t, exec (.cfsProgramComplete true p true) s = .next t ∧ t.fld (F.cfsCntCount 0) = (s.fld (F.cfsCntCount 0) + 1) % 2 ^ 32 ∧
      t.areas.last = seq) ∧
  (∀ (s : State) (j : CfsJob) (p : Nat), s.cfs.op = some j → j.isErase = false → j.retires = false → s.sec.lcRun = none →
    ∃ t, exec (.cfsProgramComplete true p false) s = .next t ∧ t.flag F.cfsStatPfailseen = true ∧
      t.fld (F.cfsCntCount 3) = (s.fld (F.cfsCntCount 3) + 1) % 2 ^ 32 ∧ t.fld (F.cfsCntCount 1) = (s.fld (F.cfsCntCount 1) + 16) % 2 ^ 32 ∧
      t.fld F.cfsLasterrKind = 1 ∧ t.flag F.cfsLasterrValid = true) ∧
  (∀ (s : State) (j : CfsJob) (p : Nat) (b : Bool), s.cfs.op = some j → j.isErase = false → j.retires = false → s.sec.lcRun = none →
    ∃ t, exec (.cfsProgramComplete false p b) s = .next t ∧ t.flag F.cfsStatReprogseen = true ∧
      t.fld (F.cfsCntCount 2) = (s.fld (F.cfsCntCount 2) + 1) % 2 ^ 32 ∧ t.fld (F.cfsCntCount 0) = s.fld (F.cfsCntCount 0) ∧
      t.fld F.cfsLasterrKind = 0 ∧ t.fld F.cfsLasterrWord = s.cfsWord j % 2 ^ 18) ∧
  (∀ (s : State) (j : CfsJob) (b : Nat), s.cfs.op = some j → j.work = .erase b → b < 512 →
    ∃ t, exec (.cfsEraseComplete true true) s = .next t ∧ (t.sector b).erases = (s.sector b).erases + 1 ∧
      (t.sector b).progFails = 0 ∧ (t.sector b).eraseFails = 0) ∧
  (∀ (s : State) (j : CfsJob) (b : Nat) (bl : Bool), s.cfs.op = some j → j.work = .erase b → b < 512 → (s.sector b).eraseFails = 0 →
    ∃ t, exec (.cfsEraseComplete false bl) s = .next t ∧ (t.sector b).erases = (s.sector b).erases + 1 ∧ (t.sector b).retired = (s.sector b).retired ∧
      t.flag F.cfsStatEfailseen = true ∧ t.fld (F.cfsCntCount 5) = (s.fld (F.cfsCntCount 5) + 1) % 2 ^ 32 ∧ t.fld F.cfsLasterrKind = 2) ∧
  (∀ (s : State) (j : CfsJob) (b : Nat) (bl : Bool), s.cfs.op = some j → j.work = .erase b → b < 512 → 1 ≤ (s.sector b).eraseFails →
    ∃ t, exec (.cfsEraseComplete false bl) s = .next t ∧ (t.sector b).retired = true ∧ t.flag F.cfsStatRetireseen = true ∧
      t.fld (F.cfsCntCount 6) = (s.fld (F.cfsCntCount 6) + 1) % 2 ^ 32) ∧
  (∀ (s : State) (j : CfsJob) (b : Nat), s.cfs.op = some j → j.work = .erase b → b < 512 →
    ∃ t, exec (.cfsEraseComplete true false) s = .next t ∧ t.fld F.cfsLasterrKind = 4 ∧ (t.sector b).retired = (s.sector b).retired ∧
      t.fld (F.cfsCntCount 4) = (s.fld (F.cfsCntCount 4) + 1) % 2 ^ 32) ∧
  (∀ (s : State) (one two bad : List Nat), s.armed .cfsScrub = true →
    ∃ t, exec (.cfsScrubPeriod one two bad) s = .next t ∧ t.armed .cfsScrub = true ∧
      t.fld (F.cfsCntCount 7) = (s.fld (F.cfsCntCount 7) + one.length) % 2 ^ 32 ∧
      t.fld (F.cfsCntCount 8) = (s.fld (F.cfsCntCount 8) + two.length) % 2 ^ 32 ∧
      t.fld (F.cfsCntCount 9) = (s.fld (F.cfsCntCount 9) + bad.length) % 2 ^ 32 ∧ (bad ≠ [] → t.flag F.cfsStatUeseen = true) ∧
      t.records = s.records) ∧
  (∀ (s : State) (one two bad : List Nat), s.armed .cfsScrub = false → exec (.cfsScrubPeriod one two bad) s = .next s) ∧
  (∀ (s : State) (c n o : Nat) (k : Cmd), s.PfRuns c k → 1 ≤ n → o + n ≤ 1024 →
    ∃ t, exec (.calibrationRowRead c n o) s = .next t ∧ t.Ended c St.ok ∧ t.regs = s.regs ∧
      t.tx.any (fun x => decide (x = .hostBuf c ((List.range n).map (fun i => Config.calDword (o + i))))) = true) ∧
  (∀ (s : State) (c n o : Nat) (k : Cmd), s.PfRuns c k → n = 0 ∨ 1024 < o + n →
    ∃ t, exec (.calibrationRowRead c n o) s = .next t ∧ t.Ended c St.badField ∧ t.tx = s.tx)

/-- The rows of roles and the life cycle complete: an idle session ends; a challenge supersedes the one before it; C2h opens the session of the
role challenged, or is denied and counted; C3h ends it; C6h checks its transition, role and conditions before it begins (R152, R450, R455 to
R458). -/
def Obligations.SecurityRowsComplete : Prop :=
  (∀ (s : State) (pf : Nat), pf < 2 → s.armed (.sessionIdle pf) = true → (s.session pf).isSome = true →
    ∃ t, exec (.sessionIdleTimeout pf) s = .next t ∧ t.session pf = none ∧ t.session (1 - pf) = s.session (1 - pf) ∧
      t.armed (.sessionIdle pf) = false ∧ t.fld (F.secCntCount 8) = (s.fld (F.secCntCount 8) + 1) % 2 ^ 32) ∧
  (∀ (s : State) (pf : Nat), pf < 2 → s.armed (.sessionIdle pf) = false → exec (.sessionIdleTimeout pf) s = .next s) ∧
  (∀ (s : State) (c r : Nat) (k : Cmd), s.PfRuns c k → 1 ≤ r → r ≤ 3 →
    ∃ t ch, exec (.roleChallenge c r 0) s = .next t ∧ t.Ended c St.ok ch.number ∧ (if k.fn = 0 then t.sec.chal0 else t.sec.chal1) = some ch ∧
      ch.role.num = r ∧ ch.issued = s.clk.mono ∧ ch.number = (s.sec.chalNo + 1) % 2 ^ 32 ∧
      t.tx.head? = some (.hostBuf c (ch.block k.fn s.lc)) ∧ (ch.block k.fn s.lc).length = 32 ∧
      t.fld (F.secCntCount 0) = (s.fld (F.secCntCount 0) + 1) % 2 ^ 32) ∧
  (∀ (s : State) (c r x : Nat) (k : Cmd), s.PfRuns c k → x ≠ 0 ∨ r = 0 ∨ 3 < r →
    ∃ t, exec (.roleChallenge c r x) s = .next t ∧ t.Ended c St.badField ∧ t.sec = s.sec ∧ t.tx = s.tx) ∧
  (∀ (s : State) (c r n sr ss key : Nat) (k : Cmd) (ch : Challenge), s.PfRuns c k → 1 ≤ r → r ≤ 3 →
    (if k.fn = 0 then s.sec.chal0 else s.sec.chal1) = some ch → ch.number = n → ch.role.num = r → s.clk.mono ≤ ch.issued + 30000000000 →
    (s.recentFails k.fn).length < 3 → (r = 3 ∧ s.lc = 1 → s.flag F.secCtlMakeren = true) → s.keys.key ch.role = some key →
    ∃ t, exec (.roleAssume c r n sr ss) s = .next t ∧ t.session (1 - k.fn) = s.session (1 - k.fn) ∧
      (Config.ecdsaOk key (Config.sha384 (ch.block k.fn s.lc)) sr ss = true → t.Ended c St.ok ∧ (t.roleOf k.fn).num = r ∧
        t.armed (.sessionIdle k.fn) = true ∧ t.fld (F.secCntCount r) = (s.fld (F.secCntCount r) + 1) % 2 ^ 32 ∧
        t.fld F.secFailTotal = s.fld F.secFailTotal) ∧
      (Config.ecdsaOk key (Config.sha384 (ch.block k.fn s.lc)) sr ss = false → t.Ended c St.accessDenied ∧ t.session k.fn = s.session k.fn ∧
        t.flag F.secStatAuthfailseen = true ∧ t.fld F.secFailTotal = Nat.min 65535 (s.fld F.secFailTotal + 1))) ∧
  (∀ (s : State) (c r n sr ss key : Nat) (k : Cmd) (ch : Challenge), s.PfRuns c k → 1 ≤ r → r ≤ 3 →
    (if k.fn = 0 then s.sec.chal0 else s.sec.chal1) = some ch → s.keys.key ch.role = some key →
    ch.number ≠ n ∨ ch.role.num ≠ r ∨ ch.issued + 30000000000 < s.clk.mono ∨ 3 ≤ (s.recentFails k.fn).length ∨
      (r = 3 ∧ s.lc = 1 ∧ s.flag F.secCtlMakeren = false) →
    ∃ t, exec (.roleAssume c r n sr ss) s = .next t ∧ t.Ended c St.accessDenied ∧ t.session 0 = s.session 0 ∧ t.session 1 = s.session 1 ∧
      t.flag F.secStatAuthfailseen = true ∧ t.fld F.secFailTotal = Nat.min 65535 (s.fld F.secFailTotal + 1)) ∧
  (∀ (s : State) (c : Nat) (k : Cmd), s.PfRuns c k →
    ∃ t, exec (.roleRelease c 0) s = .next t ∧ t.Ended c St.ok ∧ t.session k.fn = none ∧ t.session (1 - k.fn) = s.session (1 - k.fn)) ∧
  (∀ (s : State) (c x : Nat) (k : Cmd), s.PfRuns c k → x ≠ 0 →
    ∃ t, exec (.roleRelease c x) s = .next t ∧ t.Ended c St.badField ∧ t.sec = s.sec) ∧
  (∀ (s : State) (c target : Nat) (k : Cmd) (need : Role), s.PfRuns c k → s.SupervisorFree → transitionRole s.lc target = some need →
    s.mayTransit k.fn target need = true → s.sec.lcRun = none → s.transitionBlocked target = false →
    ∃ t, exec (.lifeCycleTransition c target 0) s = .next t ∧
      t.sec.lcRun = some (c, target, (s.roleOf k.fn).num, s.clk.mono, 2) ∧ t.q.fetchStop = true ∧ t.lc = s.lc ∧
      (t.cmd c).map (·.phase) = some .active) ∧
  (∀ (s : State) (c target x : Nat) (k : Cmd), s.PfRuns c k → s.SupervisorFree → s.lc ≤ 2 → target = s.lc ∨ 3 ≤ target ∨ (s.lc = 2 ∧ target = 1) →
    ∃ t, exec (.lifeCycleTransition c target x) s = .next t ∧ t.Ended c St.badField ∧ t.sec = s.sec ∧
      t.fld (F.secCntCount 17) = (s.fld (F.secCntCount 17) + 1) % 2 ^ 32) ∧
  (∀ (s : State) (c target x : Nat) (k : Cmd) (need : Role), s.PfRuns c k → s.SupervisorFree → transitionRole s.lc target = some need →
    s.mayTransit k.fn target need = false →
    ∃ t, exec (.lifeCycleTransition c target x) s = .next t ∧ t.Ended c St.roleRequired ∧ t.sec = s.sec ∧ t.flag F.secStatDenyseen = true ∧
      t.fld (F.secCntCount 17) = (s.fld (F.secCntCount 17) + 1) % 2 ^ 32) ∧
  (∀ (s : State) (c target : Nat) (k : Cmd) (need : Role), s.PfRuns c k → s.SupervisorFree → transitionRole s.lc target = some need →
    s.mayTransit k.fn target need = true →
    (target ≠ 2 ∧ s.nss ≠ []) ∨ s.adm.format.state = 1 ∨ s.fwu.run.isSome = true ∨ s.map.stalled ≠ [] ∨ s.fwu.armed.isSome = true →
    ∃ t, exec (.lifeCycleTransition c target 0) s = .next t ∧ t.Ended c St.sequence ∧ t.sec = s.sec)

/-- The rows of the event recorder complete: one second after the oldest staged record the staged ones are handed to the store; C4h returns
records from the cursor, or cast-on records from an index; C5h clears the round area and waits for its sectors (R472, R476 to R478). -/
def Obligations.RecorderRowsComplete : Prop :=
  (∀ (s : State), s.armed .eventPersist = true → s.sup.yielded = none →
    ∃ t, exec .eventPersistTimer s = .next t ∧ (∀ r ∈ s.stg.staged, t.persisting r.seq = true) ∧ t.stg = s.stg ∧ t.areas = s.areas) ∧
  (∀ (s : State), s.armed .eventPersist = false → exec .eventPersistTimer s = .next s) ∧
  (∀ (s : State) (c n i : Nat) (k : Cmd), s.PfRuns c k → s.mayReadEvents k.fn = true → 1 ≤ n → n ≤ 128 → i < 16384 →
    ∃ t ds, exec (.eventWindowRead c 1 n i) s = .next t ∧ t.Ended c St.ok ((s.areas.cast.drop i).take n).length ∧
      t.tx = .hostBuf c ds :: s.tx ∧ ds.length = 8 * n ∧
      ds.take (8 * ((s.areas.cast.drop i).take n).length) = ((s.areas.cast.drop i).take n).flatMap EventRec.dwords ∧
      t.bank0 = s.bank0 ∧ t.bank1 = s.bank1 ∧ t.areas = s.areas) ∧
  (∀ (s : State) (c n : Nat) (k : Cmd) (r : EventRec), s.PfRuns c k → s.mayReadEvents k.fn = true → (s.bank k.fn).behind = false →
    s.findRec (s.bank k.fn).cursor = some r → 1 ≤ n → n ≤ 128 →
    ∃ t ds m, exec (.eventWindowRead c 0 n 0) s = .next t ∧ t.Ended c St.ok m ∧ 1 ≤ m ∧ m ≤ n ∧ t.tx = .hostBuf c ds :: s.tx ∧
      ds.length = 8 * n ∧ ds.take 8 = r.dwords ∧ (t.bank k.fn).overrun = (s.bank k.fn).overrun ∧ t.areas = s.areas ∧ t.stg = s.stg) ∧
  (∀ (s : State) (c n : Nat) (k : Cmd), s.PfRuns c k → s.mayReadEvents k.fn = true → (s.bank k.fn).behind = true → 1 ≤ n → n ≤ 128 →
    ∃ t m, exec (.eventWindowRead c 0 n 0) s = .next t ∧ t.Ended c St.ok (m + 2 ^ 31) ∧ m ≤ n ∧ (t.bank k.fn).overrun = true ∧
      (t.bank k.fn).behind = false) ∧
  (∀ (s : State) (c a n i : Nat) (k : Cmd), s.PfRuns c k → s.mayReadEvents k.fn = true → n = 0 ∨ 128 < n ∨ 1 < a →
    ∃ t, exec (.eventWindowRead c a n i) s = .next t ∧ t.Ended c St.badField ∧ t.tx = s.tx ∧ t.bank0 = s.bank0 ∧ t.bank1 = s.bank1) ∧
  (∀ (s : State) (c a n i : Nat) (k : Cmd), s.PfRuns c k → s.mayReadEvents k.fn = false →
    ∃ t, exec (.eventWindowRead c a n i) s = .next t ∧ t.Ended c St.roleRequired ∧ t.tx = s.tx ∧ t.bank0 = s.bank0 ∧ t.bank1 = s.bank1) ∧
  (∀ (s : State) (c : Nat) (k : Cmd), s.PfRuns c k → s.mayAs k.fn .installer = true →
    ∃ t, exec (.eventRoundClear c 1) s = .next t ∧ t.AwaitsStore c ∧ t.areas.round = [] ∧ t.areas.cast = s.areas.cast ∧
      t.areas.clearTo.isSome = true) ∧
  (∀ (s : State) (c x : Nat) (k : Cmd), s.PfRuns c k → s.mayAs k.fn .installer = true → x ≠ 1 →
    ∃ t, exec (.eventRoundClear c x) s = .next t ∧ t.Ended c St.badField ∧ t.areas = s.areas) ∧
  (∀ (s : State) (c x : Nat) (k : Cmd), s.PfRuns c k → s.mayAs k.fn .installer = false →
    ∃ t, exec (.eventRoundClear c x) s = .next t ∧ t.Ended c St.roleRequired ∧ t.areas = s.areas)

/-- The rows of supplies and start-up complete: VDD_AON rises with both counts at 0 and PFAIL_N low; a start fails its calibration row, its HBM
pattern or its committed slot, or goes on to bring the device up from the slot that the boot locator names (R49, R319, R418, R419, R433,
R489, R495). -/
def Obligations.StartRowsComplete : Prop :=
  (∀ (s : State), ∃ t, exec .vddAonApplied s = .next t ∧ t.clk.mono = State.reset.clk.mono ∧ t.clk.aonUp = true ∧ t.timers.all (fun x => decide (x.id = .eventPersist)) = true ∧
    t.q.cmds = [] ∧ t.session 0 = none ∧ t.session 1 = none ∧ t.pins.pfail = true ∧ t.started = false ∧ t.stg.staged.length ≤ 1 ∧
    t.areas = s.areas ∧ t.keys = s.keys ∧ t.savedRegs = s.savedRegs) ∧
  (∀ (s : State) (f : StartFacts), s.mayStart = true → f.calOk = false →
    ∃ t, exec (.coldStart f) s = .next t ∧ (t.func 0).cfs = true ∧ (t.func 1).cfs = true ∧ t.flag F.cfsCalstatValid = true ∧
      t.flag F.cfsCalstatPass = false ∧ t.started = false ∧ t.fl = s.fl) ∧
  (∀ (s : State) (f : StartFacts) (p : Nat), s.mayStart = true → f.calOk = true → f.badPc = some p →
    ∃ t, exec (.coldStart f) s = .next t ∧ (t.func 0).cfs = true ∧ (t.func 1).cfs = true ∧ t.flag F.cfsCalstatPass = true ∧
      t.started = false ∧ t.fl = s.fl) ∧
  (∀ (s : State) (f : StartFacts), s.mayStart = true → f.calOk = true → f.badPc = none →
    (if s.bootSlot = 2 then f.valid2 % 16 else f.valid1 % 16) = 0 ∨ f.failPart ≠ 0 →
    ∃ t, exec (.coldStart f) s = .next t ∧ t.flag F.genStateDead = true ∧ t.flag F.hbmStatDlyok = true ∧ t.started = false ∧ t.fl = s.fl ∧
      t.fld F.fwuSlotCommitted = s.bootSlot ∧ t.fld F.genStartsCount = Nat.min (2 ^ 32 - 1) (s.fld F.genStartsCount + 1)) ∧
  (∀ (s : State) (f : StartFacts), s.mayStart = true → f.calOk = true → f.badPc = none →
    (if s.bootSlot = 2 then f.valid2 % 16 else f.valid1 % 16) ≠ 0 → f.failPart = 0 →
    exec (.coldStart f) s = .next ((((((s.bootRom f).checkCal true).loadDelays).setFlag F.hbmStatDlyok).noteBoot s.bootSlot f.valid1 f.valid2 0).bringUp f
      s.bootSlot))

/-- The rows that write a counter clear: every counter of the block reads 0 afterwards and nothing else of the block changes (R95, R127, R181,
R236, R255, R286, R328, R345, R360, R380, R383, R408, R423, R446). -/
def Obligations.CounterClearsComplete : Prop :=
  BitClears .qenCntclr .operator ((List.range 32).map Reg.qenCnt) ∧
  BitClears .mapCntclr .operator ((List.range 32).map Reg.mapCnt) ∧
  BitClears .eccCntclr .operator ((List.range 24).map Reg.eccCnt) ∧
  BitClears .rclCntclr .operator ((List.range 13).map Reg.rclCnt) ∧
  BitClears .lifCntclr .operator ((List.range 24).map Reg.lifCnt) ∧
  BitClears .hbmCntclr .operator ((List.range 16).map Reg.hbmCnt) ∧
  BitClears .cmpCntclr .operator ((List.range 20).map Reg.cmpCnt) ∧
  BitClears .supCntclr .operator ((List.range 16).map Reg.supCnt) ∧
  BitClears .pwrCntclr .operator ((List.range 32).map Reg.pwrCnt) ∧
  BitClears .patCntclr .operator ((List.range 16).map Reg.patCnt) ∧
  BitClears .strCntclr .operator ((List.range 32).map Reg.strCnt) ∧
  BitClears .fwuCntclr .operator ((List.range 3).map Reg.fwuCnt) ∧
  BitClears .cfsCntclr .operator ((List.range 12).map Reg.cfsCnt) ∧
  (∀ (k : Nat), k < 8 → BitClears (fun pf => .sknCntclr pf k) .operator ((List.range 16).map (Reg.sknCnt k) ++ (skeinChans k).map Reg.chnErr)) ∧
  (∀ (s : State) (pf : Nat), s.BitLands pf .operator →
    ∃ t, exec (.crsCntclr pf) s = .next t ∧ (∀ n, n < 24 → t.word (Reg.crsCnt n) = 0) ∧ t.q = s.q ∧ t.fl = s.fl) ∧
  (∀ (s : State) (pf : Nat), s.BitLands pf .operator →
    ∃ t, exec (.hifCntclr pf) s = .next t ∧ (∀ p n, p < 2 → n < 18 → t.word (Reg.hifCnt p n) = 0) ∧ t.fld F.hifUxcplCntCount = 0 ∧
      t.fld F.hifPriStatLate = 0 ∧ t.q = s.q ∧ t.fl = s.fl) ∧
  (∀ (s : State) (pf : Nat), s.BitLands pf .operator →
    ∃ t, exec (.secCntclr pf) s = .next t ∧ (∀ n, n < 24 → n ≠ 10 → t.word (Reg.secCnt n) = 0) ∧ t.fld (F.secCntCount 10) = 1 ∧ t.keys = s.keys ∧
      t.fld F.secStatAuthfailseen = s.fld F.secStatAuthfailseen)

/-- The rows that write a log, histogram or scratch clear: its registers read 0 afterwards (R127, R181, R209, R236, R255, R286, R360, R380,
R465, R522). -/
def Obligations.LogClearsComplete : Prop :=
  BitClears .qenHistclr .operator ((List.range 32).map Reg.qenHist) ∧
  BitClears .mapHistclr .operator ((List.range 8).map Reg.mapSeampg) ∧
  BitClears .eccSlowlogclr .operator ((List.range 8).map Reg.eccSlowlog) ∧
  BitClears .rclTtclr .operator ((List.range 8).map Reg.rclTenstime) ∧
  BitClears .lifPfhistclr .installer ((List.range 8).map Reg.lifPfhist) ∧
  BitClears .supLogclr .installer ((List.range 8).map Reg.supSwlog) ∧
  BitClears .pwrHistclr .operator ((List.range 8).map Reg.pwrEnthist) ∧
  BitClears .secDenyclr .operator [Reg.secDenylog] ∧
  BitClears .genScrclr .operator ((List.range 4).map Reg.genScratch) ∧
  (∀ (s : State) (pf : Nat), s.BitLands pf .operator →
    ∃ t, exec (.crsPflogclr pf) s = .next t ∧ (∀ n, n < 8 → t.word (Reg.crsPflog n) = 0) ∧ t.q = s.q ∧ t.fl = s.fl) ∧
  (∀ (s : State) (pf : Nat), s.BitLands pf .operator → ∃ t, exec (.pwrHistclr pf) s = .next t ∧ t.pwr.times = List.replicate 5 0) ∧
  (∀ (s : State) (pf : Nat), pf < 2 → (s.port pf).perst = false → s.flag F.genStateDead = false → s.ps ≠ 4 → s.mayAs pf .operator = false →
    ∃ t, exec (.qenHistclr pf) s = .next t ∧ (∀ n, n < 32 → t.word (Reg.qenHist n) = s.word (Reg.qenHist n)) ∧ t.flag F.secStatDenyseen = true ∧
      t.flag F.secDenylogValid = true ∧ t.fld F.secDenylogSrc = 0 ∧ t.fld F.secDenylogNeed = 1)

/-- The rows that start or carry out an action through a bit complete (R58, R95, R229, R308, R328, R343, R400, R412, R440, R443, R453, R463,
R475). -/
def Obligations.ActionBitsComplete : Prop :=
  (∀ (s : State) (pf : Nat), s.BitLands pf .operator →
    ∃ t, exec (.paceMinclr pf) s = .next t ∧ (∀ r, r < 30 → t.fld (F.paceGaugeMin r) = s.fld (F.paceGaugePace r)) ∧ t.pace = s.pace) ∧
  (∀ (s : State) (pf : Nat), s.BitLands pf .operator →
    ∃ t, exec (.atcFlush pf) s = .next t ∧ t.hif.atc = [] ∧ t.hif.groups = s.hif.groups ∧ t.q = s.q) ∧
  (∀ (s : State) (pf : Nat), s.BitLands pf .operator → ∃ t, exec (.eccRelease pf) s = .next t ∧ (∀ p ∈ s.fl.slow, Tab.has p.1 t.fl.slow = false) ∧
      t.fl.blks = s.fl.blks) ∧
  (∀ (s : State) (pf c : Nat), s.BitLands pf .operator → c < 512 → (s.chan c).up = true →
    ∃ t, exec (.chnRetrain pf c) s = .next t ∧
      t.fld (F.chnErrTrains c) = Nat.min (2 ^ (F.chnErrTrains c).wid - 1) (s.fld (F.chnErrTrains c) + 1)) ∧
  (∀ (s : State) (pf c : Nat), s.BitLands pf .operator → c < 512 → (s.chan c).up = false →
    ∃ t, exec (.chnRetrain pf c) s = .next t ∧ t.fl = s.fl ∧ t.free = s.free) ∧
  (∀ (s : State) (pf k : Nat), s.BitLands pf .operator → k < 8 → (∀ c ∈ skeinChans k, (s.chan c).up = false) →
    ∃ t, exec (.sknRetrain pf k) s = .next t ∧ t.fl = s.fl ∧ t.free = s.free) ∧
  (∀ (s : State) (pf k c : Nat), s.BitLands pf .operator → k < 8 → c ∈ skeinChans k → (s.chan c).up = true →
    (∀ d ∈ skeinChans k, d ≠ c → (s.chan d).up = false) →
    ∃ t, exec (.sknRetrain pf k) s = .next t ∧
      t.fld (F.chnErrTrains c) = Nat.min (2 ^ (F.chnErrTrains c).wid - 1) (s.fld (F.chnErrTrains c) + 1)) ∧
  (∀ (s : State) (pf : Nat), s.BitLands pf .operator →
    ∃ t, exec (.hbmScrubnow pf) s = .next t ∧ t.dueOf .hbmScrub = some s.clk.mono ∧ t.hbm = s.hbm) ∧
  (∀ (s : State) (pf : Nat) (l : List (Nat × Nat)), s.BitLands pf .operator → (∀ f ∈ l, f.1 < 48 ∧ f.2 ≤ 5) →
    ∃ t, exec (.cmpTestRun pf l) s = .next t ∧ t.flag F.cmpTestRun = false ∧ t.flag F.cmpTestPass = l.isEmpty ∧
      t.fld (F.cmpCntCount 19) = (s.fld (F.cmpCntCount 19) + 1) % 2 ^ 32) ∧
  (∀ (s : State) (pf : Nat), s.BitLands pf .installer →
    ∃ t, exec (.fwuDiscard pf) s = .next t ∧ t.fwu.stage = [] ∧ t.fwu.owner = none ∧ t.fld F.fwuStageBlocks = 0 ∧ t.fwu.slot1 = s.fwu.slot1 ∧
      t.fwu.slot2 = s.fwu.slot2) ∧
  (∀ (s : State) (pf : Nat) (one two bad : List Nat), s.BitLands pf .operator →
    ∃ t, exec (.cfsScrub pf one two bad) s = .next t ∧ t.fld (F.cfsCntCount 7) = (s.fld (F.cfsCntCount 7) + one.length) % 2 ^ 32 ∧
      t.fld (F.cfsCntCount 9) = (s.fld (F.cfsCntCount 9) + bad.length) % 2 ^ 32 ∧ t.records = s.records) ∧
  (∀ (s : State) (pf : Nat), s.BitLands pf .installer → s.dpError = 0 →
    ∃ t, exec (.cfsDpctlCommit pf) s = .next t ∧ t.flag F.cfsDpctlBusy = true ∧ t.fld F.cfsDpctlErr = 0 ∧ t.records = s.records) ∧
  (∀ (s : State) (pf : Nat), s.BitLands pf .installer → s.fld F.cfsDpselKind ≠ 2 →
    ∃ t, exec (.cfsDpctlCommit pf) s = .next t ∧ t.fld F.cfsDpctlErr = 1 ∧ t.flag F.cfsDpctlBusy = s.flag F.cfsDpctlBusy ∧ t.records = s.records) ∧
  (∀ (s : State) (pf : Nat), s.BitLands pf .operator →
    ∃ t, exec (.cfsDpctlDiscard pf) s = .next t ∧ t.cfs.dpBuf = [] ∧ t.records = s.records) ∧
  (∀ (s : State) (pf : Nat), s.BitLands pf .installer → s.keyError pf = 0 →
    ∃ t, exec (.secKctlCommit pf) s = .next t ∧ t.flag F.secKctlBusy = true ∧ t.fld F.secKctlErr = 0 ∧ t.keys = s.keys ∧
      t.sec.commit = some (s.fld F.secKselKey, kbufValue s.sec.kbuf)) ∧
  (∀ (s : State) (pf : Nat), s.BitLands pf .installer → s.keyError pf ≠ 0 →
    ∃ t, exec (.secKctlCommit pf) s = .next t ∧ t.fld F.secKctlErr = s.keyError pf ∧ t.keys = s.keys ∧ t.sec.commit = s.sec.commit ∧
      t.fld (F.secCntCount 15) = (s.fld (F.secCntCount 15) + 1) % 2 ^ 32) ∧
  (∀ (s : State) (pf : Nat), s.BitLands pf .operator → ∃ t, exec (.secKctlDiscard pf) s = .next t ∧ t.sec.kbuf = [] ∧ t.keys = s.keys) ∧
  (∀ (s : State) (pf : Nat), s.BitLands pf .maker → s.lc = 0 →
    ∃ t, exec (.secDbgUnlock pf) s = .next t ∧ t.debugLive = true ∧ t.flag F.secStatDbgseen = true ∧
      t.fld (F.secCntCount 20) = (s.fld (F.secCntCount 20) + 1) % 2 ^ 32) ∧
  (∀ (s : State) (pf : Nat), s.BitLands pf .maker → s.lc ≠ 0 →
    ∃ t, exec (.secDbgUnlock pf) s = .next t ∧ t.flag F.secDbgUnlock = s.flag F.secDbgUnlock ∧ t.fld (F.secCntCount 20) = s.fld (F.secCntCount 20)) ∧
  (∀ (s : State) (pf : Nat), s.BitLands pf .operator →
    ∃ t, exec (.evwSeekold pf) s = .next t ∧ (t.bank pf).cursor = s.evwOldest ∧ (t.bank pf).behind = false ∧ t.bank (1 - pf) = s.bank (1 - pf) ∧
      t.areas = s.areas) ∧
  (∀ (s : State) (pf : Nat), s.BitLands pf .operator →
    ∃ t, exec (.evwSeeknew pf) s = .next t ∧ (t.bank pf).cursor = s.stg.nextSeq ∧ (t.bank pf).behind = false ∧ t.bank (1 - pf) = s.bank (1 - pf) ∧
      t.areas = s.areas) ∧
  (∀ (s : State) (pf : Nat) (x : Window), s.BitLands pf .operator → s.staged = x → s.windowError x = 0 →
    ∃ t, exec (.strWctlCommit pf) s = .next t ∧ Tab.find (s.fld F.strWselWin) t.str.windows = some x ∧ t.fld F.strWstatErr = 0) ∧
  (∀ (s : State) (pf : Nat), s.BitLands pf .operator → s.windowError s.staged ≠ 0 →
    ∃ t, exec (.strWctlCommit pf) s = .next t ∧ t.str.windows = s.str.windows ∧
      t.fld F.strWstatErr = s.windowError s.staged % 2 ^ F.strWstatErr.wid)

/-- Register accesses complete: a write over BAR2 stores what its masked bytes give, or is refused whole where a role is missing; C0h reads, writes
the masked bits, or completes with C0h; the data ports and the event window move on as they are accessed (R440, R451, R453, R474, R475, R510 to
R514, R151). -/
def Obligations.RegisterRowsComplete : Prop :=
  (∀ (s : State) (pf k be : Nat) (v : Word), s.BitLands pf .operator → k < 4 → be = 15 →
    ∃ t, exec (.registerWrite pf (Reg.genScratch k) v be) s = .next t ∧ t.word (Reg.genScratch k) = v ∧
      (∀ j, j < 4 → j ≠ k → t.word (Reg.genScratch j) = s.word (Reg.genScratch j)) ∧ t.q = s.q) ∧
  (∀ (s : State) (pf k : Nat) (v : Word), pf < 2 → (s.port pf).perst = false → s.flag F.genStateDead = false → s.ps ≠ 4 →
    s.mayAs pf .operator = false → k < 4 → v ≠ s.word (Reg.genScratch k) →
    ∃ t, exec (.registerWrite pf (Reg.genScratch k) v 15) s = .next t ∧ t.word (Reg.genScratch k) = s.word (Reg.genScratch k) ∧
      t.flag F.secStatDenyseen = true ∧ t.fld F.secDenylogTarget = Reg.genScratch k / 4 ∧ t.fld F.secDenylogFunc = pf) ∧
  (∀ (s : State) (pf off be : Nat) (v : Word), pf < 2 → (s.port pf).perst = false → s.flag F.genStateDead = false → s.ps ≠ 4 → off < 0x10000 →
    rowsOf off = [] → ∃ t, exec (.registerWrite pf off v be) s = .next t ∧ t.regs = s.regs ∧ t.q = s.q) ∧
  (∀ (s : State) (pf off be : Nat) (v : Word), pf < 2 → (s.port pf).perst = false → s.ps = 4 → 0x200 ≤ off → off < 0xC00 →
    ∃ t, exec (.registerWrite pf off v be) s = .next t ∧ t.hif.held = s.hif.held ++ [(pf, ⟨off, v, be⟩)] ∧ t.regs = s.regs) ∧
  (∀ (s : State) (c : Nat) (k : Cmd) (v m : Word), s.PfRuns c k → s.flag F.genStateDead = false →
    exec (.registerAccess c false Reg.genId v m 0) s = .next ((s.regRead (2 + k.fn) Reg.genId).2.finish c St.ok 0x75121F9E)) ∧
  (∀ (s : State) (c off : Nat) (k : Cmd) (v m : Word), s.PfRuns c k → s.flag F.genStateDead = false → off % 4 = 0 → off < 0x10000 →
    namesReg off = false →
    ∃ t, exec (.registerAccess c false off v m 0) s = .next t ∧ t.Ended c St.ok 0 ∧ t.regs = s.regs) ∧
  (∀ (s : State) (c off x : Nat) (w : Bool) (k : Cmd) (v : Word), s.PfRuns c k → x ≠ 0 ∨ off % 4 ≠ 0 ∨ 0x10000 ≤ off →
    ∃ t, exec (.registerAccess c w off v 0 x) s = .next t ∧ t.Ended c St.badField ∧ t.regs = s.regs) ∧
  (∀ (s : State) (c j : Nat) (k : Cmd) (v m : Word), s.PfRuns c k → s.flag F.genStateDead = false → s.mayAs k.fn .operator = true → j < 4 →
    ∃ t, exec (.registerAccess c true (Reg.genScratch j) v m 0) s = .next t ∧
      t.word (Reg.genScratch j) = (s.word (Reg.genScratch j) &&& ~~~m) ||| (v &&& m) ∧
      t.Ended c St.ok ((s.word (Reg.genScratch j) &&& ~~~m) ||| (v &&& m)).toNat) ∧
  (∀ (s : State) (c j : Nat) (k : Cmd) (v m : Word), s.PfRuns c k → s.flag F.genStateDead = false → s.mayAs k.fn .operator = false → j < 4 →
    (s.word (Reg.genScratch j) &&& ~~~m) ||| (v &&& m) ≠ s.word (Reg.genScratch j) →
    ∃ t, exec (.registerAccess c true (Reg.genScratch j) v m 0) s = .next t ∧ t.Ended c St.roleRequired ∧
      t.word (Reg.genScratch j) = s.word (Reg.genScratch j) ∧ t.fld F.secDenylogSrc = 1) ∧
  (∀ (s : State) (pf w : Nat), s.BitLands pf .operator → w < 256 →
    ∃ t, exec (.strWselWrite pf w) s = .next t ∧ t.fld F.strWselWin = w ∧ t.str.windows = s.str.windows ∧
      (∀ x, Tab.find w s.str.windows = some x → t.fld F.strWbaseLoLba = x.base % 2 ^ 32 ∧ t.fld F.strWctlOpen = b2n x.open_)) ∧
  (∀ (s : State) (pf : Nat) (v : Word), s.BitLands pf .operator →
    ∃ t, exec (.cfsDpselWrite pf v) s = .next t ∧ t.word Reg.cfsDpsel = v &&& 0xFFFF0FFC ∧ t.records = s.records ∧
      (Tab.has (F.cfsDpselKind.get v * 256 + F.cfsDpselIndex.get v) s.records = false → t.cfs.dpBuf = [])) ∧
  (∀ (s : State) (pf : Nat) (v : Word), s.BitLands pf .installer →
    ∃ t, exec (.cfsDpdataAccess pf true v) s = .next t ∧ t.dpDword (s.fld F.cfsDpselOffset) = v ∧
      t.fld F.cfsDpselOffset = (s.fld F.cfsDpselOffset + 1) % 1024 ∧ t.records = s.records) ∧
  (∀ (s : State) (pf : Nat) (v : Word), pf < 2 → (s.port pf).perst = false → s.flag F.genStateDead = false → s.ps ≠ 4 →
    ∃ t, exec (.cfsDpdataAccess pf false v) s = .next t ∧ t.cfs = s.cfs ∧ t.fld F.cfsDpselOffset = (s.fld F.cfsDpselOffset + 1) % 1024) ∧
  (∀ (s : State) (pf : Nat) (v : Word), s.BitLands pf .operator →
    ∃ t, exec (.secKselWrite pf v) s = .next t ∧ t.word Reg.secKsel = v &&& 0xFF ∧ t.keys = s.keys ∧
      t.sec.kbuf = kbufOf ((s.keys.key (Role.ofNum (F.secKselKey.get v))).getD 0)) ∧
  (∀ (s : State) (pf : Nat) (v : Word), s.BitLands pf .installer → s.fld F.secKselOffset < 24 →
    ∃ t, exec (.secKdataAccess pf true v) s = .next t ∧ Tab.getD (s.fld F.secKselOffset) 0 t.sec.kbuf = v ∧
      t.fld F.secKselOffset = s.fld F.secKselOffset + 1 ∧ t.keys = s.keys) ∧
  (∀ (s : State) (pf : Nat) (v : Word), pf < 2 → (s.port pf).perst = false → s.flag F.genStateDead = false → s.ps ≠ 4 →
    ∃ t, exec (.secKdataAccess pf false v) s = .next t ∧ t.sec = s.sec ∧ t.fld F.secKselOffset = (s.fld F.secKselOffset + 1) % 64) ∧
  (∀ (s : State) (pf : Nat) (r : EventRec), pf < 2 → (s.port pf).perst = false → s.ps ≠ 4 → s.mayReadEvents pf = true → (s.bank pf).behind = false →
    s.atCursor pf = some r →
    ∃ t, exec (.evwData0Read pf) s = .next t ∧ (t.bank pf).latch = r.dwords ∧ (t.bank pf).cursor = (s.bank pf).cursor ∧
      t.bank (1 - pf) = s.bank (1 - pf)) ∧
  (∀ (s : State) (pf : Nat), pf < 2 → (s.port pf).perst = false → s.ps ≠ 4 → s.mayReadEvents pf = true → (s.bank pf).behind = true →
    (s.bank pf).area = 0 →
    ∃ t, exec (.evwData0Read pf) s = .next t ∧ (t.bank pf).cursor = s.evwOldest ∧ (t.bank pf).behind = false ∧ (t.bank pf).overrun = true) ∧
  (∀ (s : State) (pf : Nat), pf < 2 → (s.port pf).perst = false → s.ps ≠ 4 → s.mayReadEvents pf = false →
    exec (.evwData0Read pf) s = .next s ∧ exec (.evwData7Read pf) s = .next s) ∧
  (∀ (s : State) (pf : Nat), pf < 2 → (s.port pf).perst = false → s.ps ≠ 4 → s.mayReadEvents pf = true → (s.bank pf).latch ≠ [] →
    (s.bank pf).area = 0 →
    ∃ t, exec (.evwData7Read pf) s = .next t ∧ (t.bank pf).cursor = nextSeq (s.bank pf).cursor ∧ (t.bank pf).latch = (s.bank pf).latch) ∧
  (∀ (s : State) (pf seq : Nat), s.BitLands pf .operator → seq < 2 ^ 32 →
    ∃ t, exec (.evwCursorWrite pf seq) s = .next t ∧ (t.bank pf).cursor = seq ∧ (t.bank pf).behind = !(s.evwInRange seq) ∧
      t.bank (1 - pf) = s.bank (1 - pf))

/-- A command waits at the front of the queue: the step is that command carried out on the state with the queue's rest. With none waiting the step is
one tick (log entry 1 says what a tick does). -/
def Obligations.StepRunsTheFrontCommand : Prop :=
  (∀ (s : State) (c : Instr) (rest : List Instr), s.pending = c :: rest → step s = exec c { s with pending := rest }) ∧
  (∀ (s : State), s.pending = [] → step s = .next s.tick)

/-- No command reaches the queue of waiting commands: a step takes its front command and no other, and a tick takes none. -/
def Obligations.QueueIsTakenInOrder : Prop :=
  (∀ (s t : State) (c : Instr), exec c s = .next t → t.pending = s.pending) ∧
  (∀ (s t : State), step s = .next t → t.pending = s.pending.tail)

/-- The cast-on area (R469). It holds SEQ i + 1 at index i and at most 16,384 records, and no step changes that or a record it holds; the record of the
next SEQ enters when its last word has been programmed; once it is full EVW_CASTUSE.USED reads 16,384, EVW_STAT.CASTFULL reads 1 and no further record
enters. -/
def Obligations.CastOnAreaKeptForLife : Prop :=
  (∀ (s t : State), s.CastOk → step s = .next t → t.CastOk) ∧
  (∀ (s t : State), step s = .next t → s.areas.cast <+: t.areas.cast) ∧
  (∀ (s : State) (j : CfsJob) (r : EventRec) (n : Nat), s.cfs.op = some j → j.work = .event r.seq → j.words = 1 →
    s.stg.staged.find? (fun x => x.seq = r.seq) = some r → r.seq = s.areas.cast.length + 1 → r.seq ≤ 16384 →
    ∃ t, exec (.cfsProgramComplete true n true) s = .next t ∧ t.areas.cast = s.areas.cast ++ [r]) ∧
  (∀ (s t : State), s.areas.cast.length = 16384 → step s = .next t → t.areas.cast = s.areas.cast) ∧
  (∀ (s : State), s.areas.cast.length = 16384 →
    F.evwCastuseUsed.get (s.liveWord Reg.evwCastuse).1 = 16384 ∧ F.evwStatCastfull.get (s.liveWord Reg.evwStat).1 = 1)

/-- The maker key never changes, whatever the step (R447). -/
def Obligations.MakerKeyNeverChanges : Prop :=
  ∀ (s t : State), step s = .next t → t.keys.makerKey = s.keys.makerKey

/-- The records of the configuration store, the settings it holds, its sectors' attributes and its reserve change only where its controller ends a
program or an erase (R425, R427, R428, R429). -/
def Obligations.StoreChangesOnlyByItsController : Prop :=
  ∀ (s t : State) (c : Instr), endsStoreWork c = false → exec c s = .next t →
    t.records = s.records ∧ t.savedRegs = s.savedRegs ∧ t.sectors = s.sectors ∧ t.reserve = s.reserve

/-- The event areas change only where a record's word has been programmed, where a start persists what was staged, and by C5h (R469, R470, R472,
R478). -/
def Obligations.EventAreasChangeOnlyByPersistence : Prop :=
  ∀ (s t : State) (c : Instr), changesEventAreas c = false → exec c s = .next t → t.areas = s.areas

/-- The key set changes only where R434, R453, R460 and R461 change it. -/
def Obligations.KeySetChangesOnlyWhereTheSpecSays : Prop :=
  ∀ (s t : State) (c : Instr), changesKeys c = false → exec c s = .next t → t.keys = s.keys

/-- A namespace is made, deleted, formatted or set otherwise only by the rows of changesNamespaces (R138, R139, R141, R142). -/
def Obligations.NamespacesChangeOnlyByManagement : Prop :=
  ∀ (s t : State) (c : Instr), changesNamespaces c = false → exec c s = .next t → t.nss = s.nss

/-- The state right after a cold reset: the counts at 0 and unset, both ports in reset, no session, no command, an empty cast-on area whose first record
will be SEQ 1, the maker key alone present, TEST (R49, R50, R83, R454, R462, R468, R469). -/
def Obligations.ResetState : Prop :=
  State.reset.pending = [] ∧ State.reset.clk.mono = 0 ∧ State.reset.devTime = 0 ∧ State.reset.fld F.tkStatOrigin = 0 ∧
    (State.reset.port 0).perst = true ∧ (State.reset.port 1).perst = true ∧ State.reset.q.cmds = [] ∧ State.reset.session 0 = none ∧
    State.reset.session 1 = none ∧ State.reset.CastOk ∧ State.reset.areas.cast = [] ∧ State.reset.stg.nextSeq = 1 ∧ State.reset.lc = 0 ∧
    State.reset.keys.opKey = none ∧ State.reset.keys.instKey = none ∧ State.reset.nss = [] ∧ State.reset.timers = []

/-- Ownership of a new unit (R454): in TEST, while no installer key is present, a staged installer key on the curve is committed without a role; once one
is present, replacing it needs the installer role in every state; a module leaves Uskai in TEST with the maker key alone, no session and MAKEREN 0. -/
def Obligations.OwnershipOfANewUnit : Prop :=
  (∀ (s : State) (pf : Nat), s.BitLands pf .installer → s.lc = 0 → s.keys.instKey = none → s.session pf = none → s.fld F.secKselKey = 2 →
    onCurve (kbufValue s.sec.kbuf) = true →
    ∃ t, exec (.secKctlCommit pf) s = .next t ∧ t.sec.commit = some (2, kbufValue s.sec.kbuf) ∧ t.flag F.secKctlBusy = true ∧
      t.fld F.secKctlErr = 0) ∧
  (∀ (s : State) (pf : Nat), s.lc = 0 → pf < 2 → s.mayAs pf .installer = true) ∧
  (∀ (s : State) (pf : Nat), s.BitLands pf .installer → s.keys.instKey.isSome = true → s.fld F.secKselKey = 2 → (s.roleOf pf).num < 2 →
    ∃ t, exec (.secKctlCommit pf) s = .next t ∧ t.fld F.secKctlErr = 1 ∧ t.sec.commit = s.sec.commit ∧ t.keys = s.keys) ∧
  (∀ (s : State) (pf : Nat), s.lc ≠ 0 → (s.roleOf pf).num < 2 → s.mayAs pf .installer = false) ∧
  State.reset.lc = 0 ∧ State.reset.keys.makerKey.isSome = true ∧ State.reset.keys.instKey = none ∧ State.reset.keys.opKey = none ∧
    State.reset.session 0 = none ∧ State.reset.session 1 = none ∧ State.reset.flag F.secCtlMakeren = false

/-- C2h for the maker role (R455): in INSTALLED it completes with Access Denied unless MAKEREN is 1; with MAKEREN 1, and in TEST and RETIRED whatever
MAKEREN holds, a valid response to a fresh challenge opens the session. -/
def Obligations.MakerRoleByLifeCycleState : Prop :=
  (∀ (s : State) (c n sr ss : Nat) (k : Cmd), s.PfRuns c k → s.lc = 1 → s.flag F.secCtlMakeren = false →
    ∃ t, exec (.roleAssume c 3 n sr ss) s = .next t ∧ t.Ended c St.accessDenied ∧ t.session 0 = s.session 0 ∧ t.session 1 = s.session 1) ∧
  (∀ (s : State) (c n sr ss key : Nat) (k : Cmd) (ch : Challenge), s.PfRuns c k → (s.lc ≠ 1 ∨ s.flag F.secCtlMakeren = true) →
    (if k.fn = 0 then s.sec.chal0 else s.sec.chal1) = some ch → ch.number = n → ch.role = .maker → s.clk.mono ≤ ch.issued + 30000000000 →
    (s.recentFails k.fn).length < 3 → s.keys.makerKey = some key →
    ∃ t, exec (.roleAssume c 3 n sr ss) s = .next t ∧
      (Config.ecdsaOk key (Config.sha384 (ch.block k.fn s.lc)) sr ss = true → t.Ended c St.ok ∧ t.roleOf k.fn = .maker))

/-- Roles and what they allow (R447, R449, R451): a function that is no PF never holds a role and is refused what needs one; a higher role holds every
right of a lower one; in TEST a PF may do without a session what needs the operator or installer role, and nothing that needs the maker role. -/
def Obligations.RolesAllowWhatTheSpecSays : Prop :=
  (∀ (s : State) (fn : Nat), 2 ≤ fn → s.roleOf fn = .none) ∧
  (∀ (s : State) (fn : Nat) (r : Role), 2 ≤ fn → r ≠ .none → s.mayAs fn r = false) ∧
  (∀ (s : State) (pf : Nat) (a b : Role), b.num ≤ a.num → s.mayAs pf a = true → s.mayAs pf b = true) ∧
  (∀ (s : State) (pf : Nat), pf < 2 → s.lc = 0 → s.mayAs pf .operator = true ∧ s.mayAs pf .installer = true) ∧
  (∀ (s : State) (pf : Nat), s.mayAs pf .maker = true ↔ pf < 2 ∧ s.roleOf pf = .maker)
end

