-- ==== Sys2Proof/Laws/State.lean ====
section
/-! SUPPORT. What each plain update of the state leaves: one lemma for every field and update, and the update's own field. -/

namespace Sys2Proof.Machine

@[simp] theorem State.setFlag_eq (s : State) (f : Fld) : s.setFlag f = s.setFld f 1 := rfl
@[simp] theorem State.clrFlag_eq (s : State) (f : Fld) : s.clrFlag f = s.setFld f 0 := rfl
@[simp] theorem State.putFlag_eq (s : State) (f : Fld) (b : Bool) : s.putFlag f b = s.setFld f (b2n b) := rfl
@[simp] theorem State.addSat_eq (s : State) (f : Fld) (n : Nat) : s.addSat f n = s.setFld f (satAdd (2 ^ f.wid - 1) (s.fld f) n) := rfl
@[simp] theorem State.addWrap_eq (s : State) (f : Fld) (n : Nat) : s.addWrap f n = s.setFld f (s.fld f + n) := rfl
@[simp] theorem State.putSat_eq (s : State) (f : Fld) (n : Nat) : s.putSat f n = s.setFld f (Nat.min (2 ^ f.wid - 1) n) := rfl
@[simp] theorem State.updFunc_eq (s : State) (i : Nat) (g : Func → Func) : s.updFunc i g = s.setFunc i (g (s.func i)) := rfl


@[simp] theorem State.setWord_pending (s : State) (o : Nat) (w : Word) : (s.setWord o w).pending = s.pending := rfl
@[simp] theorem State.setWord_clk (s : State) (o : Nat) (w : Word) : (s.setWord o w).clk = s.clk := rfl
@[simp] theorem State.setWord_timers (s : State) (o : Nat) (w : Word) : (s.setWord o w).timers = s.timers := rfl
@[simp] theorem State.setWord_latches (s : State) (o : Nat) (w : Word) : (s.setWord o w).latches = s.latches := rfl
@[simp] theorem State.setWord_stamps (s : State) (o : Nat) (w : Word) : (s.setWord o w).stamps = s.stamps := rfl
@[simp] theorem State.setWord_pace (s : State) (o : Nat) (w : Word) : (s.setWord o w).pace = s.pace := rfl
@[simp] theorem State.setWord_stg (s : State) (o : Nat) (w : Word) : (s.setWord o w).stg = s.stg := rfl
@[simp] theorem State.setWord_areas (s : State) (o : Nat) (w : Word) : (s.setWord o w).areas = s.areas := rfl
@[simp] theorem State.setWord_bank0 (s : State) (o : Nat) (w : Word) : (s.setWord o w).bank0 = s.bank0 := rfl
@[simp] theorem State.setWord_bank1 (s : State) (o : Nat) (w : Word) : (s.setWord o w).bank1 = s.bank1 := rfl
@[simp] theorem State.setWord_cfs (s : State) (o : Nat) (w : Word) : (s.setWord o w).cfs = s.cfs := rfl
@[simp] theorem State.setWord_sectors (s : State) (o : Nat) (w : Word) : (s.setWord o w).sectors = s.sectors := rfl
@[simp] theorem State.setWord_areaTab (s : State) (o : Nat) (w : Word) : (s.setWord o w).areaTab = s.areaTab := rfl
@[simp] theorem State.setWord_reserve (s : State) (o : Nat) (w : Word) : (s.setWord o w).reserve = s.reserve := rfl
@[simp] theorem State.setWord_records (s : State) (o : Nat) (w : Word) : (s.setWord o w).records = s.records := rfl
@[simp] theorem State.setWord_keys (s : State) (o : Nat) (w : Word) : (s.setWord o w).keys = s.keys := rfl
@[simp] theorem State.setWord_savedRegs (s : State) (o : Nat) (w : Word) : (s.setWord o w).savedRegs = s.savedRegs := rfl
@[simp] theorem State.setWord_sec (s : State) (o : Nat) (w : Word) : (s.setWord o w).sec = s.sec := rfl
@[simp] theorem State.setWord_hif (s : State) (o : Nat) (w : Word) : (s.setWord o w).hif = s.hif := rfl
@[simp] theorem State.setWord_fns (s : State) (o : Nat) (w : Word) : (s.setWord o w).fns = s.fns := rfl
@[simp] theorem State.setWord_q (s : State) (o : Nat) (w : Word) : (s.setWord o w).q = s.q := rfl
@[simp] theorem State.setWord_tx (s : State) (o : Nat) (w : Word) : (s.setWord o w).tx = s.tx := rfl
@[simp] theorem State.setWord_nss (s : State) (o : Nat) (w : Word) : (s.setWord o w).nss = s.nss := rfl
@[simp] theorem State.setWord_adm (s : State) (o : Nat) (w : Word) : (s.setWord o w).adm = s.adm := rfl
@[simp] theorem State.setWord_free (s : State) (o : Nat) (w : Word) : (s.setWord o w).free = s.free := rfl
@[simp] theorem State.setWord_map (s : State) (o : Nat) (w : Word) : (s.setWord o w).map = s.map := rfl
@[simp] theorem State.setWord_lif (s : State) (o : Nat) (w : Word) : (s.setWord o w).lif = s.lif := rfl
@[simp] theorem State.setWord_dump (s : State) (o : Nat) (w : Word) : (s.setWord o w).dump = s.dump := rfl
@[simp] theorem State.setWord_buf (s : State) (o : Nat) (w : Word) : (s.setWord o w).buf = s.buf := rfl
@[simp] theorem State.setWord_crs (s : State) (o : Nat) (w : Word) : (s.setWord o w).crs = s.crs := rfl
@[simp] theorem State.setWord_fl (s : State) (o : Nat) (w : Word) : (s.setWord o w).fl = s.fl := rfl
@[simp] theorem State.setWord_rd (s : State) (o : Nat) (w : Word) : (s.setWord o w).rd = s.rd := rfl
@[simp] theorem State.setWord_hbm (s : State) (o : Nat) (w : Word) : (s.setWord o w).hbm = s.hbm := rfl
@[simp] theorem State.setWord_sup (s : State) (o : Nat) (w : Word) : (s.setWord o w).sup = s.sup := rfl
@[simp] theorem State.setWord_pwr (s : State) (o : Nat) (w : Word) : (s.setWord o w).pwr = s.pwr := rfl
@[simp] theorem State.setWord_str (s : State) (o : Nat) (w : Word) : (s.setWord o w).str = s.str := rfl
@[simp] theorem State.setWord_fwu (s : State) (o : Nat) (w : Word) : (s.setWord o w).fwu = s.fwu := rfl
@[simp] theorem State.setWord_pins (s : State) (o : Nat) (w : Word) : (s.setWord o w).pins = s.pins := rfl

@[simp] theorem State.setFld_pending (s : State) (f : Fld) (v : Nat) : (s.setFld f v).pending = s.pending := rfl
@[simp] theorem State.setFld_clk (s : State) (f : Fld) (v : Nat) : (s.setFld f v).clk = s.clk := rfl
@[simp] theorem State.setFld_timers (s : State) (f : Fld) (v : Nat) : (s.setFld f v).timers = s.timers := rfl
@[simp] theorem State.setFld_latches (s : State) (f : Fld) (v : Nat) : (s.setFld f v).latches = s.latches := rfl
@[simp] theorem State.setFld_stamps (s : State) (f : Fld) (v : Nat) : (s.setFld f v).stamps = s.stamps := rfl
@[simp] theorem State.setFld_pace (s : State) (f : Fld) (v : Nat) : (s.setFld f v).pace = s.pace := rfl
@[simp] theorem State.setFld_stg (s : State) (f : Fld) (v : Nat) : (s.setFld f v).stg = s.stg := rfl
@[simp] theorem State.setFld_areas (s : State) (f : Fld) (v : Nat) : (s.setFld f v).areas = s.areas := rfl
@[simp] theorem State.setFld_bank0 (s : State) (f : Fld) (v : Nat) : (s.setFld f v).bank0 = s.bank0 := rfl
@[simp] theorem State.setFld_bank1 (s : State) (f : Fld) (v : Nat) : (s.setFld f v).bank1 = s.bank1 := rfl
@[simp] theorem State.setFld_cfs (s : State) (f : Fld) (v : Nat) : (s.setFld f v).cfs = s.cfs := rfl
@[simp] theorem State.setFld_sectors (s : State) (f : Fld) (v : Nat) : (s.setFld f v).sectors = s.sectors := rfl
@[simp] theorem State.setFld_areaTab (s : State) (f : Fld) (v : Nat) : (s.setFld f v).areaTab = s.areaTab := rfl
@[simp] theorem State.setFld_reserve (s : State) (f : Fld) (v : Nat) : (s.setFld f v).reserve = s.reserve := rfl
@[simp] theorem State.setFld_records (s : State) (f : Fld) (v : Nat) : (s.setFld f v).records = s.records := rfl
@[simp] theorem State.setFld_keys (s : State) (f : Fld) (v : Nat) : (s.setFld f v).keys = s.keys := rfl
@[simp] theorem State.setFld_savedRegs (s : State) (f : Fld) (v : Nat) : (s.setFld f v).savedRegs = s.savedRegs := rfl
@[simp] theorem State.setFld_sec (s : State) (f : Fld) (v : Nat) : (s.setFld f v).sec = s.sec := rfl
@[simp] theorem State.setFld_hif (s : State) (f : Fld) (v : Nat) : (s.setFld f v).hif = s.hif := rfl
@[simp] theorem State.setFld_fns (s : State) (f : Fld) (v : Nat) : (s.setFld f v).fns = s.fns := rfl
@[simp] theorem State.setFld_q (s : State) (f : Fld) (v : Nat) : (s.setFld f v).q = s.q := rfl
@[simp] theorem State.setFld_tx (s : State) (f : Fld) (v : Nat) : (s.setFld f v).tx = s.tx := rfl
@[simp] theorem State.setFld_nss (s : State) (f : Fld) (v : Nat) : (s.setFld f v).nss = s.nss := rfl
@[simp] theorem State.setFld_adm (s : State) (f : Fld) (v : Nat) : (s.setFld f v).adm = s.adm := rfl
@[simp] theorem State.setFld_free (s : State) (f : Fld) (v : Nat) : (s.setFld f v).free = s.free := rfl
@[simp] theorem State.setFld_map (s : State) (f : Fld) (v : Nat) : (s.setFld f v).map = s.map := rfl
@[simp] theorem State.setFld_lif (s : State) (f : Fld) (v : Nat) : (s.setFld f v).lif = s.lif := rfl
@[simp] theorem State.setFld_dump (s : State) (f : Fld) (v : Nat) : (s.setFld f v).dump = s.dump := rfl
@[simp] theorem State.setFld_buf (s : State) (f : Fld) (v : Nat) : (s.setFld f v).buf = s.buf := rfl
@[simp] theorem State.setFld_crs (s : State) (f : Fld) (v : Nat) : (s.setFld f v).crs = s.crs := rfl
@[simp] theorem State.setFld_fl (s : State) (f : Fld) (v : Nat) : (s.setFld f v).fl = s.fl := rfl
@[simp] theorem State.setFld_rd (s : State) (f : Fld) (v : Nat) : (s.setFld f v).rd = s.rd := rfl
@[simp] theorem State.setFld_hbm (s : State) (f : Fld) (v : Nat) : (s.setFld f v).hbm = s.hbm := rfl
@[simp] theorem State.setFld_sup (s : State) (f : Fld) (v : Nat) : (s.setFld f v).sup = s.sup := rfl
@[simp] theorem State.setFld_pwr (s : State) (f : Fld) (v : Nat) : (s.setFld f v).pwr = s.pwr := rfl
@[simp] theorem State.setFld_str (s : State) (f : Fld) (v : Nat) : (s.setFld f v).str = s.str := rfl
@[simp] theorem State.setFld_fwu (s : State) (f : Fld) (v : Nat) : (s.setFld f v).fwu = s.fwu := rfl
@[simp] theorem State.setFld_pins (s : State) (f : Fld) (v : Nat) : (s.setFld f v).pins = s.pins := rfl

@[simp] theorem State.cancel_pending (s : State) (id : TimerId) : (s.cancel id).pending = s.pending := rfl
@[simp] theorem State.cancel_clk (s : State) (id : TimerId) : (s.cancel id).clk = s.clk := rfl
@[simp] theorem State.cancel_regs (s : State) (id : TimerId) : (s.cancel id).regs = s.regs := rfl
@[simp] theorem State.cancel_latches (s : State) (id : TimerId) : (s.cancel id).latches = s.latches := rfl
@[simp] theorem State.cancel_stamps (s : State) (id : TimerId) : (s.cancel id).stamps = s.stamps := rfl
@[simp] theorem State.cancel_pace (s : State) (id : TimerId) : (s.cancel id).pace = s.pace := rfl
@[simp] theorem State.cancel_stg (s : State) (id : TimerId) : (s.cancel id).stg = s.stg := rfl
@[simp] theorem State.cancel_areas (s : State) (id : TimerId) : (s.cancel id).areas = s.areas := rfl
@[simp] theorem State.cancel_bank0 (s : State) (id : TimerId) : (s.cancel id).bank0 = s.bank0 := rfl
@[simp] theorem State.cancel_bank1 (s : State) (id : TimerId) : (s.cancel id).bank1 = s.bank1 := rfl
@[simp] theorem State.cancel_cfs (s : State) (id : TimerId) : (s.cancel id).cfs = s.cfs := rfl
@[simp] theorem State.cancel_sectors (s : State) (id : TimerId) : (s.cancel id).sectors = s.sectors := rfl
@[simp] theorem State.cancel_areaTab (s : State) (id : TimerId) : (s.cancel id).areaTab = s.areaTab := rfl
@[simp] theorem State.cancel_reserve (s : State) (id : TimerId) : (s.cancel id).reserve = s.reserve := rfl
@[simp] theorem State.cancel_records (s : State) (id : TimerId) : (s.cancel id).records = s.records := rfl
@[simp] theorem State.cancel_keys (s : State) (id : TimerId) : (s.cancel id).keys = s.keys := rfl
@[simp] theorem State.cancel_savedRegs (s : State) (id : TimerId) : (s.cancel id).savedRegs = s.savedRegs := rfl
@[simp] theorem State.cancel_sec (s : State) (id : TimerId) : (s.cancel id).sec = s.sec := rfl
@[simp] theorem State.cancel_hif (s : State) (id : TimerId) : (s.cancel id).hif = s.hif := rfl
@[simp] theorem State.cancel_fns (s : State) (id : TimerId) : (s.cancel id).fns = s.fns := rfl
@[simp] theorem State.cancel_q (s : State) (id : TimerId) : (s.cancel id).q = s.q := rfl
@[simp] theorem State.cancel_tx (s : State) (id : TimerId) : (s.cancel id).tx = s.tx := rfl
@[simp] theorem State.cancel_nss (s : State) (id : TimerId) : (s.cancel id).nss = s.nss := rfl
@[simp] theorem State.cancel_adm (s : State) (id : TimerId) : (s.cancel id).adm = s.adm := rfl
@[simp] theorem State.cancel_free (s : State) (id : TimerId) : (s.cancel id).free = s.free := rfl
@[simp] theorem State.cancel_map (s : State) (id : TimerId) : (s.cancel id).map = s.map := rfl
@[simp] theorem State.cancel_lif (s : State) (id : TimerId) : (s.cancel id).lif = s.lif := rfl
@[simp] theorem State.cancel_dump (s : State) (id : TimerId) : (s.cancel id).dump = s.dump := rfl
@[simp] theorem State.cancel_buf (s : State) (id : TimerId) : (s.cancel id).buf = s.buf := rfl
@[simp] theorem State.cancel_crs (s : State) (id : TimerId) : (s.cancel id).crs = s.crs := rfl
@[simp] theorem State.cancel_fl (s : State) (id : TimerId) : (s.cancel id).fl = s.fl := rfl
@[simp] theorem State.cancel_rd (s : State) (id : TimerId) : (s.cancel id).rd = s.rd := rfl
@[simp] theorem State.cancel_hbm (s : State) (id : TimerId) : (s.cancel id).hbm = s.hbm := rfl
@[simp] theorem State.cancel_sup (s : State) (id : TimerId) : (s.cancel id).sup = s.sup := rfl
@[simp] theorem State.cancel_pwr (s : State) (id : TimerId) : (s.cancel id).pwr = s.pwr := rfl
@[simp] theorem State.cancel_str (s : State) (id : TimerId) : (s.cancel id).str = s.str := rfl
@[simp] theorem State.cancel_fwu (s : State) (id : TimerId) : (s.cancel id).fwu = s.fwu := rfl
@[simp] theorem State.cancel_pins (s : State) (id : TimerId) : (s.cancel id).pins = s.pins := rfl

@[simp] theorem State.arm_pending (s : State) (id : TimerId) (n : Nat) : (s.arm id n).pending = s.pending := rfl
@[simp] theorem State.arm_clk (s : State) (id : TimerId) (n : Nat) : (s.arm id n).clk = s.clk := rfl
@[simp] theorem State.arm_regs (s : State) (id : TimerId) (n : Nat) : (s.arm id n).regs = s.regs := rfl
@[simp] theorem State.arm_latches (s : State) (id : TimerId) (n : Nat) : (s.arm id n).latches = s.latches := rfl
@[simp] theorem State.arm_stamps (s : State) (id : TimerId) (n : Nat) : (s.arm id n).stamps = s.stamps := rfl
@[simp] theorem State.arm_pace (s : State) (id : TimerId) (n : Nat) : (s.arm id n).pace = s.pace := rfl
@[simp] theorem State.arm_stg (s : State) (id : TimerId) (n : Nat) : (s.arm id n).stg = s.stg := rfl
@[simp] theorem State.arm_areas (s : State) (id : TimerId) (n : Nat) : (s.arm id n).areas = s.areas := rfl
@[simp] theorem State.arm_bank0 (s : State) (id : TimerId) (n : Nat) : (s.arm id n).bank0 = s.bank0 := rfl
@[simp] theorem State.arm_bank1 (s : State) (id : TimerId) (n : Nat) : (s.arm id n).bank1 = s.bank1 := rfl
@[simp] theorem State.arm_cfs (s : State) (id : TimerId) (n : Nat) : (s.arm id n).cfs = s.cfs := rfl
@[simp] theorem State.arm_sectors (s : State) (id : TimerId) (n : Nat) : (s.arm id n).sectors = s.sectors := rfl
@[simp] theorem State.arm_areaTab (s : State) (id : TimerId) (n : Nat) : (s.arm id n).areaTab = s.areaTab := rfl
@[simp] theorem State.arm_reserve (s : State) (id : TimerId) (n : Nat) : (s.arm id n).reserve = s.reserve := rfl
@[simp] theorem State.arm_records (s : State) (id : TimerId) (n : Nat) : (s.arm id n).records = s.records := rfl
@[simp] theorem State.arm_keys (s : State) (id : TimerId) (n : Nat) : (s.arm id n).keys = s.keys := rfl
@[simp] theorem State.arm_savedRegs (s : State) (id : TimerId) (n : Nat) : (s.arm id n).savedRegs = s.savedRegs := rfl
@[simp] theorem State.arm_sec (s : State) (id : TimerId) (n : Nat) : (s.arm id n).sec = s.sec := rfl
@[simp] theorem State.arm_hif (s : State) (id : TimerId) (n : Nat) : (s.arm id n).hif = s.hif := rfl
@[simp] theorem State.arm_fns (s : State) (id : TimerId) (n : Nat) : (s.arm id n).fns = s.fns := rfl
@[simp] theorem State.arm_q (s : State) (id : TimerId) (n : Nat) : (s.arm id n).q = s.q := rfl
@[simp] theorem State.arm_tx (s : State) (id : TimerId) (n : Nat) : (s.arm id n).tx = s.tx := rfl
@[simp] theorem State.arm_nss (s : State) (id : TimerId) (n : Nat) : (s.arm id n).nss = s.nss := rfl
@[simp] theorem State.arm_adm (s : State) (id : TimerId) (n : Nat) : (s.arm id n).adm = s.adm := rfl
@[simp] theorem State.arm_free (s : State) (id : TimerId) (n : Nat) : (s.arm id n).free = s.free := rfl
@[simp] theorem State.arm_map (s : State) (id : TimerId) (n : Nat) : (s.arm id n).map = s.map := rfl
@[simp] theorem State.arm_lif (s : State) (id : TimerId) (n : Nat) : (s.arm id n).lif = s.lif := rfl
@[simp] theorem State.arm_dump (s : State) (id : TimerId) (n : Nat) : (s.arm id n).dump = s.dump := rfl
@[simp] theorem State.arm_buf (s : State) (id : TimerId) (n : Nat) : (s.arm id n).buf = s.buf := rfl
@[simp] theorem State.arm_crs (s : State) (id : TimerId) (n : Nat) : (s.arm id n).crs = s.crs := rfl
@[simp] theorem State.arm_fl (s : State) (id : TimerId) (n : Nat) : (s.arm id n).fl = s.fl := rfl
@[simp] theorem State.arm_rd (s : State) (id : TimerId) (n : Nat) : (s.arm id n).rd = s.rd := rfl
@[simp] theorem State.arm_hbm (s : State) (id : TimerId) (n : Nat) : (s.arm id n).hbm = s.hbm := rfl
@[simp] theorem State.arm_sup (s : State) (id : TimerId) (n : Nat) : (s.arm id n).sup = s.sup := rfl
@[simp] theorem State.arm_pwr (s : State) (id : TimerId) (n : Nat) : (s.arm id n).pwr = s.pwr := rfl
@[simp] theorem State.arm_str (s : State) (id : TimerId) (n : Nat) : (s.arm id n).str = s.str := rfl
@[simp] theorem State.arm_fwu (s : State) (id : TimerId) (n : Nat) : (s.arm id n).fwu = s.fwu := rfl
@[simp] theorem State.arm_pins (s : State) (id : TimerId) (n : Nat) : (s.arm id n).pins = s.pins := rfl

@[simp] theorem State.stamp_pending (s : State) (o : Nat) : (s.stamp o).pending = s.pending := rfl
@[simp] theorem State.stamp_clk (s : State) (o : Nat) : (s.stamp o).clk = s.clk := rfl
@[simp] theorem State.stamp_timers (s : State) (o : Nat) : (s.stamp o).timers = s.timers := rfl
@[simp] theorem State.stamp_regs (s : State) (o : Nat) : (s.stamp o).regs = s.regs := rfl
@[simp] theorem State.stamp_latches (s : State) (o : Nat) : (s.stamp o).latches = s.latches := rfl
@[simp] theorem State.stamp_pace (s : State) (o : Nat) : (s.stamp o).pace = s.pace := rfl
@[simp] theorem State.stamp_stg (s : State) (o : Nat) : (s.stamp o).stg = s.stg := rfl
@[simp] theorem State.stamp_areas (s : State) (o : Nat) : (s.stamp o).areas = s.areas := rfl
@[simp] theorem State.stamp_bank0 (s : State) (o : Nat) : (s.stamp o).bank0 = s.bank0 := rfl
@[simp] theorem State.stamp_bank1 (s : State) (o : Nat) : (s.stamp o).bank1 = s.bank1 := rfl
@[simp] theorem State.stamp_cfs (s : State) (o : Nat) : (s.stamp o).cfs = s.cfs := rfl
@[simp] theorem State.stamp_sectors (s : State) (o : Nat) : (s.stamp o).sectors = s.sectors := rfl
@[simp] theorem State.stamp_areaTab (s : State) (o : Nat) : (s.stamp o).areaTab = s.areaTab := rfl
@[simp] theorem State.stamp_reserve (s : State) (o : Nat) : (s.stamp o).reserve = s.reserve := rfl
@[simp] theorem State.stamp_records (s : State) (o : Nat) : (s.stamp o).records = s.records := rfl
@[simp] theorem State.stamp_keys (s : State) (o : Nat) : (s.stamp o).keys = s.keys := rfl
@[simp] theorem State.stamp_savedRegs (s : State) (o : Nat) : (s.stamp o).savedRegs = s.savedRegs := rfl
@[simp] theorem State.stamp_sec (s : State) (o : Nat) : (s.stamp o).sec = s.sec := rfl
@[simp] theorem State.stamp_hif (s : State) (o : Nat) : (s.stamp o).hif = s.hif := rfl
@[simp] theorem State.stamp_fns (s : State) (o : Nat) : (s.stamp o).fns = s.fns := rfl
@[simp] theorem State.stamp_q (s : State) (o : Nat) : (s.stamp o).q = s.q := rfl
@[simp] theorem State.stamp_tx (s : State) (o : Nat) : (s.stamp o).tx = s.tx := rfl
@[simp] theorem State.stamp_nss (s : State) (o : Nat) : (s.stamp o).nss = s.nss := rfl
@[simp] theorem State.stamp_adm (s : State) (o : Nat) : (s.stamp o).adm = s.adm := rfl
@[simp] theorem State.stamp_free (s : State) (o : Nat) : (s.stamp o).free = s.free := rfl
@[simp] theorem State.stamp_map (s : State) (o : Nat) : (s.stamp o).map = s.map := rfl
@[simp] theorem State.stamp_lif (s : State) (o : Nat) : (s.stamp o).lif = s.lif := rfl
@[simp] theorem State.stamp_dump (s : State) (o : Nat) : (s.stamp o).dump = s.dump := rfl
@[simp] theorem State.stamp_buf (s : State) (o : Nat) : (s.stamp o).buf = s.buf := rfl
@[simp] theorem State.stamp_crs (s : State) (o : Nat) : (s.stamp o).crs = s.crs := rfl
@[simp] theorem State.stamp_fl (s : State) (o : Nat) : (s.stamp o).fl = s.fl := rfl
@[simp] theorem State.stamp_rd (s : State) (o : Nat) : (s.stamp o).rd = s.rd := rfl
@[simp] theorem State.stamp_hbm (s : State) (o : Nat) : (s.stamp o).hbm = s.hbm := rfl
@[simp] theorem State.stamp_sup (s : State) (o : Nat) : (s.stamp o).sup = s.sup := rfl
@[simp] theorem State.stamp_pwr (s : State) (o : Nat) : (s.stamp o).pwr = s.pwr := rfl
@[simp] theorem State.stamp_str (s : State) (o : Nat) : (s.stamp o).str = s.str := rfl
@[simp] theorem State.stamp_fwu (s : State) (o : Nat) : (s.stamp o).fwu = s.fwu := rfl
@[simp] theorem State.stamp_pins (s : State) (o : Nat) : (s.stamp o).pins = s.pins := rfl

@[simp] theorem State.send_pending (s : State) (m : Tx) : (s.send m).pending = s.pending := rfl
@[simp] theorem State.send_clk (s : State) (m : Tx) : (s.send m).clk = s.clk := rfl
@[simp] theorem State.send_timers (s : State) (m : Tx) : (s.send m).timers = s.timers := rfl
@[simp] theorem State.send_regs (s : State) (m : Tx) : (s.send m).regs = s.regs := rfl
@[simp] theorem State.send_latches (s : State) (m : Tx) : (s.send m).latches = s.latches := rfl
@[simp] theorem State.send_stamps (s : State) (m : Tx) : (s.send m).stamps = s.stamps := rfl
@[simp] theorem State.send_pace (s : State) (m : Tx) : (s.send m).pace = s.pace := rfl
@[simp] theorem State.send_stg (s : State) (m : Tx) : (s.send m).stg = s.stg := rfl
@[simp] theorem State.send_areas (s : State) (m : Tx) : (s.send m).areas = s.areas := rfl
@[simp] theorem State.send_bank0 (s : State) (m : Tx) : (s.send m).bank0 = s.bank0 := rfl
@[simp] theorem State.send_bank1 (s : State) (m : Tx) : (s.send m).bank1 = s.bank1 := rfl
@[simp] theorem State.send_cfs (s : State) (m : Tx) : (s.send m).cfs = s.cfs := rfl
@[simp] theorem State.send_sectors (s : State) (m : Tx) : (s.send m).sectors = s.sectors := rfl
@[simp] theorem State.send_areaTab (s : State) (m : Tx) : (s.send m).areaTab = s.areaTab := rfl
@[simp] theorem State.send_reserve (s : State) (m : Tx) : (s.send m).reserve = s.reserve := rfl
@[simp] theorem State.send_records (s : State) (m : Tx) : (s.send m).records = s.records := rfl
@[simp] theorem State.send_keys (s : State) (m : Tx) : (s.send m).keys = s.keys := rfl
@[simp] theorem State.send_savedRegs (s : State) (m : Tx) : (s.send m).savedRegs = s.savedRegs := rfl
@[simp] theorem State.send_sec (s : State) (m : Tx) : (s.send m).sec = s.sec := rfl
@[simp] theorem State.send_hif (s : State) (m : Tx) : (s.send m).hif = s.hif := rfl
@[simp] theorem State.send_fns (s : State) (m : Tx) : (s.send m).fns = s.fns := rfl
@[simp] theorem State.send_q (s : State) (m : Tx) : (s.send m).q = s.q := rfl
@[simp] theorem State.send_nss (s : State) (m : Tx) : (s.send m).nss = s.nss := rfl
@[simp] theorem State.send_adm (s : State) (m : Tx) : (s.send m).adm = s.adm := rfl
@[simp] theorem State.send_free (s : State) (m : Tx) : (s.send m).free = s.free := rfl
@[simp] theorem State.send_map (s : State) (m : Tx) : (s.send m).map = s.map := rfl
@[simp] theorem State.send_lif (s : State) (m : Tx) : (s.send m).lif = s.lif := rfl
@[simp] theorem State.send_dump (s : State) (m : Tx) : (s.send m).dump = s.dump := rfl
@[simp] theorem State.send_buf (s : State) (m : Tx) : (s.send m).buf = s.buf := rfl
@[simp] theorem State.send_crs (s : State) (m : Tx) : (s.send m).crs = s.crs := rfl
@[simp] theorem State.send_fl (s : State) (m : Tx) : (s.send m).fl = s.fl := rfl
@[simp] theorem State.send_rd (s : State) (m : Tx) : (s.send m).rd = s.rd := rfl
@[simp] theorem State.send_hbm (s : State) (m : Tx) : (s.send m).hbm = s.hbm := rfl
@[simp] theorem State.send_sup (s : State) (m : Tx) : (s.send m).sup = s.sup := rfl
@[simp] theorem State.send_pwr (s : State) (m : Tx) : (s.send m).pwr = s.pwr := rfl
@[simp] theorem State.send_str (s : State) (m : Tx) : (s.send m).str = s.str := rfl
@[simp] theorem State.send_fwu (s : State) (m : Tx) : (s.send m).fwu = s.fwu := rfl
@[simp] theorem State.send_pins (s : State) (m : Tx) : (s.send m).pins = s.pins := rfl

@[simp] theorem State.setFunc_pending (s : State) (i : Nat) (f : Func) : (s.setFunc i f).pending = s.pending := rfl
@[simp] theorem State.setFunc_clk (s : State) (i : Nat) (f : Func) : (s.setFunc i f).clk = s.clk := rfl
@[simp] theorem State.setFunc_timers (s : State) (i : Nat) (f : Func) : (s.setFunc i f).timers = s.timers := rfl
@[simp] theorem State.setFunc_regs (s : State) (i : Nat) (f : Func) : (s.setFunc i f).regs = s.regs := rfl
@[simp] theorem State.setFunc_latches (s : State) (i : Nat) (f : Func) : (s.setFunc i f).latches = s.latches := rfl
@[simp] theorem State.setFunc_stamps (s : State) (i : Nat) (f : Func) : (s.setFunc i f).stamps = s.stamps := rfl
@[simp] theorem State.setFunc_pace (s : State) (i : Nat) (f : Func) : (s.setFunc i f).pace = s.pace := rfl
@[simp] theorem State.setFunc_stg (s : State) (i : Nat) (f : Func) : (s.setFunc i f).stg = s.stg := rfl
@[simp] theorem State.setFunc_areas (s : State) (i : Nat) (f : Func) : (s.setFunc i f).areas = s.areas := rfl
@[simp] theorem State.setFunc_bank0 (s : State) (i : Nat) (f : Func) : (s.setFunc i f).bank0 = s.bank0 := rfl
@[simp] theorem State.setFunc_bank1 (s : State) (i : Nat) (f : Func) : (s.setFunc i f).bank1 = s.bank1 := rfl
@[simp] theorem State.setFunc_cfs (s : State) (i : Nat) (f : Func) : (s.setFunc i f).cfs = s.cfs := rfl
@[simp] theorem State.setFunc_sectors (s : State) (i : Nat) (f : Func) : (s.setFunc i f).sectors = s.sectors := rfl
@[simp] theorem State.setFunc_areaTab (s : State) (i : Nat) (f : Func) : (s.setFunc i f).areaTab = s.areaTab := rfl
@[simp] theorem State.setFunc_reserve (s : State) (i : Nat) (f : Func) : (s.setFunc i f).reserve = s.reserve := rfl
@[simp] theorem State.setFunc_records (s : State) (i : Nat) (f : Func) : (s.setFunc i f).records = s.records := rfl
@[simp] theorem State.setFunc_keys (s : State) (i : Nat) (f : Func) : (s.setFunc i f).keys = s.keys := rfl
@[simp] theorem State.setFunc_savedRegs (s : State) (i : Nat) (f : Func) : (s.setFunc i f).savedRegs = s.savedRegs := rfl
@[simp] theorem State.setFunc_sec (s : State) (i : Nat) (f : Func) : (s.setFunc i f).sec = s.sec := rfl
@[simp] theorem State.setFunc_hif (s : State) (i : Nat) (f : Func) : (s.setFunc i f).hif = s.hif := rfl
@[simp] theorem State.setFunc_q (s : State) (i : Nat) (f : Func) : (s.setFunc i f).q = s.q := rfl
@[simp] theorem State.setFunc_tx (s : State) (i : Nat) (f : Func) : (s.setFunc i f).tx = s.tx := rfl
@[simp] theorem State.setFunc_nss (s : State) (i : Nat) (f : Func) : (s.setFunc i f).nss = s.nss := rfl
@[simp] theorem State.setFunc_adm (s : State) (i : Nat) (f : Func) : (s.setFunc i f).adm = s.adm := rfl
@[simp] theorem State.setFunc_free (s : State) (i : Nat) (f : Func) : (s.setFunc i f).free = s.free := rfl
@[simp] theorem State.setFunc_map (s : State) (i : Nat) (f : Func) : (s.setFunc i f).map = s.map := rfl
@[simp] theorem State.setFunc_lif (s : State) (i : Nat) (f : Func) : (s.setFunc i f).lif = s.lif := rfl
@[simp] theorem State.setFunc_dump (s : State) (i : Nat) (f : Func) : (s.setFunc i f).dump = s.dump := rfl
@[simp] theorem State.setFunc_buf (s : State) (i : Nat) (f : Func) : (s.setFunc i f).buf = s.buf := rfl
@[simp] theorem State.setFunc_crs (s : State) (i : Nat) (f : Func) : (s.setFunc i f).crs = s.crs := rfl
@[simp] theorem State.setFunc_fl (s : State) (i : Nat) (f : Func) : (s.setFunc i f).fl = s.fl := rfl
@[simp] theorem State.setFunc_rd (s : State) (i : Nat) (f : Func) : (s.setFunc i f).rd = s.rd := rfl
@[simp] theorem State.setFunc_hbm (s : State) (i : Nat) (f : Func) : (s.setFunc i f).hbm = s.hbm := rfl
@[simp] theorem State.setFunc_sup (s : State) (i : Nat) (f : Func) : (s.setFunc i f).sup = s.sup := rfl
@[simp] theorem State.setFunc_pwr (s : State) (i : Nat) (f : Func) : (s.setFunc i f).pwr = s.pwr := rfl
@[simp] theorem State.setFunc_str (s : State) (i : Nat) (f : Func) : (s.setFunc i f).str = s.str := rfl
@[simp] theorem State.setFunc_fwu (s : State) (i : Nat) (f : Func) : (s.setFunc i f).fwu = s.fwu := rfl
@[simp] theorem State.setFunc_pins (s : State) (i : Nat) (f : Func) : (s.setFunc i f).pins = s.pins := rfl

@[simp] theorem State.cfsPut_pending (s : State) (j : CfsJob) : (s.cfsPut j).pending = s.pending := rfl
@[simp] theorem State.cfsPut_clk (s : State) (j : CfsJob) : (s.cfsPut j).clk = s.clk := rfl
@[simp] theorem State.cfsPut_timers (s : State) (j : CfsJob) : (s.cfsPut j).timers = s.timers := rfl
@[simp] theorem State.cfsPut_regs (s : State) (j : CfsJob) : (s.cfsPut j).regs = s.regs := rfl
@[simp] theorem State.cfsPut_latches (s : State) (j : CfsJob) : (s.cfsPut j).latches = s.latches := rfl
@[simp] theorem State.cfsPut_stamps (s : State) (j : CfsJob) : (s.cfsPut j).stamps = s.stamps := rfl
@[simp] theorem State.cfsPut_pace (s : State) (j : CfsJob) : (s.cfsPut j).pace = s.pace := rfl
@[simp] theorem State.cfsPut_stg (s : State) (j : CfsJob) : (s.cfsPut j).stg = s.stg := rfl
@[simp] theorem State.cfsPut_areas (s : State) (j : CfsJob) : (s.cfsPut j).areas = s.areas := rfl
@[simp] theorem State.cfsPut_bank0 (s : State) (j : CfsJob) : (s.cfsPut j).bank0 = s.bank0 := rfl
@[simp] theorem State.cfsPut_bank1 (s : State) (j : CfsJob) : (s.cfsPut j).bank1 = s.bank1 := rfl
@[simp] theorem State.cfsPut_sectors (s : State) (j : CfsJob) : (s.cfsPut j).sectors = s.sectors := rfl
@[simp] theorem State.cfsPut_areaTab (s : State) (j : CfsJob) : (s.cfsPut j).areaTab = s.areaTab := rfl
@[simp] theorem State.cfsPut_reserve (s : State) (j : CfsJob) : (s.cfsPut j).reserve = s.reserve := rfl
@[simp] theorem State.cfsPut_records (s : State) (j : CfsJob) : (s.cfsPut j).records = s.records := rfl
@[simp] theorem State.cfsPut_keys (s : State) (j : CfsJob) : (s.cfsPut j).keys = s.keys := rfl
@[simp] theorem State.cfsPut_savedRegs (s : State) (j : CfsJob) : (s.cfsPut j).savedRegs = s.savedRegs := rfl
@[simp] theorem State.cfsPut_sec (s : State) (j : CfsJob) : (s.cfsPut j).sec = s.sec := rfl
@[simp] theorem State.cfsPut_hif (s : State) (j : CfsJob) : (s.cfsPut j).hif = s.hif := rfl
@[simp] theorem State.cfsPut_fns (s : State) (j : CfsJob) : (s.cfsPut j).fns = s.fns := rfl
@[simp] theorem State.cfsPut_q (s : State) (j : CfsJob) : (s.cfsPut j).q = s.q := rfl
@[simp] theorem State.cfsPut_tx (s : State) (j : CfsJob) : (s.cfsPut j).tx = s.tx := rfl
@[simp] theorem State.cfsPut_nss (s : State) (j : CfsJob) : (s.cfsPut j).nss = s.nss := rfl
@[simp] theorem State.cfsPut_adm (s : State) (j : CfsJob) : (s.cfsPut j).adm = s.adm := rfl
@[simp] theorem State.cfsPut_free (s : State) (j : CfsJob) : (s.cfsPut j).free = s.free := rfl
@[simp] theorem State.cfsPut_map (s : State) (j : CfsJob) : (s.cfsPut j).map = s.map := rfl
@[simp] theorem State.cfsPut_lif (s : State) (j : CfsJob) : (s.cfsPut j).lif = s.lif := rfl
@[simp] theorem State.cfsPut_dump (s : State) (j : CfsJob) : (s.cfsPut j).dump = s.dump := rfl
@[simp] theorem State.cfsPut_buf (s : State) (j : CfsJob) : (s.cfsPut j).buf = s.buf := rfl
@[simp] theorem State.cfsPut_crs (s : State) (j : CfsJob) : (s.cfsPut j).crs = s.crs := rfl
@[simp] theorem State.cfsPut_fl (s : State) (j : CfsJob) : (s.cfsPut j).fl = s.fl := rfl
@[simp] theorem State.cfsPut_rd (s : State) (j : CfsJob) : (s.cfsPut j).rd = s.rd := rfl
@[simp] theorem State.cfsPut_hbm (s : State) (j : CfsJob) : (s.cfsPut j).hbm = s.hbm := rfl
@[simp] theorem State.cfsPut_sup (s : State) (j : CfsJob) : (s.cfsPut j).sup = s.sup := rfl
@[simp] theorem State.cfsPut_pwr (s : State) (j : CfsJob) : (s.cfsPut j).pwr = s.pwr := rfl
@[simp] theorem State.cfsPut_str (s : State) (j : CfsJob) : (s.cfsPut j).str = s.str := rfl
@[simp] theorem State.cfsPut_fwu (s : State) (j : CfsJob) : (s.cfsPut j).fwu = s.fwu := rfl
@[simp] theorem State.cfsPut_pins (s : State) (j : CfsJob) : (s.cfsPut j).pins = s.pins := rfl

@[simp] theorem State.updCmd_pending (s : State) (c : Nat) (g : Cmd → Cmd) : (s.updCmd c g).pending = s.pending := rfl
@[simp] theorem State.updCmd_clk (s : State) (c : Nat) (g : Cmd → Cmd) : (s.updCmd c g).clk = s.clk := rfl
@[simp] theorem State.updCmd_timers (s : State) (c : Nat) (g : Cmd → Cmd) : (s.updCmd c g).timers = s.timers := rfl
@[simp] theorem State.updCmd_regs (s : State) (c : Nat) (g : Cmd → Cmd) : (s.updCmd c g).regs = s.regs := rfl
@[simp] theorem State.updCmd_latches (s : State) (c : Nat) (g : Cmd → Cmd) : (s.updCmd c g).latches = s.latches := rfl
@[simp] theorem State.updCmd_stamps (s : State) (c : Nat) (g : Cmd → Cmd) : (s.updCmd c g).stamps = s.stamps := rfl
@[simp] theorem State.updCmd_pace (s : State) (c : Nat) (g : Cmd → Cmd) : (s.updCmd c g).pace = s.pace := rfl
@[simp] theorem State.updCmd_stg (s : State) (c : Nat) (g : Cmd → Cmd) : (s.updCmd c g).stg = s.stg := rfl
@[simp] theorem State.updCmd_areas (s : State) (c : Nat) (g : Cmd → Cmd) : (s.updCmd c g).areas = s.areas := rfl
@[simp] theorem State.updCmd_bank0 (s : State) (c : Nat) (g : Cmd → Cmd) : (s.updCmd c g).bank0 = s.bank0 := rfl
@[simp] theorem State.updCmd_bank1 (s : State) (c : Nat) (g : Cmd → Cmd) : (s.updCmd c g).bank1 = s.bank1 := rfl
@[simp] theorem State.updCmd_cfs (s : State) (c : Nat) (g : Cmd → Cmd) : (s.updCmd c g).cfs = s.cfs := rfl
@[simp] theorem State.updCmd_sectors (s : State) (c : Nat) (g : Cmd → Cmd) : (s.updCmd c g).sectors = s.sectors := rfl
@[simp] theorem State.updCmd_areaTab (s : State) (c : Nat) (g : Cmd → Cmd) : (s.updCmd c g).areaTab = s.areaTab := rfl
@[simp] theorem State.updCmd_reserve (s : State) (c : Nat) (g : Cmd → Cmd) : (s.updCmd c g).reserve = s.reserve := rfl
@[simp] theorem State.updCmd_records (s : State) (c : Nat) (g : Cmd → Cmd) : (s.updCmd c g).records = s.records := rfl
@[simp] theorem State.updCmd_keys (s : State) (c : Nat) (g : Cmd → Cmd) : (s.updCmd c g).keys = s.keys := rfl
@[simp] theorem State.updCmd_savedRegs (s : State) (c : Nat) (g : Cmd → Cmd) : (s.updCmd c g).savedRegs = s.savedRegs := rfl
@[simp] theorem State.updCmd_sec (s : State) (c : Nat) (g : Cmd → Cmd) : (s.updCmd c g).sec = s.sec := rfl
@[simp] theorem State.updCmd_hif (s : State) (c : Nat) (g : Cmd → Cmd) : (s.updCmd c g).hif = s.hif := rfl
@[simp] theorem State.updCmd_fns (s : State) (c : Nat) (g : Cmd → Cmd) : (s.updCmd c g).fns = s.fns := rfl
@[simp] theorem State.updCmd_tx (s : State) (c : Nat) (g : Cmd → Cmd) : (s.updCmd c g).tx = s.tx := rfl
@[simp] theorem State.updCmd_nss (s : State) (c : Nat) (g : Cmd → Cmd) : (s.updCmd c g).nss = s.nss := rfl
@[simp] theorem State.updCmd_adm (s : State) (c : Nat) (g : Cmd → Cmd) : (s.updCmd c g).adm = s.adm := rfl
@[simp] theorem State.updCmd_free (s : State) (c : Nat) (g : Cmd → Cmd) : (s.updCmd c g).free = s.free := rfl
@[simp] theorem State.updCmd_map (s : State) (c : Nat) (g : Cmd → Cmd) : (s.updCmd c g).map = s.map := rfl
@[simp] theorem State.updCmd_lif (s : State) (c : Nat) (g : Cmd → Cmd) : (s.updCmd c g).lif = s.lif := rfl
@[simp] theorem State.updCmd_dump (s : State) (c : Nat) (g : Cmd → Cmd) : (s.updCmd c g).dump = s.dump := rfl
@[simp] theorem State.updCmd_buf (s : State) (c : Nat) (g : Cmd → Cmd) : (s.updCmd c g).buf = s.buf := rfl
@[simp] theorem State.updCmd_crs (s : State) (c : Nat) (g : Cmd → Cmd) : (s.updCmd c g).crs = s.crs := rfl
@[simp] theorem State.updCmd_fl (s : State) (c : Nat) (g : Cmd → Cmd) : (s.updCmd c g).fl = s.fl := rfl
@[simp] theorem State.updCmd_rd (s : State) (c : Nat) (g : Cmd → Cmd) : (s.updCmd c g).rd = s.rd := rfl
@[simp] theorem State.updCmd_hbm (s : State) (c : Nat) (g : Cmd → Cmd) : (s.updCmd c g).hbm = s.hbm := rfl
@[simp] theorem State.updCmd_sup (s : State) (c : Nat) (g : Cmd → Cmd) : (s.updCmd c g).sup = s.sup := rfl
@[simp] theorem State.updCmd_pwr (s : State) (c : Nat) (g : Cmd → Cmd) : (s.updCmd c g).pwr = s.pwr := rfl
@[simp] theorem State.updCmd_str (s : State) (c : Nat) (g : Cmd → Cmd) : (s.updCmd c g).str = s.str := rfl
@[simp] theorem State.updCmd_fwu (s : State) (c : Nat) (g : Cmd → Cmd) : (s.updCmd c g).fwu = s.fwu := rfl
@[simp] theorem State.updCmd_pins (s : State) (c : Nat) (g : Cmd → Cmd) : (s.updCmd c g).pins = s.pins := rfl

@[simp] theorem State.unlock_pending (s : State) (c : Nat) : (s.unlock c).pending = s.pending := rfl
@[simp] theorem State.unlock_clk (s : State) (c : Nat) : (s.unlock c).clk = s.clk := rfl
@[simp] theorem State.unlock_timers (s : State) (c : Nat) : (s.unlock c).timers = s.timers := rfl
@[simp] theorem State.unlock_regs (s : State) (c : Nat) : (s.unlock c).regs = s.regs := rfl
@[simp] theorem State.unlock_latches (s : State) (c : Nat) : (s.unlock c).latches = s.latches := rfl
@[simp] theorem State.unlock_stamps (s : State) (c : Nat) : (s.unlock c).stamps = s.stamps := rfl
@[simp] theorem State.unlock_pace (s : State) (c : Nat) : (s.unlock c).pace = s.pace := rfl
@[simp] theorem State.unlock_stg (s : State) (c : Nat) : (s.unlock c).stg = s.stg := rfl
@[simp] theorem State.unlock_areas (s : State) (c : Nat) : (s.unlock c).areas = s.areas := rfl
@[simp] theorem State.unlock_bank0 (s : State) (c : Nat) : (s.unlock c).bank0 = s.bank0 := rfl
@[simp] theorem State.unlock_bank1 (s : State) (c : Nat) : (s.unlock c).bank1 = s.bank1 := rfl
@[simp] theorem State.unlock_cfs (s : State) (c : Nat) : (s.unlock c).cfs = s.cfs := rfl
@[simp] theorem State.unlock_sectors (s : State) (c : Nat) : (s.unlock c).sectors = s.sectors := rfl
@[simp] theorem State.unlock_areaTab (s : State) (c : Nat) : (s.unlock c).areaTab = s.areaTab := rfl
@[simp] theorem State.unlock_reserve (s : State) (c : Nat) : (s.unlock c).reserve = s.reserve := rfl
@[simp] theorem State.unlock_records (s : State) (c : Nat) : (s.unlock c).records = s.records := rfl
@[simp] theorem State.unlock_keys (s : State) (c : Nat) : (s.unlock c).keys = s.keys := rfl
@[simp] theorem State.unlock_savedRegs (s : State) (c : Nat) : (s.unlock c).savedRegs = s.savedRegs := rfl
@[simp] theorem State.unlock_sec (s : State) (c : Nat) : (s.unlock c).sec = s.sec := rfl
@[simp] theorem State.unlock_hif (s : State) (c : Nat) : (s.unlock c).hif = s.hif := rfl
@[simp] theorem State.unlock_fns (s : State) (c : Nat) : (s.unlock c).fns = s.fns := rfl
@[simp] theorem State.unlock_tx (s : State) (c : Nat) : (s.unlock c).tx = s.tx := rfl
@[simp] theorem State.unlock_nss (s : State) (c : Nat) : (s.unlock c).nss = s.nss := rfl
@[simp] theorem State.unlock_adm (s : State) (c : Nat) : (s.unlock c).adm = s.adm := rfl
@[simp] theorem State.unlock_free (s : State) (c : Nat) : (s.unlock c).free = s.free := rfl
@[simp] theorem State.unlock_map (s : State) (c : Nat) : (s.unlock c).map = s.map := rfl
@[simp] theorem State.unlock_lif (s : State) (c : Nat) : (s.unlock c).lif = s.lif := rfl
@[simp] theorem State.unlock_dump (s : State) (c : Nat) : (s.unlock c).dump = s.dump := rfl
@[simp] theorem State.unlock_buf (s : State) (c : Nat) : (s.unlock c).buf = s.buf := rfl
@[simp] theorem State.unlock_crs (s : State) (c : Nat) : (s.unlock c).crs = s.crs := rfl
@[simp] theorem State.unlock_fl (s : State) (c : Nat) : (s.unlock c).fl = s.fl := rfl
@[simp] theorem State.unlock_rd (s : State) (c : Nat) : (s.unlock c).rd = s.rd := rfl
@[simp] theorem State.unlock_hbm (s : State) (c : Nat) : (s.unlock c).hbm = s.hbm := rfl
@[simp] theorem State.unlock_sup (s : State) (c : Nat) : (s.unlock c).sup = s.sup := rfl
@[simp] theorem State.unlock_pwr (s : State) (c : Nat) : (s.unlock c).pwr = s.pwr := rfl
@[simp] theorem State.unlock_str (s : State) (c : Nat) : (s.unlock c).str = s.str := rfl
@[simp] theorem State.unlock_fwu (s : State) (c : Nat) : (s.unlock c).fwu = s.fwu := rfl
@[simp] theorem State.unlock_pins (s : State) (c : Nat) : (s.unlock c).pins = s.pins := rfl

/-! Registers, functions, command slots and timers where the update writes none of them. -/

@[simp] theorem State.func_setWord (s : State) (o : Nat) (w : Word) (k : Nat) : (s.setWord o w).func k = s.func k := rfl
@[simp] theorem State.cmd_setWord (s : State) (o : Nat) (w : Word) (k : Nat) : (s.setWord o w).cmd k = s.cmd k := rfl
@[simp] theorem State.armed_setWord (s : State) (o : Nat) (w : Word) (k : TimerId) : (s.setWord o w).armed k = s.armed k := rfl
@[simp] theorem State.func_setFld (s : State) (f : Fld) (v : Nat) (k : Nat) : (s.setFld f v).func k = s.func k := rfl
@[simp] theorem State.cmd_setFld (s : State) (f : Fld) (v : Nat) (k : Nat) : (s.setFld f v).cmd k = s.cmd k := rfl
@[simp] theorem State.armed_setFld (s : State) (f : Fld) (v : Nat) (k : TimerId) : (s.setFld f v).armed k = s.armed k := rfl
@[simp] theorem State.fld_cancel (s : State) (id : TimerId) (x : Fld) : (s.cancel id).fld x = s.fld x := rfl
@[simp] theorem State.word_cancel (s : State) (id : TimerId) (p : Nat) : (s.cancel id).word p = s.word p := rfl
@[simp] theorem State.func_cancel (s : State) (id : TimerId) (k : Nat) : (s.cancel id).func k = s.func k := rfl
@[simp] theorem State.cmd_cancel (s : State) (id : TimerId) (k : Nat) : (s.cancel id).cmd k = s.cmd k := rfl
@[simp] theorem State.fld_arm (s : State) (id : TimerId) (n : Nat) (x : Fld) : (s.arm id n).fld x = s.fld x := rfl
@[simp] theorem State.word_arm (s : State) (id : TimerId) (n : Nat) (p : Nat) : (s.arm id n).word p = s.word p := rfl
@[simp] theorem State.func_arm (s : State) (id : TimerId) (n : Nat) (k : Nat) : (s.arm id n).func k = s.func k := rfl
@[simp] theorem State.cmd_arm (s : State) (id : TimerId) (n : Nat) (k : Nat) : (s.arm id n).cmd k = s.cmd k := rfl
@[simp] theorem State.fld_stamp (s : State) (o : Nat) (x : Fld) : (s.stamp o).fld x = s.fld x := rfl
@[simp] theorem State.word_stamp (s : State) (o : Nat) (p : Nat) : (s.stamp o).word p = s.word p := rfl
@[simp] theorem State.func_stamp (s : State) (o : Nat) (k : Nat) : (s.stamp o).func k = s.func k := rfl
@[simp] theorem State.cmd_stamp (s : State) (o : Nat) (k : Nat) : (s.stamp o).cmd k = s.cmd k := rfl
@[simp] theorem State.armed_stamp (s : State) (o : Nat) (k : TimerId) : (s.stamp o).armed k = s.armed k := rfl
@[simp] theorem State.fld_send (s : State) (m : Tx) (x : Fld) : (s.send m).fld x = s.fld x := rfl
@[simp] theorem State.word_send (s : State) (m : Tx) (p : Nat) : (s.send m).word p = s.word p := rfl
@[simp] theorem State.func_send (s : State) (m : Tx) (k : Nat) : (s.send m).func k = s.func k := rfl
@[simp] theorem State.cmd_send (s : State) (m : Tx) (k : Nat) : (s.send m).cmd k = s.cmd k := rfl
@[simp] theorem State.armed_send (s : State) (m : Tx) (k : TimerId) : (s.send m).armed k = s.armed k := rfl
@[simp] theorem State.fld_setFunc (s : State) (i : Nat) (f : Func) (x : Fld) : (s.setFunc i f).fld x = s.fld x := rfl
@[simp] theorem State.word_setFunc (s : State) (i : Nat) (f : Func) (p : Nat) : (s.setFunc i f).word p = s.word p := rfl
@[simp] theorem State.cmd_setFunc (s : State) (i : Nat) (f : Func) (k : Nat) : (s.setFunc i f).cmd k = s.cmd k := rfl
@[simp] theorem State.armed_setFunc (s : State) (i : Nat) (f : Func) (k : TimerId) : (s.setFunc i f).armed k = s.armed k := rfl
@[simp] theorem State.fld_cfsPut (s : State) (j : CfsJob) (x : Fld) : (s.cfsPut j).fld x = s.fld x := rfl
@[simp] theorem State.word_cfsPut (s : State) (j : CfsJob) (p : Nat) : (s.cfsPut j).word p = s.word p := rfl
@[simp] theorem State.func_cfsPut (s : State) (j : CfsJob) (k : Nat) : (s.cfsPut j).func k = s.func k := rfl
@[simp] theorem State.cmd_cfsPut (s : State) (j : CfsJob) (k : Nat) : (s.cfsPut j).cmd k = s.cmd k := rfl
@[simp] theorem State.armed_cfsPut (s : State) (j : CfsJob) (k : TimerId) : (s.cfsPut j).armed k = s.armed k := rfl
@[simp] theorem State.fld_updCmd (s : State) (c : Nat) (g : Cmd → Cmd) (x : Fld) : (s.updCmd c g).fld x = s.fld x := rfl
@[simp] theorem State.word_updCmd (s : State) (c : Nat) (g : Cmd → Cmd) (p : Nat) : (s.updCmd c g).word p = s.word p := rfl
@[simp] theorem State.func_updCmd (s : State) (c : Nat) (g : Cmd → Cmd) (k : Nat) : (s.updCmd c g).func k = s.func k := rfl
@[simp] theorem State.armed_updCmd (s : State) (c : Nat) (g : Cmd → Cmd) (k : TimerId) : (s.updCmd c g).armed k = s.armed k := rfl
@[simp] theorem State.fld_unlock (s : State) (c : Nat) (x : Fld) : (s.unlock c).fld x = s.fld x := rfl
@[simp] theorem State.word_unlock (s : State) (c : Nat) (p : Nat) : (s.unlock c).word p = s.word p := rfl
@[simp] theorem State.func_unlock (s : State) (c : Nat) (k : Nat) : (s.unlock c).func k = s.func k := rfl
@[simp] theorem State.armed_unlock (s : State) (c : Nat) (k : TimerId) : (s.unlock c).armed k = s.armed k := rfl

/-! The fields the plain updates write. -/

@[simp] theorem State.send_tx (s : State) (m : Tx) : (s.send m).tx = m :: s.tx := rfl
@[simp] theorem State.cancel_timers (s : State) (id : TimerId) : (s.cancel id).timers = s.timers.filter (fun t => t.id ≠ id) := rfl
@[simp] theorem State.arm_timers (s : State) (id : TimerId) (n : Nat) :
    (s.arm id n).timers = (s.timers.filter (fun t => t.id ≠ id)) ++ [⟨id, s.clk.mono + n⟩] := rfl
@[simp] theorem State.stamp_stamps (s : State) (o : Nat) : (s.stamp o).stamps = Tab.put o s.clk.mono s.stamps := rfl
@[simp] theorem State.draw_fst (s : State) : s.draw.1 = Config.freeNat s.free := rfl
@[simp] theorem State.draw_snd (s : State) : s.draw.2 = { s with free := s.free + 1 } := rfl

end Sys2Proof.Machine
end

