-- ==== Sys2Proof/Laws/Tab.lean ====
section
/-! SUPPORT. Laws of the sparse tables: reading after writing, and the canonical form. -/

namespace Sys2Proof.Machine

theorem Sparse.get_put_self {α : Type} (d : Nat → α) (k : Nat) (v : α) (t : List (Nat × α)) :
    Sparse.get d k (Tab.put k v t) = v := by
  induction t with
  | nil => simp [Tab.put, Sparse.get]
  | cons p r ih =>
    obtain ⟨j, w⟩ := p
    simp only [Tab.put]
    split
    · simp [Sparse.get]
    · split
      · simp [Sparse.get]
      · simp [Sparse.get, *]

theorem Sparse.get_put_ne {α : Type} (d : Nat → α) (k j : Nat) (v : α) (t : List (Nat × α)) (h : j ≠ k) :
    Sparse.get d j (Tab.put k v t) = Sparse.get d j t := by
  induction t with
  | nil => simp [Tab.put, Sparse.get, Ne.symm h]
  | cons p r ih =>
    obtain ⟨i, w⟩ := p
    simp only [Tab.put]
    split
    · simp [Sparse.get, Ne.symm h]
    · split
      · subst i; simp [Sparse.get, Ne.symm h]
      · simp [Sparse.get, ih]

theorem Sparse.get_del_self {α : Type} (d : Nat → α) (k : Nat) (t : List (Nat × α)) :
    Sparse.get d k (t.filter (fun p => decide (p.1 ≠ k))) = d k := by
  induction t with
  | nil => rfl
  | cons p r ih =>
    obtain ⟨j, w⟩ := p
    by_cases h : j = k <;> simp_all [Sparse.get]

theorem Sparse.get_del_ne {α : Type} (d : Nat → α) (k j : Nat) (t : List (Nat × α)) (h : j ≠ k) :
    Sparse.get d j (t.filter (fun p => decide (p.1 ≠ k))) = Sparse.get d j t := by
  induction t with
  | nil => rfl
  | cons p r ih =>
    obtain ⟨i, w⟩ := p
    by_cases hi : i = k
    · subst i; simp_all [Sparse.get, Ne.symm h]
    · simp_all [Sparse.get]

/-- A write of what the key reads as unlisted drops its entry; another one puts it. -/
theorem Sparse.set_eq {α : Type} [DecidableEq α] (d : Nat → α) (k : Nat) (v : α) (t : List (Nat × α)) :
    Sparse.set d k v t = if v = d k then (Tab.put k v t).filter (fun p => decide (p.1 ≠ k)) else Tab.put k v t := by
  unfold Sparse.set
  split <;> simp_all

/-- Reading what was written at a key of a sparse store. -/
@[simp] theorem Sparse.get_set_self {α : Type} [DecidableEq α] (d : Nat → α) (k : Nat) (v : α) (t : List (Nat × α)) :
    Sparse.get d k (Sparse.set d k v t) = v := by
  rw [Sparse.set_eq]
  split
  · rename_i h; rw [Sparse.get_del_self, h]
  · exact Sparse.get_put_self d k v t

/-- A write leaves every other key as it was. -/
theorem Sparse.get_set_ne {α : Type} [DecidableEq α] (d : Nat → α) (k j : Nat) (v : α) (t : List (Nat × α)) (h : j ≠ k) :
    Sparse.get d j (Sparse.set d k v t) = Sparse.get d j t := by
  rw [Sparse.set_eq]
  split
  · rw [Sparse.get_del_ne d k j _ h]; exact Sparse.get_put_ne d k j v t h
  · exact Sparse.get_put_ne d k j v t h

@[simp] theorem Tab.find_put_self {α : Type} (k : Nat) (v : α) (t : List (Nat × α)) : Tab.find k (Tab.put k v t) = some v := by
  induction t with
  | nil => simp [Tab.put, Tab.find]
  | cons p r ih =>
    obtain ⟨j, w⟩ := p
    simp only [Tab.put]
    split
    · simp [Tab.find]
    · split
      · simp [Tab.find]
      · simp [Tab.find, *]

theorem Tab.find_put_ne {α : Type} (k j : Nat) (v : α) (t : List (Nat × α)) (h : j ≠ k) :
    Tab.find j (Tab.put k v t) = Tab.find j t := by
  induction t with
  | nil => simp [Tab.put, Tab.find, Ne.symm h]
  | cons p r ih =>
    obtain ⟨i, w⟩ := p
    simp only [Tab.put]
    split
    · simp [Tab.find, Ne.symm h]
    · split
      · subst i; simp [Tab.find, Ne.symm h]
      · simp [Tab.find, ih]

@[simp] theorem Tab.find_del_self {α : Type} (k : Nat) (t : List (Nat × α)) : Tab.find k (Tab.del k t) = none := by
  induction t with
  | nil => rfl
  | cons p r ih =>
    obtain ⟨j, w⟩ := p
    by_cases h : j = k <;> simp_all [Tab.del, Tab.find]

theorem Tab.find_del_ne {α : Type} (k j : Nat) (t : List (Nat × α)) (h : j ≠ k) : Tab.find j (Tab.del k t) = Tab.find j t := by
  induction t with
  | nil => rfl
  | cons p r ih =>
    obtain ⟨i, w⟩ := p
    by_cases hi : i = k
    · subst i; simp_all [Tab.del, Tab.find, Ne.symm h]
    · simp_all [Tab.del, Tab.find]

@[simp] theorem Tab.find_upd_self {α : Type} (k : Nat) (f : α → α) (t : List (Nat × α)) :
    Tab.find k (Tab.upd k f t) = (Tab.find k t).map f := by
  induction t with
  | nil => rfl
  | cons p r ih =>
    obtain ⟨j, w⟩ := p
    by_cases h : j = k <;> simp_all [Tab.upd, Tab.find]

theorem Tab.find_upd_ne {α : Type} (k j : Nat) (f : α → α) (t : List (Nat × α)) (h : j ≠ k) :
    Tab.find j (Tab.upd k f t) = Tab.find j t := by
  induction t with
  | nil => rfl
  | cons p r ih =>
    obtain ⟨i, w⟩ := p
    by_cases hi : i = k
    · subst i; simp_all [Tab.upd, Tab.find, Ne.symm h]
    · simp_all [Tab.upd, Tab.find]

/-! ### The canonical form -/

theorem Sparse.rising_cons {α : Type} (j : Nat) (w : α) (t : List (Nat × α)) :
    Sparse.rising ((j, w) :: t) = true ↔ (∀ p ∈ t, j < p.1) ∧ Sparse.rising t = true := by
  induction t generalizing j w with
  | nil => simp [Sparse.rising]
  | cons p r ih =>
    obtain ⟨k, v⟩ := p
    simp only [Sparse.rising, Bool.and_eq_true, decide_eq_true_eq]
    constructor
    · rintro ⟨h1, h2⟩
      refine ⟨?_, h2⟩
      intro q hq
      rcases List.mem_cons.mp hq with rfl | hq
      · exact h1
      · exact Nat.lt_trans h1 (((ih k v).mp h2).1 q hq)
    · rintro ⟨h1, h2⟩
      exact ⟨h1 (k, v) (by simp), h2⟩

theorem Sparse.rising_filter {α : Type} (f : Nat × α → Bool) (t : List (Nat × α)) (h : Sparse.rising t = true) :
    Sparse.rising (t.filter f) = true := by
  induction t with
  | nil => rfl
  | cons p r ih =>
    obtain ⟨j, w⟩ := p
    obtain ⟨h1, h2⟩ := (Sparse.rising_cons j w r).mp h
    by_cases hf : f (j, w) = true
    · simp only [List.filter_cons, hf, if_true]
      exact (Sparse.rising_cons j w _).mpr ⟨fun q hq => h1 q (List.mem_filter.mp hq).1, ih h2⟩
    · simp only [List.filter_cons, hf]
      exact ih h2

theorem Tab.mem_put {α : Type} (k : Nat) (v : α) (t : List (Nat × α)) (p : Nat × α) (h : p ∈ Tab.put k v t) : p = (k, v) ∨ p ∈ t := by
  induction t with
  | nil => simpa [Tab.put] using h
  | cons q r ih =>
    obtain ⟨j, w⟩ := q
    simp only [Tab.put] at h
    split at h
    · simpa using h
    · split at h
      · rcases List.mem_cons.mp h with h | h
        · exact .inl h
        · exact .inr (List.mem_cons_of_mem _ h)
      · rcases List.mem_cons.mp h with h | h
        · exact .inr (h ▸ List.mem_cons_self)
        · exact (ih h).imp id (List.mem_cons_of_mem _)

theorem Tab.rising_put {α : Type} (k : Nat) (v : α) (t : List (Nat × α)) (h : Sparse.rising t = true) :
    Sparse.rising (Tab.put k v t) = true := by
  induction t with
  | nil => rfl
  | cons p r ih =>
    obtain ⟨j, w⟩ := p
    obtain ⟨h1, h2⟩ := (Sparse.rising_cons j w r).mp h
    simp only [Tab.put]
    split
    · rename_i hk
      exact (Sparse.rising_cons k v _).mpr ⟨fun q hq => by
        rcases List.mem_cons.mp hq with rfl | hq
        · exact hk
        · exact Nat.lt_trans hk (h1 q hq), h⟩
    · split
      · rename_i he; subst he
        exact (Sparse.rising_cons j v r).mpr ⟨h1, h2⟩
      · rename_i hk he
        refine (Sparse.rising_cons j w _).mpr ⟨fun q hq => ?_, ih h2⟩
        rcases Tab.mem_put k v r q hq with rfl | hq
        · simp only; omega
        · exact h1 q hq

/-- A write keeps the canonical form of a sparse store. -/
theorem Sparse.wf_set {α : Type} [DecidableEq α] (d : Nat → α) (k : Nat) (v : α) (t : List (Nat × α)) (h : Sparse.wf d t = true) :
    Sparse.wf d (Sparse.set d k v t) = true := by
  simp only [Sparse.wf, Bool.and_eq_true, List.all_eq_true, decide_eq_true_eq] at h ⊢
  rw [Sparse.set_eq]
  split
  · rename_i hv
    refine ⟨Sparse.rising_filter _ _ (Tab.rising_put k v t h.1), fun p hp => ?_⟩
    obtain ⟨hp, hk⟩ := List.mem_filter.mp hp
    rcases Tab.mem_put k v t p hp with rfl | hp
    · simp at hk
    · exact h.2 p hp
  · rename_i hv
    refine ⟨Tab.rising_put k v t h.1, fun p hp => ?_⟩
    rcases Tab.mem_put k v t p hp with rfl | hp
    · exact hv
    · exact h.2 p hp

end Sys2Proof.Machine
end

