-- ==== Sys2Proof/Laws/Flags.lean ====
section
/-! SUPPORT. Laws of register words, fields, functions and command slots: what is read after a write. -/

namespace Sys2Proof.Machine

/-- A number split at bits `a` and `a + b`. -/
theorem split_at (n a b : Nat) : n = n / 2 ^ (a + b) * 2 ^ (a + b) + n / 2 ^ a % 2 ^ b * 2 ^ a + n % 2 ^ a := by
  have h1 := Nat.div_add_mod n (2 ^ a)
  have h2 := Nat.div_add_mod (n / 2 ^ a) (2 ^ b)
  rw [Nat.div_div_eq_div_mul, ← Nat.pow_add] at h2
  have h3 : n / 2 ^ (a + b) * 2 ^ (a + b) = 2 ^ a * (2 ^ b * (n / 2 ^ (a + b))) := by rw [Nat.pow_add]; ac_rfl
  rw [h3]
  calc n = 2 ^ a * (n / 2 ^ a) + n % 2 ^ a := h1.symm
    _ = 2 ^ a * (2 ^ b * (n / 2 ^ (a + b)) + n / 2 ^ a % 2 ^ b) + n % 2 ^ a := by rw [h2]
    _ = _ := by rw [Nat.mul_add, Nat.mul_comm (2 ^ a) (n / 2 ^ a % 2 ^ b)]

/-- The number that `Fld.put` builds before it is made a word. -/
theorem Fld.put_val (n a b v : Nat) :
    n - n / 2 ^ a % 2 ^ b * 2 ^ a + v % 2 ^ b * 2 ^ a = n / 2 ^ (a + b) * 2 ^ (a + b) + v % 2 ^ b * 2 ^ a + n % 2 ^ a := by
  have h := split_at n a b
  generalize n / 2 ^ (a + b) * 2 ^ (a + b) = q at *
  generalize n / 2 ^ a % 2 ^ b * 2 ^ a = m at *
  generalize v % 2 ^ b * 2 ^ a = x at *
  generalize n % 2 ^ a = y at *
  omega

theorem Fld.put_parts (q x y a b : Nat) (hx : x < 2 ^ b) (hy : y < 2 ^ a) :
    (q * 2 ^ (a + b) + x * 2 ^ a + y) / 2 ^ a % 2 ^ b = x := by
  have h : q * 2 ^ (a + b) + x * 2 ^ a + y = y + 2 ^ a * (x + 2 ^ b * q) := by
    rw [Nat.pow_add, Nat.mul_add]; ac_rfl
  rw [h, Nat.add_mul_div_left _ _ (Nat.two_pow_pos a), Nat.div_eq_of_lt hy, Nat.zero_add, Nat.add_mul_mod_self_left, Nat.mod_eq_of_lt hx]

theorem Fld.put_lt (n a b v : Nat) (hn : n < 2 ^ 32) (h : a + b ≤ 32) :
    n / 2 ^ (a + b) * 2 ^ (a + b) + v % 2 ^ b * 2 ^ a + n % 2 ^ a < 2 ^ 32 := by
  obtain ⟨c, hc⟩ := Nat.exists_eq_add_of_le h
  have hq : n / 2 ^ (a + b) < 2 ^ c := by
    apply Nat.div_lt_of_lt_mul
    rw [← Nat.pow_add, ← hc]; exact hn
  have hv : v % 2 ^ b < 2 ^ b := Nat.mod_lt _ (Nat.two_pow_pos b)
  have hy : n % 2 ^ a < 2 ^ a := Nat.mod_lt _ (Nat.two_pow_pos a)
  have e : 2 ^ 32 = 2 ^ c * 2 ^ (a + b) := by rw [← Nat.pow_add, hc, Nat.add_comm]
  have h1 : (v % 2 ^ b + 1) * 2 ^ a ≤ 2 ^ (a + b) := by
    rw [Nat.pow_add, Nat.mul_comm]; exact Nat.mul_le_mul_left _ hv
  have h2 : (n / 2 ^ (a + b) + 1) * 2 ^ (a + b) ≤ 2 ^ c * 2 ^ (a + b) := Nat.mul_le_mul_right _ hq
  rw [Nat.add_mul, Nat.one_mul] at h1 h2
  rw [e]; omega

/-- The number a written word holds. -/
theorem Fld.put_toNat (f : Fld) (v : Nat) (w : Word) (h : f.sh + f.wid ≤ 32) :
    (f.put v w).toNat = w.toNat / 2 ^ (f.sh + f.wid) * 2 ^ (f.sh + f.wid) + v % 2 ^ f.wid * 2 ^ f.sh + w.toNat % 2 ^ f.sh := by
  simp only [Fld.put, Fld.get, BitVec.toNat_ofNat]
  rw [Fld.put_val]
  exact Nat.mod_eq_of_lt (Fld.put_lt _ _ _ _ w.isLt h)

/-- A field reads the low bits of what was put in it. -/
theorem Fld.get_put (f : Fld) (v : Nat) (w : Word) (h : f.sh + f.wid ≤ 32) : f.get (f.put v w) = v % 2 ^ f.wid := by
  rw [Fld.get, Fld.put_toNat f v w h]
  exact Fld.put_parts _ _ _ _ _ (Nat.mod_lt _ (Nat.two_pow_pos _)) (Nat.mod_lt _ (Nat.two_pow_pos _))

theorem Fld.low_of (n a c d : Nat) (h : c + d ≤ a) : n / 2 ^ c % 2 ^ d = n % 2 ^ a / 2 ^ c % 2 ^ d := by
  obtain ⟨e, rfl⟩ := Nat.exists_eq_add_of_le h
  rw [Nat.mod_pow_succ_div n c d e]
where
  Nat.mod_pow_succ_div (n c d e : Nat) : n % 2 ^ (c + d + e) / 2 ^ c % 2 ^ d = n / 2 ^ c % 2 ^ d := by
    rw [show c + d + e = c + (d + e) by omega, Nat.pow_add, Nat.mod_mul_right_div_self, Nat.pow_add, Nat.mod_mul_right_mod]

/-- A field of the same word that shares no bit keeps its value. -/
theorem Fld.get_put_ne (f g : Fld) (v : Nat) (w : Word) (h : f.sh + f.wid ≤ 32)
    (hd : g.sh + g.wid ≤ f.sh ∨ f.sh + f.wid ≤ g.sh) : g.get (f.put v w) = g.get w := by
  rw [Fld.get, Fld.put_toNat f v w h, Fld.get]
  generalize w.toNat = n
  have hv : v % 2 ^ f.wid < 2 ^ f.wid := Nat.mod_lt _ (Nat.two_pow_pos _)
  have hy : n % 2 ^ f.sh < 2 ^ f.sh := Nat.mod_lt _ (Nat.two_pow_pos _)
  rcases hd with hd | hd
  · rw [Fld.low_of _ _ _ _ hd, Fld.low_of n _ _ _ hd]
    congr 2
    rw [Nat.pow_add, show n / (2 ^ f.sh * 2 ^ f.wid) * (2 ^ f.sh * 2 ^ f.wid) + v % 2 ^ f.wid * 2 ^ f.sh + n % 2 ^ f.sh
      = n % 2 ^ f.sh + 2 ^ f.sh * (n / (2 ^ f.sh * 2 ^ f.wid) * 2 ^ f.wid + v % 2 ^ f.wid) by rw [Nat.mul_add]; ac_rfl]
    rw [Nat.add_mul_mod_self_left, Nat.mod_mod]
  · obtain ⟨e, he⟩ := Nat.exists_eq_add_of_le hd
    rw [he, Nat.pow_add 2 (f.sh + f.wid) e, ← Nat.div_div_eq_div_mul, ← Nat.div_div_eq_div_mul]
    congr 2
    have hb : v % 2 ^ f.wid * 2 ^ f.sh + n % 2 ^ f.sh < 2 ^ (f.sh + f.wid) := by
      have h1 : (v % 2 ^ f.wid + 1) * 2 ^ f.sh ≤ 2 ^ (f.sh + f.wid) := by
        rw [Nat.pow_add, Nat.mul_comm]; exact Nat.mul_le_mul_left _ hv
      rw [Nat.add_mul, Nat.one_mul] at h1; omega
    rw [Nat.add_assoc, Nat.add_comm, Nat.mul_comm (n / _) _, Nat.add_mul_div_left _ _ (Nat.two_pow_pos _), Nat.div_eq_of_lt hb, Nat.zero_add]

/-! ### Words and fields of the state -/

@[simp] theorem State.word_setWord (s : State) (o : Nat) (w : Word) : (s.setWord o w).word o = w := by
  simp [State.word, State.setWord]

theorem State.word_setWord_ne (s : State) (o p : Nat) (w : Word) (h : p ≠ o) : (s.setWord o w).word p = s.word p := by
  simp only [State.word, State.setWord]; exact Sparse.get_set_ne _ _ _ _ _ h

/-- A register field reads what was stored in it. -/
theorem State.fld_setFld (s : State) (f : Fld) (v : Nat) (h : f.sh + f.wid ≤ 32) : (s.setFld f v).fld f = v % 2 ^ f.wid := by
  simp [State.fld, State.setFld, Fld.get_put f v _ h]

/-- A field of another register, or of other bits of the same one, keeps its value. -/
theorem State.fld_setFld_ne (s : State) (f g : Fld) (v : Nat) (h : f.sh + f.wid ≤ 32)
    (hd : g.dw ≠ f.dw ∨ g.sh + g.wid ≤ f.sh ∨ f.sh + f.wid ≤ g.sh) : (s.setFld f v).fld g = s.fld g := by
  by_cases he : g.dw = f.dw
  · have hd := hd.resolve_left (not_not_intro he)
    simp only [State.fld, State.setFld, he, State.word_setWord]
    exact Fld.get_put_ne f g v _ h hd
  · simp only [State.fld, State.setFld, State.word_setWord_ne _ _ _ _ he]

/-- A field's value depends on the registers alone. -/
theorem State.fld_congr {s t : State} (f : Fld) (h : s.regs = t.regs) : s.fld f = t.fld f := by
  simp only [State.fld, State.word, h]

theorem State.word_congr {s t : State} (o : Nat) (h : s.regs = t.regs) : s.word o = t.word o := by
  simp only [State.word, h]

/-- A one-bit field set reads 1. -/
theorem State.flag_setFld_one (s : State) (f : Fld) (h : f.sh + f.wid ≤ 32) (hw : f.wid = 1) : (s.setFld f 1).flag f = true := by
  simp [State.flag, State.fld_setFld s f 1 h, hw]

/-! ### Functions and command slots -/

@[simp] theorem State.func_setFunc (s : State) (i : Nat) (f : Func) : (s.setFunc i f).func i = f := by
  simp [State.func, State.setFunc]

theorem State.func_setFunc_ne (s : State) (i j : Nat) (f : Func) (h : j ≠ i) : (s.setFunc i f).func j = s.func j := by
  simp only [State.func, State.setFunc]; exact Sparse.get_set_ne _ _ _ _ _ h

theorem State.func_congr {s t : State} (i : Nat) (h : s.fns = t.fns) : s.func i = t.func i := by
  simp only [State.func, h]

@[simp] theorem State.cmd_updCmd (s : State) (c : Nat) (g : Cmd → Cmd) : (s.updCmd c g).cmd c = (s.cmd c).map g := by
  simp [State.cmd, State.updCmd]

theorem State.cmd_updCmd_ne (s : State) (c d : Nat) (g : Cmd → Cmd) (h : d ≠ c) : (s.updCmd c g).cmd d = s.cmd d := by
  simp only [State.cmd, State.updCmd]; exact Tab.find_upd_ne _ _ _ _ h

@[simp] theorem State.cmd_unlock (s : State) (c d : Nat) : (s.unlock c).cmd d = s.cmd d := rfl

theorem State.cmd_congr {s t : State} (c : Nat) (h : s.q = t.q) : s.cmd c = t.cmd c := by
  simp only [State.cmd, h]

end Sys2Proof.Machine
end

