-- ==== Sys2Proof/Laws/HeldBase.lean ====
section
/-! SUPPORT. What almost every command leaves alone (R427, R434, R438, R469, R470): the records, sectors and reserve of the configuration store, the
event areas, the key set and the namespaces. A lemma named f_held says that f leaves all of them as they are; the few functions that change one of
them are in HeldParts. Here the fields, the shared operations, the gauges, the recorder, the store and the roles. -/

namespace Sys2Proof.Machine

set_option linter.unusedTactic false
set_option linter.unreachableTactic false
set_option linter.unusedSimpArgs false

/-- What the configuration store, the event areas, the key set and the namespaces hold. -/
abbrev Held := (List (Nat × CfsRecord) × List (Nat × Word) × List (Nat × Sector) × List Nat) × EventAreas × KeySet × List (Nat × Ns)

/-- Those parts of a state: the store's records, sectors and reserve, the areas, the keys, the namespaces. -/
def State.held (s : State) : Held := ((s.records, s.savedRegs, s.sectors, s.reserve), s.areas, s.keys, s.nss)

theorem held_fold (s : State) : ((s.records, s.savedRegs, s.sectors, s.reserve), s.areas, s.keys, s.nss) = s.held := by cases s; rfl

theorem foldl_held {α : Type} (g : State → α → State) (l : List α) (s : State) (h : ∀ u x, (g u x).held = u.held) : (l.foldl g s).held = s.held := by
  induction l generalizing s with
  | nil => rfl
  | cons a l ih => exact (ih (g s a)).trans (h s a)

/-- An outcome that leaves all three as they are: a fault, a refusal, or a next state with them unchanged. -/
def Holds (s : State) (o : Host.Outcome State Fault Refusal) : Prop := ∀ t, o = .next t → t.held = s.held

theorem held_mk (pending_ : List Instr) (clk_ : Clock) (timers_ : List Timer) (regs_ : List (Nat × Word)) (latches_ : List (Nat × Nat))
    (stamps_ : List (Nat × Nat)) (pace_ : Pace) (stg_ : Staging) (areas_ : EventAreas) (bank0_ : EvwBank) (bank1_ : EvwBank) (cfs_ : CfsCtl)
    (sectors_ : List (Nat × Sector)) (areaTab_ : List (Nat × AreaState)) (reserve_ : List Nat) (records_ : List (Nat × CfsRecord))
    (keys_ : KeySet) (savedRegs_ : List (Nat × Word)) (sec_ : Sec) (hif_ : Hif) (fns_ : List (Nat × Func)) (q_ : Qen) (tx_ : List Tx)
    (nss_ : List (Nat × Ns)) (adm_ : Admin) (free_ : Nat) (map_ : MapSt) (lif_ : Lif) (dump_ : Dump) (buf_ : Buf) (crs_ : Crs) (fl_ : Fl)
    (rd_ : Rd) (hbm_ : Hbm) (sup_ : Sup) (pwr_ : Pwr) (str_ : Strand) (fwu_ : Fwu) (pins_ : Pins) : State.held ⟨pending_, clk_, timers_, regs_,
    latches_, stamps_, pace_, stg_, areas_, bank0_, bank1_, cfs_, sectors_, areaTab_, reserve_, records_, keys_, savedRegs_, sec_, hif_, fns_, q_,
    tx_, nss_, adm_, free_, map_, lif_, dump_, buf_, crs_, fl_, rd_, hbm_, sup_, pwr_, str_, fwu_, pins_⟩ = ((records_, savedRegs_, sectors_, reserve_), areas_, keys_, nss_) := by unfold State.held; exact id rfl

theorem Holds_next (s u : State) : Holds s (.next u) ↔ u.held = s.held := by constructor <;> intro h; exact h u rfl; intro t e; cases e; exact h

theorem Holds_fault (s : State) (f : Fault) : Holds s (.fault f) ↔ True := ⟨fun _ => trivial, fun _ _ e => by cases e⟩

theorem Holds_refused (s : State) (f : Refusal) : Holds s (.refused f) ↔ True := ⟨fun _ => trivial, fun _ _ e => by cases e⟩

theorem held_via {t e : State} {c : Held} (h1 : t.held = c) (h2 : t.held = c → e.held = c) : e.held = c := h2 h1

theorem holds_via {t s : State} {o : Host.Outcome State Fault Refusal} (h1 : t.held = s.held) (h2 : t.held = s.held → Holds s o) : Holds s o := h2 h1

theorem foldl_held_fst {α β : Type} (g : State × β → α → State × β) (l : List α) (a : State × β) (h : ∀ u x, (g u x).1.held = u.1.held) :
    (l.foldl g a).1.held = a.1.held := by
  induction l generalizing a with
  | nil => rfl
  | cons x l ih => exact (ih _).trans (h a x)

theorem foldl_held_snd {α β : Type} (g : β × State → α → β × State) (l : List α) (a : β × State) (h : ∀ u x, (g u x).2.held = u.2.held) :
    (l.foldl g a).2.held = a.2.held := by
  induction l generalizing a with
  | nil => rfl
  | cons x l ih => exact (ih _).trans (h a x)

theorem getD_held (o : Option State) (s : State) (h : ∀ t, o = some t → t.held = s.held) : (o.getD s).held = s.held := by
  cases o with
  | none => rfl
  | some t => exact h t rfl

theorem ite_some_held {c : Prop} [Decidable c] {a t s : State} {rest : Option State} (ha : a.held = s.held)
    (hr : rest = some t → t.held = s.held) : (if c then some a else rest) = some t → t.held = s.held := by
  split
  · intro h; cases h; exact ha
  · exact hr

theorem State.setWord_held (s : State) (off : Nat) (w : Word) : (State.setWord s off w).held = s.held := by
  simp only [State.setWord, held_mk, held_fold]

theorem State.setFld_held (s : State) (f : Fld) (v : Nat) : (State.setFld s f v).held = s.held := by
  simp only [State.setFld, State.setWord_held]

theorem State.setFlag_held (s : State) (f : Fld) : (State.setFlag s f).held = s.held := by
  simp only [State.setFlag, State.setFld_held]

theorem State.clrFlag_held (s : State) (f : Fld) : (State.clrFlag s f).held = s.held := by
  simp only [State.clrFlag, State.setFld_held]

theorem State.putFlag_held (s : State) (f : Fld) (b : Bool) : (State.putFlag s f b).held = s.held := by
  simp only [State.putFlag, State.setFld_held]

theorem State.addSat_held (s : State) (f : Fld) (n : Nat) : (State.addSat s f n).held = s.held := by
  simp only [State.addSat, State.setFld_held]

theorem State.addWrap_held (s : State) (f : Fld) (n : Nat) : (State.addWrap s f n).held = s.held := by
  simp only [State.addWrap, State.setFld_held]

theorem State.putSat_held (s : State) (f : Fld) (n : Nat) : (State.putSat s f n).held = s.held := by
  simp only [State.putSat, State.setFld_held]

theorem State.clearWords_held (s : State) (offs : List Nat) : (State.clearWords s offs).held = s.held := by
  simp only [State.clearWords, implies_true, foldl_held, State.setWord_held]

theorem guarded_held (b : Bool) (f : Fault) (s t : State) : Holds s (guarded b f t) ↔ (b = true → t.held = s.held) := by
  unfold guarded; split <;> simp_all [Holds_next, Holds_fault]

theorem withSome_holds {α : Type} (o : Option α) (k : α → State) (s : State) (h : ∀ a, (k a).held = s.held) : Holds s (withSome o k) := by
  unfold withSome; split
  · exact (Holds_next _ _).2 (h _)
  · exact (Holds_fault _ _).2 trivial

theorem State.advanceTo_held (s : State) (m : Nat) : (State.advanceTo s m).held = s.held := by
  simp only [State.advanceTo, held_mk, held_fold, apply_ite State.held, ite_self]

theorem State.cancel_held (s : State) (id : TimerId) : (State.cancel s id).held = s.held := by
  simp only [State.cancel, held_mk, held_fold]

theorem State.arm_held (s : State) (id : TimerId) (ns : Nat) : (State.arm s id ns).held = s.held := by
  simp only [State.arm, held_mk, held_fold]

theorem State.armOnce_held (s : State) (id : TimerId) (ns : Nat) : (State.armOnce s id ns).held = s.held := by
  simp only [State.armOnce, apply_ite State.held, ite_self, State.arm_held]

theorem State.expire_held (s : State) (id : TimerId) : (State.expire s id).held = s.held := by
  simp only [State.expire, State.cancel_held, State.advanceTo_held]

theorem onTimer_holds (s : State) (id : TimerId) (k : State → State) (h : ∀ u, (k u).held = u.held) : Holds s (onTimer s id k) := by
  unfold onTimer; split
  · exact (Holds_next _ _).2 ((h _).trans (State.expire_held s id))
  · exact (Holds_next _ _).2 rfl

theorem State.stamp_held (s : State) (off : Nat) : (State.stamp s off).held = s.held := by
  simp only [State.stamp, held_mk, held_fold]

theorem State.shiftLog_held (s : State) (reg : Nat → Nat) (n : Nat) : (State.shiftLog s reg n).held = s.held := by
  unfold State.shiftLog
  repeat' (first | (extract_lets +onlyGivenNames t; first | (refine held_via (t := t) ?_ (fun ht => ?_); rotate_left; clear_value t; rotate_left; simp only [t]) | clear_value t) | simp only [held_mk, held_fold, State.setWord_held, *] | split | with_reducible refine (foldl_held _ _ _ (fun u _ => ?_)).trans ?_)
  all_goals grind only [held_mk, held_fold, State.setWord_held]

theorem State.draw_held (s : State) : (State.draw s).2.held = s.held := by
  unfold State.draw
  repeat' (first | simp only [held_mk, held_fold] | split)

theorem State.send_held (s : State) (m : Tx) : (State.send s m).held = s.held := by
  simp only [State.send, held_mk, held_fold]

theorem State.sendAll_held (s : State) (ms : List Tx) : (State.sendAll s ms).held = s.held := by
  simp only [State.sendAll, implies_true, foldl_held, State.send_held]

theorem State.cfsPut_held (s : State) (j : CfsJob) : (State.cfsPut s j).held = s.held := by
  simp only [State.cfsPut, held_mk, held_fold]

theorem State.cfsStart_held (s : State) : (State.cfsStart s).held = s.held := by
  unfold State.cfsStart
  repeat' (first | simp only [held_mk, held_fold] | split)

theorem State.cfsRequest_held (s : State) (rank : Nat) (w : CfsWork) (words : Nat) : (State.cfsRequest s rank w words).held = s.held := by
  simp only [State.cfsRequest, held_mk, held_fold, apply_ite State.held, ite_self, State.cfsPut_held, State.cfsStart_held]

theorem State.cfsRelease_held (s : State) : (State.cfsRelease s).held = s.held := by
  simp only [State.cfsRelease, held_mk, held_fold, implies_true, foldl_held, State.cfsPut_held, State.cfsStart_held]

theorem State.persistStaged_held (s : State) (rank : Nat) : (State.persistStaged s rank).held = s.held := by
  simp only [State.persistStaged, apply_ite State.held, ite_self, implies_true, foldl_held, State.cfsRequest_held]

theorem State.stageRec_held (s : State) (code src lvl p0 p1 p2 p3 : Nat) : (State.stageRec s code src lvl p0 p1 p2 p3).held = s.held := by
  simp only [State.stageRec, held_mk, held_fold, apply_ite State.held, ite_self, State.armOnce_held, State.persistStaged_held]

theorem State.refuseRec_held (s : State) : (State.refuseRec s).held = s.held := by
  simp only [State.refuseRec, held_mk, held_fold]

theorem State.stageEvent_held (s : State) (code src lvl p0 p1 p2 p3 : Nat) : (State.stageEvent s code src lvl p0 p1 p2 p3).held = s.held := by
  simp only [State.stageEvent, apply_ite State.held, ite_self, State.refuseRec_held, State.stageRec_held]

theorem State.event_held (s : State) (code : Nat) (p0 p1 p2 p3 : Nat) : (State.event s code p0 p1 p2 p3).held = s.held := by
  simp only [State.event, State.stageEvent_held]

theorem State.eventFrom_held (s : State) (code k : Nat) (p0 p1 p2 p3 : Nat) : (State.eventFrom s code k p0 p1 p2 p3).held = s.held := by
  simp only [State.eventFrom, State.stageEvent_held]

theorem State.setFunc_held (s : State) (i : Nat) (f : Func) : (State.setFunc s i f).held = s.held := by
  simp only [State.setFunc, held_mk, held_fold]

theorem State.updFunc_held (s : State) (i : Nat) (g : Func → Func) : (State.updFunc s i g).held = s.held := by
  simp only [State.updFunc, State.setFunc_held]

theorem State.setPort_held (s : State) (p : Nat) (x : Port) : (State.setPort s p x).held = s.held := by
  simp only [State.setPort, held_mk, held_fold, apply_ite State.held, ite_self]

theorem State.hifCnt_held (s : State) (p n : Nat) : (State.hifCnt s p n).held = s.held := by
  simp only [State.hifCnt, State.addSat_held]

theorem State.linkUse_held (s : State) (p : Nat) : (State.linkUse s p).held = s.held := by
  simp only [State.linkUse, apply_ite State.held, ite_self, State.setPort_held, State.arm_held]

theorem State.tlpIn_held (s : State) (p : Nat) : (State.tlpIn s p).held = s.held := by
  simp only [State.tlpIn, State.hifCnt_held, State.linkUse_held]

theorem State.qenCnt_held (s : State) (n : Nat) (k : Nat) : (State.qenCnt s n k).held = s.held := by
  simp only [State.qenCnt, State.addSat_held]

theorem State.aer_held (s : State) (p : Nat) (e : LinkError) : (State.aer s p e).held = s.held := by
  simp only [State.aer, held_mk, held_fold, apply_ite State.held, ite_self]

theorem State.raise_held (s : State) (i vec : Nat) : (State.raise s i vec).held = s.held := by
  simp only [State.raise, apply_ite State.held, ite_self, State.setFunc_held, State.send_held, State.qenCnt_held]

theorem State.updCmd_held (s : State) (c : Nat) (g : Cmd → Cmd) : (State.updCmd s c g).held = s.held := by
  simp only [State.updCmd, held_mk, held_fold]

theorem State.unlock_held (s : State) (c : Nat) : (State.unlock s c).held = s.held := by
  simp only [State.unlock, held_mk, held_fold]

theorem State.dropStitches_held (s : State) (c : Nat) : (State.dropStitches s c).held = s.held := by
  simp only [State.dropStitches, held_mk, held_fold, implies_true, foldl_held, State.cancel_held]

theorem State.finish_held (s : State) (c : Nat) (st : Status) (dw0 : Nat) : (State.finish s c st dw0).held = s.held := by
  unfold State.finish
  repeat' (first | simp only [held_mk, held_fold, apply_ite State.held, ite_self, State.dropStitches_held, State.updCmd_held] | split)

theorem State.fail_held (s : State) (c : Nat) (st : Status) : (State.fail s c st).held = s.held := by
  simp only [State.fail, State.unlock_held, State.finish_held]

theorem onAdmin_holds (s : State) (c : Nat) (k : Cmd → State) (h : ∀ x, (k x).held = s.held) : Holds s (onAdmin s c k) := by
  refine withSome_holds _ _ _ (fun x => ?_); split
  · exact State.finish_held ..
  · exact h x

theorem onIo_holds (s : State) (c op : Nat) (k : Cmd → State) (h : ∀ x, (k x).held = s.held) : Holds s (onIo s c op k) := by
  refine withSome_holds _ _ _ (fun x => ?_); repeat' split
  · exact State.fail_held ..
  · exact State.fail_held ..
  · exact h x

theorem onNs_holds (s : State) (c op : Nat) (k : Cmd → Ns → State) (h : ∀ x n, (k x n).held = s.held) : Holds s (onNs s c op k) := by
  refine onIo_holds _ _ _ _ (fun x => ?_); repeat' split
  · exact h x _
  · exact State.fail_held ..
  · exact State.fail_held ..

theorem State.asyncEvent_held (s : State) (i type info page : Nat) : (State.asyncEvent s i type info page).held = s.held := by
  unfold State.asyncEvent
  repeat' (first | simp only [apply_ite State.held, State.setFunc_held, State.finish_held] | split)

theorem State.asyncAll_held (s : State) (bit type info page : Nat) : (State.asyncAll s bit type info page).held = s.held := by
  simp only [State.asyncAll, apply_ite State.held, ite_self, implies_true, foldl_held, State.asyncEvent_held]

theorem State.asyncVendor_held (s : State) (page : Nat) : (State.asyncVendor s page).held = s.held := by
  simp only [State.asyncVendor, apply_ite State.held, ite_self, implies_true, foldl_held, State.asyncEvent_held]

theorem State.noteC0_held (s : State) : (State.noteC0 s).held = s.held := by
  simp only [State.noteC0, held_mk, held_fold, apply_ite State.held, ite_self, State.asyncVendor_held]

theorem State.egWarn_held (s : State) (bit : Nat) : (State.egWarn s bit).held = s.held := by
  simp only [State.egWarn, held_mk, held_fold, apply_ite State.held, ite_self, implies_true, foldl_held, State.asyncEvent_held]

theorem State.critWarn_held (s : State) (bit : Nat) : (State.critWarn s bit).held = s.held := by
  simp only [State.critWarn, held_mk, held_fold, apply_ite State.held, ite_self, State.asyncAll_held, State.egWarn_held]

theorem State.fdpEvent_held (s : State) (type handle : Nat) : (State.fdpEvent s type handle).held = s.held := by
  simp only [State.fdpEvent, held_mk, held_fold, apply_ite State.held, ite_self, implies_true, foldl_held, State.draw_held, State.asyncEvent_held]

theorem State.critClear_held (s : State) (bit : Nat) : (State.critClear s bit).held = s.held := by
  simp only [State.critClear, held_mk, held_fold, apply_ite State.held, ite_self]

theorem State.superGate_held (s : State) (c : Nat) (t : State) (h : t.held = s.held) : (State.superGate s c t).held = s.held := by
  unfold State.superGate; repeat' split
  · exact State.finish_held ..
  · rfl
  · exact h

theorem State.setCfs_held (s : State) (is : List Nat) : (State.setCfs s is).held = s.held := by
  simp only [State.setCfs, implies_true, foldl_held, State.updFunc_held]

theorem State.paceCheck_held (s : State) (r p : Nat) : (State.paceCheck s r p).held = s.held := by
  simp only [State.paceCheck, apply_ite State.held, ite_self, State.putFlag_held, State.setFlag_held, State.event_held]

theorem State.gaugeRead_held (s : State) (r p : Nat) : (State.gaugeRead s r p).held = s.held := by
  simp only [State.gaugeRead, held_mk, held_fold, apply_ite State.held, ite_self, State.setFld_held]

theorem execGaugeWindowEnd_held (region cycles : Nat) (s : State) : Holds s (execGaugeWindowEnd region cycles s) := by
  unfold execGaugeWindowEnd
  repeat' (first | simp only [implies_true, guarded_held, State.gaugeRead_held, State.paceCheck_held] | split)

theorem State.paceMinClear_held (s : State) : (State.paceMinClear s).held = s.held := by
  simp only [State.paceMinClear, implies_true, foldl_held, State.setFld_held]

theorem State.requestVolts_held (s : State) (mv : Nat) : (State.requestVolts s mv).held = s.held := by
  simp only [State.requestVolts, apply_ite State.held, ite_self, State.setFld_held, State.send_held]

theorem State.govern_held (s : State) : (State.govern s).held = s.held := by
  unfold State.govern
  repeat' (first | (extract_lets +onlyGivenNames t; first | (refine held_via (t := t) ?_ (fun ht => ?_); rotate_left; clear_value t; rotate_left; simp only [t]) | clear_value t) | simp only [held_mk, held_fold, apply_ite State.held, ite_self, State.requestVolts_held, State.setFld_held, State.setFlag_held, State.send_held, *] | split | with_reducible refine (foldl_held _ _ _ (fun u _ => ?_)).trans ?_)
  all_goals grind only [held_mk, held_fold, State.requestVolts_held, State.setFld_held, State.setFlag_held, State.send_held]

theorem execGaugePeriodEnd_held (vout iout : Nat) (s : State) : Holds s (execGaugePeriodEnd vout iout s) := by
  unfold execGaugePeriodEnd
  repeat' (first | (extract_lets +onlyGivenNames t; first | (refine holds_via (t := t) ?_ (fun ht => ?_); rotate_left; clear_value t; rotate_left; simp only [t]) | clear_value t) | simp only [held_mk, held_fold, apply_ite State.held, ite_self, Holds_next, State.addWrap_held, State.setFld_held, State.send_held, State.armOnce_held, State.cancel_held, State.govern_held, State.paceCheck_held, *] | split | with_reducible refine (foldl_held _ _ _ (fun u _ => ?_)).trans ?_)
  all_goals grind only [held_mk, held_fold, State.addWrap_held, State.setFld_held, State.send_held, State.armOnce_held, State.cancel_held,
      State.govern_held, State.paceCheck_held]

theorem execPmbusTransactionDone_held (ok : Bool) (code data : Nat) (s : State) : Holds s (execPmbusTransactionDone ok code data s) := by
  unfold execPmbusTransactionDone
  repeat' (first | (extract_lets +onlyGivenNames t; first | (refine holds_via (t := t) ?_ (fun ht => ?_); rotate_left; clear_value t; rotate_left; simp only [t]) | clear_value t) | simp only [held_mk, held_fold, apply_ite State.held, ite_self, Holds_next, State.clrFlag_held, State.setFlag_held, State.event_held, *] | split | with_reducible refine (foldl_held _ _ _ (fun u _ => ?_)).trans ?_)
  all_goals grind only [held_mk, held_fold, State.clrFlag_held, State.setFlag_held, State.event_held]

theorem execVoutDeviationTimeout_held (s : State) : Holds s (execVoutDeviationTimeout s) := by
  unfold execVoutDeviationTimeout
  repeat' (first | simp only [State.setFlag_held, State.event_held] | split | with_reducible refine onTimer_holds _ _ _ (fun u => ?_) | with_reducible refine (foldl_held _ _ _ (fun u _ => ?_)).trans ?_)

theorem execVrAlert_held (status : Nat) (s : State) : Holds s (execVrAlert status s) := by
  unfold execVrAlert
  repeat' (first | simp only [Holds_next, State.setFlag_held, State.send_held, State.event_held] | split)

theorem execDieTjPast105_held (die : Nat) (above : Bool) (s : State) : Holds s (execDieTjPast105 die above s) := by
  unfold execDieTjPast105
  repeat' (first | simp only [held_mk, held_fold, implies_true, guarded_held] | split)

theorem State.setPs_held (s : State) (n : Nat) : (State.setPs s n).held = s.held := by
  simp only [State.setPs, held_mk, held_fold, apply_ite State.held, ite_self, State.setFld_held, State.addWrap_held, State.clrFlag_held,
      State.arm_held, State.cancel_held]

theorem State.applyPs_held (s : State) : (State.applyPs s).held = s.held := by
  simp only [State.applyPs, apply_ite State.held, ite_self, State.setPs_held]

theorem State.setTime_held (s : State) (new : Nat) : (State.setTime s new).held = s.held := by
  simp only [State.setTime, held_mk, held_fold, apply_ite State.held, ite_self, State.setFlag_held]

theorem State.noteSectionTime_held (s : State) : (State.noteSectionTime s).held = s.held := by
  simp only [State.noteSectionTime, State.putFlag_held]

theorem execReftLost_held (s : State) : Holds s (execReftLost s) := by
  unfold execReftLost
  repeat' (first | simp only [apply_ite State.held, ite_self, Holds_next, State.setFlag_held, State.event_held] | split)

theorem execReftRegained_held (s : State) : Holds s (execReftRegained s) := by
  unfold execReftRegained
  repeat' (first | simp only [apply_ite State.held, ite_self, Holds_next, State.clrFlag_held, State.noteSectionTime_held, State.event_held] | split)

theorem execDeviceTimeSlewDone_held (s : State) : Holds s (execDeviceTimeSlewDone s) := by
  unfold execDeviceTimeSlewDone
  repeat' (first | (extract_lets +onlyGivenNames t; first | (refine holds_via (t := t) ?_ (fun ht => ?_); rotate_left; clear_value t; rotate_left; simp only [t]) | clear_value t) | simp only [held_mk, held_fold, Holds_next, State.advanceTo_held, *] | split | with_reducible refine (foldl_held _ _ _ (fun u _ => ?_)).trans ?_)
  all_goals grind only [held_mk, held_fold, State.advanceTo_held]

theorem State.setBank_held (s : State) (pf : Nat) (b : EvwBank) : (State.setBank s pf b).held = s.held := by
  simp only [State.setBank, held_mk, held_fold, apply_ite State.held, ite_self]

theorem State.resetBank_held (s : State) (pf : Nat) : (State.resetBank s pf).held = s.held := by
  simp only [State.resetBank, State.setBank_held]

theorem State.catchUp_held (s : State) (pf : Nat) : (State.catchUp s pf).held = s.held := by
  simp only [State.catchUp, apply_ite State.held, ite_self, State.setBank_held]

theorem State.evwRead0_held (s : State) (pf : Nat) : (State.evwRead0 s pf).2.held = s.held := by
  unfold State.evwRead0
  repeat' (first | simp only [apply_ite State.held, ite_self, State.catchUp_held, State.setBank_held] | split)

theorem State.evwRead7_held (s : State) (pf : Nat) : (State.evwRead7 s pf).2.held = s.held := by
  unfold State.evwRead7
  repeat' (first | simp only [apply_ite State.held, ite_self, State.setBank_held] | split)

theorem State.evwCursor_held (s : State) (pf seq : Nat) : (State.evwCursor s pf seq).held = s.held := by
  simp only [State.evwCursor, State.setBank_held]

theorem State.evwSeekOld_held (s : State) (pf : Nat) : (State.evwSeekOld s pf).held = s.held := by
  simp only [State.evwSeekOld, State.setBank_held]

theorem State.evwSeekNew_held (s : State) (pf : Nat) : (State.evwSeekNew s pf).held = s.held := by
  simp only [State.evwSeekNew, State.setBank_held]

theorem State.reportDrops_held (s : State) : s.reportDrops.held = s.held := by
  unfold State.reportDrops; split
  · exact State.event_held ..
  · rfl

theorem execEventPersistTimer_held (s : State) : Holds s (execEventPersistTimer s) := by
  unfold execEventPersistTimer
  repeat' (first | simp only [State.persistStaged_held] | split | with_reducible refine onTimer_holds _ _ _ (fun u => ?_) | with_reducible refine (foldl_held _ _ _ (fun u _ => ?_)).trans ?_)

theorem State.cfsCnt_held (s : State) (n : Nat) (k : Nat) : (State.cfsCnt s n k).held = s.held := by
  simp only [State.cfsCnt, State.addWrap_held]

theorem State.cfsErr_held (s : State) (kind word : Nat) : (State.cfsErr s kind word).held = s.held := by
  simp only [State.cfsErr, State.setFlag_held, State.setFld_held]

theorem State.setArea_held (s : State) (a : Nat) (x : AreaState) : (State.setArea s a x).held = s.held := by
  simp only [State.setArea, held_mk, held_fold]

theorem State.compact_held (s : State) : (State.compact s).held = s.held := by
  unfold State.compact
  repeat' (first | (extract_lets +onlyGivenNames t; first | (refine held_via (t := t) ?_ (fun ht => ?_); rotate_left; clear_value t; rotate_left; simp only [t]) | clear_value t) | simp only [apply_ite State.held, ite_self, implies_true, foldl_held, State.cfsPut_held, State.setArea_held, State.cfsCnt_held, State.addSat_held, State.cfsRequest_held, *] | split | with_reducible refine (foldl_held _ _ _ (fun u _ => ?_)).trans ?_)
  all_goals grind only [held_mk, held_fold, State.cfsPut_held, State.setArea_held, State.cfsCnt_held, State.addSat_held, State.cfsRequest_held]

theorem State.advanceArea_held (s : State) (a : Nat) : (State.advanceArea s a).held = s.held := by
  unfold State.advanceArea
  repeat' (first | simp only [apply_ite State.held, State.setArea_held, State.cfsRequest_held, State.compact_held] | split)

theorem State.saveSettings_held (s : State) : (State.saveSettings s).held = s.held := by
  simp only [State.saveSettings, State.addSat_held, State.cfsRequest_held]

theorem State.finishWaiting_held (s : State) (op : Nat) : (State.finishWaiting s op).held = s.held := by
  simp only [State.finishWaiting, implies_true, foldl_held, State.finish_held]

theorem State.lifeCycleDone_held (s : State) : (State.lifeCycleDone s).held = s.held := by
  unfold State.lifeCycleDone
  repeat' (first | (extract_lets +onlyGivenNames t; first | (refine held_via (t := t) ?_ (fun ht => ?_); rotate_left; clear_value t; rotate_left; simp only [t]) | clear_value t) | simp only [held_mk, held_fold, apply_ite State.held, ite_self, State.setFld_held, State.addWrap_held, State.setFlag_held, State.putSat_held, State.clrFlag_held, State.event_held, State.persistStaged_held, State.finish_held, *] | split | with_reducible refine (foldl_held _ _ _ (fun u _ => ?_)).trans ?_)
  all_goals grind only [held_mk, held_fold, State.setFld_held, State.addWrap_held, State.setFlag_held, State.putSat_held, State.clrFlag_held,
      State.event_held, State.persistStaged_held, State.finish_held]

theorem State.cfsRefused_held (s : State) (j : CfsJob) : (State.cfsRefused s j).held = s.held := by
  unfold State.cfsRefused
  repeat' (first | simp only [held_mk, held_fold, State.clrFlag_held, State.setFld_held, State.cfsPut_held] | split)

theorem State.advanceJob_held (s : State) (j : CfsJob) : (State.advanceJob s j).held = s.held := by
  simp only [State.advanceJob, apply_ite State.held, ite_self, State.advanceArea_held]

theorem State.cfsFree_held (s : State) : (State.cfsFree s).held = s.held := by
  simp only [State.cfsFree, held_mk, held_fold]

theorem State.ecMax_held (s : State) (sec n : Nat) : (State.ecMax s sec n).held = s.held := by
  simp only [State.ecMax, apply_ite State.held, ite_self, State.setFld_held]

theorem State.cfsScrubPass_held (s : State) (one two bad : List Nat) : (State.cfsScrubPass s one two bad).held = s.held := by
  simp only [State.cfsScrubPass, apply_ite State.held, ite_self, implies_true, foldl_held, State.cfsCnt_held, State.setFlag_held, State.cfsErr_held,
      State.cfsRequest_held, State.arm_held]

theorem execCfsScrubPeriod_held (one two bad : List Nat) (s : State) : Holds s (execCfsScrubPeriod one two bad s) := by
  unfold execCfsScrubPeriod
  repeat' (first | simp only [State.cfsScrubPass_held] | split | with_reducible refine onTimer_holds _ _ _ (fun u => ?_) | with_reducible refine (foldl_held _ _ _ (fun u _ => ?_)).trans ?_)

theorem State.dpSelect_held (s : State) (v : Word) : (State.dpSelect s v).held = s.held := by
  simp only [State.dpSelect, held_mk, held_fold, State.setWord_held]

theorem State.dpAdvance_held (s : State) : (State.dpAdvance s).held = s.held := by
  simp only [State.dpAdvance, State.addWrap_held]

theorem State.dpAccess_held (s : State) (write : Bool) (v : Word) : (State.dpAccess s write v).2.held = s.held := by
  unfold State.dpAccess
  repeat' (first | simp only [held_mk, held_fold, State.dpAdvance_held] | split)

theorem State.dpCommit_held (s : State) : (State.dpCommit s).held = s.held := by
  simp only [State.dpCommit, apply_ite State.held, ite_self, State.setFld_held, State.setFlag_held, State.cfsRequest_held]

theorem State.dpDiscard_held (s : State) : (State.dpDiscard s).held = s.held := by
  simp only [State.dpDiscard, held_mk, held_fold]

theorem execCalibrationRowRead_held (cmd numd offset : Nat) (s : State) : Holds s (execCalibrationRowRead cmd numd offset s) := by
  unfold execCalibrationRowRead
  repeat' (first | simp only [apply_ite State.held, ite_self, State.finish_held,
                          State.send_held] | split | with_reducible refine onAdmin_holds _ _ _ (fun u => ?_) | with_reducible refine (foldl_held _ _ _ (fun u _ => ?_)).trans ?_)

theorem State.secCnt_held (s : State) (n : Nat) : (State.secCnt s n).held = s.held := by
  simp only [State.secCnt, State.addWrap_held]

theorem State.setSession_held (s : State) (pf : Nat) (x : Option Session) : (State.setSession s pf x).held = s.held := by
  simp only [State.setSession, held_mk, held_fold, apply_ite State.held, ite_self]

theorem State.endSession_held (s : State) (pf reason : Nat) : (State.endSession s pf reason).held = s.held := by
  unfold State.endSession
  repeat' (first | simp only [State.setSession_held, State.cancel_held, State.event_held, State.secCnt_held] | split)

theorem State.endRole_held (s : State) (role : Nat) : (State.endRole s role).held = s.held := by
  simp only [State.endRole, apply_ite State.held, ite_self, implies_true, foldl_held, State.endSession_held]

theorem State.touch_held (s : State) (pf : Nat) : (State.touch s pf).held = s.held := by
  unfold State.touch
  repeat' (first | simp only [State.setSession_held, State.arm_held] | split)

theorem execSessionIdleTimeout_held (pf : Nat) (s : State) : Holds s (execSessionIdleTimeout pf s) := by
  unfold execSessionIdleTimeout
  repeat' (first | simp only [State.endSession_held] | split | with_reducible refine onTimer_holds _ _ _ (fun u => ?_) | with_reducible refine (foldl_held _ _ _ (fun u _ => ?_)).trans ?_)

theorem State.deny_held (s : State) (src : Nat) (need : Role) (fn target : Nat) : (State.deny s src need fn target).held = s.held := by
  unfold State.deny
  repeat' (first | (extract_lets +onlyGivenNames t; first | (refine held_via (t := t) ?_ (fun ht => ?_); rotate_left; clear_value t; rotate_left; simp only [t]) | clear_value t) | simp only [State.setFlag_held, State.setFld_held, State.event_held, State.secCnt_held, *] | split | with_reducible refine (foldl_held _ _ _ (fun u _ => ?_)).trans ?_)
  all_goals grind only [held_mk, held_fold, State.setFlag_held, State.setFld_held, State.event_held, State.secCnt_held]

theorem onVendor_holds (s : State) (cmd : Nat) (need : Role) (k : Cmd → State) (h : ∀ x, (k x).held = s.held) : Holds s (onVendor s cmd need k) := by
  refine onAdmin_holds _ _ _ (fun x => ?_); repeat' split
  · exact State.finish_held ..
  · exact h x
  · exact (State.finish_held ..).trans (State.deny_held ..)

theorem State.gatedEvent_held (s : State) (g : Nat × Nat × Nat × Nat × Nat) : (State.gatedEvent s g).held = s.held := by
  simp only [State.gatedEvent, State.event_held]

theorem State.flushGated_held (s : State) (all : Bool) : (State.flushGated s all).held = s.held := by
  simp only [State.flushGated, held_mk, held_fold, implies_true, foldl_held, State.gatedEvent_held]

theorem State.noteGated_held (s : State) (target val fn : Nat) : (State.noteGated s target val fn).held = s.held := by
  simp only [State.noteGated, held_mk, held_fold, State.flushGated_held, State.secCnt_held]

theorem execRoleChallenge_held (cmd role reserved : Nat) (s : State) : Holds s (execRoleChallenge cmd role reserved s) := by
  unfold execRoleChallenge
  repeat' (first | (extract_lets +onlyGivenNames t; first | (refine holds_via (t := t) ?_ (fun ht => ?_); rotate_left; clear_value t; rotate_left; simp only [t]) | clear_value t) | simp only [held_mk, held_fold, State.finish_held, State.draw_held, State.secCnt_held, State.send_held, *] | split | with_reducible refine onVendor_holds _ _ _ _ (fun u => ?_) | with_reducible refine (foldl_held _ _ _ (fun u _ => ?_)).trans ?_)
  all_goals grind only [held_mk, held_fold, State.finish_held, State.draw_held, State.secCnt_held, State.send_held]

theorem State.authFailed_held (s : State) (fn why : Nat) : (State.authFailed s fn why).held = s.held := by
  simp only [State.authFailed, held_mk, held_fold, apply_ite State.held, ite_self, State.setFlag_held, State.addSat_held, State.secCnt_held]

theorem execRoleAssume_held (cmd role number sigR sigS : Nat) (s : State) : Holds s (execRoleAssume cmd role number sigR sigS s) := by
  unfold execRoleAssume
  repeat' (first | simp only [apply_ite State.held, ite_self, State.finish_held, State.event_held, State.setSession_held, State.arm_held,
                          State.secCnt_held, State.authFailed_held] | split | with_reducible refine onVendor_holds _ _ _ _ (fun u => ?_) | with_reducible refine (foldl_held _ _ _ (fun u _ => ?_)).trans ?_)

theorem execRoleRelease_held (cmd reserved : Nat) (s : State) : Holds s (execRoleRelease cmd reserved s) := by
  unfold execRoleRelease
  repeat' (first | simp only [State.finish_held, State.endSession_held] | split | with_reducible refine onVendor_holds _ _ _ _ (fun u => ?_) | with_reducible refine (foldl_held _ _ _ (fun u _ => ?_)).trans ?_)

theorem State.keySelect_held (s : State) (v : Word) : (State.keySelect s v).held = s.held := by
  simp only [State.keySelect, held_mk, held_fold, State.setWord_held]

theorem State.keyAccess_held (s : State) (write : Bool) (v : Word) : (State.keyAccess s write v).2.held = s.held := by
  unfold State.keyAccess
  repeat' (first | simp only [held_mk, held_fold, apply_ite State.held, ite_self, State.addWrap_held] | split)

theorem State.keyCommit_held (s : State) (pf : Nat) : (State.keyCommit s pf).held = s.held := by
  simp only [State.keyCommit, held_mk, held_fold, apply_ite State.held, ite_self, State.setFld_held, State.secCnt_held, State.setFlag_held,
      State.cfsRequest_held]

theorem State.keyDiscard_held (s : State) : (State.keyDiscard s).held = s.held := by
  simp only [State.keyDiscard, held_mk, held_fold]

theorem State.debugUnlock_held (s : State) : (State.debugUnlock s).held = s.held := by
  simp only [State.debugUnlock, apply_ite State.held, ite_self, State.setFlag_held, State.secCnt_held]

theorem State.takeRound_held (n : Nat) (pf : Nat) (s : State) : (State.takeRound n pf s).2.held = s.held := by
  induction n generalizing s pf
  · first | rfl | (intro a t h; cases h)
  rename_i n ih
  unfold State.takeRound
  repeat' (first | simp only [State.setBank_held] | split | exact ih .. | exact (ih ..).trans (by assumption) | refine (ih ..).trans ?_ | with_reducible refine (foldl_held _ _ _ (fun u _ => ?_)).trans ?_)

theorem execEventWindowRead_held (cmd area count first : Nat) (s : State) : Holds s (execEventWindowRead cmd area count first s) := by
  unfold execEventWindowRead
  repeat' (first | (extract_lets +onlyGivenNames t; first | (refine holds_via (t := t) ?_ (fun ht => ?_); rotate_left; clear_value t; rotate_left; simp only [t]) | clear_value t) | simp only [apply_ite State.held, ite_self, State.finish_held, State.deny_held, State.send_held, State.takeRound_held, State.catchUp_held, *] | split | with_reducible refine onAdmin_holds _ _ _ (fun u => ?_) | with_reducible refine (foldl_held _ _ _ (fun u _ => ?_)).trans ?_)
  all_goals grind only [held_mk, held_fold, State.finish_held, State.deny_held, State.send_held, State.takeRound_held, State.catchUp_held]

end Sys2Proof.Machine
end

