-- ==== Sys2Proof/Laws/HeldCommands.lean ====
section
/-! SUPPORT. The store, the event areas, the key set and the namespaces through queues, the map, commands, courses and writes. -/

namespace Sys2Proof.Machine

set_option linter.unusedTactic false
set_option linter.unreachableTactic false
set_option linter.unusedSimpArgs false

theorem State.badDoorbell_held (s : State) (fn qid reason : Nat) (cq : Bool) : (State.badDoorbell s fn qid reason cq).held = s.held := by
  simp only [State.badDoorbell, apply_ite State.held, ite_self, State.setFld_held, State.putFlag_held, State.setFlag_held, State.qenCnt_held,
      State.asyncEvent_held]

theorem State.sqDoorbell_held (s : State) (fn qid v : Nat) : (State.sqDoorbell s fn qid v).held = s.held := by
  unfold State.sqDoorbell
  repeat' (first | simp only [State.badDoorbell_held, State.setFunc_held, State.applyPs_held] | split)

theorem execSqTailDoorbellWrite_held (fn qid val : Nat) (s : State) : Holds s (execSqTailDoorbellWrite fn qid val s) := by
  unfold execSqTailDoorbellWrite
  repeat' (first | simp only [implies_true, guarded_held, State.sqDoorbell_held] | split)

theorem State.cqInterrupt_held (s : State) (fn cq : Nat) : (State.cqInterrupt s fn cq).held = s.held := by
  unfold State.cqInterrupt
  repeat' (first | (extract_lets +onlyGivenNames t; first | (refine held_via (t := t) ?_ (fun ht => ?_); rotate_left; clear_value t; rotate_left; simp only [t]) | clear_value t) | simp only [apply_ite State.held, ite_self, State.raise_held, State.setFunc_held, State.cancel_held, State.arm_held, State.qenCnt_held, *] | split | with_reducible refine (foldl_held _ _ _ (fun u _ => ?_)).trans ?_)
  all_goals grind only [held_mk, held_fold, State.raise_held, State.setFunc_held, State.cancel_held, State.arm_held, State.qenCnt_held]

theorem State.postEntry_held (s : State) (c cq : Nat) (k : Cmd) (st : Status) (dw0 : Nat) : (State.postEntry s c cq k st dw0).held = s.held := by
  simp only [State.postEntry, held_mk, held_fold, apply_ite State.held, ite_self, State.setFunc_held, State.send_held, State.qenCnt_held,
      State.linkUse_held, State.addSat_held, State.cqInterrupt_held]

theorem State.post_held (s : State) (c : Nat) : (State.post s c).held = s.held := by
  unfold State.post
  repeat' (first | (extract_lets +onlyGivenNames t; first | (refine held_via (t := t) ?_ (fun ht => ?_); rotate_left; clear_value t; rotate_left; simp only [t]) | clear_value t) | simp only [held_mk, held_fold, apply_ite State.held, ite_self, State.setFunc_held, State.setFlag_held, State.qenCnt_held, State.postEntry_held, *] | split | with_reducible refine (foldl_held _ _ _ (fun u _ => ?_)).trans ?_)
  all_goals grind only [held_mk, held_fold, State.setFunc_held, State.setFlag_held, State.qenCnt_held, State.postEntry_held]

theorem State.postHeld_held (n : Nat) (fn : Nat) (cq : Nat) (s : State) : (State.postHeld n fn cq s).held = s.held := by
  induction n generalizing s fn cq
  · first | rfl | (intro a t h; cases h)
  rename_i n ih
  unfold State.postHeld
  repeat' (first | simp only [apply_ite State.held, State.setFunc_held,
                          State.postEntry_held] | split | exact ih .. | exact (ih ..).trans (by assumption) | refine (ih ..).trans ?_ | with_reducible refine (foldl_held _ _ _ (fun u _ => ?_)).trans ?_)

theorem State.cqDoorbell_held (s : State) (fn qid v : Nat) : (State.cqDoorbell s fn qid v).held = s.held := by
  unfold State.cqDoorbell
  repeat' (first | (extract_lets +onlyGivenNames t; first | (refine held_via (t := t) ?_ (fun ht => ?_); rotate_left; clear_value t; rotate_left; simp only [t]) | clear_value t) | simp only [State.badDoorbell_held, State.setFunc_held, State.postHeld_held, *] | split | with_reducible refine (foldl_held _ _ _ (fun u _ => ?_)).trans ?_)
  all_goals grind only [held_mk, held_fold, State.badDoorbell_held, State.setFunc_held, State.postHeld_held]

theorem execCqHeadDoorbellWrite_held (fn qid val : Nat) (s : State) : Holds s (execCqHeadDoorbellWrite fn qid val s) := by
  unfold execCqHeadDoorbellWrite
  repeat' (first | simp only [implies_true, guarded_held, State.cqDoorbell_held] | split)

theorem execInterruptAggregationTimeout_held (fn cq : Nat) (s : State) : Holds s (execInterruptAggregationTimeout fn cq s) := by
  unfold execInterruptAggregationTimeout
  repeat' (first | simp only [State.setFunc_held, State.raise_held] | split | with_reducible refine onTimer_holds _ _ _ (fun u => ?_) | with_reducible refine (foldl_held _ _ _ (fun u _ => ?_)).trans ?_)

theorem State.unmaskVector_held (s : State) (fn vec : Nat) : (State.unmaskVector s fn vec).held = s.held := by
  simp only [State.unmaskVector, apply_ite State.held, ite_self, State.setFunc_held, State.send_held, State.qenCnt_held]

theorem execMsixVectorUnmask_held (fn vec : Nat) (s : State) : Holds s (execMsixVectorUnmask fn vec s) := by
  unfold execMsixVectorUnmask
  repeat' (first | simp only [implies_true, guarded_held, State.unmaskVector_held] | split)

theorem State.chooseQueue_held (s : State) (fn : Nat) : ∀ a t, s.chooseQueue fn = some (a, t) → t.held = s.held := by
  intro a t h
  unfold State.chooseQueue at h
  have note (u : State) (l : List (Nat × Nat)) : State.held { u with q := { u.q with lastQ := l } } = u.held := by simp only [held_mk, held_fold]
  simp only [] at h
  split at h
  · simp only [Option.map_eq_some_iff] at h
    obtain ⟨q, _, e⟩ := h
    cases e; exact note ..
  · split at h
    · cases h; exact note ..
    · split at h
      · cases h
      · simp only [Option.map_eq_some_iff] at h
        obtain ⟨q, _, e⟩ := h
        cases e; simp only [held_mk, held_fold]

theorem State.newTag_held (s : State) (p : Nat) : (State.newTag s p).2.held = s.held := by
  unfold State.newTag
  repeat' (first | (extract_lets +onlyGivenNames t; first | (refine held_via (t := t) ?_ (fun ht => ?_); rotate_left; clear_value t; rotate_left; simp only [t]) | clear_value t) | simp only [held_mk, held_fold, *] | split | with_reducible refine (foldl_held _ _ _ (fun u _ => ?_)).trans ?_)
  all_goals grind only [held_mk, held_fold]

theorem State.request_held (s : State) (fn : Nat) (kind : NpKind) (obj len : Nat) : (State.request s fn kind obj len).2.held = s.held := by
  unfold State.request
  repeat' (first | (extract_lets +onlyGivenNames t; first | (refine held_via (t := t) ?_ (fun ht => ?_); rotate_left; clear_value t; rotate_left; simp only [t]) | clear_value t) | simp only [held_mk, held_fold, State.newTag_held, State.send_held, State.hifCnt_held, State.linkUse_held, State.arm_held, *] | split | with_reducible refine (foldl_held _ _ _ (fun u _ => ?_)).trans ?_)
  all_goals grind only [held_mk, held_fold, State.newTag_held, State.send_held, State.hifCnt_held, State.linkUse_held, State.arm_held]

theorem State.fetchReads_held (n : Nat) (fn : Nat) (qid : Nat) (m : Nat) (s : State) : (State.fetchReads n fn qid m s).held = s.held := by
  induction n generalizing s fn qid m
  · first | rfl | (intro a t h; cases h)
  rename_i n ih
  unfold State.fetchReads
  repeat' (first | (extract_lets +onlyGivenNames t; first | (refine held_via (t := t) ?_ (fun ht => ?_); rotate_left; clear_value t; rotate_left; simp only [t]) | clear_value t) | simp only [held_mk, held_fold, apply_ite State.held, ite_self, State.request_held, State.updFunc_held, *] | split | exact ih .. | exact (ih ..).trans (by assumption) | refine (ih ..).trans ?_ | with_reducible refine (foldl_held _ _ _ (fun u _ => ?_)).trans ?_)
  all_goals grind only [held_mk, held_fold, State.request_held, State.updFunc_held]

theorem State.grantQueue_held (s : State) (fn qid : Nat) : (State.grantQueue s fn qid).held = s.held := by
  simp only [State.grantQueue, State.fetchReads_held]

theorem State.withheld_held (s : State) : (State.withheld s).held = s.held := by
  simp only [State.withheld, apply_ite State.held, ite_self, State.setFlag_held, State.qenCnt_held]

theorem execFetchGrant_held (s : State) : Holds s (execFetchGrant s) := by
  unfold execFetchGrant
  repeat' (first | (extract_lets +onlyGivenNames t; first | (refine holds_via (t := t) ?_ (fun ht => ?_); rotate_left; clear_value t; rotate_left; simp only [t]) | clear_value t) | simp only [held_mk, held_fold, apply_ite State.held, ite_self, implies_true, foldl_held, Holds_next, State.withheld_held, State.grantQueue_held, State.updFunc_held, *] | split | with_reducible refine (foldl_held _ _ _ (fun u _ => ?_)).trans ?_)
  all_goals grind only [held_mk, held_fold, State.withheld_held, State.grantQueue_held, State.updFunc_held, State.chooseQueue_held]

theorem State.addStitch_held (s : State) (c : Nat) (k : Cmd) (first count : Nat) : (State.addStitch s c k first count).held = s.held := by
  simp only [State.addStitch, held_mk, held_fold, State.updCmd_held, State.arm_held, State.qenCnt_held]

theorem State.cutStitches_held (n : Nat) (c : Nat) (s : State) : (State.cutStitches n c s).held = s.held := by
  induction n generalizing s c
  · first | rfl | (intro a t h; cases h)
  rename_i n ih
  unfold State.cutStitches
  repeat' (first | simp only [apply_ite State.held, State.setFlag_held,
                          State.qenCnt_held] | split | exact ih .. | exact (ih ..).trans (by assumption) | refine (ih ..).trans ?_ | with_reducible refine (foldl_held _ _ _ (fun u _ => ?_)).trans ?_)

theorem State.park_held (s : State) (id reason : Nat) : (State.park s id reason).held = s.held := by
  unfold State.park
  repeat' (first | simp only [held_mk, held_fold, apply_ite State.held, State.cancel_held, State.qenCnt_held, State.hifCnt_held] | split)

theorem State.parkAll_held (s : State) (c reason : Nat) : (State.parkAll s c reason).held = s.held := by
  simp only [State.parkAll, implies_true, foldl_held, State.park_held]

theorem State.begin_held (s : State) (c : Nat) : (State.begin s c).held = s.held := by
  simp only [State.begin, apply_ite State.held, ite_self, State.updCmd_held, State.cutStitches_held, State.parkAll_held, State.qenCnt_held]

theorem State.admitLock_held (s : State) (c : Nat) : (State.admitLock s c).held = s.held := by
  unfold State.admitLock
  repeat' (first | simp only [held_mk, held_fold, apply_ite State.held, ite_self, State.begin_held, State.updCmd_held, State.setFlag_held,
                          State.qenCnt_held] | split)

theorem execInterlockAdmit_held (s : State) : Holds s (execInterlockAdmit s) := by
  unfold execInterlockAdmit
  repeat' (first | simp only [held_mk, held_fold, apply_ite State.held, ite_self, Holds_next,
                          State.begin_held] | split | with_reducible refine (foldl_held _ _ _ (fun u _ => ?_)).trans ?_)

theorem execStitchCut_held (s : State) : Holds s (execStitchCut s) := by
  unfold execStitchCut
  repeat' (first | simp only [implies_true, foldl_held, Holds_next, State.cutStitches_held] | split)

theorem State.accept_held (s : State) (fn qid : Nat) (e : Sqe) : (State.accept s fn qid e).held = s.held := by
  simp only [State.accept, held_mk, held_fold, apply_ite State.held, ite_self, State.updFunc_held, State.qenCnt_held, State.touch_held,
      State.admitLock_held, State.begin_held]

theorem State.acceptArrived_held (n : Nat) (fn : Nat) (qid : Nat) (s : State) : (State.acceptArrived n fn qid s).held = s.held := by
  induction n generalizing s fn qid
  · first | rfl | (intro a t h; cases h)
  rename_i n ih
  unfold State.acceptArrived
  repeat' (first | simp only [held_mk, held_fold, implies_true, foldl_held,
                          State.accept_held] | split | exact ih .. | exact (ih ..).trans (by assumption) | refine (ih ..).trans ?_ | with_reducible refine (foldl_held _ _ _ (fun u _ => ?_)).trans ?_)

theorem execSubmissionFetchComplete_held (port tag : Nat) (entries : List Sqe) (s : State)
    : Holds s (execSubmissionFetchComplete port tag entries s) := by
  unfold execSubmissionFetchComplete
  repeat' (first | simp only [held_mk, held_fold, Holds_next, Holds_fault, State.cancel_held, State.acceptArrived_held] | split)

theorem State.grantResource_held (s : State) (res : Nat) : (s.grantResource res).2.held = s.held := by
  unfold State.grantResource
  split
  · rfl
  · split
    · simp only [held_mk, held_fold]
    · simp only [apply_ite State.held, State.qenCnt_held, State.cancel_held, held_mk, held_fold, ite_self]
  · simp only [held_mk, held_fold]

theorem execStitchAgingExpiry_held (stitch : Nat) (s : State) : Holds s (execStitchAgingExpiry stitch s) := by
  unfold execStitchAgingExpiry
  repeat' (first | simp only [held_mk, held_fold, apply_ite State.held, ite_self, State.arm_held,
                          State.qenCnt_held] | split | with_reducible refine onTimer_holds _ _ _ (fun u => ?_) | with_reducible refine (foldl_held _ _ _ (fun u _ => ?_)).trans ?_)

theorem execLevel6Starvation_held (res : Nat) (s : State) : Holds s (execLevel6Starvation res s) := by
  unfold execLevel6Starvation
  repeat' (first | simp only [held_mk, held_fold, Holds_next] | split)

theorem State.settleDeletes_held (s : State) : (State.settleDeletes s).held = s.held := by
  unfold State.settleDeletes
  repeat' (first | simp only [apply_ite State.held, ite_self, State.updFunc_held,
                          State.finish_held] | split | with_reducible refine (foldl_held _ _ _ (fun u _ => ?_)).trans ?_)

theorem execCompletionPost_held (cmd : Nat) (s : State) : Holds s (execCompletionPost cmd s) := by
  unfold execCompletionPost
  repeat' (first | simp only [implies_true, guarded_held, State.post_held, State.settleDeletes_held] | split)

theorem execFlush_held (cmd : Nat) (s : State) : Holds s (execFlush cmd s) := by
  unfold execFlush
  repeat' (first | simp only [apply_ite State.held, ite_self, State.fail_held, State.updCmd_held, State.finish_held,
                          State.qenCnt_held] | split | with_reducible refine onIo_holds _ _ _ _ (fun u => ?_) | with_reducible refine (foldl_held _ _ _ (fun u _ => ?_)).trans ?_)

theorem State.endCommand_held (s : State) (c : Nat) : (State.endCommand s c).held = s.held := by
  unfold State.endCommand
  repeat' (first | simp only [held_mk, held_fold, apply_ite State.held, ite_self, State.dropStitches_held, State.unlock_held, State.qenCnt_held,
                          State.updCmd_held] | split)

theorem State.endCommands_held (s : State) (fn : Nat) : (State.endCommands s fn).held = s.held := by
  simp only [State.endCommands, held_mk, held_fold, implies_true, foldl_held, State.endCommand_held]

theorem State.fwDiscard_held (s : State) : (State.fwDiscard s).held = s.held := by
  simp only [State.fwDiscard, held_mk, held_fold, State.setFld_held]

theorem State.dropDownload_held (s : State) (fn : Nat) : (State.dropDownload s fn).held = s.held := by
  simp only [State.dropDownload, apply_ite State.held, ite_self, State.fwDiscard_held]

theorem State.ctrlReset_held (s : State) (fn : Nat) : (State.ctrlReset s fn).held = s.held := by
  simp only [State.ctrlReset, apply_ite State.held, ite_self, State.endCommands_held, State.dropDownload_held, State.setFunc_held, State.qenCnt_held,
      State.endSession_held, State.applyPs_held]

theorem State.raiseSvn_held (s : State) (img : List FwPart) : (State.raiseSvn s img).held = s.held := by
  simp only [State.raiseSvn, apply_ite State.held, ite_self, implies_true, foldl_held, State.setFld_held]

theorem State.raiseRunning_held (s : State) : (State.raiseRunning s).held = s.held := by
  simp only [State.raiseRunning, apply_ite State.held, ite_self, State.raiseSvn_held, State.cfsRequest_held]

theorem State.becomeReady_held (s : State) (fn : Nat) : (State.becomeReady s fn).held = s.held := by
  simp only [State.becomeReady, apply_ite State.held, ite_self, State.setFunc_held, State.raiseRunning_held, State.applyPs_held]

theorem execControllerReset_held (fn : Nat) (s : State) : Holds s (execControllerReset fn s) := by
  unfold execControllerReset
  repeat' (first | simp only [apply_ite State.held, ite_self, implies_true, guarded_held, State.ctrlReset_held] | split)

theorem State.ctrlEnable_held (s : State) (fn ams asqSize acqSize : Nat) : (State.ctrlEnable s fn ams asqSize acqSize).held = s.held := by
  simp only [State.ctrlEnable, apply_ite State.held, ite_self, State.setFunc_held, State.updFunc_held, State.becomeReady_held]

theorem execControllerEnable_held (fn ams asqSize acqSize : Nat) (s : State) : Holds s (execControllerEnable fn ams asqSize acqSize s) := by
  unfold execControllerEnable
  repeat' (first | simp only [implies_true, guarded_held, State.ctrlEnable_held] | split)

theorem State.shutdown_held (s : State) (fn shn : Nat) : (State.shutdown s fn shn).held = s.held := by
  simp only [State.shutdown, apply_ite State.held, ite_self, State.endCommands_held, State.updFunc_held]

theorem execShutdownNormal_held (fn : Nat) (s : State) : Holds s (execShutdownNormal fn s) := by
  unfold execShutdownNormal
  repeat' (first | simp only [implies_true, guarded_held, State.shutdown_held] | split)

theorem execShutdownAbrupt_held (fn : Nat) (s : State) : Holds s (execShutdownAbrupt fn s) := by
  unfold execShutdownAbrupt
  repeat' (first | simp only [implies_true, guarded_held, State.shutdown_held] | split)

theorem execShutdownComplete_held (fn : Nat) (s : State) : Holds s (execShutdownComplete fn s) := by
  unfold execShutdownComplete
  repeat' (first | simp only [apply_ite State.held, ite_self, implies_true, State.updFunc_held, State.qenCnt_held, guarded_held,
                          State.becomeReady_held, State.applyPs_held] | split)

theorem State.lifCnt_held (s : State) (n : Nat) (k : Nat) : (State.lifCnt s n k).held = s.held := by
  simp only [State.lifCnt, State.addWrap_held]

theorem State.closeGroup_held (s : State) (final clean : Bool) : (State.closeGroup s final clean).held = s.held := by
  unfold State.closeGroup
  repeat' (first | (extract_lets +onlyGivenNames t; first | (refine held_via (t := t) ?_ (fun ht => ?_); rotate_left; clear_value t; rotate_left; simp only [t]) | clear_value t) | simp only [held_mk, held_fold, State.cancel_held, State.lifCnt_held, *] | split | with_reducible refine (foldl_held _ _ _ (fun u _ => ?_)).trans ?_)
  all_goals grind only [held_mk, held_fold, State.cancel_held, State.lifCnt_held]

theorem State.openNew_held (s : State) : (State.openNew s).held = s.held := by
  unfold State.openNew
  repeat' (first | simp only [held_mk, held_fold, State.arm_held] | split)

theorem State.batch_held (s : State) (rs : List Rec) : (State.batch s rs).held = s.held := by
  simp only [State.batch, held_mk, held_fold, apply_ite State.held, ite_self, State.closeGroup_held, State.lifCnt_held, State.openNew_held]

theorem execGroupTimerExpiry_held (s : State) : Holds s (execGroupTimerExpiry s) := by
  unfold execGroupTimerExpiry
  repeat' (first | simp only [State.closeGroup_held, State.lifCnt_held] | split | with_reducible refine onTimer_holds _ _ _ (fun u => ?_) | with_reducible refine (foldl_held _ _ _ (fun u _ => ?_)).trans ?_)

theorem State.crsCnt_held (s : State) (n : Nat) (k : Nat) : (State.crsCnt s n k).held = s.held := by
  simp only [State.crsCnt, State.addWrap_held]

theorem State.rclCnt_held (s : State) (n : Nat) (k : Nat) : (State.rclCnt s n k).held = s.held := by
  simp only [State.rclCnt, State.addWrap_held]

theorem State.sknCnt_held (s : State) (die n : Nat) (k : Nat) : (State.sknCnt s die n k).held = s.held := by
  simp only [State.sknCnt, State.addWrap_held]

theorem State.setBlk_held (s : State) (b : Nat) (x : Blk) : (State.setBlk s b x).held = s.held := by
  simp only [State.setBlk, held_mk, held_fold]

theorem State.updBlk_held (s : State) (b : Nat) (f : Blk → Blk) : (State.updBlk s b f).held = s.held := by
  simp only [State.updBlk, State.setBlk_held]

theorem State.setTemp_held (s : State) (i c : Nat) : (State.setTemp s i c).held = s.held := by
  simp only [State.setTemp, held_mk, held_fold, apply_ite State.held, ite_self, State.setFld_held]

theorem State.queueVictim_held (s : State) (n reason level : Nat) : (State.queueVictim s n reason level).held = s.held := by
  simp only [State.queueVictim, held_mk, held_fold, apply_ite State.held, ite_self, State.setFld_held, State.rclCnt_held]

theorem State.noteF_held (s : State) : (State.noteF s).held = s.held := by
  simp only [State.noteF, held_mk, held_fold, apply_ite State.held, ite_self, State.addSat_held, State.setFld_held, State.setFlag_held,
      State.armOnce_held, State.cancel_held]

theorem State.discardSlots_held (s : State) (c : Nat) : (State.discardSlots s c).held = s.held := by
  simp only [State.discardSlots, held_mk, held_fold]

theorem State.failWrite_held (s : State) (c : Nat) (st : Status) : (State.failWrite s c st).held = s.held := by
  simp only [State.failWrite, State.discardSlots_held, State.fail_held]

theorem State.degrade_held (s : State) (cause : Nat) : (State.degrade s cause).held = s.held := by
  simp only [State.degrade, held_mk, held_fold, State.critWarn_held]

theorem State.undegrade_held (s : State) (cause : Nat) : (State.undegrade s cause).held = s.held := by
  simp only [State.undegrade, held_mk, held_fold, apply_ite State.held, ite_self, State.critClear_held]

theorem State.enterReadOnly_held (s : State) (cause : Nat) : (State.enterReadOnly s cause).held = s.held := by
  simp only [State.enterReadOnly, apply_ite State.held, ite_self, implies_true, foldl_held, State.setFlag_held, State.setFld_held,
      State.critWarn_held, State.event_held, State.failWrite_held, State.rclCnt_held, State.cancel_held, State.noteC0_held]

theorem State.checkSpare_held (s : State) : (State.checkSpare s).held = s.held := by
  simp only [State.checkSpare, apply_ite State.held, ite_self, State.critWarn_held, State.setFlag_held, State.event_held, State.critClear_held,
      State.degrade_held, State.undegrade_held, State.enterReadOnly_held]

theorem State.dieOut_held (s : State) (d reason : Nat) : (State.dieOut s d reason).held = s.held := by
  simp only [State.dieOut, held_mk, held_fold, apply_ite State.held, ite_self, implies_true, foldl_held, State.setFld_held, State.setFlag_held,
      State.event_held, State.putSat_held, State.queueVictim_held, State.checkSpare_held, State.noteF_held]

theorem State.retire_held (s : State) (b reason : Nat) : (State.retire s b reason).held = s.held := by
  simp only [State.retire, held_mk, held_fold, apply_ite State.held, ite_self, State.updBlk_held, State.batch_held, State.event_held,
      State.addSat_held, State.crsCnt_held, State.dieOut_held, State.checkSpare_held, State.noteF_held]

theorem State.pfLog_held (s : State) (kind b : Nat) : (State.pfLog s kind b).held = s.held := by
  simp only [State.pfLog, implies_true, foldl_held, State.setWord_held, State.setFld_held]

theorem execReadOnlyStall_held (s : State) : Holds s (execReadOnlyStall s) := by
  unfold execReadOnlyStall
  repeat' (first | simp only [apply_ite State.held, ite_self,
                          State.enterReadOnly_held] | split | with_reducible refine onTimer_holds _ _ _ (fun u => ?_) | with_reducible refine (foldl_held _ _ _ (fun u _ => ?_)).trans ?_)

theorem State.mapCnt_held (s : State) (n : Nat) (k : Nat) : (State.mapCnt s n k).held = s.held := by
  simp only [State.mapCnt, State.addWrap_held]

theorem State.notePool_held (s : State) : (State.notePool s).held = s.held := by
  unfold State.notePool
  repeat' (first | simp only [apply_ite State.held, State.setFld_held, State.setFlag_held] | split)

theorem State.dropMedia_held (s : State) (b : Nat) : (State.dropMedia s b).held = s.held := by
  simp only [State.dropMedia, held_mk, held_fold]

theorem State.courseEmpty_held (s : State) (n : Nat) (c : Course) : (State.courseEmpty s n c).held = s.held := by
  simp only [State.courseEmpty, held_mk, held_fold, apply_ite State.held, ite_self, implies_true, foldl_held, State.batch_held, State.updBlk_held,
      State.retire_held, State.rclCnt_held]

theorem State.settleCourse_held (s : State) (n : Nat) : (State.settleCourse s n).held = s.held := by
  unfold State.settleCourse
  repeat' (first | simp only [apply_ite State.held, ite_self, State.courseEmpty_held] | split)

theorem State.settle_held (s : State) (bs : List Nat) : (State.settle s bs).held = s.held := by
  simp only [State.settle, implies_true, foldl_held, State.settleCourse_held]

theorem State.putExt_held (s : State) (e : Nat) (x : Ext) : (State.putExt s e x).held = s.held := by
  unfold State.putExt
  repeat' (first | (extract_lets +onlyGivenNames t; first | (refine held_via (t := t) ?_ (fun ht => ?_); rotate_left; clear_value t; rotate_left; simp only [t]) | clear_value t) | simp only [held_mk, held_fold, apply_ite State.held, ite_self, State.mapCnt_held, State.notePool_held, State.settle_held, *] | split | with_reducible refine (foldl_held _ _ _ (fun u _ => ?_)).trans ?_)
  all_goals grind only [held_mk, held_fold, State.mapCnt_held, State.notePool_held, State.settle_held]

theorem State.putFines_held (s : State) (e : Nat) (fs : List FEntry) : (State.putFines s e fs).held = s.held := by
  unfold State.putFines
  repeat' (first | simp only [State.putExt_held, State.mapCnt_held] | split)

theorem State.setSlots_held (s : State) (e : Nat) (ps : List (Nat × FEntry)) : (State.setSlots s e ps).1.held = s.held := by
  unfold State.setSlots
  repeat' (first | simp only [State.putFines_held, State.mapCnt_held] | split)

theorem State.setWhole_held (s : State) (e : Nat) (x : Ext) : (State.setWhole s e x).1.held = s.held := by
  unfold State.setWhole
  repeat' (first | simp only [State.putExt_held, State.mapCnt_held] | split)

theorem State.countLookup_held (s : State) (e : Nat) : (State.countLookup s e).held = s.held := by
  unfold State.countLookup
  repeat' (first | simp only [State.mapCnt_held] | split)

theorem State.mapError_held (s : State) (cause e : Nat) : (State.mapError s cause e).held = s.held := by
  simp only [State.mapError, State.setFld_held, State.setWord_held, State.mapCnt_held]

theorem State.stall_held (s : State) (cause e : Nat) : (State.stall s cause e).held = s.held := by
  simp only [State.stall, held_mk, held_fold, apply_ite State.held, ite_self, State.mapError_held, State.setFlag_held, State.event_held]

theorem execMapSegmentStall_held (cause e : Nat) (s : State) : Holds s (execMapSegmentStall cause e s) := by
  unfold execMapSegmentStall
  repeat' (first | simp only [implies_true, guarded_held, State.stall_held] | split)

theorem execOwnerTableError_held (e : Nat) (done : Bool) (s : State) : Holds s (execOwnerTableError e done s) := by
  unfold execOwnerTableError
  repeat' (first | simp only [held_mk, held_fold, Holds_next, State.mapError_held] | split)

theorem execAgeEpochTick_held (s : State) : Holds s (execAgeEpochTick s) := by
  unfold execAgeEpochTick
  repeat' (first | simp only [State.addWrap_held, State.arm_held] | split | with_reducible refine onTimer_holds _ _ _ (fun u => ?_) | with_reducible refine (foldl_held _ _ _ (fun u _ => ?_)).trans ?_)

theorem State.deallocWhole_held (s : State) (e count : Nat) : (State.deallocWhole s e count).1.held = s.held := by
  unfold State.deallocWhole
  repeat' (first | simp only [implies_true, foldl_held, State.putExt_held, State.mapCnt_held] | split)

theorem State.deallocPart_held (s : State) (n : Ns) (e i k : Nat) : (State.deallocPart s n e i k).1.held = s.held := by
  unfold State.deallocPart
  repeat' (first | simp only [State.putFines_held, State.mapCnt_held] | split)

theorem State.deallocRange_held (s : State) (n : Ns) (slba nlb : Nat) : (s.deallocRange n slba nlb).1.held = s.held := by
  unfold State.deallocRange
  refine foldl_held_fst _ _ _ (fun acc g => ?_)
  split
  · rfl
  next e0 _ =>
  simp only []
  split
  · exact State.deallocPart_held ..
  · have h0 : (if g.1 < (g.1 + 15) / 16 * 16 then acc.1.deallocPart n e0 (g.1 % 16) ((g.1 + 15) / 16 * 16 - g.1) else (acc.1,
      [])).1.held = acc.1.held := by
      split
      · exact State.deallocPart_held ..
      · rfl
    generalize (if g.1 < (g.1 + 15) / 16 * 16 then acc.1.deallocPart n e0 (g.1 % 16) ((g.1 + 15) / 16 * 16 - g.1) else (acc.1, [])) = p0 at h0 ⊢
    obtain ⟨t0, r0⟩ := p0
    simp only [] at h0 ⊢
    have h1 := State.deallocWhole_held t0 (e0 / 16384 * 16384 + (g.1 + 15) / 16 * 16 / 16 % 16384)
        (((g.1 + g.2) / 16 * 16 - (g.1 + 15) / 16 * 16) / 16)
    generalize t0.deallocWhole (e0 / 16384 * 16384 + (g.1 + 15) / 16 * 16 / 16 % 16384)
        (((g.1 + g.2) / 16 * 16 - (g.1 + 15) / 16 * 16) / 16) = p1 at h1 ⊢
    obtain ⟨t1, r1⟩ := p1
    simp only [] at h1 ⊢
    split
    · exact (State.deallocPart_held ..).trans (h1.trans h0)
    · exact h1.trans h0

theorem execUnsupportedCommand_held (cmd : Nat) (s : State) : Holds s (execUnsupportedCommand cmd s) := by
  unfold execUnsupportedCommand
  repeat' (first | simp only [Holds_next, Holds_fault, State.fail_held] | split)

theorem execCreateIoCq_held (cmd qid size vec : Nat) (intEn contiguous inCmb : Bool) (s : State)
    : Holds s (execCreateIoCq cmd qid size vec intEn contiguous inCmb s) := by
  unfold execCreateIoCq
  repeat' (first | simp only [apply_ite State.held, ite_self, State.finish_held,
                          State.setFunc_held] | split | with_reducible refine onAdmin_holds _ _ _ (fun u => ?_) | with_reducible refine (foldl_held _ _ _ (fun u _ => ?_)).trans ?_)

theorem execCreateIoSq_held (cmd qid size cq prio : Nat) (contiguous inCmb : Bool) (s : State)
    : Holds s (execCreateIoSq cmd qid size cq prio contiguous inCmb s) := by
  unfold execCreateIoSq
  repeat' (first | simp only [apply_ite State.held, ite_self, State.finish_held,
                          State.setFunc_held] | split | with_reducible refine onAdmin_holds _ _ _ (fun u => ?_) | with_reducible refine (foldl_held _ _ _ (fun u _ => ?_)).trans ?_)

theorem execDeleteIoSq_held (cmd qid : Nat) (s : State) : Holds s (execDeleteIoSq cmd qid s) := by
  unfold execDeleteIoSq
  repeat' (first | simp only [apply_ite State.held, ite_self, State.finish_held, State.setFunc_held, State.updCmd_held,
                          State.qenCnt_held] | split | with_reducible refine onAdmin_holds _ _ _ (fun u => ?_) | with_reducible refine (foldl_held _ _ _ (fun u _ => ?_)).trans ?_)

theorem execDeleteIoCq_held (cmd qid : Nat) (s : State) : Holds s (execDeleteIoCq cmd qid s) := by
  unfold execDeleteIoCq
  repeat' (first | simp only [apply_ite State.held, ite_self, State.finish_held,
                          State.setFunc_held] | split | with_reducible refine onAdmin_holds _ _ _ (fun u => ?_) | with_reducible refine (foldl_held _ _ _ (fun u _ => ?_)).trans ?_)

theorem execAbort_held (cmd _sqid _cid : Nat) (s : State) : Holds s (execAbort cmd _sqid _cid s) := by
  unfold execAbort
  repeat' (first | simp only [State.qenCnt_held, State.finish_held] | split | with_reducible refine onAdmin_holds _ _ _ (fun u => ?_) | with_reducible refine (foldl_held _ _ _ (fun u _ => ?_)).trans ?_)

theorem execAsyncEventRequest_held (cmd : Nat) (s : State) : Holds s (execAsyncEventRequest cmd s) := by
  unfold execAsyncEventRequest
  repeat' (first | simp only [apply_ite State.held, ite_self, State.setFunc_held, State.finish_held,
                          State.updCmd_held] | split | with_reducible refine onAdmin_holds _ _ _ (fun u => ?_) | with_reducible refine (foldl_held _ _ _ (fun u _ => ?_)).trans ?_)

theorem execSetFeaturesTimestamp_held (cmd timeMs : Nat) (s : State) : Holds s (execSetFeaturesTimestamp cmd timeMs s) := by
  unfold execSetFeaturesTimestamp
  repeat' (first | simp only [State.setTime_held, State.setFld_held, State.finish_held,
                          State.event_held] | split | with_reducible refine onAdmin_holds _ _ _ (fun u => ?_) | with_reducible refine (foldl_held _ _ _ (fun u _ => ?_)).trans ?_)

theorem execIdentify_held (cmd cns cntid : Nat) (s : State) : Holds s (execIdentify cmd cns cntid s) := by
  unfold execIdentify
  repeat' (first | simp only [State.send_held, State.finish_held] | split | with_reducible refine onAdmin_holds _ _ _ (fun u => ?_) | with_reducible refine (foldl_held _ _ _ (fun u _ => ?_)).trans ?_)

theorem execDirectiveSend_held (cmd dtype doper _dspec cdw12 : Nat) (s : State) : Holds s (execDirectiveSend cmd dtype doper _dspec cdw12 s) := by
  unfold execDirectiveSend
  repeat' (first | simp only [State.finish_held, State.updFunc_held] | split | with_reducible refine onAdmin_holds _ _ _ (fun u => ?_) | with_reducible refine (foldl_held _ _ _ (fun u _ => ?_)).trans ?_)

theorem execDirectiveReceive_held (cmd dtype doper _dspec : Nat) (s : State) : Holds s (execDirectiveReceive cmd dtype doper _dspec s) := by
  unfold execDirectiveReceive
  repeat' (first | simp only [State.finish_held, State.send_held] | split | with_reducible refine onAdmin_holds _ _ _ (fun u => ?_) | with_reducible refine (foldl_held _ _ _ (fun u _ => ?_)).trans ?_)

theorem State.updCourse_held (s : State) (n : Nat) (f : Course → Course) : (State.updCourse s n f).held = s.held := by
  simp only [State.updCourse, held_mk, held_fold]

theorem State.openCourse_held (s : State) (w ply : Nat) (slc : Bool) (band handle g l : Nat) (bs : List (Option Nat))
    : (State.openCourse s w ply slc band handle g l bs).held = s.held := by
  simp only [State.openCourse, held_mk, held_fold, implies_true, foldl_held, State.updBlk_held, State.setWord_held, State.setFld_held,
      State.batch_held]

theorem State.formCourse_held (s : State) (band handle g l : Nat) : ∀ t, State.formCourse s band handle g l = some t → t.held = s.held := by
  intro t
  unfold State.formCourse
  repeat' (first | (intro h; cases h; done) | (intro h; cases h) | (extract_lets +onlyGivenNames t; first | (refine held_via (t := t) ?_ (fun ht => ?_); rotate_left; clear_value t; rotate_left; simp only [t]) | clear_value t) | simp only [apply_ite State.held, ite_self, State.openCourse_held, State.crsCnt_held, State.noteF_held, *] | split | with_reducible refine (foldl_held _ _ _ (fun u _ => ?_)).trans ?_)
  all_goals grind only [held_mk, held_fold, State.openCourse_held, State.crsCnt_held, State.noteF_held]

theorem State.setBand_held (s : State) (b : Band) : (State.setBand s b).held = s.held := by
  simp only [State.setBand, held_mk, held_fold]

theorem State.courseFor_held (n : Nat) (kind : Nat) (handle : Nat) (k : Nat) (page : Bool) (s : State) : ∀ a t,
    State.courseFor n kind handle k page s = some (a, t) → t.held = s.held := by
  induction n generalizing s kind handle k page
  · first | rfl | (intro a t h; cases h)
  rename_i n ih
  unfold State.courseFor
  repeat' (first | (intro a t h; cases h; done) | (intro a t h; cases h) | simp only [State.setBand_held] | split | exact ih .. | exact (ih ..).trans (by assumption) | refine (ih ..).trans ?_ | with_reducible refine (foldl_held _ _ _ (fun u _ => ?_)).trans ?_)
  all_goals grind only [held_mk, held_fold, State.setBand_held, State.formCourse_held]

theorem State.rowTimers_held (s : State) (n : Nat) : (State.rowTimers s n).held = s.held := by
  simp only [State.rowTimers, apply_ite State.held, ite_self, State.arm_held, State.armOnce_held]

theorem State.countPlaced_held (s : State) (band k : Nat) : (State.countPlaced s band k).held = s.held := by
  simp only [State.countPlaced, held_mk, held_fold, apply_ite State.held, ite_self]

theorem State.putAt_held (s : State) (n : Nat) (c : Course) (pos : Nat) (m : Member) (start : Nat) (cws : List Codeword)
    : (State.putAt s n c pos m start cws).2.held = s.held := by
  unfold State.putAt
  repeat' (first | (extract_lets +onlyGivenNames t; first | (refine held_via (t := t) ?_ (fun ht => ?_); rotate_left; clear_value t; rotate_left; simp only [t]) | clear_value t) | simp only [held_mk, held_fold, State.crsCnt_held, State.countPlaced_held, State.rowTimers_held, *] | split | with_reducible refine (foldl_held _ _ _ (fun u _ => ?_)).trans ?_)
  all_goals grind only [held_mk, held_fold, State.crsCnt_held, State.countPlaced_held, State.rowTimers_held]

theorem State.placeRun_held (s : State) (n : Nat) (page : Bool) (cws : List Codeword) : ∀ a t, s.placeRun n page cws = some (a,
    t) → t.held = s.held := by
  intro a t h
  simp only [State.placeRun, Option.bind_eq_some_iff, Option.map_eq_some_iff] at h
  obtain ⟨c, _, x, _, e⟩ := h
  have := congrArg Prod.snd e
  simp only [] at this
  rw [← this]
  have hp := State.putAt_held s n { c with nextMem := x.1 + 1 } x.2.1 x.2.2 (if page then (x.2.2.next + 3) / 4 * 4 else x.2.2.next) cws
  exact hp

theorem State.placeSmall_held (s : State) (n : Nat) (lba : Nat) (cw : Codeword) : ∀ a t, s.placeSmall n lba cw = some (a, t) → t.held = s.held := by
  intro a t h
  simp only [State.placeSmall, Option.bind_eq_some_iff, Option.map_eq_some_iff] at h
  obtain ⟨c, _, x, _, e⟩ := h
  cases e
  exact State.putAt_held ..

theorem State.placeAfter_held (s : State) (prev : Nat) (cw : Codeword) : ∀ a t, s.placeAfter prev cw = some (a, t) → t.held = s.held := by
  intro a t h
  simp only [State.placeAfter, Option.bind_eq_some_iff] at h
  obtain ⟨c, _, m, _, e⟩ := h
  split at e
  · cases e
    exact State.putAt_held ..
  · cases e

theorem State.touchParts_held (s : State) (dies : List Nat) : (State.touchParts s dies).held = s.held := by
  simp only [State.touchParts, held_mk, held_fold]

theorem State.closeCourse_held (s : State) (n : Nat) (row : Nat) : (s.closeCourse n row).held = s.held := by
  unfold State.closeCourse
  split
  · rfl
  next c _ =>
  extract_lets t1 t2 t3 t4 t5 t6 t7 t8
  have e1 : t1.held = s.held := by simp only [t1, State.updCourse_held]
  clear_value t1
  have e2 : t2.held = t1.held := foldl_held _ _ _ (fun u m => State.updBlk_held ..)
  clear_value t2
  have e5 : t5.held = t2.held := by simp only [t5, t4, t3, State.crsCnt_held, State.touchParts_held, State.batch_held, State.cancel_held]
  clear_value t5
  have e6 : t6.held = t5.held := by simp only [t6, apply_ite State.held, State.crsCnt_held, ite_self]
  clear_value t6
  have e7 : t7.held = t6.held := by simp only [t7, apply_ite State.held, State.setFlag_held, ite_self]
  clear_value t7
  have e8 : t8.held = t7.held := by
    simp only [t8]
    split
    · exact getD_held _ _ (fun t h => State.formCourse_held _ _ _ _ _ _ h)
    · rfl
  rw [State.settleCourse_held, e8, e7, e6, e5, e2, e1]

theorem State.padTo_held (s : State) (n : Nat) (row : Nat) : (State.padTo s n row).held = s.held := by
  unfold State.padTo
  repeat' (first | (extract_lets +onlyGivenNames t; first | (refine held_via (t := t) ?_ (fun ht => ?_); rotate_left; clear_value t; rotate_left; simp only [t]) | clear_value t) | simp only [held_mk, held_fold, State.crsCnt_held, *] | split | with_reducible refine (foldl_held _ _ _ (fun u _ => ?_)).trans ?_)
  all_goals grind only [held_mk, held_fold, State.crsCnt_held]

theorem State.padRow_held (s : State) (n : Nat) : (State.padRow s n).held = s.held := by
  unfold State.padRow
  repeat' (first | simp only [apply_ite State.held, ite_self, State.padTo_held] | split)

theorem execRowIdleTimeout_held (course : Nat) (s : State) : Holds s (execRowIdleTimeout course s) := by
  unfold execRowIdleTimeout
  repeat' (first | simp only [State.padRow_held] | split | with_reducible refine onTimer_holds _ _ _ (fun u => ?_) | with_reducible refine (foldl_held _ _ _ (fun u _ => ?_)).trans ?_)

theorem execExposedRowTimeout_held (course : Nat) (s : State) : Holds s (execExposedRowTimeout course s) := by
  unfold execExposedRowTimeout
  repeat' (first | simp only [apply_ite State.held, ite_self,
                          State.padRow_held] | split | with_reducible refine onTimer_holds _ _ _ (fun u => ?_) | with_reducible refine (foldl_held _ _ _ (fun u _ => ?_)).trans ?_)

theorem State.formDump_held (s : State) : (State.formDump s).held = s.held := by
  simp only [State.formDump, held_mk, held_fold, apply_ite State.held, ite_self, implies_true, foldl_held, State.openCourse_held, State.noteF_held]

theorem execRowProgramIssue_held (course pos : Nat) (s : State) : Holds s (execRowProgramIssue course pos s) := by
  unfold execRowProgramIssue
  repeat' (first | (extract_lets +onlyGivenNames t; first | (refine holds_via (t := t) ?_ (fun ht => ?_); rotate_left; clear_value t; rotate_left; simp only [t]) | clear_value t) | simp only [held_mk, held_fold, implies_true, Holds_fault, State.updCourse_held, State.sknCnt_held, guarded_held, State.arm_held, *] | split | with_reducible refine (foldl_held _ _ _ (fun u _ => ?_)).trans ?_)
  all_goals grind only [held_mk, held_fold, State.updCourse_held, State.sknCnt_held, guarded_held, State.arm_held]

theorem State.opEnd_held (s : State) (die : Nat) : (State.opEnd s die).held = s.held := by
  simp only [State.opEnd, held_mk, held_fold, State.cancel_held]

theorem execProgramComplete_held (course pos : Nat) (s : State) : Holds s (execProgramComplete course pos s) := by
  unfold execProgramComplete
  repeat' (first | (extract_lets +onlyGivenNames t; first | (refine holds_via (t := t) ?_ (fun ht => ?_); rotate_left; clear_value t; rotate_left; simp only [t]) | clear_value t) | simp only [held_mk, held_fold, apply_ite State.held, ite_self, State.opEnd_held, State.updCourse_held, State.crsCnt_held, State.closeCourse_held, State.padRow_held, State.armOnce_held, *] | split | with_reducible refine withSome_holds _ _ _ (fun u => ?_) | with_reducible refine (foldl_held _ _ _ (fun u _ => ?_)).trans ?_)
  all_goals grind only [held_mk, held_fold, State.opEnd_held, State.updCourse_held, State.crsCnt_held, State.closeCourse_held, State.padRow_held,
      State.armOnce_held]

theorem State.holdWrite_held (s : State) (c : Nat) : (State.holdWrite s c).held = s.held := by
  simp only [State.holdWrite, apply_ite State.held, ite_self, State.parkAll_held, State.crsCnt_held, State.setFlag_held, State.lifCnt_held,
      State.rclCnt_held]

theorem State.enterExposed_held (s : State) (cause : Nat) : (State.enterExposed s cause).held = s.held := by
  simp only [State.enterExposed, implies_true, foldl_held, State.setFlag_held, State.setFld_held, State.addSat_held, State.crsCnt_held,
      State.event_held, State.critWarn_held, State.armOnce_held, State.noteC0_held]

theorem State.protCheck_held (s : State) : (State.protCheck s).held = s.held := by
  simp only [State.protCheck, apply_ite State.held, ite_self, State.enterExposed_held, State.armOnce_held, State.cancel_held]

theorem execHoldOkDeassert_held (s : State) : Holds s (execHoldOkDeassert s) := by
  unfold execHoldOkDeassert
  repeat' (first | simp only [Holds_next, State.clrFlag_held, State.protCheck_held] | split)

theorem execHoldOkAssert_held (s : State) : Holds s (execHoldOkAssert s) := by
  unfold execHoldOkAssert
  repeat' (first | simp only [Holds_next, State.setFlag_held, State.protCheck_held] | split)

theorem State.finishWrite_held (s : State) (c : Nat) : (State.finishWrite s c).held = s.held := by
  unfold State.finishWrite
  repeat' (first | simp only [apply_ite State.held, State.finish_held, State.crsCnt_held] | split)

theorem execProtectedModeTimer_held (s : State) : Holds s (execProtectedModeTimer s) := by
  unfold execProtectedModeTimer
  repeat' (first | simp only [apply_ite State.held, ite_self, implies_true, foldl_held, State.clrFlag_held, State.critClear_held, State.noteC0_held,
                          State.finishWrite_held] | split | with_reducible refine onTimer_holds _ _ _ (fun u => ?_) | with_reducible refine (foldl_held _ _ _ (fun u _ => ?_)).trans ?_)

theorem State.noteStaging_held (s : State) : (State.noteStaging s).held = s.held := by
  simp only [State.noteStaging, apply_ite State.held, ite_self, State.setFlag_held, State.putFlag_held]

theorem State.cmpCnt_held (s : State) (n : Nat) (k : Nat) : (State.cmpCnt s n k).held = s.held := by
  simp only [State.cmpCnt, State.addWrap_held]

theorem State.rejectFrame_held (s : State) (obj kind unit : Nat) : (State.rejectFrame s obj kind unit).held = s.held := by
  simp only [State.rejectFrame, State.draw_held, State.setFld_held, State.setFlag_held, State.cmpCnt_held, State.event_held]

theorem State.emitBlocks_held (s : State) : (State.emitBlocks s).held = s.held := by
  simp only [State.emitBlocks, State.draw_held, State.cmpCnt_held]

theorem State.framesRead_held (s : State) : (State.framesRead s).held = s.held := by
  simp only [State.framesRead, State.draw_held, State.cmpCnt_held]

theorem State.compress_held (s : State) (lba : Nat) (ds : List (Nat × Nat)) (o : CmpOutcome) : (State.compress s lba ds o).2.held = s.held := by
  unfold State.compress
  repeat' (first | (extract_lets +onlyGivenNames t; first | (refine held_via (t := t) ?_ (fun ht => ?_); rotate_left; clear_value t; rotate_left; simp only [t]) | clear_value t) | simp only [State.cmpCnt_held, State.emitBlocks_held, State.draw_held, State.setFlag_held, State.rejectFrame_held, *] | split | with_reducible refine (foldl_held _ _ _ (fun u _ => ?_)).trans ?_)
  all_goals grind only [held_mk, held_fold, State.cmpCnt_held, State.emitBlocks_held, State.draw_held, State.setFlag_held, State.rejectFrame_held]

theorem State.updSlot_held (s : State) (id : Nat) (f : BufSlot → BufSlot) : (State.updSlot s id f).held = s.held := by
  simp only [State.updSlot, held_mk, held_fold]

theorem State.nextCourse_held (s : State) (kind handle k : Nat) (page : Bool) : ∀ a t, State.nextCourse s kind handle k page = some (a,
    t) → t.held = s.held := by
  intro a t
  unfold State.nextCourse
  repeat' (first | (intro h; cases h; done) | (intro h; cases h) | simp only [held_mk, held_fold, apply_ite State.held, ite_self, implies_true,
                          foldl_held, Holds_next, Holds_fault, Holds_refused,
                          State.courseFor_held] | split | with_reducible refine (foldl_held _ _ _ (fun u _ => ?_)).trans ?_)
  all_goals grind only [held_mk, held_fold, State.courseFor_held]

theorem State.placeIn_held (s : State) (course : Option Nat) (kind handle : Nat) (page : Bool) (cws : List Codeword) : ∀ a t,
    s.placeIn course kind handle page cws = some (a, t) → t.held = s.held := by
  intro a t h
  unfold State.placeIn at h
  split at h
  · next r hr =>
    cases h
    obtain ⟨n, _, e⟩ := Option.bind_eq_some_iff.1 hr
    exact State.placeRun_held _ _ _ _ _ _ e
  · obtain ⟨x, hx, e⟩ := Option.bind_eq_some_iff.1 h
    exact (State.placeRun_held _ _ _ _ _ _ e).trans (State.nextCourse_held _ _ _ _ _ _ _ hx)

theorem State.placeOne_held (s : State) (course : Option Nat) (kind handle : Nat) (b : BufSlot) : ∀ a t, s.placeOne course kind handle b = some (a,
    t) → t.held = s.held := by
  intro a t h
  unfold State.placeOne at h
  simp only [] at h
  split at h
  · next r hr =>
    cases h
    obtain ⟨n, _, e⟩ := Option.bind_eq_some_iff.1 hr
    exact State.placeAfter_held _ _ _ _ _ e
  · split at h
    · next r hr =>
      cases h
      obtain ⟨n, _, e⟩ := Option.bind_eq_some_iff.1 hr
      exact State.placeSmall_held _ _ _ _ _ _ e
    · obtain ⟨x, hx, e⟩ := Option.bind_eq_some_iff.1 h
      exact (State.placeSmall_held _ _ _ _ _ _ e).trans (State.nextCourse_held _ _ _ _ _ _ _ hx)

theorem State.placeExtent_held (s : State) (c nsid lba handle : Nat) (course : Option Nat) (cmp : Bool) (o : CmpOutcome)
    : (State.placeExtent s c nsid lba handle course cmp o).held = s.held := by
  unfold State.placeExtent
  repeat' (first | (extract_lets +onlyGivenNames t; first | (refine held_via (t := t) ?_ (fun ht => ?_); rotate_left; clear_value t; rotate_left; simp only [t]) | clear_value t) | simp only [apply_ite State.held, State.compress_held, State.crsCnt_held, State.updSlot_held, *] | split | with_reducible refine (foldl_held _ _ _ (fun u _ => ?_)).trans ?_)
  all_goals grind only [held_mk, held_fold, State.compress_held, State.placeIn_held, State.crsCnt_held, State.updSlot_held, State.placeOne_held]

theorem State.placeRmw_held (s : State) (id : Nat) (r : Rmw) (cmp : Bool) : (State.placeRmw s id r cmp).held = s.held := by
  unfold State.placeRmw
  repeat' (first | (extract_lets +onlyGivenNames t; first | (refine held_via (t := t) ?_ (fun ht => ?_); rotate_left; clear_value t; rotate_left; simp only [t]) | clear_value t) | simp only [held_mk, held_fold, State.compress_held, *] | split | with_reducible refine (foldl_held _ _ _ (fun u _ => ?_)).trans ?_)
  all_goals grind only [held_mk, held_fold, State.compress_held, State.placeIn_held]

theorem State.startRmw_held (s : State) (c nsid e lba : Nat) (marks : List Nat) (cmp : Bool)
    : (State.startRmw s c nsid e lba marks cmp).held = s.held := by
  unfold State.startRmw
  repeat' (first | (extract_lets +onlyGivenNames t; first | (refine held_via (t := t) ?_ (fun ht => ?_); rotate_left; clear_value t; rotate_left; simp only [t]) | clear_value t) | simp only [held_mk, held_fold, apply_ite State.held, ite_self, State.mapCnt_held, State.placeRmw_held, *] | split | with_reducible refine (foldl_held _ _ _ (fun u _ => ?_)).trans ?_)
  all_goals grind only [held_mk, held_fold, State.mapCnt_held, State.placeRmw_held]

theorem State.placeStitch_held (s : State) (c nsid : Nat) (n : Ns) (first count handle : Nat) (cmp : Bool) (o : CmpOutcome)
    : (State.placeStitch s c nsid n first count handle cmp o).held = s.held := by
  unfold State.placeStitch
  repeat' (first | simp only [apply_ite State.held, State.startRmw_held, State.arm_held,
                          State.placeExtent_held] | split | with_reducible refine (foldl_held _ _ _ (fun u _ => ?_)).trans ?_)
  all_goals grind only [held_mk, held_fold, State.nextCourse_held, State.startRmw_held, State.arm_held, State.placeExtent_held]

theorem State.placeWaiting_held (s : State) : (State.placeWaiting s).held = s.held := by
  simp only [State.placeWaiting, apply_ite State.held, ite_self, implies_true, foldl_held, State.placeExtent_held]

theorem State.bufferSlots_held (s : State) (c fn nsid slba : Nat) (ds : List (Nat × Nat))
    : (State.bufferSlots s c fn nsid slba ds).held = s.held := by
  simp only [State.bufferSlots, held_mk, held_fold]

theorem State.fullyBuffered_held (s : State) (c : Nat) : (State.fullyBuffered s c).held = s.held := by
  simp only [State.fullyBuffered, apply_ite State.held, ite_self, State.updCmd_held, State.dropStitches_held, State.finish_held]

theorem State.bufferWrite_held (s : State) (c : Nat) (k : Cmd) (n : Ns) (slba nlb handle : Nat) (ds : List (Nat × Nat)) (o : CmpOutcome)
    : (State.bufferWrite s c k n slba nlb handle ds o).held = s.held := by
  simp only [State.bufferWrite, held_mk, held_fold, apply_ite State.held, ite_self, implies_true, foldl_held, State.bufferSlots_held,
      State.qenCnt_held, State.placeStitch_held, State.fullyBuffered_held, State.noteStaging_held]

theorem State.unpark_held (s : State) (c : Nat) : (State.unpark s c).held = s.held := by
  simp only [State.unpark, held_mk, held_fold, implies_true, foldl_held, State.qenCnt_held]

theorem execWrite_held (cmd : Nat) (data : List HostSlot) (cmp : CmpOutcome) (s : State) : Holds s (execWrite cmd data cmp s) := by
  unfold execWrite
  repeat' (first | simp only [apply_ite State.held, ite_self, State.failWrite_held, State.rclCnt_held, State.holdWrite_held, State.cmpCnt_held,
                          State.unpark_held, State.bufferWrite_held] | split | with_reducible refine onNs_holds _ _ _ _ (fun u v => ?_) | with_reducible refine (foldl_held _ _ _ (fun u _ => ?_)).trans ?_)

theorem execWriteZeroes_held (cmd : Nat) (s : State) : Holds s (execWriteZeroes cmd s) := by
  unfold execWriteZeroes
  repeat' (first | simp only [apply_ite State.held, ite_self, State.failWrite_held, State.rclCnt_held, State.holdWrite_held, State.unpark_held,
                          State.bufferWrite_held] | split | with_reducible refine onNs_holds _ _ _ _ (fun u v => ?_) | with_reducible refine (foldl_held _ _ _ (fun u _ => ?_)).trans ?_)

theorem execCmpBypassTimeout_held (slot : Nat) (s : State) : Holds s (execCmpBypassTimeout slot s) := by
  unfold execCmpBypassTimeout
  repeat' (first | simp only [State.setFlag_held, State.cmpCnt_held,
                          State.placeExtent_held] | split | with_reducible refine onTimer_holds _ _ _ (fun u => ?_) | with_reducible refine (foldl_held _ _ _ (fun u _ => ?_)).trans ?_)

theorem State.markApplied_held (s : State) (ids : List Nat) (g : Nat) : (State.markApplied s ids g).held = s.held := by
  simp only [State.markApplied, implies_true, foldl_held, State.updSlot_held]

theorem State.applyExtent_held (s : State) (e : Nat) (ps : List (Nat × BufSlot)) : (State.applyExtent s e ps).1.held = s.held := by
  unfold State.applyExtent
  repeat' (first | (extract_lets +onlyGivenNames t; first | (refine held_via (t := t) ?_ (fun ht => ?_); rotate_left; clear_value t; rotate_left; simp only [t]) | clear_value t) | simp only [State.setWhole_held, State.putFines_held, State.mapCnt_held, State.setSlots_held, *] | split | with_reducible refine (foldl_held _ _ _ (fun u _ => ?_)).trans ?_)
  all_goals grind only [held_mk, held_fold, State.setWhole_held, State.putFines_held, State.mapCnt_held, State.setSlots_held]

theorem State.settleCmd_held (s : State) (c : Nat) : (State.settleCmd s c).held = s.held := by
  unfold State.settleCmd
  repeat' (first | simp only [held_mk, held_fold, apply_ite State.held, ite_self, State.unlock_held] | split)

theorem State.applyUnit_held (s : State) (c nsid unit : Nat) : (s.applyUnit c nsid unit).held = s.held := by
  unfold State.applyUnit
  split
  · rfl
  · simp only [State.settleCmd_held, State.markApplied_held, State.batch_held]
    refine foldl_held_fst _ _ _ (fun acc i => ?_)
    split
    · repeat' split
      all_goals first | exact State.startRmw_held .. | exact State.applyExtent_held ..
    · rfl

theorem State.writeBack_held (s : State) (id : Nat) (r : Rmw) : (State.writeBack s id r).held = s.held := by
  unfold State.writeBack
  repeat' (first | (extract_lets +onlyGivenNames t; first | (refine held_via (t := t) ?_ (fun ht => ?_); rotate_left; clear_value t; rotate_left; simp only [t]) | clear_value t) | simp only [held_mk, held_fold, apply_ite State.held, ite_self, State.setWhole_held, State.putFines_held, State.mapCnt_held, State.batch_held, State.markApplied_held, State.settleCmd_held, State.updCmd_held, *] | split | with_reducible refine (foldl_held _ _ _ (fun u _ => ?_)).trans ?_)
  all_goals grind only [held_mk, held_fold, State.setWhole_held, State.putFines_held, State.mapCnt_held, State.batch_held, State.markApplied_held,
      State.settleCmd_held, State.updCmd_held]

theorem execWriteBufferUe_held (cmd lba : Nat) (s : State) : Holds s (execWriteBufferUe cmd lba s) := by
  unfold execWriteBufferUe
  repeat' (first | (extract_lets +onlyGivenNames t; first | (refine holds_via (t := t) ?_ (fun ht => ?_); rotate_left; clear_value t; rotate_left; simp only [t]) | clear_value t) | simp only [held_mk, held_fold, Holds_next, Holds_fault, State.failWrite_held, State.updSlot_held, State.event_held, State.updCmd_held, *] | split | with_reducible refine (foldl_held _ _ _ (fun u _ => ?_)).trans ?_)
  all_goals grind only [held_mk, held_fold, State.failWrite_held, State.updSlot_held, State.event_held, State.updCmd_held]

theorem State.replaceSlots_held (s : State) (b : Nat) (slc : Bool) (row : Nat) : (State.replaceSlots s b slc row).held = s.held := by
  simp only [State.replaceSlots, implies_true, foldl_held, State.updSlot_held, State.placeRmw_held, State.crsCnt_held, State.placeWaiting_held]

theorem State.blockFailed_held (s : State) (n : Nat) (c : Course) (m : Member) (row : Nat) : (State.blockFailed s n c m row).held = s.held := by
  simp only [State.blockFailed, apply_ite State.held, ite_self, State.opEnd_held, State.updBlk_held, State.setFlag_held, State.pfLog_held,
      State.event_held, State.crsCnt_held, State.addSat_held, State.batch_held, State.updCourse_held, State.queueVictim_held]

theorem State.earlyIfDropped_held (s : State) (n : Nat) : (State.earlyIfDropped s n).held = s.held := by
  unfold State.earlyIfDropped
  repeat' (first | (extract_lets +onlyGivenNames t; first | (refine held_via (t := t) ?_ (fun ht => ?_); rotate_left; clear_value t; rotate_left; simp only [t]) | clear_value t) | simp only [apply_ite State.held, ite_self, State.updCourse_held, State.padTo_held, State.closeCourse_held, *] | split | with_reducible refine (foldl_held _ _ _ (fun u _ => ?_)).trans ?_)
  all_goals grind only [held_mk, held_fold, State.updCourse_held, State.padTo_held, State.closeCourse_held]

theorem State.dataFail_held (s : State) (n : Nat) (c : Course) (pos : Nat) (m : Member) : (State.dataFail s n c pos m).held = s.held := by
  simp only [State.dataFail, State.blockFailed_held, State.updCourse_held, State.crsCnt_held, State.replaceSlots_held, State.earlyIfDropped_held]

theorem execProgramFail_held (course pos : Nat) (s : State) : Holds s (execProgramFail course pos s) := by
  unfold execProgramFail
  repeat' (first | simp only [implies_true, Holds_fault, guarded_held, State.dataFail_held] | split)

theorem State.parityFail_held (s : State) (n : Nat) (c : Course) (pos : Nat) (m : Member) : (State.parityFail s n c pos m).held = s.held := by
  simp only [State.parityFail, implies_true, foldl_held, State.blockFailed_held, State.updCourse_held, State.replaceSlots_held,
      State.closeCourse_held]

theorem execParityProgramFail_held (course pos : Nat) (s : State) : Holds s (execParityProgramFail course pos s) := by
  unfold execParityProgramFail
  repeat' (first | simp only [implies_true, Holds_fault, guarded_held, State.parityFail_held] | split)

theorem execParityAccumulatorUe_held (course : Nat) (s : State) : Holds s (execParityAccumulatorUe course s) := by
  unfold execParityAccumulatorUe
  repeat' (first | simp only [implies_true, guarded_held, State.crsCnt_held] | split)

theorem onPf_holds (s : State) (c : Nat) (k : Cmd → State) (h : ∀ x, (k x).held = s.held) : Holds s (onPf s c k) := by
  refine onAdmin_holds _ _ _ (fun x => ?_); split
  · exact h x
  · exact State.finish_held ..

theorem State.endNsIo_held (s : State) (nsid : Option Nat) (st : Status) : (State.endNsIo s nsid st).held = s.held := by
  simp only [State.endNsIo, implies_true, foldl_held, State.failWrite_held]

theorem State.dropNsSlots_held (s : State) (nsid : Option Nat) : (State.dropNsSlots s nsid).held = s.held := by
  simp only [State.dropNsSlots, held_mk, held_fold]

theorem State.clearNs_held (s : State) (n : Ns) : (s.clearNs n).held = s.held := by
  unfold State.clearNs
  simp only [State.batch_held]
  refine foldl_held_fst _ _ _ (fun acc g => ?_)
  simp only [State.deallocWhole_held]

theorem State.cryptoStart_held (s : State) (nsids : List Nat) (why : Nat) : (State.cryptoStart s nsids why).held = s.held := by
  simp only [State.cryptoStart, held_mk, held_fold]

theorem State.seedsBack_held (s : State) : (State.seedsBack s).held = s.held := by
  simp only [State.seedsBack, apply_ite State.held, ite_self, State.undegrade_held]

theorem State.nsChanged_held (s : State) (nsid : Nat) (fns : List Nat) : (State.nsChanged s nsid fns).held = s.held := by
  simp only [State.nsChanged, apply_ite State.held, ite_self, implies_true, foldl_held, State.updFunc_held, State.asyncEvent_held]

theorem State.closeWindows_held (s : State) (nsid : Nat) : (State.closeWindows s nsid).held = s.held := by
  simp only [State.closeWindows, held_mk, held_fold, implies_true, foldl_held, State.cfsRequest_held, State.setFld_held]

theorem execNamespaceAttachment_held (cmd : Nat) (attach : Bool) (controllers : List Nat) (s : State)
    : Holds s (execNamespaceAttachment cmd attach controllers s) := by
  unfold execNamespaceAttachment
  repeat' (first | (extract_lets +onlyGivenNames t; first | (refine holds_via (t := t) ?_ (fun ht => ?_); rotate_left; clear_value t; rotate_left; simp only [t]) | clear_value t) | simp only [apply_ite State.held, ite_self, implies_true, foldl_held, State.finish_held, State.updFunc_held, State.nsChanged_held, *] | split | with_reducible refine onPf_holds _ _ _ (fun u => ?_) | with_reducible refine (foldl_held _ _ _ (fun u _ => ?_)).trans ?_)
  all_goals grind only [held_mk, held_fold, State.finish_held, State.updFunc_held, State.nsChanged_held]

theorem State.formatRun_held (s : State) (ids : List Nat) (ses : Nat) : (State.formatRun s ids ses).held = s.held := by
  unfold State.formatRun
  repeat' (first | simp only [held_mk, held_fold, apply_ite State.held, ite_self, State.dropNsSlots_held, State.clearNs_held,
                          State.closeWindows_held, State.cryptoStart_held] | split | with_reducible refine (foldl_held _ _ _ (fun u _ => ?_)).trans ?_)

theorem execFormatProgressRecord_held (progress : Nat) (s : State) : Holds s (execFormatProgressRecord progress s) := by
  unfold execFormatProgressRecord
  repeat' (first | simp only [held_mk, held_fold, implies_true, guarded_held, State.cfsRequest_held] | split)

theorem State.recordSanitize_held (s : State) : (State.recordSanitize s).held = s.held := by
  simp only [State.recordSanitize, State.cfsRequest_held]

theorem State.clearAll_held (s : State) : (State.clearAll s).held = s.held := by
  simp only [State.clearAll, implies_true, foldl_held, State.clearNs_held]

theorem State.sanitizeBegin_held (s : State) (action passes pattern : Nat) (invert noDealloc : Bool)
    : (State.sanitizeBegin s action passes pattern invert noDealloc).held = s.held := by
  simp only [State.sanitizeBegin, held_mk, held_fold, State.endNsIo_held, State.dropNsSlots_held, State.recordSanitize_held]

theorem State.sanitizeErase_held (s : State) (action : Nat) : (State.sanitizeErase s action).held = s.held := by
  simp only [State.sanitizeErase, apply_ite State.held, ite_self, implies_true, foldl_held, State.clearAll_held, State.cryptoStart_held,
      State.updCourse_held, State.closeCourse_held]

theorem execSanitizeProgressRecord_held (progress : Nat) (s : State) : Holds s (execSanitizeProgressRecord progress s) := by
  unfold execSanitizeProgressRecord
  repeat' (first | simp only [held_mk, held_fold, implies_true, guarded_held, State.recordSanitize_held] | split)

theorem State.overwritten_held (s : State) : (State.overwritten s).held = s.held := by
  simp only [State.overwritten, held_mk, held_fold, apply_ite State.held, ite_self, State.clearAll_held]

theorem execSanitizeOperationEnd_held (ok : Bool) (s : State) : Holds s (execSanitizeOperationEnd ok s) := by
  unfold execSanitizeOperationEnd
  repeat' (first | simp only [held_mk, held_fold, apply_ite State.held, ite_self, implies_true, State.overwritten_held, guarded_held,
                          State.recordSanitize_held] | split)

end Sys2Proof.Machine
end

