-- ==== Sys2Proof/Laws/HeldFlash.lean ====
section
/-! SUPPORT. The store, the event areas, the key set and the namespaces through the lifeline, erasure, reads, reclamation and the flash channels. -/

namespace Sys2Proof.Machine

set_option linter.unusedTactic false
set_option linter.unreachableTactic false
set_option linter.unusedSimpArgs false

theorem State.setCopy_held (s : State) (i : Nat) (j : JCopy) : (State.setCopy s i j).held = s.held := by
  simp only [State.setCopy, held_mk, held_fold, apply_ite State.held, ite_self]

theorem State.formJournal_held (s : State) (copy skein q : Nat) : (State.formJournal s copy skein q).2.held = s.held := by
  unfold State.formJournal
  repeat' (first | simp only [State.openCourse_held, State.lifCnt_held, State.noteF_held] | split)

theorem State.formAhead_held (s : State) (copy : Nat) : (State.formAhead s copy).held = s.held := by
  simp only [State.formAhead, State.formJournal_held, State.setCopy_held]

theorem State.switchCopy_held (s : State) (copy n skein q first : Nat) : (State.switchCopy s copy n skein q first).held = s.held := by
  simp only [State.switchCopy, apply_ite State.held, ite_self, State.closeCourse_held, State.setCopy_held]

theorem State.nextCopyCourse_held (s : State) (copy first : Nat) : (State.nextCopyCourse s copy first).held = s.held := by
  unfold State.nextCopyCourse
  repeat' (first | simp only [State.switchCopy_held, State.formJournal_held] | split)

theorem State.writeRows_held (s : State) (copy rows first : Nat) : (State.writeRows s copy rows first).held = s.held := by
  simp only [State.writeRows, apply_ite State.held, ite_self, State.nextCopyCourse_held, State.setCopy_held, State.formAhead_held]

theorem State.noteSkeins_held (s : State) : (State.noteSkeins s).held = s.held := by
  simp only [State.noteSkeins, apply_ite State.held, ite_self, State.degrade_held, State.undegrade_held]

theorem State.noteJournal_held (s : State) : (State.noteJournal s).held = s.held := by
  simp only [State.noteJournal, apply_ite State.held, ite_self, State.setFlag_held, State.lifCnt_held, State.arm_held, State.clrFlag_held]

theorem State.releaseJournal_held (s : State) : (State.releaseJournal s).held = s.held := by
  simp only [State.releaseJournal, held_mk, held_fold, State.lifCnt_held]

theorem State.writeAnchor_held (s : State) (clean : Bool) : (State.writeAnchor s clean).held = s.held := by
  simp only [State.writeAnchor, held_mk, held_fold, State.cfsRequest_held, State.arm_held]

theorem State.freeReleased_held (s : State) : (State.freeReleased s).held = s.held := by
  unfold State.freeReleased
  repeat' (first | simp only [held_mk, held_fold, State.courseEmpty_held] | split | with_reducible refine (foldl_held _ _ _ (fun u _ => ?_)).trans ?_)

theorem State.tendJournal_held (s : State) : (State.tendJournal s).held = s.held := by
  simp only [State.tendJournal, apply_ite State.held, ite_self, State.freeReleased_held, State.releaseJournal_held, State.noteJournal_held,
      State.writeAnchor_held]

theorem execAnchorTimer_held (s : State) : Holds s (execAnchorTimer s) := by
  unfold execAnchorTimer
  repeat' (first | simp only [State.tendJournal_held, State.writeAnchor_held] | split | with_reducible refine onTimer_holds _ _ _ (fun u => ?_) | with_reducible refine (foldl_held _ _ _ (fun u _ => ?_)).trans ?_)

theorem State.releaseSlots_held (s : State) : (State.releaseSlots s).held = s.held := by
  simp only [State.releaseSlots, held_mk, held_fold]

theorem State.finishGroup_held (s : State) : (State.finishGroup s).held = s.held := by
  simp only [State.finishGroup, apply_ite State.held, ite_self, implies_true, foldl_held, State.qenCnt_held, State.finish_held, State.unlock_held]

theorem State.finishDurable_held (s : State) : (State.finishDurable s).held = s.held := by
  simp only [State.finishDurable, implies_true, foldl_held, State.finishWrite_held]

theorem State.freeGranulesStep_held (s : State) : (State.freeGranulesStep s).held = s.held := by
  simp only [State.freeGranulesStep, held_mk, held_fold]

theorem State.consumeDump_held (s : State) : (State.consumeDump s).held = s.held := by
  simp only [State.consumeDump, held_mk, held_fold, apply_ite State.held, ite_self, implies_true, foldl_held, State.courseEmpty_held,
      State.cfsRequest_held, State.formDump_held, State.protCheck_held]

theorem State.pruneKept_held (s : State) : (State.pruneKept s).held = s.held := by
  simp only [State.pruneKept, held_mk, held_fold, implies_true, foldl_held, State.courseEmpty_held]

theorem State.noteGroup_held (s : State) (n : Nat) : (State.noteGroup s n).held = s.held := by
  simp only [State.noteGroup, State.setWord_held, State.setFld_held]

theorem State.cleanStopped_held (s : State) : (State.cleanStopped s).held = s.held := by
  unfold State.cleanStopped
  repeat' (first | simp only [held_mk, held_fold, State.writeAnchor_held, State.lifCnt_held, State.setFlag_held, State.cfsRequest_held] | split)

theorem State.pruneEmptied_held (s : State) : (State.pruneEmptied s).held = s.held := by
  simp only [State.pruneEmptied, held_mk, held_fold]

theorem State.joinStreams_held (s : State) : (State.joinStreams s).held = s.held := by
  simp only [State.joinStreams, apply_ite State.held, ite_self, State.cmpCnt_held, State.setCopy_held]

theorem State.copyError_held (s : State) (copy cause gseq : Nat) : (State.copyError s copy cause gseq).held = s.held := by
  simp only [State.copyError, State.setFld_held, State.setFlag_held, State.event_held]

theorem State.moveCopy_held (s : State) (copy : Nat) : (State.moveCopy s copy).held = s.held := by
  simp only [State.moveCopy, State.updCourse_held, State.formJournal_held, State.switchCopy_held, State.noteSkeins_held]

theorem State.journalBlockFailed_held (s : State) (m : Member) (row : Nat) : (State.journalBlockFailed s m row).held = s.held := by
  simp only [State.journalBlockFailed, State.updBlk_held, State.setFlag_held, State.pfLog_held, State.event_held, State.crsCnt_held,
      State.addSat_held, State.batch_held]

theorem execJournalCopyFail_held (copy pos : Nat) (s : State) : Holds s (execJournalCopyFail copy pos s) := by
  unfold execJournalCopyFail
  repeat' (first | simp only [implies_true, Holds_fault, guarded_held, State.copyError_held, State.lifCnt_held, State.journalBlockFailed_held,
                          State.moveCopy_held] | split)

theorem State.reserveRun_held (s : State) (n k : Nat) : ∀ a b t, s.reserveRun n k = some (a, b, t) → t.held = s.held := by
  intro a b t h
  simp only [State.reserveRun, Option.bind_eq_some_iff, Option.map_eq_some_iff] at h
  obtain ⟨c, _, x, _, e⟩ := h
  cases e
  simp only [State.rowTimers_held, State.crsCnt_held, held_mk, held_fold]

theorem State.placeSystem_held (s : State) (k most : Nat) : ∀ a b t, s.placeSystem k most = some (a, b, t) → t.held = s.held := by
  intro a b t h
  unfold State.placeSystem at h
  simp only [] at h
  split at h
  · next r hr =>
    cases h
    obtain ⟨p, _, e⟩ := List.exists_of_findSome?_eq_some hr
    exact State.reserveRun_held _ _ _ _ _ _ e
  · split at h
    · cases h
    · obtain ⟨x, hx, e⟩ := Option.bind_eq_some_iff.1 h
      exact (State.reserveRun_held _ _ _ _ _ _ e).trans (State.courseFor_held _ _ _ _ _ _ _ _ hx)

theorem State.startCkpt_held (s : State) (num len most : Nat) : (State.startCkpt s num len most).held = s.held := by
  unfold State.startCkpt
  repeat' (first | simp only [held_mk, held_fold, State.cmpCnt_held,
                          State.emitBlocks_held] | split | with_reducible refine (foldl_held _ _ _ (fun u _ => ?_)).trans ?_)
  all_goals grind only [held_mk, held_fold, State.placeSystem_held, State.cmpCnt_held, State.emitBlocks_held]

theorem State.markUnchanged_held (s : State) (num : Nat) : (State.markUnchanged s num).held = s.held := by
  unfold State.markUnchanged
  repeat' (first | (extract_lets +onlyGivenNames t; first | (refine held_via (t := t) ?_ (fun ht => ?_); rotate_left; clear_value t; rotate_left; simp only [t]) | clear_value t) | simp only [held_mk, held_fold, State.batch_held, State.lifCnt_held, *] | split | with_reducible refine (foldl_held _ _ _ (fun u _ => ?_)).trans ?_)
  all_goals grind only [held_mk, held_fold, State.batch_held, State.lifCnt_held]

theorem State.nextCkpt_held (s : State) : (State.nextCkpt s).2.held = s.held := by
  unfold State.nextCkpt
  repeat' (first | (extract_lets +onlyGivenNames t; first | (refine held_via (t := t) ?_ (fun ht => ?_); rotate_left; clear_value t; rotate_left; simp only [t]) | clear_value t) | simp only [held_mk, held_fold, apply_ite State.held, ite_self, State.setFld_held, State.addWrap_held, *] | split | with_reducible refine (foldl_held _ _ _ (fun u _ => ?_)).trans ?_)
  all_goals grind only [held_mk, held_fold, State.setFld_held, State.addWrap_held]

theorem execCheckpointInterval_held (len : Nat) (s : State) : Holds s (execCheckpointInterval len s) := by
  unfold execCheckpointInterval
  repeat' (first | (extract_lets +onlyGivenNames t; first | (refine holds_via (t := t) ?_ (fun ht => ?_); rotate_left; clear_value t; rotate_left; simp only [t]) | clear_value t) | simp only [apply_ite State.held, ite_self, State.startCkpt_held, State.lifCnt_held, State.nextCkpt_held, State.markUnchanged_held, State.arm_held, *] | split | with_reducible refine onTimer_holds _ _ _ (fun u => ?_) | with_reducible refine (foldl_held _ _ _ (fun u _ => ?_)).trans ?_)
  all_goals grind only [held_mk, held_fold, State.startCkpt_held, State.lifCnt_held, State.nextCkpt_held, State.markUnchanged_held, State.arm_held]

theorem State.markCkpt_held (s : State) (c : Ckpt) : (State.markCkpt s c).held = s.held := by
  simp only [State.markCkpt, held_mk, held_fold, apply_ite State.held, ite_self, State.batch_held, State.lifCnt_held, State.pruneKept_held]

theorem execCheckpointMark_held (num : Nat) (s : State) : Holds s (execCheckpointMark num s) := by
  unfold execCheckpointMark
  repeat' (first | simp only [implies_true, Holds_fault, guarded_held, State.markCkpt_held] | split)

theorem execEraseIssue_held (die block : Nat) (s : State) : Holds s (execEraseIssue die block s) := by
  unfold execEraseIssue
  repeat' (first | simp only [held_mk, held_fold, implies_true, guarded_held, State.dropMedia_held, State.arm_held] | split)

theorem State.erasedOk_held (s : State) (b : Nat) : (State.erasedOk s b).held = s.held := by
  simp only [State.erasedOk, held_mk, held_fold, State.updBlk_held, State.batch_held, State.rclCnt_held, State.sknCnt_held]

theorem State.eraseFailed_held (s : State) (b : Nat) : (State.eraseFailed s b).held = s.held := by
  simp only [State.eraseFailed, apply_ite State.held, ite_self, State.updBlk_held, State.setFlag_held, State.pfLog_held, State.event_held,
      State.crsCnt_held, State.addSat_held, State.retire_held]

theorem execEraseComplete_held (die : Nat) (pass : Bool) (s : State) : Holds s (execEraseComplete die pass s) := by
  unfold execEraseComplete
  repeat' (first | simp only [State.opEnd_held, State.erasedOk_held,
                          State.eraseFailed_held] | split | with_reducible refine withSome_holds _ _ _ (fun u => ?_) | with_reducible refine (foldl_held _ _ _ (fun u _ => ?_)).trans ?_)

theorem execOpenCheck_held (die block : Nat) (pass : Bool) (s : State) : Holds s (execOpenCheck die block pass s) := by
  unfold execOpenCheck
  repeat' (first | (extract_lets +onlyGivenNames t; first | (refine holds_via (t := t) ?_ (fun ht => ?_); rotate_left; clear_value t; rotate_left; simp only [t]) | clear_value t) | simp only [apply_ite State.held, ite_self, implies_true, guarded_held, State.updBlk_held, State.noteF_held, State.placeWaiting_held, State.setFlag_held, State.pfLog_held, State.event_held, State.crsCnt_held, State.retire_held, *] | split | with_reducible refine (foldl_held _ _ _ (fun u _ => ?_)).trans ?_)
  all_goals grind only [held_mk, held_fold, guarded_held, State.updBlk_held, State.noteF_held, State.placeWaiting_held, State.setFlag_held,
      State.pfLog_held, State.event_held, State.crsCnt_held, State.retire_held]

theorem State.holdBack_held (s : State) (c : Nat) : (State.holdBack s c).held = s.held := by
  simp only [State.holdBack, State.parkAll_held, State.qenCnt_held]

theorem State.segGate_held (s : State) (c : Nat) (n : Ns) (rs : List (Nat × Nat)) : ∀ t, State.segGate s c n rs = some t → t.held = s.held := by
  intro t
  unfold State.segGate
  repeat' (first | (intro h; cases h; done) | (intro h; cases h) | simp only [State.failWrite_held, State.parkAll_held,
                          State.mapCnt_held] | split | with_reducible refine (foldl_held _ _ _ (fun u _ => ?_)).trans ?_)

theorem State.awaitRecorded_held (s : State) (c : Nat) : (State.awaitRecorded s c).held = s.held := by
  simp only [State.awaitRecorded, apply_ite State.held, ite_self, State.updCmd_held, State.unlock_held, State.finish_held]

theorem State.deallocRanges_held (s : State) (n : Ns) (rs : List (Nat × Nat)) : (s.deallocRanges n rs).1.held = s.held := by
  unfold State.deallocRanges
  refine foldl_held_fst _ _ _ (fun acc r => ?_)
  simp only [State.deallocRange_held]

theorem State.deallocated_held (s : State) (cmd : Nat) (recs : List Rec) : (State.deallocated s cmd recs).held = s.held := by
  unfold State.deallocated
  repeat' (first | simp only [apply_ite State.held, State.updCmd_held, State.unlock_held, State.finish_held, State.batch_held,
                          State.awaitRecorded_held] | split)

theorem execDatasetManagement_held (cmd : Nat) (ad : Bool) (s : State) : Holds s (execDatasetManagement cmd ad s) := by
  unfold execDatasetManagement
  repeat' (first | simp only [apply_ite State.held, ite_self, State.fail_held, State.holdBack_held, State.unpark_held, State.deallocRanges_held,
                          State.deallocated_held] | split | with_reducible refine onNs_holds _ _ _ _ (fun u v => ?_) | with_reducible refine (foldl_held _ _ _ (fun u _ => ?_)).trans ?_)
  all_goals grind only [held_mk, held_fold, State.fail_held, State.holdBack_held, State.segGate_held, State.unpark_held, State.deallocRanges_held,
      State.deallocated_held]

theorem State.markPiece_held (s : State) (c nsid : Nat) (n : Ns) (first count : Nat) : (State.markPiece s c nsid n first count).1.held = s.held := by
  unfold State.markPiece
  repeat' (first | simp only [State.startRmw_held, State.setSlots_held, State.mapCnt_held] | split)

theorem State.markRange_held (s : State) (cmd nsid : Nat) (n : Ns) (slba nlb : Nat) : (s.markRange cmd nsid n slba nlb).held = s.held := by
  unfold State.markRange
  simp only [apply_ite State.held, State.updCmd_held, State.awaitRecorded_held, State.batch_held, ite_self]
  refine foldl_held_fst _ _ _ (fun acc p => ?_)
  simp only [State.markPiece_held]

theorem execWriteUncorrectable_held (cmd : Nat) (s : State) : Holds s (execWriteUncorrectable cmd s) := by
  unfold execWriteUncorrectable
  repeat' (first | simp only [apply_ite State.held, ite_self, State.fail_held, State.rclCnt_held, State.holdBack_held, State.setFlag_held,
                          State.mapCnt_held, State.unpark_held, State.updCmd_held,
                          State.markRange_held] | split | with_reducible refine onNs_holds _ _ _ _ (fun u v => ?_) | with_reducible refine (foldl_held _ _ _ (fun u _ => ?_)).trans ?_)
  all_goals grind only [held_mk, held_fold, State.fail_held, State.rclCnt_held, State.holdBack_held, State.segGate_held, State.setFlag_held,
      State.mapCnt_held, State.unpark_held, State.updCmd_held, State.markRange_held]

theorem State.resume_held (s : State) (id : Nat) (x : Stitch) : (State.resume s id x).held = s.held := by
  simp only [State.resume, held_mk, held_fold, apply_ite State.held, ite_self, State.arm_held, State.qenCnt_held]

theorem execStitchResume_held (stitch : Nat) (s : State) : Holds s (execStitchResume stitch s) := by
  unfold execStitchResume
  repeat' (first | simp only [implies_true, Holds_fault, guarded_held, State.resume_held] | split)

theorem State.eccCnt_held (s : State) (n : Nat) (k : Nat) : (State.eccCnt s n k).held = s.held := by
  simp only [State.eccCnt, held_mk, held_fold, apply_ite State.held, ite_self, State.addWrap_held]

theorem State.refreshBlock_held (s : State) (b : Nat) : (State.refreshBlock s b).held = s.held := by
  simp only [State.refreshBlock, State.eccCnt_held, State.queueVictim_held]

theorem State.countRead_held (s : State) (b : Nat) : (State.countRead s b).held = s.held := by
  simp only [State.countRead, apply_ite State.held, ite_self, State.updBlk_held, State.queueVictim_held]

theorem State.noteLevel_held (s : State) (b level : Nat) : (State.noteLevel s b level).held = s.held := by
  simp only [State.noteLevel, held_mk, held_fold, State.updBlk_held]

theorem State.noteSynd_held (s : State) (b w : Nat) : (State.noteSynd s b w).held = s.held := by
  simp only [State.noteSynd, held_mk, held_fold, apply_ite State.held, ite_self, State.updBlk_held]

theorem State.slowLog_held (s : State) (event die : Nat) : (State.slowLog s event die).held = s.held := by
  simp only [State.slowLog, State.shiftLog_held, State.setFld_held, State.stamp_held]

theorem State.holdSlow_held (s : State) (d : Nat) : (State.holdSlow s d).held = s.held := by
  simp only [State.holdSlow, held_mk, held_fold, State.arm_held]

theorem State.classSlow_held (s : State) (d : Nat) : (State.classSlow s d).held = s.held := by
  simp only [State.classSlow, State.setFlag_held, State.slowLog_held, State.event_held, State.eccCnt_held, State.holdSlow_held, State.arm_held]

theorem State.countMiss_held (s : State) (d : Nat) : (State.countMiss s d).held = s.held := by
  simp only [State.countMiss, held_mk, held_fold, apply_ite State.held, ite_self, State.holdSlow_held, State.classSlow_held]

theorem State.releaseSlow_held (s : State) (d : Nat) : (State.releaseSlow s d).held = s.held := by
  simp only [State.releaseSlow, held_mk, held_fold, State.cancel_held, State.slowLog_held, State.event_held, State.eccCnt_held]

theorem execSlowDieHoldExpiry_held (die : Nat) (s : State) : Holds s (execSlowDieHoldExpiry die s) := by
  unfold execSlowDieHoldExpiry
  repeat' (first | simp only [apply_ite State.held, ite_self,
                          State.releaseSlow_held] | split | with_reducible refine onTimer_holds _ _ _ (fun u => ?_) | with_reducible refine (foldl_held _ _ _ (fun u _ => ?_)).trans ?_)

theorem State.releaseAllSlow_held (s : State) : (State.releaseAllSlow s).held = s.held := by
  simp only [State.releaseAllSlow, implies_true, foldl_held, State.releaseSlow_held]

theorem execSlowProbeTimer_held (die tr total : Nat) (s : State) : Holds s (execSlowProbeTimer die tr total s) := by
  unfold execSlowProbeTimer
  repeat' (first | simp only [apply_ite State.held, ite_self, State.eccCnt_held, State.sknCnt_held, State.arm_held,
                          State.countMiss_held] | split | with_reducible refine onTimer_holds _ _ _ (fun u => ?_) | with_reducible refine (foldl_held _ _ _ (fun u _ => ?_)).trans ?_)

theorem State.deliverSlot_held (s : State) (c lba data : Nat) : (State.deliverSlot s c lba data).held = s.held := by
  simp only [State.deliverSlot, apply_ite State.held, ite_self, State.updCmd_held, State.send_held]

theorem State.noteFailure_held (s : State) (c : Nat) (st : Status) : (State.noteFailure s c st).held = s.held := by
  simp only [State.noteFailure, State.updCmd_held]

theorem State.noteBad_held (s : State) (c lba : Nat) : (State.noteBad s c lba).held = s.held := by
  simp only [State.noteBad, State.updCmd_held]

theorem State.endFailed_held (s : State) (c : Nat) (k : Cmd) (st : Status) : (State.endFailed s c k st).held = s.held := by
  simp only [State.endFailed, held_mk, held_fold, apply_ite State.held, ite_self, State.eccCnt_held, State.updFunc_held, State.failWrite_held]

theorem State.copyWrite_held (s : State) (c : Nat) (k : Cmd) : (State.copyWrite s c k).held = s.held := by
  unfold State.copyWrite
  repeat' (first | (extract_lets +onlyGivenNames t; first | (refine held_via (t := t) ?_ (fun ht => ?_); rotate_left; clear_value t; rotate_left; simp only [t]) | clear_value t) | simp only [held_mk, held_fold, State.failWrite_held, State.bufferWrite_held, *] | split | with_reducible refine (foldl_held _ _ _ (fun u _ => ?_)).trans ?_)
  all_goals grind only [held_mk, held_fold, State.failWrite_held, State.bufferWrite_held]

theorem State.readsDone_held (s : State) (c : Nat) : (State.readsDone s c).held = s.held := by
  unfold State.readsDone
  repeat' (first | simp only [apply_ite State.held, ite_self, State.endFailed_held, State.copyWrite_held, State.updCmd_held, State.unlock_held,
                          State.finish_held] | split)

theorem State.updCw_held (s : State) (r : Nat) (f : CwRead → CwRead) : (State.updCw s r f).held = s.held := by
  simp only [State.updCw, held_mk, held_fold]

theorem State.dropCw_held (s : State) (r : Nat) (x : CwRead) : (State.dropCw s r x).held = s.held := by
  simp only [State.dropCw, held_mk, held_fold, State.cancel_held]

theorem State.abandonCw_held (s : State) (r : Nat) (x : CwRead) (st : Status) : (State.abandonCw s r x st).held = s.held := by
  simp only [State.abandonCw, implies_true, foldl_held, State.dropCw_held, State.noteBad_held, State.noteFailure_held, State.readsDone_held]

theorem State.atL6_held (s : State) (r : Nat) (x : CwRead) (cause : Nat) : (State.atL6 s r x cause).held = s.held := by
  simp only [State.atL6, State.setFld_held, State.setFlag_held, State.eccCnt_held, State.event_held, State.abandonCw_held]

theorem State.rebuild_held (s : State) (r : Nat) (x : CwRead) (why : Nat) : (State.rebuild s r x why).held = s.held := by
  simp only [State.rebuild, State.cancel_held, State.updCw_held, State.eccCnt_held]

theorem State.newCw_held (s : State) (c stitch nsid lba psa frame index : Nat) : (State.newCw s c stitch nsid lba psa frame index).held = s.held := by
  simp only [State.newCw, held_mk, held_fold, apply_ite State.held, ite_self, State.rebuild_held, State.eccCnt_held, State.addWrap_held]

theorem State.resolveSlot_held (s : State) (c nsid : Nat) (n : Ns) (lba : Nat) : (State.resolveSlot s c nsid n lba).held = s.held := by
  unfold State.resolveSlot
  repeat' (first | simp only [apply_ite State.held, ite_self, implies_true, foldl_held, State.noteBad_held, State.noteFailure_held,
                          State.mapCnt_held, State.deliverSlot_held, State.newCw_held] | split)

theorem State.countLookups_held (s : State) (n : Ns) (slba nlb : Nat) : (State.countLookups s n slba nlb).held = s.held := by
  unfold State.countLookups
  repeat' (first | simp only [State.countLookup_held] | split | with_reducible refine (foldl_held _ _ _ (fun u _ => ?_)).trans ?_)

theorem State.readRanges_held (s : State) (c nsid : Nat) (n : Ns) (rs : List (Nat × Nat)) : (State.readRanges s c nsid n rs).held = s.held := by
  simp only [State.readRanges, implies_true, foldl_held, State.countLookups_held, State.unpark_held, State.resolveSlot_held, State.readsDone_held]

theorem State.readGate_held (s : State) (c : Nat) (k : Cmd) (n : Ns) (rs : List (Nat × Nat)) (go : State) (h : go.held = s.held)
    : (s.readGate c k n rs go).held = s.held := by
  unfold State.readGate
  repeat' split
  all_goals first | exact State.failWrite_held .. | rfl | exact State.holdBack_held .. | exact h | (apply State.segGate_held; assumption)

theorem execRead_held (cmd : Nat) (s : State) : Holds s (execRead cmd s) := by
  unfold execRead
  repeat' (first | simp only [held_mk, held_fold, apply_ite State.held, ite_self, State.fail_held, State.readGate_held,
                          State.readRanges_held] | split | with_reducible refine onNs_holds _ _ _ _ (fun u v => ?_) | with_reducible refine (foldl_held _ _ _ (fun u _ => ?_)).trans ?_)

theorem execVerify_held (cmd : Nat) (s : State) : Holds s (execVerify cmd s) := by
  unfold execVerify
  repeat' (first | simp only [apply_ite State.held, ite_self, State.fail_held, State.readGate_held,
                          State.readRanges_held] | split | with_reducible refine onNs_holds _ _ _ _ (fun u v => ?_) | with_reducible refine (foldl_held _ _ _ (fun u _ => ?_)).trans ?_)

theorem execCompare_held (cmd : Nat) (data : List HostSlot) (s : State) : Holds s (execCompare cmd data s) := by
  unfold execCompare
  repeat' (first | (extract_lets +onlyGivenNames t; first | (refine holds_via (t := t) ?_ (fun ht => ?_); rotate_left; clear_value t; rotate_left; simp only [t]) | clear_value t) | simp only [apply_ite State.held, ite_self, State.fail_held, State.noteFailure_held, State.readGate_held, State.readRanges_held, *] | split | with_reducible refine onNs_holds _ _ _ _ (fun u v => ?_) | with_reducible refine (foldl_held _ _ _ (fun u _ => ?_)).trans ?_)
  all_goals grind only [held_mk, held_fold, State.fail_held, State.noteFailure_held, State.readGate_held, State.readRanges_held]

theorem execCopy_held (cmd : Nat) (s : State) : Holds s (execCopy cmd s) := by
  unfold execCopy
  repeat' (first | (extract_lets +onlyGivenNames t; first | (refine holds_via (t := t) ?_ (fun ht => ?_); rotate_left; clear_value t; rotate_left; simp only [t]) | clear_value t) | simp only [held_mk, held_fold, apply_ite State.held, ite_self, State.failWrite_held, State.rclCnt_held, State.holdWrite_held, State.readGate_held, State.readRanges_held, *] | split | with_reducible refine onNs_holds _ _ _ _ (fun u v => ?_) | with_reducible refine (foldl_held _ _ _ (fun u _ => ?_)).trans ?_)
  all_goals grind only [held_mk, held_fold, State.failWrite_held, State.rclCnt_held, State.holdWrite_held, State.readGate_held, State.readRanges_held]

theorem State.suspendFor_held (s : State) (d level : Nat) : (State.suspendFor s d level).held = s.held := by
  unfold State.suspendFor
  repeat' (first | (extract_lets +onlyGivenNames t; first | (refine held_via (t := t) ?_ (fun ht => ?_); rotate_left; clear_value t; rotate_left; simp only [t]) | clear_value t) | simp only [held_mk, held_fold, apply_ite State.held, ite_self, State.setFlag_held, State.cancel_held, State.eccCnt_held, State.sknCnt_held, *] | split | with_reducible refine (foldl_held _ _ _ (fun u _ => ?_)).trans ?_)
  all_goals grind only [held_mk, held_fold, State.setFlag_held, State.cancel_held, State.eccCnt_held, State.sknCnt_held]

theorem State.resumeOp_held (s : State) (d : Nat) : (State.resumeOp s d).held = s.held := by
  unfold State.resumeOp
  repeat' (first | simp only [held_mk, held_fold, apply_ite State.held, ite_self, State.sknCnt_held, State.arm_held] | split)

theorem execPageReadIssue_held (read : Nat) (s : State) : Holds s (execPageReadIssue read s) := by
  unfold execPageReadIssue
  repeat' (first | (extract_lets +onlyGivenNames t; first | (refine holds_via (t := t) ?_ (fun ht => ?_); rotate_left; clear_value t; rotate_left; simp only [t]) | clear_value t) | simp only [apply_ite State.held, ite_self, implies_true, Holds_fault, guarded_held, State.rebuild_held, State.eccCnt_held, State.updCw_held, State.sknCnt_held, State.countRead_held, State.arm_held, State.suspendFor_held, *] | split | with_reducible refine (foldl_held _ _ _ (fun u _ => ?_)).trans ?_)
  all_goals grind only [held_mk, held_fold, guarded_held, State.rebuild_held, State.eccCnt_held, State.updCw_held, State.sknCnt_held,
      State.countRead_held, State.arm_held, State.suspendFor_held]

theorem execCodewordArrival_held (read : Nat) (erased : Bool) (s : State) : Holds s (execCodewordArrival read erased s) := by
  unfold execCodewordArrival
  repeat' (first | simp only [held_mk, held_fold, apply_ite State.held, ite_self, implies_true, Holds_next, State.eccCnt_held, guarded_held,
                          State.cancel_held, State.sknCnt_held, State.atL6_held, State.updCw_held, State.rebuild_held, State.resumeOp_held] | split)

theorem execTailCutDeadline_held (read : Nat) (s : State) : Holds s (execTailCutDeadline read s) := by
  unfold execTailCutDeadline
  repeat' (first | (extract_lets +onlyGivenNames t; first | (refine holds_via (t := t) ?_ (fun ht => ?_); rotate_left; clear_value t; rotate_left; simp only [t]) | clear_value t) | simp only [held_mk, held_fold, apply_ite State.held, ite_self, State.rebuild_held, State.eccCnt_held, State.countMiss_held, State.resumeOp_held, *] | split | with_reducible refine onTimer_holds _ _ _ (fun u => ?_) | with_reducible refine (foldl_held _ _ _ (fun u _ => ?_)).trans ?_)
  all_goals grind only [held_mk, held_fold, State.rebuild_held, State.eccCnt_held, State.countMiss_held, State.resumeOp_held]

theorem execTlerLimit_held (read : Nat) (s : State) : Holds s (execTlerLimit read s) := by
  unfold execTlerLimit
  repeat' (first | simp only [State.eccCnt_held, State.atL6_held,
                          State.resumeOp_held] | split | with_reducible refine onTimer_holds _ _ _ (fun u => ?_) | with_reducible refine (foldl_held _ _ _ (fun u _ => ?_)).trans ?_)

theorem State.climb_held (s : State) (r : Nat) (x : CwRead) : (State.climb s r x).held = s.held := by
  simp only [State.climb, apply_ite State.held, ite_self, State.updCw_held, State.atL6_held, State.rebuild_held, State.sknCnt_held]

theorem State.checkEnds_held (s : State) (r : Nat) (x : CwRead) (check : Nat) : (State.checkEnds s r x check).held = s.held := by
  unfold State.checkEnds
  repeat' (first | (extract_lets +onlyGivenNames t; first | (refine held_via (t := t) ?_ (fun ht => ?_); rotate_left; clear_value t; rotate_left; simp only [t]) | clear_value t) | simp only [apply_ite State.held, State.setFld_held, State.setFlag_held, State.eccCnt_held, State.event_held, State.stall_held, State.abandonCw_held, *] | split | with_reducible refine (foldl_held _ _ _ (fun u _ => ?_)).trans ?_)
  all_goals grind only [held_mk, held_fold, State.setFld_held, State.setFlag_held, State.eccCnt_held, State.event_held, State.stall_held,
      State.abandonCw_held]

theorem State.passCw_held (s : State) (r : Nat) (x : CwRead) (pi : Nat) : (State.passCw s r x pi).held = s.held := by
  unfold State.passCw
  repeat' (first | (extract_lets +onlyGivenNames t; first | (refine held_via (t := t) ?_ (fun ht => ?_); rotate_left; clear_value t; rotate_left; simp only [t]) | clear_value t) | simp only [apply_ite State.held, implies_true, foldl_held, State.noteFailure_held, State.deliverSlot_held, State.dropCw_held, State.readsDone_held, State.updCw_held, State.cmpCnt_held, *] | split | with_reducible refine (foldl_held _ _ _ (fun u _ => ?_)).trans ?_)
  all_goals grind only [held_mk, held_fold, State.noteFailure_held, State.deliverSlot_held, State.dropCw_held, State.readsDone_held,
      State.updCw_held, State.cmpCnt_held]

theorem State.noteCheck_held (s : State) (check : Nat) : (State.noteCheck s check).held = s.held := by
  simp only [State.noteCheck, apply_ite State.held, ite_self, State.eccCnt_held, State.draw_held, State.rejectFrame_held]

theorem State.decoded_held (s : State) (r : Nat) (x : CwRead) (check pi : Nat) : (State.decoded s r x check pi).held = s.held := by
  simp only [State.decoded, apply_ite State.held, ite_self, implies_true, foldl_held, State.eccCnt_held, State.refreshBlock_held, State.passCw_held,
      State.noteCheck_held, State.checkEnds_held, State.rebuild_held]

theorem execDecodeComplete_held (read : Nat) (ok : Bool) (synd level check pi : Nat) (s : State)
    : Holds s (execDecodeComplete read ok synd level check pi s) := by
  unfold execDecodeComplete
  repeat' (first | simp only [apply_ite State.held, ite_self, implies_true, Holds_fault, State.noteSynd_held, guarded_held, State.noteLevel_held,
                          State.decoded_held, State.climb_held] | split)

theorem State.rebuildFailed_held (s : State) (r : Nat) (x : CwRead) : (State.rebuildFailed s r x).held = s.held := by
  simp only [State.rebuildFailed, apply_ite State.held, ite_self, State.setFlag_held, State.eccCnt_held, State.atL6_held, State.updCw_held]

theorem execReconstructionComplete_held (read lost check pi : Nat) (s : State) : Holds s (execReconstructionComplete read lost check pi s) := by
  unfold execReconstructionComplete
  repeat' (first | simp only [apply_ite State.held, ite_self, implies_true, Holds_fault, guarded_held, State.rebuildFailed_held,
                          State.noteCheck_held, State.checkEnds_held, State.eccCnt_held, State.refreshBlock_held, State.passCw_held] | split)

theorem State.queueBest_held (n : Nat) (s : State) : (State.queueBest n s).held = s.held := by
  induction n generalizing s
  · first | rfl | (intro a t h; cases h)
  rename_i n ih
  unfold State.queueBest
  repeat' (first | simp only [State.queueVictim_held] | split | exact ih .. | exact (ih ..).trans (by assumption) | refine (ih ..).trans ?_ | with_reducible refine (foldl_held _ _ _ (fun u _ => ?_)).trans ?_)

theorem execVictimSelect_held (s : State) : Holds s (execVictimSelect s) := by
  unfold execVictimSelect
  repeat' (first | simp only [Holds_next, State.queueBest_held] | split)

theorem execCourseAgeRefresh_held (course : Nat) (s : State) : Holds s (execCourseAgeRefresh course s) := by
  unfold execCourseAgeRefresh
  repeat' (first | simp only [implies_true, Holds_fault, guarded_held, State.queueVictim_held] | split)

theorem State.markLost_held (s : State) (e slot psa count : Nat) : (State.markLost s e slot psa count).held = s.held := by
  unfold State.markLost
  repeat' (first | (extract_lets +onlyGivenNames t; first | (refine held_via (t := t) ?_ (fun ht => ?_); rotate_left; clear_value t; rotate_left; simp only [t]) | clear_value t) | simp only [State.setFlag_held, State.eccCnt_held, State.event_held, State.putFines_held, State.mapCnt_held, State.batch_held, State.setSlots_held, *] | split | with_reducible refine (foldl_held _ _ _ (fun u _ => ?_)).trans ?_)
  all_goals grind only [held_mk, held_fold, State.setFlag_held, State.eccCnt_held, State.event_held, State.putFines_held, State.mapCnt_held,
      State.batch_held, State.setSlots_held]

theorem State.placeCopy_held (s : State) (kind : Nat) (k lba : Nat) (page : Bool) (ws : List Codeword) : ∀ a t,
    s.placeCopy kind k lba page ws = some (a, t) → t.held = s.held := by
  intro a t h
  unfold State.placeCopy at h
  split at h
  · obtain ⟨x, hx, e⟩ := Option.bind_eq_some_iff.1 h
    exact (State.placeSmall_held _ _ _ _ _ _ e).trans (State.nextCourse_held _ _ _ _ _ _ _ hx)
  · exact State.placeIn_held _ _ _ _ _ _ _ _ h

theorem State.addCopy_held (s : State) (c : Copy) : (State.addCopy s c).held = s.held := by
  simp only [State.addCopy, held_mk, held_fold]

theorem State.copyUnit_held (s : State) (course reason kind : Nat) (bad : List Nat) (u : Nat × Nat × Nat × Nat × Bool × Bool)
    : (State.copyUnit s course reason kind bad u).held = s.held := by
  unfold State.copyUnit
  repeat' (first | simp only [apply_ite State.held, ite_self, implies_true, foldl_held, State.markLost_held,
                          State.addCopy_held] | split | with_reducible refine (foldl_held _ _ _ (fun u _ => ?_)).trans ?_)
  all_goals grind only [held_mk, held_fold, State.markLost_held, State.placeCopy_held, State.addCopy_held]

theorem State.seamStart_held (s : State) (e : Nat) (bad : List Nat) : (State.seamStart s e bad).held = s.held := by
  unfold State.seamStart
  repeat' (first | (extract_lets +onlyGivenNames t; first | (refine held_via (t := t) ?_ (fun ht => ?_); rotate_left; clear_value t; rotate_left; simp only [t]) | clear_value t) | simp only [apply_ite State.held, State.markLost_held, State.compress_held, State.addCopy_held, *] | split | with_reducible refine (foldl_held _ _ _ (fun u _ => ?_)).trans ?_)
  all_goals grind only [held_mk, held_fold, State.markLost_held, State.compress_held, State.placeIn_held, State.addCopy_held]

theorem execSeamStart_held (e : Nat) (bad : List Nat) (s : State) : Holds s (execSeamStart e bad s) := by
  unfold execSeamStart
  repeat' (first | simp only [implies_true, guarded_held, State.seamStart_held] | split)

theorem State.copyBlocks_held (s : State) (course reason kind : Nat) (bad : List Nat) (bs : List Nat)
    : (State.copyBlocks s course reason kind bad bs).held = s.held := by
  simp only [State.copyBlocks, apply_ite State.held, ite_self, implies_true, foldl_held, State.seamStart_held, State.copyUnit_held]

theorem execReclaimCopy_held (course : Nat) (bad : List Nat) (s : State) : Holds s (execReclaimCopy course bad s) := by
  unfold execReclaimCopy
  repeat' (first | (extract_lets +onlyGivenNames t; first | (refine holds_via (t := t) ?_ (fun ht => ?_); rotate_left; clear_value t; rotate_left; simp only [t]) | clear_value t) | simp only [held_mk, held_fold, Holds_next, Holds_fault, State.copyBlocks_held, *] | split | with_reducible refine (foldl_held _ _ _ (fun u _ => ?_)).trans ?_)
  all_goals grind only [held_mk, held_fold, State.copyBlocks_held]

theorem execDestageMove_held (course : Nat) (bad : List Nat) (s : State) : Holds s (execDestageMove course bad s) := by
  unfold execDestageMove
  repeat' (first | simp only [implies_true, Holds_fault, guarded_held, State.copyBlocks_held] | split)

theorem State.applyMove_held (s : State) (c : Copy) : (State.applyMove s c).held = s.held := by
  unfold State.applyMove
  repeat' (first | simp only [State.putExt_held, State.putFines_held] | split)

theorem State.afterMove_held (s : State) (c : Copy) : (State.afterMove s c).held = s.held := by
  unfold State.afterMove
  repeat' (first | (extract_lets +onlyGivenNames t; first | (refine held_via (t := t) ?_ (fun ht => ?_); rotate_left; clear_value t; rotate_left; simp only [t]) | clear_value t) | simp only [apply_ite State.held, ite_self, implies_true, foldl_held, State.updCourse_held, State.retire_held, State.fdpEvent_held, State.queueVictim_held, State.rclCnt_held, *] | split | with_reducible refine (foldl_held _ _ _ (fun u _ => ?_)).trans ?_)
  all_goals grind only [held_mk, held_fold, State.updCourse_held, State.retire_held, State.fdpEvent_held, State.queueVictim_held, State.rclCnt_held]

theorem State.countCopy_held (s : State) (c : Copy) : (State.countCopy s c).held = s.held := by
  simp only [State.countCopy, apply_ite State.held, ite_self, State.crsCnt_held, State.rclCnt_held]

theorem State.moveCommit_held (s : State) (id : Nat) (c : Copy) : (State.moveCommit s id c).held = s.held := by
  simp only [State.moveCommit, held_mk, held_fold, apply_ite State.held, ite_self, State.batch_held, State.applyMove_held, State.mapCnt_held,
      State.countCopy_held, State.afterMove_held]

theorem State.seamCommit_held (s : State) (id : Nat) (c : Copy) : (State.seamCommit s id c).held = s.held := by
  simp only [State.seamCommit, held_mk, held_fold, apply_ite State.held, ite_self, State.putExt_held, State.batch_held, State.mapCnt_held,
      State.addSat_held]

theorem State.commitCopy_held (s : State) (id : Nat) (c : Copy) : (State.commitCopy s id c).held = s.held := by
  simp only [State.commitCopy, held_mk, held_fold, apply_ite State.held, ite_self, State.seamCommit_held, State.moveCommit_held]

theorem execMoveCommit_held (copy : Nat) (s : State) : Holds s (execMoveCommit copy s) := by
  unfold execMoveCommit
  repeat' (first | simp only [implies_true, Holds_fault, guarded_held, State.commitCopy_held] | split)

theorem execSeamCommit_held (copy : Nat) (s : State) : Holds s (execSeamCommit copy s) := by
  unfold execSeamCommit
  repeat' (first | simp only [implies_true, Holds_fault, guarded_held, State.commitCopy_held] | split)

theorem State.applyHeld_held (s : State) (h : HeldUpd) : (State.applyHeld s h).held = s.held := by
  unfold State.applyHeld
  repeat' (first | simp only [apply_ite State.held, ite_self, State.applyUnit_held, State.commitCopy_held, State.writeBack_held, State.mapCnt_held,
                          State.placeRmw_held] | split)

theorem State.loseUnit_held (s : State) (c nsid unit : Nat) : (State.loseUnit s c nsid unit).held = s.held := by
  unfold State.loseUnit
  repeat' (first | (extract_lets +onlyGivenNames t; first | (refine held_via (t := t) ?_ (fun ht => ?_); rotate_left; clear_value t; rotate_left; simp only [t]) | clear_value t) | simp only [held_mk, held_fold, apply_ite State.held, ite_self, implies_true, foldl_held, State.updCmd_held, State.event_held, State.settleCmd_held, State.finishDurable_held, *] | split | with_reducible refine (foldl_held _ _ _ (fun u _ => ?_)).trans ?_)
  all_goals grind only [held_mk, held_fold, State.updCmd_held, State.event_held, State.settleCmd_held, State.finishDurable_held]

theorem State.discardHeld_held (s : State) (h : HeldUpd) : (State.discardHeld s h).held = s.held := by
  unfold State.discardHeld
  repeat' (first | simp only [held_mk, held_fold, State.loseUnit_held] | split)

theorem execMapUnitApply_held (cmd nsid unit : Nat) (s : State) : Holds s (execMapUnitApply cmd nsid unit s) := by
  unfold execMapUnitApply
  repeat' (first | simp only [held_mk, held_fold, apply_ite State.held, ite_self, implies_true, guarded_held, State.loseUnit_held,
                          State.applyUnit_held] | split)

theorem execRmwWriteback_held (job : Nat) (bad : List Nat) (s : State) : Holds s (execRmwWriteback job bad s) := by
  unfold execRmwWriteback
  repeat' (first | (extract_lets +onlyGivenNames t; first | (refine holds_via (t := t) ?_ (fun ht => ?_); rotate_left; clear_value t; rotate_left; simp only [t]) | clear_value t) | simp only [held_mk, held_fold, apply_ite State.held, ite_self, implies_true, Holds_fault, guarded_held, State.discardHeld_held, State.mapCnt_held, State.placeRmw_held, State.writeBack_held, *] | split | with_reducible refine (foldl_held _ _ _ (fun u _ => ?_)).trans ?_)
  all_goals grind only [held_mk, held_fold, State.compress_held, guarded_held, State.discardHeld_held, State.mapCnt_held, State.placeRmw_held,
      State.writeBack_held]

theorem execSegmentRecoveryComplete_held (ok : Bool) (replayed : Nat) (s : State) : Holds s (execSegmentRecoveryComplete ok replayed s) := by
  unfold execSegmentRecoveryComplete
  repeat' (first | (extract_lets +onlyGivenNames t; first | (refine holds_via (t := t) ?_ (fun ht => ?_); rotate_left; clear_value t; rotate_left; simp only [t]) | clear_value t) | simp only [held_mk, held_fold, apply_ite State.held, ite_self, implies_true, foldl_held, Holds_next, Holds_fault, State.framesRead_held, State.putSat_held, State.event_held, State.mapCnt_held, State.applyHeld_held, State.setFlag_held, State.degrade_held, State.discardHeld_held, State.failWrite_held, *] | split | with_reducible refine (foldl_held _ _ _ (fun u _ => ?_)).trans ?_)
  all_goals grind only [held_mk, held_fold, State.framesRead_held, State.putSat_held, State.event_held, State.mapCnt_held, State.applyHeld_held,
      State.setFlag_held, State.degrade_held, State.discardHeld_held, State.failWrite_held]

theorem execIoManagementReceive_held (cmd mo : Nat) (s : State) : Holds s (execIoManagementReceive cmd mo s) := by
  unfold execIoManagementReceive
  repeat' (first | simp only [State.fail_held, State.send_held,
                          State.finish_held] | split | with_reducible refine onNs_holds _ _ _ _ (fun u v => ?_) | with_reducible refine (foldl_held _ _ _ (fun u _ => ?_)).trans ?_)

theorem State.updateHandle_held (s : State) (h : Nat) : (State.updateHandle s h).held = s.held := by
  simp only [State.updateHandle, implies_true, foldl_held, State.updCourse_held, State.padTo_held, State.fdpEvent_held, State.crsCnt_held]

theorem execReclaimUnitHandleUpdate_held (cmd : Nat) (handles : List Nat) (s : State) : Holds s (execReclaimUnitHandleUpdate cmd handles s) := by
  unfold execReclaimUnitHandleUpdate
  repeat' (first | simp only [apply_ite State.held, ite_self, implies_true, foldl_held, State.fail_held, State.updateHandle_held,
                          State.finish_held] | split | with_reducible refine onNs_holds _ _ _ _ (fun u v => ?_) | with_reducible refine (foldl_held _ _ _ (fun u _ => ?_)).trans ?_)

theorem State.sknErr_held (s : State) (d kind : Nat) : (State.sknErr s d kind).held = s.held := by
  simp only [State.sknErr, State.setFld_held]

theorem State.readsLost_held (s : State) (d : Nat) : (State.readsLost s d).held = s.held := by
  simp only [State.readsLost, apply_ite State.held, ite_self, implies_true, foldl_held, State.cancel_held, State.atL6_held, State.updCw_held,
      State.rebuild_held]

theorem State.setChan_held (s : State) (c : Nat) (x : Chan) : (State.setChan s c x).held = s.held := by
  simp only [State.setChan, held_mk, held_fold]

theorem State.checkChan_held (s : State) (c : Nat) : (State.checkChan s c).held = s.held := by
  simp only [State.checkChan, apply_ite State.held, ite_self, State.setChan_held]

theorem State.opFails_held (s : State) (d : Nat) : (State.opFails s d).held = s.held := by
  unfold State.opFails
  repeat' (first | simp only [apply_ite State.held, ite_self, State.opEnd_held, State.eraseFailed_held, State.parityFail_held,
                          State.dataFail_held] | split)

theorem State.takeOut_held (s : State) (d reason : Nat) : (State.takeOut s d reason).held = s.held := by
  simp only [State.takeOut, held_mk, held_fold, State.opFails_held, State.cancel_held, State.dieOut_held, State.readsLost_held, State.checkChan_held]

theorem State.lunGone_held (s : State) (d : Nat) : (State.lunGone s d).held = s.held := by
  simp only [State.lunGone, State.setFlag_held, State.sknErr_held, State.eventFrom_held, State.takeOut_held]

theorem State.lunReset_held (s : State) (d kind : Nat) : (State.lunReset s d kind).held = s.held := by
  simp only [State.lunReset, held_mk, held_fold, State.opFails_held, State.sknCnt_held, State.addSat_held, State.arm_held]

theorem State.noteTimeout_held (s : State) (d kind : Nat) : (State.noteTimeout s d kind).held = s.held := by
  simp only [State.noteTimeout, held_mk, held_fold, State.setFlag_held, State.sknErr_held, State.sknCnt_held, State.addSat_held, State.eventFrom_held]

theorem State.afterTimeout_held (s : State) (d kind : Nat) : (State.afterTimeout s d kind).held = s.held := by
  simp only [State.afterTimeout, apply_ite State.held, ite_self, State.lunGone_held, State.lunReset_held]

theorem execStatusPoll_held (die : Nat) (ready : Bool) (s : State) : Holds s (execStatusPoll die ready s) := by
  unfold execStatusPoll
  repeat' (first | simp only [held_mk, held_fold, apply_ite State.held, ite_self, implies_true, State.sknCnt_held, guarded_held,
                          State.cancel_held] | split)

theorem State.trainFrom_held (s : State) (c top rate : Nat) : (State.trainFrom s c top rate).held = s.held := by
  simp only [State.trainFrom, apply_ite State.held, ite_self, implies_true, foldl_held, State.addSat_held, State.sknErr_held, State.setFlag_held,
      State.setChan_held, State.takeOut_held, State.addWrap_held]

theorem State.trainFull_held (s : State) (c rate : Nat) : (State.trainFull s c rate).held = s.held := by
  simp only [State.trainFull, State.trainFrom_held]

theorem State.trainAgain_held (s : State) (c rate : Nat) : (State.trainAgain s c rate).held = s.held := by
  simp only [State.trainAgain, State.trainFrom_held]

theorem State.retrain_held (s : State) (c : Nat) : (State.retrain s c).held = s.held := by
  simp only [State.retrain, apply_ite State.held, ite_self, State.draw_held, State.trainFull_held]

theorem execFlashOpTimeout_held (die kind obj rate : Nat) (s : State) : Holds s (execFlashOpTimeout die kind obj rate s) := by
  unfold execFlashOpTimeout
  repeat' (first | (extract_lets +onlyGivenNames t; first | (refine holds_via (t := t) ?_ (fun ht => ?_); rotate_left; clear_value t; rotate_left; simp only [t]) | clear_value t) | simp only [apply_ite State.held, ite_self, implies_true, Holds_next, State.noteTimeout_held, State.cancel_held, State.countMiss_held, State.atL6_held, State.updCw_held, State.rebuild_held, State.afterTimeout_held, State.opFails_held, guarded_held, State.trainAgain_held, *] | split | with_reducible refine onTimer_holds _ _ _ (fun u => ?_) | with_reducible refine (foldl_held _ _ _ (fun u _ => ?_)).trans ?_)
  all_goals grind only [held_mk, held_fold, State.noteTimeout_held, State.cancel_held, State.countMiss_held, State.atL6_held, State.updCw_held,
      State.rebuild_held, State.afterTimeout_held, State.opFails_held, guarded_held, State.trainAgain_held]

theorem execLunResetTimeout_held (die : Nat) (s : State) : Holds s (execLunResetTimeout die s) := by
  unfold execLunResetTimeout
  repeat' (first | simp only [State.lunGone_held] | split | with_reducible refine onTimer_holds _ _ _ (fun u => ?_) | with_reducible refine (foldl_held _ _ _ (fun u _ => ?_)).trans ?_)

theorem execZqShortTimer_held (skein : Nat) (s : State) : Holds s (execZqShortTimer skein s) := by
  unfold execZqShortTimer
  repeat' (first | simp only [apply_ite State.held, ite_self, State.arm_held,
                          State.addWrap_held] | split | with_reducible refine onTimer_holds _ _ _ (fun u => ?_) | with_reducible refine (foldl_held _ _ _ (fun u _ => ?_)).trans ?_)

theorem execTempRetrain_held (skein tj : Nat) (failed : List (Nat × Nat)) (s : State) : Holds s (execTempRetrain skein tj failed s) := by
  unfold execTempRetrain
  repeat' (first | simp only [apply_ite State.held, ite_self, implies_true, foldl_held, State.setTemp_held, State.setFld_held, State.addWrap_held,
                          guarded_held, State.trainAgain_held] | split)

theorem execSkeinLinkStall_held (skein : Nat) (s : State) : Holds s (execSkeinLinkStall skein s) := by
  unfold execSkeinLinkStall
  repeat' (first | (extract_lets +onlyGivenNames t; first | (refine holds_via (t := t) ?_ (fun ht => ?_); rotate_left; clear_value t; rotate_left; simp only [t]) | clear_value t) | simp only [held_mk, held_fold, apply_ite State.held, ite_self, implies_true, State.addSat_held, State.addWrap_held, State.setFlag_held, State.arm_held, State.eventFrom_held, guarded_held, *] | split | with_reducible refine (foldl_held _ _ _ (fun u _ => ?_)).trans ?_)
  all_goals grind only [held_mk, held_fold, State.addSat_held, State.addWrap_held, State.setFlag_held, State.arm_held, State.eventFrom_held,
      guarded_held]

theorem State.linkBack_held (s : State) (k : Nat) : (State.linkBack s k).held = s.held := by
  simp only [State.linkBack, held_mk, held_fold, State.putSat_held, State.cancel_held]

theorem execSkeinLinkRecovered_held (skein : Nat) (rates : List (Nat × Nat)) (s : State) : Holds s (execSkeinLinkRecovered skein rates s) := by
  unfold execSkeinLinkRecovered
  repeat' (first | simp only [apply_ite State.held, ite_self, implies_true, foldl_held, State.linkBack_held,
                          State.trainFull_held] | split | with_reducible refine withSome_holds _ _ _ (fun u => ?_) | with_reducible refine (foldl_held _ _ _ (fun u _ => ?_)).trans ?_)

theorem State.resetSkein_held (s : State) (k : Nat) : (State.resetSkein s k).held = s.held := by
  simp only [State.resetSkein, held_mk, held_fold, implies_true, foldl_held, State.opFails_held]

theorem execSkeinLinkDownLong_held (skein : Nat) (s : State) : Holds s (execSkeinLinkDownLong skein s) := by
  unfold execSkeinLinkDownLong
  repeat' (first | simp only [Holds_next, State.cancel_held, State.resetSkein_held] | split | with_reducible refine onTimer_holds _ _ _ (fun u => ?_) | with_reducible refine (foldl_held _ _ _ (fun u _ => ?_)).trans ?_)

theorem State.copyOffSkein_held (s : State) (copy k : Nat) : (State.copyOffSkein s copy k).held = s.held := by
  simp only [State.copyOffSkein, apply_ite State.held, ite_self, State.moveCopy_held]

theorem State.skeinGone_held (s : State) (k : Nat) : (State.skeinGone s k).held = s.held := by
  simp only [State.skeinGone, implies_true, foldl_held, State.setFlag_held, State.cancel_held, State.eventFrom_held, State.degrade_held,
      State.takeOut_held, State.copyOffSkein_held, State.noteSkeins_held, State.protCheck_held]

theorem execSkeinFailed_held (skein : Nat) (s : State) : Holds s (execSkeinFailed skein s) := by
  unfold execSkeinFailed
  repeat' (first | simp only [State.skeinGone_held] | split | with_reducible refine onTimer_holds _ _ _ (fun u => ?_) | with_reducible refine (foldl_held _ _ _ (fun u _ => ?_)).trans ?_)

end Sys2Proof.Machine
end

