-- ==== Sys2Proof/Laws/HeldFabric.lean ====
section
/-! SUPPORT. The store, the event areas, the key set and the namespaces through the strand fabric, firmware, resets and the host link. -/

namespace Sys2Proof.Machine

set_option linter.unusedTactic false
set_option linter.unreachableTactic false
set_option linter.unusedSimpArgs false

theorem State.strCnt_held (s : State) (n : Nat) (k : Nat) : (State.strCnt s n k).held = s.held := by
  simp only [State.strCnt, State.addWrap_held]

theorem State.setPeer_held (s : State) (p : Nat) (x : Peer) : (State.setPeer s p x).held = s.held := by
  simp only [State.setPeer, held_mk, held_fold]

theorem State.sendFrame_held (s : State) (dst type seq : Nat) (data : List Nat) : (State.sendFrame s dst type seq data).held = s.held := by
  simp only [State.sendFrame, apply_ite State.held, ite_self, State.send_held, State.strCnt_held, State.cancel_held]

theorem State.sendReliable_held (s : State) (dst type : Nat) (data : List Nat) : (State.sendReliable s dst type data).held = s.held := by
  simp only [State.sendReliable, State.setPeer_held, State.sendFrame_held, State.arm_held]

theorem State.roleChanged_held (s : State) : (State.roleChanged s).held = s.held := by
  simp only [State.roleChanged, State.setFlag_held, State.asyncVendor_held]

theorem State.endCopy_held (s : State) (id : Nat) (c : OutCopy) (st : Status) : (State.endCopy s id c st).held = s.held := by
  simp only [State.endCopy, held_mk, held_fold, apply_ite State.held, ite_self, State.strCnt_held, State.unlock_held, State.finish_held]

theorem State.abandonCopy_held (s : State) (id : Nat) (c : OutCopy) (st : Status) : (State.abandonCopy s id c st).held = s.held := by
  simp only [State.abandonCopy, State.sendReliable_held, State.endCopy_held]

theorem State.pump_held (n : Nat) (p : Nat) (s : State) : (State.pump n p s).held = s.held := by
  induction n generalizing s p
  · first | rfl | (intro a t h; cases h)
  rename_i n ih
  unfold State.pump
  repeat' (first | (extract_lets +onlyGivenNames t; first | (refine held_via (t := t) ?_ (fun ht => ?_); rotate_left; clear_value t; rotate_left; simp only [t]) | clear_value t) | simp only [held_mk, held_fold, apply_ite State.held, ite_self, State.strCnt_held, State.arm_held, State.setPeer_held, State.sendReliable_held, *] | split | exact ih .. | exact (ih ..).trans (by assumption) | refine (ih ..).trans ?_ | with_reducible refine (foldl_held _ _ _ (fun u _ => ?_)).trans ?_)
  all_goals grind only [held_mk, held_fold, State.strCnt_held, State.arm_held, State.setPeer_held, State.sendReliable_held]

theorem State.pumpAll_held (s : State) (p : Nat) : (State.pumpAll s p).held = s.held := by
  simp only [State.pumpAll, State.pump_held]

theorem State.tidyCopies_held (s : State) : (State.tidyCopies s).held = s.held := by
  simp only [State.tidyCopies, implies_true, foldl_held, State.abandonCopy_held]

theorem State.takeHeader_held (s : State) (h : FrameHdr) : (State.takeHeader s h).held = s.held := by
  simp only [State.takeHeader, apply_ite State.held, ite_self, implies_true, foldl_held, State.cancel_held, State.setPeer_held,
      State.tidyCopies_held, State.pumpAll_held]

theorem State.frameIn_held (s : State) (h : FrameHdr) (memb : Bool) : (State.frameIn s h memb).2.held = s.held := by
  unfold State.frameIn
  repeat' (first | simp only [State.strCnt_held, State.setFlag_held, State.takeHeader_held] | split)

theorem onFrame_holds (s : State) (h : FrameHdr) (memb : Bool) (k : State → State) (hk : ∀ u,
    (k u).held = u.held) : Holds s (onFrame s h memb k) := by
  refine (guarded_held _ _ _ _).2 (fun _ => ?_); simp only []; split
  · exact (hk _).trans (State.frameIn_held ..)
  · exact State.frameIn_held ..

theorem State.unreachable_held (s : State) (p : Nat) : (State.unreachable s p).held = s.held := by
  simp only [State.unreachable, implies_true, foldl_held, State.cancel_held, State.setPeer_held, State.setFlag_held, State.event_held,
      State.endCopy_held]

theorem execHold_held (h : FrameHdr) (ms : Nat) (s : State) : Holds s (execHold h ms s) := by
  unfold execHold
  repeat' (first | simp only [State.strCnt_held, State.arm_held] | split | with_reducible refine onFrame_holds _ _ _ _ (fun u => ?_) | with_reducible refine (foldl_held _ _ _ (fun u _ => ?_)).trans ?_)

theorem execHoldExpiry_held (peer : Nat) (s : State) : Holds s (execHoldExpiry peer s) := by
  unfold execHoldExpiry
  repeat' (first | simp only [] | split | with_reducible refine onTimer_holds _ _ _ (fun u => ?_) | with_reducible refine (foldl_held _ _ _ (fun u _ => ?_)).trans ?_)

theorem execRetransmitTimeout_held (peer seq : Nat) (s : State) : Holds s (execRetransmitTimeout peer seq s) := by
  unfold execRetransmitTimeout
  repeat' (first | simp only [apply_ite State.held, ite_self, State.arm_held, State.unreachable_held, State.setPeer_held, State.strCnt_held,
                          State.sendFrame_held] | split | with_reducible refine onTimer_holds _ _ _ (fun u => ?_) | with_reducible refine (foldl_held _ _ _ (fun u _ => ?_)).trans ?_)

theorem execAckDelayTimer_held (peer : Nat) (s : State) : Holds s (execAckDelayTimer peer s) := by
  unfold execAckDelayTimer
  repeat' (first | simp only [State.sendFrame_held] | split | with_reducible refine onTimer_holds _ _ _ (fun u => ?_) | with_reducible refine (foldl_held _ _ _ (fun u _ => ?_)).trans ?_)

theorem execCreditWaitTimeout_held (peer : Nat) (s : State) : Holds s (execCreditWaitTimeout peer s) := by
  unfold execCreditWaitTimeout
  repeat' (first | simp only [State.unreachable_held] | split | with_reducible refine onTimer_holds _ _ _ (fun u => ?_) | with_reducible refine (foldl_held _ _ _ (fun u _ => ?_)).trans ?_)

theorem execAck_held (h : FrameHdr) (copy slots : Nat) (s : State) : Holds s (execAck h copy slots s) := by
  unfold execAck
  repeat' (first | (extract_lets +onlyGivenNames t; first | (refine holds_via (t := t) ?_ (fun ht => ?_); rotate_left; clear_value t; rotate_left; simp only [t]) | clear_value t) | simp only [held_mk, held_fold, apply_ite State.held, ite_self, State.strCnt_held, State.endCopy_held, *] | split | with_reducible refine onFrame_holds _ _ _ _ (fun u => ?_) | with_reducible refine (foldl_held _ _ _ (fun u _ => ?_)).trans ?_)
  all_goals grind only [held_mk, held_fold, State.strCnt_held, State.endCopy_held]

theorem State.lastNak_held (s : State) (cause win dir peer : Nat) : (State.lastNak s cause win dir peer).held = s.held := by
  simp only [State.lastNak, State.setFld_held, State.setFlag_held]

theorem execNak_held (h : FrameHdr) (cause win copy _seq : Nat) (s : State) : Holds s (execNak h cause win copy _seq s) := by
  unfold execNak
  repeat' (first | simp only [apply_ite State.held, ite_self, State.lastNak_held, State.strCnt_held, State.abandonCopy_held, State.setFlag_held,
                          State.event_held] | split | with_reducible refine onFrame_holds _ _ _ _ (fun u => ?_) | with_reducible refine (foldl_held _ _ _ (fun u _ => ?_)).trans ?_)

theorem execStrandCopyPush_held (cmd path win target off : Nat) (s : State) : Holds s (execStrandCopyPush cmd path win target off s) := by
  unfold execStrandCopyPush
  repeat' (first | (extract_lets +onlyGivenNames t; first | (refine holds_via (t := t) ?_ (fun ht => ?_); rotate_left; clear_value t; rotate_left; simp only [t]) | clear_value t) | simp only [held_mk, held_fold, apply_ite State.held, ite_self, State.fail_held, State.strCnt_held, State.readGate_held, State.readRanges_held, State.sendReliable_held, State.pumpAll_held, *] | split | with_reducible refine onNs_holds _ _ _ _ (fun u v => ?_) | with_reducible refine (foldl_held _ _ _ (fun u _ => ?_)).trans ?_)
  all_goals grind only [held_mk, held_fold, State.fail_held, State.unreachable_held, State.strCnt_held, State.readGate_held, State.readRanges_held,
      State.sendReliable_held, State.pumpAll_held]

theorem execStrandPortLinkChange_held (port : Nat) (up : Bool) (s : State) : Holds s (execStrandPortLinkChange port up s) := by
  unfold execStrandPortLinkChange
  repeat' (first | (extract_lets +onlyGivenNames t; first | (refine holds_via (t := t) ?_ (fun ht => ?_); rotate_left; clear_value t; rotate_left; simp only [t]) | clear_value t) | simp only [held_mk, held_fold, apply_ite State.held, ite_self, implies_true, foldl_held, State.addSat_held, guarded_held, State.sendFrame_held, State.strCnt_held, *] | split | with_reducible refine (foldl_held _ _ _ (fun u _ => ?_)).trans ?_)
  all_goals grind only [held_mk, held_fold, State.addSat_held, guarded_held, State.sendFrame_held, State.strCnt_held]

theorem State.noteVerify_held (s : State) (r : Nat × Nat) (ms : Nat) : (State.noteVerify s r ms).held = s.held := by
  simp only [State.noteVerify, apply_ite State.held, ite_self, State.setFld_held, State.putSat_held, State.addWrap_held, State.setFlag_held,
      State.event_held]

theorem State.fwRelease_held (s : State) : (State.fwRelease s).held = s.held := by
  simp only [State.fwRelease, held_mk, held_fold, State.setFld_held]

theorem execFirmwareImageDownload_held (cmd offset length : Nat) (data : List Nat) (s : State)
    : Holds s (execFirmwareImageDownload cmd offset length data s) := by
  unfold execFirmwareImageDownload
  repeat' (first | (extract_lets +onlyGivenNames t; first | (refine holds_via (t := t) ?_ (fun ht => ?_); rotate_left; clear_value t; rotate_left; simp only [t]) | clear_value t) | simp only [held_mk, held_fold, apply_ite State.held, ite_self, State.superGate_held, State.finish_held, State.fwDiscard_held, State.setFld_held, State.addWrap_held, *] | split | with_reducible refine onPf_holds _ _ _ (fun u => ?_) | with_reducible refine (foldl_held _ _ _ (fun u _ => ?_)).trans ?_)
  all_goals grind only [held_mk, held_fold, State.superGate_held, State.finish_held, State.fwDiscard_held, State.setFld_held, State.addWrap_held]

theorem State.writeSlot_held (s : State) (k : Nat) (img : List FwPart) : (State.writeSlot s k img).held = s.held := by
  simp only [State.writeSlot, held_mk, held_fold]

theorem State.writeLoader_held (s : State) : (State.writeLoader s).held = s.held := by
  unfold State.writeLoader
  repeat' (first | (extract_lets +onlyGivenNames t; first | (refine held_via (t := t) ?_ (fun ht => ?_); rotate_left; clear_value t; rotate_left; simp only [t]) | clear_value t) | simp only [held_mk, held_fold, implies_true, foldl_held, State.setArea_held, State.cfsRequest_held, *] | split | with_reducible refine (foldl_held _ _ _ (fun u _ => ?_)).trans ?_)
  all_goals grind only [held_mk, held_fold, State.setArea_held, State.cfsRequest_held]

theorem State.makePending_held (s : State) (k : Nat) : (State.makePending s k).held = s.held := by
  simp only [State.makePending, State.setFlag_held, State.setFld_held, State.cfsRequest_held]

theorem State.activate_held (s : State) (cmd : Option Nat) (k : Nat) : (State.activate s cmd k).held = s.held := by
  simp only [State.activate, held_mk, held_fold, State.setFlag_held, State.clrFlag_held, State.setFld_held, State.asyncAll_held, State.arm_held,
      State.cancel_held]

theorem State.activationOver_held (s : State) (r : Activation) (outcome : Nat) : (State.activationOver s r outcome).held = s.held := by
  simp only [State.activationOver, held_mk, held_fold, State.clrFlag_held, State.cancel_held, State.setFld_held, State.putSat_held]

theorem State.noteVersions_held (s : State) : (State.noteVersions s).held = s.held := by
  simp only [State.noteVersions, apply_ite State.held, ite_self, implies_true, foldl_held, State.setFld_held]

theorem State.activateParts_held (s : State) (r : Activation) (ms failed : Nat) : (State.activateParts s r ms failed).held = s.held := by
  unfold State.activateParts
  repeat' (first | (extract_lets +onlyGivenNames t; first | (refine held_via (t := t) ?_ (fun ht => ?_); rotate_left; clear_value t; rotate_left; simp only [t]) | clear_value t) | simp only [held_mk, held_fold, apply_ite State.held, State.advanceTo_held, State.setFld_held, State.clrFlag_held, State.cfsRequest_held, State.raiseSvn_held, State.activationOver_held, State.noteVersions_held, State.event_held, State.addWrap_held, State.finish_held, State.setFlag_held, *] | split | with_reducible refine (foldl_held _ _ _ (fun u _ => ?_)).trans ?_)
  all_goals grind only [held_mk, held_fold, State.advanceTo_held, State.setFld_held, State.clrFlag_held, State.cfsRequest_held, State.raiseSvn_held,
      State.activationOver_held, State.noteVersions_held, State.event_held, State.addWrap_held, State.finish_held, State.setFlag_held]

theorem State.commitSlot_held (s : State) (cmd slot ms : Nat) : (State.commitSlot s cmd slot ms).held = s.held := by
  simp only [State.commitSlot, apply_ite State.held, ite_self, State.noteVerify_held, State.finish_held, State.updCmd_held, State.makePending_held]

theorem State.commitWrite_held (s : State) (cmd ca slot : Nat) : (State.commitWrite s cmd ca slot).held = s.held := by
  simp only [State.commitWrite, apply_ite State.held, ite_self, State.writeLoader_held, State.writeSlot_held, State.finish_held, State.updCmd_held,
      State.makePending_held, State.activate_held]

theorem State.commitStaged_held (s : State) (cmd ca slot ms : Nat) : (State.commitStaged s cmd ca slot ms).held = s.held := by
  unfold State.commitStaged
  repeat' (first | simp only [apply_ite State.held, State.noteVerify_held, State.finish_held, State.rejectFrame_held, State.commitWrite_held] | split)

theorem execFirmwareCommit_held (cmd ca fs ms failed : Nat) (s : State) : Holds s (execFirmwareCommit cmd ca fs ms failed s) := by
  unfold execFirmwareCommit
  repeat' (first | simp only [apply_ite State.held, ite_self, State.superGate_held, State.activateParts_held, State.finish_held, State.deny_held,
                          State.fwRelease_held, State.noteGated_held, State.commitSlot_held,
                          State.commitStaged_held] | split | with_reducible refine onPf_holds _ _ _ (fun u => ?_) | with_reducible refine (foldl_held _ _ _ (fun u _ => ?_)).trans ?_)

theorem execActivationDrainTimeout_held (s : State) : Holds s (execActivationDrainTimeout s) := by
  unfold execActivationDrainTimeout
  repeat' (first | simp only [State.activationOver_held, State.makePending_held,
                          State.finish_held] | split | with_reducible refine onTimer_holds _ _ _ (fun u => ?_) | with_reducible refine (foldl_held _ _ _ (fun u _ => ?_)).trans ?_)

theorem State.skipActivation_held (s : State) : (State.skipActivation s).held = s.held := by
  simp only [State.skipActivation, held_mk, held_fold, State.clrFlag_held, State.setFlag_held, State.setFld_held, State.cancel_held, State.event_held]

theorem execScheduledActivationDue_held (ms failed : Nat) (s : State) : Holds s (execScheduledActivationDue ms failed s) := by
  unfold execScheduledActivationDue
  repeat' (first | simp only [apply_ite State.held, ite_self, Holds_next, State.activateParts_held, State.setFlag_held, State.skipActivation_held,
                          State.activate_held] | split)

theorem State.armActivation_held (s : State) (arm : Bool) (time : Nat) : (State.armActivation s arm time).2.held = s.held := by
  unfold State.armActivation
  repeat' (first | simp only [held_mk, held_fold, State.arm_held, State.clrFlag_held, State.cancel_held, State.setFlag_held] | split)

theorem State.noteFleet_held (s : State) : (State.noteFleet s).held = s.held := by
  simp only [State.noteFleet, apply_ite State.held, ite_self, State.putSat_held]

theorem State.spread_held (s : State) (blocks : List (Nat × Nat)) (time : Nat) : (State.spread s blocks time).held = s.held := by
  simp only [State.spread, held_mk, held_fold, implies_true, foldl_held, State.noteFleet_held, State.sendReliable_held]

theorem State.noteScheduled_held (s : State) (time : Nat) (ok : Bool) : (State.noteScheduled s time ok).held = s.held := by
  simp only [State.noteScheduled, held_mk, held_fold, apply_ite State.held, ite_self, State.sendReliable_held, State.noteFleet_held]

theorem State.armPackage_held (s : State) (src time : Nat) : (State.armPackage s src time).held = s.held := by
  simp only [State.armPackage, apply_ite State.held, ite_self, State.writeLoader_held, State.writeSlot_held, State.makePending_held,
      State.armActivation_held, State.sendReliable_held, State.spread_held]

theorem State.takeSchedule_held (s : State) (src time : Nat) : (State.takeSchedule s src time).held = s.held := by
  unfold State.takeSchedule
  repeat' (first | simp only [apply_ite State.held, State.noteVerify_held, State.sendReliable_held, State.rejectFrame_held,
                          State.armPackage_held] | split)

theorem State.windowSelect_held (s : State) (w : Nat) : (State.windowSelect s w).held = s.held := by
  simp only [State.windowSelect, State.setFld_held]

theorem State.windowCommit_held (s : State) : (State.windowCommit s).held = s.held := by
  simp only [State.windowCommit, held_mk, held_fold, apply_ite State.held, ite_self, State.setFld_held, State.strCnt_held, State.cfsRequest_held]

theorem State.setIn_held (s : State) (k : Nat) (c : InCopy) : (State.setIn s k c).held = s.held := by
  simp only [State.setIn, held_mk, held_fold]

theorem State.nak_held (s : State) (peer cause win copy seq : Nat) : (State.nak s peer cause win copy seq).held = s.held := by
  simp only [State.nak, State.sendFrame_held, State.strCnt_held, State.lastNak_held]

theorem State.newWrite_held (s : State) (c : InCopy) (x : Window) (lba : Nat) : (State.newWrite s c x lba).2.held = s.held := by
  unfold State.newWrite
  repeat' (first | (extract_lets +onlyGivenNames t; first | (refine held_via (t := t) ?_ (fun ht => ?_); rotate_left; clear_value t; rotate_left; simp only [t]) | clear_value t) | simp only [held_mk, held_fold, *] | split | with_reducible refine (foldl_held _ _ _ (fun u _ => ?_)).trans ?_)
  all_goals grind only [held_mk, held_fold, State.compress_held]

theorem State.bufferStrand_held (s : State) (w : InWrite) : (State.bufferStrand s w).2.held = s.held := by
  unfold State.bufferStrand
  repeat' (first | (extract_lets +onlyGivenNames t; first | (refine held_via (t := t) ?_ (fun ht => ?_); rotate_left; clear_value t; rotate_left; simp only [t]) | clear_value t) | simp only [implies_true, foldl_held, State.bufferSlots_held, State.placeStitch_held, State.fullyBuffered_held, State.noteStaging_held, *] | split | with_reducible refine (foldl_held _ _ _ (fun u _ => ?_)).trans ?_)
  all_goals grind only [held_mk, held_fold, State.bufferSlots_held, State.placeStitch_held, State.fullyBuffered_held, State.noteStaging_held]

theorem State.takeSlot_held (s : State) (key : Nat) (x : Window) (lba data : Nat) : (State.takeSlot s key x lba data).held = s.held := by
  unfold State.takeSlot
  repeat' (first | simp only [State.newWrite_held, State.bufferStrand_held, State.setIn_held] | split)

theorem State.discardWrites_held (s : State) (key : Nat) (c : InCopy) : (State.discardWrites s key c).held = s.held := by
  simp only [State.discardWrites, held_mk, held_fold, apply_ite State.held, ite_self, implies_true, foldl_held, State.unlock_held, State.strCnt_held,
      State.cancel_held, State.setIn_held]

theorem State.takeData_held (s : State) (h : FrameHdr) (copy win off : Nat) (slots : List Nat) (ok : Bool)
    : (State.takeData s h copy win off slots ok).held = s.held := by
  unfold State.takeData
  repeat' (first | (extract_lets +onlyGivenNames t; first | (refine held_via (t := t) ?_ (fun ht => ?_); rotate_left; clear_value t; rotate_left; simp only [t]) | clear_value t) | simp only [apply_ite State.held, ite_self, implies_true, foldl_held, State.strCnt_held, State.nak_held, State.takeSlot_held, State.arm_held, *] | split | with_reducible refine (foldl_held _ _ _ (fun u _ => ?_)).trans ?_)
  all_goals grind only [held_mk, held_fold, State.strCnt_held, State.nak_held, State.takeSlot_held, State.arm_held]

theorem execStrandWriteTimeout_held (copy : Nat) (s : State) : Holds s (execStrandWriteTimeout copy s) := by
  unfold execStrandWriteTimeout
  repeat' (first | simp only [State.discardWrites_held] | split | with_reducible refine onTimer_holds _ _ _ (fun u => ?_) | with_reducible refine (foldl_held _ _ _ (fun u _ => ?_)).trans ?_)

theorem execStrandWriteAck_held (copy fetch : Nat) (s : State) : Holds s (execStrandWriteAck copy fetch s) := by
  unfold execStrandWriteAck
  repeat' (first | (extract_lets +onlyGivenNames t; first | (refine holds_via (t := t) ?_ (fun ht => ?_); rotate_left; clear_value t; rotate_left; simp only [t]) | clear_value t) | simp only [held_mk, held_fold, apply_ite State.held, ite_self, Holds_next, Holds_fault, State.bufferStrand_held, State.setIn_held, State.sendFrame_held, State.strCnt_held, State.cancel_held, *] | split | with_reducible refine (foldl_held _ _ _ (fun u _ => ?_)).trans ?_)
  all_goals grind only [held_mk, held_fold, State.bufferStrand_held, State.setIn_held, State.sendFrame_held, State.strCnt_held, State.cancel_held]

theorem State.setMember_held (s : State) (id : Nat) (m : FleetMember) : (State.setMember s id m).held = s.held := by
  simp only [State.setMember, held_mk, held_fold]

theorem State.takeRegistry_held (s : State) (es : List RegEntry) : (State.takeRegistry s es).held = s.held := by
  unfold State.takeRegistry
  repeat' (first | simp only [State.setMember_held] | split | with_reducible refine (foldl_held _ _ _ (fun u _ => ?_)).trans ?_)

theorem State.sendJoin_held (s : State) : (State.sendJoin s).held = s.held := by
  unfold State.sendJoin
  repeat' (first | simp only [apply_ite State.held, ite_self, State.sendReliable_held] | split)

theorem State.startFleet_held (s : State) : (State.startFleet s).held = s.held := by
  simp only [State.startFleet, apply_ite State.held, ite_self, State.arm_held, State.armOnce_held]

theorem State.becomeMember_held (s : State) : (State.becomeMember s).held = s.held := by
  simp only [State.becomeMember, apply_ite State.held, ite_self, State.setFlag_held, State.setFld_held, State.startFleet_held, State.roleChanged_held]

theorem State.leave_held (s : State) : (State.leave s).held = s.held := by
  simp only [State.leave, held_mk, held_fold, implies_true, foldl_held, State.closeWindows_held, State.clrFlag_held, State.setFld_held,
      State.cancel_held, State.roleChanged_held]

theorem State.followManager_held (s : State) (role epoch id : Nat) : (State.followManager s role epoch id).held = s.held := by
  simp only [State.followManager, held_mk, held_fold, apply_ite State.held, ite_self, State.setFld_held, State.roleChanged_held, State.sendJoin_held]

theorem State.noteSection_held (s : State) (k : Nat) (es : List RollEntry) : (State.noteSection s k es).held = s.held := by
  simp only [State.noteSection, State.setFld_held, State.clrFlag_held, State.putSat_held, State.putFlag_held]

theorem State.announce_held (s : State) : (State.announce s).held = s.held := by
  simp only [State.announce, held_mk, held_fold, implies_true, foldl_held, State.sendReliable_held]

theorem State.deliver_held (s : State) (h : FrameHdr) (b : FrameBody) : (State.deliver s h b).held = s.held := by
  unfold State.deliver
  repeat' (first | (extract_lets +onlyGivenNames t; first | (refine held_via (t := t) ?_ (fun ht => ?_); rotate_left; clear_value t; rotate_left; simp only [t]) | clear_value t) | simp only [held_mk, held_fold, apply_ite State.held, ite_self, State.setIn_held, State.arm_held, State.sendFrame_held, State.strCnt_held, State.takeData_held, State.cancel_held, State.discardWrites_held, State.noteSection_held, State.stamp_held, State.takeRegistry_held, State.announce_held, State.followManager_held, State.setMember_held, State.sendReliable_held, State.lastNak_held, State.event_held, State.becomeMember_held, State.setFld_held, State.noteScheduled_held, State.armActivation_held, State.takeSchedule_held, *] | split | with_reducible refine (foldl_held _ _ _ (fun u _ => ?_)).trans ?_)
  all_goals grind only [held_mk, held_fold, State.setIn_held, State.arm_held, State.sendFrame_held, State.strCnt_held, State.takeData_held,
      State.cancel_held, State.discardWrites_held, State.noteSection_held, State.stamp_held, State.takeRegistry_held, State.announce_held,
      State.followManager_held, State.setMember_held, State.sendReliable_held, State.lastNak_held, State.event_held, State.becomeMember_held,
      State.setFld_held, State.noteScheduled_held, State.armActivation_held, State.takeSchedule_held]

theorem State.deliverHeld_held (n : Nat) (h : FrameHdr) (s : State) : (State.deliverHeld n h s).held = s.held := by
  induction n generalizing s h
  · first | rfl | (intro a t h; cases h)
  rename_i n ih
  unfold State.deliverHeld
  repeat' (first | simp only [State.setPeer_held, State.deliver_held] | split | exact ih .. | exact (ih ..).trans (by assumption) | refine (ih ..).trans ?_ | with_reducible refine (foldl_held _ _ _ (fun u _ => ?_)).trans ?_)

theorem onReliable_held (s : State) (h : FrameHdr) (memb : Bool) (b : FrameBody) : Holds s (onReliable s h memb b) := by
  unfold onReliable
  repeat' (first | simp only [apply_ite State.held, ite_self, State.sendFrame_held, State.strCnt_held, State.arm_held, State.setPeer_held,
                          State.deliver_held, State.deliverHeld_held] | split | with_reducible refine onFrame_holds _ _ _ _ (fun u => ?_) | with_reducible refine (foldl_held _ _ _ (fun u _ => ?_)).trans ?_)

theorem execCopyOpen_held (h : FrameHdr) (copy win off count : Nat) (s : State) : Holds s (execCopyOpen h copy win off count s) := by
  unfold execCopyOpen
  repeat' (first | simp only [onReliable_held] | split)

theorem execData_held (h : FrameHdr) (copy win off : Nat) (slots : List Nat) (wellFormed : Bool) (s : State)
    : Holds s (execData h copy win off slots wellFormed s) := by
  unfold execData
  repeat' (first | simp only [onReliable_held] | split)

theorem execCopyEnd_held (h : FrameHdr) (copy sent reason : Nat) (s : State) : Holds s (execCopyEnd h copy sent reason s) := by
  unfold execCopyEnd
  repeat' (first | simp only [onReliable_held] | split)

theorem execRollup_held (h : FrameHdr) (entries : List RollEntry) (s : State) : Holds s (execRollup h entries s) := by
  unfold execRollup
  repeat' (first | simp only [onReliable_held] | split)

theorem execRegistry_held (h : FrameHdr) (seq : Nat) (entries : List RegEntry) (s : State) : Holds s (execRegistry h seq entries s) := by
  unfold execRegistry
  repeat' (first | simp only [onReliable_held] | split)

theorem execManager_held (h : FrameHdr) (role epoch id : Nat) (s : State) : Holds s (execManager h role epoch id s) := by
  unfold execManager
  repeat' (first | simp only [onReliable_held] | split)

theorem execJoin_held (h : FrameHdr) (t : JoinTicket) (s : State) : Holds s (execJoin h t s) := by
  unfold execJoin
  repeat' (first | simp only [onReliable_held] | split)

theorem execJoinAck_held (h : FrameHdr) (entries : List RegEntry) (s : State) : Holds s (execJoinAck h entries s) := by
  unfold execJoinAck
  repeat' (first | simp only [onReliable_held] | split)

theorem execPatrolNotice_held (h : FrameHdr) (s : State) : Holds s (execPatrolNotice h s) := by
  unfold execPatrolNotice
  repeat' (first | simp only [onReliable_held] | split)

theorem execFwPart_held (h : FrameHdr) (offset : Nat) (blocks : List Nat) (s : State) : Holds s (execFwPart h offset blocks s) := by
  unfold execFwPart
  repeat' (first | simp only [onReliable_held] | split)

theorem execSchedule_held (h : FrameHdr) (answer : Bool) (time : Nat) (ok : Bool) (s : State) : Holds s (execSchedule h answer time ok s) := by
  unfold execSchedule
  repeat' (first | simp only [onReliable_held] | split)

theorem execHeartbeatTimer_held (s : State) : Holds s (execHeartbeatTimer s) := by
  unfold execHeartbeatTimer
  repeat' (first | simp only [apply_ite State.held, ite_self, State.arm_held, State.sendFrame_held,
                          State.strCnt_held] | split | with_reducible refine onTimer_holds _ _ _ (fun u => ?_) | with_reducible refine (foldl_held _ _ _ (fun u _ => ?_)).trans ?_)

theorem execHeartbeat_held (h : FrameHdr) (digest : List Nat) (s : State) : Holds s (execHeartbeat h digest s) := by
  unfold execHeartbeat
  repeat' (first | simp only [apply_ite State.held, ite_self, State.setMember_held, State.arm_held,
                          State.sendFrame_held] | split | with_reducible refine onFrame_holds _ _ _ _ (fun u => ?_) | with_reducible refine (foldl_held _ _ _ (fun u _ => ?_)).trans ?_)

theorem execHeartbeatMiss_held (peer : Nat) (s : State) : Holds s (execHeartbeatMiss peer s) := by
  unfold execHeartbeatMiss
  repeat' (first | simp only [held_mk, held_fold, State.setMember_held,
                          State.strCnt_held] | split | with_reducible refine onTimer_holds _ _ _ (fun u => ?_) | with_reducible refine (foldl_held _ _ _ (fun u _ => ?_)).trans ?_)

theorem execRollupTimer_held (s : State) : Holds s (execRollupTimer s) := by
  unfold execRollupTimer
  repeat' (first | (extract_lets +onlyGivenNames t; first | (refine holds_via (t := t) ?_ (fun ht => ?_); rotate_left; clear_value t; rotate_left; simp only [t]) | clear_value t) | simp only [held_mk, held_fold, apply_ite State.held, ite_self, State.arm_held, State.setFlag_held, State.strCnt_held, State.sendReliable_held, State.stamp_held, State.noteSection_held, *] | split | with_reducible refine onTimer_holds _ _ _ (fun u => ?_) | with_reducible refine (foldl_held _ _ _ (fun u _ => ?_)).trans ?_)
  all_goals grind only [held_mk, held_fold, State.arm_held, State.setFlag_held, State.strCnt_held, State.sendReliable_held, State.stamp_held,
      State.noteSection_held]

theorem execSectionRollupStale_held (sect : Nat) (s : State) : Holds s (execSectionRollupStale sect s) := by
  unfold execSectionRollupStale
  repeat' (first | simp only [State.setFlag_held, State.strCnt_held] | split | with_reducible refine onTimer_holds _ _ _ (fun u => ?_) | with_reducible refine (foldl_held _ _ _ (fun u _ => ?_)).trans ?_)

theorem execRegistryTimer_held (s : State) : Holds s (execRegistryTimer s) := by
  unfold execRegistryTimer
  repeat' (first | (extract_lets +onlyGivenNames t; first | (refine holds_via (t := t) ?_ (fun ht => ?_); rotate_left; clear_value t; rotate_left; simp only [t]) | clear_value t) | simp only [held_mk, held_fold, apply_ite State.held, ite_self, implies_true, foldl_held, State.arm_held, State.setFld_held, State.sendReliable_held, *] | split | with_reducible refine onTimer_holds _ _ _ (fun u => ?_) | with_reducible refine (foldl_held _ _ _ (fun u _ => ?_)).trans ?_)
  all_goals grind only [held_mk, held_fold, State.arm_held, State.setFld_held, State.sendReliable_held]

theorem execManagerLost_held (s : State) : Holds s (execManagerLost s) := by
  unfold execManagerLost
  repeat' (first | simp only [apply_ite State.held, ite_self, State.setFlag_held, State.event_held, State.strCnt_held,
                          State.asyncVendor_held] | split | with_reducible refine onTimer_holds _ _ _ (fun u => ?_) | with_reducible refine (foldl_held _ _ _ (fun u _ => ?_)).trans ?_)

theorem execRegistryLoadTimeout_held (s : State) : Holds s (execRegistryLoadTimeout s) := by
  unfold execRegistryLoadTimeout
  repeat' (first | simp only [held_mk, held_fold, apply_ite State.held, ite_self,
                          State.announce_held] | split | with_reducible refine onTimer_holds _ _ _ (fun u => ?_) | with_reducible refine (foldl_held _ _ _ (fun u _ => ?_)).trans ?_)

theorem execHbReply_held (h : FrameHdr) (t1 t2 t3 t4 epoch : Nat) (s : State) : Holds s (execHbReply h t1 t2 t3 t4 epoch s) := by
  unfold execHbReply
  repeat' (first | (extract_lets +onlyGivenNames t; first | (refine holds_via (t := t) ?_ (fun ht => ?_); rotate_left; clear_value t; rotate_left; simp only [t]) | clear_value t) | simp only [held_mk, held_fold, apply_ite State.held, ite_self, State.arm_held, State.strCnt_held, State.noteSectionTime_held, *] | split | with_reducible refine onFrame_holds _ _ _ _ (fun u => ?_) | with_reducible refine (foldl_held _ _ _ (fun u _ => ?_)).trans ?_)
  all_goals grind only [held_mk, held_fold, State.arm_held, State.strCnt_held, State.noteSectionTime_held]

theorem execTimeOffsetApply_held (s : State) : Holds s (execTimeOffsetApply s) := by
  unfold execTimeOffsetApply
  repeat' (first | (extract_lets +onlyGivenNames t; first | (refine holds_via (t := t) ?_ (fun ht => ?_); rotate_left; clear_value t; rotate_left; simp only [t]) | clear_value t) | simp only [held_mk, held_fold, apply_ite State.held, ite_self, State.arm_held, State.clrFlag_held, State.setTime_held, State.strCnt_held, State.putFlag_held, State.setFld_held, State.noteSectionTime_held, *] | split | with_reducible refine onTimer_holds _ _ _ (fun u => ?_) | with_reducible refine (foldl_held _ _ _ (fun u _ => ?_)).trans ?_)
  all_goals grind only [held_mk, held_fold, State.arm_held, State.clrFlag_held, State.setTime_held, State.strCnt_held, State.putFlag_held,
      State.setFld_held, State.noteSectionTime_held]

theorem execTimeExchangeTimeout_held (s : State) : Holds s (execTimeExchangeTimeout s) := by
  unfold execTimeExchangeTimeout
  repeat' (first | simp only [State.noteSectionTime_held] | split | with_reducible refine onTimer_holds _ _ _ (fun u => ?_) | with_reducible refine (foldl_held _ _ _ (fun u _ => ?_)).trans ?_)

theorem State.strandSet_held (s : State) (sel : Nat) (v : List Nat) : (State.strandSet s sel v).held = s.held := by
  unfold State.strandSet
  repeat' (first | (extract_lets +onlyGivenNames t; first | (refine held_via (t := t) ?_ (fun ht => ?_); rotate_left; clear_value t; rotate_left; simp only [t]) | clear_value t) | simp only [held_mk, held_fold, apply_ite State.held, ite_self, State.setFld_held, State.saveSettings_held, State.sendJoin_held, State.arm_held, State.startFleet_held, State.roleChanged_held, State.leave_held, *] | split | with_reducible refine (foldl_held _ _ _ (fun u _ => ?_)).trans ?_)
  all_goals grind only [held_mk, held_fold, State.setFld_held, State.saveSettings_held, State.sendJoin_held, State.arm_held, State.startFleet_held,
      State.roleChanged_held, State.leave_held]

theorem execStrandConfigure_held (cmd sel : Nat) (valid : Bool) (vals : List Nat) (s : State)
    : Holds s (execStrandConfigure cmd sel valid vals s) := by
  unfold execStrandConfigure
  repeat' (first | (extract_lets +onlyGivenNames t; first | (refine holds_via (t := t) ?_ (fun ht => ?_); rotate_left; clear_value t; rotate_left; simp only [t]) | clear_value t) | simp only [held_mk, held_fold, State.superGate_held, State.finish_held, State.noteGated_held, State.strandSet_held, State.cfsRequest_held, State.event_held, *] | split | with_reducible refine onVendor_holds _ _ _ _ (fun u => ?_) | with_reducible refine (foldl_held _ _ _ (fun u _ => ?_)).trans ?_)
  all_goals grind only [held_mk, held_fold, State.superGate_held, State.finish_held, State.noteGated_held, State.strandSet_held,
      State.cfsRequest_held, State.event_held]

theorem execStrandJoin_held (cmd : Nat) (t : JoinTicket) (s : State) : Holds s (execStrandJoin cmd t s) := by
  unfold execStrandJoin
  repeat' (first | simp only [held_mk, held_fold, State.superGate_held, State.finish_held, State.noteGated_held, State.cfsRequest_held,
                          State.sendJoin_held] | split | with_reducible refine onVendor_holds _ _ _ _ (fun u => ?_) | with_reducible refine (foldl_held _ _ _ (fun u _ => ?_)).trans ?_)

theorem execNeighbourSolicitation_held (port target source mac : Nat) (advert : Bool) (s : State)
    : Holds s (execNeighbourSolicitation port target source mac advert s) := by
  unfold execNeighbourSolicitation
  repeat' (first | simp only [held_mk, held_fold, apply_ite State.held, ite_self, implies_true, guarded_held, State.send_held] | split)

theorem State.dropTranslations_held (s : State) (fn : Nat) : (State.dropTranslations s fn).held = s.held := by
  simp only [State.dropTranslations, held_mk, held_fold, implies_true, foldl_held, State.cancel_held]

theorem State.orphanReqs_held (s : State) (fn atLeast : Nat) : (State.orphanReqs s fn atLeast).held = s.held := by
  simp only [State.orphanReqs, held_mk, held_fold, implies_true, foldl_held, State.cancel_held, State.arm_held]

theorem State.resetFn_held (s : State) (fn : Nat) (why : FnReset) : (State.resetFn s fn why).held = s.held := by
  simp only [State.resetFn, State.endCommands_held, State.dropDownload_held, State.dropTranslations_held, State.setFunc_held]

theorem State.resetPf_held (s : State) (pf : Nat) : (State.resetPf s pf).held = s.held := by
  simp only [State.resetPf, held_mk, held_fold, State.endSession_held, State.resetBank_held]

theorem State.tearDown_held (s : State) (pf : Nat) : (State.tearDown s pf).held = s.held := by
  simp only [State.tearDown, implies_true, foldl_held, State.orphanReqs_held, State.resetFn_held]

theorem execVfEnableClear_held (pf : Nat) (s : State) : Holds s (execVfEnableClear pf s) := by
  unfold execVfEnableClear
  repeat' (first | simp only [apply_ite State.held, ite_self, implies_true, guarded_held, State.tearDown_held, State.updFunc_held,
                          State.arm_held] | split)

theorem execVfEnableSet_held (pf : Nat) (s : State) : Holds s (execVfEnableSet pf s) := by
  unfold execVfEnableSet
  repeat' (first | simp only [implies_true, guarded_held, State.updFunc_held] | split)

theorem State.zeroCmb_held (s : State) (pf : Nat) : (State.zeroCmb s pf).held = s.held := by
  simp only [State.zeroCmb, held_mk, held_fold]

theorem execPfFlr_held (pf : Nat) (s : State) : Holds s (execPfFlr pf s) := by
  unfold execPfFlr
  repeat' (first | simp only [apply_ite State.held, ite_self, implies_true, guarded_held, State.tearDown_held, State.orphanReqs_held,
                          State.resetFn_held, State.zeroCmb_held, State.resetPf_held, State.hifCnt_held, State.arm_held] | split)

theorem execVfFlr_held (vf : Nat) (s : State) : Holds s (execVfFlr vf s) := by
  unfold execVfFlr
  repeat' (first | simp only [apply_ite State.held, ite_self, implies_true, Holds_fault, guarded_held, State.orphanReqs_held, State.resetFn_held,
                          State.hifCnt_held, State.arm_held] | split)

theorem execFlrComplete_held (fn : Nat) (s : State) : Holds s (execFlrComplete fn s) := by
  unfold execFlrComplete
  repeat' (first | simp only [implies_true, foldl_held, guarded_held, State.updFunc_held, State.cancel_held] | split)

theorem State.resetPort_held (s : State) (p : Nat) (fundamental : Bool) : (State.resetPort s p fundamental).held = s.held := by
  simp only [State.resetPort, held_mk, held_fold, implies_true, foldl_held, State.resetFn_held, State.cancel_held, State.setPort_held,
      State.resetPf_held]

theorem State.linkUp_held (s : State) (p width rate : Nat) (rev : Bool) : (State.linkUp s p width rate rev).held = s.held := by
  simp only [State.linkUp, State.setPort_held, State.arm_held]

theorem State.hotReset_held (s : State) (p : Nat) : (State.hotReset s p).held = s.held := by
  simp only [State.hotReset, apply_ite State.held, ite_self, State.resetPort_held, State.addSat_held, State.linkUp_held]

theorem onPort_held (s : State) (p : Nat) (t : State) (h : t.held = s.held) : Holds s (onPort s p t) := by
  unfold onPort
  repeat' split
  all_goals first | exact (Holds_fault _ _).2 trivial | exact (Holds_next _ _).2 h | exact (Holds_next _ _).2 rfl | exact (Holds_next _ _).2 (State.spdmError_held ..)

theorem execHotResetReceived_held (port : Nat) (s : State) : Holds s (execHotResetReceived port s) := by
  unfold execHotResetReceived
  repeat' (first | simp only [onPort_held, State.hotReset_held, State.hifCnt_held] | split)

theorem execDlDown_held (port : Nat) (s : State) : Holds s (execDlDown port s) := by
  unfold execDlDown
  repeat' (first | simp only [onPort_held, State.hotReset_held, State.hifCnt_held] | split)

theorem execLinkTrainingFail_held (port : Nat) (s : State) : Holds s (execLinkTrainingFail port s) := by
  unfold execLinkTrainingFail
  repeat' (first | simp only [onPort_held, State.setPort_held, State.eventFrom_held] | split)

theorem State.linkError_held (s : State) (p : Nat) (e : LinkError) (lane : Nat) : (State.linkError s p e lane).held = s.held := by
  unfold State.linkError
  repeat' (first | simp only [State.aer_held, State.hifCnt_held, State.addSat_held, State.hotReset_held] | split)

theorem execLinkLayerError_held (port : Nat) (error : LinkError) (lane : Nat) (s : State) : Holds s (execLinkLayerError port error lane s) := by
  unfold execLinkLayerError
  repeat' (first | simp only [Holds_fault, onPort_held, State.linkError_held] | split)

theorem execL1IdleTimer_held (port : Nat) (s : State) : Holds s (execL1IdleTimer port s) := by
  unfold execL1IdleTimer
  repeat' (first | simp only [State.setPort_held, State.send_held] | split | with_reducible refine onTimer_holds _ _ _ (fun u => ?_) | with_reducible refine (foldl_held _ _ _ (fun u _ => ?_)).trans ?_)

theorem State.coldReset_held (s : State) (cause : Nat) : (State.coldReset s cause).held = s.held := by
  simp only [State.coldReset, held_mk, held_fold, State.endSession_held, State.setFld_held, State.resetBank_held]

theorem execColdReset_held (s : State) : Holds s (execColdReset s) := by
  unfold execColdReset
  repeat' (first | simp only [Holds_next, State.coldReset_held] | split)

theorem execPerstAssert_held (port : Nat) (s : State) : Holds s (execPerstAssert port s) := by
  unfold execPerstAssert
  repeat' (first | simp only [Holds_next, Holds_fault, State.setPort_held, State.coldReset_held, State.resetPort_held] | split)

theorem execPerstDeassert_held (port width rate : Nat) (reversed : Bool) (s : State) : Holds s (execPerstDeassert port width rate reversed s) := by
  unfold execPerstDeassert
  repeat' (first | simp only [held_mk, held_fold, Holds_next, Holds_fault, State.setPort_held, State.linkUp_held] | split)

theorem State.loadSettings_held (s : State) : (State.loadSettings s).held = s.held := by
  simp only [State.loadSettings, held_mk, held_fold, implies_true, foldl_held, State.setWord_held]

theorem State.dumpReset_held (s : State) (cause : Nat) : (State.dumpReset s cause).held = s.held := by
  simp only [State.dumpReset, apply_ite State.held, ite_self, State.coldReset_held, State.loadSettings_held, State.setFlag_held]

theorem execVddAonApplied_held (s : State) : Holds s (execVddAonApplied s) := by
  unfold execVddAonApplied
  repeat' (first | (extract_lets +onlyGivenNames t; first | (refine holds_via (t := t) ?_ (fun ht => ?_); rotate_left; clear_value t; rotate_left; simp only [t]) | clear_value t) | simp only [held_mk, held_fold, apply_ite State.held, ite_self, Holds_next, State.coldReset_held, State.loadSettings_held, State.setFlag_held, State.addSat_held, State.event_held, *] | split | with_reducible refine (foldl_held _ _ _ (fun u _ => ?_)).trans ?_)
  all_goals grind only [held_mk, held_fold, State.coldReset_held, State.loadSettings_held, State.setFlag_held, State.addSat_held, State.event_held]

theorem State.atcUse_held (s : State) (a : AtcEntry) : (State.atcUse s a).held = s.held := by
  simp only [State.atcUse, held_mk, held_fold]

theorem State.atcFill_held (s : State) (a : AtcEntry) : (State.atcFill s a).held = s.held := by
  simp only [State.atcFill, held_mk, held_fold]

theorem State.dmaFail_held (s : State) (c : Nat) : (State.dmaFail s c).held = s.held := by
  simp only [State.dmaFail, held_mk, held_fold, apply_ite State.held, ite_self, implies_true, foldl_held, State.cancel_held, State.noteFailure_held,
      State.dropStitches_held, State.failWrite_held]

theorem State.sendGroups_held (s : State) : (State.sendGroups s).held = s.held := by
  simp only [State.sendGroups, held_mk, held_fold, apply_ite State.held, ite_self, implies_true, foldl_held, State.send_held, State.addSat_held,
      State.arm_held]

theorem State.transFault_held (s : State) (id slot : Nat) (pages : List Nat) : (State.transFault s id slot pages).held = s.held := by
  unfold State.transFault
  repeat' (first | (extract_lets +onlyGivenNames t; first | (refine held_via (t := t) ?_ (fun ht => ?_); rotate_left; clear_value t; rotate_left; simp only [t]) | clear_value t) | simp only [held_mk, held_fold, apply_ite State.held, ite_self, State.dmaFail_held, State.park_held, State.sendGroups_held, *] | split | with_reducible refine (foldl_held _ _ _ (fun u _ => ?_)).trans ?_)
  all_goals grind only [held_mk, held_fold, State.dmaFail_held, State.park_held, State.sendGroups_held]

theorem State.dmaReads_held (s : State) (k : Cmd) (x : Stitch) : (State.dmaReads s k x).held = s.held := by
  simp only [State.dmaReads, apply_ite State.held, ite_self, State.request_held]

theorem State.dmaStart_held (s : State) (id : Nat) : (State.dmaStart s id).held = s.held := by
  unfold State.dmaStart
  repeat' (first | (extract_lets +onlyGivenNames t; first | (refine held_via (t := t) ?_ (fun ht => ?_); rotate_left; clear_value t; rotate_left; simp only [t]) | clear_value t) | simp only [apply_ite State.held, State.park_held, State.dmaReads_held, State.request_held, State.hifCnt_held, State.atcUse_held, State.transFault_held, *] | split | with_reducible refine (foldl_held _ _ _ (fun u _ => ?_)).trans ?_)
  all_goals grind only [held_mk, held_fold, State.park_held, State.dmaReads_held, State.request_held, State.hifCnt_held, State.atcUse_held,
      State.transFault_held]

theorem execResourceGrant_held (res : Nat) (s : State) : Holds s (execResourceGrant res s) := by
  unfold execResourceGrant
  repeat' (first | simp only [Holds_next, State.cancel_held, State.placeExtent_held, State.grantResource_held, State.dmaStart_held] | split)

theorem State.answered_held (s : State) (r : NpReq) : (State.answered s r).held = s.held := by
  simp only [State.answered, held_mk, held_fold, State.cancel_held]

theorem State.translated_held (s : State) (r : NpReq) (pages : List TransPage) : (State.translated s r pages).held = s.held := by
  unfold State.translated
  repeat' (first | (extract_lets +onlyGivenNames t; first | (refine held_via (t := t) ?_ (fun ht => ?_); rotate_left; clear_value t; rotate_left; simp only [t]) | clear_value t) | simp only [implies_true, foldl_held, State.atcFill_held, State.dmaReads_held, State.transFault_held, *] | split | with_reducible refine (foldl_held _ _ _ (fun u _ => ?_)).trans ?_)
  all_goals grind only [held_mk, held_fold, State.atcFill_held, State.dmaReads_held, State.transFault_held]

theorem execTranslationCompletion_held (port tag _stitch : Nat) (pages : List TransPage) (s : State)
    : Holds s (execTranslationCompletion port tag _stitch pages s) := by
  unfold execTranslationCompletion
  repeat' (first | simp only [implies_true, Holds_fault, guarded_held, State.answered_held, State.tlpIn_held, State.translated_held] | split)

theorem execPrgResponse_held (prg : Nat) (outcome : PrgOutcome) (s : State) : Holds s (execPrgResponse prg outcome s) := by
  unfold execPrgResponse
  repeat' (first | simp only [held_mk, held_fold, Holds_next, State.addSat_held, State.cancel_held, State.hifCnt_held, State.dmaFail_held,
                          State.sendGroups_held] | split)

theorem execPageRequestTimeout_held (prg : Nat) (s : State) : Holds s (execPageRequestTimeout prg s) := by
  unfold execPageRequestTimeout
  repeat' (first | simp only [held_mk, held_fold, State.setFlag_held, State.event_held, State.hifCnt_held, State.dmaFail_held,
                          State.sendGroups_held] | split | with_reducible refine onTimer_holds _ _ _ (fun u => ?_) | with_reducible refine (foldl_held _ _ _ (fun u _ => ?_)).trans ?_)

theorem execInvalidateRequest_held (fn itag page pages : Nat) (s : State) : Holds s (execInvalidateRequest fn itag page pages s) := by
  unfold execInvalidateRequest
  repeat' (first | simp only [held_mk, held_fold, implies_true, guarded_held, State.hifCnt_held] | split)

theorem execInvalidateCompletionSend_held (fn itag : Nat) (s : State) : Holds s (execInvalidateCompletionSend fn itag s) := by
  unfold execInvalidateCompletionSend
  repeat' (first | simp only [held_mk, held_fold, implies_true, guarded_held, State.send_held, State.addWrap_held] | split)

theorem State.unexpected_held (s : State) (p tag : Nat) (header : List Nat) (idx : Nat) : (State.unexpected s p tag header idx).held = s.held := by
  simp only [State.unexpected, implies_true, foldl_held, State.hifCnt_held, State.addSat_held, State.setFlag_held, State.setFld_held, State.aer_held,
      State.eventFrom_held]

theorem execCompletionReceived_held (port tag : Nat) (fits poisoned : Bool) (header : List Nat) (requester : Nat) (s : State)
    : Holds s (execCompletionReceived port tag fits poisoned header requester s) := by
  unfold execCompletionReceived
  repeat' (first | simp only [apply_ite State.held, ite_self, Holds_next, Holds_fault, State.tlpIn_held, State.hifCnt_held, State.unexpected_held,
                          State.answered_held, State.aer_held, State.dmaFail_held] | split)

theorem State.logTimeout_held (s : State) (r : NpReq) : (State.logTimeout s r).held = s.held := by
  simp only [State.logTimeout, implies_true, foldl_held, State.setWord_held, State.setFld_held]

theorem execCompletionTimeout_held (port tag : Nat) (s : State) : Holds s (execCompletionTimeout port tag s) := by
  unfold execCompletionTimeout
  repeat' (first | (extract_lets +onlyGivenNames t; first | (refine holds_via (t := t) ?_ (fun ht => ?_); rotate_left; clear_value t; rotate_left; simp only [t]) | clear_value t) | simp only [held_mk, held_fold, apply_ite State.held, ite_self, State.answered_held, State.logTimeout_held, State.setFlag_held, State.aer_held, State.hifCnt_held, State.event_held, State.arm_held, State.dmaFail_held, State.updFunc_held, State.setCfs_held, *] | split | with_reducible refine onTimer_holds _ _ _ (fun u => ?_) | with_reducible refine (foldl_held _ _ _ (fun u _ => ?_)).trans ?_)
  all_goals grind only [held_mk, held_fold, State.answered_held, State.logTimeout_held, State.setFlag_held, State.aer_held, State.hifCnt_held,
      State.event_held, State.arm_held, State.dmaFail_held, State.updFunc_held, State.setCfs_held]

theorem execTagQuarantineEnd_held (port tag : Nat) (s : State) : Holds s (execTagQuarantineEnd port tag s) := by
  unfold execTagQuarantineEnd
  repeat' (first | (extract_lets +onlyGivenNames t; first | (refine holds_via (t := t) ?_ (fun ht => ?_); rotate_left; clear_value t; rotate_left; simp only [t]) | clear_value t) | simp only [held_mk, held_fold, State.request_held, *] | split | with_reducible refine onTimer_holds _ _ _ (fun u => ?_) | with_reducible refine (foldl_held _ _ _ (fun u _ => ?_)).trans ?_)
  all_goals grind only [held_mk, held_fold, State.request_held]

theorem State.bmeClear_held (s : State) (fn : Nat) : (State.bmeClear s fn).held = s.held := by
  simp only [State.bmeClear, implies_true, foldl_held, State.updFunc_held, State.park_held]

theorem State.bmeSet_held (s : State) (fn : Nat) : (State.bmeSet s fn).held = s.held := by
  simp only [State.bmeSet, apply_ite State.held, ite_self, implies_true, foldl_held, State.updFunc_held, State.resume_held, State.postHeld_held,
      State.raise_held]

theorem execBusMasterEnableClear_held (fn : Nat) (s : State) : Holds s (execBusMasterEnableClear fn s) := by
  unfold execBusMasterEnableClear
  repeat' (first | simp only [implies_true, guarded_held, State.bmeClear_held] | split)

theorem execBusMasterEnableSet_held (fn : Nat) (s : State) : Holds s (execBusMasterEnableSet fn s) := by
  unfold execBusMasterEnableSet
  repeat' (first | simp only [implies_true, guarded_held, State.bmeSet_held] | split)

theorem State.atcFlush_held (s : State) : (State.atcFlush s).held = s.held := by
  simp only [State.atcFlush, held_mk, held_fold]

theorem State.aerClear_held (s : State) (p : Nat) (cor : Bool) (v : Nat) : (State.aerClear s p cor v).held = s.held := by
  simp only [State.aerClear, held_mk, held_fold, apply_ite State.held, ite_self]

theorem State.priOff_held (s : State) (fn : Nat) : (State.priOff s fn).held = s.held := by
  simp only [State.priOff, implies_true, foldl_held, State.dmaFail_held]

theorem State.configWrite_held (s : State) (fn reg v : Nat) : (State.configWrite s fn reg v).held = s.held := by
  unfold State.configWrite
  repeat' (first | (extract_lets +onlyGivenNames t; first | (refine held_via (t := t) ?_ (fun ht => ?_); rotate_left; clear_value t; rotate_left; simp only [t]) | clear_value t) | simp only [apply_ite State.held, ite_self, implies_true, foldl_held, State.setFunc_held, State.bmeSet_held, State.bmeClear_held, State.updFunc_held, State.raise_held, State.priOff_held, State.dropTranslations_held, State.aerClear_held, *] | split | with_reducible refine (foldl_held _ _ _ (fun u _ => ?_)).trans ?_)
  all_goals grind only [held_mk, held_fold, State.setFunc_held, State.bmeSet_held, State.bmeClear_held, State.updFunc_held, State.raise_held,
      State.priOff_held, State.dropTranslations_held, State.aerClear_held]

theorem onConfig_holds (s : State) (fn tag : Nat) (k : State → State) (hk : ∀ u, (k u).held = u.held) : Holds s (onConfig s fn tag k) := by
  unfold onConfig
  simp only []
  split
  · exact (Holds_fault _ _).2 trivial
  split
  · exact (Holds_fault _ _).2 trivial
  split
  · refine (Holds_next _ _).2 ?_
    simp only [State.aer_held, State.tlpIn_held, State.hifCnt_held, State.send_held]
  have hu : (s.tlpIn (portOf fn)).held = s.held := State.tlpIn_held ..
  generalize s.tlpIn (portOf fn) = u at hu ⊢
  split
  · refine (Holds_next _ _).2 ?_
    rw [State.hifCnt_held, State.send_held, hu]
  split
  · have hd := State.draw_held u
    generalize u.draw = d at hd ⊢
    obtain ⟨n, t⟩ := d
    simp only [] at hd ⊢
    split
    · refine (Holds_next _ _).2 ?_
      rw [State.hifCnt_held, State.send_held, hd, hu]
    · refine (Holds_next _ _).2 ?_
      rw [hk, State.setPort_held, hd, hu]
  · exact (Holds_next _ _).2 ((hk u).trans hu)

theorem execConfigRead_held (fn tag reg : Nat) (s : State) : Holds s (execConfigRead fn tag reg s) := by
  unfold execConfigRead
  repeat' (first | simp only [State.send_held] | split | with_reducible refine onConfig_holds _ _ _ _ (fun u => ?_) | with_reducible refine (foldl_held _ _ _ (fun u _ => ?_)).trans ?_)

theorem execConfigWrite_held (fn tag reg : Nat) (val : Word) (s : State) : Holds s (execConfigWrite fn tag reg val s) := by
  unfold execConfigWrite
  repeat' (first | simp only [State.configWrite_held, State.send_held] | split | with_reducible refine onConfig_holds _ _ _ _ (fun u => ?_) | with_reducible refine (foldl_held _ _ _ (fun u _ => ?_)).trans ?_)

theorem State.spdmSet_held (s : State) (pf n : Nat) : (State.spdmSet s pf n).held = s.held := by
  simp only [State.spdmSet, held_mk, held_fold, apply_ite State.held, ite_self]

theorem State.spdmAnswer_held (s : State) (pf code : Nat) (data : List Nat) : (State.spdmAnswer s pf code data).held = s.held := by
  simp only [State.spdmAnswer, State.send_held, State.addWrap_held]

theorem State.spdmError_held (s : State) (pf e : Nat) : (State.spdmError s pf e).held = s.held := by
  simp only [State.spdmError, State.spdmAnswer_held]

theorem onSpdm_held (s : State) (pf need : Nat) (t : State) (h : t.held = s.held) : Holds s (onSpdm s pf need t) := by
  unfold onSpdm
  repeat' split
  all_goals first | exact (Holds_fault _ _).2 trivial | exact (Holds_next _ _).2 h | exact (Holds_next _ _).2 rfl | exact (Holds_next _ _).2 (State.spdmError_held ..)

theorem execGetVersion_held (pf : Nat) (s : State) : Holds s (execGetVersion pf s) := by
  unfold execGetVersion
  repeat' (first | simp only [onSpdm_held, State.spdmSet_held, State.spdmAnswer_held] | split)

theorem execGetCapabilities_held (pf : Nat) (s : State) : Holds s (execGetCapabilities pf s) := by
  unfold execGetCapabilities
  repeat' (first | simp only [onSpdm_held, State.spdmSet_held, State.spdmAnswer_held] | split)

theorem execNegotiateAlgorithms_held (pf asym hash : Nat) (s : State) : Holds s (execNegotiateAlgorithms pf asym hash s) := by
  unfold execNegotiateAlgorithms
  repeat' (first | simp only [apply_ite State.held, ite_self, onSpdm_held, State.spdmSet_held, State.spdmAnswer_held, State.spdmError_held] | split)

theorem execGetDigests_held (pf : Nat) (s : State) : Holds s (execGetDigests pf s) := by
  unfold execGetDigests
  repeat' (first | simp only [onSpdm_held, State.spdmAnswer_held] | split)

theorem execGetCertificate_held (pf slot offset length : Nat) (s : State) : Holds s (execGetCertificate pf slot offset length s) := by
  unfold execGetCertificate
  repeat' (first | simp only [apply_ite State.held, ite_self, onSpdm_held, State.spdmError_held, State.spdmAnswer_held] | split)

theorem execChallenge_held (pf slot nonce : Nat) (s : State) : Holds s (execChallenge pf slot nonce s) := by
  unfold execChallenge
  repeat' (first | simp only [apply_ite State.held, ite_self, onSpdm_held, State.spdmError_held, State.spdmAnswer_held] | split)

theorem execGetMeasurements_held (pf index nonce : Nat) (signed : Bool) (s : State) : Holds s (execGetMeasurements pf index nonce signed s) := by
  unfold execGetMeasurements
  repeat' (first | simp only [onSpdm_held, State.spdmError_held, State.spdmAnswer_held] | split)

theorem execSpdmUnsupportedRequest_held (pf code : Nat) (s : State) : Holds s (execSpdmUnsupportedRequest pf code s) := by
  unfold execSpdmUnsupportedRequest
  repeat' (first | simp only [onSpdm_held, State.spdmAnswer_held] | split)

end Sys2Proof.Machine
end

