-- ==== Sys2Proof/Laws/HeldUnits.lean ====
section
/-! SUPPORT. The store, the event areas, the key set and the namespaces through power, the supervisors, the map memory, features and the registers. -/

namespace Sys2Proof.Machine

set_option linter.unusedTactic false
set_option linter.unreachableTactic false
set_option linter.unusedSimpArgs false

theorem State.pwrCnt_held (s : State) (n : Nat) : (State.pwrCnt s n).held = s.held := by
  simp only [State.pwrCnt, State.addWrap_held]

theorem State.patCnt_held (s : State) (n : Nat) (k : Nat) : (State.patCnt s n k).held = s.held := by
  simp only [State.patCnt, State.addWrap_held]

theorem State.noteTemps_held (s : State) : (State.noteTemps s).held = s.held := by
  simp only [State.noteTemps, apply_ite State.held, ite_self, State.critClear_held, State.critWarn_held]

theorem execTemperatureThresholdCross_held (sensor temp : Nat) (s : State) : Holds s (execTemperatureThresholdCross sensor temp s) := by
  unfold execTemperatureThresholdCross
  repeat' (first | simp only [implies_true, guarded_held, State.setTemp_held, State.noteTemps_held] | split)

theorem State.sample_held (s : State) (temps : List Nat) (hold : Bool) : (State.sample s temps hold).held = s.held := by
  simp only [State.sample, held_mk, held_fold, apply_ite State.held, ite_self, implies_true, foldl_held, State.setTemp_held, State.setFld_held,
      State.addSat_held, State.putFlag_held, State.setFlag_held, State.patCnt_held]

theorem State.dqTrained_held (s : State) (k : Nat) : (State.dqTrained s k).held = s.held := by
  simp only [State.dqTrained, State.setFld_held]

theorem State.publish_held (s : State) : (State.publish s).held = s.held := by
  simp only [State.publish, held_mk, held_fold]

theorem State.logEntry_held (s : State) (target reached cause : Nat) : (State.logEntry s target reached cause).held = s.held := by
  simp only [State.logEntry, State.shiftLog_held, State.setFld_held, State.stamp_held]

theorem State.watch_held (s : State) : (State.watch s).held = s.held := by
  simp only [State.watch, State.arm_held]

theorem State.abandonEntry_held (s : State) (cause : Nat) : (State.abandonEntry s cause).held = s.held := by
  unfold State.abandonEntry
  repeat' (first | (extract_lets +onlyGivenNames t; first | (refine held_via (t := t) ?_ (fun ht => ?_); rotate_left; clear_value t; rotate_left; simp only [t]) | clear_value t) | simp only [held_mk, held_fold, apply_ite State.held, ite_self, State.logEntry_held, State.cancel_held, State.setFld_held, State.setFlag_held, State.clrFlag_held, State.watch_held, State.pwrCnt_held, *] | split | with_reducible refine (foldl_held _ _ _ (fun u _ => ?_)).trans ?_)
  all_goals grind only [held_mk, held_fold, State.logEntry_held, State.cancel_held, State.setFld_held, State.setFlag_held, State.clrFlag_held,
      State.watch_held, State.pwrCnt_held]

theorem execDrainLimit_held (s : State) : Holds s (execDrainLimit s) := by
  unfold execDrainLimit
  repeat' (first | simp only [State.abandonEntry_held] | split | with_reducible refine onTimer_holds _ _ _ (fun u => ?_) | with_reducible refine (foldl_held _ _ _ (fun u _ => ?_)).trans ?_)

theorem State.chooseCanaries_held (s : State) (base : List Nat) : (State.chooseCanaries s base).held = s.held := by
  simp only [State.chooseCanaries, held_mk, held_fold, implies_true, foldl_held, State.putSat_held, State.setFlag_held, State.setFld_held,
      State.stamp_held, State.patCnt_held]

theorem State.entrySave_held (s : State) (target : Nat) (base : List Nat) : (State.entrySave s target base).held = s.held := by
  simp only [State.entrySave, held_mk, held_fold, apply_ite State.held, ite_self, State.publish_held, State.cancel_held, State.setFld_held,
      State.chooseCanaries_held, State.atcFlush_held, State.draw_held, State.setFlag_held, State.sendReliable_held]

theorem State.sendLtr_held (s : State) (us : Nat) : (State.sendLtr s us).held = s.held := by
  simp only [State.sendLtr, apply_ite State.held, ite_self, implies_true, foldl_held, State.send_held]

theorem State.entryEnd_held (s : State) (target begun : Nat) : (State.entryEnd s target begun).held = s.held := by
  simp only [State.entryEnd, held_mk, held_fold, apply_ite State.held, ite_self, State.setFld_held, State.logEntry_held, State.setPs_held,
      State.requestVolts_held, State.sendLtr_held, State.putSat_held, State.arm_held]

theorem execPowerStateEntry_held (base : List Nat) (s : State) : Holds s (execPowerStateEntry base s) := by
  unfold execPowerStateEntry
  repeat' (first | simp only [held_mk, held_fold, apply_ite State.held, ite_self, implies_true, foldl_held, Holds_next, guarded_held,
                          State.setFld_held, State.arm_held, State.entrySave_held, State.padRow_held, State.closeGroup_held, State.setFlag_held,
                          State.entryEnd_held] | split)

theorem State.exitPs_held (s : State) (cause dur : Nat) (ok : Bool) : (State.exitPs s cause dur ok).held = s.held := by
  simp only [State.exitPs, held_mk, held_fold, apply_ite State.held, ite_self, implies_true, foldl_held, State.patCnt_held, State.advanceTo_held,
      State.cancel_held, State.pwrCnt_held, State.clrFlag_held, State.coldReset_held, State.dqTrained_held, State.setFlag_held, State.setPs_held,
      State.requestVolts_held, State.setFld_held, State.putSat_held, State.sendLtr_held, State.watch_held, State.protCheck_held]

theorem State.wake_held (s : State) (cause dur : Nat) (ok : Bool) : (State.wake s cause dur ok).held = s.held := by
  simp only [State.wake, apply_ite State.held, ite_self, State.abandonEntry_held, State.exitPs_held]

theorem execPs2SlotTimer_held (s : State) : Holds s (execPs2SlotTimer s) := by
  unfold execPs2SlotTimer
  repeat' (first | simp only [State.putFlag_held, State.pwrCnt_held,
                          State.arm_held] | split | with_reducible refine onTimer_holds _ _ _ (fun u => ?_) | with_reducible refine (foldl_held _ _ _ (fun u _ => ?_)).trans ?_)

theorem execPs3SensorSample_held (temps : List Nat) (holdOk : Bool) (s : State) : Holds s (execPs3SensorSample temps holdOk s) := by
  unfold execPs3SensorSample
  repeat' (first | simp only [Holds_fault, State.sample_held, State.patCnt_held,
                          State.arm_held] | split | with_reducible refine onTimer_holds _ _ _ (fun u => ?_) | with_reducible refine (foldl_held _ _ _ (fun u _ => ?_)).trans ?_)

theorem execApstIdleTimeout_held (fn : Nat) (s : State) : Holds s (execApstIdleTimeout fn s) := by
  unfold execApstIdleTimeout
  repeat' (first | (extract_lets +onlyGivenNames t; first | (refine holds_via (t := t) ?_ (fun ht => ?_); rotate_left; clear_value t; rotate_left; simp only [t]) | clear_value t) | simp only [apply_ite State.held, ite_self, Holds_next, State.setFunc_held, State.applyPs_held, *] | split | with_reducible refine (foldl_held _ _ _ (fun u _ => ?_)).trans ?_)
  all_goals grind only [held_mk, held_fold, State.setFunc_held, State.applyPs_held]

theorem State.refreshBin_held (s : State) (die bin : Nat) : (State.refreshBin s die bin).held = s.held := by
  simp only [State.refreshBin, implies_true, foldl_held, State.queueVictim_held]

theorem State.readCanaries_held (s : State) (k : Nat) (rs : List (Bool × Nat × Nat)) : (State.readCanaries s k rs).1.held = s.held := by
  unfold State.readCanaries
  repeat' (first | (extract_lets +onlyGivenNames t; first | (refine held_via (t := t) ?_ (fun ht => ?_); rotate_left; clear_value t; rotate_left; simp only [t]) | clear_value t) | simp only [held_mk, held_fold, apply_ite State.held, ite_self, implies_true, foldl_held, State.putSat_held, State.stamp_held, State.setFld_held, State.patCnt_held, *] | split | with_reducible refine (foldl_held _ _ _ (fun u _ => ?_)).trans ?_)
  all_goals grind only [held_mk, held_fold, State.putSat_held, State.stamp_held, State.setFld_held, State.patCnt_held]

theorem State.canaryAction_held (s : State) (e : Nat × Canary × Nat × Nat) : (State.canaryAction s e).held = s.held := by
  simp only [State.canaryAction, held_mk, held_fold, apply_ite State.held, ite_self, State.refreshBin_held]

theorem State.escalate_held (s : State) (cause die bin value : Nat) : (State.escalate s cause die bin value).held = s.held := by
  simp only [State.escalate, held_mk, held_fold, apply_ite State.held, ite_self, implies_true, foldl_held, State.setFld_held, State.setFlag_held,
      State.patCnt_held, State.event_held, State.updFunc_held]

theorem State.patrol_held (s : State) (temps : List Nat) (hold : Bool) (rs : List (Bool × Nat × Nat)) (us : Nat)
    : (State.patrol s temps hold rs us).2.held = s.held := by
  unfold State.patrol
  repeat' (first | (extract_lets +onlyGivenNames t; first | (refine held_via (t := t) ?_ (fun ht => ?_); rotate_left; clear_value t; rotate_left; simp only [t]) | clear_value t) | simp only [implies_true, foldl_held, State.sample_held, State.dqTrained_held, State.patCnt_held, State.setFld_held, State.putSat_held, State.readCanaries_held, State.canaryAction_held, State.escalate_held, State.noteTemps_held, *] | split | with_reducible refine (foldl_held _ _ _ (fun u _ => ?_)).trans ?_)
  all_goals grind only [held_mk, held_fold, State.sample_held, State.dqTrained_held, State.patCnt_held, State.setFld_held, State.putSat_held,
      State.readCanaries_held, State.canaryAction_held, State.escalate_held, State.noteTemps_held]

theorem execPatrolConfigure_held (cmd period flags absW rise reserved : Nat) (s : State)
    : Holds s (execPatrolConfigure cmd period flags absW rise reserved s) := by
  unfold execPatrolConfigure
  repeat' (first | simp only [State.superGate_held, State.finish_held, State.noteGated_held, State.setFld_held,
                          State.saveSettings_held] | split | with_reducible refine onVendor_holds _ _ _ _ (fun u => ?_) | with_reducible refine (foldl_held _ _ _ (fun u _ => ?_)).trans ?_)

theorem State.cmpTested_held (s : State) (failed : List (Nat × Nat)) : (State.cmpTested s failed).held = s.held := by
  simp only [State.cmpTested, implies_true, foldl_held, State.rejectFrame_held, State.cmpCnt_held, State.emitBlocks_held, State.framesRead_held,
      State.clrFlag_held, State.putFlag_held, State.setFld_held]

theorem State.cmpCntClr_held (s : State) : (State.cmpCntClr s).held = s.held := by
  simp only [State.cmpCntClr, State.clearWords_held]

theorem State.supCnt_held (s : State) (n : Nat) (k : Nat) : (State.supCnt s n k).held = s.held := by
  simp only [State.supCnt, State.addWrap_held]

theorem State.transitionYield_held (s : State) : (State.transitionYield s).held = s.held := by
  unfold State.transitionYield
  repeat' (first | simp only [held_mk, held_fold, apply_ite State.held, ite_self] | split)

theorem State.activationYield_held (s : State) : (State.activationYield s).held = s.held := by
  unfold State.activationYield
  repeat' (first | simp only [apply_ite State.held, ite_self, State.activationOver_held] | split)

theorem State.stopOwned_held (s : State) (st : Status) : (State.stopOwned s st).held = s.held := by
  simp only [State.stopOwned, held_mk, held_fold, apply_ite State.held, ite_self, implies_true, foldl_held, State.finish_held, State.supCnt_held,
      State.transitionYield_held, State.activationYield_held, State.abandonEntry_held, State.cancel_held]

theorem State.supFailed_held (s : State) (code : Nat) : (State.supFailed s code).held = s.held := by
  simp only [State.supFailed, held_mk, held_fold, State.stopOwned_held, State.setCfs_held, State.setFlag_held, State.clrFlag_held, State.event_held,
      State.cancel_held, State.cfsRelease_held]

theorem State.superYield_held (s : State) (cause : Nat) : (State.superYield s cause).held = s.held := by
  unfold State.superYield
  repeat' (first | (extract_lets +onlyGivenNames t; first | (refine held_via (t := t) ?_ (fun ht => ?_); rotate_left; clear_value t; rotate_left; simp only [t]) | clear_value t) | simp only [held_mk, held_fold, apply_ite State.held, ite_self, State.setFld_held, State.clrFlag_held, State.arm_held, State.supFailed_held, State.stopOwned_held, State.setFlag_held, State.cancel_held, *] | split | with_reducible refine (foldl_held _ _ _ (fun u _ => ?_)).trans ?_)
  all_goals grind only [held_mk, held_fold, State.setFld_held, State.clrFlag_held, State.arm_held, State.supFailed_held, State.stopOwned_held,
      State.setFlag_held, State.cancel_held]

theorem execSupervisorWatchdog_held (s : State) : Holds s (execSupervisorWatchdog s) := by
  unfold execSupervisorWatchdog
  repeat' (first | simp only [apply_ite State.held, ite_self, State.setFld_held, State.supCnt_held,
                          State.superYield_held] | split | with_reducible refine onTimer_holds _ _ _ (fun u => ?_) | with_reducible refine (foldl_held _ _ _ (fun u _ => ?_)).trans ?_)

theorem execTaskLimitExpiry_held (s : State) : Holds s (execTaskLimitExpiry s) := by
  unfold execTaskLimitExpiry
  repeat' (first | simp only [Holds_next, State.superYield_held] | split)

theorem execSupervisorSelfCheckFail_held (cause : Nat) (s : State) : Holds s (execSupervisorSelfCheckFail cause s) := by
  unfold execSupervisorSelfCheckFail
  repeat' (first | simp only [implies_true, guarded_held, State.superYield_held] | split)

theorem State.noteTest_held (s : State) (code : Nat) : (State.noteTest s code).held = s.held := by
  simp only [State.noteTest, apply_ite State.held, ite_self, State.setFlag_held, State.putFlag_held, State.setFld_held, State.stamp_held,
      State.supCnt_held]

theorem State.standbyResult_held (s : State) (code : Nat) (retry : Bool) : (State.standbyResult s code retry).held = s.held := by
  simp only [State.standbyResult, held_mk, held_fold, apply_ite State.held, ite_self, State.noteTest_held, State.setFlag_held, State.noteC0_held,
      State.cancel_held, State.clrFlag_held, State.event_held, State.arm_held]

theorem State.yieldTest_held (s : State) (code : Nat) : (State.yieldTest s code).held = s.held := by
  simp only [State.yieldTest, apply_ite State.held, ite_self, State.noteTest_held, State.supFailed_held, State.putFlag_held]

theorem execStandbySelfTest_held (code : Nat) (failed : List (Nat × Nat)) (s : State) : Holds s (execStandbySelfTest code failed s) := by
  unfold execStandbySelfTest
  repeat' (first | simp only [apply_ite State.held, ite_self, Holds_fault, State.yieldTest_held, State.arm_held, State.cmpTested_held,
                          State.standbyResult_held] | split | with_reducible refine onTimer_holds _ _ _ (fun u => ?_) | with_reducible refine (foldl_held _ _ _ (fun u _ => ?_)).trans ?_)

theorem execStandbyTestRetry_held (code : Nat) (s : State) : Holds s (execStandbyTestRetry code s) := by
  unfold execStandbyTestRetry
  repeat' (first | simp only [Holds_fault, State.standbyResult_held] | split | with_reducible refine onTimer_holds _ _ _ (fun u => ?_) | with_reducible refine (foldl_held _ _ _ (fun u _ => ?_)).trans ?_)

theorem execSupervisorTestRun_held (cmd reserved code : Nat) (s : State) : Holds s (execSupervisorTestRun cmd reserved code s) := by
  unfold execSupervisorTestRun
  repeat' (first | simp only [Holds_fault, State.finish_held,
                          State.standbyResult_held] | split | with_reducible refine onVendor_holds _ _ _ _ (fun u => ?_) | with_reducible refine (foldl_held _ _ _ (fun u _ => ?_)).trans ?_)

theorem execSupervisorTestYield_held (cmd reserved : Nat) (s : State) : Holds s (execSupervisorTestYield cmd reserved s) := by
  unfold execSupervisorTestYield
  repeat' (first | simp only [State.finish_held, State.superYield_held] | split | with_reducible refine onVendor_holds _ _ _ _ (fun u => ?_) | with_reducible refine (foldl_held _ _ _ (fun u _ => ?_)).trans ?_)

theorem execSnapshotTimer_held (s : State) : Holds s (execSnapshotTimer s) := by
  unfold execSnapshotTimer
  repeat' (first | (extract_lets +onlyGivenNames t; first | (refine holds_via (t := t) ?_ (fun ht => ?_); rotate_left; clear_value t; rotate_left; simp only [t]) | clear_value t) | simp only [held_mk, held_fold, State.setFld_held, State.stamp_held, State.supCnt_held, State.arm_held, *] | split | with_reducible refine onTimer_holds _ _ _ (fun u => ?_) | with_reducible refine (foldl_held _ _ _ (fun u _ => ?_)).trans ?_)
  all_goals grind only [held_mk, held_fold, State.setFld_held, State.stamp_held, State.supCnt_held, State.arm_held]

theorem State.logSwitch_held (s : State) (cause ms : Nat) : (State.logSwitch s cause ms).held = s.held := by
  simp only [State.logSwitch, State.shiftLog_held, State.setFld_held, State.putSat_held, State.stamp_held]

theorem State.takeControl_held (s : State) (cause ms : Nat) (badBank : Bool) (completed redone : Nat)
    : (State.takeControl s cause ms badBank completed redone).held = s.held := by
  simp only [State.takeControl, held_mk, held_fold, State.setFld_held, State.clrFlag_held, State.putSat_held, State.setFlag_held,
      State.logSwitch_held, State.addWrap_held, State.supCnt_held, State.event_held, State.noteC0_held, State.watch_held, State.saveSettings_held,
      State.applyPs_held, State.cfsRelease_held]

theorem execSwitchOver_held (ms : Nat) (badBank : Bool) (completed redone tested : Nat) (s : State)
    : Holds s (execSwitchOver ms badBank completed redone tested s) := by
  unfold execSwitchOver
  repeat' (first | simp only [apply_ite State.held, ite_self, implies_true, Holds_fault, State.advanceTo_held, State.cancel_held,
                          State.yieldTest_held, guarded_held, State.takeControl_held] | split)

theorem State.supCntClr_held (s : State) : (State.supCntClr s).held = s.held := by
  simp only [State.supCntClr, State.clearWords_held]

theorem State.supLogClr_held (s : State) : (State.supLogClr s).held = s.held := by
  simp only [State.supLogClr, held_mk, held_fold, State.clearWords_held]

theorem State.applySafe_held (s : State) (u : Nat × Nat × Nat) : (State.applySafe s u).held = s.held := by
  simp only [State.applySafe, apply_ite State.held, ite_self, State.applyUnit_held]

theorem State.stopDie_held (s : State) (d : Nat) (o : FlashOp) : (State.stopDie s d o).held = s.held := by
  unfold State.stopDie
  repeat' (first | simp only [State.cancel_held, State.updBlk_held] | split)

theorem State.storePfail_held (s : State) : (State.storePfail s).held = s.held := by
  simp only [State.storePfail, held_mk, held_fold, apply_ite State.held, ite_self, State.cfsCnt_held]

theorem State.pfailEvent_held (s : State) : (State.pfailEvent s).held = s.held := by
  simp only [State.pfailEvent, apply_ite State.held, ite_self, State.event_held, State.cfsRequest_held, State.persistStaged_held]

theorem State.powerEnds_held (s : State) : (State.powerEnds s).held = s.held := by
  unfold State.powerEnds
  repeat' (first | (extract_lets +onlyGivenNames t; first | (refine held_via (t := t) ?_ (fun ht => ?_); rotate_left; clear_value t; rotate_left; simp only [t]) | clear_value t) | simp only [held_mk, held_fold, implies_true, foldl_held, State.activationOver_held, State.clrFlag_held, State.stopDie_held, *] | split | with_reducible refine (foldl_held _ _ _ (fun u _ => ?_)).trans ?_)
  all_goals grind only [held_mk, held_fold, State.activationOver_held, State.clrFlag_held, State.stopDie_held]

theorem State.powerFail_held (s : State) : (State.powerFail s).held = s.held := by
  simp only [State.powerFail, held_mk, held_fold, apply_ite State.held, ite_self, implies_true, foldl_held, State.endCommands_held,
      State.applySafe_held, State.powerEnds_held, State.storePfail_held, State.pfailEvent_held, State.setFlag_held, State.closeGroup_held]

theorem execPfailAssert_held (s : State) : Holds s (execPfailAssert s) := by
  unfold execPfailAssert
  repeat' (first | simp only [held_mk, held_fold, Holds_next, State.powerFail_held] | split)

theorem State.railFall_held (s : State) (r : Nat) : (State.railFall s r).held = s.held := by
  simp only [State.railFall, held_mk, held_fold, apply_ite State.held, ite_self, State.powerFail_held]

theorem execRailLow_held (rail : Nat) (s : State) : Holds s (execRailLow rail s) := by
  unfold execRailLow
  repeat' (first | simp only [implies_true, guarded_held, State.railFall_held] | split)

theorem execVddCoreLow_held (s : State) : Holds s (execVddCoreLow s) := by
  unfold execVddCoreLow
  repeat' (first | simp only [Holds_next, State.railFall_held] | split)

theorem State.noteDump_held (s : State) (n quiet : Nat) (short : Bool) : (State.noteDump s n quiet short).held = s.held := by
  simp only [State.noteDump, State.putSat_held, State.setFld_held, State.shiftLog_held, State.putFlag_held, State.lifCnt_held, State.cfsRequest_held]

theorem State.hbmCnt_held (s : State) (n : Nat) (k : Nat) : (State.hbmCnt s n k).held = s.held := by
  simp only [State.hbmCnt, State.addWrap_held]

theorem State.countRefresh_held (s : State) (n : Nat) : (State.countRefresh s n).held = s.held := by
  simp only [State.countRefresh, held_mk, held_fold, State.hbmCnt_held]

theorem execHbmRefresh_held (pc bank : Nat) (waiting : Bool) (s : State) : Holds s (execHbmRefresh pc bank waiting s) := by
  unfold execHbmRefresh
  repeat' (first | simp only [held_mk, held_fold, apply_ite State.held, ite_self, implies_true, guarded_held, State.countRefresh_held] | split)

theorem State.noteThrottles_held (s : State) : (State.noteThrottles s).held = s.held := by
  simp only [State.noteThrottles, State.setFld_held]

theorem execRowActivateLimit_held (pc bank row port : Nat) (s : State) : Holds s (execRowActivateLimit pc bank row port s) := by
  unfold execRowActivateLimit
  repeat' (first | (extract_lets +onlyGivenNames t; first | (refine holds_via (t := t) ?_ (fun ht => ?_); rotate_left; clear_value t; rotate_left; simp only [t]) | clear_value t) | simp only [held_mk, held_fold, implies_true, State.setFld_held, State.noteThrottles_held, State.hbmCnt_held, State.addSat_held, State.setFlag_held, State.event_held, guarded_held, State.arm_held, *] | split | with_reducible refine (foldl_held _ _ _ (fun u _ => ?_)).trans ?_)
  all_goals grind only [held_mk, held_fold, State.setFld_held, State.noteThrottles_held, State.hbmCnt_held, State.addSat_held, State.setFlag_held,
      State.event_held, guarded_held, State.arm_held]

theorem execThrottleExpiry_held (pc bank port : Nat) (s : State) : Holds s (execThrottleExpiry pc bank port s) := by
  unfold execThrottleExpiry
  repeat' (first | simp only [held_mk, held_fold, State.noteThrottles_held] | split | with_reducible refine onTimer_holds _ _ _ (fun u => ?_) | with_reducible refine (foldl_held _ _ _ (fun u _ => ?_)).trans ?_)

theorem execHbmMaxwait_held (port : Nat) (s : State) : Holds s (execHbmMaxwait port s) := by
  unfold execHbmMaxwait
  repeat' (first | simp only [implies_true, guarded_held, State.hbmCnt_held] | split)

theorem execHbmStackPast85_held (stack temp : Nat) (s : State) : Holds s (execHbmStackPast85 stack temp s) := by
  unfold execHbmStackPast85
  repeat' (first | simp only [apply_ite State.held, ite_self, implies_true, State.setTemp_held, State.putFlag_held, guarded_held,
                          State.setFlag_held] | split)

theorem execHbmScrubPeriod_held (corrected : List Nat) (s : State) : Holds s (execHbmScrubPeriod corrected s) := by
  unfold execHbmScrubPeriod
  repeat' (first | (extract_lets +onlyGivenNames t; first | (refine holds_via (t := t) ?_ (fun ht => ?_); rotate_left; clear_value t; rotate_left; simp only [t]) | clear_value t) | simp only [held_mk, held_fold, implies_true, foldl_held, Holds_next, State.addSat_held, State.setFlag_held, State.hbmCnt_held, State.arm_held, *] | split | with_reducible refine onTimer_holds _ _ _ (fun u => ?_) | with_reducible refine (foldl_held _ _ _ (fun u _ => ?_)).trans ?_)
  all_goals grind only [held_mk, held_fold, State.addSat_held, State.setFlag_held, State.hbmCnt_held, State.arm_held]

theorem State.scrubNow_held (s : State) : (State.scrubNow s).held = s.held := by
  simp only [State.scrubNow, State.arm_held]

theorem State.noteUe_held (s : State) (a port : Nat) : (State.noteUe s a port).held = s.held := by
  simp only [State.noteUe, apply_ite State.held, ite_self, State.setFld_held, State.setFlag_held, State.addSat_held, State.hbmCnt_held,
      State.event_held, State.degrade_held]

theorem State.repairRow_held (s : State) (a : Nat) : (State.repairRow s a).held = s.held := by
  simp only [State.repairRow, held_mk, held_fold, apply_ite State.held, ite_self, State.hbmCnt_held, State.cfsRequest_held]

theorem State.ueHandle_held (s : State) (a : Nat) (h : HbmObject) : Holds s (State.ueHandle s a h) := by
  unfold State.ueHandle
  repeat' (first | simp only [held_mk, held_fold, apply_ite State.held, ite_self, implies_true, Holds_next, execMapSegmentStall_held,
                          execOwnerTableError_held, execWriteBufferUe_held, State.abandonCw_held, execParityAccumulatorUe_held, State.powerFail_held,
                          State.setCfs_held, guarded_held, State.superYield_held] | split | with_reducible refine withSome_holds _ _ _ (fun u => ?_) | with_reducible refine (foldl_held _ _ _ (fun u _ => ?_)).trans ?_)

theorem execHbmUncorrectable_held (addr port : Nat) (hit : HbmObject) (repaired : Bool) (s : State)
    : Holds s (execHbmUncorrectable addr port hit repaired s) := by
  unfold execHbmUncorrectable
  extract_lets t
  have e : t.held = s.held := State.noteUe_held ..
  clear_value t
  split
  · intro u h
    refine (State.ueHandle_held _ _ _ u h).trans ?_
    simp only [apply_ite State.held, State.repairRow_held, ite_self, e]
  · exact (Holds_fault _ _).2 trivial

theorem execHbmZeroDone_held (ms : Nat) (s : State) : Holds s (execHbmZeroDone ms s) := by
  unfold execHbmZeroDone
  repeat' (first | simp only [held_mk, held_fold, Holds_next, Holds_fault, State.advanceTo_held, State.setFlag_held, State.putSat_held] | split)

theorem State.storeFeature_held (s : State) (cmd fn key val : Nat) (save : Bool) : (State.storeFeature s cmd fn key val save).held = s.held := by
  simp only [State.storeFeature, held_mk, held_fold, apply_ite State.held, ite_self, State.updFunc_held, State.updCmd_held, State.cfsRequest_held,
      State.finish_held]

theorem State.setQueues_held (s : State) (cmd fn cdw11 : Nat) : (State.setQueues s cmd fn cdw11).held = s.held := by
  simp only [State.setQueues, apply_ite State.held, ite_self, State.finish_held, State.updFunc_held]

theorem State.setFdp_held (s : State) (cmd cdw11 cdw12 : Nat) : (State.setFdp s cmd cdw11 cdw12).held = s.held := by
  simp only [State.setFdp, held_mk, held_fold, apply_ite State.held, ite_self, State.finish_held, State.updCmd_held, State.cfsRequest_held]

theorem State.setFdpEvents_held (s : State) (cmd nsid fn cdw11 cdw12 : Nat) (data : List Nat)
    : (State.setFdpEvents s cmd nsid fn cdw11 cdw12 data).held = s.held := by
  unfold State.setFdpEvents
  repeat' (first | (extract_lets +onlyGivenNames t; first | (refine held_via (t := t) ?_ (fun ht => ?_); rotate_left; clear_value t; rotate_left; simp only [t]) | clear_value t) | simp only [held_mk, held_fold, apply_ite State.held, ite_self, State.finish_held, *] | split | with_reducible refine (foldl_held _ _ _ (fun u _ => ?_)).trans ?_)
  all_goals grind only [held_mk, held_fold, State.finish_held]

theorem State.setStandard_held (s : State) (cmd fid fn nsid : Nat) (save : Bool) (cdw11 cdw12 : Nat) (data : List Nat)
    : (State.setStandard s cmd fid fn nsid save cdw11 cdw12 data).held = s.held := by
  unfold State.setStandard
  repeat' (first | simp only [held_mk, held_fold, apply_ite State.held, ite_self, implies_true, foldl_held, State.storeFeature_held,
                          State.finish_held, State.updFunc_held, State.applyPs_held, State.noteTemps_held, State.setQueues_held, State.setTime_held,
                          State.setFld_held, State.event_held, State.updCmd_held, State.cfsRequest_held, State.setFdp_held,
                          State.setFdpEvents_held] | split)

theorem execGetFeatures_held (cmd fid select cdw11 : Nat) (s : State) : Holds s (execGetFeatures cmd fid select cdw11 s) := by
  unfold execGetFeatures
  repeat' (first | simp only [apply_ite State.held, ite_self, State.finish_held,
                          State.send_held] | split | with_reducible refine onAdmin_holds _ _ _ (fun u => ?_) | with_reducible refine (foldl_held _ _ _ (fun u _ => ?_)).trans ?_)

theorem State.liveWord_held (s : State) (off : Nat) : (s.liveWord off).2.held = s.held := by
  unfold State.liveWord
  refine foldl_held_snd _ _ _ (fun u x => ?_)
  split
  · rfl
  · exact State.draw_held ..

theorem State.latchPair_held (s : State) (req i : Nat) : (State.latchPair s req i).2.held = s.held := by
  unfold State.latchPair
  repeat' (first | simp only [held_mk, held_fold] | split)

theorem State.regRead_held (s : State) (req off : Nat) : (State.regRead s req off).2.held = s.held := by
  unfold State.regRead
  repeat' (first | simp only [State.latchPair_held, State.evwRead0_held, State.evwRead7_held, State.keyAccess_held, State.dpAccess_held,
                          State.liveWord_held] | split)

theorem State.regPeek_held (s : State) (req off : Nat) : (State.regPeek s req off).2.held = s.held := by
  unfold State.regPeek
  repeat' (first | simp only [State.liveWord_held] | split)

theorem State.msixWrite_held (s : State) (fn k : Nat) (val mask : Word) : (State.msixWrite s fn k val mask).held = s.held := by
  simp only [State.msixWrite, apply_ite State.held, ite_self, State.unmaskVector_held, State.updFunc_held]

theorem State.highWrite_held (s : State) (pf off : Nat) (val mask : Word) : (State.highWrite s pf off val mask).held = s.held := by
  simp only [State.highWrite, apply_ite State.held, ite_self, State.msixWrite_held]

theorem State.barRead_held (s : State) (pf off : Nat) : (State.barRead s pf off).2.held = s.held := by
  unfold State.barRead
  repeat' (first | simp only [State.regRead_held] | split)

theorem State.clearLog_held (s : State) (offs : List Nat) : (State.clearLog s offs).held = s.held := by
  simp only [State.clearLog, held_mk, held_fold, State.clearWords_held]

theorem State.hifCntClr_held (s : State) : (State.hifCntClr s).held = s.held := by
  simp only [State.hifCntClr, State.clearWords_held, State.setFld_held]

theorem State.sknCntClr_held (s : State) (k : Nat) : (State.sknCntClr s k).held = s.held := by
  simp only [State.sknCntClr, State.clearWords_held]

theorem State.pwrHistClr_held (s : State) : (State.pwrHistClr s).held = s.held := by
  simp only [State.pwrHistClr, held_mk, held_fold, State.clearLog_held]

theorem State.ttClr_held (s : State) : (State.ttClr s).held = s.held := by
  simp only [State.ttClr, held_mk, held_fold, State.clearWords_held]

theorem State.retrainChan_held (s : State) (c : Nat) : (State.retrainChan s c).held = s.held := by
  simp only [State.retrainChan, apply_ite State.held, ite_self, State.retrain_held]

theorem State.retrainSkein_held (s : State) (k : Nat) : (State.retrainSkein s k).held = s.held := by
  simp only [State.retrainSkein, implies_true, foldl_held, State.retrainChan_held]

theorem State.cntClr_held (s : State) (f : Fld) : ∀ t, s.cntClr f = some t → t.held = s.held := by
  intro t
  unfold State.cntClr
  simp only []
  repeat' refine ite_some_held (by first | with_reducible exact State.clearWords_held .. | with_reducible exact State.hifCntClr_held .. | with_reducible exact State.cmpCntClr_held .. | with_reducible exact State.supCntClr_held ..) ?_
  intro h; cases h

theorem State.logClr_held (s : State) (f : Fld) : ∀ t, State.logClr s f = some t → t.held = s.held := by
  intro t
  unfold State.logClr
  repeat' (first | (intro h; cases h; done) | (intro h; cases h) | simp only [State.clearWords_held, State.clearLog_held, State.ttClr_held,
                          State.cfsRequest_held, State.supLogClr_held, State.pwrHistClr_held,
                          State.setWord_held] | split | with_reducible refine (foldl_held _ _ _ (fun u _ => ?_)).trans ?_)

theorem State.regAction_held (s : State) (pf : Nat) (f : Fld) : (State.regAction s pf f).held = s.held := by
  unfold State.regAction
  repeat' (first | simp only [apply_ite State.held, ite_self, State.paceMinClear_held, State.atcFlush_held, State.releaseAllSlow_held,
                          State.scrubNow_held, State.setFlag_held, State.windowCommit_held, State.fwDiscard_held, State.arm_held,
                          State.dpCommit_held, State.dpDiscard_held, State.keyCommit_held, State.keyDiscard_held, State.debugUnlock_held,
                          State.evwSeekOld_held, State.evwSeekNew_held, State.sknCntClr_held, State.retrainSkein_held,
                          State.retrainChan_held] | split | with_reducible refine (foldl_held _ _ _ (fun u _ => ?_)).trans ?_)
  all_goals grind only [held_mk, held_fold, State.cntClr_held, State.logClr_held, State.paceMinClear_held, State.atcFlush_held,
      State.releaseAllSlow_held, State.scrubNow_held, State.setFlag_held, State.windowCommit_held, State.fwDiscard_held, State.arm_held,
      State.dpCommit_held, State.dpDiscard_held, State.keyCommit_held, State.keyDiscard_held, State.debugUnlock_held, State.evwSeekOld_held,
      State.evwSeekNew_held, State.sknCntClr_held, State.retrainSkein_held, State.retrainChan_held]

theorem State.layoutWrite_held (s : State) (merged : Word) (word : Word) : (State.layoutWrite s merged word).2.held = s.held := by
  unfold State.layoutWrite
  repeat' (first | (extract_lets +onlyGivenNames t; first | (refine held_via (t := t) ?_ (fun ht => ?_); rotate_left; clear_value t; rotate_left; simp only [t]) | clear_value t) | simp only [State.event_held, *] | split | with_reducible refine (foldl_held _ _ _ (fun u _ => ?_)).trans ?_)
  all_goals grind only [held_mk, held_fold, State.event_held]

theorem State.newWord_held (s : State) (off : Nat) (rows : List FieldRow) (old merged mask : Word)
    : (State.newWord s off rows old merged mask).2.held = s.held := by
  unfold State.newWord
  repeat' (first | simp only [State.event_held, State.layoutWrite_held] | split)

theorem State.storeWord_held (s : State) (pf off : Nat) (w : Word) : (State.storeWord s pf off w).held = s.held := by
  simp only [State.storeWord, apply_ite State.held, ite_self, State.setBank_held, State.setWord_held, State.evwCursor_held, State.keySelect_held,
      State.keyAccess_held, State.dpSelect_held, State.dpAccess_held, State.windowSelect_held]

theorem State.regEffect_held (s : State) (off : Nat) : (State.regEffect s off).held = s.held := by
  simp only [State.regEffect, apply_ite State.held, ite_self, State.protCheck_held, State.checkSpare_held, State.noteF_held, State.noteStaging_held,
      State.noteJournal_held]

theorem State.regWrite_held (s : State) (src pf off : Nat) (val mask : Word) : (State.regWrite s src pf off val mask).2.held = s.held := by
  unfold State.regWrite
  repeat' (first | (extract_lets +onlyGivenNames t; first | (refine held_via (t := t) ?_ (fun ht => ?_); rotate_left; clear_value t; rotate_left; simp only [t]) | clear_value t) | simp only [apply_ite State.held, ite_self, implies_true, foldl_held, State.deny_held, State.newWord_held, State.storeWord_held, State.regAction_held, State.regEffect_held, State.noteGated_held, State.saveSettings_held, *] | split | with_reducible refine (foldl_held _ _ _ (fun u _ => ?_)).trans ?_)
  all_goals grind only [held_mk, held_fold, State.deny_held, State.newWord_held, State.storeWord_held, State.regAction_held, State.regEffect_held,
      State.noteGated_held, State.saveSettings_held]

theorem State.barStore_held (s : State) (pf off : Nat) (val mask : Word) : (State.barStore s pf off val mask).held = s.held := by
  simp only [State.barStore, apply_ite State.held, ite_self, State.highWrite_held, State.regWrite_held]

theorem State.barWrite_held (s : State) (pf off : Nat) (val : Word) (be : Nat) : (State.barWrite s pf off val be).held = s.held := by
  simp only [State.barWrite, held_mk, held_fold, apply_ite State.held, ite_self, State.touch_held, State.barStore_held]

theorem onBar_held (s : State) (pf : Nat) (t : State) (h : t.held = s.held) : Holds s (onBar s pf t) := by
  unfold onBar
  repeat' split
  all_goals first | exact (Holds_fault _ _).2 trivial | exact (Holds_next _ _).2 h | exact (Holds_next _ _).2 rfl | exact (Holds_next _ _).2 (State.spdmError_held ..)

theorem State.writeBit_held (s : State) (pf : Nat) (f : Fld) : (State.writeBit s pf f).held = s.held := by
  simp only [State.writeBit, held_mk, held_fold, apply_ite State.held, ite_self, State.touch_held, State.regWrite_held]

theorem onBit_held (s : State) (pf : Nat) (f : Fld) : Holds s (onBit s pf f) := by
  unfold onBit
  repeat' (first | simp only [onBar_held, State.writeBit_held] | split)

theorem execLatchedPairLoRead_held (requester pair : Nat) (s : State) : Holds s (execLatchedPairLoRead requester pair s) := by
  unfold execLatchedPairLoRead
  repeat' (first | simp only [implies_true, guarded_held, State.latchPair_held] | split)

theorem execRegisterWrite_held (pf off : Nat) (val : Word) (be : Nat) (s : State) : Holds s (execRegisterWrite pf off val be s) := by
  unfold execRegisterWrite
  repeat' (first | simp only [onBar_held, State.barWrite_held] | split)

theorem execRegisterAccess_held (cmd : Nat) (write : Bool) (off : Nat) (val mask : Word) (reserved : Nat) (s : State)
    : Holds s (execRegisterAccess cmd write off val mask reserved s) := by
  unfold execRegisterAccess
  repeat' (first | (extract_lets +onlyGivenNames t; first | (refine holds_via (t := t) ?_ (fun ht => ?_); rotate_left; clear_value t; rotate_left; simp only [t]) | clear_value t) | simp only [apply_ite State.held, ite_self, State.finish_held, State.regRead_held, State.regWrite_held, State.regPeek_held, *] | split | with_reducible refine onAdmin_holds _ _ _ (fun u => ?_) | with_reducible refine (foldl_held _ _ _ (fun u _ => ?_)).trans ?_)
  all_goals grind only [held_mk, held_fold, State.finish_held, State.regRead_held, State.regWrite_held, State.regPeek_held]

theorem execPaceMinclr_held (pf : Nat) (s : State) : Holds s (execPaceMinclr pf s) := by
  unfold execPaceMinclr
  repeat' (first | simp only [onBit_held] | split)

theorem execAtcFlush_held (pf : Nat) (s : State) : Holds s (execAtcFlush pf s) := by
  unfold execAtcFlush
  repeat' (first | simp only [onBit_held] | split)

theorem execHifCntclr_held (pf : Nat) (s : State) : Holds s (execHifCntclr pf s) := by
  unfold execHifCntclr
  repeat' (first | simp only [onBit_held] | split)

theorem execQenCntclr_held (pf : Nat) (s : State) : Holds s (execQenCntclr pf s) := by
  unfold execQenCntclr
  repeat' (first | simp only [onBit_held] | split)

theorem execQenHistclr_held (pf : Nat) (s : State) : Holds s (execQenHistclr pf s) := by
  unfold execQenHistclr
  repeat' (first | simp only [onBit_held] | split)

theorem execMapCntclr_held (pf : Nat) (s : State) : Holds s (execMapCntclr pf s) := by
  unfold execMapCntclr
  repeat' (first | simp only [onBit_held] | split)

theorem execMapHistclr_held (pf : Nat) (s : State) : Holds s (execMapHistclr pf s) := by
  unfold execMapHistclr
  repeat' (first | simp only [onBit_held] | split)

theorem execCrsCntclr_held (pf : Nat) (s : State) : Holds s (execCrsCntclr pf s) := by
  unfold execCrsCntclr
  repeat' (first | simp only [onBit_held] | split)

theorem execCrsPflogclr_held (pf : Nat) (s : State) : Holds s (execCrsPflogclr pf s) := by
  unfold execCrsPflogclr
  repeat' (first | simp only [onBit_held] | split)

theorem execEccCntclr_held (pf : Nat) (s : State) : Holds s (execEccCntclr pf s) := by
  unfold execEccCntclr
  repeat' (first | simp only [onBit_held] | split)

theorem execEccSlowlogclr_held (pf : Nat) (s : State) : Holds s (execEccSlowlogclr pf s) := by
  unfold execEccSlowlogclr
  repeat' (first | simp only [onBit_held] | split)

theorem execEccRelease_held (pf : Nat) (s : State) : Holds s (execEccRelease pf s) := by
  unfold execEccRelease
  repeat' (first | simp only [onBit_held] | split)

theorem execRclCntclr_held (pf : Nat) (s : State) : Holds s (execRclCntclr pf s) := by
  unfold execRclCntclr
  repeat' (first | simp only [onBit_held] | split)

theorem execRclTtclr_held (pf : Nat) (s : State) : Holds s (execRclTtclr pf s) := by
  unfold execRclTtclr
  repeat' (first | simp only [onBit_held] | split)

theorem execLifCntclr_held (pf : Nat) (s : State) : Holds s (execLifCntclr pf s) := by
  unfold execLifCntclr
  repeat' (first | simp only [onBit_held] | split)

theorem execLifPfhistclr_held (pf : Nat) (s : State) : Holds s (execLifPfhistclr pf s) := by
  unfold execLifPfhistclr
  repeat' (first | simp only [onBit_held] | split)

theorem execSknCntclr_held (pf skein : Nat) (s : State) : Holds s (execSknCntclr pf skein s) := by
  unfold execSknCntclr
  repeat' (first | simp only [Holds_fault, onBit_held] | split)

theorem execSknRetrain_held (pf skein : Nat) (s : State) : Holds s (execSknRetrain pf skein s) := by
  unfold execSknRetrain
  repeat' (first | simp only [Holds_fault, onBit_held] | split)

theorem execChnRetrain_held (pf chan : Nat) (s : State) : Holds s (execChnRetrain pf chan s) := by
  unfold execChnRetrain
  repeat' (first | simp only [Holds_fault, onBit_held] | split)

theorem execHbmCntclr_held (pf : Nat) (s : State) : Holds s (execHbmCntclr pf s) := by
  unfold execHbmCntclr
  repeat' (first | simp only [onBit_held] | split)

theorem execHbmScrubnow_held (pf : Nat) (s : State) : Holds s (execHbmScrubnow pf s) := by
  unfold execHbmScrubnow
  repeat' (first | simp only [onBit_held] | split)

theorem execCmpCntclr_held (pf : Nat) (s : State) : Holds s (execCmpCntclr pf s) := by
  unfold execCmpCntclr
  repeat' (first | simp only [onBit_held] | split)

theorem execSupCntclr_held (pf : Nat) (s : State) : Holds s (execSupCntclr pf s) := by
  unfold execSupCntclr
  repeat' (first | simp only [onBit_held] | split)

theorem execSupLogclr_held (pf : Nat) (s : State) : Holds s (execSupLogclr pf s) := by
  unfold execSupLogclr
  repeat' (first | simp only [onBit_held] | split)

theorem execPwrCntclr_held (pf : Nat) (s : State) : Holds s (execPwrCntclr pf s) := by
  unfold execPwrCntclr
  repeat' (first | simp only [onBit_held] | split)

theorem execPwrHistclr_held (pf : Nat) (s : State) : Holds s (execPwrHistclr pf s) := by
  unfold execPwrHistclr
  repeat' (first | simp only [onBit_held] | split)

theorem execPatCntclr_held (pf : Nat) (s : State) : Holds s (execPatCntclr pf s) := by
  unfold execPatCntclr
  repeat' (first | simp only [onBit_held] | split)

theorem execStrCntclr_held (pf : Nat) (s : State) : Holds s (execStrCntclr pf s) := by
  unfold execStrCntclr
  repeat' (first | simp only [onBit_held] | split)

theorem execStrWctlCommit_held (pf : Nat) (s : State) : Holds s (execStrWctlCommit pf s) := by
  unfold execStrWctlCommit
  repeat' (first | simp only [onBit_held] | split)

theorem execFwuCntclr_held (pf : Nat) (s : State) : Holds s (execFwuCntclr pf s) := by
  unfold execFwuCntclr
  repeat' (first | simp only [onBit_held] | split)

theorem execFwuDiscard_held (pf : Nat) (s : State) : Holds s (execFwuDiscard pf s) := by
  unfold execFwuDiscard
  repeat' (first | simp only [onBit_held] | split)

theorem execCfsCntclr_held (pf : Nat) (s : State) : Holds s (execCfsCntclr pf s) := by
  unfold execCfsCntclr
  repeat' (first | simp only [onBit_held] | split)

theorem execCfsDpctlCommit_held (pf : Nat) (s : State) : Holds s (execCfsDpctlCommit pf s) := by
  unfold execCfsDpctlCommit
  repeat' (first | simp only [onBit_held] | split)

theorem execCfsDpctlDiscard_held (pf : Nat) (s : State) : Holds s (execCfsDpctlDiscard pf s) := by
  unfold execCfsDpctlDiscard
  repeat' (first | simp only [onBit_held] | split)

theorem execSecKctlCommit_held (pf : Nat) (s : State) : Holds s (execSecKctlCommit pf s) := by
  unfold execSecKctlCommit
  repeat' (first | simp only [onBit_held] | split)

theorem execSecKctlDiscard_held (pf : Nat) (s : State) : Holds s (execSecKctlDiscard pf s) := by
  unfold execSecKctlDiscard
  repeat' (first | simp only [onBit_held] | split)

theorem execSecDbgUnlock_held (pf : Nat) (s : State) : Holds s (execSecDbgUnlock pf s) := by
  unfold execSecDbgUnlock
  repeat' (first | simp only [onBit_held] | split)

theorem execSecCntclr_held (pf : Nat) (s : State) : Holds s (execSecCntclr pf s) := by
  unfold execSecCntclr
  repeat' (first | simp only [onBit_held] | split)

theorem execSecDenyclr_held (pf : Nat) (s : State) : Holds s (execSecDenyclr pf s) := by
  unfold execSecDenyclr
  repeat' (first | simp only [onBit_held] | split)

theorem execEvwSeekold_held (pf : Nat) (s : State) : Holds s (execEvwSeekold pf s) := by
  unfold execEvwSeekold
  repeat' (first | simp only [onBit_held] | split)

theorem execEvwSeeknew_held (pf : Nat) (s : State) : Holds s (execEvwSeeknew pf s) := by
  unfold execEvwSeeknew
  repeat' (first | simp only [onBit_held] | split)

theorem execGenScrclr_held (pf : Nat) (s : State) : Holds s (execGenScrclr pf s) := by
  unfold execGenScrclr
  repeat' (first | simp only [onBit_held] | split)

theorem execCmpTestRun_held (pf : Nat) (failed : List (Nat × Nat)) (s : State) : Holds s (execCmpTestRun pf failed s) := by
  unfold execCmpTestRun
  repeat' (first | simp only [apply_ite State.held, ite_self, State.writeBit_held, onBar_held, State.cmpTested_held] | split)

theorem execCfsScrub_held (pf : Nat) (one two bad : List Nat) (s : State) : Holds s (execCfsScrub pf one two bad s) := by
  unfold execCfsScrub
  repeat' (first | simp only [apply_ite State.held, ite_self, State.writeBit_held, onBar_held, State.cfsScrubPass_held] | split)

theorem execStrWselWrite_held (pf win : Nat) (s : State) : Holds s (execStrWselWrite pf win s) := by
  unfold execStrWselWrite
  repeat' (first | simp only [onBar_held, State.barWrite_held] | split)

theorem execCfsDpselWrite_held (pf : Nat) (val : Word) (s : State) : Holds s (execCfsDpselWrite pf val s) := by
  unfold execCfsDpselWrite
  repeat' (first | simp only [onBar_held, State.barWrite_held] | split)

theorem execCfsDpdataAccess_held (pf : Nat) (write : Bool) (val : Word) (s : State) : Holds s (execCfsDpdataAccess pf write val s) := by
  unfold execCfsDpdataAccess
  repeat' (first | simp only [apply_ite State.held, ite_self, onBar_held, State.barWrite_held, State.barRead_held] | split)

theorem execSecKselWrite_held (pf : Nat) (val : Word) (s : State) : Holds s (execSecKselWrite pf val s) := by
  unfold execSecKselWrite
  repeat' (first | simp only [onBar_held, State.barWrite_held] | split)

theorem execSecKdataAccess_held (pf : Nat) (write : Bool) (val : Word) (s : State) : Holds s (execSecKdataAccess pf write val s) := by
  unfold execSecKdataAccess
  repeat' (first | simp only [apply_ite State.held, ite_self, onBar_held, State.barWrite_held, State.barRead_held] | split)

theorem execEvwData0Read_held (pf : Nat) (s : State) : Holds s (execEvwData0Read pf s) := by
  unfold execEvwData0Read
  repeat' (first | simp only [onBar_held, State.barRead_held] | split)

theorem execEvwData7Read_held (pf : Nat) (s : State) : Holds s (execEvwData7Read pf s) := by
  unfold execEvwData7Read
  repeat' (first | simp only [onBar_held, State.barRead_held] | split)

theorem execEvwCursorWrite_held (pf seq : Nat) (s : State) : Holds s (execEvwCursorWrite pf seq s) := by
  unfold execEvwCursorWrite
  repeat' (first | simp only [onBar_held, State.barWrite_held] | split)

end Sys2Proof.Machine
end

