-- ==== Sys2Proof/Laws/HeldStart.lean ====
section
/-! SUPPORT. The store, the event areas, the key set and the namespaces through log pages, the life cycle, recovery and the cold start. -/

namespace Sys2Proof.Machine

set_option linter.unusedTactic false
set_option linter.unreachableTactic false
set_option linter.unusedSimpArgs false

theorem State.applyBarHeld_held (s : State) : (State.applyBarHeld s).held = s.held := by
  simp only [State.applyBarHeld, held_mk, held_fold, apply_ite State.held, ite_self, implies_true, foldl_held, State.barStore_held]

theorem State.wakeUp_held (s : State) (cause dur : Nat) (ok : Bool) : (State.wakeUp s cause dur ok).held = s.held := by
  simp only [State.wakeUp, State.wake_held, State.applyBarHeld_held]

theorem execWake_held (cause dur : Nat) (ok : Bool) (s : State) : Holds s (execWake cause dur ok s) := by
  unfold execWake
  repeat' (first | simp only [implies_true, guarded_held, State.wakeUp_held] | split)

theorem execPatrolWake_held (temps : List Nat) (holdOk : Bool) (canaries : List (Bool × Nat × Nat)) (us dur : Nat) (ok : Bool) (s : State)
    : Holds s (execPatrolWake temps holdOk canaries us dur ok s) := by
  unfold execPatrolWake
  repeat' (first | simp only [apply_ite State.held, ite_self, Holds_fault, State.patrol_held, State.wakeUp_held,
                          State.arm_held] | split | with_reducible refine onTimer_holds _ _ _ (fun u => ?_) | with_reducible refine (foldl_held _ _ _ (fun u _ => ?_)).trans ?_)

theorem execHealthPublishTimer_held (s : State) : Holds s (execHealthPublishTimer s) := by
  unfold execHealthPublishTimer
  repeat' (first | simp only [apply_ite State.held, ite_self, State.publish_held,
                          State.arm_held] | split | with_reducible refine onTimer_holds _ _ _ (fun u => ?_) | with_reducible refine (foldl_held _ _ _ (fun u _ => ?_)).trans ?_)

theorem State.miStatus_held (s : State) : (State.miStatus s).2.held = s.held := by
  unfold State.miStatus
  repeat' (first | (extract_lets +onlyGivenNames t; first | (refine held_via (t := t) ?_ (fun ht => ?_); rotate_left; clear_value t; rotate_left; simp only [t]) | clear_value t) | simp only [State.draw_held, *] | split | with_reducible refine (foldl_held _ _ _ (fun u _ => ?_)).trans ?_)
  all_goals grind only [held_mk, held_fold, State.draw_held]

theorem miRead_held (s : State) (dur : Nat) (ok : Bool) (r : List Nat × State) (h : r.2.held = s.held) : Holds s (miRead s dur ok r) := by
  unfold miRead
  split
  · exact (Holds_fault _ _).2 trivial
  split
  · exact (Holds_next _ _).2 rfl
  · refine (Holds_next _ _).2 ?_
    simp only [apply_ite State.held, State.wakeUp_held, State.send_held, ite_self, h]

theorem execMiStatusRead_held (dur : Nat) (ok : Bool) (s : State) : Holds s (execMiStatusRead dur ok s) := by
  unfold execMiStatusRead
  repeat' (first | simp only [miRead_held, State.miStatus_held] | split)

theorem execMiVendorIdRead_held (dur : Nat) (ok : Bool) (s : State) : Holds s (execMiVendorIdRead dur ok s) := by
  unfold execMiVendorIdRead
  repeat' (first | simp only [miRead_held] | split)

theorem execI3cSetdasa_held (addr : Nat) (s : State) : Holds s (execI3cSetdasa addr s) := by
  unfold execI3cSetdasa
  repeat' (first | simp only [held_mk, held_fold, implies_true, Holds_fault, guarded_held] | split)

theorem execI3cRstdaa_held (s : State) : Holds s (execI3cRstdaa s) := by
  unfold execI3cRstdaa
  repeat' (first | simp only [held_mk, held_fold, Holds_next, Holds_fault] | split)

theorem State.ccWrite_held (s : State) (fn v : Nat) : (State.ccWrite s fn v).held = s.held := by
  simp only [State.ccWrite, apply_ite State.held, ite_self, State.setFunc_held, State.updFunc_held, State.ctrlReset_held, State.ctrlEnable_held,
      State.shutdown_held]

theorem State.nvmeWrite_held (s : State) (fn off : Nat) (val mask : Word) : (State.nvmeWrite s fn off val mask).held = s.held := by
  simp only [State.nvmeWrite, apply_ite State.held, ite_self, State.sqDoorbell_held, State.cqDoorbell_held, State.ccWrite_held, State.updFunc_held]

theorem State.cmbWrite_held (s : State) (pf off : Nat) (d : DwReq) (poisoned : Bool) : (State.cmbWrite s pf off d poisoned).held = s.held := by
  simp only [State.cmbWrite, held_mk, held_fold, apply_ite State.held, ite_self]

theorem State.memStore_held (s : State) (t : MemTarget) (d : DwReq) (poisoned : Bool) : (State.memStore s t d poisoned).held = s.held := by
  unfold State.memStore
  repeat' (first | simp only [apply_ite State.held, ite_self, State.cmbWrite_held, State.msixWrite_held, State.nvmeWrite_held,
                          State.barWrite_held] | split)

theorem State.memLoad_held (s : State) (t : MemTarget) (be : Nat) : (State.memLoad s t be).2.held = s.held := by
  unfold State.memLoad
  repeat' (first | simp only [apply_ite State.held, ite_self, State.barRead_held] | split)

theorem State.memLoads_held (s : State) (p : Nat) (dws : List DwReq) : (s.memLoads p dws).2.held = s.held := by
  unfold State.memLoads
  exact foldl_held_snd _ _ _ (fun u x => State.memLoad_held ..)

theorem execMemoryRequestReceived_held (port tag : Nat) (write : Bool) (dws : List DwReq) (poisoned : Bool) (s : State)
    : Holds s (execMemoryRequestReceived port tag write dws poisoned s) := by
  unfold execMemoryRequestReceived
  repeat' (first | simp only [apply_ite State.held, ite_self, implies_true, foldl_held, Holds_next, Holds_fault, State.tlpIn_held, State.hifCnt_held,
                          State.aer_held, State.send_held, State.memStore_held, State.memLoads_held] | split)

theorem State.pageRead_held (s : State) (fn id : Nat) : (State.pageRead s fn id).held = s.held := by
  simp only [State.pageRead, held_mk, held_fold, apply_ite State.held, ite_self, State.updFunc_held]

theorem execGetLogPage_held (cmd page numd offset sel : Nat) (rae : Bool) (s : State) : Holds s (execGetLogPage cmd page numd offset sel rae s) := by
  unfold execGetLogPage
  repeat' (first | simp only [held_mk, held_fold, apply_ite State.held, ite_self, State.finish_held, State.send_held,
                          State.pageRead_held] | split | with_reducible refine onAdmin_holds _ _ _ (fun u => ?_) | with_reducible refine (foldl_held _ _ _ (fun u _ => ?_)).trans ?_)

theorem execLifeCycleTransition_held (cmd target reserved : Nat) (s : State) : Holds s (execLifeCycleTransition cmd target reserved s) := by
  unfold execLifeCycleTransition
  repeat' (first | simp only [held_mk, held_fold, apply_ite State.held, ite_self, State.superGate_held, State.secCnt_held, State.finish_held,
                          State.deny_held, State.noteGated_held] | split | with_reducible refine onVendor_holds _ _ _ _ (fun u => ?_) | with_reducible refine (foldl_held _ _ _ (fun u _ => ?_)).trans ?_)

theorem State.lcReset_held (s : State) : (State.lcReset s).held = s.held := by
  unfold State.lcReset
  repeat' (first | simp only [held_mk, held_fold, apply_ite State.held, ite_self, State.endSession_held, State.persistStaged_held, State.post_held,
                          State.coldReset_held] | split)

theorem State.eraseAgain_held (s : State) : s.eraseAgain.held = s.held := by
  unfold State.eraseAgain
  simp only [State.compact_held]
  have h (u : State) : (([(1, 3), (2, 3), (3, 2), (6, 4), (7, 5)] : List (Nat × Nat)).foldl (fun (t : State) (p : Nat × Nat) =>
      match (t.area p.1).erased, (t.area p.1).full with
      | [], o :: _ => if t.cfs.queue.any (fun j => j.work = .erase o) then t else t.cfsRequest p.2 (.erase o) 1
      | _, _ => t) u).held = u.held := by
    refine foldl_held _ _ _ (fun u p => ?_)
    split
    · split
      · rfl
      · exact State.cfsRequest_held ..
    · rfl
  split
  · refine (foldl_held _ _ _ (fun u o => ?_)).trans (h s)
    split
    · rfl
    · exact State.cfsRequest_held ..
  · exact h s

theorem State.startVolts_held (s : State) (mode : Option Nat) : (State.startVolts s mode).held = s.held := by
  unfold State.startVolts
  repeat' (first | simp only [held_mk, held_fold, State.send_held, State.requestVolts_held, State.setFlag_held] | split)

theorem State.startReft_held (s : State) (edge : Bool) : (State.startReft s edge).held = s.held := by
  simp only [State.startReft, apply_ite State.held, ite_self, State.setFlag_held, State.event_held]

theorem State.neverReady_held (s : State) : (State.neverReady s).held = s.held := by
  simp only [State.neverReady, State.setCfs_held, State.publish_held]

theorem State.loadDelays_held (s : State) : (State.loadDelays s).held = s.held := by
  simp only [State.loadDelays, implies_true, foldl_held, State.setWord_held]

theorem State.noteBoot_held (s : State) (slot valid1 valid2 part : Nat) : (State.noteBoot s slot valid1 valid2 part).held = s.held := by
  simp only [State.noteBoot, State.setFld_held, State.clrFlag_held]

theorem State.die_held (s : State) (copy part : Nat) : (State.die s copy part).held = s.held := by
  simp only [State.die, State.setFlag_held, State.event_held, State.publish_held]

theorem State.runSlot_held (s : State) (slot : Nat) : (State.runSlot s slot).held = s.held := by
  simp only [State.runSlot, held_mk, held_fold, State.setFld_held, State.noteVersions_held]

theorem State.writeRoster_held (s : State) (f : StartFacts) : (State.writeRoster s f).held = s.held := by
  simp only [State.writeRoster, held_mk, held_fold, implies_true, foldl_held, State.updBlk_held, State.setFld_held, State.cfsRequest_held]

theorem State.notFound_held (s : State) (d kind : Nat) : (State.notFound s d kind).held = s.held := by
  simp only [State.notFound, apply_ite State.held, ite_self, State.setFlag_held, State.sknErr_held, State.eventFrom_held, State.dieOut_held]

theorem State.followRoster_held (s : State) (f : StartFacts) : (State.followRoster s f).held = s.held := by
  simp only [State.followRoster, held_mk, held_fold, implies_true, foldl_held, State.notFound_held, State.dieOut_held]

theorem State.lunOut_held (s : State) : (State.lunOut s).held = s.held := by
  simp only [State.lunOut, apply_ite State.held, ite_self, implies_true, foldl_held, State.dieOut_held]

theorem State.trainAll_held (s : State) (rates : List (Nat × Nat)) : (State.trainAll s rates).held = s.held := by
  simp only [State.trainAll, apply_ite State.held, ite_self, implies_true, foldl_held, State.setChan_held, State.trainFull_held, State.setFld_held,
      State.stamp_held, State.arm_held]

theorem State.discover_held (s : State) (f : StartFacts) : (State.discover s f).held = s.held := by
  unfold State.discover
  repeat' (first | (extract_lets +onlyGivenNames t; first | (refine held_via (t := t) ?_ (fun ht => ?_); rotate_left; clear_value t; rotate_left; simp only [t]) | clear_value t) | simp only [held_mk, held_fold, apply_ite State.held, ite_self, State.followRoster_held, State.writeRoster_held, State.lunOut_held, State.trainAll_held, State.setFld_held, *] | split | with_reducible refine (foldl_held _ _ _ (fun u _ => ?_)).trans ?_)
  all_goals grind only [held_mk, held_fold, State.followRoster_held, State.writeRoster_held, State.lunOut_held, State.trainAll_held,
      State.setFld_held]

theorem State.fellBack_held (s : State) (g : Nat) : (State.fellBack s g).held = s.held := by
  simp only [State.fellBack, State.draw_held, State.lifCnt_held, State.copyError_held]

theorem State.readJournal_held (s : State) (lostA lostB : List Nat) : (State.readJournal s lostA lostB).2.held = s.held := by
  unfold State.readJournal
  repeat' (first | (extract_lets +onlyGivenNames t; first | (refine held_via (t := t) ?_ (fun ht => ?_); rotate_left; clear_value t; rotate_left; simp only [t]) | clear_value t) | simp only [held_mk, held_fold, apply_ite State.held, ite_self, implies_true, foldl_held, State.fellBack_held, State.setFlag_held, State.degrade_held, State.event_held, State.noteGroup_held, *] | split | with_reducible refine (foldl_held _ _ _ (fun u _ => ?_)).trans ?_)
  all_goals grind only [held_mk, held_fold, State.fellBack_held, State.setFlag_held, State.degrade_held, State.event_held, State.noteGroup_held]

theorem State.noteCkpt_held (s : State) (g bad : Nat) (lost : Bool) : (State.noteCkpt s g bad lost).held = s.held := by
  simp only [State.noteCkpt, held_mk, held_fold, apply_ite State.held, ite_self, State.setFlag_held, State.event_held, State.degrade_held,
      State.mapCnt_held, State.lifCnt_held]

theorem State.loadExt_held (s : State) (e : Nat) (x : Ext) : (State.loadExt s e x).held = s.held := by
  unfold State.loadExt
  repeat' (first | (extract_lets +onlyGivenNames t; first | (refine held_via (t := t) ?_ (fun ht => ?_); rotate_left; clear_value t; rotate_left; simp only [t]) | clear_value t) | simp only [held_mk, held_fold, State.mapCnt_held, *] | split | with_reducible refine (foldl_held _ _ _ (fun u _ => ?_)).trans ?_)
  all_goals grind only [held_mk, held_fold, State.mapCnt_held]

theorem State.loadMap_held (s : State) (groups : List Group) (bad : List (Nat × Nat)) : (State.loadMap s groups bad).held = s.held := by
  simp only [State.loadMap, implies_true, foldl_held, State.noteCkpt_held, State.loadExt_held, State.notePool_held]

theorem State.restoreEmptied_held (s : State) : (State.restoreEmptied s).held = s.held := by
  simp only [State.restoreEmptied, held_mk, held_fold, apply_ite State.held, ite_self, implies_true, foldl_held, State.updBlk_held, State.batch_held]

theorem State.foundTinked_held (s : State) (b wl : Nat) : (State.foundTinked s b wl).held = s.held := by
  simp only [State.foundTinked, State.updBlk_held, State.addSat_held, State.lifCnt_held]

theorem State.closeFound_held (s : State) (n : Nat) (c : Course) : (State.closeFound s n c).held = s.held := by
  simp only [State.closeFound, implies_true, foldl_held, State.updCourse_held, State.updBlk_held, State.batch_held, State.touchParts_held,
      State.setFlag_held, State.crsCnt_held]

theorem State.closeOpen_held (s : State) : (State.closeOpen s).held = s.held := by
  simp only [State.closeOpen, apply_ite State.held, ite_self, implies_true, foldl_held, State.updCourse_held, State.closeFound_held]

theorem State.emptyAll_held (s : State) (ns : List Nat) : (State.emptyAll s ns).held = s.held := by
  unfold State.emptyAll
  repeat' (first | simp only [State.courseEmpty_held] | split | with_reducible refine (foldl_held _ _ _ (fun u _ => ?_)).trans ?_)

theorem State.newJournals_held (s : State) (first : Nat) : (State.newJournals s first).held = s.held := by
  simp only [State.newJournals, held_mk, held_fold, State.emptyAll_held, State.nextCopyCourse_held]

theorem State.requeue_held (s : State) : (State.requeue s).held = s.held := by
  simp only [State.requeue, apply_ite State.held, ite_self, implies_true, foldl_held, State.queueVictim_held]

theorem State.tidyCourses_held (s : State) (first : Nat) : (State.tidyCourses s first).held = s.held := by
  simp only [State.tidyCourses, apply_ite State.held, ite_self, implies_true, foldl_held, State.restoreEmptied_held, State.closeOpen_held,
      State.settleCourse_held, State.newJournals_held, State.emptyAll_held, State.pruneKept_held, State.requeue_held]

theorem State.halfReads_held (s : State) : (State.halfReads s).held = s.held := by
  simp only [State.halfReads, held_mk, held_fold]

theorem State.redoErases_held (s : State) : s.redoErases.held = s.held := by
  unfold State.redoErases
  extract_lets t1 late t2 g src t3
  have e1 : t1.held = s.held := by
    refine foldl_held _ _ _ (fun (u : State) p => ?_)
    refine foldl_held _ _ _ (fun (u : State) g => ?_)
    simp only [State.batch_held, State.deallocWhole_held]
  clear_value t1
  have e2 : t2.held = t1.held := by
    refine foldl_held _ _ _ (fun u p => ?_)
    refine foldl_held _ _ _ (fun u g => ?_)
    split
    · exact State.clearNs_held ..
    · rfl
  have e3 : t3.held = t2.held := by simp only [t3, held_mk, held_fold]
  clear_value t3
  simp only [apply_ite State.held, State.cfsRequest_held, ite_self, e3, e2, e1]

theorem State.resumeErases_held (s : State) : (State.resumeErases s).held = s.held := by
  simp only [State.resumeErases, held_mk, held_fold, apply_ite State.held, ite_self, State.formatRun_held, State.clearAll_held,
      State.cryptoStart_held]

theorem State.bufferDumped_held (s : State) (n : Ns) (c nsid unit : Nat) (ds : List DumpSlot)
    : (State.bufferDumped s n c nsid unit ds).held = s.held := by
  simp only [State.bufferDumped, apply_ite State.held, ite_self, implies_true, foldl_held, State.bufferSlots_held, State.placeExtent_held]

theorem State.programThrough_held (s : State) (n : Nat) : (State.programThrough s n).held = s.held := by
  unfold State.programThrough
  repeat' (first | (extract_lets +onlyGivenNames t; first | (refine held_via (t := t) ?_ (fun ht => ?_); rotate_left; clear_value t; rotate_left; simp only [t]) | clear_value t) | simp only [held_mk, held_fold, apply_ite State.held, ite_self, State.padTo_held, State.updCourse_held, State.crsCnt_held, State.closeCourse_held, *] | split | with_reducible refine (foldl_held _ _ _ (fun u _ => ?_)).trans ?_)
  all_goals grind only [held_mk, held_fold, State.padTo_held, State.updCourse_held, State.crsCnt_held, State.closeCourse_held]

theorem State.programOpen_held (s : State) : (State.programOpen s).held = s.held := by
  simp only [State.programOpen, implies_true, foldl_held, State.programThrough_held]

theorem State.writeBackAll_held (s : State) (c : Nat) : (State.writeBackAll s c).held = s.held := by
  simp only [State.writeBackAll, apply_ite State.held, ite_self, implies_true, foldl_held, State.writeBack_held]

theorem State.applyDumped_held (s : State) (n : Ns) (c nsid unit : Nat) : (s.applyDumped n c nsid unit).held = s.held := by
  unfold State.applyDumped
  extract_lets parts t1 t2 t3
  have e1 : t1.held = s.held := by
    refine foldl_held _ _ _ (fun u lba => ?_)
    split
    · exact State.startRmw_held ..
    · rfl
  clear_value t1
  have e2 : t2.held = t1.held := by simp only [t2, apply_ite State.held, State.programOpen_held, ite_self]
  clear_value t2
  have e3 : t3.held = t2.held := by simp only [t3, apply_ite State.held, State.applyUnit_held, ite_self]
  clear_value t3
  rw [State.lifCnt_held, State.writeBackAll_held, e3, e2, e1]

theorem State.loseDumped_held (s : State) (n : Ns) (c nsid unit : Nat) (ds : List DumpSlot) : (s.loseDumped n c nsid unit ds).held = s.held := by
  unfold State.loseDumped
  simp only []
  split
  · rw [State.lifCnt_held, State.setFlag_held]
  · simp only [State.event_held, held_mk, held_fold, State.writeBackAll_held, State.programOpen_held, State.batch_held]
    refine (foldl_held_fst _ _ _ (fun acc lba => ?_)).trans ((State.lifCnt_held ..).trans (State.setFlag_held ..))
    split
    · split
      · rfl
      · split
        · exact State.startRmw_held ..
        · exact (State.mapCnt_held ..).trans (State.setSlots_held ..)
    · rfl

theorem State.applyDump_held (s : State) (bad : List Nat) : (State.applyDump s bad).held = s.held := by
  unfold State.applyDump
  repeat' (first | (extract_lets +onlyGivenNames t; first | (refine held_via (t := t) ?_ (fun ht => ?_); rotate_left; clear_value t; rotate_left; simp only [t]) | clear_value t) | simp only [held_mk, held_fold, apply_ite State.held, ite_self, implies_true, foldl_held, State.bufferDumped_held, State.programOpen_held, State.applyDumped_held, State.loseDumped_held, State.event_held, State.consumeDump_held, *] | split | with_reducible refine (foldl_held _ _ _ (fun u _ => ?_)).trans ?_)
  all_goals grind only [held_mk, held_fold, State.bufferDumped_held, State.programOpen_held, State.applyDumped_held, State.loseDumped_held,
      State.event_held, State.consumeDump_held]

theorem State.freshBlocks_held (s : State) : (State.freshBlocks s).held = s.held := by
  simp only [State.freshBlocks, held_mk, held_fold]

theorem State.firstErases_held (s : State) : (State.firstErases s).held = s.held := by
  simp only [State.firstErases, implies_true, foldl_held, State.erasedOk_held, State.updBlk_held, State.noteF_held]

theorem State.settleAnchor_held (s : State) : (State.settleAnchor s).held = s.held := by
  unfold State.settleAnchor
  repeat' (first | simp only [held_mk, held_fold, State.addSat_held] | split)

theorem State.checkCal_held (s : State) (ok : Bool) : (State.checkCal s ok).held = s.held := by
  simp only [State.checkCal, apply_ite State.held, ite_self, State.setFlag_held, State.putFlag_held, State.setFld_held, State.event_held,
      State.neverReady_held]

theorem State.bootFails_held (s : State) (valid part : Nat) : (State.bootFails s valid part).held = s.held := by
  simp only [State.bootFails, State.die_held]

theorem State.startHold_held (s : State) (hold : Bool) : (State.startHold s hold).held = s.held := by
  simp only [State.startHold, held_mk, held_fold, State.putFlag_held, State.enterExposed_held]

theorem State.startTimers_held (s : State) : (State.startTimers s).held = s.held := by
  simp only [State.startTimers, State.arm_held, State.watch_held]

theorem State.rejoin_held (s : State) : (State.rejoin s).held = s.held := by
  simp only [State.rejoin, apply_ite State.held, ite_self, State.startFleet_held, State.sendJoin_held]

theorem State.startChecks_held (s : State) : (State.startChecks s).held = s.held := by
  simp only [State.startChecks, apply_ite State.held, ite_self, State.noteF_held, State.checkSpare_held, State.protCheck_held, State.noteSkeins_held,
      State.noteTemps_held, State.critClear_held]

theorem State.becomeStarted_held (s : State) (kind ms slot : Nat) : (State.becomeStarted s kind ms slot).held = s.held := by
  simp only [State.becomeStarted, implies_true, foldl_held, State.setFld_held, State.putSat_held, State.writeAnchor_held, State.startTimers_held,
      State.rejoin_held, State.startChecks_held, State.event_held, State.becomeReady_held, State.publish_held]

/-- A cycle without a command. -/
theorem State.tick_held (s : State) : s.tick.held = s.held := by
  unfold State.tick
  simp only [State.flushGated_held, State.advanceTo_held]

end Sys2Proof.Machine
end

