-- ==== Sys2Proof/Laws/HeldParts.lean ====
section
/-! SUPPORT. The functions that change one of the parts of Held, and what they leave alone: R the records, sectors and reserve of the store,
    A the event
areas, K the key set, N the namespaces. -/

namespace Sys2Proof.Machine

set_option linter.unusedTactic false
set_option linter.unreachableTactic false
set_option linter.unusedSimpArgs false

theorem heldR_fold (s : State) : (s.records, s.savedRegs, s.sectors, s.reserve) = s.held.1 := by cases s; rfl

theorem foldl_heldR {α : Type} (g : State → α → State) (l : List α) (s : State) (h : ∀ u x,
    (g u x).held.1 = u.held.1) : (l.foldl g s).held.1 = s.held.1 := by
  induction l generalizing s with
  | nil => rfl
  | cons a l ih => exact (ih (g s a)).trans (h s a)

/-- An outcome that leaves the records, sectors and reserve of the store as they are. -/
def HoldsR (s : State) (o : Host.Outcome State Fault Refusal) : Prop := ∀ t, o = .next t → t.held.1 = s.held.1

theorem HoldsR_next (s u : State) : HoldsR s (.next u) ↔ u.held.1 = s.held.1 := by constructor <;> intro h; exact h u rfl; intro t e; cases e; exact h

theorem HoldsR_fault (s : State) (f : Fault) : HoldsR s (.fault f) ↔ True := ⟨fun _ => trivial, fun _ _ e => by cases e⟩

theorem guarded_holdsR (b : Bool) (f : Fault) (s t : State) (h : b = true → t.held.1 = s.held.1) : HoldsR s (guarded b f t) := by
  unfold guarded; split
  · next e => exact (HoldsR_next _ _).2 (h e)
  · exact (HoldsR_fault _ _).2 trivial

theorem superGate_heldR (s : State) (c : Nat) (t : State) (h : t.held.1 = s.held.1) : (s.superGate c t).held.1 = s.held.1 := by
  unfold State.superGate; repeat' split
  · rw [State.finish_held]
  · rfl
  · exact h

theorem withSome_holdsR {α : Type} (o : Option α) (k : α → State) (s : State) (h : ∀ a, (k a).held.1 = s.held.1) : HoldsR s (withSome o k) := by
  unfold withSome; split
  · exact (HoldsR_next _ _).2 (h _)
  · exact (HoldsR_fault _ _).2 trivial

theorem onAdmin_holdsR (s : State) (c : Nat) (k : Cmd → State) (h : ∀ x, (k x).held.1 = s.held.1) : HoldsR s (onAdmin s c k) := by
  refine withSome_holdsR _ _ _ (fun x => ?_); split
  · rw [State.finish_held]
  · exact h x

theorem onPf_holdsR (s : State) (c : Nat) (k : Cmd → State) (h : ∀ x, (k x).held.1 = s.held.1) : HoldsR s (onPf s c k) := by
  refine onAdmin_holdsR _ _ _ (fun x => ?_); split
  · exact h x
  · rw [State.finish_held]

theorem onVendor_holdsR (s : State) (cmd : Nat) (need : Role) (k : Cmd → State) (h : ∀ x,
    (k x).held.1 = s.held.1) : HoldsR s (onVendor s cmd need k) := by
  refine onAdmin_holdsR _ _ _ (fun x => ?_); repeat' split
  · rw [State.finish_held]
  · exact h x
  · rw [State.finish_held, State.deny_held]

theorem onTimer_holdsR (s : State) (id : TimerId) (k : State → State) (h : ∀ u, (k u).held.1 = u.held.1) : HoldsR s (onTimer s id k) := by
  unfold onTimer; split
  · exact (HoldsR_next _ _).2 ((h _).trans (by rw [State.expire_held]))
  · exact (HoldsR_next _ _).2 rfl

theorem heldA_fold (s : State) : s.areas = s.held.2.1 := by cases s; rfl

theorem foldl_heldA {α : Type} (g : State → α → State) (l : List α) (s : State) (h : ∀ u x,
    (g u x).held.2.1 = u.held.2.1) : (l.foldl g s).held.2.1 = s.held.2.1 := by
  induction l generalizing s with
  | nil => rfl
  | cons a l ih => exact (ih (g s a)).trans (h s a)

/-- An outcome that leaves the event areas as they are. -/
def HoldsA (s : State) (o : Host.Outcome State Fault Refusal) : Prop := ∀ t, o = .next t → t.held.2.1 = s.held.2.1

theorem HoldsA_next (s u : State) : HoldsA s (.next u) ↔ u.held.2.1 = s.held.2.1 := by constructor <;> intro h; exact h u rfl; intro t e; cases e; exact h

theorem HoldsA_fault (s : State) (f : Fault) : HoldsA s (.fault f) ↔ True := ⟨fun _ => trivial, fun _ _ e => by cases e⟩

theorem guarded_holdsA (b : Bool) (f : Fault) (s t : State) (h : b = true → t.held.2.1 = s.held.2.1) : HoldsA s (guarded b f t) := by
  unfold guarded; split
  · next e => exact (HoldsA_next _ _).2 (h e)
  · exact (HoldsA_fault _ _).2 trivial

theorem superGate_heldA (s : State) (c : Nat) (t : State) (h : t.held.2.1 = s.held.2.1) : (s.superGate c t).held.2.1 = s.held.2.1 := by
  unfold State.superGate; repeat' split
  · rw [State.finish_held]
  · rfl
  · exact h

theorem withSome_holdsA {α : Type} (o : Option α) (k : α → State) (s : State) (h : ∀ a, (k a).held.2.1 = s.held.2.1) : HoldsA s (withSome o k) := by
  unfold withSome; split
  · exact (HoldsA_next _ _).2 (h _)
  · exact (HoldsA_fault _ _).2 trivial

theorem onAdmin_holdsA (s : State) (c : Nat) (k : Cmd → State) (h : ∀ x, (k x).held.2.1 = s.held.2.1) : HoldsA s (onAdmin s c k) := by
  refine withSome_holdsA _ _ _ (fun x => ?_); split
  · rw [State.finish_held]
  · exact h x

theorem onPf_holdsA (s : State) (c : Nat) (k : Cmd → State) (h : ∀ x, (k x).held.2.1 = s.held.2.1) : HoldsA s (onPf s c k) := by
  refine onAdmin_holdsA _ _ _ (fun x => ?_); split
  · exact h x
  · rw [State.finish_held]

theorem onVendor_holdsA (s : State) (cmd : Nat) (need : Role) (k : Cmd → State) (h : ∀ x,
    (k x).held.2.1 = s.held.2.1) : HoldsA s (onVendor s cmd need k) := by
  refine onAdmin_holdsA _ _ _ (fun x => ?_); repeat' split
  · rw [State.finish_held]
  · exact h x
  · rw [State.finish_held, State.deny_held]

theorem onTimer_holdsA (s : State) (id : TimerId) (k : State → State) (h : ∀ u, (k u).held.2.1 = u.held.2.1) : HoldsA s (onTimer s id k) := by
  unfold onTimer; split
  · exact (HoldsA_next _ _).2 ((h _).trans (by rw [State.expire_held]))
  · exact (HoldsA_next _ _).2 rfl

theorem heldK_fold (s : State) : s.keys = s.held.2.2.1 := by cases s; rfl

theorem foldl_heldK {α : Type} (g : State → α → State) (l : List α) (s : State) (h : ∀ u x,
    (g u x).held.2.2.1 = u.held.2.2.1) : (l.foldl g s).held.2.2.1 = s.held.2.2.1 := by
  induction l generalizing s with
  | nil => rfl
  | cons a l ih => exact (ih (g s a)).trans (h s a)

/-- An outcome that leaves the key set as they are. -/
def HoldsK (s : State) (o : Host.Outcome State Fault Refusal) : Prop := ∀ t, o = .next t → t.held.2.2.1 = s.held.2.2.1

theorem HoldsK_next (s u : State) : HoldsK s (.next u) ↔ u.held.2.2.1 = s.held.2.2.1 := by constructor <;> intro h; exact h u rfl; intro t e; cases e; exact h

theorem HoldsK_fault (s : State) (f : Fault) : HoldsK s (.fault f) ↔ True := ⟨fun _ => trivial, fun _ _ e => by cases e⟩

theorem guarded_holdsK (b : Bool) (f : Fault) (s t : State) (h : b = true → t.held.2.2.1 = s.held.2.2.1) : HoldsK s (guarded b f t) := by
  unfold guarded; split
  · next e => exact (HoldsK_next _ _).2 (h e)
  · exact (HoldsK_fault _ _).2 trivial

theorem superGate_heldK (s : State) (c : Nat) (t : State) (h : t.held.2.2.1 = s.held.2.2.1) : (s.superGate c t).held.2.2.1 = s.held.2.2.1 := by
  unfold State.superGate; repeat' split
  · rw [State.finish_held]
  · rfl
  · exact h

theorem withSome_holdsK {α : Type} (o : Option α) (k : α → State) (s : State) (h : ∀ a,
    (k a).held.2.2.1 = s.held.2.2.1) : HoldsK s (withSome o k) := by
  unfold withSome; split
  · exact (HoldsK_next _ _).2 (h _)
  · exact (HoldsK_fault _ _).2 trivial

theorem onAdmin_holdsK (s : State) (c : Nat) (k : Cmd → State) (h : ∀ x, (k x).held.2.2.1 = s.held.2.2.1) : HoldsK s (onAdmin s c k) := by
  refine withSome_holdsK _ _ _ (fun x => ?_); split
  · rw [State.finish_held]
  · exact h x

theorem onPf_holdsK (s : State) (c : Nat) (k : Cmd → State) (h : ∀ x, (k x).held.2.2.1 = s.held.2.2.1) : HoldsK s (onPf s c k) := by
  refine onAdmin_holdsK _ _ _ (fun x => ?_); split
  · exact h x
  · rw [State.finish_held]

theorem onVendor_holdsK (s : State) (cmd : Nat) (need : Role) (k : Cmd → State) (h : ∀ x,
    (k x).held.2.2.1 = s.held.2.2.1) : HoldsK s (onVendor s cmd need k) := by
  refine onAdmin_holdsK _ _ _ (fun x => ?_); repeat' split
  · rw [State.finish_held]
  · exact h x
  · rw [State.finish_held, State.deny_held]

theorem onTimer_holdsK (s : State) (id : TimerId) (k : State → State) (h : ∀ u, (k u).held.2.2.1 = u.held.2.2.1) : HoldsK s (onTimer s id k) := by
  unfold onTimer; split
  · exact (HoldsK_next _ _).2 ((h _).trans (by rw [State.expire_held]))
  · exact (HoldsK_next _ _).2 rfl

theorem heldN_fold (s : State) : s.nss = s.held.2.2.2 := by cases s; rfl

theorem foldl_heldN {α : Type} (g : State → α → State) (l : List α) (s : State) (h : ∀ u x,
    (g u x).held.2.2.2 = u.held.2.2.2) : (l.foldl g s).held.2.2.2 = s.held.2.2.2 := by
  induction l generalizing s with
  | nil => rfl
  | cons a l ih => exact (ih (g s a)).trans (h s a)

/-- An outcome that leaves the namespaces as they are. -/
def HoldsN (s : State) (o : Host.Outcome State Fault Refusal) : Prop := ∀ t, o = .next t → t.held.2.2.2 = s.held.2.2.2

theorem HoldsN_next (s u : State) : HoldsN s (.next u) ↔ u.held.2.2.2 = s.held.2.2.2 := by constructor <;> intro h; exact h u rfl; intro t e; cases e; exact h

theorem HoldsN_fault (s : State) (f : Fault) : HoldsN s (.fault f) ↔ True := ⟨fun _ => trivial, fun _ _ e => by cases e⟩

theorem guarded_holdsN (b : Bool) (f : Fault) (s t : State) (h : b = true → t.held.2.2.2 = s.held.2.2.2) : HoldsN s (guarded b f t) := by
  unfold guarded; split
  · next e => exact (HoldsN_next _ _).2 (h e)
  · exact (HoldsN_fault _ _).2 trivial

theorem superGate_heldN (s : State) (c : Nat) (t : State) (h : t.held.2.2.2 = s.held.2.2.2) : (s.superGate c t).held.2.2.2 = s.held.2.2.2 := by
  unfold State.superGate; repeat' split
  · rw [State.finish_held]
  · rfl
  · exact h

theorem withSome_holdsN {α : Type} (o : Option α) (k : α → State) (s : State) (h : ∀ a,
    (k a).held.2.2.2 = s.held.2.2.2) : HoldsN s (withSome o k) := by
  unfold withSome; split
  · exact (HoldsN_next _ _).2 (h _)
  · exact (HoldsN_fault _ _).2 trivial

theorem onAdmin_holdsN (s : State) (c : Nat) (k : Cmd → State) (h : ∀ x, (k x).held.2.2.2 = s.held.2.2.2) : HoldsN s (onAdmin s c k) := by
  refine withSome_holdsN _ _ _ (fun x => ?_); split
  · rw [State.finish_held]
  · exact h x

theorem onPf_holdsN (s : State) (c : Nat) (k : Cmd → State) (h : ∀ x, (k x).held.2.2.2 = s.held.2.2.2) : HoldsN s (onPf s c k) := by
  refine onAdmin_holdsN _ _ _ (fun x => ?_); split
  · exact h x
  · rw [State.finish_held]

theorem onVendor_holdsN (s : State) (cmd : Nat) (need : Role) (k : Cmd → State) (h : ∀ x,
    (k x).held.2.2.2 = s.held.2.2.2) : HoldsN s (onVendor s cmd need k) := by
  refine onAdmin_holdsN _ _ _ (fun x => ?_); repeat' split
  · rw [State.finish_held]
  · exact h x
  · rw [State.finish_held, State.deny_held]

theorem onTimer_holdsN (s : State) (id : TimerId) (k : State → State) (h : ∀ u, (k u).held.2.2.2 = u.held.2.2.2) : HoldsN s (onTimer s id k) := by
  unfold onTimer; split
  · exact (HoldsN_next _ _).2 ((h _).trans (by rw [State.expire_held]))
  · exact (HoldsN_next _ _).2 rfl

theorem State.newSeed_heldR (s : State) (nsid : Nat) : (State.newSeed s nsid).held.1 = s.held.1 := by
  unfold State.newSeed
  repeat' (first | simp only [held_mk, heldR_fold, State.draw_held,
                          State.secCnt_held] | split | with_reducible refine (foldl_heldR _ _ _ (fun u _ => ?_)).trans ?_)
  all_goals grind only [held_mk, State.draw_held, State.secCnt_held]

theorem State.newSeed_heldA (s : State) (nsid : Nat) : (State.newSeed s nsid).held.2.1 = s.held.2.1 := by
  unfold State.newSeed
  repeat' (first | simp only [held_mk, heldA_fold, State.draw_held,
                          State.secCnt_held] | split | with_reducible refine (foldl_heldA _ _ _ (fun u _ => ?_)).trans ?_)
  all_goals grind only [held_mk, State.draw_held, State.secCnt_held]

theorem State.newSeed_heldN (s : State) (nsid : Nat) : (State.newSeed s nsid).held.2.2.2 = s.held.2.2.2 := by
  unfold State.newSeed
  repeat' (first | simp only [held_mk, heldN_fold, State.draw_held,
                          State.secCnt_held] | split | with_reducible refine (foldl_heldN _ _ _ (fun u _ => ?_)).trans ?_)
  all_goals grind only [held_mk, State.draw_held, State.secCnt_held]

theorem State.cryptoStep_heldR (s : State) : (State.cryptoStep s).held.1 = s.held.1 := by
  unfold State.cryptoStep
  repeat' (first | simp only [held_mk, heldR_fold, apply_ite State.held, apply_ite Prod.fst, ite_self, implies_true, foldl_heldR,
                          State.seedsBack_held, State.cfsRequest_held,
                          State.newSeed_heldR] | split | with_reducible refine (foldl_heldR _ _ _ (fun u _ => ?_)).trans ?_)
  all_goals grind only [held_mk, State.seedsBack_held, State.cfsRequest_held, State.newSeed_heldR]

theorem State.cryptoStep_heldA (s : State) : (State.cryptoStep s).held.2.1 = s.held.2.1 := by
  unfold State.cryptoStep
  repeat' (first | simp only [held_mk, heldA_fold, apply_ite State.held, apply_ite Prod.fst, apply_ite Prod.snd, ite_self, implies_true, foldl_heldA,
                          State.seedsBack_held, State.cfsRequest_held,
                          State.newSeed_heldA] | split | with_reducible refine (foldl_heldA _ _ _ (fun u _ => ?_)).trans ?_)
  all_goals grind only [held_mk, State.seedsBack_held, State.cfsRequest_held, State.newSeed_heldA]

theorem State.cryptoStep_heldN (s : State) : (State.cryptoStep s).held.2.2.2 = s.held.2.2.2 := by
  unfold State.cryptoStep
  repeat' (first | simp only [held_mk, heldN_fold, apply_ite State.held, apply_ite Prod.snd, ite_self, implies_true, foldl_heldN,
                          State.seedsBack_held, State.cfsRequest_held,
                          State.newSeed_heldN] | split | with_reducible refine (foldl_heldN _ _ _ (fun u _ => ?_)).trans ?_)
  all_goals grind only [held_mk, State.seedsBack_held, State.cfsRequest_held, State.newSeed_heldN]

theorem State.formatEnd_heldR (s : State) (ok : Bool) : (State.formatEnd s ok).held.1 = s.held.1 := by
  unfold State.formatEnd
  repeat' (first | simp only [held_mk, heldR_fold, apply_ite State.held, ite_self, State.cfsRequest_held, State.finish_held,
                          State.asyncVendor_held] | split | with_reducible refine (foldl_heldR _ _ _ (fun u _ => ?_)).trans ?_)
  all_goals grind only [held_mk, State.cfsRequest_held, State.finish_held, State.asyncVendor_held]

theorem State.formatEnd_heldA (s : State) (ok : Bool) : (State.formatEnd s ok).held.2.1 = s.held.2.1 := by
  unfold State.formatEnd
  repeat' (first | simp only [held_mk, heldA_fold, apply_ite State.held, ite_self, State.cfsRequest_held, State.finish_held,
                          State.asyncVendor_held] | split | with_reducible refine (foldl_heldA _ _ _ (fun u _ => ?_)).trans ?_)
  all_goals grind only [held_mk, State.cfsRequest_held, State.finish_held, State.asyncVendor_held]

theorem State.formatEnd_heldK (s : State) (ok : Bool) : (State.formatEnd s ok).held.2.2.1 = s.held.2.2.1 := by
  unfold State.formatEnd
  repeat' (first | simp only [held_mk, heldK_fold, apply_ite State.held, ite_self, State.cfsRequest_held, State.finish_held,
                          State.asyncVendor_held] | split | with_reducible refine (foldl_heldK _ _ _ (fun u _ => ?_)).trans ?_)
  all_goals grind only [held_mk, State.cfsRequest_held, State.finish_held, State.asyncVendor_held]

theorem State.formatStep_heldR (s : State) : (State.formatStep s).held.1 = s.held.1 := by
  unfold State.formatStep
  repeat' (first | simp only [apply_ite State.held, apply_ite Prod.fst, ite_self,
                          State.formatEnd_heldR] | split | with_reducible refine (foldl_heldR _ _ _ (fun u _ => ?_)).trans ?_)
  all_goals grind only [held_mk, State.formatEnd_heldR]

theorem State.formatStep_heldA (s : State) : (State.formatStep s).held.2.1 = s.held.2.1 := by
  unfold State.formatStep
  repeat' (first | simp only [apply_ite State.held, apply_ite Prod.fst, apply_ite Prod.snd, ite_self,
                          State.formatEnd_heldA] | split | with_reducible refine (foldl_heldA _ _ _ (fun u _ => ?_)).trans ?_)
  all_goals grind only [held_mk, State.formatEnd_heldA]

theorem State.formatStep_heldK (s : State) : (State.formatStep s).held.2.2.1 = s.held.2.2.1 := by
  unfold State.formatStep
  repeat' (first | simp only [apply_ite State.held, apply_ite Prod.fst, apply_ite Prod.snd, ite_self,
                          State.formatEnd_heldK] | split | with_reducible refine (foldl_heldK _ _ _ (fun u _ => ?_)).trans ?_)
  all_goals grind only [held_mk, State.formatEnd_heldK]

theorem State.afterCommit_heldR (s : State) : (State.afterCommit s).held.1 = s.held.1 := by
  unfold State.afterCommit
  repeat' (first | simp only [State.releaseSlots_held, State.finishGroup_held, State.finishDurable_held, State.freeGranulesStep_held,
                          State.consumeDump_held, State.pruneKept_held, State.pruneEmptied_held, State.tendJournal_held, State.cryptoStep_heldR,
                          State.formatStep_heldR] | split | with_reducible refine (foldl_heldR _ _ _ (fun u _ => ?_)).trans ?_)
  all_goals grind only [held_mk, State.releaseSlots_held, State.finishGroup_held, State.finishDurable_held, State.freeGranulesStep_held,
      State.consumeDump_held, State.pruneKept_held, State.pruneEmptied_held, State.tendJournal_held, State.cryptoStep_heldR, State.formatStep_heldR]

theorem State.afterCommit_heldA (s : State) : (State.afterCommit s).held.2.1 = s.held.2.1 := by
  unfold State.afterCommit
  repeat' (first | simp only [State.releaseSlots_held, State.finishGroup_held, State.finishDurable_held, State.freeGranulesStep_held,
                          State.consumeDump_held, State.pruneKept_held, State.pruneEmptied_held, State.tendJournal_held, State.cryptoStep_heldA,
                          State.formatStep_heldA] | split | with_reducible refine (foldl_heldA _ _ _ (fun u _ => ?_)).trans ?_)
  all_goals grind only [held_mk, State.releaseSlots_held, State.finishGroup_held, State.finishDurable_held, State.freeGranulesStep_held,
      State.consumeDump_held, State.pruneKept_held, State.pruneEmptied_held, State.tendJournal_held, State.cryptoStep_heldA, State.formatStep_heldA]

theorem State.castAdd_heldR (s : State) (r : EventRec) : (State.castAdd s r).held.1 = s.held.1 := by
  unfold State.castAdd
  repeat' (first | simp only [held_mk, heldR_fold, apply_ite State.held, apply_ite Prod.fst,
                          ite_self] | split | with_reducible refine (foldl_heldR _ _ _ (fun u _ => ?_)).trans ?_)
  all_goals grind only [held_mk]

theorem State.castAdd_heldK (s : State) (r : EventRec) : (State.castAdd s r).held.2.2.1 = s.held.2.2.1 := by
  unfold State.castAdd
  repeat' (first | simp only [held_mk, heldK_fold, apply_ite State.held, apply_ite Prod.fst, apply_ite Prod.snd,
                          ite_self] | split | with_reducible refine (foldl_heldK _ _ _ (fun u _ => ?_)).trans ?_)
  all_goals grind only [held_mk]

theorem State.castAdd_heldN (s : State) (r : EventRec) : (State.castAdd s r).held.2.2.2 = s.held.2.2.2 := by
  unfold State.castAdd
  repeat' (first | simp only [held_mk, heldN_fold, apply_ite State.held, apply_ite Prod.snd,
                          ite_self] | split | with_reducible refine (foldl_heldN _ _ _ (fun u _ => ?_)).trans ?_)
  all_goals grind only [held_mk]

theorem State.roundAdd_heldR (s : State) (r : EventRec) : (State.roundAdd s r).held.1 = s.held.1 := by
  unfold State.roundAdd
  repeat' (first | simp only [held_mk, heldR_fold, apply_ite State.held, apply_ite Prod.fst,
                          ite_self] | split | with_reducible refine (foldl_heldR _ _ _ (fun u _ => ?_)).trans ?_)
  all_goals grind only [held_mk]

theorem State.roundAdd_heldK (s : State) (r : EventRec) : (State.roundAdd s r).held.2.2.1 = s.held.2.2.1 := by
  unfold State.roundAdd
  repeat' (first | simp only [held_mk, heldK_fold, apply_ite State.held, apply_ite Prod.snd,
                          ite_self] | split | with_reducible refine (foldl_heldK _ _ _ (fun u _ => ?_)).trans ?_)
  all_goals grind only [held_mk]

theorem State.roundAdd_heldN (s : State) (r : EventRec) : (State.roundAdd s r).held.2.2.2 = s.held.2.2.2 := by
  unfold State.roundAdd
  repeat' (first | simp only [held_mk, heldN_fold, apply_ite State.held, apply_ite Prod.snd,
                          ite_self] | split | with_reducible refine (foldl_heldN _ _ _ (fun u _ => ?_)).trans ?_)
  all_goals grind only [held_mk]

theorem State.persisted_heldR (s : State) (seq : Nat) : (State.persisted s seq).held.1 = s.held.1 := by
  unfold State.persisted
  repeat' (first | simp only [held_mk, heldR_fold, apply_ite State.held, apply_ite Prod.fst, ite_self, State.cancel_held, State.arm_held,
                          State.reportDrops_held, State.castAdd_heldR,
                          State.roundAdd_heldR] | split | with_reducible refine (foldl_heldR _ _ _ (fun u _ => ?_)).trans ?_)
  all_goals grind only [held_mk, State.cancel_held, State.arm_held, State.reportDrops_held, State.castAdd_heldR, State.roundAdd_heldR]

theorem State.persisted_heldK (s : State) (seq : Nat) : (State.persisted s seq).held.2.2.1 = s.held.2.2.1 := by
  unfold State.persisted
  repeat' (first | simp only [held_mk, heldK_fold, apply_ite State.held, apply_ite Prod.fst, apply_ite Prod.snd, ite_self, State.cancel_held,
                          State.arm_held, State.reportDrops_held, State.castAdd_heldK,
                          State.roundAdd_heldK] | split | with_reducible refine (foldl_heldK _ _ _ (fun u _ => ?_)).trans ?_)
  all_goals grind only [held_mk, State.cancel_held, State.arm_held, State.reportDrops_held, State.castAdd_heldK, State.roundAdd_heldK]

theorem State.persisted_heldN (s : State) (seq : Nat) : (State.persisted s seq).held.2.2.2 = s.held.2.2.2 := by
  unfold State.persisted
  repeat' (first | simp only [held_mk, heldN_fold, apply_ite State.held, apply_ite Prod.snd, ite_self, State.cancel_held, State.arm_held,
                          State.reportDrops_held, State.castAdd_heldN,
                          State.roundAdd_heldN] | split | with_reducible refine (foldl_heldN _ _ _ (fun u _ => ?_)).trans ?_)
  all_goals grind only [held_mk, State.cancel_held, State.arm_held, State.reportDrops_held, State.castAdd_heldN, State.roundAdd_heldN]

theorem State.flushStaged_heldR (s : State) : (State.flushStaged s).held.1 = s.held.1 := by
  unfold State.flushStaged
  repeat' (first | simp only [held_mk, heldR_fold, apply_ite State.held, ite_self, implies_true, foldl_heldR, State.advanceArea_held,
                          State.cfsCnt_held, State.persisted_heldR] | split | with_reducible refine (foldl_heldR _ _ _ (fun u _ => ?_)).trans ?_)
  all_goals grind only [held_mk, State.event_held, State.advanceArea_held, State.cfsCnt_held, State.persisted_heldR]

theorem State.flushStaged_heldK (s : State) : (State.flushStaged s).held.2.2.1 = s.held.2.2.1 := by
  unfold State.flushStaged
  repeat' (first | simp only [held_mk, heldK_fold, apply_ite State.held, ite_self, implies_true, foldl_heldK, State.advanceArea_held,
                          State.cfsCnt_held, State.persisted_heldK] | split | with_reducible refine (foldl_heldK _ _ _ (fun u _ => ?_)).trans ?_)
  all_goals grind only [held_mk, State.event_held, State.advanceArea_held, State.cfsCnt_held, State.persisted_heldK]

theorem State.flushStaged_heldN (s : State) : (State.flushStaged s).held.2.2.2 = s.held.2.2.2 := by
  unfold State.flushStaged
  repeat' (first | simp only [held_mk, heldN_fold, apply_ite State.held, ite_self, implies_true, foldl_heldN, State.advanceArea_held,
                          State.cfsCnt_held, State.persisted_heldN] | split | with_reducible refine (foldl_heldN _ _ _ (fun u _ => ?_)).trans ?_)
  all_goals grind only [held_mk, State.event_held, State.advanceArea_held, State.cfsCnt_held, State.persisted_heldN]

theorem State.bootRom_heldR (s : State) (f : StartFacts) : (State.bootRom s f).held.1 = s.held.1 := by
  unfold State.bootRom
  repeat' (first | simp only [held_mk, heldR_fold, State.advanceTo_held, State.settleAnchor_held, State.eraseAgain_held, State.startReft_held,
                          State.startVolts_held, State.addSat_held,
                          State.flushStaged_heldR] | split | with_reducible refine (foldl_heldR _ _ _ (fun u _ => ?_)).trans ?_)
  all_goals grind only [held_mk, State.advanceTo_held, State.settleAnchor_held, State.eraseAgain_held, State.startReft_held, State.startVolts_held,
      State.addSat_held, State.critWarn_held, State.flushStaged_heldR]

theorem State.bootRom_heldK (s : State) (f : StartFacts) : (State.bootRom s f).held.2.2.1 = s.held.2.2.1 := by
  unfold State.bootRom
  repeat' (first | simp only [held_mk, heldK_fold, State.advanceTo_held, State.settleAnchor_held, State.eraseAgain_held, State.startReft_held,
                          State.startVolts_held, State.addSat_held,
                          State.flushStaged_heldK] | split | with_reducible refine (foldl_heldK _ _ _ (fun u _ => ?_)).trans ?_)
  all_goals grind only [held_mk, State.advanceTo_held, State.settleAnchor_held, State.eraseAgain_held, State.startReft_held, State.startVolts_held,
      State.addSat_held, State.critWarn_held, State.flushStaged_heldK]

theorem State.bootRom_heldN (s : State) (f : StartFacts) : (State.bootRom s f).held.2.2.2 = s.held.2.2.2 := by
  unfold State.bootRom
  repeat' (first | simp only [held_mk, heldN_fold, State.advanceTo_held, State.settleAnchor_held, State.eraseAgain_held, State.startReft_held,
                          State.startVolts_held, State.addSat_held,
                          State.flushStaged_heldN] | split | with_reducible refine (foldl_heldN _ _ _ (fun u _ => ?_)).trans ?_)
  all_goals grind only [held_mk, State.advanceTo_held, State.settleAnchor_held, State.eraseAgain_held, State.startReft_held, State.startVolts_held,
      State.addSat_held, State.critWarn_held, State.flushStaged_heldN]

theorem State.loseSeeds_heldR (s : State) : (State.loseSeeds s).held.1 = s.held.1 := by
  unfold State.loseSeeds
  repeat' (first | simp only [held_mk, heldR_fold, apply_ite State.held, apply_ite Prod.fst, ite_self, State.degrade_held, State.draw_held,
                          State.stageEvent_held] | split | with_reducible refine (foldl_heldR _ _ _ (fun u _ => ?_)).trans ?_)
  all_goals grind only [held_mk, State.degrade_held, State.draw_held, State.stageEvent_held]

theorem State.loseSeeds_heldA (s : State) : (State.loseSeeds s).held.2.1 = s.held.2.1 := by
  unfold State.loseSeeds
  repeat' (first | simp only [held_mk, heldA_fold, apply_ite State.held, apply_ite Prod.fst, apply_ite Prod.snd, ite_self, State.degrade_held,
                          State.draw_held, State.stageEvent_held] | split | with_reducible refine (foldl_heldA _ _ _ (fun u _ => ?_)).trans ?_)
  all_goals grind only [held_mk, State.degrade_held, State.draw_held, State.stageEvent_held]

theorem State.loseSeeds_heldN (s : State) : (State.loseSeeds s).held.2.2.2 = s.held.2.2.2 := by
  unfold State.loseSeeds
  repeat' (first | simp only [held_mk, heldN_fold, apply_ite State.held, apply_ite Prod.snd, ite_self, State.degrade_held, State.draw_held,
                          State.stageEvent_held] | split | with_reducible refine (foldl_heldN _ _ _ (fun u _ => ?_)).trans ?_)
  all_goals grind only [held_mk, State.degrade_held, State.draw_held, State.stageEvent_held]

theorem State.recover_heldR (s : State) (f : StartFacts) : (State.recover s f).2.held.1 = s.held.1 := by
  unfold State.recover
  repeat' (first | simp only [apply_ite State.held, apply_ite Prod.fst, apply_ite Prod.snd, ite_self, implies_true, foldl_heldR,
                          State.freshBlocks_held, State.firstErases_held, State.newJournals_held, State.formDump_held, State.readJournal_held,
                          State.loadMap_held, State.setFld_held, State.lifCnt_held, State.foundTinked_held, State.halfReads_held,
                          State.tidyCourses_held, State.redoErases_held, State.applyDump_held,
                          State.loseSeeds_heldR] | split | with_reducible refine (foldl_heldR _ _ _ (fun u _ => ?_)).trans ?_)
  all_goals grind only [held_mk, State.freshBlocks_held, State.firstErases_held, State.newJournals_held, State.formDump_held, State.readJournal_held,
      State.loadMap_held, State.setFld_held, State.lifCnt_held, State.foundTinked_held, State.halfReads_held, State.tidyCourses_held,
      State.redoErases_held, State.applyDump_held, State.loseSeeds_heldR]

theorem State.recover_heldA (s : State) (f : StartFacts) : (State.recover s f).2.held.2.1 = s.held.2.1 := by
  unfold State.recover
  repeat' (first | simp only [apply_ite State.held, apply_ite Prod.fst, apply_ite Prod.snd, ite_self, implies_true, foldl_heldA,
                          State.freshBlocks_held, State.firstErases_held, State.newJournals_held, State.formDump_held, State.readJournal_held,
                          State.loadMap_held, State.setFld_held, State.lifCnt_held, State.foundTinked_held, State.halfReads_held,
                          State.tidyCourses_held, State.redoErases_held, State.applyDump_held,
                          State.loseSeeds_heldA] | split | with_reducible refine (foldl_heldA _ _ _ (fun u _ => ?_)).trans ?_)
  all_goals grind only [held_mk, State.freshBlocks_held, State.firstErases_held, State.newJournals_held, State.formDump_held, State.readJournal_held,
      State.loadMap_held, State.setFld_held, State.lifCnt_held, State.foundTinked_held, State.halfReads_held, State.tidyCourses_held,
      State.redoErases_held, State.applyDump_held, State.loseSeeds_heldA]

theorem State.recover_heldN (s : State) (f : StartFacts) : (State.recover s f).2.held.2.2.2 = s.held.2.2.2 := by
  unfold State.recover
  repeat' (first | simp only [apply_ite State.held, apply_ite Prod.snd, ite_self, implies_true, foldl_heldN, State.freshBlocks_held,
                          State.firstErases_held, State.newJournals_held, State.formDump_held, State.readJournal_held, State.loadMap_held,
                          State.setFld_held, State.lifCnt_held, State.foundTinked_held, State.halfReads_held, State.tidyCourses_held,
                          State.redoErases_held, State.applyDump_held,
                          State.loseSeeds_heldN] | split | with_reducible refine (foldl_heldN _ _ _ (fun u _ => ?_)).trans ?_)
  all_goals grind only [held_mk, State.freshBlocks_held, State.firstErases_held, State.newJournals_held, State.formDump_held, State.readJournal_held,
      State.loadMap_held, State.setFld_held, State.lifCnt_held, State.foundTinked_held, State.halfReads_held, State.tidyCourses_held,
      State.redoErases_held, State.applyDump_held, State.loseSeeds_heldN]

theorem State.bringUp_heldR (s : State) (f : StartFacts) (slot : Nat) : (State.bringUp s f slot).held.1 = s.held.1 := by
  unfold State.bringUp
  repeat' (first | simp only [State.runSlot_held, State.discover_held, State.startHold_held, State.framesRead_held, State.resumeErases_held,
                          State.becomeStarted_held, State.recover_heldR,
                          State.cryptoStep_heldR] | split | with_reducible refine (foldl_heldR _ _ _ (fun u _ => ?_)).trans ?_)
  all_goals grind only [held_mk, State.runSlot_held, State.discover_held, State.startHold_held, State.framesRead_held, State.resumeErases_held,
      State.becomeStarted_held, State.recover_heldR, State.cryptoStep_heldR]

theorem State.bringUp_heldA (s : State) (f : StartFacts) (slot : Nat) : (State.bringUp s f slot).held.2.1 = s.held.2.1 := by
  unfold State.bringUp
  repeat' (first | simp only [State.runSlot_held, State.discover_held, State.startHold_held, State.framesRead_held, State.resumeErases_held,
                          State.becomeStarted_held, State.recover_heldA,
                          State.cryptoStep_heldA] | split | with_reducible refine (foldl_heldA _ _ _ (fun u _ => ?_)).trans ?_)
  all_goals grind only [held_mk, State.runSlot_held, State.discover_held, State.startHold_held, State.framesRead_held, State.resumeErases_held,
      State.becomeStarted_held, State.recover_heldA, State.cryptoStep_heldA]

theorem State.bringUp_heldN (s : State) (f : StartFacts) (slot : Nat) : (State.bringUp s f slot).held.2.2.2 = s.held.2.2.2 := by
  unfold State.bringUp
  repeat' (first | simp only [State.runSlot_held, State.discover_held, State.startHold_held, State.framesRead_held, State.resumeErases_held,
                          State.becomeStarted_held, State.recover_heldN,
                          State.cryptoStep_heldN] | split | with_reducible refine (foldl_heldN _ _ _ (fun u _ => ?_)).trans ?_)
  all_goals grind only [held_mk, State.runSlot_held, State.discover_held, State.startHold_held, State.framesRead_held, State.resumeErases_held,
      State.becomeStarted_held, State.recover_heldN, State.cryptoStep_heldN]

theorem State.keyCommitted_heldR (s : State) (endRole : State → Nat → State) (he : ∀ t n, (endRole t n).held = t.held) :
    (s.keyCommitted endRole).held.1 = s.held.1 := by
  unfold State.keyCommitted
  split
  · rfl
  · simp only [he, State.event_held, State.addWrap_held, State.setFlag_held, State.clrFlag_held, State.putFlag_held, held_mk, heldR_fold]

theorem State.keyCommitted_heldA (s : State) (endRole : State → Nat → State) (he : ∀ t n, (endRole t n).held = t.held) :
    (s.keyCommitted endRole).held.2.1 = s.held.2.1 := by
  unfold State.keyCommitted
  split
  · rfl
  · simp only [he, State.event_held, State.addWrap_held, State.setFlag_held, State.clrFlag_held, State.putFlag_held, held_mk, heldA_fold]

theorem State.keyCommitted_heldN (s : State) (endRole : State → Nat → State) (he : ∀ t n, (endRole t n).held = t.held) :
    (s.keyCommitted endRole).held.2.2.2 = s.held.2.2.2 := by
  unfold State.keyCommitted
  split
  · rfl
  · simp only [he, State.event_held, State.addWrap_held, State.setFlag_held, State.clrFlag_held, State.putFlag_held, held_mk, heldN_fold]

theorem State.cfsDone_heldN (s : State) (j : CfsJob) (endRole : State → Nat → State) (he : ∀ t n, (endRole t n).held = t.held) :
    (s.cfsDone j endRole).held.2.2.2 = s.held.2.2.2 := by
  unfold State.cfsDone
  repeat' split
  all_goals first
    | rfl
    | (simp only [held_mk, heldN_fold, State.persisted_heldN, State.setFld_held, State.finish_held, State.cfsRequest_held,
        State.keyCommitted_heldN _ _ he, State.setArea_held, State.finishWaiting_held]; done)

theorem State.coldStart_heldR (s : State) (f : StartFacts) : (State.coldStart s f).held.1 = s.held.1 := by
  unfold State.coldStart
  repeat' (first | simp only [apply_ite State.held, apply_ite Prod.fst, ite_self, State.checkCal_held, State.loadDelays_held, State.event_held,
                          State.neverReady_held, State.setFlag_held, State.noteBoot_held, State.bootFails_held, State.bootRom_heldR,
                          State.bringUp_heldR] | split | with_reducible refine (foldl_heldR _ _ _ (fun u _ => ?_)).trans ?_)
  all_goals grind only [held_mk, State.checkCal_held, State.loadDelays_held, State.event_held, State.neverReady_held, State.setFlag_held,
      State.noteBoot_held, State.bootFails_held, State.bootRom_heldR, State.bringUp_heldR]

theorem State.coldStart_heldN (s : State) (f : StartFacts) : (State.coldStart s f).held.2.2.2 = s.held.2.2.2 := by
  unfold State.coldStart
  repeat' (first | simp only [apply_ite State.held, apply_ite Prod.snd, ite_self, State.checkCal_held, State.loadDelays_held, State.event_held,
                          State.neverReady_held, State.setFlag_held, State.noteBoot_held, State.bootFails_held, State.bootRom_heldN,
                          State.bringUp_heldN] | split | with_reducible refine (foldl_heldN _ _ _ (fun u _ => ?_)).trans ?_)
  all_goals grind only [held_mk, State.checkCal_held, State.loadDelays_held, State.event_held, State.neverReady_held, State.setFlag_held,
      State.noteBoot_held, State.bootFails_held, State.bootRom_heldN, State.bringUp_heldN]

theorem State.commitGroup_heldR (s : State) (g : Group) (rowsA rowsB : Nat) : (State.commitGroup s g rowsA rowsB).held.1 = s.held.1 := by
  unfold State.commitGroup
  repeat' (first | simp only [held_mk, heldR_fold, apply_ite State.held, ite_self, State.writeRows_held, State.joinStreams_held, State.lifCnt_held,
                          State.cmpCnt_held, State.emitBlocks_held, State.noteGroup_held, State.cleanStopped_held,
                          State.afterCommit_heldR] | split | with_reducible refine (foldl_heldR _ _ _ (fun u _ => ?_)).trans ?_)
  all_goals grind only [held_mk, State.writeRows_held, State.joinStreams_held, State.lifCnt_held, State.cmpCnt_held, State.emitBlocks_held,
      State.noteGroup_held, State.cleanStopped_held, State.afterCommit_heldR]

theorem State.commitGroup_heldA (s : State) (g : Group) (rowsA rowsB : Nat) : (State.commitGroup s g rowsA rowsB).held.2.1 = s.held.2.1 := by
  unfold State.commitGroup
  repeat' (first | simp only [held_mk, heldA_fold, apply_ite State.held, ite_self, State.writeRows_held, State.joinStreams_held, State.lifCnt_held,
                          State.cmpCnt_held, State.emitBlocks_held, State.noteGroup_held, State.cleanStopped_held,
                          State.afterCommit_heldA] | split | with_reducible refine (foldl_heldA _ _ _ (fun u _ => ?_)).trans ?_)
  all_goals grind only [held_mk, State.writeRows_held, State.joinStreams_held, State.lifCnt_held, State.cmpCnt_held, State.emitBlocks_held,
      State.noteGroup_held, State.cleanStopped_held, State.afterCommit_heldA]

theorem State.commitAll_heldR (s : State) (rows : List (Nat × Nat)) : (State.commitAll s rows).held.1 = s.held.1 := by
  unfold State.commitAll
  repeat' (first | simp only [implies_true, foldl_heldR, State.commitGroup_heldR] | split | with_reducible refine (foldl_heldR _ _ _ (fun u _ => ?_)).trans ?_)
  all_goals grind only [held_mk, State.commitGroup_heldR]

theorem State.commitAll_heldA (s : State) (rows : List (Nat × Nat)) : (State.commitAll s rows).held.2.1 = s.held.2.1 := by
  unfold State.commitAll
  repeat' (first | simp only [implies_true, foldl_heldA, State.commitGroup_heldA] | split | with_reducible refine (foldl_heldA _ _ _ (fun u _ => ?_)).trans ?_)
  all_goals grind only [held_mk, State.commitGroup_heldA]

theorem State.cryptoSettled_heldR (s : State) (r : CryptoRun) : (State.cryptoSettled s r).held.1 = s.held.1 := by
  unfold State.cryptoSettled
  repeat' (first | simp only [held_mk, heldR_fold, apply_ite State.held, apply_ite Prod.fst, ite_self, State.setFld_held, State.putSat_held,
                          State.addWrap_held, State.formatEnd_heldR] | split | with_reducible refine (foldl_heldR _ _ _ (fun u _ => ?_)).trans ?_)
  all_goals grind only [held_mk, State.setFld_held, State.putSat_held, State.addWrap_held, State.formatEnd_heldR]

theorem State.cryptoSettled_heldA (s : State) (r : CryptoRun) : (State.cryptoSettled s r).held.2.1 = s.held.2.1 := by
  unfold State.cryptoSettled
  repeat' (first | simp only [held_mk, heldA_fold, apply_ite State.held, apply_ite Prod.fst, apply_ite Prod.snd, ite_self, State.setFld_held,
                          State.putSat_held, State.addWrap_held,
                          State.formatEnd_heldA] | split | with_reducible refine (foldl_heldA _ _ _ (fun u _ => ?_)).trans ?_)
  all_goals grind only [held_mk, State.setFld_held, State.putSat_held, State.addWrap_held, State.formatEnd_heldA]

theorem State.cryptoSettled_heldK (s : State) (r : CryptoRun) : (State.cryptoSettled s r).held.2.2.1 = s.held.2.2.1 := by
  unfold State.cryptoSettled
  repeat' (first | simp only [held_mk, heldK_fold, apply_ite State.held, apply_ite Prod.fst, apply_ite Prod.snd, ite_self, State.setFld_held,
                          State.putSat_held, State.addWrap_held,
                          State.formatEnd_heldK] | split | with_reducible refine (foldl_heldK _ _ _ (fun u _ => ?_)).trans ?_)
  all_goals grind only [held_mk, State.setFld_held, State.putSat_held, State.addWrap_held, State.formatEnd_heldK]

theorem State.deleteNs_heldR (s : State) (nsid : Nat) : (State.deleteNs s nsid).held.1 = s.held.1 := by
  unfold State.deleteNs
  repeat' (first | simp only [held_mk, heldR_fold, implies_true, foldl_heldR, State.endNsIo_held, State.dropNsSlots_held, State.clearNs_held,
                          State.updFunc_held, State.nsChanged_held, State.closeWindows_held,
                          State.mapCnt_held] | split | with_reducible refine (foldl_heldR _ _ _ (fun u _ => ?_)).trans ?_)
  all_goals grind only [held_mk, State.endNsIo_held, State.dropNsSlots_held, State.clearNs_held, State.updFunc_held, State.nsChanged_held,
      State.closeWindows_held, State.mapCnt_held]

theorem State.deleteNs_heldA (s : State) (nsid : Nat) : (State.deleteNs s nsid).held.2.1 = s.held.2.1 := by
  unfold State.deleteNs
  repeat' (first | simp only [held_mk, heldA_fold, implies_true, foldl_heldA, State.endNsIo_held, State.dropNsSlots_held, State.clearNs_held,
                          State.updFunc_held, State.nsChanged_held, State.closeWindows_held,
                          State.mapCnt_held] | split | with_reducible refine (foldl_heldA _ _ _ (fun u _ => ?_)).trans ?_)
  all_goals grind only [held_mk, State.endNsIo_held, State.dropNsSlots_held, State.clearNs_held, State.updFunc_held, State.nsChanged_held,
      State.closeWindows_held, State.mapCnt_held]

theorem State.deleteNs_heldK (s : State) (nsid : Nat) : (State.deleteNs s nsid).held.2.2.1 = s.held.2.2.1 := by
  unfold State.deleteNs
  repeat' (first | simp only [held_mk, heldK_fold, implies_true, foldl_heldK, State.endNsIo_held, State.dropNsSlots_held, State.clearNs_held,
                          State.updFunc_held, State.nsChanged_held, State.closeWindows_held,
                          State.mapCnt_held] | split | with_reducible refine (foldl_heldK _ _ _ (fun u _ => ?_)).trans ?_)
  all_goals grind only [held_mk, State.endNsIo_held, State.dropNsSlots_held, State.clearNs_held, State.updFunc_held, State.nsChanged_held,
      State.closeWindows_held, State.mapCnt_held]

theorem State.dumpDone_heldR (s : State) (quiet written : Nat) (rows : List (Nat × Nat))
    : (State.dumpDone s quiet written rows).held.1 = s.held.1 := by
  unfold State.dumpDone
  repeat' (first | simp only [held_mk, heldR_fold, State.advanceTo_held, State.noteDump_held,
                          State.commitAll_heldR] | split | with_reducible refine (foldl_heldR _ _ _ (fun u _ => ?_)).trans ?_)
  all_goals grind only [held_mk, State.advanceTo_held, State.noteDump_held, State.commitAll_heldR]

theorem State.dumpDone_heldA (s : State) (quiet written : Nat) (rows : List (Nat × Nat))
    : (State.dumpDone s quiet written rows).held.2.1 = s.held.2.1 := by
  unfold State.dumpDone
  repeat' (first | simp only [held_mk, heldA_fold, State.advanceTo_held, State.noteDump_held,
                          State.commitAll_heldA] | split | with_reducible refine (foldl_heldA _ _ _ (fun u _ => ?_)).trans ?_)
  all_goals grind only [held_mk, State.advanceTo_held, State.noteDump_held, State.commitAll_heldA]

theorem State.keySetSettled_heldR (s : State) : (State.keySetSettled s).held.1 = s.held.1 := by
  unfold State.keySetSettled
  repeat' (first | simp only [held_mk, heldR_fold, apply_ite State.held, apply_ite Prod.fst, ite_self, implies_true, foldl_heldR,
                          State.finishWaiting_held, State.lifeCycleDone_held,
                          State.cryptoSettled_heldR] | split | with_reducible refine (foldl_heldR _ _ _ (fun u _ => ?_)).trans ?_)
  all_goals grind only [held_mk, State.finishWaiting_held, State.lifeCycleDone_held, State.cryptoSettled_heldR]

theorem State.keySetSettled_heldA (s : State) : (State.keySetSettled s).held.2.1 = s.held.2.1 := by
  unfold State.keySetSettled
  repeat' (first | simp only [held_mk, heldA_fold, apply_ite State.held, apply_ite Prod.fst, apply_ite Prod.snd, ite_self, implies_true, foldl_heldA,
                          State.finishWaiting_held, State.lifeCycleDone_held,
                          State.cryptoSettled_heldA] | split | with_reducible refine (foldl_heldA _ _ _ (fun u _ => ?_)).trans ?_)
  all_goals grind only [held_mk, State.finishWaiting_held, State.lifeCycleDone_held, State.cryptoSettled_heldA]

theorem State.keySetSettled_heldK (s : State) : (State.keySetSettled s).held.2.2.1 = s.held.2.2.1 := by
  unfold State.keySetSettled
  repeat' (first | simp only [held_mk, heldK_fold, apply_ite State.held, apply_ite Prod.fst, apply_ite Prod.snd, ite_self, implies_true, foldl_heldK,
                          State.finishWaiting_held, State.lifeCycleDone_held,
                          State.cryptoSettled_heldK] | split | with_reducible refine (foldl_heldK _ _ _ (fun u _ => ?_)).trans ?_)
  all_goals grind only [held_mk, State.finishWaiting_held, State.lifeCycleDone_held, State.cryptoSettled_heldK]

theorem State.setSector_heldA (s : State) (n : Nat) (x : Sector) : (State.setSector s n x).held.2.1 = s.held.2.1 := by
  unfold State.setSector
  repeat' (first | simp only [held_mk, heldA_fold] | split | with_reducible refine (foldl_heldA _ _ _ (fun u _ => ?_)).trans ?_)
  all_goals grind only [held_mk]

theorem State.setSector_heldK (s : State) (n : Nat) (x : Sector) : (State.setSector s n x).held.2.2.1 = s.held.2.2.1 := by
  unfold State.setSector
  repeat' (first | simp only [held_mk, heldK_fold] | split | with_reducible refine (foldl_heldK _ _ _ (fun u _ => ?_)).trans ?_)
  all_goals grind only [held_mk]

theorem State.setSector_heldN (s : State) (n : Nat) (x : Sector) : (State.setSector s n x).held.2.2.2 = s.held.2.2.2 := by
  unfold State.setSector
  repeat' (first | simp only [held_mk, heldN_fold] | split | with_reducible refine (foldl_heldN _ _ _ (fun u _ => ?_)).trans ?_)
  all_goals grind only [held_mk]

theorem State.retireSector_heldA (s : State) (sec : Nat) : (State.retireSector s sec).held.2.1 = s.held.2.1 := by
  unfold State.retireSector
  repeat' (first | simp only [held_mk, heldA_fold, implies_true, foldl_heldA, State.addSat_held, State.setFlag_held, State.cfsCnt_held,
                          State.event_held, State.cfsRequest_held, State.setArea_held,
                          State.setSector_heldA] | split | with_reducible refine (foldl_heldA _ _ _ (fun u _ => ?_)).trans ?_)
  all_goals grind only [held_mk, State.addSat_held, State.setFlag_held, State.cfsCnt_held, State.event_held, State.cfsRequest_held,
      State.retire_held, State.setArea_held, State.setSector_heldA]

theorem State.retireSector_heldK (s : State) (sec : Nat) : (State.retireSector s sec).held.2.2.1 = s.held.2.2.1 := by
  unfold State.retireSector
  repeat' (first | simp only [held_mk, heldK_fold, implies_true, foldl_heldK, State.addSat_held, State.setFlag_held, State.cfsCnt_held,
                          State.event_held, State.cfsRequest_held, State.setArea_held,
                          State.setSector_heldK] | split | with_reducible refine (foldl_heldK _ _ _ (fun u _ => ?_)).trans ?_)
  all_goals grind only [held_mk, State.addSat_held, State.setFlag_held, State.cfsCnt_held, State.event_held, State.cfsRequest_held,
      State.retire_held, State.setArea_held, State.setSector_heldK]

theorem State.retireSector_heldN (s : State) (sec : Nat) : (State.retireSector s sec).held.2.2.2 = s.held.2.2.2 := by
  unfold State.retireSector
  repeat' (first | simp only [held_mk, heldN_fold, implies_true, foldl_heldN, State.addSat_held, State.setFlag_held, State.cfsCnt_held,
                          State.event_held, State.cfsRequest_held, State.setArea_held,
                          State.setSector_heldN] | split | with_reducible refine (foldl_heldN _ _ _ (fun u _ => ?_)).trans ?_)
  all_goals grind only [held_mk, State.addSat_held, State.setFlag_held, State.cfsCnt_held, State.event_held, State.cfsRequest_held,
      State.retire_held, State.setArea_held, State.setSector_heldN]

theorem State.eraseComplete_heldA (s : State) (j : CfsJob) (sec : Nat) (pass blank : Bool)
    : (State.eraseComplete s j sec pass blank).held.2.1 = s.held.2.1 := by
  unfold State.eraseComplete
  repeat' (first | simp only [held_mk, heldA_fold, apply_ite State.held, apply_ite Prod.fst, apply_ite Prod.snd, ite_self, State.ecMax_held,
                          State.cfsCnt_held, State.setFlag_held, State.cfsErr_held, State.cfsPut_held, State.cfsStart_held, State.setArea_held,
                          State.cfsRequest_held, State.finishWaiting_held, State.setSector_heldA, State.retireSector_heldA,
                          State.keySetSettled_heldA] | split | with_reducible refine (foldl_heldA _ _ _ (fun u _ => ?_)).trans ?_)
  all_goals grind only [held_mk, State.ecMax_held, State.cfsCnt_held, State.setFlag_held, State.cfsErr_held, State.cfsPut_held, State.cfsStart_held,
      State.setArea_held, State.cfsRequest_held, State.finishWaiting_held, State.setSector_heldA, State.retireSector_heldA, State.keySetSettled_heldA]

theorem State.eraseComplete_heldK (s : State) (j : CfsJob) (sec : Nat) (pass blank : Bool)
    : (State.eraseComplete s j sec pass blank).held.2.2.1 = s.held.2.2.1 := by
  unfold State.eraseComplete
  repeat' (first | simp only [held_mk, heldK_fold, apply_ite State.held, apply_ite Prod.fst, apply_ite Prod.snd, ite_self, State.ecMax_held,
                          State.cfsCnt_held, State.setFlag_held, State.cfsErr_held, State.cfsPut_held, State.cfsStart_held, State.setArea_held,
                          State.cfsRequest_held, State.finishWaiting_held, State.setSector_heldK, State.retireSector_heldK,
                          State.keySetSettled_heldK] | split | with_reducible refine (foldl_heldK _ _ _ (fun u _ => ?_)).trans ?_)
  all_goals grind only [held_mk, State.ecMax_held, State.cfsCnt_held, State.setFlag_held, State.cfsErr_held, State.cfsPut_held, State.cfsStart_held,
      State.setArea_held, State.cfsRequest_held, State.finishWaiting_held, State.setSector_heldK, State.retireSector_heldK, State.keySetSettled_heldK]

theorem State.formatBegin_heldR (s : State) (cmd ses lbaf pi : Nat) (piFirst : Bool) (nsid : Nat) (ids : List Nat)
    : (State.formatBegin s cmd ses lbaf pi piFirst nsid ids).held.1 = s.held.1 := by
  unfold State.formatBegin
  repeat' (first | simp only [held_mk, heldR_fold, implies_true, foldl_heldR,
                          State.endNsIo_held] | split | with_reducible refine (foldl_heldR _ _ _ (fun u _ => ?_)).trans ?_)
  all_goals grind only [held_mk, State.endNsIo_held]

theorem State.formatBegin_heldA (s : State) (cmd ses lbaf pi : Nat) (piFirst : Bool) (nsid : Nat) (ids : List Nat)
    : (State.formatBegin s cmd ses lbaf pi piFirst nsid ids).held.2.1 = s.held.2.1 := by
  unfold State.formatBegin
  repeat' (first | simp only [held_mk, heldA_fold, implies_true, foldl_heldA,
                          State.endNsIo_held] | split | with_reducible refine (foldl_heldA _ _ _ (fun u _ => ?_)).trans ?_)
  all_goals grind only [held_mk, State.endNsIo_held]

theorem State.formatBegin_heldK (s : State) (cmd ses lbaf pi : Nat) (piFirst : Bool) (nsid : Nat) (ids : List Nat)
    : (State.formatBegin s cmd ses lbaf pi piFirst nsid ids).held.2.2.1 = s.held.2.2.1 := by
  unfold State.formatBegin
  repeat' (first | simp only [held_mk, heldK_fold, implies_true, foldl_heldK,
                          State.endNsIo_held] | split | with_reducible refine (foldl_heldK _ _ _ (fun u _ => ?_)).trans ?_)
  all_goals grind only [held_mk, State.endNsIo_held]

theorem State.lcErase_heldR (s : State) : (State.lcErase s).held.1 = s.held.1 := by
  unfold State.lcErase
  repeat' (first | simp only [held_mk, heldR_fold, apply_ite State.held, apply_ite Prod.fst, ite_self, State.dropNsSlots_held, State.clearAll_held,
                          State.cryptoStart_held, State.cryptoStep_heldR] | split | with_reducible refine (foldl_heldR _ _ _ (fun u _ => ?_)).trans ?_)
  all_goals grind only [held_mk, State.dropNsSlots_held, State.clearAll_held, State.cryptoStart_held, State.cryptoStep_heldR]

theorem State.lcErase_heldA (s : State) : (State.lcErase s).held.2.1 = s.held.2.1 := by
  unfold State.lcErase
  repeat' (first | simp only [held_mk, heldA_fold, apply_ite State.held, apply_ite Prod.fst, apply_ite Prod.snd, ite_self, State.dropNsSlots_held,
                          State.clearAll_held, State.cryptoStart_held,
                          State.cryptoStep_heldA] | split | with_reducible refine (foldl_heldA _ _ _ (fun u _ => ?_)).trans ?_)
  all_goals grind only [held_mk, State.dropNsSlots_held, State.clearAll_held, State.cryptoStart_held, State.cryptoStep_heldA]

theorem State.lcErase_heldN (s : State) : (State.lcErase s).held.2.2.2 = s.held.2.2.2 := by
  unfold State.lcErase
  repeat' (first | simp only [held_mk, heldN_fold, apply_ite State.held, apply_ite Prod.snd, ite_self, State.dropNsSlots_held, State.clearAll_held,
                          State.cryptoStart_held, State.cryptoStep_heldN] | split | with_reducible refine (foldl_heldN _ _ _ (fun u _ => ?_)).trans ?_)
  all_goals grind only [held_mk, State.dropNsSlots_held, State.clearAll_held, State.cryptoStart_held, State.cryptoStep_heldN]

theorem State.programComplete_heldN (s : State) (j : CfsJob) (erased : Bool) (pulses : Nat) (pass : Bool) (endRole : State → Nat → State)
    (he : ∀ t n, (endRole t n).held = t.held) : (s.programComplete j erased pulses pass endRole).held.2.2.2 = s.held.2.2.2 := by
  unfold State.programComplete
  simp only []
  split
  · simp only [State.cfsStart_held, State.cfsRefused_held, State.cfsFree_held, State.advanceJob_held, State.event_held, State.cfsCnt_held,
      State.cfsErr_held, State.setFlag_held]
  split
  · simp only [State.cfsStart_held, State.cfsFree_held, apply_ite State.held, apply_ite Prod.snd, State.retireSector_heldN, State.cfsPut_held,
      State.setSector_heldN, State.advanceJob_held, State.cfsCnt_held, State.cfsErr_held, State.setFlag_held, ite_self]
  split
  · simp only [State.cfsStart_held, State.cfsDone_heldN _ _ _ he, State.cfsFree_held, State.advanceJob_held, State.cfsCnt_held]
  · simp only [held_mk, heldN_fold, State.advanceJob_held, State.cfsCnt_held]

theorem State.roundClear_heldR (s : State) (fn : Nat) : (State.roundClear s fn).held.1 = s.held.1 := by
  unfold State.roundClear
  repeat' (first | simp only [held_mk, heldR_fold, implies_true, foldl_heldR, State.event_held,
                          State.cfsRequest_held] | split | with_reducible refine (foldl_heldR _ _ _ (fun u _ => ?_)).trans ?_)
  all_goals grind only [held_mk, State.event_held, State.cfsRequest_held]

theorem State.roundClear_heldK (s : State) (fn : Nat) : (State.roundClear s fn).held.2.2.1 = s.held.2.2.1 := by
  unfold State.roundClear
  repeat' (first | simp only [held_mk, heldK_fold, implies_true, foldl_heldK, State.event_held,
                          State.cfsRequest_held] | split | with_reducible refine (foldl_heldK _ _ _ (fun u _ => ?_)).trans ?_)
  all_goals grind only [held_mk, State.event_held, State.cfsRequest_held]

theorem State.roundClear_heldN (s : State) (fn : Nat) : (State.roundClear s fn).held.2.2.2 = s.held.2.2.2 := by
  unfold State.roundClear
  repeat' (first | simp only [held_mk, heldN_fold, implies_true, foldl_heldN, State.event_held,
                          State.cfsRequest_held] | split | with_reducible refine (foldl_heldN _ _ _ (fun u _ => ?_)).trans ?_)
  all_goals grind only [held_mk, State.event_held, State.cfsRequest_held]

theorem State.setVendor_heldR (s : State) (fid fn nsid cdw11 cdw12 cdw13 : Nat) : ∀ t,
    s.setVendor fid fn nsid cdw11 cdw12 cdw13 = .ok t → t.held.1 = s.held.1 := by
  intro t h
  unfold State.setVendor at h
  simp only [] at h
  repeat' split at h
  all_goals first | (cases h; done) | (injection h with h; subst h)
  all_goals simp only [State.protCheck_held, State.spread_held, State.armActivation_held, State.setFld_held, State.noteF_held, held_mk, heldR_fold]

theorem State.setVendor_heldA (s : State) (fid fn nsid cdw11 cdw12 cdw13 : Nat) : ∀ t,
    s.setVendor fid fn nsid cdw11 cdw12 cdw13 = .ok t → t.held.2.1 = s.held.2.1 := by
  intro t h
  unfold State.setVendor at h
  simp only [] at h
  repeat' split at h
  all_goals first | (cases h; done) | (injection h with h; subst h)
  all_goals simp only [State.protCheck_held, State.spread_held, State.armActivation_held, State.setFld_held, State.noteF_held, held_mk, heldA_fold]

theorem State.setVendor_heldK (s : State) (fid fn nsid cdw11 cdw12 cdw13 : Nat) : ∀ t,
    s.setVendor fid fn nsid cdw11 cdw12 cdw13 = .ok t → t.held.2.2.1 = s.held.2.2.1 := by
  intro t h
  unfold State.setVendor at h
  simp only [] at h
  repeat' split at h
  all_goals first | (cases h; done) | (injection h with h; subst h)
  all_goals simp only [State.protCheck_held, State.spread_held, State.armActivation_held, State.setFld_held, State.noteF_held, held_mk, heldK_fold]

theorem execCfsEraseComplete_heldA (pass blank : Bool) (s : State) : HoldsA s (execCfsEraseComplete pass blank s) := by
  unfold execCfsEraseComplete
  repeat' (first | simp only [HoldsA_next, HoldsA_fault, State.eraseComplete_heldA] | split | with_reducible refine (foldl_heldA _ _ _ (fun u _ => ?_)).trans ?_)
  all_goals grind only [held_mk, State.eraseComplete_heldA]

theorem execCfsEraseComplete_heldK (pass blank : Bool) (s : State) : HoldsK s (execCfsEraseComplete pass blank s) := by
  unfold execCfsEraseComplete
  repeat' (first | simp only [HoldsK_next, HoldsK_fault, State.eraseComplete_heldK] | split | with_reducible refine (foldl_heldK _ _ _ (fun u _ => ?_)).trans ?_)
  all_goals grind only [held_mk, State.eraseComplete_heldK]

theorem execCfsProgramComplete_heldN (erased : Bool) (pulses : Nat) (pass : Bool) (s : State) :
    HoldsN s (execCfsProgramComplete erased pulses pass s) := by
  unfold execCfsProgramComplete
  repeat' split
  all_goals first
    | exact (HoldsN_fault _ _).2 trivial
    | exact (HoldsN_next _ _).2 (by rw [State.lcReset_held, State.programComplete_heldN _ _ _ _ _ _ State.endRole_held])

theorem execCleanStop_heldR (len : Nat) (s : State) : HoldsR s (execCleanStop len s) := by
  unfold execCleanStop
  refine guarded_holdsR _ _ _ _ (fun _ => ?_)
  have p (u : State) (l : List Nat) : (l.foldl (fun u n => u.padRow n) u).held = u.held := foldl_held _ _ _ (fun u n => State.padRow_held ..)
  have q (u : State) (l : List Nat) : (l.foldl (fun u n => u.startCkpt n len 32) u).held = u.held := foldl_held _ _ _ (fun u n => State.startCkpt_held ..)
  simp only [p, q, apply_ite State.held, State.closeGroup_held, State.openNew_held, State.lcErase_heldR, ite_self]

theorem execCleanStop_heldA (len : Nat) (s : State) : HoldsA s (execCleanStop len s) := by
  unfold execCleanStop
  refine guarded_holdsA _ _ _ _ (fun _ => ?_)
  have p (u : State) (l : List Nat) : (l.foldl (fun u n => u.padRow n) u).held = u.held := foldl_held _ _ _ (fun u n => State.padRow_held ..)
  have q (u : State) (l : List Nat) : (l.foldl (fun u n => u.startCkpt n len 32) u).held = u.held := foldl_held _ _ _ (fun u n => State.startCkpt_held ..)
  simp only [p, q, apply_ite State.held, State.closeGroup_held, State.openNew_held, State.lcErase_heldA, ite_self]

theorem execCleanStop_heldN (len : Nat) (s : State) : HoldsN s (execCleanStop len s) := by
  unfold execCleanStop
  refine guarded_holdsN _ _ _ _ (fun _ => ?_)
  have p (u : State) (l : List Nat) : (l.foldl (fun u n => u.padRow n) u).held = u.held := foldl_held _ _ _ (fun u n => State.padRow_held ..)
  have q (u : State) (l : List Nat) : (l.foldl (fun u n => u.startCkpt n len 32) u).held = u.held := foldl_held _ _ _ (fun u n => State.startCkpt_held ..)
  simp only [p, q, apply_ite State.held, State.closeGroup_held, State.openNew_held, State.lcErase_heldN, ite_self]

theorem execColdStart_heldR (f : StartFacts) (s : State) : HoldsR s (execColdStart f s) :=
  guarded_holdsR _ _ _ _ (fun _ => State.coldStart_heldR ..)

theorem execColdStart_heldN (f : StartFacts) (s : State) : HoldsN s (execColdStart f s) :=
  guarded_holdsN _ _ _ _ (fun _ => State.coldStart_heldN ..)

theorem execDumpEnd_heldR (quiet written : Nat) (rows : List (Nat × Nat)) (back : Bool) (s : State)
    : HoldsR s (execDumpEnd quiet written rows back s) := by
  unfold execDumpEnd
  refine guarded_holdsR _ _ _ _ (fun _ => ?_)
  simp only [apply_ite State.held, apply_ite Prod.fst, State.dumpReset_held, State.resetPort_held, held_mk, heldR_fold, State.dumpDone_heldR,
      ite_self]

theorem execDumpEnd_heldA (quiet written : Nat) (rows : List (Nat × Nat)) (back : Bool) (s : State)
    : HoldsA s (execDumpEnd quiet written rows back s) := by
  unfold execDumpEnd
  refine guarded_holdsA _ _ _ _ (fun _ => ?_)
  simp only [apply_ite State.held, apply_ite Prod.fst, apply_ite Prod.snd, State.dumpReset_held, State.resetPort_held, held_mk, heldA_fold,
      State.dumpDone_heldA, ite_self]

theorem execEventRoundClear_heldR (cmd arg : Nat) (s : State) : HoldsR s (execEventRoundClear cmd arg s) := by
  unfold execEventRoundClear
  repeat' (first | simp only [State.finish_held, State.noteGated_held, State.updCmd_held,
                          State.roundClear_heldR] | split | with_reducible refine onVendor_holdsR _ _ _ _ (fun u => ?_) | with_reducible refine (foldl_heldR _ _ _ (fun u _ => ?_)).trans ?_)
  all_goals grind only [held_mk, State.finish_held, State.noteGated_held, State.updCmd_held, State.roundClear_heldR]

theorem execEventRoundClear_heldK (cmd arg : Nat) (s : State) : HoldsK s (execEventRoundClear cmd arg s) := by
  unfold execEventRoundClear
  repeat' (first | simp only [State.finish_held, State.noteGated_held, State.updCmd_held,
                          State.roundClear_heldK] | split | with_reducible refine onVendor_holdsK _ _ _ _ (fun u => ?_) | with_reducible refine (foldl_heldK _ _ _ (fun u _ => ?_)).trans ?_)
  all_goals grind only [held_mk, State.finish_held, State.noteGated_held, State.updCmd_held, State.roundClear_heldK]

theorem execEventRoundClear_heldN (cmd arg : Nat) (s : State) : HoldsN s (execEventRoundClear cmd arg s) := by
  unfold execEventRoundClear
  repeat' (first | simp only [State.finish_held, State.noteGated_held, State.updCmd_held,
                          State.roundClear_heldN] | split | with_reducible refine onVendor_holdsN _ _ _ _ (fun u => ?_) | with_reducible refine (foldl_heldN _ _ _ (fun u _ => ?_)).trans ?_)
  all_goals grind only [held_mk, State.finish_held, State.noteGated_held, State.updCmd_held, State.roundClear_heldN]

theorem execFormatNvm_heldR (cmd ses lbaf pi : Nat) (piFirst : Bool) (s : State) : HoldsR s (execFormatNvm cmd ses lbaf pi piFirst s) := by
  unfold execFormatNvm
  refine onPf_holdsR _ _ _ (fun k => superGate_heldR _ _ _ ?_)
  simp only [apply_ite State.held, apply_ite Prod.fst, State.finish_held, State.formatStep_heldR, State.cryptoStep_heldR, State.updCmd_held,
      State.formatRun_held, State.formatBegin_heldR, ite_self]

theorem execFormatNvm_heldA (cmd ses lbaf pi : Nat) (piFirst : Bool) (s : State) : HoldsA s (execFormatNvm cmd ses lbaf pi piFirst s) := by
  unfold execFormatNvm
  refine onPf_holdsA _ _ _ (fun k => superGate_heldA _ _ _ ?_)
  simp only [apply_ite State.held, apply_ite Prod.fst, apply_ite Prod.snd, State.finish_held, State.formatStep_heldA, State.cryptoStep_heldA,
      State.updCmd_held, State.formatRun_held, State.formatBegin_heldA, ite_self]

theorem execGroupCommit_heldR (rowsA rowsB : Nat) (s : State) : HoldsR s (execGroupCommit rowsA rowsB s) := by
  unfold execGroupCommit
  split
  · exact guarded_holdsR _ _ _ _ (fun _ => State.commitGroup_heldR ..)
  · exact (HoldsR_fault _ _).2 trivial

theorem execGroupCommit_heldA (rowsA rowsB : Nat) (s : State) : HoldsA s (execGroupCommit rowsA rowsB s) := by
  unfold execGroupCommit
  split
  · exact guarded_holdsA _ _ _ _ (fun _ => State.commitGroup_heldA ..)
  · exact (HoldsA_fault _ _).2 trivial

theorem execNamespaceCreate_heldR (cmd nsze ncap lbaf pi : Nat) (piFirst : Bool) (handles : List Nat) (s : State)
    : HoldsR s (execNamespaceCreate cmd nsze ncap lbaf pi piFirst handles s) := by
  unfold execNamespaceCreate
  repeat' (first | simp only [held_mk, heldR_fold, State.finish_held, State.cfsRequest_held, State.mapCnt_held, State.updCmd_held,
                          State.newSeed_heldR] | split | with_reducible refine onPf_holdsR _ _ _ (fun u => ?_) | with_reducible refine (foldl_heldR _ _ _ (fun u _ => ?_)).trans ?_)
  all_goals grind only [held_mk, State.finish_held, State.compress_held, State.cfsRequest_held, State.mapCnt_held, State.updCmd_held,
      State.newSeed_heldR]

theorem execNamespaceCreate_heldA (cmd nsze ncap lbaf pi : Nat) (piFirst : Bool) (handles : List Nat) (s : State)
    : HoldsA s (execNamespaceCreate cmd nsze ncap lbaf pi piFirst handles s) := by
  unfold execNamespaceCreate
  repeat' (first | simp only [held_mk, heldA_fold, State.finish_held, State.cfsRequest_held, State.mapCnt_held, State.updCmd_held,
                          State.newSeed_heldA] | split | with_reducible refine onPf_holdsA _ _ _ (fun u => ?_) | with_reducible refine (foldl_heldA _ _ _ (fun u _ => ?_)).trans ?_)
  all_goals grind only [held_mk, State.finish_held, State.compress_held, State.cfsRequest_held, State.mapCnt_held, State.updCmd_held,
      State.newSeed_heldA]

theorem execNamespaceDelete_heldR (cmd : Nat) (s : State) : HoldsR s (execNamespaceDelete cmd s) := by
  unfold execNamespaceDelete
  repeat' (first | simp only [apply_ite State.held, apply_ite Prod.fst, ite_self, implies_true, foldl_heldR, State.finish_held,
                          State.cryptoStart_held, State.updCmd_held, State.deleteNs_heldR,
                          State.cryptoStep_heldR] | split | with_reducible refine onPf_holdsR _ _ _ (fun u => ?_) | with_reducible refine (foldl_heldR _ _ _ (fun u _ => ?_)).trans ?_)
  all_goals grind only [held_mk, State.finish_held, State.cryptoStart_held, State.updCmd_held, State.deleteNs_heldR, State.cryptoStep_heldR]

theorem execNamespaceDelete_heldA (cmd : Nat) (s : State) : HoldsA s (execNamespaceDelete cmd s) := by
  unfold execNamespaceDelete
  repeat' (first | simp only [apply_ite State.held, apply_ite Prod.fst, apply_ite Prod.snd, ite_self, implies_true, foldl_heldA, State.finish_held,
                          State.cryptoStart_held, State.updCmd_held, State.deleteNs_heldA,
                          State.cryptoStep_heldA] | split | with_reducible refine onPf_holdsA _ _ _ (fun u => ?_) | with_reducible refine (foldl_heldA _ _ _ (fun u _ => ?_)).trans ?_)
  all_goals grind only [held_mk, State.finish_held, State.cryptoStart_held, State.updCmd_held, State.deleteNs_heldA, State.cryptoStep_heldA]

theorem execSanitize_heldR (cmd action passes pattern : Nat) (invert noDealloc : Bool) (s : State) :
    HoldsR s (execSanitize cmd action passes pattern invert noDealloc s) := by
  unfold execSanitize
  refine onPf_holdsR _ _ _ (fun k => superGate_heldR _ _ _ ?_)
  repeat' split
  all_goals simp only [State.finish_held, State.cryptoStep_heldR, State.sanitizeErase_held, State.sanitizeBegin_held]

theorem execSanitize_heldA (cmd action passes pattern : Nat) (invert noDealloc : Bool) (s : State) :
    HoldsA s (execSanitize cmd action passes pattern invert noDealloc s) := by
  unfold execSanitize
  refine onPf_holdsA _ _ _ (fun k => superGate_heldA _ _ _ ?_)
  repeat' split
  all_goals simp only [State.finish_held, State.cryptoStep_heldA, State.sanitizeErase_held, State.sanitizeBegin_held]

theorem execSanitize_heldN (cmd action passes pattern : Nat) (invert noDealloc : Bool) (s : State) :
    HoldsN s (execSanitize cmd action passes pattern invert noDealloc s) := by
  unfold execSanitize
  refine onPf_holdsN _ _ _ (fun k => superGate_heldN _ _ _ ?_)
  repeat' split
  all_goals simp only [State.finish_held, State.cryptoStep_heldN, State.sanitizeErase_held, State.sanitizeBegin_held]

theorem execSetFeatures_heldR (cmd fid : Nat) (save : Bool) (cdw11 cdw12 cdw13 : Nat) (data : List Nat) (s : State)
    : HoldsR s (execSetFeatures cmd fid save cdw11 cdw12 cdw13 data s) := by
  unfold execSetFeatures
  repeat' (first | simp only [apply_ite State.held, apply_ite Prod.fst, ite_self, State.deny_held, State.finish_held, State.setStandard_held,
                          State.noteGated_held, State.updCmd_held,
                          State.cfsRequest_held] | split | with_reducible refine onAdmin_holdsR _ _ _ (fun u => ?_) | with_reducible refine (foldl_heldR _ _ _ (fun u _ => ?_)).trans ?_)
  all_goals grind only [held_mk, State.deny_held, State.finish_held, State.setStandard_held, State.noteGated_held, State.updCmd_held,
      State.cfsRequest_held, State.setVendor_heldR]

theorem execSetFeatures_heldA (cmd fid : Nat) (save : Bool) (cdw11 cdw12 cdw13 : Nat) (data : List Nat) (s : State)
    : HoldsA s (execSetFeatures cmd fid save cdw11 cdw12 cdw13 data s) := by
  unfold execSetFeatures
  repeat' (first | simp only [apply_ite State.held, apply_ite Prod.fst, apply_ite Prod.snd, ite_self, State.deny_held, State.finish_held,
                          State.setStandard_held, State.noteGated_held, State.updCmd_held,
                          State.cfsRequest_held] | split | with_reducible refine onAdmin_holdsA _ _ _ (fun u => ?_) | with_reducible refine (foldl_heldA _ _ _ (fun u _ => ?_)).trans ?_)
  all_goals grind only [held_mk, State.deny_held, State.finish_held, State.setStandard_held, State.noteGated_held, State.updCmd_held,
      State.cfsRequest_held, State.setVendor_heldA]

theorem execSetFeatures_heldK (cmd fid : Nat) (save : Bool) (cdw11 cdw12 cdw13 : Nat) (data : List Nat) (s : State)
    : HoldsK s (execSetFeatures cmd fid save cdw11 cdw12 cdw13 data s) := by
  unfold execSetFeatures
  repeat' (first | simp only [apply_ite State.held, apply_ite Prod.fst, apply_ite Prod.snd, ite_self, State.deny_held, State.finish_held,
                          State.setStandard_held, State.noteGated_held, State.updCmd_held,
                          State.cfsRequest_held] | split | with_reducible refine onAdmin_holdsK _ _ _ (fun u => ?_) | with_reducible refine (foldl_heldK _ _ _ (fun u _ => ?_)).trans ?_)
  all_goals grind only [held_mk, State.deny_held, State.finish_held, State.setStandard_held, State.noteGated_held, State.updCmd_held,
      State.cfsRequest_held, State.setVendor_heldK]

end Sys2Proof.Machine
end

