-- ==== Sys2Proof/Laws/KeptBase.lean ====
section
/-! SUPPORT. What every command leaves alone (R447, R469): the queue, the maker key and the cast-on area. Here the fields, the shared operations, the
gauges, the recorder, the configuration store and the roles. A lemma named f_kept says that f leaves all three as they are; Grew is the one other
thing that can happen, the record of the next SEQ entering a cast-on area with room. -/

namespace Sys2Proof.Machine

set_option linter.unusedTactic false
set_option linter.unreachableTactic false
set_option linter.unusedSimpArgs false

/-- The queue, the maker key and the cast-on area. -/
def State.kept (s : State) : List Instr × Option Nat × List EventRec := (s.pending, s.keys.makerKey, s.areas.cast)

theorem kept_fold (s : State) : (s.pending, s.keys.makerKey, s.areas.cast) = s.kept := by cases s; rfl

theorem foldl_kept {α : Type} (g : State → α → State) (l : List α) (s : State) (h : ∀ u x, (g u x).kept = u.kept) : (l.foldl g s).kept = s.kept := by
  induction l generalizing s with
  | nil => rfl
  | cons a l ih => exact (ih (g s a)).trans (h s a)

/-- An outcome that leaves all three as they are: a fault, a refusal, or a next state with them unchanged. -/
def Keeps (s : State) (o : Host.Outcome State Fault Refusal) : Prop := ∀ t, o = .next t → t.kept = s.kept

theorem kept_mk (pending_ : List Instr) (clk_ : Clock) (timers_ : List Timer) (regs_ : List (Nat × Word)) (latches_ : List (Nat × Nat))
    (stamps_ : List (Nat × Nat)) (pace_ : Pace) (stg_ : Staging) (areas_ : EventAreas) (bank0_ : EvwBank) (bank1_ : EvwBank) (cfs_ : CfsCtl)
    (sectors_ : List (Nat × Sector)) (areaTab_ : List (Nat × AreaState)) (reserve_ : List Nat) (records_ : List (Nat × CfsRecord))
    (keys_ : KeySet) (savedRegs_ : List (Nat × Word)) (sec_ : Sec) (hif_ : Hif) (fns_ : List (Nat × Func)) (q_ : Qen) (tx_ : List Tx)
    (nss_ : List (Nat × Ns)) (adm_ : Admin) (free_ : Nat) (map_ : MapSt) (lif_ : Lif) (dump_ : Dump) (buf_ : Buf) (crs_ : Crs) (fl_ : Fl)
    (rd_ : Rd) (hbm_ : Hbm) (sup_ : Sup) (pwr_ : Pwr) (str_ : Strand) (fwu_ : Fwu) (pins_ : Pins) : State.kept ⟨pending_, clk_, timers_, regs_,
    latches_, stamps_, pace_, stg_, areas_, bank0_, bank1_, cfs_, sectors_, areaTab_, reserve_, records_, keys_, savedRegs_, sec_, hif_, fns_, q_,
    tx_, nss_, adm_, free_, map_, lif_, dump_, buf_, crs_, fl_, rd_, hbm_, sup_, pwr_, str_, fwu_, pins_⟩ = (pending_, keys_.makerKey,
    areas_.cast) := by unfold State.kept; exact id rfl

theorem Keeps_next (s u : State) : Keeps s (.next u) ↔ u.kept = s.kept := by constructor <;> intro h; exact h u rfl; intro t e; cases e; exact h

theorem Keeps_fault (s : State) (f : Fault) : Keeps s (.fault f) ↔ True := ⟨fun _ => trivial, fun _ _ e => by cases e⟩

theorem Keeps_refused (s : State) (f : Refusal) : Keeps s (.refused f) ↔ True := ⟨fun _ => trivial, fun _ _ e => by cases e⟩

theorem kept_via {t e : State} {c : List Instr × Option Nat × List EventRec} (h1 : t.kept = c) (h2 : t.kept = c → e.kept = c) : e.kept = c := h2 h1

theorem keeps_via {t s : State} {o : Host.Outcome State Fault Refusal} (h1 : t.kept = s.kept) (h2 : t.kept = s.kept → Keeps s o) : Keeps s o := h2 h1

/-- What a command may do to the queue, the maker key and the cast-on area: nothing,
    or the record of the next SEQ enters the area while it has room. -/
inductive Grew : State → State → Prop
  | kept {s t : State} : t.kept = s.kept → Grew s t
  | add {s t : State} (r : EventRec) : s.areas.cast.length < 16384 → r.seq = s.areas.cast.length + 1 →
      t.kept = (s.pending, s.keys.makerKey, s.areas.cast ++ [r]) → Grew s t
  | trans {s t u : State} : Grew s t → Grew t u → Grew s u

theorem Grew.then {s t u : State} (h : Grew s t) (e : u.kept = t.kept) : Grew s u := h.trans (.kept e)

theorem Grew.after {s t u : State} (h : Grew t u) (e : t.kept = s.kept) : Grew s u := (Grew.kept e).trans h

theorem Grew.foldl {α : Type} (g : State → α → State) (l : List α) (s : State) (h : ∀ u x, Grew u (g u x)) : Grew s (l.foldl g s) := by
  induction l generalizing s with
  | nil => exact .kept rfl
  | cons a l ih => exact (h s a).trans (ih _)

theorem foldl_kept_fst {α β : Type} (g : State × β → α → State × β) (l : List α) (a : State × β) (h : ∀ u x, (g u x).1.kept = u.1.kept) :
    (l.foldl g a).1.kept = a.1.kept := by
  induction l generalizing a with
  | nil => rfl
  | cons x l ih => exact (ih _).trans (h a x)

theorem foldl_kept_snd {α β : Type} (g : β × State → α → β × State) (l : List α) (a : β × State) (h : ∀ u x, (g u x).2.kept = u.2.kept) :
    (l.foldl g a).2.kept = a.2.kept := by
  induction l generalizing a with
  | nil => rfl
  | cons x l ih => exact (ih _).trans (h a x)

theorem getD_kept (o : Option State) (s : State) (h : ∀ t, o = some t → t.kept = s.kept) : (o.getD s).kept = s.kept := by
  cases o with
  | none => rfl
  | some t => exact h t rfl

theorem ite_some_kept {c : Prop} [Decidable c] {a t s : State} {rest : Option State} (ha : a.kept = s.kept)
    (hr : rest = some t → t.kept = s.kept) : (if c then some a else rest) = some t → t.kept = s.kept := by
  split
  · intro h; cases h; exact ha
  · exact hr

/-- What the two cases of Grew say of the queue and the maker key. -/
theorem Grew.same {s t : State} (h : Grew s t) : t.pending = s.pending ∧ t.keys.makerKey = s.keys.makerKey := by
  induction h with
  | kept e => exact ⟨congrArg Prod.fst e, congrArg (fun x => x.2.1) e⟩
  | add r _ _ e => exact ⟨congrArg Prod.fst e, congrArg (fun x => x.2.1) e⟩
  | trans _ _ a b => exact ⟨b.1.trans a.1, b.2.trans a.2⟩

/-- What they say of the cast-on area: records are only added behind those it holds. -/
theorem Grew.prefixed {s t : State} (h : Grew s t) : s.areas.cast <+: t.areas.cast := by
  induction h with
  | @kept s t e =>
    have h : t.areas.cast = s.areas.cast := congrArg (fun x => x.2.2) e
    exact h ▸ List.prefix_refl _
  | @add s t r _ _ e =>
    have h : t.areas.cast = s.areas.cast ++ [r] := congrArg (fun x => x.2.2) e
    exact h ▸ List.prefix_append ..
  | trans _ _ a b => exact a.trans b

theorem State.setWord_kept (s : State) (off : Nat) (w : Word) : (State.setWord s off w).kept = s.kept := by
  simp only [State.setWord, kept_mk, kept_fold]

theorem State.setFld_kept (s : State) (f : Fld) (v : Nat) : (State.setFld s f v).kept = s.kept := by
  simp only [State.setFld, State.setWord_kept]

theorem State.setFlag_kept (s : State) (f : Fld) : (State.setFlag s f).kept = s.kept := by
  simp only [State.setFlag, State.setFld_kept]

theorem State.clrFlag_kept (s : State) (f : Fld) : (State.clrFlag s f).kept = s.kept := by
  simp only [State.clrFlag, State.setFld_kept]

theorem State.putFlag_kept (s : State) (f : Fld) (b : Bool) : (State.putFlag s f b).kept = s.kept := by
  simp only [State.putFlag, State.setFld_kept]

theorem State.addSat_kept (s : State) (f : Fld) (n : Nat) : (State.addSat s f n).kept = s.kept := by
  simp only [State.addSat, State.setFld_kept]

theorem State.addWrap_kept (s : State) (f : Fld) (n : Nat) : (State.addWrap s f n).kept = s.kept := by
  simp only [State.addWrap, State.setFld_kept]

theorem State.putSat_kept (s : State) (f : Fld) (n : Nat) : (State.putSat s f n).kept = s.kept := by
  simp only [State.putSat, State.setFld_kept]

theorem State.clearWords_kept (s : State) (offs : List Nat) : (State.clearWords s offs).kept = s.kept := by
  simp only [State.clearWords, implies_true, foldl_kept, State.setWord_kept]

theorem guarded_kept (b : Bool) (f : Fault) (s t : State) : Keeps s (guarded b f t) ↔ (b = true → t.kept = s.kept) := by
  unfold guarded; split <;> simp_all [Keeps_next, Keeps_fault]

theorem withSome_keeps {α : Type} (o : Option α) (k : α → State) (s : State) (h : ∀ a, (k a).kept = s.kept) : Keeps s (withSome o k) := by
  unfold withSome; split
  · exact (Keeps_next _ _).2 (h _)
  · exact (Keeps_fault _ _).2 trivial

theorem State.advanceTo_kept (s : State) (m : Nat) : (State.advanceTo s m).kept = s.kept := by
  simp only [State.advanceTo, kept_mk, kept_fold, apply_ite State.kept, ite_self]

theorem State.cancel_kept (s : State) (id : TimerId) : (State.cancel s id).kept = s.kept := by
  simp only [State.cancel, kept_mk, kept_fold]

theorem State.arm_kept (s : State) (id : TimerId) (ns : Nat) : (State.arm s id ns).kept = s.kept := by
  simp only [State.arm, kept_mk, kept_fold]

theorem State.armOnce_kept (s : State) (id : TimerId) (ns : Nat) : (State.armOnce s id ns).kept = s.kept := by
  simp only [State.armOnce, apply_ite State.kept, ite_self, State.arm_kept]

theorem State.expire_kept (s : State) (id : TimerId) : (State.expire s id).kept = s.kept := by
  simp only [State.expire, State.cancel_kept, State.advanceTo_kept]

theorem onTimer_keeps (s : State) (id : TimerId) (k : State → State) (h : ∀ u, (k u).kept = u.kept) : Keeps s (onTimer s id k) := by
  unfold onTimer; split
  · exact (Keeps_next _ _).2 ((h _).trans (State.expire_kept s id))
  · exact (Keeps_next _ _).2 rfl

theorem State.stamp_kept (s : State) (off : Nat) : (State.stamp s off).kept = s.kept := by
  simp only [State.stamp, kept_mk, kept_fold]

theorem State.shiftLog_kept (s : State) (reg : Nat → Nat) (n : Nat) : (State.shiftLog s reg n).kept = s.kept := by
  unfold State.shiftLog
  repeat' (first | (extract_lets +onlyGivenNames t; first | (refine kept_via (t := t) ?_ (fun ht => ?_); rotate_left; clear_value t; rotate_left; simp only [t]) | clear_value t) | simp only [kept_mk, kept_fold, State.setWord_kept, *] | split | with_reducible refine (foldl_kept _ _ _ (fun u _ => ?_)).trans ?_)
  all_goals grind only [kept_mk, kept_fold, State.setWord_kept]

theorem State.draw_kept (s : State) : (State.draw s).2.kept = s.kept := by
  unfold State.draw
  repeat' (first | simp only [kept_mk, kept_fold] | split)

theorem State.send_kept (s : State) (m : Tx) : (State.send s m).kept = s.kept := by
  simp only [State.send, kept_mk, kept_fold]

theorem State.sendAll_kept (s : State) (ms : List Tx) : (State.sendAll s ms).kept = s.kept := by
  simp only [State.sendAll, implies_true, foldl_kept, State.send_kept]

theorem State.cfsPut_kept (s : State) (j : CfsJob) : (State.cfsPut s j).kept = s.kept := by
  simp only [State.cfsPut, kept_mk, kept_fold]

theorem State.cfsStart_kept (s : State) : (State.cfsStart s).kept = s.kept := by
  unfold State.cfsStart
  repeat' (first | simp only [kept_mk, kept_fold] | split)

theorem State.cfsRequest_kept (s : State) (rank : Nat) (w : CfsWork) (words : Nat) : (State.cfsRequest s rank w words).kept = s.kept := by
  simp only [State.cfsRequest, kept_mk, kept_fold, apply_ite State.kept, ite_self, State.cfsPut_kept, State.cfsStart_kept]

theorem State.cfsRelease_kept (s : State) : (State.cfsRelease s).kept = s.kept := by
  simp only [State.cfsRelease, kept_mk, kept_fold, implies_true, foldl_kept, State.cfsPut_kept, State.cfsStart_kept]

theorem State.persistStaged_kept (s : State) (rank : Nat) : (State.persistStaged s rank).kept = s.kept := by
  simp only [State.persistStaged, apply_ite State.kept, ite_self, implies_true, foldl_kept, State.cfsRequest_kept]

theorem State.stageRec_kept (s : State) (code src lvl p0 p1 p2 p3 : Nat) : (State.stageRec s code src lvl p0 p1 p2 p3).kept = s.kept := by
  simp only [State.stageRec, kept_mk, kept_fold, apply_ite State.kept, ite_self, State.armOnce_kept, State.persistStaged_kept]

theorem State.refuseRec_kept (s : State) : (State.refuseRec s).kept = s.kept := by
  simp only [State.refuseRec, kept_mk, kept_fold]

theorem State.stageEvent_kept (s : State) (code src lvl p0 p1 p2 p3 : Nat) : (State.stageEvent s code src lvl p0 p1 p2 p3).kept = s.kept := by
  simp only [State.stageEvent, apply_ite State.kept, ite_self, State.refuseRec_kept, State.stageRec_kept]

theorem State.event_kept (s : State) (code : Nat) (p0 p1 p2 p3 : Nat) : (State.event s code p0 p1 p2 p3).kept = s.kept := by
  simp only [State.event, State.stageEvent_kept]

theorem State.eventFrom_kept (s : State) (code k : Nat) (p0 p1 p2 p3 : Nat) : (State.eventFrom s code k p0 p1 p2 p3).kept = s.kept := by
  simp only [State.eventFrom, State.stageEvent_kept]

theorem State.setFunc_kept (s : State) (i : Nat) (f : Func) : (State.setFunc s i f).kept = s.kept := by
  simp only [State.setFunc, kept_mk, kept_fold]

theorem State.updFunc_kept (s : State) (i : Nat) (g : Func → Func) : (State.updFunc s i g).kept = s.kept := by
  simp only [State.updFunc, State.setFunc_kept]

theorem State.setPort_kept (s : State) (p : Nat) (x : Port) : (State.setPort s p x).kept = s.kept := by
  simp only [State.setPort, kept_mk, kept_fold, apply_ite State.kept, ite_self]

theorem State.hifCnt_kept (s : State) (p n : Nat) : (State.hifCnt s p n).kept = s.kept := by
  simp only [State.hifCnt, State.addSat_kept]

theorem State.linkUse_kept (s : State) (p : Nat) : (State.linkUse s p).kept = s.kept := by
  simp only [State.linkUse, apply_ite State.kept, ite_self, State.setPort_kept, State.arm_kept]

theorem State.tlpIn_kept (s : State) (p : Nat) : (State.tlpIn s p).kept = s.kept := by
  simp only [State.tlpIn, State.hifCnt_kept, State.linkUse_kept]

theorem State.qenCnt_kept (s : State) (n : Nat) (k : Nat) : (State.qenCnt s n k).kept = s.kept := by
  simp only [State.qenCnt, State.addSat_kept]

theorem State.aer_kept (s : State) (p : Nat) (e : LinkError) : (State.aer s p e).kept = s.kept := by
  simp only [State.aer, kept_mk, kept_fold, apply_ite State.kept, ite_self]

theorem State.raise_kept (s : State) (i vec : Nat) : (State.raise s i vec).kept = s.kept := by
  simp only [State.raise, apply_ite State.kept, ite_self, State.setFunc_kept, State.send_kept, State.qenCnt_kept]

theorem State.updCmd_kept (s : State) (c : Nat) (g : Cmd → Cmd) : (State.updCmd s c g).kept = s.kept := by
  simp only [State.updCmd, kept_mk, kept_fold]

theorem State.unlock_kept (s : State) (c : Nat) : (State.unlock s c).kept = s.kept := by
  simp only [State.unlock, kept_mk, kept_fold]

theorem State.dropStitches_kept (s : State) (c : Nat) : (State.dropStitches s c).kept = s.kept := by
  simp only [State.dropStitches, kept_mk, kept_fold, implies_true, foldl_kept, State.cancel_kept]

theorem State.finish_kept (s : State) (c : Nat) (st : Status) (dw0 : Nat) : (State.finish s c st dw0).kept = s.kept := by
  unfold State.finish
  repeat' (first | simp only [kept_mk, kept_fold, apply_ite State.kept, ite_self, State.dropStitches_kept, State.updCmd_kept] | split)

theorem State.fail_kept (s : State) (c : Nat) (st : Status) : (State.fail s c st).kept = s.kept := by
  simp only [State.fail, State.unlock_kept, State.finish_kept]

theorem onAdmin_keeps (s : State) (c : Nat) (k : Cmd → State) (h : ∀ x, (k x).kept = s.kept) : Keeps s (onAdmin s c k) := by
  refine withSome_keeps _ _ _ (fun x => ?_); split
  · exact State.finish_kept ..
  · exact h x

theorem onIo_keeps (s : State) (c op : Nat) (k : Cmd → State) (h : ∀ x, (k x).kept = s.kept) : Keeps s (onIo s c op k) := by
  refine withSome_keeps _ _ _ (fun x => ?_); repeat' split
  · exact State.fail_kept ..
  · exact State.fail_kept ..
  · exact h x

theorem onNs_keeps (s : State) (c op : Nat) (k : Cmd → Ns → State) (h : ∀ x n, (k x n).kept = s.kept) : Keeps s (onNs s c op k) := by
  refine onIo_keeps _ _ _ _ (fun x => ?_); repeat' split
  · exact h x _
  · exact State.fail_kept ..
  · exact State.fail_kept ..

theorem State.asyncEvent_kept (s : State) (i type info page : Nat) : (State.asyncEvent s i type info page).kept = s.kept := by
  unfold State.asyncEvent
  repeat' (first | simp only [apply_ite State.kept, State.setFunc_kept, State.finish_kept] | split)

theorem State.asyncAll_kept (s : State) (bit type info page : Nat) : (State.asyncAll s bit type info page).kept = s.kept := by
  simp only [State.asyncAll, apply_ite State.kept, ite_self, implies_true, foldl_kept, State.asyncEvent_kept]

theorem State.asyncVendor_kept (s : State) (page : Nat) : (State.asyncVendor s page).kept = s.kept := by
  simp only [State.asyncVendor, apply_ite State.kept, ite_self, implies_true, foldl_kept, State.asyncEvent_kept]

theorem State.noteC0_kept (s : State) : (State.noteC0 s).kept = s.kept := by
  simp only [State.noteC0, kept_mk, kept_fold, apply_ite State.kept, ite_self, State.asyncVendor_kept]

theorem State.egWarn_kept (s : State) (bit : Nat) : (State.egWarn s bit).kept = s.kept := by
  simp only [State.egWarn, kept_mk, kept_fold, apply_ite State.kept, ite_self, implies_true, foldl_kept, State.asyncEvent_kept]

theorem State.critWarn_kept (s : State) (bit : Nat) : (State.critWarn s bit).kept = s.kept := by
  simp only [State.critWarn, kept_mk, kept_fold, apply_ite State.kept, ite_self, State.asyncAll_kept, State.egWarn_kept]

theorem State.fdpEvent_kept (s : State) (type handle : Nat) : (State.fdpEvent s type handle).kept = s.kept := by
  simp only [State.fdpEvent, kept_mk, kept_fold, apply_ite State.kept, ite_self, implies_true, foldl_kept, State.draw_kept, State.asyncEvent_kept]

theorem State.critClear_kept (s : State) (bit : Nat) : (State.critClear s bit).kept = s.kept := by
  simp only [State.critClear, kept_mk, kept_fold, apply_ite State.kept, ite_self]

theorem State.superGate_kept (s : State) (c : Nat) (t : State) (h : t.kept = s.kept) : (State.superGate s c t).kept = s.kept := by
  unfold State.superGate; repeat' split
  · exact State.finish_kept ..
  · rfl
  · exact h

theorem State.setCfs_kept (s : State) (is : List Nat) : (State.setCfs s is).kept = s.kept := by
  simp only [State.setCfs, implies_true, foldl_kept, State.updFunc_kept]

theorem State.paceCheck_kept (s : State) (r p : Nat) : (State.paceCheck s r p).kept = s.kept := by
  simp only [State.paceCheck, apply_ite State.kept, ite_self, State.putFlag_kept, State.setFlag_kept, State.event_kept]

theorem State.gaugeRead_kept (s : State) (r p : Nat) : (State.gaugeRead s r p).kept = s.kept := by
  simp only [State.gaugeRead, kept_mk, kept_fold, apply_ite State.kept, ite_self, State.setFld_kept]

theorem execGaugeWindowEnd_kept (region cycles : Nat) (s : State) : Keeps s (execGaugeWindowEnd region cycles s) := by
  unfold execGaugeWindowEnd
  repeat' (first | simp only [implies_true, guarded_kept, State.gaugeRead_kept, State.paceCheck_kept] | split)

theorem State.paceMinClear_kept (s : State) : (State.paceMinClear s).kept = s.kept := by
  simp only [State.paceMinClear, implies_true, foldl_kept, State.setFld_kept]

theorem State.requestVolts_kept (s : State) (mv : Nat) : (State.requestVolts s mv).kept = s.kept := by
  simp only [State.requestVolts, apply_ite State.kept, ite_self, State.setFld_kept, State.send_kept]

theorem State.govern_kept (s : State) : (State.govern s).kept = s.kept := by
  unfold State.govern
  repeat' (first | (extract_lets +onlyGivenNames t; first | (refine kept_via (t := t) ?_ (fun ht => ?_); rotate_left; clear_value t; rotate_left; simp only [t]) | clear_value t) | simp only [kept_mk, kept_fold, apply_ite State.kept, ite_self, State.requestVolts_kept, State.setFld_kept, State.setFlag_kept, State.send_kept, *] | split | with_reducible refine (foldl_kept _ _ _ (fun u _ => ?_)).trans ?_)
  all_goals grind only [kept_mk, kept_fold, State.requestVolts_kept, State.setFld_kept, State.setFlag_kept, State.send_kept]

theorem execGaugePeriodEnd_kept (vout iout : Nat) (s : State) : Keeps s (execGaugePeriodEnd vout iout s) := by
  unfold execGaugePeriodEnd
  repeat' (first | (extract_lets +onlyGivenNames t; first | (refine keeps_via (t := t) ?_ (fun ht => ?_); rotate_left; clear_value t; rotate_left; simp only [t]) | clear_value t) | simp only [kept_mk, kept_fold, apply_ite State.kept, ite_self, Keeps_next, State.addWrap_kept, State.setFld_kept, State.send_kept, State.armOnce_kept, State.cancel_kept, State.govern_kept, State.paceCheck_kept, *] | split | with_reducible refine (foldl_kept _ _ _ (fun u _ => ?_)).trans ?_)
  all_goals grind only [kept_mk, kept_fold, State.addWrap_kept, State.setFld_kept, State.send_kept, State.armOnce_kept, State.cancel_kept,
      State.govern_kept, State.paceCheck_kept]

theorem execPmbusTransactionDone_kept (ok : Bool) (code data : Nat) (s : State) : Keeps s (execPmbusTransactionDone ok code data s) := by
  unfold execPmbusTransactionDone
  repeat' (first | (extract_lets +onlyGivenNames t; first | (refine keeps_via (t := t) ?_ (fun ht => ?_); rotate_left; clear_value t; rotate_left; simp only [t]) | clear_value t) | simp only [kept_mk, kept_fold, apply_ite State.kept, ite_self, Keeps_next, State.clrFlag_kept, State.setFlag_kept, State.event_kept, *] | split | with_reducible refine (foldl_kept _ _ _ (fun u _ => ?_)).trans ?_)
  all_goals grind only [kept_mk, kept_fold, State.clrFlag_kept, State.setFlag_kept, State.event_kept]

theorem execVoutDeviationTimeout_kept (s : State) : Keeps s (execVoutDeviationTimeout s) := by
  unfold execVoutDeviationTimeout
  repeat' (first | simp only [State.setFlag_kept, State.event_kept] | split | with_reducible refine onTimer_keeps _ _ _ (fun u => ?_) | with_reducible refine (foldl_kept _ _ _ (fun u _ => ?_)).trans ?_)

theorem execVrAlert_kept (status : Nat) (s : State) : Keeps s (execVrAlert status s) := by
  unfold execVrAlert
  repeat' (first | simp only [Keeps_next, State.setFlag_kept, State.send_kept, State.event_kept] | split)

theorem execDieTjPast105_kept (die : Nat) (above : Bool) (s : State) : Keeps s (execDieTjPast105 die above s) := by
  unfold execDieTjPast105
  repeat' (first | simp only [kept_mk, kept_fold, implies_true, guarded_kept] | split)

theorem State.setPs_kept (s : State) (n : Nat) : (State.setPs s n).kept = s.kept := by
  simp only [State.setPs, kept_mk, kept_fold, apply_ite State.kept, ite_self, State.setFld_kept, State.addWrap_kept, State.clrFlag_kept,
      State.arm_kept, State.cancel_kept]

theorem State.applyPs_kept (s : State) : (State.applyPs s).kept = s.kept := by
  simp only [State.applyPs, apply_ite State.kept, ite_self, State.setPs_kept]

theorem State.setTime_kept (s : State) (new : Nat) : (State.setTime s new).kept = s.kept := by
  simp only [State.setTime, kept_mk, kept_fold, apply_ite State.kept, ite_self, State.setFlag_kept]

theorem State.noteSectionTime_kept (s : State) : (State.noteSectionTime s).kept = s.kept := by
  simp only [State.noteSectionTime, State.putFlag_kept]

theorem execReftLost_kept (s : State) : Keeps s (execReftLost s) := by
  unfold execReftLost
  repeat' (first | simp only [apply_ite State.kept, ite_self, Keeps_next, State.setFlag_kept, State.event_kept] | split)

theorem execReftRegained_kept (s : State) : Keeps s (execReftRegained s) := by
  unfold execReftRegained
  repeat' (first | simp only [apply_ite State.kept, ite_self, Keeps_next, State.clrFlag_kept, State.noteSectionTime_kept, State.event_kept] | split)

theorem execDeviceTimeSlewDone_kept (s : State) : Keeps s (execDeviceTimeSlewDone s) := by
  unfold execDeviceTimeSlewDone
  repeat' (first | (extract_lets +onlyGivenNames t; first | (refine keeps_via (t := t) ?_ (fun ht => ?_); rotate_left; clear_value t; rotate_left; simp only [t]) | clear_value t) | simp only [kept_mk, kept_fold, Keeps_next, State.advanceTo_kept, *] | split | with_reducible refine (foldl_kept _ _ _ (fun u _ => ?_)).trans ?_)
  all_goals grind only [kept_mk, kept_fold, State.advanceTo_kept]

theorem State.setBank_kept (s : State) (pf : Nat) (b : EvwBank) : (State.setBank s pf b).kept = s.kept := by
  simp only [State.setBank, kept_mk, kept_fold, apply_ite State.kept, ite_self]

theorem State.resetBank_kept (s : State) (pf : Nat) : (State.resetBank s pf).kept = s.kept := by
  simp only [State.resetBank, State.setBank_kept]

theorem State.catchUp_kept (s : State) (pf : Nat) : (State.catchUp s pf).kept = s.kept := by
  simp only [State.catchUp, apply_ite State.kept, ite_self, State.setBank_kept]

theorem State.evwRead0_kept (s : State) (pf : Nat) : (State.evwRead0 s pf).2.kept = s.kept := by
  unfold State.evwRead0
  repeat' (first | simp only [apply_ite State.kept, ite_self, State.catchUp_kept, State.setBank_kept] | split)

theorem State.evwRead7_kept (s : State) (pf : Nat) : (State.evwRead7 s pf).2.kept = s.kept := by
  unfold State.evwRead7
  repeat' (first | simp only [apply_ite State.kept, ite_self, State.setBank_kept] | split)

theorem State.evwCursor_kept (s : State) (pf seq : Nat) : (State.evwCursor s pf seq).kept = s.kept := by
  simp only [State.evwCursor, State.setBank_kept]

theorem State.evwSeekOld_kept (s : State) (pf : Nat) : (State.evwSeekOld s pf).kept = s.kept := by
  simp only [State.evwSeekOld, State.setBank_kept]

theorem State.evwSeekNew_kept (s : State) (pf : Nat) : (State.evwSeekNew s pf).kept = s.kept := by
  simp only [State.evwSeekNew, State.setBank_kept]

theorem State.roundAdd_kept (s : State) (r : EventRec) : (s.roundAdd r).kept = s.kept := by
  unfold State.roundAdd; simp only []; split <;> rfl

theorem State.castAdd_grew (s : State) (r : EventRec) : Grew s (s.castAdd r) := by
  unfold State.castAdd; split
  · next h => exact .add r h.1 h.2.2 rfl
  · exact .kept rfl

theorem State.reportDrops_kept (s : State) : s.reportDrops.kept = s.kept := by
  unfold State.reportDrops; split
  · exact State.event_kept ..
  · rfl

theorem State.persisted_grew (s : State) (seq : Nat) : Grew s (s.persisted seq) := by
  unfold State.persisted
  split
  · exact .kept rfl
  next r _ =>
    refine (State.castAdd_grew s r).then ?_
    simp only [State.reportDrops_kept, apply_ite State.kept, State.cancel_kept, State.arm_kept, kept_mk, kept_fold, State.roundAdd_kept, ite_self]

theorem execEventPersistTimer_kept (s : State) : Keeps s (execEventPersistTimer s) := by
  unfold execEventPersistTimer
  repeat' (first | simp only [State.persistStaged_kept] | split | with_reducible refine onTimer_keeps _ _ _ (fun u => ?_) | with_reducible refine (foldl_kept _ _ _ (fun u _ => ?_)).trans ?_)

theorem State.roundClear_kept (s : State) (fn : Nat) : (State.roundClear s fn).kept = s.kept := by
  simp only [State.roundClear, kept_mk, kept_fold, implies_true, foldl_kept, State.event_kept, State.cfsRequest_kept]

theorem State.cfsCnt_kept (s : State) (n : Nat) (k : Nat) : (State.cfsCnt s n k).kept = s.kept := by
  simp only [State.cfsCnt, State.addWrap_kept]

theorem State.cfsErr_kept (s : State) (kind word : Nat) : (State.cfsErr s kind word).kept = s.kept := by
  simp only [State.cfsErr, State.setFlag_kept, State.setFld_kept]

theorem State.setArea_kept (s : State) (a : Nat) (x : AreaState) : (State.setArea s a x).kept = s.kept := by
  simp only [State.setArea, kept_mk, kept_fold]

theorem State.setSector_kept (s : State) (n : Nat) (x : Sector) : (State.setSector s n x).kept = s.kept := by
  simp only [State.setSector, kept_mk, kept_fold]

theorem State.compact_kept (s : State) : (State.compact s).kept = s.kept := by
  unfold State.compact
  repeat' (first | (extract_lets +onlyGivenNames t; first | (refine kept_via (t := t) ?_ (fun ht => ?_); rotate_left; clear_value t; rotate_left; simp only [t]) | clear_value t) | simp only [apply_ite State.kept, ite_self, implies_true, foldl_kept, State.cfsPut_kept, State.setArea_kept, State.cfsCnt_kept, State.addSat_kept, State.cfsRequest_kept, *] | split | with_reducible refine (foldl_kept _ _ _ (fun u _ => ?_)).trans ?_)
  all_goals grind only [kept_mk, kept_fold, State.cfsPut_kept, State.setArea_kept, State.cfsCnt_kept, State.addSat_kept, State.cfsRequest_kept]

theorem State.advanceArea_kept (s : State) (a : Nat) : (State.advanceArea s a).kept = s.kept := by
  unfold State.advanceArea
  repeat' (first | simp only [apply_ite State.kept, State.setArea_kept, State.cfsRequest_kept, State.compact_kept] | split)

theorem State.retireSector_kept (s : State) (sec : Nat) : (State.retireSector s sec).kept = s.kept := by
  unfold State.retireSector
  repeat' (first | (extract_lets +onlyGivenNames t; first | (refine kept_via (t := t) ?_ (fun ht => ?_); rotate_left; clear_value t; rotate_left; simp only [t]) | clear_value t) | simp only [kept_mk, kept_fold, implies_true, foldl_kept, State.setSector_kept, State.addSat_kept, State.setFlag_kept, State.cfsCnt_kept, State.event_kept, State.cfsRequest_kept, State.setArea_kept, *] | split | with_reducible refine (foldl_kept _ _ _ (fun u _ => ?_)).trans ?_)
  all_goals grind only [kept_mk, kept_fold, State.setSector_kept, State.addSat_kept, State.setFlag_kept, State.cfsCnt_kept, State.event_kept,
      State.cfsRequest_kept, State.setArea_kept]

theorem State.saveSettings_kept (s : State) : (State.saveSettings s).kept = s.kept := by
  simp only [State.saveSettings, State.addSat_kept, State.cfsRequest_kept]

theorem State.finishWaiting_kept (s : State) (op : Nat) : (State.finishWaiting s op).kept = s.kept := by
  simp only [State.finishWaiting, implies_true, foldl_kept, State.finish_kept]

theorem State.formatEnd_kept (s : State) (ok : Bool) : (State.formatEnd s ok).kept = s.kept := by
  unfold State.formatEnd
  repeat' (first | (extract_lets +onlyGivenNames t; first | (refine kept_via (t := t) ?_ (fun ht => ?_); rotate_left; clear_value t; rotate_left; simp only [t]) | clear_value t) | simp only [kept_mk, kept_fold, apply_ite State.kept, ite_self, State.cfsRequest_kept, State.finish_kept, State.asyncVendor_kept, *] | split | with_reducible refine (foldl_kept _ _ _ (fun u _ => ?_)).trans ?_)
  all_goals grind only [kept_mk, kept_fold, State.cfsRequest_kept, State.finish_kept, State.asyncVendor_kept]

theorem State.lifeCycleDone_kept (s : State) : (State.lifeCycleDone s).kept = s.kept := by
  unfold State.lifeCycleDone
  repeat' (first | (extract_lets +onlyGivenNames t; first | (refine kept_via (t := t) ?_ (fun ht => ?_); rotate_left; clear_value t; rotate_left; simp only [t]) | clear_value t) | simp only [kept_mk, kept_fold, apply_ite State.kept, ite_self, State.setFld_kept, State.addWrap_kept, State.setFlag_kept, State.putSat_kept, State.clrFlag_kept, State.event_kept, State.persistStaged_kept, State.finish_kept, *] | split | with_reducible refine (foldl_kept _ _ _ (fun u _ => ?_)).trans ?_)
  all_goals grind only [kept_mk, kept_fold, State.setFld_kept, State.addWrap_kept, State.setFlag_kept, State.putSat_kept, State.clrFlag_kept,
      State.event_kept, State.persistStaged_kept, State.finish_kept]

theorem State.cryptoSettled_kept (s : State) (r : CryptoRun) : (s.cryptoSettled r).kept = s.kept := by
  have e (t : State) (h : t.kept = s.kept) : State.kept (if r.why = 1 then State.formatEnd t true
      else if r.why = 3 then { t with sec := { t.sec with lcRun := t.sec.lcRun.map (fun x => (x.1, x.2.1, x.2.2.1, x.2.2.2.1,
          4)) } } else t) = s.kept := by
    split
    · rw [State.formatEnd_kept, h]
    · split
      · exact h
      · exact h
  exact e (((s.setFld F.secCelastKind r.why).putSat F.secCelastMs ((s.clk.mono - r.start) / 1000000)).addWrap (F.secCntCount 19) 1)
      (by simp only [State.addWrap_kept, State.putSat_kept, State.setFld_kept])

theorem State.keySetSettled_kept (s : State) : (State.keySetSettled s).kept = s.kept := by
  simp only [State.keySetSettled, kept_mk, kept_fold, apply_ite State.kept, ite_self, implies_true, foldl_kept, State.cryptoSettled_kept,
      State.finishWaiting_kept, State.lifeCycleDone_kept]

theorem State.cfsRefused_kept (s : State) (j : CfsJob) : (State.cfsRefused s j).kept = s.kept := by
  unfold State.cfsRefused
  repeat' (first | simp only [kept_mk, kept_fold, State.clrFlag_kept, State.setFld_kept, State.cfsPut_kept] | split)

theorem State.advanceJob_kept (s : State) (j : CfsJob) : (State.advanceJob s j).kept = s.kept := by
  simp only [State.advanceJob, apply_ite State.kept, ite_self, State.advanceArea_kept]

theorem State.cfsFree_kept (s : State) : (State.cfsFree s).kept = s.kept := by
  simp only [State.cfsFree, kept_mk, kept_fold]

theorem State.ecMax_kept (s : State) (sec n : Nat) : (State.ecMax s sec n).kept = s.kept := by
  simp only [State.ecMax, apply_ite State.kept, ite_self, State.setFld_kept]

theorem State.eraseComplete_kept (s : State) (j : CfsJob) (sec : Nat) (pass blank : Bool)
    : (State.eraseComplete s j sec pass blank).kept = s.kept := by
  unfold State.eraseComplete
  repeat' (first | (extract_lets +onlyGivenNames t; first | (refine kept_via (t := t) ?_ (fun ht => ?_); rotate_left; clear_value t; rotate_left; simp only [t]) | clear_value t) | simp only [kept_mk, kept_fold, apply_ite State.kept, ite_self, State.setSector_kept, State.ecMax_kept, State.cfsCnt_kept, State.setFlag_kept, State.cfsErr_kept, State.retireSector_kept, State.cfsPut_kept, State.cfsStart_kept, State.setArea_kept, State.keySetSettled_kept, State.cfsRequest_kept, State.finishWaiting_kept, *] | split | with_reducible refine (foldl_kept _ _ _ (fun u _ => ?_)).trans ?_)
  all_goals grind only [kept_mk, kept_fold, State.setSector_kept, State.ecMax_kept, State.cfsCnt_kept, State.setFlag_kept, State.cfsErr_kept,
      State.retireSector_kept, State.cfsPut_kept, State.cfsStart_kept, State.setArea_kept, State.keySetSettled_kept, State.cfsRequest_kept,
      State.finishWaiting_kept]

theorem execCfsEraseComplete_kept (pass blank : Bool) (s : State) : Keeps s (execCfsEraseComplete pass blank s) := by
  unfold execCfsEraseComplete
  repeat' (first | simp only [Keeps_next, Keeps_fault, State.eraseComplete_kept] | split)

theorem State.cfsScrubPass_kept (s : State) (one two bad : List Nat) : (State.cfsScrubPass s one two bad).kept = s.kept := by
  simp only [State.cfsScrubPass, apply_ite State.kept, ite_self, implies_true, foldl_kept, State.cfsCnt_kept, State.setFlag_kept, State.cfsErr_kept,
      State.cfsRequest_kept, State.arm_kept]

theorem execCfsScrubPeriod_kept (one two bad : List Nat) (s : State) : Keeps s (execCfsScrubPeriod one two bad s) := by
  unfold execCfsScrubPeriod
  repeat' (first | simp only [State.cfsScrubPass_kept] | split | with_reducible refine onTimer_keeps _ _ _ (fun u => ?_) | with_reducible refine (foldl_kept _ _ _ (fun u _ => ?_)).trans ?_)

theorem State.dpSelect_kept (s : State) (v : Word) : (State.dpSelect s v).kept = s.kept := by
  simp only [State.dpSelect, kept_mk, kept_fold, State.setWord_kept]

theorem State.dpAdvance_kept (s : State) : (State.dpAdvance s).kept = s.kept := by
  simp only [State.dpAdvance, State.addWrap_kept]

theorem State.dpAccess_kept (s : State) (write : Bool) (v : Word) : (State.dpAccess s write v).2.kept = s.kept := by
  unfold State.dpAccess
  repeat' (first | simp only [kept_mk, kept_fold, State.dpAdvance_kept] | split)

theorem State.dpCommit_kept (s : State) : (State.dpCommit s).kept = s.kept := by
  simp only [State.dpCommit, apply_ite State.kept, ite_self, State.setFld_kept, State.setFlag_kept, State.cfsRequest_kept]

theorem State.dpDiscard_kept (s : State) : (State.dpDiscard s).kept = s.kept := by
  simp only [State.dpDiscard, kept_mk, kept_fold]

theorem execCalibrationRowRead_kept (cmd numd offset : Nat) (s : State) : Keeps s (execCalibrationRowRead cmd numd offset s) := by
  unfold execCalibrationRowRead
  repeat' (first | simp only [apply_ite State.kept, ite_self, State.finish_kept,
                          State.send_kept] | split | with_reducible refine onAdmin_keeps _ _ _ (fun u => ?_) | with_reducible refine (foldl_kept _ _ _ (fun u _ => ?_)).trans ?_)

theorem State.keyCommitted_kept (s : State) (endRole : State → Nat → State) (he : ∀ t n,
    (endRole t n).kept = t.kept) : (s.keyCommitted endRole).kept = s.kept := by
  unfold State.keyCommitted
  split
  · rfl
  · simp only [he, State.event_kept, State.addWrap_kept, State.setFlag_kept, State.clrFlag_kept, State.putFlag_kept, kept_mk]
    split <;> simp only [kept_fold]

theorem State.cfsDone_grew (s : State) (j : CfsJob) (endRole : State → Nat → State) (he : ∀ t n,
    (endRole t n).kept = t.kept) : Grew s (s.cfsDone j endRole) := by
  unfold State.cfsDone
  split
  · exact State.persisted_grew ..
  all_goals refine .kept ?_
  all_goals first | rfl | (simp only [kept_mk, kept_fold, State.setFld_kept, State.finish_kept, State.clrFlag_kept, State.cfsRequest_kept,
                          State.keyCommitted_kept _ _ he, State.setArea_kept, State.finishWaiting_kept, apply_ite State.kept, ite_self]; done) | skip
  split
  · split
    · simp only [kept_mk, kept_fold]
    · rfl
  · rfl

theorem State.programComplete_grew (s : State) (j : CfsJob) (erased : Bool) (pulses : Nat) (pass : Bool) (endRole : State → Nat → State)
    (he : ∀ t n, (endRole t n).kept = t.kept) : Grew s (s.programComplete j erased pulses pass endRole) := by
  unfold State.programComplete
  simp only []
  split
  · refine .kept ?_
    simp only [State.cfsStart_kept, State.cfsRefused_kept, State.cfsFree_kept, State.advanceJob_kept, State.event_kept, State.cfsCnt_kept,
        State.cfsErr_kept, State.setFlag_kept]
  split
  · refine .kept ?_
    simp only [State.cfsStart_kept, State.cfsFree_kept, apply_ite State.kept, State.retireSector_kept, State.cfsPut_kept, State.setSector_kept,
        State.advanceJob_kept, State.cfsCnt_kept, State.cfsErr_kept, State.setFlag_kept, ite_self]
  split
  · refine ((State.cfsDone_grew _ _ _ he).then (State.cfsStart_kept ..)).after ?_
    simp only [State.cfsFree_kept, State.advanceJob_kept, State.cfsCnt_kept]
  · refine .kept ?_
    simp only [kept_mk, kept_fold, State.advanceJob_kept, State.cfsCnt_kept]

theorem State.secCnt_kept (s : State) (n : Nat) : (State.secCnt s n).kept = s.kept := by
  simp only [State.secCnt, State.addWrap_kept]

theorem State.setSession_kept (s : State) (pf : Nat) (x : Option Session) : (State.setSession s pf x).kept = s.kept := by
  simp only [State.setSession, kept_mk, kept_fold, apply_ite State.kept, ite_self]

theorem State.endSession_kept (s : State) (pf reason : Nat) : (State.endSession s pf reason).kept = s.kept := by
  unfold State.endSession
  repeat' (first | simp only [State.setSession_kept, State.cancel_kept, State.event_kept, State.secCnt_kept] | split)

theorem State.endRole_kept (s : State) (role : Nat) : (State.endRole s role).kept = s.kept := by
  simp only [State.endRole, apply_ite State.kept, ite_self, implies_true, foldl_kept, State.endSession_kept]

theorem State.touch_kept (s : State) (pf : Nat) : (State.touch s pf).kept = s.kept := by
  unfold State.touch
  repeat' (first | simp only [State.setSession_kept, State.arm_kept] | split)

theorem execSessionIdleTimeout_kept (pf : Nat) (s : State) : Keeps s (execSessionIdleTimeout pf s) := by
  unfold execSessionIdleTimeout
  repeat' (first | simp only [State.endSession_kept] | split | with_reducible refine onTimer_keeps _ _ _ (fun u => ?_) | with_reducible refine (foldl_kept _ _ _ (fun u _ => ?_)).trans ?_)

theorem State.deny_kept (s : State) (src : Nat) (need : Role) (fn target : Nat) : (State.deny s src need fn target).kept = s.kept := by
  unfold State.deny
  repeat' (first | (extract_lets +onlyGivenNames t; first | (refine kept_via (t := t) ?_ (fun ht => ?_); rotate_left; clear_value t; rotate_left; simp only [t]) | clear_value t) | simp only [State.setFlag_kept, State.setFld_kept, State.event_kept, State.secCnt_kept, *] | split | with_reducible refine (foldl_kept _ _ _ (fun u _ => ?_)).trans ?_)
  all_goals grind only [kept_mk, kept_fold, State.setFlag_kept, State.setFld_kept, State.event_kept, State.secCnt_kept]

theorem onVendor_keeps (s : State) (cmd : Nat) (need : Role) (k : Cmd → State) (h : ∀ x, (k x).kept = s.kept) : Keeps s (onVendor s cmd need k) := by
  refine onAdmin_keeps _ _ _ (fun x => ?_); repeat' split
  · exact State.finish_kept ..
  · exact h x
  · exact (State.finish_kept ..).trans (State.deny_kept ..)

theorem State.gatedEvent_kept (s : State) (g : Nat × Nat × Nat × Nat × Nat) : (State.gatedEvent s g).kept = s.kept := by
  simp only [State.gatedEvent, State.event_kept]

theorem State.flushGated_kept (s : State) (all : Bool) : (State.flushGated s all).kept = s.kept := by
  simp only [State.flushGated, kept_mk, kept_fold, implies_true, foldl_kept, State.gatedEvent_kept]

theorem State.noteGated_kept (s : State) (target val fn : Nat) : (State.noteGated s target val fn).kept = s.kept := by
  simp only [State.noteGated, kept_mk, kept_fold, State.flushGated_kept, State.secCnt_kept]

theorem execRoleChallenge_kept (cmd role reserved : Nat) (s : State) : Keeps s (execRoleChallenge cmd role reserved s) := by
  unfold execRoleChallenge
  repeat' (first | (extract_lets +onlyGivenNames t; first | (refine keeps_via (t := t) ?_ (fun ht => ?_); rotate_left; clear_value t; rotate_left; simp only [t]) | clear_value t) | simp only [kept_mk, kept_fold, State.finish_kept, State.draw_kept, State.secCnt_kept, State.send_kept, *] | split | with_reducible refine onVendor_keeps _ _ _ _ (fun u => ?_) | with_reducible refine (foldl_kept _ _ _ (fun u _ => ?_)).trans ?_)
  all_goals grind only [kept_mk, kept_fold, State.finish_kept, State.draw_kept, State.secCnt_kept, State.send_kept]

theorem State.authFailed_kept (s : State) (fn why : Nat) : (State.authFailed s fn why).kept = s.kept := by
  simp only [State.authFailed, kept_mk, kept_fold, apply_ite State.kept, ite_self, State.setFlag_kept, State.addSat_kept, State.secCnt_kept]

theorem execRoleAssume_kept (cmd role number sigR sigS : Nat) (s : State) : Keeps s (execRoleAssume cmd role number sigR sigS s) := by
  unfold execRoleAssume
  repeat' (first | simp only [apply_ite State.kept, ite_self, State.finish_kept, State.event_kept, State.setSession_kept, State.arm_kept,
                          State.secCnt_kept, State.authFailed_kept] | split | with_reducible refine onVendor_keeps _ _ _ _ (fun u => ?_) | with_reducible refine (foldl_kept _ _ _ (fun u _ => ?_)).trans ?_)

theorem execRoleRelease_kept (cmd reserved : Nat) (s : State) : Keeps s (execRoleRelease cmd reserved s) := by
  unfold execRoleRelease
  repeat' (first | simp only [State.finish_kept, State.endSession_kept] | split | with_reducible refine onVendor_keeps _ _ _ _ (fun u => ?_) | with_reducible refine (foldl_kept _ _ _ (fun u _ => ?_)).trans ?_)

theorem State.keySelect_kept (s : State) (v : Word) : (State.keySelect s v).kept = s.kept := by
  simp only [State.keySelect, kept_mk, kept_fold, State.setWord_kept]

theorem State.keyAccess_kept (s : State) (write : Bool) (v : Word) : (State.keyAccess s write v).2.kept = s.kept := by
  unfold State.keyAccess
  repeat' (first | simp only [kept_mk, kept_fold, apply_ite State.kept, ite_self, State.addWrap_kept] | split)

theorem State.keyCommit_kept (s : State) (pf : Nat) : (State.keyCommit s pf).kept = s.kept := by
  simp only [State.keyCommit, kept_mk, kept_fold, apply_ite State.kept, ite_self, State.setFld_kept, State.secCnt_kept, State.setFlag_kept,
      State.cfsRequest_kept]

theorem State.keyDiscard_kept (s : State) : (State.keyDiscard s).kept = s.kept := by
  simp only [State.keyDiscard, kept_mk, kept_fold]

theorem State.debugUnlock_kept (s : State) : (State.debugUnlock s).kept = s.kept := by
  simp only [State.debugUnlock, apply_ite State.kept, ite_self, State.setFlag_kept, State.secCnt_kept]

theorem State.takeRound_kept (n : Nat) (pf : Nat) (s : State) : (State.takeRound n pf s).2.kept = s.kept := by
  induction n generalizing s pf
  · first | rfl | (intro a t h; cases h)
  rename_i n ih
  unfold State.takeRound
  repeat' (first | simp only [State.setBank_kept] | split | exact ih .. | exact (ih ..).trans (by assumption) | refine (ih ..).trans ?_ | with_reducible refine (foldl_kept _ _ _ (fun u _ => ?_)).trans ?_)

theorem execEventWindowRead_kept (cmd area count first : Nat) (s : State) : Keeps s (execEventWindowRead cmd area count first s) := by
  unfold execEventWindowRead
  repeat' (first | (extract_lets +onlyGivenNames t; first | (refine keeps_via (t := t) ?_ (fun ht => ?_); rotate_left; clear_value t; rotate_left; simp only [t]) | clear_value t) | simp only [apply_ite State.kept, ite_self, State.finish_kept, State.deny_kept, State.send_kept, State.takeRound_kept, State.catchUp_kept, *] | split | with_reducible refine onAdmin_keeps _ _ _ (fun u => ?_) | with_reducible refine (foldl_kept _ _ _ (fun u _ => ?_)).trans ?_)
  all_goals grind only [kept_mk, kept_fold, State.finish_kept, State.deny_kept, State.send_kept, State.takeRound_kept, State.catchUp_kept]

theorem execEventRoundClear_kept (cmd arg : Nat) (s : State) : Keeps s (execEventRoundClear cmd arg s) := by
  unfold execEventRoundClear
  repeat' (first | simp only [State.finish_kept, State.noteGated_kept, State.roundClear_kept,
                          State.updCmd_kept] | split | with_reducible refine onVendor_keeps _ _ _ _ (fun u => ?_) | with_reducible refine (foldl_kept _ _ _ (fun u _ => ?_)).trans ?_)

end Sys2Proof.Machine
end

