-- ==== Sys2Proof/Laws/KeptCommands.lean ====
section
/-! SUPPORT. The queue, the maker key and the cast-on area through queues, the map, commands, courses and writes. -/

namespace Sys2Proof.Machine

set_option linter.unusedTactic false
set_option linter.unreachableTactic false
set_option linter.unusedSimpArgs false

theorem State.badDoorbell_kept (s : State) (fn qid reason : Nat) (cq : Bool) : (State.badDoorbell s fn qid reason cq).kept = s.kept := by
  simp only [State.badDoorbell, apply_ite State.kept, ite_self, State.setFld_kept, State.putFlag_kept, State.setFlag_kept, State.qenCnt_kept,
      State.asyncEvent_kept]

theorem State.sqDoorbell_kept (s : State) (fn qid v : Nat) : (State.sqDoorbell s fn qid v).kept = s.kept := by
  unfold State.sqDoorbell
  repeat' (first | simp only [State.badDoorbell_kept, State.setFunc_kept, State.applyPs_kept] | split)

theorem execSqTailDoorbellWrite_kept (fn qid val : Nat) (s : State) : Keeps s (execSqTailDoorbellWrite fn qid val s) := by
  unfold execSqTailDoorbellWrite
  repeat' (first | simp only [implies_true, guarded_kept, State.sqDoorbell_kept] | split)

theorem State.cqInterrupt_kept (s : State) (fn cq : Nat) : (State.cqInterrupt s fn cq).kept = s.kept := by
  unfold State.cqInterrupt
  repeat' (first | (extract_lets +onlyGivenNames t; first | (refine kept_via (t := t) ?_ (fun ht => ?_); rotate_left; clear_value t; rotate_left; simp only [t]) | clear_value t) | simp only [apply_ite State.kept, ite_self, State.raise_kept, State.setFunc_kept, State.cancel_kept, State.arm_kept, State.qenCnt_kept, *] | split | with_reducible refine (foldl_kept _ _ _ (fun u _ => ?_)).trans ?_)
  all_goals grind only [kept_mk, kept_fold, State.raise_kept, State.setFunc_kept, State.cancel_kept, State.arm_kept, State.qenCnt_kept]

theorem State.postEntry_kept (s : State) (c cq : Nat) (k : Cmd) (st : Status) (dw0 : Nat) : (State.postEntry s c cq k st dw0).kept = s.kept := by
  simp only [State.postEntry, kept_mk, kept_fold, apply_ite State.kept, ite_self, State.setFunc_kept, State.send_kept, State.qenCnt_kept,
      State.linkUse_kept, State.addSat_kept, State.cqInterrupt_kept]

theorem State.post_kept (s : State) (c : Nat) : (State.post s c).kept = s.kept := by
  unfold State.post
  repeat' (first | (extract_lets +onlyGivenNames t; first | (refine kept_via (t := t) ?_ (fun ht => ?_); rotate_left; clear_value t; rotate_left; simp only [t]) | clear_value t) | simp only [kept_mk, kept_fold, apply_ite State.kept, ite_self, State.setFunc_kept, State.setFlag_kept, State.qenCnt_kept, State.postEntry_kept, *] | split | with_reducible refine (foldl_kept _ _ _ (fun u _ => ?_)).trans ?_)
  all_goals grind only [kept_mk, kept_fold, State.setFunc_kept, State.setFlag_kept, State.qenCnt_kept, State.postEntry_kept]

theorem State.postHeld_kept (n : Nat) (fn : Nat) (cq : Nat) (s : State) : (State.postHeld n fn cq s).kept = s.kept := by
  induction n generalizing s fn cq
  · first | rfl | (intro a t h; cases h)
  rename_i n ih
  unfold State.postHeld
  repeat' (first | simp only [apply_ite State.kept, State.setFunc_kept,
                          State.postEntry_kept] | split | exact ih .. | exact (ih ..).trans (by assumption) | refine (ih ..).trans ?_ | with_reducible refine (foldl_kept _ _ _ (fun u _ => ?_)).trans ?_)

theorem State.cqDoorbell_kept (s : State) (fn qid v : Nat) : (State.cqDoorbell s fn qid v).kept = s.kept := by
  unfold State.cqDoorbell
  repeat' (first | (extract_lets +onlyGivenNames t; first | (refine kept_via (t := t) ?_ (fun ht => ?_); rotate_left; clear_value t; rotate_left; simp only [t]) | clear_value t) | simp only [State.badDoorbell_kept, State.setFunc_kept, State.postHeld_kept, *] | split | with_reducible refine (foldl_kept _ _ _ (fun u _ => ?_)).trans ?_)
  all_goals grind only [kept_mk, kept_fold, State.badDoorbell_kept, State.setFunc_kept, State.postHeld_kept]

theorem execCqHeadDoorbellWrite_kept (fn qid val : Nat) (s : State) : Keeps s (execCqHeadDoorbellWrite fn qid val s) := by
  unfold execCqHeadDoorbellWrite
  repeat' (first | simp only [implies_true, guarded_kept, State.cqDoorbell_kept] | split)

theorem execInterruptAggregationTimeout_kept (fn cq : Nat) (s : State) : Keeps s (execInterruptAggregationTimeout fn cq s) := by
  unfold execInterruptAggregationTimeout
  repeat' (first | simp only [State.setFunc_kept, State.raise_kept] | split | with_reducible refine onTimer_keeps _ _ _ (fun u => ?_) | with_reducible refine (foldl_kept _ _ _ (fun u _ => ?_)).trans ?_)

theorem State.unmaskVector_kept (s : State) (fn vec : Nat) : (State.unmaskVector s fn vec).kept = s.kept := by
  simp only [State.unmaskVector, apply_ite State.kept, ite_self, State.setFunc_kept, State.send_kept, State.qenCnt_kept]

theorem execMsixVectorUnmask_kept (fn vec : Nat) (s : State) : Keeps s (execMsixVectorUnmask fn vec s) := by
  unfold execMsixVectorUnmask
  repeat' (first | simp only [implies_true, guarded_kept, State.unmaskVector_kept] | split)

theorem State.chooseQueue_kept (s : State) (fn : Nat) : ∀ a t, s.chooseQueue fn = some (a, t) → t.kept = s.kept := by
  intro a t h
  unfold State.chooseQueue at h
  have note (u : State) (l : List (Nat × Nat)) : State.kept { u with q := { u.q with lastQ := l } } = u.kept := by simp only [kept_mk, kept_fold]
  simp only [] at h
  split at h
  · simp only [Option.map_eq_some_iff] at h
    obtain ⟨q, _, e⟩ := h
    cases e; exact note ..
  · split at h
    · cases h; exact note ..
    · split at h
      · cases h
      · simp only [Option.map_eq_some_iff] at h
        obtain ⟨q, _, e⟩ := h
        cases e; simp only [kept_mk, kept_fold]

theorem State.newTag_kept (s : State) (p : Nat) : (State.newTag s p).2.kept = s.kept := by
  unfold State.newTag
  repeat' (first | (extract_lets +onlyGivenNames t; first | (refine kept_via (t := t) ?_ (fun ht => ?_); rotate_left; clear_value t; rotate_left; simp only [t]) | clear_value t) | simp only [kept_mk, kept_fold, *] | split | with_reducible refine (foldl_kept _ _ _ (fun u _ => ?_)).trans ?_)
  all_goals grind only [kept_mk, kept_fold]

theorem State.request_kept (s : State) (fn : Nat) (kind : NpKind) (obj len : Nat) : (State.request s fn kind obj len).2.kept = s.kept := by
  unfold State.request
  repeat' (first | (extract_lets +onlyGivenNames t; first | (refine kept_via (t := t) ?_ (fun ht => ?_); rotate_left; clear_value t; rotate_left; simp only [t]) | clear_value t) | simp only [kept_mk, kept_fold, State.newTag_kept, State.send_kept, State.hifCnt_kept, State.linkUse_kept, State.arm_kept, *] | split | with_reducible refine (foldl_kept _ _ _ (fun u _ => ?_)).trans ?_)
  all_goals grind only [kept_mk, kept_fold, State.newTag_kept, State.send_kept, State.hifCnt_kept, State.linkUse_kept, State.arm_kept]

theorem State.fetchReads_kept (n : Nat) (fn : Nat) (qid : Nat) (m : Nat) (s : State) : (State.fetchReads n fn qid m s).kept = s.kept := by
  induction n generalizing s fn qid m
  · first | rfl | (intro a t h; cases h)
  rename_i n ih
  unfold State.fetchReads
  repeat' (first | (extract_lets +onlyGivenNames t; first | (refine kept_via (t := t) ?_ (fun ht => ?_); rotate_left; clear_value t; rotate_left; simp only [t]) | clear_value t) | simp only [kept_mk, kept_fold, apply_ite State.kept, ite_self, State.request_kept, State.updFunc_kept, *] | split | exact ih .. | exact (ih ..).trans (by assumption) | refine (ih ..).trans ?_ | with_reducible refine (foldl_kept _ _ _ (fun u _ => ?_)).trans ?_)
  all_goals grind only [kept_mk, kept_fold, State.request_kept, State.updFunc_kept]

theorem State.grantQueue_kept (s : State) (fn qid : Nat) : (State.grantQueue s fn qid).kept = s.kept := by
  simp only [State.grantQueue, State.fetchReads_kept]

theorem State.withheld_kept (s : State) : (State.withheld s).kept = s.kept := by
  simp only [State.withheld, apply_ite State.kept, ite_self, State.setFlag_kept, State.qenCnt_kept]

theorem execFetchGrant_kept (s : State) : Keeps s (execFetchGrant s) := by
  unfold execFetchGrant
  repeat' (first | (extract_lets +onlyGivenNames t; first | (refine keeps_via (t := t) ?_ (fun ht => ?_); rotate_left; clear_value t; rotate_left; simp only [t]) | clear_value t) | simp only [kept_mk, kept_fold, apply_ite State.kept, ite_self, implies_true, foldl_kept, Keeps_next, State.withheld_kept, State.grantQueue_kept, State.updFunc_kept, *] | split | with_reducible refine (foldl_kept _ _ _ (fun u _ => ?_)).trans ?_)
  all_goals grind only [kept_mk, kept_fold, State.withheld_kept, State.grantQueue_kept, State.updFunc_kept, State.chooseQueue_kept]

theorem State.addStitch_kept (s : State) (c : Nat) (k : Cmd) (first count : Nat) : (State.addStitch s c k first count).kept = s.kept := by
  simp only [State.addStitch, kept_mk, kept_fold, State.updCmd_kept, State.arm_kept, State.qenCnt_kept]

theorem State.cutStitches_kept (n : Nat) (c : Nat) (s : State) : (State.cutStitches n c s).kept = s.kept := by
  induction n generalizing s c
  · first | rfl | (intro a t h; cases h)
  rename_i n ih
  unfold State.cutStitches
  repeat' (first | simp only [apply_ite State.kept, State.setFlag_kept,
                          State.qenCnt_kept] | split | exact ih .. | exact (ih ..).trans (by assumption) | refine (ih ..).trans ?_ | with_reducible refine (foldl_kept _ _ _ (fun u _ => ?_)).trans ?_)

theorem State.park_kept (s : State) (id reason : Nat) : (State.park s id reason).kept = s.kept := by
  unfold State.park
  repeat' (first | simp only [kept_mk, kept_fold, apply_ite State.kept, State.cancel_kept, State.qenCnt_kept, State.hifCnt_kept] | split)

theorem State.parkAll_kept (s : State) (c reason : Nat) : (State.parkAll s c reason).kept = s.kept := by
  simp only [State.parkAll, implies_true, foldl_kept, State.park_kept]

theorem State.begin_kept (s : State) (c : Nat) : (State.begin s c).kept = s.kept := by
  simp only [State.begin, apply_ite State.kept, ite_self, State.updCmd_kept, State.cutStitches_kept, State.parkAll_kept, State.qenCnt_kept]

theorem State.admitLock_kept (s : State) (c : Nat) : (State.admitLock s c).kept = s.kept := by
  unfold State.admitLock
  repeat' (first | simp only [kept_mk, kept_fold, apply_ite State.kept, ite_self, State.begin_kept, State.updCmd_kept, State.setFlag_kept,
                          State.qenCnt_kept] | split)

theorem execInterlockAdmit_kept (s : State) : Keeps s (execInterlockAdmit s) := by
  unfold execInterlockAdmit
  repeat' (first | simp only [kept_mk, kept_fold, apply_ite State.kept, ite_self, Keeps_next,
                          State.begin_kept] | split | with_reducible refine (foldl_kept _ _ _ (fun u _ => ?_)).trans ?_)

theorem execStitchCut_kept (s : State) : Keeps s (execStitchCut s) := by
  unfold execStitchCut
  repeat' (first | simp only [implies_true, foldl_kept, Keeps_next, State.cutStitches_kept] | split)

theorem State.accept_kept (s : State) (fn qid : Nat) (e : Sqe) : (State.accept s fn qid e).kept = s.kept := by
  simp only [State.accept, kept_mk, kept_fold, apply_ite State.kept, ite_self, State.updFunc_kept, State.qenCnt_kept, State.touch_kept,
      State.admitLock_kept, State.begin_kept]

theorem State.acceptArrived_kept (n : Nat) (fn : Nat) (qid : Nat) (s : State) : (State.acceptArrived n fn qid s).kept = s.kept := by
  induction n generalizing s fn qid
  · first | rfl | (intro a t h; cases h)
  rename_i n ih
  unfold State.acceptArrived
  repeat' (first | simp only [kept_mk, kept_fold, implies_true, foldl_kept,
                          State.accept_kept] | split | exact ih .. | exact (ih ..).trans (by assumption) | refine (ih ..).trans ?_ | with_reducible refine (foldl_kept _ _ _ (fun u _ => ?_)).trans ?_)

theorem execSubmissionFetchComplete_kept (port tag : Nat) (entries : List Sqe) (s : State)
    : Keeps s (execSubmissionFetchComplete port tag entries s) := by
  unfold execSubmissionFetchComplete
  repeat' (first | simp only [kept_mk, kept_fold, Keeps_next, Keeps_fault, State.cancel_kept, State.acceptArrived_kept] | split)

theorem State.grantResource_kept (s : State) (res : Nat) : (s.grantResource res).2.kept = s.kept := by
  unfold State.grantResource
  split
  · rfl
  · split
    · simp only [kept_mk, kept_fold]
    · simp only [apply_ite State.kept, State.qenCnt_kept, State.cancel_kept, kept_mk, kept_fold, ite_self]
  · simp only [kept_mk, kept_fold]

theorem execStitchAgingExpiry_kept (stitch : Nat) (s : State) : Keeps s (execStitchAgingExpiry stitch s) := by
  unfold execStitchAgingExpiry
  repeat' (first | simp only [kept_mk, kept_fold, apply_ite State.kept, ite_self, State.arm_kept,
                          State.qenCnt_kept] | split | with_reducible refine onTimer_keeps _ _ _ (fun u => ?_) | with_reducible refine (foldl_kept _ _ _ (fun u _ => ?_)).trans ?_)

theorem execLevel6Starvation_kept (res : Nat) (s : State) : Keeps s (execLevel6Starvation res s) := by
  unfold execLevel6Starvation
  repeat' (first | simp only [kept_mk, kept_fold, Keeps_next] | split)

theorem State.settleDeletes_kept (s : State) : (State.settleDeletes s).kept = s.kept := by
  unfold State.settleDeletes
  repeat' (first | simp only [apply_ite State.kept, ite_self, State.updFunc_kept,
                          State.finish_kept] | split | with_reducible refine (foldl_kept _ _ _ (fun u _ => ?_)).trans ?_)

theorem execCompletionPost_kept (cmd : Nat) (s : State) : Keeps s (execCompletionPost cmd s) := by
  unfold execCompletionPost
  repeat' (first | simp only [implies_true, guarded_kept, State.post_kept, State.settleDeletes_kept] | split)

theorem execFlush_kept (cmd : Nat) (s : State) : Keeps s (execFlush cmd s) := by
  unfold execFlush
  repeat' (first | simp only [apply_ite State.kept, ite_self, State.fail_kept, State.updCmd_kept, State.finish_kept,
                          State.qenCnt_kept] | split | with_reducible refine onIo_keeps _ _ _ _ (fun u => ?_) | with_reducible refine (foldl_kept _ _ _ (fun u _ => ?_)).trans ?_)

theorem State.endCommand_kept (s : State) (c : Nat) : (State.endCommand s c).kept = s.kept := by
  unfold State.endCommand
  repeat' (first | simp only [kept_mk, kept_fold, apply_ite State.kept, ite_self, State.dropStitches_kept, State.unlock_kept, State.qenCnt_kept,
                          State.updCmd_kept] | split)

theorem State.endCommands_kept (s : State) (fn : Nat) : (State.endCommands s fn).kept = s.kept := by
  simp only [State.endCommands, kept_mk, kept_fold, implies_true, foldl_kept, State.endCommand_kept]

theorem State.fwDiscard_kept (s : State) : (State.fwDiscard s).kept = s.kept := by
  simp only [State.fwDiscard, kept_mk, kept_fold, State.setFld_kept]

theorem State.dropDownload_kept (s : State) (fn : Nat) : (State.dropDownload s fn).kept = s.kept := by
  simp only [State.dropDownload, apply_ite State.kept, ite_self, State.fwDiscard_kept]

theorem State.ctrlReset_kept (s : State) (fn : Nat) : (State.ctrlReset s fn).kept = s.kept := by
  simp only [State.ctrlReset, apply_ite State.kept, ite_self, State.endCommands_kept, State.dropDownload_kept, State.setFunc_kept, State.qenCnt_kept,
      State.endSession_kept, State.applyPs_kept]

theorem State.raiseSvn_kept (s : State) (img : List FwPart) : (State.raiseSvn s img).kept = s.kept := by
  simp only [State.raiseSvn, apply_ite State.kept, ite_self, implies_true, foldl_kept, State.setFld_kept]

theorem State.raiseRunning_kept (s : State) : (State.raiseRunning s).kept = s.kept := by
  simp only [State.raiseRunning, apply_ite State.kept, ite_self, State.raiseSvn_kept, State.cfsRequest_kept]

theorem State.becomeReady_kept (s : State) (fn : Nat) : (State.becomeReady s fn).kept = s.kept := by
  simp only [State.becomeReady, apply_ite State.kept, ite_self, State.setFunc_kept, State.raiseRunning_kept, State.applyPs_kept]

theorem execControllerReset_kept (fn : Nat) (s : State) : Keeps s (execControllerReset fn s) := by
  unfold execControllerReset
  repeat' (first | simp only [apply_ite State.kept, ite_self, implies_true, guarded_kept, State.ctrlReset_kept] | split)

theorem State.ctrlEnable_kept (s : State) (fn ams asqSize acqSize : Nat) : (State.ctrlEnable s fn ams asqSize acqSize).kept = s.kept := by
  simp only [State.ctrlEnable, apply_ite State.kept, ite_self, State.setFunc_kept, State.updFunc_kept, State.becomeReady_kept]

theorem execControllerEnable_kept (fn ams asqSize acqSize : Nat) (s : State) : Keeps s (execControllerEnable fn ams asqSize acqSize s) := by
  unfold execControllerEnable
  repeat' (first | simp only [implies_true, guarded_kept, State.ctrlEnable_kept] | split)

theorem State.shutdown_kept (s : State) (fn shn : Nat) : (State.shutdown s fn shn).kept = s.kept := by
  simp only [State.shutdown, apply_ite State.kept, ite_self, State.endCommands_kept, State.updFunc_kept]

theorem execShutdownNormal_kept (fn : Nat) (s : State) : Keeps s (execShutdownNormal fn s) := by
  unfold execShutdownNormal
  repeat' (first | simp only [implies_true, guarded_kept, State.shutdown_kept] | split)

theorem execShutdownAbrupt_kept (fn : Nat) (s : State) : Keeps s (execShutdownAbrupt fn s) := by
  unfold execShutdownAbrupt
  repeat' (first | simp only [implies_true, guarded_kept, State.shutdown_kept] | split)

theorem execShutdownComplete_kept (fn : Nat) (s : State) : Keeps s (execShutdownComplete fn s) := by
  unfold execShutdownComplete
  repeat' (first | simp only [apply_ite State.kept, ite_self, implies_true, State.updFunc_kept, State.qenCnt_kept, guarded_kept,
                          State.becomeReady_kept, State.applyPs_kept] | split)

theorem State.lifCnt_kept (s : State) (n : Nat) (k : Nat) : (State.lifCnt s n k).kept = s.kept := by
  simp only [State.lifCnt, State.addWrap_kept]

theorem State.closeGroup_kept (s : State) (final clean : Bool) : (State.closeGroup s final clean).kept = s.kept := by
  unfold State.closeGroup
  repeat' (first | (extract_lets +onlyGivenNames t; first | (refine kept_via (t := t) ?_ (fun ht => ?_); rotate_left; clear_value t; rotate_left; simp only [t]) | clear_value t) | simp only [kept_mk, kept_fold, State.cancel_kept, State.lifCnt_kept, *] | split | with_reducible refine (foldl_kept _ _ _ (fun u _ => ?_)).trans ?_)
  all_goals grind only [kept_mk, kept_fold, State.cancel_kept, State.lifCnt_kept]

theorem State.openNew_kept (s : State) : (State.openNew s).kept = s.kept := by
  unfold State.openNew
  repeat' (first | simp only [kept_mk, kept_fold, State.arm_kept] | split)

theorem State.batch_kept (s : State) (rs : List Rec) : (State.batch s rs).kept = s.kept := by
  simp only [State.batch, kept_mk, kept_fold, apply_ite State.kept, ite_self, State.closeGroup_kept, State.lifCnt_kept, State.openNew_kept]

theorem execGroupTimerExpiry_kept (s : State) : Keeps s (execGroupTimerExpiry s) := by
  unfold execGroupTimerExpiry
  repeat' (first | simp only [State.closeGroup_kept, State.lifCnt_kept] | split | with_reducible refine onTimer_keeps _ _ _ (fun u => ?_) | with_reducible refine (foldl_kept _ _ _ (fun u _ => ?_)).trans ?_)

theorem State.crsCnt_kept (s : State) (n : Nat) (k : Nat) : (State.crsCnt s n k).kept = s.kept := by
  simp only [State.crsCnt, State.addWrap_kept]

theorem State.rclCnt_kept (s : State) (n : Nat) (k : Nat) : (State.rclCnt s n k).kept = s.kept := by
  simp only [State.rclCnt, State.addWrap_kept]

theorem State.sknCnt_kept (s : State) (die n : Nat) (k : Nat) : (State.sknCnt s die n k).kept = s.kept := by
  simp only [State.sknCnt, State.addWrap_kept]

theorem State.setBlk_kept (s : State) (b : Nat) (x : Blk) : (State.setBlk s b x).kept = s.kept := by
  simp only [State.setBlk, kept_mk, kept_fold]

theorem State.updBlk_kept (s : State) (b : Nat) (f : Blk → Blk) : (State.updBlk s b f).kept = s.kept := by
  simp only [State.updBlk, State.setBlk_kept]

theorem State.setTemp_kept (s : State) (i c : Nat) : (State.setTemp s i c).kept = s.kept := by
  simp only [State.setTemp, kept_mk, kept_fold, apply_ite State.kept, ite_self, State.setFld_kept]

theorem State.queueVictim_kept (s : State) (n reason level : Nat) : (State.queueVictim s n reason level).kept = s.kept := by
  simp only [State.queueVictim, kept_mk, kept_fold, apply_ite State.kept, ite_self, State.setFld_kept, State.rclCnt_kept]

theorem State.noteF_kept (s : State) : (State.noteF s).kept = s.kept := by
  simp only [State.noteF, kept_mk, kept_fold, apply_ite State.kept, ite_self, State.addSat_kept, State.setFld_kept, State.setFlag_kept,
      State.armOnce_kept, State.cancel_kept]

theorem State.discardSlots_kept (s : State) (c : Nat) : (State.discardSlots s c).kept = s.kept := by
  simp only [State.discardSlots, kept_mk, kept_fold]

theorem State.failWrite_kept (s : State) (c : Nat) (st : Status) : (State.failWrite s c st).kept = s.kept := by
  simp only [State.failWrite, State.discardSlots_kept, State.fail_kept]

theorem State.degrade_kept (s : State) (cause : Nat) : (State.degrade s cause).kept = s.kept := by
  simp only [State.degrade, kept_mk, kept_fold, State.critWarn_kept]

theorem State.undegrade_kept (s : State) (cause : Nat) : (State.undegrade s cause).kept = s.kept := by
  simp only [State.undegrade, kept_mk, kept_fold, apply_ite State.kept, ite_self, State.critClear_kept]

theorem State.enterReadOnly_kept (s : State) (cause : Nat) : (State.enterReadOnly s cause).kept = s.kept := by
  simp only [State.enterReadOnly, apply_ite State.kept, ite_self, implies_true, foldl_kept, State.setFlag_kept, State.setFld_kept,
      State.critWarn_kept, State.event_kept, State.failWrite_kept, State.rclCnt_kept, State.cancel_kept, State.noteC0_kept]

theorem State.checkSpare_kept (s : State) : (State.checkSpare s).kept = s.kept := by
  simp only [State.checkSpare, apply_ite State.kept, ite_self, State.critWarn_kept, State.setFlag_kept, State.event_kept, State.critClear_kept,
      State.degrade_kept, State.undegrade_kept, State.enterReadOnly_kept]

theorem State.dieOut_kept (s : State) (d reason : Nat) : (State.dieOut s d reason).kept = s.kept := by
  simp only [State.dieOut, kept_mk, kept_fold, apply_ite State.kept, ite_self, implies_true, foldl_kept, State.setFld_kept, State.setFlag_kept,
      State.event_kept, State.putSat_kept, State.queueVictim_kept, State.checkSpare_kept, State.noteF_kept]

theorem State.retire_kept (s : State) (b reason : Nat) : (State.retire s b reason).kept = s.kept := by
  simp only [State.retire, kept_mk, kept_fold, apply_ite State.kept, ite_self, State.updBlk_kept, State.batch_kept, State.event_kept,
      State.addSat_kept, State.crsCnt_kept, State.dieOut_kept, State.checkSpare_kept, State.noteF_kept]

theorem State.pfLog_kept (s : State) (kind b : Nat) : (State.pfLog s kind b).kept = s.kept := by
  simp only [State.pfLog, implies_true, foldl_kept, State.setWord_kept, State.setFld_kept]

theorem execReadOnlyStall_kept (s : State) : Keeps s (execReadOnlyStall s) := by
  unfold execReadOnlyStall
  repeat' (first | simp only [apply_ite State.kept, ite_self,
                          State.enterReadOnly_kept] | split | with_reducible refine onTimer_keeps _ _ _ (fun u => ?_) | with_reducible refine (foldl_kept _ _ _ (fun u _ => ?_)).trans ?_)

theorem State.mapCnt_kept (s : State) (n : Nat) (k : Nat) : (State.mapCnt s n k).kept = s.kept := by
  simp only [State.mapCnt, State.addWrap_kept]

theorem State.notePool_kept (s : State) : (State.notePool s).kept = s.kept := by
  unfold State.notePool
  repeat' (first | simp only [apply_ite State.kept, State.setFld_kept, State.setFlag_kept] | split)

theorem State.dropMedia_kept (s : State) (b : Nat) : (State.dropMedia s b).kept = s.kept := by
  simp only [State.dropMedia, kept_mk, kept_fold]

theorem State.courseEmpty_kept (s : State) (n : Nat) (c : Course) : (State.courseEmpty s n c).kept = s.kept := by
  simp only [State.courseEmpty, kept_mk, kept_fold, apply_ite State.kept, ite_self, implies_true, foldl_kept, State.batch_kept, State.updBlk_kept,
      State.retire_kept, State.rclCnt_kept]

theorem State.settleCourse_kept (s : State) (n : Nat) : (State.settleCourse s n).kept = s.kept := by
  unfold State.settleCourse
  repeat' (first | simp only [apply_ite State.kept, ite_self, State.courseEmpty_kept] | split)

theorem State.settle_kept (s : State) (bs : List Nat) : (State.settle s bs).kept = s.kept := by
  simp only [State.settle, implies_true, foldl_kept, State.settleCourse_kept]

theorem State.putExt_kept (s : State) (e : Nat) (x : Ext) : (State.putExt s e x).kept = s.kept := by
  unfold State.putExt
  repeat' (first | (extract_lets +onlyGivenNames t; first | (refine kept_via (t := t) ?_ (fun ht => ?_); rotate_left; clear_value t; rotate_left; simp only [t]) | clear_value t) | simp only [kept_mk, kept_fold, apply_ite State.kept, ite_self, State.mapCnt_kept, State.notePool_kept, State.settle_kept, *] | split | with_reducible refine (foldl_kept _ _ _ (fun u _ => ?_)).trans ?_)
  all_goals grind only [kept_mk, kept_fold, State.mapCnt_kept, State.notePool_kept, State.settle_kept]

theorem State.putFines_kept (s : State) (e : Nat) (fs : List FEntry) : (State.putFines s e fs).kept = s.kept := by
  unfold State.putFines
  repeat' (first | simp only [State.putExt_kept, State.mapCnt_kept] | split)

theorem State.setSlots_kept (s : State) (e : Nat) (ps : List (Nat × FEntry)) : (State.setSlots s e ps).1.kept = s.kept := by
  unfold State.setSlots
  repeat' (first | simp only [State.putFines_kept, State.mapCnt_kept] | split)

theorem State.setWhole_kept (s : State) (e : Nat) (x : Ext) : (State.setWhole s e x).1.kept = s.kept := by
  unfold State.setWhole
  repeat' (first | simp only [State.putExt_kept, State.mapCnt_kept] | split)

theorem State.countLookup_kept (s : State) (e : Nat) : (State.countLookup s e).kept = s.kept := by
  unfold State.countLookup
  repeat' (first | simp only [State.mapCnt_kept] | split)

theorem State.mapError_kept (s : State) (cause e : Nat) : (State.mapError s cause e).kept = s.kept := by
  simp only [State.mapError, State.setFld_kept, State.setWord_kept, State.mapCnt_kept]

theorem State.stall_kept (s : State) (cause e : Nat) : (State.stall s cause e).kept = s.kept := by
  simp only [State.stall, kept_mk, kept_fold, apply_ite State.kept, ite_self, State.mapError_kept, State.setFlag_kept, State.event_kept]

theorem execMapSegmentStall_kept (cause e : Nat) (s : State) : Keeps s (execMapSegmentStall cause e s) := by
  unfold execMapSegmentStall
  repeat' (first | simp only [implies_true, guarded_kept, State.stall_kept] | split)

theorem execOwnerTableError_kept (e : Nat) (done : Bool) (s : State) : Keeps s (execOwnerTableError e done s) := by
  unfold execOwnerTableError
  repeat' (first | simp only [kept_mk, kept_fold, Keeps_next, State.mapError_kept] | split)

theorem execAgeEpochTick_kept (s : State) : Keeps s (execAgeEpochTick s) := by
  unfold execAgeEpochTick
  repeat' (first | simp only [State.addWrap_kept, State.arm_kept] | split | with_reducible refine onTimer_keeps _ _ _ (fun u => ?_) | with_reducible refine (foldl_kept _ _ _ (fun u _ => ?_)).trans ?_)

theorem State.deallocWhole_kept (s : State) (e count : Nat) : (State.deallocWhole s e count).1.kept = s.kept := by
  unfold State.deallocWhole
  repeat' (first | simp only [implies_true, foldl_kept, State.putExt_kept, State.mapCnt_kept] | split)

theorem State.deallocPart_kept (s : State) (n : Ns) (e i k : Nat) : (State.deallocPart s n e i k).1.kept = s.kept := by
  unfold State.deallocPart
  repeat' (first | simp only [State.putFines_kept, State.mapCnt_kept] | split)

theorem State.deallocRange_kept (s : State) (n : Ns) (slba nlb : Nat) : (s.deallocRange n slba nlb).1.kept = s.kept := by
  unfold State.deallocRange
  refine foldl_kept_fst _ _ _ (fun acc g => ?_)
  split
  · rfl
  next e0 _ =>
  simp only []
  split
  · exact State.deallocPart_kept ..
  · have h0 : (if g.1 < (g.1 + 15) / 16 * 16 then acc.1.deallocPart n e0 (g.1 % 16) ((g.1 + 15) / 16 * 16 - g.1) else (acc.1,
      [])).1.kept = acc.1.kept := by
      split
      · exact State.deallocPart_kept ..
      · rfl
    generalize (if g.1 < (g.1 + 15) / 16 * 16 then acc.1.deallocPart n e0 (g.1 % 16) ((g.1 + 15) / 16 * 16 - g.1) else (acc.1, [])) = p0 at h0 ⊢
    obtain ⟨t0, r0⟩ := p0
    simp only [] at h0 ⊢
    have h1 := State.deallocWhole_kept t0 (e0 / 16384 * 16384 + (g.1 + 15) / 16 * 16 / 16 % 16384)
        (((g.1 + g.2) / 16 * 16 - (g.1 + 15) / 16 * 16) / 16)
    generalize t0.deallocWhole (e0 / 16384 * 16384 + (g.1 + 15) / 16 * 16 / 16 % 16384)
        (((g.1 + g.2) / 16 * 16 - (g.1 + 15) / 16 * 16) / 16) = p1 at h1 ⊢
    obtain ⟨t1, r1⟩ := p1
    simp only [] at h1 ⊢
    split
    · exact (State.deallocPart_kept ..).trans (h1.trans h0)
    · exact h1.trans h0

theorem execUnsupportedCommand_kept (cmd : Nat) (s : State) : Keeps s (execUnsupportedCommand cmd s) := by
  unfold execUnsupportedCommand
  repeat' (first | simp only [Keeps_next, Keeps_fault, State.fail_kept] | split)

theorem execCreateIoCq_kept (cmd qid size vec : Nat) (intEn contiguous inCmb : Bool) (s : State)
    : Keeps s (execCreateIoCq cmd qid size vec intEn contiguous inCmb s) := by
  unfold execCreateIoCq
  repeat' (first | simp only [apply_ite State.kept, ite_self, State.finish_kept,
                          State.setFunc_kept] | split | with_reducible refine onAdmin_keeps _ _ _ (fun u => ?_) | with_reducible refine (foldl_kept _ _ _ (fun u _ => ?_)).trans ?_)

theorem execCreateIoSq_kept (cmd qid size cq prio : Nat) (contiguous inCmb : Bool) (s : State)
    : Keeps s (execCreateIoSq cmd qid size cq prio contiguous inCmb s) := by
  unfold execCreateIoSq
  repeat' (first | simp only [apply_ite State.kept, ite_self, State.finish_kept,
                          State.setFunc_kept] | split | with_reducible refine onAdmin_keeps _ _ _ (fun u => ?_) | with_reducible refine (foldl_kept _ _ _ (fun u _ => ?_)).trans ?_)

theorem execDeleteIoSq_kept (cmd qid : Nat) (s : State) : Keeps s (execDeleteIoSq cmd qid s) := by
  unfold execDeleteIoSq
  repeat' (first | simp only [apply_ite State.kept, ite_self, State.finish_kept, State.setFunc_kept, State.updCmd_kept,
                          State.qenCnt_kept] | split | with_reducible refine onAdmin_keeps _ _ _ (fun u => ?_) | with_reducible refine (foldl_kept _ _ _ (fun u _ => ?_)).trans ?_)

theorem execDeleteIoCq_kept (cmd qid : Nat) (s : State) : Keeps s (execDeleteIoCq cmd qid s) := by
  unfold execDeleteIoCq
  repeat' (first | simp only [apply_ite State.kept, ite_self, State.finish_kept,
                          State.setFunc_kept] | split | with_reducible refine onAdmin_keeps _ _ _ (fun u => ?_) | with_reducible refine (foldl_kept _ _ _ (fun u _ => ?_)).trans ?_)

theorem execAbort_kept (cmd _sqid _cid : Nat) (s : State) : Keeps s (execAbort cmd _sqid _cid s) := by
  unfold execAbort
  repeat' (first | simp only [State.qenCnt_kept, State.finish_kept] | split | with_reducible refine onAdmin_keeps _ _ _ (fun u => ?_) | with_reducible refine (foldl_kept _ _ _ (fun u _ => ?_)).trans ?_)

theorem execAsyncEventRequest_kept (cmd : Nat) (s : State) : Keeps s (execAsyncEventRequest cmd s) := by
  unfold execAsyncEventRequest
  repeat' (first | simp only [apply_ite State.kept, ite_self, State.setFunc_kept, State.finish_kept,
                          State.updCmd_kept] | split | with_reducible refine onAdmin_keeps _ _ _ (fun u => ?_) | with_reducible refine (foldl_kept _ _ _ (fun u _ => ?_)).trans ?_)

theorem execSetFeaturesTimestamp_kept (cmd timeMs : Nat) (s : State) : Keeps s (execSetFeaturesTimestamp cmd timeMs s) := by
  unfold execSetFeaturesTimestamp
  repeat' (first | simp only [State.setTime_kept, State.setFld_kept, State.finish_kept,
                          State.event_kept] | split | with_reducible refine onAdmin_keeps _ _ _ (fun u => ?_) | with_reducible refine (foldl_kept _ _ _ (fun u _ => ?_)).trans ?_)

theorem execIdentify_kept (cmd cns cntid : Nat) (s : State) : Keeps s (execIdentify cmd cns cntid s) := by
  unfold execIdentify
  repeat' (first | simp only [State.send_kept, State.finish_kept] | split | with_reducible refine onAdmin_keeps _ _ _ (fun u => ?_) | with_reducible refine (foldl_kept _ _ _ (fun u _ => ?_)).trans ?_)

theorem execDirectiveSend_kept (cmd dtype doper _dspec cdw12 : Nat) (s : State) : Keeps s (execDirectiveSend cmd dtype doper _dspec cdw12 s) := by
  unfold execDirectiveSend
  repeat' (first | simp only [State.finish_kept, State.updFunc_kept] | split | with_reducible refine onAdmin_keeps _ _ _ (fun u => ?_) | with_reducible refine (foldl_kept _ _ _ (fun u _ => ?_)).trans ?_)

theorem execDirectiveReceive_kept (cmd dtype doper _dspec : Nat) (s : State) : Keeps s (execDirectiveReceive cmd dtype doper _dspec s) := by
  unfold execDirectiveReceive
  repeat' (first | simp only [State.finish_kept, State.send_kept] | split | with_reducible refine onAdmin_keeps _ _ _ (fun u => ?_) | with_reducible refine (foldl_kept _ _ _ (fun u _ => ?_)).trans ?_)

theorem State.updCourse_kept (s : State) (n : Nat) (f : Course → Course) : (State.updCourse s n f).kept = s.kept := by
  simp only [State.updCourse, kept_mk, kept_fold]

theorem State.openCourse_kept (s : State) (w ply : Nat) (slc : Bool) (band handle g l : Nat) (bs : List (Option Nat))
    : (State.openCourse s w ply slc band handle g l bs).kept = s.kept := by
  simp only [State.openCourse, kept_mk, kept_fold, implies_true, foldl_kept, State.updBlk_kept, State.setWord_kept, State.setFld_kept,
      State.batch_kept]

theorem State.formCourse_kept (s : State) (band handle g l : Nat) : ∀ t, State.formCourse s band handle g l = some t → t.kept = s.kept := by
  intro t
  unfold State.formCourse
  repeat' (first | (intro h; cases h; done) | (intro h; cases h) | (extract_lets +onlyGivenNames t; first | (refine kept_via (t := t) ?_ (fun ht => ?_); rotate_left; clear_value t; rotate_left; simp only [t]) | clear_value t) | simp only [apply_ite State.kept, ite_self, State.openCourse_kept, State.crsCnt_kept, State.noteF_kept, *] | split | with_reducible refine (foldl_kept _ _ _ (fun u _ => ?_)).trans ?_)
  all_goals grind only [kept_mk, kept_fold, State.openCourse_kept, State.crsCnt_kept, State.noteF_kept]

theorem State.setBand_kept (s : State) (b : Band) : (State.setBand s b).kept = s.kept := by
  simp only [State.setBand, kept_mk, kept_fold]

theorem State.courseFor_kept (n : Nat) (kind : Nat) (handle : Nat) (k : Nat) (page : Bool) (s : State) : ∀ a t,
    State.courseFor n kind handle k page s = some (a, t) → t.kept = s.kept := by
  induction n generalizing s kind handle k page
  · first | rfl | (intro a t h; cases h)
  rename_i n ih
  unfold State.courseFor
  repeat' (first | (intro a t h; cases h; done) | (intro a t h; cases h) | simp only [State.setBand_kept] | split | exact ih .. | exact (ih ..).trans (by assumption) | refine (ih ..).trans ?_ | with_reducible refine (foldl_kept _ _ _ (fun u _ => ?_)).trans ?_)
  all_goals grind only [kept_mk, kept_fold, State.setBand_kept, State.formCourse_kept]

theorem State.rowTimers_kept (s : State) (n : Nat) : (State.rowTimers s n).kept = s.kept := by
  simp only [State.rowTimers, apply_ite State.kept, ite_self, State.arm_kept, State.armOnce_kept]

theorem State.countPlaced_kept (s : State) (band k : Nat) : (State.countPlaced s band k).kept = s.kept := by
  simp only [State.countPlaced, kept_mk, kept_fold, apply_ite State.kept, ite_self]

theorem State.putAt_kept (s : State) (n : Nat) (c : Course) (pos : Nat) (m : Member) (start : Nat) (cws : List Codeword)
    : (State.putAt s n c pos m start cws).2.kept = s.kept := by
  unfold State.putAt
  repeat' (first | (extract_lets +onlyGivenNames t; first | (refine kept_via (t := t) ?_ (fun ht => ?_); rotate_left; clear_value t; rotate_left; simp only [t]) | clear_value t) | simp only [kept_mk, kept_fold, State.crsCnt_kept, State.countPlaced_kept, State.rowTimers_kept, *] | split | with_reducible refine (foldl_kept _ _ _ (fun u _ => ?_)).trans ?_)
  all_goals grind only [kept_mk, kept_fold, State.crsCnt_kept, State.countPlaced_kept, State.rowTimers_kept]

theorem State.placeRun_kept (s : State) (n : Nat) (page : Bool) (cws : List Codeword) : ∀ a t, s.placeRun n page cws = some (a,
    t) → t.kept = s.kept := by
  intro a t h
  simp only [State.placeRun, Option.bind_eq_some_iff, Option.map_eq_some_iff] at h
  obtain ⟨c, _, x, _, e⟩ := h
  have := congrArg Prod.snd e
  simp only [] at this
  rw [← this]
  have hp := State.putAt_kept s n { c with nextMem := x.1 + 1 } x.2.1 x.2.2 (if page then (x.2.2.next + 3) / 4 * 4 else x.2.2.next) cws
  exact hp

theorem State.placeSmall_kept (s : State) (n : Nat) (lba : Nat) (cw : Codeword) : ∀ a t, s.placeSmall n lba cw = some (a, t) → t.kept = s.kept := by
  intro a t h
  simp only [State.placeSmall, Option.bind_eq_some_iff, Option.map_eq_some_iff] at h
  obtain ⟨c, _, x, _, e⟩ := h
  cases e
  exact State.putAt_kept ..

theorem State.placeAfter_kept (s : State) (prev : Nat) (cw : Codeword) : ∀ a t, s.placeAfter prev cw = some (a, t) → t.kept = s.kept := by
  intro a t h
  simp only [State.placeAfter, Option.bind_eq_some_iff] at h
  obtain ⟨c, _, m, _, e⟩ := h
  split at e
  · cases e
    exact State.putAt_kept ..
  · cases e

theorem State.touchParts_kept (s : State) (dies : List Nat) : (State.touchParts s dies).kept = s.kept := by
  simp only [State.touchParts, kept_mk, kept_fold]

theorem State.closeCourse_kept (s : State) (n : Nat) (row : Nat) : (s.closeCourse n row).kept = s.kept := by
  unfold State.closeCourse
  split
  · rfl
  next c _ =>
  extract_lets t1 t2 t3 t4 t5 t6 t7 t8
  have e1 : t1.kept = s.kept := by simp only [t1, State.updCourse_kept]
  clear_value t1
  have e2 : t2.kept = t1.kept := foldl_kept _ _ _ (fun u m => State.updBlk_kept ..)
  clear_value t2
  have e5 : t5.kept = t2.kept := by simp only [t5, t4, t3, State.crsCnt_kept, State.touchParts_kept, State.batch_kept, State.cancel_kept]
  clear_value t5
  have e6 : t6.kept = t5.kept := by simp only [t6, apply_ite State.kept, State.crsCnt_kept, ite_self]
  clear_value t6
  have e7 : t7.kept = t6.kept := by simp only [t7, apply_ite State.kept, State.setFlag_kept, ite_self]
  clear_value t7
  have e8 : t8.kept = t7.kept := by
    simp only [t8]
    split
    · exact getD_kept _ _ (fun t h => State.formCourse_kept _ _ _ _ _ _ h)
    · rfl
  rw [State.settleCourse_kept, e8, e7, e6, e5, e2, e1]

theorem State.padTo_kept (s : State) (n : Nat) (row : Nat) : (State.padTo s n row).kept = s.kept := by
  unfold State.padTo
  repeat' (first | (extract_lets +onlyGivenNames t; first | (refine kept_via (t := t) ?_ (fun ht => ?_); rotate_left; clear_value t; rotate_left; simp only [t]) | clear_value t) | simp only [kept_mk, kept_fold, State.crsCnt_kept, *] | split | with_reducible refine (foldl_kept _ _ _ (fun u _ => ?_)).trans ?_)
  all_goals grind only [kept_mk, kept_fold, State.crsCnt_kept]

theorem State.padRow_kept (s : State) (n : Nat) : (State.padRow s n).kept = s.kept := by
  unfold State.padRow
  repeat' (first | simp only [apply_ite State.kept, ite_self, State.padTo_kept] | split)

theorem execRowIdleTimeout_kept (course : Nat) (s : State) : Keeps s (execRowIdleTimeout course s) := by
  unfold execRowIdleTimeout
  repeat' (first | simp only [State.padRow_kept] | split | with_reducible refine onTimer_keeps _ _ _ (fun u => ?_) | with_reducible refine (foldl_kept _ _ _ (fun u _ => ?_)).trans ?_)

theorem execExposedRowTimeout_kept (course : Nat) (s : State) : Keeps s (execExposedRowTimeout course s) := by
  unfold execExposedRowTimeout
  repeat' (first | simp only [apply_ite State.kept, ite_self,
                          State.padRow_kept] | split | with_reducible refine onTimer_keeps _ _ _ (fun u => ?_) | with_reducible refine (foldl_kept _ _ _ (fun u _ => ?_)).trans ?_)

theorem State.formDump_kept (s : State) : (State.formDump s).kept = s.kept := by
  simp only [State.formDump, kept_mk, kept_fold, apply_ite State.kept, ite_self, implies_true, foldl_kept, State.openCourse_kept, State.noteF_kept]

theorem execRowProgramIssue_kept (course pos : Nat) (s : State) : Keeps s (execRowProgramIssue course pos s) := by
  unfold execRowProgramIssue
  repeat' (first | (extract_lets +onlyGivenNames t; first | (refine keeps_via (t := t) ?_ (fun ht => ?_); rotate_left; clear_value t; rotate_left; simp only [t]) | clear_value t) | simp only [kept_mk, kept_fold, implies_true, Keeps_fault, State.updCourse_kept, State.sknCnt_kept, guarded_kept, State.arm_kept, *] | split | with_reducible refine (foldl_kept _ _ _ (fun u _ => ?_)).trans ?_)
  all_goals grind only [kept_mk, kept_fold, State.updCourse_kept, State.sknCnt_kept, guarded_kept, State.arm_kept]

theorem State.opEnd_kept (s : State) (die : Nat) : (State.opEnd s die).kept = s.kept := by
  simp only [State.opEnd, kept_mk, kept_fold, State.cancel_kept]

theorem execProgramComplete_kept (course pos : Nat) (s : State) : Keeps s (execProgramComplete course pos s) := by
  unfold execProgramComplete
  repeat' (first | (extract_lets +onlyGivenNames t; first | (refine keeps_via (t := t) ?_ (fun ht => ?_); rotate_left; clear_value t; rotate_left; simp only [t]) | clear_value t) | simp only [kept_mk, kept_fold, apply_ite State.kept, ite_self, State.opEnd_kept, State.updCourse_kept, State.crsCnt_kept, State.closeCourse_kept, State.padRow_kept, State.armOnce_kept, *] | split | with_reducible refine withSome_keeps _ _ _ (fun u => ?_) | with_reducible refine (foldl_kept _ _ _ (fun u _ => ?_)).trans ?_)
  all_goals grind only [kept_mk, kept_fold, State.opEnd_kept, State.updCourse_kept, State.crsCnt_kept, State.closeCourse_kept, State.padRow_kept,
      State.armOnce_kept]

theorem State.holdWrite_kept (s : State) (c : Nat) : (State.holdWrite s c).kept = s.kept := by
  simp only [State.holdWrite, apply_ite State.kept, ite_self, State.parkAll_kept, State.crsCnt_kept, State.setFlag_kept, State.lifCnt_kept,
      State.rclCnt_kept]

theorem State.enterExposed_kept (s : State) (cause : Nat) : (State.enterExposed s cause).kept = s.kept := by
  simp only [State.enterExposed, implies_true, foldl_kept, State.setFlag_kept, State.setFld_kept, State.addSat_kept, State.crsCnt_kept,
      State.event_kept, State.critWarn_kept, State.armOnce_kept, State.noteC0_kept]

theorem State.protCheck_kept (s : State) : (State.protCheck s).kept = s.kept := by
  simp only [State.protCheck, apply_ite State.kept, ite_self, State.enterExposed_kept, State.armOnce_kept, State.cancel_kept]

theorem execHoldOkDeassert_kept (s : State) : Keeps s (execHoldOkDeassert s) := by
  unfold execHoldOkDeassert
  repeat' (first | simp only [Keeps_next, State.clrFlag_kept, State.protCheck_kept] | split)

theorem execHoldOkAssert_kept (s : State) : Keeps s (execHoldOkAssert s) := by
  unfold execHoldOkAssert
  repeat' (first | simp only [Keeps_next, State.setFlag_kept, State.protCheck_kept] | split)

theorem State.finishWrite_kept (s : State) (c : Nat) : (State.finishWrite s c).kept = s.kept := by
  unfold State.finishWrite
  repeat' (first | simp only [apply_ite State.kept, State.finish_kept, State.crsCnt_kept] | split)

theorem execProtectedModeTimer_kept (s : State) : Keeps s (execProtectedModeTimer s) := by
  unfold execProtectedModeTimer
  repeat' (first | simp only [apply_ite State.kept, ite_self, implies_true, foldl_kept, State.clrFlag_kept, State.critClear_kept, State.noteC0_kept,
                          State.finishWrite_kept] | split | with_reducible refine onTimer_keeps _ _ _ (fun u => ?_) | with_reducible refine (foldl_kept _ _ _ (fun u _ => ?_)).trans ?_)

theorem State.noteStaging_kept (s : State) : (State.noteStaging s).kept = s.kept := by
  simp only [State.noteStaging, apply_ite State.kept, ite_self, State.setFlag_kept, State.putFlag_kept]

theorem State.cmpCnt_kept (s : State) (n : Nat) (k : Nat) : (State.cmpCnt s n k).kept = s.kept := by
  simp only [State.cmpCnt, State.addWrap_kept]

theorem State.rejectFrame_kept (s : State) (obj kind unit : Nat) : (State.rejectFrame s obj kind unit).kept = s.kept := by
  simp only [State.rejectFrame, State.draw_kept, State.setFld_kept, State.setFlag_kept, State.cmpCnt_kept, State.event_kept]

theorem State.emitBlocks_kept (s : State) : (State.emitBlocks s).kept = s.kept := by
  simp only [State.emitBlocks, State.draw_kept, State.cmpCnt_kept]

theorem State.framesRead_kept (s : State) : (State.framesRead s).kept = s.kept := by
  simp only [State.framesRead, State.draw_kept, State.cmpCnt_kept]

theorem State.compress_kept (s : State) (lba : Nat) (ds : List (Nat × Nat)) (o : CmpOutcome) : (State.compress s lba ds o).2.kept = s.kept := by
  unfold State.compress
  repeat' (first | (extract_lets +onlyGivenNames t; first | (refine kept_via (t := t) ?_ (fun ht => ?_); rotate_left; clear_value t; rotate_left; simp only [t]) | clear_value t) | simp only [State.cmpCnt_kept, State.emitBlocks_kept, State.draw_kept, State.setFlag_kept, State.rejectFrame_kept, *] | split | with_reducible refine (foldl_kept _ _ _ (fun u _ => ?_)).trans ?_)
  all_goals grind only [kept_mk, kept_fold, State.cmpCnt_kept, State.emitBlocks_kept, State.draw_kept, State.setFlag_kept, State.rejectFrame_kept]

theorem State.updSlot_kept (s : State) (id : Nat) (f : BufSlot → BufSlot) : (State.updSlot s id f).kept = s.kept := by
  simp only [State.updSlot, kept_mk, kept_fold]

theorem State.nextCourse_kept (s : State) (kind handle k : Nat) (page : Bool) : ∀ a t, State.nextCourse s kind handle k page = some (a,
    t) → t.kept = s.kept := by
  intro a t
  unfold State.nextCourse
  repeat' (first | (intro h; cases h; done) | (intro h; cases h) | simp only [kept_mk, kept_fold, apply_ite State.kept, ite_self, implies_true,
                          foldl_kept, Keeps_next, Keeps_fault, Keeps_refused,
                          State.courseFor_kept] | split | with_reducible refine (foldl_kept _ _ _ (fun u _ => ?_)).trans ?_)
  all_goals grind only [kept_mk, kept_fold, State.courseFor_kept]

theorem State.placeIn_kept (s : State) (course : Option Nat) (kind handle : Nat) (page : Bool) (cws : List Codeword) : ∀ a t,
    s.placeIn course kind handle page cws = some (a, t) → t.kept = s.kept := by
  intro a t h
  unfold State.placeIn at h
  split at h
  · next r hr =>
    cases h
    obtain ⟨n, _, e⟩ := Option.bind_eq_some_iff.1 hr
    exact State.placeRun_kept _ _ _ _ _ _ e
  · obtain ⟨x, hx, e⟩ := Option.bind_eq_some_iff.1 h
    exact (State.placeRun_kept _ _ _ _ _ _ e).trans (State.nextCourse_kept _ _ _ _ _ _ _ hx)

theorem State.placeOne_kept (s : State) (course : Option Nat) (kind handle : Nat) (b : BufSlot) : ∀ a t, s.placeOne course kind handle b = some (a,
    t) → t.kept = s.kept := by
  intro a t h
  unfold State.placeOne at h
  simp only [] at h
  split at h
  · next r hr =>
    cases h
    obtain ⟨n, _, e⟩ := Option.bind_eq_some_iff.1 hr
    exact State.placeAfter_kept _ _ _ _ _ e
  · split at h
    · next r hr =>
      cases h
      obtain ⟨n, _, e⟩ := Option.bind_eq_some_iff.1 hr
      exact State.placeSmall_kept _ _ _ _ _ _ e
    · obtain ⟨x, hx, e⟩ := Option.bind_eq_some_iff.1 h
      exact (State.placeSmall_kept _ _ _ _ _ _ e).trans (State.nextCourse_kept _ _ _ _ _ _ _ hx)

theorem State.placeExtent_kept (s : State) (c nsid lba handle : Nat) (course : Option Nat) (cmp : Bool) (o : CmpOutcome)
    : (State.placeExtent s c nsid lba handle course cmp o).kept = s.kept := by
  unfold State.placeExtent
  repeat' (first | (extract_lets +onlyGivenNames t; first | (refine kept_via (t := t) ?_ (fun ht => ?_); rotate_left; clear_value t; rotate_left; simp only [t]) | clear_value t) | simp only [apply_ite State.kept, State.compress_kept, State.crsCnt_kept, State.updSlot_kept, *] | split | with_reducible refine (foldl_kept _ _ _ (fun u _ => ?_)).trans ?_)
  all_goals grind only [kept_mk, kept_fold, State.compress_kept, State.placeIn_kept, State.crsCnt_kept, State.updSlot_kept, State.placeOne_kept]

theorem State.placeRmw_kept (s : State) (id : Nat) (r : Rmw) (cmp : Bool) : (State.placeRmw s id r cmp).kept = s.kept := by
  unfold State.placeRmw
  repeat' (first | (extract_lets +onlyGivenNames t; first | (refine kept_via (t := t) ?_ (fun ht => ?_); rotate_left; clear_value t; rotate_left; simp only [t]) | clear_value t) | simp only [kept_mk, kept_fold, State.compress_kept, *] | split | with_reducible refine (foldl_kept _ _ _ (fun u _ => ?_)).trans ?_)
  all_goals grind only [kept_mk, kept_fold, State.compress_kept, State.placeIn_kept]

theorem State.startRmw_kept (s : State) (c nsid e lba : Nat) (marks : List Nat) (cmp : Bool)
    : (State.startRmw s c nsid e lba marks cmp).kept = s.kept := by
  unfold State.startRmw
  repeat' (first | (extract_lets +onlyGivenNames t; first | (refine kept_via (t := t) ?_ (fun ht => ?_); rotate_left; clear_value t; rotate_left; simp only [t]) | clear_value t) | simp only [kept_mk, kept_fold, apply_ite State.kept, ite_self, State.mapCnt_kept, State.placeRmw_kept, *] | split | with_reducible refine (foldl_kept _ _ _ (fun u _ => ?_)).trans ?_)
  all_goals grind only [kept_mk, kept_fold, State.mapCnt_kept, State.placeRmw_kept]

theorem State.placeStitch_kept (s : State) (c nsid : Nat) (n : Ns) (first count handle : Nat) (cmp : Bool) (o : CmpOutcome)
    : (State.placeStitch s c nsid n first count handle cmp o).kept = s.kept := by
  unfold State.placeStitch
  repeat' (first | simp only [apply_ite State.kept, State.startRmw_kept, State.arm_kept,
                          State.placeExtent_kept] | split | with_reducible refine (foldl_kept _ _ _ (fun u _ => ?_)).trans ?_)
  all_goals grind only [kept_mk, kept_fold, State.nextCourse_kept, State.startRmw_kept, State.arm_kept, State.placeExtent_kept]

theorem State.placeWaiting_kept (s : State) : (State.placeWaiting s).kept = s.kept := by
  simp only [State.placeWaiting, apply_ite State.kept, ite_self, implies_true, foldl_kept, State.placeExtent_kept]

theorem State.bufferSlots_kept (s : State) (c fn nsid slba : Nat) (ds : List (Nat × Nat))
    : (State.bufferSlots s c fn nsid slba ds).kept = s.kept := by
  simp only [State.bufferSlots, kept_mk, kept_fold]

theorem State.fullyBuffered_kept (s : State) (c : Nat) : (State.fullyBuffered s c).kept = s.kept := by
  simp only [State.fullyBuffered, apply_ite State.kept, ite_self, State.updCmd_kept, State.dropStitches_kept, State.finish_kept]

theorem State.bufferWrite_kept (s : State) (c : Nat) (k : Cmd) (n : Ns) (slba nlb handle : Nat) (ds : List (Nat × Nat)) (o : CmpOutcome)
    : (State.bufferWrite s c k n slba nlb handle ds o).kept = s.kept := by
  simp only [State.bufferWrite, kept_mk, kept_fold, apply_ite State.kept, ite_self, implies_true, foldl_kept, State.bufferSlots_kept,
      State.qenCnt_kept, State.placeStitch_kept, State.fullyBuffered_kept, State.noteStaging_kept]

theorem State.unpark_kept (s : State) (c : Nat) : (State.unpark s c).kept = s.kept := by
  simp only [State.unpark, kept_mk, kept_fold, implies_true, foldl_kept, State.qenCnt_kept]

theorem execWrite_kept (cmd : Nat) (data : List HostSlot) (cmp : CmpOutcome) (s : State) : Keeps s (execWrite cmd data cmp s) := by
  unfold execWrite
  repeat' (first | simp only [apply_ite State.kept, ite_self, State.failWrite_kept, State.rclCnt_kept, State.holdWrite_kept, State.cmpCnt_kept,
                          State.unpark_kept, State.bufferWrite_kept] | split | with_reducible refine onNs_keeps _ _ _ _ (fun u v => ?_) | with_reducible refine (foldl_kept _ _ _ (fun u _ => ?_)).trans ?_)

theorem execWriteZeroes_kept (cmd : Nat) (s : State) : Keeps s (execWriteZeroes cmd s) := by
  unfold execWriteZeroes
  repeat' (first | simp only [apply_ite State.kept, ite_self, State.failWrite_kept, State.rclCnt_kept, State.holdWrite_kept, State.unpark_kept,
                          State.bufferWrite_kept] | split | with_reducible refine onNs_keeps _ _ _ _ (fun u v => ?_) | with_reducible refine (foldl_kept _ _ _ (fun u _ => ?_)).trans ?_)

theorem execCmpBypassTimeout_kept (slot : Nat) (s : State) : Keeps s (execCmpBypassTimeout slot s) := by
  unfold execCmpBypassTimeout
  repeat' (first | simp only [State.setFlag_kept, State.cmpCnt_kept,
                          State.placeExtent_kept] | split | with_reducible refine onTimer_keeps _ _ _ (fun u => ?_) | with_reducible refine (foldl_kept _ _ _ (fun u _ => ?_)).trans ?_)

theorem State.markApplied_kept (s : State) (ids : List Nat) (g : Nat) : (State.markApplied s ids g).kept = s.kept := by
  simp only [State.markApplied, implies_true, foldl_kept, State.updSlot_kept]

theorem State.applyExtent_kept (s : State) (e : Nat) (ps : List (Nat × BufSlot)) : (State.applyExtent s e ps).1.kept = s.kept := by
  unfold State.applyExtent
  repeat' (first | (extract_lets +onlyGivenNames t; first | (refine kept_via (t := t) ?_ (fun ht => ?_); rotate_left; clear_value t; rotate_left; simp only [t]) | clear_value t) | simp only [State.setWhole_kept, State.putFines_kept, State.mapCnt_kept, State.setSlots_kept, *] | split | with_reducible refine (foldl_kept _ _ _ (fun u _ => ?_)).trans ?_)
  all_goals grind only [kept_mk, kept_fold, State.setWhole_kept, State.putFines_kept, State.mapCnt_kept, State.setSlots_kept]

theorem State.settleCmd_kept (s : State) (c : Nat) : (State.settleCmd s c).kept = s.kept := by
  unfold State.settleCmd
  repeat' (first | simp only [kept_mk, kept_fold, apply_ite State.kept, ite_self, State.unlock_kept] | split)

theorem State.applyUnit_kept (s : State) (c nsid unit : Nat) : (s.applyUnit c nsid unit).kept = s.kept := by
  unfold State.applyUnit
  split
  · rfl
  · simp only [State.settleCmd_kept, State.markApplied_kept, State.batch_kept]
    refine foldl_kept_fst _ _ _ (fun acc i => ?_)
    split
    · repeat' split
      all_goals first | exact State.startRmw_kept .. | exact State.applyExtent_kept ..
    · rfl

theorem State.writeBack_kept (s : State) (id : Nat) (r : Rmw) : (State.writeBack s id r).kept = s.kept := by
  unfold State.writeBack
  repeat' (first | (extract_lets +onlyGivenNames t; first | (refine kept_via (t := t) ?_ (fun ht => ?_); rotate_left; clear_value t; rotate_left; simp only [t]) | clear_value t) | simp only [kept_mk, kept_fold, apply_ite State.kept, ite_self, State.setWhole_kept, State.putFines_kept, State.mapCnt_kept, State.batch_kept, State.markApplied_kept, State.settleCmd_kept, State.updCmd_kept, *] | split | with_reducible refine (foldl_kept _ _ _ (fun u _ => ?_)).trans ?_)
  all_goals grind only [kept_mk, kept_fold, State.setWhole_kept, State.putFines_kept, State.mapCnt_kept, State.batch_kept, State.markApplied_kept,
      State.settleCmd_kept, State.updCmd_kept]

theorem execWriteBufferUe_kept (cmd lba : Nat) (s : State) : Keeps s (execWriteBufferUe cmd lba s) := by
  unfold execWriteBufferUe
  repeat' (first | (extract_lets +onlyGivenNames t; first | (refine keeps_via (t := t) ?_ (fun ht => ?_); rotate_left; clear_value t; rotate_left; simp only [t]) | clear_value t) | simp only [kept_mk, kept_fold, Keeps_next, Keeps_fault, State.failWrite_kept, State.updSlot_kept, State.event_kept, State.updCmd_kept, *] | split | with_reducible refine (foldl_kept _ _ _ (fun u _ => ?_)).trans ?_)
  all_goals grind only [kept_mk, kept_fold, State.failWrite_kept, State.updSlot_kept, State.event_kept, State.updCmd_kept]

theorem State.replaceSlots_kept (s : State) (b : Nat) (slc : Bool) (row : Nat) : (State.replaceSlots s b slc row).kept = s.kept := by
  simp only [State.replaceSlots, implies_true, foldl_kept, State.updSlot_kept, State.placeRmw_kept, State.crsCnt_kept, State.placeWaiting_kept]

theorem State.blockFailed_kept (s : State) (n : Nat) (c : Course) (m : Member) (row : Nat) : (State.blockFailed s n c m row).kept = s.kept := by
  simp only [State.blockFailed, apply_ite State.kept, ite_self, State.opEnd_kept, State.updBlk_kept, State.setFlag_kept, State.pfLog_kept,
      State.event_kept, State.crsCnt_kept, State.addSat_kept, State.batch_kept, State.updCourse_kept, State.queueVictim_kept]

theorem State.earlyIfDropped_kept (s : State) (n : Nat) : (State.earlyIfDropped s n).kept = s.kept := by
  unfold State.earlyIfDropped
  repeat' (first | (extract_lets +onlyGivenNames t; first | (refine kept_via (t := t) ?_ (fun ht => ?_); rotate_left; clear_value t; rotate_left; simp only [t]) | clear_value t) | simp only [apply_ite State.kept, ite_self, State.updCourse_kept, State.padTo_kept, State.closeCourse_kept, *] | split | with_reducible refine (foldl_kept _ _ _ (fun u _ => ?_)).trans ?_)
  all_goals grind only [kept_mk, kept_fold, State.updCourse_kept, State.padTo_kept, State.closeCourse_kept]

theorem State.dataFail_kept (s : State) (n : Nat) (c : Course) (pos : Nat) (m : Member) : (State.dataFail s n c pos m).kept = s.kept := by
  simp only [State.dataFail, State.blockFailed_kept, State.updCourse_kept, State.crsCnt_kept, State.replaceSlots_kept, State.earlyIfDropped_kept]

theorem execProgramFail_kept (course pos : Nat) (s : State) : Keeps s (execProgramFail course pos s) := by
  unfold execProgramFail
  repeat' (first | simp only [implies_true, Keeps_fault, guarded_kept, State.dataFail_kept] | split)

theorem State.parityFail_kept (s : State) (n : Nat) (c : Course) (pos : Nat) (m : Member) : (State.parityFail s n c pos m).kept = s.kept := by
  simp only [State.parityFail, implies_true, foldl_kept, State.blockFailed_kept, State.updCourse_kept, State.replaceSlots_kept,
      State.closeCourse_kept]

theorem execParityProgramFail_kept (course pos : Nat) (s : State) : Keeps s (execParityProgramFail course pos s) := by
  unfold execParityProgramFail
  repeat' (first | simp only [implies_true, Keeps_fault, guarded_kept, State.parityFail_kept] | split)

theorem execParityAccumulatorUe_kept (course : Nat) (s : State) : Keeps s (execParityAccumulatorUe course s) := by
  unfold execParityAccumulatorUe
  repeat' (first | simp only [implies_true, guarded_kept, State.crsCnt_kept] | split)

theorem onPf_keeps (s : State) (c : Nat) (k : Cmd → State) (h : ∀ x, (k x).kept = s.kept) : Keeps s (onPf s c k) := by
  refine onAdmin_keeps _ _ _ (fun x => ?_); split
  · exact h x
  · exact State.finish_kept ..

theorem State.endNsIo_kept (s : State) (nsid : Option Nat) (st : Status) : (State.endNsIo s nsid st).kept = s.kept := by
  simp only [State.endNsIo, implies_true, foldl_kept, State.failWrite_kept]

theorem State.dropNsSlots_kept (s : State) (nsid : Option Nat) : (State.dropNsSlots s nsid).kept = s.kept := by
  simp only [State.dropNsSlots, kept_mk, kept_fold]

theorem State.clearNs_kept (s : State) (n : Ns) : (s.clearNs n).kept = s.kept := by
  unfold State.clearNs
  simp only [State.batch_kept]
  refine foldl_kept_fst _ _ _ (fun acc g => ?_)
  simp only [State.deallocWhole_kept]

theorem State.cryptoStart_kept (s : State) (nsids : List Nat) (why : Nat) : (State.cryptoStart s nsids why).kept = s.kept := by
  simp only [State.cryptoStart, kept_mk, kept_fold]

theorem State.newSeed_kept (s : State) (nsid : Nat) : (State.newSeed s nsid).kept = s.kept := by
  simp only [State.newSeed, kept_mk, kept_fold, State.draw_kept, State.secCnt_kept]

theorem State.seedsBack_kept (s : State) : (State.seedsBack s).kept = s.kept := by
  simp only [State.seedsBack, apply_ite State.kept, ite_self, State.undegrade_kept]

theorem State.cryptoStep_kept (s : State) : (State.cryptoStep s).kept = s.kept := by
  simp only [State.cryptoStep, kept_mk, kept_fold, apply_ite State.kept, ite_self, implies_true, foldl_kept, State.newSeed_kept,
      State.seedsBack_kept, State.cfsRequest_kept]

theorem State.nsChanged_kept (s : State) (nsid : Nat) (fns : List Nat) : (State.nsChanged s nsid fns).kept = s.kept := by
  simp only [State.nsChanged, apply_ite State.kept, ite_self, implies_true, foldl_kept, State.updFunc_kept, State.asyncEvent_kept]

theorem execNamespaceCreate_kept (cmd nsze ncap lbaf pi : Nat) (piFirst : Bool) (handles : List Nat) (s : State)
    : Keeps s (execNamespaceCreate cmd nsze ncap lbaf pi piFirst handles s) := by
  unfold execNamespaceCreate
  repeat' (first | (extract_lets +onlyGivenNames t; first | (refine keeps_via (t := t) ?_ (fun ht => ?_); rotate_left; clear_value t; rotate_left; simp only [t]) | clear_value t) | simp only [kept_mk, kept_fold, State.finish_kept, State.newSeed_kept, State.cfsRequest_kept, State.mapCnt_kept, State.updCmd_kept, *] | split | with_reducible refine onPf_keeps _ _ _ (fun u => ?_) | with_reducible refine (foldl_kept _ _ _ (fun u _ => ?_)).trans ?_)
  all_goals grind only [kept_mk, kept_fold, State.finish_kept, State.compress_kept, State.newSeed_kept, State.cfsRequest_kept, State.mapCnt_kept,
      State.updCmd_kept]

theorem State.closeWindows_kept (s : State) (nsid : Nat) : (State.closeWindows s nsid).kept = s.kept := by
  simp only [State.closeWindows, kept_mk, kept_fold, implies_true, foldl_kept, State.cfsRequest_kept, State.setFld_kept]

theorem State.deleteNs_kept (s : State) (nsid : Nat) : (State.deleteNs s nsid).kept = s.kept := by
  unfold State.deleteNs
  repeat' (first | (extract_lets +onlyGivenNames t; first | (refine kept_via (t := t) ?_ (fun ht => ?_); rotate_left; clear_value t; rotate_left; simp only [t]) | clear_value t) | simp only [kept_mk, kept_fold, implies_true, foldl_kept, State.endNsIo_kept, State.dropNsSlots_kept, State.clearNs_kept, State.updFunc_kept, State.nsChanged_kept, State.closeWindows_kept, State.mapCnt_kept, *] | split | with_reducible refine (foldl_kept _ _ _ (fun u _ => ?_)).trans ?_)
  all_goals grind only [kept_mk, kept_fold, State.endNsIo_kept, State.dropNsSlots_kept, State.clearNs_kept, State.updFunc_kept, State.nsChanged_kept,
      State.closeWindows_kept, State.mapCnt_kept]

theorem execNamespaceDelete_kept (cmd : Nat) (s : State) : Keeps s (execNamespaceDelete cmd s) := by
  unfold execNamespaceDelete
  repeat' (first | simp only [apply_ite State.kept, ite_self, implies_true, foldl_kept, State.finish_kept, State.deleteNs_kept,
                          State.cryptoStart_kept, State.updCmd_kept,
                          State.cryptoStep_kept] | split | with_reducible refine onPf_keeps _ _ _ (fun u => ?_) | with_reducible refine (foldl_kept _ _ _ (fun u _ => ?_)).trans ?_)

theorem execNamespaceAttachment_kept (cmd : Nat) (attach : Bool) (controllers : List Nat) (s : State)
    : Keeps s (execNamespaceAttachment cmd attach controllers s) := by
  unfold execNamespaceAttachment
  repeat' (first | (extract_lets +onlyGivenNames t; first | (refine keeps_via (t := t) ?_ (fun ht => ?_); rotate_left; clear_value t; rotate_left; simp only [t]) | clear_value t) | simp only [apply_ite State.kept, ite_self, implies_true, foldl_kept, State.finish_kept, State.updFunc_kept, State.nsChanged_kept, *] | split | with_reducible refine onPf_keeps _ _ _ (fun u => ?_) | with_reducible refine (foldl_kept _ _ _ (fun u _ => ?_)).trans ?_)
  all_goals grind only [kept_mk, kept_fold, State.finish_kept, State.updFunc_kept, State.nsChanged_kept]

theorem State.formatRun_kept (s : State) (ids : List Nat) (ses : Nat) : (State.formatRun s ids ses).kept = s.kept := by
  unfold State.formatRun
  repeat' (first | simp only [kept_mk, kept_fold, apply_ite State.kept, ite_self, State.dropNsSlots_kept, State.clearNs_kept,
                          State.closeWindows_kept, State.cryptoStart_kept] | split | with_reducible refine (foldl_kept _ _ _ (fun u _ => ?_)).trans ?_)

theorem State.formatStep_kept (s : State) : (State.formatStep s).kept = s.kept := by
  unfold State.formatStep
  repeat' (first | simp only [apply_ite State.kept, ite_self, State.formatEnd_kept] | split)

theorem State.formatBegin_kept (s : State) (cmd ses lbaf pi : Nat) (piFirst : Bool) (nsid : Nat) (ids : List Nat)
    : (State.formatBegin s cmd ses lbaf pi piFirst nsid ids).kept = s.kept := by
  simp only [State.formatBegin, kept_mk, kept_fold, implies_true, foldl_kept, State.endNsIo_kept]

theorem execFormatNvm_kept (cmd ses lbaf pi : Nat) (piFirst : Bool) (s : State) : Keeps s (execFormatNvm cmd ses lbaf pi piFirst s) := by
  unfold execFormatNvm
  repeat' (first | simp only [apply_ite State.kept, ite_self, State.superGate_kept, State.finish_kept, State.formatBegin_kept, State.formatRun_kept,
                          State.updCmd_kept, State.cryptoStep_kept,
                          State.formatStep_kept] | split | with_reducible refine onPf_keeps _ _ _ (fun u => ?_) | with_reducible refine (foldl_kept _ _ _ (fun u _ => ?_)).trans ?_)

theorem execFormatProgressRecord_kept (progress : Nat) (s : State) : Keeps s (execFormatProgressRecord progress s) := by
  unfold execFormatProgressRecord
  repeat' (first | simp only [kept_mk, kept_fold, implies_true, guarded_kept, State.cfsRequest_kept] | split)

theorem State.recordSanitize_kept (s : State) : (State.recordSanitize s).kept = s.kept := by
  simp only [State.recordSanitize, State.cfsRequest_kept]

theorem State.clearAll_kept (s : State) : (State.clearAll s).kept = s.kept := by
  simp only [State.clearAll, implies_true, foldl_kept, State.clearNs_kept]

theorem State.sanitizeBegin_kept (s : State) (action passes pattern : Nat) (invert noDealloc : Bool)
    : (State.sanitizeBegin s action passes pattern invert noDealloc).kept = s.kept := by
  simp only [State.sanitizeBegin, kept_mk, kept_fold, State.endNsIo_kept, State.dropNsSlots_kept, State.recordSanitize_kept]

theorem State.sanitizeErase_kept (s : State) (action : Nat) : (State.sanitizeErase s action).kept = s.kept := by
  simp only [State.sanitizeErase, apply_ite State.kept, ite_self, implies_true, foldl_kept, State.clearAll_kept, State.cryptoStart_kept,
      State.updCourse_kept, State.closeCourse_kept]

theorem execSanitize_kept (cmd action passes pattern : Nat) (invert noDealloc : Bool) (s : State)
    : Keeps s (execSanitize cmd action passes pattern invert noDealloc s) := by
  unfold execSanitize
  repeat' (first | simp only [State.superGate_kept, State.finish_kept, State.sanitizeBegin_kept, State.sanitizeErase_kept,
                          State.cryptoStep_kept] | split | with_reducible refine onPf_keeps _ _ _ (fun u => ?_) | with_reducible refine (foldl_kept _ _ _ (fun u _ => ?_)).trans ?_)

theorem execSanitizeProgressRecord_kept (progress : Nat) (s : State) : Keeps s (execSanitizeProgressRecord progress s) := by
  unfold execSanitizeProgressRecord
  repeat' (first | simp only [kept_mk, kept_fold, implies_true, guarded_kept, State.recordSanitize_kept] | split)

theorem State.overwritten_kept (s : State) : (State.overwritten s).kept = s.kept := by
  simp only [State.overwritten, kept_mk, kept_fold, apply_ite State.kept, ite_self, State.clearAll_kept]

theorem execSanitizeOperationEnd_kept (ok : Bool) (s : State) : Keeps s (execSanitizeOperationEnd ok s) := by
  unfold execSanitizeOperationEnd
  repeat' (first | simp only [kept_mk, kept_fold, apply_ite State.kept, ite_self, implies_true, State.overwritten_kept, guarded_kept,
                          State.recordSanitize_kept] | split)

end Sys2Proof.Machine
end

