-- ==== Sys2Proof/Laws/KeptFlash.lean ====
section
/-! SUPPORT. The queue, the maker key and the cast-on area through the lifeline, erasure, reads, reclamation and the flash channels. -/

namespace Sys2Proof.Machine

set_option linter.unusedTactic false
set_option linter.unreachableTactic false
set_option linter.unusedSimpArgs false

theorem State.setCopy_kept (s : State) (i : Nat) (j : JCopy) : (State.setCopy s i j).kept = s.kept := by
  simp only [State.setCopy, kept_mk, kept_fold, apply_ite State.kept, ite_self]

theorem State.formJournal_kept (s : State) (copy skein q : Nat) : (State.formJournal s copy skein q).2.kept = s.kept := by
  unfold State.formJournal
  repeat' (first | simp only [State.openCourse_kept, State.lifCnt_kept, State.noteF_kept] | split)

theorem State.formAhead_kept (s : State) (copy : Nat) : (State.formAhead s copy).kept = s.kept := by
  simp only [State.formAhead, State.formJournal_kept, State.setCopy_kept]

theorem State.switchCopy_kept (s : State) (copy n skein q first : Nat) : (State.switchCopy s copy n skein q first).kept = s.kept := by
  simp only [State.switchCopy, apply_ite State.kept, ite_self, State.closeCourse_kept, State.setCopy_kept]

theorem State.nextCopyCourse_kept (s : State) (copy first : Nat) : (State.nextCopyCourse s copy first).kept = s.kept := by
  unfold State.nextCopyCourse
  repeat' (first | simp only [State.switchCopy_kept, State.formJournal_kept] | split)

theorem State.writeRows_kept (s : State) (copy rows first : Nat) : (State.writeRows s copy rows first).kept = s.kept := by
  simp only [State.writeRows, apply_ite State.kept, ite_self, State.nextCopyCourse_kept, State.setCopy_kept, State.formAhead_kept]

theorem State.noteSkeins_kept (s : State) : (State.noteSkeins s).kept = s.kept := by
  simp only [State.noteSkeins, apply_ite State.kept, ite_self, State.degrade_kept, State.undegrade_kept]

theorem State.noteJournal_kept (s : State) : (State.noteJournal s).kept = s.kept := by
  simp only [State.noteJournal, apply_ite State.kept, ite_self, State.setFlag_kept, State.lifCnt_kept, State.arm_kept, State.clrFlag_kept]

theorem State.releaseJournal_kept (s : State) : (State.releaseJournal s).kept = s.kept := by
  simp only [State.releaseJournal, kept_mk, kept_fold, State.lifCnt_kept]

theorem State.writeAnchor_kept (s : State) (clean : Bool) : (State.writeAnchor s clean).kept = s.kept := by
  simp only [State.writeAnchor, kept_mk, kept_fold, State.cfsRequest_kept, State.arm_kept]

theorem State.freeReleased_kept (s : State) : (State.freeReleased s).kept = s.kept := by
  unfold State.freeReleased
  repeat' (first | simp only [kept_mk, kept_fold, State.courseEmpty_kept] | split | with_reducible refine (foldl_kept _ _ _ (fun u _ => ?_)).trans ?_)

theorem State.tendJournal_kept (s : State) : (State.tendJournal s).kept = s.kept := by
  simp only [State.tendJournal, apply_ite State.kept, ite_self, State.freeReleased_kept, State.releaseJournal_kept, State.noteJournal_kept,
      State.writeAnchor_kept]

theorem execAnchorTimer_kept (s : State) : Keeps s (execAnchorTimer s) := by
  unfold execAnchorTimer
  repeat' (first | simp only [State.tendJournal_kept, State.writeAnchor_kept] | split | with_reducible refine onTimer_keeps _ _ _ (fun u => ?_) | with_reducible refine (foldl_kept _ _ _ (fun u _ => ?_)).trans ?_)

theorem State.releaseSlots_kept (s : State) : (State.releaseSlots s).kept = s.kept := by
  simp only [State.releaseSlots, kept_mk, kept_fold]

theorem State.finishGroup_kept (s : State) : (State.finishGroup s).kept = s.kept := by
  simp only [State.finishGroup, apply_ite State.kept, ite_self, implies_true, foldl_kept, State.qenCnt_kept, State.finish_kept, State.unlock_kept]

theorem State.finishDurable_kept (s : State) : (State.finishDurable s).kept = s.kept := by
  simp only [State.finishDurable, implies_true, foldl_kept, State.finishWrite_kept]

theorem State.freeGranulesStep_kept (s : State) : (State.freeGranulesStep s).kept = s.kept := by
  simp only [State.freeGranulesStep, kept_mk, kept_fold]

theorem State.consumeDump_kept (s : State) : (State.consumeDump s).kept = s.kept := by
  simp only [State.consumeDump, kept_mk, kept_fold, apply_ite State.kept, ite_self, implies_true, foldl_kept, State.courseEmpty_kept,
      State.cfsRequest_kept, State.formDump_kept, State.protCheck_kept]

theorem State.pruneKept_kept (s : State) : (State.pruneKept s).kept = s.kept := by
  simp only [State.pruneKept, kept_mk, kept_fold, implies_true, foldl_kept, State.courseEmpty_kept]

theorem State.noteGroup_kept (s : State) (n : Nat) : (State.noteGroup s n).kept = s.kept := by
  simp only [State.noteGroup, State.setWord_kept, State.setFld_kept]

theorem State.cleanStopped_kept (s : State) : (State.cleanStopped s).kept = s.kept := by
  unfold State.cleanStopped
  repeat' (first | simp only [kept_mk, kept_fold, State.writeAnchor_kept, State.lifCnt_kept, State.setFlag_kept, State.cfsRequest_kept] | split)

theorem State.pruneEmptied_kept (s : State) : (State.pruneEmptied s).kept = s.kept := by
  simp only [State.pruneEmptied, kept_mk, kept_fold]

theorem State.afterCommit_kept (s : State) : (State.afterCommit s).kept = s.kept := by
  simp only [State.afterCommit, State.releaseSlots_kept, State.finishGroup_kept, State.finishDurable_kept, State.freeGranulesStep_kept,
      State.cryptoStep_kept, State.formatStep_kept, State.consumeDump_kept, State.pruneKept_kept, State.pruneEmptied_kept, State.tendJournal_kept]

theorem State.joinStreams_kept (s : State) : (State.joinStreams s).kept = s.kept := by
  simp only [State.joinStreams, apply_ite State.kept, ite_self, State.cmpCnt_kept, State.setCopy_kept]

theorem State.commitGroup_kept (s : State) (g : Group) (rowsA rowsB : Nat) : (State.commitGroup s g rowsA rowsB).kept = s.kept := by
  simp only [State.commitGroup, kept_mk, kept_fold, apply_ite State.kept, ite_self, State.writeRows_kept, State.joinStreams_kept, State.lifCnt_kept,
      State.cmpCnt_kept, State.emitBlocks_kept, State.noteGroup_kept, State.afterCommit_kept, State.cleanStopped_kept]

theorem execGroupCommit_kept (rowsA rowsB : Nat) (s : State) : Keeps s (execGroupCommit rowsA rowsB s) := by
  unfold execGroupCommit
  repeat' (first | simp only [implies_true, Keeps_fault, guarded_kept, State.commitGroup_kept] | split)

theorem State.copyError_kept (s : State) (copy cause gseq : Nat) : (State.copyError s copy cause gseq).kept = s.kept := by
  simp only [State.copyError, State.setFld_kept, State.setFlag_kept, State.event_kept]

theorem State.moveCopy_kept (s : State) (copy : Nat) : (State.moveCopy s copy).kept = s.kept := by
  simp only [State.moveCopy, State.updCourse_kept, State.formJournal_kept, State.switchCopy_kept, State.noteSkeins_kept]

theorem State.journalBlockFailed_kept (s : State) (m : Member) (row : Nat) : (State.journalBlockFailed s m row).kept = s.kept := by
  simp only [State.journalBlockFailed, State.updBlk_kept, State.setFlag_kept, State.pfLog_kept, State.event_kept, State.crsCnt_kept,
      State.addSat_kept, State.batch_kept]

theorem execJournalCopyFail_kept (copy pos : Nat) (s : State) : Keeps s (execJournalCopyFail copy pos s) := by
  unfold execJournalCopyFail
  repeat' (first | simp only [implies_true, Keeps_fault, guarded_kept, State.copyError_kept, State.lifCnt_kept, State.journalBlockFailed_kept,
                          State.moveCopy_kept] | split)

theorem State.reserveRun_kept (s : State) (n k : Nat) : ∀ a b t, s.reserveRun n k = some (a, b, t) → t.kept = s.kept := by
  intro a b t h
  simp only [State.reserveRun, Option.bind_eq_some_iff, Option.map_eq_some_iff] at h
  obtain ⟨c, _, x, _, e⟩ := h
  cases e
  simp only [State.rowTimers_kept, State.crsCnt_kept, kept_mk, kept_fold]

theorem State.placeSystem_kept (s : State) (k most : Nat) : ∀ a b t, s.placeSystem k most = some (a, b, t) → t.kept = s.kept := by
  intro a b t h
  unfold State.placeSystem at h
  simp only [] at h
  split at h
  · next r hr =>
    cases h
    obtain ⟨p, _, e⟩ := List.exists_of_findSome?_eq_some hr
    exact State.reserveRun_kept _ _ _ _ _ _ e
  · split at h
    · cases h
    · obtain ⟨x, hx, e⟩ := Option.bind_eq_some_iff.1 h
      exact (State.reserveRun_kept _ _ _ _ _ _ e).trans (State.courseFor_kept _ _ _ _ _ _ _ _ hx)

theorem State.startCkpt_kept (s : State) (num len most : Nat) : (State.startCkpt s num len most).kept = s.kept := by
  unfold State.startCkpt
  repeat' (first | simp only [kept_mk, kept_fold, State.cmpCnt_kept,
                          State.emitBlocks_kept] | split | with_reducible refine (foldl_kept _ _ _ (fun u _ => ?_)).trans ?_)
  all_goals grind only [kept_mk, kept_fold, State.placeSystem_kept, State.cmpCnt_kept, State.emitBlocks_kept]

theorem State.markUnchanged_kept (s : State) (num : Nat) : (State.markUnchanged s num).kept = s.kept := by
  unfold State.markUnchanged
  repeat' (first | (extract_lets +onlyGivenNames t; first | (refine kept_via (t := t) ?_ (fun ht => ?_); rotate_left; clear_value t; rotate_left; simp only [t]) | clear_value t) | simp only [kept_mk, kept_fold, State.batch_kept, State.lifCnt_kept, *] | split | with_reducible refine (foldl_kept _ _ _ (fun u _ => ?_)).trans ?_)
  all_goals grind only [kept_mk, kept_fold, State.batch_kept, State.lifCnt_kept]

theorem State.nextCkpt_kept (s : State) : (State.nextCkpt s).2.kept = s.kept := by
  unfold State.nextCkpt
  repeat' (first | (extract_lets +onlyGivenNames t; first | (refine kept_via (t := t) ?_ (fun ht => ?_); rotate_left; clear_value t; rotate_left; simp only [t]) | clear_value t) | simp only [kept_mk, kept_fold, apply_ite State.kept, ite_self, State.setFld_kept, State.addWrap_kept, *] | split | with_reducible refine (foldl_kept _ _ _ (fun u _ => ?_)).trans ?_)
  all_goals grind only [kept_mk, kept_fold, State.setFld_kept, State.addWrap_kept]

theorem execCheckpointInterval_kept (len : Nat) (s : State) : Keeps s (execCheckpointInterval len s) := by
  unfold execCheckpointInterval
  repeat' (first | (extract_lets +onlyGivenNames t; first | (refine keeps_via (t := t) ?_ (fun ht => ?_); rotate_left; clear_value t; rotate_left; simp only [t]) | clear_value t) | simp only [apply_ite State.kept, ite_self, State.startCkpt_kept, State.lifCnt_kept, State.nextCkpt_kept, State.markUnchanged_kept, State.arm_kept, *] | split | with_reducible refine onTimer_keeps _ _ _ (fun u => ?_) | with_reducible refine (foldl_kept _ _ _ (fun u _ => ?_)).trans ?_)
  all_goals grind only [kept_mk, kept_fold, State.startCkpt_kept, State.lifCnt_kept, State.nextCkpt_kept, State.markUnchanged_kept, State.arm_kept]

theorem State.markCkpt_kept (s : State) (c : Ckpt) : (State.markCkpt s c).kept = s.kept := by
  simp only [State.markCkpt, kept_mk, kept_fold, apply_ite State.kept, ite_self, State.batch_kept, State.lifCnt_kept, State.pruneKept_kept]

theorem execCheckpointMark_kept (num : Nat) (s : State) : Keeps s (execCheckpointMark num s) := by
  unfold execCheckpointMark
  repeat' (first | simp only [implies_true, Keeps_fault, guarded_kept, State.markCkpt_kept] | split)

theorem State.lcErase_kept (s : State) : (State.lcErase s).kept = s.kept := by
  unfold State.lcErase
  repeat' (first | simp only [kept_mk, kept_fold, apply_ite State.kept, ite_self, State.dropNsSlots_kept, State.clearAll_kept,
                          State.cryptoStart_kept, State.cryptoStep_kept] | split)

theorem execCleanStop_kept (len : Nat) (s : State) : Keeps s (execCleanStop len s) := by
  unfold execCleanStop
  repeat' (first | simp only [apply_ite State.kept, ite_self, implies_true, foldl_kept, State.lcErase_kept, State.padRow_kept, guarded_kept,
                          State.startCkpt_kept, State.openNew_kept, State.closeGroup_kept] | split)

theorem execEraseIssue_kept (die block : Nat) (s : State) : Keeps s (execEraseIssue die block s) := by
  unfold execEraseIssue
  repeat' (first | simp only [kept_mk, kept_fold, implies_true, guarded_kept, State.dropMedia_kept, State.arm_kept] | split)

theorem State.erasedOk_kept (s : State) (b : Nat) : (State.erasedOk s b).kept = s.kept := by
  simp only [State.erasedOk, kept_mk, kept_fold, State.updBlk_kept, State.batch_kept, State.rclCnt_kept, State.sknCnt_kept]

theorem State.eraseFailed_kept (s : State) (b : Nat) : (State.eraseFailed s b).kept = s.kept := by
  simp only [State.eraseFailed, apply_ite State.kept, ite_self, State.updBlk_kept, State.setFlag_kept, State.pfLog_kept, State.event_kept,
      State.crsCnt_kept, State.addSat_kept, State.retire_kept]

theorem execEraseComplete_kept (die : Nat) (pass : Bool) (s : State) : Keeps s (execEraseComplete die pass s) := by
  unfold execEraseComplete
  repeat' (first | simp only [State.opEnd_kept, State.erasedOk_kept,
                          State.eraseFailed_kept] | split | with_reducible refine withSome_keeps _ _ _ (fun u => ?_) | with_reducible refine (foldl_kept _ _ _ (fun u _ => ?_)).trans ?_)

theorem execOpenCheck_kept (die block : Nat) (pass : Bool) (s : State) : Keeps s (execOpenCheck die block pass s) := by
  unfold execOpenCheck
  repeat' (first | (extract_lets +onlyGivenNames t; first | (refine keeps_via (t := t) ?_ (fun ht => ?_); rotate_left; clear_value t; rotate_left; simp only [t]) | clear_value t) | simp only [apply_ite State.kept, ite_self, implies_true, guarded_kept, State.updBlk_kept, State.noteF_kept, State.placeWaiting_kept, State.setFlag_kept, State.pfLog_kept, State.event_kept, State.crsCnt_kept, State.retire_kept, *] | split | with_reducible refine (foldl_kept _ _ _ (fun u _ => ?_)).trans ?_)
  all_goals grind only [kept_mk, kept_fold, guarded_kept, State.updBlk_kept, State.noteF_kept, State.placeWaiting_kept, State.setFlag_kept,
      State.pfLog_kept, State.event_kept, State.crsCnt_kept, State.retire_kept]

theorem State.holdBack_kept (s : State) (c : Nat) : (State.holdBack s c).kept = s.kept := by
  simp only [State.holdBack, State.parkAll_kept, State.qenCnt_kept]

theorem State.segGate_kept (s : State) (c : Nat) (n : Ns) (rs : List (Nat × Nat)) : ∀ t, State.segGate s c n rs = some t → t.kept = s.kept := by
  intro t
  unfold State.segGate
  repeat' (first | (intro h; cases h; done) | (intro h; cases h) | simp only [State.failWrite_kept, State.parkAll_kept,
                          State.mapCnt_kept] | split | with_reducible refine (foldl_kept _ _ _ (fun u _ => ?_)).trans ?_)

theorem State.awaitRecorded_kept (s : State) (c : Nat) : (State.awaitRecorded s c).kept = s.kept := by
  simp only [State.awaitRecorded, apply_ite State.kept, ite_self, State.updCmd_kept, State.unlock_kept, State.finish_kept]

theorem State.deallocRanges_kept (s : State) (n : Ns) (rs : List (Nat × Nat)) : (s.deallocRanges n rs).1.kept = s.kept := by
  unfold State.deallocRanges
  refine foldl_kept_fst _ _ _ (fun acc r => ?_)
  simp only [State.deallocRange_kept]

theorem State.deallocated_kept (s : State) (cmd : Nat) (recs : List Rec) : (State.deallocated s cmd recs).kept = s.kept := by
  unfold State.deallocated
  repeat' (first | simp only [apply_ite State.kept, State.updCmd_kept, State.unlock_kept, State.finish_kept, State.batch_kept,
                          State.awaitRecorded_kept] | split)

theorem execDatasetManagement_kept (cmd : Nat) (ad : Bool) (s : State) : Keeps s (execDatasetManagement cmd ad s) := by
  unfold execDatasetManagement
  repeat' (first | simp only [apply_ite State.kept, ite_self, State.fail_kept, State.holdBack_kept, State.unpark_kept, State.deallocRanges_kept,
                          State.deallocated_kept] | split | with_reducible refine onNs_keeps _ _ _ _ (fun u v => ?_) | with_reducible refine (foldl_kept _ _ _ (fun u _ => ?_)).trans ?_)
  all_goals grind only [kept_mk, kept_fold, State.fail_kept, State.holdBack_kept, State.segGate_kept, State.unpark_kept, State.deallocRanges_kept,
      State.deallocated_kept]

theorem State.markPiece_kept (s : State) (c nsid : Nat) (n : Ns) (first count : Nat) : (State.markPiece s c nsid n first count).1.kept = s.kept := by
  unfold State.markPiece
  repeat' (first | simp only [State.startRmw_kept, State.setSlots_kept, State.mapCnt_kept] | split)

theorem State.markRange_kept (s : State) (cmd nsid : Nat) (n : Ns) (slba nlb : Nat) : (s.markRange cmd nsid n slba nlb).kept = s.kept := by
  unfold State.markRange
  simp only [apply_ite State.kept, State.updCmd_kept, State.awaitRecorded_kept, State.batch_kept, ite_self]
  refine foldl_kept_fst _ _ _ (fun acc p => ?_)
  simp only [State.markPiece_kept]

theorem execWriteUncorrectable_kept (cmd : Nat) (s : State) : Keeps s (execWriteUncorrectable cmd s) := by
  unfold execWriteUncorrectable
  repeat' (first | simp only [apply_ite State.kept, ite_self, State.fail_kept, State.rclCnt_kept, State.holdBack_kept, State.setFlag_kept,
                          State.mapCnt_kept, State.unpark_kept, State.updCmd_kept,
                          State.markRange_kept] | split | with_reducible refine onNs_keeps _ _ _ _ (fun u v => ?_) | with_reducible refine (foldl_kept _ _ _ (fun u _ => ?_)).trans ?_)
  all_goals grind only [kept_mk, kept_fold, State.fail_kept, State.rclCnt_kept, State.holdBack_kept, State.segGate_kept, State.setFlag_kept,
      State.mapCnt_kept, State.unpark_kept, State.updCmd_kept, State.markRange_kept]

theorem State.resume_kept (s : State) (id : Nat) (x : Stitch) : (State.resume s id x).kept = s.kept := by
  simp only [State.resume, kept_mk, kept_fold, apply_ite State.kept, ite_self, State.arm_kept, State.qenCnt_kept]

theorem execStitchResume_kept (stitch : Nat) (s : State) : Keeps s (execStitchResume stitch s) := by
  unfold execStitchResume
  repeat' (first | simp only [implies_true, Keeps_fault, guarded_kept, State.resume_kept] | split)

theorem State.eccCnt_kept (s : State) (n : Nat) (k : Nat) : (State.eccCnt s n k).kept = s.kept := by
  simp only [State.eccCnt, kept_mk, kept_fold, apply_ite State.kept, ite_self, State.addWrap_kept]

theorem State.refreshBlock_kept (s : State) (b : Nat) : (State.refreshBlock s b).kept = s.kept := by
  simp only [State.refreshBlock, State.eccCnt_kept, State.queueVictim_kept]

theorem State.countRead_kept (s : State) (b : Nat) : (State.countRead s b).kept = s.kept := by
  simp only [State.countRead, apply_ite State.kept, ite_self, State.updBlk_kept, State.queueVictim_kept]

theorem State.noteLevel_kept (s : State) (b level : Nat) : (State.noteLevel s b level).kept = s.kept := by
  simp only [State.noteLevel, kept_mk, kept_fold, State.updBlk_kept]

theorem State.noteSynd_kept (s : State) (b w : Nat) : (State.noteSynd s b w).kept = s.kept := by
  simp only [State.noteSynd, kept_mk, kept_fold, apply_ite State.kept, ite_self, State.updBlk_kept]

theorem State.slowLog_kept (s : State) (event die : Nat) : (State.slowLog s event die).kept = s.kept := by
  simp only [State.slowLog, State.shiftLog_kept, State.setFld_kept, State.stamp_kept]

theorem State.holdSlow_kept (s : State) (d : Nat) : (State.holdSlow s d).kept = s.kept := by
  simp only [State.holdSlow, kept_mk, kept_fold, State.arm_kept]

theorem State.classSlow_kept (s : State) (d : Nat) : (State.classSlow s d).kept = s.kept := by
  simp only [State.classSlow, State.setFlag_kept, State.slowLog_kept, State.event_kept, State.eccCnt_kept, State.holdSlow_kept, State.arm_kept]

theorem State.countMiss_kept (s : State) (d : Nat) : (State.countMiss s d).kept = s.kept := by
  simp only [State.countMiss, kept_mk, kept_fold, apply_ite State.kept, ite_self, State.holdSlow_kept, State.classSlow_kept]

theorem State.releaseSlow_kept (s : State) (d : Nat) : (State.releaseSlow s d).kept = s.kept := by
  simp only [State.releaseSlow, kept_mk, kept_fold, State.cancel_kept, State.slowLog_kept, State.event_kept, State.eccCnt_kept]

theorem execSlowDieHoldExpiry_kept (die : Nat) (s : State) : Keeps s (execSlowDieHoldExpiry die s) := by
  unfold execSlowDieHoldExpiry
  repeat' (first | simp only [apply_ite State.kept, ite_self,
                          State.releaseSlow_kept] | split | with_reducible refine onTimer_keeps _ _ _ (fun u => ?_) | with_reducible refine (foldl_kept _ _ _ (fun u _ => ?_)).trans ?_)

theorem State.releaseAllSlow_kept (s : State) : (State.releaseAllSlow s).kept = s.kept := by
  simp only [State.releaseAllSlow, implies_true, foldl_kept, State.releaseSlow_kept]

theorem execSlowProbeTimer_kept (die tr total : Nat) (s : State) : Keeps s (execSlowProbeTimer die tr total s) := by
  unfold execSlowProbeTimer
  repeat' (first | simp only [apply_ite State.kept, ite_self, State.eccCnt_kept, State.sknCnt_kept, State.arm_kept,
                          State.countMiss_kept] | split | with_reducible refine onTimer_keeps _ _ _ (fun u => ?_) | with_reducible refine (foldl_kept _ _ _ (fun u _ => ?_)).trans ?_)

theorem State.deliverSlot_kept (s : State) (c lba data : Nat) : (State.deliverSlot s c lba data).kept = s.kept := by
  simp only [State.deliverSlot, apply_ite State.kept, ite_self, State.updCmd_kept, State.send_kept]

theorem State.noteFailure_kept (s : State) (c : Nat) (st : Status) : (State.noteFailure s c st).kept = s.kept := by
  simp only [State.noteFailure, State.updCmd_kept]

theorem State.noteBad_kept (s : State) (c lba : Nat) : (State.noteBad s c lba).kept = s.kept := by
  simp only [State.noteBad, State.updCmd_kept]

theorem State.endFailed_kept (s : State) (c : Nat) (k : Cmd) (st : Status) : (State.endFailed s c k st).kept = s.kept := by
  simp only [State.endFailed, kept_mk, kept_fold, apply_ite State.kept, ite_self, State.eccCnt_kept, State.updFunc_kept, State.failWrite_kept]

theorem State.copyWrite_kept (s : State) (c : Nat) (k : Cmd) : (State.copyWrite s c k).kept = s.kept := by
  unfold State.copyWrite
  repeat' (first | (extract_lets +onlyGivenNames t; first | (refine kept_via (t := t) ?_ (fun ht => ?_); rotate_left; clear_value t; rotate_left; simp only [t]) | clear_value t) | simp only [kept_mk, kept_fold, State.failWrite_kept, State.bufferWrite_kept, *] | split | with_reducible refine (foldl_kept _ _ _ (fun u _ => ?_)).trans ?_)
  all_goals grind only [kept_mk, kept_fold, State.failWrite_kept, State.bufferWrite_kept]

theorem State.readsDone_kept (s : State) (c : Nat) : (State.readsDone s c).kept = s.kept := by
  unfold State.readsDone
  repeat' (first | simp only [apply_ite State.kept, ite_self, State.endFailed_kept, State.copyWrite_kept, State.updCmd_kept, State.unlock_kept,
                          State.finish_kept] | split)

theorem State.updCw_kept (s : State) (r : Nat) (f : CwRead → CwRead) : (State.updCw s r f).kept = s.kept := by
  simp only [State.updCw, kept_mk, kept_fold]

theorem State.dropCw_kept (s : State) (r : Nat) (x : CwRead) : (State.dropCw s r x).kept = s.kept := by
  simp only [State.dropCw, kept_mk, kept_fold, State.cancel_kept]

theorem State.abandonCw_kept (s : State) (r : Nat) (x : CwRead) (st : Status) : (State.abandonCw s r x st).kept = s.kept := by
  simp only [State.abandonCw, implies_true, foldl_kept, State.dropCw_kept, State.noteBad_kept, State.noteFailure_kept, State.readsDone_kept]

theorem State.atL6_kept (s : State) (r : Nat) (x : CwRead) (cause : Nat) : (State.atL6 s r x cause).kept = s.kept := by
  simp only [State.atL6, State.setFld_kept, State.setFlag_kept, State.eccCnt_kept, State.event_kept, State.abandonCw_kept]

theorem State.rebuild_kept (s : State) (r : Nat) (x : CwRead) (why : Nat) : (State.rebuild s r x why).kept = s.kept := by
  simp only [State.rebuild, State.cancel_kept, State.updCw_kept, State.eccCnt_kept]

theorem State.newCw_kept (s : State) (c stitch nsid lba psa frame index : Nat) : (State.newCw s c stitch nsid lba psa frame index).kept = s.kept := by
  simp only [State.newCw, kept_mk, kept_fold, apply_ite State.kept, ite_self, State.rebuild_kept, State.eccCnt_kept, State.addWrap_kept]

theorem State.resolveSlot_kept (s : State) (c nsid : Nat) (n : Ns) (lba : Nat) : (State.resolveSlot s c nsid n lba).kept = s.kept := by
  unfold State.resolveSlot
  repeat' (first | simp only [apply_ite State.kept, ite_self, implies_true, foldl_kept, State.noteBad_kept, State.noteFailure_kept,
                          State.mapCnt_kept, State.deliverSlot_kept, State.newCw_kept] | split)

theorem State.countLookups_kept (s : State) (n : Ns) (slba nlb : Nat) : (State.countLookups s n slba nlb).kept = s.kept := by
  unfold State.countLookups
  repeat' (first | simp only [State.countLookup_kept] | split | with_reducible refine (foldl_kept _ _ _ (fun u _ => ?_)).trans ?_)

theorem State.readRanges_kept (s : State) (c nsid : Nat) (n : Ns) (rs : List (Nat × Nat)) : (State.readRanges s c nsid n rs).kept = s.kept := by
  simp only [State.readRanges, implies_true, foldl_kept, State.countLookups_kept, State.unpark_kept, State.resolveSlot_kept, State.readsDone_kept]

theorem State.readGate_kept (s : State) (c : Nat) (k : Cmd) (n : Ns) (rs : List (Nat × Nat)) (go : State) (h : go.kept = s.kept)
    : (s.readGate c k n rs go).kept = s.kept := by
  unfold State.readGate
  repeat' split
  all_goals first | exact State.failWrite_kept .. | rfl | exact State.holdBack_kept .. | exact h | (apply State.segGate_kept; assumption)

theorem execRead_kept (cmd : Nat) (s : State) : Keeps s (execRead cmd s) := by
  unfold execRead
  repeat' (first | simp only [kept_mk, kept_fold, apply_ite State.kept, ite_self, State.fail_kept, State.readGate_kept,
                          State.readRanges_kept] | split | with_reducible refine onNs_keeps _ _ _ _ (fun u v => ?_) | with_reducible refine (foldl_kept _ _ _ (fun u _ => ?_)).trans ?_)

theorem execVerify_kept (cmd : Nat) (s : State) : Keeps s (execVerify cmd s) := by
  unfold execVerify
  repeat' (first | simp only [apply_ite State.kept, ite_self, State.fail_kept, State.readGate_kept,
                          State.readRanges_kept] | split | with_reducible refine onNs_keeps _ _ _ _ (fun u v => ?_) | with_reducible refine (foldl_kept _ _ _ (fun u _ => ?_)).trans ?_)

theorem execCompare_kept (cmd : Nat) (data : List HostSlot) (s : State) : Keeps s (execCompare cmd data s) := by
  unfold execCompare
  repeat' (first | (extract_lets +onlyGivenNames t; first | (refine keeps_via (t := t) ?_ (fun ht => ?_); rotate_left; clear_value t; rotate_left; simp only [t]) | clear_value t) | simp only [apply_ite State.kept, ite_self, State.fail_kept, State.noteFailure_kept, State.readGate_kept, State.readRanges_kept, *] | split | with_reducible refine onNs_keeps _ _ _ _ (fun u v => ?_) | with_reducible refine (foldl_kept _ _ _ (fun u _ => ?_)).trans ?_)
  all_goals grind only [kept_mk, kept_fold, State.fail_kept, State.noteFailure_kept, State.readGate_kept, State.readRanges_kept]

theorem execCopy_kept (cmd : Nat) (s : State) : Keeps s (execCopy cmd s) := by
  unfold execCopy
  repeat' (first | (extract_lets +onlyGivenNames t; first | (refine keeps_via (t := t) ?_ (fun ht => ?_); rotate_left; clear_value t; rotate_left; simp only [t]) | clear_value t) | simp only [kept_mk, kept_fold, apply_ite State.kept, ite_self, State.failWrite_kept, State.rclCnt_kept, State.holdWrite_kept, State.readGate_kept, State.readRanges_kept, *] | split | with_reducible refine onNs_keeps _ _ _ _ (fun u v => ?_) | with_reducible refine (foldl_kept _ _ _ (fun u _ => ?_)).trans ?_)
  all_goals grind only [kept_mk, kept_fold, State.failWrite_kept, State.rclCnt_kept, State.holdWrite_kept, State.readGate_kept, State.readRanges_kept]

theorem State.suspendFor_kept (s : State) (d level : Nat) : (State.suspendFor s d level).kept = s.kept := by
  unfold State.suspendFor
  repeat' (first | (extract_lets +onlyGivenNames t; first | (refine kept_via (t := t) ?_ (fun ht => ?_); rotate_left; clear_value t; rotate_left; simp only [t]) | clear_value t) | simp only [kept_mk, kept_fold, apply_ite State.kept, ite_self, State.setFlag_kept, State.cancel_kept, State.eccCnt_kept, State.sknCnt_kept, *] | split | with_reducible refine (foldl_kept _ _ _ (fun u _ => ?_)).trans ?_)
  all_goals grind only [kept_mk, kept_fold, State.setFlag_kept, State.cancel_kept, State.eccCnt_kept, State.sknCnt_kept]

theorem State.resumeOp_kept (s : State) (d : Nat) : (State.resumeOp s d).kept = s.kept := by
  unfold State.resumeOp
  repeat' (first | simp only [kept_mk, kept_fold, apply_ite State.kept, ite_self, State.sknCnt_kept, State.arm_kept] | split)

theorem execPageReadIssue_kept (read : Nat) (s : State) : Keeps s (execPageReadIssue read s) := by
  unfold execPageReadIssue
  repeat' (first | (extract_lets +onlyGivenNames t; first | (refine keeps_via (t := t) ?_ (fun ht => ?_); rotate_left; clear_value t; rotate_left; simp only [t]) | clear_value t) | simp only [apply_ite State.kept, ite_self, implies_true, Keeps_fault, guarded_kept, State.rebuild_kept, State.eccCnt_kept, State.updCw_kept, State.sknCnt_kept, State.countRead_kept, State.arm_kept, State.suspendFor_kept, *] | split | with_reducible refine (foldl_kept _ _ _ (fun u _ => ?_)).trans ?_)
  all_goals grind only [kept_mk, kept_fold, guarded_kept, State.rebuild_kept, State.eccCnt_kept, State.updCw_kept, State.sknCnt_kept,
      State.countRead_kept, State.arm_kept, State.suspendFor_kept]

theorem execCodewordArrival_kept (read : Nat) (erased : Bool) (s : State) : Keeps s (execCodewordArrival read erased s) := by
  unfold execCodewordArrival
  repeat' (first | simp only [kept_mk, kept_fold, apply_ite State.kept, ite_self, implies_true, Keeps_next, State.eccCnt_kept, guarded_kept,
                          State.cancel_kept, State.sknCnt_kept, State.atL6_kept, State.updCw_kept, State.rebuild_kept, State.resumeOp_kept] | split)

theorem execTailCutDeadline_kept (read : Nat) (s : State) : Keeps s (execTailCutDeadline read s) := by
  unfold execTailCutDeadline
  repeat' (first | (extract_lets +onlyGivenNames t; first | (refine keeps_via (t := t) ?_ (fun ht => ?_); rotate_left; clear_value t; rotate_left; simp only [t]) | clear_value t) | simp only [kept_mk, kept_fold, apply_ite State.kept, ite_self, State.rebuild_kept, State.eccCnt_kept, State.countMiss_kept, State.resumeOp_kept, *] | split | with_reducible refine onTimer_keeps _ _ _ (fun u => ?_) | with_reducible refine (foldl_kept _ _ _ (fun u _ => ?_)).trans ?_)
  all_goals grind only [kept_mk, kept_fold, State.rebuild_kept, State.eccCnt_kept, State.countMiss_kept, State.resumeOp_kept]

theorem execTlerLimit_kept (read : Nat) (s : State) : Keeps s (execTlerLimit read s) := by
  unfold execTlerLimit
  repeat' (first | simp only [State.eccCnt_kept, State.atL6_kept,
                          State.resumeOp_kept] | split | with_reducible refine onTimer_keeps _ _ _ (fun u => ?_) | with_reducible refine (foldl_kept _ _ _ (fun u _ => ?_)).trans ?_)

theorem State.climb_kept (s : State) (r : Nat) (x : CwRead) : (State.climb s r x).kept = s.kept := by
  simp only [State.climb, apply_ite State.kept, ite_self, State.updCw_kept, State.atL6_kept, State.rebuild_kept, State.sknCnt_kept]

theorem State.checkEnds_kept (s : State) (r : Nat) (x : CwRead) (check : Nat) : (State.checkEnds s r x check).kept = s.kept := by
  unfold State.checkEnds
  repeat' (first | (extract_lets +onlyGivenNames t; first | (refine kept_via (t := t) ?_ (fun ht => ?_); rotate_left; clear_value t; rotate_left; simp only [t]) | clear_value t) | simp only [apply_ite State.kept, State.setFld_kept, State.setFlag_kept, State.eccCnt_kept, State.event_kept, State.stall_kept, State.abandonCw_kept, *] | split | with_reducible refine (foldl_kept _ _ _ (fun u _ => ?_)).trans ?_)
  all_goals grind only [kept_mk, kept_fold, State.setFld_kept, State.setFlag_kept, State.eccCnt_kept, State.event_kept, State.stall_kept,
      State.abandonCw_kept]

theorem State.passCw_kept (s : State) (r : Nat) (x : CwRead) (pi : Nat) : (State.passCw s r x pi).kept = s.kept := by
  unfold State.passCw
  repeat' (first | (extract_lets +onlyGivenNames t; first | (refine kept_via (t := t) ?_ (fun ht => ?_); rotate_left; clear_value t; rotate_left; simp only [t]) | clear_value t) | simp only [apply_ite State.kept, implies_true, foldl_kept, State.noteFailure_kept, State.deliverSlot_kept, State.dropCw_kept, State.readsDone_kept, State.updCw_kept, State.cmpCnt_kept, *] | split | with_reducible refine (foldl_kept _ _ _ (fun u _ => ?_)).trans ?_)
  all_goals grind only [kept_mk, kept_fold, State.noteFailure_kept, State.deliverSlot_kept, State.dropCw_kept, State.readsDone_kept,
      State.updCw_kept, State.cmpCnt_kept]

theorem State.noteCheck_kept (s : State) (check : Nat) : (State.noteCheck s check).kept = s.kept := by
  simp only [State.noteCheck, apply_ite State.kept, ite_self, State.eccCnt_kept, State.draw_kept, State.rejectFrame_kept]

theorem State.decoded_kept (s : State) (r : Nat) (x : CwRead) (check pi : Nat) : (State.decoded s r x check pi).kept = s.kept := by
  simp only [State.decoded, apply_ite State.kept, ite_self, implies_true, foldl_kept, State.eccCnt_kept, State.refreshBlock_kept, State.passCw_kept,
      State.noteCheck_kept, State.checkEnds_kept, State.rebuild_kept]

theorem execDecodeComplete_kept (read : Nat) (ok : Bool) (synd level check pi : Nat) (s : State)
    : Keeps s (execDecodeComplete read ok synd level check pi s) := by
  unfold execDecodeComplete
  repeat' (first | simp only [apply_ite State.kept, ite_self, implies_true, Keeps_fault, State.noteSynd_kept, guarded_kept, State.noteLevel_kept,
                          State.decoded_kept, State.climb_kept] | split)

theorem State.rebuildFailed_kept (s : State) (r : Nat) (x : CwRead) : (State.rebuildFailed s r x).kept = s.kept := by
  simp only [State.rebuildFailed, apply_ite State.kept, ite_self, State.setFlag_kept, State.eccCnt_kept, State.atL6_kept, State.updCw_kept]

theorem execReconstructionComplete_kept (read lost check pi : Nat) (s : State) : Keeps s (execReconstructionComplete read lost check pi s) := by
  unfold execReconstructionComplete
  repeat' (first | simp only [apply_ite State.kept, ite_self, implies_true, Keeps_fault, guarded_kept, State.rebuildFailed_kept,
                          State.noteCheck_kept, State.checkEnds_kept, State.eccCnt_kept, State.refreshBlock_kept, State.passCw_kept] | split)

theorem State.queueBest_kept (n : Nat) (s : State) : (State.queueBest n s).kept = s.kept := by
  induction n generalizing s
  · first | rfl | (intro a t h; cases h)
  rename_i n ih
  unfold State.queueBest
  repeat' (first | simp only [State.queueVictim_kept] | split | exact ih .. | exact (ih ..).trans (by assumption) | refine (ih ..).trans ?_ | with_reducible refine (foldl_kept _ _ _ (fun u _ => ?_)).trans ?_)

theorem execVictimSelect_kept (s : State) : Keeps s (execVictimSelect s) := by
  unfold execVictimSelect
  repeat' (first | simp only [Keeps_next, State.queueBest_kept] | split)

theorem execCourseAgeRefresh_kept (course : Nat) (s : State) : Keeps s (execCourseAgeRefresh course s) := by
  unfold execCourseAgeRefresh
  repeat' (first | simp only [implies_true, Keeps_fault, guarded_kept, State.queueVictim_kept] | split)

theorem State.markLost_kept (s : State) (e slot psa count : Nat) : (State.markLost s e slot psa count).kept = s.kept := by
  unfold State.markLost
  repeat' (first | (extract_lets +onlyGivenNames t; first | (refine kept_via (t := t) ?_ (fun ht => ?_); rotate_left; clear_value t; rotate_left; simp only [t]) | clear_value t) | simp only [State.setFlag_kept, State.eccCnt_kept, State.event_kept, State.putFines_kept, State.mapCnt_kept, State.batch_kept, State.setSlots_kept, *] | split | with_reducible refine (foldl_kept _ _ _ (fun u _ => ?_)).trans ?_)
  all_goals grind only [kept_mk, kept_fold, State.setFlag_kept, State.eccCnt_kept, State.event_kept, State.putFines_kept, State.mapCnt_kept,
      State.batch_kept, State.setSlots_kept]

theorem State.placeCopy_kept (s : State) (kind : Nat) (k lba : Nat) (page : Bool) (ws : List Codeword) : ∀ a t,
    s.placeCopy kind k lba page ws = some (a, t) → t.kept = s.kept := by
  intro a t h
  unfold State.placeCopy at h
  split at h
  · obtain ⟨x, hx, e⟩ := Option.bind_eq_some_iff.1 h
    exact (State.placeSmall_kept _ _ _ _ _ _ e).trans (State.nextCourse_kept _ _ _ _ _ _ _ hx)
  · exact State.placeIn_kept _ _ _ _ _ _ _ _ h

theorem State.addCopy_kept (s : State) (c : Copy) : (State.addCopy s c).kept = s.kept := by
  simp only [State.addCopy, kept_mk, kept_fold]

theorem State.copyUnit_kept (s : State) (course reason kind : Nat) (bad : List Nat) (u : Nat × Nat × Nat × Nat × Bool × Bool)
    : (State.copyUnit s course reason kind bad u).kept = s.kept := by
  unfold State.copyUnit
  repeat' (first | simp only [apply_ite State.kept, ite_self, implies_true, foldl_kept, State.markLost_kept,
                          State.addCopy_kept] | split | with_reducible refine (foldl_kept _ _ _ (fun u _ => ?_)).trans ?_)
  all_goals grind only [kept_mk, kept_fold, State.markLost_kept, State.placeCopy_kept, State.addCopy_kept]

theorem State.seamStart_kept (s : State) (e : Nat) (bad : List Nat) : (State.seamStart s e bad).kept = s.kept := by
  unfold State.seamStart
  repeat' (first | (extract_lets +onlyGivenNames t; first | (refine kept_via (t := t) ?_ (fun ht => ?_); rotate_left; clear_value t; rotate_left; simp only [t]) | clear_value t) | simp only [apply_ite State.kept, State.markLost_kept, State.compress_kept, State.addCopy_kept, *] | split | with_reducible refine (foldl_kept _ _ _ (fun u _ => ?_)).trans ?_)
  all_goals grind only [kept_mk, kept_fold, State.markLost_kept, State.compress_kept, State.placeIn_kept, State.addCopy_kept]

theorem execSeamStart_kept (e : Nat) (bad : List Nat) (s : State) : Keeps s (execSeamStart e bad s) := by
  unfold execSeamStart
  repeat' (first | simp only [implies_true, guarded_kept, State.seamStart_kept] | split)

theorem State.copyBlocks_kept (s : State) (course reason kind : Nat) (bad : List Nat) (bs : List Nat)
    : (State.copyBlocks s course reason kind bad bs).kept = s.kept := by
  simp only [State.copyBlocks, apply_ite State.kept, ite_self, implies_true, foldl_kept, State.seamStart_kept, State.copyUnit_kept]

theorem execReclaimCopy_kept (course : Nat) (bad : List Nat) (s : State) : Keeps s (execReclaimCopy course bad s) := by
  unfold execReclaimCopy
  repeat' (first | (extract_lets +onlyGivenNames t; first | (refine keeps_via (t := t) ?_ (fun ht => ?_); rotate_left; clear_value t; rotate_left; simp only [t]) | clear_value t) | simp only [kept_mk, kept_fold, Keeps_next, Keeps_fault, State.copyBlocks_kept, *] | split | with_reducible refine (foldl_kept _ _ _ (fun u _ => ?_)).trans ?_)
  all_goals grind only [kept_mk, kept_fold, State.copyBlocks_kept]

theorem execDestageMove_kept (course : Nat) (bad : List Nat) (s : State) : Keeps s (execDestageMove course bad s) := by
  unfold execDestageMove
  repeat' (first | simp only [implies_true, Keeps_fault, guarded_kept, State.copyBlocks_kept] | split)

theorem State.applyMove_kept (s : State) (c : Copy) : (State.applyMove s c).kept = s.kept := by
  unfold State.applyMove
  repeat' (first | simp only [State.putExt_kept, State.putFines_kept] | split)

theorem State.afterMove_kept (s : State) (c : Copy) : (State.afterMove s c).kept = s.kept := by
  unfold State.afterMove
  repeat' (first | (extract_lets +onlyGivenNames t; first | (refine kept_via (t := t) ?_ (fun ht => ?_); rotate_left; clear_value t; rotate_left; simp only [t]) | clear_value t) | simp only [apply_ite State.kept, ite_self, implies_true, foldl_kept, State.updCourse_kept, State.retire_kept, State.fdpEvent_kept, State.queueVictim_kept, State.rclCnt_kept, *] | split | with_reducible refine (foldl_kept _ _ _ (fun u _ => ?_)).trans ?_)
  all_goals grind only [kept_mk, kept_fold, State.updCourse_kept, State.retire_kept, State.fdpEvent_kept, State.queueVictim_kept, State.rclCnt_kept]

theorem State.countCopy_kept (s : State) (c : Copy) : (State.countCopy s c).kept = s.kept := by
  simp only [State.countCopy, apply_ite State.kept, ite_self, State.crsCnt_kept, State.rclCnt_kept]

theorem State.moveCommit_kept (s : State) (id : Nat) (c : Copy) : (State.moveCommit s id c).kept = s.kept := by
  simp only [State.moveCommit, kept_mk, kept_fold, apply_ite State.kept, ite_self, State.batch_kept, State.applyMove_kept, State.mapCnt_kept,
      State.countCopy_kept, State.afterMove_kept]

theorem State.seamCommit_kept (s : State) (id : Nat) (c : Copy) : (State.seamCommit s id c).kept = s.kept := by
  simp only [State.seamCommit, kept_mk, kept_fold, apply_ite State.kept, ite_self, State.putExt_kept, State.batch_kept, State.mapCnt_kept,
      State.addSat_kept]

theorem State.commitCopy_kept (s : State) (id : Nat) (c : Copy) : (State.commitCopy s id c).kept = s.kept := by
  simp only [State.commitCopy, kept_mk, kept_fold, apply_ite State.kept, ite_self, State.seamCommit_kept, State.moveCommit_kept]

theorem execMoveCommit_kept (copy : Nat) (s : State) : Keeps s (execMoveCommit copy s) := by
  unfold execMoveCommit
  repeat' (first | simp only [implies_true, Keeps_fault, guarded_kept, State.commitCopy_kept] | split)

theorem execSeamCommit_kept (copy : Nat) (s : State) : Keeps s (execSeamCommit copy s) := by
  unfold execSeamCommit
  repeat' (first | simp only [implies_true, Keeps_fault, guarded_kept, State.commitCopy_kept] | split)

theorem State.applyHeld_kept (s : State) (h : HeldUpd) : (State.applyHeld s h).kept = s.kept := by
  unfold State.applyHeld
  repeat' (first | simp only [apply_ite State.kept, ite_self, State.applyUnit_kept, State.commitCopy_kept, State.writeBack_kept, State.mapCnt_kept,
                          State.placeRmw_kept] | split)

theorem State.loseUnit_kept (s : State) (c nsid unit : Nat) : (State.loseUnit s c nsid unit).kept = s.kept := by
  unfold State.loseUnit
  repeat' (first | (extract_lets +onlyGivenNames t; first | (refine kept_via (t := t) ?_ (fun ht => ?_); rotate_left; clear_value t; rotate_left; simp only [t]) | clear_value t) | simp only [kept_mk, kept_fold, apply_ite State.kept, ite_self, implies_true, foldl_kept, State.updCmd_kept, State.event_kept, State.settleCmd_kept, State.finishDurable_kept, *] | split | with_reducible refine (foldl_kept _ _ _ (fun u _ => ?_)).trans ?_)
  all_goals grind only [kept_mk, kept_fold, State.updCmd_kept, State.event_kept, State.settleCmd_kept, State.finishDurable_kept]

theorem State.discardHeld_kept (s : State) (h : HeldUpd) : (State.discardHeld s h).kept = s.kept := by
  unfold State.discardHeld
  repeat' (first | simp only [kept_mk, kept_fold, State.loseUnit_kept] | split)

theorem execMapUnitApply_kept (cmd nsid unit : Nat) (s : State) : Keeps s (execMapUnitApply cmd nsid unit s) := by
  unfold execMapUnitApply
  repeat' (first | simp only [kept_mk, kept_fold, apply_ite State.kept, ite_self, implies_true, guarded_kept, State.loseUnit_kept,
                          State.applyUnit_kept] | split)

theorem execRmwWriteback_kept (job : Nat) (bad : List Nat) (s : State) : Keeps s (execRmwWriteback job bad s) := by
  unfold execRmwWriteback
  repeat' (first | (extract_lets +onlyGivenNames t; first | (refine keeps_via (t := t) ?_ (fun ht => ?_); rotate_left; clear_value t; rotate_left; simp only [t]) | clear_value t) | simp only [kept_mk, kept_fold, apply_ite State.kept, ite_self, implies_true, Keeps_fault, guarded_kept, State.discardHeld_kept, State.mapCnt_kept, State.placeRmw_kept, State.writeBack_kept, *] | split | with_reducible refine (foldl_kept _ _ _ (fun u _ => ?_)).trans ?_)
  all_goals grind only [kept_mk, kept_fold, State.compress_kept, guarded_kept, State.discardHeld_kept, State.mapCnt_kept, State.placeRmw_kept,
      State.writeBack_kept]

theorem execSegmentRecoveryComplete_kept (ok : Bool) (replayed : Nat) (s : State) : Keeps s (execSegmentRecoveryComplete ok replayed s) := by
  unfold execSegmentRecoveryComplete
  repeat' (first | (extract_lets +onlyGivenNames t; first | (refine keeps_via (t := t) ?_ (fun ht => ?_); rotate_left; clear_value t; rotate_left; simp only [t]) | clear_value t) | simp only [kept_mk, kept_fold, apply_ite State.kept, ite_self, implies_true, foldl_kept, Keeps_next, Keeps_fault, State.framesRead_kept, State.putSat_kept, State.event_kept, State.mapCnt_kept, State.applyHeld_kept, State.setFlag_kept, State.degrade_kept, State.discardHeld_kept, State.failWrite_kept, *] | split | with_reducible refine (foldl_kept _ _ _ (fun u _ => ?_)).trans ?_)
  all_goals grind only [kept_mk, kept_fold, State.framesRead_kept, State.putSat_kept, State.event_kept, State.mapCnt_kept, State.applyHeld_kept,
      State.setFlag_kept, State.degrade_kept, State.discardHeld_kept, State.failWrite_kept]

theorem execIoManagementReceive_kept (cmd mo : Nat) (s : State) : Keeps s (execIoManagementReceive cmd mo s) := by
  unfold execIoManagementReceive
  repeat' (first | simp only [State.fail_kept, State.send_kept,
                          State.finish_kept] | split | with_reducible refine onNs_keeps _ _ _ _ (fun u v => ?_) | with_reducible refine (foldl_kept _ _ _ (fun u _ => ?_)).trans ?_)

theorem State.updateHandle_kept (s : State) (h : Nat) : (State.updateHandle s h).kept = s.kept := by
  simp only [State.updateHandle, implies_true, foldl_kept, State.updCourse_kept, State.padTo_kept, State.fdpEvent_kept, State.crsCnt_kept]

theorem execReclaimUnitHandleUpdate_kept (cmd : Nat) (handles : List Nat) (s : State) : Keeps s (execReclaimUnitHandleUpdate cmd handles s) := by
  unfold execReclaimUnitHandleUpdate
  repeat' (first | simp only [apply_ite State.kept, ite_self, implies_true, foldl_kept, State.fail_kept, State.updateHandle_kept,
                          State.finish_kept] | split | with_reducible refine onNs_keeps _ _ _ _ (fun u v => ?_) | with_reducible refine (foldl_kept _ _ _ (fun u _ => ?_)).trans ?_)

theorem State.sknErr_kept (s : State) (d kind : Nat) : (State.sknErr s d kind).kept = s.kept := by
  simp only [State.sknErr, State.setFld_kept]

theorem State.readsLost_kept (s : State) (d : Nat) : (State.readsLost s d).kept = s.kept := by
  simp only [State.readsLost, apply_ite State.kept, ite_self, implies_true, foldl_kept, State.cancel_kept, State.atL6_kept, State.updCw_kept,
      State.rebuild_kept]

theorem State.setChan_kept (s : State) (c : Nat) (x : Chan) : (State.setChan s c x).kept = s.kept := by
  simp only [State.setChan, kept_mk, kept_fold]

theorem State.checkChan_kept (s : State) (c : Nat) : (State.checkChan s c).kept = s.kept := by
  simp only [State.checkChan, apply_ite State.kept, ite_self, State.setChan_kept]

theorem State.opFails_kept (s : State) (d : Nat) : (State.opFails s d).kept = s.kept := by
  unfold State.opFails
  repeat' (first | simp only [apply_ite State.kept, ite_self, State.opEnd_kept, State.eraseFailed_kept, State.parityFail_kept,
                          State.dataFail_kept] | split)

theorem State.takeOut_kept (s : State) (d reason : Nat) : (State.takeOut s d reason).kept = s.kept := by
  simp only [State.takeOut, kept_mk, kept_fold, State.opFails_kept, State.cancel_kept, State.dieOut_kept, State.readsLost_kept, State.checkChan_kept]

theorem State.lunGone_kept (s : State) (d : Nat) : (State.lunGone s d).kept = s.kept := by
  simp only [State.lunGone, State.setFlag_kept, State.sknErr_kept, State.eventFrom_kept, State.takeOut_kept]

theorem State.lunReset_kept (s : State) (d kind : Nat) : (State.lunReset s d kind).kept = s.kept := by
  simp only [State.lunReset, kept_mk, kept_fold, State.opFails_kept, State.sknCnt_kept, State.addSat_kept, State.arm_kept]

theorem State.noteTimeout_kept (s : State) (d kind : Nat) : (State.noteTimeout s d kind).kept = s.kept := by
  simp only [State.noteTimeout, kept_mk, kept_fold, State.setFlag_kept, State.sknErr_kept, State.sknCnt_kept, State.addSat_kept, State.eventFrom_kept]

theorem State.afterTimeout_kept (s : State) (d kind : Nat) : (State.afterTimeout s d kind).kept = s.kept := by
  simp only [State.afterTimeout, apply_ite State.kept, ite_self, State.lunGone_kept, State.lunReset_kept]

theorem execStatusPoll_kept (die : Nat) (ready : Bool) (s : State) : Keeps s (execStatusPoll die ready s) := by
  unfold execStatusPoll
  repeat' (first | simp only [kept_mk, kept_fold, apply_ite State.kept, ite_self, implies_true, State.sknCnt_kept, guarded_kept,
                          State.cancel_kept] | split)

theorem State.trainFrom_kept (s : State) (c top rate : Nat) : (State.trainFrom s c top rate).kept = s.kept := by
  simp only [State.trainFrom, apply_ite State.kept, ite_self, implies_true, foldl_kept, State.addSat_kept, State.sknErr_kept, State.setFlag_kept,
      State.setChan_kept, State.takeOut_kept, State.addWrap_kept]

theorem State.trainFull_kept (s : State) (c rate : Nat) : (State.trainFull s c rate).kept = s.kept := by
  simp only [State.trainFull, State.trainFrom_kept]

theorem State.trainAgain_kept (s : State) (c rate : Nat) : (State.trainAgain s c rate).kept = s.kept := by
  simp only [State.trainAgain, State.trainFrom_kept]

theorem State.retrain_kept (s : State) (c : Nat) : (State.retrain s c).kept = s.kept := by
  simp only [State.retrain, apply_ite State.kept, ite_self, State.draw_kept, State.trainFull_kept]

theorem execFlashOpTimeout_kept (die kind obj rate : Nat) (s : State) : Keeps s (execFlashOpTimeout die kind obj rate s) := by
  unfold execFlashOpTimeout
  repeat' (first | (extract_lets +onlyGivenNames t; first | (refine keeps_via (t := t) ?_ (fun ht => ?_); rotate_left; clear_value t; rotate_left; simp only [t]) | clear_value t) | simp only [apply_ite State.kept, ite_self, implies_true, Keeps_next, State.noteTimeout_kept, State.cancel_kept, State.countMiss_kept, State.atL6_kept, State.updCw_kept, State.rebuild_kept, State.afterTimeout_kept, State.opFails_kept, guarded_kept, State.trainAgain_kept, *] | split | with_reducible refine onTimer_keeps _ _ _ (fun u => ?_) | with_reducible refine (foldl_kept _ _ _ (fun u _ => ?_)).trans ?_)
  all_goals grind only [kept_mk, kept_fold, State.noteTimeout_kept, State.cancel_kept, State.countMiss_kept, State.atL6_kept, State.updCw_kept,
      State.rebuild_kept, State.afterTimeout_kept, State.opFails_kept, guarded_kept, State.trainAgain_kept]

theorem execLunResetTimeout_kept (die : Nat) (s : State) : Keeps s (execLunResetTimeout die s) := by
  unfold execLunResetTimeout
  repeat' (first | simp only [State.lunGone_kept] | split | with_reducible refine onTimer_keeps _ _ _ (fun u => ?_) | with_reducible refine (foldl_kept _ _ _ (fun u _ => ?_)).trans ?_)

theorem execZqShortTimer_kept (skein : Nat) (s : State) : Keeps s (execZqShortTimer skein s) := by
  unfold execZqShortTimer
  repeat' (first | simp only [apply_ite State.kept, ite_self, State.arm_kept,
                          State.addWrap_kept] | split | with_reducible refine onTimer_keeps _ _ _ (fun u => ?_) | with_reducible refine (foldl_kept _ _ _ (fun u _ => ?_)).trans ?_)

theorem execTempRetrain_kept (skein tj : Nat) (failed : List (Nat × Nat)) (s : State) : Keeps s (execTempRetrain skein tj failed s) := by
  unfold execTempRetrain
  repeat' (first | simp only [apply_ite State.kept, ite_self, implies_true, foldl_kept, State.setTemp_kept, State.setFld_kept, State.addWrap_kept,
                          guarded_kept, State.trainAgain_kept] | split)

theorem execSkeinLinkStall_kept (skein : Nat) (s : State) : Keeps s (execSkeinLinkStall skein s) := by
  unfold execSkeinLinkStall
  repeat' (first | (extract_lets +onlyGivenNames t; first | (refine keeps_via (t := t) ?_ (fun ht => ?_); rotate_left; clear_value t; rotate_left; simp only [t]) | clear_value t) | simp only [kept_mk, kept_fold, apply_ite State.kept, ite_self, implies_true, State.addSat_kept, State.addWrap_kept, State.setFlag_kept, State.arm_kept, State.eventFrom_kept, guarded_kept, *] | split | with_reducible refine (foldl_kept _ _ _ (fun u _ => ?_)).trans ?_)
  all_goals grind only [kept_mk, kept_fold, State.addSat_kept, State.addWrap_kept, State.setFlag_kept, State.arm_kept, State.eventFrom_kept,
      guarded_kept]

theorem State.linkBack_kept (s : State) (k : Nat) : (State.linkBack s k).kept = s.kept := by
  simp only [State.linkBack, kept_mk, kept_fold, State.putSat_kept, State.cancel_kept]

theorem execSkeinLinkRecovered_kept (skein : Nat) (rates : List (Nat × Nat)) (s : State) : Keeps s (execSkeinLinkRecovered skein rates s) := by
  unfold execSkeinLinkRecovered
  repeat' (first | simp only [apply_ite State.kept, ite_self, implies_true, foldl_kept, State.linkBack_kept,
                          State.trainFull_kept] | split | with_reducible refine withSome_keeps _ _ _ (fun u => ?_) | with_reducible refine (foldl_kept _ _ _ (fun u _ => ?_)).trans ?_)

theorem State.resetSkein_kept (s : State) (k : Nat) : (State.resetSkein s k).kept = s.kept := by
  simp only [State.resetSkein, kept_mk, kept_fold, implies_true, foldl_kept, State.opFails_kept]

theorem execSkeinLinkDownLong_kept (skein : Nat) (s : State) : Keeps s (execSkeinLinkDownLong skein s) := by
  unfold execSkeinLinkDownLong
  repeat' (first | simp only [Keeps_next, State.cancel_kept, State.resetSkein_kept] | split | with_reducible refine onTimer_keeps _ _ _ (fun u => ?_) | with_reducible refine (foldl_kept _ _ _ (fun u _ => ?_)).trans ?_)

theorem State.copyOffSkein_kept (s : State) (copy k : Nat) : (State.copyOffSkein s copy k).kept = s.kept := by
  simp only [State.copyOffSkein, apply_ite State.kept, ite_self, State.moveCopy_kept]

theorem State.skeinGone_kept (s : State) (k : Nat) : (State.skeinGone s k).kept = s.kept := by
  simp only [State.skeinGone, implies_true, foldl_kept, State.setFlag_kept, State.cancel_kept, State.eventFrom_kept, State.degrade_kept,
      State.takeOut_kept, State.copyOffSkein_kept, State.noteSkeins_kept, State.protCheck_kept]

theorem execSkeinFailed_kept (skein : Nat) (s : State) : Keeps s (execSkeinFailed skein s) := by
  unfold execSkeinFailed
  repeat' (first | simp only [State.skeinGone_kept] | split | with_reducible refine onTimer_keeps _ _ _ (fun u => ?_) | with_reducible refine (foldl_kept _ _ _ (fun u _ => ?_)).trans ?_)

end Sys2Proof.Machine
end

