-- ==== Sys2Proof/Laws/KeptFabric.lean ====
section
/-! SUPPORT. The queue, the maker key and the cast-on area through the strand fabric, firmware, resets and the host link. -/

namespace Sys2Proof.Machine

set_option linter.unusedTactic false
set_option linter.unreachableTactic false
set_option linter.unusedSimpArgs false

theorem State.strCnt_kept (s : State) (n : Nat) (k : Nat) : (State.strCnt s n k).kept = s.kept := by
  simp only [State.strCnt, State.addWrap_kept]

theorem State.setPeer_kept (s : State) (p : Nat) (x : Peer) : (State.setPeer s p x).kept = s.kept := by
  simp only [State.setPeer, kept_mk, kept_fold]

theorem State.sendFrame_kept (s : State) (dst type seq : Nat) (data : List Nat) : (State.sendFrame s dst type seq data).kept = s.kept := by
  simp only [State.sendFrame, apply_ite State.kept, ite_self, State.send_kept, State.strCnt_kept, State.cancel_kept]

theorem State.sendReliable_kept (s : State) (dst type : Nat) (data : List Nat) : (State.sendReliable s dst type data).kept = s.kept := by
  simp only [State.sendReliable, State.setPeer_kept, State.sendFrame_kept, State.arm_kept]

theorem State.roleChanged_kept (s : State) : (State.roleChanged s).kept = s.kept := by
  simp only [State.roleChanged, State.setFlag_kept, State.asyncVendor_kept]

theorem State.endCopy_kept (s : State) (id : Nat) (c : OutCopy) (st : Status) : (State.endCopy s id c st).kept = s.kept := by
  simp only [State.endCopy, kept_mk, kept_fold, apply_ite State.kept, ite_self, State.strCnt_kept, State.unlock_kept, State.finish_kept]

theorem State.abandonCopy_kept (s : State) (id : Nat) (c : OutCopy) (st : Status) : (State.abandonCopy s id c st).kept = s.kept := by
  simp only [State.abandonCopy, State.sendReliable_kept, State.endCopy_kept]

theorem State.pump_kept (n : Nat) (p : Nat) (s : State) : (State.pump n p s).kept = s.kept := by
  induction n generalizing s p
  · first | rfl | (intro a t h; cases h)
  rename_i n ih
  unfold State.pump
  repeat' (first | (extract_lets +onlyGivenNames t; first | (refine kept_via (t := t) ?_ (fun ht => ?_); rotate_left; clear_value t; rotate_left; simp only [t]) | clear_value t) | simp only [kept_mk, kept_fold, apply_ite State.kept, ite_self, State.strCnt_kept, State.arm_kept, State.setPeer_kept, State.sendReliable_kept, *] | split | exact ih .. | exact (ih ..).trans (by assumption) | refine (ih ..).trans ?_ | with_reducible refine (foldl_kept _ _ _ (fun u _ => ?_)).trans ?_)
  all_goals grind only [kept_mk, kept_fold, State.strCnt_kept, State.arm_kept, State.setPeer_kept, State.sendReliable_kept]

theorem State.pumpAll_kept (s : State) (p : Nat) : (State.pumpAll s p).kept = s.kept := by
  simp only [State.pumpAll, State.pump_kept]

theorem State.tidyCopies_kept (s : State) : (State.tidyCopies s).kept = s.kept := by
  simp only [State.tidyCopies, implies_true, foldl_kept, State.abandonCopy_kept]

theorem State.takeHeader_kept (s : State) (h : FrameHdr) : (State.takeHeader s h).kept = s.kept := by
  simp only [State.takeHeader, apply_ite State.kept, ite_self, implies_true, foldl_kept, State.cancel_kept, State.setPeer_kept,
      State.tidyCopies_kept, State.pumpAll_kept]

theorem State.frameIn_kept (s : State) (h : FrameHdr) (memb : Bool) : (State.frameIn s h memb).2.kept = s.kept := by
  unfold State.frameIn
  repeat' (first | simp only [State.strCnt_kept, State.setFlag_kept, State.takeHeader_kept] | split)

theorem onFrame_keeps (s : State) (h : FrameHdr) (memb : Bool) (k : State → State) (hk : ∀ u,
    (k u).kept = u.kept) : Keeps s (onFrame s h memb k) := by
  refine (guarded_kept _ _ _ _).2 (fun _ => ?_); simp only []; split
  · exact (hk _).trans (State.frameIn_kept ..)
  · exact State.frameIn_kept ..

theorem State.unreachable_kept (s : State) (p : Nat) : (State.unreachable s p).kept = s.kept := by
  simp only [State.unreachable, implies_true, foldl_kept, State.cancel_kept, State.setPeer_kept, State.setFlag_kept, State.event_kept,
      State.endCopy_kept]

theorem execHold_kept (h : FrameHdr) (ms : Nat) (s : State) : Keeps s (execHold h ms s) := by
  unfold execHold
  repeat' (first | simp only [State.strCnt_kept, State.arm_kept] | split | with_reducible refine onFrame_keeps _ _ _ _ (fun u => ?_) | with_reducible refine (foldl_kept _ _ _ (fun u _ => ?_)).trans ?_)

theorem execHoldExpiry_kept (peer : Nat) (s : State) : Keeps s (execHoldExpiry peer s) := by
  unfold execHoldExpiry
  repeat' (first | simp only [] | split | with_reducible refine onTimer_keeps _ _ _ (fun u => ?_) | with_reducible refine (foldl_kept _ _ _ (fun u _ => ?_)).trans ?_)

theorem execRetransmitTimeout_kept (peer seq : Nat) (s : State) : Keeps s (execRetransmitTimeout peer seq s) := by
  unfold execRetransmitTimeout
  repeat' (first | simp only [apply_ite State.kept, ite_self, State.arm_kept, State.unreachable_kept, State.setPeer_kept, State.strCnt_kept,
                          State.sendFrame_kept] | split | with_reducible refine onTimer_keeps _ _ _ (fun u => ?_) | with_reducible refine (foldl_kept _ _ _ (fun u _ => ?_)).trans ?_)

theorem execAckDelayTimer_kept (peer : Nat) (s : State) : Keeps s (execAckDelayTimer peer s) := by
  unfold execAckDelayTimer
  repeat' (first | simp only [State.sendFrame_kept] | split | with_reducible refine onTimer_keeps _ _ _ (fun u => ?_) | with_reducible refine (foldl_kept _ _ _ (fun u _ => ?_)).trans ?_)

theorem execCreditWaitTimeout_kept (peer : Nat) (s : State) : Keeps s (execCreditWaitTimeout peer s) := by
  unfold execCreditWaitTimeout
  repeat' (first | simp only [State.unreachable_kept] | split | with_reducible refine onTimer_keeps _ _ _ (fun u => ?_) | with_reducible refine (foldl_kept _ _ _ (fun u _ => ?_)).trans ?_)

theorem execAck_kept (h : FrameHdr) (copy slots : Nat) (s : State) : Keeps s (execAck h copy slots s) := by
  unfold execAck
  repeat' (first | (extract_lets +onlyGivenNames t; first | (refine keeps_via (t := t) ?_ (fun ht => ?_); rotate_left; clear_value t; rotate_left; simp only [t]) | clear_value t) | simp only [kept_mk, kept_fold, apply_ite State.kept, ite_self, State.strCnt_kept, State.endCopy_kept, *] | split | with_reducible refine onFrame_keeps _ _ _ _ (fun u => ?_) | with_reducible refine (foldl_kept _ _ _ (fun u _ => ?_)).trans ?_)
  all_goals grind only [kept_mk, kept_fold, State.strCnt_kept, State.endCopy_kept]

theorem State.lastNak_kept (s : State) (cause win dir peer : Nat) : (State.lastNak s cause win dir peer).kept = s.kept := by
  simp only [State.lastNak, State.setFld_kept, State.setFlag_kept]

theorem execNak_kept (h : FrameHdr) (cause win copy _seq : Nat) (s : State) : Keeps s (execNak h cause win copy _seq s) := by
  unfold execNak
  repeat' (first | simp only [apply_ite State.kept, ite_self, State.lastNak_kept, State.strCnt_kept, State.abandonCopy_kept, State.setFlag_kept,
                          State.event_kept] | split | with_reducible refine onFrame_keeps _ _ _ _ (fun u => ?_) | with_reducible refine (foldl_kept _ _ _ (fun u _ => ?_)).trans ?_)

theorem execStrandCopyPush_kept (cmd path win target off : Nat) (s : State) : Keeps s (execStrandCopyPush cmd path win target off s) := by
  unfold execStrandCopyPush
  repeat' (first | (extract_lets +onlyGivenNames t; first | (refine keeps_via (t := t) ?_ (fun ht => ?_); rotate_left; clear_value t; rotate_left; simp only [t]) | clear_value t) | simp only [kept_mk, kept_fold, apply_ite State.kept, ite_self, State.fail_kept, State.strCnt_kept, State.readGate_kept, State.readRanges_kept, State.sendReliable_kept, State.pumpAll_kept, *] | split | with_reducible refine onNs_keeps _ _ _ _ (fun u v => ?_) | with_reducible refine (foldl_kept _ _ _ (fun u _ => ?_)).trans ?_)
  all_goals grind only [kept_mk, kept_fold, State.fail_kept, State.unreachable_kept, State.strCnt_kept, State.readGate_kept, State.readRanges_kept,
      State.sendReliable_kept, State.pumpAll_kept]

theorem execStrandPortLinkChange_kept (port : Nat) (up : Bool) (s : State) : Keeps s (execStrandPortLinkChange port up s) := by
  unfold execStrandPortLinkChange
  repeat' (first | (extract_lets +onlyGivenNames t; first | (refine keeps_via (t := t) ?_ (fun ht => ?_); rotate_left; clear_value t; rotate_left; simp only [t]) | clear_value t) | simp only [kept_mk, kept_fold, apply_ite State.kept, ite_self, implies_true, foldl_kept, State.addSat_kept, guarded_kept, State.sendFrame_kept, State.strCnt_kept, *] | split | with_reducible refine (foldl_kept _ _ _ (fun u _ => ?_)).trans ?_)
  all_goals grind only [kept_mk, kept_fold, State.addSat_kept, guarded_kept, State.sendFrame_kept, State.strCnt_kept]

theorem State.noteVerify_kept (s : State) (r : Nat × Nat) (ms : Nat) : (State.noteVerify s r ms).kept = s.kept := by
  simp only [State.noteVerify, apply_ite State.kept, ite_self, State.setFld_kept, State.putSat_kept, State.addWrap_kept, State.setFlag_kept,
      State.event_kept]

theorem State.fwRelease_kept (s : State) : (State.fwRelease s).kept = s.kept := by
  simp only [State.fwRelease, kept_mk, kept_fold, State.setFld_kept]

theorem execFirmwareImageDownload_kept (cmd offset length : Nat) (data : List Nat) (s : State)
    : Keeps s (execFirmwareImageDownload cmd offset length data s) := by
  unfold execFirmwareImageDownload
  repeat' (first | (extract_lets +onlyGivenNames t; first | (refine keeps_via (t := t) ?_ (fun ht => ?_); rotate_left; clear_value t; rotate_left; simp only [t]) | clear_value t) | simp only [kept_mk, kept_fold, apply_ite State.kept, ite_self, State.superGate_kept, State.finish_kept, State.fwDiscard_kept, State.setFld_kept, State.addWrap_kept, *] | split | with_reducible refine onPf_keeps _ _ _ (fun u => ?_) | with_reducible refine (foldl_kept _ _ _ (fun u _ => ?_)).trans ?_)
  all_goals grind only [kept_mk, kept_fold, State.superGate_kept, State.finish_kept, State.fwDiscard_kept, State.setFld_kept, State.addWrap_kept]

theorem State.writeSlot_kept (s : State) (k : Nat) (img : List FwPart) : (State.writeSlot s k img).kept = s.kept := by
  simp only [State.writeSlot, kept_mk, kept_fold]

theorem State.writeLoader_kept (s : State) : (State.writeLoader s).kept = s.kept := by
  unfold State.writeLoader
  repeat' (first | (extract_lets +onlyGivenNames t; first | (refine kept_via (t := t) ?_ (fun ht => ?_); rotate_left; clear_value t; rotate_left; simp only [t]) | clear_value t) | simp only [kept_mk, kept_fold, implies_true, foldl_kept, State.setArea_kept, State.cfsRequest_kept, *] | split | with_reducible refine (foldl_kept _ _ _ (fun u _ => ?_)).trans ?_)
  all_goals grind only [kept_mk, kept_fold, State.setArea_kept, State.cfsRequest_kept]

theorem State.makePending_kept (s : State) (k : Nat) : (State.makePending s k).kept = s.kept := by
  simp only [State.makePending, State.setFlag_kept, State.setFld_kept, State.cfsRequest_kept]

theorem State.activate_kept (s : State) (cmd : Option Nat) (k : Nat) : (State.activate s cmd k).kept = s.kept := by
  simp only [State.activate, kept_mk, kept_fold, State.setFlag_kept, State.clrFlag_kept, State.setFld_kept, State.asyncAll_kept, State.arm_kept,
      State.cancel_kept]

theorem State.activationOver_kept (s : State) (r : Activation) (outcome : Nat) : (State.activationOver s r outcome).kept = s.kept := by
  simp only [State.activationOver, kept_mk, kept_fold, State.clrFlag_kept, State.cancel_kept, State.setFld_kept, State.putSat_kept]

theorem State.noteVersions_kept (s : State) : (State.noteVersions s).kept = s.kept := by
  simp only [State.noteVersions, apply_ite State.kept, ite_self, implies_true, foldl_kept, State.setFld_kept]

theorem State.activateParts_kept (s : State) (r : Activation) (ms failed : Nat) : (State.activateParts s r ms failed).kept = s.kept := by
  unfold State.activateParts
  repeat' (first | (extract_lets +onlyGivenNames t; first | (refine kept_via (t := t) ?_ (fun ht => ?_); rotate_left; clear_value t; rotate_left; simp only [t]) | clear_value t) | simp only [kept_mk, kept_fold, apply_ite State.kept, State.advanceTo_kept, State.setFld_kept, State.clrFlag_kept, State.cfsRequest_kept, State.raiseSvn_kept, State.activationOver_kept, State.noteVersions_kept, State.event_kept, State.addWrap_kept, State.finish_kept, State.setFlag_kept, *] | split | with_reducible refine (foldl_kept _ _ _ (fun u _ => ?_)).trans ?_)
  all_goals grind only [kept_mk, kept_fold, State.advanceTo_kept, State.setFld_kept, State.clrFlag_kept, State.cfsRequest_kept, State.raiseSvn_kept,
      State.activationOver_kept, State.noteVersions_kept, State.event_kept, State.addWrap_kept, State.finish_kept, State.setFlag_kept]

theorem State.commitSlot_kept (s : State) (cmd slot ms : Nat) : (State.commitSlot s cmd slot ms).kept = s.kept := by
  simp only [State.commitSlot, apply_ite State.kept, ite_self, State.noteVerify_kept, State.finish_kept, State.updCmd_kept, State.makePending_kept]

theorem State.commitWrite_kept (s : State) (cmd ca slot : Nat) : (State.commitWrite s cmd ca slot).kept = s.kept := by
  simp only [State.commitWrite, apply_ite State.kept, ite_self, State.writeLoader_kept, State.writeSlot_kept, State.finish_kept, State.updCmd_kept,
      State.makePending_kept, State.activate_kept]

theorem State.commitStaged_kept (s : State) (cmd ca slot ms : Nat) : (State.commitStaged s cmd ca slot ms).kept = s.kept := by
  unfold State.commitStaged
  repeat' (first | simp only [apply_ite State.kept, State.noteVerify_kept, State.finish_kept, State.rejectFrame_kept, State.commitWrite_kept] | split)

theorem execFirmwareCommit_kept (cmd ca fs ms failed : Nat) (s : State) : Keeps s (execFirmwareCommit cmd ca fs ms failed s) := by
  unfold execFirmwareCommit
  repeat' (first | simp only [apply_ite State.kept, ite_self, State.superGate_kept, State.activateParts_kept, State.finish_kept, State.deny_kept,
                          State.fwRelease_kept, State.noteGated_kept, State.commitSlot_kept,
                          State.commitStaged_kept] | split | with_reducible refine onPf_keeps _ _ _ (fun u => ?_) | with_reducible refine (foldl_kept _ _ _ (fun u _ => ?_)).trans ?_)

theorem execActivationDrainTimeout_kept (s : State) : Keeps s (execActivationDrainTimeout s) := by
  unfold execActivationDrainTimeout
  repeat' (first | simp only [State.activationOver_kept, State.makePending_kept,
                          State.finish_kept] | split | with_reducible refine onTimer_keeps _ _ _ (fun u => ?_) | with_reducible refine (foldl_kept _ _ _ (fun u _ => ?_)).trans ?_)

theorem State.skipActivation_kept (s : State) : (State.skipActivation s).kept = s.kept := by
  simp only [State.skipActivation, kept_mk, kept_fold, State.clrFlag_kept, State.setFlag_kept, State.setFld_kept, State.cancel_kept, State.event_kept]

theorem execScheduledActivationDue_kept (ms failed : Nat) (s : State) : Keeps s (execScheduledActivationDue ms failed s) := by
  unfold execScheduledActivationDue
  repeat' (first | simp only [apply_ite State.kept, ite_self, Keeps_next, State.activateParts_kept, State.setFlag_kept, State.skipActivation_kept,
                          State.activate_kept] | split)

theorem State.armActivation_kept (s : State) (arm : Bool) (time : Nat) : (State.armActivation s arm time).2.kept = s.kept := by
  unfold State.armActivation
  repeat' (first | simp only [kept_mk, kept_fold, State.arm_kept, State.clrFlag_kept, State.cancel_kept, State.setFlag_kept] | split)

theorem State.noteFleet_kept (s : State) : (State.noteFleet s).kept = s.kept := by
  simp only [State.noteFleet, apply_ite State.kept, ite_self, State.putSat_kept]

theorem State.spread_kept (s : State) (blocks : List (Nat × Nat)) (time : Nat) : (State.spread s blocks time).kept = s.kept := by
  simp only [State.spread, kept_mk, kept_fold, implies_true, foldl_kept, State.noteFleet_kept, State.sendReliable_kept]

theorem State.noteScheduled_kept (s : State) (time : Nat) (ok : Bool) : (State.noteScheduled s time ok).kept = s.kept := by
  simp only [State.noteScheduled, kept_mk, kept_fold, apply_ite State.kept, ite_self, State.sendReliable_kept, State.noteFleet_kept]

theorem State.armPackage_kept (s : State) (src time : Nat) : (State.armPackage s src time).kept = s.kept := by
  simp only [State.armPackage, apply_ite State.kept, ite_self, State.writeLoader_kept, State.writeSlot_kept, State.makePending_kept,
      State.armActivation_kept, State.sendReliable_kept, State.spread_kept]

theorem State.takeSchedule_kept (s : State) (src time : Nat) : (State.takeSchedule s src time).kept = s.kept := by
  unfold State.takeSchedule
  repeat' (first | simp only [apply_ite State.kept, State.noteVerify_kept, State.sendReliable_kept, State.rejectFrame_kept,
                          State.armPackage_kept] | split)

theorem State.windowSelect_kept (s : State) (w : Nat) : (State.windowSelect s w).kept = s.kept := by
  simp only [State.windowSelect, State.setFld_kept]

theorem State.windowCommit_kept (s : State) : (State.windowCommit s).kept = s.kept := by
  simp only [State.windowCommit, kept_mk, kept_fold, apply_ite State.kept, ite_self, State.setFld_kept, State.strCnt_kept, State.cfsRequest_kept]

theorem State.setIn_kept (s : State) (k : Nat) (c : InCopy) : (State.setIn s k c).kept = s.kept := by
  simp only [State.setIn, kept_mk, kept_fold]

theorem State.nak_kept (s : State) (peer cause win copy seq : Nat) : (State.nak s peer cause win copy seq).kept = s.kept := by
  simp only [State.nak, State.sendFrame_kept, State.strCnt_kept, State.lastNak_kept]

theorem State.newWrite_kept (s : State) (c : InCopy) (x : Window) (lba : Nat) : (State.newWrite s c x lba).2.kept = s.kept := by
  unfold State.newWrite
  repeat' (first | (extract_lets +onlyGivenNames t; first | (refine kept_via (t := t) ?_ (fun ht => ?_); rotate_left; clear_value t; rotate_left; simp only [t]) | clear_value t) | simp only [kept_mk, kept_fold, *] | split | with_reducible refine (foldl_kept _ _ _ (fun u _ => ?_)).trans ?_)
  all_goals grind only [kept_mk, kept_fold, State.compress_kept]

theorem State.bufferStrand_kept (s : State) (w : InWrite) : (State.bufferStrand s w).2.kept = s.kept := by
  unfold State.bufferStrand
  repeat' (first | (extract_lets +onlyGivenNames t; first | (refine kept_via (t := t) ?_ (fun ht => ?_); rotate_left; clear_value t; rotate_left; simp only [t]) | clear_value t) | simp only [implies_true, foldl_kept, State.bufferSlots_kept, State.placeStitch_kept, State.fullyBuffered_kept, State.noteStaging_kept, *] | split | with_reducible refine (foldl_kept _ _ _ (fun u _ => ?_)).trans ?_)
  all_goals grind only [kept_mk, kept_fold, State.bufferSlots_kept, State.placeStitch_kept, State.fullyBuffered_kept, State.noteStaging_kept]

theorem State.takeSlot_kept (s : State) (key : Nat) (x : Window) (lba data : Nat) : (State.takeSlot s key x lba data).kept = s.kept := by
  unfold State.takeSlot
  repeat' (first | simp only [State.newWrite_kept, State.bufferStrand_kept, State.setIn_kept] | split)

theorem State.discardWrites_kept (s : State) (key : Nat) (c : InCopy) : (State.discardWrites s key c).kept = s.kept := by
  simp only [State.discardWrites, kept_mk, kept_fold, apply_ite State.kept, ite_self, implies_true, foldl_kept, State.unlock_kept, State.strCnt_kept,
      State.cancel_kept, State.setIn_kept]

theorem State.takeData_kept (s : State) (h : FrameHdr) (copy win off : Nat) (slots : List Nat) (ok : Bool)
    : (State.takeData s h copy win off slots ok).kept = s.kept := by
  unfold State.takeData
  repeat' (first | (extract_lets +onlyGivenNames t; first | (refine kept_via (t := t) ?_ (fun ht => ?_); rotate_left; clear_value t; rotate_left; simp only [t]) | clear_value t) | simp only [apply_ite State.kept, ite_self, implies_true, foldl_kept, State.strCnt_kept, State.nak_kept, State.takeSlot_kept, State.arm_kept, *] | split | with_reducible refine (foldl_kept _ _ _ (fun u _ => ?_)).trans ?_)
  all_goals grind only [kept_mk, kept_fold, State.strCnt_kept, State.nak_kept, State.takeSlot_kept, State.arm_kept]

theorem execStrandWriteTimeout_kept (copy : Nat) (s : State) : Keeps s (execStrandWriteTimeout copy s) := by
  unfold execStrandWriteTimeout
  repeat' (first | simp only [State.discardWrites_kept] | split | with_reducible refine onTimer_keeps _ _ _ (fun u => ?_) | with_reducible refine (foldl_kept _ _ _ (fun u _ => ?_)).trans ?_)

theorem execStrandWriteAck_kept (copy fetch : Nat) (s : State) : Keeps s (execStrandWriteAck copy fetch s) := by
  unfold execStrandWriteAck
  repeat' (first | (extract_lets +onlyGivenNames t; first | (refine keeps_via (t := t) ?_ (fun ht => ?_); rotate_left; clear_value t; rotate_left; simp only [t]) | clear_value t) | simp only [kept_mk, kept_fold, apply_ite State.kept, ite_self, Keeps_next, Keeps_fault, State.bufferStrand_kept, State.setIn_kept, State.sendFrame_kept, State.strCnt_kept, State.cancel_kept, *] | split | with_reducible refine (foldl_kept _ _ _ (fun u _ => ?_)).trans ?_)
  all_goals grind only [kept_mk, kept_fold, State.bufferStrand_kept, State.setIn_kept, State.sendFrame_kept, State.strCnt_kept, State.cancel_kept]

theorem State.setMember_kept (s : State) (id : Nat) (m : FleetMember) : (State.setMember s id m).kept = s.kept := by
  simp only [State.setMember, kept_mk, kept_fold]

theorem State.takeRegistry_kept (s : State) (es : List RegEntry) : (State.takeRegistry s es).kept = s.kept := by
  unfold State.takeRegistry
  repeat' (first | simp only [State.setMember_kept] | split | with_reducible refine (foldl_kept _ _ _ (fun u _ => ?_)).trans ?_)

theorem State.sendJoin_kept (s : State) : (State.sendJoin s).kept = s.kept := by
  unfold State.sendJoin
  repeat' (first | simp only [apply_ite State.kept, ite_self, State.sendReliable_kept] | split)

theorem State.startFleet_kept (s : State) : (State.startFleet s).kept = s.kept := by
  simp only [State.startFleet, apply_ite State.kept, ite_self, State.arm_kept, State.armOnce_kept]

theorem State.becomeMember_kept (s : State) : (State.becomeMember s).kept = s.kept := by
  simp only [State.becomeMember, apply_ite State.kept, ite_self, State.setFlag_kept, State.setFld_kept, State.startFleet_kept, State.roleChanged_kept]

theorem State.leave_kept (s : State) : (State.leave s).kept = s.kept := by
  simp only [State.leave, kept_mk, kept_fold, implies_true, foldl_kept, State.closeWindows_kept, State.clrFlag_kept, State.setFld_kept,
      State.cancel_kept, State.roleChanged_kept]

theorem State.followManager_kept (s : State) (role epoch id : Nat) : (State.followManager s role epoch id).kept = s.kept := by
  simp only [State.followManager, kept_mk, kept_fold, apply_ite State.kept, ite_self, State.setFld_kept, State.roleChanged_kept, State.sendJoin_kept]

theorem State.noteSection_kept (s : State) (k : Nat) (es : List RollEntry) : (State.noteSection s k es).kept = s.kept := by
  simp only [State.noteSection, State.setFld_kept, State.clrFlag_kept, State.putSat_kept, State.putFlag_kept]

theorem State.announce_kept (s : State) : (State.announce s).kept = s.kept := by
  simp only [State.announce, kept_mk, kept_fold, implies_true, foldl_kept, State.sendReliable_kept]

theorem State.deliver_kept (s : State) (h : FrameHdr) (b : FrameBody) : (State.deliver s h b).kept = s.kept := by
  unfold State.deliver
  repeat' (first | (extract_lets +onlyGivenNames t; first | (refine kept_via (t := t) ?_ (fun ht => ?_); rotate_left; clear_value t; rotate_left; simp only [t]) | clear_value t) | simp only [kept_mk, kept_fold, apply_ite State.kept, ite_self, State.setIn_kept, State.arm_kept, State.sendFrame_kept, State.strCnt_kept, State.takeData_kept, State.cancel_kept, State.discardWrites_kept, State.noteSection_kept, State.stamp_kept, State.takeRegistry_kept, State.announce_kept, State.followManager_kept, State.setMember_kept, State.sendReliable_kept, State.lastNak_kept, State.event_kept, State.becomeMember_kept, State.setFld_kept, State.noteScheduled_kept, State.armActivation_kept, State.takeSchedule_kept, *] | split | with_reducible refine (foldl_kept _ _ _ (fun u _ => ?_)).trans ?_)
  all_goals grind only [kept_mk, kept_fold, State.setIn_kept, State.arm_kept, State.sendFrame_kept, State.strCnt_kept, State.takeData_kept,
      State.cancel_kept, State.discardWrites_kept, State.noteSection_kept, State.stamp_kept, State.takeRegistry_kept, State.announce_kept,
      State.followManager_kept, State.setMember_kept, State.sendReliable_kept, State.lastNak_kept, State.event_kept, State.becomeMember_kept,
      State.setFld_kept, State.noteScheduled_kept, State.armActivation_kept, State.takeSchedule_kept]

theorem State.deliverHeld_kept (n : Nat) (h : FrameHdr) (s : State) : (State.deliverHeld n h s).kept = s.kept := by
  induction n generalizing s h
  · first | rfl | (intro a t h; cases h)
  rename_i n ih
  unfold State.deliverHeld
  repeat' (first | simp only [State.setPeer_kept, State.deliver_kept] | split | exact ih .. | exact (ih ..).trans (by assumption) | refine (ih ..).trans ?_ | with_reducible refine (foldl_kept _ _ _ (fun u _ => ?_)).trans ?_)

theorem onReliable_kept (s : State) (h : FrameHdr) (memb : Bool) (b : FrameBody) : Keeps s (onReliable s h memb b) := by
  unfold onReliable
  repeat' (first | simp only [apply_ite State.kept, ite_self, State.sendFrame_kept, State.strCnt_kept, State.arm_kept, State.setPeer_kept,
                          State.deliver_kept, State.deliverHeld_kept] | split | with_reducible refine onFrame_keeps _ _ _ _ (fun u => ?_) | with_reducible refine (foldl_kept _ _ _ (fun u _ => ?_)).trans ?_)

theorem execCopyOpen_kept (h : FrameHdr) (copy win off count : Nat) (s : State) : Keeps s (execCopyOpen h copy win off count s) := by
  unfold execCopyOpen
  repeat' (first | simp only [onReliable_kept] | split)

theorem execData_kept (h : FrameHdr) (copy win off : Nat) (slots : List Nat) (wellFormed : Bool) (s : State)
    : Keeps s (execData h copy win off slots wellFormed s) := by
  unfold execData
  repeat' (first | simp only [onReliable_kept] | split)

theorem execCopyEnd_kept (h : FrameHdr) (copy sent reason : Nat) (s : State) : Keeps s (execCopyEnd h copy sent reason s) := by
  unfold execCopyEnd
  repeat' (first | simp only [onReliable_kept] | split)

theorem execRollup_kept (h : FrameHdr) (entries : List RollEntry) (s : State) : Keeps s (execRollup h entries s) := by
  unfold execRollup
  repeat' (first | simp only [onReliable_kept] | split)

theorem execRegistry_kept (h : FrameHdr) (seq : Nat) (entries : List RegEntry) (s : State) : Keeps s (execRegistry h seq entries s) := by
  unfold execRegistry
  repeat' (first | simp only [onReliable_kept] | split)

theorem execManager_kept (h : FrameHdr) (role epoch id : Nat) (s : State) : Keeps s (execManager h role epoch id s) := by
  unfold execManager
  repeat' (first | simp only [onReliable_kept] | split)

theorem execJoin_kept (h : FrameHdr) (t : JoinTicket) (s : State) : Keeps s (execJoin h t s) := by
  unfold execJoin
  repeat' (first | simp only [onReliable_kept] | split)

theorem execJoinAck_kept (h : FrameHdr) (entries : List RegEntry) (s : State) : Keeps s (execJoinAck h entries s) := by
  unfold execJoinAck
  repeat' (first | simp only [onReliable_kept] | split)

theorem execPatrolNotice_kept (h : FrameHdr) (s : State) : Keeps s (execPatrolNotice h s) := by
  unfold execPatrolNotice
  repeat' (first | simp only [onReliable_kept] | split)

theorem execFwPart_kept (h : FrameHdr) (offset : Nat) (blocks : List Nat) (s : State) : Keeps s (execFwPart h offset blocks s) := by
  unfold execFwPart
  repeat' (first | simp only [onReliable_kept] | split)

theorem execSchedule_kept (h : FrameHdr) (answer : Bool) (time : Nat) (ok : Bool) (s : State) : Keeps s (execSchedule h answer time ok s) := by
  unfold execSchedule
  repeat' (first | simp only [onReliable_kept] | split)

theorem execHeartbeatTimer_kept (s : State) : Keeps s (execHeartbeatTimer s) := by
  unfold execHeartbeatTimer
  repeat' (first | simp only [apply_ite State.kept, ite_self, State.arm_kept, State.sendFrame_kept,
                          State.strCnt_kept] | split | with_reducible refine onTimer_keeps _ _ _ (fun u => ?_) | with_reducible refine (foldl_kept _ _ _ (fun u _ => ?_)).trans ?_)

theorem execHeartbeat_kept (h : FrameHdr) (digest : List Nat) (s : State) : Keeps s (execHeartbeat h digest s) := by
  unfold execHeartbeat
  repeat' (first | simp only [apply_ite State.kept, ite_self, State.setMember_kept, State.arm_kept,
                          State.sendFrame_kept] | split | with_reducible refine onFrame_keeps _ _ _ _ (fun u => ?_) | with_reducible refine (foldl_kept _ _ _ (fun u _ => ?_)).trans ?_)

theorem execHeartbeatMiss_kept (peer : Nat) (s : State) : Keeps s (execHeartbeatMiss peer s) := by
  unfold execHeartbeatMiss
  repeat' (first | simp only [kept_mk, kept_fold, State.setMember_kept,
                          State.strCnt_kept] | split | with_reducible refine onTimer_keeps _ _ _ (fun u => ?_) | with_reducible refine (foldl_kept _ _ _ (fun u _ => ?_)).trans ?_)

theorem execRollupTimer_kept (s : State) : Keeps s (execRollupTimer s) := by
  unfold execRollupTimer
  repeat' (first | (extract_lets +onlyGivenNames t; first | (refine keeps_via (t := t) ?_ (fun ht => ?_); rotate_left; clear_value t; rotate_left; simp only [t]) | clear_value t) | simp only [kept_mk, kept_fold, apply_ite State.kept, ite_self, State.arm_kept, State.setFlag_kept, State.strCnt_kept, State.sendReliable_kept, State.stamp_kept, State.noteSection_kept, *] | split | with_reducible refine onTimer_keeps _ _ _ (fun u => ?_) | with_reducible refine (foldl_kept _ _ _ (fun u _ => ?_)).trans ?_)
  all_goals grind only [kept_mk, kept_fold, State.arm_kept, State.setFlag_kept, State.strCnt_kept, State.sendReliable_kept, State.stamp_kept,
      State.noteSection_kept]

theorem execSectionRollupStale_kept (sect : Nat) (s : State) : Keeps s (execSectionRollupStale sect s) := by
  unfold execSectionRollupStale
  repeat' (first | simp only [State.setFlag_kept, State.strCnt_kept] | split | with_reducible refine onTimer_keeps _ _ _ (fun u => ?_) | with_reducible refine (foldl_kept _ _ _ (fun u _ => ?_)).trans ?_)

theorem execRegistryTimer_kept (s : State) : Keeps s (execRegistryTimer s) := by
  unfold execRegistryTimer
  repeat' (first | (extract_lets +onlyGivenNames t; first | (refine keeps_via (t := t) ?_ (fun ht => ?_); rotate_left; clear_value t; rotate_left; simp only [t]) | clear_value t) | simp only [kept_mk, kept_fold, apply_ite State.kept, ite_self, implies_true, foldl_kept, State.arm_kept, State.setFld_kept, State.sendReliable_kept, *] | split | with_reducible refine onTimer_keeps _ _ _ (fun u => ?_) | with_reducible refine (foldl_kept _ _ _ (fun u _ => ?_)).trans ?_)
  all_goals grind only [kept_mk, kept_fold, State.arm_kept, State.setFld_kept, State.sendReliable_kept]

theorem execManagerLost_kept (s : State) : Keeps s (execManagerLost s) := by
  unfold execManagerLost
  repeat' (first | simp only [apply_ite State.kept, ite_self, State.setFlag_kept, State.event_kept, State.strCnt_kept,
                          State.asyncVendor_kept] | split | with_reducible refine onTimer_keeps _ _ _ (fun u => ?_) | with_reducible refine (foldl_kept _ _ _ (fun u _ => ?_)).trans ?_)

theorem execRegistryLoadTimeout_kept (s : State) : Keeps s (execRegistryLoadTimeout s) := by
  unfold execRegistryLoadTimeout
  repeat' (first | simp only [kept_mk, kept_fold, apply_ite State.kept, ite_self,
                          State.announce_kept] | split | with_reducible refine onTimer_keeps _ _ _ (fun u => ?_) | with_reducible refine (foldl_kept _ _ _ (fun u _ => ?_)).trans ?_)

theorem execHbReply_kept (h : FrameHdr) (t1 t2 t3 t4 epoch : Nat) (s : State) : Keeps s (execHbReply h t1 t2 t3 t4 epoch s) := by
  unfold execHbReply
  repeat' (first | (extract_lets +onlyGivenNames t; first | (refine keeps_via (t := t) ?_ (fun ht => ?_); rotate_left; clear_value t; rotate_left; simp only [t]) | clear_value t) | simp only [kept_mk, kept_fold, apply_ite State.kept, ite_self, State.arm_kept, State.strCnt_kept, State.noteSectionTime_kept, *] | split | with_reducible refine onFrame_keeps _ _ _ _ (fun u => ?_) | with_reducible refine (foldl_kept _ _ _ (fun u _ => ?_)).trans ?_)
  all_goals grind only [kept_mk, kept_fold, State.arm_kept, State.strCnt_kept, State.noteSectionTime_kept]

theorem execTimeOffsetApply_kept (s : State) : Keeps s (execTimeOffsetApply s) := by
  unfold execTimeOffsetApply
  repeat' (first | (extract_lets +onlyGivenNames t; first | (refine keeps_via (t := t) ?_ (fun ht => ?_); rotate_left; clear_value t; rotate_left; simp only [t]) | clear_value t) | simp only [kept_mk, kept_fold, apply_ite State.kept, ite_self, State.arm_kept, State.clrFlag_kept, State.setTime_kept, State.strCnt_kept, State.putFlag_kept, State.setFld_kept, State.noteSectionTime_kept, *] | split | with_reducible refine onTimer_keeps _ _ _ (fun u => ?_) | with_reducible refine (foldl_kept _ _ _ (fun u _ => ?_)).trans ?_)
  all_goals grind only [kept_mk, kept_fold, State.arm_kept, State.clrFlag_kept, State.setTime_kept, State.strCnt_kept, State.putFlag_kept,
      State.setFld_kept, State.noteSectionTime_kept]

theorem execTimeExchangeTimeout_kept (s : State) : Keeps s (execTimeExchangeTimeout s) := by
  unfold execTimeExchangeTimeout
  repeat' (first | simp only [State.noteSectionTime_kept] | split | with_reducible refine onTimer_keeps _ _ _ (fun u => ?_) | with_reducible refine (foldl_kept _ _ _ (fun u _ => ?_)).trans ?_)

theorem State.strandSet_kept (s : State) (sel : Nat) (v : List Nat) : (State.strandSet s sel v).kept = s.kept := by
  unfold State.strandSet
  repeat' (first | (extract_lets +onlyGivenNames t; first | (refine kept_via (t := t) ?_ (fun ht => ?_); rotate_left; clear_value t; rotate_left; simp only [t]) | clear_value t) | simp only [kept_mk, kept_fold, apply_ite State.kept, ite_self, State.setFld_kept, State.saveSettings_kept, State.sendJoin_kept, State.arm_kept, State.startFleet_kept, State.roleChanged_kept, State.leave_kept, *] | split | with_reducible refine (foldl_kept _ _ _ (fun u _ => ?_)).trans ?_)
  all_goals grind only [kept_mk, kept_fold, State.setFld_kept, State.saveSettings_kept, State.sendJoin_kept, State.arm_kept, State.startFleet_kept,
      State.roleChanged_kept, State.leave_kept]

theorem execStrandConfigure_kept (cmd sel : Nat) (valid : Bool) (vals : List Nat) (s : State)
    : Keeps s (execStrandConfigure cmd sel valid vals s) := by
  unfold execStrandConfigure
  repeat' (first | (extract_lets +onlyGivenNames t; first | (refine keeps_via (t := t) ?_ (fun ht => ?_); rotate_left; clear_value t; rotate_left; simp only [t]) | clear_value t) | simp only [kept_mk, kept_fold, State.superGate_kept, State.finish_kept, State.noteGated_kept, State.strandSet_kept, State.cfsRequest_kept, State.event_kept, *] | split | with_reducible refine onVendor_keeps _ _ _ _ (fun u => ?_) | with_reducible refine (foldl_kept _ _ _ (fun u _ => ?_)).trans ?_)
  all_goals grind only [kept_mk, kept_fold, State.superGate_kept, State.finish_kept, State.noteGated_kept, State.strandSet_kept,
      State.cfsRequest_kept, State.event_kept]

theorem execStrandJoin_kept (cmd : Nat) (t : JoinTicket) (s : State) : Keeps s (execStrandJoin cmd t s) := by
  unfold execStrandJoin
  repeat' (first | simp only [kept_mk, kept_fold, State.superGate_kept, State.finish_kept, State.noteGated_kept, State.cfsRequest_kept,
                          State.sendJoin_kept] | split | with_reducible refine onVendor_keeps _ _ _ _ (fun u => ?_) | with_reducible refine (foldl_kept _ _ _ (fun u _ => ?_)).trans ?_)

theorem execNeighbourSolicitation_kept (port target source mac : Nat) (advert : Bool) (s : State)
    : Keeps s (execNeighbourSolicitation port target source mac advert s) := by
  unfold execNeighbourSolicitation
  repeat' (first | simp only [kept_mk, kept_fold, apply_ite State.kept, ite_self, implies_true, guarded_kept, State.send_kept] | split)

theorem State.dropTranslations_kept (s : State) (fn : Nat) : (State.dropTranslations s fn).kept = s.kept := by
  simp only [State.dropTranslations, kept_mk, kept_fold, implies_true, foldl_kept, State.cancel_kept]

theorem State.orphanReqs_kept (s : State) (fn atLeast : Nat) : (State.orphanReqs s fn atLeast).kept = s.kept := by
  simp only [State.orphanReqs, kept_mk, kept_fold, implies_true, foldl_kept, State.cancel_kept, State.arm_kept]

theorem State.resetFn_kept (s : State) (fn : Nat) (why : FnReset) : (State.resetFn s fn why).kept = s.kept := by
  simp only [State.resetFn, State.endCommands_kept, State.dropDownload_kept, State.dropTranslations_kept, State.setFunc_kept]

theorem State.resetPf_kept (s : State) (pf : Nat) : (State.resetPf s pf).kept = s.kept := by
  simp only [State.resetPf, kept_mk, kept_fold, State.endSession_kept, State.resetBank_kept]

theorem State.tearDown_kept (s : State) (pf : Nat) : (State.tearDown s pf).kept = s.kept := by
  simp only [State.tearDown, implies_true, foldl_kept, State.orphanReqs_kept, State.resetFn_kept]

theorem execVfEnableClear_kept (pf : Nat) (s : State) : Keeps s (execVfEnableClear pf s) := by
  unfold execVfEnableClear
  repeat' (first | simp only [apply_ite State.kept, ite_self, implies_true, guarded_kept, State.tearDown_kept, State.updFunc_kept,
                          State.arm_kept] | split)

theorem execVfEnableSet_kept (pf : Nat) (s : State) : Keeps s (execVfEnableSet pf s) := by
  unfold execVfEnableSet
  repeat' (first | simp only [implies_true, guarded_kept, State.updFunc_kept] | split)

theorem State.zeroCmb_kept (s : State) (pf : Nat) : (State.zeroCmb s pf).kept = s.kept := by
  simp only [State.zeroCmb, kept_mk, kept_fold]

theorem execPfFlr_kept (pf : Nat) (s : State) : Keeps s (execPfFlr pf s) := by
  unfold execPfFlr
  repeat' (first | simp only [apply_ite State.kept, ite_self, implies_true, guarded_kept, State.tearDown_kept, State.orphanReqs_kept,
                          State.resetFn_kept, State.zeroCmb_kept, State.resetPf_kept, State.hifCnt_kept, State.arm_kept] | split)

theorem execVfFlr_kept (vf : Nat) (s : State) : Keeps s (execVfFlr vf s) := by
  unfold execVfFlr
  repeat' (first | simp only [apply_ite State.kept, ite_self, implies_true, Keeps_fault, guarded_kept, State.orphanReqs_kept, State.resetFn_kept,
                          State.hifCnt_kept, State.arm_kept] | split)

theorem execFlrComplete_kept (fn : Nat) (s : State) : Keeps s (execFlrComplete fn s) := by
  unfold execFlrComplete
  repeat' (first | simp only [implies_true, foldl_kept, guarded_kept, State.updFunc_kept, State.cancel_kept] | split)

theorem State.resetPort_kept (s : State) (p : Nat) (fundamental : Bool) : (State.resetPort s p fundamental).kept = s.kept := by
  simp only [State.resetPort, kept_mk, kept_fold, implies_true, foldl_kept, State.resetFn_kept, State.cancel_kept, State.setPort_kept,
      State.resetPf_kept]

theorem State.linkUp_kept (s : State) (p width rate : Nat) (rev : Bool) : (State.linkUp s p width rate rev).kept = s.kept := by
  simp only [State.linkUp, State.setPort_kept, State.arm_kept]

theorem State.hotReset_kept (s : State) (p : Nat) : (State.hotReset s p).kept = s.kept := by
  simp only [State.hotReset, apply_ite State.kept, ite_self, State.resetPort_kept, State.addSat_kept, State.linkUp_kept]

theorem onPort_kept (s : State) (p : Nat) (t : State) (h : t.kept = s.kept) : Keeps s (onPort s p t) := by
  unfold onPort
  repeat' split
  all_goals first | exact (Keeps_fault _ _).2 trivial | exact (Keeps_next _ _).2 h | exact (Keeps_next _ _).2 rfl | exact (Keeps_next _ _).2 (State.spdmError_kept ..)

theorem execHotResetReceived_kept (port : Nat) (s : State) : Keeps s (execHotResetReceived port s) := by
  unfold execHotResetReceived
  repeat' (first | simp only [onPort_kept, State.hotReset_kept, State.hifCnt_kept] | split)

theorem execDlDown_kept (port : Nat) (s : State) : Keeps s (execDlDown port s) := by
  unfold execDlDown
  repeat' (first | simp only [onPort_kept, State.hotReset_kept, State.hifCnt_kept] | split)

theorem execLinkTrainingFail_kept (port : Nat) (s : State) : Keeps s (execLinkTrainingFail port s) := by
  unfold execLinkTrainingFail
  repeat' (first | simp only [onPort_kept, State.setPort_kept, State.eventFrom_kept] | split)

theorem State.linkError_kept (s : State) (p : Nat) (e : LinkError) (lane : Nat) : (State.linkError s p e lane).kept = s.kept := by
  unfold State.linkError
  repeat' (first | simp only [State.aer_kept, State.hifCnt_kept, State.addSat_kept, State.hotReset_kept] | split)

theorem execLinkLayerError_kept (port : Nat) (error : LinkError) (lane : Nat) (s : State) : Keeps s (execLinkLayerError port error lane s) := by
  unfold execLinkLayerError
  repeat' (first | simp only [Keeps_fault, onPort_kept, State.linkError_kept] | split)

theorem execL1IdleTimer_kept (port : Nat) (s : State) : Keeps s (execL1IdleTimer port s) := by
  unfold execL1IdleTimer
  repeat' (first | simp only [State.setPort_kept, State.send_kept] | split | with_reducible refine onTimer_keeps _ _ _ (fun u => ?_) | with_reducible refine (foldl_kept _ _ _ (fun u _ => ?_)).trans ?_)

theorem State.coldReset_kept (s : State) (cause : Nat) : (State.coldReset s cause).kept = s.kept := by
  simp only [State.coldReset, kept_mk, kept_fold, State.endSession_kept, State.setFld_kept, State.resetBank_kept]

theorem execColdReset_kept (s : State) : Keeps s (execColdReset s) := by
  unfold execColdReset
  repeat' (first | simp only [Keeps_next, State.coldReset_kept] | split)

theorem execPerstAssert_kept (port : Nat) (s : State) : Keeps s (execPerstAssert port s) := by
  unfold execPerstAssert
  repeat' (first | simp only [Keeps_next, Keeps_fault, State.setPort_kept, State.coldReset_kept, State.resetPort_kept] | split)

theorem execPerstDeassert_kept (port width rate : Nat) (reversed : Bool) (s : State) : Keeps s (execPerstDeassert port width rate reversed s) := by
  unfold execPerstDeassert
  repeat' (first | simp only [kept_mk, kept_fold, Keeps_next, Keeps_fault, State.setPort_kept, State.linkUp_kept] | split)

theorem State.loadSettings_kept (s : State) : (State.loadSettings s).kept = s.kept := by
  simp only [State.loadSettings, kept_mk, kept_fold, implies_true, foldl_kept, State.setWord_kept]

theorem State.dumpReset_kept (s : State) (cause : Nat) : (State.dumpReset s cause).kept = s.kept := by
  simp only [State.dumpReset, apply_ite State.kept, ite_self, State.coldReset_kept, State.loadSettings_kept, State.setFlag_kept]

theorem execVddAonApplied_kept (s : State) : Keeps s (execVddAonApplied s) := by
  unfold execVddAonApplied
  repeat' (first | (extract_lets +onlyGivenNames t; first | (refine keeps_via (t := t) ?_ (fun ht => ?_); rotate_left; clear_value t; rotate_left; simp only [t]) | clear_value t) | simp only [kept_mk, kept_fold, apply_ite State.kept, ite_self, Keeps_next, State.coldReset_kept, State.loadSettings_kept, State.setFlag_kept, State.addSat_kept, State.event_kept, *] | split | with_reducible refine (foldl_kept _ _ _ (fun u _ => ?_)).trans ?_)
  all_goals grind only [kept_mk, kept_fold, State.coldReset_kept, State.loadSettings_kept, State.setFlag_kept, State.addSat_kept, State.event_kept]

theorem State.atcUse_kept (s : State) (a : AtcEntry) : (State.atcUse s a).kept = s.kept := by
  simp only [State.atcUse, kept_mk, kept_fold]

theorem State.atcFill_kept (s : State) (a : AtcEntry) : (State.atcFill s a).kept = s.kept := by
  simp only [State.atcFill, kept_mk, kept_fold]

theorem State.dmaFail_kept (s : State) (c : Nat) : (State.dmaFail s c).kept = s.kept := by
  simp only [State.dmaFail, kept_mk, kept_fold, apply_ite State.kept, ite_self, implies_true, foldl_kept, State.cancel_kept, State.noteFailure_kept,
      State.dropStitches_kept, State.failWrite_kept]

theorem State.sendGroups_kept (s : State) : (State.sendGroups s).kept = s.kept := by
  simp only [State.sendGroups, kept_mk, kept_fold, apply_ite State.kept, ite_self, implies_true, foldl_kept, State.send_kept, State.addSat_kept,
      State.arm_kept]

theorem State.transFault_kept (s : State) (id slot : Nat) (pages : List Nat) : (State.transFault s id slot pages).kept = s.kept := by
  unfold State.transFault
  repeat' (first | (extract_lets +onlyGivenNames t; first | (refine kept_via (t := t) ?_ (fun ht => ?_); rotate_left; clear_value t; rotate_left; simp only [t]) | clear_value t) | simp only [kept_mk, kept_fold, apply_ite State.kept, ite_self, State.dmaFail_kept, State.park_kept, State.sendGroups_kept, *] | split | with_reducible refine (foldl_kept _ _ _ (fun u _ => ?_)).trans ?_)
  all_goals grind only [kept_mk, kept_fold, State.dmaFail_kept, State.park_kept, State.sendGroups_kept]

theorem State.dmaReads_kept (s : State) (k : Cmd) (x : Stitch) : (State.dmaReads s k x).kept = s.kept := by
  simp only [State.dmaReads, apply_ite State.kept, ite_self, State.request_kept]

theorem State.dmaStart_kept (s : State) (id : Nat) : (State.dmaStart s id).kept = s.kept := by
  unfold State.dmaStart
  repeat' (first | (extract_lets +onlyGivenNames t; first | (refine kept_via (t := t) ?_ (fun ht => ?_); rotate_left; clear_value t; rotate_left; simp only [t]) | clear_value t) | simp only [apply_ite State.kept, State.park_kept, State.dmaReads_kept, State.request_kept, State.hifCnt_kept, State.atcUse_kept, State.transFault_kept, *] | split | with_reducible refine (foldl_kept _ _ _ (fun u _ => ?_)).trans ?_)
  all_goals grind only [kept_mk, kept_fold, State.park_kept, State.dmaReads_kept, State.request_kept, State.hifCnt_kept, State.atcUse_kept,
      State.transFault_kept]

theorem execResourceGrant_kept (res : Nat) (s : State) : Keeps s (execResourceGrant res s) := by
  unfold execResourceGrant
  repeat' (first | simp only [Keeps_next, State.cancel_kept, State.placeExtent_kept, State.grantResource_kept, State.dmaStart_kept] | split)

theorem State.answered_kept (s : State) (r : NpReq) : (State.answered s r).kept = s.kept := by
  simp only [State.answered, kept_mk, kept_fold, State.cancel_kept]

theorem State.translated_kept (s : State) (r : NpReq) (pages : List TransPage) : (State.translated s r pages).kept = s.kept := by
  unfold State.translated
  repeat' (first | (extract_lets +onlyGivenNames t; first | (refine kept_via (t := t) ?_ (fun ht => ?_); rotate_left; clear_value t; rotate_left; simp only [t]) | clear_value t) | simp only [implies_true, foldl_kept, State.atcFill_kept, State.dmaReads_kept, State.transFault_kept, *] | split | with_reducible refine (foldl_kept _ _ _ (fun u _ => ?_)).trans ?_)
  all_goals grind only [kept_mk, kept_fold, State.atcFill_kept, State.dmaReads_kept, State.transFault_kept]

theorem execTranslationCompletion_kept (port tag _stitch : Nat) (pages : List TransPage) (s : State)
    : Keeps s (execTranslationCompletion port tag _stitch pages s) := by
  unfold execTranslationCompletion
  repeat' (first | simp only [implies_true, Keeps_fault, guarded_kept, State.answered_kept, State.tlpIn_kept, State.translated_kept] | split)

theorem execPrgResponse_kept (prg : Nat) (outcome : PrgOutcome) (s : State) : Keeps s (execPrgResponse prg outcome s) := by
  unfold execPrgResponse
  repeat' (first | simp only [kept_mk, kept_fold, Keeps_next, State.addSat_kept, State.cancel_kept, State.hifCnt_kept, State.dmaFail_kept,
                          State.sendGroups_kept] | split)

theorem execPageRequestTimeout_kept (prg : Nat) (s : State) : Keeps s (execPageRequestTimeout prg s) := by
  unfold execPageRequestTimeout
  repeat' (first | simp only [kept_mk, kept_fold, State.setFlag_kept, State.event_kept, State.hifCnt_kept, State.dmaFail_kept,
                          State.sendGroups_kept] | split | with_reducible refine onTimer_keeps _ _ _ (fun u => ?_) | with_reducible refine (foldl_kept _ _ _ (fun u _ => ?_)).trans ?_)

theorem execInvalidateRequest_kept (fn itag page pages : Nat) (s : State) : Keeps s (execInvalidateRequest fn itag page pages s) := by
  unfold execInvalidateRequest
  repeat' (first | simp only [kept_mk, kept_fold, implies_true, guarded_kept, State.hifCnt_kept] | split)

theorem execInvalidateCompletionSend_kept (fn itag : Nat) (s : State) : Keeps s (execInvalidateCompletionSend fn itag s) := by
  unfold execInvalidateCompletionSend
  repeat' (first | simp only [kept_mk, kept_fold, implies_true, guarded_kept, State.send_kept, State.addWrap_kept] | split)

theorem State.unexpected_kept (s : State) (p tag : Nat) (header : List Nat) (idx : Nat) : (State.unexpected s p tag header idx).kept = s.kept := by
  simp only [State.unexpected, implies_true, foldl_kept, State.hifCnt_kept, State.addSat_kept, State.setFlag_kept, State.setFld_kept, State.aer_kept,
      State.eventFrom_kept]

theorem execCompletionReceived_kept (port tag : Nat) (fits poisoned : Bool) (header : List Nat) (requester : Nat) (s : State)
    : Keeps s (execCompletionReceived port tag fits poisoned header requester s) := by
  unfold execCompletionReceived
  repeat' (first | simp only [apply_ite State.kept, ite_self, Keeps_next, Keeps_fault, State.tlpIn_kept, State.hifCnt_kept, State.unexpected_kept,
                          State.answered_kept, State.aer_kept, State.dmaFail_kept] | split)

theorem State.logTimeout_kept (s : State) (r : NpReq) : (State.logTimeout s r).kept = s.kept := by
  simp only [State.logTimeout, implies_true, foldl_kept, State.setWord_kept, State.setFld_kept]

theorem execCompletionTimeout_kept (port tag : Nat) (s : State) : Keeps s (execCompletionTimeout port tag s) := by
  unfold execCompletionTimeout
  repeat' (first | (extract_lets +onlyGivenNames t; first | (refine keeps_via (t := t) ?_ (fun ht => ?_); rotate_left; clear_value t; rotate_left; simp only [t]) | clear_value t) | simp only [kept_mk, kept_fold, apply_ite State.kept, ite_self, State.answered_kept, State.logTimeout_kept, State.setFlag_kept, State.aer_kept, State.hifCnt_kept, State.event_kept, State.arm_kept, State.dmaFail_kept, State.updFunc_kept, State.setCfs_kept, *] | split | with_reducible refine onTimer_keeps _ _ _ (fun u => ?_) | with_reducible refine (foldl_kept _ _ _ (fun u _ => ?_)).trans ?_)
  all_goals grind only [kept_mk, kept_fold, State.answered_kept, State.logTimeout_kept, State.setFlag_kept, State.aer_kept, State.hifCnt_kept,
      State.event_kept, State.arm_kept, State.dmaFail_kept, State.updFunc_kept, State.setCfs_kept]

theorem execTagQuarantineEnd_kept (port tag : Nat) (s : State) : Keeps s (execTagQuarantineEnd port tag s) := by
  unfold execTagQuarantineEnd
  repeat' (first | (extract_lets +onlyGivenNames t; first | (refine keeps_via (t := t) ?_ (fun ht => ?_); rotate_left; clear_value t; rotate_left; simp only [t]) | clear_value t) | simp only [kept_mk, kept_fold, State.request_kept, *] | split | with_reducible refine onTimer_keeps _ _ _ (fun u => ?_) | with_reducible refine (foldl_kept _ _ _ (fun u _ => ?_)).trans ?_)
  all_goals grind only [kept_mk, kept_fold, State.request_kept]

theorem State.bmeClear_kept (s : State) (fn : Nat) : (State.bmeClear s fn).kept = s.kept := by
  simp only [State.bmeClear, implies_true, foldl_kept, State.updFunc_kept, State.park_kept]

theorem State.bmeSet_kept (s : State) (fn : Nat) : (State.bmeSet s fn).kept = s.kept := by
  simp only [State.bmeSet, apply_ite State.kept, ite_self, implies_true, foldl_kept, State.updFunc_kept, State.resume_kept, State.postHeld_kept,
      State.raise_kept]

theorem execBusMasterEnableClear_kept (fn : Nat) (s : State) : Keeps s (execBusMasterEnableClear fn s) := by
  unfold execBusMasterEnableClear
  repeat' (first | simp only [implies_true, guarded_kept, State.bmeClear_kept] | split)

theorem execBusMasterEnableSet_kept (fn : Nat) (s : State) : Keeps s (execBusMasterEnableSet fn s) := by
  unfold execBusMasterEnableSet
  repeat' (first | simp only [implies_true, guarded_kept, State.bmeSet_kept] | split)

theorem State.atcFlush_kept (s : State) : (State.atcFlush s).kept = s.kept := by
  simp only [State.atcFlush, kept_mk, kept_fold]

theorem State.aerClear_kept (s : State) (p : Nat) (cor : Bool) (v : Nat) : (State.aerClear s p cor v).kept = s.kept := by
  simp only [State.aerClear, kept_mk, kept_fold, apply_ite State.kept, ite_self]

theorem State.priOff_kept (s : State) (fn : Nat) : (State.priOff s fn).kept = s.kept := by
  simp only [State.priOff, implies_true, foldl_kept, State.dmaFail_kept]

theorem State.configWrite_kept (s : State) (fn reg v : Nat) : (State.configWrite s fn reg v).kept = s.kept := by
  unfold State.configWrite
  repeat' (first | (extract_lets +onlyGivenNames t; first | (refine kept_via (t := t) ?_ (fun ht => ?_); rotate_left; clear_value t; rotate_left; simp only [t]) | clear_value t) | simp only [apply_ite State.kept, ite_self, implies_true, foldl_kept, State.setFunc_kept, State.bmeSet_kept, State.bmeClear_kept, State.updFunc_kept, State.raise_kept, State.priOff_kept, State.dropTranslations_kept, State.aerClear_kept, *] | split | with_reducible refine (foldl_kept _ _ _ (fun u _ => ?_)).trans ?_)
  all_goals grind only [kept_mk, kept_fold, State.setFunc_kept, State.bmeSet_kept, State.bmeClear_kept, State.updFunc_kept, State.raise_kept,
      State.priOff_kept, State.dropTranslations_kept, State.aerClear_kept]

theorem onConfig_keeps (s : State) (fn tag : Nat) (k : State → State) (hk : ∀ u, (k u).kept = u.kept) : Keeps s (onConfig s fn tag k) := by
  unfold onConfig
  simp only []
  split
  · exact (Keeps_fault _ _).2 trivial
  split
  · exact (Keeps_fault _ _).2 trivial
  split
  · refine (Keeps_next _ _).2 ?_
    simp only [State.aer_kept, State.tlpIn_kept, State.hifCnt_kept, State.send_kept]
  have hu : (s.tlpIn (portOf fn)).kept = s.kept := State.tlpIn_kept ..
  generalize s.tlpIn (portOf fn) = u at hu ⊢
  split
  · refine (Keeps_next _ _).2 ?_
    rw [State.hifCnt_kept, State.send_kept, hu]
  split
  · have hd := State.draw_kept u
    generalize u.draw = d at hd ⊢
    obtain ⟨n, t⟩ := d
    simp only [] at hd ⊢
    split
    · refine (Keeps_next _ _).2 ?_
      rw [State.hifCnt_kept, State.send_kept, hd, hu]
    · refine (Keeps_next _ _).2 ?_
      rw [hk, State.setPort_kept, hd, hu]
  · exact (Keeps_next _ _).2 ((hk u).trans hu)

theorem execConfigRead_kept (fn tag reg : Nat) (s : State) : Keeps s (execConfigRead fn tag reg s) := by
  unfold execConfigRead
  repeat' (first | simp only [State.send_kept] | split | with_reducible refine onConfig_keeps _ _ _ _ (fun u => ?_) | with_reducible refine (foldl_kept _ _ _ (fun u _ => ?_)).trans ?_)

theorem execConfigWrite_kept (fn tag reg : Nat) (val : Word) (s : State) : Keeps s (execConfigWrite fn tag reg val s) := by
  unfold execConfigWrite
  repeat' (first | simp only [State.configWrite_kept, State.send_kept] | split | with_reducible refine onConfig_keeps _ _ _ _ (fun u => ?_) | with_reducible refine (foldl_kept _ _ _ (fun u _ => ?_)).trans ?_)

theorem State.spdmSet_kept (s : State) (pf n : Nat) : (State.spdmSet s pf n).kept = s.kept := by
  simp only [State.spdmSet, kept_mk, kept_fold, apply_ite State.kept, ite_self]

theorem State.spdmAnswer_kept (s : State) (pf code : Nat) (data : List Nat) : (State.spdmAnswer s pf code data).kept = s.kept := by
  simp only [State.spdmAnswer, State.send_kept, State.addWrap_kept]

theorem State.spdmError_kept (s : State) (pf e : Nat) : (State.spdmError s pf e).kept = s.kept := by
  simp only [State.spdmError, State.spdmAnswer_kept]

theorem onSpdm_kept (s : State) (pf need : Nat) (t : State) (h : t.kept = s.kept) : Keeps s (onSpdm s pf need t) := by
  unfold onSpdm
  repeat' split
  all_goals first | exact (Keeps_fault _ _).2 trivial | exact (Keeps_next _ _).2 h | exact (Keeps_next _ _).2 rfl | exact (Keeps_next _ _).2 (State.spdmError_kept ..)

theorem execGetVersion_kept (pf : Nat) (s : State) : Keeps s (execGetVersion pf s) := by
  unfold execGetVersion
  repeat' (first | simp only [onSpdm_kept, State.spdmSet_kept, State.spdmAnswer_kept] | split)

theorem execGetCapabilities_kept (pf : Nat) (s : State) : Keeps s (execGetCapabilities pf s) := by
  unfold execGetCapabilities
  repeat' (first | simp only [onSpdm_kept, State.spdmSet_kept, State.spdmAnswer_kept] | split)

theorem execNegotiateAlgorithms_kept (pf asym hash : Nat) (s : State) : Keeps s (execNegotiateAlgorithms pf asym hash s) := by
  unfold execNegotiateAlgorithms
  repeat' (first | simp only [apply_ite State.kept, ite_self, onSpdm_kept, State.spdmSet_kept, State.spdmAnswer_kept, State.spdmError_kept] | split)

theorem execGetDigests_kept (pf : Nat) (s : State) : Keeps s (execGetDigests pf s) := by
  unfold execGetDigests
  repeat' (first | simp only [onSpdm_kept, State.spdmAnswer_kept] | split)

theorem execGetCertificate_kept (pf slot offset length : Nat) (s : State) : Keeps s (execGetCertificate pf slot offset length s) := by
  unfold execGetCertificate
  repeat' (first | simp only [apply_ite State.kept, ite_self, onSpdm_kept, State.spdmError_kept, State.spdmAnswer_kept] | split)

theorem execChallenge_kept (pf slot nonce : Nat) (s : State) : Keeps s (execChallenge pf slot nonce s) := by
  unfold execChallenge
  repeat' (first | simp only [apply_ite State.kept, ite_self, onSpdm_kept, State.spdmError_kept, State.spdmAnswer_kept] | split)

theorem execGetMeasurements_kept (pf index nonce : Nat) (signed : Bool) (s : State) : Keeps s (execGetMeasurements pf index nonce signed s) := by
  unfold execGetMeasurements
  repeat' (first | simp only [onSpdm_kept, State.spdmError_kept, State.spdmAnswer_kept] | split)

theorem execSpdmUnsupportedRequest_kept (pf code : Nat) (s : State) : Keeps s (execSpdmUnsupportedRequest pf code s) := by
  unfold execSpdmUnsupportedRequest
  repeat' (first | simp only [onSpdm_kept, State.spdmAnswer_kept] | split)

end Sys2Proof.Machine
end

