-- ==== Sys2Proof/Laws/KeptUnits.lean ====
section
/-! SUPPORT. The queue, the maker key and the cast-on area through power, the supervisors, the map memory, features and the registers. -/

namespace Sys2Proof.Machine

set_option linter.unusedTactic false
set_option linter.unreachableTactic false
set_option linter.unusedSimpArgs false

theorem State.pwrCnt_kept (s : State) (n : Nat) : (State.pwrCnt s n).kept = s.kept := by
  simp only [State.pwrCnt, State.addWrap_kept]

theorem State.patCnt_kept (s : State) (n : Nat) (k : Nat) : (State.patCnt s n k).kept = s.kept := by
  simp only [State.patCnt, State.addWrap_kept]

theorem State.noteTemps_kept (s : State) : (State.noteTemps s).kept = s.kept := by
  simp only [State.noteTemps, apply_ite State.kept, ite_self, State.critClear_kept, State.critWarn_kept]

theorem execTemperatureThresholdCross_kept (sensor temp : Nat) (s : State) : Keeps s (execTemperatureThresholdCross sensor temp s) := by
  unfold execTemperatureThresholdCross
  repeat' (first | simp only [implies_true, guarded_kept, State.setTemp_kept, State.noteTemps_kept] | split)

theorem State.sample_kept (s : State) (temps : List Nat) (hold : Bool) : (State.sample s temps hold).kept = s.kept := by
  simp only [State.sample, kept_mk, kept_fold, apply_ite State.kept, ite_self, implies_true, foldl_kept, State.setTemp_kept, State.setFld_kept,
      State.addSat_kept, State.putFlag_kept, State.setFlag_kept, State.patCnt_kept]

theorem State.dqTrained_kept (s : State) (k : Nat) : (State.dqTrained s k).kept = s.kept := by
  simp only [State.dqTrained, State.setFld_kept]

theorem State.publish_kept (s : State) : (State.publish s).kept = s.kept := by
  simp only [State.publish, kept_mk, kept_fold]

theorem State.logEntry_kept (s : State) (target reached cause : Nat) : (State.logEntry s target reached cause).kept = s.kept := by
  simp only [State.logEntry, State.shiftLog_kept, State.setFld_kept, State.stamp_kept]

theorem State.watch_kept (s : State) : (State.watch s).kept = s.kept := by
  simp only [State.watch, State.arm_kept]

theorem State.abandonEntry_kept (s : State) (cause : Nat) : (State.abandonEntry s cause).kept = s.kept := by
  unfold State.abandonEntry
  repeat' (first | (extract_lets +onlyGivenNames t; first | (refine kept_via (t := t) ?_ (fun ht => ?_); rotate_left; clear_value t; rotate_left; simp only [t]) | clear_value t) | simp only [kept_mk, kept_fold, apply_ite State.kept, ite_self, State.logEntry_kept, State.cancel_kept, State.setFld_kept, State.setFlag_kept, State.clrFlag_kept, State.watch_kept, State.pwrCnt_kept, *] | split | with_reducible refine (foldl_kept _ _ _ (fun u _ => ?_)).trans ?_)
  all_goals grind only [kept_mk, kept_fold, State.logEntry_kept, State.cancel_kept, State.setFld_kept, State.setFlag_kept, State.clrFlag_kept,
      State.watch_kept, State.pwrCnt_kept]

theorem execDrainLimit_kept (s : State) : Keeps s (execDrainLimit s) := by
  unfold execDrainLimit
  repeat' (first | simp only [State.abandonEntry_kept] | split | with_reducible refine onTimer_keeps _ _ _ (fun u => ?_) | with_reducible refine (foldl_kept _ _ _ (fun u _ => ?_)).trans ?_)

theorem State.chooseCanaries_kept (s : State) (base : List Nat) : (State.chooseCanaries s base).kept = s.kept := by
  simp only [State.chooseCanaries, kept_mk, kept_fold, implies_true, foldl_kept, State.putSat_kept, State.setFlag_kept, State.setFld_kept,
      State.stamp_kept, State.patCnt_kept]

theorem State.entrySave_kept (s : State) (target : Nat) (base : List Nat) : (State.entrySave s target base).kept = s.kept := by
  simp only [State.entrySave, kept_mk, kept_fold, apply_ite State.kept, ite_self, State.publish_kept, State.cancel_kept, State.setFld_kept,
      State.chooseCanaries_kept, State.atcFlush_kept, State.draw_kept, State.setFlag_kept, State.sendReliable_kept]

theorem State.sendLtr_kept (s : State) (us : Nat) : (State.sendLtr s us).kept = s.kept := by
  simp only [State.sendLtr, apply_ite State.kept, ite_self, implies_true, foldl_kept, State.send_kept]

theorem State.entryEnd_kept (s : State) (target begun : Nat) : (State.entryEnd s target begun).kept = s.kept := by
  simp only [State.entryEnd, kept_mk, kept_fold, apply_ite State.kept, ite_self, State.setFld_kept, State.logEntry_kept, State.setPs_kept,
      State.requestVolts_kept, State.sendLtr_kept, State.putSat_kept, State.arm_kept]

theorem execPowerStateEntry_kept (base : List Nat) (s : State) : Keeps s (execPowerStateEntry base s) := by
  unfold execPowerStateEntry
  repeat' (first | simp only [kept_mk, kept_fold, apply_ite State.kept, ite_self, implies_true, foldl_kept, Keeps_next, guarded_kept,
                          State.setFld_kept, State.arm_kept, State.entrySave_kept, State.padRow_kept, State.closeGroup_kept, State.setFlag_kept,
                          State.entryEnd_kept] | split)

theorem State.exitPs_kept (s : State) (cause dur : Nat) (ok : Bool) : (State.exitPs s cause dur ok).kept = s.kept := by
  simp only [State.exitPs, kept_mk, kept_fold, apply_ite State.kept, ite_self, implies_true, foldl_kept, State.patCnt_kept, State.advanceTo_kept,
      State.cancel_kept, State.pwrCnt_kept, State.clrFlag_kept, State.coldReset_kept, State.dqTrained_kept, State.setFlag_kept, State.setPs_kept,
      State.requestVolts_kept, State.setFld_kept, State.putSat_kept, State.sendLtr_kept, State.watch_kept, State.protCheck_kept]

theorem State.wake_kept (s : State) (cause dur : Nat) (ok : Bool) : (State.wake s cause dur ok).kept = s.kept := by
  simp only [State.wake, apply_ite State.kept, ite_self, State.abandonEntry_kept, State.exitPs_kept]

theorem execPs2SlotTimer_kept (s : State) : Keeps s (execPs2SlotTimer s) := by
  unfold execPs2SlotTimer
  repeat' (first | simp only [State.putFlag_kept, State.pwrCnt_kept,
                          State.arm_kept] | split | with_reducible refine onTimer_keeps _ _ _ (fun u => ?_) | with_reducible refine (foldl_kept _ _ _ (fun u _ => ?_)).trans ?_)

theorem execPs3SensorSample_kept (temps : List Nat) (holdOk : Bool) (s : State) : Keeps s (execPs3SensorSample temps holdOk s) := by
  unfold execPs3SensorSample
  repeat' (first | simp only [Keeps_fault, State.sample_kept, State.patCnt_kept,
                          State.arm_kept] | split | with_reducible refine onTimer_keeps _ _ _ (fun u => ?_) | with_reducible refine (foldl_kept _ _ _ (fun u _ => ?_)).trans ?_)

theorem execApstIdleTimeout_kept (fn : Nat) (s : State) : Keeps s (execApstIdleTimeout fn s) := by
  unfold execApstIdleTimeout
  repeat' (first | (extract_lets +onlyGivenNames t; first | (refine keeps_via (t := t) ?_ (fun ht => ?_); rotate_left; clear_value t; rotate_left; simp only [t]) | clear_value t) | simp only [apply_ite State.kept, ite_self, Keeps_next, State.setFunc_kept, State.applyPs_kept, *] | split | with_reducible refine (foldl_kept _ _ _ (fun u _ => ?_)).trans ?_)
  all_goals grind only [kept_mk, kept_fold, State.setFunc_kept, State.applyPs_kept]

theorem State.refreshBin_kept (s : State) (die bin : Nat) : (State.refreshBin s die bin).kept = s.kept := by
  simp only [State.refreshBin, implies_true, foldl_kept, State.queueVictim_kept]

theorem State.readCanaries_kept (s : State) (k : Nat) (rs : List (Bool × Nat × Nat)) : (State.readCanaries s k rs).1.kept = s.kept := by
  unfold State.readCanaries
  repeat' (first | (extract_lets +onlyGivenNames t; first | (refine kept_via (t := t) ?_ (fun ht => ?_); rotate_left; clear_value t; rotate_left; simp only [t]) | clear_value t) | simp only [kept_mk, kept_fold, apply_ite State.kept, ite_self, implies_true, foldl_kept, State.putSat_kept, State.stamp_kept, State.setFld_kept, State.patCnt_kept, *] | split | with_reducible refine (foldl_kept _ _ _ (fun u _ => ?_)).trans ?_)
  all_goals grind only [kept_mk, kept_fold, State.putSat_kept, State.stamp_kept, State.setFld_kept, State.patCnt_kept]

theorem State.canaryAction_kept (s : State) (e : Nat × Canary × Nat × Nat) : (State.canaryAction s e).kept = s.kept := by
  simp only [State.canaryAction, kept_mk, kept_fold, apply_ite State.kept, ite_self, State.refreshBin_kept]

theorem State.escalate_kept (s : State) (cause die bin value : Nat) : (State.escalate s cause die bin value).kept = s.kept := by
  simp only [State.escalate, kept_mk, kept_fold, apply_ite State.kept, ite_self, implies_true, foldl_kept, State.setFld_kept, State.setFlag_kept,
      State.patCnt_kept, State.event_kept, State.updFunc_kept]

theorem State.patrol_kept (s : State) (temps : List Nat) (hold : Bool) (rs : List (Bool × Nat × Nat)) (us : Nat)
    : (State.patrol s temps hold rs us).2.kept = s.kept := by
  unfold State.patrol
  repeat' (first | (extract_lets +onlyGivenNames t; first | (refine kept_via (t := t) ?_ (fun ht => ?_); rotate_left; clear_value t; rotate_left; simp only [t]) | clear_value t) | simp only [implies_true, foldl_kept, State.sample_kept, State.dqTrained_kept, State.patCnt_kept, State.setFld_kept, State.putSat_kept, State.readCanaries_kept, State.canaryAction_kept, State.escalate_kept, State.noteTemps_kept, *] | split | with_reducible refine (foldl_kept _ _ _ (fun u _ => ?_)).trans ?_)
  all_goals grind only [kept_mk, kept_fold, State.sample_kept, State.dqTrained_kept, State.patCnt_kept, State.setFld_kept, State.putSat_kept,
      State.readCanaries_kept, State.canaryAction_kept, State.escalate_kept, State.noteTemps_kept]

theorem execPatrolConfigure_kept (cmd period flags absW rise reserved : Nat) (s : State)
    : Keeps s (execPatrolConfigure cmd period flags absW rise reserved s) := by
  unfold execPatrolConfigure
  repeat' (first | simp only [State.superGate_kept, State.finish_kept, State.noteGated_kept, State.setFld_kept,
                          State.saveSettings_kept] | split | with_reducible refine onVendor_keeps _ _ _ _ (fun u => ?_) | with_reducible refine (foldl_kept _ _ _ (fun u _ => ?_)).trans ?_)

theorem State.cmpTested_kept (s : State) (failed : List (Nat × Nat)) : (State.cmpTested s failed).kept = s.kept := by
  simp only [State.cmpTested, implies_true, foldl_kept, State.rejectFrame_kept, State.cmpCnt_kept, State.emitBlocks_kept, State.framesRead_kept,
      State.clrFlag_kept, State.putFlag_kept, State.setFld_kept]

theorem State.cmpCntClr_kept (s : State) : (State.cmpCntClr s).kept = s.kept := by
  simp only [State.cmpCntClr, State.clearWords_kept]

theorem State.supCnt_kept (s : State) (n : Nat) (k : Nat) : (State.supCnt s n k).kept = s.kept := by
  simp only [State.supCnt, State.addWrap_kept]

theorem State.transitionYield_kept (s : State) : (State.transitionYield s).kept = s.kept := by
  unfold State.transitionYield
  repeat' (first | simp only [kept_mk, kept_fold, apply_ite State.kept, ite_self] | split)

theorem State.activationYield_kept (s : State) : (State.activationYield s).kept = s.kept := by
  unfold State.activationYield
  repeat' (first | simp only [apply_ite State.kept, ite_self, State.activationOver_kept] | split)

theorem State.stopOwned_kept (s : State) (st : Status) : (State.stopOwned s st).kept = s.kept := by
  simp only [State.stopOwned, kept_mk, kept_fold, apply_ite State.kept, ite_self, implies_true, foldl_kept, State.finish_kept, State.supCnt_kept,
      State.transitionYield_kept, State.activationYield_kept, State.abandonEntry_kept, State.cancel_kept]

theorem State.supFailed_kept (s : State) (code : Nat) : (State.supFailed s code).kept = s.kept := by
  simp only [State.supFailed, kept_mk, kept_fold, State.stopOwned_kept, State.setCfs_kept, State.setFlag_kept, State.clrFlag_kept, State.event_kept,
      State.cancel_kept, State.cfsRelease_kept]

theorem State.superYield_kept (s : State) (cause : Nat) : (State.superYield s cause).kept = s.kept := by
  unfold State.superYield
  repeat' (first | (extract_lets +onlyGivenNames t; first | (refine kept_via (t := t) ?_ (fun ht => ?_); rotate_left; clear_value t; rotate_left; simp only [t]) | clear_value t) | simp only [kept_mk, kept_fold, apply_ite State.kept, ite_self, State.setFld_kept, State.clrFlag_kept, State.arm_kept, State.supFailed_kept, State.stopOwned_kept, State.setFlag_kept, State.cancel_kept, *] | split | with_reducible refine (foldl_kept _ _ _ (fun u _ => ?_)).trans ?_)
  all_goals grind only [kept_mk, kept_fold, State.setFld_kept, State.clrFlag_kept, State.arm_kept, State.supFailed_kept, State.stopOwned_kept,
      State.setFlag_kept, State.cancel_kept]

theorem execSupervisorWatchdog_kept (s : State) : Keeps s (execSupervisorWatchdog s) := by
  unfold execSupervisorWatchdog
  repeat' (first | simp only [apply_ite State.kept, ite_self, State.setFld_kept, State.supCnt_kept,
                          State.superYield_kept] | split | with_reducible refine onTimer_keeps _ _ _ (fun u => ?_) | with_reducible refine (foldl_kept _ _ _ (fun u _ => ?_)).trans ?_)

theorem execTaskLimitExpiry_kept (s : State) : Keeps s (execTaskLimitExpiry s) := by
  unfold execTaskLimitExpiry
  repeat' (first | simp only [Keeps_next, State.superYield_kept] | split)

theorem execSupervisorSelfCheckFail_kept (cause : Nat) (s : State) : Keeps s (execSupervisorSelfCheckFail cause s) := by
  unfold execSupervisorSelfCheckFail
  repeat' (first | simp only [implies_true, guarded_kept, State.superYield_kept] | split)

theorem State.noteTest_kept (s : State) (code : Nat) : (State.noteTest s code).kept = s.kept := by
  simp only [State.noteTest, apply_ite State.kept, ite_self, State.setFlag_kept, State.putFlag_kept, State.setFld_kept, State.stamp_kept,
      State.supCnt_kept]

theorem State.standbyResult_kept (s : State) (code : Nat) (retry : Bool) : (State.standbyResult s code retry).kept = s.kept := by
  simp only [State.standbyResult, kept_mk, kept_fold, apply_ite State.kept, ite_self, State.noteTest_kept, State.setFlag_kept, State.noteC0_kept,
      State.cancel_kept, State.clrFlag_kept, State.event_kept, State.arm_kept]

theorem State.yieldTest_kept (s : State) (code : Nat) : (State.yieldTest s code).kept = s.kept := by
  simp only [State.yieldTest, apply_ite State.kept, ite_self, State.noteTest_kept, State.supFailed_kept, State.putFlag_kept]

theorem execStandbySelfTest_kept (code : Nat) (failed : List (Nat × Nat)) (s : State) : Keeps s (execStandbySelfTest code failed s) := by
  unfold execStandbySelfTest
  repeat' (first | simp only [apply_ite State.kept, ite_self, Keeps_fault, State.yieldTest_kept, State.arm_kept, State.cmpTested_kept,
                          State.standbyResult_kept] | split | with_reducible refine onTimer_keeps _ _ _ (fun u => ?_) | with_reducible refine (foldl_kept _ _ _ (fun u _ => ?_)).trans ?_)

theorem execStandbyTestRetry_kept (code : Nat) (s : State) : Keeps s (execStandbyTestRetry code s) := by
  unfold execStandbyTestRetry
  repeat' (first | simp only [Keeps_fault, State.standbyResult_kept] | split | with_reducible refine onTimer_keeps _ _ _ (fun u => ?_) | with_reducible refine (foldl_kept _ _ _ (fun u _ => ?_)).trans ?_)

theorem execSupervisorTestRun_kept (cmd reserved code : Nat) (s : State) : Keeps s (execSupervisorTestRun cmd reserved code s) := by
  unfold execSupervisorTestRun
  repeat' (first | simp only [Keeps_fault, State.finish_kept,
                          State.standbyResult_kept] | split | with_reducible refine onVendor_keeps _ _ _ _ (fun u => ?_) | with_reducible refine (foldl_kept _ _ _ (fun u _ => ?_)).trans ?_)

theorem execSupervisorTestYield_kept (cmd reserved : Nat) (s : State) : Keeps s (execSupervisorTestYield cmd reserved s) := by
  unfold execSupervisorTestYield
  repeat' (first | simp only [State.finish_kept, State.superYield_kept] | split | with_reducible refine onVendor_keeps _ _ _ _ (fun u => ?_) | with_reducible refine (foldl_kept _ _ _ (fun u _ => ?_)).trans ?_)

theorem execSnapshotTimer_kept (s : State) : Keeps s (execSnapshotTimer s) := by
  unfold execSnapshotTimer
  repeat' (first | (extract_lets +onlyGivenNames t; first | (refine keeps_via (t := t) ?_ (fun ht => ?_); rotate_left; clear_value t; rotate_left; simp only [t]) | clear_value t) | simp only [kept_mk, kept_fold, State.setFld_kept, State.stamp_kept, State.supCnt_kept, State.arm_kept, *] | split | with_reducible refine onTimer_keeps _ _ _ (fun u => ?_) | with_reducible refine (foldl_kept _ _ _ (fun u _ => ?_)).trans ?_)
  all_goals grind only [kept_mk, kept_fold, State.setFld_kept, State.stamp_kept, State.supCnt_kept, State.arm_kept]

theorem State.logSwitch_kept (s : State) (cause ms : Nat) : (State.logSwitch s cause ms).kept = s.kept := by
  simp only [State.logSwitch, State.shiftLog_kept, State.setFld_kept, State.putSat_kept, State.stamp_kept]

theorem State.takeControl_kept (s : State) (cause ms : Nat) (badBank : Bool) (completed redone : Nat)
    : (State.takeControl s cause ms badBank completed redone).kept = s.kept := by
  simp only [State.takeControl, kept_mk, kept_fold, State.setFld_kept, State.clrFlag_kept, State.putSat_kept, State.setFlag_kept,
      State.logSwitch_kept, State.addWrap_kept, State.supCnt_kept, State.event_kept, State.noteC0_kept, State.watch_kept, State.saveSettings_kept,
      State.applyPs_kept, State.cfsRelease_kept]

theorem execSwitchOver_kept (ms : Nat) (badBank : Bool) (completed redone tested : Nat) (s : State)
    : Keeps s (execSwitchOver ms badBank completed redone tested s) := by
  unfold execSwitchOver
  repeat' (first | simp only [apply_ite State.kept, ite_self, implies_true, Keeps_fault, State.advanceTo_kept, State.cancel_kept,
                          State.yieldTest_kept, guarded_kept, State.takeControl_kept] | split)

theorem State.supCntClr_kept (s : State) : (State.supCntClr s).kept = s.kept := by
  simp only [State.supCntClr, State.clearWords_kept]

theorem State.supLogClr_kept (s : State) : (State.supLogClr s).kept = s.kept := by
  simp only [State.supLogClr, kept_mk, kept_fold, State.clearWords_kept]

theorem State.applySafe_kept (s : State) (u : Nat × Nat × Nat) : (State.applySafe s u).kept = s.kept := by
  simp only [State.applySafe, apply_ite State.kept, ite_self, State.applyUnit_kept]

theorem State.stopDie_kept (s : State) (d : Nat) (o : FlashOp) : (State.stopDie s d o).kept = s.kept := by
  unfold State.stopDie
  repeat' (first | simp only [State.cancel_kept, State.updBlk_kept] | split)

theorem State.storePfail_kept (s : State) : (State.storePfail s).kept = s.kept := by
  simp only [State.storePfail, kept_mk, kept_fold, apply_ite State.kept, ite_self, State.cfsCnt_kept]

theorem State.pfailEvent_kept (s : State) : (State.pfailEvent s).kept = s.kept := by
  simp only [State.pfailEvent, apply_ite State.kept, ite_self, State.event_kept, State.cfsRequest_kept, State.persistStaged_kept]

theorem State.powerEnds_kept (s : State) : (State.powerEnds s).kept = s.kept := by
  unfold State.powerEnds
  repeat' (first | (extract_lets +onlyGivenNames t; first | (refine kept_via (t := t) ?_ (fun ht => ?_); rotate_left; clear_value t; rotate_left; simp only [t]) | clear_value t) | simp only [kept_mk, kept_fold, implies_true, foldl_kept, State.activationOver_kept, State.clrFlag_kept, State.stopDie_kept, *] | split | with_reducible refine (foldl_kept _ _ _ (fun u _ => ?_)).trans ?_)
  all_goals grind only [kept_mk, kept_fold, State.activationOver_kept, State.clrFlag_kept, State.stopDie_kept]

theorem State.powerFail_kept (s : State) : (State.powerFail s).kept = s.kept := by
  simp only [State.powerFail, kept_mk, kept_fold, apply_ite State.kept, ite_self, implies_true, foldl_kept, State.endCommands_kept,
      State.applySafe_kept, State.powerEnds_kept, State.storePfail_kept, State.pfailEvent_kept, State.setFlag_kept, State.closeGroup_kept]

theorem execPfailAssert_kept (s : State) : Keeps s (execPfailAssert s) := by
  unfold execPfailAssert
  repeat' (first | simp only [kept_mk, kept_fold, Keeps_next, State.powerFail_kept] | split)

theorem State.railFall_kept (s : State) (r : Nat) : (State.railFall s r).kept = s.kept := by
  simp only [State.railFall, kept_mk, kept_fold, apply_ite State.kept, ite_self, State.powerFail_kept]

theorem execRailLow_kept (rail : Nat) (s : State) : Keeps s (execRailLow rail s) := by
  unfold execRailLow
  repeat' (first | simp only [implies_true, guarded_kept, State.railFall_kept] | split)

theorem execVddCoreLow_kept (s : State) : Keeps s (execVddCoreLow s) := by
  unfold execVddCoreLow
  repeat' (first | simp only [Keeps_next, State.railFall_kept] | split)

theorem State.commitAll_kept (s : State) (rows : List (Nat × Nat)) : (State.commitAll s rows).kept = s.kept := by
  simp only [State.commitAll, implies_true, foldl_kept, State.commitGroup_kept]

theorem State.noteDump_kept (s : State) (n quiet : Nat) (short : Bool) : (State.noteDump s n quiet short).kept = s.kept := by
  simp only [State.noteDump, State.putSat_kept, State.setFld_kept, State.shiftLog_kept, State.putFlag_kept, State.lifCnt_kept, State.cfsRequest_kept]

theorem State.dumpDone_kept (s : State) (quiet written : Nat) (rows : List (Nat × Nat)) : (State.dumpDone s quiet written rows).kept = s.kept := by
  simp only [State.dumpDone, kept_mk, kept_fold, State.advanceTo_kept, State.commitAll_kept, State.noteDump_kept]

theorem execDumpEnd_kept (quiet written : Nat) (rows : List (Nat × Nat)) (back : Bool) (s : State)
    : Keeps s (execDumpEnd quiet written rows back s) := by
  unfold execDumpEnd
  repeat' (first | (extract_lets +onlyGivenNames t; first | (refine keeps_via (t := t) ?_ (fun ht => ?_); rotate_left; clear_value t; rotate_left; simp only [t]) | clear_value t) | simp only [kept_mk, kept_fold, apply_ite State.kept, ite_self, implies_true, State.dumpDone_kept, guarded_kept, State.dumpReset_kept, State.resetPort_kept, *] | split | with_reducible refine (foldl_kept _ _ _ (fun u _ => ?_)).trans ?_)
  all_goals grind only [kept_mk, kept_fold, State.dumpDone_kept, guarded_kept, State.dumpReset_kept, State.resetPort_kept]

theorem State.hbmCnt_kept (s : State) (n : Nat) (k : Nat) : (State.hbmCnt s n k).kept = s.kept := by
  simp only [State.hbmCnt, State.addWrap_kept]

theorem State.countRefresh_kept (s : State) (n : Nat) : (State.countRefresh s n).kept = s.kept := by
  simp only [State.countRefresh, kept_mk, kept_fold, State.hbmCnt_kept]

theorem execHbmRefresh_kept (pc bank : Nat) (waiting : Bool) (s : State) : Keeps s (execHbmRefresh pc bank waiting s) := by
  unfold execHbmRefresh
  repeat' (first | simp only [kept_mk, kept_fold, apply_ite State.kept, ite_self, implies_true, guarded_kept, State.countRefresh_kept] | split)

theorem State.noteThrottles_kept (s : State) : (State.noteThrottles s).kept = s.kept := by
  simp only [State.noteThrottles, State.setFld_kept]

theorem execRowActivateLimit_kept (pc bank row port : Nat) (s : State) : Keeps s (execRowActivateLimit pc bank row port s) := by
  unfold execRowActivateLimit
  repeat' (first | (extract_lets +onlyGivenNames t; first | (refine keeps_via (t := t) ?_ (fun ht => ?_); rotate_left; clear_value t; rotate_left; simp only [t]) | clear_value t) | simp only [kept_mk, kept_fold, implies_true, State.setFld_kept, State.noteThrottles_kept, State.hbmCnt_kept, State.addSat_kept, State.setFlag_kept, State.event_kept, guarded_kept, State.arm_kept, *] | split | with_reducible refine (foldl_kept _ _ _ (fun u _ => ?_)).trans ?_)
  all_goals grind only [kept_mk, kept_fold, State.setFld_kept, State.noteThrottles_kept, State.hbmCnt_kept, State.addSat_kept, State.setFlag_kept,
      State.event_kept, guarded_kept, State.arm_kept]

theorem execThrottleExpiry_kept (pc bank port : Nat) (s : State) : Keeps s (execThrottleExpiry pc bank port s) := by
  unfold execThrottleExpiry
  repeat' (first | simp only [kept_mk, kept_fold, State.noteThrottles_kept] | split | with_reducible refine onTimer_keeps _ _ _ (fun u => ?_) | with_reducible refine (foldl_kept _ _ _ (fun u _ => ?_)).trans ?_)

theorem execHbmMaxwait_kept (port : Nat) (s : State) : Keeps s (execHbmMaxwait port s) := by
  unfold execHbmMaxwait
  repeat' (first | simp only [implies_true, guarded_kept, State.hbmCnt_kept] | split)

theorem execHbmStackPast85_kept (stack temp : Nat) (s : State) : Keeps s (execHbmStackPast85 stack temp s) := by
  unfold execHbmStackPast85
  repeat' (first | simp only [apply_ite State.kept, ite_self, implies_true, State.setTemp_kept, State.putFlag_kept, guarded_kept,
                          State.setFlag_kept] | split)

theorem execHbmScrubPeriod_kept (corrected : List Nat) (s : State) : Keeps s (execHbmScrubPeriod corrected s) := by
  unfold execHbmScrubPeriod
  repeat' (first | (extract_lets +onlyGivenNames t; first | (refine keeps_via (t := t) ?_ (fun ht => ?_); rotate_left; clear_value t; rotate_left; simp only [t]) | clear_value t) | simp only [kept_mk, kept_fold, implies_true, foldl_kept, Keeps_next, State.addSat_kept, State.setFlag_kept, State.hbmCnt_kept, State.arm_kept, *] | split | with_reducible refine onTimer_keeps _ _ _ (fun u => ?_) | with_reducible refine (foldl_kept _ _ _ (fun u _ => ?_)).trans ?_)
  all_goals grind only [kept_mk, kept_fold, State.addSat_kept, State.setFlag_kept, State.hbmCnt_kept, State.arm_kept]

theorem State.scrubNow_kept (s : State) : (State.scrubNow s).kept = s.kept := by
  simp only [State.scrubNow, State.arm_kept]

theorem State.noteUe_kept (s : State) (a port : Nat) : (State.noteUe s a port).kept = s.kept := by
  simp only [State.noteUe, apply_ite State.kept, ite_self, State.setFld_kept, State.setFlag_kept, State.addSat_kept, State.hbmCnt_kept,
      State.event_kept, State.degrade_kept]

theorem State.repairRow_kept (s : State) (a : Nat) : (State.repairRow s a).kept = s.kept := by
  simp only [State.repairRow, kept_mk, kept_fold, apply_ite State.kept, ite_self, State.hbmCnt_kept, State.cfsRequest_kept]

theorem State.ueHandle_kept (s : State) (a : Nat) (h : HbmObject) : Keeps s (State.ueHandle s a h) := by
  unfold State.ueHandle
  repeat' (first | simp only [kept_mk, kept_fold, apply_ite State.kept, ite_self, implies_true, Keeps_next, execMapSegmentStall_kept,
                          execOwnerTableError_kept, execWriteBufferUe_kept, State.abandonCw_kept, execParityAccumulatorUe_kept, State.powerFail_kept,
                          State.setCfs_kept, guarded_kept, State.superYield_kept] | split | with_reducible refine withSome_keeps _ _ _ (fun u => ?_) | with_reducible refine (foldl_kept _ _ _ (fun u _ => ?_)).trans ?_)

theorem execHbmUncorrectable_kept (addr port : Nat) (hit : HbmObject) (repaired : Bool) (s : State)
    : Keeps s (execHbmUncorrectable addr port hit repaired s) := by
  unfold execHbmUncorrectable
  extract_lets t
  have e : t.kept = s.kept := State.noteUe_kept ..
  clear_value t
  split
  · intro u h
    refine (State.ueHandle_kept _ _ _ u h).trans ?_
    simp only [apply_ite State.kept, State.repairRow_kept, ite_self, e]
  · exact (Keeps_fault _ _).2 trivial

theorem execHbmZeroDone_kept (ms : Nat) (s : State) : Keeps s (execHbmZeroDone ms s) := by
  unfold execHbmZeroDone
  repeat' (first | simp only [kept_mk, kept_fold, Keeps_next, Keeps_fault, State.advanceTo_kept, State.setFlag_kept, State.putSat_kept] | split)

theorem State.storeFeature_kept (s : State) (cmd fn key val : Nat) (save : Bool) : (State.storeFeature s cmd fn key val save).kept = s.kept := by
  simp only [State.storeFeature, kept_mk, kept_fold, apply_ite State.kept, ite_self, State.updFunc_kept, State.updCmd_kept, State.cfsRequest_kept,
      State.finish_kept]

theorem State.setQueues_kept (s : State) (cmd fn cdw11 : Nat) : (State.setQueues s cmd fn cdw11).kept = s.kept := by
  simp only [State.setQueues, apply_ite State.kept, ite_self, State.finish_kept, State.updFunc_kept]

theorem State.setFdp_kept (s : State) (cmd cdw11 cdw12 : Nat) : (State.setFdp s cmd cdw11 cdw12).kept = s.kept := by
  simp only [State.setFdp, kept_mk, kept_fold, apply_ite State.kept, ite_self, State.finish_kept, State.updCmd_kept, State.cfsRequest_kept]

theorem State.setFdpEvents_kept (s : State) (cmd nsid fn cdw11 cdw12 : Nat) (data : List Nat)
    : (State.setFdpEvents s cmd nsid fn cdw11 cdw12 data).kept = s.kept := by
  unfold State.setFdpEvents
  repeat' (first | (extract_lets +onlyGivenNames t; first | (refine kept_via (t := t) ?_ (fun ht => ?_); rotate_left; clear_value t; rotate_left; simp only [t]) | clear_value t) | simp only [kept_mk, kept_fold, apply_ite State.kept, ite_self, State.finish_kept, *] | split | with_reducible refine (foldl_kept _ _ _ (fun u _ => ?_)).trans ?_)
  all_goals grind only [kept_mk, kept_fold, State.finish_kept]

theorem State.setStandard_kept (s : State) (cmd fid fn nsid : Nat) (save : Bool) (cdw11 cdw12 : Nat) (data : List Nat)
    : (State.setStandard s cmd fid fn nsid save cdw11 cdw12 data).kept = s.kept := by
  unfold State.setStandard
  repeat' (first | simp only [kept_mk, kept_fold, apply_ite State.kept, ite_self, implies_true, foldl_kept, State.storeFeature_kept,
                          State.finish_kept, State.updFunc_kept, State.applyPs_kept, State.noteTemps_kept, State.setQueues_kept, State.setTime_kept,
                          State.setFld_kept, State.event_kept, State.updCmd_kept, State.cfsRequest_kept, State.setFdp_kept,
                          State.setFdpEvents_kept] | split)

theorem State.setVendor_kept (s : State) (fid fn nsid cdw11 cdw12 cdw13 : Nat) : ∀ t,
    State.setVendor s fid fn nsid cdw11 cdw12 cdw13 = .ok t → t.kept = s.kept := by
  intro t
  unfold State.setVendor
  repeat' (first | (intro h; cases h; done) | (intro h; cases h) | simp only [kept_mk, kept_fold, apply_ite State.kept, ite_self,
                          State.protCheck_kept, State.armActivation_kept, State.spread_kept, State.setFld_kept,
                          State.noteF_kept] | split | with_reducible refine (foldl_kept _ _ _ (fun u _ => ?_)).trans ?_)

theorem execSetFeatures_kept (cmd fid : Nat) (save : Bool) (cdw11 cdw12 cdw13 : Nat) (data : List Nat) (s : State)
    : Keeps s (execSetFeatures cmd fid save cdw11 cdw12 cdw13 data s) := by
  unfold execSetFeatures
  repeat' (first | simp only [apply_ite State.kept, ite_self, State.deny_kept, State.finish_kept, State.setStandard_kept, State.noteGated_kept,
                          State.updCmd_kept, State.cfsRequest_kept] | split | with_reducible refine onAdmin_keeps _ _ _ (fun u => ?_) | with_reducible refine (foldl_kept _ _ _ (fun u _ => ?_)).trans ?_)
  all_goals grind only [kept_mk, kept_fold, State.deny_kept, State.finish_kept, State.setStandard_kept, State.setVendor_kept, State.noteGated_kept,
      State.updCmd_kept, State.cfsRequest_kept]

theorem execGetFeatures_kept (cmd fid select cdw11 : Nat) (s : State) : Keeps s (execGetFeatures cmd fid select cdw11 s) := by
  unfold execGetFeatures
  repeat' (first | simp only [apply_ite State.kept, ite_self, State.finish_kept,
                          State.send_kept] | split | with_reducible refine onAdmin_keeps _ _ _ (fun u => ?_) | with_reducible refine (foldl_kept _ _ _ (fun u _ => ?_)).trans ?_)

theorem State.liveWord_kept (s : State) (off : Nat) : (s.liveWord off).2.kept = s.kept := by
  unfold State.liveWord
  refine foldl_kept_snd _ _ _ (fun u x => ?_)
  split
  · rfl
  · exact State.draw_kept ..

theorem State.latchPair_kept (s : State) (req i : Nat) : (State.latchPair s req i).2.kept = s.kept := by
  unfold State.latchPair
  repeat' (first | simp only [kept_mk, kept_fold] | split)

theorem State.regRead_kept (s : State) (req off : Nat) : (State.regRead s req off).2.kept = s.kept := by
  unfold State.regRead
  repeat' (first | simp only [State.latchPair_kept, State.evwRead0_kept, State.evwRead7_kept, State.keyAccess_kept, State.dpAccess_kept,
                          State.liveWord_kept] | split)

theorem State.regPeek_kept (s : State) (req off : Nat) : (State.regPeek s req off).2.kept = s.kept := by
  unfold State.regPeek
  repeat' (first | simp only [State.liveWord_kept] | split)

theorem State.msixWrite_kept (s : State) (fn k : Nat) (val mask : Word) : (State.msixWrite s fn k val mask).kept = s.kept := by
  simp only [State.msixWrite, apply_ite State.kept, ite_self, State.unmaskVector_kept, State.updFunc_kept]

theorem State.highWrite_kept (s : State) (pf off : Nat) (val mask : Word) : (State.highWrite s pf off val mask).kept = s.kept := by
  simp only [State.highWrite, apply_ite State.kept, ite_self, State.msixWrite_kept]

theorem State.barRead_kept (s : State) (pf off : Nat) : (State.barRead s pf off).2.kept = s.kept := by
  unfold State.barRead
  repeat' (first | simp only [State.regRead_kept] | split)

theorem State.clearLog_kept (s : State) (offs : List Nat) : (State.clearLog s offs).kept = s.kept := by
  simp only [State.clearLog, kept_mk, kept_fold, State.clearWords_kept]

theorem State.hifCntClr_kept (s : State) : (State.hifCntClr s).kept = s.kept := by
  simp only [State.hifCntClr, State.clearWords_kept, State.setFld_kept]

theorem State.sknCntClr_kept (s : State) (k : Nat) : (State.sknCntClr s k).kept = s.kept := by
  simp only [State.sknCntClr, State.clearWords_kept]

theorem State.pwrHistClr_kept (s : State) : (State.pwrHistClr s).kept = s.kept := by
  simp only [State.pwrHistClr, kept_mk, kept_fold, State.clearLog_kept]

theorem State.ttClr_kept (s : State) : (State.ttClr s).kept = s.kept := by
  simp only [State.ttClr, kept_mk, kept_fold, State.clearWords_kept]

theorem State.retrainChan_kept (s : State) (c : Nat) : (State.retrainChan s c).kept = s.kept := by
  simp only [State.retrainChan, apply_ite State.kept, ite_self, State.retrain_kept]

theorem State.retrainSkein_kept (s : State) (k : Nat) : (State.retrainSkein s k).kept = s.kept := by
  simp only [State.retrainSkein, implies_true, foldl_kept, State.retrainChan_kept]

theorem State.cntClr_kept (s : State) (f : Fld) : ∀ t, s.cntClr f = some t → t.kept = s.kept := by
  intro t
  unfold State.cntClr
  simp only []
  repeat' refine ite_some_kept (by first | with_reducible exact State.clearWords_kept .. | with_reducible exact State.hifCntClr_kept .. | with_reducible exact State.cmpCntClr_kept .. | with_reducible exact State.supCntClr_kept ..) ?_
  intro h; cases h

theorem State.logClr_kept (s : State) (f : Fld) : ∀ t, State.logClr s f = some t → t.kept = s.kept := by
  intro t
  unfold State.logClr
  repeat' (first | (intro h; cases h; done) | (intro h; cases h) | simp only [State.clearWords_kept, State.clearLog_kept, State.ttClr_kept,
                          State.cfsRequest_kept, State.supLogClr_kept, State.pwrHistClr_kept,
                          State.setWord_kept] | split | with_reducible refine (foldl_kept _ _ _ (fun u _ => ?_)).trans ?_)

theorem State.regAction_kept (s : State) (pf : Nat) (f : Fld) : (State.regAction s pf f).kept = s.kept := by
  unfold State.regAction
  repeat' (first | simp only [apply_ite State.kept, ite_self, State.paceMinClear_kept, State.atcFlush_kept, State.releaseAllSlow_kept,
                          State.scrubNow_kept, State.setFlag_kept, State.windowCommit_kept, State.fwDiscard_kept, State.arm_kept,
                          State.dpCommit_kept, State.dpDiscard_kept, State.keyCommit_kept, State.keyDiscard_kept, State.debugUnlock_kept,
                          State.evwSeekOld_kept, State.evwSeekNew_kept, State.sknCntClr_kept, State.retrainSkein_kept,
                          State.retrainChan_kept] | split | with_reducible refine (foldl_kept _ _ _ (fun u _ => ?_)).trans ?_)
  all_goals grind only [kept_mk, kept_fold, State.cntClr_kept, State.logClr_kept, State.paceMinClear_kept, State.atcFlush_kept,
      State.releaseAllSlow_kept, State.scrubNow_kept, State.setFlag_kept, State.windowCommit_kept, State.fwDiscard_kept, State.arm_kept,
      State.dpCommit_kept, State.dpDiscard_kept, State.keyCommit_kept, State.keyDiscard_kept, State.debugUnlock_kept, State.evwSeekOld_kept,
      State.evwSeekNew_kept, State.sknCntClr_kept, State.retrainSkein_kept, State.retrainChan_kept]

theorem State.layoutWrite_kept (s : State) (merged : Word) (word : Word) : (State.layoutWrite s merged word).2.kept = s.kept := by
  unfold State.layoutWrite
  repeat' (first | (extract_lets +onlyGivenNames t; first | (refine kept_via (t := t) ?_ (fun ht => ?_); rotate_left; clear_value t; rotate_left; simp only [t]) | clear_value t) | simp only [State.event_kept, *] | split | with_reducible refine (foldl_kept _ _ _ (fun u _ => ?_)).trans ?_)
  all_goals grind only [kept_mk, kept_fold, State.event_kept]

theorem State.newWord_kept (s : State) (off : Nat) (rows : List FieldRow) (old merged mask : Word)
    : (State.newWord s off rows old merged mask).2.kept = s.kept := by
  unfold State.newWord
  repeat' (first | simp only [State.event_kept, State.layoutWrite_kept] | split)

theorem State.storeWord_kept (s : State) (pf off : Nat) (w : Word) : (State.storeWord s pf off w).kept = s.kept := by
  simp only [State.storeWord, apply_ite State.kept, ite_self, State.setBank_kept, State.setWord_kept, State.evwCursor_kept, State.keySelect_kept,
      State.keyAccess_kept, State.dpSelect_kept, State.dpAccess_kept, State.windowSelect_kept]

theorem State.regEffect_kept (s : State) (off : Nat) : (State.regEffect s off).kept = s.kept := by
  simp only [State.regEffect, apply_ite State.kept, ite_self, State.protCheck_kept, State.checkSpare_kept, State.noteF_kept, State.noteStaging_kept,
      State.noteJournal_kept]

theorem State.regWrite_kept (s : State) (src pf off : Nat) (val mask : Word) : (State.regWrite s src pf off val mask).2.kept = s.kept := by
  unfold State.regWrite
  repeat' (first | (extract_lets +onlyGivenNames t; first | (refine kept_via (t := t) ?_ (fun ht => ?_); rotate_left; clear_value t; rotate_left; simp only [t]) | clear_value t) | simp only [apply_ite State.kept, ite_self, implies_true, foldl_kept, State.deny_kept, State.newWord_kept, State.storeWord_kept, State.regAction_kept, State.regEffect_kept, State.noteGated_kept, State.saveSettings_kept, *] | split | with_reducible refine (foldl_kept _ _ _ (fun u _ => ?_)).trans ?_)
  all_goals grind only [kept_mk, kept_fold, State.deny_kept, State.newWord_kept, State.storeWord_kept, State.regAction_kept, State.regEffect_kept,
      State.noteGated_kept, State.saveSettings_kept]

theorem State.barStore_kept (s : State) (pf off : Nat) (val mask : Word) : (State.barStore s pf off val mask).kept = s.kept := by
  simp only [State.barStore, apply_ite State.kept, ite_self, State.highWrite_kept, State.regWrite_kept]

theorem State.barWrite_kept (s : State) (pf off : Nat) (val : Word) (be : Nat) : (State.barWrite s pf off val be).kept = s.kept := by
  simp only [State.barWrite, kept_mk, kept_fold, apply_ite State.kept, ite_self, State.touch_kept, State.barStore_kept]

theorem onBar_kept (s : State) (pf : Nat) (t : State) (h : t.kept = s.kept) : Keeps s (onBar s pf t) := by
  unfold onBar
  repeat' split
  all_goals first | exact (Keeps_fault _ _).2 trivial | exact (Keeps_next _ _).2 h | exact (Keeps_next _ _).2 rfl | exact (Keeps_next _ _).2 (State.spdmError_kept ..)

theorem State.writeBit_kept (s : State) (pf : Nat) (f : Fld) : (State.writeBit s pf f).kept = s.kept := by
  simp only [State.writeBit, kept_mk, kept_fold, apply_ite State.kept, ite_self, State.touch_kept, State.regWrite_kept]

theorem onBit_kept (s : State) (pf : Nat) (f : Fld) : Keeps s (onBit s pf f) := by
  unfold onBit
  repeat' (first | simp only [onBar_kept, State.writeBit_kept] | split)

theorem execLatchedPairLoRead_kept (requester pair : Nat) (s : State) : Keeps s (execLatchedPairLoRead requester pair s) := by
  unfold execLatchedPairLoRead
  repeat' (first | simp only [implies_true, guarded_kept, State.latchPair_kept] | split)

theorem execRegisterWrite_kept (pf off : Nat) (val : Word) (be : Nat) (s : State) : Keeps s (execRegisterWrite pf off val be s) := by
  unfold execRegisterWrite
  repeat' (first | simp only [onBar_kept, State.barWrite_kept] | split)

theorem execRegisterAccess_kept (cmd : Nat) (write : Bool) (off : Nat) (val mask : Word) (reserved : Nat) (s : State)
    : Keeps s (execRegisterAccess cmd write off val mask reserved s) := by
  unfold execRegisterAccess
  repeat' (first | (extract_lets +onlyGivenNames t; first | (refine keeps_via (t := t) ?_ (fun ht => ?_); rotate_left; clear_value t; rotate_left; simp only [t]) | clear_value t) | simp only [apply_ite State.kept, ite_self, State.finish_kept, State.regRead_kept, State.regWrite_kept, State.regPeek_kept, *] | split | with_reducible refine onAdmin_keeps _ _ _ (fun u => ?_) | with_reducible refine (foldl_kept _ _ _ (fun u _ => ?_)).trans ?_)
  all_goals grind only [kept_mk, kept_fold, State.finish_kept, State.regRead_kept, State.regWrite_kept, State.regPeek_kept]

theorem execPaceMinclr_kept (pf : Nat) (s : State) : Keeps s (execPaceMinclr pf s) := by
  unfold execPaceMinclr
  repeat' (first | simp only [onBit_kept] | split)

theorem execAtcFlush_kept (pf : Nat) (s : State) : Keeps s (execAtcFlush pf s) := by
  unfold execAtcFlush
  repeat' (first | simp only [onBit_kept] | split)

theorem execHifCntclr_kept (pf : Nat) (s : State) : Keeps s (execHifCntclr pf s) := by
  unfold execHifCntclr
  repeat' (first | simp only [onBit_kept] | split)

theorem execQenCntclr_kept (pf : Nat) (s : State) : Keeps s (execQenCntclr pf s) := by
  unfold execQenCntclr
  repeat' (first | simp only [onBit_kept] | split)

theorem execQenHistclr_kept (pf : Nat) (s : State) : Keeps s (execQenHistclr pf s) := by
  unfold execQenHistclr
  repeat' (first | simp only [onBit_kept] | split)

theorem execMapCntclr_kept (pf : Nat) (s : State) : Keeps s (execMapCntclr pf s) := by
  unfold execMapCntclr
  repeat' (first | simp only [onBit_kept] | split)

theorem execMapHistclr_kept (pf : Nat) (s : State) : Keeps s (execMapHistclr pf s) := by
  unfold execMapHistclr
  repeat' (first | simp only [onBit_kept] | split)

theorem execCrsCntclr_kept (pf : Nat) (s : State) : Keeps s (execCrsCntclr pf s) := by
  unfold execCrsCntclr
  repeat' (first | simp only [onBit_kept] | split)

theorem execCrsPflogclr_kept (pf : Nat) (s : State) : Keeps s (execCrsPflogclr pf s) := by
  unfold execCrsPflogclr
  repeat' (first | simp only [onBit_kept] | split)

theorem execEccCntclr_kept (pf : Nat) (s : State) : Keeps s (execEccCntclr pf s) := by
  unfold execEccCntclr
  repeat' (first | simp only [onBit_kept] | split)

theorem execEccSlowlogclr_kept (pf : Nat) (s : State) : Keeps s (execEccSlowlogclr pf s) := by
  unfold execEccSlowlogclr
  repeat' (first | simp only [onBit_kept] | split)

theorem execEccRelease_kept (pf : Nat) (s : State) : Keeps s (execEccRelease pf s) := by
  unfold execEccRelease
  repeat' (first | simp only [onBit_kept] | split)

theorem execRclCntclr_kept (pf : Nat) (s : State) : Keeps s (execRclCntclr pf s) := by
  unfold execRclCntclr
  repeat' (first | simp only [onBit_kept] | split)

theorem execRclTtclr_kept (pf : Nat) (s : State) : Keeps s (execRclTtclr pf s) := by
  unfold execRclTtclr
  repeat' (first | simp only [onBit_kept] | split)

theorem execLifCntclr_kept (pf : Nat) (s : State) : Keeps s (execLifCntclr pf s) := by
  unfold execLifCntclr
  repeat' (first | simp only [onBit_kept] | split)

theorem execLifPfhistclr_kept (pf : Nat) (s : State) : Keeps s (execLifPfhistclr pf s) := by
  unfold execLifPfhistclr
  repeat' (first | simp only [onBit_kept] | split)

theorem execSknCntclr_kept (pf skein : Nat) (s : State) : Keeps s (execSknCntclr pf skein s) := by
  unfold execSknCntclr
  repeat' (first | simp only [Keeps_fault, onBit_kept] | split)

theorem execSknRetrain_kept (pf skein : Nat) (s : State) : Keeps s (execSknRetrain pf skein s) := by
  unfold execSknRetrain
  repeat' (first | simp only [Keeps_fault, onBit_kept] | split)

theorem execChnRetrain_kept (pf chan : Nat) (s : State) : Keeps s (execChnRetrain pf chan s) := by
  unfold execChnRetrain
  repeat' (first | simp only [Keeps_fault, onBit_kept] | split)

theorem execHbmCntclr_kept (pf : Nat) (s : State) : Keeps s (execHbmCntclr pf s) := by
  unfold execHbmCntclr
  repeat' (first | simp only [onBit_kept] | split)

theorem execHbmScrubnow_kept (pf : Nat) (s : State) : Keeps s (execHbmScrubnow pf s) := by
  unfold execHbmScrubnow
  repeat' (first | simp only [onBit_kept] | split)

theorem execCmpCntclr_kept (pf : Nat) (s : State) : Keeps s (execCmpCntclr pf s) := by
  unfold execCmpCntclr
  repeat' (first | simp only [onBit_kept] | split)

theorem execSupCntclr_kept (pf : Nat) (s : State) : Keeps s (execSupCntclr pf s) := by
  unfold execSupCntclr
  repeat' (first | simp only [onBit_kept] | split)

theorem execSupLogclr_kept (pf : Nat) (s : State) : Keeps s (execSupLogclr pf s) := by
  unfold execSupLogclr
  repeat' (first | simp only [onBit_kept] | split)

theorem execPwrCntclr_kept (pf : Nat) (s : State) : Keeps s (execPwrCntclr pf s) := by
  unfold execPwrCntclr
  repeat' (first | simp only [onBit_kept] | split)

theorem execPwrHistclr_kept (pf : Nat) (s : State) : Keeps s (execPwrHistclr pf s) := by
  unfold execPwrHistclr
  repeat' (first | simp only [onBit_kept] | split)

theorem execPatCntclr_kept (pf : Nat) (s : State) : Keeps s (execPatCntclr pf s) := by
  unfold execPatCntclr
  repeat' (first | simp only [onBit_kept] | split)

theorem execStrCntclr_kept (pf : Nat) (s : State) : Keeps s (execStrCntclr pf s) := by
  unfold execStrCntclr
  repeat' (first | simp only [onBit_kept] | split)

theorem execStrWctlCommit_kept (pf : Nat) (s : State) : Keeps s (execStrWctlCommit pf s) := by
  unfold execStrWctlCommit
  repeat' (first | simp only [onBit_kept] | split)

theorem execFwuCntclr_kept (pf : Nat) (s : State) : Keeps s (execFwuCntclr pf s) := by
  unfold execFwuCntclr
  repeat' (first | simp only [onBit_kept] | split)

theorem execFwuDiscard_kept (pf : Nat) (s : State) : Keeps s (execFwuDiscard pf s) := by
  unfold execFwuDiscard
  repeat' (first | simp only [onBit_kept] | split)

theorem execCfsCntclr_kept (pf : Nat) (s : State) : Keeps s (execCfsCntclr pf s) := by
  unfold execCfsCntclr
  repeat' (first | simp only [onBit_kept] | split)

theorem execCfsDpctlCommit_kept (pf : Nat) (s : State) : Keeps s (execCfsDpctlCommit pf s) := by
  unfold execCfsDpctlCommit
  repeat' (first | simp only [onBit_kept] | split)

theorem execCfsDpctlDiscard_kept (pf : Nat) (s : State) : Keeps s (execCfsDpctlDiscard pf s) := by
  unfold execCfsDpctlDiscard
  repeat' (first | simp only [onBit_kept] | split)

theorem execSecKctlCommit_kept (pf : Nat) (s : State) : Keeps s (execSecKctlCommit pf s) := by
  unfold execSecKctlCommit
  repeat' (first | simp only [onBit_kept] | split)

theorem execSecKctlDiscard_kept (pf : Nat) (s : State) : Keeps s (execSecKctlDiscard pf s) := by
  unfold execSecKctlDiscard
  repeat' (first | simp only [onBit_kept] | split)

theorem execSecDbgUnlock_kept (pf : Nat) (s : State) : Keeps s (execSecDbgUnlock pf s) := by
  unfold execSecDbgUnlock
  repeat' (first | simp only [onBit_kept] | split)

theorem execSecCntclr_kept (pf : Nat) (s : State) : Keeps s (execSecCntclr pf s) := by
  unfold execSecCntclr
  repeat' (first | simp only [onBit_kept] | split)

theorem execSecDenyclr_kept (pf : Nat) (s : State) : Keeps s (execSecDenyclr pf s) := by
  unfold execSecDenyclr
  repeat' (first | simp only [onBit_kept] | split)

theorem execEvwSeekold_kept (pf : Nat) (s : State) : Keeps s (execEvwSeekold pf s) := by
  unfold execEvwSeekold
  repeat' (first | simp only [onBit_kept] | split)

theorem execEvwSeeknew_kept (pf : Nat) (s : State) : Keeps s (execEvwSeeknew pf s) := by
  unfold execEvwSeeknew
  repeat' (first | simp only [onBit_kept] | split)

theorem execGenScrclr_kept (pf : Nat) (s : State) : Keeps s (execGenScrclr pf s) := by
  unfold execGenScrclr
  repeat' (first | simp only [onBit_kept] | split)

theorem execCmpTestRun_kept (pf : Nat) (failed : List (Nat × Nat)) (s : State) : Keeps s (execCmpTestRun pf failed s) := by
  unfold execCmpTestRun
  repeat' (first | simp only [apply_ite State.kept, ite_self, State.writeBit_kept, onBar_kept, State.cmpTested_kept] | split)

theorem execCfsScrub_kept (pf : Nat) (one two bad : List Nat) (s : State) : Keeps s (execCfsScrub pf one two bad s) := by
  unfold execCfsScrub
  repeat' (first | simp only [apply_ite State.kept, ite_self, State.writeBit_kept, onBar_kept, State.cfsScrubPass_kept] | split)

theorem execStrWselWrite_kept (pf win : Nat) (s : State) : Keeps s (execStrWselWrite pf win s) := by
  unfold execStrWselWrite
  repeat' (first | simp only [onBar_kept, State.barWrite_kept] | split)

theorem execCfsDpselWrite_kept (pf : Nat) (val : Word) (s : State) : Keeps s (execCfsDpselWrite pf val s) := by
  unfold execCfsDpselWrite
  repeat' (first | simp only [onBar_kept, State.barWrite_kept] | split)

theorem execCfsDpdataAccess_kept (pf : Nat) (write : Bool) (val : Word) (s : State) : Keeps s (execCfsDpdataAccess pf write val s) := by
  unfold execCfsDpdataAccess
  repeat' (first | simp only [apply_ite State.kept, ite_self, onBar_kept, State.barWrite_kept, State.barRead_kept] | split)

theorem execSecKselWrite_kept (pf : Nat) (val : Word) (s : State) : Keeps s (execSecKselWrite pf val s) := by
  unfold execSecKselWrite
  repeat' (first | simp only [onBar_kept, State.barWrite_kept] | split)

theorem execSecKdataAccess_kept (pf : Nat) (write : Bool) (val : Word) (s : State) : Keeps s (execSecKdataAccess pf write val s) := by
  unfold execSecKdataAccess
  repeat' (first | simp only [apply_ite State.kept, ite_self, onBar_kept, State.barWrite_kept, State.barRead_kept] | split)

theorem execEvwData0Read_kept (pf : Nat) (s : State) : Keeps s (execEvwData0Read pf s) := by
  unfold execEvwData0Read
  repeat' (first | simp only [onBar_kept, State.barRead_kept] | split)

theorem execEvwData7Read_kept (pf : Nat) (s : State) : Keeps s (execEvwData7Read pf s) := by
  unfold execEvwData7Read
  repeat' (first | simp only [onBar_kept, State.barRead_kept] | split)

theorem execEvwCursorWrite_kept (pf seq : Nat) (s : State) : Keeps s (execEvwCursorWrite pf seq s) := by
  unfold execEvwCursorWrite
  repeat' (first | simp only [onBar_kept, State.barWrite_kept] | split)

end Sys2Proof.Machine
end

