-- ==== Sys2Proof/Laws/KeptStart.lean ====
section
/-! SUPPORT. The queue, the maker key and the cast-on area through log pages, the life cycle, recovery and the cold start. -/

namespace Sys2Proof.Machine

set_option linter.unusedTactic false
set_option linter.unreachableTactic false
set_option linter.unusedSimpArgs false

theorem State.applyBarHeld_kept (s : State) : (State.applyBarHeld s).kept = s.kept := by
  simp only [State.applyBarHeld, kept_mk, kept_fold, apply_ite State.kept, ite_self, implies_true, foldl_kept, State.barStore_kept]

theorem State.wakeUp_kept (s : State) (cause dur : Nat) (ok : Bool) : (State.wakeUp s cause dur ok).kept = s.kept := by
  simp only [State.wakeUp, State.wake_kept, State.applyBarHeld_kept]

theorem execWake_kept (cause dur : Nat) (ok : Bool) (s : State) : Keeps s (execWake cause dur ok s) := by
  unfold execWake
  repeat' (first | simp only [implies_true, guarded_kept, State.wakeUp_kept] | split)

theorem execPatrolWake_kept (temps : List Nat) (holdOk : Bool) (canaries : List (Bool × Nat × Nat)) (us dur : Nat) (ok : Bool) (s : State)
    : Keeps s (execPatrolWake temps holdOk canaries us dur ok s) := by
  unfold execPatrolWake
  repeat' (first | simp only [apply_ite State.kept, ite_self, Keeps_fault, State.patrol_kept, State.wakeUp_kept,
                          State.arm_kept] | split | with_reducible refine onTimer_keeps _ _ _ (fun u => ?_) | with_reducible refine (foldl_kept _ _ _ (fun u _ => ?_)).trans ?_)

theorem execHealthPublishTimer_kept (s : State) : Keeps s (execHealthPublishTimer s) := by
  unfold execHealthPublishTimer
  repeat' (first | simp only [apply_ite State.kept, ite_self, State.publish_kept,
                          State.arm_kept] | split | with_reducible refine onTimer_keeps _ _ _ (fun u => ?_) | with_reducible refine (foldl_kept _ _ _ (fun u _ => ?_)).trans ?_)

theorem State.miStatus_kept (s : State) : (State.miStatus s).2.kept = s.kept := by
  unfold State.miStatus
  repeat' (first | (extract_lets +onlyGivenNames t; first | (refine kept_via (t := t) ?_ (fun ht => ?_); rotate_left; clear_value t; rotate_left; simp only [t]) | clear_value t) | simp only [State.draw_kept, *] | split | with_reducible refine (foldl_kept _ _ _ (fun u _ => ?_)).trans ?_)
  all_goals grind only [kept_mk, kept_fold, State.draw_kept]

theorem miRead_kept (s : State) (dur : Nat) (ok : Bool) (r : List Nat × State) (h : r.2.kept = s.kept) : Keeps s (miRead s dur ok r) := by
  unfold miRead
  split
  · exact (Keeps_fault _ _).2 trivial
  split
  · exact (Keeps_next _ _).2 rfl
  · refine (Keeps_next _ _).2 ?_
    simp only [apply_ite State.kept, State.wakeUp_kept, State.send_kept, ite_self, h]

theorem execMiStatusRead_kept (dur : Nat) (ok : Bool) (s : State) : Keeps s (execMiStatusRead dur ok s) := by
  unfold execMiStatusRead
  repeat' (first | simp only [miRead_kept, State.miStatus_kept] | split)

theorem execMiVendorIdRead_kept (dur : Nat) (ok : Bool) (s : State) : Keeps s (execMiVendorIdRead dur ok s) := by
  unfold execMiVendorIdRead
  repeat' (first | simp only [miRead_kept] | split)

theorem execI3cSetdasa_kept (addr : Nat) (s : State) : Keeps s (execI3cSetdasa addr s) := by
  unfold execI3cSetdasa
  repeat' (first | simp only [kept_mk, kept_fold, implies_true, Keeps_fault, guarded_kept] | split)

theorem execI3cRstdaa_kept (s : State) : Keeps s (execI3cRstdaa s) := by
  unfold execI3cRstdaa
  repeat' (first | simp only [kept_mk, kept_fold, Keeps_next, Keeps_fault] | split)

theorem State.ccWrite_kept (s : State) (fn v : Nat) : (State.ccWrite s fn v).kept = s.kept := by
  simp only [State.ccWrite, apply_ite State.kept, ite_self, State.setFunc_kept, State.updFunc_kept, State.ctrlReset_kept, State.ctrlEnable_kept,
      State.shutdown_kept]

theorem State.nvmeWrite_kept (s : State) (fn off : Nat) (val mask : Word) : (State.nvmeWrite s fn off val mask).kept = s.kept := by
  simp only [State.nvmeWrite, apply_ite State.kept, ite_self, State.sqDoorbell_kept, State.cqDoorbell_kept, State.ccWrite_kept, State.updFunc_kept]

theorem State.cmbWrite_kept (s : State) (pf off : Nat) (d : DwReq) (poisoned : Bool) : (State.cmbWrite s pf off d poisoned).kept = s.kept := by
  simp only [State.cmbWrite, kept_mk, kept_fold, apply_ite State.kept, ite_self]

theorem State.memStore_kept (s : State) (t : MemTarget) (d : DwReq) (poisoned : Bool) : (State.memStore s t d poisoned).kept = s.kept := by
  unfold State.memStore
  repeat' (first | simp only [apply_ite State.kept, ite_self, State.cmbWrite_kept, State.msixWrite_kept, State.nvmeWrite_kept,
                          State.barWrite_kept] | split)

theorem State.memLoad_kept (s : State) (t : MemTarget) (be : Nat) : (State.memLoad s t be).2.kept = s.kept := by
  unfold State.memLoad
  repeat' (first | simp only [apply_ite State.kept, ite_self, State.barRead_kept] | split)

theorem State.memLoads_kept (s : State) (p : Nat) (dws : List DwReq) : (s.memLoads p dws).2.kept = s.kept := by
  unfold State.memLoads
  exact foldl_kept_snd _ _ _ (fun u x => State.memLoad_kept ..)

theorem execMemoryRequestReceived_kept (port tag : Nat) (write : Bool) (dws : List DwReq) (poisoned : Bool) (s : State)
    : Keeps s (execMemoryRequestReceived port tag write dws poisoned s) := by
  unfold execMemoryRequestReceived
  repeat' (first | simp only [apply_ite State.kept, ite_self, implies_true, foldl_kept, Keeps_next, Keeps_fault, State.tlpIn_kept, State.hifCnt_kept,
                          State.aer_kept, State.send_kept, State.memStore_kept, State.memLoads_kept] | split)

theorem State.pageRead_kept (s : State) (fn id : Nat) : (State.pageRead s fn id).kept = s.kept := by
  simp only [State.pageRead, kept_mk, kept_fold, apply_ite State.kept, ite_self, State.updFunc_kept]

theorem execGetLogPage_kept (cmd page numd offset sel : Nat) (rae : Bool) (s : State) : Keeps s (execGetLogPage cmd page numd offset sel rae s) := by
  unfold execGetLogPage
  repeat' (first | simp only [kept_mk, kept_fold, apply_ite State.kept, ite_self, State.finish_kept, State.send_kept,
                          State.pageRead_kept] | split | with_reducible refine onAdmin_keeps _ _ _ (fun u => ?_) | with_reducible refine (foldl_kept _ _ _ (fun u _ => ?_)).trans ?_)

theorem execLifeCycleTransition_kept (cmd target reserved : Nat) (s : State) : Keeps s (execLifeCycleTransition cmd target reserved s) := by
  unfold execLifeCycleTransition
  repeat' (first | simp only [kept_mk, kept_fold, apply_ite State.kept, ite_self, State.superGate_kept, State.secCnt_kept, State.finish_kept,
                          State.deny_kept, State.noteGated_kept] | split | with_reducible refine onVendor_keeps _ _ _ _ (fun u => ?_) | with_reducible refine (foldl_kept _ _ _ (fun u _ => ?_)).trans ?_)

theorem State.lcReset_kept (s : State) : (State.lcReset s).kept = s.kept := by
  unfold State.lcReset
  repeat' (first | simp only [kept_mk, kept_fold, apply_ite State.kept, ite_self, State.endSession_kept, State.persistStaged_kept, State.post_kept,
                          State.coldReset_kept] | split)

/-- CFS_PROGRAM_COMPLETE may bring a record into the cast-on area, and no more. -/
theorem execCfsProgramComplete_grew (erased : Bool) (pulses : Nat) (pass : Bool) (s : State) :
    ∀ t, execCfsProgramComplete erased pulses pass s = .next t → Grew s t := by
  intro t h
  unfold execCfsProgramComplete at h
  repeat' split at h
  all_goals first | cases h | skip
  all_goals exact (State.programComplete_grew _ _ _ _ _ _ State.endRole_kept).then (State.lcReset_kept ..)

theorem State.eraseAgain_kept (s : State) : s.eraseAgain.kept = s.kept := by
  unfold State.eraseAgain
  simp only [State.compact_kept]
  have h (u : State) : (([(1, 3), (2, 3), (3, 2), (6, 4), (7, 5)] : List (Nat × Nat)).foldl (fun (t : State) (p : Nat × Nat) =>
      match (t.area p.1).erased, (t.area p.1).full with
      | [], o :: _ => if t.cfs.queue.any (fun j => j.work = .erase o) then t else t.cfsRequest p.2 (.erase o) 1
      | _, _ => t) u).kept = u.kept := by
    refine foldl_kept _ _ _ (fun u p => ?_)
    split
    · split
      · rfl
      · exact State.cfsRequest_kept ..
    · rfl
  split
  · refine (foldl_kept _ _ _ (fun u o => ?_)).trans (h s)
    split
    · rfl
    · exact State.cfsRequest_kept ..
  · exact h s

theorem State.startVolts_kept (s : State) (mode : Option Nat) : (State.startVolts s mode).kept = s.kept := by
  unfold State.startVolts
  repeat' (first | simp only [kept_mk, kept_fold, State.send_kept, State.requestVolts_kept, State.setFlag_kept] | split)

theorem State.startReft_kept (s : State) (edge : Bool) : (State.startReft s edge).kept = s.kept := by
  simp only [State.startReft, apply_ite State.kept, ite_self, State.setFlag_kept, State.event_kept]

theorem State.neverReady_kept (s : State) : (State.neverReady s).kept = s.kept := by
  simp only [State.neverReady, State.setCfs_kept, State.publish_kept]

theorem State.loadDelays_kept (s : State) : (State.loadDelays s).kept = s.kept := by
  simp only [State.loadDelays, implies_true, foldl_kept, State.setWord_kept]

theorem State.noteBoot_kept (s : State) (slot valid1 valid2 part : Nat) : (State.noteBoot s slot valid1 valid2 part).kept = s.kept := by
  simp only [State.noteBoot, State.setFld_kept, State.clrFlag_kept]

theorem State.die_kept (s : State) (copy part : Nat) : (State.die s copy part).kept = s.kept := by
  simp only [State.die, State.setFlag_kept, State.event_kept, State.publish_kept]

theorem State.runSlot_kept (s : State) (slot : Nat) : (State.runSlot s slot).kept = s.kept := by
  simp only [State.runSlot, kept_mk, kept_fold, State.setFld_kept, State.noteVersions_kept]

theorem State.writeRoster_kept (s : State) (f : StartFacts) : (State.writeRoster s f).kept = s.kept := by
  simp only [State.writeRoster, kept_mk, kept_fold, implies_true, foldl_kept, State.updBlk_kept, State.setFld_kept, State.cfsRequest_kept]

theorem State.notFound_kept (s : State) (d kind : Nat) : (State.notFound s d kind).kept = s.kept := by
  simp only [State.notFound, apply_ite State.kept, ite_self, State.setFlag_kept, State.sknErr_kept, State.eventFrom_kept, State.dieOut_kept]

theorem State.followRoster_kept (s : State) (f : StartFacts) : (State.followRoster s f).kept = s.kept := by
  simp only [State.followRoster, kept_mk, kept_fold, implies_true, foldl_kept, State.notFound_kept, State.dieOut_kept]

theorem State.lunOut_kept (s : State) : (State.lunOut s).kept = s.kept := by
  simp only [State.lunOut, apply_ite State.kept, ite_self, implies_true, foldl_kept, State.dieOut_kept]

theorem State.trainAll_kept (s : State) (rates : List (Nat × Nat)) : (State.trainAll s rates).kept = s.kept := by
  simp only [State.trainAll, apply_ite State.kept, ite_self, implies_true, foldl_kept, State.setChan_kept, State.trainFull_kept, State.setFld_kept,
      State.stamp_kept, State.arm_kept]

theorem State.discover_kept (s : State) (f : StartFacts) : (State.discover s f).kept = s.kept := by
  unfold State.discover
  repeat' (first | (extract_lets +onlyGivenNames t; first | (refine kept_via (t := t) ?_ (fun ht => ?_); rotate_left; clear_value t; rotate_left; simp only [t]) | clear_value t) | simp only [kept_mk, kept_fold, apply_ite State.kept, ite_self, State.followRoster_kept, State.writeRoster_kept, State.lunOut_kept, State.trainAll_kept, State.setFld_kept, *] | split | with_reducible refine (foldl_kept _ _ _ (fun u _ => ?_)).trans ?_)
  all_goals grind only [kept_mk, kept_fold, State.followRoster_kept, State.writeRoster_kept, State.lunOut_kept, State.trainAll_kept,
      State.setFld_kept]

theorem State.flushStaged_grew (s : State) : Grew s s.flushStaged := by
  unfold State.flushStaged
  refine (Grew.foldl _ _ _ (fun u r => ?_)).after (by simp only [kept_mk, kept_fold])
  refine (State.persisted_grew _ _).after ?_
  simp only [apply_ite State.kept, State.cfsCnt_kept, State.advanceArea_kept, ite_self]

theorem State.fellBack_kept (s : State) (g : Nat) : (State.fellBack s g).kept = s.kept := by
  simp only [State.fellBack, State.draw_kept, State.lifCnt_kept, State.copyError_kept]

theorem State.readJournal_kept (s : State) (lostA lostB : List Nat) : (State.readJournal s lostA lostB).2.kept = s.kept := by
  unfold State.readJournal
  repeat' (first | (extract_lets +onlyGivenNames t; first | (refine kept_via (t := t) ?_ (fun ht => ?_); rotate_left; clear_value t; rotate_left; simp only [t]) | clear_value t) | simp only [kept_mk, kept_fold, apply_ite State.kept, ite_self, implies_true, foldl_kept, State.fellBack_kept, State.setFlag_kept, State.degrade_kept, State.event_kept, State.noteGroup_kept, *] | split | with_reducible refine (foldl_kept _ _ _ (fun u _ => ?_)).trans ?_)
  all_goals grind only [kept_mk, kept_fold, State.fellBack_kept, State.setFlag_kept, State.degrade_kept, State.event_kept, State.noteGroup_kept]

theorem State.noteCkpt_kept (s : State) (g bad : Nat) (lost : Bool) : (State.noteCkpt s g bad lost).kept = s.kept := by
  simp only [State.noteCkpt, kept_mk, kept_fold, apply_ite State.kept, ite_self, State.setFlag_kept, State.event_kept, State.degrade_kept,
      State.mapCnt_kept, State.lifCnt_kept]

theorem State.loadExt_kept (s : State) (e : Nat) (x : Ext) : (State.loadExt s e x).kept = s.kept := by
  unfold State.loadExt
  repeat' (first | (extract_lets +onlyGivenNames t; first | (refine kept_via (t := t) ?_ (fun ht => ?_); rotate_left; clear_value t; rotate_left; simp only [t]) | clear_value t) | simp only [kept_mk, kept_fold, State.mapCnt_kept, *] | split | with_reducible refine (foldl_kept _ _ _ (fun u _ => ?_)).trans ?_)
  all_goals grind only [kept_mk, kept_fold, State.mapCnt_kept]

theorem State.loadMap_kept (s : State) (groups : List Group) (bad : List (Nat × Nat)) : (State.loadMap s groups bad).kept = s.kept := by
  simp only [State.loadMap, implies_true, foldl_kept, State.noteCkpt_kept, State.loadExt_kept, State.notePool_kept]

theorem State.restoreEmptied_kept (s : State) : (State.restoreEmptied s).kept = s.kept := by
  simp only [State.restoreEmptied, kept_mk, kept_fold, apply_ite State.kept, ite_self, implies_true, foldl_kept, State.updBlk_kept, State.batch_kept]

theorem State.foundTinked_kept (s : State) (b wl : Nat) : (State.foundTinked s b wl).kept = s.kept := by
  simp only [State.foundTinked, State.updBlk_kept, State.addSat_kept, State.lifCnt_kept]

theorem State.closeFound_kept (s : State) (n : Nat) (c : Course) : (State.closeFound s n c).kept = s.kept := by
  simp only [State.closeFound, implies_true, foldl_kept, State.updCourse_kept, State.updBlk_kept, State.batch_kept, State.touchParts_kept,
      State.setFlag_kept, State.crsCnt_kept]

theorem State.closeOpen_kept (s : State) : (State.closeOpen s).kept = s.kept := by
  simp only [State.closeOpen, apply_ite State.kept, ite_self, implies_true, foldl_kept, State.updCourse_kept, State.closeFound_kept]

theorem State.emptyAll_kept (s : State) (ns : List Nat) : (State.emptyAll s ns).kept = s.kept := by
  unfold State.emptyAll
  repeat' (first | simp only [State.courseEmpty_kept] | split | with_reducible refine (foldl_kept _ _ _ (fun u _ => ?_)).trans ?_)

theorem State.newJournals_kept (s : State) (first : Nat) : (State.newJournals s first).kept = s.kept := by
  simp only [State.newJournals, kept_mk, kept_fold, State.emptyAll_kept, State.nextCopyCourse_kept]

theorem State.requeue_kept (s : State) : (State.requeue s).kept = s.kept := by
  simp only [State.requeue, apply_ite State.kept, ite_self, implies_true, foldl_kept, State.queueVictim_kept]

theorem State.tidyCourses_kept (s : State) (first : Nat) : (State.tidyCourses s first).kept = s.kept := by
  simp only [State.tidyCourses, apply_ite State.kept, ite_self, implies_true, foldl_kept, State.restoreEmptied_kept, State.closeOpen_kept,
      State.settleCourse_kept, State.newJournals_kept, State.emptyAll_kept, State.pruneKept_kept, State.requeue_kept]

theorem State.halfReads_kept (s : State) : (State.halfReads s).kept = s.kept := by
  simp only [State.halfReads, kept_mk, kept_fold]

theorem State.redoErases_kept (s : State) : s.redoErases.kept = s.kept := by
  unfold State.redoErases
  extract_lets t1 late t2 g src t3
  have e1 : t1.kept = s.kept := by
    refine foldl_kept _ _ _ (fun (u : State) p => ?_)
    refine foldl_kept _ _ _ (fun (u : State) g => ?_)
    simp only [State.batch_kept, State.deallocWhole_kept]
  clear_value t1
  have e2 : t2.kept = t1.kept := by
    refine foldl_kept _ _ _ (fun u p => ?_)
    refine foldl_kept _ _ _ (fun u g => ?_)
    split
    · exact State.clearNs_kept ..
    · rfl
  have e3 : t3.kept = t2.kept := by simp only [t3, kept_mk, kept_fold]
  clear_value t3
  simp only [apply_ite State.kept, State.cfsRequest_kept, ite_self, e3, e2, e1]

theorem State.loseSeeds_kept (s : State) : (State.loseSeeds s).kept = s.kept := by
  simp only [State.loseSeeds, kept_mk, kept_fold, apply_ite State.kept, ite_self, State.degrade_kept, State.draw_kept, State.stageEvent_kept]

theorem State.resumeErases_kept (s : State) : (State.resumeErases s).kept = s.kept := by
  simp only [State.resumeErases, kept_mk, kept_fold, apply_ite State.kept, ite_self, State.formatRun_kept, State.clearAll_kept,
      State.cryptoStart_kept]

theorem State.bufferDumped_kept (s : State) (n : Ns) (c nsid unit : Nat) (ds : List DumpSlot)
    : (State.bufferDumped s n c nsid unit ds).kept = s.kept := by
  simp only [State.bufferDumped, apply_ite State.kept, ite_self, implies_true, foldl_kept, State.bufferSlots_kept, State.placeExtent_kept]

theorem State.programThrough_kept (s : State) (n : Nat) : (State.programThrough s n).kept = s.kept := by
  unfold State.programThrough
  repeat' (first | (extract_lets +onlyGivenNames t; first | (refine kept_via (t := t) ?_ (fun ht => ?_); rotate_left; clear_value t; rotate_left; simp only [t]) | clear_value t) | simp only [kept_mk, kept_fold, apply_ite State.kept, ite_self, State.padTo_kept, State.updCourse_kept, State.crsCnt_kept, State.closeCourse_kept, *] | split | with_reducible refine (foldl_kept _ _ _ (fun u _ => ?_)).trans ?_)
  all_goals grind only [kept_mk, kept_fold, State.padTo_kept, State.updCourse_kept, State.crsCnt_kept, State.closeCourse_kept]

theorem State.programOpen_kept (s : State) : (State.programOpen s).kept = s.kept := by
  simp only [State.programOpen, implies_true, foldl_kept, State.programThrough_kept]

theorem State.writeBackAll_kept (s : State) (c : Nat) : (State.writeBackAll s c).kept = s.kept := by
  simp only [State.writeBackAll, apply_ite State.kept, ite_self, implies_true, foldl_kept, State.writeBack_kept]

theorem State.applyDumped_kept (s : State) (n : Ns) (c nsid unit : Nat) : (s.applyDumped n c nsid unit).kept = s.kept := by
  unfold State.applyDumped
  extract_lets parts t1 t2 t3
  have e1 : t1.kept = s.kept := by
    refine foldl_kept _ _ _ (fun u lba => ?_)
    split
    · exact State.startRmw_kept ..
    · rfl
  clear_value t1
  have e2 : t2.kept = t1.kept := by simp only [t2, apply_ite State.kept, State.programOpen_kept, ite_self]
  clear_value t2
  have e3 : t3.kept = t2.kept := by simp only [t3, apply_ite State.kept, State.applyUnit_kept, ite_self]
  clear_value t3
  rw [State.lifCnt_kept, State.writeBackAll_kept, e3, e2, e1]

theorem State.loseDumped_kept (s : State) (n : Ns) (c nsid unit : Nat) (ds : List DumpSlot) : (s.loseDumped n c nsid unit ds).kept = s.kept := by
  unfold State.loseDumped
  simp only []
  split
  · rw [State.lifCnt_kept, State.setFlag_kept]
  · simp only [State.event_kept, kept_mk, kept_fold, State.writeBackAll_kept, State.programOpen_kept, State.batch_kept]
    refine (foldl_kept_fst _ _ _ (fun acc lba => ?_)).trans ((State.lifCnt_kept ..).trans (State.setFlag_kept ..))
    split
    · split
      · rfl
      · split
        · exact State.startRmw_kept ..
        · exact (State.mapCnt_kept ..).trans (State.setSlots_kept ..)
    · rfl

theorem State.applyDump_kept (s : State) (bad : List Nat) : (State.applyDump s bad).kept = s.kept := by
  unfold State.applyDump
  repeat' (first | (extract_lets +onlyGivenNames t; first | (refine kept_via (t := t) ?_ (fun ht => ?_); rotate_left; clear_value t; rotate_left; simp only [t]) | clear_value t) | simp only [kept_mk, kept_fold, apply_ite State.kept, ite_self, implies_true, foldl_kept, State.bufferDumped_kept, State.programOpen_kept, State.applyDumped_kept, State.loseDumped_kept, State.event_kept, State.consumeDump_kept, *] | split | with_reducible refine (foldl_kept _ _ _ (fun u _ => ?_)).trans ?_)
  all_goals grind only [kept_mk, kept_fold, State.bufferDumped_kept, State.programOpen_kept, State.applyDumped_kept, State.loseDumped_kept,
      State.event_kept, State.consumeDump_kept]

theorem State.freshBlocks_kept (s : State) : (State.freshBlocks s).kept = s.kept := by
  simp only [State.freshBlocks, kept_mk, kept_fold]

theorem State.firstErases_kept (s : State) : (State.firstErases s).kept = s.kept := by
  simp only [State.firstErases, implies_true, foldl_kept, State.erasedOk_kept, State.updBlk_kept, State.noteF_kept]

theorem State.recover_kept (s : State) (f : StartFacts) : (State.recover s f).2.kept = s.kept := by
  unfold State.recover
  repeat' (first | (extract_lets +onlyGivenNames t; first | (refine kept_via (t := t) ?_ (fun ht => ?_); rotate_left; clear_value t; rotate_left; simp only [t]) | clear_value t) | simp only [apply_ite State.kept, ite_self, implies_true, foldl_kept, State.freshBlocks_kept, State.firstErases_kept, State.newJournals_kept, State.formDump_kept, State.readJournal_kept, State.loseSeeds_kept, State.loadMap_kept, State.setFld_kept, State.lifCnt_kept, State.foundTinked_kept, State.halfReads_kept, State.tidyCourses_kept, State.redoErases_kept, State.applyDump_kept, *] | split | with_reducible refine (foldl_kept _ _ _ (fun u _ => ?_)).trans ?_)
  all_goals grind only [kept_mk, kept_fold, State.freshBlocks_kept, State.firstErases_kept, State.newJournals_kept, State.formDump_kept,
      State.readJournal_kept, State.loseSeeds_kept, State.loadMap_kept, State.setFld_kept, State.lifCnt_kept, State.foundTinked_kept,
      State.halfReads_kept, State.tidyCourses_kept, State.redoErases_kept, State.applyDump_kept]

theorem State.settleAnchor_kept (s : State) : (State.settleAnchor s).kept = s.kept := by
  unfold State.settleAnchor
  repeat' (first | simp only [kept_mk, kept_fold, State.addSat_kept] | split)

theorem State.checkCal_kept (s : State) (ok : Bool) : (State.checkCal s ok).kept = s.kept := by
  simp only [State.checkCal, apply_ite State.kept, ite_self, State.setFlag_kept, State.putFlag_kept, State.setFld_kept, State.event_kept,
      State.neverReady_kept]

theorem State.bootFails_kept (s : State) (valid part : Nat) : (State.bootFails s valid part).kept = s.kept := by
  simp only [State.bootFails, State.die_kept]

theorem State.startHold_kept (s : State) (hold : Bool) : (State.startHold s hold).kept = s.kept := by
  simp only [State.startHold, kept_mk, kept_fold, State.putFlag_kept, State.enterExposed_kept]

theorem State.startTimers_kept (s : State) : (State.startTimers s).kept = s.kept := by
  simp only [State.startTimers, State.arm_kept, State.watch_kept]

theorem State.rejoin_kept (s : State) : (State.rejoin s).kept = s.kept := by
  simp only [State.rejoin, apply_ite State.kept, ite_self, State.startFleet_kept, State.sendJoin_kept]

theorem State.startChecks_kept (s : State) : (State.startChecks s).kept = s.kept := by
  simp only [State.startChecks, apply_ite State.kept, ite_self, State.noteF_kept, State.checkSpare_kept, State.protCheck_kept, State.noteSkeins_kept,
      State.noteTemps_kept, State.critClear_kept]

theorem State.becomeStarted_kept (s : State) (kind ms slot : Nat) : (State.becomeStarted s kind ms slot).kept = s.kept := by
  simp only [State.becomeStarted, implies_true, foldl_kept, State.setFld_kept, State.putSat_kept, State.writeAnchor_kept, State.startTimers_kept,
      State.rejoin_kept, State.startChecks_kept, State.event_kept, State.becomeReady_kept, State.publish_kept]

theorem State.bringUp_kept (s : State) (f : StartFacts) (slot : Nat) : (State.bringUp s f slot).kept = s.kept := by
  simp only [State.bringUp, State.runSlot_kept, State.discover_kept, State.startHold_kept, State.framesRead_kept, State.recover_kept,
      State.resumeErases_kept, State.cryptoStep_kept, State.becomeStarted_kept]

theorem State.bootRom_grew (s : State) (f : StartFacts) : Grew s (s.bootRom f) := by
  unfold State.bootRom
  have h : (s.advanceTo (s.clk.mono + nsMs (f.ms - s.fld F.hbmZeroMs))).settleAnchor.kept = s.kept := by
    rw [State.settleAnchor_kept, State.advanceTo_kept]
  have g := (State.flushStaged_grew (s.advanceTo (s.clk.mono + nsMs (f.ms - s.fld F.hbmZeroMs))).settleAnchor).after h
  refine g.then ?_
  simp only [kept_mk, kept_fold, State.addSat_kept, State.startVolts_kept, State.startReft_kept, State.eraseAgain_kept]

theorem State.coldStart_grew (s : State) (f : StartFacts) : Grew s (s.coldStart f) := by
  unfold State.coldStart
  refine (State.bootRom_grew s f).then ?_
  generalize s.bootRom f = u
  simp only []
  repeat' split
  all_goals simp only [State.checkCal_kept, State.neverReady_kept, State.event_kept, State.bootFails_kept, State.noteBoot_kept, State.setFlag_kept,
      State.loadDelays_kept, State.bringUp_kept]

/-- COLD_START may bring staged records into the cast-on area (R472), and no more. -/
theorem execColdStart_grew (f : StartFacts) (s : State) : ∀ t, execColdStart f s = .next t → Grew s t := by
  intro t h
  unfold execColdStart guarded at h
  split at h
  · cases h; exact State.coldStart_grew ..
  · cases h

/-- A cycle without a command. -/
theorem State.tick_kept (s : State) : s.tick.kept = s.kept := by
  unfold State.tick
  simp only [State.flushGated_kept, State.advanceTo_kept]

end Sys2Proof.Machine
end

