-- ==== Sys2Proof/Laws/Ops.lean ====
section
/-! SUPPORT. What each shared operation can change, said once: its result is the state with the parts named here replaced. -/

namespace Sys2Proof.Machine

/-! ### Outcomes -/

/-- A guarded row completes exactly where its condition holds. -/
theorem guarded_next (b : Bool) (f : Fault) (t u : State) : guarded b f t = .next u ↔ b = true ∧ t = u := by
  cases b <;> simp [guarded]

theorem guarded_true (b : Bool) (f : Fault) (t : State) (h : b = true) : guarded b f t = .next t := by simp [guarded, h]

/-- A row on an object completes exactly where the object is there. -/
theorem withSome_next {α : Type} (o : Option α) (k : α → State) (u : State) : withSome o k = .next u ↔ ∃ a, o = some a ∧ k a = u := by
  cases o <;> simp [withSome]

/-- A timer's row always completes: what it does where the timer runs, nothing where it was cancelled (R53, R54). -/
theorem onTimer_eq (s : State) (id : TimerId) (k : State → State) : onTimer s id k = .next (if s.armed id then k (s.expire id) else s) := by
  unfold onTimer; split <;> rfl

theorem onTimer_next (s : State) (id : TimerId) (k : State → State) (u : State) :
    onTimer s id k = .next u ↔ (if s.armed id then k (s.expire id) else s) = u := by
  rw [onTimer_eq]; simp

/-- The row of an admin command completes where the command is being carried out (R143 ends it where a sanitize runs). -/
theorem onAdmin_next (s : State) (c : Nat) (k : Cmd → State) (u : State) :
    onAdmin s c k = .next u ↔
      ∃ x, s.adminAt c = some x ∧ (if s.sanitizing && !(sanitizeAllows x.sqe.opcode) then s.finish c St.sanitizing else k x) = u := by
  simp only [onAdmin, withSome_next]

/-- The row of an I/O command completes where the command is being carried out (R141, R143). -/
theorem onIo_next (s : State) (c op : Nat) (k : Cmd → State) (u : State) :
    onIo s c op k = .next u ↔
      ∃ x, s.ioAt c op = some x ∧ (if s.sanitizing then s.fail c St.sanitizing
        else if s.formattingNs x.sqe.nsid then s.fail c St.formatting else k x) = u := by
  simp only [onIo, withSome_next]

/-! ### Frames -/

theorem State.advanceTo_frame (s : State) (m : Nat) : s.advanceTo m = { s with clk := (s.advanceTo m).clk } := by
  unfold State.advanceTo; split <;> rfl

theorem State.expire_frame (s : State) (id : TimerId) :
    s.expire id = { s with clk := (s.expire id).clk, timers := s.timers.filter (fun t => t.id ≠ id) } := by
  unfold State.expire; rw [State.advanceTo_frame]; rfl

theorem State.armOnce_frame (s : State) (id : TimerId) (n : Nat) : s.armOnce id n = { s with timers := (s.armOnce id n).timers } := by
  unfold State.armOnce; split <;> rfl

theorem State.setPort_frame (s : State) (p : Nat) (x : Port) : s.setPort p x = { s with hif := (s.setPort p x).hif } := by
  unfold State.setPort; split <;> rfl

theorem State.foldl_frame {α : Type} (g : State → State → State) (f : State → α → State) (l : List α) (s : State)
    (hself : ∀ s, g s s = s) (htrans : ∀ s t u, t = g s t → u = g t u → u = g s u) (hf : ∀ s a, f s a = g s (f s a)) :
    l.foldl f s = g s (l.foldl f s) := by
  induction l generalizing s with
  | nil => exact (hself s).symm
  | cons a l ih => exact htrans s (f s a) _ (hf s a) (ih (f s a))

theorem State.clearWords_frame (s : State) (l : List Nat) : s.clearWords l = { s with regs := (s.clearWords l).regs } :=
  State.foldl_frame (fun s t => { s with regs := t.regs }) _ l s (fun _ => rfl) (fun _ _ _ h1 h2 => by rw [h2, h1]) (fun _ _ => rfl)

theorem State.sendAll_frame (s : State) (l : List Tx) : s.sendAll l = { s with tx := (s.sendAll l).tx } :=
  State.foldl_frame (fun s t => { s with tx := t.tx }) _ l s (fun _ => rfl) (fun _ _ _ h1 h2 => by rw [h2, h1]) (fun _ _ => rfl)

theorem State.cfsStart_frame (s : State) : s.cfsStart = { s with cfs := s.cfsStart.cfs } := by
  unfold State.cfsStart
  split
  · split
    · rfl
    · rfl
    · split <;> rfl
  · split <;> rfl

theorem State.cfsRequest_frame (s : State) (r : Nat) (w : CfsWork) (n : Nat) :
    s.cfsRequest r w n = { s with cfs := (s.cfsRequest r w n).cfs, sup := (s.cfsRequest r w n).sup } := by
  unfold State.cfsRequest
  split
  · rfl
  · rw [State.cfsStart_frame]; rfl

theorem State.persistStaged_frame (s : State) (r : Nat) :
    s.persistStaged r = { s with cfs := (s.persistStaged r).cfs, sup := (s.persistStaged r).sup } :=
  State.foldl_frame (fun s t => { s with cfs := t.cfs, sup := t.sup }) _ _ s (fun _ => rfl) (fun _ _ _ h1 h2 => by rw [h2, h1])
    (fun s a => by
      split
      · rfl
      · exact State.cfsRequest_frame s _ _ _)

theorem State.stageRec_frame (s : State) (c src lvl a b d e : Nat) :
    s.stageRec c src lvl a b d e =
      { s with timers := (s.stageRec c src lvl a b d e).timers, stg := (s.stageRec c src lvl a b d e).stg,
               cfs := (s.stageRec c src lvl a b d e).cfs, sup := (s.stageRec c src lvl a b d e).sup } := by
  unfold State.stageRec
  simp only
  split
  · rw [State.persistStaged_frame, State.armOnce_frame]
  · rw [State.armOnce_frame]

theorem State.refuseRec_frame (s : State) : s.refuseRec = { s with regs := s.refuseRec.regs, stg := s.refuseRec.stg } := rfl

theorem State.refuseRec_regs (s : State) : s.refuseRec.regs = ((s.addSat F.evwDropCount 1).setFlag F.evwStatDropseen).regs := rfl

theorem State.refuseRec_stg (s : State) : s.refuseRec.stg = { s.stg with refused := s.stg.refused + 1 } := rfl

/-- Staging an event changes the ring, its timer, the store's queue (and what a switch-over holds of it) and, where it is refused, the drop
count and DROPSEEN; nothing else (R471). -/
theorem State.stageEvent_frame (s : State) (c src lvl a b d e : Nat) :
    s.stageEvent c src lvl a b d e =
      { s with timers := (s.stageEvent c src lvl a b d e).timers, regs := (s.stageEvent c src lvl a b d e).regs,
               stg := (s.stageEvent c src lvl a b d e).stg,
               cfs := (s.stageEvent c src lvl a b d e).cfs, sup := (s.stageEvent c src lvl a b d e).sup } := by
  unfold State.stageEvent
  simp only
  split
  · rw [State.refuseRec_frame]
  · rw [State.stageRec_frame]

theorem State.event_frame (s : State) (c a b d e : Nat) :
    s.event c a b d e =
      { s with timers := (s.event c a b d e).timers, regs := (s.event c a b d e).regs, stg := (s.event c a b d e).stg,
               cfs := (s.event c a b d e).cfs, sup := (s.event c a b d e).sup } :=
  State.stageEvent_frame s c _ _ a b d e

theorem State.eventFrom_frame (s : State) (c k a b d e : Nat) :
    s.eventFrom c k a b d e =
      { s with timers := (s.eventFrom c k a b d e).timers, regs := (s.eventFrom c k a b d e).regs, stg := (s.eventFrom c k a b d e).stg,
               cfs := (s.eventFrom c k a b d e).cfs, sup := (s.eventFrom c k a b d e).sup } :=
  State.stageEvent_frame s c _ _ a b d e

/-- A register field other than those of a refused event is left by an event. -/
theorem State.fld_stageEvent (s : State) (f : Fld) (c src lvl a b d e : Nat)
    (h1 : f.dw ≠ F.evwDropCount.dw) (h2 : f.dw ≠ F.evwStatDropseen.dw) : (s.stageEvent c src lvl a b d e).fld f = s.fld f := by
  unfold State.stageEvent
  simp only
  split
  · rw [State.fld_congr (t := (s.addSat F.evwDropCount 1).setFlag F.evwStatDropseen) f s.refuseRec_regs]
    simp only [State.setFlag_eq, State.addSat_eq]
    rw [State.fld_setFld_ne _ _ _ _ (by decide) (.inl h2), State.fld_setFld_ne _ _ _ _ (by decide) (.inl h1)]
  · apply State.fld_congr
    rw [State.stageRec_frame]

theorem State.fld_event (s : State) (f : Fld) (c a b d e : Nat)
    (h1 : f.dw ≠ F.evwDropCount.dw) (h2 : f.dw ≠ F.evwStatDropseen.dw) : (s.event c a b d e).fld f = s.fld f :=
  State.fld_stageEvent s f c _ _ a b d e h1 h2

theorem State.fld_eventFrom (s : State) (f : Fld) (c k a b d e : Nat)
    (h1 : f.dw ≠ F.evwDropCount.dw) (h2 : f.dw ≠ F.evwStatDropseen.dw) : (s.eventFrom c k a b d e).fld f = s.fld f :=
  State.fld_stageEvent s f c _ _ a b d e h1 h2

/-- The ring never holds more than 128 records (R471). -/
theorem State.stageEvent_ring (s : State) (c src lvl a b d e : Nat) (h : s.stg.staged.length ≤ 128) :
    (s.stageEvent c src lvl a b d e).stg.staged.length ≤ 128 := by
  unfold State.stageEvent
  simp only
  split
  · rw [State.refuseRec_stg]; exact h
  · rename_i hn
    have hs : (s.stageRec c src lvl a b d e).stg.staged.length = s.stg.staged.length + 1 := by
      unfold State.stageRec
      simp only
      split
      · rw [State.persistStaged_frame, State.armOnce_frame]; simp
      · rw [State.armOnce_frame]; simp
    omega

theorem State.dropStitches_frame (s : State) (c : Nat) :
    s.dropStitches c = { s with timers := (s.dropStitches c).timers, q := (s.dropStitches c).q } := by
  have h : ∀ (l : List (Nat × Stitch)) (s : State), l.foldl (fun (t : State) (p : Nat × Stitch) => t.cancel (.stitchAging p.1)) s =
      { s with timers := (l.foldl (fun (t : State) (p : Nat × Stitch) => t.cancel (.stitchAging p.1)) s).timers } := fun l s =>
    State.foldl_frame (fun s t => { s with timers := t.timers }) _ l s (fun _ => rfl) (fun _ _ _ h1 h2 => by rw [h2, h1]) (fun _ _ => rfl)
  unfold State.dropStitches
  simp only
  rw [h]

/-- Finishing a command changes its slot, its stitches and their timers (R112, R117). -/
theorem State.finish_frame (s : State) (c : Nat) (st : Status) (d : Nat) :
    s.finish c st d = { s with timers := (s.finish c st d).timers, q := (s.finish c st d).q } := by
  unfold State.finish
  split
  · rfl
  · simp only
    split
    · rw [State.dropStitches_frame]
    · simp only [State.updCmd]
      rw [State.dropStitches_frame]

theorem State.fail_frame (s : State) (c : Nat) (st : Status) :
    s.fail c st = { s with timers := (s.fail c st).timers, q := (s.fail c st).q } := by
  unfold State.fail; rw [State.finish_frame]; rfl

theorem State.dropStitches_cmd (s : State) (c d : Nat) : (s.dropStitches c).cmd d = s.cmd d := by
  have h : ∀ (l : List (Nat × Stitch)) (s : State),
      (l.foldl (fun (t : State) (p : Nat × Stitch) => t.cancel (.stitchAging p.1)) s).q = s.q := by
    intro l
    induction l with
    | nil => intro s; rfl
    | cons a l ih => intro s; exact ih _
  simp only [State.cmd, State.dropStitches, h]

/-- A finished command's slot: its status and Dword 0 wait to be posted (R117). -/
theorem State.finish_cmd (s : State) (c : Nat) (k : Cmd) (st : Status) (d : Nat) (h : s.cmd c = some k) (hd : k.dropped = false) :
    (s.finish c st d).cmd c = some { k with phase := .finished st d } := by
  unfold State.finish
  simp only [h, hd, Bool.false_eq_true, if_false]
  unfold State.cmd
  simp only [State.updCmd, Tab.find_upd_self]
  have e : Tab.find c (s.dropStitches c).q.cmds = some k := (State.dropStitches_cmd s c c).trans h
  rw [e]; simp [hd]

theorem State.fail_cmd (s : State) (c : Nat) (k : Cmd) (st : Status) (h : s.cmd c = some k) (hd : k.dropped = false) :
    (s.fail c st).cmd c = some { k with phase := .finished st 0 } := by
  unfold State.fail; exact State.finish_cmd _ c k st 0 (by simpa using h) hd

/-- An admin command being carried out is in its slot. -/
theorem State.adminAt_cmd (s : State) (c : Nat) (k : Cmd) (h : s.adminAt c = some k) : s.cmd c = some k ∧ k.admin = true ∧ k.phase = .active := by
  unfold State.adminAt at h
  split at h
  · split at h
    · rename_i hk hc
      simp only [Bool.and_eq_true, decide_eq_true_eq] at hc
      simp only [Option.some.injEq] at h; subst h; exact ⟨hk, hc⟩
    · simp at h
  · simp at h

/-- An I/O command being carried out is in its slot. -/
theorem State.ioAt_cmd (s : State) (c op : Nat) (k : Cmd) (h : s.ioAt c op = some k) :
    s.cmd c = some k ∧ k.admin = false ∧ k.phase = .active ∧ k.sqe.opcode = op := by
  unfold State.ioAt at h
  split at h
  · split at h
    · rename_i hk hc
      simp only [Bool.and_eq_true, decide_eq_true_eq, Bool.not_eq_true'] at hc
      simp only [Option.some.injEq] at h; subst h; exact ⟨hk, hc.1.1, hc.1.2, hc.2⟩
    · simp at h
  · simp at h

/-- Finishing a command leaves registers and functions. -/
@[simp] theorem State.fld_finish (s : State) (c : Nat) (st : Status) (d : Nat) (f : Fld) : (s.finish c st d).fld f = s.fld f := by
  rw [State.finish_frame]; rfl

@[simp] theorem State.fld_fail (s : State) (c : Nat) (st : Status) (f : Fld) : (s.fail c st).fld f = s.fld f := by
  rw [State.fail_frame]; rfl

@[simp] theorem State.func_finish (s : State) (c : Nat) (st : Status) (d : Nat) (i : Nat) : (s.finish c st d).func i = s.func i := by
  rw [State.finish_frame]; rfl

@[simp] theorem State.func_fail (s : State) (c : Nat) (st : Status) (i : Nat) : (s.fail c st).func i = s.func i := by
  rw [State.fail_frame]; rfl

theorem State.setCfs_frame (s : State) (l : List Nat) : s.setCfs l = { s with fns := (s.setCfs l).fns } :=
  State.foldl_frame (fun s t => { s with fns := t.fns }) _ l s (fun _ => rfl) (fun _ _ _ h1 h2 => by rw [h2, h1]) (fun _ _ => rfl)

/-- An asynchronous event completes a request of the function, or waits for one (R149). -/
theorem State.asyncEvent_frame (s : State) (i a b p : Nat) :
    s.asyncEvent i a b p =
      { s with timers := (s.asyncEvent i a b p).timers, q := (s.asyncEvent i a b p).q, fns := (s.asyncEvent i a b p).fns } := by
  unfold State.asyncEvent
  simp only
  split
  · rfl
  · split
    · rw [State.finish_frame]; rfl
    · rfl

theorem State.asyncAll_frame (s : State) (a b c d : Nat) :
    s.asyncAll a b c d =
      { s with timers := (s.asyncAll a b c d).timers, q := (s.asyncAll a b c d).q, fns := (s.asyncAll a b c d).fns } :=
  State.foldl_frame (fun s t => { s with timers := t.timers, q := t.q, fns := t.fns }) _ _ s (fun _ => rfl)
    (fun _ _ _ h1 h2 => by rw [h2, h1]) (fun s i => by
      split
      · exact State.asyncEvent_frame s _ _ _ _
      · rfl)

theorem State.asyncVendor_frame (s : State) (p : Nat) :
    s.asyncVendor p =
      { s with timers := (s.asyncVendor p).timers, q := (s.asyncVendor p).q, fns := (s.asyncVendor p).fns } :=
  State.foldl_frame (fun s t => { s with timers := t.timers, q := t.q, fns := t.fns }) _ _ s (fun _ => rfl)
    (fun _ _ _ h1 h2 => by rw [h2, h1]) (fun s i => by
      split
      · exact State.asyncEvent_frame s _ _ _ _
      · rfl)

end Sys2Proof.Machine
end

