-- ==== Sys2Proof/WellFormed.lean ====
section
/-! DEFINITION. Which operands name something that exists: ports, functions, regions, dies, blocks, skeins, rows of the map memory (R2, R37, R71,
R159, R188, R310). A command that is not well formed names an object the hardware does not have. -/

namespace Sys2Proof

/-- A physical function: 0 and 1 (R71). -/
def pfOk (pf : Nat) : Bool := decide (pf < 2)

/-- A host or strand port: 0 and 1 (R66, R386). -/
def portOk (port : Nat) : Bool := decide (port < 2)

/-- A function by index: PF0, PF1, then 512 VFs of each (R71). -/
def fnOk (fn : Nat) : Bool := decide (fn < 1026)

/-- A virtual function by index (R71). -/
def vfOk (vf : Nat) : Bool := decide (2 ≤ vf) && decide (vf < 1026)

/-- A self-timed region (R37). -/
def regionOk (r : Nat) : Bool := decide (r < 30)

/-- A flash die: 512 channels of 16 LUNs (R159). -/
def dieOk (d : Nat) : Bool := decide (d < 8192)

/-- A block of a die (R159). -/
def blockOk (b : Nat) : Bool := decide (b < 4096)

/-- A skein. -/
def skeinOk (k : Nat) : Bool := decide (k < 8)

/-- A flash channel. -/
def channelOk (c : Nat) : Bool := decide (c < 512)

/-- A supply rail of R488. -/
def railOk (r : Nat) : Bool := decide (1 ≤ r) && decide (r < 5)

/-- The byte enables of a dword. -/
def bytesOk (be : Nat) : Bool := decide (be < 16)

/-- A pseudo-channel of the map memory (R310). -/
def pcOk (p : Nat) : Bool := decide (p < 128)

/-- A bank of a pseudo-channel (R310). -/
def bankOk (b : Nat) : Bool := decide (b < 48)

/-- A row of a bank (R310). -/
def rowOk (r : Nat) : Bool := decide (r < 32768)

/-- An HBM stack. -/
def stackOk (k : Nat) : Bool := decide (k < 4)

/-- A port of the map memory controller. -/
def hbmPortOk (p : Nat) : Bool := decide (p < 8)

/-- A byte of the map memory. -/
def hbmOk (a : Nat) : Bool := decide (a < 192 * 2 ^ 30)

/-- A map index (R156). -/
def extentOk (e : Nat) : Bool := decide (e < 2 ^ 34)

/-- A temperature sensor of R145. -/
def sensorOk (n : Nat) : Bool := decide (1 ≤ n) && decide (n < 14)

/-- A temperature as one byte, two's complement. -/
def tempOk (v : Nat) : Bool := decide (v < 256)

/-- A die of R40: the core die, eight skein dies, four HBM stacks. -/
def tjDieOk (d : Nat) : Bool := decide (d < 13)

/-- A lane of a host port. -/
def laneOk (l : Nat) : Bool := decide (l < 16)

/-- A resource of R108. -/
def resourceOk (r : Nat) : Bool := decide (r < 5)

/-- A journal copy. -/
def copyOk (c : Nat) : Bool := decide (c < 2)

/-- A dynamic I3C address: 7 bits (R497). -/
def i3cOk (a : Nat) : Bool := decide (a < 128)

/-- A device ID of the fleet (R391). -/
def peerOk (p : Nat) : Bool := decide (1 ≤ p) && decide (p ≤ 16384)

/-- A frame header whose fields fit their widths: a port, then as R388 lays them out. -/
def headerOk (h : FrameHdr) : Bool := portOk h.port && decide (h.version < 256) && decide (h.src < 65536) && decide (h.dst < 65536) &&
  decide (h.tag < 2 ^ 32) && decide (h.seq < 2 ^ 32) && decide (h.ack < 2 ^ 32) && decide (h.credit < 65536)

/-- Whether every operand of a command names something that exists. -/
def Instr.wf : Instr → Bool
  | .vddAonApplied => true
  | .gaugeWindowEnd region _ => regionOk region
  | .gaugePeriodEnd _ _ => true
  | .pmbusTransactionDone _ _ _ => true
  | .voutDeviationTimeout => true
  | .vrAlert _ => true
  | .vddCoreLow => true
  | .railLow rail => railOk rail
  | .reftLost => true
  | .reftRegained => true
  | .deviceTimeSlewDone => true
  | .timeOffsetApply => true
  | .latchedPairLoRead _ _ => true
  | .paceMinclr pf => pfOk pf
  | .registerWrite pf _ _ be => pfOk pf && bytesOk be
  | .perstAssert port => portOk port
  | .coldReset => true
  | .perstDeassert port _ _ _ => portOk port
  | .coldStart _ => true
  | .hotResetReceived port => portOk port
  | .dlDown port => portOk port
  | .linkTrainingFail port => portOk port
  | .linkLayerError port _ lane => portOk port && laneOk lane
  | .l1IdleTimer port => portOk port
  | .memoryRequestReceived port _ _ _ _ => portOk port
  | .configRead fn _ _ => fnOk fn
  | .configWrite fn _ _ _ => fnOk fn
  | .busMasterEnableClear fn => fnOk fn
  | .busMasterEnableSet fn => fnOk fn
  | .vfEnableClear pf => pfOk pf
  | .vfEnableSet pf => pfOk pf
  | .pfFlr pf => pfOk pf
  | .vfFlr vf => vfOk vf
  | .flrComplete fn => fnOk fn
  | .translationCompletion port _ _ _ => portOk port
  | .prgResponse _ _ => true
  | .pageRequestTimeout _ => true
  | .invalidateRequest fn _ _ _ => fnOk fn
  | .invalidateCompletionSend fn _ => fnOk fn
  | .atcFlush pf => pfOk pf
  | .completionReceived port _ _ _ _ _ => portOk port
  | .completionTimeout port _ => portOk port
  | .tagQuarantineEnd port _ => portOk port
  | .getVersion pf => pfOk pf
  | .getCapabilities pf => pfOk pf
  | .negotiateAlgorithms pf _ _ => pfOk pf
  | .getDigests pf => pfOk pf
  | .getCertificate pf _ _ _ => pfOk pf
  | .challenge pf _ _ => pfOk pf
  | .getMeasurements pf _ _ _ => pfOk pf
  | .spdmUnsupportedRequest pf _ => pfOk pf
  | .hifCntclr pf => pfOk pf
  | .sqTailDoorbellWrite fn _ _ => fnOk fn
  | .cqHeadDoorbellWrite fn _ _ => fnOk fn
  | .fetchGrant => true
  | .submissionFetchComplete port _ _ => portOk port
  | .interlockAdmit => true
  | .stitchCut => true
  | .resourceGrant res => resourceOk res
  | .stitchResume _ => true
  | .stitchAgingExpiry _ => true
  | .level6Starvation res => resourceOk res
  | .completionPost _ => true
  | .interruptAggregationTimeout fn _ => fnOk fn
  | .msixVectorUnmask fn _ => fnOk fn
  | .controllerReset fn => fnOk fn
  | .controllerEnable fn _ _ _ => fnOk fn
  | .shutdownNormal fn => fnOk fn
  | .shutdownAbrupt fn => fnOk fn
  | .shutdownComplete fn => fnOk fn
  | .cleanStop _ => true
  | .qenCntclr pf => pfOk pf
  | .qenHistclr pf => pfOk pf
  | .unsupportedCommand _ => true
  | .createIoSq _ _ _ _ _ _ _ => true
  | .createIoCq _ _ _ _ _ _ _ => true
  | .deleteIoSq _ _ => true
  | .deleteIoCq _ _ => true
  | .getLogPage _ _ _ _ _ _ => true
  | .identify _ _ _ => true
  | .abort _ _ _ => true
  | .setFeatures _ _ _ _ _ _ _ => true
  | .setFeaturesTimestamp _ _ => true
  | .getFeatures _ _ _ _ => true
  | .asyncEventRequest _ => true
  | .namespaceCreate _ _ _ _ _ _ _ => true
  | .namespaceDelete _ => true
  | .namespaceAttachment _ _ _ => true
  | .directiveSend _ _ _ _ _ => true
  | .directiveReceive _ _ _ _ => true
  | .formatNvm _ _ _ _ _ => true
  | .formatProgressRecord _ => true
  | .sanitize _ _ _ _ _ _ => true
  | .sanitizeProgressRecord _ => true
  | .sanitizeOperationEnd _ => true
  | .firmwareImageDownload _ _ _ _ => true
  | .firmwareCommit _ _ _ _ _ => true
  | .activationDrainTimeout => true
  | .scheduledActivationDue _ _ => true
  | .registerAccess _ _ _ _ _ _ => true
  | .roleChallenge _ _ _ => true
  | .roleAssume _ _ _ _ _ => true
  | .roleRelease _ _ => true
  | .eventWindowRead _ _ _ _ => true
  | .eventRoundClear _ _ => true
  | .lifeCycleTransition _ _ _ => true
  | .strandConfigure _ _ _ _ => true
  | .strandJoin _ _ => true
  | .patrolConfigure _ _ _ _ _ _ => true
  | .supervisorTestRun _ _ _ => true
  | .supervisorTestYield _ _ => true
  | .calibrationRowRead _ _ _ => true
  | .flush _ => true
  | .read _ => true
  | .write _ _ _ => true
  | .writeUncorrectable _ => true
  | .compare _ _ => true
  | .writeZeroes _ => true
  | .datasetManagement _ _ => true
  | .verify _ => true
  | .ioManagementReceive _ _ => true
  | .reclaimUnitHandleUpdate _ _ => true
  | .copy _ => true
  | .strandCopyPush _ _ _ _ _ => true
  | .mapUnitApply _ _ _ => true
  | .seamStart e _ => extentOk e
  | .seamCommit _ => true
  | .rmwWriteback _ _ => true
  | .mapSegmentStall _ e => extentOk e
  | .segmentRecoveryComplete _ _ => true
  | .ownerTableError e _ => extentOk e
  | .ageEpochTick => true
  | .mapCntclr pf => pfOk pf
  | .mapHistclr pf => pfOk pf
  | .holdOkDeassert => true
  | .holdOkAssert => true
  | .protectedModeTimer => true
  | .writeBufferUe _ _ => true
  | .rowProgramIssue _ _ => true
  | .programComplete _ _ => true
  | .programFail _ _ => true
  | .parityProgramFail _ _ => true
  | .rowIdleTimeout _ => true
  | .exposedRowTimeout _ => true
  | .eraseIssue die block => dieOk die && blockOk block
  | .eraseComplete die _ => dieOk die
  | .openCheck die block _ => dieOk die && blockOk block
  | .destageMove _ _ => true
  | .parityAccumulatorUe _ => true
  | .crsCntclr pf => pfOk pf
  | .crsPflogclr pf => pfOk pf
  | .pageReadIssue _ => true
  | .codewordArrival _ _ => true
  | .decodeComplete _ _ _ _ _ _ => true
  | .reconstructionComplete _ _ _ _ => true
  | .tailCutDeadline _ => true
  | .tlerLimit _ => true
  | .slowProbeTimer die _ _ => dieOk die
  | .slowDieHoldExpiry die => dieOk die
  | .eccCntclr pf => pfOk pf
  | .eccSlowlogclr pf => pfOk pf
  | .eccRelease pf => pfOk pf
  | .victimSelect => true
  | .reclaimCopy _ _ => true
  | .moveCommit _ => true
  | .courseAgeRefresh _ => true
  | .readOnlyStall => true
  | .rclCntclr pf => pfOk pf
  | .rclTtclr pf => pfOk pf
  | .groupTimerExpiry => true
  | .groupCommit _ _ => true
  | .journalCopyFail which _ => copyOk which
  | .anchorTimer => true
  | .checkpointInterval _ => true
  | .checkpointMark _ => true
  | .pfailAssert => true
  | .dumpEnd _ _ _ _ => true
  | .lifCntclr pf => pfOk pf
  | .lifPfhistclr pf => pfOk pf
  | .statusPoll die _ => dieOk die
  | .flashOpTimeout die _ _ _ => dieOk die
  | .lunResetTimeout die => dieOk die
  | .zqShortTimer skein => skeinOk skein
  | .tempRetrain skein tj _ => skeinOk skein && tempOk tj
  | .skeinLinkStall skein => skeinOk skein
  | .skeinLinkDownLong skein => skeinOk skein
  | .skeinFailed skein => skeinOk skein
  | .sknCntclr pf skein => pfOk pf && skeinOk skein
  | .sknRetrain pf skein => pfOk pf && skeinOk skein
  | .chnRetrain pf chan => pfOk pf && channelOk chan
  | .hbmRefresh pc bank _ => pcOk pc && bankOk bank
  | .rowActivateLimit pc bank row port => pcOk pc && bankOk bank && rowOk row && hbmPortOk port
  | .throttleExpiry pc bank port => pcOk pc && bankOk bank && hbmPortOk port
  | .hbmMaxwait port => hbmPortOk port
  | .hbmScrubPeriod _ => true
  | .hbmUncorrectable addr port _ _ => hbmOk addr && hbmPortOk port
  | .hbmZeroDone _ => true
  | .hbmCntclr pf => pfOk pf
  | .hbmScrubnow pf => pfOk pf
  | .cmpBypassTimeout _ => true
  | .cmpTestRun pf _ => pfOk pf
  | .cmpCntclr pf => pfOk pf
  | .supervisorWatchdog => true
  | .taskLimitExpiry => true
  | .supervisorSelfCheckFail _ => true
  | .switchOver _ _ _ _ _ => true
  | .snapshotTimer => true
  | .standbySelfTest _ _ => true
  | .standbyTestRetry _ => true
  | .supCntclr pf => pfOk pf
  | .supLogclr pf => pfOk pf
  | .apstIdleTimeout fn => fnOk fn
  | .powerStateEntry _ => true
  | .drainLimit => true
  | .wake _ _ _ => true
  | .ps2SlotTimer => true
  | .patrolWake _ _ _ _ _ _ => true
  | .ps3SensorSample _ _ => true
  | .pwrCntclr pf => pfOk pf
  | .pwrHistclr pf => pfOk pf
  | .patCntclr pf => pfOk pf
  | .heartbeat h _ => headerOk h
  | .hbReply h _ _ _ _ _ => headerOk h
  | .ack h _ _ => headerOk h
  | .nak h _ _ _ _ => headerOk h
  | .hold h _ => headerOk h
  | .copyOpen h _ _ _ _ => headerOk h
  | .data h _ _ _ _ _ => headerOk h
  | .copyEnd h _ _ _ => headerOk h
  | .rollup h _ => headerOk h
  | .registry h _ _ => headerOk h
  | .manager h _ _ _ => headerOk h
  | .join h _ => headerOk h
  | .joinAck h _ => headerOk h
  | .patrolNotice h => headerOk h
  | .fwPart h _ _ => headerOk h
  | .schedule h _ _ _ => headerOk h
  | .heartbeatTimer => true
  | .heartbeatMiss peer => peerOk peer
  | .ackDelayTimer peer => peerOk peer
  | .retransmitTimeout peer _ => peerOk peer
  | .holdExpiry peer => peerOk peer
  | .strandWriteTimeout _ => true
  | .strandWriteAck _ _ => true
  | .creditWaitTimeout peer => peerOk peer
  | .rollupTimer => true
  | .sectionRollupStale _ => true
  | .registryTimer => true
  | .managerLost => true
  | .registryLoadTimeout => true
  | .timeExchangeTimeout => true
  | .strandPortLinkChange port _ => portOk port
  | .strWselWrite pf _ => pfOk pf
  | .strWctlCommit pf => pfOk pf
  | .strCntclr pf => pfOk pf
  | .fwuCntclr pf => pfOk pf
  | .fwuDiscard pf => pfOk pf
  | .cfsProgramComplete _ _ _ => true
  | .cfsEraseComplete _ _ => true
  | .cfsScrubPeriod _ _ _ => true
  | .cfsScrub pf _ _ _ => pfOk pf
  | .cfsCntclr pf => pfOk pf
  | .cfsDpselWrite pf _ => pfOk pf
  | .cfsDpdataAccess pf _ _ => pfOk pf
  | .cfsDpctlCommit pf => pfOk pf
  | .cfsDpctlDiscard pf => pfOk pf
  | .sessionIdleTimeout pf => pfOk pf
  | .secKselWrite pf _ => pfOk pf
  | .secKdataAccess pf _ _ => pfOk pf
  | .secKctlCommit pf => pfOk pf
  | .secKctlDiscard pf => pfOk pf
  | .secDbgUnlock pf => pfOk pf
  | .secCntclr pf => pfOk pf
  | .secDenyclr pf => pfOk pf
  | .eventPersistTimer => true
  | .evwData0Read pf => pfOk pf
  | .evwData7Read pf => pfOk pf
  | .evwCursorWrite pf _ => pfOk pf
  | .evwSeekold pf => pfOk pf
  | .evwSeeknew pf => pfOk pf
  | .genScrclr pf => pfOk pf
  | .miStatusRead _ _ => true
  | .miVendorIdRead _ _ => true
  | .i3cSetdasa addr => i3cOk addr
  | .i3cRstdaa => true
  | .healthPublishTimer => true
  | .dieTjPast105 die _ => tjDieOk die
  | .hbmStackPast85 stack temp => stackOk stack && tempOk temp
  | .temperatureThresholdCross sensor temp => sensorOk sensor && tempOk temp
  | .skeinLinkRecovered skein _ => skeinOk skein
  | .neighbourSolicitation port _ _ _ _ => portOk port

end Sys2Proof
end

