-- ==== Sys2Proof/Tests/Slice0.lean ====
section
/-! SUPPORT. Small states, and for every statement with hypotheses a state and operands that meet them all (witness_<statement>_<clause>, in the
order of its clauses); the checks of WellFormed on operands out of their range; a few single steps. -/

namespace Sys2Proof.Tests

open Sys2Proof.Machine

set_option Elab.async false

/-- Links up, both ports out of reset, the device started. -/
def up : State :=
  { State.reset with hif := { Hif.initial with port0 := { perst := false, up := true, width := 16, rate := 5, reversed := false, lpm := 0, retry := false, rom := true }, port1 := { perst := false, up := true, width := 16, rate := 5, reversed := false, lpm := 0, retry := false, rom := true } } }
def started : State := up.setFld F.fwuSlotRunning 1
def armed (s : State) (ids : List TimerId) : State := { s with timers := s.timers ++ ids.map (fun i => ⟨i, 0⟩) }
def entry (op nsid slba nlb : Nat) : Sqe :=
  { opcode := op, cid := 0, nsid := nsid, slba := slba, nlb := nlb, ranges := [], prchk := 0, ph := none, lr := false, pages := [], list := false }
def slot (fn : Nat) (admin : Bool) (e : Sqe) : Cmd :=
  { fn := fn, sq := b2n (!admin), admin := admin, sqe := e, accepted := 0, level := 2, phase := .active, nextCut := e.slba, endCut := e.slba + e.nlb,
    doneSlots := 0, failure := none, dropped := false, buffered := false, exposed := false, cmpEn := false, badLba := none }
def withCmd (s : State) (c : Nat) (k : Cmd) : State := { s with q := { s.q with cmds := Tab.put c k s.q.cmds, lastFetch := c } }
def admin (s : State) (op : Nat) (fn : Nat := 0) (nsid : Nat := 0) : State := withCmd s 1 (slot fn true (entry op nsid 0 0))
def ns (size : Nat) : Ns :=
  { size := size, lbaf := 0, pi := 0, piFirst := false, granules := [0], compress := false, handles := [0], formatting := false }
def withNs (s : State) (n : Ns) : State := ({ s with nss := Tab.put 1 n s.nss } : State).updFunc 0 (fun f => { f with nss := insertNew 1 f.nss })
def io (s : State) (op slba nlb : Nat) : State := withCmd (withNs s (ns 4096)) 1 (slot 0 false (entry op 1 slba nlb))
def k0 : Cmd := slot 0 true (entry 0 0 0 0)
def theCmd (s : State) (c : Nat := 1) : Cmd := (s.cmd c).getD k0
def theNs (s : State) (c : Nat := 1) : Ns := (Tab.find (theCmd s c).sqe.nsid s.nss).getD (ns 1)
def withQueues (s : State) (i : Nat) : State :=
  s.updFunc i (fun f => { f with en := true, rdy := true, bme := true, sqs := [(0, ⟨8, 0, 0, 1, 0, 0, false, 0, 0, none⟩), (1, ⟨8, 0, 0, 3, 1, 0, false, 0, 0, none⟩)], cqs := [(0, ⟨8, 0, 1, none, [⟨7, 0, 1, ⟨0, 0, false⟩, 0⟩], [], 0⟩), (1, ⟨8, 0, 1, some 1, [⟨7, 0, 1, ⟨0, 0, false⟩, 0⟩], [], 1⟩)] })
def role (s : State) (pf : Nat) (r : Role) : State := (s.setFld F.secLcState 1).setSession pf (some ⟨r, 0⟩)
def deployed (s : State) : State := s.setFld F.secLcState 1
def hdr (s : State) : FrameHdr := { port := 0, crcOk := true, version := 1, src := 5, dst := s.ownId, tag := 0, seq := 1, ack := 0, credit := 0 }
def flash : State :=
  { started with fl := { started.fl with ranks := 1, raw := 1000000, out := (List.range 511).map (fun i => (16 * (i + 1), 1)), blks := (0, { Blk.fresh with state := .closed, course := 9 }) :: (List.range 6).map (fun i => (i + 10, { Blk.fresh with state := .erased })) } }
def aCourse : Course :=
  { w := 2, ply := 1, slc := false, band := 2, handle := 0, group := 0, rank := 0, members := [some ⟨0, 10, 12, 0, 0, none⟩, some ⟨0, 11, 0, 0, 0, none⟩], nextMem := 0, small := 0, smallWl := 0, last := 5, closed := false, early := false, closeEpoch := 0, closeTime := 0, moving := [] }
def withCourse (s : State) (n : Nat) (c : Course) : State := { s with crs := { s.crs with courses := Tab.put n c s.crs.courses } }
def withOp (s : State) (d : Nat) (o : FlashOp) : State := { s with fl := { s.fl with ops := Tab.put d o s.fl.ops } }
def aSlot : BufSlot := { cmd := 1, fn := 0, nsid := 1, lba := 3, data := 5, mdata := 0, place := some 64, frame := 0, applied := false, group := 0, lost := false, again := false }
def withSlot (s : State) (i : Nat) (b : BufSlot) : State := { s with buf := { s.buf with slots := Tab.put i b s.buf.slots } }
def ioIn (b : State) (op slba nlb : Nat) : State := withCmd (withNs b (ns 4096)) 1 (slot 0 false (entry op 1 slba nlb))
def aRead : CwRead := { cmd := 1, stitch := 0, nsid := 1, lba := 3, psa := 64, frame := 0, index := 0, step := 0, phase := .queued, why := 0, again := false, skipped := false, late := false, start := 0 }
def withRead (s : State) (r : Nat) (x : CwRead) : State := { s with rd := { s.rd with reads := Tab.put r x s.rd.reads } }
def aCopy : Copy := { course := 1, reason := 0, e := 0, slot := 0, whole := false, frame := false, count := 0, old := 64, new := 65, seen := .unwritten, pages := 0 }
def withCopy (s : State) (i : Nat) (c : Copy) : State := { s with crs := { s.crs with copies := Tab.put i c s.crs.copies } }
def readOf (s : State) (r : Nat := 1) : CwRead := (s.cw r).getD aRead
def reading (x : CwRead) (course9 : Bool := false) : State :=
  withRead (let s := ioIn flash 0x02 0 8; if course9 then withCourse s 9 { aCourse with closed := true } else s) 1 x
def joinedTo : State :=
  ({ started with nss := [(1, ns 4096)], str := { started.str with up0 := true, ticket := some ⟨true, 0, 0, 9, 0, 2 ^ 40, 0, 0⟩, members := [(5, ⟨1, 0, [], 0, 1⟩), (9, ⟨2, 0, [], 0, 0⟩)], out := [(7, { cmd := 1, fn := 0, peer := 5, win := 0, off := 0, path := 0, nsid := 1, slba := 0, total := 40, sent := 8, acked := 0 })] } } : State).setFld F.strStatJoined 1 |>.setFld F.strCtlSp0en 1 |>.setFld F.strIdRole 2 |>.setFld F.strMgrTop 5 |>.setFld F.strMgrSect 5
def facts : StartFacts :=
  { ms := 500, reft := true, hold := true, voutMode := some 0x14, calOk := true, badPc := none, valid1 := 15, valid2 := 15, failPart := 0, desc := some 0,
    blocks := 2, wls := 10, luns := 0, fewer := [], unfit := [], gone := [], swapped := [], badBlocks := [], rates := [], tinked := [], lostA := [], lostB := [], badCkpts := [], badDump := [], seeds := true }
def anOut : OutCopy := { cmd := 1, fn := 0, peer := 5, win := 0, off := 0, path := 0, nsid := 1, slba := 0, total := 40, sent := 8, acked := 0 }
def anIn : InCopy := { peer := 5, id := 7, win := 0, off := 0, count := 64, recv := 0, ackedSlots := 0, writes := [] }
def anInWrite : InWrite := { fetch := 40, nsid := 1, lba := 0, count := 8, got := [], buffered := true, exposed := false, acked := false }

def ev (i : Nat) : EventRec := ⟨0x1000 + i % 5, i % 4, i, 0, i + 1, 0, 0, 0, 0⟩

/-- The cast-on area full. -/
def castFull : State := { State.reset with areas := { State.reset.areas with cast := List.replicate 16384 (ev 0) } }

/-- What REFT_LOST leaves right after reset. -/
def afterReftLost : State :=
  ((((State.reset.setFlag F.tkStatReftlost).setFlag F.strStatOutoftime).setFlag F.tkStatReftseen).event 0x0105 (State.reset.clk.mono / 1000))

/-- An overlay in every place of the pool, and one more. -/
def crowded : State :=
  let z := io up 0x04 0 8; { z with map := { z.map with overlays := List.replicate (poolTotal + 1) (0, ⟨0, 0, []⟩) } }

/-- A session of the maker role on PF1 meets what BitClears asks for, whatever role a clear needs. -/
theorem witness_BitClears : (role up 1 .maker).BitLands 1 .operator ∧ (role up 1 .maker).BitLands 1 .installer := by
  unfold State.BitLands; decide +kernel

theorem witness_PaceRowsComplete_0 :
    ∃ (r : Nat) (c : Nat), r < 30 ∧ c / 10 < 65536 :=
  ⟨29, 655359,
    by decide +kernel⟩

theorem witness_PaceRowsComplete_4 :
    ∃ (s : State), s.armed .voutDeviation = true :=
  ⟨armed up [.voutDeviation],
    by decide +kernel⟩

theorem witness_PaceRowsComplete_5 :
    ∃ (s : State), s.armed .voutDeviation = false :=
  ⟨up,
    by decide +kernel⟩

theorem witness_PaceRowsComplete_7 :
    ∃ (d : Nat), d < 13 :=
  ⟨12,
    by decide +kernel⟩

def stPaceRowsComplete11 : State :=
  armed (up.setFld F.tkCtlStrandt 0) [.timeOffset]

theorem witness_PaceRowsComplete_11 :
    ∃ (s : State), s.armed .timeOffset = true ∧ s.flag F.tkCtlStrandt = false :=
  ⟨stPaceRowsComplete11,
    by decide +kernel⟩

def stPaceRowsComplete12 : State :=
  let z := armed (up.setFld F.tkCtlStrandt 1) [.timeOffset];
  { z with str := { z.str with kept := [(5, 10), (-3, 4)] } }

theorem witness_PaceRowsComplete_12 :
    ∃ (s : State), s.armed .timeOffset = true ∧ s.flag F.tkCtlStrandt = true ∧ s.str.kept ≠ [] :=
  ⟨stPaceRowsComplete12,
    by decide +kernel⟩

theorem witness_PaceRowsComplete_13 :
    ∃ (q : Nat) (p : Nat), q < 4 ∧ p < 9 :=
  ⟨3, 8,
    by decide +kernel⟩

theorem witness_LinkResetRowsComplete_0 :
    ∃ (s : State) (p : Nat), p < 2 ∧ (s.port p).perst = false ∧ s.dump.running = none ∧ (s.port (1 - p)).perst = false :=
  ⟨up, 1,
    by decide +kernel⟩

def stLinkResetRowsComplete1 : State :=
  { up with hif := { up.hif with port0 := Port.initial } }

theorem witness_LinkResetRowsComplete_1 :
    ∃ (s : State) (p : Nat), p < 2 ∧ (s.port p).perst = false ∧ s.dump.running = none ∧ (s.port (1 - p)).perst = true :=
  ⟨stLinkResetRowsComplete1, 1,
    by decide +kernel⟩

theorem witness_LinkResetRowsComplete_3 :
    ∃ (s : State) (p : Nat) (w : Nat) (r : Nat), p < 2 ∧ w ∈ [1, 8, 16] ∧ 0 < r ∧ r ≤ s.fld (F.hifPortCtlMaxrate p) ∧ (s.port p).up = false ∧
    s.dump.running = none :=
  ⟨State.reset, 1, 16, 5,
    by decide +kernel⟩

theorem witness_LinkResetRowsComplete_4 :
    ∃ (s : State) (p : Nat), p < 2 ∧ (s.port p).perst = false :=
  ⟨up, 1,
    by decide +kernel⟩

theorem witness_LinkResetRowsComplete_5 :
    ∃ (s : State) (p : Nat), p < 2 ∧ (s.port p).perst = false :=
  ⟨up, 1,
    by decide +kernel⟩

theorem witness_LinkResetRowsComplete_6 :
    ∃ (s : State) (p : Nat), p < 2 ∧ (s.port p).perst = false :=
  ⟨up, 1,
    by decide +kernel⟩

theorem witness_LinkResetRowsComplete_7a :
    ∃ (s : State) (p : Nat) (l : Nat), p < 2 ∧ (s.port p).perst = false ∧ l ≤ 15 :=
  ⟨up, 1, 15,
    by decide +kernel⟩

theorem witness_LinkResetRowsComplete_7b :
    ∃ (s : State) (p : Nat) (l : Nat), p < 2 ∧ (s.port p).perst = false ∧ l ≤ 15 :=
  ⟨up, 0, 0,
    by decide +kernel⟩

theorem witness_LinkResetRowsComplete_7c :
    ∃ (s : State) (p : Nat) (l : Nat), p < 2 ∧ (s.port p).perst = false ∧ l ≤ 15 :=
  ⟨up, 0, 3,
    by decide +kernel⟩

theorem witness_LinkResetRowsComplete_8 :
    ∃ (s : State) (p : Nat), s.armed (.l1Idle p) = true :=
  ⟨armed up [.l1Idle 1], 1,
    by decide +kernel⟩

def stLinkResetRowsComplete9 : State :=
  up.updFunc 1 (fun f => { f with vfEn := true, numVfs := 4 })

theorem witness_LinkResetRowsComplete_9 :
    ∃ (s : State) (pf : Nat), pf < 2 ∧ (s.func pf).vfEn = true :=
  ⟨stLinkResetRowsComplete9, 1,
    by decide +kernel⟩

theorem witness_LinkResetRowsComplete_10 :
    ∃ (pf : Nat), pf < 2 :=
  ⟨1,
    by decide +kernel⟩

theorem witness_LinkResetRowsComplete_11 :
    ∃ (s : State) (pf : Nat), pf < 2 ∧ (s.func pf).reset ≠ .flr :=
  ⟨up, 1,
    by decide +kernel⟩

def stLinkResetRowsComplete12 : State :=
  up.updFunc 1 (fun f => { f with reset := .flr })

theorem witness_LinkResetRowsComplete_12 :
    ∃ (s : State) (pf : Nat), pf < 2 ∧ (s.func pf).reset = .flr :=
  ⟨stLinkResetRowsComplete12, 1,
    by decide +kernel⟩

def stLinkResetRowsComplete13a : State :=
  up.updFunc 0 (fun f => { f with vfEn := true, numVfs := 4 })

theorem witness_LinkResetRowsComplete_13a :
    ∃ (s : State) (v : Nat), 2 ≤ v ∧ v < 1026 ∧ s.vfThere v = true ∧ s.inReset v = false ∧ s.inReset (portOf v) = false :=
  ⟨stLinkResetRowsComplete13a, 2,
    by decide +kernel⟩

def stLinkResetRowsComplete13b : State :=
  up.updFunc 1 (fun f => { f with vfEn := true, numVfs := 512 })

theorem witness_LinkResetRowsComplete_13b :
    ∃ (s : State) (v : Nat), 2 ≤ v ∧ v < 1026 ∧ s.vfThere v = true ∧ s.inReset v = false ∧ s.inReset (portOf v) = false :=
  ⟨stLinkResetRowsComplete13b, 1025,
    by decide +kernel⟩

def stLinkResetRowsComplete14 : State :=
  up.updFunc 1025 (fun f => { f with reset := .flr })

theorem witness_LinkResetRowsComplete_14 :
    ∃ (s : State) (v : Nat), 2 ≤ v ∧ v < 1026 ∧ s.inReset v = true :=
  ⟨stLinkResetRowsComplete14, 1025,
    by decide +kernel⟩

def stLinkResetRowsComplete15 : State :=
  armed (up.updFunc 1 (fun f => { f with reset := .flr })) [.flr 1]

theorem witness_LinkResetRowsComplete_15 :
    ∃ (s : State) (i : Nat), s.inReset i = true :=
  ⟨stLinkResetRowsComplete15, 1,
    by decide +kernel⟩

theorem witness_HostTrafficRowsComplete_0 :
    ∃ (s : State) (i : Nat), i < 2 ∧ (s.port i).up = true ∧ (s.port i).retry = false ∧ (s.tlpIn i).mustRetry i = false :=
  ⟨started, 1,
    by decide +kernel⟩

theorem witness_HostTrafficRowsComplete_1 :
    ∃ (s : State) (i : Nat), i < 2 ∧ (s.port i).up = true ∧ (s.tlpIn i).mustRetry i = true :=
  ⟨up, 1,
    by decide +kernel⟩

def stHostTrafficRowsComplete2a : State :=
  started.updFunc 1 (fun f => { f with mse := true, bar2 := 0x100000, bar4 := 0x40000000, bar0 := 0x200000 })

theorem witness_HostTrafficRowsComplete_2a :
    ∃ (s : State) (p : Nat) (d : DwReq), p < 2 ∧ (s.port p).up = true ∧ (s.tlpIn p).memTarget p d.addr ≠ .nothing :=
  ⟨stHostTrafficRowsComplete2a, 1, ⟨0x100F00, 5, 15⟩,
    by decide +kernel⟩

theorem witness_HostTrafficRowsComplete_2b :
    ∃ (s : State) (p : Nat) (d : DwReq), p < 2 ∧ (s.port p).up = true ∧ (s.tlpIn p).memTarget p d.addr ≠ .nothing :=
  ⟨stHostTrafficRowsComplete2a, 1, ⟨0x40000000, 5, 15⟩,
    by decide +kernel⟩

theorem witness_HostTrafficRowsComplete_2c :
    ∃ (s : State) (p : Nat) (d : DwReq), p < 2 ∧ (s.port p).up = true ∧ (s.tlpIn p).memTarget p d.addr ≠ .nothing :=
  ⟨stHostTrafficRowsComplete2a, 1, ⟨0x201000, 5, 15⟩,
    by decide +kernel⟩

theorem witness_HostTrafficRowsComplete_3a :
    ∃ (s : State) (p : Nat) (d : DwReq), p < 2 ∧ (s.port p).up = true ∧ (s.tlpIn p).memTarget p d.addr ≠ .nothing :=
  ⟨stHostTrafficRowsComplete2a, 1, ⟨0x100000, 5, 15⟩,
    by decide +kernel⟩

theorem witness_HostTrafficRowsComplete_3b :
    ∃ (s : State) (p : Nat) (d : DwReq), p < 2 ∧ (s.port p).up = true ∧ (s.tlpIn p).memTarget p d.addr ≠ .nothing :=
  ⟨stHostTrafficRowsComplete2a, 1, ⟨0x40000000, 5, 15⟩,
    by decide +kernel⟩

theorem witness_HostTrafficRowsComplete_4 :
    ∃ (s : State) (p : Nat) (d : DwReq), p < 2 ∧ (s.port p).up = true ∧ (s.tlpIn p).memTarget p d.addr = .nothing :=
  ⟨started, 1, ⟨0x100000, 5, 15⟩,
    by decide +kernel⟩

theorem witness_HostTrafficRowsComplete_5a :
    ∃ (i : Nat), i < 1026 :=
  ⟨1,
    by decide +kernel⟩

theorem witness_HostTrafficRowsComplete_5b :
    ∃ (i : Nat), i < 1026 :=
  ⟨1025,
    by decide +kernel⟩

def stHostTrafficRowsComplete6 : State :=
  { started with hif := { started.hif with reqs := [⟨1, 3, 1, .dataRead, 1, 64, false⟩] } }

theorem witness_HostTrafficRowsComplete_6 :
    ∃ (s : State) (p : Nat) (tag : Nat) (r : NpReq), p < 2 ∧ (s.tlpIn p).hif.reqs.any (fun x => decide (x.port = p) && decide (x.tag = tag) &&
    x.orphan) = false ∧ (s.tlpIn p).reqAt p tag = some r ∧ ((r.kind = .dataRead ∨ r.kind = .listFetch)) :=
  ⟨stHostTrafficRowsComplete6, 1, 3, ⟨1, 3, 1, .dataRead, 1, 64, false⟩,
    by decide +kernel⟩

theorem witness_HostTrafficRowsComplete_7 :
    ∃ (s : State) (p : Nat) (tag : Nat), p < 2 ∧ (s.tlpIn p).hif.reqs.any (fun x => decide (x.port = p) && decide (x.tag = tag) && x.orphan) =
    false ∧ (s.tlpIn p).reqAt p tag = none :=
  ⟨started, 1, 3,
    by decide +kernel⟩

def stHostTrafficRowsComplete8a : State :=
  armed { started with hif := { started.hif with reqs := [⟨1, 3, 1, .dataRead, 1, 64, false⟩] } } [.completionTimeout 1 3]

theorem witness_HostTrafficRowsComplete_8a :
    ∃ (s : State) (p : Nat) (tag : Nat), s.armed (.completionTimeout p tag) = true :=
  ⟨stHostTrafficRowsComplete8a, 1, 3,
    by decide +kernel⟩

def stHostTrafficRowsComplete8b : State :=
  armed { started with hif := { started.hif with reqs := [⟨0, 3, 0, .sqFetch, 0, 64, false⟩] } } [.completionTimeout 0 3]

theorem witness_HostTrafficRowsComplete_8b :
    ∃ (s : State) (p : Nat) (tag : Nat), s.armed (.completionTimeout p tag) = true :=
  ⟨stHostTrafficRowsComplete8b, 0, 3,
    by decide +kernel⟩

def stHostTrafficRowsComplete8c : State :=
  armed { started with hif := { started.hif with reqs := [⟨0, 3, 0, .translation, 0, 64, false⟩] } } [.completionTimeout 0 3]

theorem witness_HostTrafficRowsComplete_8c :
    ∃ (s : State) (p : Nat) (tag : Nat), s.armed (.completionTimeout p tag) = true :=
  ⟨stHostTrafficRowsComplete8c, 0, 3,
    by decide +kernel⟩

def stHostTrafficRowsComplete9 : State :=
  armed { started with hif := { started.hif with quar := [(1, 3)] } } [.tagQuarantine 1 3]

theorem witness_HostTrafficRowsComplete_9 :
    ∃ (s : State) (p : Nat) (tag : Nat), s.armed (.tagQuarantine p tag) = true ∧ (∀ f ∈ s.q.fetches, f.tag ≠ tag) ∧ s.hif.quar.Nodup :=
  ⟨stHostTrafficRowsComplete9, 1, 3,
    by decide +kernel⟩

def stTranslationRowsComplete0 : State :=
  { started with hif := { started.hif with reqs := [⟨1, 3, 1, .translation, 1, 8, false⟩] } }

theorem witness_TranslationRowsComplete_0 :
    ∃ (s : State) (p : Nat) (tag : Nat) (r : NpReq), s.reqAt p tag = some r ∧ r.kind = .translation :=
  ⟨stTranslationRowsComplete0, 1, 3, ⟨1, 3, 1, .translation, 1, 8, false⟩,
    by decide +kernel⟩

theorem witness_TranslationRowsComplete_1a :
    ∃ (s : State) (g : Nat), (∀ x ∈ s.hif.groups, x.prg ≠ g) :=
  ⟨started, 4,
    by decide +kernel⟩

theorem witness_TranslationRowsComplete_1b :
    ∃ (s : State) (g : Nat), (∀ x ∈ s.hif.groups, x.prg ≠ g) :=
  ⟨started, 4,
    by decide +kernel⟩

def stTranslationRowsComplete2 : State :=
  { started with hif := { started.hif with groups := [⟨3, 0, 0, [1], true⟩] } }

theorem witness_TranslationRowsComplete_2 :
    ∃ (s : State) (g : PageGroup), s.hif.groups = [g] ∧ g.sent = true :=
  ⟨stTranslationRowsComplete2, ⟨3, 0, 0, [1], true⟩,
    by decide +kernel⟩

def stTranslationRowsComplete3 : State :=
  armed { started with hif := { started.hif with groups := [⟨3, 0, 0, [1], true⟩] } } [.pageRequest 3]

theorem witness_TranslationRowsComplete_3 :
    ∃ (s : State) (g : PageGroup), s.armed (.pageRequest g.prg) = true ∧ s.hif.groups = [g] :=
  ⟨stTranslationRowsComplete3, ⟨3, 0, 0, [1], true⟩,
    by decide +kernel⟩

def stTranslationRowsComplete4 : State :=
  { started with hif := { started.hif with atc := [⟨1, 4, 1, 9, true, true, false⟩, ⟨0, 4, 1, 9, true, true, false⟩] } }

theorem witness_TranslationRowsComplete_4 :
    ∃ (i : Nat), i < 1026 :=
  ⟨1,
    by decide +kernel⟩

def stTranslationRowsComplete5 : State :=
  { started with hif := { started.hif with invals := [⟨1, 7⟩] } }

theorem witness_TranslationRowsComplete_5 :
    ∃ (s : State) (i : Nat) (itag : Nat), ⟨i, itag⟩ ∈ s.hif.invals :=
  ⟨stTranslationRowsComplete5, 1, 7,
    by decide +kernel⟩

theorem witness_SpdmRowsComplete_0 :
    ∃ (pf : Nat), pf < 2 :=
  ⟨1,
    by decide +kernel⟩

def stSpdmRowsComplete1 : State :=
  { started with hif := { started.hif with spdm1 := 1 } }

theorem witness_SpdmRowsComplete_1 :
    ∃ (s : State) (pf : Nat), pf < 2 ∧ 1 ≤ s.spdmAt pf :=
  ⟨stSpdmRowsComplete1, 1,
    by decide +kernel⟩

def stSpdmRowsComplete2 : State :=
  { started with hif := { started.hif with spdm1 := 2 } }

theorem witness_SpdmRowsComplete_2 :
    ∃ (s : State) (pf : Nat) (a : Nat) (h : Nat), pf < 2 ∧ 2 ≤ s.spdmAt pf ∧ a.testBit 7 = true ∧ h.testBit 1 = true :=
  ⟨stSpdmRowsComplete2, 1, 0x80, 2,
    by decide +kernel⟩

theorem witness_SpdmRowsComplete_3 :
    ∃ (s : State) (pf : Nat) (a : Nat) (h : Nat), pf < 2 ∧ 2 ≤ s.spdmAt pf ∧ ((a.testBit 7 = false ∨ h.testBit 1 = false)) :=
  ⟨stSpdmRowsComplete2, 1, 0x40, 1,
    by decide +kernel⟩

def stSpdmRowsComplete4 : State :=
  { started with hif := { started.hif with spdm1 := 3 } }

theorem witness_SpdmRowsComplete_4 :
    ∃ (s : State) (pf : Nat), pf < 2 ∧ 3 ≤ s.spdmAt pf :=
  ⟨stSpdmRowsComplete4, 1,
    by decide +kernel⟩

theorem witness_SpdmRowsComplete_5 :
    ∃ (s : State) (pf : Nat) (o : Nat), pf < 2 ∧ 3 ≤ s.spdmAt pf ∧ o < certLen :=
  ⟨stSpdmRowsComplete4, 1, 51,
    by decide +kernel, by decide +kernel, Nat.lt_of_lt_of_le (Nat.lt_succ_self _) (Nat.le_add_right 52 _)⟩

theorem witness_SpdmRowsComplete_6 :
    ∃ (s : State) (pf : Nat), pf < 2 ∧ 3 ≤ s.spdmAt pf :=
  ⟨stSpdmRowsComplete4, 1,
    by decide +kernel⟩

theorem witness_SpdmRowsComplete_7 :
    ∃ (s : State) (pf : Nat) (k : Nat), pf < 2 ∧ 3 ≤ s.spdmAt pf ∧ 1 ≤ k ∧ k ≤ 8 :=
  ⟨stSpdmRowsComplete4, 1, 8,
    by decide +kernel⟩

theorem witness_SpdmRowsComplete_8 :
    ∃ (pf : Nat), pf < 2 :=
  ⟨1,
    by decide +kernel⟩

theorem witness_QueueRowsComplete_0 :
    ∃ (s : State) (i : Nat) (k : Nat) (v : Nat) (q : Sq), i < 1026 ∧ Tab.find k (s.func i).sqs = some q ∧ Sq.badTail (some q) v = none :=
  ⟨withQueues started 1, 1, 1, 7, (Tab.find 1 ((withQueues started 1).func 1).sqs).getD ⟨8, 0, 0, 3, 1, 0, false, 0, 0, none⟩,
    by decide +kernel⟩

theorem witness_QueueRowsComplete_1a :
    ∃ (s : State) (i : Nat) (k : Nat) (v : Nat) (r : Nat), i < 1026 ∧ Sq.badTail (Tab.find k (s.func i).sqs) v = some r :=
  ⟨withQueues started 1, 1, 1, 8, 1,
    by decide +kernel⟩

theorem witness_QueueRowsComplete_1b :
    ∃ (s : State) (i : Nat) (k : Nat) (v : Nat) (r : Nat), i < 1026 ∧ Sq.badTail (Tab.find k (s.func i).sqs) v = some r :=
  ⟨withQueues started 1, 1, 5, 8, 0,
    by decide +kernel⟩

theorem witness_QueueRowsComplete_1c :
    ∃ (s : State) (i : Nat) (k : Nat) (v : Nat) (r : Nat), i < 1026 ∧ Sq.badTail (Tab.find k (s.func i).sqs) v = some r :=
  ⟨withQueues started 1, 1, 1, 2, 2,
    by decide +kernel⟩

theorem witness_QueueRowsComplete_2 :
    ∃ (s : State) (i : Nat) (k : Nat) (v : Nat) (q : Cq), i < 1026 ∧ Tab.find k (s.func i).cqs = some q ∧ Cq.badHead (some q) v = none ∧ q.held =
    [] :=
  ⟨withQueues started 1, 1, 1, 1, (Tab.find 1 ((withQueues started 1).func 1).cqs).getD ⟨8, 0, 0, none, [], [], 0⟩,
    by decide +kernel⟩

theorem witness_QueueRowsComplete_3a :
    ∃ (s : State) (i : Nat) (k : Nat) (v : Nat) (r : Nat), i < 1026 ∧ Cq.badHead (Tab.find k (s.func i).cqs) v = some r :=
  ⟨withQueues started 1, 1, 1, 8, 1,
    by decide +kernel⟩

theorem witness_QueueRowsComplete_3b :
    ∃ (s : State) (i : Nat) (k : Nat) (v : Nat) (r : Nat), i < 1026 ∧ Cq.badHead (Tab.find k (s.func i).cqs) v = some r :=
  ⟨withQueues started 1, 1, 9, 8, 0,
    by decide +kernel⟩

theorem witness_QueueRowsComplete_3c :
    ∃ (s : State) (i : Nat) (k : Nat) (v : Nat) (r : Nat), i < 1026 ∧ Cq.badHead (Tab.find k (s.func i).cqs) v = some r :=
  ⟨withQueues started 1, 1, 1, 2, 3,
    by decide +kernel⟩

theorem witness_QueueRowsComplete_4 :
    ∃ (s : State) (i : Nat), s.withheld.q.fetchStop = false ∧ roundRobin s.withheld.q.lastAdmin (s.withheld.grantees true) = some i :=
  ⟨withQueues started 1, 1,
    by decide +kernel⟩

def stQueueRowsComplete5 : State :=
  { withQueues started 1 with q := { (withQueues started 1).q with fetchStop := true } }

theorem witness_QueueRowsComplete_5 :
    ∃ (s : State), s.withheld.q.fetchStop = true :=
  ⟨stQueueRowsComplete5,
    by decide +kernel⟩

def stQueueRowsComplete6a : State :=
  { withQueues started 1 with q := { (withQueues started 1).q with fetches := [⟨1, 1, 4, 1, none⟩] } }

theorem witness_QueueRowsComplete_6a :
    ∃ (s : State) (f : Fetch), s.q.fetches = [f] ∧ f.got = none ∧ f.num = 1 :=
  ⟨stQueueRowsComplete6a, ⟨1, 1, 4, 1, none⟩,
    by decide +kernel⟩

def stQueueRowsComplete6b : State :=
  { withQueues started 1 with q := { (withQueues started 1).q with fetches := [⟨1, 0, 4, 1, none⟩] } }

theorem witness_QueueRowsComplete_6b :
    ∃ (s : State) (f : Fetch), s.q.fetches = [f] ∧ f.got = none ∧ f.num = 1 :=
  ⟨stQueueRowsComplete6b, ⟨1, 0, 4, 1, none⟩,
    by decide +kernel⟩

def stQueueRowsComplete7 : State :=
  (let z := io started 0x01 0 8; z.updCmd 1 (fun k => { k with phase := .waitLock }))

theorem witness_QueueRowsComplete_7 :
    ∃ (s : State) (c : Nat) (k : Cmd), s.q.cmds = [(c, k)] ∧ k.phase = .waitLock ∧ s.mayLock c (k.sqe.locks c (((Tab.find k.sqe.nsid s.nss).map
    (·.compress)).getD false)).length = true :=
  ⟨stQueueRowsComplete7, 1, theCmd stQueueRowsComplete7 1,
    by decide +kernel⟩

theorem witness_QueueRowsComplete_8 :
    ∃ (s : State) (c : Nat) (k : Cmd), s.q.cmds = [(c, k)] ∧ k.phase = .active :=
  ⟨io started 0x02 0 40, 1, theCmd (io started 0x02 0 40) 1,
    by decide +kernel⟩

def stQueueRowsComplete9a : State :=
  let z := io started 0x02 0 40;
  { z with q := { z.q with stitches := [(3, ⟨1, 0, 32, 2, .ready, 0, 0, 0, [], 0⟩)] } }

theorem witness_QueueRowsComplete_9a :
    ∃ (s : State) (res : Nat) (id : Nat) (x : Stitch), res ≠ 2 ∧ s.firstReady res = some (id, x) ∧ s.firstInternal res = none :=
  ⟨stQueueRowsComplete9a, 0, 3, (Tab.find 3 stQueueRowsComplete9a.q.stitches).getD ⟨1, 0, 32, 2, .ready, 0, 0, 0, [], 0⟩,
    by decide +kernel⟩

def stQueueRowsComplete9b : State :=
  let z := io started 0x02 0 40;
  { z with q := { z.q with stitches := [(3, ⟨1, 0, 32, 2, .ready, 0, 0, 0, [], 4⟩)] } }

theorem witness_QueueRowsComplete_9b :
    ∃ (s : State) (res : Nat) (id : Nat) (x : Stitch), res ≠ 2 ∧ s.firstReady res = some (id, x) ∧ s.firstInternal res = none :=
  ⟨stQueueRowsComplete9b, 4, 3, (Tab.find 3 stQueueRowsComplete9b.q.stitches).getD ⟨1, 0, 32, 2, .ready, 0, 0, 0, [], 0⟩,
    by decide +kernel⟩

def stQueueRowsComplete10a : State :=
  let z := io (withQueues started 0) 0x02 0 40;
  { z with q := { z.q with stitches := [(3, ⟨1, 0, 32, 2, .parked 1, 0, 0, 0, [], 4⟩)] } }

theorem witness_QueueRowsComplete_10a :
    ∃ (s : State) (id : Nat) (r : Nat) (x : Stitch) (k : Cmd), Tab.find id s.q.stitches = some x ∧ x.phase = .parked r ∧ s.cmd x.cmd = some k ∧
    s.mayResume id x k r = true :=
  ⟨stQueueRowsComplete10a, 3, 1, (Tab.find 3 stQueueRowsComplete10a.q.stitches).getD ⟨1, 0, 32, 2, .ready, 0, 0, 0, [], 0⟩, theCmd
    stQueueRowsComplete10a ((Tab.find 3 stQueueRowsComplete10a.q.stitches).getD ⟨1, 0, 32, 2, .ready, 0, 0, 0, [], 0⟩).cmd,
    by decide +kernel⟩

def stQueueRowsComplete10b : State :=
  let z := ioIn (withQueues flash 0) 0x01 0 40;
  { z with q := { z.q with stitches := [(3, ⟨1, 0, 32, 2, .parked 4, 0, 0, 0, [], 4⟩)] } }

theorem witness_QueueRowsComplete_10b :
    ∃ (s : State) (id : Nat) (r : Nat) (x : Stitch) (k : Cmd), Tab.find id s.q.stitches = some x ∧ x.phase = .parked r ∧ s.cmd x.cmd = some k ∧
    s.mayResume id x k r = true :=
  ⟨stQueueRowsComplete10b, 3, 4, (Tab.find 3 stQueueRowsComplete10b.q.stitches).getD ⟨1, 0, 32, 2, .ready, 0, 0, 0, [], 0⟩, theCmd
    stQueueRowsComplete10b ((Tab.find 3 stQueueRowsComplete10b.q.stitches).getD ⟨1, 0, 32, 2, .ready, 0, 0, 0, [], 0⟩).cmd,
    by decide +kernel⟩

def stQueueRowsComplete11 : State :=
  let z := armed (io started 0x02 0 40) [.stitchAging 3];
  { z with q := { z.q with stitches := [(3, ⟨1, 0, 32, 4, .ready, 0, 0, 0, [], 0⟩)] } }

theorem witness_QueueRowsComplete_11 :
    ∃ (s : State) (id : Nat) (x : Stitch), s.armed (.stitchAging id) = true ∧ Tab.find id s.q.stitches = some x ∧ x.phase = .ready ∧ 2 < x.level :=
  ⟨stQueueRowsComplete11, 3, (Tab.find 3 stQueueRowsComplete11.q.stitches).getD ⟨1, 0, 32, 2, .ready, 0, 0, 0, [], 0⟩,
    by decide +kernel⟩

def stQueueRowsComplete12 : State :=
  { started with q := { started.q with internal := [⟨3, 9, 6, 0⟩] }, clk := { started.clk with mono := 1000000000 } }

theorem witness_QueueRowsComplete_12 :
    ∃ (s : State) (w : IntWork), s.q.internal = [w] ∧ w.level = 6 ∧ w.since + 1000000000 ≤ s.clk.mono :=
  ⟨stQueueRowsComplete12, ⟨3, 9, 6, 0⟩,
    by decide +kernel⟩

def stControllerRowsComplete0a : State :=
  (let z := admin (withQueues started 0) 6; z.finish 1 St.ok)

theorem witness_ControllerRowsComplete_0a :
    ∃ (s : State) (c : Nat), s.isFinished c = true :=
  ⟨stControllerRowsComplete0a, 1,
    by decide +kernel⟩

def stControllerRowsComplete0b : State :=
  (let z := io (withQueues started 0) 2 0 8; z.finish 1 St.ok)

theorem witness_ControllerRowsComplete_0b :
    ∃ (s : State) (c : Nat), s.isFinished c = true :=
  ⟨stControllerRowsComplete0b, 1,
    by decide +kernel⟩

def stControllerRowsComplete1 : State :=
  armed (withQueues started 0) [.intAggregation 0 1]

theorem witness_ControllerRowsComplete_1 :
    ∃ (s : State) (i : Nat) (k : Nat) (q : Cq), s.armed (.intAggregation i k) = true ∧ Tab.find k (s.func i).cqs = some q :=
  ⟨stControllerRowsComplete1, 0, 1, (Tab.find 1 (stControllerRowsComplete1.func 0).cqs).getD ⟨8, 0, 0, none, [], [], 0⟩,
    by decide +kernel⟩

def stControllerRowsComplete2 : State :=
  started.updFunc 1025 (fun f => { f with pend := [63], msixEn := true })

theorem witness_ControllerRowsComplete_2 :
    ∃ (i : Nat) (v : Nat), i < 1026 ∧ v < 64 :=
  ⟨1025, 63,
    by decide +kernel⟩

theorem witness_ControllerRowsComplete_3a :
    ∃ (s : State) (i : Nat), i < 1026 ∧ (s.func i).en = true :=
  ⟨admin (withQueues started 0) 6, 0,
    by decide +kernel⟩

theorem witness_ControllerRowsComplete_3b :
    ∃ (s : State) (i : Nat), i < 1026 ∧ (s.func i).en = true :=
  ⟨withQueues started 1025, 1025,
    by decide +kernel⟩

theorem witness_ControllerRowsComplete_4 :
    ∃ (s : State) (i : Nat), i < 1026 ∧ (s.func i).en = false ∧ (s.func i).enWait = false :=
  ⟨started, 1025,
    by decide +kernel⟩

theorem witness_ControllerRowsComplete_5a :
    ∃ (s : State) (i : Nat) (m : Nat) (n : Nat), i < 1026 ∧ 2 ≤ m ∧ m ≤ 4096 ∧ 2 ≤ n ∧ n ≤ 4096 ∧ s.started = true ∧ (s.func i).cfs = false ∧
    (s.func i).shst ≠ 1 ∧ (s.func i).reset = .none ∧ (s.func i).rdy = false :=
  ⟨started, 1025, 2, 4096,
    by decide +kernel⟩

theorem witness_ControllerRowsComplete_5b :
    ∃ (s : State) (i : Nat) (m : Nat) (n : Nat), i < 1026 ∧ 2 ≤ m ∧ m ≤ 4096 ∧ 2 ≤ n ∧ n ≤ 4096 ∧ s.started = true ∧ (s.func i).cfs = false ∧
    (s.func i).shst ≠ 1 ∧ (s.func i).reset = .none ∧ (s.func i).rdy = false :=
  ⟨started, 0, 4096, 2,
    by decide +kernel⟩

theorem witness_ControllerRowsComplete_6 :
    ∃ (s : State) (i : Nat), i < 1026 ∧ (s.func i).shst = 0 :=
  ⟨admin (withQueues started 0) 6, 0,
    by decide +kernel⟩

theorem witness_ControllerRowsComplete_7 :
    ∃ (s : State) (i : Nat), i < 1026 ∧ (s.func i).shst = 0 :=
  ⟨admin (withQueues started 0) 6, 0,
    by decide +kernel⟩

def stControllerRowsComplete8 : State :=
  (withQueues started 1).updFunc 1 (fun f => { f with shst := 1, shn := 1 })

theorem witness_ControllerRowsComplete_8 :
    ∃ (s : State) (i : Nat), s.shutdownDone i = true ∧ s.sup.yielded = none ∧ (s.func i).enWait = false :=
  ⟨stControllerRowsComplete8, 1,
    by decide +kernel⟩

def stControllerRowsComplete9 : State :=
  (withQueues started 1).updFunc 1 (fun f => { f with shst := 2, shn := 1 })

theorem witness_ControllerRowsComplete_9 :
    ∃ (s : State), s.allShutDown = true ∧ s.sec.lcRun = none ∧ s.buf.slots.all (fun p => p.2.applied) = true ∧ s.crs.rmws = [] ∧ s.lif.touched = []
    ∧ s.lif.running = [] :=
  ⟨stControllerRowsComplete9,
    by decide +kernel⟩

def stControllerRowsComplete10 : State :=
  let z := io started 0x00 0 0;
  { z with lif := { z.lif with openGroup := some ⟨4, 0, []⟩, closed := 3, committed := 3 } }

theorem witness_ControllerRowsComplete_10 :
    ∃ (s : State) (c : Nat) (g : Nat) (k : Cmd), s.ioAt c 0x00 = some k ∧ s.sanitizing = false ∧ s.formattingNs k.sqe.nsid = false ∧ s.namesNs k =
    true ∧ s.awaited = some g :=
  ⟨stControllerRowsComplete10, 1, 4, theCmd stControllerRowsComplete10 1,
    by decide +kernel⟩

theorem witness_ControllerRowsComplete_11 :
    ∃ (s : State) (c : Nat) (k : Cmd), s.ioAt c 0x00 = some k ∧ s.sanitizing = false ∧ s.formattingNs k.sqe.nsid = false ∧ s.namesNs k = true ∧
    s.awaited = none :=
  ⟨io started 0x00 0 0, 1, theCmd (io started 0x00 0 0) 1,
    by decide +kernel⟩

theorem witness_QueueCommandsComplete_0 :
    ∃ (s : State) (c : Nat) (k : Cmd), s.cmd c = some k ∧ k.phase = .active ∧ k.dropped = false :=
  ⟨admin started 0x77, 1, theCmd (admin started 0x77) 1,
    by decide +kernel⟩

def stQueueCommandsComplete1a : State :=
  admin (started.updFunc 1 (fun f => { f with qgrant := some (4, 4) })) 5 1

theorem witness_QueueCommandsComplete_1a :
    ∃ (s : State) (c : Nat) (qid : Nat) (size : Nat) (vec : Nat) (intEn : Bool) (k : Cmd), s.AdminRuns c k ∧ qid ≠ 0 ∧ qid ≤ (s.grantOf k.fn).2 ∧
    Tab.has qid (s.func k.fn).cqs = false ∧ 2 ≤ size ∧ size ≤ 16384 ∧ ((intEn = true → vec < 64)) :=
  ⟨stQueueCommandsComplete1a, 1, 4, 16384, 63, true, theCmd stQueueCommandsComplete1a 1,
    by unfold State.AdminRuns; decide +kernel⟩

theorem witness_QueueCommandsComplete_1b :
    ∃ (s : State) (c : Nat) (qid : Nat) (size : Nat) (vec : Nat) (intEn : Bool) (k : Cmd), s.AdminRuns c k ∧ qid ≠ 0 ∧ qid ≤ (s.grantOf k.fn).2 ∧
    Tab.has qid (s.func k.fn).cqs = false ∧ 2 ≤ size ∧ size ≤ 16384 ∧ ((intEn = true → vec < 64)) :=
  ⟨stQueueCommandsComplete1a, 1, 1, 2, 99, false, theCmd stQueueCommandsComplete1a 1,
    by unfold State.AdminRuns; decide +kernel⟩

theorem witness_QueueCommandsComplete_2 :
    ∃ (s : State) (c : Nat) (qid : Nat) (k : Cmd), s.AdminRuns c k ∧ ((qid = 0 ∨ (s.grantOf k.fn).2 < qid ∨ Tab.has qid (s.func k.fn).cqs = true))
    :=
  ⟨admin started 5 1, 1, 0, theCmd (admin started 5 1) 1,
    by unfold State.AdminRuns; decide +kernel⟩

theorem witness_QueueCommandsComplete_3 :
    ∃ (s : State) (c : Nat) (qid : Nat) (size : Nat) (cq : Nat) (prio : Nat) (k : Cmd), s.AdminRuns c k ∧ qid ≠ 0 ∧ qid ≤ (s.grantOf k.fn).1 ∧
    Tab.has qid (s.func k.fn).sqs = false ∧ 2 ≤ size ∧ size ≤ 16384 ∧ cq ≠ 0 ∧ Tab.has cq (s.func k.fn).cqs = true ∧ prio ≤ 3 :=
  ⟨admin (withQueues started 1) 1 1, 1, 4, 16384, 1, 3, theCmd (admin (withQueues started 1) 1 1) 1,
    by unfold State.AdminRuns; decide +kernel⟩

theorem witness_QueueCommandsComplete_4 :
    ∃ (s : State) (c : Nat) (qid : Nat) (k : Cmd), s.AdminRuns c k ∧ ((qid = 0 ∨ (s.grantOf k.fn).1 < qid ∨ Tab.has qid (s.func k.fn).sqs = true))
    :=
  ⟨admin (withQueues started 1) 1 1, 1, 1, theCmd (admin (withQueues started 1) 1 1) 1,
    by unfold State.AdminRuns; decide +kernel⟩

theorem witness_QueueCommandsComplete_5 :
    ∃ (s : State) (c : Nat) (qid : Nat) (k : Cmd), s.AdminRuns c k ∧ qid ≠ 0 ∧ Tab.has qid (s.func k.fn).sqs = true ∧ (∀ p ∈ s.q.cmds, ¬(p.2.fn =
    k.fn ∧ p.2.sq = qid)) :=
  ⟨admin (withQueues started 1) 0 1, 1, 1, theCmd (admin (withQueues started 1) 0 1) 1,
    by unfold State.AdminRuns; decide +kernel⟩

def stQueueCommandsComplete6 : State :=
  withCmd (admin (withQueues started 0) 0) 2 (slot 0 false (entry 2 1 0 8))

theorem witness_QueueCommandsComplete_6 :
    ∃ (s : State) (c : Nat) (d : Nat) (qid : Nat) (k : Cmd) (x : Cmd), s.AdminRuns c k ∧ qid ≠ 0 ∧ Tab.has qid (s.func k.fn).sqs = true ∧ (d, x) ∈
    s.q.cmds ∧ x.fn = k.fn ∧ x.sq = qid ∧ x.dropped = false :=
  ⟨stQueueCommandsComplete6, 1, 2, 1, theCmd stQueueCommandsComplete6 1, theCmd stQueueCommandsComplete6 2,
    by unfold State.AdminRuns; decide +kernel⟩

def stQueueCommandsComplete7 : State :=
  admin (started.updFunc 0 (fun f => { f with cqs := [(1, ⟨8, 0, 1, some 1, [], [], 1⟩)] })) 4

theorem witness_QueueCommandsComplete_7 :
    ∃ (s : State) (c : Nat) (qid : Nat) (k : Cmd), s.AdminRuns c k ∧ qid ≠ 0 ∧ Tab.has qid (s.func k.fn).cqs = true ∧ (∀ p ∈ (s.func k.fn).sqs,
    p.2.cq ≠ qid) :=
  ⟨stQueueCommandsComplete7, 1, 1, theCmd stQueueCommandsComplete7 1,
    by unfold State.AdminRuns; decide +kernel⟩

theorem witness_QueueCommandsComplete_8 :
    ∃ (s : State) (c : Nat) (k : Cmd), s.AdminRuns c k :=
  ⟨admin started 8, 1, theCmd (admin started 8) 1,
    by unfold State.AdminRuns; decide +kernel⟩

theorem witness_QueueCommandsComplete_9 :
    ∃ (s : State) (c : Nat) (k : Cmd), s.AdminRuns c k ∧ (s.func k.fn).aens = [] ∧ (s.func k.fn).aers.length < 16 :=
  ⟨admin started 0x0C 1, 1, theCmd (admin started 0x0C 1) 1,
    by unfold State.AdminRuns; decide +kernel⟩

def stQueueCommandsComplete10 : State :=
  (admin started 0x0C 1).updFunc 1 (fun f => { f with aers := List.range 16 })

theorem witness_QueueCommandsComplete_10 :
    ∃ (s : State) (c : Nat) (k : Cmd), s.AdminRuns c k ∧ (s.func k.fn).aens = [] ∧ 16 ≤ (s.func k.fn).aers.length :=
  ⟨stQueueCommandsComplete10, 1, theCmd stQueueCommandsComplete10 1,
    by unfold State.AdminRuns; decide +kernel⟩

def stQueueCommandsComplete11 : State :=
  (admin started 0x0C 1).updFunc 1 (fun f => { f with aens := [(1, 1, 2), (0, 1, 1)] })

theorem witness_QueueCommandsComplete_11 :
    ∃ (s : State) (c : Nat) (ty : Nat) (info : Nat) (page : Nat) (k : Cmd) (rest : List (Nat × Nat × Nat)), s.AdminRuns c k ∧ (s.func k.fn).aens =
    (ty, info, page) :: rest :=
  ⟨stQueueCommandsComplete11, 1, 1, 1, 2, theCmd stQueueCommandsComplete11 1, (stQueueCommandsComplete11.func (theCmd stQueueCommandsComplete11
    1).fn).aens.drop 1,
    by unfold State.AdminRuns; decide +kernel⟩

theorem witness_FeatureRowsComplete_0a :
    ∃ (s : State) (c : Nat) (cns : Nat) (cntid : Nat) (k : Cmd) (d : List Nat), s.AdminRuns c k ∧ s.identify k.fn cns k.sqe.nsid cntid = .ok d :=
  ⟨admin started 6 1, 1, 1, 0, theCmd (admin started 6 1) 1, (match (admin started 6 1).identify (theCmd (admin started 6 1) 1).fn 1 (theCmd (admin
    started 6 1) 1).sqe.nsid 0 with | .ok d => d | .error _ => []),
    by unfold State.AdminRuns; decide +kernel, rfl⟩

theorem witness_FeatureRowsComplete_0b :
    ∃ (s : State) (c : Nat) (cns : Nat) (cntid : Nat) (k : Cmd) (d : List Nat), s.AdminRuns c k ∧ s.identify k.fn cns k.sqe.nsid cntid = .ok d :=
  ⟨admin started 6 1, 1, 2, 0, theCmd (admin started 6 1) 1, (match (admin started 6 1).identify (theCmd (admin started 6 1) 1).fn 2 (theCmd (admin
    started 6 1) 1).sqe.nsid 0 with | .ok d => d | .error _ => []),
    by unfold State.AdminRuns; decide +kernel, rfl⟩

theorem witness_FeatureRowsComplete_1 :
    ∃ (s : State) (c : Nat) (cns : Nat) (k : Cmd), s.AdminRuns c k ∧ identifyCns cns = false :=
  ⟨admin started 6 1, 1, 7, theCmd (admin started 6 1) 1,
    by unfold State.AdminRuns; decide +kernel⟩

theorem witness_FeatureRowsComplete_2a :
    ∃ (s : State) (c : Nat) (page : Nat) (numd : Nat) (offset : Nat) (sel : Nat) (k : Cmd) (p : Page), s.AdminRuns c k ∧ s.logPage k.fn page = some
    p ∧ offset % 4 = 0 ∧ offset ≤ p.size ∧ numd ≤ 2 ^ 20 ∧ ((groupPage page = true → sel = 1)) :=
  ⟨admin started 2 1, 1, 2, 128, 508, 0, theCmd (admin started 2 1) 1, ((admin started 2 1).logPage (theCmd (admin started 2 1) 1).fn 2).getD ⟨0,
    []⟩,
    by unfold State.AdminRuns; decide +kernel, rfl, by decide +kernel, by decide +kernel, by decide +kernel, by decide +kernel⟩

theorem witness_FeatureRowsComplete_2b :
    ∃ (s : State) (c : Nat) (page : Nat) (numd : Nat) (offset : Nat) (sel : Nat) (k : Cmd) (p : Page), s.AdminRuns c k ∧ s.logPage k.fn page = some
    p ∧ offset % 4 = 0 ∧ offset ≤ p.size ∧ numd ≤ 2 ^ 20 ∧ ((groupPage page = true → sel = 1)) :=
  ⟨admin started 2 1, 1, 0x20, 128, 0, 1, theCmd (admin started 2 1) 1, ((admin started 2 1).logPage (theCmd (admin started 2 1) 1).fn 0x20).getD
    ⟨0, []⟩,
    by unfold State.AdminRuns; decide +kernel⟩

theorem witness_FeatureRowsComplete_2c :
    ∃ (s : State) (c : Nat) (page : Nat) (numd : Nat) (offset : Nat) (sel : Nat) (k : Cmd) (p : Page), s.AdminRuns c k ∧ s.logPage k.fn page = some
    p ∧ offset % 4 = 0 ∧ offset ≤ p.size ∧ numd ≤ 2 ^ 20 ∧ ((groupPage page = true → sel = 1)) :=
  ⟨admin started 2 1, 1, 0xC4, 4, 0, 1, theCmd (admin started 2 1) 1, ((admin started 2 1).logPage (theCmd (admin started 2 1) 1).fn 0xC4).getD ⟨0,
    []⟩,
    by unfold State.AdminRuns; decide +kernel⟩

theorem witness_FeatureRowsComplete_3 :
    ∃ (s : State) (c : Nat) (page : Nat) (k : Cmd), s.AdminRuns c k ∧ s.logPage k.fn page = none :=
  ⟨admin started 2 1, 1, 6, theCmd (admin started 2 1) 1,
    by unfold State.AdminRuns; decide +kernel⟩

theorem witness_FeatureRowsComplete_4 :
    ∃ (s : State) (c : Nat) (k : Cmd), s.AdminRuns c k :=
  ⟨admin started 9 1, 1, theCmd (admin started 9 1) 1,
    by unfold State.AdminRuns; decide +kernel⟩

theorem witness_FeatureRowsComplete_5 :
    ∃ (s : State) (c : Nat) (cdw11 : Nat) (k : Cmd), s.AdminRuns c k ∧ (s.func k.fn).qgrant = none ∧ cdw11 % 65536 < 65535 ∧ cdw11 / 65536 % 65536
    < 65535 :=
  ⟨admin started 9 1, 1, 0x40000 + 65534, theCmd (admin started 9 1) 1,
    by unfold State.AdminRuns; decide +kernel⟩

theorem witness_FeatureRowsComplete_6 :
    ∃ (s : State) (c : Nat) (fid : Nat) (k : Cmd), s.AdminRuns c k ∧ vendorFeature fid = true ∧ s.mayAs k.fn (featureRole fid) = false :=
  ⟨deployed (admin started 9 1), 1, 0xC5, theCmd (deployed (admin started 9 1)) 1,
    by unfold State.AdminRuns; decide +kernel⟩

theorem witness_FeatureRowsComplete_7a :
    ∃ (s : State) (c : Nat) (secs : Nat) (k : Cmd), s.AdminRuns c k ∧ k.fn < 2 ∧ s.mayAs k.fn .operator = true ∧ 1 ≤ secs ∧ secs ≤ 3600 :=
  ⟨role (admin started 9 1) 1 .operator, 1, 3600, theCmd (role (admin started 9 1) 1 .operator) 1,
    by unfold State.AdminRuns; decide +kernel⟩

theorem witness_FeatureRowsComplete_7b :
    ∃ (s : State) (c : Nat) (secs : Nat) (k : Cmd), s.AdminRuns c k ∧ k.fn < 2 ∧ s.mayAs k.fn .operator = true ∧ 1 ≤ secs ∧ secs ≤ 3600 :=
  ⟨admin started 9 0, 1, 1, theCmd (admin started 9 0) 1,
    by unfold State.AdminRuns; decide +kernel⟩

theorem witness_FeatureRowsComplete_8 :
    ∃ (s : State) (c : Nat) (fid : Nat) (k : Cmd), s.AdminRuns c k ∧ vendorFeature fid = false ∧ standardFeature fid = false :=
  ⟨admin started 9 0, 1, 3, theCmd (admin started 9 0) 1,
    by unfold State.AdminRuns; decide +kernel⟩

def stFeatureRowsComplete9 : State :=
  (admin started 9 0).setFld F.tkCtlHostts 1

theorem witness_FeatureRowsComplete_9 :
    ∃ (s : State) (c : Nat) (k : Cmd), s.AdminRuns c k ∧ s.fld F.tkStatOrigin ≠ 2 ∧ s.flag F.tkCtlHostts = true :=
  ⟨stFeatureRowsComplete9, 1, theCmd stFeatureRowsComplete9 1,
    by unfold State.AdminRuns; decide +kernel⟩

def stFeatureRowsComplete10 : State :=
  (admin started 9 0).setFld F.tkStatOrigin 2

theorem witness_FeatureRowsComplete_10 :
    ∃ (s : State) (c : Nat) (k : Cmd), s.AdminRuns c k ∧ ((s.fld F.tkStatOrigin = 2 ∨ s.flag F.tkCtlHostts = false)) :=
  ⟨stFeatureRowsComplete10, 1, theCmd stFeatureRowsComplete10 1,
    by unfold State.AdminRuns; decide +kernel⟩

theorem witness_FeatureRowsComplete_11a :
    ∃ (s : State) (c : Nat) (fid : Nat) (k : Cmd), s.AdminRuns c k ∧ ((vendorFeature fid = true ∨ standardFeature fid = true)) :=
  ⟨admin started 10 1, 1, 0xC0, theCmd (admin started 10 1) 1,
    by unfold State.AdminRuns; decide +kernel⟩

theorem witness_FeatureRowsComplete_11b :
    ∃ (s : State) (c : Nat) (fid : Nat) (k : Cmd), s.AdminRuns c k ∧ ((vendorFeature fid = true ∨ standardFeature fid = true)) :=
  ⟨admin started 10 1, 1, 7, theCmd (admin started 10 1) 1,
    by unfold State.AdminRuns; decide +kernel⟩

theorem witness_FeatureRowsComplete_11c :
    ∃ (s : State) (c : Nat) (fid : Nat) (k : Cmd), s.AdminRuns c k ∧ ((vendorFeature fid = true ∨ standardFeature fid = true)) :=
  ⟨admin started 10 1, 1, 8, theCmd (admin started 10 1) 1,
    by unfold State.AdminRuns; decide +kernel⟩

theorem witness_FeatureRowsComplete_12 :
    ∃ (s : State) (c : Nat) (k : Cmd), s.AdminRuns c k :=
  ⟨admin started 10 1, 1, theCmd (admin started 10 1) 1,
    by unfold State.AdminRuns; decide +kernel⟩

theorem witness_FeatureRowsComplete_13 :
    ∃ (s : State) (c : Nat) (k : Cmd), s.AdminRuns c k :=
  ⟨admin started 0x19 1, 1, theCmd (admin started 0x19 1) 1,
    by unfold State.AdminRuns; decide +kernel⟩

theorem witness_FeatureRowsComplete_14 :
    ∃ (s : State) (c : Nat) (k : Cmd), s.AdminRuns c k :=
  ⟨admin started 0x19 1, 1, theCmd (admin started 0x19 1) 1,
    by unfold State.AdminRuns; decide +kernel⟩

theorem witness_FeatureRowsComplete_15 :
    ∃ (s : State) (c : Nat) (k : Cmd), s.AdminRuns c k :=
  ⟨admin started 0x1A 1, 1, theCmd (admin started 0x1A 1) 1,
    by unfold State.AdminRuns; decide +kernel⟩

def stNamespaceRowsComplete0a : State :=
  let z := admin started 0x0D 1;
  { z with fl := { z.fl with raw := 1000000 } }

theorem witness_NamespaceRowsComplete_0a :
    ∃ (s : State) (c : Nat) (mib : Nat) (lbaf : Nat) (pi : Nat) (k : Cmd), s.PfRuns c k ∧ mib ≠ 0 ∧ formatOk lbaf pi = true ∧ s.nsMib + mib ≤
    s.userMib ∧ firstFree 1 s.nss ≤ 1024 :=
  ⟨stNamespaceRowsComplete0a, 1, 4, 2, 3, theCmd stNamespaceRowsComplete0a 1,
    by unfold State.PfRuns State.AdminRuns; decide +kernel⟩

theorem witness_NamespaceRowsComplete_0b :
    ∃ (s : State) (c : Nat) (mib : Nat) (lbaf : Nat) (pi : Nat) (k : Cmd), s.PfRuns c k ∧ mib ≠ 0 ∧ formatOk lbaf pi = true ∧ s.nsMib + mib ≤
    s.userMib ∧ firstFree 1 s.nss ≤ 1024 :=
  ⟨stNamespaceRowsComplete0a, 1, 1, 0, 0, theCmd stNamespaceRowsComplete0a 1,
    by unfold State.PfRuns State.AdminRuns; decide +kernel⟩

def stNamespaceRowsComplete1 : State :=
  let z := admin started 0x0D 1;
  { z with fl := { z.fl with raw := 10 } }

theorem witness_NamespaceRowsComplete_1 :
    ∃ (s : State) (c : Nat) (mib : Nat) (lbaf : Nat) (pi : Nat) (k : Cmd), s.PfRuns c k ∧ mib ≠ 0 ∧ formatOk lbaf pi = true ∧ s.userMib < s.nsMib +
    mib :=
  ⟨stNamespaceRowsComplete1, 1, 40, 2, 3, theCmd stNamespaceRowsComplete1 1,
    by unfold State.PfRuns State.AdminRuns; decide +kernel⟩

def stNamespaceRowsComplete2 : State :=
  admin (withNs started (ns 4096)) 0x0D 1 1

theorem witness_NamespaceRowsComplete_2 :
    ∃ (s : State) (c : Nat) (k : Cmd), s.PfRuns c k ∧ k.sqe.nsid ≠ 0xFFFFFFFF ∧ Tab.has k.sqe.nsid s.nss = true ∧ s.formattingNs k.sqe.nsid = false
    :=
  ⟨stNamespaceRowsComplete2, 1, theCmd stNamespaceRowsComplete2 1,
    by unfold State.PfRuns State.AdminRuns; decide +kernel⟩

def stNamespaceRowsComplete3 : State :=
  admin (withNs started (ns 4096)) 0x0D 2 1

theorem witness_NamespaceRowsComplete_3 :
    ∃ (s : State) (c : Nat) (k : Cmd), s.AdminRuns c k ∧ 2 ≤ k.fn :=
  ⟨stNamespaceRowsComplete3, 1, theCmd stNamespaceRowsComplete3 1,
    by unfold State.AdminRuns; decide +kernel⟩

def stNamespaceRowsComplete4 : State :=
  admin (withNs started (ns 4096)) 0x15 1 1

theorem witness_NamespaceRowsComplete_4 :
    ∃ (s : State) (c : Nat) (i : Nat) (k : Cmd), s.PfRuns c k ∧ Tab.has k.sqe.nsid s.nss = true ∧ 1 ≤ i ∧ i ≤ 1026 ∧ (s.func (i - 1)).nss.contains
    k.sqe.nsid = false :=
  ⟨stNamespaceRowsComplete4, 1, 1026, theCmd stNamespaceRowsComplete4 1,
    by unfold State.PfRuns State.AdminRuns; decide +kernel⟩

def stNamespaceRowsComplete5a : State :=
  admin (withNs started (ns 4096)) 0x80 1 1

theorem witness_NamespaceRowsComplete_5a :
    ∃ (s : State) (c : Nat) (ses : Nat) (lbaf : Nat) (pi : Nat) (k : Cmd), s.PfRuns c k ∧ s.SupervisorFree ∧ k.sqe.nsid ≠ 0xFFFFFFFF ∧ ses ≤ 2 ∧
    formatOk lbaf pi = true ∧ Tab.has k.sqe.nsid s.nss = true ∧ ((lbaf = 0 ∨ (Tab.find k.sqe.nsid s.nss).any (·.compress) = false)) ∧
    s.formattingNs k.sqe.nsid = false ∧ ((s.flag F.rclRoRo = false ∨ ses = 2)) :=
  ⟨stNamespaceRowsComplete5a, 1, 2, 2, 3, theCmd stNamespaceRowsComplete5a 1,
    by unfold State.PfRuns State.AdminRuns State.SupervisorFree; decide +kernel⟩

theorem witness_NamespaceRowsComplete_5b :
    ∃ (s : State) (c : Nat) (ses : Nat) (lbaf : Nat) (pi : Nat) (k : Cmd), s.PfRuns c k ∧ s.SupervisorFree ∧ k.sqe.nsid ≠ 0xFFFFFFFF ∧ ses ≤ 2 ∧
    formatOk lbaf pi = true ∧ Tab.has k.sqe.nsid s.nss = true ∧ ((lbaf = 0 ∨ (Tab.find k.sqe.nsid s.nss).any (·.compress) = false)) ∧
    s.formattingNs k.sqe.nsid = false ∧ ((s.flag F.rclRoRo = false ∨ ses = 2)) :=
  ⟨stNamespaceRowsComplete5a, 1, 0, 0, 0, theCmd stNamespaceRowsComplete5a 1,
    by unfold State.PfRuns State.AdminRuns State.SupervisorFree; decide +kernel⟩

theorem witness_NamespaceRowsComplete_6 :
    ∃ (s : State) (c : Nat) (ses : Nat) (k : Cmd), s.PfRuns c k ∧ s.SupervisorFree ∧ 2 < ses :=
  ⟨stNamespaceRowsComplete5a, 1, 3, theCmd stNamespaceRowsComplete5a 1,
    by unfold State.PfRuns State.AdminRuns State.SupervisorFree; decide +kernel⟩

def stNamespaceRowsComplete7 : State :=
  { started with adm := { started.adm with format := { started.adm.format with state := 1 } } }

theorem witness_NamespaceRowsComplete_7 :
    ∃ (s : State), s.adm.format.state = 1 :=
  ⟨stNamespaceRowsComplete7,
    by decide +kernel⟩

def stNamespaceRowsComplete8 : State :=
  admin (withNs started (ns 4096)) 0x84 1 1

theorem witness_NamespaceRowsComplete_8 :
    ∃ (s : State) (c : Nat) (k : Cmd), s.PfRuns c k ∧ s.SupervisorFree ∧ s.adm.format.state ≠ 1 :=
  ⟨stNamespaceRowsComplete8, 1, theCmd stNamespaceRowsComplete8 1,
    by unfold State.PfRuns State.AdminRuns State.SupervisorFree; decide +kernel⟩

theorem witness_NamespaceRowsComplete_9 :
    ∃ (s : State) (c : Nat) (action : Nat) (k : Cmd), s.PfRuns c k ∧ s.SupervisorFree ∧ ((action < 2 ∨ 4 < action)) :=
  ⟨stNamespaceRowsComplete8, 1, 5, theCmd stNamespaceRowsComplete8 1,
    by unfold State.PfRuns State.AdminRuns State.SupervisorFree; decide +kernel⟩

def stNamespaceRowsComplete10 : State :=
  { started with adm := { started.adm with sanitize := { started.adm.sanitize with state := 2 } } }

theorem witness_NamespaceRowsComplete_10 :
    ∃ (s : State), s.sanitizing = true :=
  ⟨stNamespaceRowsComplete10,
    by decide +kernel⟩

def stNamespaceRowsComplete11 : State :=
  { started with adm := { started.adm with sanitize := { started.adm.sanitize with state := 2, action := 2 } } }

theorem witness_NamespaceRowsComplete_11 :
    ∃ (s : State), s.sanitizing = true ∧ (∀ r ∈ s.adm.crypto, r.why ≠ 2) ∧ s.adm.sanitize.action ≠ 3 :=
  ⟨stNamespaceRowsComplete11,
    by decide +kernel⟩

theorem witness_MapRowsComplete_0a :
    ∃ (s : State) (cause : Nat) (e : Nat), e < 2 ^ 34 ∧ ((cause ≤ 1 ∨ cause = 3)) ∧ s.segLost (segOf e) = false ∧ s.segStalled (segOf e) = false :=
  ⟨flash, 3, 2 ^ 34 - 1,
    by decide +kernel⟩

theorem witness_MapRowsComplete_0b :
    ∃ (s : State) (cause : Nat) (e : Nat), e < 2 ^ 34 ∧ ((cause ≤ 1 ∨ cause = 3)) ∧ s.segLost (segOf e) = false ∧ s.segStalled (segOf e) = false :=
  ⟨flash, 0, 0,
    by decide +kernel⟩

def stMapRowsComplete1 : State :=
  { flash with map := { flash.map with lost := [0] } }

theorem witness_MapRowsComplete_1 :
    ∃ (s : State) (cause : Nat) (e : Nat), e < 2 ^ 34 ∧ ((cause ≤ 1 ∨ cause = 3)) ∧ s.segLost (segOf e) = true :=
  ⟨stMapRowsComplete1, 1, 5,
    by decide +kernel⟩

theorem witness_MapRowsComplete_4 :
    ∃ (s : State), s.armed .ageEpoch = true :=
  ⟨armed flash [.ageEpoch],
    by decide +kernel⟩

theorem witness_MapRowsComplete_5 :
    ∃ (s : State), s.armed .ageEpoch = false :=
  ⟨up,
    by decide +kernel⟩

def stMapRowsComplete6 : State :=
  (let z := ioIn flash 0x09 0 0; z.updCmd 1 (fun k => { k with sqe := { k.sqe with ranges := [(0, 4), (4090, 6)] } }))

theorem witness_MapRowsComplete_6 :
    ∃ (s : State) (c : Nat) (k : Cmd) (n : Ns), s.NsRuns c 0x09 k n ∧ k.sqe.ranges ≠ [] ∧ k.sqe.ranges.length ≤ 256 ∧ (∀ r ∈ k.sqe.ranges, r.1 +
    r.2 ≤ n.size) :=
  ⟨stMapRowsComplete6, 1, theCmd stMapRowsComplete6 1, theNs stMapRowsComplete6 1,
    by unfold State.NsRuns State.IoRuns; decide +kernel⟩

theorem witness_MapRowsComplete_7 :
    ∃ (s : State) (c : Nat) (k : Cmd) (n : Ns), s.NsRuns c 0x09 k n ∧ k.sqe.ranges ≠ [] ∧ k.sqe.ranges.length ≤ 256 ∧ (∀ r ∈ k.sqe.ranges, r.1 +
    r.2 ≤ n.size) ∧ s.mustWait c = false ∧ s.segGate c n k.sqe.ranges = none :=
  ⟨stMapRowsComplete6, 1, theCmd stMapRowsComplete6 1, theNs stMapRowsComplete6 1,
    by unfold State.NsRuns State.IoRuns; decide +kernel⟩

def stMapRowsComplete8 : State :=
  (let z := ioIn flash 0x09 0 0; z.updCmd 1 (fun k => { k with sqe := { k.sqe with ranges := [(0, 4), (4090, 7)] } }))

theorem witness_MapRowsComplete_8 :
    ∃ (s : State) (c : Nat) (k : Cmd) (n : Ns), s.NsRuns c 0x09 k n ∧ k.sqe.ranges ≠ [] ∧ k.sqe.ranges.length ≤ 256 ∧ (∃ r ∈ k.sqe.ranges, n.size <
    r.1 + r.2) :=
  ⟨stMapRowsComplete8, 1, theCmd stMapRowsComplete8 1, theNs stMapRowsComplete8 1,
    by unfold State.NsRuns State.IoRuns; decide +kernel⟩

theorem witness_MapRowsComplete_9 :
    ∃ (s : State) (c : Nat) (k : Cmd) (n : Ns), s.NsRuns c 0x04 k n ∧ n.refuses k.sqe.slba k.sqe.nlb 65536 = none ∧ s.flag F.rclRoRo = false ∧
    s.mustWait c = false ∧ s.segGate c n [(k.sqe.slba, k.sqe.nlb)] = none ∧ s.map.overlays.length + s.overlaysNeeded n k.sqe.slba k.sqe.nlb ≤
    poolTotal :=
  ⟨ioIn flash 0x04 4000 96, 1, theCmd (ioIn flash 0x04 4000 96) 1, theNs (ioIn flash 0x04 4000 96) 1,
    by unfold State.NsRuns State.IoRuns; decide +kernel⟩

theorem witness_MapRowsComplete_10 : ∃ (s : State) (c : Nat) (k : Cmd) (n : Ns),
    s.NsRuns c 0x04 k n ∧ n.refuses k.sqe.slba k.sqe.nlb 65536 = none ∧ s.flag F.rclRoRo = false ∧ s.mustWait c = false ∧
      s.segGate c n [(k.sqe.slba, k.sqe.nlb)] = none ∧ poolTotal < s.map.overlays.length + s.overlaysNeeded n k.sqe.slba k.sqe.nlb := by
  refine ⟨crowded, 1, theCmd (io up 0x04 0 8) 1, ns 4096, ?_, ?_, ?_, ?_, ?_, ?_⟩
  · unfold State.NsRuns State.IoRuns; exact ⟨⟨rfl, rfl, rfl, rfl⟩, rfl, rfl⟩
  · decide +kernel
  · rfl
  · rfl
  · rfl
  · refine Nat.lt_of_lt_of_le (m := poolTotal + 1) (Nat.lt_succ_self _) (Nat.le_trans ?_ (Nat.le_add_right _ _))
    show _ ≤ (List.replicate (poolTotal + 1) _).length
    exact Nat.le_of_eq List.length_replicate.symm

def stMapRowsComplete11 : State :=
  (let z := ioIn flash 0x01 0 8; withSlot (z.updCmd 1 (fun k => { k with buffered := true })) 0 aSlot)

theorem witness_MapRowsComplete_11 :
    ∃ (s : State) (c : Nat) (nsid : Nat) (u : Nat) (p : Nat × BufSlot) (ps : List (Nat × BufSlot)), s.unitSlots c nsid u = p :: ps ∧ (∀ x ∈ p ::
    ps, s.slotReady x.2 = true) ∧ s.cmdBuffered c = true ∧ s.earlierLocks c true = [] ∧ s.earlierLocks c false = [] ∧ s.crs.rmws = [] ∧
    s.map.stalled = [] ∧ s.map.lost = [] :=
  ⟨stMapRowsComplete11, 1, 1, 0, (stMapRowsComplete11.unitSlots 1 1 0).headD (0, aSlot), (stMapRowsComplete11.unitSlots 1 1 0).drop 1,
    by decide +kernel⟩

def stMapRowsComplete12 : State :=
  let z := ioIn flash 0x01 0 8;
  { z.updCmd 1 (fun k => { k with buffered := true }) with crs := { z.crs with rmws := [(4, ⟨1, 1, 0, 0, .unwritten, some 64, 0, [], [], 0⟩)] } }

theorem witness_MapRowsComplete_12 :
    ∃ (s : State) (j : Nat) (r : Rmw) (p : Nat), Tab.find j s.crs.rmws = some r ∧ r.place = some p ∧ s.runSafe p (if r.frame = 0 then 16 else
    r.frame) = true ∧ s.cmdBuffered r.cmd = true ∧ s.earlierLocks r.cmd true = [] ∧ s.earlierLocks r.cmd false = [] ∧ s.segStalled (segOf r.e) =
    false ∧ s.segLost (segOf r.e) = false ∧ s.ext r.e = r.seen :=
  ⟨stMapRowsComplete12, 4, (Tab.find 4 stMapRowsComplete12.crs.rmws).getD ⟨1, 1, 0, 0, .unwritten, some 64, 0, [], [], 0⟩, 64,
    by decide +kernel⟩

def stMapRowsComplete13 : State :=
  let z := ioIn flash 0x01 0 8;
  { z.updCmd 1 (fun k => { k with buffered := true }) with crs := { z.crs with rmws := [(4, ⟨1, 1, 0, 0, .unwritten, some 64, 0, [], [], 0⟩)] }, map := { z.map with stalled := [(0, 0)] } }

theorem witness_MapRowsComplete_13 :
    ∃ (s : State) (j : Nat) (r : Rmw) (p : Nat), Tab.find j s.crs.rmws = some r ∧ r.place = some p ∧ s.runSafe p (if r.frame = 0 then 16 else
    r.frame) = true ∧ s.cmdBuffered r.cmd = true ∧ s.earlierLocks r.cmd true = [] ∧ s.earlierLocks r.cmd false = [] ∧ s.segStalled (segOf r.e) =
    true :=
  ⟨stMapRowsComplete13, 4, (Tab.find 4 stMapRowsComplete13.crs.rmws).getD ⟨1, 1, 0, 0, .unwritten, some 64, 0, [], [], 0⟩, 64,
    by decide +kernel⟩

def stMapRowsComplete14 : State :=
  { flash with map := { flash.map with stalled := [(0, 0), (3, 1)] } }

theorem witness_MapRowsComplete_14 :
    ∃ (s : State) (g : Nat) (m : Nat) (rest : List (Nat × Nat)), s.map.stalled = (g, m) :: rest ∧ s.map.held = [] :=
  ⟨stMapRowsComplete14, 0, 0, stMapRowsComplete14.map.stalled.drop 1,
    by decide +kernel⟩

theorem witness_MapRowsComplete_15 :
    ∃ (s : State) (g : Nat) (m : Nat) (rest : List (Nat × Nat)), s.map.stalled = (g, m) :: rest ∧ s.map.held = [] :=
  ⟨stMapRowsComplete14, 0, 0, stMapRowsComplete14.map.stalled.drop 1,
    by decide +kernel⟩

theorem witness_WriteRowsComplete_0 :
    ∃ (s : State) (c : Nat) (data : List HostSlot) (cmp : CmpOutcome) (k : Cmd) (n : Ns), s.NsRuns c 0x01 k n ∧ s.writeRefused k n = none ∧
    s.stitchHeld c = false ∧ s.dmaWaits c = false ∧ s.admits c k.fn k.sqe.nlb = true ∧ n.ingress k.sqe.prchk data = none ∧ ((cmp.badInput = [] ∨
    k.cmpEn = false)) :=
  ⟨ioIn flash 0x01 4088 8, 1, (List.range 8).map (fun i => ⟨i + 3, 0, true, true, true⟩), ⟨false, [], []⟩, theCmd (ioIn flash 0x01 4088 8) 1, theNs
    (ioIn flash 0x01 4088 8) 1,
    by unfold State.NsRuns State.IoRuns; decide +kernel⟩

theorem witness_WriteRowsComplete_1 :
    ∃ (s : State) (c : Nat) (k : Cmd) (n : Ns), s.NsRuns c 0x01 k n ∧ s.writeRefused k n = none ∧ s.stitchHeld c = false ∧ s.dmaWaits c = false ∧
    s.admits c k.fn k.sqe.nlb = false :=
  ⟨ioIn started 0x01 4088 8, 1, theCmd (ioIn started 0x01 4088 8) 1, theNs (ioIn started 0x01 4088 8) 1,
    by unfold State.NsRuns State.IoRuns; decide +kernel⟩

theorem witness_WriteRowsComplete_2 :
    ∃ (s : State) (c : Nat) (k : Cmd) (n : Ns), s.NsRuns c 0x01 k n ∧ 1 ≤ k.sqe.nlb ∧ k.sqe.nlb ≤ 1024 ∧ n.size < k.sqe.slba + k.sqe.nlb :=
  ⟨ioIn flash 0x01 4088 9, 1, theCmd (ioIn flash 0x01 4088 9) 1, theNs (ioIn flash 0x01 4088 9) 1,
    by unfold State.NsRuns State.IoRuns; decide +kernel⟩

def stWriteRowsComplete3 : State :=
  (ioIn flash 0x01 4088 8).setFld F.rclRoRo 1

theorem witness_WriteRowsComplete_3 :
    ∃ (s : State) (c : Nat) (k : Cmd) (n : Ns), s.NsRuns c 0x01 k n ∧ n.refuses k.sqe.slba k.sqe.nlb 1024 = none ∧ (s.handleOf n k.sqe).isSome =
    true ∧ s.flag F.rclRoRo = true :=
  ⟨stWriteRowsComplete3, 1, theCmd stWriteRowsComplete3 1, theNs stWriteRowsComplete3 1,
    by unfold State.NsRuns State.IoRuns; decide +kernel⟩

def stWriteRowsComplete4 : State :=
  (let z := withCmd (withNs flash { ns 4096 with lbaf := 1, pi := 1 }) 1 (slot 0 false { entry 1 1 0 2 with prchk := 4 }); z)

theorem witness_WriteRowsComplete_4 :
    ∃ (s : State) (c : Nat) (data : List HostSlot) (k : Cmd) (n : Ns), s.NsRuns c 0x01 k n ∧ s.writeRefused k n = none ∧ s.stitchHeld c = false ∧
    s.dmaWaits c = false ∧ s.admits c k.fn k.sqe.nlb = true ∧ n.pi ≠ 0 ∧ k.sqe.prchk.testBit 2 = true ∧ (∃ d ∈ data, d.guardOk = false) :=
  ⟨stWriteRowsComplete4, 1, [⟨3, 0, true, true, true⟩, ⟨3, 0, false, true, true⟩], theCmd stWriteRowsComplete4 1, theNs stWriteRowsComplete4 1,
    by unfold State.NsRuns State.IoRuns; decide +kernel⟩

theorem witness_WriteRowsComplete_5 :
    ∃ (s : State) (c : Nat) (k : Cmd) (n : Ns), s.NsRuns c 0x08 k n ∧ s.writeRefused k n = none ∧ s.admits c k.fn k.sqe.nlb = true :=
  ⟨ioIn flash 0x08 4088 8, 1, theCmd (ioIn flash 0x08 4088 8) 1, theNs (ioIn flash 0x08 4088 8) 1,
    by unfold State.NsRuns State.IoRuns; decide +kernel⟩

def stWriteRowsComplete6 : State :=
  armed (withSlot (ioIn flash 0x01 0 8) 1 { aSlot with place := none }) [.cmpBypass 1]

theorem witness_WriteRowsComplete_6 :
    ∃ (s : State) (i : Nat) (b : BufSlot), s.armed (.cmpBypass i) = true ∧ Tab.find i s.buf.slots = some b :=
  ⟨stWriteRowsComplete6, 1, (Tab.find 1 stWriteRowsComplete6.buf.slots).getD aSlot,
    by decide +kernel⟩

theorem witness_WriteRowsComplete_7 :
    ∃ (s : State) (c : Nat) (lba : Nat) (p : Nat × BufSlot), s.buf.slots.find? (fun p => decide (p.2.cmd = c) && decide (p.2.lba = lba) &&
    !p.2.applied) = some p ∧ s.cmdBuffered c = true :=
  ⟨stMapRowsComplete11, 1, 3, (stMapRowsComplete11.buf.slots.find? (fun p => decide (p.2.cmd = 1) && decide (p.2.lba = 3) && !p.2.applied)).getD
    (0, aSlot),
    by decide +kernel⟩

def stWriteRowsComplete8 : State :=
  (let z := ioIn flash 0x01 0 8; withSlot z 0 aSlot)

theorem witness_WriteRowsComplete_8 :
    ∃ (s : State) (c : Nat) (lba : Nat) (k : Cmd) (p : Nat × BufSlot), s.buf.slots.find? (fun p => decide (p.2.cmd = c) && decide (p.2.lba = lba)
    && !p.2.applied) = some p ∧ s.cmd c = some k ∧ k.buffered = false ∧ k.dropped = false :=
  ⟨stWriteRowsComplete8, 1, 3, theCmd stWriteRowsComplete8 1, (stWriteRowsComplete8.buf.slots.find? (fun p => decide (p.2.cmd = 1) && decide
    (p.2.lba = 3) && !p.2.applied)).getD (0, aSlot),
    by decide +kernel⟩

theorem witness_WriteRowsComplete_9 :
    ∃ (s : State), s.flag F.crsStatExposed = false :=
  ⟨flash.setFld F.crsStatExposed 0,
    by decide +kernel⟩

def stWriteRowsComplete10 : State :=
  { (((flash.setFld F.crsStatExposed 1).setFld F.lifStatHoldok 0).setFld F.lifHoldupDecl 1023) with dump := { flash.dump with formed := true } }

theorem witness_WriteRowsComplete_10 :
    ∃ (s : State), s.flag F.crsStatExposed = true ∧ (s.setFlag F.lifStatHoldok).exposedCause = 0 :=
  ⟨stWriteRowsComplete10,
    by decide +kernel⟩

def stWriteRowsComplete11 : State :=
  armed { (((flash.setFld F.crsStatExposed 1).setFld F.lifStatHoldok 1).setFld F.lifHoldupDecl 1023) with dump := { flash.dump with formed := true } } [.protectedMode]

theorem witness_WriteRowsComplete_11 :
    ∃ (s : State), s.armed .protectedMode = true ∧ s.exposedCause = 0 :=
  ⟨stWriteRowsComplete11,
    by decide +kernel⟩

theorem witness_WriteRowsComplete_12 :
    ∃ (s : State), s.armed .protectedMode = false :=
  ⟨up,
    by decide +kernel⟩

def stFlashWriteRowsComplete0 : State :=
  armed (withCourse flash 1 aCourse) [.rowIdle 1]

theorem witness_FlashWriteRowsComplete_0 :
    ∃ (s : State) (n : Nat), s.armed (.rowIdle n) = true :=
  ⟨stFlashWriteRowsComplete0, 1,
    by decide +kernel⟩

theorem witness_FlashWriteRowsComplete_1 :
    ∃ (s : State) (n : Nat), s.armed (.rowIdle n) = false :=
  ⟨flash, 1,
    by decide +kernel⟩

def stFlashWriteRowsComplete2 : State :=
  armed ((withCourse flash 1 aCourse).setFld F.crsStatExposed 1) [.exposedRow 1]

theorem witness_FlashWriteRowsComplete_2 :
    ∃ (s : State) (n : Nat), s.armed (.exposedRow n) = true ∧ s.flag F.crsStatExposed = true :=
  ⟨stFlashWriteRowsComplete2, 1,
    by decide +kernel⟩

theorem witness_FlashWriteRowsComplete_3a :
    ∃ (s : State) (n : Nat) (pos : Nat) (c : Course) (m : Member), s.course n = some c ∧ c.closed = false ∧ c.mem pos = some m ∧ s.mayIssue n c pos
    m = true :=
  ⟨withCourse flash 1 aCourse, 1, 0, ((withCourse flash 1 aCourse).course 1).getD aCourse, ((((withCourse flash 1 aCourse).course 1).getD
    aCourse).mem 0).getD ⟨0, 10, 12, 0, 0, none⟩,
    by decide +kernel⟩

def stFlashWriteRowsComplete3b : State :=
  withCourse flash 1 { aCourse with members := [some ⟨0, 10, 12, 1, 1, none⟩, some ⟨0, 11, 0, 0, 0, none⟩] }

theorem witness_FlashWriteRowsComplete_3b :
    ∃ (s : State) (n : Nat) (pos : Nat) (c : Course) (m : Member), s.course n = some c ∧ c.closed = false ∧ c.mem pos = some m ∧ s.mayIssue n c pos
    m = true :=
  ⟨stFlashWriteRowsComplete3b, 1, 1, (stFlashWriteRowsComplete3b.course 1).getD aCourse, (((stFlashWriteRowsComplete3b.course 1).getD aCourse).mem
    1).getD ⟨0, 10, 12, 0, 0, none⟩,
    by decide +kernel⟩

def stFlashWriteRowsComplete4 : State :=
  withOp (withCourse flash 1 { aCourse with band := 3, members := [some ⟨0, 10, 12, 1, 0, none⟩, some ⟨0, 11, 0, 0, 0, none⟩] }) 0 ⟨1, 1, 0, 0, false, 0, 3⟩

theorem witness_FlashWriteRowsComplete_4 :
    ∃ (s : State) (n : Nat) (pos : Nat) (c : Course) (m : Member), s.programOf n pos = some (c, m) ∧ 3 ≤ c.band ∧ c.band ≠ 5 ∧ s.buf.slots = [] :=
  ⟨stFlashWriteRowsComplete4, 1, 0, (stFlashWriteRowsComplete4.course 1).getD aCourse, (((stFlashWriteRowsComplete4.course 1).getD aCourse).mem
    0).getD ⟨0, 10, 12, 0, 0, none⟩,
    by decide +kernel⟩

def stFlashWriteRowsComplete5 : State :=
  withSlot (withOp (withCourse flash 1 { aCourse with band := 0, members := [some ⟨0, 10, 12, 1, 0, none⟩, some ⟨0, 11, 0, 0, 0, none⟩] }) 0 ⟨1, 1, 0, 0, false, 0, 3⟩) 0 aSlot

theorem witness_FlashWriteRowsComplete_5 :
    ∃ (s : State) (n : Nat) (pos : Nat) (x : Course × Member), s.programOf n pos = some x :=
  ⟨stFlashWriteRowsComplete5, 1, 0, (stFlashWriteRowsComplete5.programOf 1 0).getD (aCourse, ⟨0, 10, 12, 0, 0, none⟩),
    by decide +kernel⟩

theorem witness_FlashWriteRowsComplete_6 :
    ∃ (s : State) (n : Nat) (pos : Nat) (c : Course) (m : Member), s.programOf n pos = some (c, m) ∧ (c.parityPos n).contains pos = false :=
  ⟨stFlashWriteRowsComplete5, 1, 0, (stFlashWriteRowsComplete5.course 1).getD aCourse, (((stFlashWriteRowsComplete5.course 1).getD aCourse).mem
    0).getD ⟨0, 10, 12, 0, 0, none⟩,
    by decide +kernel⟩

def stFlashWriteRowsComplete7 : State :=
  withSlot (withOp (withCourse flash 1 { aCourse with band := 0, members := [some ⟨0, 10, 12, 1, 0, none⟩, some ⟨0, 11, 0, 1, 0, none⟩] }) 0 ⟨1, 1, 1, 0, false, 0, 3⟩) 0 aSlot

theorem witness_FlashWriteRowsComplete_7 :
    ∃ (s : State) (n : Nat) (pos : Nat) (c : Course) (m : Member), s.programOf n pos = some (c, m) ∧ (c.parityPos n).contains pos = true :=
  ⟨stFlashWriteRowsComplete7, 1, 1, (stFlashWriteRowsComplete7.course 1).getD aCourse, (((stFlashWriteRowsComplete7.course 1).getD aCourse).mem
    1).getD ⟨0, 10, 12, 0, 0, none⟩,
    by decide +kernel⟩

theorem witness_FlashWriteRowsComplete_8 :
    ∃ (s : State) (n : Nat) (c : Course), s.course n = some c ∧ c.closed = false :=
  ⟨withCourse flash 1 aCourse, 1, ((withCourse flash 1 aCourse).course 1).getD aCourse,
    by decide +kernel⟩

def stFlashWriteRowsComplete9 : State :=
  { flash with fl := { flash.fl with blks := (5, Blk.fresh) :: flash.fl.blks }, crs := { flash.crs with media := [(5 * 32768 + 7, ⟨1, 1, 0, 0, [(1, 2)], 0⟩), (6 * 32768 + 7, ⟨1, 1, 0, 0, [(1, 2)], 0⟩)] } }

theorem witness_FlashWriteRowsComplete_9 :
    ∃ (s : State) (d : Nat) (b : Nat), s.mayErase d b = true :=
  ⟨stFlashWriteRowsComplete9, 0, 5,
    by decide +kernel⟩

theorem witness_FlashWriteRowsComplete_10 :
    ∃ (s : State) (d : Nat) (b : Nat), s.eraseOf d = some b :=
  ⟨withOp flash 0 ⟨2, 5, 0, 0, false, 0, 6⟩, 0, 5,
    by decide +kernel⟩

theorem witness_FlashWriteRowsComplete_11 :
    ∃ (s : State) (d : Nat) (b : Nat), s.eraseOf d = some b ∧ (s.blk b).eFails = 0 :=
  ⟨withOp flash 0 ⟨2, 5, 0, 0, false, 0, 6⟩, 0, 5,
    by decide +kernel⟩

def stFlashWriteRowsComplete12 : State :=
  { flash with fl := { flash.fl with blks := [(5, { Blk.fresh with checking := true })] } }

theorem witness_FlashWriteRowsComplete_12 :
    ∃ (s : State) (d : Nat) (b : Nat), (s.blk (blkId d b)).checking = true ∧ (s.blk (blkId d b)).state = .erasePending :=
  ⟨stFlashWriteRowsComplete12, 0, 5,
    by decide +kernel⟩

theorem witness_FlashWriteRowsComplete_13 :
    ∃ (s : State) (d : Nat) (b : Nat), (s.blk (blkId d b)).checking = true ∧ (s.blk (blkId d b)).state = .erasePending ∧ (s.blk (blkId d b)).cFails
    = 0 :=
  ⟨stFlashWriteRowsComplete12, 0, 5,
    by decide +kernel⟩

theorem witness_ReadCommandsComplete_0a :
    ∃ (s : State) (c : Nat) (k : Cmd) (n : Ns), s.NsRuns c 0x02 k n ∧ 1 ≤ k.sqe.nlb ∧ k.sqe.nlb ≤ 1024 ∧ k.sqe.slba + k.sqe.nlb ≤ n.size ∧
    s.ReadGoes c k n [(k.sqe.slba, k.sqe.nlb)] :=
  ⟨ioIn flash 0x02 3 8, 1, theCmd (ioIn flash 0x02 3 8) 1, theNs (ioIn flash 0x02 3 8) 1,
    by unfold State.NsRuns State.IoRuns State.ReadGoes; decide +kernel⟩

def stReadCommandsComplete0b : State :=
  { ioIn flash 0x02 3 8 with map := { flash.map with coarse := [(0, .coarse 64)] } }

theorem witness_ReadCommandsComplete_0b :
    ∃ (s : State) (c : Nat) (k : Cmd) (n : Ns), s.NsRuns c 0x02 k n ∧ 1 ≤ k.sqe.nlb ∧ k.sqe.nlb ≤ 1024 ∧ k.sqe.slba + k.sqe.nlb ≤ n.size ∧
    s.ReadGoes c k n [(k.sqe.slba, k.sqe.nlb)] :=
  ⟨stReadCommandsComplete0b, 1, theCmd stReadCommandsComplete0b 1, theNs stReadCommandsComplete0b 1,
    by unfold State.NsRuns State.IoRuns State.ReadGoes; decide +kernel⟩

theorem witness_ReadCommandsComplete_1 :
    ∃ (s : State) (c : Nat) (k : Cmd) (n : Ns), s.NsRuns c 0x02 k n ∧ ((k.sqe.nlb = 0 ∨ 1024 < k.sqe.nlb)) :=
  ⟨ioIn flash 0x02 3 1025, 1, theCmd (ioIn flash 0x02 3 1025) 1, theNs (ioIn flash 0x02 3 1025) 1,
    by unfold State.NsRuns State.IoRuns; decide +kernel⟩

theorem witness_ReadCommandsComplete_2 :
    ∃ (s : State) (c : Nat) (k : Cmd) (n : Ns), s.NsRuns c 0x02 k n ∧ 1 ≤ k.sqe.nlb ∧ k.sqe.nlb ≤ 1024 ∧ n.size < k.sqe.slba + k.sqe.nlb :=
  ⟨ioIn flash 0x02 4089 8, 1, theCmd (ioIn flash 0x02 4089 8) 1, theNs (ioIn flash 0x02 4089 8) 1,
    by unfold State.NsRuns State.IoRuns; decide +kernel⟩

def stReadCommandsComplete3 : State :=
  { ioIn flash 0x02 4088 8 with map := { flash.map with lost := [0] } }

theorem witness_ReadCommandsComplete_3 :
    ∃ (s : State) (c : Nat) (g : Nat) (k : Cmd) (n : Ns), s.NsRuns c 0x02 k n ∧ 1 ≤ k.sqe.nlb ∧ k.sqe.nlb ≤ 1024 ∧ k.sqe.slba + k.sqe.nlb ≤ n.size
    ∧ s.adm.degraded.contains 6 = false ∧ s.rd.reads = [] ∧ k.buffered = false ∧ s.earlierWrites c = [] ∧ g ∈ n.segs k.sqe.slba k.sqe.nlb ∧
    s.segLost g = true :=
  ⟨stReadCommandsComplete3, 1, 0, theCmd stReadCommandsComplete3 1, theNs stReadCommandsComplete3 1,
    by unfold State.NsRuns State.IoRuns; decide +kernel⟩

theorem witness_ReadCommandsComplete_4 :
    ∃ (s : State) (c : Nat) (k : Cmd) (n : Ns), s.NsRuns c 0x0C k n ∧ 1 ≤ k.sqe.nlb ∧ k.sqe.nlb ≤ 65536 ∧ k.sqe.slba + k.sqe.nlb ≤ n.size ∧
    s.ReadGoes c k n [(k.sqe.slba, k.sqe.nlb)] :=
  ⟨ioIn flash 0x0C 3 8, 1, theCmd (ioIn flash 0x0C 3 8) 1, theNs (ioIn flash 0x0C 3 8) 1,
    by unfold State.NsRuns State.IoRuns State.ReadGoes; decide +kernel⟩

theorem witness_ReadCommandsComplete_5 :
    ∃ (s : State) (c : Nat) (data : List HostSlot) (k : Cmd) (n : Ns), s.NsRuns c 0x05 k n ∧ 1 ≤ k.sqe.nlb ∧ k.sqe.nlb ≤ 1024 ∧ k.sqe.slba +
    k.sqe.nlb ≤ n.size ∧ s.ReadGoes c k n [(k.sqe.slba, k.sqe.nlb)] ∧ ((∀ i, i < k.sqe.nlb → (data[i]?).map (fun d => (d.data, d.meta_)) = some
    (s.slotNow c k.sqe.nsid n (k.sqe.slba + i)))) :=
  ⟨ioIn flash 0x05 3 2, 1, [⟨0, 0, true, true, true⟩, ⟨0, 0, true, true, true⟩], theCmd (ioIn flash 0x05 3 2) 1, theNs (ioIn flash 0x05 3 2) 1,
    by unfold State.NsRuns State.IoRuns State.ReadGoes; decide +kernel⟩

theorem witness_ReadCommandsComplete_6 :
    ∃ (s : State) (c : Nat) (i : Nat) (data : List HostSlot) (k : Cmd) (n : Ns), s.NsRuns c 0x05 k n ∧ 1 ≤ k.sqe.nlb ∧ k.sqe.nlb ≤ 1024 ∧
    k.sqe.slba + k.sqe.nlb ≤ n.size ∧ s.ReadGoes c k n [(k.sqe.slba, k.sqe.nlb)] ∧ i < k.sqe.nlb ∧ (data[i]?).map (fun d => (d.data, d.meta_)) ≠
    some (s.slotNow c k.sqe.nsid n (k.sqe.slba + i)) :=
  ⟨ioIn flash 0x05 3 2, 1, 1, [⟨0, 0, true, true, true⟩, ⟨7, 0, true, true, true⟩], theCmd (ioIn flash 0x05 3 2) 1, theNs (ioIn flash 0x05 3 2) 1,
    by unfold State.NsRuns State.IoRuns State.ReadGoes; decide +kernel⟩

def stReadCommandsComplete7 : State :=
  (let z := ioIn flash 0x19 3 0; z.updCmd 1 (fun k => { k with sqe := { k.sqe with ranges := [(0, 4), (4090, 6)] } }))

theorem witness_ReadCommandsComplete_7 :
    ∃ (s : State) (c : Nat) (k : Cmd) (n : Ns), s.NsRuns c 0x19 k n ∧ k.sqe.ranges ≠ [] ∧ k.sqe.ranges.length ≤ 128 ∧ (∀ r ∈ k.sqe.ranges, 1 ≤ r.2
    ∧ r.2 ≤ 16384 ∧ r.1 + r.2 ≤ n.size) ∧ sumNat (k.sqe.ranges.map (·.2)) ≤ 262144 ∧ k.sqe.slba + sumNat (k.sqe.ranges.map (·.2)) ≤ n.size ∧
    (s.handleOf n k.sqe).isSome = true ∧ s.flag F.rclRoRo = false ∧ (n.segs k.sqe.slba (sumNat (k.sqe.ranges.map (·.2)))).any s.segLost = false ∧
    s.admits c k.fn (sumNat (k.sqe.ranges.map (·.2))) = true ∧ s.ReadGoes c k n k.sqe.ranges :=
  ⟨stReadCommandsComplete7, 1, theCmd stReadCommandsComplete7 1, theNs stReadCommandsComplete7 1,
    by unfold State.NsRuns State.IoRuns State.ReadGoes; decide +kernel⟩

def stReadCommandsComplete8 : State :=
  (let z := ioIn flash 0x19 3 0; z.updCmd 1 (fun k => { k with sqe := { k.sqe with ranges := List.replicate 129 (0, 1) } }))

theorem witness_ReadCommandsComplete_8 :
    ∃ (s : State) (c : Nat) (k : Cmd) (n : Ns), s.NsRuns c 0x19 k n ∧ 128 < k.sqe.ranges.length ∧ (∀ r ∈ k.sqe.ranges, 1 ≤ r.2) :=
  ⟨stReadCommandsComplete8, 1, theCmd stReadCommandsComplete8 1, theNs stReadCommandsComplete8 1,
    by unfold State.NsRuns State.IoRuns; decide +kernel⟩

theorem witness_CodewordRowsComplete_0 :
    ∃ (s : State) (r : Nat) (x : CwRead), s.cw r = some x ∧ x.phase = .queued ∧ x.again = false ∧ s.bypassed (psaDie x.psa) = false ∧ Tab.has
    (psaDie x.psa / 1024) s.fl.down = false ∧ s.inTurn (psaDie x.psa) = true ∧ s.flag F.eccCtlTcuten = true :=
  ⟨reading aRead, 1, readOf (reading aRead) 1,
    by decide +kernel⟩

def stCodewordRowsComplete1 : State :=
  (let z := reading aRead; ({ z with fl := { z.fl with slow := [(0, 0)] } } : State).setFld F.eccCtlPrerec 1)

theorem witness_CodewordRowsComplete_1 :
    ∃ (s : State) (r : Nat) (x : CwRead), s.cw r = some x ∧ x.phase = .queued ∧ x.again = false ∧ s.bypassed (psaDie x.psa) = true ∧ Tab.has
    (psaDie x.psa / 1024) s.fl.down = false ∧ s.inTurn (psaDie x.psa) = true :=
  ⟨stCodewordRowsComplete1, 1, readOf stCodewordRowsComplete1 1,
    by decide +kernel⟩

theorem witness_CodewordRowsComplete_2 :
    ∃ (s : State) (r : Nat) (x : CwRead), s.rd.late.contains r = false ∧ s.cw r = some x ∧ x.phase = .atDie :=
  ⟨reading { aRead with phase := .atDie }, 1, readOf (reading { aRead with phase := .atDie }) 1,
    by decide +kernel⟩

theorem witness_CodewordRowsComplete_3 :
    ∃ (s : State) (r : Nat) (x : CwRead), s.rd.late.contains r = false ∧ s.cw r = some x ∧ x.phase = .atDie ∧ x.again = false :=
  ⟨reading { aRead with phase := .atDie }, 1, readOf (reading { aRead with phase := .atDie }) 1,
    by decide +kernel⟩

def stCodewordRowsComplete4 : State :=
  let z := reading aRead;
  { z with rd := { z.rd with late := [2] } }

theorem witness_CodewordRowsComplete_4 :
    ∃ (s : State) (r : Nat), s.rd.late.contains r = true :=
  ⟨stCodewordRowsComplete4, 2,
    by decide +kernel⟩

def stCodewordRowsComplete5 : State :=
  armed (reading { aRead with phase := .atDie }) [.tailCut 1]

theorem witness_CodewordRowsComplete_5 :
    ∃ (s : State) (r : Nat) (x : CwRead), s.armed (.tailCut r) = true ∧ s.cw r = some x :=
  ⟨stCodewordRowsComplete5, 1, readOf stCodewordRowsComplete5 1,
    by decide +kernel⟩

theorem witness_CodewordRowsComplete_6 :
    ∃ (s : State) (r : Nat), s.armed (.tailCut r) = false :=
  ⟨reading aRead, 1,
    by decide +kernel⟩

def stCodewordRowsComplete7 : State :=
  armed (reading { aRead with phase := .atDie }) [.tler 1]

theorem witness_CodewordRowsComplete_7 :
    ∃ (s : State) (r : Nat) (x : CwRead), s.armed (.tler r) = true ∧ s.cw r = some x ∧ x.frame = 0 :=
  ⟨stCodewordRowsComplete7, 1, readOf stCodewordRowsComplete7 1,
    by decide +kernel⟩

def stCodewordRowsComplete8 : State :=
  reading { aRead with phase := .decoding }

theorem witness_CodewordRowsComplete_8 :
    ∃ (s : State) (r : Nat) (x : CwRead), s.cw r = some x ∧ x.phase = .decoding ∧ x.step = 0 :=
  ⟨stCodewordRowsComplete8, 1, readOf stCodewordRowsComplete8 1,
    by decide +kernel⟩

def stCodewordRowsComplete9 : State :=
  reading { aRead with phase := .decoding, step := 2 }

theorem witness_CodewordRowsComplete_9 :
    ∃ (s : State) (r : Nat) (x : CwRead), s.cw r = some x ∧ x.phase = .decoding ∧ ((x.step = 1 ∨ x.step = 2)) :=
  ⟨stCodewordRowsComplete9, 1, readOf stCodewordRowsComplete9 1,
    by decide +kernel⟩

theorem witness_CodewordRowsComplete_10 :
    ∃ (s : State) (r : Nat) (x : CwRead), s.cw r = some x ∧ x.phase = .decoding ∧ x.step = 0 ∧ x.again = false ∧ Tab.has (psaDie x.psa) s.fl.slow =
    false :=
  ⟨stCodewordRowsComplete8, 1, readOf stCodewordRowsComplete8 1,
    by decide +kernel⟩

def stCodewordRowsComplete11 : State :=
  reading { aRead with phase := .decoding, step := 3 }

theorem witness_CodewordRowsComplete_11 :
    ∃ (s : State) (r : Nat) (check : Nat) (x : CwRead), s.cw r = some x ∧ x.phase = .decoding ∧ x.step = 3 ∧ x.again = false ∧ x.frame = 0 ∧ check
    ≠ 0 ∧ check ≠ 2 :=
  ⟨stCodewordRowsComplete11, 1, 1, readOf stCodewordRowsComplete11 1,
    by decide +kernel⟩

def stCodewordRowsComplete12 : State :=
  reading { aRead with phase := .rebuilding, why := 1 } true

theorem witness_CodewordRowsComplete_12 :
    ∃ (s : State) (r : Nat) (lost : Nat) (x : CwRead) (c : Course), s.cw r = some x ∧ x.phase = .rebuilding ∧ s.course (s.blk (psaBlk
    x.psa)).course = some c ∧ lost < c.ply ∧ x.why ≠ 0 :=
  ⟨stCodewordRowsComplete12, 1, 0, readOf stCodewordRowsComplete12 1, (stCodewordRowsComplete12.course (stCodewordRowsComplete12.blk (psaBlk
    (readOf stCodewordRowsComplete12 1).psa)).course).getD aCourse,
    by decide +kernel⟩

def stCodewordRowsComplete13 : State :=
  reading { aRead with phase := .rebuilding, why := 0 } true

theorem witness_CodewordRowsComplete_13 :
    ∃ (s : State) (r : Nat) (lost : Nat) (x : CwRead) (c : Course), s.cw r = some x ∧ x.phase = .rebuilding ∧ s.course (s.blk (psaBlk
    x.psa)).course = some c ∧ lost < c.ply ∧ x.why = 0 :=
  ⟨stCodewordRowsComplete13, 1, 0, readOf stCodewordRowsComplete13 1, (stCodewordRowsComplete13.course (stCodewordRowsComplete13.blk (psaBlk
    (readOf stCodewordRowsComplete13 1).psa)).course).getD aCourse,
    by decide +kernel⟩

theorem witness_CodewordRowsComplete_14 :
    ∃ (s : State) (r : Nat) (lost : Nat) (x : CwRead) (c : Course), s.cw r = some x ∧ x.phase = .rebuilding ∧ s.course (s.blk (psaBlk
    x.psa)).course = some c ∧ c.ply ≤ lost ∧ x.why ≠ 0 :=
  ⟨stCodewordRowsComplete12, 1, 1, readOf stCodewordRowsComplete12 1, (stCodewordRowsComplete12.course (stCodewordRowsComplete12.blk (psaBlk
    (readOf stCodewordRowsComplete12 1).psa)).course).getD aCourse,
    by decide +kernel⟩

def stCodewordRowsComplete15 : State :=
  armed { flash with fl := { flash.fl with slow := [(0, 0)] } } [.slowProbe 0]

theorem witness_CodewordRowsComplete_15 :
    ∃ (s : State) (d : Nat) (tr : Nat) (total : Nat), s.armed (.slowProbe d) = true ∧ Tab.has d s.fl.slow = true ∧ 10 * tr ≤ s.fld
    F.eccSlowCtlProbetr * s.fl.geom.tr ∧ total ≤ s.fld F.eccTcutDeadline * 10000 :=
  ⟨stCodewordRowsComplete15, 0, 100, 0,
    by decide +kernel⟩

def stCodewordRowsComplete16 : State :=
  armed { flash with fl := { flash.fl with slow := [(0, 0)] } } [.slowHold 0, .slowProbe 0]

theorem witness_CodewordRowsComplete_16 :
    ∃ (s : State) (d : Nat), s.armed (.slowHold d) = true ∧ Tab.has d s.fl.slow = true :=
  ⟨stCodewordRowsComplete16, 0,
    by decide +kernel⟩

theorem witness_CodewordRowsComplete_17 :
    ∃ (s : State) (d : Nat), s.armed (.slowHold d) = false :=
  ⟨flash, 0,
    by decide +kernel⟩

def stReclaimRowsComplete0 : State :=
  { flash with adm := { flash.adm with sanitize := { flash.adm.sanitize with state := 2 } } }

theorem witness_ReclaimRowsComplete_0 :
    ∃ (s : State), ((s.sanitizing = true ∨ s.victimTarget ≤ s.freeF)) :=
  ⟨stReclaimRowsComplete0,
    by decide +kernel⟩

def stReclaimRowsComplete1 : State :=
  withCourse flash 1 { aCourse with closed := true }

theorem witness_ReclaimRowsComplete_1 :
    ∃ (s : State), s.sanitizing = false ∧ s.freeF < s.victimTarget :=
  ⟨stReclaimRowsComplete1,
    by decide +kernel⟩

def stReclaimRowsComplete2 : State :=
  let z := withCourse flash 1 { aCourse with closed := true };
  { z with clk := { z.clk with mono := 2 ^ 56 } }

theorem witness_ReclaimRowsComplete_2 :
    ∃ (s : State) (n : Nat) (c : Course), s.course n = some c ∧ c.closed = true ∧ c.band ≤ 2 ∧ c.closeTime + 86400 * s.fld F.rclRefCtlAgedays *
    1000000000 ≤ s.clk.mono :=
  ⟨stReclaimRowsComplete2, 1, (stReclaimRowsComplete2.course 1).getD aCourse,
    by decide +kernel⟩

def stReclaimRowsComplete3 : State :=
  let z := withCourse flash 1 { aCourse with closed := true };
  { z with crs := { z.crs with victims := [⟨1, 5, 6⟩] } }

theorem witness_ReclaimRowsComplete_3 :
    ∃ (s : State) (n : Nat) (c : Course) (v : Victim), s.course n = some c ∧ s.crs.victims = [v] ∧ v.course = n ∧ v.reason ≤ 5 :=
  ⟨stReclaimRowsComplete3, 1, (stReclaimRowsComplete3.course 1).getD aCourse, ⟨1, 5, 6⟩,
    by decide +kernel⟩

def stReclaimRowsComplete4 : State :=
  withCourse flash 1 { aCourse with closed := true, band := 1 }

theorem witness_ReclaimRowsComplete_4 :
    ∃ (s : State) (n : Nat) (c : Course), s.course n = some c ∧ c.closed = true ∧ c.band = 1 :=
  ⟨stReclaimRowsComplete4, 1, (stReclaimRowsComplete4.course 1).getD aCourse,
    by decide +kernel⟩

def stReclaimRowsComplete5 : State :=
  ({ flash with map := { flash.map with coarse := [(0, .overlay 0)], overlays := [(0, ⟨0, 0, [.mapped 64, .unwritten]⟩)] } } : State).setFld F.mapPoolStatMode 1

theorem witness_ReclaimRowsComplete_5 :
    ∃ (s : State) (e : Nat), s.maySeam e = true ∧ 1 ≤ s.pool :=
  ⟨stReclaimRowsComplete5, 0,
    by decide +kernel⟩

def stReclaimRowsComplete6 : State :=
  withCopy flash 3 { aCopy with reason := 11, seen := .coarse 4 }

theorem witness_ReclaimRowsComplete_6 :
    ∃ (s : State) (id : Nat) (c : Copy), Tab.find id s.crs.copies = some c ∧ c.reason = 11 ∧ s.copySafe c = true ∧ s.segStalled (segOf c.e) = false
    ∧ s.segLost (segOf c.e) = false ∧ s.ext c.e ≠ c.seen :=
  ⟨stReclaimRowsComplete6, 3, (Tab.find 3 stReclaimRowsComplete6.crs.copies).getD aCopy,
    by decide +kernel⟩

def stReclaimRowsComplete7 : State :=
  withCopy flash 3 { aCopy with reason := 11 }

theorem witness_ReclaimRowsComplete_7 :
    ∃ (s : State) (id : Nat) (c : Copy), Tab.find id s.crs.copies = some c ∧ c.reason = 11 ∧ s.copySafe c = true ∧ s.segStalled (segOf c.e) = false
    ∧ s.segLost (segOf c.e) = false :=
  ⟨stReclaimRowsComplete7, 3, (Tab.find 3 stReclaimRowsComplete7.crs.copies).getD aCopy,
    by decide +kernel⟩

def stReclaimRowsComplete8 : State :=
  withCopy flash 3 { aCopy with reason := 8 }

theorem witness_ReclaimRowsComplete_8 :
    ∃ (s : State) (id : Nat) (c : Copy), Tab.find id s.crs.copies = some c ∧ c.reason ≠ 11 ∧ s.copySafe c = true ∧ s.segStalled (segOf c.e) = false
    ∧ s.segLost (segOf c.e) = false :=
  ⟨stReclaimRowsComplete8, 3, (Tab.find 3 stReclaimRowsComplete8.crs.copies).getD aCopy,
    by decide +kernel⟩

def stReclaimRowsComplete9 : State :=
  let z := withCopy flash 3 { aCopy with reason := 8 };
  { z with map := { z.map with stalled := [(0, 0)] } }

theorem witness_ReclaimRowsComplete_9 :
    ∃ (s : State) (id : Nat) (c : Copy), Tab.find id s.crs.copies = some c ∧ c.reason ≠ 11 ∧ s.copySafe c = true ∧ s.segStalled (segOf c.e) = true
    :=
  ⟨stReclaimRowsComplete9, 3, (Tab.find 3 stReclaimRowsComplete9.crs.copies).getD aCopy,
    by decide +kernel⟩

theorem witness_ReclaimRowsComplete_10 :
    ∃ (s : State), s.armed .readOnlyStall = true ∧ s.freeF ≤ 4 ∧ s.worthwhile = false ∧ s.flag F.rclRoRo = false :=
  ⟨armed started [.readOnlyStall],
    by decide +kernel⟩

theorem witness_ReclaimRowsComplete_11 :
    ∃ (s : State), s.armed .readOnlyStall = false :=
  ⟨up,
    by decide +kernel⟩

def stReclaimRowsComplete12 : State :=
  let z := ioIn flash 0x12 0 0;
  { z with adm := { z.adm with fdp := some 0 } }

theorem witness_ReclaimRowsComplete_12 :
    ∃ (s : State) (c : Nat) (i : Nat) (k : Cmd) (n : Ns), s.NsRuns c 0x12 k n ∧ s.adm.fdp = some i :=
  ⟨stReclaimRowsComplete12, 1, 0, theCmd stReclaimRowsComplete12 1, theNs stReclaimRowsComplete12 1,
    by unfold State.NsRuns State.IoRuns; decide +kernel⟩

theorem witness_ReclaimRowsComplete_13 :
    ∃ (s : State) (c : Nat) (mo : Nat) (k : Cmd) (n : Ns), s.NsRuns c 0x12 k n ∧ mo ≠ 1 :=
  ⟨ioIn flash 0x12 0 0, 1, 2, theCmd (ioIn flash 0x12 0 0) 1, theNs (ioIn flash 0x12 0 0) 1,
    by unfold State.NsRuns State.IoRuns; decide +kernel⟩

def stReclaimRowsComplete14 : State :=
  let z := ioIn flash 0x1D 0 0;
  { z with adm := { z.adm with fdp := some 0 } }

theorem witness_ReclaimRowsComplete_14 :
    ∃ (s : State) (c : Nat) (i : Nat) (hs : List Nat) (k : Cmd) (n : Ns), s.NsRuns c 0x1D k n ∧ s.adm.fdp = some i ∧ (∀ h ∈ hs, h <
    n.handles.length) :=
  ⟨stReclaimRowsComplete14, 1, 0, [0], theCmd stReclaimRowsComplete14 1, theNs stReclaimRowsComplete14 1,
    by unfold State.NsRuns State.IoRuns; decide +kernel⟩

theorem witness_ReclaimRowsComplete_15 :
    ∃ (s : State) (c : Nat) (i : Nat) (h : Nat) (hs : List Nat) (k : Cmd) (n : Ns), s.NsRuns c 0x1D k n ∧ s.adm.fdp = some i ∧ h ∈ hs ∧
    n.handles.length ≤ h :=
  ⟨stReclaimRowsComplete14, 1, 0, 1, [0, 1], theCmd stReclaimRowsComplete14 1, theNs stReclaimRowsComplete14 1,
    by unfold State.NsRuns State.IoRuns; decide +kernel⟩

theorem witness_ReclaimRowsComplete_16 :
    ∃ (s : State) (c : Nat) (k : Cmd) (n : Ns), s.NsRuns c 0x1D k n ∧ s.adm.fdp = none :=
  ⟨ioIn flash 0x1D 0 0, 1, theCmd (ioIn flash 0x1D 0 0) 1, theNs (ioIn flash 0x1D 0 0) 1,
    by unfold State.NsRuns State.IoRuns; decide +kernel⟩

def stLifelineRowsComplete0 : State :=
  armed { flash with lif := { flash.lif with openGroup := some ⟨1, 0, []⟩ } } [.groupTimer]

theorem witness_LifelineRowsComplete_0 :
    ∃ (s : State) (g : Group), s.armed .groupTimer = true ∧ s.lif.openGroup = some g :=
  ⟨stLifelineRowsComplete0, stLifelineRowsComplete0.lif.openGroup.getD ⟨1, 0, []⟩,
    by decide +kernel⟩

theorem witness_LifelineRowsComplete_1 :
    ∃ (s : State), s.armed .groupTimer = false :=
  ⟨up,
    by decide +kernel⟩

def stLifelineRowsComplete2 : State :=
  { flash with lif := { flash.lif with waiting := [⟨1, 0, [(1, true, .erasePending 0 5)]⟩], closed := 1 } }

theorem witness_LifelineRowsComplete_2 :
    ∃ (s : State) (a : Nat) (b : Nat) (g : Group) (gs : List Group), s.lif.waiting = g :: gs ∧ 0 < a ∧ 0 < b :=
  ⟨stLifelineRowsComplete2, 3, 1, stLifelineRowsComplete2.lif.waiting.headD ⟨1, 0, []⟩, stLifelineRowsComplete2.lif.waiting.drop 1,
    by decide +kernel⟩

theorem witness_LifelineRowsComplete_3 :
    ∃ (s : State), s.lif.waiting = [] :=
  ⟨flash,
    by decide +kernel⟩

def stLifelineRowsComplete4 : State :=
  let z := withCourse flash 1 { aCourse with band := 3 };
  { z with lif := { z.lif with copyA := { z.lif.copyA with course := 1 } } }

theorem witness_LifelineRowsComplete_4 :
    ∃ (s : State) (copy : Nat) (pos : Nat) (c : Course) (m : Member), copy < 2 ∧ s.course (s.lif.copy copy).course = some c ∧ c.mem pos = some m :=
  ⟨stLifelineRowsComplete4, 0, 0, (stLifelineRowsComplete4.course (stLifelineRowsComplete4.lif.copy 0).course).getD aCourse,
    (((stLifelineRowsComplete4.course (stLifelineRowsComplete4.lif.copy 0).course).getD aCourse).mem 0).getD ⟨0, 10, 12, 0, 0, none⟩,
    by decide +kernel⟩

theorem witness_LifelineRowsComplete_5 :
    ∃ (s : State) (num : Nat), s.armed .checkpointInterval = true ∧ (s.expire .checkpointInterval).outOfTurn = none ∧ (s.expire
    .checkpointInterval).nextCkpt.1 = num ∧ s.lif.running.any (fun c => c.num = num) = false ∧ s.lif.touched.contains num = false ∧ Tab.getD num []
    s.lif.kept = [] :=
  ⟨armed flash [.checkpointInterval], ((armed flash [.checkpointInterval]).expire .checkpointInterval).nextCkpt.1,
    by decide +kernel⟩

theorem witness_LifelineRowsComplete_6 :
    ∃ (s : State), s.armed .checkpointInterval = true :=
  ⟨armed flash [.checkpointInterval],
    by decide +kernel⟩

def stLifelineRowsComplete7 : State :=
  { flash with lif := { flash.lif with running := [⟨3, false, 0, 64, 1, 9, 0, 0, []⟩] } }

theorem witness_LifelineRowsComplete_7 :
    ∃ (s : State) (num : Nat) (c : Ckpt), s.lif.running.find? (fun c => c.num = num) = some c ∧ s.runSafe c.psa (s.ckptSlots c.len) = true :=
  ⟨stLifelineRowsComplete7, 3, (stLifelineRowsComplete7.lif.running.find? (fun c => c.num = 3)).getD ⟨3, false, 0, 64, 1, 9, 0, 0, []⟩,
    by decide +kernel⟩

theorem witness_LifelineRowsComplete_8 :
    ∃ (s : State), s.armed .anchorTimer = true :=
  ⟨armed flash [.anchorTimer],
    by decide +kernel⟩

theorem witness_LifelineRowsComplete_9 :
    ∃ (s : State), s.armed .anchorTimer = false :=
  ⟨up,
    by decide +kernel⟩

def stPowerFailRowsComplete0 : State :=
  { ioIn flash 0x01 0 8 with dump := { flash.dump with formed := true } }

theorem witness_PowerFailRowsComplete_0 :
    ∃ (s : State), s.dump.running = none :=
  ⟨stPowerFailRowsComplete0,
    by decide +kernel⟩

def stPowerFailRowsComplete1 : State :=
  { flash with dump := { flash.dump with running := some 0 } }

theorem witness_PowerFailRowsComplete_1 :
    ∃ (s : State), s.dump.running.isSome = true :=
  ⟨stPowerFailRowsComplete1,
    by decide +kernel⟩

theorem witness_PowerFailRowsComplete_2 :
    ∃ (s : State), s.pins.pfail = false ∧ s.dump.running = none :=
  ⟨ioIn flash 0x01 0 8,
    by decide +kernel⟩

theorem witness_PowerFailRowsComplete_3a :
    ∃ (s : State) (r : Nat), 1 ≤ r ∧ r ≤ 4 ∧ s.pins.pfail = false ∧ s.dump.running = none :=
  ⟨ioIn flash 0x01 0 8, 4,
    by decide +kernel⟩

theorem witness_PowerFailRowsComplete_3b :
    ∃ (s : State) (r : Nat), 1 ≤ r ∧ r ≤ 4 ∧ s.pins.pfail = false ∧ s.dump.running = none :=
  ⟨ioIn flash 0x01 0 8, 1,
    by decide +kernel⟩

def stPowerFailRowsComplete4 : State :=
  { flash with pins := { flash.pins with pfail := true } }

theorem witness_PowerFailRowsComplete_4 :
    ∃ (s : State) (r : Nat), 1 ≤ r ∧ r ≤ 4 ∧ s.pins.pfail = true :=
  ⟨stPowerFailRowsComplete4, 4,
    by decide +kernel⟩

def stPowerFailRowsComplete5 : State :=
  { flash with dump := { flash.dump with running := some 0 }, pins := { flash.pins with pfail := true } }

theorem witness_PowerFailRowsComplete_5 :
    ∃ (s : State), s.dump.running.isSome = true ∧ s.dump.ended = false ∧ s.hif.port0.perst = false ∧ s.hif.port1.perst = false :=
  ⟨stPowerFailRowsComplete5,
    by decide +kernel⟩

def stPowerFailRowsComplete6 : State :=
  { flash with dump := { flash.dump with running := some 0, ended := true }, pins := { flash.pins with pfail := true } }

theorem witness_PowerFailRowsComplete_6 :
    ∃ (s : State), s.dump.running.isSome = true ∧ s.dump.ended = true :=
  ⟨stPowerFailRowsComplete6,
    by decide +kernel⟩

theorem witness_ChannelRowsComplete_0 :
    ∃ (s : State) (d : Nat), s.inSvc d = true :=
  ⟨flash, 0,
    by decide +kernel⟩

def stChannelRowsComplete1 : State :=
  armed { flash with fl := { flash.fl with resets := [(0, ⟨2, 5, 0, 0, false, 0, 6⟩)] } } [.lunReset 0]

theorem witness_ChannelRowsComplete_1 :
    ∃ (s : State) (d : Nat), s.inSvc d = true ∧ Tab.has d s.fl.resets = true :=
  ⟨stChannelRowsComplete1, 0,
    by decide +kernel⟩

theorem witness_ChannelRowsComplete_2 :
    ∃ (s : State) (d : Nat), s.inSvc d = true ∧ Tab.has d s.fl.resets = false :=
  ⟨armed flash [.flashOp 0], 0,
    by decide +kernel⟩

theorem witness_ChannelRowsComplete_3 :
    ∃ (s : State) (id : Nat), s.cw id = none :=
  ⟨flash, 5,
    by decide +kernel⟩

theorem witness_ChannelRowsComplete_4 :
    ∃ (s : State) (d : Nat) (id : Nat) (x : CwRead), s.cw id = some x ∧ x.phase = .atDie ∧ psaDie x.psa = d ∧ x.again = false :=
  ⟨reading { aRead with phase := .atDie }, 0, 1, readOf (reading { aRead with phase := .atDie }) 1,
    by decide +kernel⟩

theorem witness_ChannelRowsComplete_5 :
    ∃ (s : State) (d : Nat), s.armed (.flashOp d) = false :=
  ⟨flash, 0,
    by decide +kernel⟩

def stChannelRowsComplete6 : State :=
  armed (withOp flash 0 ⟨2, 5, 0, 0, false, 0, 6⟩) [.flashOp 0]

theorem witness_ChannelRowsComplete_6 :
    ∃ (s : State) (d : Nat) (o : FlashOp), s.armed (.flashOp d) = true ∧ Tab.find d s.fl.ops = some o ∧ o.kind = 2 :=
  ⟨stChannelRowsComplete6, 0, (Tab.find 0 stChannelRowsComplete6.fl.ops).getD ⟨2, 5, 0, 0, false, 0, 6⟩,
    by decide +kernel⟩

theorem witness_ChannelRowsComplete_7 :
    ∃ (s : State) (d : Nat), s.inSvc d = true :=
  ⟨flash, 0,
    by decide +kernel⟩

theorem witness_ChannelRowsComplete_8 :
    ∃ (s : State) (d : Nat), s.armed (.lunReset d) = true :=
  ⟨stChannelRowsComplete1, 0,
    by decide +kernel⟩

theorem witness_ChannelRowsComplete_9 :
    ∃ (s : State) (d : Nat), s.armed (.lunReset d) = false :=
  ⟨flash, 0,
    by decide +kernel⟩

theorem witness_ChannelRowsComplete_10a :
    ∃ (s : State) (k : Nat), s.armed (.zqShort k) = true ∧ s.dump.running = none :=
  ⟨armed flash [.zqShort 7], 7,
    by decide +kernel⟩

theorem witness_ChannelRowsComplete_10b :
    ∃ (s : State) (k : Nat), s.armed (.zqShort k) = true ∧ s.dump.running = none :=
  ⟨armed flash [.zqShort 0], 0,
    by decide +kernel⟩

theorem witness_ChannelRowsComplete_11a :
    ∃ (s : State) (k : Nat) (tj : Nat), k < 8 ∧ s.fld (F.sknTrainDt k) ≤ s.tjMoved k tj ∧ s.dump.running = none :=
  ⟨flash, 7, 90,
    by decide +kernel⟩

theorem witness_ChannelRowsComplete_11b :
    ∃ (s : State) (k : Nat) (tj : Nat), k < 8 ∧ s.fld (F.sknTrainDt k) ≤ s.tjMoved k tj ∧ s.dump.running = none :=
  ⟨flash, 0, 200,
    by decide +kernel⟩

def stChannelRowsComplete12 : State :=
  { flash with clk := { flash.clk with mono := 10000 } }

theorem witness_ChannelRowsComplete_12 :
    ∃ (s : State) (k : Nat), k < 8 ∧ s.flag (F.sknStatFailed k) = false ∧ 10000 ≤ s.clk.mono ∧ Tab.find k s.fl.down = none :=
  ⟨stChannelRowsComplete12, 7,
    by decide +kernel⟩

def stChannelRowsComplete13 : State :=
  { flash with fl := { flash.fl with down := [(7, 5, 7)] } }

theorem witness_ChannelRowsComplete_13 :
    ∃ (s : State) (k : Nat) (x : Nat × Nat), Tab.find k s.fl.down = some x ∧ x.2 < 8 :=
  ⟨stChannelRowsComplete13, 7, (Tab.find 7 stChannelRowsComplete13.fl.down).getD (0, 0),
    by decide +kernel⟩

def stChannelRowsComplete14 : State :=
  armed { flash with fl := { flash.fl with down := [(7, 5, 7)] } } [.skeinDown 7]

theorem witness_ChannelRowsComplete_14 :
    ∃ (s : State) (k : Nat) (x : Nat × Nat), Tab.find k s.fl.down = some x ∧ 3 ≤ x.2 ∧ x.2 < 8 :=
  ⟨stChannelRowsComplete14, 7, (Tab.find 7 stChannelRowsComplete14.fl.down).getD (0, 0),
    by decide +kernel⟩

theorem witness_ChannelRowsComplete_15 :
    ∃ (s : State) (k : Nat), Tab.find k s.fl.down = none :=
  ⟨flash, 7,
    by decide +kernel⟩

theorem witness_ChannelRowsComplete_16 :
    ∃ (s : State) (k : Nat), s.armed (.skeinFail k) = false :=
  ⟨flash, 7,
    by decide +kernel⟩

def stChannelRowsComplete17 : State :=
  armed { flash with fl := { flash.fl with down := [(7, 5, 7)] } } [.skeinFail 7]

theorem witness_ChannelRowsComplete_17 :
    ∃ (s : State) (k : Nat), s.armed (.skeinFail k) = true :=
  ⟨stChannelRowsComplete17, 7,
    by decide +kernel⟩

def stMapMemoryRowsComplete0 : State :=
  { flash with hbm := { flash.hbm with postponed := [(127 * 48 + 47, 3)] } }

theorem witness_MapMemoryRowsComplete_0 :
    ∃ (s : State) (pc : Nat) (b : Nat), pc < 128 ∧ b < 48 ∧ s.flag F.hbmStatSref = false ∧ Tab.getD (pc * 48 + b) 0 s.hbm.postponed < 4 :=
  ⟨stMapMemoryRowsComplete0, 127, 47,
    by decide +kernel⟩

def stMapMemoryRowsComplete1 : State :=
  { flash with hbm := { flash.hbm with postponed := [(127 * 48 + 47, 4)] } }

theorem witness_MapMemoryRowsComplete_1 :
    ∃ (s : State) (pc : Nat) (b : Nat), pc < 128 ∧ b < 48 ∧ s.flag F.hbmStatSref = false :=
  ⟨stMapMemoryRowsComplete1, 127, 47,
    by decide +kernel⟩

theorem witness_MapMemoryRowsComplete_2 :
    ∃ (pc : Nat) (b : Nat) (r : Nat) (q : Nat), pc < 128 ∧ b < 48 ∧ r < 32768 ∧ q < 8 :=
  ⟨127, 47, 32767, 7,
    by decide +kernel⟩

def stMapMemoryRowsComplete3 : State :=
  armed { flash with hbm := { flash.hbm with throttles := [⟨127, 47, 5, 7⟩, ⟨1, 4, 5, 7⟩] } } [.throttle 127 47 7]

theorem witness_MapMemoryRowsComplete_3 :
    ∃ (s : State) (pc : Nat) (b : Nat) (q : Nat), s.armed (.throttle pc b q) = true :=
  ⟨stMapMemoryRowsComplete3, 127, 47, 7,
    by decide +kernel⟩

theorem witness_MapMemoryRowsComplete_4 :
    ∃ (s : State) (pc : Nat) (b : Nat) (q : Nat), s.armed (.throttle pc b q) = false :=
  ⟨flash, 127, 47, 7,
    by decide +kernel⟩

theorem witness_MapMemoryRowsComplete_5 :
    ∃ (q : Nat), q < 8 :=
  ⟨7,
    by decide +kernel⟩

theorem witness_MapMemoryRowsComplete_6a :
    ∃ (k : Nat) (temp : Nat), k < 4 ∧ temp < 256 :=
  ⟨3, 86,
    by decide +kernel⟩

theorem witness_MapMemoryRowsComplete_6b :
    ∃ (k : Nat) (temp : Nat), k < 4 ∧ temp < 256 :=
  ⟨0, 255,
    by decide +kernel⟩

theorem witness_MapMemoryRowsComplete_7 :
    ∃ (s : State), s.flag F.hbmStatSref = false ∧ s.dump.running = none ∧ s.armed .hbmScrub = true :=
  ⟨armed flash [.hbmScrub],
    by decide +kernel⟩

theorem witness_MapMemoryRowsComplete_8 :
    ∃ (s : State), ((s.flag F.hbmStatSref = true ∨ s.dump.running.isSome = true)) :=
  ⟨flash.setFld F.hbmStatSref 1,
    by decide +kernel⟩

theorem witness_MapMemoryRowsComplete_9 :
    ∃ (a : Nat) (q : Nat), a < 192 * 2 ^ 30 ∧ q < 8 :=
  ⟨192 * 2 ^ 30 - 1, 7,
    by decide +kernel⟩

theorem witness_MapMemoryRowsComplete_10 :
    ∃ (a : Nat) (q : Nat), a < 192 * 2 ^ 30 ∧ q < 8 ∧ hbmArea a = 5 :=
  ⟨170 * 2 ^ 30, 7,
    by decide +kernel⟩

def stMapMemoryRowsComplete11 : State :=
  { flash with hbm := { flash.hbm with zeroing := some 5 } }

theorem witness_MapMemoryRowsComplete_11 :
    ∃ (s : State) (m : Nat), s.hbm.zeroing = some m :=
  ⟨stMapMemoryRowsComplete11, 5,
    by decide +kernel⟩

theorem witness_MapMemoryRowsComplete_12 :
    ∃ (s : State), s.hbm.zeroing = none :=
  ⟨flash,
    by decide +kernel⟩

theorem witness_BypassRowCompletes_0 :
    ∃ (s : State) (i : Nat) (b : BufSlot), s.armed (.cmpBypass i) = true ∧ Tab.find i s.buf.slots = some b :=
  ⟨stWriteRowsComplete6, 1, (Tab.find 1 stWriteRowsComplete6.buf.slots).getD aSlot,
    by decide +kernel⟩

theorem witness_BypassRowCompletes_1 :
    ∃ (s : State) (i : Nat), s.armed (.cmpBypass i) = true ∧ Tab.find i s.buf.slots = none :=
  ⟨armed flash [.cmpBypass 1], 1,
    by decide +kernel⟩

theorem witness_BypassRowCompletes_2 :
    ∃ (s : State) (i : Nat), s.armed (.cmpBypass i) = false :=
  ⟨flash, 1,
    by decide +kernel⟩

theorem witness_SupervisorRowsComplete_0 :
    ∃ (s : State), s.flag F.supStatFailed = false ∧ s.dump.running = none ∧ s.sup.yielded = none ∧ s.fourth = false :=
  ⟨flash,
    by decide +kernel⟩

theorem witness_SupervisorRowsComplete_1a :
    ∃ (s : State) (c : Nat), c ∈ [1, 2, 4] ∧ s.flag F.supStatFailed = false ∧ s.dump.running = none ∧ s.sup.yielded = none ∧ s.fourth = false :=
  ⟨flash, 4,
    by decide +kernel⟩

theorem witness_SupervisorRowsComplete_1b :
    ∃ (s : State) (c : Nat), c ∈ [1, 2, 4] ∧ s.flag F.supStatFailed = false ∧ s.dump.running = none ∧ s.sup.yielded = none ∧ s.fourth = false :=
  ⟨flash, 1,
    by decide +kernel⟩

theorem witness_SupervisorRowsComplete_1c :
    ∃ (s : State) (c : Nat), c ∈ [1, 2, 4] ∧ s.flag F.supStatFailed = false ∧ s.dump.running = none ∧ s.sup.yielded = none ∧ s.fourth = false :=
  ⟨flash, 2,
    by decide +kernel⟩

def stSupervisorRowsComplete2 : State :=
  { flash with sup := { flash.sup with yielded := some (4, 0) } }

theorem witness_SupervisorRowsComplete_2 :
    ∃ (s : State) (c : Nat) (m : Nat), s.flag F.supStatFailed = false ∧ s.dump.running = none ∧ s.sup.yielded = some (c, m) :=
  ⟨stSupervisorRowsComplete2, 4, 0,
    by decide +kernel⟩

theorem witness_SupervisorRowsComplete_3 :
    ∃ (s : State), s.armed .watchdog = true ∧ (s.expire .watchdog).flag F.supStatFailed = false ∧ s.dump.running = none ∧ s.sup.yielded = none ∧
    (s.expire .watchdog).fourth = false :=
  ⟨armed flash [.watchdog],
    by decide +kernel⟩

theorem witness_SupervisorRowsComplete_4 :
    ∃ (s : State), s.armed .watchdog = false :=
  ⟨up,
    by decide +kernel⟩

def stSupervisorRowsComplete5 : State :=
  armed { flash with sup := { flash.sup with snap1 := some ⟨4, 0, 0, flash.adm.format, flash.adm.sanitize, [], 0, none⟩ } } [.snapshot]

theorem witness_SupervisorRowsComplete_5 :
    ∃ (s : State), s.armed .snapshot = true ∧ s.sup.newest.2 = true :=
  ⟨stSupervisorRowsComplete5,
    by decide +kernel⟩

def stSupervisorRowsComplete6 : State :=
  armed { flash with sup := { flash.sup with snap0 := some ⟨4, 0, 0, flash.adm.format, flash.adm.sanitize, [], 0, none⟩ } } [.snapshot]

theorem witness_SupervisorRowsComplete_6 :
    ∃ (s : State), s.armed .snapshot = true ∧ s.sup.newest.2 = false ∧ 0 < s.sup.newest.1 :=
  ⟨stSupervisorRowsComplete6,
    by decide +kernel⟩

theorem witness_SupervisorRowsComplete_7 :
    ∃ (s : State), s.armed .snapshot = false :=
  ⟨up,
    by decide +kernel⟩

def stSupervisorRowsComplete8 : State :=
  armed flash [.standbyTest, .standbyRetry]

theorem witness_SupervisorRowsComplete_8 :
    ∃ (s : State), s.armed .standbyTest = true ∧ s.sup.yielded = none :=
  ⟨stSupervisorRowsComplete8,
    by decide +kernel⟩

theorem witness_SupervisorRowsComplete_9 :
    ∃ (s : State) (c : Nat), 1 ≤ c ∧ c ≤ 5 ∧ s.armed .standbyTest = true ∧ s.sup.yielded = none :=
  ⟨armed flash [.standbyTest], 5,
    by decide +kernel⟩

theorem witness_SupervisorRowsComplete_10 :
    ∃ (s : State) (c : Nat), c ≤ 5 ∧ s.armed .standbyTest = false :=
  ⟨flash, 5,
    by decide +kernel⟩

theorem witness_SupervisorRowsComplete_11 :
    ∃ (s : State) (c : Nat), 1 ≤ c ∧ c ≤ 5 ∧ s.armed .standbyRetry = true :=
  ⟨armed flash [.standbyRetry], 5,
    by decide +kernel⟩

theorem witness_SupervisorRowsComplete_12 :
    ∃ (s : State) (c : Nat), c ≤ 5 ∧ s.armed .standbyRetry = false :=
  ⟨flash, 5,
    by decide +kernel⟩

theorem witness_SupervisorRowsComplete_13 :
    ∃ (s : State) (c : Nat) (k : Cmd), s.PfRuns c k ∧ k.sqe.opcode = 0xCB ∧ s.mayAs k.fn .maker = true :=
  ⟨role (admin flash 0xCB 1) 1 .maker, 1, theCmd (role (admin flash 0xCB 1) 1 .maker) 1,
    by unfold State.PfRuns State.AdminRuns; decide +kernel⟩

theorem witness_SupervisorRowsComplete_14 :
    ∃ (s : State) (c : Nat) (r : Nat) (x : Nat) (k : Cmd), s.PfRuns c k ∧ s.mayAs k.fn .maker = true ∧ r ≠ 0 ∧ x ≤ 5 :=
  ⟨role (admin flash 0xCB 1) 1 .maker, 1, 1, 5, theCmd (role (admin flash 0xCB 1) 1 .maker) 1,
    by unfold State.PfRuns State.AdminRuns; decide +kernel⟩

theorem witness_SupervisorRowsComplete_15 :
    ∃ (s : State) (c : Nat) (k : Cmd), s.PfRuns c k ∧ s.mayAs k.fn .maker = true :=
  ⟨role (admin flash 0xCB 1) 1 .maker, 1, theCmd (role (admin flash 0xCB 1) 1 .maker) 1,
    by unfold State.PfRuns State.AdminRuns; decide +kernel⟩

theorem witness_SupervisorRowsComplete_16 :
    ∃ (s : State) (c : Nat) (k : Cmd), s.PfRuns c k ∧ s.mayAs k.fn .maker = false :=
  ⟨role (admin flash 0xCB 1) 1 .installer, 1, theCmd (role (admin flash 0xCB 1) 1 .installer) 1,
    by unfold State.PfRuns State.AdminRuns; decide +kernel⟩

theorem witness_SupervisorRowsComplete_17a :
    ∃ (s : State) (ms : Nat) (x : Nat) (c : Nat) (m : Nat), s.sup.yielded = some (c, m) ∧ s.armed .standbyTest = false ∧ ms ≤ 600 ∧ x ≤ 5 :=
  ⟨stSupervisorRowsComplete2, 600, 5, 4, 0,
    by decide +kernel⟩

def stSupervisorRowsComplete17b : State :=
  { flash with sup := { flash.sup with yielded := some (0, 0) } }

theorem witness_SupervisorRowsComplete_17b :
    ∃ (s : State) (ms : Nat) (x : Nat) (c : Nat) (m : Nat), s.sup.yielded = some (c, m) ∧ s.armed .standbyTest = false ∧ ms ≤ 600 ∧ x ≤ 5 :=
  ⟨stSupervisorRowsComplete17b, 0, 0, 0, 0,
    by decide +kernel⟩

theorem witness_SupervisorRowsComplete_18 :
    ∃ (s : State), s.sup.yielded = none :=
  ⟨flash,
    by decide +kernel⟩

def stPowerStateRowsComplete0 : State :=
  (withQueues flash 1).updFunc 1 (fun f => { f with feats := [(0x0C, 1 + 2 * (256 * 100 + 8 * 4))] })

theorem witness_PowerStateRowsComplete_0 :
    ∃ (s : State) (fn : Nat), (s.func fn).rdy = true ∧ s.q.cmds = [] ∧ ((s.func fn).apstTarget = 3 ∨ (s.func fn).apstTarget = 4) :=
  ⟨stPowerStateRowsComplete0, 1,
    by decide +kernel⟩

theorem witness_PowerStateRowsComplete_1 :
    ∃ (s : State) (fn : Nat), (s.func fn).apstTarget ≠ 3 ∧ (s.func fn).apstTarget ≠ 4 :=
  ⟨flash, 1,
    by decide +kernel⟩

def stPowerStateRowsComplete2 : State :=
  (withQueues flash 1).updFunc 1 (fun f => { f with psel := 4 })

theorem witness_PowerStateRowsComplete_2 :
    ∃ (s : State), s.pwr.entry = none ∧ 3 ≤ s.chosenPs ∧ s.ps ≤ 2 ∧ s.entryWaits = false :=
  ⟨stPowerStateRowsComplete2,
    by decide +kernel⟩

def stPowerStateRowsComplete3 : State :=
  let z := (withQueues flash 1).updFunc 1 (fun f => { f with psel := 4 });
  { z with map := { z.map with stalled := [(0, 0)] } }

theorem witness_PowerStateRowsComplete_3 :
    ∃ (s : State), s.pwr.entry = none ∧ 3 ≤ s.chosenPs ∧ s.ps ≤ 2 ∧ s.entryWaits = true :=
  ⟨stPowerStateRowsComplete3,
    by decide +kernel⟩

def stPowerStateRowsComplete4 : State :=
  ({ flash with pwr := { flash.pwr with entry := some (4, 0) } } : State).setFld F.pwrStatStep 1

theorem witness_PowerStateRowsComplete_4 :
    ∃ (s : State) (e : Nat × Nat), s.pwr.entry = some e ∧ s.fld F.pwrStatStep = 1 :=
  ⟨stPowerStateRowsComplete4, stPowerStateRowsComplete4.pwr.entry.getD (4, 0),
    by decide +kernel⟩

def stPowerStateRowsComplete5 : State :=
  ({ flash with pwr := { flash.pwr with entry := some (4, 0) } } : State).setFld F.pwrStatStep 2

theorem witness_PowerStateRowsComplete_5 :
    ∃ (s : State) (e : Nat × Nat), s.pwr.entry = some e ∧ s.fld F.pwrStatStep = 2 ∧ s.drainedAll = true :=
  ⟨stPowerStateRowsComplete5, stPowerStateRowsComplete5.pwr.entry.getD (4, 0),
    by decide +kernel⟩

def stPowerStateRowsComplete6 : State :=
  ({ flash with pwr := { flash.pwr with entry := some (4, 0) } } : State).setFld F.pwrStatStep 3

theorem witness_PowerStateRowsComplete_6 :
    ∃ (s : State) (e : Nat × Nat), s.pwr.entry = some e ∧ s.fld F.pwrStatStep = 3 :=
  ⟨stPowerStateRowsComplete6, stPowerStateRowsComplete6.pwr.entry.getD (4, 0),
    by decide +kernel⟩

def stPowerStateRowsComplete7a : State :=
  ({ flash with pwr := { flash.pwr with entry := some (4, 0) } } : State).setFld F.pwrStatStep 4

theorem witness_PowerStateRowsComplete_7a :
    ∃ (s : State) (e : Nat × Nat), s.pwr.entry = some e ∧ s.fld F.pwrStatStep = 4 ∧ (e.1 = 3 ∨ e.1 = 4) :=
  ⟨stPowerStateRowsComplete7a, stPowerStateRowsComplete7a.pwr.entry.getD (4, 0),
    by decide +kernel⟩

def stPowerStateRowsComplete7b : State :=
  ({ flash with pwr := { flash.pwr with entry := some (3, 0) } } : State).setFld F.pwrStatStep 4

theorem witness_PowerStateRowsComplete_7b :
    ∃ (s : State) (e : Nat × Nat), s.pwr.entry = some e ∧ s.fld F.pwrStatStep = 4 ∧ (e.1 = 3 ∨ e.1 = 4) :=
  ⟨stPowerStateRowsComplete7b, stPowerStateRowsComplete7b.pwr.entry.getD (4, 0),
    by decide +kernel⟩

def stPowerStateRowsComplete8 : State :=
  armed { flash with pwr := { flash.pwr with entry := some (4, 0) } } [.drain]

theorem witness_PowerStateRowsComplete_8 :
    ∃ (s : State) (e : Nat × Nat), s.armed .drain = true ∧ s.pwr.entry = some e :=
  ⟨stPowerStateRowsComplete8, stPowerStateRowsComplete8.pwr.entry.getD (4, 0),
    by decide +kernel⟩

theorem witness_PowerStateRowsComplete_9 :
    ∃ (s : State), s.armed .drain = false :=
  ⟨up,
    by decide +kernel⟩

theorem witness_PowerStateRowsComplete_10 :
    ∃ (s : State) (c : Nat), c ≤ 5 ∧ s.pwr.entry = none ∧ s.ps ≤ 2 ∧ s.hif.held = [] :=
  ⟨flash, 5,
    by decide +kernel⟩

theorem witness_PowerStateRowsComplete_11 :
    ∃ (s : State) (c : Nat) (e : Nat × Nat), c ≤ 5 ∧ s.pwr.entry = some e ∧ s.ps ≤ 2 ∧ s.hif.held = [] :=
  ⟨stPowerStateRowsComplete5, 5, stPowerStateRowsComplete5.pwr.entry.getD (4, 0),
    by decide +kernel⟩

theorem witness_PowerStateRowsComplete_12 :
    ∃ (s : State) (c : Nat), c ≤ 5 ∧ s.ps = 3 :=
  ⟨flash.setFld F.pwrStatPs 3, 5,
    by decide +kernel⟩

theorem witness_PowerStateRowsComplete_13 :
    ∃ (s : State), s.armed .ps2Slot = true :=
  ⟨armed flash [.ps2Slot],
    by decide +kernel⟩

theorem witness_PowerStateRowsComplete_14 :
    ∃ (s : State), s.armed .ps2Slot = false :=
  ⟨up,
    by decide +kernel⟩

theorem witness_PowerStateRowsComplete_15 :
    ∃ (s : State) (l : List Nat), l.length = 13 ∧ s.armed .ps3Sensor = true :=
  ⟨armed flash [.ps3Sensor], List.replicate 13 60,
    by decide +kernel⟩

theorem witness_PowerStateRowsComplete_16 :
    ∃ (s : State) (l : List Nat), l.length = 13 ∧ s.armed .ps3Sensor = false :=
  ⟨flash, List.replicate 13 60,
    by decide +kernel⟩

def stPowerStateRowsComplete17a : State :=
  armed (flash.setFld F.pwrStatPs 4) [.patrol]

theorem witness_PowerStateRowsComplete_17a :
    ∃ (s : State) (l : List Nat), l.length = 13 ∧ s.armed .patrol = true :=
  ⟨stPowerStateRowsComplete17a, List.replicate 13 60,
    by decide +kernel⟩

def stPowerStateRowsComplete17b : State :=
  armed { (flash.setFld F.pwrStatPs 4) with pwr := { flash.pwr with canaries := [⟨64, 0, 5⟩] } } [.patrol]

theorem witness_PowerStateRowsComplete_17b :
    ∃ (s : State) (l : List Nat), l.length = 13 ∧ s.armed .patrol = true :=
  ⟨stPowerStateRowsComplete17b, List.replicate 13 60,
    by decide +kernel⟩

theorem witness_PowerStateRowsComplete_18 :
    ∃ (s : State) (l : List Nat), l.length = 13 ∧ s.armed .patrol = false :=
  ⟨flash, List.replicate 13 60,
    by decide +kernel⟩

theorem witness_PowerStateRowsComplete_19a :
    ∃ (s : State) (c : Nat) (p : Nat) (f : Nat) (a : Nat) (r : Nat) (k : Cmd), s.PfRuns c k ∧ s.mayAs k.fn .operator = true ∧ s.SupervisorFree ∧ 1
    ≤ p ∧ p ≤ 3600 ∧ f ≤ 3 ∧ 64 ≤ a ∧ a ≤ 1000 ∧ 16 ≤ r ∧ r ≤ 500 :=
  ⟨role (admin flash 0xCA 1) 1 .operator, 1, 3600, 3, 1000, 500, theCmd (role (admin flash 0xCA 1) 1 .operator) 1,
    by unfold State.PfRuns State.AdminRuns State.SupervisorFree; decide +kernel⟩

theorem witness_PowerStateRowsComplete_19b :
    ∃ (s : State) (c : Nat) (p : Nat) (f : Nat) (a : Nat) (r : Nat) (k : Cmd), s.PfRuns c k ∧ s.mayAs k.fn .operator = true ∧ s.SupervisorFree ∧ 1
    ≤ p ∧ p ≤ 3600 ∧ f ≤ 3 ∧ 64 ≤ a ∧ a ≤ 1000 ∧ 16 ≤ r ∧ r ≤ 500 :=
  ⟨role (admin flash 0xCA 1) 1 .operator, 1, 1, 0, 64, 16, theCmd (role (admin flash 0xCA 1) 1 .operator) 1,
    by unfold State.PfRuns State.AdminRuns State.SupervisorFree; decide +kernel⟩

theorem witness_PowerStateRowsComplete_20 :
    ∃ (s : State) (c : Nat) (k : Cmd), s.PfRuns c k ∧ s.mayAs k.fn .operator = true ∧ s.SupervisorFree :=
  ⟨role (admin flash 0xCA 1) 1 .operator, 1, theCmd (role (admin flash 0xCA 1) 1 .operator) 1,
    by unfold State.PfRuns State.AdminRuns State.SupervisorFree; decide +kernel⟩

theorem witness_PowerStateRowsComplete_21 :
    ∃ (s : State) (c : Nat) (k : Cmd), s.PfRuns c k ∧ s.mayAs k.fn .operator = false :=
  ⟨role (admin flash 0xCA 1) 1 .none, 1, theCmd (role (admin flash 0xCA 1) 1 .none) 1,
    by unfold State.PfRuns State.AdminRuns; decide +kernel⟩

theorem witness_ManagementRowsComplete_0a :
    ∃ (s : State) (i : Nat), 1 ≤ i ∧ i ≤ 13 ∧ s.ps ≤ 2 :=
  ⟨flash, 13,
    by decide +kernel⟩

theorem witness_ManagementRowsComplete_0b :
    ∃ (s : State) (i : Nat), 1 ≤ i ∧ i ≤ 13 ∧ s.ps ≤ 2 :=
  ⟨flash, 1,
    by decide +kernel⟩

theorem witness_ManagementRowsComplete_1 :
    ∃ (s : State), s.armed .healthPublish = true ∧ s.sup.yielded = none ∧ s.ps ≤ 2 ∧ s.dump.running = none :=
  ⟨armed flash [.healthPublish],
    by decide +kernel⟩

def stManagementRowsComplete2 : State :=
  armed (flash.setFld F.pwrStatPs 3) [.healthPublish]

theorem witness_ManagementRowsComplete_2 :
    ∃ (s : State), s.armed .healthPublish = true ∧ 3 ≤ s.ps :=
  ⟨stManagementRowsComplete2,
    by decide +kernel⟩

theorem witness_ManagementRowsComplete_3 :
    ∃ (s : State), s.armed .healthPublish = false :=
  ⟨up,
    by decide +kernel⟩

theorem witness_ManagementRowsComplete_4 :
    ∃ (s : State), s.clk.aonUp = true ∧ s.dump.running = none ∧ s.ps ≤ 2 :=
  ⟨flash,
    by decide +kernel⟩

theorem witness_ManagementRowsComplete_5 :
    ∃ (s : State), s.clk.aonUp = true ∧ s.dump.running = none ∧ s.ps ≤ 2 :=
  ⟨flash,
    by decide +kernel⟩

theorem witness_ManagementRowsComplete_6 :
    ∃ (s : State), s.clk.aonUp = true ∧ s.dump.running.isSome = true :=
  ⟨stPowerFailRowsComplete1,
    by decide +kernel⟩

theorem witness_ManagementRowsComplete_7 :
    ∃ (s : State) (a : Nat), s.clk.aonUp = true ∧ a < 128 :=
  ⟨flash, 127,
    by decide +kernel⟩

theorem witness_ManagementRowsComplete_8 :
    ∃ (s : State), s.clk.aonUp = true :=
  ⟨flash,
    by decide +kernel⟩

theorem witness_ReliableFramesComplete_0 :
    ∃ (s : State) (u : State) (h : FrameHdr) (copy : Nat) (win : Nat) (off : Nat) (n : Nat), s.FrameNext h true (.copyOpen copy win off n) u :=
  ⟨joinedTo, (joinedTo.frameIn { hdr joinedTo with seq := 1 } true).2, { hdr joinedTo with seq := 1 }, 7, 0, 0, 8,
    ⟨⟨by decide +kernel, by decide +kernel, Prod.ext (by decide +kernel) rfl⟩, by decide +kernel, by decide +kernel, by decide +kernel⟩⟩

theorem witness_ReliableFramesComplete_1a :
    ∃ (s : State) (u : State) (h : FrameHdr) (copy : Nat) (win : Nat) (off : Nat) (l : List Nat) (ok : Bool), s.FrameNext h true (.data copy win
    off l ok) u :=
  ⟨joinedTo, (joinedTo.frameIn { hdr joinedTo with seq := 1 } true).2, { hdr joinedTo with seq := 1 }, 7, 0, 0, [4, 5], true,
    ⟨⟨by decide +kernel, by decide +kernel, Prod.ext (by decide +kernel) rfl⟩, by decide +kernel, by decide +kernel, by decide +kernel⟩⟩

def stReliableFramesComplete1b : State :=
  { joinedTo with str := { joinedTo.str with ins := [(3, { peer := 5, id := 7, win := 0, off := 0, count := 64, recv := 0, ackedSlots := 0, writes := [{ fetch := 40, nsid := 1, lba := 0, count := 8, got := [], buffered := true, exposed := false, acked := false }] })] } }

theorem witness_ReliableFramesComplete_1b :
    ∃ (s : State) (u : State) (h : FrameHdr) (copy : Nat) (win : Nat) (off : Nat) (l : List Nat) (ok : Bool), s.FrameNext h true (.data copy win
    off l ok) u :=
  ⟨stReliableFramesComplete1b, (stReliableFramesComplete1b.frameIn { hdr stReliableFramesComplete1b with seq := 1 } true).2, { hdr
    stReliableFramesComplete1b with seq := 1 }, 7, 0, 0, [4, 5], true,
    ⟨⟨by decide +kernel, by decide +kernel, Prod.ext (by decide +kernel) rfl⟩, by decide +kernel, by decide +kernel, by decide +kernel⟩⟩

theorem witness_ReliableFramesComplete_2a :
    ∃ (s : State) (u : State) (h : FrameHdr) (copy : Nat) (n : Nat) (r : Nat), s.FrameNext h true (.copyEnd copy n r) u :=
  ⟨joinedTo, (joinedTo.frameIn { hdr joinedTo with seq := 1 } true).2, { hdr joinedTo with seq := 1 }, 7, 8, 0,
    ⟨⟨by decide +kernel, by decide +kernel, Prod.ext (by decide +kernel) rfl⟩, by decide +kernel, by decide +kernel, by decide +kernel⟩⟩

theorem witness_ReliableFramesComplete_2b :
    ∃ (s : State) (u : State) (h : FrameHdr) (copy : Nat) (n : Nat) (r : Nat), s.FrameNext h true (.copyEnd copy n r) u :=
  ⟨stReliableFramesComplete1b, (stReliableFramesComplete1b.frameIn { hdr stReliableFramesComplete1b with seq := 1 } true).2, { hdr
    stReliableFramesComplete1b with seq := 1 }, 7, 0, 0,
    ⟨⟨by decide +kernel, by decide +kernel, Prod.ext (by decide +kernel) rfl⟩, by decide +kernel, by decide +kernel, by decide +kernel⟩⟩

theorem witness_ReliableFramesComplete_3 :
    ∃ (s : State) (u : State) (h : FrameHdr) (es : List RollEntry), s.FrameNext h true (.rollup es) u :=
  ⟨joinedTo, (joinedTo.frameIn { hdr joinedTo with seq := 1 } true).2, { hdr joinedTo with seq := 1 }, [⟨5, true, false, 1, 3⟩],
    ⟨⟨by decide +kernel, by decide +kernel, Prod.ext (by decide +kernel) rfl⟩, by decide +kernel, by decide +kernel, by decide +kernel⟩⟩

theorem witness_ReliableFramesComplete_4 :
    ∃ (s : State) (u : State) (h : FrameHdr) (n : Nat) (es : List RegEntry), s.FrameNext h true (.registry n es) u :=
  ⟨joinedTo, (joinedTo.frameIn { hdr joinedTo with seq := 1 } true).2, { hdr joinedTo with seq := 1 }, 2, [⟨5, 1, 0⟩, ⟨12, 3, 2⟩],
    ⟨⟨by decide +kernel, by decide +kernel, Prod.ext (by decide +kernel) rfl⟩, by decide +kernel, by decide +kernel, by decide +kernel⟩⟩

theorem witness_ReliableFramesComplete_5 :
    ∃ (s : State) (u : State) (h : FrameHdr) (r : Nat) (e : Nat) (i : Nat), s.FrameNext h true (.manager r e i) u :=
  ⟨joinedTo, (joinedTo.frameIn { hdr joinedTo with seq := 1 } true).2, { hdr joinedTo with seq := 1 }, 1, 1, 5,
    ⟨⟨by decide +kernel, by decide +kernel, Prod.ext (by decide +kernel) rfl⟩, by decide +kernel, by decide +kernel, by decide +kernel⟩⟩

theorem witness_ReliableFramesComplete_6 :
    ∃ (s : State) (u : State) (h : FrameHdr) (k : JoinTicket), s.FrameNext h false (.join k) u :=
  ⟨joinedTo, (joinedTo.frameIn { hdr joinedTo with seq := 1 } false).2, { hdr joinedTo with seq := 1 }, ⟨true, 0, 0, 9, 0, 0, 0, 0⟩,
    ⟨⟨by decide +kernel, by decide +kernel, Prod.ext (by decide +kernel) rfl⟩, by decide +kernel, by decide +kernel, by decide +kernel⟩⟩

theorem witness_ReliableFramesComplete_7a :
    ∃ (s : State) (u : State) (h : FrameHdr) (es : List RegEntry), s.FrameNext h false (.joinAck es) u :=
  ⟨joinedTo, (joinedTo.frameIn { hdr joinedTo with seq := 1 } false).2, { hdr joinedTo with seq := 1 }, [⟨5, 1, 0⟩],
    ⟨⟨by decide +kernel, by decide +kernel, Prod.ext (by decide +kernel) rfl⟩, by decide +kernel, by decide +kernel, by decide +kernel⟩⟩

theorem witness_ReliableFramesComplete_7b :
    ∃ (s : State) (u : State) (h : FrameHdr) (es : List RegEntry), s.FrameNext h false (.joinAck es) u :=
  ⟨joinedTo.setFld F.strStatJoined 0, ((joinedTo.setFld F.strStatJoined 0).frameIn { hdr (joinedTo.setFld F.strStatJoined 0) with seq := 1 }
    false).2, { hdr (joinedTo.setFld F.strStatJoined 0) with seq := 1 }, [⟨5, 1, 0⟩],
    ⟨⟨by decide +kernel, by decide +kernel, Prod.ext (by decide +kernel) rfl⟩, by decide +kernel, by decide +kernel, by decide +kernel⟩⟩

theorem witness_ReliableFramesComplete_8 :
    ∃ (s : State) (u : State) (h : FrameHdr), s.FrameNext h true .patrol u :=
  ⟨joinedTo, (joinedTo.frameIn { hdr joinedTo with seq := 1 } true).2, { hdr joinedTo with seq := 1 },
    ⟨⟨by decide +kernel, by decide +kernel, Prod.ext (by decide +kernel) rfl⟩, by decide +kernel, by decide +kernel, by decide +kernel⟩⟩

theorem witness_ReliableFramesComplete_9 :
    ∃ (s : State) (u : State) (h : FrameHdr) (o : Nat) (l : List Nat), s.FrameNext h true (.fwPart o l) u :=
  ⟨joinedTo, (joinedTo.frameIn { hdr joinedTo with seq := 1 } true).2, { hdr joinedTo with seq := 1 }, 0, [3, 4],
    ⟨⟨by decide +kernel, by decide +kernel, Prod.ext (by decide +kernel) rfl⟩, by decide +kernel, by decide +kernel, by decide +kernel⟩⟩

theorem witness_ReliableFramesComplete_10a :
    ∃ (s : State) (u : State) (h : FrameHdr) (a : Bool) (ok : Bool) (n : Nat), s.FrameNext h true (.schedule a n ok) u :=
  ⟨joinedTo, (joinedTo.frameIn { hdr joinedTo with seq := 1 } true).2, { hdr joinedTo with seq := 1 }, true, true, 1000,
    ⟨⟨by decide +kernel, by decide +kernel, Prod.ext (by decide +kernel) rfl⟩, by decide +kernel, by decide +kernel, by decide +kernel⟩⟩

theorem witness_ReliableFramesComplete_10b :
    ∃ (s : State) (u : State) (h : FrameHdr) (a : Bool) (ok : Bool) (n : Nat), s.FrameNext h true (.schedule a n ok) u :=
  ⟨joinedTo, (joinedTo.frameIn { hdr joinedTo with seq := 1 } true).2, { hdr joinedTo with seq := 1 }, false, true, 0,
    ⟨⟨by decide +kernel, by decide +kernel, Prod.ext (by decide +kernel) rfl⟩, by decide +kernel, by decide +kernel, by decide +kernel⟩⟩

def stReliableFramesComplete11 : State :=
  { joinedTo with str := { joinedTo.str with peers := [(5, { Peer.initial with got := 3, credit := 8 })] } }

theorem witness_ReliableFramesComplete_11 :
    ∃ (s : State) (u : State) (h : FrameHdr), s.FrameTaken h true u ∧ h.seq ≤ (u.peer h.src).got :=
  ⟨stReliableFramesComplete11, (stReliableFramesComplete11.frameIn { hdr stReliableFramesComplete11 with seq := 1 } true).2, { hdr
    stReliableFramesComplete11 with seq := 1 },
    ⟨by decide +kernel, by decide +kernel, Prod.ext (by decide +kernel) rfl⟩,
    by decide +kernel⟩

theorem witness_ReliableFramesComplete_12 :
    ∃ (s : State) (h : FrameHdr), s.strandUp = true ∧ h.port < 2 ∧ h.crcOk = false :=
  ⟨joinedTo, { hdr joinedTo with crcOk := false },
    by decide +kernel⟩

theorem witness_ReliableFramesComplete_13 :
    ∃ (s : State) (h : FrameHdr), s.strandUp = true ∧ h.port < 2 ∧ h.crcOk = true ∧ h.dst ≠ s.ownId :=
  ⟨joinedTo, { hdr joinedTo with dst := 77 },
    by decide +kernel⟩

theorem witness_ReliableFramesComplete_14 :
    ∃ (s : State) (u : State) (h : FrameHdr), s.FrameTaken h true u ∧ u.ps = 3 :=
  ⟨joinedTo.setFld F.pwrStatPs 3, ((joinedTo.setFld F.pwrStatPs 3).frameIn { hdr (joinedTo.setFld F.pwrStatPs 3) with seq := 1 } true).2, { hdr
    (joinedTo.setFld F.pwrStatPs 3) with seq := 1 },
    ⟨by decide +kernel, by decide +kernel, Prod.ext (by decide +kernel) rfl⟩,
    by decide +kernel⟩

theorem witness_StrandTimersComplete_0 :
    ∃ (s : State) (u : State) (h : FrameHdr) (m : FleetMember), s.FrameTaken h true u ∧ Tab.find h.src u.str.members = some m ∧ 2 ≤ u.fleetRole :=
  ⟨joinedTo, (joinedTo.frameIn { hdr joinedTo with seq := 1 } true).2, { hdr joinedTo with seq := 1 }, (Tab.find { hdr joinedTo with seq := 1 }.src
    ((joinedTo.frameIn { hdr joinedTo with seq := 1 } true).2).str.members).getD ⟨0,0,[],0,0⟩,
    ⟨by decide +kernel, by decide +kernel, Prod.ext (by decide +kernel) rfl⟩,
    by decide +kernel,
    by decide +kernel⟩

theorem witness_StrandTimersComplete_1 :
    ∃ (s : State) (u : State) (h : FrameHdr), s.FrameTaken h true u ∧ u.flag F.tkCtlStrandt = false :=
  ⟨joinedTo.setFld F.tkCtlStrandt 0, ((joinedTo.setFld F.tkCtlStrandt 0).frameIn { hdr (joinedTo.setFld F.tkCtlStrandt 0) with seq := 1 } true).2,
    { hdr (joinedTo.setFld F.tkCtlStrandt 0) with seq := 1 },
    ⟨by decide +kernel, by decide +kernel, Prod.ext (by decide +kernel) rfl⟩,
    by decide +kernel⟩

theorem witness_StrandTimersComplete_2 :
    ∃ (s : State) (u : State) (h : FrameHdr), s.FrameTaken h true u ∧ u.flag F.tkCtlStrandt = true ∧ u.str.trips = [] :=
  ⟨joinedTo.setFld F.tkCtlStrandt 1, ((joinedTo.setFld F.tkCtlStrandt 1).frameIn { hdr (joinedTo.setFld F.tkCtlStrandt 1) with seq := 1 } true).2,
    { hdr (joinedTo.setFld F.tkCtlStrandt 1) with seq := 1 },
    ⟨by decide +kernel, by decide +kernel, Prod.ext (by decide +kernel) rfl⟩,
    by decide +kernel,
    by decide +kernel⟩

theorem witness_StrandTimersComplete_3 :
    ∃ (s : State) (u : State) (h : FrameHdr) (copy : Nat) (n : Nat) (c : OutCopy), s.FrameTaken h s.joined u ∧ Tab.find copy u.str.out = some c ∧
    c.peer = h.src ∧ c.acked ≤ n ∧ n < c.total :=
  ⟨ioIn joinedTo 0x81 0 8, ((ioIn joinedTo 0x81 0 8).frameIn { hdr (ioIn joinedTo 0x81 0 8) with seq := 1 } (ioIn joinedTo 0x81 0 8).joined).2, {
    hdr (ioIn joinedTo 0x81 0 8) with seq := 1 }, 7, 4, (Tab.find 7 (((ioIn joinedTo 0x81 0 8).frameIn { hdr (ioIn joinedTo 0x81 0 8) with seq := 1
    } (ioIn joinedTo 0x81 0 8).joined).2).str.out).getD anOut,
    ⟨by decide +kernel, by decide +kernel, Prod.ext (by decide +kernel) rfl⟩,
    by decide +kernel,
    by decide +kernel,
    by decide +kernel,
    by decide +kernel⟩

theorem witness_StrandTimersComplete_4 :
    ∃ (s : State) (u : State) (h : FrameHdr) (copy : Nat), s.FrameTaken h s.joined u ∧ Tab.find copy u.str.out = none :=
  ⟨joinedTo, (joinedTo.frameIn { hdr joinedTo with seq := 1 } joinedTo.joined).2, { hdr joinedTo with seq := 1 }, 8,
    ⟨by decide +kernel, by decide +kernel, Prod.ext (by decide +kernel) rfl⟩,
    by decide +kernel⟩

theorem witness_StrandTimersComplete_5 :
    ∃ (s : State) (u : State) (h : FrameHdr) (copy : Nat), s.FrameTaken h s.joined u ∧ Tab.find copy u.str.out = none ∧ u.joined = true :=
  ⟨joinedTo, (joinedTo.frameIn { hdr joinedTo with seq := 1 } joinedTo.joined).2, { hdr joinedTo with seq := 1 }, 8,
    ⟨by decide +kernel, by decide +kernel, Prod.ext (by decide +kernel) rfl⟩,
    by decide +kernel,
    by decide +kernel⟩

theorem witness_StrandTimersComplete_6a :
    ∃ (s : State) (u : State) (h : FrameHdr), s.FrameTaken h s.joined u :=
  ⟨joinedTo, (joinedTo.frameIn { hdr joinedTo with seq := 1 } joinedTo.joined).2, { hdr joinedTo with seq := 1 },
    ⟨by decide +kernel, by decide +kernel, Prod.ext (by decide +kernel) rfl⟩⟩

theorem witness_StrandTimersComplete_6b :
    ∃ (s : State) (u : State) (h : FrameHdr), s.FrameTaken h s.joined u :=
  ⟨joinedTo.setFld F.strStatJoined 0, ((joinedTo.setFld F.strStatJoined 0).frameIn { hdr (joinedTo.setFld F.strStatJoined 0) with seq := 1 }
    (joinedTo.setFld F.strStatJoined 0).joined).2, { hdr (joinedTo.setFld F.strStatJoined 0) with seq := 1 },
    ⟨by decide +kernel, by decide +kernel, Prod.ext (by decide +kernel) rfl⟩⟩

theorem witness_StrandTimersComplete_7 :
    ∃ (s : State) (p : Nat), s.armed (.holdExpiry p) = true :=
  ⟨armed joinedTo [.holdExpiry 5], 5,
    by decide +kernel⟩

theorem witness_StrandTimersComplete_8 :
    ∃ (s : State) (p : Nat), s.armed (.ackDelay p) = true ∧ s.strandUp = true :=
  ⟨armed joinedTo [.ackDelay 5], 5,
    by decide +kernel⟩

theorem witness_StrandTimersComplete_9 :
    ∃ (s : State) (p : Nat) (n : Nat), s.armed (.retransmit p n) = true ∧ (s.peer p).unacked.find? (fun u => decide (u.seq = n)) = none :=
  ⟨armed joinedTo [.retransmit 5 2], 5, 2,
    by decide +kernel⟩

def stStrandTimersComplete10 : State :=
  armed { joinedTo with str := { joinedTo.str with peers := [(5, { Peer.initial with sent := 4, unacked := [⟨3, 0x14, [1,2], 3⟩, ⟨2, 0x10, [7], 8⟩] })] } } [.retransmit 5 2, .retransmit 5 3, .creditWait 5]

theorem witness_StrandTimersComplete_10 :
    ∃ (s : State) (p : Nat) (n : Nat) (x : Unacked), s.armed (.retransmit p n) = true ∧ (s.peer p).unacked.find? (fun u => decide (u.seq = n)) =
    some x ∧ s.armed (.holdExpiry p) = false ∧ x.type ≠ 0x11 ∧ 8 ≤ x.tries :=
  ⟨stStrandTimersComplete10, 5, 2, ((stStrandTimersComplete10.peer 5).unacked.find? (fun u => decide (u.seq = 2))).getD ⟨0,0,[],0⟩,
    by decide +kernel⟩

theorem witness_StrandTimersComplete_11 :
    ∃ (s : State) (p : Nat) (n : Nat) (x : Unacked), s.armed (.retransmit p n) = true ∧ (s.peer p).unacked.find? (fun u => decide (u.seq = n)) =
    some x ∧ s.armed (.holdExpiry p) = false ∧ x.type ≠ 0x11 ∧ x.tries < 8 :=
  ⟨stStrandTimersComplete10, 5, 3, ((stStrandTimersComplete10.peer 5).unacked.find? (fun u => decide (u.seq = 3))).getD ⟨0,0,[],0⟩,
    by decide +kernel⟩

theorem witness_StrandTimersComplete_12 :
    ∃ (s : State) (p : Nat), s.armed (.creditWait p) = true :=
  ⟨stStrandTimersComplete10, 5,
    by decide +kernel⟩

def stStrandTimersComplete13 : State :=
  armed ({ joinedTo with str := { joinedTo.str with ins := [(3, { peer := 5, id := 7, win := 0, off := 0, count := 64, recv := 0, ackedSlots := 0, writes := [{ fetch := 40, nsid := 1, lba := 0, count := 8, got := [], buffered := true, exposed := false, acked := false }] })] } } : State) [.strandWrite 3]

theorem witness_StrandTimersComplete_13 :
    ∃ (s : State) (k : Nat) (c : InCopy), s.armed (.strandWrite k) = true ∧ Tab.find k s.str.ins = some c :=
  ⟨stStrandTimersComplete13, 3, (Tab.find 3 stStrandTimersComplete13.str.ins).getD anIn,
    by decide +kernel⟩

theorem witness_StrandTimersComplete_14 :
    ∃ (s : State) (k : Nat) (f : Nat) (c : InCopy) (w : InWrite), Tab.find k s.str.ins = some c ∧ c.writes.find? (fun w => decide (w.fetch = f) &&
    !w.acked) = some w ∧ w.buffered = true ∧ w.exposed = false ∧ c.ackedSlots + w.count ≠ c.count :=
  ⟨stStrandTimersComplete13, 3, 40, (Tab.find 3 stStrandTimersComplete13.str.ins).getD anIn, (((Tab.find 3 stStrandTimersComplete13.str.ins).getD
    anIn).writes.find? (fun w => decide (w.fetch = 40) && !w.acked)).getD anInWrite,
    by decide +kernel⟩

def stStrandTimersComplete15 : State :=
  (armed joinedTo [.heartbeat, .heartbeatMiss 5, .rollup, .sectionStale 3, .registry, .managerLost, .registryLoad, .timeExchange]).setFld F.strStatJoined 0

theorem witness_StrandTimersComplete_15 :
    ∃ (s : State), s.armed .heartbeat = true ∧ s.joined = false :=
  ⟨stStrandTimersComplete15,
    by decide +kernel⟩

def stStrandTimersComplete16 : State :=
  armed joinedTo [.heartbeat, .heartbeatMiss 5, .rollup, .sectionStale 3, .registry, .managerLost, .registryLoad, .timeExchange]

theorem witness_StrandTimersComplete_16 :
    ∃ (s : State), s.armed .heartbeat = true ∧ s.joined = true ∧ s.managerOf ≠ 0 ∧ s.managerOf ≠ s.ownId ∧ s.strandUp = true :=
  ⟨stStrandTimersComplete16,
    by decide +kernel⟩

theorem witness_StrandTimersComplete_17 :
    ∃ (s : State) (p : Nat) (m : FleetMember), s.armed (.heartbeatMiss p) = true ∧ Tab.find p s.str.members = some m :=
  ⟨stStrandTimersComplete16, 5, (Tab.find 5 stStrandTimersComplete16.str.members).getD ⟨0,0,[],0,0⟩,
    by decide +kernel⟩

def stStrandTimersComplete18 : State :=
  (armed joinedTo [.heartbeat, .heartbeatMiss 5, .rollup, .sectionStale 3, .registry, .managerLost, .registryLoad, .timeExchange]).setFld F.strIdRole 1

theorem witness_StrandTimersComplete_18 :
    ∃ (s : State), s.armed .rollup = true ∧ s.fleetRole = 1 :=
  ⟨stStrandTimersComplete18,
    by decide +kernel⟩

theorem witness_StrandTimersComplete_19 :
    ∃ (s : State) (k : Nat), k < 64 ∧ s.armed (.sectionStale k) = true :=
  ⟨stStrandTimersComplete16, 3,
    by decide +kernel⟩

theorem witness_StrandTimersComplete_20 :
    ∃ (s : State), s.armed .registry = true ∧ s.fleetRole < 2 :=
  ⟨stStrandTimersComplete18,
    by decide +kernel⟩

theorem witness_StrandTimersComplete_21 :
    ∃ (s : State), s.armed .managerLost = true ∧ s.managerOf ≠ 0 ∧ s.managerOf ≠ s.ownId :=
  ⟨stStrandTimersComplete16,
    by decide +kernel⟩

theorem witness_StrandTimersComplete_22 :
    ∃ (s : State), s.armed .registryLoad = true ∧ s.str.loading = false :=
  ⟨stStrandTimersComplete16,
    by decide +kernel⟩

def stStrandTimersComplete23 : State :=
  { (armed joinedTo [.heartbeat, .heartbeatMiss 5, .rollup, .sectionStale 3, .registry, .managerLost, .registryLoad, .timeExchange]) with str := { joinedTo.str with loading := true } }

theorem witness_StrandTimersComplete_23 :
    ∃ (s : State), s.armed .registryLoad = true ∧ s.str.loading = true :=
  ⟨stStrandTimersComplete23,
    by decide +kernel⟩

theorem witness_StrandTimersComplete_24 :
    ∃ (s : State), s.armed .timeExchange = true ∧ s.joined = true :=
  ⟨stStrandTimersComplete16,
    by decide +kernel⟩

theorem witness_StrandTimersComplete_25a :
    ∃ (s : State) (p : Nat) (up : Bool), p < 2 ∧ (up = true ∨ s.str.peers = []) :=
  ⟨joinedTo, 1, true,
    by decide +kernel⟩

theorem witness_StrandTimersComplete_25b :
    ∃ (s : State) (p : Nat) (up : Bool), p < 2 ∧ (up = true ∨ s.str.peers = []) :=
  ⟨joinedTo, 0, false,
    by decide +kernel⟩

theorem witness_StrandTimersComplete_26 :
    ∃ (s : State) (p : Nat), p < 2 ∧ s.strandUp = true ∧ s.str.encap < 2 ^ 31 :=
  ⟨joinedTo, 0,
    by decide +kernel⟩

def stStrandTimersComplete27 : State :=
  { joinedTo with str := { joinedTo.str with encap := 0x80000000 } }

theorem witness_StrandTimersComplete_27 :
    ∃ (s : State) (p : Nat), p < 2 ∧ s.strandUp = true ∧ 2 ^ 31 ≤ s.str.encap :=
  ⟨stStrandTimersComplete27, 0,
    by decide +kernel⟩

def stStrandCommandsComplete0a : State :=
  role (admin joinedTo 0xC8 1) 1 .installer

theorem witness_StrandCommandsComplete_0a :
    ∃ (s : State) (c : Nat) (sel : Nat) (v : List Nat) (k : Cmd), s.PfRuns c k ∧ k.sqe.opcode = 0xC8 ∧ s.mayAs k.fn .installer = true ∧
    s.SupervisorFree ∧ strandValid sel v = true :=
  ⟨stStrandCommandsComplete0a, 1, 0, [1, 0x0600, 5, 1, 7, 3], theCmd stStrandCommandsComplete0a 1,
    by unfold State.PfRuns State.AdminRuns State.SupervisorFree; decide +kernel⟩

theorem witness_StrandCommandsComplete_0b :
    ∃ (s : State) (c : Nat) (sel : Nat) (v : List Nat) (k : Cmd), s.PfRuns c k ∧ k.sqe.opcode = 0xC8 ∧ s.mayAs k.fn .installer = true ∧
    s.SupervisorFree ∧ strandValid sel v = true :=
  ⟨stStrandCommandsComplete0a, 1, 1, [5, 6], theCmd stStrandCommandsComplete0a 1,
    by unfold State.PfRuns State.AdminRuns State.SupervisorFree; decide +kernel⟩

theorem witness_StrandCommandsComplete_1a :
    ∃ (s : State) (c : Nat) (sel : Nat) (v : List Nat) (k : Cmd), s.PfRuns c k ∧ s.mayAs k.fn .installer = true ∧ s.SupervisorFree ∧ strandValid
    sel v = false :=
  ⟨stStrandCommandsComplete0a, 1, 4, [], theCmd stStrandCommandsComplete0a 1,
    by unfold State.PfRuns State.AdminRuns State.SupervisorFree; decide +kernel⟩

theorem witness_StrandCommandsComplete_1b :
    ∃ (s : State) (c : Nat) (sel : Nat) (v : List Nat) (k : Cmd), s.PfRuns c k ∧ s.mayAs k.fn .installer = true ∧ s.SupervisorFree ∧ strandValid
    sel v = false :=
  ⟨stStrandCommandsComplete0a, 1, 2, [4], theCmd stStrandCommandsComplete0a 1,
    by unfold State.PfRuns State.AdminRuns State.SupervisorFree; decide +kernel⟩

def stStrandCommandsComplete2a : State :=
  role (admin ({ joinedTo with keys := { joinedTo.keys with instKey := some 4 } }) 0xC9 1) 1 .operator

theorem witness_StrandCommandsComplete_2a :
    ∃ (s : State) (c : Nat) (k : Cmd), s.PfRuns c k ∧ k.sqe.opcode = 0xC9 ∧ s.mayAs k.fn .operator = true ∧ s.SupervisorFree :=
  ⟨stStrandCommandsComplete2a, 1, theCmd stStrandCommandsComplete2a 1,
    by unfold State.PfRuns State.AdminRuns State.SupervisorFree; decide +kernel⟩

theorem witness_StrandCommandsComplete_2b :
    ∃ (s : State) (c : Nat) (k : Cmd), s.PfRuns c k ∧ k.sqe.opcode = 0xC9 ∧ s.mayAs k.fn .operator = true ∧ s.SupervisorFree :=
  ⟨role (admin joinedTo 0xC9 1) 1 .operator, 1, theCmd (role (admin joinedTo 0xC9 1) 1 .operator) 1,
    by unfold State.PfRuns State.AdminRuns State.SupervisorFree; decide +kernel⟩

def stStrandCommandsComplete3 : State :=
  let z := ioIn joinedTo 0x81 0 8;
  { z with nss := [(1, { ns 4096 with lbaf := 1 })] }

theorem witness_StrandCommandsComplete_3 :
    ∃ (s : State) (c : Nat) (k : Cmd) (n : Ns), s.NsRuns c 0x81 k n ∧ n.lbaf ≠ 0 :=
  ⟨stStrandCommandsComplete3, 1, theCmd stStrandCommandsComplete3 1, theNs stStrandCommandsComplete3 1,
    by unfold State.NsRuns State.IoRuns; decide +kernel⟩

def stStrandCommandsComplete4 : State :=
  ((let z := ioIn joinedTo 0x81 0 8; { z with q := { z.q with cmds := z.q.cmds.map (fun (p : Nat × Cmd) => (p.1, { p.2 with buffered := true })) } })).setFld F.strStatJoined 0

theorem witness_StrandCommandsComplete_4 :
    ∃ (s : State) (c : Nat) (path : Nat) (win : Nat) (target : Nat) (k : Cmd) (n : Ns), s.NsRuns c 0x81 k n ∧ n.lbaf = 0 ∧ path < 3 ∧ win ≤ 255 ∧ 1
    ≤ target ∧ target ≤ 0x4000 ∧ 1 ≤ k.sqe.nlb ∧ k.sqe.nlb ≤ 65536 ∧ k.sqe.slba + k.sqe.nlb ≤ n.size ∧ s.joined = false :=
  ⟨stStrandCommandsComplete4, 1, 2, 255, 0x4000, theCmd stStrandCommandsComplete4 1, theNs stStrandCommandsComplete4 1,
    by unfold State.NsRuns State.IoRuns; decide +kernel⟩

def stStrandCommandsComplete5 : State :=
  let z := ioIn { joinedTo with str := { joinedTo.str with out := [] } } 0x81 0 8;
  { z with q := { z.q with cmds := z.q.cmds.map (fun (p : Nat × Cmd) => (p.1, { p.2 with buffered := true })) } }

theorem witness_StrandCommandsComplete_5 :
    ∃ (s : State) (c : Nat) (path : Nat) (win : Nat) (target : Nat) (k : Cmd) (n : Ns), s.NsRuns c 0x81 k n ∧ n.lbaf = 0 ∧ path < 3 ∧ win ≤ 255 ∧ 1
    ≤ target ∧ target ≤ 0x4000 ∧ 1 ≤ k.sqe.nlb ∧ k.sqe.nlb ≤ 65536 ∧ k.sqe.slba + k.sqe.nlb ≤ n.size ∧ s.joined = true ∧ Tab.has target
    s.str.members = true ∧ s.strandUp = true ∧ s.str.out.any (fun x => decide (x.2.cmd = c)) = false ∧ k.buffered = true :=
  ⟨stStrandCommandsComplete5, 1, 2, 255, 5, theCmd stStrandCommandsComplete5 1, theNs stStrandCommandsComplete5 1,
    by unfold State.NsRuns State.IoRuns; decide +kernel⟩

theorem witness_FirmwareRowsComplete_0a :
    ∃ (s : State) (c : Nat) (len : Nat) (k : Cmd), s.PfRuns c k ∧ s.SupervisorFree ∧ len % 4096 = 0 ∧ 0 < len ∧ len ≤ 67108864 :=
  ⟨admin flash 0x11 1, 1, 8192, theCmd (admin flash 0x11 1) 1,
    by unfold State.PfRuns State.AdminRuns State.SupervisorFree; decide +kernel⟩

theorem witness_FirmwareRowsComplete_0b :
    ∃ (s : State) (c : Nat) (len : Nat) (k : Cmd), s.PfRuns c k ∧ s.SupervisorFree ∧ len % 4096 = 0 ∧ 0 < len ∧ len ≤ 67108864 :=
  ⟨admin flash 0x11 1, 1, 67108864, theCmd (admin flash 0x11 1) 1,
    by unfold State.PfRuns State.AdminRuns State.SupervisorFree; decide +kernel⟩

theorem witness_FirmwareRowsComplete_1a :
    ∃ (s : State) (c : Nat) (off : Nat) (len : Nat) (k : Cmd), s.PfRuns c k ∧ s.SupervisorFree ∧ (off % 4096 ≠ 0 ∨ len % 4096 ≠ 0 ∨ 67108864 < off
    + len ∨ (off ≠ 0 ∧ ∃ o, s.fwu.owner = some o ∧ o ≠ k.fn)) :=
  ⟨admin flash 0x11 1, 1, 4096, 67108864, theCmd (admin flash 0x11 1) 1,
    by unfold State.PfRuns State.AdminRuns State.SupervisorFree; decide +kernel⟩

theorem witness_FirmwareRowsComplete_1b :
    ∃ (s : State) (c : Nat) (off : Nat) (len : Nat) (k : Cmd), s.PfRuns c k ∧ s.SupervisorFree ∧ (off % 4096 ≠ 0 ∨ len % 4096 ≠ 0 ∨ 67108864 < off
    + len ∨ (off ≠ 0 ∧ ∃ o, s.fwu.owner = some o ∧ o ≠ k.fn)) :=
  ⟨admin flash 0x11 1, 1, 4096, 5, theCmd (admin flash 0x11 1) 1,
    by unfold State.PfRuns State.AdminRuns State.SupervisorFree; decide +kernel⟩

theorem witness_FirmwareRowsComplete_2 :
    ∃ (s : State) (c : Nat) (k : Cmd), s.PfRuns c k ∧ s.SupervisorFree ∧ s.fwu.run = none ∧ s.lc ≠ 0 ∧ (s.roleOf k.fn).num < 2 :=
  ⟨deployed (admin flash 0x10 1), 1, theCmd (deployed (admin flash 0x10 1)) 1,
    by unfold State.PfRuns State.AdminRuns State.SupervisorFree; decide +kernel⟩

theorem witness_FirmwareRowsComplete_3a :
    ∃ (s : State) (c : Nat) (ca : Nat) (fs : Nat) (k : Cmd), s.PfRuns c k ∧ s.SupervisorFree ∧ s.fwu.run = none ∧ s.lc ≠ 0 ∧ 2 ≤ (s.roleOf
    k.fn).num ∧ (3 < ca ∨ 2 < fs) :=
  ⟨role (admin flash 0x11 1) 1 .installer, 1, 4, 1, theCmd (role (admin flash 0x11 1) 1 .installer) 1,
    by unfold State.PfRuns State.AdminRuns State.SupervisorFree; decide +kernel⟩

theorem witness_FirmwareRowsComplete_3b :
    ∃ (s : State) (c : Nat) (ca : Nat) (fs : Nat) (k : Cmd), s.PfRuns c k ∧ s.SupervisorFree ∧ s.fwu.run = none ∧ s.lc ≠ 0 ∧ 2 ≤ (s.roleOf
    k.fn).num ∧ (3 < ca ∨ 2 < fs) :=
  ⟨role (admin flash 0x11 1) 1 .installer, 1, 1, 3, theCmd (role (admin flash 0x11 1) 1 .installer) 1,
    by unfold State.PfRuns State.AdminRuns State.SupervisorFree; decide +kernel⟩

theorem witness_FirmwareRowsComplete_4a :
    ∃ (s : State) (c : Nat) (ca : Nat) (fs : Nat) (k : Cmd), s.PfRuns c k ∧ s.SupervisorFree ∧ s.fwu.run = none ∧ s.lc ≠ 0 ∧ 2 ≤ (s.roleOf
    k.fn).num ∧ fs ≤ 2 ∧ (ca = 0 ∨ (ca = 1 ∧ 1 ≤ fs)) :=
  ⟨role (admin flash 0x10 1) 1 .installer, 1, 0, 0, theCmd (role (admin flash 0x10 1) 1 .installer) 1,
    by unfold State.PfRuns State.AdminRuns State.SupervisorFree; decide +kernel⟩

theorem witness_FirmwareRowsComplete_4b :
    ∃ (s : State) (c : Nat) (ca : Nat) (fs : Nat) (k : Cmd), s.PfRuns c k ∧ s.SupervisorFree ∧ s.fwu.run = none ∧ s.lc ≠ 0 ∧ 2 ≤ (s.roleOf
    k.fn).num ∧ fs ≤ 2 ∧ (ca = 0 ∨ (ca = 1 ∧ 1 ≤ fs)) :=
  ⟨role (admin flash 0x10 1) 1 .installer, 1, 1, 2, theCmd (role (admin flash 0x10 1) 1 .installer) 1,
    by unfold State.PfRuns State.AdminRuns State.SupervisorFree; decide +kernel⟩

def stFirmwareRowsComplete5 : State :=
  let z := role (admin flash 0x10 1) 1 .installer;
  { z with map := { z.map with stalled := [(0, 0)] } }

theorem witness_FirmwareRowsComplete_5 :
    ∃ (s : State) (c : Nat) (fs : Nat) (k : Cmd), s.PfRuns c k ∧ s.SupervisorFree ∧ s.fwu.run = none ∧ s.lc ≠ 0 ∧ 2 ≤ (s.roleOf k.fn).num ∧ fs ≤ 2
    ∧ s.sanitizing = false ∧ (s.adm.format.state = 1 ∨ s.map.stalled ≠ []) :=
  ⟨stFirmwareRowsComplete5, 1, 1, theCmd stFirmwareRowsComplete5 1,
    by unfold State.PfRuns State.AdminRuns State.SupervisorFree; decide +kernel⟩

theorem witness_FirmwareRowsComplete_6 :
    ∃ (s : State) (c : Nat) (fs : Nat) (k : Cmd), s.PfRuns c k ∧ s.SupervisorFree ∧ s.fwu.run = none ∧ s.lc ≠ 0 ∧ 2 ≤ (s.roleOf k.fn).num ∧ fs ≤ 2
    ∧ s.adm.format.state ≠ 1 ∧ s.map.stalled = [] :=
  ⟨role (admin flash 0x10 1) 1 .installer, 1, 1, theCmd (role (admin flash 0x10 1) 1 .installer) 1,
    by unfold State.PfRuns State.AdminRuns State.SupervisorFree; decide +kernel⟩

def stFirmwareRowsComplete7 : State :=
  let z := withCmd ((let z := role (admin flash 0x10 1) 1 .installer;
  { z with fwu := { z.fwu with run := some ⟨some 1, 0, 2⟩ }, q := { z.q with fetchStop := true } })) 3 (slot 0 false (entry 2 1 0 8));
  { z with q := { z.q with lastFetch := 1 } }

theorem witness_FirmwareRowsComplete_7 :
    ∃ (s : State) (c : Nat) (k : Cmd) (r : Activation), s.PfRuns c k ∧ s.SupervisorFree ∧ s.fwu.run = some r ∧ r.cmd = some c ∧ s.drainedFor (some
    c) = false :=
  ⟨stFirmwareRowsComplete7, 1, theCmd stFirmwareRowsComplete7 1, stFirmwareRowsComplete7.fwu.run.getD ⟨none, 0, 0⟩,
    by unfold State.PfRuns State.AdminRuns State.SupervisorFree; decide +kernel⟩

def stFirmwareRowsComplete8 : State :=
  let z := role (admin flash 0x10 1) 1 .installer;
  { z with fwu := { z.fwu with run := some ⟨some 1, 0, 2⟩ }, q := { z.q with fetchStop := true } }

theorem witness_FirmwareRowsComplete_8 :
    ∃ (s : State) (c : Nat) (k : Cmd) (r : Activation), s.PfRuns c k ∧ s.SupervisorFree ∧ s.fwu.run = some r ∧ r.cmd = some c ∧ s.drainedFor (some
    c) = true ∧ 1 ≤ r.slot ∧ r.slot ≤ 2 :=
  ⟨stFirmwareRowsComplete8, 1, theCmd stFirmwareRowsComplete8 1, stFirmwareRowsComplete8.fwu.run.getD ⟨none, 0, 0⟩,
    by unfold State.PfRuns State.AdminRuns State.SupervisorFree; decide +kernel⟩

theorem witness_FirmwareRowsComplete_9 :
    ∃ (s : State) (c : Nat) (x : Nat) (k : Cmd) (r : Activation), s.PfRuns c k ∧ s.SupervisorFree ∧ s.fwu.run = some r ∧ r.cmd = some c ∧
    s.drainedFor (some c) = true ∧ 2 ≤ x ∧ x ≤ 6 :=
  ⟨stFirmwareRowsComplete8, 1, 4, theCmd stFirmwareRowsComplete8 1, stFirmwareRowsComplete8.fwu.run.getD ⟨none, 0, 0⟩,
    by unfold State.PfRuns State.AdminRuns State.SupervisorFree; decide +kernel⟩

def stFirmwareRowsComplete10 : State :=
  armed ((let z := role (admin flash 0x10 1) 1 .installer; { z with fwu := { z.fwu with run := some ⟨some 1, 0, 2⟩ }, q := { z.q with fetchStop := true } })) [.activationDrain]

theorem witness_FirmwareRowsComplete_10 :
    ∃ (s : State) (r : Activation), s.armed .activationDrain = true ∧ s.fwu.run = some r ∧ 1 ≤ r.slot ∧ r.slot ≤ 2 :=
  ⟨stFirmwareRowsComplete10, stFirmwareRowsComplete10.fwu.run.getD ⟨none, 0, 0⟩,
    by decide +kernel⟩

theorem witness_FirmwareRowsComplete_11 :
    ∃ (s : State), s.armed .activationDrain = false :=
  ⟨flash,
    by decide +kernel⟩

def stFirmwareRowsComplete12 : State :=
  let z := (flash.setFld F.fwuStatPending 1).setFld F.fwuSlotPendingslot 2;
  { z with fwu := { z.fwu with armed := some 0 } }

theorem witness_FirmwareRowsComplete_12 :
    ∃ (s : State) (at_ : Nat), s.fwu.run = none ∧ s.fwu.armed = some at_ ∧ at_ ≤ s.devTime ∧ s.sup.yielded = none ∧ s.flag F.fwuStatPending = true
    ∧ s.activationBarred = false :=
  ⟨stFirmwareRowsComplete12, 0,
    by decide +kernel⟩

def stFirmwareRowsComplete13 : State :=
  let z := (let z := (flash.setFld F.fwuStatPending 1).setFld F.fwuSlotPendingslot 2;
  { z with fwu := { z.fwu with armed := some 0 } });
  { z with map := { z.map with stalled := [(0, 0)] } }

theorem witness_FirmwareRowsComplete_13 :
    ∃ (s : State) (at_ : Nat), s.fwu.run = none ∧ s.fwu.armed = some at_ ∧ at_ ≤ s.devTime ∧ s.sup.yielded = none ∧ s.activationBarred = true :=
  ⟨stFirmwareRowsComplete13, 0,
    by decide +kernel⟩

def stFirmwareRowsComplete14 : State :=
  let z := (let z := (flash.setFld F.fwuStatPending 1).setFld F.fwuSlotPendingslot 2;
  { z with fwu := { z.fwu with armed := some 0 } });
  { z with fwu := { z.fwu with armed := some 99000000000000 } }

theorem witness_FirmwareRowsComplete_14 :
    ∃ (s : State) (at_ : Nat), s.fwu.run = none ∧ s.fwu.armed = some at_ ∧ s.devTime < at_ :=
  ⟨stFirmwareRowsComplete14, 99000000000000,
    by decide +kernel⟩

def stFirmwareRowsComplete15 : State :=
  let z := (let z := (flash.setFld F.fwuStatPending 1).setFld F.fwuSlotPendingslot 2;
  { z with fwu := { z.fwu with armed := some 0 } });
  { z with fwu := { z.fwu with run := some ⟨none, 0, 2⟩ } }

theorem witness_FirmwareRowsComplete_15 :
    ∃ (s : State) (r : Activation), s.fwu.run = some r ∧ r.cmd = none ∧ s.drainedFor none = true ∧ 1 ≤ r.slot ∧ r.slot ≤ 2 :=
  ⟨stFirmwareRowsComplete15, stFirmwareRowsComplete15.fwu.run.getD ⟨none, 0, 0⟩,
    by decide +kernel⟩

def stStoreRowsComplete0 : State :=
  let z := flash;
  { z with stg := { z.stg with staged := [⟨0x1000, 1, 4, 0, 3, 0, 0, 0, 0⟩], nextSeq := 4 }, cfs := { z.cfs with op := some ⟨5, .settings, 3, 4⟩ } }

theorem witness_StoreRowsComplete_0 :
    ∃ (s : State) (j : CfsJob), s.cfs.op = some j ∧ j.isErase = false ∧ 2 ≤ j.words ∧ s.sec.lcRun = none :=
  ⟨stStoreRowsComplete0, stStoreRowsComplete0.cfs.op.getD ⟨0, .settings, 0, 0⟩,
    by decide +kernel⟩

def stStoreRowsComplete1 : State :=
  let z := flash;
  { z with stg := { z.stg with staged := [⟨0x1000, 1, 4, 0, 3, 0, 0, 0, 0⟩], nextSeq := 4 }, cfs := { z.cfs with op := some ⟨1, .event 3, 1, 2⟩ } }

theorem witness_StoreRowsComplete_1 :
    ∃ (s : State) (j : CfsJob) (seq : Nat), s.cfs.op = some j ∧ j.work = .event seq ∧ j.words = 1 ∧ s.sec.lcRun = none ∧ s.stg.staged.any (fun r =>
    r.seq = seq) = true :=
  ⟨stStoreRowsComplete1, stStoreRowsComplete1.cfs.op.getD ⟨0, .settings, 0, 0⟩, 3,
    by decide +kernel⟩

theorem witness_StoreRowsComplete_2a :
    ∃ (s : State) (j : CfsJob), s.cfs.op = some j ∧ j.isErase = false ∧ j.retires = false ∧ s.sec.lcRun = none :=
  ⟨stStoreRowsComplete0, stStoreRowsComplete0.cfs.op.getD ⟨0, .settings, 0, 0⟩,
    by decide +kernel⟩

theorem witness_StoreRowsComplete_2b :
    ∃ (s : State) (j : CfsJob), s.cfs.op = some j ∧ j.isErase = false ∧ j.retires = false ∧ s.sec.lcRun = none :=
  ⟨stStoreRowsComplete1, stStoreRowsComplete1.cfs.op.getD ⟨0, .settings, 0, 0⟩,
    by decide +kernel⟩

theorem witness_StoreRowsComplete_3a :
    ∃ (s : State) (j : CfsJob), s.cfs.op = some j ∧ j.isErase = false ∧ j.retires = false ∧ s.sec.lcRun = none :=
  ⟨stStoreRowsComplete0, stStoreRowsComplete0.cfs.op.getD ⟨0, .settings, 0, 0⟩,
    by decide +kernel⟩

theorem witness_StoreRowsComplete_3b :
    ∃ (s : State) (j : CfsJob), s.cfs.op = some j ∧ j.isErase = false ∧ j.retires = false ∧ s.sec.lcRun = none :=
  ⟨stStoreRowsComplete1, stStoreRowsComplete1.cfs.op.getD ⟨0, .settings, 0, 0⟩,
    by decide +kernel⟩

def stStoreRowsComplete4 : State :=
  let z := flash;
  { z with stg := { z.stg with staged := [⟨0x1000, 1, 4, 0, 3, 0, 0, 0, 0⟩], nextSeq := 4 }, cfs := { z.cfs with op := some ⟨7, .erase 9, 1, 1⟩ } }

theorem witness_StoreRowsComplete_4 :
    ∃ (s : State) (j : CfsJob) (b : Nat), s.cfs.op = some j ∧ j.work = .erase b ∧ b < 512 :=
  ⟨stStoreRowsComplete4, stStoreRowsComplete4.cfs.op.getD ⟨0, .settings, 0, 0⟩, 9,
    by decide +kernel⟩

theorem witness_StoreRowsComplete_5 :
    ∃ (s : State) (j : CfsJob) (b : Nat), s.cfs.op = some j ∧ j.work = .erase b ∧ b < 512 ∧ (s.sector b).eraseFails = 0 :=
  ⟨stStoreRowsComplete4, stStoreRowsComplete4.cfs.op.getD ⟨0, .settings, 0, 0⟩, 9,
    by decide +kernel⟩

def stStoreRowsComplete6 : State :=
  let z := (let z := flash;
  { z with stg := { z.stg with staged := [⟨0x1000, 1, 4, 0, 3, 0, 0, 0, 0⟩], nextSeq := 4 }, cfs := { z.cfs with op := some ⟨7, .erase 9, 1, 1⟩ } });
  { z with sectors := [(9, ⟨3, 0, 1, false⟩)] }

theorem witness_StoreRowsComplete_6 :
    ∃ (s : State) (j : CfsJob) (b : Nat), s.cfs.op = some j ∧ j.work = .erase b ∧ b < 512 ∧ 1 ≤ (s.sector b).eraseFails :=
  ⟨stStoreRowsComplete6, stStoreRowsComplete6.cfs.op.getD ⟨0, .settings, 0, 0⟩, 9,
    by decide +kernel⟩

theorem witness_StoreRowsComplete_7 :
    ∃ (s : State) (j : CfsJob) (b : Nat), s.cfs.op = some j ∧ j.work = .erase b ∧ b < 512 :=
  ⟨stStoreRowsComplete4, stStoreRowsComplete4.cfs.op.getD ⟨0, .settings, 0, 0⟩, 9,
    by decide +kernel⟩

theorem witness_StoreRowsComplete_8 :
    ∃ (s : State), s.armed .cfsScrub = true :=
  ⟨armed flash [.cfsScrub],
    by decide +kernel⟩

theorem witness_StoreRowsComplete_9 :
    ∃ (s : State), s.armed .cfsScrub = false :=
  ⟨flash,
    by decide +kernel⟩

theorem witness_StoreRowsComplete_10 :
    ∃ (s : State) (c : Nat) (n : Nat) (o : Nat) (k : Cmd), s.PfRuns c k ∧ 1 ≤ n ∧ o + n ≤ 1024 :=
  ⟨admin flash 0xCE 1, 1, 4, 1020, theCmd (admin flash 0xCE 1) 1,
    by unfold State.PfRuns State.AdminRuns; decide +kernel⟩

theorem witness_StoreRowsComplete_11a :
    ∃ (s : State) (c : Nat) (n : Nat) (o : Nat) (k : Cmd), s.PfRuns c k ∧ (n = 0 ∨ 1024 < o + n) :=
  ⟨admin flash 0xCE 1, 1, 5, 1020, theCmd (admin flash 0xCE 1) 1,
    by unfold State.PfRuns State.AdminRuns; decide +kernel⟩

theorem witness_StoreRowsComplete_11b :
    ∃ (s : State) (c : Nat) (n : Nat) (o : Nat) (k : Cmd), s.PfRuns c k ∧ (n = 0 ∨ 1024 < o + n) :=
  ⟨admin flash 0xCE 1, 1, 0, 0, theCmd (admin flash 0xCE 1) 1,
    by unfold State.PfRuns State.AdminRuns; decide +kernel⟩

def stSecurityRowsComplete0 : State :=
  armed (role flash 1 .maker) [.sessionIdle 1]

theorem witness_SecurityRowsComplete_0 :
    ∃ (s : State) (pf : Nat), pf < 2 ∧ s.armed (.sessionIdle pf) = true ∧ (s.session pf).isSome = true :=
  ⟨stSecurityRowsComplete0, 1,
    by decide +kernel⟩

theorem witness_SecurityRowsComplete_1 :
    ∃ (s : State) (pf : Nat), pf < 2 ∧ s.armed (.sessionIdle pf) = false :=
  ⟨flash, 1,
    by decide +kernel⟩

theorem witness_SecurityRowsComplete_2 :
    ∃ (s : State) (c : Nat) (r : Nat) (k : Cmd), s.PfRuns c k ∧ 1 ≤ r ∧ r ≤ 3 :=
  ⟨admin flash 0xC2 1, 1, 3, theCmd (admin flash 0xC2 1) 1,
    by unfold State.PfRuns State.AdminRuns; decide +kernel⟩

theorem witness_SecurityRowsComplete_3 :
    ∃ (s : State) (c : Nat) (r : Nat) (x : Nat) (k : Cmd), s.PfRuns c k ∧ (x ≠ 0 ∨ r = 0 ∨ 3 < r) :=
  ⟨admin flash 0xC2 1, 1, 4, 0, theCmd (admin flash 0xC2 1) 1,
    by unfold State.PfRuns State.AdminRuns; decide +kernel⟩

def stSecurityRowsComplete4 : State :=
  let z := role (admin flash 0xC0 1) 1 .operator;
  { z with keys := { z.keys with instKey := some 5, makerKey := some 6 }, sec := { z.sec with chal1 := some ⟨7, .installer, 0, false, 3⟩ } }

theorem witness_SecurityRowsComplete_4 :
    ∃ (s : State) (c : Nat) (r : Nat) (n : Nat) (key : Nat) (k : Cmd) (ch : Challenge), s.PfRuns c k ∧ 1 ≤ r ∧ r ≤ 3 ∧ (if k.fn = 0 then
    s.sec.chal0 else s.sec.chal1) = some ch ∧ ch.number = n ∧ ch.role.num = r ∧ s.clk.mono ≤ ch.issued + 30000000000 ∧ (s.recentFails k.fn).length
    < 3 ∧ ((r = 3 ∧ s.lc = 1 → s.flag F.secCtlMakeren = true)) ∧ s.keys.key ch.role = some key :=
  ⟨stSecurityRowsComplete4, 1, 2, 7, (stSecurityRowsComplete4.keys.key (stSecurityRowsComplete4.sec.chal1.getD ⟨0, .none, 0, false, 0⟩).role).getD
    0, theCmd stSecurityRowsComplete4 1, stSecurityRowsComplete4.sec.chal1.getD ⟨0, .none, 0, false, 0⟩,
    by unfold State.PfRuns State.AdminRuns; decide +kernel⟩

theorem witness_SecurityRowsComplete_5a :
    ∃ (s : State) (c : Nat) (r : Nat) (n : Nat) (key : Nat) (k : Cmd) (ch : Challenge), s.PfRuns c k ∧ 1 ≤ r ∧ r ≤ 3 ∧ (if k.fn = 0 then
    s.sec.chal0 else s.sec.chal1) = some ch ∧ s.keys.key ch.role = some key ∧ (ch.number ≠ n ∨ ch.role.num ≠ r ∨ ch.issued + 30000000000 <
    s.clk.mono ∨ 3 ≤ (s.recentFails k.fn).length ∨ (r = 3 ∧ s.lc = 1 ∧ s.flag F.secCtlMakeren = false)) :=
  ⟨stSecurityRowsComplete4, 1, 2, 8, (stSecurityRowsComplete4.keys.key (stSecurityRowsComplete4.sec.chal1.getD ⟨0, .none, 0, false, 0⟩).role).getD
    0, theCmd stSecurityRowsComplete4 1, stSecurityRowsComplete4.sec.chal1.getD ⟨0, .none, 0, false, 0⟩,
    by unfold State.PfRuns State.AdminRuns; decide +kernel⟩

def stSecurityRowsComplete5b : State :=
  let z := role (admin flash 0xC0 1) 1 .operator;
  { z with keys := { z.keys with instKey := some 5, makerKey := some 6 }, sec := { z.sec with chal1 := some ⟨7, .maker, 0, false, 3⟩ } }

theorem witness_SecurityRowsComplete_5b :
    ∃ (s : State) (c : Nat) (r : Nat) (n : Nat) (key : Nat) (k : Cmd) (ch : Challenge), s.PfRuns c k ∧ 1 ≤ r ∧ r ≤ 3 ∧ (if k.fn = 0 then
    s.sec.chal0 else s.sec.chal1) = some ch ∧ s.keys.key ch.role = some key ∧ (ch.number ≠ n ∨ ch.role.num ≠ r ∨ ch.issued + 30000000000 <
    s.clk.mono ∨ 3 ≤ (s.recentFails k.fn).length ∨ (r = 3 ∧ s.lc = 1 ∧ s.flag F.secCtlMakeren = false)) :=
  ⟨stSecurityRowsComplete5b, 1, 3, 7, (stSecurityRowsComplete5b.keys.key (stSecurityRowsComplete5b.sec.chal1.getD ⟨0, .none, 0, false,
    0⟩).role).getD 0, theCmd stSecurityRowsComplete5b 1, stSecurityRowsComplete5b.sec.chal1.getD ⟨0, .none, 0, false, 0⟩,
    by unfold State.PfRuns State.AdminRuns; decide +kernel⟩

theorem witness_SecurityRowsComplete_6 :
    ∃ (s : State) (c : Nat) (k : Cmd), s.PfRuns c k :=
  ⟨role (admin flash 0xC1 1) 1 .maker, 1, theCmd (role (admin flash 0xC1 1) 1 .maker) 1,
    by unfold State.PfRuns State.AdminRuns; decide +kernel⟩

theorem witness_SecurityRowsComplete_7 :
    ∃ (s : State) (c : Nat) (x : Nat) (k : Cmd), s.PfRuns c k ∧ x ≠ 0 :=
  ⟨role (admin flash 0xC1 1) 1 .maker, 1, 5, theCmd (role (admin flash 0xC1 1) 1 .maker) 1,
    by unfold State.PfRuns State.AdminRuns; decide +kernel⟩

theorem witness_SecurityRowsComplete_8 :
    ∃ (s : State) (c : Nat) (target : Nat) (k : Cmd) (need : Role), s.PfRuns c k ∧ s.SupervisorFree ∧ transitionRole s.lc target = some need ∧
    s.mayTransit k.fn target need = true ∧ s.sec.lcRun = none ∧ s.transitionBlocked target = false :=
  ⟨role (admin flash 0xCC 1) 1 .installer, 1, 2, theCmd (role (admin flash 0xCC 1) 1 .installer) 1, (transitionRole (role (admin flash 0xCC 1) 1
    .installer).lc 2).getD .none,
    by unfold State.PfRuns State.AdminRuns State.SupervisorFree; decide +kernel⟩

theorem witness_SecurityRowsComplete_9a :
    ∃ (s : State) (c : Nat) (target : Nat) (k : Cmd), s.PfRuns c k ∧ s.SupervisorFree ∧ s.lc ≤ 2 ∧ (target = s.lc ∨ 3 ≤ target ∨ (s.lc = 2 ∧ target
    = 1)) :=
  ⟨admin flash 0xCC 1, 1, 3, theCmd (admin flash 0xCC 1) 1,
    by unfold State.PfRuns State.AdminRuns State.SupervisorFree; decide +kernel⟩

theorem witness_SecurityRowsComplete_9b :
    ∃ (s : State) (c : Nat) (target : Nat) (k : Cmd), s.PfRuns c k ∧ s.SupervisorFree ∧ s.lc ≤ 2 ∧ (target = s.lc ∨ 3 ≤ target ∨ (s.lc = 2 ∧ target
    = 1)) :=
  ⟨role (admin flash 0xCC 1) 1 .installer, 1, 1, theCmd (role (admin flash 0xCC 1) 1 .installer) 1,
    by unfold State.PfRuns State.AdminRuns State.SupervisorFree; decide +kernel⟩

theorem witness_SecurityRowsComplete_10 :
    ∃ (s : State) (c : Nat) (target : Nat) (k : Cmd) (need : Role), s.PfRuns c k ∧ s.SupervisorFree ∧ transitionRole s.lc target = some need ∧
    s.mayTransit k.fn target need = false :=
  ⟨admin flash 0xCC 1, 1, 1, theCmd (admin flash 0xCC 1) 1, (transitionRole (admin flash 0xCC 1).lc 1).getD .none,
    by unfold State.PfRuns State.AdminRuns State.SupervisorFree; decide +kernel⟩

def stSecurityRowsComplete11 : State :=
  let z := role (admin flash 0xCC 1) 1 .installer;
  { z with fwu := { z.fwu with armed := some 5 } }

theorem witness_SecurityRowsComplete_11 :
    ∃ (s : State) (c : Nat) (target : Nat) (k : Cmd) (need : Role), s.PfRuns c k ∧ s.SupervisorFree ∧ transitionRole s.lc target = some need ∧
    s.mayTransit k.fn target need = true ∧ ((target ≠ 2 ∧ s.nss ≠ []) ∨ s.adm.format.state = 1 ∨ s.fwu.run.isSome = true ∨ s.map.stalled ≠ [] ∨
    s.fwu.armed.isSome = true) :=
  ⟨stSecurityRowsComplete11, 1, 2, theCmd stSecurityRowsComplete11 1, (transitionRole stSecurityRowsComplete11.lc 2).getD .none,
    by unfold State.PfRuns State.AdminRuns State.SupervisorFree; decide +kernel⟩

def stRecorderRowsComplete0 : State :=
  armed (let z := flash; { z with stg := { z.stg with staged := (List.range 7).map ev, nextSeq := 7 }, areas := { z.areas with cast := (List.range 3).map (fun i => ev (i + 1)), last := 0 } }) [.eventPersist]

theorem witness_RecorderRowsComplete_0 :
    ∃ (s : State), s.armed .eventPersist = true ∧ s.sup.yielded = none :=
  ⟨stRecorderRowsComplete0,
    by decide +kernel⟩

theorem witness_RecorderRowsComplete_1 :
    ∃ (s : State), s.armed .eventPersist = false :=
  ⟨flash,
    by decide +kernel⟩

def stRecorderRowsComplete2a : State :=
  let z := role (admin flash 0xCF 1) 1 .operator;
  { z with stg := { z.stg with staged := (List.range 7).map ev, nextSeq := 7 }, areas := { z.areas with cast := (List.range 3).map (fun i => ev (i + 1)), last := 0 } }

theorem witness_RecorderRowsComplete_2a :
    ∃ (s : State) (c : Nat) (n : Nat) (i : Nat) (k : Cmd), s.PfRuns c k ∧ s.mayReadEvents k.fn = true ∧ 1 ≤ n ∧ n ≤ 128 ∧ i < 16384 :=
  ⟨stRecorderRowsComplete2a, 1, 2, 1, theCmd stRecorderRowsComplete2a 1,
    by unfold State.PfRuns State.AdminRuns; decide +kernel⟩

theorem witness_RecorderRowsComplete_2b :
    ∃ (s : State) (c : Nat) (n : Nat) (i : Nat) (k : Cmd), s.PfRuns c k ∧ s.mayReadEvents k.fn = true ∧ 1 ≤ n ∧ n ≤ 128 ∧ i < 16384 :=
  ⟨stRecorderRowsComplete2a, 1, 128, 16383, theCmd stRecorderRowsComplete2a 1,
    by unfold State.PfRuns State.AdminRuns; decide +kernel⟩

def stRecorderRowsComplete3 : State :=
  let z := (let z := role (admin flash 0xCF 1) 1 .operator;
  { z with stg := { z.stg with staged := (List.range 7).map ev, nextSeq := 7 }, areas := { z.areas with cast := (List.range 3).map (fun i => ev (i + 1)), last := 0 } });
  { z with bank1 := { z.bank1 with cursor := 3 } }

theorem witness_RecorderRowsComplete_3 :
    ∃ (s : State) (c : Nat) (n : Nat) (k : Cmd) (r : EventRec), s.PfRuns c k ∧ s.mayReadEvents k.fn = true ∧ (s.bank k.fn).behind = false ∧
    s.findRec (s.bank k.fn).cursor = some r ∧ 1 ≤ n ∧ n ≤ 128 :=
  ⟨stRecorderRowsComplete3, 1, 2, theCmd stRecorderRowsComplete3 1, (stRecorderRowsComplete3.findRec (stRecorderRowsComplete3.bank 1).cursor).getD
    (ev 0),
    by unfold State.PfRuns State.AdminRuns; decide +kernel⟩

def stRecorderRowsComplete4 : State :=
  let z := (let z := role (admin flash 0xCF 1) 1 .operator;
  { z with stg := { z.stg with staged := (List.range 7).map ev, nextSeq := 7 }, areas := { z.areas with cast := (List.range 3).map (fun i => ev (i + 1)), last := 0 } });
  { z with bank1 := { z.bank1 with behind := true } }

theorem witness_RecorderRowsComplete_4 :
    ∃ (s : State) (c : Nat) (n : Nat) (k : Cmd), s.PfRuns c k ∧ s.mayReadEvents k.fn = true ∧ (s.bank k.fn).behind = true ∧ 1 ≤ n ∧ n ≤ 128 :=
  ⟨stRecorderRowsComplete4, 1, 2, theCmd stRecorderRowsComplete4 1,
    by unfold State.PfRuns State.AdminRuns; decide +kernel⟩

theorem witness_RecorderRowsComplete_5a :
    ∃ (s : State) (c : Nat) (a : Nat) (n : Nat) (k : Cmd), s.PfRuns c k ∧ s.mayReadEvents k.fn = true ∧ (n = 0 ∨ 128 < n ∨ 1 < a) :=
  ⟨role (admin flash 0xCF 1) 1 .operator, 1, 2, 4, theCmd (role (admin flash 0xCF 1) 1 .operator) 1,
    by unfold State.PfRuns State.AdminRuns; decide +kernel⟩

theorem witness_RecorderRowsComplete_5b :
    ∃ (s : State) (c : Nat) (a : Nat) (n : Nat) (k : Cmd), s.PfRuns c k ∧ s.mayReadEvents k.fn = true ∧ (n = 0 ∨ 128 < n ∨ 1 < a) :=
  ⟨role (admin flash 0xCF 1) 1 .operator, 1, 0, 129, theCmd (role (admin flash 0xCF 1) 1 .operator) 1,
    by unfold State.PfRuns State.AdminRuns; decide +kernel⟩

theorem witness_RecorderRowsComplete_6 :
    ∃ (s : State) (c : Nat) (k : Cmd), s.PfRuns c k ∧ s.mayReadEvents k.fn = false :=
  ⟨deployed (admin flash 0xCF 1), 1, theCmd (deployed (admin flash 0xCF 1)) 1,
    by unfold State.PfRuns State.AdminRuns; decide +kernel⟩

theorem witness_RecorderRowsComplete_7 :
    ∃ (s : State) (c : Nat) (k : Cmd), s.PfRuns c k ∧ s.mayAs k.fn .installer = true :=
  ⟨role (admin flash 0xD0 1) 1 .installer, 1, theCmd (role (admin flash 0xD0 1) 1 .installer) 1,
    by unfold State.PfRuns State.AdminRuns; decide +kernel⟩

theorem witness_RecorderRowsComplete_8 :
    ∃ (s : State) (c : Nat) (x : Nat) (k : Cmd), s.PfRuns c k ∧ s.mayAs k.fn .installer = true ∧ x ≠ 1 :=
  ⟨role (admin flash 0xD0 1) 1 .installer, 1, 2, theCmd (role (admin flash 0xD0 1) 1 .installer) 1,
    by unfold State.PfRuns State.AdminRuns; decide +kernel⟩

theorem witness_RecorderRowsComplete_9 :
    ∃ (s : State) (c : Nat) (k : Cmd), s.PfRuns c k ∧ s.mayAs k.fn .installer = false :=
  ⟨deployed (admin flash 0xD0 1), 1, theCmd (deployed (admin flash 0xD0 1)) 1,
    by unfold State.PfRuns State.AdminRuns; decide +kernel⟩

theorem witness_StartRowsComplete_1 :
    ∃ (s : State) (f : StartFacts), s.mayStart = true ∧ f.calOk = false :=
  ⟨(up.setFld F.hbmStatZerodone 1), { facts with calOk := false },
    by decide +kernel⟩

theorem witness_StartRowsComplete_2 :
    ∃ (s : State) (f : StartFacts) (p : Nat), s.mayStart = true ∧ f.calOk = true ∧ f.badPc = some p :=
  ⟨(up.setFld F.hbmStatZerodone 1), { facts with badPc := some 5 }, 5,
    by decide +kernel⟩

theorem witness_StartRowsComplete_3a :
    ∃ (s : State) (f : StartFacts), s.mayStart = true ∧ f.calOk = true ∧ f.badPc = none ∧ ((if s.bootSlot = 2 then f.valid2 % 16 else f.valid1 %
    16) = 0 ∨ f.failPart ≠ 0) :=
  ⟨(up.setFld F.hbmStatZerodone 1), { facts with valid1 := 0, valid2 := 0 },
    by decide +kernel⟩

theorem witness_StartRowsComplete_3b :
    ∃ (s : State) (f : StartFacts), s.mayStart = true ∧ f.calOk = true ∧ f.badPc = none ∧ ((if s.bootSlot = 2 then f.valid2 % 16 else f.valid1 %
    16) = 0 ∨ f.failPart ≠ 0) :=
  ⟨(up.setFld F.hbmStatZerodone 1), { facts with failPart := 2 },
    by decide +kernel⟩

theorem witness_StartRowsComplete_4a :
    ∃ (s : State) (f : StartFacts), s.mayStart = true ∧ f.calOk = true ∧ f.badPc = none ∧ (if s.bootSlot = 2 then f.valid2 % 16 else f.valid1 % 16)
    ≠ 0 ∧ f.failPart = 0 :=
  ⟨(up.setFld F.hbmStatZerodone 1), facts,
    by decide +kernel⟩

theorem witness_StartRowsComplete_4b :
    ∃ (s : State) (f : StartFacts), s.mayStart = true ∧ f.calOk = true ∧ f.badPc = none ∧ (if s.bootSlot = 2 then f.valid2 % 16 else f.valid1 % 16)
    ≠ 0 ∧ f.failPart = 0 :=
  ⟨(up.setFld F.hbmStatZerodone 1), { facts with valid1 := 1 },
    by decide +kernel⟩

theorem witness_CounterClearsComplete_13 :
    ∃ (k : Nat), k < 8 :=
  ⟨3,
    by decide +kernel⟩

theorem witness_CounterClearsComplete_14 :
    ∃ (s : State) (pf : Nat), s.BitLands pf .operator :=
  ⟨role up 1 .maker, 1,
    by unfold State.BitLands; decide +kernel⟩

theorem witness_CounterClearsComplete_15 :
    ∃ (s : State) (pf : Nat), s.BitLands pf .operator :=
  ⟨role up 1 .maker, 1,
    by unfold State.BitLands; decide +kernel⟩

theorem witness_CounterClearsComplete_16 :
    ∃ (s : State) (pf : Nat), s.BitLands pf .operator :=
  ⟨role up 1 .maker, 1,
    by unfold State.BitLands; decide +kernel⟩

theorem witness_LogClearsComplete_9 :
    ∃ (s : State) (pf : Nat), s.BitLands pf .operator :=
  ⟨role up 1 .maker, 1,
    by unfold State.BitLands; decide +kernel⟩

theorem witness_LogClearsComplete_10 :
    ∃ (s : State) (pf : Nat), s.BitLands pf .operator :=
  ⟨role up 1 .maker, 1,
    by unfold State.BitLands; decide +kernel⟩

theorem witness_LogClearsComplete_11 :
    ∃ (s : State) (pf : Nat), pf < 2 ∧ (s.port pf).perst = false ∧ s.flag F.genStateDead = false ∧ s.ps ≠ 4 ∧ s.mayAs pf .operator = false :=
  ⟨deployed up, 1,
    by decide +kernel⟩

theorem witness_ActionBitsComplete_0 :
    ∃ (s : State) (pf : Nat), s.BitLands pf .operator :=
  ⟨role up 1 .maker, 1,
    by unfold State.BitLands; decide +kernel⟩

theorem witness_ActionBitsComplete_1 :
    ∃ (s : State) (pf : Nat), s.BitLands pf .operator :=
  ⟨role up 1 .maker, 1,
    by unfold State.BitLands; decide +kernel⟩

theorem witness_ActionBitsComplete_2 :
    ∃ (s : State) (pf : Nat), s.BitLands pf .operator :=
  ⟨role up 1 .maker, 1,
    by unfold State.BitLands; decide +kernel⟩

def stActionBitsComplete3 : State :=
  let z := role flash 1 .maker;
  { z with fl := { z.fl with chans := [(5, ⟨true, 3, false⟩)] } }

theorem witness_ActionBitsComplete_3 :
    ∃ (s : State) (pf : Nat) (c : Nat), s.BitLands pf .operator ∧ c < 512 ∧ (s.chan c).up = true :=
  ⟨stActionBitsComplete3, 1, 5,
    by unfold State.BitLands; decide +kernel⟩

theorem witness_ActionBitsComplete_4 :
    ∃ (s : State) (pf : Nat) (c : Nat), s.BitLands pf .operator ∧ c < 512 ∧ (s.chan c).up = false :=
  ⟨role flash 1 .maker, 1, 5,
    by unfold State.BitLands; decide +kernel⟩

def stActionBitsComplete5 : State :=
  let z := role flash 1 .maker;
  { z with fl := { z.fl with chans := (List.range 512).map (fun i => (i, ⟨false, 0, false⟩)) } }

theorem witness_ActionBitsComplete_5 :
    ∃ (s : State) (pf : Nat) (k : Nat), s.BitLands pf .operator ∧ k < 8 ∧ (∀ c ∈ skeinChans k, (s.chan c).up = false) :=
  ⟨stActionBitsComplete5, 1, 2,
    by unfold State.BitLands; decide +kernel⟩

def stActionBitsComplete6a : State :=
  let z := role flash 1 .maker;
  { z with fl := { z.fl with chans := (List.range 512).map (fun i => (i, ⟨i = 5 || i = 69, 0, false⟩)) } }

theorem witness_ActionBitsComplete_6a :
    ∃ (s : State) (pf : Nat) (k : Nat) (c : Nat), s.BitLands pf .operator ∧ k < 8 ∧ c ∈ skeinChans k ∧ (s.chan c).up = true ∧ ((∀ d ∈ skeinChans k,
    d ≠ c → (s.chan d).up = false)) :=
  ⟨stActionBitsComplete6a, 1, 0, 5,
    by unfold State.BitLands; decide +kernel⟩

def stActionBitsComplete6b : State :=
  let z := role flash 1 .maker;
  { z with fl := { z.fl with chans := (List.range 512).map (fun i => (i, ⟨i = 69, 0, false⟩)) } }

theorem witness_ActionBitsComplete_6b :
    ∃ (s : State) (pf : Nat) (k : Nat) (c : Nat), s.BitLands pf .operator ∧ k < 8 ∧ c ∈ skeinChans k ∧ (s.chan c).up = true ∧ ((∀ d ∈ skeinChans k,
    d ≠ c → (s.chan d).up = false)) :=
  ⟨stActionBitsComplete6b, 1, 1, 69,
    by unfold State.BitLands; decide +kernel⟩

theorem witness_ActionBitsComplete_7 :
    ∃ (s : State) (pf : Nat), s.BitLands pf .operator :=
  ⟨role up 1 .maker, 1,
    by unfold State.BitLands; decide +kernel⟩

theorem witness_ActionBitsComplete_8a :
    ∃ (s : State) (pf : Nat) (l : List (Nat × Nat)), s.BitLands pf .operator ∧ (∀ f ∈ l, f.1 < 48 ∧ f.2 ≤ 5) :=
  ⟨role flash 1 .maker, 1, [(47, 5)],
    by unfold State.BitLands; decide +kernel⟩

theorem witness_ActionBitsComplete_8b :
    ∃ (s : State) (pf : Nat) (l : List (Nat × Nat)), s.BitLands pf .operator ∧ (∀ f ∈ l, f.1 < 48 ∧ f.2 ≤ 5) :=
  ⟨role flash 1 .maker, 1, [],
    by unfold State.BitLands; decide +kernel⟩

theorem witness_ActionBitsComplete_9 :
    ∃ (s : State) (pf : Nat), s.BitLands pf .installer :=
  ⟨role up 1 .maker, 1,
    by unfold State.BitLands; decide +kernel⟩

theorem witness_ActionBitsComplete_10 :
    ∃ (s : State) (pf : Nat), s.BitLands pf .operator :=
  ⟨role flash 1 .maker, 1,
    by unfold State.BitLands; decide +kernel⟩

theorem crcBits_lt (n : Nat) : ∀ c, c < 2 ^ 32 → crcBits n c < 2 ^ 32 := by
  induction n with
  | zero => exact fun c h => h
  | succ n ih =>
    intro c h
    refine ih _ ?_
    unfold crcBit
    split
    · exact Nat.xor_lt_two_pow (by omega) (by decide)
    · omega

theorem foldl_lt (f : Nat → Nat → Nat) (b : Nat) (hf : ∀ c d, c < b → d < b → f c d < b) (l : List Nat) :
    ∀ c, (∀ d ∈ l, d < b) → c < b → l.foldl f c < b := by
  induction l with
  | nil => exact fun c _ hc => hc
  | cons a l ih => exact fun c hl hc => ih _ (fun d hd => hl d (List.mem_cons_of_mem _ hd)) (hf c a hc (hl a List.mem_cons_self))

theorem crc32c_lt (l : List Nat) (h : ∀ d ∈ l, d < 2 ^ 32) : crc32c l < 2 ^ 32 := by
  have step (c d : Nat) (hc : c < 2 ^ 32) (hd : d < 2 ^ 32) : crcBits 32 (c ^^^ d) < 2 ^ 32 := crcBits_lt _ _ (Nat.xor_lt_two_pow hc hd)
  have fold := foldl_lt (fun c d => crcBits 32 (c ^^^ d)) (2 ^ 32) step l 0xFFFFFFFF h (by omega)
  exact Nat.xor_lt_two_pow fold (by omega)

/-- A profile of zeros with its CRC in the last dword. -/
def profile : State :=
  let z := (role flash 1 .maker).setFld F.cfsDpselKind 2
  { z with cfs := { z.cfs with dpBuf := [(127, BitVec.ofNat 32 (crc32c (List.replicate 127 0)))] } }

theorem witness_ActionBitsComplete_11 : ∃ (s : State) (pf : Nat), s.BitLands pf .installer ∧ s.dpError = 0 := by
  refine ⟨profile, 1, by unfold State.BitLands; decide +kernel, ?_⟩
  have h0 : (List.range 127).map (fun k => (profile.dpDword k).toNat) = List.replicate 127 0 := by decide +kernel
  have h1 : (profile.dpDword 127).toNat = crc32c (List.replicate 127 0) := by
    have h : profile.dpDword 127 = BitVec.ofNat 32 (crc32c (List.replicate 127 0)) := by
      simp [profile, State.dpDword, Tab.getD, Tab.find]
    rw [h, BitVec.toNat_ofNat]
    exact Nat.mod_eq_of_lt (crc32c_lt _ (fun d hd => by rw [List.eq_of_mem_replicate hd]; omega))
  unfold State.dpError
  rw [h0, h1]
  have h2 : profile.fld F.cfsDpselKind = 2 := by decide +kernel
  have h3 : profile.fld F.cfsDpselIndex = 0 := by decide +kernel
  have h4 : ¬((profile.area 4).erased.isEmpty ∧ 512 < (profile.area 4).word + 17) := by decide +kernel
  simp only [List.isEmpty_iff, not_and] at h4
  simpa [h2, h3] using h4

theorem witness_ActionBitsComplete_12 :
    ∃ (s : State) (pf : Nat), s.BitLands pf .installer ∧ s.fld F.cfsDpselKind ≠ 2 :=
  ⟨role flash 1 .maker, 1,
    by unfold State.BitLands; decide +kernel⟩

theorem witness_ActionBitsComplete_13 :
    ∃ (s : State) (pf : Nat), s.BitLands pf .operator :=
  ⟨role up 1 .maker, 1,
    by unfold State.BitLands; decide +kernel⟩

def stActionBitsComplete14 : State :=
  (role flash 1 .maker).setFld F.secKselKey 1

theorem witness_ActionBitsComplete_14 :
    ∃ (s : State) (pf : Nat), s.BitLands pf .installer ∧ s.keyError pf = 0 :=
  ⟨stActionBitsComplete14, 1,
    by unfold State.BitLands; decide +kernel⟩

def stActionBitsComplete15 : State :=
  (role flash 1 .maker).setFld F.secKselKey 3

theorem witness_ActionBitsComplete_15 :
    ∃ (s : State) (pf : Nat), s.BitLands pf .installer ∧ s.keyError pf ≠ 0 :=
  ⟨stActionBitsComplete15, 1,
    by unfold State.BitLands; decide +kernel⟩

theorem witness_ActionBitsComplete_16 :
    ∃ (s : State) (pf : Nat), s.BitLands pf .operator :=
  ⟨role up 1 .maker, 1,
    by unfold State.BitLands; decide +kernel⟩

def stActionBitsComplete17 : State :=
  (role flash 1 .maker).setFld F.secLcState 0

theorem witness_ActionBitsComplete_17 :
    ∃ (s : State) (pf : Nat), s.BitLands pf .maker ∧ s.lc = 0 :=
  ⟨stActionBitsComplete17, 1,
    by unfold State.BitLands; decide +kernel⟩

theorem witness_ActionBitsComplete_18 :
    ∃ (s : State) (pf : Nat), s.BitLands pf .maker ∧ s.lc ≠ 0 :=
  ⟨role flash 1 .maker, 1,
    by unfold State.BitLands; decide +kernel⟩

theorem witness_ActionBitsComplete_19 :
    ∃ (s : State) (pf : Nat), s.BitLands pf .operator :=
  ⟨role up 1 .maker, 1,
    by unfold State.BitLands; decide +kernel⟩

theorem witness_ActionBitsComplete_20 :
    ∃ (s : State) (pf : Nat), s.BitLands pf .operator :=
  ⟨role up 1 .maker, 1,
    by unfold State.BitLands; decide +kernel⟩

def stActionBitsComplete21 : State :=
  let z := ((role flash 1 .maker).setFld F.strWctlNsid 1).setFld F.strWlenLen 256;
  { z with nss := [(1, ns 4096)] }

theorem witness_ActionBitsComplete_21 :
    ∃ (s : State) (pf : Nat) (x : Window), s.BitLands pf .operator ∧ s.staged = x ∧ s.windowError x = 0 :=
  ⟨stActionBitsComplete21, 1, stActionBitsComplete21.staged,
    by unfold State.BitLands; decide +kernel⟩

theorem witness_ActionBitsComplete_22 :
    ∃ (s : State) (pf : Nat), s.BitLands pf .operator ∧ s.windowError s.staged ≠ 0 :=
  ⟨role flash 1 .maker, 1,
    by unfold State.BitLands; decide +kernel⟩

theorem witness_RegisterRowsComplete_0 :
    ∃ (s : State) (pf : Nat) (k : Nat) (be : Nat), s.BitLands pf .operator ∧ k < 4 ∧ be = 15 :=
  ⟨role flash 1 .maker, 1, 3, 15,
    by unfold State.BitLands; decide +kernel⟩

theorem witness_RegisterRowsComplete_1 :
    ∃ (s : State) (pf : Nat) (k : Nat) (v : Word), pf < 2 ∧ (s.port pf).perst = false ∧ s.flag F.genStateDead = false ∧ s.ps ≠ 4 ∧ s.mayAs pf
    .operator = false ∧ k < 4 ∧ v ≠ s.word (Reg.genScratch k) :=
  ⟨deployed flash, 1, 2, 7,
    by decide +kernel⟩

theorem witness_RegisterRowsComplete_2 :
    ∃ (s : State) (pf : Nat) (off : Nat), pf < 2 ∧ (s.port pf).perst = false ∧ s.flag F.genStateDead = false ∧ s.ps ≠ 4 ∧ off < 0x10000 ∧ rowsOf
    off = [] :=
  ⟨role flash 1 .maker, 1, 0xFFFC,
    by decide +kernel⟩

theorem witness_RegisterRowsComplete_3a :
    ∃ (s : State) (pf : Nat) (off : Nat), pf < 2 ∧ (s.port pf).perst = false ∧ s.ps = 4 ∧ 0x200 ≤ off ∧ off < 0xC00 :=
  ⟨flash.setFld F.pwrStatPs 4, 1, 0x300,
    by decide +kernel⟩

theorem witness_RegisterRowsComplete_3b :
    ∃ (s : State) (pf : Nat) (off : Nat), pf < 2 ∧ (s.port pf).perst = false ∧ s.ps = 4 ∧ 0x200 ≤ off ∧ off < 0xC00 :=
  ⟨flash.setFld F.pwrStatPs 4, 0, 0xBFC,
    by decide +kernel⟩

theorem witness_RegisterRowsComplete_4 :
    ∃ (s : State) (c : Nat) (k : Cmd), s.PfRuns c k ∧ s.flag F.genStateDead = false :=
  ⟨admin flash 0xC4 1, 1, theCmd (admin flash 0xC4 1) 1,
    by unfold State.PfRuns State.AdminRuns; decide +kernel⟩

theorem witness_RegisterRowsComplete_5 :
    ∃ (s : State) (c : Nat) (off : Nat) (k : Cmd), s.PfRuns c k ∧ s.flag F.genStateDead = false ∧ off % 4 = 0 ∧ off < 0x10000 ∧ namesReg off =
    false :=
  ⟨admin flash 0xC4 1, 1, 0xFFFC, theCmd (admin flash 0xC4 1) 1,
    by unfold State.PfRuns State.AdminRuns; decide +kernel⟩

theorem witness_RegisterRowsComplete_6a :
    ∃ (s : State) (c : Nat) (off : Nat) (x : Nat) (k : Cmd), s.PfRuns c k ∧ (x ≠ 0 ∨ off % 4 ≠ 0 ∨ 0x10000 ≤ off) :=
  ⟨admin flash 0xC4 1, 1, 2, 0, theCmd (admin flash 0xC4 1) 1,
    by unfold State.PfRuns State.AdminRuns; decide +kernel⟩

theorem witness_RegisterRowsComplete_6b :
    ∃ (s : State) (c : Nat) (off : Nat) (x : Nat) (k : Cmd), s.PfRuns c k ∧ (x ≠ 0 ∨ off % 4 ≠ 0 ∨ 0x10000 ≤ off) :=
  ⟨admin flash 0xC4 1, 1, 0x10000, 0, theCmd (admin flash 0xC4 1) 1,
    by unfold State.PfRuns State.AdminRuns; decide +kernel⟩

theorem witness_RegisterRowsComplete_7 :
    ∃ (s : State) (c : Nat) (j : Nat) (k : Cmd), s.PfRuns c k ∧ s.flag F.genStateDead = false ∧ s.mayAs k.fn .operator = true ∧ j < 4 :=
  ⟨role (admin flash 0xC4 1) 1 .operator, 1, 3, theCmd (role (admin flash 0xC4 1) 1 .operator) 1,
    by unfold State.PfRuns State.AdminRuns; decide +kernel⟩

theorem witness_RegisterRowsComplete_8 :
    ∃ (s : State) (c : Nat) (j : Nat) (k : Cmd) (v : Word) (m : Word), s.PfRuns c k ∧ s.flag F.genStateDead = false ∧ s.mayAs k.fn .operator =
    false ∧ j < 4 ∧ (s.word (Reg.genScratch j) &&& ~~~m) ||| (v &&& m) ≠ s.word (Reg.genScratch j) :=
  ⟨deployed (admin flash 0xC4 1), 1, 1, theCmd (deployed (admin flash 0xC4 1)) 1, 0x1234, 0xFF0,
    by unfold State.PfRuns State.AdminRuns; decide +kernel⟩

def stRegisterRowsComplete9a : State :=
  let z := role flash 1 .maker;
  { z with str := { z.str with windows := [(7, ⟨1, 256, 512, true, 0, true⟩)] } }

theorem witness_RegisterRowsComplete_9a :
    ∃ (s : State) (pf : Nat) (w : Nat), s.BitLands pf .operator ∧ w < 256 :=
  ⟨stRegisterRowsComplete9a, 1, 7,
    by unfold State.BitLands; decide +kernel⟩

theorem witness_RegisterRowsComplete_9b :
    ∃ (s : State) (pf : Nat) (w : Nat), s.BitLands pf .operator ∧ w < 256 :=
  ⟨role flash 1 .maker, 1, 255,
    by unfold State.BitLands; decide +kernel⟩

theorem witness_RegisterRowsComplete_10 :
    ∃ (s : State) (pf : Nat), s.BitLands pf .operator :=
  ⟨role flash 1 .maker, 1,
    by unfold State.BitLands; decide +kernel⟩

def stRegisterRowsComplete11 : State :=
  (role flash 1 .maker).setFld F.cfsDpselOffset 1023

theorem witness_RegisterRowsComplete_11 :
    ∃ (s : State) (pf : Nat), s.BitLands pf .installer :=
  ⟨stRegisterRowsComplete11, 1,
    by unfold State.BitLands; decide +kernel⟩

theorem witness_RegisterRowsComplete_12 :
    ∃ (s : State) (pf : Nat), pf < 2 ∧ (s.port pf).perst = false ∧ s.flag F.genStateDead = false ∧ s.ps ≠ 4 :=
  ⟨flash, 1,
    by decide +kernel⟩

theorem witness_RegisterRowsComplete_13 :
    ∃ (s : State) (pf : Nat), s.BitLands pf .operator :=
  ⟨role flash 1 .maker, 1,
    by unfold State.BitLands; decide +kernel⟩

def stRegisterRowsComplete14 : State :=
  (role flash 1 .maker).setFld F.secKselOffset 23

theorem witness_RegisterRowsComplete_14 :
    ∃ (s : State) (pf : Nat), s.BitLands pf .installer ∧ s.fld F.secKselOffset < 24 :=
  ⟨stRegisterRowsComplete14, 1,
    by unfold State.BitLands; decide +kernel⟩

theorem witness_RegisterRowsComplete_15 :
    ∃ (s : State) (pf : Nat), pf < 2 ∧ (s.port pf).perst = false ∧ s.flag F.genStateDead = false ∧ s.ps ≠ 4 :=
  ⟨flash, 1,
    by decide +kernel⟩

def stRegisterRowsComplete16 : State :=
  let z := (let z := role flash 1 .operator;
  { z with stg := { z.stg with staged := (List.range 7).map ev, nextSeq := 7 }, areas := { z.areas with cast := (List.range 3).map (fun i => ev (i + 1)), last := 0 } });
  { z with bank1 := { z.bank1 with cursor := 3 } }

theorem witness_RegisterRowsComplete_16 :
    ∃ (s : State) (pf : Nat) (r : EventRec), pf < 2 ∧ (s.port pf).perst = false ∧ s.ps ≠ 4 ∧ s.mayReadEvents pf = true ∧ (s.bank pf).behind = false
    ∧ s.atCursor pf = some r :=
  ⟨stRegisterRowsComplete16, 1, (stRegisterRowsComplete16.atCursor 1).getD (ev 0),
    by decide +kernel⟩

def stRegisterRowsComplete17 : State :=
  let z := (let z := role flash 1 .operator;
  { z with stg := { z.stg with staged := (List.range 7).map ev, nextSeq := 7 }, areas := { z.areas with cast := (List.range 3).map (fun i => ev (i + 1)), last := 0 } });
  { z with bank1 := { z.bank1 with behind := true } }

theorem witness_RegisterRowsComplete_17 :
    ∃ (s : State) (pf : Nat), pf < 2 ∧ (s.port pf).perst = false ∧ s.ps ≠ 4 ∧ s.mayReadEvents pf = true ∧ (s.bank pf).behind = true ∧ (s.bank
    pf).area = 0 :=
  ⟨stRegisterRowsComplete17, 1,
    by decide +kernel⟩

theorem witness_RegisterRowsComplete_18 :
    ∃ (s : State) (pf : Nat), pf < 2 ∧ (s.port pf).perst = false ∧ s.ps ≠ 4 ∧ s.mayReadEvents pf = false :=
  ⟨deployed flash, 1,
    by decide +kernel⟩

def stRegisterRowsComplete19 : State :=
  let z := (let z := role flash 1 .operator;
  { z with stg := { z.stg with staged := (List.range 7).map ev, nextSeq := 7 }, areas := { z.areas with cast := (List.range 3).map (fun i => ev (i + 1)), last := 0 } });
  { z with bank1 := { z.bank1 with cursor := 3, latch := [1,2,3,4,5,6,7,8] } }

theorem witness_RegisterRowsComplete_19 :
    ∃ (s : State) (pf : Nat), pf < 2 ∧ (s.port pf).perst = false ∧ s.ps ≠ 4 ∧ s.mayReadEvents pf = true ∧ (s.bank pf).latch ≠ [] ∧ (s.bank pf).area
    = 0 :=
  ⟨stRegisterRowsComplete19, 1,
    by decide +kernel⟩

def stRegisterRowsComplete20a : State :=
  let z := role flash 1 .operator;
  { z with stg := { z.stg with staged := (List.range 7).map ev, nextSeq := 7 }, areas := { z.areas with cast := (List.range 3).map (fun i => ev (i + 1)), last := 0 } }

theorem witness_RegisterRowsComplete_20a :
    ∃ (s : State) (pf : Nat) (seq : Nat), s.BitLands pf .operator ∧ seq < 2 ^ 32 :=
  ⟨stRegisterRowsComplete20a, 1, 5,
    by unfold State.BitLands; decide +kernel⟩

theorem witness_RegisterRowsComplete_20b :
    ∃ (s : State) (pf : Nat) (seq : Nat), s.BitLands pf .operator ∧ seq < 2 ^ 32 :=
  ⟨stRegisterRowsComplete20a, 1, 4294967295,
    by unfold State.BitLands; decide +kernel⟩

theorem witness_StepRunsTheFrontCommand_0 : ∃ (s : State) (c : Instr) (rest : List Instr), s.pending = c :: rest :=
  ⟨{ State.reset with pending := [.reftLost, .coldReset] }, .reftLost, [.coldReset], rfl⟩

theorem witness_StepRunsTheFrontCommand_1 :
    ∃ (s : State), s.pending = [] :=
  ⟨up,
    by decide +kernel⟩

theorem witness_QueueIsTakenInOrder_0 : ∃ (s t : State) (c : Instr), exec c s = .next t :=
  ⟨State.reset, afterReftLost, .reftLost, rfl⟩

theorem witness_QueueIsTakenInOrder_1 : ∃ s t : State, step s = .next t :=
  ⟨{ State.reset with pending := [.reftLost] }, afterReftLost, rfl⟩

theorem witness_CastOnAreaKeptForLife_0 : ∃ s t : State, s.CastOk ∧ step s = .next t :=
  ⟨State.reset, State.reset.tick, ⟨Nat.zero_le _, fun _ _ h => nomatch h⟩, rfl⟩

theorem witness_CastOnAreaKeptForLife_1 : ∃ s t : State, step s = .next t :=
  ⟨State.reset, State.reset.tick, rfl⟩

def stCastOnAreaKeptForLife2 : State :=
  let z := (let z := flash;
  { z with stg := { z.stg with staged := (List.range 7).map ev, nextSeq := 7 }, areas := { z.areas with cast := (List.range 3).map (fun i => ev (i + 1)), last := 0 } });
  { z with cfs := { z.cfs with op := some ⟨1, .event 4, 1, 2⟩ } }

theorem witness_CastOnAreaKeptForLife_2 :
    ∃ (s : State) (j : CfsJob) (r : EventRec), s.cfs.op = some j ∧ j.work = .event r.seq ∧ j.words = 1 ∧ s.stg.staged.find? (fun x => x.seq =
    r.seq) = some r ∧ r.seq = s.areas.cast.length + 1 ∧ r.seq ≤ 16384 :=
  ⟨stCastOnAreaKeptForLife2, stCastOnAreaKeptForLife2.cfs.op.getD ⟨0, .settings, 0, 0⟩, (stCastOnAreaKeptForLife2.stg.staged.find? (fun x => x.seq
    = 4)).getD (ev 0),
    by decide +kernel⟩

theorem witness_CastOnAreaKeptForLife_3 : ∃ s t : State, s.areas.cast.length = 16384 ∧ step s = .next t :=
  ⟨castFull, castFull.tick, List.length_replicate, rfl⟩

theorem witness_CastOnAreaKeptForLife_4 : ∃ s : State, s.areas.cast.length = 16384 :=
  ⟨castFull, List.length_replicate⟩

theorem witness_MakerKeyNeverChanges_0 : ∃ s t : State, step s = .next t :=
  ⟨State.reset, State.reset.tick, rfl⟩

theorem witness_StoreChangesOnlyByItsController_0 : ∃ (s t : State) (c : Instr), endsStoreWork c = false ∧ exec c s = .next t :=
  ⟨State.reset, afterReftLost, .reftLost, rfl, rfl⟩

theorem witness_EventAreasChangeOnlyByPersistence_0 : ∃ (s t : State) (c : Instr), changesEventAreas c = false ∧ exec c s = .next t :=
  ⟨State.reset, afterReftLost, .reftLost, rfl, rfl⟩

theorem witness_KeySetChangesOnlyWhereTheSpecSays_0 : ∃ (s t : State) (c : Instr), changesKeys c = false ∧ exec c s = .next t :=
  ⟨State.reset, afterReftLost, .reftLost, rfl, rfl⟩

theorem witness_NamespacesChangeOnlyByManagement_0 : ∃ (s t : State) (c : Instr), changesNamespaces c = false ∧ exec c s = .next t :=
  ⟨State.reset, afterReftLost, .reftLost, rfl, rfl⟩

def stOwnershipOfANewUnit0 : State :=
  let z := flash.setFld F.secKselKey 2;
  { z with sec := { z.sec with kbuf := kbufOf (0xaa87ca22be8b05378eb1c71ef320ad746e1d3b628ba79b9859f741e082542a385502f25dbf55296c3a545e3872760ab7 * 2 ^ 384 + 0x3617de4a96262c6f5d9e98bf9292dc29f8f41dbd289a147ce9da3113b5f0b8c00a60b1ce1d7e819d7a431d7c90ea0e5f) } }

theorem witness_OwnershipOfANewUnit_0 :
    ∃ (s : State) (pf : Nat), s.BitLands pf .installer ∧ s.lc = 0 ∧ s.keys.instKey = none ∧ s.session pf = none ∧ s.fld F.secKselKey = 2 ∧ onCurve
    (kbufValue s.sec.kbuf) = true :=
  ⟨stOwnershipOfANewUnit0, 1,
    by unfold State.BitLands; decide +kernel⟩

theorem witness_OwnershipOfANewUnit_1 :
    ∃ (s : State) (pf : Nat), s.lc = 0 ∧ pf < 2 :=
  ⟨flash, 1,
    by decide +kernel⟩

def stOwnershipOfANewUnit2 : State :=
  let z := flash.setFld F.secKselKey 2;
  { z with keys := { z.keys with instKey := some 5 } }

theorem witness_OwnershipOfANewUnit_2 :
    ∃ (s : State) (pf : Nat), s.BitLands pf .installer ∧ s.keys.instKey.isSome = true ∧ s.fld F.secKselKey = 2 ∧ (s.roleOf pf).num < 2 :=
  ⟨stOwnershipOfANewUnit2, 1,
    by unfold State.BitLands; decide +kernel⟩

theorem witness_OwnershipOfANewUnit_3 :
    ∃ (s : State) (pf : Nat), s.lc ≠ 0 ∧ (s.roleOf pf).num < 2 :=
  ⟨deployed flash, 1,
    by decide +kernel⟩

theorem witness_MakerRoleByLifeCycleState_0 :
    ∃ (s : State) (c : Nat) (k : Cmd), s.PfRuns c k ∧ s.lc = 1 ∧ s.flag F.secCtlMakeren = false :=
  ⟨deployed (admin flash 0xC0 1), 1, theCmd (deployed (admin flash 0xC0 1)) 1,
    by unfold State.PfRuns State.AdminRuns; decide +kernel⟩

def stMakerRoleByLifeCycleState1 : State :=
  ((let z := role (admin flash 0xC0 1) 1 .operator; { z with keys := { z.keys with instKey := some 5, makerKey := some 6 }, sec := { z.sec with chal1 := some ⟨7, .maker, 0, false, 3⟩ } })).setFld F.secLcState 2

theorem witness_MakerRoleByLifeCycleState_1 :
    ∃ (s : State) (c : Nat) (n : Nat) (key : Nat) (k : Cmd) (ch : Challenge), s.PfRuns c k ∧ ((s.lc ≠ 1 ∨ s.flag F.secCtlMakeren = true)) ∧ (if
    k.fn = 0 then s.sec.chal0 else s.sec.chal1) = some ch ∧ ch.number = n ∧ ch.role = .maker ∧ s.clk.mono ≤ ch.issued + 30000000000 ∧
    (s.recentFails k.fn).length < 3 ∧ s.keys.makerKey = some key :=
  ⟨stMakerRoleByLifeCycleState1, 1, 7, (stMakerRoleByLifeCycleState1.keys.key (stMakerRoleByLifeCycleState1.sec.chal1.getD ⟨0, .none, 0, false,
    0⟩).role).getD 0, theCmd stMakerRoleByLifeCycleState1 1, stMakerRoleByLifeCycleState1.sec.chal1.getD ⟨0, .none, 0, false, 0⟩,
    by unfold State.PfRuns State.AdminRuns; decide +kernel⟩

theorem witness_RolesAllowWhatTheSpecSays_0 :
    ∃ (fn : Nat), 2 ≤ fn :=
  ⟨2,
    by decide +kernel⟩

theorem witness_RolesAllowWhatTheSpecSays_1 :
    ∃ (fn : Nat) (r : Role), 2 ≤ fn ∧ r ≠ .none :=
  ⟨2, .operator,
    by decide +kernel⟩

theorem witness_RolesAllowWhatTheSpecSays_2 :
    ∃ (s : State) (pf : Nat) (a : Role) (b : Role), b.num ≤ a.num ∧ s.mayAs pf a = true :=
  ⟨role flash 1 .maker, 1, .maker, .installer,
    by decide +kernel⟩

theorem witness_RolesAllowWhatTheSpecSays_3 :
    ∃ (s : State) (pf : Nat), pf < 2 ∧ s.lc = 0 :=
  ⟨flash, 1,
    by decide +kernel⟩

/-! ### WellFormed refuses an operand just out of each range -/

theorem smoke_pf : (Instr.paceMinclr 2).wf = false ∧ (Instr.paceMinclr 1).wf = true := by decide
theorem smoke_port : (Instr.perstAssert 2).wf = false ∧ (Instr.perstAssert 1).wf = true := by decide
theorem smoke_fn : (Instr.configRead 1026 0 0).wf = false ∧ (Instr.configRead 1025 0 0).wf = true := by decide
theorem smoke_vf : (Instr.vfFlr 1).wf = false ∧ (Instr.vfFlr 1026).wf = false ∧ (Instr.vfFlr 2).wf = true := by decide
theorem smoke_region : (Instr.gaugeWindowEnd 30 5).wf = false := by decide
theorem smoke_die : (Instr.eraseComplete 8192 true).wf = false ∧ (Instr.eraseIssue 8191 4095).wf = true := by decide
theorem smoke_block : (Instr.eraseIssue 0 4096).wf = false := by decide
theorem smoke_skein : (Instr.zqShortTimer 8).wf = false := by decide
theorem smoke_channel : (Instr.chnRetrain 0 512).wf = false := by decide
theorem smoke_rail : (Instr.railLow 0).wf = false ∧ (Instr.railLow 5).wf = false := by decide
theorem smoke_bytes : (Instr.registerWrite 0 0 0 16).wf = false := by decide
theorem smoke_pc : (Instr.hbmRefresh 128 0 false).wf = false := by decide
theorem smoke_bank : (Instr.hbmRefresh 0 48 false).wf = false := by decide
theorem smoke_row : (Instr.rowActivateLimit 0 0 32768 0).wf = false := by decide
theorem smoke_hbmPort : (Instr.rowActivateLimit 0 0 0 8).wf = false ∧ (Instr.rowActivateLimit 127 47 32767 7).wf = true := by decide
theorem smoke_stack : (Instr.hbmStackPast85 4 90).wf = false := by decide
theorem smoke_temp : (Instr.hbmStackPast85 3 256).wf = false := by decide
theorem smoke_hbm : (Instr.hbmUncorrectable (192 * 2 ^ 30) 0 (.mapEntry 0) true).wf = false := by decide
theorem smoke_extent : (Instr.seamStart (2 ^ 34) []).wf = false := by decide
theorem smoke_sensor : (Instr.temperatureThresholdCross 0 70).wf = false ∧ (Instr.temperatureThresholdCross 14 70).wf = false := by decide
theorem smoke_tjDie : (Instr.dieTjPast105 13 true).wf = false := by decide
theorem smoke_lane : (Instr.linkLayerError 0 .badTlp 16).wf = false := by decide
theorem smoke_resource : (Instr.resourceGrant 5).wf = false := by decide
theorem smoke_copy : (Instr.journalCopyFail 2 0).wf = false := by decide
theorem smoke_i3c : (Instr.i3cSetdasa 128).wf = false := by decide
theorem smoke_peer : (Instr.heartbeatMiss 0).wf = false ∧ (Instr.heartbeatMiss 16385).wf = false ∧ (Instr.heartbeatMiss 16384).wf = true := by
  decide
theorem smoke_header : (Instr.heartbeat { hdr joinedTo with version := 256 } []).wf = false ∧
    (Instr.heartbeat { hdr joinedTo with credit := 65536 } []).wf = false := by decide +kernel

/-! ### Single steps, with results worked out from the rules -/

def after (o : Host.Outcome State Fault Refusal) : Option State :=
  match o with
  | .next t => some t
  | _ => none

/-- R37: 10 cycles of a window are one unit of pace. -/
theorem test_gauge_window : (after (exec (.gaugeWindowEnd 29 655359) up)).map (·.fld (F.paceGaugePace 29)) = some 65535 := by decide +kernel

/-- R71: a PF that the hardware does not have is no writer. -/
theorem test_no_such_pf : after (exec (.genScrclr 2) up) = none := by decide +kernel

/-- R49: the monotonic count starts from 0 and no cast-on record is touched. -/
theorem test_vdd_aon : (after (exec .vddAonApplied { flash with clk := { flash.clk with mono := 77 } })).map (fun t => (t.clk.mono, t.areas.cast)) =
    some (0, []) := by decide +kernel

/-- R514, R522: a write with one byte enable merges that byte. -/
theorem test_scratch_byte :
    (after (exec (.registerWrite 1 (Reg.genScratch 0) 0xAABBCCDD 4) (role up 1 .operator))).map (·.word (Reg.genScratch 0)) = some 0x00BB0000 := by
  decide +kernel

/-- R451: after TEST a write needs its role; without one it is denied and logged. -/
theorem test_scratch_denied :
    (after (exec (.registerWrite 1 (Reg.genScratch 0) 5 15) (deployed up))).map
      (fun t => (t.word (Reg.genScratch 0), t.flag F.secDenylogValid, t.fld F.secDenylogFunc)) = some (0, true, 1) := by decide +kernel

/-- R450: a role release ends the session and answers success. -/
theorem test_role_release :
    (after (exec (.roleRelease 1 0) (role (admin flash 0xC1 1) 1 .maker))).map (fun t => (t.session 1, (t.cmd 1).map (·.phase))) =
      some (none, some (.finished St.ok 0)) := by decide +kernel

/-- R392: selector 4 names nothing. -/
theorem test_strand_selector :
    (after (exec (.strandConfigure 1 4 true []) (role (admin joinedTo 0xC8 1) 1 .installer))).map (fun t => (t.cmd 1).map (·.phase)) =
      some (some (.finished St.badField 0)) := by decide +kernel

/-- R468: the sequence numbers of events go from 2^32 - 1 past 0. -/
theorem test_next_seq : nextSeq (2 ^ 32 - 1) = 1 ∧ nextSeq 5 = 6 := by decide

/-- No row of the opcode table gives bits. -/
theorem test_no_words : decodeTableWord 8 0 = none ∧ decodeTableWord 64 0xC8 = none := by decide

/-- An empty queue: one tick, and nothing waits after it (log entry 1). -/
theorem test_idle : (after (step State.reset)).map (·.pending) = some [] := by decide +kernel

/-- The front command goes first. -/
theorem test_front :
    (after (step { up with pending := [.gaugeWindowEnd 3 50, .reftLost] })).map (fun t => (t.pending, t.fld (F.paceGaugePace 3))) =
      some ([.reftLost], 5) := by decide +kernel

/-- R54: a timer row whose timer is not armed does nothing. -/
theorem test_timer_withdrawn : exec .timeOffsetApply up = .next up := rfl

/-! ### The spec's worked examples -/

/-- The dead module after R522: GEN_STATE reads 7000_0000h and GEN_BOOT 41F0_0000h. -/
theorem test_dead_module :
    ((((deployed up).setFlag F.genStateDead).setCfs [0]).liveWord Reg.genState).1 = 0x70000000 ∧
      ((up.noteBoot 1 0 15 1).liveWord Reg.genBoot).1 = 0x41F00000 := by decide +kernel

/-- The lookup after R313: the coarse entry at byte 378D_800Ch and the overlay block 238,320. -/
theorem test_map_addresses :
    (hbmRow 0x378D800C, hbmPc 0 0x378D800C, hbmBank 0 0x378D800C) = (444, 60, 8) ∧ 0x378D800C = 6 * 155336706 ∧
      (hbmRow 103102093824, hbmPc 0 103102093824, hbmBank 0 103102093824) = (16394, 16, 16 + 10) ∧
      103102093824 = 96 * 2 ^ 30 + 96 * 238320 := by decide +kernel

/-- The record of a manifest after R181: LBA 41,943,077 is slot 5 of map index 155,336,706, of segment 55. -/
theorem test_map_index :
    ({ ns 4096 with granules := List.replicate 160 0 ++ [9481] } : Ns).index 41943077 = some 155336706 ∧ 41943077 % 16 = 5 ∧
      segOf 155336706 = 55 := by decide +kernel

/-- The course after R209: with W = 32 and ply 2, course 1,884,212 has its parity at positions 20 and 21. -/
theorem test_parity_positions : ({ aCourse with w := 32, ply := 2 } : Course).parityPos 1884212 = [20, 21] := by decide +kernel

/-- The sled after R299: of 12 ranks of 512 dies of 192 GiB, ranks 0 to 9 are admitted, and at OP 7.0 % the capacity is 936,168,652 MiB. -/
theorem test_admission :
    let z : State := { up with fl := { up.fl with luns := 12, geom := { up.fl.geom with rated := 192 * 1024 } } }
    ((z.admission facts).1, (z.admission facts).2.1) = (10, 983040 * 1024) ∧
      ({ z with fl := { z.fl with raw := 983040 * 1024 } } : State).userMib = 936168652 := by decide +kernel

/-- The registers of the example after R446 (R445), by which a description is added. -/
theorem test_store_registers : Reg.cfsDpsel = 0x1B24 ∧ Reg.cfsDpdata = 0x1B28 ∧ Reg.cfsDpctl = 0x1B2C := by decide

/-- The write buffer after R274: a limit of 8 GiB needs a declaration of 15 ms, and 9 ms does not do; accepted, it
waits for the store (R146, R435). Eight ranks of 512 dies. -/
theorem test_write_buffer_limit :
    let z := role (admin { started with fl := { started.fl with ranks := 8 } } 0x09 1) 1 .installer
    let ends (decl : Nat) := (after (exec (.setFeatures 1 0xC0 false 32 0 0 []) (z.setFld F.lifHoldupDecl decl))).map (fun t => (t.cmd 1).map (·.phase))
    ends 90 = some (some (.finished St.badField 0)) ∧ ends 150 = some (some .waitStore) := by decide +kernel

end Sys2Proof.Tests
end

section
/-! SUPPORT. The read-type commands READ, VERIFY, COMPARE and COPY (R19, R132, R133): how a row of a running command begins and fails, what
the gate before the lookup decides (R115, R133, R179), and what each of the four rows hands to that gate. -/

namespace Sys2Proof.Machine

/-! ### A running command and its failures -/

section
variable {s : State} {c op : Nat} {k : Cmd} {n : Ns}

theorem State.NsRuns.cmd_eq (h : s.NsRuns c op k n) : s.cmd c = some k := by
  obtain ⟨⟨hio, -, -, -⟩, -, -⟩ := h
  exact (State.ioAt_cmd s c op k hio).1

theorem State.NsRuns.not_dropped (h : s.NsRuns c op k n) : k.dropped = false := by
  obtain ⟨⟨-, hd, -, -⟩, -, -⟩ := h
  exact hd

/-- None of the refusals that the I/O rows share meets a running command of an attached namespace (R133, R141, R143). -/
theorem onNs_of_runs (h : s.NsRuns c op k n) (body : Cmd → Ns → State) : onNs s c op body = .next (body k n) := by
  obtain ⟨⟨hio, -, hsan, hfmt⟩, hns, hatt⟩ := h
  simp only [onNs, onIo, withSome, hio, hsan, hfmt, hns, hatt, Bool.false_eq_true, if_false, if_true]

theorem State.NsRuns.fail_ended (h : s.NsRuns c op k n) (st : Status) : (s.fail c st).Ended c st := by
  simp [State.Ended, State.fail_cmd s c k st h.cmd_eq h.not_dropped]

/-- Discarding a write's slots leaves its command in its slot, so the failure is what ends it (R116). -/
theorem State.NsRuns.failWrite_ended (h : s.NsRuns c op k n) (st : Status) : (s.failWrite c st).Ended c st := by
  have hk : (s.discardSlots c).cmd c = some k := h.cmd_eq
  simp [State.Ended, State.failWrite, State.fail_cmd _ c k st hk h.not_dropped]

end

@[simp] theorem State.fail_tx (s : State) (c : Nat) (st : Status) : (s.fail c st).tx = s.tx := by
  rw [State.fail_frame]

@[simp] theorem State.failWrite_tx (s : State) (c : Nat) (st : Status) : (s.failWrite c st).tx = s.tx :=
  State.fail_tx (s.discardSlots c) c st

@[simp] theorem State.failWrite_map (s : State) (c : Nat) (st : Status) : (s.failWrite c st).map = s.map := by
  rw [State.failWrite, State.fail_frame]; rfl

/-! ### The gate before the lookup (R115, R133, R179, R283) -/

section
variable {s go : State} {c : Nat} {k : Cmd} {n : Ns} {rs : List (Nat × Nat)}

/-- The gate's test for a range past the namespace's end, which R133 answers with 80h. -/
theorem no_range_past_end (hr : ∀ r ∈ rs, r.1 + r.2 ≤ n.size) : rs.any (fun r => decide (n.size < r.1 + r.2)) = false := by
  simpa using hr

theorem State.readGate_past_end (h : ∃ r ∈ rs, n.size < r.1 + r.2) : s.readGate c k n rs go = s.failWrite c St.lbaRange := by
  have hany : rs.any (fun r => decide (n.size < r.1 + r.2)) = true := by simpa using h
  simp only [State.readGate, hany, if_true]

/-- A command whose lookups may begin passes the gate. -/
theorem State.readGate_goes (h : s.ReadGoes c k n rs) (hr : ∀ r ∈ rs, r.1 + r.2 ≤ n.size) : s.readGate c k n rs go = go := by
  obtain ⟨hseed, hreads, hbuf, hearly, hseg, hstitch, hdma⟩ := h
  simp only [State.readGate, no_range_past_end hr, hseed, hreads, hbuf, hearly, hseg, hstitch, hdma, List.isEmpty_nil, Bool.not_true,
    Bool.false_and, Bool.or_self, Bool.false_eq_true, if_false]

/-- One lost segment among those of the ranges ends the command, stalled ones or not (R179). -/
theorem State.segGate_lost (h : ∃ g ∈ n.segsOf rs, s.segLost g = true) : s.segGate c n rs = some (s.failWrite c St.internal) := by
  have hany : (n.segsOf rs).any s.segLost = true := List.any_eq_true.mpr h
  simp only [State.segGate, hany, if_true]

theorem State.readGate_lost (hr : ∀ r ∈ rs, r.1 + r.2 ≤ n.size) (hseed : s.adm.degraded.contains 6 = false)
    (hreads : s.rd.reads = []) (hbuf : k.buffered = false) (hearly : s.earlierWrites c = [])
    (hlost : ∃ g ∈ n.segsOf rs, s.segLost g = true) : s.readGate c k n rs go = s.failWrite c St.internal := by
  simp only [State.readGate, no_range_past_end hr, hseed, hreads, hbuf, hearly, State.segGate_lost hlost, List.any_nil, List.isEmpty_nil,
    Bool.not_true, Bool.or_self, Bool.false_eq_true, if_false]

end

@[simp] theorem Ns.segsOf_singleton (n : Ns) (slba nlb : Nat) : n.segsOf [(slba, nlb)] = n.segs slba nlb := by
  simp [Ns.segsOf]

/-! ### What each row hands to the gate (R132, R133) -/

section
variable {s : State} {c : Nat} {k : Cmd} {n : Ns}

theorem exec_read_gate (h : s.NsRuns c 0x02 k n) (hlo : 1 ≤ k.sqe.nlb) (hhi : k.sqe.nlb ≤ 1024) :
    exec (.read c) s = .next (s.readGate c k n [(k.sqe.slba, k.sqe.nlb)]
      (({ s with adm := { s.adm with reads := s.adm.reads + 1 } } : State).readRanges c k.sqe.nsid n [(k.sqe.slba, k.sqe.nlb)])) := by
  have hlen : ¬(k.sqe.nlb = 0 ∨ 1024 < k.sqe.nlb) := by omega
  exact (onNs_of_runs h _).trans (by rw [if_neg hlen])

theorem exec_read_bad_length (h : s.NsRuns c 0x02 k n) (hlen : k.sqe.nlb = 0 ∨ 1024 < k.sqe.nlb) :
    exec (.read c) s = .next (s.fail c St.badField) :=
  (onNs_of_runs h _).trans (by rw [if_pos hlen])

theorem exec_verify_gate (h : s.NsRuns c 0x0C k n) (hlo : 1 ≤ k.sqe.nlb) (hhi : k.sqe.nlb ≤ 65536) :
    exec (.verify c) s = .next (s.readGate c k n [(k.sqe.slba, k.sqe.nlb)] (s.readRanges c k.sqe.nsid n [(k.sqe.slba, k.sqe.nlb)])) := by
  have hlen : ¬(k.sqe.nlb = 0 ∨ 65536 < k.sqe.nlb) := by omega
  exact (onNs_of_runs h _).trans (by rw [if_neg hlen])

/-- A Compare's own test: the host's slots equal those that the map gives for its range. -/
def State.comparesEqual (s : State) (c : Nat) (k : Cmd) (n : Ns) (data : List HostSlot) : Bool :=
  (List.range k.sqe.nlb).all (fun i => (data[i]?).any (fun d =>
    decide ((d.data, d.meta_) = s.slotNow c k.sqe.nsid n (k.sqe.slba + i))))

theorem State.comparesEqual_iff (data : List HostSlot) :
    s.comparesEqual c k n data = true ↔
      ∀ i, i < k.sqe.nlb → (data[i]?).map (fun d => (d.data, d.meta_)) = some (s.slotNow c k.sqe.nsid n (k.sqe.slba + i)) := by
  simp only [State.comparesEqual, List.all_eq_true, List.mem_range, Option.any_eq_true, Option.map_eq_some_iff, decide_eq_true_eq]

theorem exec_compare_gate (data : List HostSlot) (h : s.NsRuns c 0x05 k n) (hlo : 1 ≤ k.sqe.nlb) (hhi : k.sqe.nlb ≤ 1024) :
    exec (.compare c data) s = .next (s.readGate c k n [(k.sqe.slba, k.sqe.nlb)]
      ((if s.comparesEqual c k n data then s else s.noteFailure c St.compare).readRanges c k.sqe.nsid n [(k.sqe.slba, k.sqe.nlb)])) := by
  have hlen : ¬(k.sqe.nlb = 0 ∨ 1024 < k.sqe.nlb) := by omega
  exact (onNs_of_runs h _).trans (by rw [if_neg hlen]; rfl)

/-- A Copy with a range, none of them empty, is not refused for a bad field. -/
theorem no_empty_range {rs : List (Nat × Nat)} (hne : rs ≠ []) (hr : ∀ r ∈ rs, 1 ≤ r.2) :
    ¬(rs.isEmpty = true ∨ rs.any (fun r => decide (r.2 = 0)) = true) := by
  simp only [List.isEmpty_iff, List.any_eq_true, decide_eq_true_eq]
  rintro (he | ⟨r, hmem, hzero⟩)
  · exact hne he
  · have := hr r hmem; omega

/-- A Copy within its limits reserves buffer space for all its slots before its sources pass the gate. -/
theorem exec_copy_gate (h : s.NsRuns c 0x19 k n) (hne : k.sqe.ranges ≠ []) (hlen : k.sqe.ranges.length ≤ 128)
    (hr : ∀ r ∈ k.sqe.ranges, 1 ≤ r.2 ∧ r.2 ≤ 16384) (htotal : sumNat (k.sqe.ranges.map (·.2)) ≤ 262144)
    (hdst : k.sqe.slba + sumNat (k.sqe.ranges.map (·.2)) ≤ n.size) (hhandle : (s.handleOf n k.sqe).isSome = true)
    (hro : s.flag F.rclRoRo = false) (hlost : (n.segs k.sqe.slba (sumNat (k.sqe.ranges.map (·.2)))).any s.segLost = false)
    (hadmit : s.admits c k.fn (sumNat (k.sqe.ranges.map (·.2))) = true) :
    exec (.copy c) s = .next (s.readGate c k n k.sqe.ranges
      (({ s with buf := { s.buf with resv := Tab.put c (sumNat (k.sqe.ranges.map (·.2))) s.buf.resv } } : State).readRanges c
        k.sqe.nsid n k.sqe.ranges)) := by
  have hempty := no_empty_range hne (fun r hmem => (hr r hmem).1)
  have hlimit : ¬(128 < k.sqe.ranges.length ∨ k.sqe.ranges.any (fun r => decide (16384 < r.2)) = true ∨
      262144 < sumNat (k.sqe.ranges.map (·.2))) := by
    simp only [List.any_eq_true, decide_eq_true_eq]
    rintro (hl | ⟨r, hmem, hbig⟩ | ht)
    · omega
    · have := (hr r hmem).2; omega
    · omega
  have hhandle' : ¬(s.handleOf n k.sqe).isNone = true := by simpa using Option.isSome_iff_ne_none.mp hhandle
  refine (onNs_of_runs h _).trans ?_
  simp only [hempty, hlimit, Nat.not_lt.mpr hdst, hhandle', hro, hlost, hadmit, if_false, Bool.not_true, Bool.false_and, Bool.false_eq_true]

theorem exec_copy_too_many (h : s.NsRuns c 0x19 k n) (hlen : 128 < k.sqe.ranges.length) (hr : ∀ r ∈ k.sqe.ranges, 1 ≤ r.2) :
    exec (.copy c) s = .next (s.failWrite c St.copyLimit) := by
  have hempty := no_empty_range (List.ne_nil_of_length_pos (by omega)) hr
  exact (onNs_of_runs h _).trans (by rw [if_neg hempty, if_pos (.inl hlen)])

end

/-! ### The rows -/

/-- Settles O14: each row reaches the gate, and the gate lets the lookup of every slot begin, or fails the command. -/
theorem readCommandsComplete : Obligations.ReadCommandsComplete := by
  unfold Obligations.ReadCommandsComplete
  refine ⟨?read, ?readLength, ?readRange, ?readLost, ?verify, ?compareSame, ?compareOther, ?copy, ?copyLimit⟩
  case read =>
    intro s c k n h hlo hhi hsize hgo
    rw [exec_read_gate h hlo hhi, State.readGate_goes hgo (by simpa using hsize)]
  case readLength =>
    intro s c k n h hlen
    exact ⟨_, exec_read_bad_length h hlen, h.fail_ended _, State.fail_tx _ _ _⟩
  case readRange =>
    intro s c k n h hlo hhi hsize
    refine ⟨_, ?_, h.failWrite_ended St.lbaRange, State.failWrite_tx _ _ _⟩
    rw [exec_read_gate h hlo hhi, State.readGate_past_end (by simpa using hsize)]
  case readLost =>
    intro s c g k n h hlo hhi hsize hseed hreads hbuf hearly hg hlost
    refine ⟨_, ?_, h.failWrite_ended St.internal, State.failWrite_tx _ _ _⟩
    rw [exec_read_gate h hlo hhi, State.readGate_lost (by simpa using hsize) hseed hreads hbuf hearly ⟨g, by simpa using hg, hlost⟩]
  case verify =>
    intro s c k n h hlo hhi hsize hgo
    rw [exec_verify_gate h hlo hhi, State.readGate_goes hgo (by simpa using hsize)]
  case compareSame =>
    intro s c data k n h hlo hhi hsize hgo hsame
    rw [exec_compare_gate data h hlo hhi, State.readGate_goes hgo (by simpa using hsize),
      if_pos ((State.comparesEqual_iff data).mpr hsame)]
  case compareOther =>
    intro s c i data k n h hlo hhi hsize hgo hi hother
    rw [exec_compare_gate data h hlo hhi, State.readGate_goes hgo (by simpa using hsize),
      if_neg (fun heq => hother ((State.comparesEqual_iff data).mp heq i hi))]
    rfl
  case copy =>
    intro s c k n h hne hlen hr htotal hdst hhandle hro hlost hadmit hgo
    rw [exec_copy_gate h hne hlen (fun r hmem => ⟨(hr r hmem).1, (hr r hmem).2.1⟩) htotal hdst hhandle hro hlost hadmit,
      State.readGate_goes hgo (fun r hmem => (hr r hmem).2.2)]
  case copyLimit =>
    intro s c k n h hlen hr
    exact ⟨_, exec_copy_too_many h hlen hr, h.failWrite_ended _, State.failWrite_map _ _ _⟩

end Sys2Proof.Machine
end

section
/-! SUPPORT. The rows of the gauges, the governor and the timekeeper (R37 to R56): what each step of a row leaves of the gauges' data and of the
register fields. -/

namespace Sys2Proof.Machine

/-! ### What events and expired timers leave -/

@[simp] theorem State.event_pace (s : State) (c a b d e : Nat) : (s.event c a b d e).pace = s.pace := by rw [State.event_frame]
@[simp] theorem State.event_tx (s : State) (c a b d e : Nat) : (s.event c a b d e).tx = s.tx := by rw [State.event_frame]
@[simp] theorem State.event_clk (s : State) (c a b d e : Nat) : (s.event c a b d e).clk = s.clk := by rw [State.event_frame]

/-- A one-bit field other than those of a refused event is left by an event. -/
theorem State.flag_event (s : State) (f : Fld) (c a b d e : Nat)
    (h1 : f.dw ≠ F.evwDropCount.dw) (h2 : f.dw ≠ F.evwStatDropseen.dw) : (s.event c a b d e).flag f = s.flag f := by
  simp only [State.flag, State.fld_event s f c a b d e h1 h2]

theorem State.flag_setFld_ne (s : State) (f g : Fld) (v : Nat) (h : f.sh + f.wid ≤ 32)
    (hd : g.dw ≠ f.dw ∨ g.sh + g.wid ≤ f.sh ∨ f.sh + f.wid ≤ g.sh) : (s.setFld f v).flag g = s.flag g := by
  simp only [State.flag, State.fld_setFld_ne s f g v h hd]

theorem State.flag_setFld (s : State) (f : Fld) (v : Nat) (h : f.sh + f.wid ≤ 32) : (s.setFld f v).flag f = (v % 2 ^ f.wid != 0) := by
  simp only [State.flag, State.fld_setFld s f v h]

@[simp] theorem State.fld_expire (s : State) (id : TimerId) (f : Fld) : (s.expire id).fld f = s.fld f := by rw [State.expire_frame]; rfl
@[simp] theorem State.flag_expire (s : State) (id : TimerId) (f : Fld) : (s.expire id).flag f = s.flag f := by rw [State.expire_frame]; rfl
@[simp] theorem State.expire_str (s : State) (id : TimerId) : (s.expire id).str = s.str := by rw [State.expire_frame]
@[simp] theorem State.armOnce_pace (s : State) (id : TimerId) (n : Nat) : (s.armOnce id n).pace = s.pace := by rw [State.armOnce_frame]
@[simp] theorem State.fld_armOnce (s : State) (id : TimerId) (n : Nat) (f : Fld) : (s.armOnce id n).fld f = s.fld f := by
  rw [State.armOnce_frame]; rfl
@[simp] theorem State.flag_send (s : State) (m : Tx) (f : Fld) : (s.send m).flag f = s.flag f := rfl
@[simp] theorem State.flag_arm (s : State) (id : TimerId) (n : Nat) (f : Fld) : (s.arm id n).flag f = s.flag f := rfl

/-- A timer's row acts where its timer runs. -/
theorem onTimer_armed {s : State} {id : TimerId} (h : s.armed id = true) (k : State → State) : onTimer s id k = .next (k (s.expire id)) := by
  rw [onTimer_eq, if_pos h]

/-- A timer's row is withdrawn without effect where its timer was cancelled (R54). -/
theorem onTimer_unarmed {s : State} {id : TimerId} (h : s.armed id = false) (k : State → State) : onTimer s id k = .next s := by
  rw [onTimer_eq, if_neg (by simp [h])]

/-! ### The gauges (R37, R56) -/

theorem mem_insertNew {α : Type} [DecidableEq α] (a : α) (l : List α) : a ∈ insertNew a l := by
  unfold insertNew; split <;> simp [*]

theorem contains_insertNew {α : Type} [DecidableEq α] (a : α) (l : List α) : (insertNew a l).contains a = true := by
  simpa using mem_insertNew a l

theorem paceGaugePace_dw (r : Nat) : (F.paceGaugePace r).dw = 0x180 + 4 * r := by
  simp only [Fld.dw, F.paceGaugePace, Reg.paceGauge]; omega

theorem paceGaugeMin_dw (r : Nat) : (F.paceGaugeMin r).dw = 0x180 + 4 * r := by
  simp only [Fld.dw, F.paceGaugeMin, Reg.paceGauge]; omega

theorem paceGaugePace_sh (r : Nat) : (F.paceGaugePace r).sh = 0 := by
  simp only [Fld.sh, F.paceGaugePace, Reg.paceGauge]; omega

theorem paceGaugeMin_sh (r : Nat) : (F.paceGaugeMin r).sh = 16 := by
  simp only [Fld.sh, F.paceGaugeMin, Reg.paceGauge]; omega

@[simp] theorem paceGaugePace_wid (r : Nat) : (F.paceGaugePace r).wid = 16 := rfl
@[simp] theorem paceGaugeMin_wid (r : Nat) : (F.paceGaugeMin r).wid = 16 := rfl

/-- The check of BELOW changes PACE_STAT, and stages an event (R56). -/
theorem State.fld_paceCheck (s : State) (r p : Nat) (f : Fld)
    (hf : f.dw ≠ Reg.paceStat ∨ f.sh + f.wid ≤ 29) (h1 : f.dw ≠ Reg.evwDrop) (h2 : f.dw ≠ Reg.evwStat) :
    (s.paceCheck r p).fld f = s.fld f := by
  have hbelow : ∀ v, (s.setFld F.paceStatBelow v).fld f = s.fld f := fun v =>
    State.fld_setFld_ne _ _ _ _ (by decide) (hf.imp id (fun h => .inl (Nat.le_trans h (by decide))))
  have hseen : ∀ u : State, (u.setFld F.paceStatBelowseen 1).fld f = u.fld f := fun u =>
    State.fld_setFld_ne _ _ _ _ (by decide) (hf.imp id (fun h => .inl h))
  simp only [State.paceCheck, State.putFlag_eq, State.setFlag_eq]
  split
  · rw [State.fld_event _ _ _ _ _ _ _ h1 h2, hseen, hbelow]
  · exact hbelow _

@[simp] theorem State.paceCheck_pace (s : State) (r p : Nat) : (s.paceCheck r p).pace = s.pace := by
  unfold State.paceCheck; simp only; split <;> simp

theorem State.gaugeRead_pace (s : State) (r p : Nat) : (s.gaugeRead r p).fld (F.paceGaugePace r) = p % 65536 := by
  have hput : (s.setFld (F.paceGaugePace r) p).fld (F.paceGaugePace r) = p % 65536 :=
    State.fld_setFld _ _ _ (by simp [paceGaugePace_sh])
  have hmin : ∀ u : State, (u.setFld (F.paceGaugeMin r) p).fld (F.paceGaugePace r) = u.fld (F.paceGaugePace r) := fun u =>
    State.fld_setFld_ne _ _ _ _ (by simp [paceGaugeMin_sh]) (.inr (.inl (by simp [paceGaugePace_sh, paceGaugeMin_sh])))
  unfold State.gaugeRead
  simp only
  split
  · exact (hmin _).trans hput
  · exact hput

theorem State.gaugeRead_measured (s : State) (r p : Nat) : r ∈ (s.gaugeRead r p).pace.measured := mem_insertNew r _

/-- A reading within its 16 bits is what the gauge's register then holds (R37, R65). -/
theorem exec_gaugeWindowEnd {r c : Nat} (s : State) (hr : r < 30) (hc : c / 10 < 65536) :
    ∃ t, exec (.gaugeWindowEnd r c) s = .next t ∧ t.fld (F.paceGaugePace r) = c / 10 ∧ r ∈ t.pace.measured := by
  refine ⟨_, guarded_true _ _ _ (by simp [hr, hc]), ?_, ?_⟩
  · rw [State.fld_paceCheck, State.gaugeRead_pace, Nat.mod_eq_of_lt hc]
    all_goals rw [paceGaugePace_dw]; simp only [Reg.paceStat, Reg.evwDrop, Reg.evwStat]; omega
  · rw [State.paceCheck_pace]
    exact State.gaugeRead_measured s r _

/-! ### The governor and the regulator (R40 to R46) -/

theorem State.requestVolts_pace (s : State) (mv : Nat) : (s.requestVolts mv).pace = s.pace := by
  unfold State.requestVolts; split <;> rfl

theorem State.fld_requestVolts (s : State) (mv : Nat) (f : Fld) (hf : f.dw ≠ Reg.paceVstat) : (s.requestVolts mv).fld f = s.fld f := by
  unfold State.requestVolts
  split
  · rfl
  · simp only [State.fld_send]
    exact State.fld_setFld_ne _ _ _ _ (by decide) (.inl hf)

/-- The governor leaves what the gauges have read. -/
theorem State.govern_readings (s : State) : s.govern.pace.iout = s.pace.iout ∧ s.govern.pace.span = s.pace.span := by
  unfold State.govern
  split
  · split <;> simp only [State.requestVolts_pace, and_self]
  · simp only
    split_ifs <;> simp only [State.send_pace, State.requestVolts_pace, State.setFlag_eq, State.setFld_pace, and_self]

/-- The governor's registers are PACE_LOW, PACE_VSTAT and the flag CAPPED. -/
theorem State.fld_govern (s : State) (f : Fld) (hlow : f.dw ≠ Reg.paceLow) (hv : f.dw ≠ Reg.paceVstat)
    (hcap : f.dw ≠ Reg.paceStat ∨ f.sh + f.wid ≤ 30) : s.govern.fld f = s.fld f := by
  have hregion : ∀ (u : State) v, (u.setFld F.paceLowRegion v).fld f = u.fld f := fun u v => State.fld_setFld_ne _ _ _ _ (by decide) (.inl hlow)
  have hpace : ∀ (u : State) v, (u.setFld F.paceLowPace v).fld f = u.fld f := fun u v => State.fld_setFld_ne _ _ _ _ (by decide) (.inl hlow)
  have hcapped : ∀ (u : State) v, (u.setFld F.paceStatCapped v).fld f = u.fld f := fun u v =>
    State.fld_setFld_ne _ _ _ _ (by decide) (hcap.imp id .inl)
  have hfast : ∀ (u : State) p, ({ u with pace := p } : State).fld f = u.fld f := fun _ _ => rfl
  unfold State.govern
  split
  · split
    · exact State.fld_requestVolts _ _ _ hv
    · rfl
  · simp only [State.setFlag_eq]
    split_ifs <;> simp only [State.fld_send, State.fld_requestVolts _ _ _ hv, hcapped, hfast, hpace, hregion]

/-- A gauge period ends with its span handed to the history, and SEQ counts it (R56). -/
theorem exec_gaugePeriodEnd (s : State) (v i : Nat) :
    ∃ t, exec (.gaugePeriodEnd v i) s = .next t ∧ t.pace.iout = i ∧ t.pace.span = [] ∧
      t.fld F.paceStatSeq = (s.fld F.paceStatSeq + 1) % 65536 := by
  refine ⟨_, rfl, ?iout, ?span, ?seq⟩
  case iout =>
    rw [State.paceCheck_pace, (State.govern_readings _).1]
    split
    · rw [State.armOnce_pace]
    · rfl
  case span =>
    rw [State.paceCheck_pace, (State.govern_readings _).2]
    split
    · rw [State.armOnce_pace]
    · rfl
  case seq =>
    rw [State.fld_paceCheck _ _ _ _ (by decide) (by decide) (by decide), State.fld_govern _ _ (by decide) (by decide) (by decide)]
    have hread : ((s.addWrap F.paceStatSeq 1).setFld F.paceVstatVout v).fld F.paceStatSeq = (s.fld F.paceStatSeq + 1) % 65536 := by
      rw [State.fld_setFld_ne _ _ _ _ (by decide) (by decide), State.addWrap_eq, State.fld_setFld _ _ _ (by decide)]; rfl
    split
    · rw [State.fld_armOnce]; exact hread
    · exact hread

theorem exec_pmbus_fails (s : State) (c d : Nat) :
    ∃ t, exec (.pmbusTransactionDone false c d) s = .next t ∧ t.pace.pmbusFails = s.pace.pmbusFails + 1 ∧
      (s.pace.pmbusFails = 2 → t.flag F.paceVstatNoack = true) := by
  refine ⟨_, rfl, ?_, fun h => ?_⟩
  · split <;> simp
  · rw [if_pos (by omega), State.flag_event _ _ _ _ _ _ _ (by decide) (by decide), State.setFlag_eq]
    exact State.flag_setFld_one _ _ (by decide) rfl

theorem exec_vrAlert (s : State) (st : Nat) :
    ∃ t, exec (.vrAlert st) s = .next t ∧ t.tx = .pmbus 0x03 0 :: .pmbus 0x79 st :: s.tx ∧ t.flag F.paceVstatAlert = true := by
  refine ⟨_, rfl, by simp, ?_⟩
  rw [State.flag_send, State.flag_event _ _ _ _ _ _ _ (by decide) (by decide), State.flag_send]
  exact State.flag_setFld_one _ _ (by decide) rfl

theorem exec_dieTjPast105 {d : Nat} (s : State) (above : Bool) (hd : d < 13) :
    ∃ t, exec (.dieTjPast105 d above) s = .next t ∧ t.pace.hotDies.contains d = above := by
  refine ⟨_, guarded_true _ _ _ (by simpa using hd), ?_⟩
  cases above with
  | true => exact contains_insertNew d _
  | false => simp

/-! ### The timekeeper (R49 to R51, R396) -/

theorem State.setTime_mono (s : State) (n : Nat) : s.setTime n = { s with clk := (s.setTime n).clk, regs := (s.setTime n).regs } := by
  unfold State.setTime; simp only; split_ifs <;> rfl

theorem State.noteSectionTime_clk (s : State) : s.noteSectionTime.clk = s.clk := rfl

theorem State.fld_noteSectionTime (s : State) (f : Fld) (hf : f.dw ≠ Reg.strStat) : s.noteSectionTime.fld f = s.fld f :=
  State.fld_setFld_ne _ _ _ _ (by decide) (.inl hf)

theorem exec_reftLost (s : State) :
    ∃ t, exec .reftLost s = .next t ∧ t.flag F.tkStatReftlost = true ∧
      (s.flag F.tkStatReftlost = false → t.flag F.tkStatReftseen = true) ∧ t.clk = s.clk := by
  have hlost : ((s.setFlag F.tkStatReftlost).setFlag F.strStatOutoftime).flag F.tkStatReftlost = true := by
    rw [State.setFlag_eq, State.flag_setFld_ne _ _ _ _ (by decide) (by decide), State.setFlag_eq]
    exact State.flag_setFld_one _ _ (by decide) rfl
  refine ⟨_, rfl, ?_⟩
  cases hwas : s.flag F.tkStatReftlost with
  | true => exact ⟨hlost, nofun, rfl⟩
  | false =>
    simp only [Bool.false_eq_true, if_false, State.event_clk]
    refine ⟨?_, fun _ => ?_, rfl⟩
    · rw [State.flag_event _ _ _ _ _ _ _ (by decide) (by decide), State.setFlag_eq,
        State.flag_setFld_ne _ _ _ _ (by decide) (by decide)]
      exact hlost
    · rw [State.flag_event _ _ _ _ _ _ _ (by decide) (by decide)]
      exact State.flag_setFld_one _ _ (by decide) rfl

theorem exec_reftRegained (s : State) : ∃ t, exec .reftRegained s = .next t ∧ t.flag F.tkStatReftlost = false ∧ t.clk = s.clk := by
  refine ⟨_, rfl, ?_⟩
  cases hwas : s.flag F.tkStatReftlost with
  | false => exact ⟨hwas, rfl⟩
  | true =>
    rw [if_pos rfl]
    refine ⟨?_, State.event_clk _ _ _ _ _ _⟩
    rw [State.flag_event _ _ _ _ _ _ _ (by decide) (by decide), State.flag, State.fld_noteSectionTime _ _ (by decide),
      State.clrFlag_eq, State.fld_setFld _ _ _ (by decide)]
    rfl

theorem exec_deviceTimeSlewDone (s : State) :
    ∃ t, exec .deviceTimeSlewDone s = .next t ∧ t.clk.slewLeft = 0 ∧ s.clk.mono ≤ t.clk.mono := by
  refine ⟨_, rfl, rfl, ?_⟩
  simp only [State.advanceTo]
  split
  · exact Nat.le_add_right _ _
  · exact Nat.le_refl _

/-- Device time set from the strand has origin 10b (R50, R64, R396). -/
theorem exec_timeOffsetApply_strand (s : State) (ha : s.armed .timeOffset = true) (hs : s.flag F.tkCtlStrandt = true) (hk : s.str.kept ≠ []) :
    ∃ t, exec .timeOffsetApply s = .next t ∧ t.fld F.tkStatOrigin = 2 := by
  have hgo : ¬(((s.expire .timeOffset).arm .timeOffset (nsSec 1)).str.kept.isEmpty = true ∨
      (!((s.expire .timeOffset).arm .timeOffset (nsSec 1)).flag F.tkCtlStrandt) = true) := by
    simp [hs, hk]
  have hkept : ∀ (u : State) x, ({ u with str := x } : State).fld F.tkStatOrigin = u.fld F.tkStatOrigin := fun _ _ => rfl
  have hrow : execTimeOffsetApply s = _ := onTimer_armed ha _
  refine ⟨_, hrow, ?_⟩
  rw [if_neg hgo, State.fld_noteSectionTime _ _ (by decide), hkept, State.fld_setFld_ne _ _ _ _ (by decide) (by decide),
    State.fld_setFld_ne _ _ _ _ (by decide) (by decide), State.fld_setFld _ _ _ (by decide)]
  rfl

theorem exec_timeOffsetApply_free (s : State) (ha : s.armed .timeOffset = true) (hs : s.flag F.tkCtlStrandt = false) :
    exec .timeOffsetApply s = .next ((s.expire .timeOffset).arm .timeOffset 1000000000) := by
  have hrow : execTimeOffsetApply s = _ := onTimer_armed ha _
  refine hrow.trans ?_
  rw [if_pos (by simp [hs])]
  rfl

/-- Settles O1: each row completes by its own lemma. -/
theorem paceRowsComplete : Obligations.PaceRowsComplete := by
  unfold Obligations.PaceRowsComplete
  refine ⟨fun s r c hr hc => exec_gaugeWindowEnd s hr hc, exec_gaugePeriodEnd, ?pmbusDone, exec_pmbus_fails, ?voutDue, ?voutLate, exec_vrAlert,
    fun s d above hd => exec_dieTjPast105 s above hd, exec_reftLost, exec_reftRegained, exec_deviceTimeSlewDone, exec_timeOffsetApply_free,
    exec_timeOffsetApply_strand, ?latch⟩
  case pmbusDone => exact fun s c d => ⟨_, rfl, rfl⟩
  case voutDue =>
    intro s h
    have hrow : execVoutDeviationTimeout s = _ := onTimer_armed h _
    refine ⟨_, hrow, ?_⟩
    rw [State.flag_event _ _ _ _ _ _ _ (by decide) (by decide)]
    exact State.flag_setFld_one _ _ (by decide) rfl
  case voutLate =>
    intro s h
    have hrow : execVoutDeviationTimeout s = _ := onTimer_unarmed h _
    exact hrow
  case latch => exact fun s q p hq hp => guarded_true _ _ _ (by simp [hq, hp])

end Sys2Proof.Machine
end

section
/-! SUPPORT. The bypass of the compressor (R54, R339), and the state right after a cold reset (R49, R50, R83, R454, R462, R468, R469). -/

namespace Sys2Proof.Machine

/-- Settles O21: the timer's row acts on the slot's extent where the timer runs and the slot still holds it. -/
theorem bypassRowCompletes : Obligations.BypassRowCompletes := by
  unfold Obligations.BypassRowCompletes
  refine ⟨?waited, ?gone, ?granted⟩
  case waited =>
    intro s i b ha hb
    have hrow : execCmpBypassTimeout i s = _ := onTimer_armed ha _
    refine hrow.trans ?_
    rw [show Tab.find i (s.expire (.cmpBypass i)).buf.slots = some b by rw [State.expire_frame]; exact hb]
  case gone =>
    intro s i ha hb
    have hrow : execCmpBypassTimeout i s = _ := onTimer_armed ha _
    refine ⟨_, hrow, ?_⟩
    rw [show Tab.find i (s.expire (.cmpBypass i)).buf.slots = none by rw [State.expire_frame]; exact hb, State.expire_frame]
    exact ⟨rfl, rfl⟩
  case granted =>
    intro s i h
    have hrow : execCmpBypassTimeout i s = _ := onTimer_unarmed h _
    exact hrow

/-- An area without records is in order (R469). -/
theorem State.castOk_of_empty {s : State} (h : s.areas.cast = []) : s.CastOk := by
  simp [State.CastOk, h]

/-- Settles O45: `State.reset` holds each value as it is written there; the registers are at their defaults. -/
theorem resetState : Obligations.ResetState := by
  unfold Obligations.ResetState
  have hcast : State.reset.areas.cast = [] := rfl
  exact ⟨rfl, rfl, rfl, by decide, rfl, rfl, rfl, rfl, rfl, State.castOk_of_empty hcast, hcast, rfl, by decide, rfl, rfl, rfl, rfl⟩

end Sys2Proof.Machine
end

section
/-! SUPPORT. The identification, log page, feature and directive rows (R50, R128, R131, R145 to R147): how the row of a running admin command
begins and ends, and what its checks decide. -/

namespace Sys2Proof.Machine

/-! ### A running admin command and its end -/

section
variable {s t : State} {c : Nat} {k : Cmd}

theorem State.AdminRuns.cmd_eq (h : s.AdminRuns c k) : s.cmd c = some k := (State.adminAt_cmd s c k h.1).1

theorem State.AdminRuns.not_dropped (h : s.AdminRuns c k) : k.dropped = false := h.2.1

/-- Outside a sanitize the row of a running admin command is what its body does (R143). -/
theorem onAdmin_of_runs (h : s.AdminRuns c k) (body : Cmd → State) : onAdmin s c body = .next (body k) := by
  obtain ⟨hat, -, hsan⟩ := h
  simp only [onAdmin, withSome, hat, hsan, Bool.false_and, Bool.false_eq_true, if_false]

/-- A state that has not touched a running command's slot ends it with what `finish` is given (R117). -/
theorem State.AdminRuns.finish_ended (h : s.AdminRuns c k) (hcmd : t.cmd c = s.cmd c) (st : Status) (d : Nat := 0) :
    (t.finish c st d).Ended c st d := by
  simp [State.Ended, State.finish_cmd t c k st d (hcmd.trans h.cmd_eq) h.not_dropped]

end

@[simp] theorem State.finish_tx (s : State) (c : Nat) (st : Status) (d : Nat) : (s.finish c st d).tx = s.tx := by rw [State.finish_frame]
@[simp] theorem State.finish_fns (s : State) (c : Nat) (st : Status) (d : Nat) : (s.finish c st d).fns = s.fns := by rw [State.finish_frame]
@[simp] theorem State.finish_adm (s : State) (c : Nat) (st : Status) (d : Nat) : (s.finish c st d).adm = s.adm := by rw [State.finish_frame]
@[simp] theorem State.finish_clk (s : State) (c : Nat) (st : Status) (d : Nat) : (s.finish c st d).clk = s.clk := by rw [State.finish_frame]
@[simp] theorem State.event_adm (s : State) (c a b d e : Nat) : (s.event c a b d e).adm = s.adm := by rw [State.event_frame]
@[simp] theorem State.event_q (s : State) (c a b d e : Nat) : (s.event c a b d e).q = s.q := by rw [State.event_frame]
@[simp] theorem State.cmd_event (s : State) (n a b d e c : Nat) : (s.event n a b d e).cmd c = s.cmd c := State.cmd_congr c (by simp)

/-! ### What the checks decide -/

/-- A CNS outside the list of R131 is refused with 02h. -/
theorem State.identify_unsupported (s : State) (fn nsid cntid : Nat) {cns : Nat} (h : identifyCns cns = false) :
    s.identify fn cns nsid cntid = .error St.badField := by
  unfold State.identify
  split
  case h_13 => rfl
  all_goals exact absurd h (by decide)

/-- A refusal for want of a role is noted in the deny log, the counters and an event, none of them admin state (R451). -/
@[simp] theorem State.deny_adm (s : State) (src : Nat) (need : Role) (fn target : Nat) : (s.deny src need fn target).adm = s.adm := by
  unfold State.deny
  simp only
  split <;> simp [State.secCnt]

theorem State.setTime_cmd (s : State) (n c : Nat) : (s.setTime n).cmd c = s.cmd c := State.cmd_congr c (by rw [State.setTime_mono])

section
variable {s : State} {c : Nat} {k : Cmd}

/-! ### Identification and log pages (R128, R131, R147, R148) -/

theorem exec_identify_ok {cns cntid : Nat} {d : List Nat} (h : s.AdminRuns c k) (hid : s.identify k.fn cns k.sqe.nsid cntid = .ok d) :
    ∃ t, exec (.identify c cns cntid) s = .next t ∧ t.Ended c St.ok ∧ t.tx = .hostBuf c d :: s.tx := by
  have hrow : exec (.identify c cns cntid) s = .next ((s.send (.hostBuf c d)).finish c St.ok) :=
    (onAdmin_of_runs h _).trans (by rw [hid])
  exact ⟨_, hrow, h.finish_ended (by rfl) _, by simp⟩

theorem exec_identify_unsupported {cns : Nat} (cntid : Nat) (h : s.AdminRuns c k) (hcns : identifyCns cns = false) :
    ∃ t, exec (.identify c cns cntid) s = .next t ∧ t.Ended c ⟨0, 0x02, true⟩ ∧ t.tx = s.tx := by
  have hrow : exec (.identify c cns cntid) s = .next (s.finish c St.badField) :=
    (onAdmin_of_runs h _).trans (by rw [State.identify_unsupported s _ _ _ hcns])
  exact ⟨_, hrow, h.finish_ended (by rfl) _, by simp⟩

/-- With RAE nothing but the data and the free values changes; without it the page's events may be posted again (R149). -/
theorem exec_getLogPage_ok {page numd offset sel : Nat} {rae : Bool} {p : Page} (h : s.AdminRuns c k) (hp : s.logPage k.fn page = some p)
    (halign : offset % 4 = 0) (hin : offset ≤ p.size) (hnum : numd ≤ 2 ^ 20) (hsel : groupPage page = true → sel = 1) :
    ∃ t, exec (.getLogPage c page numd offset sel rae) s = .next t ∧ t.Ended c St.ok ∧ t.tx = .hostBuf c (p.dwords offset numd) :: s.tx ∧
      (rae = true → t.fns = s.fns) := by
  have hrow : execGetLogPage c page numd offset sel rae s = _ := onAdmin_of_runs h _
  have hfields : ¬(offset % 4 ≠ 0 ∨ p.size < offset ∨ 2 ^ 20 < numd ∨ (groupPage page = true ∧ sel ≠ 1)) := by
    rintro (h1 | h2 | h3 | ⟨hg, h4⟩)
    · exact h1 halign
    · omega
    · omega
    · exact h4 (hsel hg)
  have hsan : s.sanitizing = false := h.2.2
  simp only [hp, hsan, Bool.false_eq_true, false_and, if_false, if_neg hfields] at hrow
  refine ⟨_, hrow, h.finish_ended ?_ _, ?_, fun hr => ?_⟩
  · cases rae
    · simp only [State.pageRead, Bool.false_eq_true, if_false]
      split <;> rfl
    · rfl
  · cases rae
    · simp only [State.finish_tx, State.pageRead, Bool.false_eq_true, if_false]
      split <;> rfl
    · rw [State.finish_tx]; rfl
  · rw [hr, State.finish_fns]; rfl

theorem exec_getLogPage_absent {page : Nat} (numd offset sel : Nat) (rae : Bool) (h : s.AdminRuns c k) (hp : s.logPage k.fn page = none) :
    ∃ t, exec (.getLogPage c page numd offset sel rae) s = .next t ∧ t.Ended c ⟨1, 0x09, true⟩ ∧ t.tx = s.tx := by
  have hrow : exec (.getLogPage c page numd offset sel rae) s = .next (s.finish c St.badLogPage) :=
    (onAdmin_of_runs h _).trans (by rw [hp])
  exact ⟨_, hrow, h.finish_ended (by rfl) _, by simp⟩

/-! ### Set Features (R99, R145, R146) -/

/-- A standard feature that is not to be saved passes the checks of its row. -/
theorem exec_setFeatures_standard {fid : Nat} (cdw11 cdw12 cdw13 : Nat) (data : List Nat) (h : s.AdminRuns c k)
    (hstd : standardFeature fid = true) (hvendor : vendorFeature fid = false) :
    exec (.setFeatures c fid false cdw11 cdw12 cdw13 data) s = .next (s.setStandard c fid k.fn k.sqe.nsid false cdw11 cdw12 data) := by
  have hrow : execSetFeatures c fid false cdw11 cdw12 cdw13 data s = _ := onAdmin_of_runs h _
  refine hrow.trans ?_
  simp only [hstd, hvendor, Bool.false_eq_true, false_and, if_false, Bool.not_true, and_false, if_true]

theorem exec_setFeatures_coalescing (cdw11 cdw12 cdw13 : Nat) (data : List Nat) (h : s.AdminRuns c k) :
    ∃ t, exec (.setFeatures c 0x08 false cdw11 cdw12 cdw13 data) s = .next t ∧ t.Ended c St.ok ∧
      Tab.find 0x08 (t.func k.fn).feats = some (cdw11 % 65536) := by
  have hrow : exec (.setFeatures c 0x08 false cdw11 cdw12 cdw13 data) s =
      .next ((s.updFunc k.fn (fun f => { f with feats := Tab.put 0x08 (cdw11 % 65536) f.feats })).finish c St.ok) :=
    exec_setFeatures_standard cdw11 cdw12 cdw13 data h (by decide) (by decide)
  refine ⟨_, hrow, h.finish_ended (by rfl) _, ?_⟩
  rw [State.func_finish, State.updFunc_eq, State.func_setFunc, Tab.find_put_self]

theorem exec_setFeatures_queues {cdw11 : Nat} (cdw12 cdw13 : Nat) (data : List Nat) (h : s.AdminRuns c k) (hg : (s.func k.fn).qgrant = none)
    (hsq : cdw11 % 65536 < 65535) (hcq : cdw11 / 65536 % 65536 < 65535) :
    ∃ t, exec (.setFeatures c 0x07 false cdw11 cdw12 cdw13 data) s = .next t ∧
      (t.func k.fn).qgrant = some (Nat.min (cdw11 % 65536 + 1) (s.allot k.fn), Nat.min (cdw11 / 65536 % 65536 + 1) (s.allot k.fn)) := by
  refine ⟨_, exec_setFeatures_standard cdw11 cdw12 cdw13 data h (by decide) (by decide), ?_⟩
  have hask : ¬(cdw11 % 65536 + 1 = 65536 ∨ cdw11 / 65536 % 65536 + 1 = 65536) := by omega
  show ((s.setQueues c k.fn cdw11).func k.fn).qgrant = _
  simp only [State.setQueues, if_neg hask, hg, Option.isSome_none, Bool.false_eq_true, if_false, State.func_finish, State.updFunc_eq,
    State.func_setFunc]

theorem exec_setFeatures_denied {fid : Nat} (save : Bool) (cdw11 cdw12 cdw13 : Nat) (data : List Nat) (h : s.AdminRuns c k)
    (hvendor : vendorFeature fid = true) (hrole : s.mayAs k.fn (featureRole fid) = false) :
    ∃ t, exec (.setFeatures c fid save cdw11 cdw12 cdw13 data) s = .next t ∧
      t = (s.deny 2 (featureRole fid) k.fn fid).finish c St.roleRequired ∧ t.adm = s.adm := by
  have hrow : exec (.setFeatures c fid save cdw11 cdw12 cdw13 data) s = .next ((s.deny 2 (featureRole fid) k.fn fid).finish c St.roleRequired) :=
    (onAdmin_of_runs h _).trans (by rw [if_pos (by simp [hvendor, hrole])])
  exact ⟨_, hrow, rfl, by simp⟩

theorem exec_setFeatures_absent {fid : Nat} (save : Bool) (cdw11 cdw12 cdw13 : Nat) (data : List Nat) (h : s.AdminRuns c k)
    (hvendor : vendorFeature fid = false) (hstd : standardFeature fid = false) :
    ∃ t, exec (.setFeatures c fid save cdw11 cdw12 cdw13 data) s = .next t ∧ t.Ended c ⟨0, 0x02, true⟩ ∧ t.fns = s.fns := by
  have hrow : exec (.setFeatures c fid save cdw11 cdw12 cdw13 data) s = .next (s.finish c St.badField) :=
    (onAdmin_of_runs h _).trans (by rw [if_neg (by simp [hvendor]), if_pos (by simp [hvendor, hstd])])
  exact ⟨_, hrow, h.finish_ended (by rfl) _, by simp⟩

/-- The patrol period, a saved vendor feature, waits for the settings record (R146, log entry 97). -/
theorem exec_setFeatures_patrol {secs : Nat} (cdw12 cdw13 : Nat) (data : List Nat) (h : s.AdminRuns c k) (hpf : k.fn < 2)
    (hrole : s.mayAs k.fn .operator = true) (hlo : 1 ≤ secs) (hhi : secs ≤ 3600) :
    exec (.setFeatures c 0xC4 true secs cdw12 cdw13 data) s =
      .next (((((s.setFld F.patCtlPeriod secs).noteGated 0xC4 secs k.fn).updCmd c (fun k => { k with phase := .waitStore })).cfsRequest 5
        (.features c) 2)) := by
  have hrow : execSetFeatures c 0xC4 true secs cdw12 cdw13 data s = _ := onAdmin_of_runs h _
  have hneed : featureRole 0xC4 = .operator := by decide
  have hval : s.setVendor 0xC4 k.fn k.sqe.nsid secs cdw12 cdw13 = .ok (s.setFld F.patCtlPeriod secs) :=
    if_neg (by omega)
  rw [hneed, hrole, hval, if_neg (by simp), if_neg (by decide), if_neg (by simp [isPf, hpf, saveable]), if_neg (by decide)] at hrow
  exact hrow

/-! ### The timestamp (R50) -/

theorem exec_timestamp_taken (ms : Nat) (h : s.AdminRuns c k) (ho : s.fld F.tkStatOrigin ≠ 2) (hts : s.flag F.tkCtlHostts = true) :
    ∃ t, exec (.setFeaturesTimestamp c ms) s = .next t ∧ t.Ended c St.ok ∧ t.fld F.tkStatOrigin = 1 ∧ t.clk = (s.setTime (ms * 1000000)).clk := by
  have hrow : exec (.setFeaturesTimestamp c ms) s = .next (((s.setTime (ms * 1000000)).setFld F.tkStatOrigin 1).finish c St.ok) :=
    (onAdmin_of_runs h _).trans (by rw [if_pos ⟨ho, hts⟩])
  refine ⟨_, hrow, h.finish_ended (by rw [State.cmd_setFld, State.setTime_cmd]) _, ?_, by rw [State.finish_clk, State.setFld_clk]⟩
  rw [State.fld_finish, State.fld_setFld _ _ _ (by decide)]
  rfl

theorem exec_timestamp_ignored (ms : Nat) (h : s.AdminRuns c k) (hno : s.fld F.tkStatOrigin = 2 ∨ s.flag F.tkCtlHostts = false) :
    ∃ t, exec (.setFeaturesTimestamp c ms) s = .next t ∧ t.Ended c St.ok ∧ t.clk = s.clk := by
  have hnot : ¬(s.fld F.tkStatOrigin ≠ 2 ∧ s.flag F.tkCtlHostts = true) := by
    rintro ⟨ho, hts⟩
    rcases hno with h2 | h2
    · exact ho h2
    · simp [h2] at hts
  have hrow : exec (.setFeaturesTimestamp c ms) s = .next ((s.event 0x0107 (ms % 2 ^ 32) (ms / 2 ^ 32)).finish c St.ok) :=
    (onAdmin_of_runs h _).trans (by rw [if_neg hnot])
  exact ⟨_, hrow, h.finish_ended (by simp) _, by simp⟩

/-! ### Get Features and directives (R131, R145, R146) -/

theorem exec_getFeatures_saved {fid : Nat} (cdw11 : Nat) (h : s.AdminRuns c k) (hf : vendorFeature fid = true ∨ standardFeature fid = true) :
    ∃ t, exec (.getFeatures c fid 2 cdw11) s = .next t ∧ t.Ended c St.ok (s.featureSaved fid k.fn k.sqe.nsid cdw11) := by
  have hrow : exec (.getFeatures c fid 2 cdw11) s = .next (s.finish c St.ok (s.featureSaved fid k.fn k.sqe.nsid cdw11)) :=
    (onAdmin_of_runs h _).trans (by rw [if_neg (by rcases hf with h2 | h2 <;> simp [h2])]; rfl)
  exact ⟨_, hrow, h.finish_ended (by rfl) _ _⟩

theorem exec_getFeatures_queues (cdw11 : Nat) (h : s.AdminRuns c k) :
    ∃ t, exec (.getFeatures c 0x07 0 cdw11) s = .next t ∧ t.Ended c St.ok (s.featureNow 0x07 k.fn k.sqe.nsid cdw11) := by
  have hrow : exec (.getFeatures c 0x07 0 cdw11) s = .next (s.finish c St.ok (s.featureNow 0x07 k.fn k.sqe.nsid cdw11)) := onAdmin_of_runs h _
  exact ⟨_, hrow, h.finish_ended (by rfl) _ _⟩

theorem exec_directiveSend_enable (dspec : Nat) (en : Bool) (h : s.AdminRuns c k) :
    ∃ t, exec (.directiveSend c 0 1 dspec (512 + b2n en)) s = .next t ∧ t.Ended c St.ok ∧ Tab.find 0x10000 (t.func k.fn).cfg = some (b2n en) := by
  have htype : (512 + b2n en) / 256 % 256 = 2 := by cases en <;> rfl
  have hbit : (512 + b2n en) % 2 = b2n en := by cases en <;> rfl
  have hrow : exec (.directiveSend c 0 1 dspec (512 + b2n en)) s =
      .next ((s.updFunc k.fn (fun f => { f with cfg := Tab.put 0x10000 (b2n en) f.cfg })).finish c St.ok) :=
    (onAdmin_of_runs h _).trans (by rw [if_neg (by decide), if_neg (by simp [htype]), hbit])
  refine ⟨_, hrow, h.finish_ended (by rfl) _, ?_⟩
  rw [State.func_finish, State.updFunc_eq, State.func_setFunc, Tab.find_put_self]

theorem exec_directiveSend_streams (doper dspec cdw12 : Nat) (h : s.AdminRuns c k) :
    ∃ t, exec (.directiveSend c 1 doper dspec cdw12) s = .next t ∧ t.Ended c ⟨0, 0x02, true⟩ := by
  have hrow : exec (.directiveSend c 1 doper dspec cdw12) s = .next (s.finish c St.badField) :=
    (onAdmin_of_runs h _).trans (by rw [if_pos (.inl rfl)])
  exact ⟨_, hrow, h.finish_ended (by rfl) _⟩

theorem exec_directiveReceive_identify (dspec : Nat) (h : s.AdminRuns c k) :
    ∃ t, exec (.directiveReceive c 0 1 dspec) s = .next t ∧ t.Ended c St.ok ∧
      t.tx = .hostBuf c [0x5, 1 + 4 * Tab.getD 0x10000 0 (s.func k.fn).cfg] :: s.tx := by
  have hrow : exec (.directiveReceive c 0 1 dspec) s =
      .next ((s.send (.hostBuf c [0x5, 1 + 4 * Tab.getD 0x10000 0 (s.func k.fn).cfg])).finish c St.ok) := onAdmin_of_runs h _
  exact ⟨_, hrow, h.finish_ended (by rfl) _, State.finish_tx _ _ _ _⟩

end

/-- Settles O9: each row completes by its own lemma. -/
theorem featureRowsComplete : Obligations.FeatureRowsComplete := by
  unfold Obligations.FeatureRowsComplete
  exact ⟨fun _ _ _ _ _ _ h hid => exec_identify_ok h hid,
    fun _ _ _ cntid _ h hcns => exec_identify_unsupported cntid h hcns,
    fun _ _ _ _ _ _ _ _ _ h hp halign hin hnum hsel => exec_getLogPage_ok h hp halign hin hnum hsel,
    fun _ _ _ numd offset sel rae _ h hp => exec_getLogPage_absent numd offset sel rae h hp,
    fun _ _ cdw11 cdw12 cdw13 data _ h => exec_setFeatures_coalescing cdw11 cdw12 cdw13 data h,
    fun _ _ _ cdw12 cdw13 data _ h hg hsq hcq => exec_setFeatures_queues cdw12 cdw13 data h hg hsq hcq,
    fun _ _ _ cdw11 cdw12 cdw13 save data _ h hv hr => exec_setFeatures_denied save cdw11 cdw12 cdw13 data h hv hr,
    fun _ _ _ cdw12 cdw13 data _ h hpf hr hlo hhi => exec_setFeatures_patrol cdw12 cdw13 data h hpf hr hlo hhi,
    fun _ _ _ cdw11 cdw12 cdw13 save data _ h hv hs => exec_setFeatures_absent save cdw11 cdw12 cdw13 data h hv hs,
    fun _ _ ms _ h ho hts => exec_timestamp_taken ms h ho hts,
    fun _ _ ms _ h hno => exec_timestamp_ignored ms h hno,
    fun _ _ _ cdw11 _ h hf => exec_getFeatures_saved cdw11 h hf,
    fun _ _ cdw11 _ h => exec_getFeatures_queues cdw11 h,
    fun _ _ dspec en _ h => exec_directiveSend_enable dspec en h,
    fun _ _ doper dspec cdw12 _ h => exec_directiveSend_streams doper dspec cdw12 h,
    fun _ _ dspec _ h => exec_directiveReceive_identify dspec h⟩

end Sys2Proof.Machine
end

section
/-! SUPPORT. The rows of failing power (R46, R273, R277, R278, R488): what the end of power stops, what closing the journal leaves, and the
registers that the end of a dump writes. -/

namespace Sys2Proof.Machine

/-! ### What the recorder and the store's controller leave -/

@[simp] theorem State.event_fl (s : State) (c a b d e : Nat) : (s.event c a b d e).fl = s.fl := by rw [State.event_frame]
@[simp] theorem State.event_crs (s : State) (c a b d e : Nat) : (s.event c a b d e).crs = s.crs := by rw [State.event_frame]
@[simp] theorem State.cfsRequest_fl (s : State) (r : Nat) (w : CfsWork) (n : Nat) : (s.cfsRequest r w n).fl = s.fl := by rw [State.cfsRequest_frame]
@[simp] theorem State.cfsRequest_crs (s : State) (r : Nat) (w : CfsWork) (n : Nat) : (s.cfsRequest r w n).crs = s.crs := by
  rw [State.cfsRequest_frame]
@[simp] theorem State.cfsRequest_dump (s : State) (r : Nat) (w : CfsWork) (n : Nat) : (s.cfsRequest r w n).dump = s.dump := by
  rw [State.cfsRequest_frame]
@[simp] theorem State.fld_cfsRequest (s : State) (r : Nat) (w : CfsWork) (n : Nat) (f : Fld) : (s.cfsRequest r w n).fld f = s.fld f := by
  rw [State.cfsRequest_frame]; rfl
@[simp] theorem State.persistStaged_fl (s : State) (r : Nat) : (s.persistStaged r).fl = s.fl := by rw [State.persistStaged_frame]
@[simp] theorem State.persistStaged_crs (s : State) (r : Nat) : (s.persistStaged r).crs = s.crs := by rw [State.persistStaged_frame]

/-! ### Steps 1 to 4 of R277 -/

section
variable (s : State)

@[simp] theorem State.pfailEvent_fl : s.pfailEvent.fl = s.fl := by
  unfold State.pfailEvent; simp only [State.persistStaged_fl]; split_ifs <;> simp

@[simp] theorem State.pfailEvent_crs : s.pfailEvent.crs = s.crs := by
  unfold State.pfailEvent; simp only [State.persistStaged_crs]; split_ifs <;> simp

@[simp] theorem State.storePfail_fl : s.storePfail.fl = s.fl := by unfold State.storePfail; simp only; split <;> rfl
@[simp] theorem State.storePfail_crs : s.storePfail.crs = s.crs := by unfold State.storePfail; simp only; split <;> rfl

@[simp] theorem State.powerEnds_ops : s.powerEnds.fl.ops = [] := rfl
@[simp] theorem State.powerEnds_copies : s.powerEnds.crs.copies = [] := rfl

@[simp] theorem State.closeGroup_fl (final clean : Bool) : (s.closeGroup final clean).fl = s.fl := by unfold State.closeGroup; split <;> rfl
@[simp] theorem State.closeGroup_crs (final clean : Bool) : (s.closeGroup final clean).crs = s.crs := by unfold State.closeGroup; split <;> rfl

theorem State.closeGroup_openGroup (final clean : Bool) : (s.closeGroup final clean).lif.openGroup = none := by
  unfold State.closeGroup
  split
  · assumption
  · rfl

/-- Closing a group counts it in LIF_CNT[0] and writes no other register. -/
theorem State.flag_closeGroup (final clean : Bool) (f : Fld) (hf : f.dw ≠ Reg.lifCnt 0) : (s.closeGroup final clean).flag f = s.flag f := by
  unfold State.closeGroup
  split
  · rfl
  · exact State.flag_setFld_ne _ _ _ _ (by decide) (.inl hf)

end

/-- The state in which power leaves the device: no command, no fetch, no flash operation, no copy, and a dump that runs since `m`. -/
def State.Dark (t : State) (m : Nat) : Prop :=
  t.dump.running = some m ∧ t.q.cmds = [] ∧ t.q.fetchStop = true ∧ t.fl.ops = [] ∧ t.crs.copies = []

/-- Before the dump area is formed only event records are written, and there is nothing to dump (R496). -/
theorem State.powerFail_unformed {s : State} (h : s.dump.running = none) (hf : s.dump.formed = false) : s.powerFail.Dark s.clk.mono := by
  unfold State.powerFail
  rw [if_neg (by simp [h])]
  extract_lets posted q stopped ended applied dark
  rw [if_pos (by simp [hf])]
  exact ⟨rfl, rfl, rfl, by simp [dark], by simp [dark]⟩

/-- With the dump area formed the journal closes and the dump begins (R277). -/
theorem State.powerFail_formed {s : State} (h : s.dump.running = none) (hf : s.dump.formed = true) :
    s.powerFail.Dark s.clk.mono ∧ s.powerFail.flag F.lifStatPfailseen = true ∧ s.powerFail.lif.openGroup = none := by
  unfold State.powerFail
  rw [if_neg (by simp [h])]
  extract_lets posted q stopped ended applied dark darkQ darkDump closed
  rw [if_neg (by simp [hf])]
  have hseen : closed.flag F.lifStatPfailseen = true := by
    simp only [closed, State.flag_closeGroup _ _ _ _ (show F.lifStatPfailseen.dw ≠ Reg.lifCnt 0 by decide)]
    exact State.flag_setFld_one _ _ (by decide) rfl
  have hops : closed.fl.ops = [] := by simp [closed, dark]
  have hcopies : closed.crs.copies = [] := by simp [closed, dark]
  have hgroup : closed.lif.openGroup = none := by simp only [closed, State.closeGroup_openGroup]
  clear_value closed
  exact ⟨⟨rfl, rfl, rfl, hops, hcopies⟩, hseen, hgroup⟩

/-- Failing power begins a dump once (R277, R496). -/
theorem State.powerFail_dark {s : State} (h : s.dump.running = none) : s.powerFail.Dark s.clk.mono := by
  cases hf : s.dump.formed with
  | false => exact State.powerFail_unformed h hf
  | true => exact (State.powerFail_formed h hf).1

/-- A rail that falls while PFAIL_N is high is treated as its assertion (R46, R488). -/
theorem State.railFall_stops {s : State} (r : Nat) (hp : s.pins.pfail = false) (h : s.dump.running = none) :
    (s.railFall r).dump.running = some s.clk.mono ∧ (s.railFall r).q.cmds = [] := by
  have hfall : s.railFall r = ({ s with pins := { s.pins with lowRails := insertNew r s.pins.lowRails } } : State).powerFail := by
    simp only [State.railFall, hp, Bool.false_eq_true, if_false]
  obtain ⟨hrun, hcmds, -⟩ := State.powerFail_dark (s := { s with pins := { s.pins with lowRails := insertNew r s.pins.lowRails } }) h
  rw [hfall]
  exact ⟨hrun, hcmds⟩

/-! ### The end of the dump (R277 step 7, R286) -/

theorem State.shiftLog_frame (s : State) (reg : Nat → Nat) (n : Nat) :
    s.shiftLog reg n = { s with regs := (s.shiftLog reg n).regs, stamps := (s.shiftLog reg n).stamps } :=
  State.foldl_frame (fun s t => { s with regs := t.regs, stamps := t.stamps }) _ _ s (fun _ => rfl) (fun _ _ _ h1 h2 => by rw [h2, h1])
    (fun s i => by simp only; split <;> rfl)

/-- A log that moves down leaves every register that is not one of its own. -/
theorem State.fld_shiftLog (s : State) (reg : Nat → Nat) (n : Nat) (f : Fld) (hf : ∀ i, f.dw ≠ reg i) : (s.shiftLog reg n).fld f = s.fld f := by
  unfold State.shiftLog
  induction List.range (n - 1) generalizing s with
  | nil => rfl
  | cons i l ih =>
    rw [List.foldl_cons, ih]
    simp only
    have hset : ∀ w, (s.setWord (reg (n - 1 - i)) w).fld f = s.fld f := fun w => by
      simp only [State.fld, State.word_setWord_ne _ _ _ _ (hf _)]
    split <;> exact hset _

/-- What the end of a dump notes: its quiet time, and a new entry of the history that says whether energy ran out. -/
theorem State.noteDump_fields (s : State) (n quiet : Nat) (short : Bool) :
    (s.noteDump n quiet short).fld F.lifPfLastQuiet = Nat.min 65535 quiet ∧ (s.noteDump n quiet short).fld (F.lifPfhistValid 0) = 1 ∧
      (s.noteDump n quiet short).fld (F.lifPfhistShort 0) = b2n short := by
  have hlog : ∀ i, F.lifPfLastQuiet.dw ≠ Reg.lifPfhist i := fun i => by
    simp only [Fld.dw, F.lifPfLastQuiet, Reg.lifPfLast, Reg.lifPfhist]; omega
  simp only [State.noteDump, State.lifCnt, State.addWrap_eq, State.putSat_eq, State.putFlag_eq, State.fld_cfsRequest]
  refine ⟨?quiet, ?valid, ?short⟩
  case quiet =>
    simp (disch := decide) only [State.fld_setFld_ne, State.fld_shiftLog _ _ _ _ hlog, State.fld_setFld]
    exact Nat.mod_eq_of_lt (Nat.lt_of_le_of_lt (Nat.min_le_left _ _) (by decide))
  case valid =>
    simp (disch := decide) only [State.fld_setFld_ne, State.fld_setFld]
    rfl
  case short =>
    simp (disch := decide) only [State.fld_setFld_ne, State.fld_setFld]
    cases short <;> rfl

@[simp] theorem State.noteDump_dump (s : State) (n quiet : Nat) (short : Bool) : (s.noteDump n quiet short).dump = s.dump := by
  simp only [State.noteDump, State.lifCnt, State.addWrap_eq, State.putSat_eq, State.putFlag_eq, State.cfsRequest_dump, State.setFld_dump]
  rw [State.shiftLog_frame]
  rfl

/-- A dump that ends with no port held in reset notes its end and leaves PFAIL_N as the operand gives it (R277, R278). -/
theorem exec_dumpEnd_stays {s : State} (quiet written : Nat) (rows : List (Nat × Nat)) (hrun : s.dump.running.isSome = true)
    (hend : s.dump.ended = false) (h0 : s.hif.port0.perst = false) (h1 : s.hif.port1.perst = false) :
    exec (.dumpEnd quiet written rows false) s =
      .next { s.dumpDone quiet written rows with pins := { (s.dumpDone quiet written rows).pins with pfail := true } } := by
  refine (guarded_true _ _ _ hrun).trans ?_
  simp only [hend, h0, h1, Bool.false_eq_true, if_false, Bool.and_self, Bool.not_false]

/-- A dump ends short where fewer slots were written than it had to write (R278). -/
theorem State.dumpDone_notes (s : State) (quiet written : Nat) (rows : List (Nat × Nat)) :
    ∃ (u : State) (n : Nat), u.dump.ended = true ∧ s.dumpDone quiet written rows = u.noteDump n quiet (decide (written < s.dump.total)) := by
  unfold State.dumpDone
  extract_lets n whole committed sealed d u
  have hshort : (!whole) = decide (written < s.dump.total) := by
    simp only [whole, n, ← decide_not, decide_eq_decide]
    show ¬(min written s.dump.total = s.dump.total) ↔ written < s.dump.total
    omega
  rw [hshort]
  exact ⟨u, n, rfl, rfl⟩

theorem exec_dumpEnd_fields {s : State} (quiet written : Nat) (rows : List (Nat × Nat)) (hrun : s.dump.running.isSome = true)
    (hend : s.dump.ended = false) (h0 : s.hif.port0.perst = false) (h1 : s.hif.port1.perst = false) :
    ∃ t, exec (.dumpEnd quiet written rows false) s = .next t ∧ t.dump.ended = true ∧ t.fld F.lifPfLastQuiet = Nat.min 65535 quiet ∧
      t.fld (F.lifPfhistValid 0) = 1 ∧ t.fld (F.lifPfhistShort 0) = b2n (decide (written < s.dump.total)) ∧ t.pins.pfail = true := by
  refine ⟨_, exec_dumpEnd_stays quiet written rows hrun hend h0 h1, ?_⟩
  obtain ⟨u, n, hu, hdone⟩ := s.dumpDone_notes quiet written rows
  obtain ⟨hquiet, hvalid, hpart⟩ := State.noteDump_fields u n quiet (decide (written < s.dump.total))
  have hended : (s.dumpDone quiet written rows).dump.ended = true := by rw [hdone, State.noteDump_dump, hu]
  rw [← hdone] at hquiet hvalid hpart
  generalize s.dumpDone quiet written rows = v at *
  exact ⟨hended, hquiet, hvalid, hpart, rfl⟩

/-- Power that is back after the end of the dump resets the device (R278). -/
theorem exec_dumpEnd_back {s : State} (quiet written : Nat) (rows : List (Nat × Nat)) (hrun : s.dump.running.isSome = true)
    (hend : s.dump.ended = true) :
    exec (.dumpEnd quiet written rows true) s =
      .next (({ s with pins := { s.pins with pfail := false } } : State).dumpReset (if s.hif.port0.perst && s.hif.port1.perst then 1 else 2)) := by
  refine (guarded_true _ _ _ hrun).trans ?_
  rw [hend]
  rfl

/-! ### The rows -/

/-- Settles O18: PFAIL_N, a low core and a low rail all lead to `powerFail`, and the dump's end to its notes or to a cold reset. -/
theorem powerFailRowsComplete : Obligations.PowerFailRowsComplete := by
  unfold Obligations.PowerFailRowsComplete
  refine ⟨?pfail, ?again, ?core, ?rail, ?railLate, fun s quiet written rows => exec_dumpEnd_fields quiet written rows,
    fun s quiet written rows => exec_dumpEnd_back quiet written rows⟩
  case pfail =>
    intro s h
    obtain ⟨hrun, hcmds, hfetch, hops, hcopies⟩ := State.powerFail_dark (s := { s with pins := { s.pins with pfail := true } }) h
    refine ⟨_, rfl, hrun, hcmds, hfetch, hops, hcopies, fun hf => ?_⟩
    exact (State.powerFail_formed (s := { s with pins := { s.pins with pfail := true } }) h hf).2
  case again =>
    intro s h
    exact congrArg _ (if_pos h)
  case core => exact fun s hp h => ⟨_, rfl, State.railFall_stops 0 hp h⟩
  case rail => exact fun s r hlo hhi hp h => ⟨_, guarded_true _ _ _ (by simp [hlo, hhi]), State.railFall_stops r hp h⟩
  case railLate =>
    intro s r hlo hhi hp
    refine (guarded_true _ _ _ (by simp [hlo, hhi])).trans ?_
    exact congrArg _ (if_pos hp)

end Sys2Proof.Machine
end

section
/-! SUPPORT. The rows of supplies and start-up (R49, R319, R418, R419, R433, R489, R495): what a cold reset keeps of the register that tells a
started device, what VDD_AON brings, and which registers the first steps of a start write. -/

namespace Sys2Proof.Machine

/-! ### The register of the running slot (R462, R515, R516) -/

/-- No stored word of FWU_SLOT names a running slot. -/
def RunningClear (regs : List (Nat × Word)) : Prop := ∀ p ∈ regs, p.1 = Reg.fwuSlot → F.fwuSlotRunning.get p.2 = 0

/-- The word a sparse store gives is a listed one, or the default. -/
theorem Sparse.get_mem_or {α : Type} (d : Nat → α) (k : Nat) (t : List (Nat × α)) :
    (k, Sparse.get d k t) ∈ t ∨ Sparse.get d k t = d k := by
  induction t with
  | nil => exact .inr rfl
  | cons p r ih =>
    obtain ⟨j, w⟩ := p
    simp only [Sparse.get]
    split
    · subst_vars; exact .inl (List.mem_cons_self ..)
    · exact ih.imp (List.mem_cons_of_mem _) id

theorem running_default : F.fwuSlotRunning.get (regDefault Reg.fwuSlot) = 0 := by decide

theorem RunningClear.word {s : State} (h : RunningClear s.regs) : F.fwuSlotRunning.get (s.word Reg.fwuSlot) = 0 := by
  rcases Sparse.get_mem_or regDefault Reg.fwuSlot s.regs with hm | hd
  · exact h _ hm rfl
  · rw [State.word, hd, running_default]

theorem RunningClear.not_started {s : State} (h : RunningClear s.regs) : s.started = false := by
  have hfld : s.fld F.fwuSlotRunning = 0 := h.word
  simp [State.started, State.flag, hfld]

theorem RunningClear.filter {regs : List (Nat × Word)} (h : RunningClear regs) (p : Nat × Word → Bool) : RunningClear (regs.filter p) :=
  fun q hq hk => h q (List.mem_of_mem_filter hq) hk

theorem RunningClear.setWord {s : State} (h : RunningClear s.regs) (o : Nat) (w : Word)
    (hw : o = Reg.fwuSlot → F.fwuSlotRunning.get w = 0) : RunningClear (s.setWord o w).regs := by
  intro p hp hk
  rcases Tab.mem_put o w s.regs p (List.mem_of_mem_filter hp) with rfl | hold
  · exact hw hk
  · exact h p hold hk

theorem RunningClear.setFld {s : State} (h : RunningClear s.regs) (f : Fld) (v : Nat) (hf : f.dw ≠ Reg.fwuSlot) : RunningClear (s.setFld f v).regs :=
  h.setWord _ _ (fun e => absurd e hf)

/-- Of FWU_SLOT a cold reset keeps the committed and the pending slot, not the running one. -/
theorem runningClear_keptRegs (regs : List (Nat × Word)) : RunningClear (keptRegs regs) := by
  intro p hp hk
  obtain ⟨q, -, rfl⟩ := List.mem_map.mp (List.mem_of_mem_filter hp)
  simp only at hk ⊢
  rw [hk, show keptMask Reg.fwuSlot = 0x33 by decide, show regDefault Reg.fwuSlot &&& ~~~(0x33 : Word) = 0#32 by decide, BitVec.or_zero]
  have hbits : (q.2 &&& (0x33 : Word)).toNat / 2 ^ 2 % 2 ^ 2 = (q.2.toNat / 2 ^ 2 % 2 ^ 2) &&& 0 := by
    rw [BitVec.toNat_and, Nat.and_div_two_pow, Nat.and_mod_two_pow]; rfl
  exact hbits.trans (Nat.and_zero _)

/-- A cold reset ends every command and session, and no slot runs after it (R83, R462, R515). -/
theorem State.coldReset_quiet (s : State) (cause : Nat) :
    RunningClear (s.coldReset cause).regs ∧ (s.coldReset cause).q.cmds = [] ∧ (s.coldReset cause).sec.sess0 = none ∧
      (s.coldReset cause).sec.sess1 = none := by
  obtain ⟨u, regs, hu, hreset⟩ : ∃ (u : State) (regs : List (Nat × Word)), u.regs = keptRegs regs ∧
      (s.coldReset cause).regs = (u.setFld F.genLastrstCause cause).regs := ⟨_, _, rfl, rfl⟩
  refine ⟨?_, rfl, rfl, rfl⟩
  rw [hreset]
  exact RunningClear.setFld (hu ▸ runningClear_keptRegs regs) _ _ (by decide)

theorem State.loadSettings_frame (s : State) : s.loadSettings = { s with regs := s.loadSettings.regs } := by
  unfold State.loadSettings
  exact State.foldl_frame (fun s t => { s with regs := t.regs }) _ _ _ (fun _ => rfl) (fun _ _ _ h1 h2 => by rw [h2, h1]) (fun _ _ => rfl)

theorem keep_none (w x : Word) : (w &&& ~~~(0 : Word)) ||| (x &&& 0) = w := by
  rw [show ~~~(0 : Word) = BitVec.allOnes 32 by decide, BitVec.and_allOnes]
  simp

theorem kMask_fwuSlot : kMask Reg.fwuSlot = 0 := by decide

/-- The settings record holds no part of FWU_SLOT, so taking it leaves the running slot clear (R516, R524). -/
theorem State.runningClear_loadSettings {s : State} (h : RunningClear s.regs) : RunningClear s.loadSettings.regs := by
  have hmap : RunningClear (s.regs.map (fun p => (p.1, (p.2 &&& ~~~ kMask p.1) ||| (regDefault p.1 &&& kMask p.1)))) := by
    intro p hp hk
    obtain ⟨q, hq, rfl⟩ := List.mem_map.mp hp
    simp only at hk ⊢
    rw [hk, kMask_fwuSlot, keep_none]
    exact h q hq hk
  unfold State.loadSettings
  refine List.foldlRecOn _ _ (motive := fun u : State => RunningClear u.regs) (hmap.filter _) (fun u hu p _ => ?_)
  refine hu.setWord _ _ (fun hk => ?_)
  rw [hk, kMask_fwuSlot, keep_none]
  exact hu.word

/-! ### VDD_AON (R49, R489) -/

/-- What the AON domain is when its supply has come up: the counts at 0, nothing armed, staged or running, PFAIL_N low. -/
structure State.AonFresh (t : State) : Prop where
  clk : t.clk = State.reset.clk
  timers : t.timers = []
  staged : t.stg.staged = []
  cmds : t.q.cmds = []
  sess0 : t.sec.sess0 = none
  sess1 : t.sec.sess1 = none
  pfail : t.pins.pfail = true
  running : RunningClear t.regs

theorem State.AonFresh.setFld {t : State} (h : t.AonFresh) (f : Fld) (v : Nat) (hf : f.dw ≠ Reg.fwuSlot) : (t.setFld f v).AonFresh :=
  ⟨h.clk, h.timers, h.staged, h.cmds, h.sess0, h.sess1, h.pfail, h.running.setFld f v hf⟩

theorem State.AonFresh.loadSettings {t : State} (h : t.AonFresh) : t.loadSettings.AonFresh := by
  have hr := State.runningClear_loadSettings h.running
  rw [State.loadSettings_frame]
  exact ⟨h.clk, h.timers, h.staged, h.cmds, h.sess0, h.sess1, h.pfail, hr⟩

/-- The first event of a fresh domain is the one record staged, and its timer the one armed (R471, R472). -/
theorem State.event_fresh {t : State} (hs : t.stg.staged = []) (ht : t.timers = []) (c a b d e : Nat) :
    (t.event c a b d e).stg.staged.length = 1 ∧ ∃ due, (t.event c a b d e).timers = [⟨.eventPersist, due⟩] := by
  simp [State.event, State.stageEvent, State.stageRec, State.armOnce, State.armed, hs, ht]

/-- VDD_AON rises on a fresh domain, whose one event, if any, tells of records that were lost (R49, R473). -/
theorem exec_vddAonApplied (s : State) :
    ∃ u : State, u.AonFresh ∧ (exec .vddAonApplied s = .next u ∨
      exec .vddAonApplied s = .next (u.event 0x0003 s.stg.staged.length ((s.stg.staged.head?.map (·.seq)).getD 0))) := by
  obtain ⟨hregs, hcmds, h0, h1⟩ := s.coldReset_quiet 0
  obtain ⟨u, hrow, hu⟩ : ∃ u : State, execVddAonApplied s = .next
      (let t := if s.fld F.genCfgpendPend ≠ 0 then u.loadSettings.setFlag F.genCfgpendLostseen else u.loadSettings
       if s.stg.staged.length = 0 then t else ((t.addSat F.evwPersistLost s.stg.staged.length).setFlag F.evwStatPflostseen).event 0x0003
         s.stg.staged.length ((s.stg.staged.head?.map (·.seq)).getD 0)) ∧ u.AonFresh :=
    ⟨_, rfl, ⟨rfl, rfl, rfl, hcmds, h0, h1, rfl, hregs.filter _⟩⟩
  have hsaved : (if s.fld F.genCfgpendPend ≠ 0 then u.loadSettings.setFlag F.genCfgpendLostseen else u.loadSettings).AonFresh := by
    split
    · exact hu.loadSettings.setFld _ _ (by decide)
    · exact hu.loadSettings
  by_cases hlost : s.stg.staged.length = 0
  · exact ⟨_, hsaved, .inl (hrow.trans (congrArg _ (if_pos hlost)))⟩
  · exact ⟨_, (hsaved.setFld F.evwPersistLost _ (by decide)).setFld F.evwStatPflostseen 1 (by decide),
      .inr (hrow.trans (congrArg _ (if_neg hlost)))⟩

@[simp] theorem State.event_sec (s : State) (c a b d e : Nat) : (s.event c a b d e).sec = s.sec := by rw [State.event_frame]
@[simp] theorem State.event_pins (s : State) (c a b d e : Nat) : (s.event c a b d e).pins = s.pins := by rw [State.event_frame]

theorem State.started_event (s : State) (c a b d e : Nat) : (s.event c a b d e).started = s.started :=
  State.flag_event _ _ _ _ _ _ _ (by decide) (by decide)

theorem exec_vddAonApplied_fresh (s : State) :
    ∃ t, exec .vddAonApplied s = .next t ∧ t.clk.mono = State.reset.clk.mono ∧ t.clk.aonUp = true ∧
      t.timers.all (fun x => decide (x.id = .eventPersist)) = true ∧ t.q.cmds = [] ∧ t.session 0 = none ∧ t.session 1 = none ∧
      t.pins.pfail = true ∧ t.started = false ∧ t.stg.staged.length ≤ 1 ∧ t.areas = s.areas ∧ t.keys = s.keys ∧ t.savedRegs = s.savedRegs := by
  obtain ⟨u, hu, hrow | hrow⟩ := exec_vddAonApplied s
  · have hheld := execVddAonApplied_held s _ hrow
    simp only [State.held, Prod.mk.injEq] at hheld
    obtain ⟨⟨-, hsaved, -, -⟩, hareas, hkeys, -⟩ := hheld
    exact ⟨u, hrow, by rw [hu.clk], by rw [hu.clk]; rfl, by simp [hu.timers], hu.cmds, hu.sess0, hu.sess1, hu.pfail, hu.running.not_started,
      by simp [hu.staged], hareas, hkeys, hsaved⟩
  · have hheld := execVddAonApplied_held s _ hrow
    simp only [State.held, Prod.mk.injEq] at hheld
    obtain ⟨⟨-, hsaved, -, -⟩, hareas, hkeys, -⟩ := hheld
    obtain ⟨hone, due, htimers⟩ := State.event_fresh hu.staged hu.timers 0x0003 s.stg.staged.length ((s.stg.staged.head?.map (·.seq)).getD 0) 0 0
    refine ⟨_, hrow, ?_, ?_, by simp [htimers], ?_, ?_, ?_, ?_, ?_, by omega, hareas, hkeys, hsaved⟩
    · rw [State.event_clk, hu.clk]
    · rw [State.event_clk, hu.clk]; rfl
    · rw [State.event_q, hu.cmds]
    · simp [State.session, hu.sess0]
    · simp [State.session, hu.sess1]
    · rw [State.event_pins, hu.pfail]
    · rw [State.started_event, hu.running.not_started]

/-! ### What the first steps of a start write (R495) -/

theorem satAdd_eq_min (top a b : Nat) : satAdd top a b = Nat.min top (a + b) := by
  show (if top < a + b then top else a + b) = min top (a + b)
  split <;> omega

/-- A saturating counter stops at its field's largest value (R514). -/
theorem State.fld_addSat (s : State) (f : Fld) (n : Nat) (h : f.sh + f.wid ≤ 32) :
    (s.addSat f n).fld f = Nat.min (2 ^ f.wid - 1) (s.fld f + n) := by
  rw [State.addSat_eq, State.fld_setFld _ _ _ h, satAdd_eq_min, Nat.mod_eq_of_lt]
  exact Nat.lt_of_le_of_lt (Nat.min_le_left _ _) (Nat.sub_lt (Nat.two_pow_pos _) Nat.one_pos)

/-- `t` is `s` with at most the registers at `offs` written, and the flash side as it was. -/
def State.WritesOnly (offs : List Nat) (s t : State) : Prop := t.fl = s.fl ∧ ∀ o, o ∉ offs → t.word o = s.word o

section
variable {offs : List Nat} {s t u : State}

theorem State.WritesOnly.refl (offs : List Nat) (s : State) : s.WritesOnly offs s := ⟨rfl, fun _ _ => rfl⟩

theorem State.WritesOnly.trans (h : s.WritesOnly offs t) (h' : t.WritesOnly offs u) : s.WritesOnly offs u :=
  ⟨h'.1.trans h.1, fun o ho => (h'.2 o ho).trans (h.2 o ho)⟩

theorem State.WritesOnly.fld (h : s.WritesOnly offs t) (f : Fld) (hf : f.dw ∉ offs) : t.fld f = s.fld f := by
  simp only [State.fld, h.2 _ hf]

theorem State.WritesOnly.flag (h : s.WritesOnly offs t) (f : Fld) (hf : f.dw ∉ offs) : t.flag f = s.flag f := by
  simp only [State.flag, h.fld f hf]

/-- An update of other parts of the state writes no register. -/
theorem State.WritesOnly.of_eq (hregs : t.regs = s.regs) (hfl : t.fl = s.fl) : s.WritesOnly offs t :=
  ⟨hfl, fun o _ => State.word_congr o hregs⟩

theorem State.WritesOnly.setWord (o : Nat) (w : Word) (ho : o ∈ offs) : s.WritesOnly offs (s.setWord o w) :=
  ⟨rfl, fun _ hp => State.word_setWord_ne _ _ _ _ (fun e => hp (e ▸ ho))⟩

theorem State.WritesOnly.setFld (f : Fld) (v : Nat) (hf : f.dw ∈ offs) : s.WritesOnly offs (s.setFld f v) := .setWord _ _ hf

theorem State.WritesOnly.event (c a b d e : Nat) (h1 : Reg.evwDrop ∈ offs) (h2 : Reg.evwStat ∈ offs) : s.WritesOnly offs (s.event c a b d e) := by
  refine ⟨State.event_fl _ _ _ _ _ _, fun o ho => ?_⟩
  unfold State.event State.stageEvent
  simp only
  split
  · rw [State.word_congr o s.refuseRec_regs]
    exact ((State.WritesOnly.setFld F.evwDropCount _ h1).trans (.setFld F.evwStatDropseen 1 h2)).2 o ho
  · apply State.word_congr
    rw [State.stageRec_frame]

theorem State.WritesOnly.cfsRequest (r : Nat) (w : CfsWork) (n : Nat) : s.WritesOnly offs (s.cfsRequest r w n) :=
  .of_eq (by rw [State.cfsRequest_frame]) (State.cfsRequest_fl _ _ _ _)

theorem State.WritesOnly.setArea (a : Nat) (x : AreaState) : s.WritesOnly offs (s.setArea a x) := .of_eq rfl rfl
theorem State.WritesOnly.cfsPut (j : CfsJob) : s.WritesOnly offs (s.cfsPut j) := .of_eq rfl rfl

theorem State.WritesOnly.foldl {α : Type} (g : State → α → State) (l : List α) (s : State) (h : ∀ (u : State) a, a ∈ l → u.WritesOnly offs (g u a)) :
    s.WritesOnly offs (l.foldl g s) :=
  List.foldlRecOn l g (motive := fun u => s.WritesOnly offs u) (.refl offs s) (fun u hu a ha => hu.trans (h u a ha))

end

/-- The registers that the boot ROM's steps write besides GEN_STARTS: the recorder's, the store's counters, the anchor's count, and those of the
timekeeper and the regulator. -/
def bootRegs : List Nat :=
  [Reg.evwDrop, Reg.evwStat, Reg.cfsCnt 0, Reg.cfsCnt 10, Reg.cfsCfguse, Reg.lifAnchor, Reg.tkStat, Reg.strStat, Reg.paceVstat]

section
variable (s : State)

theorem State.compact_boot : s.WritesOnly bootRegs s.compact := by
  unfold State.compact
  simp only
  split
  · split
    · exact .refl _ _
    · refine State.WritesOnly.trans ?_ (.cfsRequest _ _ _)
      refine State.WritesOnly.trans ?_ (.setFld _ _ (by decide))
      refine State.WritesOnly.trans ?_ (.setFld _ _ (by decide))
      exact State.WritesOnly.trans (.foldl _ _ _ (fun u a _ => .cfsPut _)) (.setArea _ _)
  · exact .refl _ _

theorem State.advanceArea_boot (a : Nat) : s.WritesOnly bootRegs (s.advanceArea a) := by
  have hset : ∀ x, s.WritesOnly bootRegs (s.setArea a x) := fun _ => .of_eq rfl rfl
  unfold State.advanceArea
  simp only
  split
  · exact hset _
  · split
    · exact (hset _).trans (.cfsRequest _ _ _)
    · exact (hset _).trans (.cfsRequest _ _ _)
    · exact (hset _).trans (.cfsRequest _ _ _)
    · exact (hset _).trans (.cfsRequest _ _ _)
    · exact (hset _).trans (State.compact_boot _)
    · exact hset _

theorem State.reportDrops_boot : s.WritesOnly bootRegs s.reportDrops := by
  unfold State.reportDrops
  split
  · exact (State.WritesOnly.event _ _ _ _ _ (by decide) (by decide)).trans (.of_eq rfl rfl)
  · exact .refl _ _

theorem State.roundAdd_boot (r : EventRec) : s.WritesOnly bootRegs (s.roundAdd r) := by
  unfold State.roundAdd
  simp only
  split <;> exact .of_eq rfl rfl

theorem State.castAdd_boot (r : EventRec) : s.WritesOnly bootRegs (s.castAdd r) := by
  unfold State.castAdd
  split <;> exact .of_eq rfl rfl

theorem State.persisted_boot (seq : Nat) : s.WritesOnly bootRegs (s.persisted seq) := by
  unfold State.persisted
  split
  · exact .refl _ _
  · rename_i r _
    extract_lets +onlyGivenNames named cast added
    have hadd : s.WritesOnly bootRegs added := by
      simp only [added]
      split
      · exact s.castAdd_boot r
      · exact (s.castAdd_boot r).trans (State.roundAdd_boot _ r)
    clear_value added
    refine State.WritesOnly.trans (hadd.trans ?_) (State.reportDrops_boot _)
    simp only
    split <;> exact .of_eq rfl rfl

theorem State.flushStaged_boot : s.WritesOnly bootRegs s.flushStaged := by
  unfold State.flushStaged
  refine State.WritesOnly.trans (.of_eq rfl rfl) (.foldl _ _ _ (fun u r _ => ?_))
  simp only
  have hcount : ∀ (v : State) a, v.WritesOnly bootRegs ((v.advanceArea a).cfsCnt 0) := fun v a =>
    (v.advanceArea_boot a).trans (.setFld _ _ (by decide))
  refine State.WritesOnly.trans ?_ (State.persisted_boot _ _)
  split
  · exact (hcount u 6).trans (hcount _ 5)
  · exact hcount u 6

theorem State.eraseAgain_boot : s.WritesOnly bootRegs s.eraseAgain := by
  unfold State.eraseAgain
  simp only
  refine State.WritesOnly.trans ?_ (State.compact_boot _)
  have herase : ∀ (u : State) o r, u.WritesOnly bootRegs (if (u.cfs.queue.any fun j => j.work = .erase o) = true then u else u.cfsRequest r (.erase o) 1) := by
    intro u o r
    split
    · exact .refl _ _
    · exact .cfsRequest _ _ _
  have hareas : s.WritesOnly bootRegs ([(1, 3), (2, 3), (3, 2), (6, 4), (7, 5)].foldl (fun (t : State) (p : Nat × Nat) =>
      match (t.area p.1).erased, (t.area p.1).full with
      | [], o :: _ => if (t.cfs.queue.any fun j => j.work = .erase o) = true then t else t.cfsRequest p.2 (.erase o) 1
      | _, _ => t) s) := by
    refine .foldl _ _ _ (fun u p _ => ?_)
    split
    · exact herase _ _ _
    · exact .refl _ _
  refine hareas.trans ?_
  split
  · exact .foldl _ _ _ (fun u o _ => herase u o 4)
  · exact .refl _ _

theorem State.settleAnchor_boot : s.WritesOnly bootRegs s.settleAnchor := by
  unfold State.settleAnchor
  split
  · exact .refl _ _
  · exact State.WritesOnly.trans (.of_eq rfl rfl) (.setFld _ _ (by decide))

theorem State.startReft_boot (edge : Bool) : s.WritesOnly bootRegs (s.startReft edge) := by
  have hset : ∀ (u : State) f, f.dw ∈ bootRegs → u.WritesOnly bootRegs (u.setFlag f) := fun u f hf => .setFld f 1 hf
  have hlost := (hset s F.tkStatReftlost (by decide)).trans (hset _ F.strStatOutoftime (by decide))
  unfold State.startReft
  simp only
  split
  · exact .refl _ _
  · split
    · exact hlost
    · exact (hlost.trans (hset _ F.tkStatReftseen (by decide))).trans (.event _ _ _ _ _ (by decide) (by decide))

theorem State.requestVolts_boot (mv : Nat) : s.WritesOnly bootRegs (s.requestVolts mv) := by
  unfold State.requestVolts
  split
  · exact .refl _ _
  · exact (State.WritesOnly.setFld F.paceVstatReq mv (by decide)).trans (.of_eq rfl rfl)

theorem State.startVolts_boot (mode : Option Nat) : s.WritesOnly bootRegs (s.startVolts mode) := by
  unfold State.startVolts
  split
  · exact State.WritesOnly.trans (.of_eq rfl rfl) (State.requestVolts_boot _ 800)
  · exact State.WritesOnly.trans (.of_eq rfl rfl) (.setFld F.paceVstatNoack 1 (by decide))

theorem State.advanceTo_boot (m : Nat) : s.WritesOnly bootRegs (s.advanceTo m) := by
  rw [State.advanceTo_frame]
  exact .of_eq rfl rfl

/-- The boot ROM writes `bootRegs` and counts the start. -/
theorem State.bootRom_boot (f : StartFacts) : ∃ u : State, s.WritesOnly bootRegs u ∧ (u.addSat F.genStartsCount 1).regs = (s.bootRom f).regs ∧
    (s.bootRom f).fl = u.fl := by
  refine ⟨_, ?_, rfl, rfl⟩
  exact ((((s.advanceTo_boot _).trans (State.settleAnchor_boot _)).trans (State.flushStaged_boot _)).trans (State.eraseAgain_boot _)).trans
    ((State.startReft_boot _ _).trans (State.startVolts_boot _ _))

/-- The first steps of a start leave the flash side and every field of the registers outside `bootRegs` and GEN_STARTS. -/
theorem State.bootRom_fld (f : StartFacts) : (s.bootRom f).fl = s.fl ∧
    (∀ g : Fld, g.dw ∉ Reg.genStarts :: bootRegs → (s.bootRom f).fld g = s.fld g) ∧
    (s.bootRom f).fld F.genStartsCount = Nat.min (2 ^ 32 - 1) (s.fld F.genStartsCount + 1) := by
  obtain ⟨u, hu, hregs, hfl⟩ := s.bootRom_boot f
  refine ⟨hfl.trans hu.1, fun g hg => ?_, ?_⟩
  · rw [State.fld_congr g hregs.symm, State.addSat_eq, State.fld_setFld_ne _ _ _ _ (by decide) (.inl (List.ne_of_not_mem_cons hg)),
      hu.fld g (List.not_mem_of_not_mem_cons hg)]
  · rw [State.fld_congr _ hregs.symm, State.fld_addSat _ _ _ (by decide), hu.fld _ (by decide)]
    rfl

/-- The calibration row changes CFS_CALSTAT, and where it fails, an event and CSTS.CFS (R433). -/
def calRegs : List Nat := [Reg.cfsCalstat, Reg.evwDrop, Reg.evwStat]

theorem State.neverReady_frame : s.neverReady = { s with fns := s.neverReady.fns, pins := s.neverReady.pins } := by
  unfold State.neverReady State.publish
  rw [State.setCfs_frame]

theorem State.neverReady_writes (offs : List Nat) : s.WritesOnly offs s.neverReady := by
  rw [State.neverReady_frame]
  exact .of_eq rfl rfl

theorem State.flag_neverReady (f : Fld) : s.neverReady.flag f = s.flag f := by
  rw [State.neverReady_frame]; rfl

theorem State.neverReady_cfs : (s.neverReady.func 0).cfs = true ∧ (s.neverReady.func 1).cfs = true := by
  have hset : s.neverReady.fns = (s.setCfs [0, 1]).fns := rfl
  constructor
  · rw [State.func_congr 0 hset]
    simp only [State.setCfs, List.foldl, State.updFunc_eq]
    rw [State.func_setFunc_ne _ _ _ _ (by decide), State.func_setFunc]
  · rw [State.func_congr 1 hset]
    simp only [State.setCfs, List.foldl, State.updFunc_eq]
    rw [State.func_setFunc]

theorem State.checkCal_writes (ok : Bool) : s.WritesOnly calRegs (s.checkCal ok) := by
  have hmark : s.WritesOnly calRegs ((s.setFlag F.cfsCalstatValid).putFlag F.cfsCalstatPass ok) :=
    State.WritesOnly.trans (.setFld F.cfsCalstatValid 1 (by decide)) (.setFld F.cfsCalstatPass _ (by decide))
  unfold State.checkCal
  simp only
  split
  · exact hmark.trans (.setFld _ _ (by decide))
  · exact (hmark.trans (.event 0x0F03 0 0 0 0 (by decide) (by decide))).trans (State.neverReady_writes _ _)

/-- What the check of the calibration row reports: it was made, and its outcome. -/
theorem State.checkCal_flags (ok : Bool) :
    (s.checkCal ok).flag F.cfsCalstatValid = true ∧ (s.checkCal ok).flag F.cfsCalstatPass = ok := by
  have hvalid : ((s.setFlag F.cfsCalstatValid).putFlag F.cfsCalstatPass ok).flag F.cfsCalstatValid = true := by
    rw [State.putFlag_eq, State.flag_setFld_ne _ _ _ _ (by decide) (by decide)]
    exact State.flag_setFld_one _ _ (by decide) rfl
  have hpass : ((s.setFlag F.cfsCalstatValid).putFlag F.cfsCalstatPass ok).flag F.cfsCalstatPass = ok := by
    rw [State.putFlag_eq, State.flag_setFld _ _ _ (by decide)]
    cases ok <;> rfl
  unfold State.checkCal
  simp only
  split
  · rw [State.flag_setFld_ne _ _ _ _ (by decide) (by decide), State.flag_setFld_ne _ _ _ _ (by decide) (by decide)]
    exact ⟨hvalid, hpass⟩
  · simp only [State.flag_neverReady, State.flag_event _ F.cfsCalstatValid _ _ _ _ _ (by decide) (by decide),
      State.flag_event _ F.cfsCalstatPass _ _ _ _ _ (by decide) (by decide)]
    exact ⟨hvalid, hpass⟩

theorem State.loadDelays_writes : s.WritesOnly ((List.range 128).map Reg.hbmPcDly) s.loadDelays :=
  .foldl _ _ _ (fun _ _ hp => .setWord _ _ (List.mem_map_of_mem hp))

/-- The delays lie from 1000h to 1400h. -/
theorem not_mem_delays {o : Nat} (h : o < 0x1000 ∨ 0x1400 ≤ o) : o ∉ (List.range 128).map Reg.hbmPcDly := by
  simp only [List.mem_map, List.mem_range, Reg.hbmPcDly]
  rintro ⟨p, hp, rfl⟩
  omega

end

/-! ### How a start ends (R419, R433, R495) -/

section
variable {s : State} {f : StartFacts}

theorem State.not_started_of_mayStart (h : s.mayStart = true) : s.started = false := by
  simp only [State.mayStart, Bool.and_eq_true, Bool.not_eq_true'] at h
  exact h.1.1.1.1.1.2

/-- A start whose calibration row fails ends there (R433). -/
theorem exec_coldStart_badCal (hs : s.mayStart = true) (hcal : f.calOk = false) :
    ∃ t, exec (.coldStart f) s = .next t ∧ (t.func 0).cfs = true ∧ (t.func 1).cfs = true ∧ t.flag F.cfsCalstatValid = true ∧
      t.flag F.cfsCalstatPass = false ∧ t.started = false ∧ t.fl = s.fl := by
  have hrow : exec (.coldStart f) s = .next ((s.bootRom f).checkCal false) :=
    (guarded_true _ _ _ hs).trans (by simp only [State.coldStart, hcal, Bool.not_false, if_true])
  obtain ⟨hfl, hfld, -⟩ := s.bootRom_fld f
  obtain ⟨hvalid, hpass⟩ := (s.bootRom f).checkCal_flags false
  have hwrites := (s.bootRom f).checkCal_writes false
  have hstarted : ((s.bootRom f).checkCal false).started = false := by
    rw [State.started, hwrites.flag _ (by decide), State.flag, hfld _ (by decide)]
    exact State.not_started_of_mayStart hs
  refine ⟨_, hrow, ?_, ?_, hvalid, hpass, hstarted, hwrites.1.trans hfl⟩
  · exact (State.neverReady_cfs _).1
  · exact (State.neverReady_cfs _).2

/-- The state of a start whose calibration row has verified, with the delays loaded. -/
def State.calibrated (s : State) (f : StartFacts) : State := ((s.bootRom f).checkCal true).loadDelays

/-- Loading the delays and the check of the row leave the fields outside their registers as the boot ROM left them. -/
theorem State.calibrated_fld (s : State) (f : StartFacts) (g : Fld) (hd : g.dw < 0x1000 ∨ 0x1400 ≤ g.dw) (hg : g.dw ∉ calRegs) :
    (s.calibrated f).fld g = (s.bootRom f).fld g :=
  (((s.bootRom f).checkCal true).loadDelays_writes.fld g (not_mem_delays hd)).trans (((s.bootRom f).checkCal_writes true).fld g hg)

theorem State.calibrated_fl (s : State) (f : StartFacts) : (s.calibrated f).fl = s.fl :=
  ((s.bootRom f).checkCal true).loadDelays_writes.1.trans (((s.bootRom f).checkCal_writes true).1.trans (s.bootRom_fld f).1)

theorem State.calibrated_pass (s : State) (f : StartFacts) : (s.calibrated f).flag F.cfsCalstatPass = true :=
  (((s.bootRom f).checkCal true).loadDelays_writes.flag _ (not_mem_delays (by decide))).trans ((s.bootRom f).checkCal_flags true).2

/-- The first steps of a start leave what a cold reset found of these fields (R418, R495). -/
theorem State.calibrated_kept (s : State) (f : StartFacts) (g : Fld) (hd : g.dw < 0x1000 ∨ 0x1400 ≤ g.dw) (hg : g.dw ∉ calRegs)
    (hb : g.dw ∉ Reg.genStarts :: bootRegs) : (s.calibrated f).fld g = s.fld g :=
  (s.calibrated_fld f g hd hg).trans ((s.bootRom_fld f).2.1 g hb)

theorem State.calibrated_started (hs : s.mayStart = true) : (s.calibrated f).flag F.fwuSlotRunning = false := by
  rw [State.flag, s.calibrated_kept f _ (by decide) (by decide) (by decide)]
  exact State.not_started_of_mayStart hs

/-- The boot locator names the slot that it named before the start (R418). -/
theorem State.calibrated_bootSlot (s : State) (f : StartFacts) : (s.calibrated f).bootSlot = s.bootSlot := by
  have hpending : (s.calibrated f).flag F.fwuStatPending = s.flag F.fwuStatPending := by
    rw [State.flag, s.calibrated_kept f _ (by decide) (by decide) (by decide)]; rfl
  unfold State.bootSlot
  rw [hpending, s.calibrated_kept f F.fwuSlotPendingslot (by decide) (by decide) (by decide),
    s.calibrated_kept f F.fwuSlotCommitted (by decide) (by decide) (by decide)]

/-- A start whose calibration row verifies goes on to the HBM pattern and to the slot that the boot locator names (R419, R495). -/
theorem State.coldStart_calibrated (hcal : f.calOk = true) :
    s.coldStart f = match f.badPc with
      | some p => ((s.calibrated f).event 0x0903 p).neverReady
      | none =>
        if (if s.bootSlot = 2 then f.valid2 % 16 else f.valid1 % 16) = 0 ∨ f.failPart ≠ 0 then
          (((s.calibrated f).setFlag F.hbmStatDlyok).noteBoot s.bootSlot f.valid1 f.valid2 f.failPart).bootFails
            (if s.bootSlot = 2 then f.valid2 % 16 else f.valid1 % 16) f.failPart
        else (((s.calibrated f).setFlag F.hbmStatDlyok).noteBoot s.bootSlot f.valid1 f.valid2 f.failPart).bringUp f s.bootSlot := by
  rw [← s.calibrated_bootSlot f]
  unfold State.coldStart
  rw [hcal]
  rfl

/-- A start whose HBM pattern fails ends there (R319). -/
theorem exec_coldStart_badPattern {p : Nat} (hs : s.mayStart = true) (hcal : f.calOk = true) (hpc : f.badPc = some p) :
    ∃ t, exec (.coldStart f) s = .next t ∧ (t.func 0).cfs = true ∧ (t.func 1).cfs = true ∧ t.flag F.cfsCalstatPass = true ∧
      t.started = false ∧ t.fl = s.fl := by
  have hrow : exec (.coldStart f) s = .next (((s.calibrated f).event 0x0903 p).neverReady) :=
    (guarded_true _ _ _ hs).trans (by rw [State.coldStart_calibrated hcal, hpc])
  refine ⟨_, hrow, (State.neverReady_cfs _).1, (State.neverReady_cfs _).2, ?_, ?_, ?_⟩
  · rw [State.flag_neverReady, State.flag_event _ _ _ _ _ _ _ (by decide) (by decide), s.calibrated_pass]
  · rw [State.started, State.flag_neverReady, State.flag_event _ _ _ _ _ _ _ (by decide) (by decide), State.calibrated_started hs]
  · rw [(State.neverReady_writes _ []).1, State.event_fl, s.calibrated_fl]

theorem Fld.get_lt (f : Fld) (w : Word) : f.get w < 2 ^ f.wid := Nat.mod_lt _ (Nat.two_pow_pos _)

theorem State.bootSlot_lt (s : State) : s.bootSlot < 4 := by
  unfold State.bootSlot
  split
  · exact Fld.get_lt F.fwuSlotPendingslot _
  · exact Fld.get_lt F.fwuSlotCommitted _

theorem State.publish_writes (offs : List Nat) (s : State) : s.WritesOnly offs s.publish := .of_eq rfl rfl

/-- A dead device's registers are those it died with, but the flag of the dead state and the recorder's (R419). -/
theorem State.bootFails_writes (s : State) (valid part : Nat) :
    s.WritesOnly [Reg.genState, Reg.evwDrop, Reg.evwStat] (s.bootFails valid part) := by
  unfold State.bootFails State.die
  refine State.WritesOnly.trans ?_ (State.publish_writes _ _)
  exact (State.WritesOnly.setFld F.genStateDead 1 (by decide)).trans (.event 0x0E05 _ _ 0 0 (by decide) (by decide))

theorem State.bootFails_dead (s : State) (valid part : Nat) : (s.bootFails valid part).flag F.genStateDead = true := by
  unfold State.bootFails State.die
  rw [(State.publish_writes [] _).flag _ (List.not_mem_nil), State.flag_event _ _ _ _ _ _ _ (by decide) (by decide)]
  exact State.flag_setFld_one _ _ (by decide) rfl

/-- The boot registers take what the boot locator's slot gave; the slot that runs is left. -/
theorem State.noteBoot_slot (s : State) (slot v1 v2 part : Nat) :
    (s.noteBoot slot v1 v2 part).fld F.fwuSlotCommitted = slot % 4 ∧ (s.noteBoot slot v1 v2 part).flag F.fwuSlotRunning = s.flag F.fwuSlotRunning := by
  unfold State.noteBoot
  simp only [State.clrFlag_eq, State.flag]
  refine ⟨?_, ?_⟩
  · simp (disch := decide) only [State.fld_setFld_ne, State.fld_setFld]
    rfl
  · simp (disch := decide) only [State.fld_setFld_ne]

theorem State.noteBoot_writes (s : State) (slot v1 v2 part : Nat) :
    s.WritesOnly [Reg.cfsBootloc, Reg.genBoot, Reg.fwuSlot, Reg.fwuStat] (s.noteBoot slot v1 v2 part) := by
  have hset : ∀ (u : State) f v, f.dw ∈ [Reg.cfsBootloc, Reg.genBoot, Reg.fwuSlot, Reg.fwuStat] →
      u.WritesOnly [Reg.cfsBootloc, Reg.genBoot, Reg.fwuSlot, Reg.fwuStat] (u.setFld f v) := fun _ f v hf => .setFld f v hf
  unfold State.noteBoot
  exact ((((((((hset _ _ _ (by decide)).trans (hset _ _ _ (by decide))).trans (hset _ _ _ (by decide))).trans (hset _ _ _ (by decide))).trans
    (hset _ _ _ (by decide))).trans (hset _ _ _ (by decide))).trans (hset _ _ _ (by decide))).trans (hset _ _ _ (by decide)))

/-- A start whose slot cannot be read, or has a part that fails, ends in the dead state (R418, R419). -/
theorem exec_coldStart_dead (hs : s.mayStart = true) (hcal : f.calOk = true) (hpc : f.badPc = none)
    (hbad : (if s.bootSlot = 2 then f.valid2 % 16 else f.valid1 % 16) = 0 ∨ f.failPart ≠ 0) :
    ∃ t, exec (.coldStart f) s = .next t ∧ t.flag F.genStateDead = true ∧ t.flag F.hbmStatDlyok = true ∧ t.started = false ∧ t.fl = s.fl ∧
      t.fld F.fwuSlotCommitted = s.bootSlot ∧ t.fld F.genStartsCount = Nat.min (2 ^ 32 - 1) (s.fld F.genStartsCount + 1) := by
  have hrow : exec (.coldStart f) s = .next ((((s.calibrated f).setFlag F.hbmStatDlyok).noteBoot s.bootSlot f.valid1 f.valid2 f.failPart).bootFails
      (if s.bootSlot = 2 then f.valid2 % 16 else f.valid1 % 16) f.failPart) :=
    (guarded_true _ _ _ hs).trans (by rw [State.coldStart_calibrated hcal, hpc]; exact congrArg _ (if_pos hbad))
  have hdead := State.bootFails_writes (((s.calibrated f).setFlag F.hbmStatDlyok).noteBoot s.bootSlot f.valid1 f.valid2 f.failPart)
    (if s.bootSlot = 2 then f.valid2 % 16 else f.valid1 % 16) f.failPart
  have hboot := ((s.calibrated f).setFlag F.hbmStatDlyok).noteBoot_writes s.bootSlot f.valid1 f.valid2 f.failPart
  obtain ⟨hcommitted, hrunning⟩ := ((s.calibrated f).setFlag F.hbmStatDlyok).noteBoot_slot s.bootSlot f.valid1 f.valid2 f.failPart
  refine ⟨_, hrow, State.bootFails_dead _ _ _, ?dlyok, ?started, ?fl, ?slot, ?count⟩
  case dlyok =>
    rw [hdead.flag _ (by decide), hboot.flag _ (by decide)]
    exact State.flag_setFld_one _ _ (by decide) rfl
  case started =>
    rw [State.started, hdead.flag _ (by decide), hrunning, State.setFlag_eq, State.flag_setFld_ne _ _ _ _ (by decide) (by decide),
      State.calibrated_started hs]
  case fl => rw [hdead.1, hboot.1, State.setFlag_eq, State.setFld_fl, s.calibrated_fl]
  case slot => rw [hdead.fld _ (by decide), hcommitted, Nat.mod_eq_of_lt s.bootSlot_lt]
  case count =>
    rw [hdead.fld _ (by decide), hboot.fld _ (by decide), State.setFlag_eq, State.fld_setFld_ne _ _ _ _ (by decide) (by decide),
      s.calibrated_fld f _ (by decide) (by decide)]
    exact (s.bootRom_fld f).2.2

theorem exec_coldStart_bringUp (hs : s.mayStart = true) (hcal : f.calOk = true) (hpc : f.badPc = none)
    (hvalid : (if s.bootSlot = 2 then f.valid2 % 16 else f.valid1 % 16) ≠ 0) (hpart : f.failPart = 0) :
    exec (.coldStart f) s =
      .next ((((((s.bootRom f).checkCal true).loadDelays).setFlag F.hbmStatDlyok).noteBoot s.bootSlot f.valid1 f.valid2 0).bringUp f s.bootSlot) := by
  refine (guarded_true _ _ _ hs).trans ?_
  rw [State.coldStart_calibrated hcal, hpc]
  refine congrArg _ ((if_neg (by simp [hvalid, hpart])).trans ?_)
  rw [hpart]
  rfl

end

/-- Settles O32: VDD_AON finds the fresh AON domain, and a start ends where the first of its checks fails, or is brought up. -/
theorem startRowsComplete : Obligations.StartRowsComplete := by
  unfold Obligations.StartRowsComplete
  exact ⟨exec_vddAonApplied_fresh, fun _ _ hs hcal => exec_coldStart_badCal hs hcal, fun _ _ _ hs hcal hpc => exec_coldStart_badPattern hs hcal hpc,
    fun _ _ hs hcal hpc hbad => exec_coldStart_dead hs hcal hpc hbad,
    fun _ _ hs hcal hpc hvalid hpart => exec_coldStart_bringUp hs hcal hpc hvalid hpart⟩

end Sys2Proof.Machine
end

section
/-! SUPPORT. What a training counts (R300, R308). A LUN taken out of service ends what its die was doing, and none of that writes the training
count of a channel (CHN_ERR.TRAINS) or the table of trained channels. A lemma named f_trained says that f leaves both as they are; it stands
beside the lemmas f_held and f_kept of the model's laws and follows the same calls. -/

namespace Sys2Proof.Machine

/-- The training counts of the channels, as the stored words have them. -/
def trainsOf (regs : List (Nat × Word)) (c : Nat) : Nat :=
  (F.chnErrTrains c).get (Sparse.get regDefault (F.chnErrTrains c).dw regs)

/-- What a training changes: the training counts and the table of trained channels. -/
def State.trained (s : State) : (Nat → Nat) × List (Nat × Chan) := (trainsOf s.regs, s.fl.chans)

theorem trained_fold (s : State) : (trainsOf s.regs, s.fl.chans) = s.trained := rfl

theorem State.trained_fld {s t : State} (h : t.trained = s.trained) (c : Nat) : t.fld (F.chnErrTrains c) = s.fld (F.chnErrTrains c) :=
  congrFun (congrArg Prod.fst h) c

theorem State.trained_chan {s t : State} (h : t.trained = s.trained) (c : Nat) : t.chan c = s.chan c := by
  rw [State.chan, State.chan, show t.fl.chans = s.fl.chans from congrArg Prod.snd h]

theorem foldl_trained {α : Type} (g : State → α → State) (l : List α) (s : State) (h : ∀ u x, (g u x).trained = u.trained) :
    (l.foldl g s).trained = s.trained := by
  induction l generalizing s with
  | nil => rfl
  | cons a l ih => exact (ih (g s a)).trans (h s a)

theorem getD_trained (o : Option State) (s : State) (h : ∀ t, o = some t → t.trained = s.trained) : (o.getD s).trained = s.trained := by
  cases o with
  | none => rfl
  | some t => exact h t rfl

theorem trained_mk (pending_ : List Instr) (clk_ : Clock) (timers_ : List Timer) (regs_ : List (Nat × Word)) (latches_ : List (Nat × Nat))
    (stamps_ : List (Nat × Nat)) (pace_ : Pace) (stg_ : Staging) (areas_ : EventAreas) (bank0_ : EvwBank) (bank1_ : EvwBank) (cfs_ : CfsCtl)
    (sectors_ : List (Nat × Sector)) (areaTab_ : List (Nat × AreaState)) (reserve_ : List Nat) (records_ : List (Nat × CfsRecord))
    (keys_ : KeySet) (savedRegs_ : List (Nat × Word)) (sec_ : Sec) (hif_ : Hif) (fns_ : List (Nat × Func)) (q_ : Qen) (tx_ : List Tx)
    (nss_ : List (Nat × Ns)) (adm_ : Admin) (free_ : Nat) (map_ : MapSt) (lif_ : Lif) (dump_ : Dump) (buf_ : Buf) (crs_ : Crs) (fl_ : Fl)
    (rd_ : Rd) (hbm_ : Hbm) (sup_ : Sup) (pwr_ : Pwr) (str_ : Strand) (fwu_ : Fwu) (pins_ : Pins) : State.trained ⟨pending_, clk_, timers_, regs_,
    latches_, stamps_, pace_, stg_, areas_, bank0_, bank1_, cfs_, sectors_, areaTab_, reserve_, records_, keys_, savedRegs_, sec_, hif_, fns_, q_,
    tx_, nss_, adm_, free_, map_, lif_, dump_, buf_, crs_, fl_, rd_, hbm_, sup_, pwr_, str_, fwu_, pins_⟩ = (trainsOf regs_, fl_.chans) := by
  unfold State.trained; exact id rfl

theorem F.chnErrTrains_dw (c : Nat) : (F.chnErrTrains c).dw = 0x4008 + 16 * c := by
  simp only [Fld.dw, F.chnErrTrains, Reg.chnErr]; omega

/-! ### Registers below the channels' -/

theorem State.setWord_trained (s : State) (off : Nat) (w : Word) (h : off < 0x4000) : (State.setWord s off w).trained = s.trained := by
  have hf : trainsOf (s.setWord off w).regs = trainsOf s.regs := funext fun c =>
    congrArg _ (State.word_setWord_ne s off _ w (by rw [F.chnErrTrains_dw]; omega))
  exact congrArg (·, s.fl.chans) hf

theorem State.setFld_trained (s : State) (f : Fld) (v : Nat) (h : f.dw < 0x4000) : (State.setFld s f v).trained = s.trained :=
  State.setWord_trained s _ _ h

theorem State.setFlag_trained (s : State) (f : Fld) (h : f.dw < 0x4000) : (State.setFlag s f).trained = s.trained :=
  State.setFld_trained s f _ h

theorem State.putFlag_trained (s : State) (f : Fld) (b : Bool) (h : f.dw < 0x4000) : (State.putFlag s f b).trained = s.trained :=
  State.setFld_trained s f _ h

theorem State.addSat_trained (s : State) (f : Fld) (n : Nat) (h : f.dw < 0x4000) : (State.addSat s f n).trained = s.trained :=
  State.setFld_trained s f _ h

theorem State.addWrap_trained (s : State) (f : Fld) (n : Nat) (h : f.dw < 0x4000) : (State.addWrap s f n).trained = s.trained :=
  State.setFld_trained s f _ h

theorem State.putSat_trained (s : State) (f : Fld) (n : Nat) (h : f.dw < 0x4000) : (State.putSat s f n).trained = s.trained :=
  State.setFld_trained s f _ h

/-- CHN_ERR.FAILS lies beside the training count of its channel. -/
theorem State.addFails_trained (s : State) (c n : Nat) : (s.addSat (F.chnErrFails c) n).trained = s.trained := by
  have hf : trainsOf (s.addSat (F.chnErrFails c) n).regs = trainsOf s.regs := funext fun d =>
    State.fld_setFld_ne s (F.chnErrFails c) (F.chnErrTrains d) _
      (by simp only [Fld.sh, F.chnErrFails, Reg.chnErr]; omega)
      (.inr (.inr (by simp only [Fld.sh, F.chnErrFails, F.chnErrTrains, Reg.chnErr]; omega)))
  exact congrArg (·, s.fl.chans) hf

/-- RCL_TENSTIME of the tension level, which has eight values. -/
theorem State.addTenstime_trained (s u : State) (n : Nat) :
    (u.addSat (F.rclTenstimeSeconds (s.fld F.rclTensionLevel)) n).trained = u.trained := by
  have h : s.fld F.rclTensionLevel < 8 := Fld.get_lt _ _
  refine State.addSat_trained u _ n ?_
  simp only [Fld.dw, F.rclTenstimeSeconds, Reg.rclTenstime]
  omega

theorem State.cancel_trained (s : State) (id : TimerId) : (State.cancel s id).trained = s.trained := rfl

theorem State.arm_trained (s : State) (id : TimerId) (ns : Nat) : (State.arm s id ns).trained = s.trained := rfl

theorem State.armOnce_trained (s : State) (id : TimerId) (ns : Nat) : (State.armOnce s id ns).trained = s.trained := by
  rw [State.armOnce_frame]; rfl

theorem State.draw_trained (s : State) : (State.draw s).2.trained = s.trained := rfl

theorem State.refuseRec_trained (s : State) : (State.refuseRec s).trained = s.trained := by
  have h : ((s.addSat F.evwDropCount 1).setFlag F.evwStatDropseen).trained = s.trained := by
    simp +decide only [State.setFlag_trained, State.addSat_trained]
  exact Prod.ext (congrArg Prod.fst h) rfl

theorem State.event_trained (s : State) (code : Nat) (p0 p1 p2 p3 : Nat) : (State.event s code p0 p1 p2 p3).trained = s.trained := by
  unfold State.event State.stageEvent
  simp only
  split
  · exact State.refuseRec_trained s
  · rw [State.stageRec_frame]; rfl

theorem State.setFunc_trained (s : State) (i : Nat) (f : Func) : (State.setFunc s i f).trained = s.trained := rfl

theorem State.updFunc_trained (s : State) (i : Nat) (g : Func → Func) : (State.updFunc s i g).trained = s.trained := by
  simp only [State.updFunc, State.setFunc_trained]

theorem State.qenCnt_trained (s : State) (n : Nat) (k : Nat) (hn : n < 64) : (State.qenCnt s n k).trained = s.trained :=
  State.addSat_trained s _ _ (by simp only [Fld.dw, F.qenCntCount, Reg.qenCnt]; omega)

theorem State.updCmd_trained (s : State) (c : Nat) (g : Cmd → Cmd) : (State.updCmd s c g).trained = s.trained := rfl

theorem State.unlock_trained (s : State) (c : Nat) : (State.unlock s c).trained = s.trained := rfl

theorem State.dropStitches_trained (s : State) (c : Nat) : (State.dropStitches s c).trained = s.trained := by
  rw [State.dropStitches_frame]; rfl

theorem State.finish_trained (s : State) (c : Nat) (st : Status) (dw0 : Nat) : (State.finish s c st dw0).trained = s.trained := by
  rw [State.finish_frame]; rfl

theorem State.fail_trained (s : State) (c : Nat) (st : Status) : (State.fail s c st).trained = s.trained := by
  rw [State.fail_frame]; rfl

theorem State.asyncEvent_trained (s : State) (i type info page : Nat) : (State.asyncEvent s i type info page).trained = s.trained := by
  rw [State.asyncEvent_frame]; rfl

theorem State.asyncAll_trained (s : State) (bit type info page : Nat) : (State.asyncAll s bit type info page).trained = s.trained := by
  rw [State.asyncAll_frame]; rfl

theorem State.asyncVendor_trained (s : State) (page : Nat) : (State.asyncVendor s page).trained = s.trained := by
  rw [State.asyncVendor_frame]; rfl

theorem State.noteC0_trained (s : State) : (State.noteC0 s).trained = s.trained := by
  simp only [State.noteC0, trained_mk, trained_fold, apply_ite State.trained, ite_self, State.asyncVendor_trained]

theorem State.egWarn_trained (s : State) (bit : Nat) : (State.egWarn s bit).trained = s.trained := by
  simp only [State.egWarn, trained_mk, trained_fold, apply_ite State.trained, ite_self, implies_true, foldl_trained, State.asyncEvent_trained]

theorem State.critWarn_trained (s : State) (bit : Nat) : (State.critWarn s bit).trained = s.trained := by
  simp only [State.critWarn, trained_mk, trained_fold, apply_ite State.trained, ite_self, State.asyncAll_trained, State.egWarn_trained]

theorem State.critClear_trained (s : State) (bit : Nat) : (State.critClear s bit).trained = s.trained := by
  simp only [State.critClear, trained_mk, trained_fold, apply_ite State.trained, ite_self]

theorem State.lifCnt_trained (s : State) (n : Nat) (k : Nat) (hn : n < 64) : (State.lifCnt s n k).trained = s.trained :=
  State.addWrap_trained s _ _ (by simp only [Fld.dw, F.lifCntCount, Reg.lifCnt]; omega)

theorem State.closeGroup_trained (s : State) (final clean : Bool) : (State.closeGroup s final clean).trained = s.trained := by
  unfold State.closeGroup
  split
  · rfl
  · exact (State.lifCnt_trained _ 0 1 (by decide)).trans (State.cancel_trained s .groupTimer)

theorem State.openNew_trained (s : State) : (State.openNew s).trained = s.trained := by
  unfold State.openNew
  split
  · rfl
  · exact State.arm_trained ..

theorem State.batch_trained (s : State) (rs : List Rec) : (State.batch s rs).trained = s.trained := by
  simp +decide only [State.batch, trained_mk, trained_fold, apply_ite State.trained, ite_self, State.closeGroup_trained, State.lifCnt_trained,
      State.openNew_trained]

theorem State.crsCnt_trained (s : State) (n : Nat) (k : Nat) (hn : n < 64) : (State.crsCnt s n k).trained = s.trained :=
  State.addWrap_trained s _ _ (by simp only [Fld.dw, F.crsCntCount, Reg.crsCnt]; omega)

theorem State.rclCnt_trained (s : State) (n : Nat) (k : Nat) (hn : n < 64) : (State.rclCnt s n k).trained = s.trained :=
  State.addWrap_trained s _ _ (by simp only [Fld.dw, F.rclCntCount, Reg.rclCnt]; omega)

theorem State.setBlk_trained (s : State) (b : Nat) (x : Blk) : (State.setBlk s b x).trained = s.trained := rfl

theorem State.updBlk_trained (s : State) (b : Nat) (f : Blk → Blk) : (State.updBlk s b f).trained = s.trained := by
  simp only [State.updBlk, State.setBlk_trained]

theorem State.queueVictim_trained (s : State) (n reason level : Nat) : (State.queueVictim s n reason level).trained = s.trained := by
  have hc (u : State) : (u.rclCnt (if reason = 1 then 2 else if reason = 2 then 3 else if reason = 3 then 4 else 5)).trained = u.trained :=
    State.rclCnt_trained u _ 1 (by split_ifs <;> decide)
  simp +decide only [State.queueVictim, trained_mk, trained_fold, apply_ite State.trained, ite_self, State.setFld_trained, State.rclCnt_trained, hc]

theorem State.noteF_trained (s : State) : (State.noteF s).trained = s.trained := by
  simp +decide only [State.noteF, trained_mk, trained_fold, apply_ite State.trained, ite_self, State.addTenstime_trained, State.setFld_trained,
      State.setFlag_trained, State.armOnce_trained, State.cancel_trained]

theorem State.discardSlots_trained (s : State) (c : Nat) : (State.discardSlots s c).trained = s.trained := rfl

theorem State.failWrite_trained (s : State) (c : Nat) (st : Status) : (State.failWrite s c st).trained = s.trained := by
  simp only [State.failWrite, State.discardSlots_trained, State.fail_trained]

theorem State.degrade_trained (s : State) (cause : Nat) : (State.degrade s cause).trained = s.trained := by
  simp only [State.degrade, trained_mk, trained_fold, State.critWarn_trained]

theorem State.undegrade_trained (s : State) (cause : Nat) : (State.undegrade s cause).trained = s.trained := by
  simp only [State.undegrade, trained_mk, trained_fold, apply_ite State.trained, ite_self, State.critClear_trained]

theorem State.enterReadOnly_trained (s : State) (cause : Nat) : (State.enterReadOnly s cause).trained = s.trained := by
  simp +decide only [State.enterReadOnly, apply_ite State.trained, ite_self, implies_true, foldl_trained, State.setFlag_trained,
      State.setFld_trained, State.critWarn_trained, State.event_trained, State.failWrite_trained, State.rclCnt_trained, State.cancel_trained,
      State.noteC0_trained]

theorem State.checkSpare_trained (s : State) : (State.checkSpare s).trained = s.trained := by
  simp +decide only [State.checkSpare, apply_ite State.trained, ite_self, State.critWarn_trained, State.setFlag_trained, State.event_trained,
      State.critClear_trained, State.degrade_trained, State.undegrade_trained, State.enterReadOnly_trained]

theorem State.dieOut_trained (s : State) (d reason : Nat) : (State.dieOut s d reason).trained = s.trained := by
  simp +decide only [State.dieOut, trained_mk, trained_fold, apply_ite State.trained, ite_self, implies_true, foldl_trained, State.setFld_trained,
      State.setFlag_trained, State.event_trained, State.putSat_trained, State.queueVictim_trained, State.checkSpare_trained, State.noteF_trained]

theorem State.retire_trained (s : State) (b reason : Nat) : (State.retire s b reason).trained = s.trained := by
  simp +decide only [State.retire, trained_mk, trained_fold, apply_ite State.trained, ite_self, State.updBlk_trained, State.batch_trained,
      State.event_trained, State.addSat_trained, State.crsCnt_trained, State.dieOut_trained, State.checkSpare_trained, State.noteF_trained]

theorem State.pfLog_trained (s : State) (kind b : Nat) : (State.pfLog s kind b).trained = s.trained := by
  have hw (u : State) (i : Nat) (w : Word) : (u.setWord (Reg.crsPflog (7 - i)) w).trained = u.trained :=
    State.setWord_trained u _ w (by simp only [Reg.crsPflog]; omega)
  simp +decide only [State.pfLog, implies_true, foldl_trained, hw, State.setFld_trained]

theorem State.mapCnt_trained (s : State) (n : Nat) (k : Nat) (hn : n < 64) : (State.mapCnt s n k).trained = s.trained :=
  State.addWrap_trained s _ _ (by simp only [Fld.dw, F.mapCntCount, Reg.mapCnt]; omega)

theorem State.courseEmpty_trained (s : State) (n : Nat) (c : Course) : (State.courseEmpty s n c).trained = s.trained := by
  simp +decide only [State.courseEmpty, trained_mk, trained_fold, apply_ite State.trained, ite_self, implies_true, foldl_trained,
      State.batch_trained, State.updBlk_trained, State.retire_trained, State.rclCnt_trained]

theorem State.settleCourse_trained (s : State) (n : Nat) : (State.settleCourse s n).trained = s.trained := by
  unfold State.settleCourse
  split
  · simp only [apply_ite State.trained, State.courseEmpty_trained, ite_self]
  · rfl

theorem State.updCourse_trained (s : State) (n : Nat) (f : Course → Course) : (State.updCourse s n f).trained = s.trained := rfl

theorem State.openCourse_trained (s : State) (w ply : Nat) (slc : Bool) (band handle g l : Nat) (bs : List (Option Nat))
    : (State.openCourse s w ply slc band handle g l bs).trained = s.trained := by
  simp +decide only [State.openCourse, trained_mk, trained_fold, implies_true, foldl_trained, State.updBlk_trained, State.setWord_trained,
      State.setFld_trained, State.batch_trained]

theorem State.formCourse_trained (s : State) (band handle g l : Nat) {t : State} (h : State.formCourse s band handle g l = some t) :
    t.trained = s.trained := by
  unfold State.formCourse at h
  split at h
  · cases h
  · simp only [] at h
    split at h
    · cases h
    · cases h
      simp +decide only [apply_ite State.trained, ite_self, State.noteF_trained, State.crsCnt_trained, State.openCourse_trained]

theorem State.setBand_trained (s : State) (b : Band) : (State.setBand s b).trained = s.trained := rfl

theorem State.courseFor_trained (n kind handle k : Nat) (page : Bool) (s : State) {a : Nat} {t : State}
    (h : State.courseFor n kind handle k page s = some (a, t)) : t.trained = s.trained := by
  induction n generalizing s with
  | zero => cases h
  | succ n ih =>
    simp only [State.courseFor] at h
    split at h
    · split at h
      · cases h; exact State.setBand_trained ..
      · exact (ih _ h).trans (State.setBand_trained ..)
    · split at h
      next u hu => cases h; exact (State.formCourse_trained _ _ _ _ _ hu).trans (State.setBand_trained ..)
      next => exact (ih _ h).trans (State.setBand_trained ..)

theorem State.rowTimers_trained (s : State) (n : Nat) : (State.rowTimers s n).trained = s.trained := by
  simp only [State.rowTimers, apply_ite State.trained, ite_self, State.arm_trained, State.armOnce_trained]

theorem State.countPlaced_trained (s : State) (band k : Nat) : (State.countPlaced s band k).trained = s.trained := by
  simp only [State.countPlaced, trained_mk, trained_fold, apply_ite State.trained, ite_self]

theorem State.putAt_trained (s : State) (n : Nat) (c : Course) (pos : Nat) (m : Member) (start : Nat) (cws : List Codeword)
    : (State.putAt s n c pos m start cws).2.trained = s.trained := by
  exact (State.rowTimers_trained ..).trans ((State.countPlaced_trained ..).trans (State.crsCnt_trained _ 1 _ (by decide)))

theorem State.placeRun_trained (s : State) (n : Nat) (page : Bool) (cws : List Codeword) {a : Nat} {t : State}
    (h : s.placeRun n page cws = some (a, t)) : t.trained = s.trained := by
  simp only [State.placeRun, Option.bind_eq_some_iff, Option.map_eq_some_iff] at h
  obtain ⟨c, -, x, -, e⟩ := h
  exact (congrArg (·.2.trained) e).symm.trans (State.putAt_trained ..)

theorem State.placeSmall_trained (s : State) (n lba : Nat) (cw : Codeword) {a : Nat} {t : State}
    (h : s.placeSmall n lba cw = some (a, t)) : t.trained = s.trained := by
  simp only [State.placeSmall, Option.bind_eq_some_iff, Option.map_eq_some_iff] at h
  obtain ⟨c, -, x, -, e⟩ := h
  exact (congrArg (·.2.trained) e).symm.trans (State.putAt_trained ..)

theorem State.placeAfter_trained (s : State) (prev : Nat) (cw : Codeword) {a : Nat} {t : State}
    (h : s.placeAfter prev cw = some (a, t)) : t.trained = s.trained := by
  simp only [State.placeAfter, Option.bind_eq_some_iff] at h
  obtain ⟨c, -, m, -, e⟩ := h
  split at e
  · exact (congrArg State.trained (Prod.mk.inj (Option.some.inj e)).2).symm.trans (State.putAt_trained ..)
  · cases e

theorem State.touchParts_trained (s : State) (dies : List Nat) : (State.touchParts s dies).trained = s.trained := rfl

theorem State.closeCourse_trained (s : State) (n : Nat) (row : Nat) : (s.closeCourse n row).trained = s.trained := by
  unfold State.closeCourse
  split
  · rfl
  next c _ =>
  extract_lets t1 t2 t3 t4 t5 t6 t7 t8
  have e1 : t1.trained = s.trained := by simp +decide only [t1, State.updCourse_trained]
  clear_value t1
  have e2 : t2.trained = t1.trained := foldl_trained _ _ _ (fun u m => State.updBlk_trained ..)
  clear_value t2
  have e5 : t5.trained = t2.trained := by simp +decide only [t5, t4, t3, State.crsCnt_trained, State.touchParts_trained, State.batch_trained,
      State.cancel_trained]
  clear_value t5
  have e6 : t6.trained = t5.trained := by simp +decide only [t6, apply_ite State.trained, State.crsCnt_trained, ite_self]
  clear_value t6
  have e7 : t7.trained = t6.trained := by simp +decide only [t7, apply_ite State.trained, State.setFlag_trained, ite_self]
  clear_value t7
  have e8 : t8.trained = t7.trained := by
    simp +decide only [t8]
    split
    · exact getD_trained _ _ fun t h => State.formCourse_trained _ _ _ _ _ h
    · rfl
  rw [State.settleCourse_trained, e8, e7, e6, e5, e2, e1]

theorem State.padTo_trained (s : State) (n : Nat) (row : Nat) : (State.padTo s n row).trained = s.trained := by
  unfold State.padTo
  split
  · rfl
  · simp +decide only [State.crsCnt_trained, trained_mk, trained_fold]

theorem State.opEnd_trained (s : State) (die : Nat) : (State.opEnd s die).trained = s.trained := by
  simp only [State.opEnd, trained_mk, trained_fold, State.cancel_trained]

theorem State.noteStaging_trained (s : State) : (State.noteStaging s).trained = s.trained := by
  simp +decide only [State.noteStaging, apply_ite State.trained, ite_self, State.setFlag_trained, State.putFlag_trained]

theorem State.cmpCnt_trained (s : State) (n : Nat) (k : Nat) (hn : n < 64) : (State.cmpCnt s n k).trained = s.trained :=
  State.addWrap_trained s _ _ (by simp only [Fld.dw, F.cmpCntCount, Reg.cmpCnt]; omega)

theorem State.rejectFrame_trained (s : State) (obj kind unit : Nat) (hk : kind < 6) : (State.rejectFrame s obj kind unit).trained = s.trained := by
  have hn (u : State) : (u.cmpCnt (10 + kind)).trained = u.trained := State.cmpCnt_trained u _ 1 (by omega)
  simp +decide only [State.rejectFrame, State.draw_trained, State.setFld_trained, State.setFlag_trained, hn, State.event_trained]

theorem State.emitBlocks_trained (s : State) : (State.emitBlocks s).trained = s.trained := by
  simp +decide only [State.emitBlocks, State.draw_trained, State.cmpCnt_trained]

theorem State.compress_trained (s : State) (lba : Nat) (ds : List (Nat × Nat)) (o : CmpOutcome) :
    (State.compress s lba ds o).2.trained = s.trained := by
  have hv (u : State) (v : Nat) : (u.rejectFrame 4 (v % 6) 0).trained = u.trained := State.rejectFrame_trained u 4 _ 0 (Nat.mod_lt v (by decide))
  unfold State.compress
  extract_lets t k
  have e : t.trained = s.trained := by simp +decide only [t, State.cmpCnt_trained, State.emitBlocks_trained]
  clear_value t
  split
  · simp +decide only [hv, State.cmpCnt_trained, State.setFlag_trained, State.draw_trained, e]
  · split <;> simp +decide only [State.cmpCnt_trained, e]

theorem State.updSlot_trained (s : State) (id : Nat) (f : BufSlot → BufSlot) : (State.updSlot s id f).trained = s.trained := by
  rfl

theorem State.nextCourse_trained (s : State) (kind handle k : Nat) (page : Bool) {a : Nat} {t : State}
    (h : State.nextCourse s kind handle k page = some (a, t)) : t.trained = s.trained :=
  State.courseFor_trained _ _ _ _ _ _ h

theorem State.placeIn_trained (s : State) (course : Option Nat) (kind handle : Nat) (page : Bool) (cws : List Codeword) {a : Nat}
    {t : State} (h : s.placeIn course kind handle page cws = some (a, t)) : t.trained = s.trained := by
  unfold State.placeIn at h
  split at h
  next r hr =>
    cases h
    obtain ⟨n, -, e⟩ := Option.bind_eq_some_iff.1 hr
    exact State.placeRun_trained _ _ _ _ e
  next =>
    obtain ⟨⟨n, u⟩, hu, e⟩ := Option.bind_eq_some_iff.1 h
    exact (State.placeRun_trained _ _ _ _ e).trans (State.nextCourse_trained _ _ _ _ _ hu)

theorem State.placeOne_trained (s : State) (course : Option Nat) (kind handle : Nat) (b : BufSlot) {a : Nat} {t : State}
    (h : s.placeOne course kind handle b = some (a, t)) : t.trained = s.trained := by
  simp only [State.placeOne] at h
  split at h
  next r hr =>
    cases h
    obtain ⟨p, -, e⟩ := Option.bind_eq_some_iff.1 hr
    exact State.placeAfter_trained _ _ _ e
  next =>
    split at h
    next r hr =>
      cases h
      obtain ⟨n, -, e⟩ := Option.bind_eq_some_iff.1 hr
      exact State.placeSmall_trained _ _ _ _ e
    next =>
      obtain ⟨⟨n, u⟩, hu, e⟩ := Option.bind_eq_some_iff.1 h
      exact (State.placeSmall_trained _ _ _ _ e).trans (State.nextCourse_trained _ _ _ _ _ hu)

theorem State.placeExtent_trained (s : State) (c nsid lba handle : Nat) (course : Option Nat) (cmp : Bool) (o : CmpOutcome) :
    (State.placeExtent s c nsid lba handle course cmp o).trained = s.trained := by
  simp only [State.placeExtent]
  split
  · generalize hx : (if cmp = true then s.compress lba _ o else (0, s)) = x
    have e : x.2.trained = s.trained := by
      rw [← hx]
      split
      · exact State.compress_trained ..
      · rfl
    split
    next hq =>
      refine (foldl_trained _ _ _ fun u i => ?_).trans ?_
      · split
        · exact State.updSlot_trained ..
        · rfl
      · simp +decide only [apply_ite State.trained, State.crsCnt_trained, ite_self, State.placeIn_trained _ _ _ _ _ _ hq, e]
    next => exact e
  · refine foldl_trained _ _ _ fun u p => ?_
    split
    next hq =>
      simp +decide only [apply_ite State.trained, State.updSlot_trained, State.crsCnt_trained, ite_self, State.placeOne_trained _ _ _ _ _ hq]
    next => rfl

theorem State.placeRmw_trained (s : State) (id : Nat) (r : Rmw) (cmp : Bool) : (State.placeRmw s id r cmp).trained = s.trained := by
  unfold State.placeRmw
  extract_lets ds plain
  generalize hx : (if plain = true then (0, s) else s.compress r.lba ds ⟨false, [], []⟩) = x
  have e : x.2.trained = s.trained := by
    rw [← hx]
    split
    · rfl
    · exact State.compress_trained ..
  simp only []
  split
  next p u hq => exact (State.placeIn_trained _ _ _ _ _ _ hq).trans e
  next => exact e

theorem State.startRmw_trained (s : State) (c nsid e lba : Nat) (marks : List Nat) (cmp : Bool) :
    (State.startRmw s c nsid e lba marks cmp).trained = s.trained := by
  have h13 : (s.mapCnt 13).trained = s.trained := State.mapCnt_trained _ _ _ (by decide)
  have h14 : (s.mapCnt 14).trained = s.trained := State.mapCnt_trained _ _ _ (by decide)
  simp only [State.startRmw, apply_ite State.trained, State.placeRmw_trained, trained_mk, trained_fold]
  split
  · rfl
  · split
    · exact h13
    · split
      · exact h13
      · exact h14

theorem State.placeStitch_trained (s : State) (c nsid : Nat) (n : Ns) (first count handle : Nat) (cmp : Bool) (o : CmpOutcome) :
    (State.placeStitch s c nsid n first count handle cmp o).trained = s.trained := by
  unfold State.placeStitch
  refine (foldl_trained _ _ _ fun u p => ?_).trans ?_
  · split
    · simp only []
      split
      · exact State.startRmw_trained ..
      · split
        · split
          · exact State.arm_trained ..
          · rfl
        · exact State.placeExtent_trained ..
    · rfl
  · split
    next q u hq => exact State.nextCourse_trained _ _ _ _ _ hq
    next => rfl

theorem State.placeWaiting_trained (s : State) : (State.placeWaiting s).trained = s.trained := by
  simp only [State.placeWaiting, apply_ite State.trained, ite_self, implies_true, foldl_trained, State.placeExtent_trained]

theorem State.bufferSlots_trained (s : State) (c fn nsid slba : Nat) (ds : List (Nat × Nat))
    : (State.bufferSlots s c fn nsid slba ds).trained = s.trained := rfl

theorem State.fullyBuffered_trained (s : State) (c : Nat) : (State.fullyBuffered s c).trained = s.trained := by
  simp only [State.fullyBuffered, apply_ite State.trained, ite_self, State.updCmd_trained, State.dropStitches_trained, State.finish_trained]

theorem State.bufferWrite_trained (s : State) (c : Nat) (k : Cmd) (n : Ns) (slba nlb handle : Nat) (ds : List (Nat × Nat)) (o : CmpOutcome)
    : (State.bufferWrite s c k n slba nlb handle ds o).trained = s.trained := by
  simp +decide only [State.bufferWrite, trained_mk, trained_fold, apply_ite State.trained, ite_self, implies_true, foldl_trained,
      State.bufferSlots_trained, State.qenCnt_trained, State.placeStitch_trained, State.fullyBuffered_trained, State.noteStaging_trained]

theorem State.replaceSlots_trained (s : State) (b : Nat) (slc : Bool) (row : Nat) : (State.replaceSlots s b slc row).trained = s.trained := by
  simp +decide only [State.replaceSlots, implies_true, foldl_trained, State.updSlot_trained, State.placeRmw_trained, State.crsCnt_trained,
      State.placeWaiting_trained]

theorem State.blockFailed_trained (s : State) (n : Nat) (c : Course) (m : Member) (row : Nat) :
    (State.blockFailed s n c m row).trained = s.trained := by
  simp +decide only [State.blockFailed, apply_ite State.trained, ite_self, State.opEnd_trained, State.updBlk_trained, State.setFlag_trained,
      State.pfLog_trained, State.event_trained, State.crsCnt_trained, State.addFails_trained, State.batch_trained, State.updCourse_trained,
      State.queueVictim_trained]

theorem State.earlyIfDropped_trained (s : State) (n : Nat) : (State.earlyIfDropped s n).trained = s.trained := by
  unfold State.earlyIfDropped
  split
  · rfl
  · extract_lets lost top last t
    have et : t.trained = s.trained := (State.padTo_trained ..).trans (State.updCourse_trained ..)
    clear_value t
    split
    · split
      · simp only [apply_ite State.trained, State.closeCourse_trained, ite_self, et]
      · exact et
    · rfl

theorem State.dataFail_trained (s : State) (n : Nat) (c : Course) (pos : Nat) (m : Member) : (State.dataFail s n c pos m).trained = s.trained := by
  simp +decide only [State.dataFail, State.blockFailed_trained, State.updCourse_trained, State.crsCnt_trained, State.replaceSlots_trained,
      State.earlyIfDropped_trained]

theorem State.parityFail_trained (s : State) (n : Nat) (c : Course) (pos : Nat) (m : Member) :
    (State.parityFail s n c pos m).trained = s.trained := by
  simp only [State.parityFail, implies_true, foldl_trained, State.blockFailed_trained, State.updCourse_trained, State.replaceSlots_trained,
      State.closeCourse_trained]

theorem State.eraseFailed_trained (s : State) (b : Nat) : (State.eraseFailed s b).trained = s.trained := by
  simp +decide only [State.eraseFailed, apply_ite State.trained, ite_self, State.updBlk_trained, State.setFlag_trained, State.pfLog_trained,
      State.event_trained, State.crsCnt_trained, State.addFails_trained, State.retire_trained]

theorem State.eccCnt_trained (s : State) (n : Nat) (k : Nat) (hn : n < 64) : (State.eccCnt s n k).trained = s.trained := by
  have hw : (s.addWrap (F.eccCntCount n) k).trained = s.trained :=
    State.addWrap_trained s _ _ (by simp only [Fld.dw, F.eccCntCount, Reg.eccCnt]; omega)
  simp only [State.eccCnt, trained_mk, trained_fold, apply_ite State.trained, ite_self, hw]

theorem State.noteFailure_trained (s : State) (c : Nat) (st : Status) : (State.noteFailure s c st).trained = s.trained := by
  simp only [State.noteFailure, State.updCmd_trained]

theorem State.noteBad_trained (s : State) (c lba : Nat) : (State.noteBad s c lba).trained = s.trained := by
  simp only [State.noteBad, State.updCmd_trained]

theorem State.endFailed_trained (s : State) (c : Nat) (k : Cmd) (st : Status) : (State.endFailed s c k st).trained = s.trained := by
  simp +decide only [State.endFailed, trained_mk, trained_fold, apply_ite State.trained, ite_self, State.eccCnt_trained, State.updFunc_trained,
      State.failWrite_trained]

theorem State.copyWrite_trained (s : State) (c : Nat) (k : Cmd) : (State.copyWrite s c k).trained = s.trained := by
  unfold State.copyWrite
  split
  · exact State.failWrite_trained ..
  · exact State.bufferWrite_trained ..

theorem State.readsDone_trained (s : State) (c : Nat) : (State.readsDone s c).trained = s.trained := by
  unfold State.readsDone
  split
  · rfl
  · split
    · rfl
    · split
      · exact State.endFailed_trained ..
      · simp only [apply_ite State.trained, State.copyWrite_trained, State.updCmd_trained, State.finish_trained, State.unlock_trained, ite_self]

theorem State.updCw_trained (s : State) (r : Nat) (f : CwRead → CwRead) : (State.updCw s r f).trained = s.trained := rfl

theorem State.dropCw_trained (s : State) (r : Nat) (x : CwRead) : (State.dropCw s r x).trained = s.trained := by
  simp only [State.dropCw, trained_mk, trained_fold, State.cancel_trained]

theorem State.abandonCw_trained (s : State) (r : Nat) (x : CwRead) (st : Status) : (State.abandonCw s r x st).trained = s.trained := by
  simp only [State.abandonCw, implies_true, foldl_trained, State.dropCw_trained, State.noteBad_trained, State.noteFailure_trained,
      State.readsDone_trained]

theorem State.atL6_trained (s : State) (r : Nat) (x : CwRead) (cause : Nat) : (State.atL6 s r x cause).trained = s.trained := by
  simp +decide only [State.atL6, State.setFld_trained, State.setFlag_trained, State.eccCnt_trained, State.event_trained, State.abandonCw_trained]

theorem State.rebuild_trained (s : State) (r : Nat) (x : CwRead) (why : Nat) : (State.rebuild s r x why).trained = s.trained := by
  simp +decide only [State.rebuild, State.cancel_trained, State.updCw_trained, State.eccCnt_trained]

theorem State.readsLost_trained (s : State) (d : Nat) : (State.readsLost s d).trained = s.trained := by
  simp only [State.readsLost, apply_ite State.trained, ite_self, implies_true, foldl_trained, State.cancel_trained, State.atL6_trained,
      State.updCw_trained, State.rebuild_trained]

theorem State.opFails_trained (s : State) (d : Nat) : (State.opFails s d).trained = s.trained := by
  unfold State.opFails
  split
  · rfl
  · split
    · exact (State.eraseFailed_trained ..).trans (State.opEnd_trained ..)
    · split
      · simp only [apply_ite State.trained, State.parityFail_trained, State.dataFail_trained, ite_self]
      · exact State.opEnd_trained ..

/-! ### Training (R291, R300, R308) -/

/-- No training is counted and no channel comes into service. -/
def State.NoTraining (s t : State) : Prop :=
  (∀ c, t.fld (F.chnErrTrains c) = s.fld (F.chnErrTrains c)) ∧ ∀ c, (t.chan c).up = true → (s.chan c).up = true

theorem State.NoTraining.of_trained {s t : State} (h : t.trained = s.trained) : s.NoTraining t :=
  ⟨State.trained_fld h, fun c hc => State.trained_chan h c ▸ hc⟩

theorem State.NoTraining.trans {s t u : State} (h : s.NoTraining t) (k : t.NoTraining u) : s.NoTraining u :=
  ⟨fun c => (k.1 c).trans (h.1 c), fun c hc => h.2 c (k.2 c hc)⟩

theorem State.NoTraining.foldl {α : Type} (g : State → α → State) (l : List α) (s : State) (h : ∀ u x, State.NoTraining u (g u x)) :
    s.NoTraining (l.foldl g s) := by
  induction l generalizing s with
  | nil => exact .of_trained rfl
  | cons a l ih => exact (h s a).trans (ih _)

theorem State.chan_setChan (s : State) (c : Nat) (x : Chan) : (s.setChan c x).chan c = x := by
  simp [State.chan, State.setChan, Tab.getD]

theorem State.chan_setChan_ne (s : State) {c d : Nat} (x : Chan) (h : d ≠ c) : (s.setChan c x).chan d = s.chan d := by
  simp only [State.chan, State.setChan, Tab.getD, Tab.find_put_ne _ _ _ _ h]

/-- A channel whose entry is replaced by one no more in service. -/
theorem State.setChan_noTraining (s : State) (c : Nat) (x : Chan) (h : x.up = true → (s.chan c).up = true) : s.NoTraining (s.setChan c x) := by
  refine ⟨fun _ => rfl, fun d hd => ?_⟩
  by_cases hdc : d = c
  · subst hdc; exact h (State.chan_setChan s d x ▸ hd)
  · exact State.chan_setChan_ne s x hdc ▸ hd

theorem State.checkChan_noTraining (s : State) (c : Nat) : s.NoTraining (s.checkChan c) := by
  unfold State.checkChan
  split
  · exact .of_trained rfl
  · exact State.setChan_noTraining _ _ _ (fun h => nomatch h)

theorem State.takeOut_noTraining (s : State) (d reason : Nat) : s.NoTraining (s.takeOut d reason) := by
  refine .trans (.of_trained ?_) (State.checkChan_noTraining _ _)
  simp only [State.readsLost_trained, State.dieOut_trained, trained_mk, trained_fold, State.cancel_trained, State.opFails_trained]

theorem State.sknErr_trained (s : State) {d : Nat} (kind : Nat) (h : d < 8192) : (s.sknErr d kind).trained = s.trained := by
  have hf (u : State) (lo wid v : Nat) : (u.setFld ⟨Reg.sknErrlog (d / 1024), lo, wid⟩ v).trained = u.trained :=
    State.setFld_trained u _ v (by simp only [Fld.dw, Reg.sknErrlog]; omega)
  simp only [State.sknErr, F.sknErrlogValid, F.sknErrlogKind, F.sknErrlogCh, F.sknErrlogLun, hf]

/-- A training of a channel is counted once and brings no channel into service. -/
theorem State.trainFrom_counts (s : State) {c : Nat} (top rate : Nat) (hc : c < 512) :
    (s.addSat (F.chnErrTrains c) 1).NoTraining (s.trainFrom c top rate) := by
  have hk (u : State) (lo wid v : Nat) : (u.setFld ⟨Reg.sknStat (c / 64), lo, wid⟩ v).trained = u.trained :=
    State.setFld_trained u _ v (by simp only [Fld.dw, Reg.sknStat]; omega)
  have hn (u : State) : (u.addWrap (F.sknCntCount (c / 64) 9) 1).trained = u.trained :=
    State.addWrap_trained u _ 1 (by simp only [Fld.dw, F.sknCntCount, Reg.sknCnt]; omega)
  have he (u : State) : (u.sknErr (16 * c) 6).trained = u.trained := State.sknErr_trained u 6 (by omega)
  simp only [State.trainFrom]
  split
  · refine .trans (.of_trained ?_) ((State.setChan_noTraining _ c { s.chan c with up := false } (fun h => nomatch h)).trans
      (.foldl _ _ _ fun u l => ?_))
    · simp only [State.setFlag, F.sknStatFallbackseen, hk, he]
    · split
      · exact State.takeOut_noTraining ..
      · exact .of_trained rfl
  · refine (State.setChan_noTraining (s.addSat (F.chnErrTrains c) 1) c ⟨(s.chan c).up, Nat.min rate top,
        decide (Nat.min rate top < (s.addSat (F.chnErrTrains c) 1).rateCeiling c)⟩ (fun h => h)).trans (.of_trained ?_)
    split
    · simp only [State.setFlag, F.sknStatFallbackseen, hk, hn, he]
    · rfl

/-- A channel in service retrained by a register write. -/
theorem State.retrain_counts (s : State) {c : Nat} (hc : c < 512) (hup : (s.chan c).up = true) :
    (s.retrain c).fld (F.chnErrTrains c) = Nat.min (2 ^ (F.chnErrTrains c).wid - 1) (s.fld (F.chnErrTrains c) + 1) ∧
      ∀ d, ((s.retrain c).chan d).up = true → (s.chan d).up = true := by
  rw [State.retrain, if_pos hup]
  obtain ⟨hcnt, hchan⟩ := State.trainFrom_counts s.draw.2 (s.draw.2.rateCeiling c) (s.draw.1 % 6) hc
  refine ⟨(hcnt c).trans ?_, hchan⟩
  exact State.fld_addSat s.draw.2 _ 1 (by simp only [Fld.sh, F.chnErrTrains, Reg.chnErr]; omega)

theorem State.retrainChan_down (s : State) {c : Nat} (h : (s.chan c).up = false) : s.retrainChan c = s := by
  rw [State.retrainChan, if_neg (by simp [h])]

theorem State.retrainChan_up (s : State) {c : Nat} (h : (s.chan c).up = true) : s.retrainChan c = s.retrain c := if_pos h

/-- Channels out of service are not retrained. -/
theorem foldl_retrainChan_down (l : List Nat) (s : State) (h : ∀ c ∈ l, (s.chan c).up = false) :
    l.foldl (fun t c => t.retrainChan c) s = s := by
  induction l with
  | nil => rfl
  | cons c l ih =>
    obtain ⟨hc, hl⟩ := List.forall_mem_cons.1 h
    rw [List.foldl_cons, State.retrainChan_down s hc]
    exact ih hl

/-- Of several channels with one in service, that one is retrained. -/
theorem foldl_retrainChan_one (l : List Nat) (s : State) {c : Nat} (hc : c < 512) (hup : (s.chan c).up = true) (hl : c ∈ l) (hnd : l.Nodup)
    (hdown : ∀ d ∈ l, d ≠ c → (s.chan d).up = false) : l.foldl (fun t c => t.retrainChan c) s = s.retrain c := by
  induction l with
  | nil => cases hl
  | cons d l ih =>
    obtain ⟨hd, hnd⟩ := List.nodup_cons.1 hnd
    obtain ⟨hdd, hdown⟩ := List.forall_mem_cons.1 hdown
    rw [List.foldl_cons]
    by_cases hdc : d = c
    · subst hdc
      rw [State.retrainChan_up s hup]
      refine foldl_retrainChan_down l _ fun e he => ?_
      have hs : (s.chan e).up = false := hdown e he (fun h => hd (h ▸ he))
      exact Bool.eq_false_iff.2 fun h => Bool.false_ne_true (hs ▸ (State.retrain_counts s hc hup).2 e h)
    · rw [State.retrainChan_down s (hdd hdc)]
      exact ih (List.mem_of_ne_of_mem (Ne.symm hdc) hl) hnd hdown

theorem mem_skeinChans {k c : Nat} (hk : k < 8) (h : c ∈ skeinChans k) : c < 512 := by
  obtain ⟨i, hi, rfl⟩ := List.mem_map.1 h
  have := List.mem_range.1 hi
  omega

theorem skeinChans_nodup (k : Nat) : (skeinChans k).Nodup :=
  List.nodup_range.map fun _ _ h => Nat.add_left_cancel h

end Sys2Proof.Machine
end

section
/-! SUPPORT. What noting an accepted role-gated write leaves as it is (R452), and the due times of timers (R52). -/

namespace Sys2Proof.Machine

/-! ### What noting an accepted write leaves (R452, R471) -/

section
variable (s : State)

theorem State.flushGated_frame (all : Bool) :
    s.flushGated all = { s with timers := (s.flushGated all).timers, regs := (s.flushGated all).regs, stg := (s.flushGated all).stg,
                                cfs := (s.flushGated all).cfs, sup := (s.flushGated all).sup } := by
  have hfold : ∀ l : List (Nat × Nat × Nat × Nat × Nat), l.foldl (fun t g => t.gatedEvent g) s =
      { s with timers := (l.foldl (fun t g => t.gatedEvent g) s).timers, regs := (l.foldl (fun t g => t.gatedEvent g) s).regs,
               stg := (l.foldl (fun t g => t.gatedEvent g) s).stg, cfs := (l.foldl (fun t g => t.gatedEvent g) s).cfs,
               sup := (l.foldl (fun t g => t.gatedEvent g) s).sup } := fun l =>
    State.foldl_frame (fun s t => { s with timers := t.timers, regs := t.regs, stg := t.stg, cfs := t.cfs, sup := t.sup }) _ l s (fun _ => rfl)
      (fun _ _ _ h1 h2 => by rw [h2, h1]) (fun u g => State.event_frame u _ _ _ _ _)
  unfold State.flushGated
  simp only
  rw [hfold]

theorem State.noteGated_frame (a b c : Nat) :
    s.noteGated a b c = { s with timers := (s.noteGated a b c).timers, regs := (s.noteGated a b c).regs, stg := (s.noteGated a b c).stg,
                                 cfs := (s.noteGated a b c).cfs, sup := (s.noteGated a b c).sup } := by
  unfold State.noteGated State.secCnt State.addWrap
  rw [State.flushGated_frame]
  rfl

/-- The registers that noting an accepted write may change: its count, and those of a refused event. -/
def gatedRegs : List Nat := [Reg.secCnt 10, Reg.evwDrop, Reg.evwStat]

theorem State.noteGated_writes (a b c : Nat) : s.WritesOnly gatedRegs (s.noteGated a b c) := by
  refine .trans (.trans ?_ (.setFld (s := s.flushGated false) (F.secCntCount 10) _ (by decide))) (.of_eq rfl rfl)
  exact .trans (.foldl _ _ _ fun u g _ => .event _ _ _ _ _ (by decide) (by decide)) (.of_eq rfl rfl)

theorem State.noteGated_fld (a b c : Nat) (f : Fld) (hf : f.dw ∉ gatedRegs) : (s.noteGated a b c).fld f = s.fld f :=
  (s.noteGated_writes a b c).fld f hf

theorem State.noteGated_flag (a b c : Nat) (f : Fld) (hf : f.dw ∉ gatedRegs) : (s.noteGated a b c).flag f = s.flag f :=
  (s.noteGated_writes a b c).flag f hf

end

/-! ### The due times of timers (R52) -/

section
variable (s : State) {id : TimerId}

theorem State.dueOf_arm (ns : Nat) : (s.arm id ns).dueOf id = some (s.clk.mono + ns) := by
  have hnone : (s.timers.filter (fun t => t.id ≠ id)).find? (fun t => t.id = id) = none := by simp
  simp only [State.dueOf, State.arm, List.find?_append, hnone]
  simp

theorem State.dueOf_arm_ne {other : TimerId} (ns : Nat) (h : id ≠ other) : (s.arm other ns).dueOf id = s.dueOf id := by
  have hlast : [(⟨other, s.clk.mono + ns⟩ : Timer)].find? (fun t => t.id = id) = none := by simp [Ne.symm h]
  have hkept : (s.timers.filter (fun t => t.id ≠ other)).find? (fun t => t.id = id) = s.timers.find? (fun t => t.id = id) := by
    rw [List.find?_filter]
    exact congrArg (List.find? · s.timers) (funext fun t => by by_cases ht : t.id = id <;> simp [ht, h])
  simp only [State.dueOf, State.arm, List.find?_append, hkept, hlast, Option.or_none]

theorem State.dueOf_armOnce_ne {other : TimerId} (ns : Nat) (h : id ≠ other) : (s.armOnce other ns).dueOf id = s.dueOf id := by
  unfold State.armOnce
  split
  · rfl
  · exact s.dueOf_arm_ne ns h

/-- An event arms the persistence timer at most. -/
theorem State.dueOf_event (c a b d e : Nat) (h : id ≠ .eventPersist) : (s.event c a b d e).dueOf id = s.dueOf id := by
  unfold State.event State.stageEvent
  simp only
  split
  · rfl
  · have hset : ∀ u : State, u.timers = s.timers → (u.armOnce .eventPersist 1000000000).dueOf id = s.dueOf id := fun u hu =>
      (u.dueOf_armOnce_ne _ h).trans (by rw [State.dueOf, State.dueOf, hu])
    unfold State.stageRec
    simp only
    split
    · rw [State.dueOf, State.persistStaged_frame]
      exact hset _ rfl
    · exact hset _ rfl

theorem State.dueOf_noteGated (a b c : Nat) (h : id ≠ .eventPersist) : (s.noteGated a b c).dueOf id = s.dueOf id := by
  have hflush : ∀ l : List (Nat × Nat × Nat × Nat × Nat), (l.foldl (fun t g => t.gatedEvent g) s).dueOf id = s.dueOf id := fun l =>
    List.foldlRecOn l _ (motive := fun u : State => u.dueOf id = s.dueOf id) rfl (fun u hu g _ => (u.dueOf_event _ _ _ _ _ h).trans hu)
  exact hflush _

end

/-! ### The staging buffer of the data port -/

section
variable (s : State)

theorem State.cfsStart_dpBuf : s.cfsStart.cfs.dpBuf = s.cfs.dpBuf := by
  unfold State.cfsStart
  split
  · split
    · rfl
    · rfl
    · split <;> rfl
  · split <;> rfl

theorem State.cfsRequest_dpBuf (r : Nat) (w : CfsWork) (n : Nat) : (s.cfsRequest r w n).cfs.dpBuf = s.cfs.dpBuf := by
  unfold State.cfsRequest
  split
  · rfl
  · exact State.cfsStart_dpBuf _

theorem State.persistStaged_dpBuf (r : Nat) : (s.persistStaged r).cfs.dpBuf = s.cfs.dpBuf := by
  unfold State.persistStaged
  refine List.foldlRecOn _ _ (motive := fun u : State => u.cfs.dpBuf = s.cfs.dpBuf) rfl fun u hu g _ => ?_
  split
  · exact hu
  · exact (u.cfsRequest_dpBuf _ _ _).trans hu

theorem State.event_dpBuf (c a b d e : Nat) : (s.event c a b d e).cfs.dpBuf = s.cfs.dpBuf := by
  unfold State.event State.stageEvent
  simp only
  split
  · rfl
  · unfold State.stageRec
    simp only
    split
    · rw [State.persistStaged_dpBuf, State.armOnce_frame]
    · rw [State.armOnce_frame]

theorem State.noteGated_dpBuf (a b c : Nat) : (s.noteGated a b c).cfs.dpBuf = s.cfs.dpBuf := by
  have hflush : ∀ l : List (Nat × Nat × Nat × Nat × Nat), (l.foldl (fun t g => t.gatedEvent g) s).cfs.dpBuf = s.cfs.dpBuf := fun l =>
    List.foldlRecOn l _ (motive := fun u : State => u.cfs.dpBuf = s.cfs.dpBuf) rfl (fun u hu g _ => (u.event_dpBuf _ _ _ _ _).trans hu)
  exact hflush _

end

end Sys2Proof.Machine
end

section
/-! SUPPORT. A write of 1 to one bit of a register (R451, R452): the bit's field alone is reached, its action is carried out, and the accepted
write is noted. -/

namespace Sys2Proof.Machine

/-! ### The bits -/

/-- The word that a write of 1 to the lowest bit of a field carries. -/
def Fld.bit (f : Fld) : Word := BitVec.ofNat 32 (2 ^ f.lo)

/-- The registers whose stored value or whose effect is not simply the word written. -/
def specialRegs : List Nat :=
  [Reg.mapCapCtl, Reg.crsLayout, Reg.lifHoldup, Reg.rclEol, Reg.crsCtl, Reg.crsStage, Reg.lifCkptCtl, Reg.evwStat, Reg.evwCursor, Reg.secKsel,
   Reg.secKdata, Reg.cfsDpsel, Reg.cfsDpdata, Reg.strWsel]

/-- A write of 1 to a field's bit reaches that field alone, which starts an action, needs a role and is not kept as a setting (R451, R516). -/
structure ActionBit (f : Fld) (need : Role) : Prop where
  row : ∃ r : FieldRow, (rowsOf f.off).filter (fun x => decide (x.fld.get f.bit ≠ 0)) = [r] ∧ r.fld = f ∧ (r.acc = .wo ∨ r.acc = .w1s) ∧
    r.role = need ∧ r.cls ≠ .k
  role : need ≠ .none
  bit : f.bit ≠ 0
  clears : clearBits (rowsOf f.off) f.bit = 0
  low : 0x100 ≤ f.off
  high : f.off < 0x10000
  plain : f.off ∉ specialRegs

/-- Whether one row lists the only field that the bit reaches. -/
def actionRow (f : Fld) (need : Role) : Bool :=
  match (rowsOf f.off).filter (fun x => decide (x.fld.get f.bit ≠ 0)) with
  | [r] => decide (r.fld = f) && (decide (r.acc = .wo) || decide (r.acc = .w1s)) && decide (r.role = need) && decide (r.cls ≠ .k)
  | _ => false

/-- `ActionBit` of a field whose register is known. -/
def actionBit (f : Fld) (need : Role) : Bool :=
  actionRow f need && decide (need ≠ .none) && decide (f.bit ≠ 0) && decide (clearBits (rowsOf f.off) f.bit = 0) && decide (0x100 ≤ f.off) &&
    decide (f.off < 0x10000) && decide (f.off ∉ specialRegs)

theorem ActionBit.of_actionBit {f : Fld} {need : Role} (h : actionBit f need = true) : ActionBit f need := by
  simp only [actionBit, Bool.and_eq_true, decide_eq_true_eq] at h
  obtain ⟨⟨⟨⟨⟨⟨hrow, hrole⟩, hbit⟩, hclears⟩, hlow⟩, hhigh⟩, hplain⟩ := h
  refine ⟨?_, hrole, hbit, hclears, hlow, hhigh, hplain⟩
  unfold actionRow at hrow
  split at hrow
  next r hr =>
    simp only [Bool.and_eq_true, Bool.or_eq_true, decide_eq_true_eq] at hrow
    obtain ⟨⟨⟨hf, hacc⟩, hneed⟩, hcls⟩ := hrow
    exact ⟨r, hr, hf, hacc, hneed, hcls⟩
  next => cases hrow

/-! ### The write (R451, R452) -/

/-- A register of a PF stored as it was found. -/
def State.restored (s : State) (pf off : Nat) : State := s.storeWord pf off (s.writeView pf off)

section
variable {f : Fld} {need : Role}

/-- A row whose field the bit reaches is the row of the bit. -/
theorem ActionBit.eq_row {r x : FieldRow} (hr : (rowsOf f.off).filter (fun x => decide (x.fld.get f.bit ≠ 0)) = [r]) (hx : x ∈ rowsOf f.off)
    (hg : x.fld.get f.bit ≠ 0) : x = r :=
  List.mem_singleton.1 (hr ▸ List.mem_filter.2 ⟨hx, decide_eq_true hg⟩)

/-- No stored field is reached. -/
theorem State.storeRw_bit (s : State) {r : FieldRow} (old merged : Word)
    (hr : (rowsOf f.off).filter (fun x => decide (x.fld.get f.bit ≠ 0)) = [r]) (hacc : r.acc = .wo ∨ r.acc = .w1s) :
    s.storeRw (rowsOf f.off) old merged f.bit = old := by
  refine List.foldlRecOn _ _ (motive := fun w => w = old) rfl fun w hw x hx => ?_
  refine (if_neg ?_).trans hw
  rintro ⟨hrw, hg⟩
  rw [ActionBit.eq_row hr hx hg] at hrw
  rcases hacc with h | h <;> exact absurd (h.symm.trans hrw) (by decide)

/-- The bit's field alone would change. -/
theorem State.changes_bit (s : State) {r : FieldRow} (old merged : Word)
    (hr : (rowsOf f.off).filter (fun x => decide (x.fld.get f.bit ≠ 0)) = [r]) (hacc : r.acc = .wo ∨ r.acc = .w1s) :
    s.changes (rowsOf f.off) old merged f.bit f.bit = [r] := by
  rw [← hr, State.changes]
  refine List.filter_congr fun x hx => ?_
  by_cases hg : x.fld.get f.bit = 0
  · split <;> simp [hg]
  · obtain rfl := ActionBit.eq_row hr hx hg
    rcases hacc with h | h <;> rw [h]

theorem State.newWord_plain (s : State) {off : Nat} (rows : List FieldRow) (old merged mask : Word) (h1 : off ≠ Reg.mapCapCtl)
    (h2 : off ≠ Reg.crsLayout) : s.newWord off rows old merged mask = (s.storeRw rows old merged mask, s) := by
  rw [State.newWord, if_neg (fun h => h1 h.1), if_neg (fun h => h2 h.1)]

theorem State.regEffect_plain (s : State) {off : Nat} (h : off ∉ specialRegs) : s.regEffect off = s := by
  simp only [specialRegs, List.mem_cons, List.not_mem_nil, or_false, not_or] at h
  obtain ⟨-, -, hhold, heol, hctl, hstage, hckpt, -⟩ := h
  rw [State.regEffect, if_neg hhold, if_neg heol, if_neg (not_or.2 ⟨hctl, hstage⟩), if_neg hckpt]

/-- What a write of 1 to an action's bit does, once its role is held. -/
theorem State.regWrite_bit (s : State) (pf : Nat) (h : ActionBit f need) (hdead : s.flag F.genStateDead = false) (hrole : s.mayAs pf need = true) :
    s.regWrite 0 pf f.off f.bit f.bit = (true, ((s.restored pf f.off).regAction pf f).noteGated f.off f.bit.toNat pf) := by
  obtain ⟨r, hr, hf, hacc, hneed, hcls⟩ := h.row
  have hdec : s.decodesReg f.off = true := by simp [State.decodesReg, h.high, hdead]
  have hmem : r ∈ rowsOf f.off := (List.mem_filter.1 (hr ▸ List.mem_singleton.2 rfl : r ∈ (rowsOf f.off).filter _)).1
  have hro : (rowsOf f.off).all (fun x => decide (x.acc = .ro)) = false := by
    refine List.all_eq_false.2 ⟨r, hmem, ?_⟩
    rcases hacc with h | h <;> simp [h]
  have hact : (decide (r.acc = .wo) || decide (r.acc = .w1s)) = true := by simpa using hacc
  have hmay : s.mayWrite pf r = true := by simp [State.mayWrite, hneed, hrole]
  have hplain := h.plain
  simp only [specialRegs, List.mem_cons, List.not_mem_nil, or_false, not_or] at hplain
  obtain ⟨hcap, hlay, -, -, -, -, -, -, -, -, hdata, -⟩ := hplain
  have hones : f.bit &&& f.bit = f.bit := BitVec.and_self
  have hkeep : ∀ w : Word, w &&& ~~~(0 : Word) = w := fun _ => BitVec.and_allOnes
  unfold State.regWrite
  rw [if_neg (by rintro (hd | hz | ⟨hd, -⟩); exacts [by simp [hdec] at hd, h.bit hz, by simp [hdead] at hd])]
  simp only [hones, State.changes_bit s _ _ hr hacc, State.missing, List.filter_cons, hmay, Bool.not_true, Bool.false_eq_true, if_false,
    List.filter_nil, List.foldl_nil, hro, State.newWord_plain s _ _ _ _ hcap hlay, State.storeRw_bit s _ _ hr hacc, h.clears, hkeep, hact,
    if_true, List.foldl_cons, hf, State.regEffect_plain _ h.plain, List.any_cons, List.any_nil, hneed, h.role, ne_eq,
    not_false_eq_true, decide_true, Bool.or_false, hcls, decide_false, if_neg hdata, State.restored]

end

/-! ### A row of one bit (R450, R451, R474) -/

/-- `x` is `s` as a PF's write finds it: the PF's session has been used, and the register written holds the value it held. -/
structure State.Found (s : State) (pf : Nat) (x : State) : Prop where
  frame : x = { s with timers := x.timers, regs := x.regs, sec := x.sec, bank0 := x.bank0, bank1 := x.bank1 }
  word : ∀ o, x.word o = s.word o
  role : ∀ fn, x.roleOf fn = s.roleOf fn
  kbuf : x.sec.kbuf = s.sec.kbuf
  commit : x.sec.commit = s.sec.commit
  bank : x.bank (1 - pf) = s.bank (1 - pf)

theorem State.Found.fld {s x : State} {pf : Nat} (h : s.Found pf x) (f : Fld) : x.fld f = s.fld f := by
  rw [State.fld, State.fld, h.word]

theorem State.Found.flag {s x : State} {pf : Nat} (h : s.Found pf x) (f : Fld) : x.flag f = s.flag f := by
  rw [State.flag, State.flag, h.fld]

theorem State.Found.mayAs {s x : State} {pf : Nat} (h : s.Found pf x) (fn : Nat) (need : Role) : x.mayAs fn need = s.mayAs fn need := by
  rw [State.mayAs, State.mayAs, h.role, State.lc, State.lc, h.fld]

/-- The use of a session changes no role. -/
theorem State.touch_found (s : State) (pf : Nat) : s.Found pf (s.touch pf) := by
  unfold State.touch
  split
  next x hx =>
    have hset : ∀ fn, ((s.setSession pf (some { x with lastUse := s.clk.mono })).session fn).map (·.role) = (s.session fn).map (·.role) := by
      intro fn
      unfold State.session State.setSession at *
      split_ifs at * <;> simp_all
    refine ⟨?_, fun _ => ?_, fun fn => congrArg (fun o : Option Role => o.getD .none) (hset fn), ?_, ?_, ?_⟩
    all_goals
      unfold State.setSession
      split <;> rfl
  next => exact ⟨rfl, fun _ => rfl, fun _ => rfl, rfl, rfl, rfl⟩

theorem State.bank_setBank_other (s : State) (pf : Nat) (b : EvwBank) (h : pf < 2) : (s.setBank pf b).bank (1 - pf) = s.bank (1 - pf) := by
  interval_cases pf <;> rfl

theorem State.restored_evwCtl (s : State) (pf : Nat) : ∃ b, s.restored pf Reg.evwCtl = s.setBank pf b := ⟨_, rfl⟩

/-- A register outside the special ones is stored as it was found. -/
theorem State.restored_plain (s : State) (pf : Nat) {off : Nat} (h : off ∉ specialRegs) (hc : off ≠ Reg.evwCtl) :
    s.restored pf off = s.setWord off (s.word off) := by
  simp only [specialRegs, List.mem_cons, List.not_mem_nil, or_false, not_or] at h
  obtain ⟨-, -, -, -, -, -, -, hs, hcur, hks, hkd, hds, hdd, hw⟩ := h
  unfold State.restored State.storeWord State.writeView State.banked
  simp only [if_neg hc, if_neg hs, if_neg hcur, if_neg hks, if_neg hkd, if_neg hds, if_neg hdd, if_neg hw]

theorem State.restored_found (s : State) {pf off : Nat} (hpf : pf < 2) (h : off ∉ specialRegs) : s.Found pf (s.restored pf off) := by
  by_cases hc : off = Reg.evwCtl
  · obtain ⟨b, hb⟩ := s.restored_evwCtl pf
    rw [hc, hb]
    refine ⟨?_, fun _ => ?_, fun _ => ?_, ?_, ?_, s.bank_setBank_other pf b hpf⟩
    all_goals
      unfold State.setBank
      split <;> rfl
  · rw [s.restored_plain pf h hc]
    refine ⟨rfl, fun o => ?_, fun _ => rfl, rfl, rfl, rfl⟩
    by_cases ho : o = off
    · rw [ho, State.word_setWord]
    · exact State.word_setWord_ne _ _ _ _ ho

theorem State.Found.trans {s t u : State} {pf : Nat} (h : s.Found pf t) (k : t.Found pf u) : s.Found pf u where
  frame := k.frame.trans (by rw [h.frame])
  word o := (k.word o).trans (h.word o)
  role fn := (k.role fn).trans (h.role fn)
  kbuf := k.kbuf.trans h.kbuf
  commit := k.commit.trans h.commit
  bank := k.bank.trans h.bank

/-- A write of 1 that lands carries out the bit's action on the state found, and is noted. -/
theorem State.BitLands.writes {s : State} {pf : Nat} {f : Fld} {need : Role} (h : s.BitLands pf need) (hb : ActionBit f need) :
    ∃ x, s.Found pf x ∧ s.writeBit pf f = (x.regAction pf f).noteGated f.off f.bit.toNat pf := by
  obtain ⟨hpf, -, hdead, hps, hrole⟩ := h
  have hx := s.touch_found pf
  refine ⟨_, hx.trans ((s.touch pf).restored_found hpf hb.plain), ?_⟩
  unfold State.writeBit
  simp only
  rw [if_neg (by rintro ⟨h4, -⟩; exact hps ((hx.fld _).symm.trans h4))]
  exact congrArg Prod.snd ((s.touch pf).regWrite_bit pf hb ((hx.flag _).trans hdead) ((hx.mayAs _ _).trans hrole))

theorem State.BitLands.onBar {s : State} {pf : Nat} {need : Role} (h : s.BitLands pf need) (t : State) : onBar s pf t = .next t := by
  obtain ⟨hpf, hport, -⟩ := h
  rw [Machine.onBar, if_neg (by omega), if_neg (by simp [hport])]

end Sys2Proof.Machine
end

section
/-! SUPPORT. The rows that start or carry out an action through a bit (R58, R95, R229, R308, R328, R343, R400, R412, R440, R443, R453, R463, R475):
what each bit's action does. -/

namespace Sys2Proof.Machine

/-! ### The bits and their actions -/

/-- A row of the CHN block lists CHN_CFG of a channel where it is one of its first register. -/
theorem FieldRow.at_chnCfg {c : Nat} (h : c < 512) (lo wid j : Nat) (hj : j < 4) (acc : Access) (cls : ResetClass) (role : Role) (d : Nat)
    (clip : Clip) :
    FieldRow.at ⟨⟨0x4000 + 4 * j, lo, wid⟩, 512, 16, 1, 1, acc, cls, role, d, clip⟩ (Reg.chnCfg c) = decide (j = 0) := by
  have hoff : Reg.chnCfg c = 0x4000 + 16 * c := rfl
  rw [FieldRow.at, hoff, Bool.eq_iff_iff]
  simp only [Bool.and_eq_true, Bool.or_eq_true, decide_eq_true_eq]
  omega

theorem rowsOf_chnCfg {c : Nat} (h : c < 512) : rowsOf (Reg.chnCfg c) =
    [⟨F.chnCfgRetrain c, 512, 16, 1, 1, .wo, .c, .operator, 0, .any⟩, ⟨F.chnCfgMaxrate c, 512, 16, 1, 1, .rw, .k, .installer, 4, .keep 5 7⟩,
     ⟨F.chnCfgLunout c, 512, 16, 1, 1, .rw, .k, .installer, 0, .special⟩] := by
  have hoff : Reg.chnCfg c = 0x4000 + 16 * c := rfl
  have hblock : blockRows (Reg.chnCfg c) = rowsChn := by
    rw [hoff, blockRows]
    simp (disch := omega) only [if_neg, if_pos]
  have hat := fun lo wid j hj => FieldRow.at_chnCfg h lo wid j hj
  have h0 := fun lo wid => hat lo wid 0 (by decide)
  have h1 := fun lo wid => hat lo wid 1 (by decide)
  have h2 := fun lo wid => hat lo wid 2 (by decide)
  rw [rowsOf, rowsAt, hblock]
  simp only [rowsChn, rowsChnA, F.chnCfgRetrain, F.chnCfgMaxrate, F.chnCfgLunout, F.chnStatUp, F.chnStatRate, F.chnStatFallback, F.chnStatLuns,
    F.chnStatInsvc, F.chnErrTimeouts, F.chnErrResets, F.chnErrTrains, F.chnErrFails, Reg.chnCfg, Reg.chnStat, Reg.chnErr] at h0 h1 h2 ⊢
  simp [h0, h1, h2]

theorem actionBit_chnRetrain {c : Nat} (h : c < 512) : ActionBit (F.chnCfgRetrain c) .operator := by
  have hrows : rowsOf (F.chnCfgRetrain c).off = _ := rowsOf_chnCfg h
  have hbit : (F.chnCfgRetrain c).bit = 2 ^ 31 := rfl
  have hoff : Reg.chnCfg c = 0x4000 + 16 * c := rfl
  have hsh : (Reg.chnCfg c) % 4 = 0 := by rw [hoff]; omega
  refine ⟨?_, by decide, by rw [hbit]; decide, ?_, ?_, ?_, ?_⟩
  · refine ⟨⟨F.chnCfgRetrain c, 512, 16, 1, 1, .wo, .c, .operator, 0, .any⟩, ?_, rfl, .inl rfl, rfl, (by decide : ResetClass.c ≠ .k)⟩
    rw [hrows, hbit]
    simp [Fld.get, Fld.sh, F.chnCfgRetrain, F.chnCfgMaxrate, F.chnCfgLunout, hsh]
  · rw [hrows]; rfl
  · show 0x100 ≤ Reg.chnCfg c
    omega
  · show Reg.chnCfg c < 0x10000
    omega
  · show Reg.chnCfg c ∉ _
    have hlow : ∀ o ∈ specialRegs, o < 0x4000 := by decide
    exact fun hm => absurd (hlow _ hm) (by omega)

theorem actionBit_sknRetrain {k : Nat} (h : k < 8) : ActionBit (F.sknCtlRetrain k) .operator := by
  have hall : ∀ k < 8, actionBit (F.sknCtlRetrain k) .operator = true := by decide
  exact .of_actionBit (hall k h)

/-- A field from the skeins' registers up is none of the units below: its action is a skein's or a channel's. -/
theorem State.regAction_high (s : State) (pf : Nat) {f : Fld} (h : 0x2000 ≤ f.off) :
    s.regAction pf f =
      if 0x2000 ≤ f.off ∧ f.off < 0x2400 then
        if f = F.sknCtlCntclr ((f.off - 0x2000) / 0x80) then s.sknCntClr ((f.off - 0x2000) / 0x80)
        else if f = F.sknCtlRetrain ((f.off - 0x2000) / 0x80) then s.retrainSkein ((f.off - 0x2000) / 0x80) else s
      else if 0x4000 ≤ f.off ∧ f.off < 0x6000 then
        if f = F.chnCfgRetrain ((f.off - 0x4000) / 0x10) then s.retrainChan ((f.off - 0x4000) / 0x10) else s
      else s := by
  have hne : ∀ g : Fld, g.off < 0x2000 → ¬ f = g := fun g hg e => by subst e; omega
  have hcnt : s.cntClr f = none := by simp (disch := exact hne _ (by decide)) only [State.cntClr, if_neg]
  have hlog : s.logClr f = none := by simp (disch := exact hne _ (by decide)) only [State.logClr, if_neg]
  unfold State.regAction
  rw [hcnt, hlog]
  iterate 15 rw [if_neg (hne _ (by decide))]

theorem State.regAction_chnRetrain (s : State) (pf : Nat) {c : Nat} (h : c < 512) : s.regAction pf (F.chnCfgRetrain c) = s.retrainChan c := by
  have hoff : (F.chnCfgRetrain c).off = 0x4000 + 16 * c := rfl
  have hc : ((F.chnCfgRetrain c).off - 0x4000) / 0x10 = c := by omega
  rw [s.regAction_high pf (by omega), if_neg (by omega), if_pos (by omega), hc, if_pos rfl]

theorem State.regAction_sknRetrain (s : State) (pf : Nat) {k : Nat} (h : k < 8) : s.regAction pf (F.sknCtlRetrain k) = s.retrainSkein k := by
  have hoff : (F.sknCtlRetrain k).off = 0x2000 + 128 * k := rfl
  have hk : ((F.sknCtlRetrain k).off - 0x2000) / 0x80 = k := by omega
  have hne : F.sknCtlRetrain k ≠ F.sknCtlCntclr k := fun e => absurd (congrArg Fld.lo e) (show (30 : Nat) ≠ 31 by decide)
  rw [s.regAction_high pf (by omega), if_pos (by omega), hk, if_neg hne, if_pos rfl]

section
variable (s : State) (pf : Nat)

theorem State.regAction_paceMinclr : s.regAction pf F.paceCtlMinclr = s.paceMinClear := rfl
theorem State.regAction_atcFlush : s.regAction pf F.hifAtcCtlFlush = s.atcFlush := rfl
theorem State.regAction_eccRelease : s.regAction pf F.eccCtlRelease = s.releaseAllSlow := rfl
theorem State.regAction_hbmScrubnow : s.regAction pf F.hbmCtlScrubnow = s.scrubNow := rfl
theorem State.regAction_cmpTestRun : s.regAction pf F.cmpTestRun = s.setFlag F.cmpTestRun := rfl
theorem State.regAction_strWctlCommit : s.regAction pf F.strWctlCommit = s.windowCommit := rfl
theorem State.regAction_fwuDiscard : s.regAction pf F.fwuCtlDiscard = s.fwDiscard := rfl
theorem State.regAction_cfsScrub : s.regAction pf F.cfsCtlScrub = s.arm .cfsScrub 0 := rfl
theorem State.regAction_cfsDpctlCommit : s.regAction pf F.cfsDpctlCommit = s.dpCommit := rfl
theorem State.regAction_cfsDpctlDiscard : s.regAction pf F.cfsDpctlDiscard = s.dpDiscard := rfl
theorem State.regAction_secKctlCommit : s.regAction pf F.secKctlCommit = s.keyCommit pf := rfl
theorem State.regAction_secKctlDiscard : s.regAction pf F.secKctlDiscard = s.keyDiscard := rfl
theorem State.regAction_secDbgUnlock : s.regAction pf F.secDbgUnlock = s.debugUnlock := rfl
theorem State.regAction_evwSeekold : s.regAction pf F.evwCtlSeekold = s.evwSeekOld pf := rfl
theorem State.regAction_evwSeeknew : s.regAction pf F.evwCtlSeeknew = s.evwSeekNew pf := rfl

end

end Sys2Proof.Machine
end

section
/-! SUPPORT. The action bits of the gauges, the translations, the slow dies, the channels, the HBM scrub and the compressor's self-test
(R58, R95, R229, R308, R328, R343). -/

namespace Sys2Proof.Machine

/-! ### What a write that landed leaves -/

section
variable (s : State) (a b c : Nat)

@[simp] theorem State.noteGated_pace : (s.noteGated a b c).pace = s.pace := by rw [State.noteGated_frame]
@[simp] theorem State.noteGated_hif : (s.noteGated a b c).hif = s.hif := by rw [State.noteGated_frame]
@[simp] theorem State.noteGated_q : (s.noteGated a b c).q = s.q := by rw [State.noteGated_frame]
@[simp] theorem State.noteGated_fl : (s.noteGated a b c).fl = s.fl := by rw [State.noteGated_frame]
@[simp] theorem State.noteGated_free : (s.noteGated a b c).free = s.free := by rw [State.noteGated_frame]
@[simp] theorem State.noteGated_hbm : (s.noteGated a b c).hbm = s.hbm := by rw [State.noteGated_frame]
@[simp] theorem State.noteGated_clk : (s.noteGated a b c).clk = s.clk := by rw [State.noteGated_frame]
@[simp] theorem State.noteGated_fwu : (s.noteGated a b c).fwu = s.fwu := by rw [State.noteGated_frame]
@[simp] theorem State.noteGated_sec : (s.noteGated a b c).sec = s.sec := by rw [State.noteGated_frame]
@[simp] theorem State.noteGated_str : (s.noteGated a b c).str = s.str := by rw [State.noteGated_frame]
@[simp] theorem State.noteGated_bank (pf : Nat) : (s.noteGated a b c).bank pf = s.bank pf := by rw [State.noteGated_frame]; rfl

end

section
variable {s x : State} {pf : Nat}

theorem State.Found.pace (h : s.Found pf x) : x.pace = s.pace := by rw [h.frame]
theorem State.Found.hif (h : s.Found pf x) : x.hif = s.hif := by rw [h.frame]
theorem State.Found.q (h : s.Found pf x) : x.q = s.q := by rw [h.frame]
theorem State.Found.fl (h : s.Found pf x) : x.fl = s.fl := by rw [h.frame]
theorem State.Found.free (h : s.Found pf x) : x.free = s.free := by rw [h.frame]
theorem State.Found.hbm (h : s.Found pf x) : x.hbm = s.hbm := by rw [h.frame]
theorem State.Found.clk (h : s.Found pf x) : x.clk = s.clk := by rw [h.frame]
theorem State.Found.fwu (h : s.Found pf x) : x.fwu = s.fwu := by rw [h.frame]
theorem State.Found.str (h : s.Found pf x) : x.str = s.str := by rw [h.frame]
theorem State.Found.nss (h : s.Found pf x) : x.nss = s.nss := by rw [h.frame]
theorem State.Found.keySet (h : s.Found pf x) : x.keys = s.keys := by rw [h.frame]
theorem State.Found.stg (h : s.Found pf x) : x.stg = s.stg := by rw [h.frame]

theorem State.Found.chan (h : s.Found pf x) (c : Nat) : x.chan c = s.chan c := by rw [State.chan, State.chan, h.fl]

end

/-! ### The gauges (R58) -/

theorem State.paceMinClear_pace (s : State) : s.paceMinClear.pace = s.pace :=
  List.foldlRecOn _ _ (motive := fun u : State => u.pace = s.pace) rfl fun _ hu _ _ => hu

/-- Each region's minimum becomes its present pace. -/
theorem foldl_paceMin (s : State) (n : Nat) :
    let t := (List.range n).foldl (fun t r => t.setFld (F.paceGaugeMin r) (t.fld (F.paceGaugePace r))) s
    (∀ r < n, t.fld (F.paceGaugeMin r) = s.fld (F.paceGaugePace r)) ∧ ∀ r, t.fld (F.paceGaugePace r) = s.fld (F.paceGaugePace r) := by
  induction n with
  | zero => exact ⟨fun _ h => absurd h (Nat.not_lt_zero _), fun _ => rfl⟩
  | succ n ih =>
    obtain ⟨hmin, hpace⟩ := ih
    simp only [List.range_succ, List.foldl_append, List.foldl_cons, List.foldl_nil]
    refine ⟨fun r hr => ?_, fun r => ?_⟩
    · rcases Nat.lt_succ_iff_lt_or_eq.1 hr with hlt | rfl
      · rw [State.fld_setFld_ne _ _ _ _ (by simp [paceGaugeMin_sh]) (.inl (by rw [paceGaugeMin_dw, paceGaugeMin_dw]; omega)), hmin r hlt]
      · rw [State.fld_setFld _ _ _ (by simp [paceGaugeMin_sh]), hpace]
        exact Nat.mod_eq_of_lt (Fld.get_lt _ _)
    · rw [State.fld_setFld_ne _ _ _ _ (by simp [paceGaugeMin_sh]) (.inr (.inl (by simp [paceGaugePace_sh, paceGaugeMin_sh]))), hpace]

theorem exec_paceMinclr_lands {s : State} {pf : Nat} (h : s.BitLands pf .operator) :
    ∃ t, exec (.paceMinclr pf) s = .next t ∧ (∀ r, r < 30 → t.fld (F.paceGaugeMin r) = s.fld (F.paceGaugePace r)) ∧ t.pace = s.pace := by
  obtain ⟨x, hx, hw⟩ := h.writes (f := F.paceCtlMinclr) (.of_actionBit (by decide))
  rw [State.regAction_paceMinclr] at hw
  refine ⟨_, h.onBar (s.writeBit pf F.paceCtlMinclr), fun r hr => ?_, ?_⟩
  · have hdw : (F.paceGaugeMin r).dw ∉ gatedRegs := by
      rw [paceGaugeMin_dw]
      have hhigh : ∀ o ∈ gatedRegs, 0x200 ≤ o := by decide
      exact fun hm => absurd (hhigh _ hm) (by omega)
    rw [hw, State.noteGated_fld _ _ _ _ _ hdw, ← hx.fld]
    exact (foldl_paceMin x 30).1 r hr
  · rw [hw, State.noteGated_pace, State.paceMinClear_pace, hx.pace]

/-! ### The cached translations (R95) -/

theorem exec_atcFlush_lands {s : State} {pf : Nat} (h : s.BitLands pf .operator) :
    ∃ t, exec (.atcFlush pf) s = .next t ∧ t.hif.atc = [] ∧ t.hif.groups = s.hif.groups ∧ t.q = s.q := by
  obtain ⟨x, hx, hw⟩ := h.writes (f := F.hifAtcCtlFlush) (.of_actionBit (by decide))
  rw [State.regAction_atcFlush] at hw
  refine ⟨_, h.onBar (s.writeBit pf F.hifAtcCtlFlush), ?_, ?_, ?_⟩
  · rw [hw, State.noteGated_hif]; rfl
  · rw [hw, State.noteGated_hif, ← hx.hif]; rfl
  · rw [hw, State.noteGated_q, ← hx.q]; rfl

/-! ### The slow dies (R229) -/

theorem State.eccCnt_fl (s : State) (n k : Nat) : (s.eccCnt n k).fl = s.fl := by
  unfold State.eccCnt
  simp only
  split <;> rfl

theorem State.slowLog_fl (s : State) (e d : Nat) : (s.slowLog e d).fl = s.fl := by
  simp only [State.slowLog, State.stamp, State.setFld_fl]
  rw [State.shiftLog_frame]

theorem State.releaseSlow_fl (s : State) (d : Nat) : (s.releaseSlow d).fl = { s.fl with slow := Tab.del d s.fl.slow } := by
  simp only [State.releaseSlow, State.eccCnt_fl, State.event_fl, State.slowLog_fl, State.cancel]

theorem foldl_releaseSlow_fl (l : List Nat) (s : State) :
    (l.foldl (fun t d => t.releaseSlow d) s).fl = { s.fl with slow := l.foldl (fun t d => Tab.del d t) s.fl.slow } := by
  induction l generalizing s with
  | nil => rfl
  | cons d l ih => rw [List.foldl_cons, ih, State.releaseSlow_fl]; rfl

/-- Deleted keys are not listed. -/
theorem Tab.has_foldl_del {α : Type} (l : List Nat) (t : List (Nat × α)) {d : Nat} (h : d ∈ l ∨ Tab.has d t = false) :
    Tab.has d (l.foldl (fun t d => Tab.del d t) t) = false := by
  induction l generalizing t with
  | nil => exact h.resolve_left List.not_mem_nil
  | cons k l ih =>
    refine ih (Tab.del k t) ?_
    by_cases hk : d = k
    · exact .inr (by simp [Tab.has, hk])
    · exact h.imp (fun hm => (List.mem_cons.1 hm).resolve_left hk) (fun hn => by rwa [Tab.has, Tab.find_del_ne _ _ _ hk])

theorem exec_eccRelease_lands {s : State} {pf : Nat} (h : s.BitLands pf .operator) :
    ∃ t, exec (.eccRelease pf) s = .next t ∧ (∀ p ∈ s.fl.slow, Tab.has p.1 t.fl.slow = false) ∧ t.fl.blks = s.fl.blks := by
  obtain ⟨x, hx, hw⟩ := h.writes (f := F.eccCtlRelease) (.of_actionBit (by decide))
  rw [State.regAction_eccRelease] at hw
  have hfl : (s.writeBit pf F.eccCtlRelease).fl =
      { s.fl with slow := (s.fl.slow.map (·.1)).foldl (fun t d => Tab.del d t) s.fl.slow } := by
    rw [hw, State.noteGated_fl, State.releaseAllSlow, foldl_releaseSlow_fl, hx.fl]
  refine ⟨_, h.onBar (s.writeBit pf F.eccCtlRelease), fun p hp => ?_, ?_⟩
  · rw [hfl]
    exact Tab.has_foldl_del _ _ (.inl (List.mem_map_of_mem hp))
  · rw [hfl]

/-! ### The channels (R308) -/

/-- The training counts lie apart from the registers that noting a write may change. -/
theorem chnErrTrains_not_gated (c : Nat) : (F.chnErrTrains c).dw ∉ gatedRegs := by
  have hlow : ∀ o ∈ gatedRegs, o < 0x4000 := by decide
  rw [F.chnErrTrains_dw]
  exact fun hm => absurd (hlow _ hm) (by omega)

section
variable {s : State} {pf c k : Nat}

theorem exec_chnRetrain_up (h : s.BitLands pf .operator) (hc : c < 512) (hup : (s.chan c).up = true) :
    ∃ t, exec (.chnRetrain pf c) s = .next t ∧
      t.fld (F.chnErrTrains c) = Nat.min (2 ^ (F.chnErrTrains c).wid - 1) (s.fld (F.chnErrTrains c) + 1) := by
  obtain ⟨x, hx, hw⟩ := h.writes (actionBit_chnRetrain hc)
  have hxup : (x.chan c).up = true := by rw [hx.chan, hup]
  rw [State.regAction_chnRetrain x pf hc, State.retrainChan_up x hxup] at hw
  refine ⟨_, (if_neg (by omega)).trans (h.onBar (s.writeBit pf (F.chnCfgRetrain c))), ?_⟩
  rw [hw, State.noteGated_fld _ _ _ _ _ (chnErrTrains_not_gated c), (x.retrain_counts hc hxup).1, hx.fld]

theorem exec_chnRetrain_down (h : s.BitLands pf .operator) (hc : c < 512) (hdown : (s.chan c).up = false) :
    ∃ t, exec (.chnRetrain pf c) s = .next t ∧ t.fl = s.fl ∧ t.free = s.free := by
  obtain ⟨x, hx, hw⟩ := h.writes (actionBit_chnRetrain hc)
  rw [State.regAction_chnRetrain x pf hc, State.retrainChan_down x (by rw [hx.chan, hdown])] at hw
  refine ⟨_, (if_neg (by omega)).trans (h.onBar (s.writeBit pf (F.chnCfgRetrain c))), ?_, ?_⟩
  · rw [hw, State.noteGated_fl, hx.fl]
  · rw [hw, State.noteGated_free, hx.free]

theorem exec_sknRetrain_down (h : s.BitLands pf .operator) (hk : k < 8) (hdown : ∀ c ∈ skeinChans k, (s.chan c).up = false) :
    ∃ t, exec (.sknRetrain pf k) s = .next t ∧ t.fl = s.fl ∧ t.free = s.free := by
  obtain ⟨x, hx, hw⟩ := h.writes (actionBit_sknRetrain hk)
  rw [State.regAction_sknRetrain x pf hk, State.retrainSkein, foldl_retrainChan_down _ x (fun c hc => by rw [hx.chan, hdown c hc])] at hw
  refine ⟨_, (if_neg (by omega)).trans (h.onBar (s.writeBit pf (F.sknCtlRetrain k))), ?_, ?_⟩
  · rw [hw, State.noteGated_fl, hx.fl]
  · rw [hw, State.noteGated_free, hx.free]

theorem exec_sknRetrain_one (h : s.BitLands pf .operator) (hk : k < 8) (hc : c ∈ skeinChans k) (hup : (s.chan c).up = true)
    (hdown : ∀ d ∈ skeinChans k, d ≠ c → (s.chan d).up = false) :
    ∃ t, exec (.sknRetrain pf k) s = .next t ∧
      t.fld (F.chnErrTrains c) = Nat.min (2 ^ (F.chnErrTrains c).wid - 1) (s.fld (F.chnErrTrains c) + 1) := by
  obtain ⟨x, hx, hw⟩ := h.writes (actionBit_sknRetrain hk)
  have hlt := mem_skeinChans hk hc
  have hxup : (x.chan c).up = true := by rw [hx.chan, hup]
  rw [State.regAction_sknRetrain x pf hk, State.retrainSkein,
    foldl_retrainChan_one _ x hlt hxup hc (skeinChans_nodup k) (fun d hd hne => by rw [hx.chan, hdown d hd hne])] at hw
  refine ⟨_, (if_neg (by omega)).trans (h.onBar (s.writeBit pf (F.sknCtlRetrain k))), ?_⟩
  rw [hw, State.noteGated_fld _ _ _ _ _ (chnErrTrains_not_gated c), (x.retrain_counts hlt hxup).1, hx.fld]

end

/-! ### The HBM scrub (R328) -/

theorem exec_hbmScrubnow_lands {s : State} {pf : Nat} (h : s.BitLands pf .operator) :
    ∃ t, exec (.hbmScrubnow pf) s = .next t ∧ t.dueOf .hbmScrub = some s.clk.mono ∧ t.hbm = s.hbm := by
  obtain ⟨x, hx, hw⟩ := h.writes (f := F.hbmCtlScrubnow) (.of_actionBit (by decide))
  rw [State.regAction_hbmScrubnow, State.scrubNow] at hw
  refine ⟨_, h.onBar (s.writeBit pf F.hbmCtlScrubnow), ?_, ?_⟩
  · rw [hw, State.dueOf_noteGated _ _ _ _ (by decide), State.dueOf_arm, hx.clk, Nat.add_zero]
  · rw [hw, State.noteGated_hbm, ← hx.hbm]; rfl

/-! ### The compressor's self-test (R343) -/

/-- The registers that a rejected frame and the counts of a test write. -/
def testRegs : List Nat :=
  [Reg.cmpErrlog, Reg.cmpErrseq, Reg.cmpStat, Reg.evwDrop, Reg.evwStat, Reg.cmpCnt 9, Reg.cmpCnt 10, Reg.cmpCnt 11, Reg.cmpCnt 12, Reg.cmpCnt 13,
   Reg.cmpCnt 14, Reg.cmpCnt 15, Reg.cmpCnt 16, Reg.cmpCnt 17, Reg.cmpCnt 18]

section
variable (s : State)

theorem State.cmpCnt_writes (n k : Nat) (h : (F.cmpCntCount n).dw ∈ testRegs) : s.WritesOnly testRegs (s.cmpCnt n k) := .setFld _ _ h

theorem State.draw_writes : s.WritesOnly testRegs s.draw.2 := .of_eq rfl rfl

theorem State.rejectFrame_writes (obj unit : Nat) {kind : Nat} (h : kind ≤ 5) : s.WritesOnly testRegs (s.rejectFrame obj kind unit) := by
  have hset : ∀ (u : State) (f : Fld) (v : Nat), f.dw ∈ testRegs → u.WritesOnly testRegs (u.setFld f v) := fun _ f v hf => .setFld f v hf
  have hkind : (F.cmpCntCount (10 + kind)).dw ∈ testRegs := by
    have hall : ∀ k ≤ 5, (F.cmpCntCount (10 + k)).dw ∈ testRegs := by decide
    exact hall kind h
  unfold State.rejectFrame
  refine .trans (.trans ?_ (State.cmpCnt_writes _ _ 1 hkind)) (.event _ _ _ _ _ (by decide) (by decide))
  refine .trans (.trans (.trans ?_ (hset _ _ _ (by decide))) (hset _ _ _ (by decide))) (hset _ F.cmpStatBadseen 1 (by decide))
  exact (((s.draw_writes.trans (State.draw_writes _)).trans (hset _ _ _ (by decide))).trans (hset _ _ _ (by decide))).trans
    (hset _ _ _ (by decide))

end

end Sys2Proof.Machine
end

section
/-! SUPPORT. The action bits of the compressor's self-test, the staging area, the configuration store, the key port, debugging, the event window
and Strand's windows (R343, R400, R412, R440, R443, R453, R463, R475). -/

namespace Sys2Proof.Machine

/-! ### The compressor's self-test (R343) -/

theorem State.fld_addWrap (s : State) (f : Fld) (n : Nat) (h : f.sh + f.wid ≤ 32) : (s.addWrap f n).fld f = (s.fld f + n) % 2 ^ f.wid :=
  State.fld_setFld s f _ h

/-- The counts of a test and its rejected frames. -/
theorem State.testRejects_writes (s : State) {l : List (Nat × Nat)} (hl : ∀ f ∈ l, f.2 ≤ 5) :
    s.WritesOnly testRegs (l.foldl (fun t f => t.rejectFrame 5 f.2 f.1) s.emitBlocks.framesRead) := by
  have hblocks : s.WritesOnly testRegs s.emitBlocks :=
    ((((s.draw_writes.trans (State.draw_writes _)).trans (State.draw_writes _)).trans (State.cmpCnt_writes _ 16 _ (by decide))).trans
      (State.cmpCnt_writes _ 17 _ (by decide))).trans (State.cmpCnt_writes _ 18 _ (by decide))
  have hread : s.emitBlocks.WritesOnly testRegs s.emitBlocks.framesRead := (State.draw_writes _).trans (State.cmpCnt_writes _ 9 _ (by decide))
  exact (hblocks.trans hread).trans (.foldl _ _ _ fun v f hf => v.rejectFrame_writes 5 f.1 (hl f hf))

/-- What a self-test counts and reports. -/
theorem State.cmpTested_reports (s : State) {l : List (Nat × Nat)} (hl : ∀ f ∈ l, f.1 < 48 ∧ f.2 ≤ 5) :
    (s.cmpTested l).flag F.cmpTestRun = false ∧ (s.cmpTested l).flag F.cmpTestPass = l.isEmpty ∧
      (s.cmpTested l).fld (F.cmpCntCount 19) = (s.fld (F.cmpCntCount 19) + 1) % 2 ^ 32 := by
  have hcount : ((s.cmpCnt 19).fld (F.cmpCntCount 19)) = (s.fld (F.cmpCntCount 19) + 1) % 2 ^ 32 := State.fld_addWrap s _ 1 (by decide)
  have hfails := (s.cmpCnt 19).testRejects_writes fun f hf => (hl f hf).2
  unfold State.cmpTested
  extract_lets us decs t t1 t2
  have ht : t.fld (F.cmpCntCount 19) = (s.fld (F.cmpCntCount 19) + 1) % 2 ^ 32 := (hfails.fld _ (by decide)).trans hcount
  clear_value t
  simp only [t2, t1, State.clrFlag_eq, State.putFlag_eq]
  refine ⟨?_, ?_, ?_⟩
  · simp (disch := decide) only [State.flag, State.fld_setFld_ne, State.fld_setFld]
    rfl
  · simp (disch := decide) only [State.flag, State.fld_setFld_ne, State.fld_setFld]
    cases l.isEmpty <;> rfl
  · simp (disch := decide) only [State.fld_setFld_ne]
    exact ht

theorem exec_cmpTestRun_lands {s : State} {pf : Nat} {l : List (Nat × Nat)} (h : s.BitLands pf .operator) (hl : ∀ f ∈ l, f.1 < 48 ∧ f.2 ≤ 5) :
    ∃ t, exec (.cmpTestRun pf l) s = .next t ∧ t.flag F.cmpTestRun = false ∧ t.flag F.cmpTestPass = l.isEmpty ∧
      t.fld (F.cmpCntCount 19) = (s.fld (F.cmpCntCount 19) + 1) % 2 ^ 32 := by
  obtain ⟨u, hu, hrun, hcnt⟩ : ∃ u, (if s.flag F.cmpTestRun then s else s.writeBit pf F.cmpTestRun) = u ∧ u.flag F.cmpTestRun = true ∧
      u.fld (F.cmpCntCount 19) = s.fld (F.cmpCntCount 19) := by
    refine ⟨_, rfl, ?_⟩
    split
    next hf => exact ⟨hf, rfl⟩
    next =>
      obtain ⟨x, hx, hw⟩ := h.writes (f := F.cmpTestRun) (.of_actionBit (by decide))
      rw [hw, State.regAction_cmpTestRun, State.noteGated_flag _ _ _ _ _ (by decide), State.noteGated_fld _ _ _ _ _ (by decide), State.setFlag_eq,
        State.fld_setFld_ne _ _ _ _ (by decide) (by decide), hx.fld]
      exact ⟨State.flag_setFld_one _ _ (by decide) rfl, rfl⟩
  have hrow : exec (.cmpTestRun pf l) s = .next (u.cmpTested l) := by
    refine (h.onBar _).trans (congrArg _ ?_)
    rw [hu, if_pos hrun]
  obtain ⟨h1, h2, h3⟩ := u.cmpTested_reports hl
  exact ⟨_, hrow, h1, h2, by rw [h3, hcnt]⟩

/-! ### The staging area (R412) -/

theorem exec_fwuDiscard_lands {s : State} {pf : Nat} (h : s.BitLands pf .installer) :
    ∃ t, exec (.fwuDiscard pf) s = .next t ∧ t.fwu.stage = [] ∧ t.fwu.owner = none ∧ t.fld F.fwuStageBlocks = 0 ∧ t.fwu.slot1 = s.fwu.slot1 ∧
      t.fwu.slot2 = s.fwu.slot2 := by
  obtain ⟨x, hx, hw⟩ := h.writes (f := F.fwuCtlDiscard) (.of_actionBit (by decide))
  rw [State.regAction_fwuDiscard] at hw
  have hfwu : (s.writeBit pf F.fwuCtlDiscard).fwu = { s.fwu with stage := [], owner := none } := by
    rw [hw, State.noteGated_fwu, ← hx.fwu]; rfl
  refine ⟨_, h.onBar (s.writeBit pf F.fwuCtlDiscard), ?_, ?_, ?_, ?_, ?_⟩
  · rw [hfwu]
  · rw [hfwu]
  · rw [hw, State.noteGated_fld _ _ _ _ _ (by decide), State.fwDiscard, State.fld_setFld_ne _ _ _ _ (by decide) (by decide),
      State.fld_setFld _ _ _ (by decide)]
    rfl
  · rw [hfwu]
  · rw [hfwu]

/-! ### The configuration store (R440, R443) -/

/-- A row of a bit leaves the store's records. -/
theorem State.writeBit_records (s : State) (pf : Nat) (f : Fld) : (s.writeBit pf f).records = s.records :=
  congrArg (·.1.1) (s.writeBit_held pf f)

theorem State.writeBit_keys (s : State) (pf : Nat) (f : Fld) : (s.writeBit pf f).keys = s.keys := congrArg (·.2.2.1) (s.writeBit_held pf f)

theorem State.writeBit_areas (s : State) (pf : Nat) (f : Fld) : (s.writeBit pf f).areas = s.areas := congrArg (·.2.1) (s.writeBit_held pf f)

/-- The registers that a scrub pass writes besides its three counts. -/
def scrubRegs : List Nat := [Reg.cfsStat, Reg.cfsLasterr]

/-- What a scrub pass counts. -/
theorem State.cfsScrubPass_counts (s : State) (one two bad : List Nat) :
    (s.cfsScrubPass one two bad).fld (F.cfsCntCount 7) = (s.fld (F.cfsCntCount 7) + one.length) % 2 ^ 32 ∧
      (s.cfsScrubPass one two bad).fld (F.cfsCntCount 9) = (s.fld (F.cfsCntCount 9) + bad.length) % 2 ^ 32 := by
  have hset : ∀ (u : State) (f : Fld) (v : Nat), f.dw ∈ scrubRegs → u.WritesOnly scrubRegs (u.setFld f v) := fun _ f v hf => .setFld f v hf
  obtain ⟨u, hu, hwrites⟩ : ∃ u, u = ((s.cfsCnt 7 one.length).cfsCnt 8 two.length).cfsCnt 9 bad.length ∧
      u.WritesOnly scrubRegs (s.cfsScrubPass one two bad) := by
    refine ⟨_, rfl, ?_⟩
    refine .trans (.trans (.foldl _ _ _ fun v w _ => ?_) (.foldl _ _ _ fun v w _ => ?_)) (.of_eq rfl rfl)
    · exact (((hset _ F.cfsStatUeseen 1 (by decide)).trans (hset _ F.cfsLasterrValid 1 (by decide))).trans (hset _ _ _ (by decide))).trans
        (hset _ _ _ (by decide))
    · split
      · exact .refl _ _
      · exact .cfsRequest _ _ _
  rw [hwrites.fld _ (by decide), hwrites.fld _ (by decide), hu]
  simp only [State.cfsCnt]
  constructor
  · rw [State.addWrap_eq, State.fld_setFld_ne _ _ _ _ (by decide) (by decide), State.addWrap_eq, State.fld_setFld_ne _ _ _ _ (by decide) (by decide),
      State.fld_addWrap _ _ _ (by decide)]
    rfl
  · rw [State.fld_addWrap _ _ _ (by decide), State.addWrap_eq, State.fld_setFld_ne _ _ _ _ (by decide) (by decide), State.addWrap_eq,
      State.fld_setFld_ne _ _ _ _ (by decide) (by decide)]
    rfl

theorem exec_cfsScrub_lands {s : State} {pf : Nat} (one two bad : List Nat) (h : s.BitLands pf .operator) :
    ∃ t, exec (.cfsScrub pf one two bad) s = .next t ∧ t.fld (F.cfsCntCount 7) = (s.fld (F.cfsCntCount 7) + one.length) % 2 ^ 32 ∧
      t.fld (F.cfsCntCount 9) = (s.fld (F.cfsCntCount 9) + bad.length) % 2 ^ 32 ∧ t.records = s.records := by
  obtain ⟨x, hx, hw⟩ := h.writes (f := F.cfsCtlScrub) (.of_actionBit (by decide))
  rw [State.regAction_cfsScrub] at hw
  have hdue : (s.writeBit pf F.cfsCtlScrub).dueOf .cfsScrub = some (s.writeBit pf F.cfsCtlScrub).clk.mono := by
    rw [hw, State.dueOf_noteGated _ _ _ _ (by decide), State.dueOf_arm, State.noteGated_clk]
    rfl
  have hcnt : ∀ n : Nat, (F.cfsCntCount n).dw ∉ gatedRegs →
      (s.writeBit pf F.cfsCtlScrub).fld (F.cfsCntCount n) = s.fld (F.cfsCntCount n) := fun n hn => by
    rw [hw, State.noteGated_fld _ _ _ _ _ hn, ← hx.fld]; rfl
  have hrow : exec (.cfsScrub pf one two bad) s = .next ((s.writeBit pf F.cfsCtlScrub).cfsScrubPass one two bad) :=
    (h.onBar _).trans (congrArg _ (if_pos hdue))
  obtain ⟨h7, h9⟩ := (s.writeBit pf F.cfsCtlScrub).cfsScrubPass_counts one two bad
  refine ⟨_, hrow, ?_, ?_, ?_⟩
  · rw [h7, hcnt 7 (by decide)]
  · rw [h9, hcnt 9 (by decide)]
  · exact (congrArg (·.1.1) (State.cfsScrubPass_held _ one two bad)).trans (s.writeBit_records pf _)

/-- What a commit of the data port is tested by was found as it was, but a session's use. -/
theorem State.Found.dpError {s x : State} {pf : Nat} (h : s.Found pf x) : x.dpError = s.dpError := by
  have hdw : ∀ k, x.dpDword k = s.dpDword k := fun k => by rw [h.frame]; rfl
  have harea : x.area 4 = s.area 4 := by rw [h.frame]; rfl
  simp only [State.dpError, hdw, harea, h.fld]

section
variable {s : State} {pf : Nat}

theorem exec_cfsDpctlCommit_ok (h : s.BitLands pf .installer) (he : s.dpError = 0) :
    ∃ t, exec (.cfsDpctlCommit pf) s = .next t ∧ t.flag F.cfsDpctlBusy = true ∧ t.fld F.cfsDpctlErr = 0 ∧ t.records = s.records := by
  obtain ⟨x, hx, hw⟩ := h.writes (f := F.cfsDpctlCommit) (.of_actionBit (by decide))
  have hxe : x.dpError = 0 := hx.dpError.trans he
  rw [State.regAction_cfsDpctlCommit, State.dpCommit, hxe, if_neg (fun h => h rfl)] at hw
  refine ⟨_, h.onBar (s.writeBit pf F.cfsDpctlCommit), ?_, ?_, s.writeBit_records pf _⟩
  · rw [hw, State.noteGated_flag _ _ _ _ _ (by decide), State.flag, State.fld_cfsRequest]
    exact State.flag_setFld_one _ _ (by decide) rfl
  · rw [hw, State.noteGated_fld _ _ _ _ _ (by decide), State.fld_cfsRequest, State.setFlag_eq, State.fld_setFld_ne _ _ _ _ (by decide) (by decide),
      State.fld_setFld _ _ _ (by decide)]
    rfl

theorem exec_cfsDpctlCommit_kind (h : s.BitLands pf .installer) (hk : s.fld F.cfsDpselKind ≠ 2) :
    ∃ t, exec (.cfsDpctlCommit pf) s = .next t ∧ t.fld F.cfsDpctlErr = 1 ∧ t.flag F.cfsDpctlBusy = s.flag F.cfsDpctlBusy ∧ t.records = s.records := by
  obtain ⟨x, hx, hw⟩ := h.writes (f := F.cfsDpctlCommit) (.of_actionBit (by decide))
  have hxe : x.dpError = 1 := hx.dpError.trans (if_pos hk)
  rw [State.regAction_cfsDpctlCommit, State.dpCommit, hxe, if_pos (by decide)] at hw
  refine ⟨_, h.onBar (s.writeBit pf F.cfsDpctlCommit), ?_, ?_, s.writeBit_records pf _⟩
  · rw [hw, State.noteGated_fld _ _ _ _ _ (by decide), State.fld_setFld _ _ _ (by decide)]
    rfl
  · rw [hw, State.noteGated_flag _ _ _ _ _ (by decide), State.flag_setFld_ne _ _ _ _ (by decide) (by decide), hx.flag]

theorem exec_cfsDpctlDiscard_lands (h : s.BitLands pf .operator) :
    ∃ t, exec (.cfsDpctlDiscard pf) s = .next t ∧ t.cfs.dpBuf = [] ∧ t.records = s.records := by
  obtain ⟨x, hx, hw⟩ := h.writes (f := F.cfsDpctlDiscard) (.of_actionBit (by decide))
  rw [State.regAction_cfsDpctlDiscard] at hw
  refine ⟨_, h.onBar (s.writeBit pf F.cfsDpctlDiscard), ?_, s.writeBit_records pf _⟩
  rw [hw, State.noteGated_dpBuf]
  rfl

/-! ### The key port and debugging (R453, R463) -/

theorem State.Found.keyError {x : State} (h : s.Found pf x) : x.keyError pf = s.keyError pf := by
  simp only [State.keyError, h.fld, h.kbuf, h.keySet, h.role, h.mayAs]

theorem State.keyError_le (s : State) (pf : Nat) : s.keyError pf ≤ 3 := by
  unfold State.keyError
  simp only
  split_ifs <;> decide

theorem exec_secKctlCommit_ok (h : s.BitLands pf .installer) (he : s.keyError pf = 0) :
    ∃ t, exec (.secKctlCommit pf) s = .next t ∧ t.flag F.secKctlBusy = true ∧ t.fld F.secKctlErr = 0 ∧ t.keys = s.keys ∧
      t.sec.commit = some (s.fld F.secKselKey, kbufValue s.sec.kbuf) := by
  obtain ⟨x, hx, hw⟩ := h.writes (f := F.secKctlCommit) (.of_actionBit (by decide))
  have hxe : x.keyError pf = 0 := hx.keyError.trans he
  rw [State.regAction_secKctlCommit, State.keyCommit, hxe, if_neg (fun h => h rfl)] at hw
  refine ⟨_, h.onBar (s.writeBit pf F.secKctlCommit), ?_, ?_, s.writeBit_keys pf _, ?_⟩
  · rw [hw, State.noteGated_flag _ _ _ _ _ (by decide), State.flag, State.fld_cfsRequest]
    exact State.flag_setFld_one _ _ (by decide) rfl
  · rw [hw, State.noteGated_fld _ _ _ _ _ (by decide), State.fld_cfsRequest, State.setFlag_eq, State.fld_setFld_ne _ _ _ _ (by decide) (by decide)]
    exact State.fld_setFld _ _ _ (by decide)
  · rw [hw, State.noteGated_sec, State.cfsRequest_frame, ← hx.fld, ← hx.kbuf]
    rfl

theorem exec_secKctlCommit_refused (h : s.BitLands pf .installer) (he : s.keyError pf ≠ 0) :
    ∃ t, exec (.secKctlCommit pf) s = .next t ∧ t.fld F.secKctlErr = s.keyError pf ∧ t.keys = s.keys ∧ t.sec.commit = s.sec.commit ∧
      t.fld (F.secCntCount 15) = (s.fld (F.secCntCount 15) + 1) % 2 ^ 32 := by
  obtain ⟨x, hx, hw⟩ := h.writes (f := F.secKctlCommit) (.of_actionBit (by decide))
  rw [State.regAction_secKctlCommit, State.keyCommit, hx.keyError, if_pos he] at hw
  refine ⟨_, h.onBar (s.writeBit pf F.secKctlCommit), ?_, s.writeBit_keys pf _, ?_, ?_⟩
  · rw [hw, State.noteGated_fld _ _ _ _ _ (by decide), State.secCnt, State.addWrap_eq, State.fld_setFld_ne _ _ _ _ (by decide) (by decide),
      State.fld_setFld _ _ _ (by decide)]
    exact Nat.mod_eq_of_lt (Nat.lt_of_le_of_lt (s.keyError_le pf) (by decide))
  · rw [hw, State.noteGated_sec, ← hx.commit]
    rfl
  · rw [hw, State.noteGated_fld _ _ _ _ _ (by decide), State.secCnt, State.fld_addWrap _ _ _ (by decide),
      State.fld_setFld_ne _ _ _ _ (by decide) (by decide), hx.fld]
    rfl

theorem exec_secKctlDiscard_lands (h : s.BitLands pf .operator) :
    ∃ t, exec (.secKctlDiscard pf) s = .next t ∧ t.sec.kbuf = [] ∧ t.keys = s.keys := by
  obtain ⟨x, hx, hw⟩ := h.writes (f := F.secKctlDiscard) (.of_actionBit (by decide))
  rw [State.regAction_secKctlDiscard] at hw
  refine ⟨_, h.onBar (s.writeBit pf F.secKctlDiscard), ?_, s.writeBit_keys pf _⟩
  rw [hw, State.noteGated_sec]
  rfl

theorem exec_secDbgUnlock_test (h : s.BitLands pf .maker) (hlc : s.lc = 0) :
    ∃ t, exec (.secDbgUnlock pf) s = .next t ∧ t.debugLive = true ∧ t.flag F.secStatDbgseen = true ∧
      t.fld (F.secCntCount 20) = (s.fld (F.secCntCount 20) + 1) % 2 ^ 32 := by
  obtain ⟨x, hx, hw⟩ := h.writes (f := F.secDbgUnlock) (.of_actionBit (by decide))
  have hxlc : x.lc = 0 := (hx.fld _).trans hlc
  rw [State.regAction_secDbgUnlock, State.debugUnlock, if_pos hxlc, State.secCnt, State.setFlag_eq, State.setFlag_eq] at hw
  refine ⟨_, h.onBar (s.writeBit pf F.secDbgUnlock), ?_, ?_, ?_⟩
  · rw [State.debugLive, Bool.and_eq_true, decide_eq_true_eq, State.lc, hw, State.noteGated_fld _ _ _ _ _ (by decide),
      State.noteGated_flag _ _ _ _ _ (by decide), State.addWrap_eq]
    refine ⟨?_, ?_⟩
    · simp (disch := decide) only [State.fld_setFld_ne]
      exact hxlc
    · rw [State.flag_setFld_ne _ _ _ _ (by decide) (by decide), State.flag_setFld_ne _ _ _ _ (by decide) (by decide)]
      exact State.flag_setFld_one _ _ (by decide) rfl
  · rw [hw, State.noteGated_flag _ _ _ _ _ (by decide), State.addWrap_eq, State.flag_setFld_ne _ _ _ _ (by decide) (by decide)]
    exact State.flag_setFld_one _ _ (by decide) rfl
  · rw [hw, State.noteGated_fld _ _ _ _ _ (by decide), State.fld_addWrap _ _ _ (by decide), State.fld_setFld_ne _ _ _ _ (by decide) (by decide),
      State.fld_setFld_ne _ _ _ _ (by decide) (by decide), hx.fld]
    rfl

theorem exec_secDbgUnlock_other (h : s.BitLands pf .maker) (hlc : s.lc ≠ 0) :
    ∃ t, exec (.secDbgUnlock pf) s = .next t ∧ t.flag F.secDbgUnlock = s.flag F.secDbgUnlock ∧
      t.fld (F.secCntCount 20) = s.fld (F.secCntCount 20) := by
  obtain ⟨x, hx, hw⟩ := h.writes (f := F.secDbgUnlock) (.of_actionBit (by decide))
  have hxlc : x.lc ≠ 0 := fun e => hlc ((hx.fld _).symm.trans e)
  rw [State.regAction_secDbgUnlock, State.debugUnlock, if_neg hxlc] at hw
  refine ⟨_, h.onBar (s.writeBit pf F.secDbgUnlock), ?_, ?_⟩
  · rw [hw, State.noteGated_flag _ _ _ _ _ (by decide), hx.flag]
  · rw [hw, State.noteGated_fld _ _ _ _ _ (by decide), hx.fld]

/-! ### The event window (R475) -/

theorem State.bank_setBank (s : State) (pf : Nat) (b : EvwBank) : (s.setBank pf b).bank pf = b := by
  unfold State.bank State.setBank
  split <;> rfl

theorem State.Found.evwOldest {x : State} (h : s.Found pf x) : x.evwOldest = s.evwOldest := by rw [h.frame]; rfl

theorem exec_evwSeekold_lands (h : s.BitLands pf .operator) :
    ∃ t, exec (.evwSeekold pf) s = .next t ∧ (t.bank pf).cursor = s.evwOldest ∧ (t.bank pf).behind = false ∧ t.bank (1 - pf) = s.bank (1 - pf) ∧
      t.areas = s.areas := by
  obtain ⟨x, hx, hw⟩ := h.writes (f := F.evwCtlSeekold) (.of_actionBit (by decide))
  rw [State.regAction_evwSeekold, State.evwSeekOld, hx.evwOldest] at hw
  refine ⟨_, h.onBar (s.writeBit pf F.evwCtlSeekold), ?_, ?_, ?_, s.writeBit_areas pf _⟩
  · rw [hw, State.noteGated_bank, State.bank_setBank]
  · rw [hw, State.noteGated_bank, State.bank_setBank]
  · rw [hw, State.noteGated_bank, State.bank_setBank_other _ _ _ h.1, hx.bank]

theorem exec_evwSeeknew_lands (h : s.BitLands pf .operator) :
    ∃ t, exec (.evwSeeknew pf) s = .next t ∧ (t.bank pf).cursor = s.stg.nextSeq ∧ (t.bank pf).behind = false ∧ t.bank (1 - pf) = s.bank (1 - pf) ∧
      t.areas = s.areas := by
  obtain ⟨x, hx, hw⟩ := h.writes (f := F.evwCtlSeeknew) (.of_actionBit (by decide))
  rw [State.regAction_evwSeeknew, State.evwSeekNew, hx.stg] at hw
  refine ⟨_, h.onBar (s.writeBit pf F.evwCtlSeeknew), ?_, ?_, ?_, s.writeBit_areas pf _⟩
  · rw [hw, State.noteGated_bank, State.bank_setBank]
  · rw [hw, State.noteGated_bank, State.bank_setBank]
  · rw [hw, State.noteGated_bank, State.bank_setBank_other _ _ _ h.1, hx.bank]

/-! ### Strand's windows (R400) -/

theorem State.Found.staged {x : State} (h : s.Found pf x) : x.staged = s.staged := by
  simp only [State.staged, h.fld, h.flag]

theorem State.Found.windowError {x : State} (h : s.Found pf x) (w : Window) : x.windowError w = s.windowError w := by
  simp only [State.windowError, h.nss, h.flag]

theorem exec_strWctlCommit_ok (h : s.BitLands pf .operator) (he : s.windowError s.staged = 0) :
    ∃ t, exec (.strWctlCommit pf) s = .next t ∧ Tab.find (s.fld F.strWselWin) t.str.windows = some s.staged ∧ t.fld F.strWstatErr = 0 := by
  obtain ⟨x, hx, hw⟩ := h.writes (f := F.strWctlCommit) (.of_actionBit (by decide))
  have hxe : x.windowError x.staged = 0 := by rw [hx.staged, hx.windowError, he]
  rw [State.regAction_strWctlCommit, State.windowCommit, hxe, if_neg (fun h => h rfl), hx.staged, hx.fld, hx.str] at hw
  refine ⟨_, h.onBar (s.writeBit pf F.strWctlCommit), ?_, ?_⟩
  · rw [hw, State.noteGated_str, State.cfsRequest_frame]
    exact Tab.find_put_self _ _ _
  · rw [hw, State.noteGated_fld _ _ _ _ _ (by decide), State.fld_cfsRequest, State.strCnt, State.addWrap_eq,
      State.fld_setFld_ne _ _ _ _ (by decide) (by decide), State.fld_setFld_ne _ _ _ _ (by decide) (by decide)]
    exact State.fld_setFld _ _ _ (by decide)

theorem exec_strWctlCommit_refused (h : s.BitLands pf .operator) (he : s.windowError s.staged ≠ 0) :
    ∃ t, exec (.strWctlCommit pf) s = .next t ∧ t.str.windows = s.str.windows ∧
      t.fld F.strWstatErr = s.windowError s.staged % 2 ^ F.strWstatErr.wid := by
  obtain ⟨x, hx, hw⟩ := h.writes (f := F.strWctlCommit) (.of_actionBit (by decide))
  rw [State.regAction_strWctlCommit, State.windowCommit, hx.staged, hx.windowError, if_pos he] at hw
  refine ⟨_, h.onBar (s.writeBit pf F.strWctlCommit), ?_, ?_⟩
  · rw [hw, State.noteGated_str, ← hx.str]
    rfl
  · rw [hw, State.noteGated_fld _ _ _ _ _ (by decide), State.strCnt, State.addWrap_eq, State.fld_setFld_ne _ _ _ _ (by decide) (by decide),
      State.fld_setFld _ _ _ (by decide)]

end

/-- Settles O35: each write lands, its bit's action is carried out on the state found, and the accepted write is noted. -/
theorem actionBitsComplete : Obligations.ActionBitsComplete := by
  unfold Obligations.ActionBitsComplete
  exact ⟨fun _ _ h => exec_paceMinclr_lands h, fun _ _ h => exec_atcFlush_lands h, fun _ _ h => exec_eccRelease_lands h,
    fun _ _ _ h hc hup => exec_chnRetrain_up h hc hup, fun _ _ _ h hc hd => exec_chnRetrain_down h hc hd,
    fun _ _ _ h hk hd => exec_sknRetrain_down h hk hd, fun _ _ _ _ h hk hc hup hd => exec_sknRetrain_one h hk hc hup hd,
    fun _ _ h => exec_hbmScrubnow_lands h, fun _ _ _ h hl => exec_cmpTestRun_lands h hl, fun _ _ h => exec_fwuDiscard_lands h,
    fun _ _ one two bad h => exec_cfsScrub_lands one two bad h, fun _ _ h he => exec_cfsDpctlCommit_ok h he,
    fun _ _ h hk => exec_cfsDpctlCommit_kind h hk, fun _ _ h => exec_cfsDpctlDiscard_lands h, fun _ _ h he => exec_secKctlCommit_ok h he,
    fun _ _ h he => exec_secKctlCommit_refused h he, fun _ _ h => exec_secKctlDiscard_lands h, fun _ _ h hlc => exec_secDbgUnlock_test h hlc,
    fun _ _ h hlc => exec_secDbgUnlock_other h hlc, fun _ _ h => exec_evwSeekold_lands h, fun _ _ h => exec_evwSeeknew_lands h,
    fun _ _ _ h hx he => hx ▸ exec_strWctlCommit_ok h (hx ▸ he), fun _ _ h he => exec_strWctlCommit_refused h he⟩

end Sys2Proof.Machine
end

section
/-! SUPPORT. The SPDM rows (R92, R93): what an answer sends and counts, and what each request is answered once the connection is set up. -/

namespace Sys2Proof.Machine

section
variable {s : State} {pf need n code : Nat} {d : List Nat}

/-- Once the connection is set up far enough, a request is carried out. -/
theorem onSpdm_setUp (hpf : pf < 2) (h : need ≤ s.spdmAt pf) (t : State) : onSpdm s pf need t = .next t := by
  rw [onSpdm, if_neg (by omega), if_neg (by omega)]

theorem State.spdmAnswer_tx : (s.spdmAnswer pf code d).tx = .spdm pf code d :: s.tx := rfl

theorem State.spdmSet_tx : (s.spdmSet pf n).tx = s.tx := by
  unfold State.spdmSet
  split <;> rfl

theorem State.spdmSet_answer_spdmAt : ((s.spdmSet pf n).spdmAnswer pf code d).spdmAt pf = n := by
  by_cases h : pf = 0 <;> simp [State.spdmAnswer, State.spdmAt, State.spdmSet, h]

/-- HIF_DOE_STAT counts an answer. -/
theorem State.spdmAnswer_served (hpf : pf < 2) :
    (s.spdmAnswer pf code d).fld (F.hifDoeStatServed pf) = (s.fld (F.hifDoeStatServed pf) + 1) % 65536 := by
  have hfits : (F.hifDoeStatServed pf).sh + (F.hifDoeStatServed pf).wid ≤ 32 := by interval_cases pf <;> decide
  exact State.fld_addWrap (s.send _) _ 1 hfits

/-- A request that moves the connection on. -/
theorem onSpdm_moves (hpf : pf < 2) (h : need ≤ s.spdmAt pf) :
    ∃ t, onSpdm s pf need ((s.spdmSet pf n).spdmAnswer pf code d) = .next t ∧ t.tx = .spdm pf code d :: s.tx ∧ t.spdmAt pf = n :=
  ⟨_, onSpdm_setUp hpf h _, by rw [State.spdmAnswer_tx, State.spdmSet_tx], State.spdmSet_answer_spdmAt⟩

/-- A request that is answered alone. -/
theorem onSpdm_answers (hpf : pf < 2) (h : need ≤ s.spdmAt pf) :
    ∃ t, onSpdm s pf need (s.spdmAnswer pf code d) = .next t ∧ t.tx = .spdm pf code d :: s.tx :=
  ⟨_, onSpdm_setUp hpf h _, State.spdmAnswer_tx⟩

theorem exec_negotiateAlgorithms_agreed {a h : Nat} (hpf : pf < 2) (hat : 2 ≤ s.spdmAt pf) (ha : a.testBit 7 = true) (hh : h.testBit 1 = true) :
    ∃ t, exec (.negotiateAlgorithms pf a h) s = .next t ∧ t.tx = .spdm pf 0x63 [0x80, 0x02] :: s.tx ∧ t.spdmAt pf = 3 := by
  have hrow : exec (.negotiateAlgorithms pf a h) s = onSpdm s pf 2 ((s.spdmSet pf 3).spdmAnswer pf 0x63 [0x80, 0x02]) :=
    congrArg (onSpdm s pf 2) (if_pos (by rw [ha, hh]; rfl))
  rw [hrow]
  exact onSpdm_moves hpf hat

theorem exec_negotiateAlgorithms_refused {a h : Nat} (hpf : pf < 2) (hat : 2 ≤ s.spdmAt pf) (hno : a.testBit 7 = false ∨ h.testBit 1 = false) :
    ∃ t, exec (.negotiateAlgorithms pf a h) s = .next t ∧ t.tx = .spdm pf 0x7F [1] :: s.tx := by
  have hrow : exec (.negotiateAlgorithms pf a h) s = onSpdm s pf 2 (s.spdmAnswer pf 0x7F [1]) :=
    congrArg (onSpdm s pf 2) (if_neg (by rcases hno with hb | hb <;> simp [hb]))
  rw [hrow]
  exact onSpdm_answers hpf hat

/-- The part of the chain of slot 0 that starts within it. -/
theorem exec_getCertificate_within {o : Nat} (n : Nat) (hpf : pf < 2) (hat : 3 ≤ s.spdmAt pf) (ho : o < certLen) :
    ∃ t, exec (.getCertificate pf 0 o n) s = .next t ∧
      t.tx = .spdm pf 0x02 ([Nat.min n (certLen - o), certLen - o - Nat.min n (certLen - o)] ++
        (List.range (Nat.min n (certLen - o))).map (fun i => Config.certByte (o + i))) :: s.tx := by
  have hrow : exec (.getCertificate pf 0 o n) s = onSpdm s pf 3
      (s.spdmAnswer pf 0x02 ([Nat.min n (certLen - o), certLen - o - Nat.min n (certLen - o)] ++
        (List.range (Nat.min n (certLen - o))).map (fun i => Config.certByte (o + i)))) :=
    congrArg (onSpdm s pf 3) (if_neg (by omega))
  rw [hrow]
  exact onSpdm_answers hpf hat

/-- One measurement block by its index, not signed. -/
theorem exec_getMeasurements_block {k : Nat} (n : Nat) (hpf : pf < 2) (hat : 3 ≤ s.spdmAt pf) (hlo : 1 ≤ k) (hhi : k ≤ 8) :
    ∃ t, exec (.getMeasurements pf k n false) s = .next t ∧ t.tx = .spdm pf 0x60 (k :: s.measurement k) :: s.tx := by
  have hrow : exec (.getMeasurements pf k n false) s = onSpdm s pf 3 (s.spdmAnswer pf 0x60 ((k :: s.measurement k) ++ [])) := by
    show execGetMeasurements pf k n false s = _
    unfold execGetMeasurements
    rw [if_neg (by omega), if_neg (by omega), if_pos hhi]
    rfl
  rw [hrow, List.append_nil]
  exact onSpdm_answers hpf hat

end

/-- Settles O5: each request finds the connection set up, and its answer is sent and counted. -/
theorem spdmRowsComplete : Obligations.SpdmRowsComplete := by
  unfold Obligations.SpdmRowsComplete
  intro s pf hpf
  refine ⟨onSpdm_moves hpf (Nat.zero_le _), fun h => onSpdm_moves hpf h, fun _ _ h => exec_negotiateAlgorithms_agreed hpf h,
    fun _ _ h => exec_negotiateAlgorithms_refused hpf h, fun h => ⟨onSpdm_answers hpf h, fun _ n => exec_getCertificate_within n hpf h,
      fun n => ?_, fun _ n => exec_getMeasurements_block n hpf h⟩,
    fun _ => ⟨_, onSpdm_setUp hpf (Nat.zero_le _) _, State.spdmAnswer_tx, State.spdmAnswer_served hpf⟩⟩
  exact onSpdm_answers hpf h

end Sys2Proof.Machine
end

section
/-! SUPPORT. The rows that write a counter clear (R95, R127, R181, R236, R255, R286, R308, R328, R345, R360, R380, R383, R408, R423, R446, R465): what
clearing registers leaves, and what a bit that clears them brings about. -/

namespace Sys2Proof.Machine

/-! ### Cleared registers -/

section
variable (s : State) {offs : List Nat} {o : Nat}

theorem State.word_clearWords_ne (h : o ∉ offs) : (s.clearWords offs).word o = s.word o :=
  List.foldlRecOn offs _ (motive := fun t : State => t.word o = s.word o) rfl fun t ht a ha =>
    (t.word_setWord_ne a o 0 (fun e => h (e ▸ ha))).trans ht

theorem State.word_clearWords (h : o ∈ offs) : (s.clearWords offs).word o = 0 := by
  induction offs generalizing s with
  | nil => cases h
  | cons a l ih =>
    by_cases hl : o ∈ l
    · exact ih (s.setWord a 0) hl
    · obtain rfl := (List.mem_cons.1 h).resolve_right hl
      exact ((s.setWord o 0).word_clearWords_ne hl).trans (s.word_setWord o 0)

/-- A register holds no bits of its fields once it is cleared. -/
theorem State.fld_of_word_zero {f : Fld} (h : s.word f.dw = 0) : s.fld f = 0 := by
  rw [State.fld, h, Fld.get, show (0 : Word).toNat = 0 from rfl, Nat.zero_div, Nat.zero_mod]

theorem State.noteGated_word (a b c : Nat) (h : o ∉ gatedRegs) : (s.noteGated a b c).word o = s.word o := (s.noteGated_writes a b c).2 o h

@[simp] theorem State.noteGated_nss (a b c : Nat) : (s.noteGated a b c).nss = s.nss := by rw [State.noteGated_frame]

end

/-! ### A bit that clears registers -/

/-- A bit whose action clears registers, and nothing else, clears them for good where noting the write changes none of them (R452). -/
theorem BitClears.of_clearWords {row : Nat → Instr} {f : Fld} {need : Role} {offs : List Nat} (hb : ActionBit f need)
    (hrow : ∀ s pf, s.BitLands pf need → exec (row pf) s = onBit s pf f) (hact : ∀ s pf, State.regAction s pf f = s.clearWords offs)
    (hapart : ∀ o ∈ offs, o ∉ gatedRegs) : BitClears row need offs := by
  intro s pf h
  obtain ⟨x, hx, hw⟩ := h.writes hb
  rw [hact, State.clearWords_frame] at hw
  have hword : ∀ o, o ∉ gatedRegs → (s.writeBit pf f).word o = (x.clearWords offs).word o := fun o ho => by
    rw [hw, State.noteGated_word _ _ _ _ ho, ← State.clearWords_frame]
  refine ⟨_, (hrow s pf h).trans (h.onBar (s.writeBit pf f)), fun o ho => ?_, fun o ho h1 h2 h3 => ?_, ?_, ?_, ?_, s.writeBit_keys pf f⟩
  · rw [hword o (hapart o ho), x.word_clearWords ho]
  · rw [hword o (by simp [gatedRegs, h1, h2, h3]), x.word_clearWords_ne ho, hx.word]
  · rw [hw, State.noteGated_q, hx.q]
  · rw [hw, State.noteGated_nss, hx.nss]
  · rw [hw, State.noteGated_fl, hx.fl]

/-! ### The skeins' counters (R308) -/

theorem actionBit_sknCntclr {k : Nat} (h : k < 8) : ActionBit (F.sknCtlCntclr k) .operator := by
  have hall : ∀ k < 8, actionBit (F.sknCtlCntclr k) .operator = true := by decide
  exact .of_actionBit (hall k h)

theorem State.regAction_sknCntclr (s : State) (pf : Nat) {k : Nat} (h : k < 8) : s.regAction pf (F.sknCtlCntclr k) = s.sknCntClr k := by
  have hoff : (F.sknCtlCntclr k).off = 0x2000 + 128 * k := rfl
  have hk : ((F.sknCtlCntclr k).off - 0x2000) / 0x80 = k := by omega
  rw [s.regAction_high pf (by omega), if_pos (by omega), hk, if_pos rfl]

/-- A skein's counters and its channels' error registers lie apart from those that noting a write may change. -/
theorem sknCnt_not_gated {k o : Nat} (h : o ∈ (List.range 16).map (Reg.sknCnt k) ++ (skeinChans k).map Reg.chnErr) : o ∉ gatedRegs := by
  have hlow : ∀ o ∈ gatedRegs, o < 0x2000 := by decide
  have hhigh : 0x2000 ≤ o := by
    rcases List.mem_append.1 h with h | h
    all_goals
      obtain ⟨i, -, rfl⟩ := List.mem_map.1 h
      simp only [Reg.sknCnt, Reg.chnErr]
      omega
  exact fun hm => absurd (hlow o hm) (by omega)

theorem sknCntclr_clears {k : Nat} (h : k < 8) :
    BitClears (fun pf => .sknCntclr pf k) .operator ((List.range 16).map (Reg.sknCnt k) ++ (skeinChans k).map Reg.chnErr) :=
  .of_clearWords (actionBit_sknCntclr h) (fun _ _ _ => if_neg (by omega)) (fun s pf => s.regAction_sknCntclr pf h) (fun _ => sknCnt_not_gated)

/-! ### The course manager's counters (R209) -/

/-- The staging condition reports in CRS_STAT alone (R202). -/
theorem State.noteStaging_frame (s : State) : s.noteStaging = { s with regs := s.noteStaging.regs } := by
  unfold State.noteStaging
  simp only
  split <;> rfl

theorem State.noteStaging_writes (s : State) : s.WritesOnly [Reg.crsStat] s.noteStaging := by
  unfold State.noteStaging
  simp only
  split
  · exact .trans (.setFld F.crsStatStgfullseen 1 (by decide)) (.setFld F.crsStatStaging _ (by decide))
  · exact .setFld F.crsStatStaging _ (by decide)

/-- CRS_CTL is stored as it was found. -/
theorem State.restored_crsCtl (s : State) (pf : Nat) : s.restored pf Reg.crsCtl = s.setWord Reg.crsCtl (s.word Reg.crsCtl) := rfl

theorem State.regEffect_crsCtl (s : State) : s.regEffect Reg.crsCtl = s.noteStaging := rfl

/-- An `ActionBit` of a register whose stored value may have effects of its own (R202, R514). -/
structure EffectBit (f : Fld) (need : Role) : Prop where
  row : ∃ r : FieldRow, (rowsOf f.off).filter (fun x => decide (x.fld.get f.bit ≠ 0)) = [r] ∧ r.fld = f ∧ (r.acc = .wo ∨ r.acc = .w1s) ∧
    r.role = need ∧ r.cls ≠ .k
  role : need ≠ .none
  bit : f.bit ≠ 0
  clears : clearBits (rowsOf f.off) f.bit = 0
  high : f.off < 0x10000
  simple : f.off ∉ [Reg.mapCapCtl, Reg.crsLayout, Reg.secKdata]

/-- What a write of 1 to such a bit does: its action, then the effects of the stored value. -/
theorem State.regWrite_effectBit (s : State) (pf : Nat) {f : Fld} {need : Role} (h : EffectBit f need) (hdead : s.flag F.genStateDead = false)
    (hrole : s.mayAs pf need = true) :
    s.regWrite 0 pf f.off f.bit f.bit =
      (true, (((s.restored pf f.off).regAction pf f).regEffect f.off).noteGated f.off f.bit.toNat pf) := by
  obtain ⟨r, hr, hf, hacc, hneed, hcls⟩ := h.row
  have hsimple := h.simple
  simp only [List.mem_cons, List.not_mem_nil, or_false, not_or] at hsimple
  obtain ⟨hcap, hlay, hdata⟩ := hsimple
  have hwritable : (rowsOf f.off).all (fun x => decide (x.acc = .ro)) = false := by
    refine List.all_eq_false.2 ⟨r, (List.mem_filter.1 (hr ▸ List.mem_singleton.2 rfl : r ∈ (rowsOf f.off).filter _)).1, ?_⟩
    rcases hacc with h | h <;> simp [h]
  have hact : (decide (r.acc = .wo) || decide (r.acc = .w1s)) = true := by simpa using hacc
  have hmissing : s.missing pf [r] = none := by simp [State.missing, State.mayWrite, hneed, hrole]
  have hkeep : ∀ w : Word, w &&& ~~~(0 : Word) = w := fun _ => BitVec.and_allOnes
  have hdec : s.decodesReg f.off = true := by simp [State.decodesReg, h.high, hdead]
  unfold State.regWrite
  rw [if_neg (by rintro (hd | hz | ⟨hd, -⟩); exacts [by simp [hdec] at hd, h.bit hz, by simp [hdead] at hd])]
  simp only [BitVec.and_self, State.changes_bit s _ _ hr hacc, hmissing, hwritable, Bool.false_eq_true, if_false,
    State.newWord_plain s _ _ _ _ hcap hlay, State.storeRw_bit s _ _ hr hacc, h.clears, hkeep, List.filter_cons, hact, if_true, List.filter_nil,
    List.foldl_cons, List.foldl_nil, hf, List.any_cons, List.any_nil, hneed, h.role, ne_eq, not_false_eq_true, decide_true, Bool.or_false, hcls,
    decide_false, if_neg hdata, State.restored]

theorem effectBit_crsCntclr : EffectBit F.crsCtlCntclr .operator := by
  refine ⟨?_, by decide, by decide, by decide, by decide, by decide⟩
  have hrow : actionRow F.crsCtlCntclr .operator = true := by decide
  unfold actionRow at hrow
  split at hrow
  next r hr =>
    simp only [Bool.and_eq_true, Bool.or_eq_true, decide_eq_true_eq] at hrow
    obtain ⟨⟨⟨hf, hacc⟩, hneed⟩, hcls⟩ := hrow
    exact ⟨r, hr, hf, hacc, hneed, hcls⟩
  next => cases hrow

/-- A write of 1 to CRS_CTL.CNTCLR clears the counters, and settles whether staging is on. -/
theorem State.BitLands.writes_crsCntclr {s : State} {pf : Nat} (h : s.BitLands pf .operator) :
    ∃ x, s.Found pf x ∧ s.writeBit pf F.crsCtlCntclr =
      ((x.clearWords ((List.range 24).map Reg.crsCnt)).noteStaging).noteGated Reg.crsCtl F.crsCtlCntclr.bit.toNat pf := by
  obtain ⟨-, -, hdead, hps, hrole⟩ := h
  have hx := s.touch_found pf
  have hfound : (s.touch pf).Found pf ((s.touch pf).restored pf Reg.crsCtl) := by
    rw [State.restored_crsCtl]
    refine ⟨rfl, fun o => ?_, fun _ => rfl, rfl, rfl, rfl⟩
    by_cases ho : o = Reg.crsCtl
    · rw [ho, State.word_setWord]
    · exact State.word_setWord_ne _ _ _ _ ho
  refine ⟨_, hx.trans hfound, ?_⟩
  unfold State.writeBit
  simp only
  rw [if_neg (by rintro ⟨h4, -⟩; exact hps ((hx.fld _).symm.trans h4))]
  exact congrArg Prod.snd ((s.touch pf).regWrite_effectBit pf effectBit_crsCntclr ((hx.flag _).trans hdead) ((hx.mayAs _ _).trans hrole))

theorem exec_crsCntclr_lands {s : State} {pf : Nat} (h : s.BitLands pf .operator) :
    ∃ t, exec (.crsCntclr pf) s = .next t ∧ (∀ n, n < 24 → t.word (Reg.crsCnt n) = 0) ∧ t.q = s.q ∧ t.fl = s.fl := by
  obtain ⟨x, hx, hw⟩ := h.writes_crsCntclr
  refine ⟨_, h.onBar (s.writeBit pf F.crsCtlCntclr), fun n hn => ?_, ?_, ?_⟩
  · have hapart : ∀ n < 24, Reg.crsCnt n ∉ gatedRegs ∧ Reg.crsCnt n ∉ [Reg.crsStat] := by decide
    obtain ⟨hgated, hstat⟩ := hapart n hn
    rw [hw, State.noteGated_word _ _ _ _ hgated, (State.noteStaging_writes _).2 _ hstat,
      State.word_clearWords _ (List.mem_map_of_mem (List.mem_range.2 hn))]
  · rw [hw, State.noteGated_q, State.noteStaging_frame, State.clearWords_frame, hx.q]
  · rw [hw, State.noteGated_fl, State.noteStaging_frame, State.clearWords_frame, hx.fl]

/-! ### The host interface's counters (R95) -/

theorem exec_hifCntclr_lands {s : State} {pf : Nat} (h : s.BitLands pf .operator) :
    ∃ t, exec (.hifCntclr pf) s = .next t ∧ (∀ p n, p < 2 → n < 18 → t.word (Reg.hifCnt p n) = 0) ∧ t.fld F.hifUxcplCntCount = 0 ∧
      t.fld F.hifPriStatLate = 0 ∧ t.q = s.q ∧ t.fl = s.fl := by
  obtain ⟨x, hx, hw⟩ := h.writes (f := F.hifCtlCntclr) (.of_actionBit (by decide))
  rw [show x.regAction pf F.hifCtlCntclr = x.hifCntClr from rfl, State.hifCntClr] at hw
  refine ⟨_, h.onBar (s.writeBit pf F.hifCtlCntclr), fun p n hp hn => ?_, ?_, ?_, ?_, ?_⟩
  · have hapart : ∀ p < 2, ∀ n < 18, Reg.hifCnt p n ∉ gatedRegs ∧ Reg.hifCnt p n ≠ F.hifPriStatLate.dw ∧
        Reg.hifCnt p n ≠ F.hifUxcplCntCount.dw := by decide
    have hmem : Reg.hifCnt p n ∈ (List.range 18).flatMap (fun n => [Reg.hifCnt 0 n, Reg.hifCnt 1 n]) := by
      refine List.mem_flatMap.2 ⟨n, List.mem_range.2 hn, ?_⟩
      interval_cases p <;> simp
    obtain ⟨hgated, hlate, hcount⟩ := hapart p hp n hn
    rw [hw, State.noteGated_word _ _ _ _ hgated, State.setFld, State.word_setWord_ne _ _ _ _ hlate, State.setFld,
      State.word_setWord_ne _ _ _ _ hcount, State.word_clearWords _ hmem]
  · rw [hw, State.noteGated_fld _ _ _ _ _ (by decide), State.fld_setFld_ne _ _ _ _ (by decide) (by decide), State.fld_setFld _ _ _ (by decide)]
    rfl
  · rw [hw, State.noteGated_fld _ _ _ _ _ (by decide), State.fld_setFld _ _ _ (by decide)]
    rfl
  · rw [hw, State.noteGated_q, State.setFld_q, State.setFld_q, State.clearWords_frame, hx.q]
  · rw [hw, State.noteGated_fl, State.setFld_fl, State.setFld_fl, State.clearWords_frame, hx.fl]

/-! ### The security unit's counters (R452, R465) -/

/-- The registers of a refused event. -/
theorem State.flushGated_writes (s : State) (all : Bool) : s.WritesOnly [Reg.evwDrop, Reg.evwStat] (s.flushGated all) :=
  .trans (.foldl _ _ _ fun _ _ _ => .event _ _ _ _ _ (by decide) (by decide)) (.of_eq rfl rfl)

/-- Noting an accepted write counts it. -/
theorem State.noteGated_count (s : State) (a b c : Nat) :
    (s.noteGated a b c).fld (F.secCntCount 10) = (s.fld (F.secCntCount 10) + 1) % 2 ^ 32 := by
  rw [← (s.flushGated_writes false).fld (F.secCntCount 10) (by decide)]
  exact State.fld_addWrap (s.flushGated false) (F.secCntCount 10) 1 (by decide)

/-- SEC_CNT is cleared before the accepted write is counted. -/
theorem exec_secCntclr_lands {s : State} {pf : Nat} (h : s.BitLands pf .operator) :
    ∃ t, exec (.secCntclr pf) s = .next t ∧ (∀ n, n < 24 → n ≠ 10 → t.word (Reg.secCnt n) = 0) ∧ t.fld (F.secCntCount 10) = 1 ∧ t.keys = s.keys ∧
      t.fld F.secStatAuthfailseen = s.fld F.secStatAuthfailseen := by
  obtain ⟨x, hx, hw⟩ := h.writes (f := F.secCtlCntclr) (.of_actionBit (by decide))
  rw [show x.regAction pf F.secCtlCntclr = x.clearWords ((List.range 24).map Reg.secCnt) from rfl] at hw
  have hmem : ∀ n < 24, Reg.secCnt n ∈ (List.range 24).map Reg.secCnt := fun n hn => List.mem_map_of_mem (List.mem_range.2 hn)
  refine ⟨_, h.onBar (s.writeBit pf F.secCtlCntclr), fun n hn hne => ?_, ?_, s.writeBit_keys pf _, ?_⟩
  · have hapart : ∀ n < 24, n ≠ 10 → Reg.secCnt n ∉ gatedRegs := by decide
    rw [hw, State.noteGated_word _ _ _ _ (hapart n hn hne), State.word_clearWords _ (hmem n hn)]
  · rw [hw, State.noteGated_count, State.fld_of_word_zero _ (State.word_clearWords _ (hmem 10 (by decide)))]
    rfl
  · rw [hw, State.noteGated_fld _ _ _ _ _ (by decide), State.fld, State.word_clearWords_ne _ (by decide), hx.word, ← State.fld]

/-! ### The rows -/

/-- Settles O33: a block's bit clears its registers, the write is noted, and for CRS_CTL staging is settled too. -/
theorem counterClearsComplete : Obligations.CounterClearsComplete := by
  unfold Obligations.CounterClearsComplete
  refine ⟨?_, ?_, ?_, ?_, ?_, ?_, ?_, ?_, ?_, ?_, ?_, ?_, ?_, fun _ hk => sknCntclr_clears hk, fun _ _ h => exec_crsCntclr_lands h,
    fun _ _ h => exec_hifCntclr_lands h, fun _ _ h => exec_secCntclr_lands h⟩
  · exact .of_clearWords (f := F.qenCtlCntclr) (.of_actionBit (by decide)) (fun _ _ _ => rfl) (fun _ _ => rfl) (by decide)
  · exact .of_clearWords (f := F.mapCtlCntclr) (.of_actionBit (by decide)) (fun _ _ _ => rfl) (fun _ _ => rfl) (by decide)
  · exact .of_clearWords (f := F.eccCtlCntclr) (.of_actionBit (by decide)) (fun _ _ _ => rfl) (fun _ _ => rfl) (by decide)
  · exact .of_clearWords (f := F.rclCtlCntclr) (.of_actionBit (by decide)) (fun _ _ _ => rfl) (fun _ _ => rfl) (by decide)
  · exact .of_clearWords (f := F.lifCtlCntclr) (.of_actionBit (by decide)) (fun _ _ _ => rfl) (fun _ _ => rfl) (by decide)
  · exact .of_clearWords (f := F.hbmCtlCntclr) (.of_actionBit (by decide)) (fun _ _ _ => rfl) (fun _ _ => rfl) (by decide)
  · exact .of_clearWords (f := F.cmpCtlCntclr) (.of_actionBit (by decide)) (fun _ _ _ => rfl) (fun _ _ => rfl) (by decide)
  · exact .of_clearWords (f := F.supCtlCntclr) (.of_actionBit (by decide)) (fun _ _ _ => rfl) (fun _ _ => rfl) (by decide)
  · exact .of_clearWords (f := F.pwrCtlCntclr) (.of_actionBit (by decide)) (fun _ _ _ => rfl) (fun _ _ => rfl) (by decide)
  · exact .of_clearWords (f := F.patCtlCntclr) (.of_actionBit (by decide)) (fun _ _ _ => rfl) (fun _ _ => rfl) (by decide)
  · exact .of_clearWords (f := F.strCtlCntclr) (.of_actionBit (by decide)) (fun _ _ _ => rfl) (fun _ _ => rfl) (by decide)
  · exact .of_clearWords (f := F.fwuCtlCntclr) (.of_actionBit (by decide)) (fun _ _ _ => rfl) (fun _ _ => rfl) (by decide)
  · exact .of_clearWords (f := F.cfsCtlCntclr) (.of_actionBit (by decide)) (fun _ _ _ => rfl) (fun _ _ => rfl) (by decide)

end Sys2Proof.Machine
end

section
/-! SUPPORT. The host link's counters and errors, and the failure of a command that cannot reach its host memory (R81, R89, R96): what each leaves
as it is. -/

namespace Sys2Proof.Machine

/-! ### The port counters (R96) -/

theorem hifCntCount_dw (p n : Nat) : (F.hifCntCount p n).dw = 0x440 + 72 * p + 4 * n := by
  simp only [Fld.dw, F.hifCntCount, Reg.hifCnt]
  omega

theorem hifCntCount_fits (p n : Nat) : (F.hifCntCount p n).sh + (F.hifCntCount p n).wid ≤ 32 := by
  simp only [Fld.sh, F.hifCntCount, Reg.hifCnt]
  omega

/-- The registers of the host interface below the port counters keep their fields when one counts. -/
theorem State.fld_hifCnt (s : State) (p n : Nat) {f : Fld} (hf : f.dw < 0x440) : (s.hifCnt p n).fld f = s.fld f := by
  rw [State.hifCnt, State.addSat_eq, State.fld_setFld_ne _ _ _ _ (hifCntCount_fits p n) (.inl (by rw [hifCntCount_dw]; omega))]

theorem State.flag_hifCnt (s : State) (p n : Nat) {f : Fld} (hf : f.dw < 0x440) : (s.hifCnt p n).flag f = s.flag f := by
  rw [State.flag, s.fld_hifCnt p n hf, ← State.flag]

@[simp] theorem State.hifCnt_hif (s : State) (p n : Nat) : (s.hifCnt p n).hif = s.hif := rfl
@[simp] theorem State.hifCnt_tx (s : State) (p n : Nat) : (s.hifCnt p n).tx = s.tx := rfl

/-! ### A command that cannot reach its host memory (R81, R89) -/

section
variable (s : State) (c : Nat)

/-- Cancelling timers changes the timers alone. -/
theorem State.cancelAll_frame {α : Type} (id : α → TimerId) (l : List α) :
    l.foldl (fun t a => t.cancel (id a)) s = { s with timers := (l.foldl (fun t a => t.cancel (id a)) s).timers } :=
  State.foldl_frame (fun s t => { s with timers := t.timers }) _ l s (fun _ => rfl) (fun _ _ _ h1 h2 => by rw [h2, h1]) (fun _ _ => rfl)

theorem State.failWrite_frame (st : Status) :
    s.failWrite c st = { s with timers := (s.failWrite c st).timers, q := (s.failWrite c st).q, buf := (s.failWrite c st).buf,
                                crs := (s.failWrite c st).crs } := by
  unfold State.failWrite
  rw [State.fail_frame]
  rfl

/-- Of the registers and the host interface, a command's failure takes its page request groups alone. -/
theorem State.dmaFail_hif :
    (s.dmaFail c).regs = s.regs ∧ ∃ keep : PageGroup → Bool, (s.dmaFail c).hif = { s.hif with groups := s.hif.groups.filter keep } := by
  unfold State.dmaFail
  extract_lets gs t h u
  have ht : t = { s with timers := t.timers } := s.cancelAll_frame (fun g : PageGroup => .pageRequest g.prg) gs
  have hregs : u.regs = s.regs := by
    show t.regs = _
    rw [ht]
  have hhif : u.hif = { s.hif with groups := s.hif.groups.filter (fun g => !(gs.contains g)) } := by
    show { t.hif with groups := t.hif.groups.filter (fun g => !(gs.contains g)) } = _
    rw [ht]
  clear_value u
  split
  · rw [State.dropStitches_frame]
    exact ⟨hregs, _, hhif⟩
  · rw [State.failWrite_frame]
    exact ⟨hregs, _, hhif⟩

theorem State.dmaFail_groups_nil (h : s.hif.groups = []) : (s.dmaFail c).hif.groups = [] := by
  obtain ⟨-, keep, hhif⟩ := s.dmaFail_hif c
  rw [hhif, h, List.filter_nil]

theorem State.dmaFail_quar : (s.dmaFail c).hif.quar = s.hif.quar := by
  obtain ⟨-, keep, hhif⟩ := s.dmaFail_hif c
  rw [hhif]

theorem State.flag_dmaFail (f : Fld) : (s.dmaFail c).flag f = s.flag f := by
  rw [State.flag, State.fld_congr f (s.dmaFail_hif c).1, ← State.flag]

end

end Sys2Proof.Machine
end

section
/-! SUPPORT. The rows of address translation (R79 to R82): what each finds in the host interface, and what it answers. -/

namespace Sys2Proof.Machine

section
variable {s : State}

/-! ### Translation completions (R79) -/

theorem exec_translationCompletion_used {p tag : Nat} {r : NpReq} (x : Nat) (ps : List TransPage) (hr : s.reqAt p tag = some r)
    (hk : r.kind = .translation) :
    exec (.translationCompletion p tag x ps) s = .next (((s.answered r).tlpIn p).translated r ps) := by
  show execTranslationCompletion p tag x ps s = _
  unfold execTranslationCompletion
  rw [hr]
  exact guarded_true _ _ _ (decide_eq_true hk)

/-! ### Page requests (R80, R81) -/

/-- With no group waiting there is none to send. -/
theorem State.sendGroups_nil (h : s.hif.groups = []) : s.sendGroups = s := by rw [State.sendGroups, h, List.foldl_nil]

theorem exec_prgResponse_late {g : Nat} (o : PrgOutcome) (hg : ∀ x ∈ s.hif.groups, x.prg ≠ g) :
    ∃ t, exec (.prgResponse g o) s = .next t ∧ t.fld F.hifPriStatLate = Nat.min 65535 (s.fld F.hifPriStatLate + 1) ∧ t.hif = s.hif := by
  have hnone : s.hif.groups.find? (fun x => decide (x.prg = g) && x.sent) = none := by
    refine List.find?_eq_none.2 fun x hx => ?_
    simp [hg x hx]
  refine ⟨s.addSat F.hifPriStatLate 1, ?_, s.fld_addSat _ 1 (by decide), rfl⟩
  show execPrgResponse g o s = _
  unfold execPrgResponse
  rw [hnone]

theorem exec_prgResponse_success {g : PageGroup} (hg : s.hif.groups = [g]) (hsent : g.sent = true) :
    ∃ t, exec (.prgResponse g.prg .success) s = .next t ∧ t.hif.groups = [] := by
  have hfind : s.hif.groups.find? (fun x => decide (x.prg = g.prg) && x.sent) = some g := by simp [hg, hsent]
  have hleft : s.hif.groups.erase g = [] := by simp [hg]
  have hrow : exec (.prgResponse g.prg .success) s =
      .next ((({ s with hif := { s.hif with groups := s.hif.groups.erase g } } : State).cancel (.pageRequest g.prg)).sendGroups) := by
    show execPrgResponse g.prg .success s = _
    unfold execPrgResponse
    rw [hfind]
  exact ⟨_, hrow, by rw [State.sendGroups_nil hleft]; exact hleft⟩

/-- The group that waits alone is abandoned, with PRIFAILSEEN. -/
theorem exec_pageRequestTimeout_alone {g : PageGroup} (ha : s.armed (.pageRequest g.prg) = true) (hg : s.hif.groups = [g]) :
    ∃ t, exec (.pageRequestTimeout g.prg) s = .next t ∧ t.flag F.hifStatPrifailseen = true := by
  show ∃ t, execPageRequestTimeout g.prg s = .next t ∧ _
  rw [execPageRequestTimeout, onTimer_armed ha]
  refine ⟨_, rfl, ?_⟩
  have hge : (s.expire (.pageRequest g.prg)).hif.groups = [g] := by rw [State.expire_frame, ← hg]
  have hfind : (s.expire (.pageRequest g.prg)).hif.groups.find? (fun x => decide (x.prg = g.prg)) = some g := by simp [hge]
  generalize s.expire (.pageRequest g.prg) = t at hge hfind
  rw [hfind]
  dsimp -zeta only
  extract_lets h u v
  have hu : u.hif.groups = [] := by simp [u, hge]
  have hvgroups : v.hif.groups = [] := by
    rw [State.hifCnt_hif, State.event_frame]
    exact hu
  have hvflag : v.flag F.hifStatPrifailseen = true := by
    rw [State.flag_hifCnt _ _ _ (by decide), State.flag_event _ _ _ _ _ _ _ (by decide) (by decide), State.setFlag_eq]
    exact State.flag_setFld_one _ _ (by decide) rfl
  clear_value v
  split
  next x _ =>
    rw [State.sendGroups_nil (v.dmaFail_groups_nil x.cmd hvgroups), State.flag_dmaFail]
    exact hvflag
  next =>
    rw [State.sendGroups_nil hvgroups]
    exact hvflag

/-! ### Invalidations (R82) -/

theorem exec_invalidateRequest_drops {i : Nat} (itag a n : Nat) (hi : i < 1026) :
    ∃ t, exec (.invalidateRequest i itag a n) s = .next t ∧ ⟨i, itag⟩ ∈ t.hif.invals ∧
      (∀ e ∈ t.hif.atc, e.fn = i → overlaps e.page e.pages a n = false) := by
  refine ⟨_, guarded_true _ _ _ (decide_eq_true hi), List.mem_append_right _ (List.mem_singleton.2 rfl), fun e he hfn => ?_⟩
  have hkept := (List.mem_filter.1 he).2
  simpa [hfn] using hkept

theorem exec_invalidateCompletionSend_owed {i itag : Nat} (h : ⟨i, itag⟩ ∈ s.hif.invals) :
    ∃ t, exec (.invalidateCompletionSend i itag) s = .next t ∧ t.tx = .invalidateCpl i itag :: s.tx ∧
      t.fld F.hifAtcInvcntCount = (s.fld F.hifAtcInvcntCount + 1) % 2 ^ 32 :=
  ⟨_, guarded_true _ _ _ (List.contains_iff_mem.2 h), rfl, State.fld_addWrap _ F.hifAtcInvcntCount 1 (by decide)⟩

end

/-- Settles O4: each row finds its request, its group or its owed completion, and acts on it. -/
theorem translationRowsComplete : Obligations.TranslationRowsComplete := by
  unfold Obligations.TranslationRowsComplete
  exact ⟨fun _ _ _ x ps _ hr hk => exec_translationCompletion_used x ps hr hk, fun _ _ o hg => exec_prgResponse_late o hg,
    fun _ _ hg hsent => exec_prgResponse_success hg hsent, fun _ _ ha hg => exec_pageRequestTimeout_alone ha hg,
    fun _ _ itag a n hi => exec_invalidateRequest_drops itag a n hi, fun _ _ _ h => exec_invalidateCompletionSend_owed h⟩

end Sys2Proof.Machine
end

section
/-! SUPPORT. The rows of host traffic (R76, R77, R86 to R91): what a TLP received leaves, when a request is answered, and what a completion or its
timeout brings about. -/

namespace Sys2Proof.Machine

/-! ### Ports and errors -/

section
variable (s : State) (p : Nat)

@[simp] theorem State.port_setPort (x : Port) : (s.setPort p x).port p = x := by
  by_cases h : p = 0 <;> simp [State.port, State.setPort, h]

/-- A TLP received leaves the port's retry status (R85). -/
theorem State.tlpIn_retry : ((s.tlpIn p).port p).retry = (s.port p).retry := by
  unfold State.tlpIn State.linkUse
  split
  · exact (congrArg Port.retry ((s.hifCnt p 0).port_setPort p { (s.hifCnt p 0).port p with lpm := 0 })).trans rfl
  · rfl

/-- An error reported through AER writes no register. -/
theorem State.flag_aer (e : LinkError) (f : Fld) : (s.aer p e).flag f = s.flag f := by
  unfold State.aer
  split <;> rfl

theorem portOf_pf {i : Nat} (h : i < 2) : portOf i = i := if_pos h

end

/-! ### Configuration requests (R76, R87) -/

section
variable {s : State} {i tag : Nat} {k : State → State}

/-- A configuration request to a PF whose function answers is carried out. -/
theorem onConfig_carriedOut (hi : i < 2) (hup : (s.port i).up = true) (hretry : (s.port i).retry = false)
    (hmay : (s.tlpIn i).mustRetry i = false) : onConfig s i tag k = .next (k (s.tlpIn i)) := by
  unfold onConfig
  simp [portOf_pf hi, isPf, hi, hup, hmay, s.tlpIn_retry, hretry, show ¬ 1026 ≤ i by omega]

/-- A configuration request to a PF in reset, or before its start, gets retry status. -/
theorem onConfig_retried (hi : i < 2) (hup : (s.port i).up = true) (hmust : (s.tlpIn i).mustRetry i = true) :
    onConfig s i tag k = .next (((s.tlpIn i).send (.retry i tag)).hifCnt i 16) := by
  unfold onConfig
  simp [portOf_pf hi, isPf, hi, hup, hmust, show ¬ 1026 ≤ i by omega]

theorem exec_config_carriedOut (r : Nat) (v : Word) (hi : i < 2) (hup : (s.port i).up = true) (hretry : (s.port i).retry = false)
    (hmay : (s.tlpIn i).mustRetry i = false) :
    exec (.configRead i tag r) s = .next ((s.tlpIn i).send (.readCpl i tag [(s.tlpIn i).configValue i r])) ∧
    exec (.configWrite i tag r v) s = .next (((s.tlpIn i).configWrite i r v.toNat).send (.readCpl i tag [])) := by
  show execConfigRead i tag r s = _ ∧ execConfigWrite i tag r v s = _
  rw [execConfigRead, execConfigWrite, onConfig_carriedOut hi hup hretry hmay, onConfig_carriedOut hi hup hretry hmay, portOf_pf hi]
  exact ⟨rfl, rfl⟩

theorem exec_config_retried (r : Nat) (v : Word) (hi : i < 2) (hup : (s.port i).up = true) (hmust : (s.tlpIn i).mustRetry i = true) :
    exec (.configRead i tag r) s = .next (((s.tlpIn i).send (.retry i tag)).hifCnt i 16) ∧
    exec (.configWrite i tag r v) s = .next (((s.tlpIn i).send (.retry i tag)).hifCnt i 16) := by
  show execConfigRead i tag r s = _ ∧ execConfigWrite i tag r v s = _
  rw [execConfigRead, execConfigWrite, onConfig_retried hi hup hmust, onConfig_retried hi hup hmust]
  exact ⟨rfl, rfl⟩

end

/-! ### Memory requests (R76, R91) -/

section
variable {s : State} {p tag : Nat} {d : DwReq} {ds : List DwReq}

theorem exec_memoryWrite (hp : p < 2) (hup : (s.port p).up = true) (hhit : (s.tlpIn p).memTarget p d.addr ≠ .nothing) :
    exec (.memoryRequestReceived p tag true (d :: ds) false) s =
      .next ((d :: ds).foldl (fun (t : State) x => t.memStore (t.memTarget p x.addr) x false) (s.tlpIn p)) := by
  show execMemoryRequestReceived p tag true (d :: ds) false s = _
  simp [execMemoryRequestReceived, hup, hhit, show ¬ 1 < p by omega]

theorem exec_memoryRead (hp : p < 2) (hup : (s.port p).up = true) (hhit : (s.tlpIn p).memTarget p d.addr ≠ .nothing) :
    ∃ t, exec (.memoryRequestReceived p tag false (d :: ds) false) s = .next t ∧
      (t.tx = .readCpl p tag ((s.tlpIn p).memLoads p (d :: ds)).1.1 :: ((s.tlpIn p).memLoads p (d :: ds)).2.tx ∨
        t.tx = .poisonedCpl p tag ((s.tlpIn p).memLoads p (d :: ds)).1.1 :: ((s.tlpIn p).memLoads p (d :: ds)).2.tx) := by
  have hrow : exec (.memoryRequestReceived p tag false (d :: ds) false) s =
      .next (((s.tlpIn p).memLoads p (d :: ds)).2.send (if ((s.tlpIn p).memLoads p (d :: ds)).1.2 = true
        then .poisonedCpl p tag ((s.tlpIn p).memLoads p (d :: ds)).1.1 else .readCpl p tag ((s.tlpIn p).memLoads p (d :: ds)).1.1)) := by
    show execMemoryRequestReceived p tag false (d :: ds) false s = _
    simp [execMemoryRequestReceived, hup, hhit, show ¬ 1 < p by omega]
  refine ⟨_, hrow, ?_⟩
  split
  · exact .inr rfl
  · exact .inl rfl

theorem exec_memoryRead_unsupported (hp : p < 2) (hup : (s.port p).up = true) (hmiss : (s.tlpIn p).memTarget p d.addr = .nothing) :
    exec (.memoryRequestReceived p tag false (d :: ds) false) s =
      .next ((((s.tlpIn p).send (.unsupported p tag)).hifCnt p 2).aer p .unsupported) := by
  show execMemoryRequestReceived p tag false (d :: ds) false s = _
  simp [execMemoryRequestReceived, hup, hmiss, show ¬ 1 < p by omega]

end

/-! ### Completions (R86, R89, R90) -/

theorem hifUxlogDw_dw (p i : Nat) : (F.hifUxlogDw p i).dw = 0x250 + 56 * p + 4 * i := by
  simp only [Fld.dw, F.hifUxlogDw, Reg.hifUxlog]
  omega

theorem hifUxlogDw_fits (p i : Nat) : (F.hifUxlogDw p i).sh + (F.hifUxlogDw p i).wid ≤ 32 := by
  simp only [Fld.sh, F.hifUxlogDw, Reg.hifUxlog]
  omega

/-- An Unexpected Completion sets LATECPLSEEN; its log lies in registers of its own. -/
theorem State.unexpected_seen (s : State) (p tag : Nat) (h : List Nat) (q : Nat) : (s.unexpected p tag h q).flag F.hifStatLatecplseen = true := by
  unfold State.unexpected
  extract_lets t u
  have ht : t.flag F.hifStatLatecplseen = true := State.flag_setFld_one _ _ (by decide) rfl
  have hu : u.flag F.hifStatLatecplseen = true := by
    refine List.foldlRecOn _ _ (motive := fun v : State => v.flag F.hifStatLatecplseen = true) ht fun v hv i _ => ?_
    have hapart : F.hifStatLatecplseen.dw ≠ (F.hifUxlogDw p i).dw := by
      rw [hifUxlogDw_dw, show F.hifStatLatecplseen.dw = 0x204 from rfl]
      omega
    rw [State.flag_setFld_ne _ _ _ _ (hifUxlogDw_fits p i) (.inl hapart), hv]
  rw [State.flag, State.fld_eventFrom _ _ _ _ _ _ _ _ (by decide) (by decide), ← State.flag, State.flag_aer, hu]

section
variable {s : State} {p tag : Nat}

theorem exec_completionReceived_answers {r : NpReq} (h : List Nat) (q : Nat) (hp : p < 2)
    (hlive : (s.tlpIn p).hif.reqs.any (fun x => decide (x.port = p) && decide (x.tag = tag) && x.orphan) = false)
    (hr : (s.tlpIn p).reqAt p tag = some r) (hk : r.kind = .dataRead ∨ r.kind = .listFetch) :
    exec (.completionReceived p tag true false h q) s = .next ((s.tlpIn p).answered r) := by
  show execCompletionReceived p tag true false h q s = _
  unfold execCompletionReceived
  simp only [if_neg (show ¬ 1 < p by omega), hlive, hr, Bool.false_eq_true, if_false, Bool.not_true]
  rcases hk with hk | hk <;> simp only [hk]

theorem exec_completionReceived_unexpected (fits poisoned : Bool) (h : List Nat) (q : Nat) (hp : p < 2)
    (hlive : (s.tlpIn p).hif.reqs.any (fun x => decide (x.port = p) && decide (x.tag = tag) && x.orphan) = false)
    (hr : (s.tlpIn p).reqAt p tag = none) :
    ∃ t, exec (.completionReceived p tag fits poisoned h q) s = .next t ∧ t = (s.tlpIn p).unexpected p tag h q ∧
      t.flag F.hifStatLatecplseen = true := by
  refine ⟨_, ?_, rfl, State.unexpected_seen _ p tag h q⟩
  show execCompletionReceived p tag fits poisoned h q s = _
  unfold execCompletionReceived
  simp only [if_neg (show ¬ 1 < p by omega), hlive, hr, Bool.false_eq_true, if_false]

/-! ### Timeouts and quarantines (R89, R90) -/

theorem State.reqAt_expire (id : TimerId) : (s.expire id).reqAt p tag = s.reqAt p tag := by
  rw [State.reqAt, State.expire_frame]
  rfl

/-- A completion timeout has been seen, and its tag is in quarantine. -/
def State.TimedOut (t : State) (p tag : Nat) : Prop := t.flag F.hifStatCtoseen = true ∧ (p, tag) ∈ t.hif.quar

theorem State.TimedOut.dmaFail (h : s.TimedOut p tag) (c : Nat) : (s.dmaFail c).TimedOut p tag :=
  ⟨(s.flag_dmaFail c _).trans h.1, s.dmaFail_quar c ▸ h.2⟩

theorem State.TimedOut.setCfs (h : s.TimedOut p tag) (l : List Nat) : (s.setCfs l).TimedOut p tag := by
  rw [State.setCfs_frame]
  exact h

theorem exec_completionTimeout_acts (ha : s.armed (.completionTimeout p tag) = true) :
    ∃ t, exec (.completionTimeout p tag) s = .next t ∧
      ((s.reqAt p tag).isSome = true → t.flag F.hifStatCtoseen = true ∧ (p, tag) ∈ t.hif.quar) := by
  show ∃ t, execCompletionTimeout p tag s = .next t ∧ _
  rw [execCompletionTimeout, onTimer_armed ha]
  refine ⟨_, rfl, fun hsome => ?_⟩
  obtain ⟨r, hr⟩ := Option.isSome_iff_exists.1 hsome
  rw [← State.reqAt_expire (.completionTimeout p tag)] at hr
  generalize s.expire (.completionTimeout p tag) = t at hr
  rw [hr]
  dsimp -zeta only
  extract_lets u v h w n x
  have hu : u.flag F.hifStatCtoseen = true := State.flag_setFld_one _ _ (by decide) rfl
  have hv : v.flag F.hifStatCtoseen = true := by
    rw [State.flag_arm, State.flag_event _ _ _ _ _ _ _ (by decide) (by decide), State.flag_hifCnt _ _ _ (by decide), State.flag_aer, hu]
  have hw : w.TimedOut p tag := ⟨hv, mem_insertNew _ _⟩
  clear_value w
  split
  · exact hw.dmaFail _
  · exact hw.dmaFail _
  · split
    · exact hw.dmaFail _
    · exact hw
  · split
    · exact State.TimedOut.setCfs (s := x) hw _
    · exact hw

theorem exec_tagQuarantineEnd_frees (ha : s.armed (.tagQuarantine p tag) = true) (hf : ∀ f ∈ s.q.fetches, f.tag ≠ tag) (hnd : s.hif.quar.Nodup) :
    ∃ t, exec (.tagQuarantineEnd p tag) s = .next t ∧ (p, tag) ∉ t.hif.quar := by
  have hnone : s.q.fetches.find? (fun f => decide (f.tag = tag) && decide (portOf f.fn = p) && decide (f.got = none)) = none :=
    List.find?_eq_none.2 fun f h => by simp [hf f h]
  show ∃ t, execTagQuarantineEnd p tag s = .next t ∧ _
  rw [execTagQuarantineEnd, onTimer_armed ha, State.expire_frame]
  refine ⟨_, rfl, ?_⟩
  simp only [hnone]
  exact hnd.not_mem_erase

end

/-- Settles O3: each row finds its link up and its target, its live request or its armed timer, and acts on it. -/
theorem hostTrafficRowsComplete : Obligations.HostTrafficRowsComplete := by
  unfold Obligations.HostTrafficRowsComplete
  exact ⟨fun _ _ _ r v hi hup hretry hmay => exec_config_carriedOut r v hi hup hretry hmay,
    fun _ _ _ r v hi hup hmust => exec_config_retried r v hi hup hmust,
    fun _ _ _ _ _ hp hup hhit => exec_memoryWrite hp hup hhit, fun _ _ _ _ _ hp hup hhit => exec_memoryRead hp hup hhit,
    fun _ _ _ _ _ hp hup hmiss => exec_memoryRead_unsupported hp hup hmiss,
    fun _ _ hi => ⟨guarded_true _ _ _ (decide_eq_true hi), guarded_true _ _ _ (decide_eq_true hi)⟩,
    fun _ _ _ _ h q hp hlive hr hk => exec_completionReceived_answers h q hp hlive hr hk,
    fun _ _ _ fits poisoned h q hp hlive hr => exec_completionReceived_unexpected fits poisoned h q hp hlive hr,
    fun _ _ _ ha => exec_completionTimeout_acts ha, fun _ _ _ ha hf hnd => exec_tagQuarantineEnd_frees ha hf hnd⟩

end Sys2Proof.Machine
end

section
/-! SUPPORT. The rows that bring resets and the link's own rows (R67, R83 to R87, R370): what a reset of the whole device keeps, what a trained link
is, and when a function's reset is absorbed. -/

namespace Sys2Proof.Machine

/-! ### Timers and ports -/

section
variable (s : State)

theorem State.armed_arm (id : TimerId) (n : Nat) : (s.arm id n).armed id = true := by simp [State.armed, State.arm]

theorem State.armed_cancel (id : TimerId) : (s.cancel id).armed id = false := by simp [State.armed, State.cancel]

/-- A port row acts where the port is not in a fundamental reset. -/
theorem onPort_acts {p : Nat} (hp : p < 2) (h : (s.port p).perst = false) (t : State) : onPort s p t = .next t := by
  rw [onPort, if_neg (by omega), if_neg (by simp [h])]

end

theorem isPf_of_lt {i : Nat} (h : i < 2) : isPf i = true := decide_eq_true h

/-! ### PERST (R83, R278) -/

section
variable {s : State} {p : Nat}

theorem exec_perstAssert_port (hp : p < 2) (h : (s.port p).perst = false) (hd : s.dump.running = none) (ho : (s.port (1 - p)).perst = false) :
    exec (.perstAssert p) s = .next ((s.setPort p { s.port p with perst := true }).resetPort p true) := by
  show execPerstAssert p s = _
  simp [execPerstAssert, h, hd, ho, show ¬ 1 < p by omega]

theorem exec_perstAssert_cold (hp : p < 2) (h : (s.port p).perst = false) (hd : s.dump.running = none) (ho : (s.port (1 - p)).perst = true) :
    exec (.perstAssert p) s = .next ((s.setPort p { s.port p with perst := true }).coldReset 1) := by
  show execPerstAssert p s = _
  simp [execPerstAssert, h, hd, ho, show ¬ 1 < p by omega]

/-- The link of a port out of fundamental reset is up at the width and rate it trained to (R67, R84). -/
theorem State.linkUp_port (s : State) (p w r : Nat) (v : Bool) :
    (s.linkUp p w r v).port p = { s.port p with up := true, width := w, rate := r, reversed := v, lpm := 0 } :=
  s.port_setPort p { s.port p with up := true, width := w, rate := r, reversed := v, lpm := 0 }

theorem State.linkUp_pins (s : State) (p w r : Nat) (v : Bool) : (s.linkUp p w r v).pins = s.pins := by
  rw [State.linkUp, State.setPort_frame]
  rfl

theorem exec_perstDeassert_trains {w r : Nat} (v : Bool) (hp : p < 2) (hw : w ∈ [1, 8, 16]) (hr : 0 < r) (hmax : r ≤ s.fld (F.hifPortCtlMaxrate p))
    (hup : (s.port p).up = false) (hd : s.dump.running = none) :
    ∃ t, exec (.perstDeassert p w r v) s = .next t ∧ (t.port p).up = true ∧ (t.port p).perst = false ∧ (t.port p).width = w ∧
      (t.port p).rate = r ∧ (t.port p).reversed = v ∧ (t.port p).retry = true ∧ t.pins.pfail = false := by
  have hok : ¬ (1 < p ∨ ¬ [1, 8, 16].contains w ∨ r = 0 ∨ s.fld (F.hifPortCtlMaxrate p) < r) := by
    rw [List.contains_iff_mem]
    rintro (h | h | h | h)
    · omega
    · exact h hw
    · omega
    · omega
  have hidle : ¬ ((s.port p).up || s.dump.running.isSome) = true := by simp [hup, hd]
  show ∃ t, execPerstDeassert p w r v s = .next t ∧ _
  rw [execPerstDeassert, if_neg hok, if_neg hidle]
  refine ⟨_, rfl, ?_⟩
  rw [State.linkUp_port, State.linkUp_pins, State.port_setPort, State.setPort_frame]
  exact ⟨rfl, rfl, rfl, rfl, rfl, rfl, rfl⟩

/-! ### The cold reset (R83, R462) -/

/-- The end of a session reaches neither the counts nor the flash side's courses (R450). -/
theorem State.endSession_leaves (s : State) (pf reason : Nat) :
    (s.endSession pf reason).clk = s.clk ∧ (s.endSession pf reason).crs = s.crs := by
  have hset : (s.setSession pf none).clk = s.clk ∧ (s.setSession pf none).crs = s.crs := by
    unfold State.setSession
    split <;> exact ⟨rfl, rfl⟩
  unfold State.endSession
  split
  · exact ⟨rfl, rfl⟩
  · extract_lets t
    have ht : t.clk = s.clk ∧ t.crs = s.crs := by
      simp only [t, State.event_clk, State.event_crs, State.cancel_clk, State.cancel_crs]
      exact hset
    clear_value t
    split <;> exact ht

/-- A cold reset wipes the buffers, the map and the CMB; the counts, the store and the flash stay. -/
theorem State.coldReset_keeps (s : State) (cause : Nat) :
    (s.coldReset cause).buf = State.reset.buf ∧ (s.coldReset cause).map = State.reset.map ∧ (s.coldReset cause).rd = State.reset.rd ∧
      (s.coldReset cause).clk = s.clk ∧ (s.coldReset cause).records = s.records ∧ (s.coldReset cause).crs.media = s.crs.media ∧
      (s.coldReset cause).hif.cmb = [] := by
  obtain ⟨hclk0, hcrs0⟩ := s.endSession_leaves 0 3
  obtain ⟨hclk1, hcrs1⟩ := (s.endSession 0 3).endSession_leaves 1 3
  have hmedia : ((s.endSession 0 3).endSession 1 3).crs.media = s.crs.media := by rw [hcrs1, hcrs0]
  exact ⟨rfl, rfl, rfl, hclk1.trans hclk0, congrArg (·.1.1) (s.coldReset_held cause), hmedia, rfl⟩

/-! ### The link (R67, R83, R91, R370) -/

theorem exec_linkTrainingFail_down (hp : p < 2) (h : (s.port p).perst = false) :
    ∃ t, exec (.linkTrainingFail p) s = .next t ∧ (t.port p).up = false := by
  refine ⟨_, onPort_acts s hp h _, ?_⟩
  rw [State.port, State.eventFrom_frame]
  exact congrArg Port.up (s.port_setPort p { s.port p with up := false, width := 0 })

theorem exec_linkLayerError_acts {l : Nat} (e : LinkError) (hp : p < 2) (h : (s.port p).perst = false) (hl : l ≤ 15) :
    exec (.linkLayerError p e l) s = .next (s.linkError p e l) :=
  (if_neg (by omega)).trans (onPort_acts s hp h _)

theorem exec_l1IdleTimer_requests (ha : s.armed (.l1Idle p) = true) :
    ∃ t, exec (.l1IdleTimer p) s = .next t ∧ (t.port p).lpm = 1 ∧ t.tx = .link p 1 :: s.tx := by
  show ∃ t, execL1IdleTimer p s = .next t ∧ _
  rw [execL1IdleTimer, onTimer_armed ha]
  refine ⟨_, rfl, ?_, ?_⟩
  · exact congrArg Port.lpm ((s.expire (.l1Idle p)).port_setPort p { (s.expire (.l1Idle p)).port p with lpm := 1 })
  · rw [State.setPort_frame, State.expire_frame]
    rfl

/-! ### Functions (R77, R86, R87) -/

theorem exec_vfEnableClear_tearsDown (hp : p < 2) (h : (s.func p).vfEn = true) :
    exec (.vfEnableClear p) s = .next (((s.tearDown p).updFunc p (fun f => { f with vfEn := false })).arm (.flr p) 100000000) := by
  show execVfEnableClear p s = _
  rw [execVfEnableClear, guarded_true _ _ _ (isPf_of_lt hp), if_neg (by simp [h])]
  rfl

theorem exec_vfEnableSet_alone (hp : p < 2) :
    ∃ t, exec (.vfEnableSet p) s = .next t ∧ (t.func p).vfEn = true ∧ (∀ i, i ≠ p → t.func i = s.func i) :=
  ⟨_, guarded_true _ _ _ (isPf_of_lt hp), by rw [State.updFunc, State.func_setFunc], fun _ hi => State.func_setFunc_ne _ _ _ _ hi⟩

theorem exec_pfFlr_begins (hp : p < 2) (h : (s.func p).reset ≠ .flr) : ∃ t, exec (.pfFlr p) s = .next t ∧ t.armed (.flr p) = true := by
  show ∃ t, execPfFlr p s = .next t ∧ _
  rw [execPfFlr, guarded_true _ _ _ (isPf_of_lt hp), if_neg h]
  exact ⟨_, rfl, State.armed_arm _ _ _⟩

theorem exec_pfFlr_absorbed (hp : p < 2) (h : (s.func p).reset = .flr) : exec (.pfFlr p) s = .next s := by
  show execPfFlr p s = _
  rw [execPfFlr, guarded_true _ _ _ (isPf_of_lt hp), if_pos h]

theorem exec_vfFlr_begins {v : Nat} (hlo : 2 ≤ v) (hhi : v < 1026) (hthere : s.vfThere v = true) (hv : s.inReset v = false)
    (hpf : s.inReset (portOf v) = false) : ∃ t, exec (.vfFlr v) s = .next t ∧ t.armed (.flr v) = true := by
  show ∃ t, execVfFlr v s = .next t ∧ _
  rw [execVfFlr, if_neg (by omega), guarded_true _ _ _ (by simp [hthere]), if_neg (by simp [hv, hpf])]
  exact ⟨_, rfl, State.armed_arm _ _ _⟩

/-- A VF that a reset is tearing down is still there, and its reset is absorbed. -/
theorem exec_vfFlr_absorbed {v : Nat} (hlo : 2 ≤ v) (hhi : v < 1026) (hv : s.inReset v = true) : exec (.vfFlr v) s = .next s := by
  show execVfFlr v s = _
  rw [execVfFlr, if_neg (by omega), guarded_true _ _ _ (by simp [State.vfThere, hv]), if_pos (by simp [hv])]

/-- Setting functions arms and cancels nothing. -/
theorem State.foldl_updFunc_timers (g : Func → Func) (l : List Nat) (s : State) : (l.foldl (fun t i => t.updFunc i g) s).timers = s.timers :=
  List.foldlRecOn l _ (motive := fun t : State => t.timers = s.timers) rfl fun _ ht _ _ => ht

theorem exec_flrComplete_ends {i : Nat} (h : s.inReset i = true) : ∃ t, exec (.flrComplete i) s = .next t ∧ t.armed (.flr i) = false := by
  refine ⟨_, guarded_true _ _ _ (by rw [h, Bool.true_or]), ?_⟩
  rw [State.armed, State.foldl_updFunc_timers]
  exact s.armed_cancel (.flr i)

end

/-- Settles O2: each row finds its port or its function as stated, and brings its reset or is absorbed. -/
theorem linkResetRowsComplete : Obligations.LinkResetRowsComplete := by
  unfold Obligations.LinkResetRowsComplete
  exact ⟨fun _ _ hp h hd ho => exec_perstAssert_port hp h hd ho, fun _ _ hp h hd ho => exec_perstAssert_cold hp h hd ho,
    fun s => ⟨_, rfl, s.coldReset_keeps _⟩, fun _ _ _ _ v hp hw hr hmax hup hd => exec_perstDeassert_trains v hp hw hr hmax hup hd,
    fun s _ hp h => ⟨onPort_acts s hp h _, onPort_acts s hp h _, exec_linkTrainingFail_down hp h,
      fun e _ hl => exec_linkLayerError_acts e hp h hl⟩,
    fun _ _ ha => exec_l1IdleTimer_requests ha, fun _ _ hp h => exec_vfEnableClear_tearsDown hp h, fun _ _ hp => exec_vfEnableSet_alone hp,
    fun _ _ hp h => exec_pfFlr_begins hp h, fun _ _ hp h => exec_pfFlr_absorbed hp h,
    fun _ _ hlo hhi hthere hv hpf => exec_vfFlr_begins hlo hhi hthere hv hpf, fun _ _ hlo hhi hv => exec_vfFlr_absorbed hlo hhi hv,
    fun _ _ h => exec_flrComplete_ends h⟩

end Sys2Proof.Machine
end

section
/-! SUPPORT. The rows that write a log, histogram or scratch clear (R127, R181, R209, R236, R255, R286, R360, R380, R465, R522): what clearing a log
leaves, and what a bit's write brings about with its role and without it (R451). -/

namespace Sys2Proof.Machine

/-! ### Cleared logs -/

/-- `t` is `s` with the registers at `offs` cleared and the others as they were; commands, namespaces and the flash side stay. -/
structure State.Cleared (s : State) (offs : List Nat) (t : State) : Prop where
  word : ∀ o, t.word o = (s.clearWords offs).word o
  q : t.q = s.q
  nss : t.nss = s.nss
  fl : t.fl = s.fl

section
variable {s t u : State} {offs : List Nat}

theorem State.clearWords_cleared (s : State) (offs : List Nat) : s.Cleared offs (s.clearWords offs) := by
  refine ⟨fun _ => rfl, ?_, ?_, ?_⟩ <;> rw [State.clearWords_frame]

/-- Registers cleared, then a change of parts that are neither registers, commands, namespaces nor the flash side. -/
theorem State.Cleared.same (h : s.Cleared offs t) (hregs : u.regs = t.regs) (hq : u.q = t.q) (hnss : u.nss = t.nss) (hfl : u.fl = t.fl) :
    s.Cleared offs u :=
  ⟨fun o => (State.word_congr o hregs).trans (h.word o), hq.trans h.q, hnss.trans h.nss, hfl.trans h.fl⟩

theorem State.clearLog_cleared (s : State) (offs : List Nat) : s.Cleared offs (s.clearLog offs) :=
  (s.clearWords_cleared offs).same rfl rfl rfl rfl

end

/-- A bit clears registers where its write, once it lands, is the noting of a state whose registers are cleared (R452). -/
theorem BitClears.of_cleared {row : Nat → Instr} {f : Fld} {need : Role} {offs : List Nat}
    (hrow : ∀ s pf, exec (row pf) s = onBit s pf f)
    (hwrites : ∀ (s : State) pf, s.BitLands pf need →
      ∃ x y : State, s.Found pf x ∧ x.Cleared offs y ∧ s.writeBit pf f = y.noteGated f.off f.bit.toNat pf)
    (hapart : ∀ o ∈ offs, o ∉ gatedRegs) : BitClears row need offs := by
  intro s pf h
  obtain ⟨x, y, hx, hy, hw⟩ := hwrites s pf h
  have hword : ∀ o, o ∉ gatedRegs → (s.writeBit pf f).word o = (x.clearWords offs).word o := fun o ho => by
    rw [hw, State.noteGated_word _ _ _ _ ho, hy.word]
  refine ⟨_, (hrow s pf).trans (h.onBar (s.writeBit pf f)), fun o ho => ?_, fun o ho h1 h2 h3 => ?_, ?_, ?_, ?_, s.writeBit_keys pf f⟩
  · rw [hword o (hapart o ho), x.word_clearWords ho]
  · rw [hword o (by simp [gatedRegs, h1, h2, h3]), x.word_clearWords_ne ho, hx.word]
  · rw [hw, State.noteGated_q, hy.q, hx.q]
  · rw [hw, State.noteGated_nss, hy.nss, hx.nss]
  · rw [hw, State.noteGated_fl, hy.fl, hx.fl]

/-- An action bit whose action clears a log. -/
theorem BitClears.of_clearedAction {row : Nat → Instr} {f : Fld} {need : Role} {offs : List Nat} (hb : ActionBit f need)
    (hrow : ∀ s pf, exec (row pf) s = onBit s pf f) (hact : ∀ s pf, State.Cleared s offs (State.regAction s pf f))
    (hapart : ∀ o ∈ offs, o ∉ gatedRegs) : BitClears row need offs :=
  .of_cleared hrow (fun _ pf h => by
    obtain ⟨x, hx, hw⟩ := h.writes hb
    exact ⟨x, _, hx, hact x pf, hw⟩) hapart

/-! ### The bits of CRS_CTL and GEN_CTL -/

theorem EffectBit.of_actionRow {f : Fld} {need : Role} (hrow : actionRow f need = true) (role : need ≠ .none) (bit : f.bit ≠ 0)
    (clears : clearBits (rowsOf f.off) f.bit = 0) (high : f.off < 0x10000) (simple : f.off ∉ [Reg.mapCapCtl, Reg.crsLayout, Reg.secKdata]) :
    EffectBit f need := by
  refine ⟨?_, role, bit, clears, high, simple⟩
  unfold actionRow at hrow
  split at hrow
  next r hr =>
    simp only [Bool.and_eq_true, Bool.or_eq_true, decide_eq_true_eq] at hrow
    obtain ⟨⟨⟨hf, hacc⟩, hneed⟩, hcls⟩ := hrow
    exact ⟨r, hr, hf, hacc, hneed, hcls⟩
  next => cases hrow

/-- A register stored as it was found is found again. -/
theorem State.setWord_word_found (s : State) (pf off : Nat) : s.Found pf (s.setWord off (s.word off)) := by
  refine ⟨rfl, fun o => ?_, fun _ => rfl, rfl, rfl, rfl⟩
  by_cases ho : o = off
  · rw [ho, State.word_setWord]
  · exact State.word_setWord_ne _ _ _ _ ho

theorem State.BitLands.writes_effect {s : State} {pf : Nat} {f : Fld} {need : Role} (h : s.BitLands pf need) (hb : EffectBit f need)
    (hfound : ∀ u : State, u.Found pf (u.restored pf f.off)) :
    ∃ x, s.Found pf x ∧ s.writeBit pf f = ((x.regAction pf f).regEffect f.off).noteGated f.off f.bit.toNat pf := by
  obtain ⟨-, -, hdead, hps, hrole⟩ := h
  have hx := s.touch_found pf
  refine ⟨_, hx.trans (hfound _), ?_⟩
  unfold State.writeBit
  simp only
  rw [if_neg (by rintro ⟨h4, -⟩; exact hps ((hx.fld _).symm.trans h4))]
  exact congrArg Prod.snd ((s.touch pf).regWrite_effectBit pf hb ((hx.flag _).trans hdead) ((hx.mayAs _ _).trans hrole))

theorem exec_crsPflogclr_lands {s : State} {pf : Nat} (h : s.BitLands pf .operator) :
    ∃ t, exec (.crsPflogclr pf) s = .next t ∧ (∀ n, n < 8 → t.word (Reg.crsPflog n) = 0) ∧ t.q = s.q ∧ t.fl = s.fl := by
  have hb : EffectBit F.crsCtlPflogclr .operator :=
    .of_actionRow (by decide) (by decide) (by decide) (by decide) (by decide) (by decide)
  obtain ⟨x, hx, hw⟩ := h.writes_effect hb (fun u => by
    rw [show F.crsCtlPflogclr.off = Reg.crsCtl from rfl, State.restored_crsCtl]; exact u.setWord_word_found pf _)
  rw [show F.crsCtlPflogclr.off = Reg.crsCtl from rfl, State.regEffect_crsCtl,
    show x.regAction pf F.crsCtlPflogclr = x.clearWords ((List.range 8).map Reg.crsPflog) from rfl] at hw
  refine ⟨_, h.onBar (s.writeBit pf F.crsCtlPflogclr), fun n hn => ?_, ?_, ?_⟩
  · have hapart : ∀ n < 8, Reg.crsPflog n ∉ gatedRegs ∧ Reg.crsPflog n ∉ [Reg.crsStat] := by decide
    obtain ⟨hgated, hstat⟩ := hapart n hn
    rw [hw, State.noteGated_word _ _ _ _ hgated, (State.noteStaging_writes _).2 _ hstat,
      State.word_clearWords _ (List.mem_map_of_mem (List.mem_range.2 hn))]
  · rw [hw, State.noteGated_q, State.noteStaging_frame, State.clearWords_frame, hx.q]
  · rw [hw, State.noteGated_fl, State.noteStaging_frame, State.clearWords_frame, hx.fl]

theorem genScrclr_clears : BitClears .genScrclr .operator ((List.range 4).map Reg.genScratch) := by
  have hb : EffectBit F.genCtlScrclr .operator :=
    .of_actionRow (by decide) (by decide) (by decide) (by decide) (by decide) (by decide)
  refine .of_cleared (f := F.genCtlScrclr) (fun _ _ => rfl) (fun s pf h => ?_) (by decide)
  obtain ⟨x, hx, hw⟩ := h.writes_effect hb (fun u => by
    rw [u.restored_plain pf (by decide) (by decide)]; exact u.setWord_word_found pf _)
  rw [State.regEffect_plain _ (by decide)] at hw
  exact ⟨x, _, hx, x.clearWords_cleared _, hw⟩

/-! ### The refusal (R451) -/

/-- A bit's write without its role is refused whole, and noted. -/
theorem State.regWrite_bit_refused (s : State) (pf : Nat) {f : Fld} {need : Role} (h : ActionBit f need)
    (hdead : s.flag F.genStateDead = false) (hrole : s.mayAs pf need = false) :
    s.regWrite 0 pf f.off f.bit f.bit = (false, s.deny 0 need pf (f.off / 4)) := by
  obtain ⟨r, hr, -, hacc, hneed, -⟩ := h.row
  have hdec : s.decodesReg f.off = true := by simp [State.decodesReg, h.high, hdead]
  have hmay : s.mayWrite pf r = false := by simp [State.mayWrite, hneed, hrole, hdead]
  have hmissing : s.missing pf [r] = some need := by simp [State.missing, hmay, hneed]
  unfold State.regWrite
  rw [if_neg (by rintro (hd | hz | ⟨hd, -⟩); exacts [by simp [hdec] at hd, h.bit hz, by simp [hdead] at hd])]
  simp only [BitVec.and_self, State.changes_bit s _ _ hr hacc, hmissing]

/-- The registers that a refusal over BAR2 may change. -/
def denyRegs : List Nat := [Reg.secStat, Reg.secDenylog, Reg.secCnt 11, Reg.evwDrop, Reg.evwStat]

section
variable (s : State) (need : Role) (fn target : Nat)

theorem State.deny_writes : s.WritesOnly denyRegs (s.deny 0 need fn target) := by
  unfold State.deny
  have hset : ∀ (u : State) f v, f.dw ∈ denyRegs → u.WritesOnly denyRegs (u.setFld f v) := fun _ f v hf => .setFld f v hf
  exact (((((((hset _ _ _ (by decide)).trans (hset _ _ _ (by decide))).trans (hset _ _ _ (by decide))).trans (hset _ _ _ (by decide))).trans
    (hset _ _ _ (by decide))).trans (hset _ _ _ (by decide))).trans (.event _ _ _ _ _ (by decide) (by decide))).trans (hset _ _ _ (by decide))

/-- SEC_STAT and SEC_DENYLOG tell of the refusal: by BAR2, and which role was needed (R451, R465). -/
theorem State.deny_reports :
    (s.deny 0 need fn target).flag F.secStatDenyseen = true ∧ (s.deny 0 need fn target).flag F.secDenylogValid = true ∧
      (s.deny 0 need fn target).fld F.secDenylogSrc = 0 ∧ (s.deny 0 need fn target).fld F.secDenylogNeed = need.num := by
  have hneed : need.num % 2 ^ F.secDenylogNeed.wid = need.num := by cases need <;> rfl
  unfold State.deny
  extract_lets t u v w
  have hw : ∀ f : Fld, f.dw ∈ [Reg.secStat, Reg.secDenylog] → (w.secCnt 11).fld f = v.fld f := fun f hf => by
    have hapart : ∀ o ∈ [Reg.secStat, Reg.secDenylog], o ≠ (F.secCntCount 11).dw ∧ o ≠ F.evwDropCount.dw ∧ o ≠ F.evwStatDropseen.dw := by decide
    obtain ⟨hcnt, hdrop, hstat⟩ := hapart _ hf
    rw [State.secCnt, State.addWrap_eq, State.fld_setFld_ne _ _ _ _ (by decide) (.inl hcnt), State.fld_event _ _ _ _ _ _ _ hdrop hstat]
  simp only [State.flag, hw F.secStatDenyseen (by decide), hw F.secDenylogValid (by decide), hw F.secDenylogSrc (by decide),
    hw F.secDenylogNeed (by decide), v, u, t, State.setFlag_eq]
  simp (disch := decide) only [State.fld_setFld_ne, State.fld_setFld, hneed]
  decide

end

theorem exec_qenHistclr_refused {s : State} {pf : Nat} (hpf : pf < 2) (hport : (s.port pf).perst = false) (hdead : s.flag F.genStateDead = false)
    (hps : s.ps ≠ 4) (hrole : s.mayAs pf .operator = false) :
    ∃ t, exec (.qenHistclr pf) s = .next t ∧ (∀ n, n < 32 → t.word (Reg.qenHist n) = s.word (Reg.qenHist n)) ∧ t.flag F.secStatDenyseen = true ∧
      t.flag F.secDenylogValid = true ∧ t.fld F.secDenylogSrc = 0 ∧ t.fld F.secDenylogNeed = 1 := by
  have hx := s.touch_found pf
  have hrow : exec (.qenHistclr pf) s = .next (s.writeBit pf F.qenCtlHistclr) := by
    show onBar s pf _ = _
    rw [onBar, if_neg (by omega), if_neg (by simp [hport])]
  have hw : s.writeBit pf F.qenCtlHistclr = (s.touch pf).deny 0 .operator pf (F.qenCtlHistclr.off / 4) := by
    unfold State.writeBit
    simp only
    rw [if_neg (by rintro ⟨h4, -⟩; exact hps ((hx.fld _).symm.trans h4))]
    exact congrArg Prod.snd ((s.touch pf).regWrite_bit_refused pf (.of_actionBit (by decide)) ((hx.flag _).trans hdead)
      ((hx.mayAs _ _).trans hrole))
  have hapart : ∀ n < 32, Reg.qenHist n ∉ denyRegs := by decide
  rw [hrow, hw]
  exact ⟨_, rfl, fun n hn => ((s.touch pf).deny_writes .operator pf _ |>.2 _ (hapart n hn)).trans (hx.word _),
    (s.touch pf).deny_reports .operator pf _⟩

/-! ### The rows -/

@[simp] theorem State.noteGated_pwr (s : State) (a b c : Nat) : (s.noteGated a b c).pwr = s.pwr := by rw [State.noteGated_frame]

theorem exec_pwrHistclr_times {s : State} {pf : Nat} (h : s.BitLands pf .operator) :
    ∃ t, exec (.pwrHistclr pf) s = .next t ∧ t.pwr.times = List.replicate 5 0 := by
  obtain ⟨x, -, hw⟩ := h.writes (f := F.pwrCtlHistclr) (.of_actionBit (by decide))
  exact ⟨_, h.onBar (s.writeBit pf F.pwrCtlHistclr), by rw [hw, State.noteGated_pwr]; rfl⟩

/-- A clear of which the store is asked to keep a record (R286). -/
theorem State.clearRecorded_cleared (s : State) (offs : List Nat) (r : Nat) (w : CfsWork) (n : Nat) :
    s.Cleared offs ((s.clearWords offs).cfsRequest r w n) := by
  rw [State.cfsRequest_frame]
  exact (s.clearWords_cleared offs).same rfl rfl rfl rfl

theorem State.ttClr_cleared (s : State) : s.Cleared ((List.range 8).map Reg.rclTenstime) s.ttClr := by
  unfold State.ttClr
  extract_lets t
  have ht : s.Cleared _ t := s.clearWords_cleared _
  clear_value t
  exact ht.same rfl rfl rfl rfl

theorem State.pwrHistClr_cleared (s : State) : s.Cleared ((List.range 8).map Reg.pwrEnthist) s.pwrHistClr := by
  unfold State.pwrHistClr
  extract_lets t
  have ht : s.Cleared _ t := s.clearLog_cleared _
  clear_value t
  exact ht.same rfl rfl rfl rfl

/-- Settles O34: each bit clears its log's registers and the write is noted; without its role the write is refused. -/
theorem logClearsComplete : Obligations.LogClearsComplete := by
  unfold Obligations.LogClearsComplete
  refine ⟨?qen, ?map, ?ecc, ?rcl, ?lif, ?sup, ?pwr, ?sec, genScrclr_clears, fun _ _ h => exec_crsPflogclr_lands h,
    fun _ _ h => exec_pwrHistclr_times h, fun _ _ hpf hport hdead hps hrole => exec_qenHistclr_refused hpf hport hdead hps hrole⟩
  case qen => exact .of_clearWords (f := F.qenCtlHistclr) (.of_actionBit (by decide)) (fun _ _ _ => rfl) (fun _ _ => rfl) (by decide)
  case map => exact .of_clearWords (f := F.mapCtlHistclr) (.of_actionBit (by decide)) (fun _ _ _ => rfl) (fun _ _ => rfl) (by decide)
  case ecc =>
    exact .of_clearedAction (f := F.eccCtlSlowlogclr) (.of_actionBit (by decide)) (fun _ _ => rfl) (fun s _ => s.clearLog_cleared _) (by decide)
  case rcl =>
    exact .of_clearedAction (f := F.rclCtlTtclr) (.of_actionBit (by decide)) (fun _ _ => rfl) (fun s _ => s.ttClr_cleared) (by decide)
  case lif =>
    exact .of_clearedAction (f := F.lifCtlPfhistclr) (.of_actionBit (by decide)) (fun _ _ => rfl)
      (fun s _ => s.clearRecorded_cleared _ 5 (.record 9 0 [] false) 2) (by decide)
  case sup =>
    exact .of_clearedAction (f := F.supCtlLogclr) (.of_actionBit (by decide)) (fun _ _ => rfl) (fun s _ => s.clearLog_cleared _) (by decide)
  case pwr =>
    exact .of_clearedAction (f := F.pwrCtlHistclr) (.of_actionBit (by decide)) (fun _ _ => rfl) (fun s _ => s.pwrHistClr_cleared) (by decide)
  case sec => exact .of_clearWords (f := F.secCtlDenyclr) (.of_actionBit (by decide)) (fun _ _ _ => rfl) (fun _ _ => rfl) (by decide)

end Sys2Proof.Machine
end

section
/-! SUPPORT. The queue, abort and event rows of the admin set (R99, R119, R124, R128, R129, R134, R149): which check decides each of them, and what
its command's queue table or event list then holds. -/

namespace Sys2Proof.Machine

section
variable {s : State} {c qid : Nat} {k : Cmd}

/-- A command that ends by `finish` after its function was changed: its status, and the function as changed (R117). -/
theorem State.AdminRuns.setFunc_ended (h : s.AdminRuns c k) (i : Nat) (f : Func) (st : Status) (d : Nat := 0) :
    ((s.setFunc i f).finish c st d).Ended c st d ∧ ((s.setFunc i f).finish c st d).func i = f :=
  ⟨h.finish_ended (by rfl) st d, by rw [State.func_finish, State.func_setFunc]⟩

/-- A refused command ends with its status and changes no function. -/
theorem State.AdminRuns.refused (h : s.AdminRuns c k) (st : Status) : (s.finish c st).Ended c st ∧ (s.finish c st).fns = s.fns :=
  ⟨h.finish_ended rfl st, State.finish_fns s c st 0⟩

/-- A command that goes on to wait for what its row began. -/
theorem State.AdminRuns.waits (h : s.AdminRuns c k) (i : Nat) (f : Func) (p : CmdPhase) :
    (((s.setFunc i f).updCmd c (fun x => { x with phase := p })).cmd c).map (·.phase) = some p := by
  rw [State.cmd_updCmd, State.cmd_setFunc, h.cmd_eq]
  rfl

/-! ### Absent opcodes (R128, R129) -/

theorem exec_unsupportedCommand_ends (hk : s.cmd c = some k) (hp : k.phase = .active) (hd : k.dropped = false) :
    ∃ t, exec (.unsupportedCommand c) s = .next t ∧ t.Ended c ⟨0, 0x01, true⟩ := by
  refine ⟨s.fail c St.badOpcode, ?_, ?_⟩
  · show execUnsupportedCommand c s = _
    simp only [execUnsupportedCommand, hk, hp, if_true]
  · rw [State.Ended, State.fail_cmd s c k _ hk hd]
    rfl

/-! ### Completion queues (R99, R119) -/

theorem exec_createIoCq_ok {size vec : Nat} {intEn : Bool} (h : s.AdminRuns c k) (h0 : qid ≠ 0) (hgrant : qid ≤ (s.grantOf k.fn).2)
    (hfree : Tab.has qid (s.func k.fn).cqs = false) (hlo : 2 ≤ size) (hhi : size ≤ 16384) (hvec : intEn = true → vec < 64) :
    ∃ t, exec (.createIoCq c qid size vec intEn true false) s = .next t ∧ t.Ended c St.ok ∧
      Tab.find qid (t.func k.fn).cqs = some ⟨size, 0, 0, if intEn then some vec else none, [], [], 0⟩ := by
  have hid : ¬(qid = 0 ∨ (s.grantOf k.fn).2 < qid ∨ Tab.has qid (s.func k.fn).cqs = true) := by simp [h0, hgrant, hfree]
  have hvector : ¬(intEn = true ∧ (if isPf k.fn then 2048 else 64) ≤ vec) := by
    rintro ⟨hen, hge⟩
    have := hvec hen
    split at hge <;> omega
  have hrow : execCreateIoCq c qid size vec intEn true false s = _ := onAdmin_of_runs h _
  simp only [if_neg hid, if_neg (show ¬(size < 2 ∨ 16384 < size) by omega), Bool.not_true, Bool.or_self, Bool.false_eq_true, if_false,
    if_neg hvector] at hrow
  obtain ⟨hended, hfunc⟩ := h.setFunc_ended k.fn
    { s.func k.fn with cqs := Tab.put qid ⟨size, 0, 0, if intEn then some vec else none, [], [], 0⟩ (s.func k.fn).cqs } St.ok
  exact ⟨_, hrow, hended, by rw [hfunc, Tab.find_put_self]⟩

theorem exec_createIoCq_badQid (size vec : Nat) (intEn contiguous inCmb : Bool) (h : s.AdminRuns c k)
    (hid : qid = 0 ∨ (s.grantOf k.fn).2 < qid ∨ Tab.has qid (s.func k.fn).cqs = true) :
    ∃ t, exec (.createIoCq c qid size vec intEn contiguous inCmb) s = .next t ∧ t.Ended c ⟨1, 0x01, true⟩ ∧ t.fns = s.fns :=
  ⟨_, (onAdmin_of_runs h _).trans (by rw [if_pos hid]), h.refused St.badQid⟩

theorem exec_deleteIoCq_ok (h : s.AdminRuns c k) (h0 : qid ≠ 0) (hthere : Tab.has qid (s.func k.fn).cqs = true)
    (hunused : ∀ p ∈ (s.func k.fn).sqs, p.2.cq ≠ qid) :
    ∃ t, exec (.deleteIoCq c qid) s = .next t ∧ t.Ended c St.ok ∧ Tab.find qid (t.func k.fn).cqs = none := by
  have hid : ¬(qid = 0 ∨ !(Tab.has qid (s.func k.fn).cqs)) := by simp [h0, hthere]
  have hnamed : ¬((s.func k.fn).sqs.any (fun q => q.2.cq = qid) = true) := by simpa using hunused
  have hrow : execDeleteIoCq c qid s = _ := onAdmin_of_runs h _
  simp only [if_neg hid, if_neg hnamed] at hrow
  obtain ⟨hended, hfunc⟩ := h.setFunc_ended k.fn { s.func k.fn with cqs := Tab.del qid (s.func k.fn).cqs } St.ok
  exact ⟨_, hrow, hended, by rw [hfunc, Tab.find_del_self]⟩

/-! ### Submission queues (R99, R104, R124) -/

theorem exec_createIoSq_ok {size cq prio : Nat} (h : s.AdminRuns c k) (h0 : qid ≠ 0) (hgrant : qid ≤ (s.grantOf k.fn).1)
    (hfree : Tab.has qid (s.func k.fn).sqs = false) (hlo : 2 ≤ size) (hhi : size ≤ 16384) (hcq0 : cq ≠ 0)
    (hcq : Tab.has cq (s.func k.fn).cqs = true) (hprio : prio ≤ 3) :
    ∃ t, exec (.createIoSq c qid size cq prio true false) s = .next t ∧ t.Ended c St.ok ∧
      Tab.find qid (t.func k.fn).sqs = some ⟨size, 0, 0, 0, cq, prio, false, 0, 0, none⟩ := by
  have hid : ¬(qid = 0 ∨ (s.grantOf k.fn).1 < qid ∨ Tab.has qid (s.func k.fn).sqs = true) := by simp [h0, hgrant, hfree]
  have hrow : execCreateIoSq c qid size cq prio true false s = _ := onAdmin_of_runs h _
  simp only [if_neg hid, if_neg (show ¬(size < 2 ∨ 16384 < size) by omega), hcq, hcq0, Bool.not_true, Bool.false_eq_true, or_self, if_false,
    false_and, or_false, false_or, if_neg (show ¬(3 < prio) by omega)] at hrow
  obtain ⟨hended, hfunc⟩ := h.setFunc_ended k.fn
    { s.func k.fn with sqs := Tab.put qid ⟨size, 0, 0, 0, cq, prio, false, 0, 0, none⟩ (s.func k.fn).sqs } St.ok
  exact ⟨_, hrow, hended, by rw [hfunc, Tab.find_put_self]⟩

theorem exec_createIoSq_badQid (size cq prio : Nat) (contiguous inCmb : Bool) (h : s.AdminRuns c k)
    (hid : qid = 0 ∨ (s.grantOf k.fn).1 < qid ∨ Tab.has qid (s.func k.fn).sqs = true) :
    ∃ t, exec (.createIoSq c qid size cq prio contiguous inCmb) s = .next t ∧ t.Ended c ⟨1, 0x01, true⟩ ∧ t.fns = s.fns :=
  ⟨_, (onAdmin_of_runs h _).trans (by rw [if_pos hid]), h.refused St.badQid⟩

/-- A queue that exists and is no admin queue passes the identifier check of its deletion. -/
theorem deleteIoSq_id_ok (h0 : qid ≠ 0) (hthere : Tab.has qid (s.func k.fn).sqs = true) :
    ¬(qid = 0 ∨ !(Tab.has qid (s.func k.fn).sqs)) := by simp [h0, hthere]

theorem exec_deleteIoSq_idle (h : s.AdminRuns c k) (h0 : qid ≠ 0) (hthere : Tab.has qid (s.func k.fn).sqs = true)
    (hidle : ∀ p ∈ s.q.cmds, ¬(p.2.fn = k.fn ∧ p.2.sq = qid)) :
    ∃ t, exec (.deleteIoSq c qid) s = .next t ∧ t.Ended c St.ok ∧ Tab.find qid (t.func k.fn).sqs = none := by
  have hnone : ¬(s.q.cmds.any (fun c => decide (c.2.fn = k.fn) && decide (c.2.sq = qid) && !c.2.dropped) = true) := by
    simp only [List.any_eq_true, Bool.and_eq_true, decide_eq_true_eq]
    rintro ⟨p, hp, hq, -⟩
    exact hidle p hp hq
  have hrow : execDeleteIoSq c qid s = _ := onAdmin_of_runs h _
  simp only [if_neg (deleteIoSq_id_ok h0 hthere), if_neg hnone] at hrow
  obtain ⟨hended, hfunc⟩ := h.setFunc_ended k.fn { s.func k.fn with sqs := Tab.del qid (s.func k.fn).sqs } St.ok
  exact ⟨_, hrow, hended, by rw [hfunc, Tab.find_del_self]⟩

theorem exec_deleteIoSq_waits {d : Nat} {x : Cmd} (h : s.AdminRuns c k) (h0 : qid ≠ 0) (hthere : Tab.has qid (s.func k.fn).sqs = true)
    (hx : (d, x) ∈ s.q.cmds) (hfn : x.fn = k.fn) (hsq : x.sq = qid) (hd : x.dropped = false) :
    ∃ t, exec (.deleteIoSq c qid) s = .next t ∧ (t.cmd c).map (·.phase) = some .waitDurable ∧ t.nss = s.nss := by
  have hsome : s.q.cmds.any (fun c => decide (c.2.fn = k.fn) && decide (c.2.sq = qid) && !c.2.dropped) = true :=
    List.any_eq_true.2 ⟨(d, x), hx, by simp [hfn, hsq, hd]⟩
  have hrow : execDeleteIoSq c qid s = _ := onAdmin_of_runs h _
  simp only [if_neg (deleteIoSq_id_ok h0 hthere), if_pos hsome] at hrow
  exact ⟨_, hrow, h.waits k.fn _ _, rfl⟩

/-! ### Abort and Asynchronous Event Request (R124, R134, R149) -/

theorem exec_abort_ok (sqid cid : Nat) (h : s.AdminRuns c k) :
    ∃ t, exec (.abort c sqid cid) s = .next t ∧ t.Ended c St.ok 1 ∧ t.fns = s.fns ∧
      t.fld (F.qenCntCount 21) = satAdd (2 ^ (F.qenCntCount 21).wid - 1) (s.fld (F.qenCntCount 21)) 1 := by
  refine ⟨_, onAdmin_of_runs h _, h.finish_ended (by rfl) _ 1, State.finish_fns _ _ _ _, ?_⟩
  rw [State.fld_finish, State.qenCnt, State.fld_addSat _ _ _ (by decide), satAdd_eq_min]

theorem exec_asyncEventRequest_held (h : s.AdminRuns c k) (hnone : (s.func k.fn).aens = []) (hroom : (s.func k.fn).aers.length < 16) :
    ∃ t, exec (.asyncEventRequest c) s = .next t ∧ (t.func k.fn).aers = (s.func k.fn).aers ++ [c] ∧
      (t.cmd c).map (·.phase) = some .waitDurable := by
  have hrow : execAsyncEventRequest c s = _ := onAdmin_of_runs h _
  simp only [hnone, if_neg (Nat.not_le.2 hroom)] at hrow
  refine ⟨_, hrow, ?_, h.waits k.fn _ _⟩
  rw [State.func_updCmd, State.func_setFunc]

theorem exec_asyncEventRequest_limit (h : s.AdminRuns c k) (hnone : (s.func k.fn).aens = []) (hfull : 16 ≤ (s.func k.fn).aers.length) :
    ∃ t, exec (.asyncEventRequest c) s = .next t ∧ t.Ended c ⟨1, 0x05, true⟩ := by
  have hrow : execAsyncEventRequest c s = _ := onAdmin_of_runs h _
  simp only [hnone, if_pos hfull] at hrow
  exact ⟨_, hrow, (h.refused St.aerLimit).1⟩

theorem exec_asyncEventRequest_takes {ty info page : Nat} {rest : List (Nat × Nat × Nat)} (h : s.AdminRuns c k)
    (hev : (s.func k.fn).aens = (ty, info, page) :: rest) :
    ∃ t, exec (.asyncEventRequest c) s = .next t ∧ t.Ended c St.ok (ty + 256 * info + 65536 * page) ∧ (t.func k.fn).aens = rest := by
  have hrow : execAsyncEventRequest c s = _ := onAdmin_of_runs h _
  simp only [hev] at hrow
  obtain ⟨hended, hfunc⟩ := h.setFunc_ended k.fn { s.func k.fn with aens := rest, aenMask := insertNew (ty * 256 + page) (s.func k.fn).aenMask }
    St.ok (ty + 256 * info + 65536 * page)
  exact ⟨_, hrow, hended, by rw [hfunc]⟩

end

/-- Settles O8: each row of a running command finds which of its checks decides, and ends or waits as stated. -/
theorem queueCommandsComplete : Obligations.QueueCommandsComplete := by
  unfold Obligations.QueueCommandsComplete
  exact ⟨fun _ _ _ hk hp hd => exec_unsupportedCommand_ends hk hp hd,
    fun _ _ _ _ _ _ _ h h0 hg hf hlo hhi hv => exec_createIoCq_ok h h0 hg hf hlo hhi hv,
    fun _ _ _ size vec e n m _ h hid => exec_createIoCq_badQid size vec e n m h hid,
    fun _ _ _ _ _ _ _ h h0 hg hf hlo hhi hc0 hc hp => exec_createIoSq_ok h h0 hg hf hlo hhi hc0 hc hp,
    fun _ _ _ size cq prio n m _ h hid => exec_createIoSq_badQid size cq prio n m h hid,
    fun _ _ _ _ h h0 ht hi => exec_deleteIoSq_idle h h0 ht hi,
    fun _ _ _ _ _ _ h h0 ht hx hfn hsq hd => exec_deleteIoSq_waits h h0 ht hx hfn hsq hd,
    fun _ _ _ _ h h0 ht hu => exec_deleteIoCq_ok h h0 ht hu, fun _ _ sqid cid _ h => exec_abort_ok sqid cid h,
    fun _ _ _ h hn hr => exec_asyncEventRequest_held h hn hr, fun _ _ _ h hn hf => exec_asyncEventRequest_limit h hn hf,
    fun _ _ _ _ _ _ _ h hev => exec_asyncEventRequest_takes h hev⟩

end Sys2Proof.Machine
end

section
/-! SUPPORT. The rows of completions, interrupts, enabling, reset and shutdown of a controller (R84, R117 to R122, R271): which steps leave every
function as it is, and what a row makes of the one function it acts on. -/

namespace Sys2Proof.Machine

/-! ### What leaves every function as it is -/

section
variable (s : State)

@[simp] theorem State.event_fns (c a b d e : Nat) : (s.event c a b d e).fns = s.fns := by rw [State.event_frame]
@[simp] theorem State.dropStitches_fns (c : Nat) : (s.dropStitches c).fns = s.fns := by rw [State.dropStitches_frame]
@[simp] theorem State.cfsRequest_fns (r : Nat) (w : CfsWork) (n : Nat) : (s.cfsRequest r w n).fns = s.fns := by rw [State.cfsRequest_frame]

/-- A command that a reset ends changes no function (R121). -/
theorem State.endCommand_fns (c : Nat) : (s.endCommand c).fns = s.fns := by
  unfold State.endCommand
  split
  · rfl
  · extract_lets gone t op keep done bs b u
    have hgone : ∀ v : State, (gone v).fns = v.fns := fun v => v.dropStitches_fns c
    have ht : t.fns = s.fns := rfl
    have hu : u.fns = s.fns := rfl
    split_ifs
    · exact (u.dropStitches_fns c).trans hu
    · exact (hgone u).trans hu
    · exact hgone _
    · exact (hgone t).trans ht

theorem State.endCommands_fns (i : Nat) : (s.endCommands i).fns = s.fns :=
  List.foldlRecOn _ _ (motive := fun t : State => t.fns = s.fns) rfl fun t ht c _ => (t.endCommand_fns c).trans ht

theorem State.dropDownload_fns (i : Nat) : (s.dropDownload i).fns = s.fns := by
  unfold State.dropDownload
  split <;> rfl

theorem State.setSession_fns (pf : Nat) (x : Option Session) : (s.setSession pf x).fns = s.fns := by
  unfold State.setSession
  split <;> rfl

theorem State.endSession_fns (pf reason : Nat) : (s.endSession pf reason).fns = s.fns := by
  have ht : (((s.setSession pf none).cancel (.sessionIdle pf)).event 0x1002 pf reason).fns = s.fns := by
    rw [State.event_fns, State.cancel_fns, State.setSession_fns]
  unfold State.endSession
  split
  · rfl
  · extract_lets t
    split <;> exact ht

theorem State.setPs_fns (n : Nat) : (s.setPs n).fns = s.fns := by
  unfold State.setPs
  extract_lets ts t u
  split <;> rfl

/-- A move between power states changes no function (R363). -/
theorem State.applyPs_fns : s.applyPs.fns = s.fns := by
  unfold State.applyPs
  split
  · rfl
  · exact s.setPs_fns _

theorem State.raiseSvn_fns (img : List FwPart) : (s.raiseSvn img).fns = s.fns :=
  List.foldlRecOn _ _ (motive := fun t : State => t.fns = s.fns) rfl fun t ht p _ => by
    split
    · exact ht
    · exact ht

theorem State.raiseRunning_fns : s.raiseRunning.fns = s.fns := by
  unfold State.raiseRunning
  split
  · rfl
  · rw [State.cfsRequest_fns, State.raiseSvn_fns]

theorem State.func_applyPs (i : Nat) : s.applyPs.func i = s.func i := State.func_congr i s.applyPs_fns

theorem State.func_expire (id : TimerId) (i : Nat) : (s.expire id).func i = s.func i := State.func_congr i (by rw [State.expire_frame])

end

/-! ### Interrupts (R119) -/

section
variable {s : State} {i : Nat}

/-- Raising a vector leaves the queues: the vector is pending, or its message is sent. -/
theorem State.raise_cqs (s : State) (i v : Nat) : ((s.raise i v).func i).cqs = (s.func i).cqs := by
  unfold State.raise
  extract_lets f
  split_ifs
  · rw [State.func_setFunc]
  · rfl
  · rfl

theorem exec_interruptAggregationTimeout_fires {k : Nat} {q : Cq} (ha : s.armed (.intAggregation i k) = true)
    (hq : Tab.find k (s.func i).cqs = some q) :
    ∃ t, exec (.interruptAggregationTimeout i k) s = .next t ∧ Tab.find k (t.func i).cqs = some { q with merged := 0 } := by
  show ∃ t, execInterruptAggregationTimeout i k s = .next t ∧ _
  rw [execInterruptAggregationTimeout, onTimer_armed ha]
  refine ⟨_, rfl, ?_⟩
  simp only [State.func_expire, hq]
  split
  · rw [State.raise_cqs, State.func_setFunc, Tab.find_put_self]
  · rw [State.func_setFunc, Tab.find_put_self]

theorem exec_msixVectorUnmask_unmasks {v : Nat} (hi : i < 1026) (hv : v < 64) :
    ∃ t, exec (.msixVectorUnmask i v) s = .next t ∧ v ∈ (t.func i).unmasked := by
  have hvec : v < if isPf i then 2048 else 64 := by split <;> omega
  refine ⟨_, guarded_true _ _ _ (by rw [decide_eq_true hi, decide_eq_true hvec]; rfl), ?_⟩
  unfold State.unmaskVector
  extract_lets f f'
  split
  · show v ∈ (((s.setFunc i _)).func i).unmasked
    rw [State.func_setFunc]
    exact mem_insertNew v _
  · rw [State.func_setFunc]
    exact mem_insertNew v _

/-! ### Reset and enable (R84, R87, R121) -/

/-- What a reset leaves of its function: no queue, no pending message, not enabled and not ready; its configuration space as it was (R83, R121). -/
def Func.ResetFrom (f g : Func) : Prop :=
  g.en = false ∧ g.rdy = false ∧ g.sqs = [] ∧ g.cqs = [] ∧ g.bme = f.bme ∧ g.unmasked = f.unmasked ∧ g.pend = []

theorem State.ctrlReset_func (s : State) (i : Nat) : (s.func i).ResetFrom ((s.ctrlReset i).func i) := by
  have hended : ((s.endCommands i).dropDownload i).func i = s.func i :=
    State.func_congr i (((s.endCommands i).dropDownload_fns i).trans (s.endCommands_fns i))
  unfold State.ctrlReset
  extract_lets t f f' u
  have hf : f = s.func i := hended
  have hu : u.func i = t.takeSaved f' := State.func_setFunc _ _ _
  have hlast : (if isPf i then u.endSession i 3 else u).applyPs.func i = t.takeSaved f' := by
    rw [State.func_applyPs]
    split
    · rw [State.func_congr i (u.endSession_fns i 3), hu]
    · exact hu
  rw [hlast, ← hf]
  exact ⟨rfl, rfl, rfl, rfl, rfl, rfl, rfl⟩

theorem exec_controllerReset_resets (hi : i < 1026) (hen : (s.func i).en = true) :
    ∃ t, exec (.controllerReset i) s = .next t ∧ (s.func i).ResetFrom (t.func i) :=
  ⟨_, (guarded_true _ _ _ (decide_eq_true hi)).trans (by rw [hen, Bool.true_or, if_pos rfl]), s.ctrlReset_func i⟩

/-- A controller that is not enabled has nothing to reset. -/
theorem exec_controllerReset_idle (hi : i < 1026) (hen : (s.func i).en = false) (hwait : (s.func i).enWait = false) :
    exec (.controllerReset i) s = .next s :=
  (guarded_true _ _ _ (decide_eq_true hi)).trans (by rw [hen, hwait, Bool.or_self, if_neg (by decide)])

/-- A started device makes a controller ready with its admin queues at once (R84). -/
theorem State.becomeReady_func (hstart : s.started = true) (hcfs : (s.func i).cfs = false) :
    (s.becomeReady i).func i =
      { s.func i with en := true, enWait := false, rdy := true, shst := 0,
                      sqs := Tab.put 0 ⟨(s.func i).aqa.1, 0, 0, 0, 0, 0, false, 0, 0, none⟩ (s.func i).sqs,
                      cqs := Tab.put 0 ⟨(s.func i).aqa.2, 0, 0, some 0, [], [], 0⟩ (s.func i).cqs } := by
  unfold State.becomeReady
  extract_lets f sq cq
  have hready : (!s.started || f.cfs) = false := by rw [hstart, hcfs]; rfl
  rw [if_neg (by rw [hready]; decide), State.func_applyPs, State.func_congr i (State.raiseRunning_fns _), State.func_setFunc]

theorem exec_controllerEnable_ready {a m n : Nat} (hi : i < 1026) (hm : 2 ≤ m) (hm' : m ≤ 4096) (hn : 2 ≤ n) (hn' : n ≤ 4096)
    (hstart : s.started = true) (hcfs : (s.func i).cfs = false) (hshst : (s.func i).shst ≠ 1) (hreset : (s.func i).reset = .none)
    (hrdy : (s.func i).rdy = false) :
    ∃ t, exec (.controllerEnable i a m n) s = .next t ∧ (t.func i).rdy = true ∧ (t.func i).ams = a ∧
      (Tab.find 0 (t.func i).sqs).map (·.size) = some m ∧ (Tab.find 0 (t.func i).cqs).map (·.size) = some n := by
  have hfunc : (s.setFunc i { s.func i with ams := a, aqa := (m, n) }).func i = { s.func i with ams := a, aqa := (m, n) } :=
    State.func_setFunc _ _ _
  have hrow : exec (.controllerEnable i a m n) s = .next ((s.setFunc i { s.func i with ams := a, aqa := (m, n) }).becomeReady i) := by
    refine (guarded_true _ _ _ (by simp [hi, hm, hm', hn, hn'])).trans (congrArg _ ?_)
    unfold State.ctrlEnable
    simp only [hrdy, hreset, hshst, Bool.false_and, Bool.false_eq_true, if_false, ne_eq, not_true_eq_false, decide_false,
      Bool.or_false]
  refine ⟨_, hrow, ?_⟩
  rw [State.becomeReady_func (by exact hstart) (by rw [hfunc]; exact hcfs), hfunc]
  rw [Tab.find_put_self, Tab.find_put_self]
  exact ⟨rfl, rfl, rfl, rfl⟩

/-! ### Shutdown (R122) -/

theorem exec_shutdownNormal_begins (hi : i < 1026) (hshst : (s.func i).shst = 0) :
    ∃ t, exec (.shutdownNormal i) s = .next t ∧ (t.func i).shst = 1 ∧ (t.func i).shn = 1 ∧ (t.func i).shnGroup = s.awaited ∧ t.q = s.q := by
  refine ⟨_, guarded_true _ _ _ (decide_eq_true hi), ?_⟩
  rw [State.shutdown, if_pos hshst]
  rw [State.updFunc_eq, State.func_setFunc]
  exact ⟨rfl, rfl, rfl, rfl⟩

theorem exec_shutdownAbrupt_begins (hi : i < 1026) (hshst : (s.func i).shst = 0) :
    ∃ t, exec (.shutdownAbrupt i) s = .next t ∧ (t.func i).shst = 1 ∧ (t.func i).shn = 2 ∧ (t.func i).shnGroup = s.awaited := by
  refine ⟨_, guarded_true _ _ _ (decide_eq_true hi), ?_⟩
  rw [State.shutdown, if_pos hshst]
  rw [State.updFunc_eq, State.func_setFunc]
  exact ⟨rfl, rfl, rfl⟩

theorem exec_shutdownComplete_ends (hdone : s.shutdownDone i = true) (hyield : s.sup.yielded = none) (hwait : (s.func i).enWait = false) :
    ∃ t, exec (.shutdownComplete i) s = .next t ∧ (t.func i).shst = 2 := by
  refine ⟨_, guarded_true _ _ _ hdone, ?_⟩
  simp only [hyield, hwait, Option.isSome_none, Bool.false_eq_true, if_false, State.func_applyPs]
  rw [State.qenCnt, State.addSat_eq, State.func_setFld, State.updFunc_eq, State.func_setFunc]

/-- With nothing buffered, copied or still to be checkpointed the clean stop closes its group (R271). -/
theorem exec_cleanStop_closes (n : Nat) (hdown : s.allShutDown = true) (hlc : s.sec.lcRun = none)
    (hbuf : s.buf.slots.all (fun p => p.2.applied) = true) (hrmw : s.crs.rmws = []) (htouched : s.lif.touched = [])
    (hrunning : s.lif.running = []) : exec (.cleanStop n) s = .next ((s.openNew).closeGroup false true) := by
  have herase : s.lcErase = s := by simp only [State.lcErase, hlc]
  have happlied : s.buf.slots.any (fun p => !p.2.applied) = false := by
    rw [List.any_eq_not_all_not]
    simpa using hbuf
  refine (guarded_true _ _ _ (by rw [hdown, Bool.true_or])).trans (congrArg _ ?_)
  simp only [herase, hlc, happlied, hrmw, htouched, hrunning, Option.any_none, List.isEmpty_nil, Bool.not_true, Bool.or_self,
    Bool.false_eq_true, if_false]

end

/-! ### Flush (R120) -/

section
variable {s : State} {c : Nat} {k : Cmd}

/-- None of the refusals that the I/O rows share meets an I/O command whose namespace is neither sanitized nor formatted (R141, R143). -/
theorem onIo_of_runs {op : Nat} (hk : s.ioAt c op = some k) (hsan : s.sanitizing = false) (hfmt : s.formattingNs k.sqe.nsid = false)
    (body : Cmd → State) : onIo s c op body = .next (body k) := by
  simp only [onIo, withSome, hk, hsan, hfmt, Bool.false_eq_true, if_false]

theorem exec_flush_waits {g : Nat} (hk : s.ioAt c 0x00 = some k) (hsan : s.sanitizing = false) (hfmt : s.formattingNs k.sqe.nsid = false)
    (hns : s.namesNs k = true) (hg : s.awaited = some g) :
    exec (.flush c) s = .next (s.updCmd c (fun x => { x with phase := .waitGroup g })) :=
  (onIo_of_runs hk hsan hfmt _).trans (by simp only [hns, hg, Bool.not_true, Bool.false_eq_true, if_false])

theorem exec_flush_ends (hk : s.ioAt c 0x00 = some k) (hsan : s.sanitizing = false) (hfmt : s.formattingNs k.sqe.nsid = false)
    (hns : s.namesNs k = true) (hg : s.awaited = none) : exec (.flush c) s = .next ((s.finish c St.ok).qenCnt 17) :=
  (onIo_of_runs hk hsan hfmt _).trans (by simp only [hns, hg, Bool.not_true, Bool.false_eq_true, if_false])

end

/-- Settles O7: each row finds its controller as stated, and the one function it acts on is what becomes of it. -/
theorem controllerRowsComplete : Obligations.ControllerRowsComplete := by
  unfold Obligations.ControllerRowsComplete
  exact ⟨fun _ _ h => guarded_true _ _ _ h, fun _ _ _ _ ha hq => exec_interruptAggregationTimeout_fires ha hq,
    fun _ _ _ hi hv => exec_msixVectorUnmask_unmasks hi hv, fun _ _ hi hen => exec_controllerReset_resets hi hen,
    fun _ _ hi hen hwait => exec_controllerReset_idle hi hen hwait,
    fun _ _ _ _ _ hi hm hm' hn hn' hs hc hsh hr hrdy => exec_controllerEnable_ready hi hm hm' hn hn' hs hc hsh hr hrdy,
    fun _ _ hi hsh => exec_shutdownNormal_begins hi hsh, fun _ _ hi hsh => exec_shutdownAbrupt_begins hi hsh,
    fun _ _ hd hy hw => exec_shutdownComplete_ends hd hy hw,
    fun _ n hd hlc hb hr ht hrun => exec_cleanStop_closes n hd hlc hb hr ht hrun,
    fun _ _ _ _ hk hs hf hn hg => exec_flush_waits hk hs hf hn hg, fun _ _ _ hk hs hf hn hg => exec_flush_ends hk hs hf hn hg⟩

end Sys2Proof.Machine
end

section
/-! SUPPORT. The rows of doorbells, fetch, the interlock table and the stitch scheduler (R100 to R112, R114, R505): what an asynchronous event and
the start of a command leave of the queues and fetches, and what each row finds and does. -/

namespace Sys2Proof.Machine

/-! ### Doorbells (R100, R118) -/

section
variable {s : State} {i k v : Nat}

/-- An asynchronous event takes or adds no queue (R149). -/
theorem State.asyncEvent_queues (s : State) (i type info page j : Nat) :
    ((s.asyncEvent i type info page).func j).sqs = (s.func j).sqs ∧ ((s.asyncEvent i type info page).func j).cqs = (s.func j).cqs := by
  have hset : ∀ f : Func, f.sqs = (s.func i).sqs → f.cqs = (s.func i).cqs →
      ((s.setFunc i f).func j).sqs = (s.func j).sqs ∧ ((s.setFunc i f).func j).cqs = (s.func j).cqs := fun f hsq hcq => by
    by_cases h : j = i
    · rw [h, State.func_setFunc]
      exact ⟨hsq, hcq⟩
    · rw [State.func_setFunc_ne _ _ _ _ h]
      exact ⟨rfl, rfl⟩
  unfold State.asyncEvent
  extract_lets f
  split
  · exact ⟨rfl, rfl⟩
  · split
    · rw [State.func_finish]
      exact hset _ rfl rfl
    · exact hset _ rfl rfl

/-- An invalid doorbell is ignored, and DBERRSEEN is set. -/
theorem State.badDoorbell_ignored (s : State) (i k r : Nat) (cq : Bool) :
    ((s.badDoorbell i k r cq).func i).sqs = (s.func i).sqs ∧ ((s.badDoorbell i k r cq).func i).cqs = (s.func i).cqs ∧
      (s.badDoorbell i k r cq).flag F.qenStatDberrseen = true := by
  unfold State.badDoorbell
  extract_lets t u v
  have hv : v.flag F.qenStatDberrseen = true := by
    show (State.qenCnt _ 15).flag _ = true
    rw [State.qenCnt, State.addSat_eq, State.flag_setFld_ne _ _ _ _ (by decide) (by decide), State.setFlag_eq]
    exact State.flag_setFld_one _ _ (by decide) rfl
  have hfunc : v.func i = s.func i := State.func_congr i rfl
  clear_value v
  rw [← hfunc]
  split
  · exact ⟨rfl, rfl, hv⟩
  · obtain ⟨hsqs, hcqs⟩ := v.asyncEvent_queues i 0 (if r = 0 then 0 else 1) 1 i
    refine ⟨hsqs, hcqs, ?_⟩
    rw [State.asyncEvent_frame]
    exact hv

theorem exec_sqTailDoorbellWrite_moves {q : Sq} (hi : i < 1026) (hq : Tab.find k (s.func i).sqs = some q) (hv : Sq.badTail (some q) v = none) :
    ∃ t, exec (.sqTailDoorbellWrite i k v) s = .next t ∧ Tab.find k (t.func i).sqs = some { q with tail := v } := by
  refine ⟨_, guarded_true _ _ _ (decide_eq_true hi), ?_⟩
  simp only [State.sqDoorbell, hq, hv, State.func_applyPs, State.func_setFunc, Tab.find_upd_self, Option.map_some]

theorem exec_sqTailDoorbellWrite_ignored {r : Nat} (hi : i < 1026) (hv : Sq.badTail (Tab.find k (s.func i).sqs) v = some r) :
    ∃ t, exec (.sqTailDoorbellWrite i k v) s = .next t ∧ (t.func i).sqs = (s.func i).sqs ∧ t.flag F.qenStatDberrseen = true := by
  obtain ⟨hsqs, -, hseen⟩ := s.badDoorbell_ignored i k r false
  have hrow : s.sqDoorbell i k v = s.badDoorbell i k r false := by simp only [State.sqDoorbell, hv]
  exact ⟨_, guarded_true _ _ _ (decide_eq_true hi), by rw [hrow, hsqs], by rw [hrow, hseen]⟩

theorem exec_cqHeadDoorbellWrite_frees {q : Cq} (hi : i < 1026) (hq : Tab.find k (s.func i).cqs = some q) (hv : Cq.badHead (some q) v = none)
    (hheld : q.held = []) :
    ∃ t, exec (.cqHeadDoorbellWrite i k v) s = .next t ∧
      Tab.find k (t.func i).cqs = some { q with head := v, entries := q.entries.drop ((v + q.size - q.head) % q.size) } := by
  refine ⟨_, guarded_true _ _ _ (decide_eq_true hi), ?_⟩
  simp only [State.cqDoorbell, hq, hv, hheld, List.length_nil, State.postHeld, State.func_setFunc, Tab.find_put_self]

theorem exec_cqHeadDoorbellWrite_ignored {r : Nat} (hi : i < 1026) (hv : Cq.badHead (Tab.find k (s.func i).cqs) v = some r) :
    ∃ t, exec (.cqHeadDoorbellWrite i k v) s = .next t ∧ (t.func i).cqs = (s.func i).cqs ∧ t.flag F.qenStatDberrseen = true := by
  obtain ⟨-, hcqs, hseen⟩ := s.badDoorbell_ignored i k r true
  have hrow : s.cqDoorbell i k v = s.badDoorbell i k r true := by simp only [State.cqDoorbell, hv]
  exact ⟨_, guarded_true _ _ _ (decide_eq_true hi), by rw [hrow, hcqs], by rw [hrow, hseen]⟩

end

/-! ### Fetch (R101 to R105) -/

section
variable (s : State)

/-- The fetch numbers given out and the fetch reads outstanding. -/
def State.fetched : Nat × List Fetch := (s.q.lastFetch, s.q.fetches)

theorem State.fetched_congr {s t : State} (h : t.q = s.q) : t.fetched = s.fetched := by rw [State.fetched, State.fetched, h]

theorem State.addStitch_fetched (c : Nat) (k : Cmd) (a n : Nat) : (s.addStitch c k a n).fetched = s.fetched := rfl

theorem State.cutStitches_fetched (n c : Nat) : (State.cutStitches n c s).fetched = s.fetched := by
  induction n generalizing s with
  | zero => rfl
  | succ n ih =>
    unfold State.cutStitches
    split
    · rfl
    · split_ifs
      · rfl
      · exact (ih _).trans (s.addStitch_fetched _ _ _ _)
      · rfl

theorem State.park_fetched (id reason : Nat) : (s.park id reason).fetched = s.fetched := by
  unfold State.park
  extract_lets t u
  split
  · split <;> rfl
  · rfl

theorem State.parkAll_fetched (c reason : Nat) : (s.parkAll c reason).fetched = s.fetched :=
  List.foldlRecOn _ _ (motive := fun t : State => t.fetched = s.fetched) rfl fun t ht p _ => (t.park_fetched p.1 reason).trans ht

/-- A command's start cuts and parks stitches; it fetches nothing (R106, R111). -/
theorem State.begin_fetched (c : Nat) : (s.begin c).fetched = s.fetched := by
  unfold State.begin
  extract_lets t u
  have hu : u.fetched = s.fetched := t.cutStitches_fetched 64 c
  split
  · exact hu
  · exact (u.parkAll_fetched c 2).trans hu

theorem State.admitLock_fetched (c : Nat) : (s.admitLock c).fetched = s.fetched := by
  unfold State.admitLock
  split
  · rfl
  · extract_lets ls
    split
    · exact State.begin_fetched _ c
    · rfl

theorem State.touch_q (pf : Nat) : (s.touch pf).q = s.q := by rw [(s.touch_found pf).frame]

/-- An entry accepted takes the next fetch number (R102). -/
theorem State.accept_fetched (i k : Nat) (e : Sqe) : (s.accept i k e).fetched = (s.q.lastFetch + 1, s.q.fetches) := by
  unfold State.accept
  extract_lets c r admin x qen t u v
  have hu : u.fetched = (s.q.lastFetch + 1, s.q.fetches) := rfl
  have hv : v.fetched = u.fetched := by
    show (if admin then (u.qenCnt 1).touch i else u.qenCnt 0).fetched = _
    split
    · exact State.fetched_congr (State.touch_q _ i)
    · rfl
  split
  · rw [State.admitLock_fetched, hv, hu]
  · rw [State.begin_fetched, hv, hu]

end

section
variable {s : State}

theorem exec_fetchGrant_admin {i : Nat} (hstop : s.withheld.q.fetchStop = false)
    (hi : roundRobin s.withheld.q.lastAdmin (s.withheld.grantees true) = some i) :
    exec .fetchGrant s = .next (({ s.withheld with q := { s.withheld.q with lastAdmin := i } } : State).grantQueue i 0) := by
  show execFetchGrant s = _
  simp only [execFetchGrant, hstop, hi, Bool.false_eq_true, if_false]

theorem exec_fetchGrant_stopped (hstop : s.withheld.q.fetchStop = true) : exec .fetchGrant s = .next s.withheld := by
  show execFetchGrant s = _
  simp only [execFetchGrant, hstop, if_true]

/-- The one fetch read outstanding has arrived with one entry: that entry is accepted, and no read stays. -/
theorem State.acceptArrived_one {n : Nat} {f : Fetch} {e : Sqe} (hn : n = 1) (hf : s.q.fetches = [f]) (hgot : f.got = some [e]) :
    (State.acceptArrived n f.fn f.qid s).q.lastFetch = s.q.lastFetch + 1 ∧ (State.acceptArrived n f.fn f.qid s).q.fetches = [] := by
  have hstep : State.acceptArrived n f.fn f.qid s = ({ s with q := { s.q with fetches := [] } } : State).accept f.fn f.qid e := by
    simp [hn, State.acceptArrived, hf, hgot]
  obtain ⟨hlast, hfetches⟩ := Prod.ext_iff.1 (({ s with q := { s.q with fetches := [] } } : State).accept_fetched f.fn f.qid e)
  rw [hstep]
  exact ⟨hlast, hfetches⟩

theorem exec_submissionFetchComplete_one {f : Fetch} {e : Sqe} (hf : s.q.fetches = [f]) (hgot : f.got = none) (hnum : f.num = 1) :
    ∃ t, exec (.submissionFetchComplete (portOf f.fn) f.tag [e]) s = .next t ∧ t.q.lastFetch = s.q.lastFetch + 1 ∧ t.q.fetches = [] := by
  have hfind : s.q.fetches.find? (fun g => decide (g.tag = f.tag) && decide (portOf g.fn = portOf f.fn) && decide (g.got = none)) = some f := by
    simp [hf, hgot]
  show ∃ t, execSubmissionFetchComplete (portOf f.fn) f.tag [e] s = .next t ∧ _
  unfold execSubmissionFetchComplete
  simp only [hfind, hnum, List.length_singleton, ne_eq, not_true_eq_false, if_false]
  exact ⟨_, rfl, State.acceptArrived_one (f := { f with got := some [e] }) (by simp [hf]) (by simp [hf]) rfl⟩

end

/-! ### The interlock table and stitches (R106 to R112, R114) -/

section
variable {s : State} {c : Nat} {k : Cmd}

theorem exec_interlockAdmit_one (hc : s.q.cmds = [(c, k)]) (hp : k.phase = .waitLock)
    (hmay : s.mayLock c (k.sqe.locks c (((Tab.find k.sqe.nsid s.nss).map (·.compress)).getD false)).length = true) :
    exec .interlockAdmit s = .next (({ s with q := { s.q with
      locks := s.q.locks ++ k.sqe.locks c (((Tab.find k.sqe.nsid s.nss).map (·.compress)).getD false) } } : State).begin c) := by
  have hk : s.cmd c = some k := by simp [State.cmd, hc, Tab.find]
  have hwaiting : s.q.cmds.filter (fun p => decide (p.2.phase = .waitLock)) = [(c, k)] := by simp [hc, hp]
  show execInterlockAdmit s = _
  simp only [execInterlockAdmit, hwaiting, List.map_cons, List.map_nil, List.foldl_cons, List.foldl_nil, hk, hmay, if_true]

theorem exec_stitchCut_one (hc : s.q.cmds = [(c, k)]) (hp : k.phase = .active) : exec .stitchCut s = .next (State.cutStitches 64 c s) := by
  have hactive : s.q.cmds.filter (fun p => decide (p.2.phase = .active)) = [(c, k)] := by simp [hc, hp]
  show execStitchCut s = _
  simp only [execStitchCut, hactive, List.foldl_cons, List.foldl_nil]

/-- With no internal work waiting, a freed resource goes to the stitch that is first (R108). -/
theorem State.grantResource_ready {res id : Nat} {x : Stitch} (hx : s.firstReady res = some (id, x)) (hw : s.firstInternal res = none) :
    (s.grantResource res).1 = some id := by
  simp only [State.grantResource, hx, hw, Option.any_none, Bool.false_eq_true, if_false]

theorem exec_resourceGrant_ready {res id : Nat} {x : Stitch} (hres : res ≠ 2) (hx : s.firstReady res = some (id, x))
    (hw : s.firstInternal res = none) : ∃ t, exec (.resourceGrant res) s = .next t ∧ t = (s.grantResource res).2.dmaStart id := by
  refine ⟨_, ?_, rfl⟩
  show execResourceGrant res s = _
  unfold execResourceGrant
  split
  · exact absurd rfl hres
  · simp only [State.grantResource_ready hx hw]

theorem exec_stitchResume_ready {id r : Nat} {x : Stitch} (hx : Tab.find id s.q.stitches = some x) (hp : x.phase = .parked r)
    (hk : s.cmd x.cmd = some k) (hmay : s.mayResume id x k r = true) :
    ∃ t, exec (.stitchResume id) s = .next t ∧ Tab.find id t.q.stitches = some { x with phase := .ready, since := s.clk.mono } := by
  have hrow : exec (.stitchResume id) s = .next (s.resume id x) := by
    show execStitchResume id s = _
    simp only [execStitchResume, hx, hp, hk, guarded_true _ _ _ hmay]
  have hq : (s.resume id x).q.stitches = Tab.put id { x with phase := .ready, since := s.clk.mono } s.q.stitches := by
    unfold State.resume
    extract_lets t
    split <;> rfl
  exact ⟨_, hrow, by rw [hq, Tab.find_put_self]⟩

/-- A stitch that has waited its time rises one level (R110). -/
theorem exec_stitchAgingExpiry_rises {id : Nat} {x : Stitch} (ha : s.armed (.stitchAging id) = true) (hx : Tab.find id s.q.stitches = some x)
    (hp : x.phase = .ready) (hl : 2 < x.level) :
    ∃ t, exec (.stitchAgingExpiry id) s = .next t ∧ Tab.find id t.q.stitches = some { x with level := x.level - 1 } := by
  have hq : (s.expire (.stitchAging id)).q = s.q := by rw [State.expire_frame]
  show ∃ t, execStitchAgingExpiry id s = .next t ∧ _
  rw [execStitchAgingExpiry, onTimer_armed ha]
  refine ⟨_, rfl, ?_⟩
  simp only [hq, hx, if_pos (And.intro hp hl)]
  split <;> exact Tab.find_put_self id _ _

/-- The one internal work waiting has starved, and takes level 5 (R505). -/
theorem exec_level6Starvation_one {w : IntWork} (hw : s.q.internal = [w]) (hl : w.level = 6) (hs : w.since + 1000000000 ≤ s.clk.mono) :
    exec (.level6Starvation w.res) s = .next { s with q := { s.q with internal := [{ w with level := 5 }] } } := by
  show execLevel6Starvation w.res s = _
  simp [execLevel6Starvation, hw, hl, hs]

end

/-- Settles O6: each row finds its queue, fetch read, command or stitch as stated, and does to it what the rule says. -/
theorem queueRowsComplete : Obligations.QueueRowsComplete := by
  unfold Obligations.QueueRowsComplete
  exact ⟨fun _ _ _ _ _ hi hq hv => exec_sqTailDoorbellWrite_moves hi hq hv, fun _ _ _ _ _ hi hv => exec_sqTailDoorbellWrite_ignored hi hv,
    fun _ _ _ _ _ hi hq hv hh => exec_cqHeadDoorbellWrite_frees hi hq hv hh, fun _ _ _ _ _ hi hv => exec_cqHeadDoorbellWrite_ignored hi hv,
    fun _ _ hs hi => exec_fetchGrant_admin hs hi, fun _ hs => exec_fetchGrant_stopped hs,
    fun _ _ _ hf hg hn => exec_submissionFetchComplete_one hf hg hn, fun _ _ _ hc hp hm => exec_interlockAdmit_one hc hp hm,
    fun _ _ _ hc hp => exec_stitchCut_one hc hp, fun _ _ _ _ hr hx hw => exec_resourceGrant_ready hr hx hw,
    fun _ _ _ _ _ hx hp hk hm => exec_stitchResume_ready hx hp hk hm, fun _ _ _ ha hx hp hl => exec_stitchAgingExpiry_rises ha hx hp hl,
    fun _ _ hw hl hs => exec_level6Starvation_one hw hl hs⟩

end Sys2Proof.Machine
end

section
/-! SUPPORT. Every row but twelve leaves the records of the store, the event areas, the key set and the namespaces as they are (R427, R434, R438, R469,
R470); of those twelve, seven may change a namespace (R138, R139, R141, R142, R330). -/

namespace Sys2Proof.Machine

/-- The rows that may change the store's records, the event areas, the key set or the namespaces: those that may change a namespace, and five more. -/
def changesHeld : Instr → Bool
  | .coldStart .. | .cleanStop .. | .sanitize .. | .eventRoundClear .. | .cfsProgramComplete .. => true
  | c => changesNamespaces c

/-- The cases are those of `exec`: each row's own lemma says that it changes none of them. -/
theorem exec_holds (s : State) : (c : Instr) → changesHeld c = false → Holds s (exec c s)
  | .vddAonApplied, _ => execVddAonApplied_held s
  | .gaugeWindowEnd region cycles, _ => execGaugeWindowEnd_held region cycles s
  | .gaugePeriodEnd vout iout, _ => execGaugePeriodEnd_held vout iout s
  | .pmbusTransactionDone ok code data, _ => execPmbusTransactionDone_held ok code data s
  | .voutDeviationTimeout, _ => execVoutDeviationTimeout_held s
  | .vrAlert status, _ => execVrAlert_held status s
  | .vddCoreLow, _ => execVddCoreLow_held s
  | .railLow rail, _ => execRailLow_held rail s
  | .reftLost, _ => execReftLost_held s
  | .reftRegained, _ => execReftRegained_held s
  | .deviceTimeSlewDone, _ => execDeviceTimeSlewDone_held s
  | .timeOffsetApply, _ => execTimeOffsetApply_held s
  | .latchedPairLoRead requester pair, _ => execLatchedPairLoRead_held requester pair s
  | .paceMinclr pf, _ => execPaceMinclr_held pf s
  | .registerWrite pf off val be, _ => execRegisterWrite_held pf off val be s
  | .perstAssert port, _ => execPerstAssert_held port s
  | .coldReset, _ => execColdReset_held s
  | .perstDeassert port width rate reversed, _ => execPerstDeassert_held port width rate reversed s
  | .hotResetReceived port, _ => execHotResetReceived_held port s
  | .dlDown port, _ => execDlDown_held port s
  | .linkTrainingFail port, _ => execLinkTrainingFail_held port s
  | .linkLayerError port error lane, _ => execLinkLayerError_held port error lane s
  | .l1IdleTimer port, _ => execL1IdleTimer_held port s
  | .memoryRequestReceived port tag write dws poisoned, _ => execMemoryRequestReceived_held port tag write dws poisoned s
  | .configRead fn tag reg, _ => execConfigRead_held fn tag reg s
  | .configWrite fn tag reg val, _ => execConfigWrite_held fn tag reg val s
  | .busMasterEnableClear fn, _ => execBusMasterEnableClear_held fn s
  | .busMasterEnableSet fn, _ => execBusMasterEnableSet_held fn s
  | .vfEnableClear pf, _ => execVfEnableClear_held pf s
  | .vfEnableSet pf, _ => execVfEnableSet_held pf s
  | .pfFlr pf, _ => execPfFlr_held pf s
  | .vfFlr vf, _ => execVfFlr_held vf s
  | .flrComplete fn, _ => execFlrComplete_held fn s
  | .translationCompletion port tag stitch pages, _ => execTranslationCompletion_held port tag stitch pages s
  | .prgResponse prg outcome, _ => execPrgResponse_held prg outcome s
  | .pageRequestTimeout prg, _ => execPageRequestTimeout_held prg s
  | .invalidateRequest fn itag page pages, _ => execInvalidateRequest_held fn itag page pages s
  | .invalidateCompletionSend fn itag, _ => execInvalidateCompletionSend_held fn itag s
  | .atcFlush pf, _ => execAtcFlush_held pf s
  | .completionReceived port tag fits poisoned header requester, _ => execCompletionReceived_held port tag fits poisoned header requester s
  | .completionTimeout port tag, _ => execCompletionTimeout_held port tag s
  | .tagQuarantineEnd port tag, _ => execTagQuarantineEnd_held port tag s
  | .getVersion pf, _ => execGetVersion_held pf s
  | .getCapabilities pf, _ => execGetCapabilities_held pf s
  | .negotiateAlgorithms pf asym hash, _ => execNegotiateAlgorithms_held pf asym hash s
  | .getDigests pf, _ => execGetDigests_held pf s
  | .getCertificate pf slot offset length, _ => execGetCertificate_held pf slot offset length s
  | .challenge pf slot nonce, _ => execChallenge_held pf slot nonce s
  | .getMeasurements pf index nonce signed, _ => execGetMeasurements_held pf index nonce signed s
  | .spdmUnsupportedRequest pf code, _ => execSpdmUnsupportedRequest_held pf code s
  | .hifCntclr pf, _ => execHifCntclr_held pf s
  | .sqTailDoorbellWrite fn qid val, _ => execSqTailDoorbellWrite_held fn qid val s
  | .cqHeadDoorbellWrite fn qid val, _ => execCqHeadDoorbellWrite_held fn qid val s
  | .fetchGrant, _ => execFetchGrant_held s
  | .submissionFetchComplete port tag entries, _ => execSubmissionFetchComplete_held port tag entries s
  | .interlockAdmit, _ => execInterlockAdmit_held s
  | .stitchCut, _ => execStitchCut_held s
  | .resourceGrant res, _ => execResourceGrant_held res s
  | .stitchResume stitch, _ => execStitchResume_held stitch s
  | .stitchAgingExpiry stitch, _ => execStitchAgingExpiry_held stitch s
  | .level6Starvation res, _ => execLevel6Starvation_held res s
  | .completionPost cmd, _ => execCompletionPost_held cmd s
  | .interruptAggregationTimeout fn cq, _ => execInterruptAggregationTimeout_held fn cq s
  | .msixVectorUnmask fn vec, _ => execMsixVectorUnmask_held fn vec s
  | .controllerReset fn, _ => execControllerReset_held fn s
  | .controllerEnable fn ams asqSize acqSize, _ => execControllerEnable_held fn ams asqSize acqSize s
  | .shutdownNormal fn, _ => execShutdownNormal_held fn s
  | .shutdownAbrupt fn, _ => execShutdownAbrupt_held fn s
  | .shutdownComplete fn, _ => execShutdownComplete_held fn s
  | .qenCntclr pf, _ => execQenCntclr_held pf s
  | .qenHistclr pf, _ => execQenHistclr_held pf s
  | .unsupportedCommand cmd, _ => execUnsupportedCommand_held cmd s
  | .createIoSq cmd qid size cq prio contiguous inCmb, _ => execCreateIoSq_held cmd qid size cq prio contiguous inCmb s
  | .createIoCq cmd qid size vec intEn contiguous inCmb, _ => execCreateIoCq_held cmd qid size vec intEn contiguous inCmb s
  | .deleteIoSq cmd qid, _ => execDeleteIoSq_held cmd qid s
  | .deleteIoCq cmd qid, _ => execDeleteIoCq_held cmd qid s
  | .getLogPage cmd page numd offset sel rae, _ => execGetLogPage_held cmd page numd offset sel rae s
  | .identify cmd cns cntid, _ => execIdentify_held cmd cns cntid s
  | .abort cmd sqid cid, _ => execAbort_held cmd sqid cid s
  | .setFeaturesTimestamp cmd timeMs, _ => execSetFeaturesTimestamp_held cmd timeMs s
  | .getFeatures cmd fid select cdw11, _ => execGetFeatures_held cmd fid select cdw11 s
  | .asyncEventRequest cmd, _ => execAsyncEventRequest_held cmd s
  | .namespaceAttachment cmd attach controllers, _ => execNamespaceAttachment_held cmd attach controllers s
  | .directiveSend cmd dtype doper dspec cdw12, _ => execDirectiveSend_held cmd dtype doper dspec cdw12 s
  | .directiveReceive cmd dtype doper dspec, _ => execDirectiveReceive_held cmd dtype doper dspec s
  | .formatProgressRecord progress, _ => execFormatProgressRecord_held progress s
  | .sanitizeProgressRecord progress, _ => execSanitizeProgressRecord_held progress s
  | .sanitizeOperationEnd ok, _ => execSanitizeOperationEnd_held ok s
  | .firmwareImageDownload cmd offset length data, _ => execFirmwareImageDownload_held cmd offset length data s
  | .firmwareCommit cmd ca fs ms failed, _ => execFirmwareCommit_held cmd ca fs ms failed s
  | .activationDrainTimeout, _ => execActivationDrainTimeout_held s
  | .scheduledActivationDue ms failed, _ => execScheduledActivationDue_held ms failed s
  | .registerAccess cmd write off val mask reserved, _ => execRegisterAccess_held cmd write off val mask reserved s
  | .roleChallenge cmd role reserved, _ => execRoleChallenge_held cmd role reserved s
  | .roleAssume cmd role number sigR sigS, _ => execRoleAssume_held cmd role number sigR sigS s
  | .roleRelease cmd reserved, _ => execRoleRelease_held cmd reserved s
  | .eventWindowRead cmd area count first, _ => execEventWindowRead_held cmd area count first s
  | .lifeCycleTransition cmd target reserved, _ => execLifeCycleTransition_held cmd target reserved s
  | .strandConfigure cmd sel valid vals, _ => execStrandConfigure_held cmd sel valid vals s
  | .strandJoin cmd t, _ => execStrandJoin_held cmd t s
  | .patrolConfigure cmd period flags absW rise reserved, _ => execPatrolConfigure_held cmd period flags absW rise reserved s
  | .supervisorTestRun cmd reserved code, _ => execSupervisorTestRun_held cmd reserved code s
  | .supervisorTestYield cmd reserved, _ => execSupervisorTestYield_held cmd reserved s
  | .calibrationRowRead cmd numd offset, _ => execCalibrationRowRead_held cmd numd offset s
  | .flush cmd, _ => execFlush_held cmd s
  | .read cmd, _ => execRead_held cmd s
  | .write cmd data cmp, _ => execWrite_held cmd data cmp s
  | .writeUncorrectable cmd, _ => execWriteUncorrectable_held cmd s
  | .compare cmd data, _ => execCompare_held cmd data s
  | .writeZeroes cmd, _ => execWriteZeroes_held cmd s
  | .datasetManagement cmd ad, _ => execDatasetManagement_held cmd ad s
  | .verify cmd, _ => execVerify_held cmd s
  | .ioManagementReceive cmd mo, _ => execIoManagementReceive_held cmd mo s
  | .reclaimUnitHandleUpdate cmd handles, _ => execReclaimUnitHandleUpdate_held cmd handles s
  | .copy cmd, _ => execCopy_held cmd s
  | .strandCopyPush cmd path win target off, _ => execStrandCopyPush_held cmd path win target off s
  | .mapUnitApply cmd nsid unit, _ => execMapUnitApply_held cmd nsid unit s
  | .seamStart e bad, _ => execSeamStart_held e bad s
  | .seamCommit copy, _ => execSeamCommit_held copy s
  | .rmwWriteback job bad, _ => execRmwWriteback_held job bad s
  | .mapSegmentStall cause e, _ => execMapSegmentStall_held cause e s
  | .segmentRecoveryComplete ok replayed, _ => execSegmentRecoveryComplete_held ok replayed s
  | .ownerTableError e done, _ => execOwnerTableError_held e done s
  | .ageEpochTick, _ => execAgeEpochTick_held s
  | .mapCntclr pf, _ => execMapCntclr_held pf s
  | .mapHistclr pf, _ => execMapHistclr_held pf s
  | .holdOkDeassert, _ => execHoldOkDeassert_held s
  | .holdOkAssert, _ => execHoldOkAssert_held s
  | .protectedModeTimer, _ => execProtectedModeTimer_held s
  | .writeBufferUe cmd lba, _ => execWriteBufferUe_held cmd lba s
  | .rowProgramIssue course pos, _ => execRowProgramIssue_held course pos s
  | .programComplete course pos, _ => execProgramComplete_held course pos s
  | .programFail course pos, _ => execProgramFail_held course pos s
  | .parityProgramFail course pos, _ => execParityProgramFail_held course pos s
  | .rowIdleTimeout course, _ => execRowIdleTimeout_held course s
  | .exposedRowTimeout course, _ => execExposedRowTimeout_held course s
  | .eraseIssue die block, _ => execEraseIssue_held die block s
  | .eraseComplete die pass, _ => execEraseComplete_held die pass s
  | .openCheck die block pass, _ => execOpenCheck_held die block pass s
  | .destageMove course bad, _ => execDestageMove_held course bad s
  | .parityAccumulatorUe course, _ => execParityAccumulatorUe_held course s
  | .crsCntclr pf, _ => execCrsCntclr_held pf s
  | .crsPflogclr pf, _ => execCrsPflogclr_held pf s
  | .pageReadIssue read, _ => execPageReadIssue_held read s
  | .codewordArrival read erased, _ => execCodewordArrival_held read erased s
  | .decodeComplete read ok synd level check pi, _ => execDecodeComplete_held read ok synd level check pi s
  | .reconstructionComplete read lost check pi, _ => execReconstructionComplete_held read lost check pi s
  | .tailCutDeadline read, _ => execTailCutDeadline_held read s
  | .tlerLimit read, _ => execTlerLimit_held read s
  | .slowProbeTimer die tr total, _ => execSlowProbeTimer_held die tr total s
  | .slowDieHoldExpiry die, _ => execSlowDieHoldExpiry_held die s
  | .eccCntclr pf, _ => execEccCntclr_held pf s
  | .eccSlowlogclr pf, _ => execEccSlowlogclr_held pf s
  | .eccRelease pf, _ => execEccRelease_held pf s
  | .victimSelect, _ => execVictimSelect_held s
  | .reclaimCopy course bad, _ => execReclaimCopy_held course bad s
  | .moveCommit copy, _ => execMoveCommit_held copy s
  | .courseAgeRefresh course, _ => execCourseAgeRefresh_held course s
  | .readOnlyStall, _ => execReadOnlyStall_held s
  | .rclCntclr pf, _ => execRclCntclr_held pf s
  | .rclTtclr pf, _ => execRclTtclr_held pf s
  | .groupTimerExpiry, _ => execGroupTimerExpiry_held s
  | .journalCopyFail copy pos, _ => execJournalCopyFail_held copy pos s
  | .anchorTimer, _ => execAnchorTimer_held s
  | .checkpointInterval len, _ => execCheckpointInterval_held len s
  | .checkpointMark num, _ => execCheckpointMark_held num s
  | .pfailAssert, _ => execPfailAssert_held s
  | .lifCntclr pf, _ => execLifCntclr_held pf s
  | .lifPfhistclr pf, _ => execLifPfhistclr_held pf s
  | .statusPoll die ready, _ => execStatusPoll_held die ready s
  | .flashOpTimeout die kind obj rate, _ => execFlashOpTimeout_held die kind obj rate s
  | .lunResetTimeout die, _ => execLunResetTimeout_held die s
  | .zqShortTimer skein, _ => execZqShortTimer_held skein s
  | .tempRetrain skein tj failed, _ => execTempRetrain_held skein tj failed s
  | .skeinLinkStall skein, _ => execSkeinLinkStall_held skein s
  | .skeinLinkDownLong skein, _ => execSkeinLinkDownLong_held skein s
  | .skeinFailed skein, _ => execSkeinFailed_held skein s
  | .sknCntclr pf skein, _ => execSknCntclr_held pf skein s
  | .sknRetrain pf skein, _ => execSknRetrain_held pf skein s
  | .chnRetrain pf chan, _ => execChnRetrain_held pf chan s
  | .hbmRefresh pc bank waiting, _ => execHbmRefresh_held pc bank waiting s
  | .rowActivateLimit pc bank row port, _ => execRowActivateLimit_held pc bank row port s
  | .throttleExpiry pc bank port, _ => execThrottleExpiry_held pc bank port s
  | .hbmMaxwait port, _ => execHbmMaxwait_held port s
  | .hbmScrubPeriod corrected, _ => execHbmScrubPeriod_held corrected s
  | .hbmUncorrectable addr port hit repaired, _ => execHbmUncorrectable_held addr port hit repaired s
  | .hbmZeroDone ms, _ => execHbmZeroDone_held ms s
  | .hbmCntclr pf, _ => execHbmCntclr_held pf s
  | .hbmScrubnow pf, _ => execHbmScrubnow_held pf s
  | .cmpBypassTimeout slot, _ => execCmpBypassTimeout_held slot s
  | .cmpTestRun pf failed, _ => execCmpTestRun_held pf failed s
  | .cmpCntclr pf, _ => execCmpCntclr_held pf s
  | .supervisorWatchdog, _ => execSupervisorWatchdog_held s
  | .taskLimitExpiry, _ => execTaskLimitExpiry_held s
  | .supervisorSelfCheckFail cause, _ => execSupervisorSelfCheckFail_held cause s
  | .switchOver ms badBank completed redone tested, _ => execSwitchOver_held ms badBank completed redone tested s
  | .snapshotTimer, _ => execSnapshotTimer_held s
  | .standbySelfTest code failed, _ => execStandbySelfTest_held code failed s
  | .standbyTestRetry code, _ => execStandbyTestRetry_held code s
  | .supCntclr pf, _ => execSupCntclr_held pf s
  | .supLogclr pf, _ => execSupLogclr_held pf s
  | .apstIdleTimeout fn, _ => execApstIdleTimeout_held fn s
  | .powerStateEntry base, _ => execPowerStateEntry_held base s
  | .drainLimit, _ => execDrainLimit_held s
  | .wake cause dur ok, _ => execWake_held cause dur ok s
  | .ps2SlotTimer, _ => execPs2SlotTimer_held s
  | .patrolWake temps holdOk canaries us dur ok, _ => execPatrolWake_held temps holdOk canaries us dur ok s
  | .ps3SensorSample temps holdOk, _ => execPs3SensorSample_held temps holdOk s
  | .pwrCntclr pf, _ => execPwrCntclr_held pf s
  | .pwrHistclr pf, _ => execPwrHistclr_held pf s
  | .patCntclr pf, _ => execPatCntclr_held pf s
  | .heartbeat h digest, _ => execHeartbeat_held h digest s
  | .hbReply h t1 t2 t3 t4 epoch, _ => execHbReply_held h t1 t2 t3 t4 epoch s
  | .ack h copy slots, _ => execAck_held h copy slots s
  | .nak h cause win copy seq, _ => execNak_held h cause win copy seq s
  | .hold h ms, _ => execHold_held h ms s
  | .copyOpen h copy win off count, _ => execCopyOpen_held h copy win off count s
  | .data h copy win off slots wellFormed, _ => execData_held h copy win off slots wellFormed s
  | .copyEnd h copy sent reason, _ => execCopyEnd_held h copy sent reason s
  | .rollup h entries, _ => execRollup_held h entries s
  | .registry h seq entries, _ => execRegistry_held h seq entries s
  | .manager h role epoch id, _ => execManager_held h role epoch id s
  | .join h t, _ => execJoin_held h t s
  | .joinAck h entries, _ => execJoinAck_held h entries s
  | .patrolNotice h, _ => execPatrolNotice_held h s
  | .fwPart h offset blocks, _ => execFwPart_held h offset blocks s
  | .schedule h answer time ok, _ => execSchedule_held h answer time ok s
  | .heartbeatTimer, _ => execHeartbeatTimer_held s
  | .heartbeatMiss peer, _ => execHeartbeatMiss_held peer s
  | .ackDelayTimer peer, _ => execAckDelayTimer_held peer s
  | .retransmitTimeout peer seq, _ => execRetransmitTimeout_held peer seq s
  | .holdExpiry peer, _ => execHoldExpiry_held peer s
  | .strandWriteTimeout copy, _ => execStrandWriteTimeout_held copy s
  | .strandWriteAck copy fetch, _ => execStrandWriteAck_held copy fetch s
  | .creditWaitTimeout peer, _ => execCreditWaitTimeout_held peer s
  | .rollupTimer, _ => execRollupTimer_held s
  | .sectionRollupStale sect, _ => execSectionRollupStale_held sect s
  | .registryTimer, _ => execRegistryTimer_held s
  | .managerLost, _ => execManagerLost_held s
  | .registryLoadTimeout, _ => execRegistryLoadTimeout_held s
  | .timeExchangeTimeout, _ => execTimeExchangeTimeout_held s
  | .strandPortLinkChange port up, _ => execStrandPortLinkChange_held port up s
  | .strWselWrite pf win, _ => execStrWselWrite_held pf win s
  | .strWctlCommit pf, _ => execStrWctlCommit_held pf s
  | .strCntclr pf, _ => execStrCntclr_held pf s
  | .fwuCntclr pf, _ => execFwuCntclr_held pf s
  | .fwuDiscard pf, _ => execFwuDiscard_held pf s
  | .cfsScrubPeriod one two bad, _ => execCfsScrubPeriod_held one two bad s
  | .cfsScrub pf one two bad, _ => execCfsScrub_held pf one two bad s
  | .cfsCntclr pf, _ => execCfsCntclr_held pf s
  | .cfsDpselWrite pf val, _ => execCfsDpselWrite_held pf val s
  | .cfsDpdataAccess pf write val, _ => execCfsDpdataAccess_held pf write val s
  | .cfsDpctlCommit pf, _ => execCfsDpctlCommit_held pf s
  | .cfsDpctlDiscard pf, _ => execCfsDpctlDiscard_held pf s
  | .sessionIdleTimeout pf, _ => execSessionIdleTimeout_held pf s
  | .secKselWrite pf val, _ => execSecKselWrite_held pf val s
  | .secKdataAccess pf write val, _ => execSecKdataAccess_held pf write val s
  | .secKctlCommit pf, _ => execSecKctlCommit_held pf s
  | .secKctlDiscard pf, _ => execSecKctlDiscard_held pf s
  | .secDbgUnlock pf, _ => execSecDbgUnlock_held pf s
  | .secCntclr pf, _ => execSecCntclr_held pf s
  | .secDenyclr pf, _ => execSecDenyclr_held pf s
  | .eventPersistTimer, _ => execEventPersistTimer_held s
  | .evwData0Read pf, _ => execEvwData0Read_held pf s
  | .evwData7Read pf, _ => execEvwData7Read_held pf s
  | .evwCursorWrite pf seq, _ => execEvwCursorWrite_held pf seq s
  | .evwSeekold pf, _ => execEvwSeekold_held pf s
  | .evwSeeknew pf, _ => execEvwSeeknew_held pf s
  | .genScrclr pf, _ => execGenScrclr_held pf s
  | .miStatusRead dur ok, _ => execMiStatusRead_held dur ok s
  | .miVendorIdRead dur ok, _ => execMiVendorIdRead_held dur ok s
  | .i3cSetdasa addr, _ => execI3cSetdasa_held addr s
  | .i3cRstdaa, _ => execI3cRstdaa_held s
  | .healthPublishTimer, _ => execHealthPublishTimer_held s
  | .dieTjPast105 die above, _ => execDieTjPast105_held die above s
  | .hbmStackPast85 stack temp, _ => execHbmStackPast85_held stack temp s
  | .temperatureThresholdCross sensor temp, _ => execTemperatureThresholdCross_held sensor temp s
  | .skeinLinkRecovered skein rates, _ => execSkeinLinkRecovered_held skein rates s
  | .neighbourSolicitation port target source mac advert, _ => execNeighbourSolicitation_held port target source mac advert s
  | .coldStart .., h | .cleanStop .., h | .sanitize .., h | .eventRoundClear .., h | .cfsProgramComplete .., h | .namespaceCreate .., h
  | .namespaceDelete .., h | .formatNvm .., h | .setFeatures .., h | .groupCommit .., h | .dumpEnd .., h | .cfsEraseComplete .., h => nomatch h

theorem Holds.namespaces {s : State} {o : Host.Outcome State Fault Refusal} (h : Holds s o) : HoldsN s o := fun t ht => by rw [h t ht]

/-- A start, a clean stop, a sanitize, a round clear and the end of a program change other parts, but no namespace. -/
theorem exec_holdsN {c : Instr} (s : State) (hc : changesNamespaces c = false) : HoldsN s (exec c s) := by
  by_cases hheld : changesHeld c = false
  · exact (exec_holds s c hheld).namespaces
  · unfold changesHeld at hheld
    split at hheld
    · exact execColdStart_heldN _ s
    · exact execCleanStop_heldN _ s
    · exact execSanitize_heldN _ _ _ _ _ _ s
    · exact execEventRoundClear_heldN _ _ s
    · exact execCfsProgramComplete_heldN _ _ _ s
    · exact absurd hc hheld

/-- Settles O44: a row outside `changesNamespaces` changes no part of `Held`, or another part than the namespaces. -/
theorem namespacesChangeOnlyByManagement : Obligations.NamespacesChangeOnlyByManagement := by
  unfold Obligations.NamespacesChangeOnlyByManagement
  exact fun s t _ hc ht => exec_holdsN s hc t ht

end Sys2Proof.Machine
end

section
/-! SUPPORT. The rows of the temperature sensors, of the health copy and of the management sideband (R145, R354, R497, R498): what each of them
finds and answers, in the layout of log entry 107. -/

namespace Sys2Proof.Machine

/-! ### The health copy (R354, R497, R498) -/

section
variable {s : State}

/-- The health timer's row arms the timer afresh, and publishes unless a switch-over, PS3 or PS4, or a dump forbids it. -/
theorem exec_healthPublishTimer_armed (ha : s.armed .healthPublish = true) :
    exec .healthPublishTimer s = .next ((if s.sup.yielded.isSome || decide (3 ≤ s.ps) || s.dump.running.isSome then s.expire .healthPublish
      else (s.expire .healthPublish).publish).arm .healthPublish (nsMs 100)) := by
  show execHealthPublishTimer s = _
  refine (onTimer_armed ha _).trans ?_
  rw [State.expire_frame]
  rfl

theorem exec_healthPublishTimer_publishes (ha : s.armed .healthPublish = true) (hy : s.sup.yielded = none) (hps : s.ps ≤ 2)
    (hd : s.dump.running = none) :
    ∃ t, exec .healthPublishTimer s = .next t ∧ t.pins.health = (s.expire .healthPublish).publish.pins.health ∧
      t.armed .healthPublish = true := by
  have hawake : (s.sup.yielded.isSome || decide (3 ≤ s.ps) || s.dump.running.isSome) = false := by
    simp [hy, hd]
    omega
  refine ⟨_, exec_healthPublishTimer_armed ha, ?_, State.armed_arm _ _ _⟩
  rw [hawake]
  rfl

theorem exec_healthPublishTimer_asleep (ha : s.armed .healthPublish = true) (hps : 3 ≤ s.ps) :
    ∃ t, exec .healthPublishTimer s = .next t ∧ t.pins = s.pins ∧ t.armed .healthPublish = true := by
  refine ⟨_, exec_healthPublishTimer_armed ha, ?_, State.armed_arm _ _ _⟩
  rw [if_pos (by simp [hps]), State.arm_pins, State.expire_frame]

end

/-! ### The management sideband (R497, R498) -/

section
variable {s : State} {d : Nat} {ok : Bool} {r : List Nat × State}

/-- Awake and outside a dump a basic management read is answered, and nothing else happens. -/
theorem miRead_answered (haon : s.clk.aonUp = true) (hd : s.dump.running = none) (hps : s.ps ≤ 2) :
    miRead s d ok r = .next (r.2.send (.sideband r.1)) := by
  simp [miRead, haon, hd, show ¬ 3 ≤ s.ps by omega]

theorem miRead_in_dump (haon : s.clk.aonUp = true) (hd : s.dump.running.isSome = true) : miRead s d ok r = .next s := by
  simp [miRead, haon, hd]

end

/-- Settles O24: a sensor's sample is noted, the health copy is published or held back, and a read is answered or left unanswered. -/
theorem managementRowsComplete : Obligations.ManagementRowsComplete := by
  unfold Obligations.ManagementRowsComplete
  refine ⟨?temperature, fun s ha hy hps hd => exec_healthPublishTimer_publishes ha hy hps hd,
    fun s ha hps => exec_healthPublishTimer_asleep ha hps, ?cancelled, ?status, ?vendorId, ?dump, ?setdasa, ?rstdaa⟩
  case temperature =>
    intro s i c hlo hhi hps
    exact guarded_true _ _ _ (by simp [hlo, hhi, hps])
  case cancelled =>
    intro s ha
    show execHealthPublishTimer s = _
    exact onTimer_unarmed ha _
  case status =>
    intro s d ok haon hd hps
    exact ⟨_, _, miRead_answered haon hd hps, rfl, rfl, rfl, rfl⟩
  case vendorId =>
    intro s d ok haon hd hps
    exact ⟨_, _, miRead_answered haon hd hps, rfl, rfl⟩
  case dump =>
    intro s d ok haon hd
    exact ⟨miRead_in_dump haon hd, miRead_in_dump haon hd⟩
  case setdasa =>
    intro s a haon ha
    show execI3cSetdasa a s = _
    rw [execI3cSetdasa, if_neg (by simp [haon]), guarded_true _ _ _ (decide_eq_true ha)]
  case rstdaa =>
    intro s haon
    show execI3cRstdaa s = _
    rw [execI3cRstdaa, if_neg (by simp [haon])]

end Sys2Proof.Machine
end

section
/-! SUPPORT. The rows that create, delete, attach, format and sanitize namespaces (R138, R141 to R144, R157, R460, R461): which check decides each of
them, and what a command of a PF then begins or ends with. -/

namespace Sys2Proof.Machine

/-! ### A running command of a PF (R129, R355) -/

section
variable {s : State} {c : Nat} {k : Cmd}

theorem State.PfRuns.adminRuns (h : s.PfRuns c k) : s.AdminRuns c k := h.1

theorem State.PfRuns.isPf_fn (h : s.PfRuns c k) : isPf k.fn = true := isPf_of_lt h.2

/-- The row of a PF's running command is what its body does. -/
theorem onPf_of_runs (h : s.PfRuns c k) (body : Cmd → State) : onPf s c body = .next (body k) :=
  (onAdmin_of_runs h.adminRuns _).trans (by rw [if_pos h.isPf_fn])

/-- On a VF the opcode is absent (R129). -/
theorem onPf_of_vf (h : s.AdminRuns c k) (hvf : 2 ≤ k.fn) (body : Cmd → State) : onPf s c body = .next (s.finish c St.badOpcode) :=
  (onAdmin_of_runs h _).trans (by rw [if_neg (by simp [isPf, Nat.lt_of_lt_of_le Nat.one_lt_two hvf])])

/-- A supervisor-owned command is carried out while a supervisor serves it. -/
theorem State.superGate_free (h : s.SupervisorFree) (c : Nat) (t : State) : s.superGate c t = t := by
  obtain ⟨hfailed, hyielded⟩ := h
  simp [State.superGate, hfailed, hyielded]

/-- The row of a PF's command that a supervisor owns is what its body does while a supervisor serves it. -/
theorem onPf_of_served (h : s.PfRuns c k) (hsup : s.SupervisorFree) (body : Cmd → State) :
    onPf s c (fun x => s.superGate c (body x)) = .next (body k) :=
  (onPf_of_runs h _).trans (by rw [State.superGate_free hsup])

/-- A refused command ends with its status, and its slot, its stitches and their timers alone have changed. -/
theorem State.AdminRuns.ends (h : s.AdminRuns c k) (st : Status) :
    (s.finish c st).Ended c st ∧ (s.finish c st).nss = s.nss ∧ (s.finish c st).adm = s.adm :=
  ⟨h.finish_ended rfl st, by rw [State.finish_frame], State.finish_adm _ _ _ _⟩

/-- A command that goes on to wait for the store, from a state that has not touched its slot. -/
theorem State.AdminRuns.awaitsStore {t : State} (h : s.AdminRuns c k) (hq : t.q = s.q) (n : Nat) :
    (t.updCmd c (fun x => { x with phase := .waitStore, doneSlots := n })).AwaitsStore c := by
  rw [State.AwaitsStore, State.cmd_updCmd, State.cmd_congr c hq, h.cmd_eq]
  rfl

end

/-! ### Creation (R138, R157, R460) -/

section
variable {s : State} {c mib lbaf pi : Nat} {k : Cmd}

/-- The namespace that an accepted creation without placement handles makes. -/
def State.created (s : State) (mib lbaf pi : Nat) (piFirst : Bool) : Ns :=
  ⟨256 * mib, lbaf, pi, piFirst, freeGranules s.usedGranules 1048576 ((256 * mib + 262143) / 262144) 0, false, [0], false⟩

/-- A creation of whole MiB in a format that R135 offers is decided by the capacity left and by the NSIDs left. -/
theorem exec_namespaceCreate_checked (piFirst : Bool) (h : s.PfRuns c k) (hmib : mib ≠ 0) (hfmt : formatOk lbaf pi = true) :
    exec (.namespaceCreate c (256 * mib) (256 * mib) lbaf pi piFirst []) s = .next (
      if s.userMib < s.nsMib + mib then s.finish c St.capacity
      else if 1024 < firstFree 1 s.nss then s.finish c St.noNsid
      else ((((({ s with nss := Tab.put (firstFree 1 s.nss) (s.created mib lbaf pi piFirst) s.nss } : State).newSeed (firstFree 1 s.nss)).cfsRequest
        3 .keySet keySetWords).mapCnt 26).updCmd c (fun x => { x with phase := .waitStore, doneSlots := firstFree 1 s.nss }))) := by
  have hsize : ¬(256 * mib ≠ 256 * mib ∨ 256 * mib = 0 ∨ 256 * mib % 256 ≠ 0) := by omega
  have hhandles : ¬(16 < ([] : List Nat).length ∨ ([] : List Nat).any (fun x => decide (16 ≤ x)) = true ∨
      (s.adm.fdp.isNone = true ∧ (!([] : List Nat).isEmpty) = true)) := by simp
  refine (onPf_of_runs h _).trans ?_
  rw [if_neg hsize, if_neg (by simp [hfmt]), if_neg hhandles, Nat.mul_div_cancel_left mib (by decide : 0 < 256)]
  rfl

theorem exec_namespaceCreate_ok (piFirst : Bool) (h : s.PfRuns c k) (hmib : mib ≠ 0) (hfmt : formatOk lbaf pi = true)
    (hroom : s.nsMib + mib ≤ s.userMib) (hid : firstFree 1 s.nss ≤ 1024) :
    ∃ t, exec (.namespaceCreate c (256 * mib) (256 * mib) lbaf pi piFirst []) s = .next t ∧ t.AwaitsStore c ∧
      Tab.find (firstFree 1 s.nss) t.nss = some (s.created mib lbaf pi piFirst) ∧
      t.keys.seeds = Tab.put (firstFree 1 s.nss) (Config.freeNat s.free) s.keys.seeds := by
  have hrow := exec_namespaceCreate_checked piFirst h hmib hfmt
  rw [if_neg (Nat.not_lt.2 hroom), if_neg (Nat.not_lt.2 hid), State.cfsRequest_frame] at hrow
  exact ⟨_, hrow, h.adminRuns.awaitsStore rfl _, Tab.find_put_self _ _ _, rfl⟩

theorem exec_namespaceCreate_full (piFirst : Bool) (h : s.PfRuns c k) (hmib : mib ≠ 0) (hfmt : formatOk lbaf pi = true)
    (hfull : s.userMib < s.nsMib + mib) :
    ∃ t, exec (.namespaceCreate c (256 * mib) (256 * mib) lbaf pi piFirst []) s = .next t ∧ t.Ended c ⟨1, 0x15, true⟩ ∧ t.nss = s.nss := by
  have hrow := exec_namespaceCreate_checked piFirst h hmib hfmt
  rw [if_pos hfull] at hrow
  obtain ⟨hended, hnss, -⟩ := h.adminRuns.ends St.capacity
  exact ⟨_, hrow, hended, hnss⟩

end

/-! ### Deletion and attachment (R138, R157, R461) -/

section
variable {s : State} {c : Nat} {k : Cmd}

theorem exec_namespaceDelete_one (h : s.PfRuns c k) (hone : k.sqe.nsid ≠ 0xFFFFFFFF) (hthere : Tab.has k.sqe.nsid s.nss = true)
    (hfmt : s.formattingNs k.sqe.nsid = false) :
    exec (.namespaceDelete c) s = .next (((((s.deleteNs k.sqe.nsid).cryptoStart [k.sqe.nsid] 4).updCmd c
      (fun x => { x with phase := .waitStore })).cryptoStep)) := by
  refine (onPf_of_runs h _).trans ?_
  rw [if_neg hone, if_neg (by simp [hthere]), if_neg (by simp [hfmt])]
  rfl

theorem exec_namespaceDelete_vf (h : s.AdminRuns c k) (hvf : 2 ≤ k.fn) :
    ∃ t, exec (.namespaceDelete c) s = .next t ∧ t.Ended c ⟨0, 0x01, true⟩ ∧ t.nss = s.nss := by
  obtain ⟨hended, hnss, -⟩ := h.ends St.badOpcode
  exact ⟨_, onPf_of_vf h hvf _, hended, hnss⟩

theorem exec_namespaceAttachment_one {i : Nat} (h : s.PfRuns c k) (hthere : Tab.has k.sqe.nsid s.nss = true) (hlo : 1 ≤ i) (hhi : i ≤ 1026)
    (hoff : (s.func (i - 1)).nss.contains k.sqe.nsid = false) :
    exec (.namespaceAttachment c true [i]) s = .next (((s.updFunc (i - 1) (fun f => { f with nss := insertNew k.sqe.nsid f.nss })).nsChanged
      k.sqe.nsid [i - 1]).finish c St.ok) := by
  have hcontrollers : ¬([i].isEmpty = true ∨ [i].any (fun j => decide (j = 0) || decide (1026 < j)) = true) := by
    simp
    omega
  have hdetached : ¬(true = true ∧ [i].any (fun j => (s.func (j - 1)).nss.contains k.sqe.nsid) = true) := by
    rw [List.any_cons, hoff]
    simp
  refine (onPf_of_runs h _).trans ?_
  rw [if_neg (by simp [hthere]), if_neg hcontrollers, if_neg hdetached, if_neg (by simp)]
  rfl

end

/-! ### Format NVM (R141, R142) -/

section
variable {s : State} {c ses lbaf pi : Nat} {k : Cmd}

theorem exec_formatNvm_begins (piFirst : Bool) (h : s.PfRuns c k) (hsup : s.SupervisorFree) (hone : k.sqe.nsid ≠ 0xFFFFFFFF) (hses : ses ≤ 2)
    (hfmt : formatOk lbaf pi = true) (hthere : Tab.has k.sqe.nsid s.nss = true)
    (hcmp : lbaf = 0 ∨ (Tab.find k.sqe.nsid s.nss).any (·.compress) = false) (hnone : s.formattingNs k.sqe.nsid = false)
    (hro : s.flag F.rclRoRo = false ∨ ses = 2) :
    exec (.formatNvm c ses lbaf pi piFirst) s = .next (((((s.formatBegin c ses lbaf pi piFirst k.sqe.nsid [k.sqe.nsid]).formatRun
      [k.sqe.nsid] ses).updCmd c (fun x => { x with phase := .waitStore })).cryptoStep).formatStep) := by
  refine (onPf_of_served h hsup _).trans ?_
  dsimp only
  rw [if_neg hone, if_neg (Nat.not_lt.2 hses), if_neg (by simp [hfmt]), if_neg (by simp [hthere]), if_neg, if_neg (by simp [hnone]), if_neg]
  · rintro ⟨hro', hses'⟩
    rcases hro with hro | hses2
    · simp [hro] at hro'
    · exact hses' hses2
  · rintro ⟨hlbaf, hany⟩
    rcases hcmp with hzero | hplain
    · exact hlbaf hzero
    · simp [hplain] at hany

theorem exec_formatNvm_badSes (lbaf pi : Nat) (piFirst : Bool) (h : s.PfRuns c k) (hsup : s.SupervisorFree) (hses : 2 < ses) :
    ∃ t, exec (.formatNvm c ses lbaf pi piFirst) s = .next t ∧ t.Ended c ⟨0, 0x02, true⟩ ∧ t.nss = s.nss := by
  have hrow : exec (.formatNvm c ses lbaf pi piFirst) s = .next (s.finish c St.badField) :=
    (onPf_of_served h hsup _).trans (by rw [if_pos hses])
  obtain ⟨hended, hnss, -⟩ := h.adminRuns.ends St.badField
  exact ⟨_, hrow, hended, hnss⟩

theorem exec_formatProgressRecord_runs (n : Nat) (h : s.adm.format.state = 1) :
    ∃ t, exec (.formatProgressRecord n) s = .next t ∧ t.adm.format.progress = Nat.min 65535 n ∧ t.adm.format.last = s.devTime ∧
      t.nss = s.nss := by
  refine ⟨_, guarded_true _ _ _ (decide_eq_true h), ?_⟩
  rw [State.cfsRequest_frame]
  exact ⟨rfl, rfl, rfl⟩

end

/-! ### Sanitize (R143, R144) -/

section
variable {s : State} {c : Nat} {k : Cmd}

theorem exec_sanitize_cryptoErase (passes pattern : Nat) (invert noDealloc : Bool) (h : s.PfRuns c k) (hsup : s.SupervisorFree)
    (hfmt : s.adm.format.state ≠ 1) :
    exec (.sanitize c 4 passes pattern invert noDealloc) s =
      .next (((((s.sanitizeBegin 4 passes pattern invert noDealloc).sanitizeErase 4).finish c St.ok).cryptoStep)) :=
  (onPf_of_served h hsup _).trans (by rw [if_neg (by omega), if_neg (by simp), if_neg hfmt])

theorem exec_sanitize_badAction {action : Nat} (passes pattern : Nat) (invert noDealloc : Bool) (h : s.PfRuns c k) (hsup : s.SupervisorFree)
    (haction : action < 2 ∨ 4 < action) :
    ∃ t, exec (.sanitize c action passes pattern invert noDealloc) s = .next t ∧ t.Ended c ⟨0, 0x02, true⟩ ∧ t.adm = s.adm := by
  have hrow : exec (.sanitize c action passes pattern invert noDealloc) s = .next (s.finish c St.badField) :=
    (onPf_of_served h hsup _).trans (by rw [if_pos (by omega)])
  obtain ⟨hended, -, hadm⟩ := h.adminRuns.ends St.badField
  exact ⟨_, hrow, hended, hadm⟩

/-- Writing the progress of a sanitize to the store changes neither the admin state nor the namespaces. -/
theorem State.recordSanitize_frame (s : State) : s.recordSanitize = { s with cfs := s.recordSanitize.cfs, sup := s.recordSanitize.sup } := by
  unfold State.recordSanitize
  rw [State.cfsRequest_frame]

theorem exec_sanitizeProgressRecord_runs (n : Nat) (h : s.sanitizing = true) :
    ∃ t, exec (.sanitizeProgressRecord n) s = .next t ∧ t.adm.sanitize.progress = Nat.min 65535 n ∧ t.sanitizing = true := by
  refine ⟨_, guarded_true _ _ _ h, ?_⟩
  rw [State.recordSanitize_frame]
  exact ⟨rfl, h⟩

/-- Outside an overwrite, and with no crypto erase of it under way, the end of a sanitize is noted as it came. -/
theorem exec_sanitizeOperationEnd_noted (ok : Bool) (h : s.sanitizing = true) (hcrypto : ∀ r ∈ s.adm.crypto, r.why ≠ 2)
    (haction : s.adm.sanitize.action ≠ 3) :
    ∃ t, exec (.sanitizeOperationEnd ok) s = .next t ∧ t.adm.sanitize.state = (if ok then 1 else 3) ∧ t.adm.sanitize.progress = 65535 ∧
      t.nss = s.nss := by
  have hover : ¬((ok && decide (s.adm.sanitize.action = 3)) = true) := by simp [haction]
  have hnone : s.adm.crypto.any (fun r => decide (r.why = 2)) = false := by simpa using hcrypto
  refine ⟨_, guarded_true _ _ _ (by rw [h, hnone, Bool.and_false]; rfl), ?_⟩
  rw [if_neg hover, State.recordSanitize_frame]
  exact ⟨rfl, rfl, rfl⟩

end

/-- Settles O10: each row of a running command finds which of its checks decides, and begins, ends or records what is stated. -/
theorem namespaceRowsComplete : Obligations.NamespaceRowsComplete := by
  unfold Obligations.NamespaceRowsComplete
  exact ⟨fun _ _ _ _ _ piFirst _ h hm hf hr hi => exec_namespaceCreate_ok piFirst h hm hf hr hi,
    fun _ _ _ _ _ piFirst _ h hm hf hu => exec_namespaceCreate_full piFirst h hm hf hu,
    fun _ _ _ h ho ht hf => exec_namespaceDelete_one h ho ht hf, fun _ _ _ h hv => exec_namespaceDelete_vf h hv,
    fun _ _ _ _ h ht hlo hhi ho => exec_namespaceAttachment_one h ht hlo hhi ho,
    fun _ _ _ _ _ piFirst _ h hs ho hses hf ht hc hn hr => exec_formatNvm_begins piFirst h hs ho hses hf ht hc hn hr,
    fun _ _ _ lbaf pi piFirst _ h hs hses => exec_formatNvm_badSes lbaf pi piFirst h hs hses,
    fun _ n h => exec_formatProgressRecord_runs n h,
    fun _ _ passes pattern i n _ h hs hf => exec_sanitize_cryptoErase passes pattern i n h hs hf,
    fun _ _ _ passes pattern i n _ h hs ha => exec_sanitize_badAction passes pattern i n h hs ha,
    fun _ n h => exec_sanitizeProgressRecord_runs n h, fun _ ok h hc ha => exec_sanitizeOperationEnd_noted ok h hc ha⟩

end Sys2Proof.Machine
end

section
/-! SUPPORT. Sessions, challenges and refusals (R450 to R452, R455, R465, R466): what each of the security unit's updates leaves, and what the rows of
roles and of the life cycle find and answer (R152, R456 to R458). -/

namespace Sys2Proof.Machine

/-! ### The counters of the security unit (R466) -/

theorem secCntCount_dw (n : Nat) : (F.secCntCount n).dw = 0x1940 + 4 * n := by
  simp only [Fld.dw, F.secCntCount, Reg.secCnt]
  omega

theorem secCntCount_fits (n : Nat) : (F.secCntCount n).sh + (F.secCntCount n).wid ≤ 32 := by
  simp only [Fld.sh, F.secCntCount, Reg.secCnt]
  omega

section
variable (s : State) (n : Nat)

theorem State.fld_secCnt : (s.secCnt n).fld (F.secCntCount n) = (s.fld (F.secCntCount n) + 1) % 2 ^ 32 :=
  s.fld_addWrap _ _ (secCntCount_fits n)

/-- The registers of the security unit below its counters keep their fields when one counts. -/
theorem State.fld_secCnt_below {f : Fld} (hf : f.dw < 0x1940) : (s.secCnt n).fld f = s.fld f := by
  rw [State.secCnt, State.addWrap_eq, State.fld_setFld_ne _ _ _ _ (secCntCount_fits n) (.inl (by rw [secCntCount_dw]; omega))]

theorem State.fld_event_secCnt (c a b d e : Nat) (hn : n < 24) :
    (s.event c a b d e).fld (F.secCntCount n) = s.fld (F.secCntCount n) := by
  have hdw : (F.secCntCount n).dw < Reg.evwCtl := by
    rw [secCntCount_dw, Reg.evwCtl]
    omega
  exact s.fld_event _ _ _ _ _ _ (Nat.ne_of_lt (Nat.lt_trans hdw (by decide))) (Nat.ne_of_lt (Nat.lt_trans hdw (by decide)))

@[simp] theorem State.secCnt_sec : (s.secCnt n).sec = s.sec := rfl
@[simp] theorem State.secCnt_q : (s.secCnt n).q = s.q := rfl
@[simp] theorem State.secCnt_tx : (s.secCnt n).tx = s.tx := rfl
@[simp] theorem State.secCnt_armed (id : TimerId) : (s.secCnt n).armed id = s.armed id := rfl

end

/-! ### Sessions (R450) -/

section
variable {s t : State} {pf p : Nat}

theorem State.session_congr (h : t.sec = s.sec) (p : Nat) : t.session p = s.session p := by
  simp only [State.session, h]

theorem State.session_setSession (hpf : pf < 2) (x : Option Session) : (s.setSession pf x).session pf = x := by
  obtain rfl | rfl : pf = 0 ∨ pf = 1 := by omega
  all_goals rfl

/-- The session of the other PF is another part of the state. -/
theorem State.session_setSession_other (hpf : pf < 2) (x : Option Session) : (s.setSession pf x).session (1 - pf) = s.session (1 - pf) := by
  obtain rfl | rfl : pf = 0 ∨ pf = 1 := by omega
  all_goals rfl

theorem State.setSession_frame (s : State) (pf : Nat) (x : Option Session) : s.setSession pf x = { s with sec := (s.setSession pf x).sec } := by
  unfold State.setSession
  split <;> rfl

theorem State.armed_eq_dueOf (s : State) (id : TimerId) : s.armed id = (s.dueOf id).isSome := by
  rw [State.armed, State.dueOf, Option.isSome_map, List.isSome_find?]

/-- An event arms the persistence timer at most. -/
theorem State.armed_event (s : State) {id : TimerId} (c a b d e : Nat) (h : id ≠ .eventPersist) : (s.event c a b d e).armed id = s.armed id := by
  rw [State.armed_eq_dueOf, s.dueOf_event c a b d e h, ← State.armed_eq_dueOf]

@[simp] theorem State.session_finish (s : State) (c : Nat) (st : Status) (d p : Nat) : (s.finish c st d).session p = s.session p :=
  State.session_congr (by rw [State.finish_frame]) p

theorem State.armed_cancel_ne (s : State) {id other : TimerId} (h : id ≠ other) : (s.cancel other).armed id = s.armed id := by
  simp only [State.armed, State.cancel, List.any_filter]
  refine congrArg (List.any s.timers) (funext fun t => ?_)
  by_cases ht : t.id = id <;> simp [ht, h]

/-- The end of a command cancels the aging of its stitches alone (R112). -/
theorem State.armed_finish (s : State) {id : TimerId} (c : Nat) (st : Status) (d : Nat) (h : ∀ n, id ≠ .stitchAging n) :
    (s.finish c st d).armed id = s.armed id := by
  have hdrop : (s.dropStitches c).armed id = s.armed id :=
    List.foldlRecOn _ _ (motive := fun t : State => t.armed id = s.armed id) rfl fun t ht p _ => (t.armed_cancel_ne (h p.1)).trans ht
  unfold State.finish
  split
  · rfl
  · simp only
    split <;> exact hdrop

/-- The counter of SEC_CNT that counts a session's end, by its reason: 7 release, 8 idle, 9 the others (R466). -/
def endCounter : Nat → Nat
  | 1 => 7
  | 2 => 8
  | _ => 9

/-- The end of a session that is open: it is gone with its idle timer, an event tells of it, and its counter counts it (R450, R452). -/
theorem State.endSession_open (h : (s.session pf).isSome = true) (reason : Nat) :
    s.endSession pf reason = (((s.setSession pf none).cancel (.sessionIdle pf)).event 0x1002 pf reason).secCnt (endCounter reason) := by
  obtain ⟨x, hx⟩ := Option.isSome_iff_exists.1 h
  simp only [State.endSession, hx]
  rcases reason with _ | _ | _ | n
  all_goals rfl

theorem State.endSession_closed (h : s.session pf = none) (reason : Nat) : s.endSession pf reason = s := by
  simp only [State.endSession, h]

/-- After the end of a PF's session it has none, and the other PF's is as it was. -/
theorem State.endSession_sessions (hpf : pf < 2) (reason : Nat) :
    (s.endSession pf reason).session pf = none ∧ (s.endSession pf reason).session (1 - pf) = s.session (1 - pf) := by
  cases hopen : (s.session pf).isSome with
  | false =>
    have hnone : s.session pf = none := by simpa using hopen
    rw [State.endSession_closed hnone]
    exact ⟨hnone, rfl⟩
  | true =>
    have hsec : (s.endSession pf reason).sec = (s.setSession pf none).sec := by
      rw [State.endSession_open hopen]
      simp
    rw [State.session_congr hsec, State.session_congr hsec]
    exact ⟨State.session_setSession hpf none, State.session_setSession_other hpf none⟩

theorem State.endSession_q (s : State) (pf reason : Nat) : (s.endSession pf reason).q = s.q := by
  cases hopen : (s.session pf).isSome with
  | false =>
    rw [State.endSession_closed (by simpa using hopen)]
  | true =>
    rw [State.endSession_open hopen, State.setSession_frame]
    simp

/-- An idle session ends when its 15 minutes are over, and SEC_CNT[8] counts it. -/
theorem exec_sessionIdleTimeout_ends (hpf : pf < 2) (ha : s.armed (.sessionIdle pf) = true) (hopen : (s.session pf).isSome = true) :
    ∃ t, exec (.sessionIdleTimeout pf) s = .next t ∧ t.session pf = none ∧ t.session (1 - pf) = s.session (1 - pf) ∧
      t.armed (.sessionIdle pf) = false ∧ t.fld (F.secCntCount 8) = (s.fld (F.secCntCount 8) + 1) % 2 ^ 32 := by
  have hsame : ∀ p, (s.expire (.sessionIdle pf)).session p = s.session p := State.session_congr (by rw [State.expire_frame])
  have heq := State.endSession_open ((congrArg Option.isSome (hsame pf)).trans hopen) 2
  obtain ⟨hgone, hother⟩ := State.endSession_sessions (s := s.expire (.sessionIdle pf)) hpf 2
  have hrow : exec (.sessionIdleTimeout pf) s = .next ((s.expire (.sessionIdle pf)).endSession pf 2) := by
    show execSessionIdleTimeout pf s = _
    exact onTimer_armed ha _
  refine ⟨_, hrow, hgone, hother.trans (hsame _), ?_, ?_⟩
  · rw [heq, State.secCnt_armed, State.armed_event _ _ _ _ _ _ (by simp), State.armed_cancel]
  · rw [heq, endCounter, State.fld_secCnt, State.fld_event_secCnt _ _ _ _ _ _ _ (by decide), State.fld_cancel, State.setSession_frame,
      ← s.fld_expire (.sessionIdle pf)]
    rfl

end

/-! ### Vendor commands (R129, R151) -/

section
variable {s : State} {c : Nat} {k : Cmd} {need : Role}

/-- The row of a vendor command is what its body does where the PF has the role. -/
theorem onVendor_of_runs (h : s.PfRuns c k) (hrole : s.mayAs k.fn need = true) (body : Cmd → State) : onVendor s c need body = .next (body k) :=
  (onAdmin_of_runs h.adminRuns _).trans (by rw [if_neg (by simp [h.isPf_fn]), if_pos hrole])

/-- The row of a vendor command that needs no role is what its body does. -/
theorem onVendor_none (h : s.PfRuns c k) (body : Cmd → State) : onVendor s c .none body = .next (body k) :=
  onVendor_of_runs h rfl body

/-- A command refused before its row does anything ends with its status alone. -/
theorem State.PfRuns.refused_sec (h : s.PfRuns c k) (st : Status) : (s.finish c st).Ended c st ∧ (s.finish c st).sec = s.sec ∧ (s.finish c st).tx = s.tx :=
  ⟨h.adminRuns.finish_ended rfl st, by rw [State.finish_frame], State.finish_tx _ _ _ _⟩

end

/-! ### Challenges (R152) -/

section
variable {s : State} {c r : Nat} {k : Cmd}

theorem Role.ofNum_num (h : r ≤ 3) : (Role.ofNum r).num = r := by
  obtain rfl | rfl | rfl | rfl : r = 0 ∨ r = 1 ∨ r = 2 ∨ r = 3 := by omega
  all_goals rfl

theorem Challenge.block_length (ch : Challenge) (fn lc : Nat) : (ch.block fn lc).length = 32 := by
  simp [Challenge.block]

/-- The challenge that C1h issues in a state. -/
def State.newChallenge (s : State) (r : Nat) : Challenge :=
  ⟨(s.sec.chalNo + 1) % 2 ^ 32, Role.ofNum r, s.clk.mono, false, Config.freeNat s.free⟩

/-- The state in which a PF's challenge has been superseded by a new one. -/
def State.challenged (s : State) (fn r : Nat) : State :=
  { s with free := s.free + 1,
           sec := { s.sec with chalNo := (s.sec.chalNo + 1) % 2 ^ 32, chal0 := if fn = 0 then some (s.newChallenge r) else s.sec.chal0,
                               chal1 := if fn = 1 then some (s.newChallenge r) else s.sec.chal1 } }

theorem exec_roleChallenge_issues (h : s.PfRuns c k) (hlo : 1 ≤ r) (hhi : r ≤ 3) :
    exec (.roleChallenge c r 0) s = .next ((((s.challenged k.fn r).secCnt 0).send (.hostBuf c ((s.newChallenge r).block k.fn s.lc))).finish c St.ok
      (s.newChallenge r).number) :=
  (onVendor_none h _).trans (by rw [if_neg (by omega)]; rfl)

theorem exec_roleChallenge_ok (h : s.PfRuns c k) (hlo : 1 ≤ r) (hhi : r ≤ 3) :
    ∃ t ch, exec (.roleChallenge c r 0) s = .next t ∧ t.Ended c St.ok ch.number ∧ (if k.fn = 0 then t.sec.chal0 else t.sec.chal1) = some ch ∧
      ch.role.num = r ∧ ch.issued = s.clk.mono ∧ ch.number = (s.sec.chalNo + 1) % 2 ^ 32 ∧
      t.tx.head? = some (.hostBuf c (ch.block k.fn s.lc)) ∧ (ch.block k.fn s.lc).length = 32 ∧
      t.fld (F.secCntCount 0) = (s.fld (F.secCntCount 0) + 1) % 2 ^ 32 := by
  refine ⟨_, s.newChallenge r, exec_roleChallenge_issues h hlo hhi, h.adminRuns.finish_ended (by rfl) _ _, ?_, Role.ofNum_num hhi, rfl, rfl, ?_,
    Challenge.block_length _ _ _, ?_⟩
  · rw [State.finish_frame]
    obtain h0 | h1 : k.fn = 0 ∨ k.fn = 1 := by have := h.2; omega
    · rw [if_pos h0]
      exact if_pos h0
    · rw [if_neg (by omega)]
      exact if_pos h1
  · rw [State.finish_tx]
    rfl
  · rw [State.fld_finish, State.fld_send, State.fld_secCnt]
    rfl

theorem exec_roleChallenge_badField {x : Nat} (h : s.PfRuns c k) (hbad : x ≠ 0 ∨ r = 0 ∨ 3 < r) :
    ∃ t, exec (.roleChallenge c r x) s = .next t ∧ t.Ended c St.badField ∧ t.sec = s.sec ∧ t.tx = s.tx :=
  ⟨_, (onVendor_none h _).trans (by rw [if_pos hbad]), h.refused_sec St.badField⟩

end

/-! ### Responses (R152, R450, R455) -/

section
variable {s : State} {fn c r n sr ss key : Nat} {k : Cmd} {ch : Challenge}

/-- A response to the PF's challenge, in time, for its role, outside a lockout, is decided by the signature. -/
theorem State.authResult_of_fresh (hch : (if fn = 0 then s.sec.chal0 else s.sec.chal1) = some ch) (hn : ch.number = n) (hr : ch.role.num = r)
    (htime : s.clk.mono ≤ ch.issued + 30000000000) (hfails : (s.recentFails fn).length < 3)
    (hmaker : r = 3 ∧ s.lc = 1 → s.flag F.secCtlMakeren = true) (hkey : s.keys.key ch.role = some key) :
    s.authResult fn r n sr ss = if Config.ecdsaOk key (Config.sha384 (ch.block fn s.lc)) sr ss = true then 0 else 1 := by
  have hstale : ¬(ch.number ≠ n ∨ ch.role.num ≠ r ∨ ch.issued + 30000000000 < s.clk.mono) := by omega
  have hoff : ¬(r = 3 ∧ s.lc = 1 ∧ s.flag F.secCtlMakeren = false) := by
    rintro ⟨h3, h1, hf⟩
    simp [hmaker ⟨h3, h1⟩] at hf
  simp only [State.authResult, hch, if_neg (Nat.not_le.2 hfails), if_neg hstale, if_neg hoff, hkey, Option.any_some]

/-- One to a superseded or stale challenge, for another role, in a lockout, or for the maker role that INSTALLED does not allow, fails. -/
theorem State.authResult_of_bad (hch : (if fn = 0 then s.sec.chal0 else s.sec.chal1) = some ch)
    (hbad : ch.number ≠ n ∨ ch.role.num ≠ r ∨ ch.issued + 30000000000 < s.clk.mono ∨ 3 ≤ (s.recentFails fn).length ∨
      (r = 3 ∧ s.lc = 1 ∧ s.flag F.secCtlMakeren = false)) :
    s.authResult fn r n sr ss ≠ 0 := by
  simp only [State.authResult, hch]
  split_ifs with hfails hstale hmaker
  · decide
  · decide
  · decide
  · tauto
  · decide

/-- A failed response changes no session, and no command. -/
theorem State.authFailed_frame (s : State) (fn why : Nat) :
    (s.authFailed fn why).q = s.q ∧ ∀ p, (s.authFailed fn why).session p = s.session p := by
  unfold State.authFailed
  simp only
  split <;> exact ⟨rfl, fun _ => rfl⟩

/-- A failed response sets AUTHFAILSEEN and counts in SEC_FAIL (R465, R466). -/
theorem State.authFailed_reports (s : State) (fn why : Nat) :
    (s.authFailed fn why).flag F.secStatAuthfailseen = true ∧
      (s.authFailed fn why).fld F.secFailTotal = Nat.min 65535 (s.fld F.secFailTotal + 1) := by
  unfold State.authFailed
  extract_lets l x t u v
  have htotal : u.fld F.secFailTotal = Nat.min 65535 (s.fld F.secFailTotal + 1) := by
    refine (State.fld_addSat _ _ _ (by decide)).trans ?_
    rw [State.setFlag_eq, State.fld_setFld_ne _ _ _ _ (by decide) (by decide)]
    rfl
  have hseen : u.fld F.secStatAuthfailseen = 1 := by
    simp only [u, State.addSat_eq, State.setFlag_eq]
    rw [State.fld_setFld_ne _ _ _ _ (by decide) (by decide), State.fld_setFld _ _ _ (by decide)]
    rfl
  have hlock : v.fld F.secStatAuthfailseen = u.fld F.secStatAuthfailseen ∧ v.fld F.secFailTotal = u.fld F.secFailTotal := by
    simp only [v]
    split
    · exact ⟨State.fld_setFld_ne _ _ _ _ (by decide) (by decide), State.fld_setFld_ne _ _ _ _ (by decide) (by decide)⟩
    · exact ⟨rfl, rfl⟩
  obtain ⟨hvseen, hvtotal⟩ := hlock
  rw [State.flag, State.fld_secCnt_below _ _ (by decide), State.fld_secCnt_below _ _ (by decide), hvseen, hvtotal, hseen]
  exact ⟨rfl, htotal⟩

theorem exec_roleAssume_fails (h : s.PfRuns c k) (hlo : 1 ≤ r) (hhi : r ≤ 3) (hfail : s.authResult k.fn r n sr ss ≠ 0) :
    ∃ t, exec (.roleAssume c r n sr ss) s = .next t ∧ t.Ended c St.accessDenied ∧ (∀ p, t.session p = s.session p) ∧
      t.flag F.secStatAuthfailseen = true ∧ t.fld F.secFailTotal = Nat.min 65535 (s.fld F.secFailTotal + 1) := by
  have hrow : exec (.roleAssume c r n sr ss) s = .next (((s.event 0x1001 k.fn r (s.authResult k.fn r n sr ss)).authFailed k.fn
      (s.authResult k.fn r n sr ss)).finish c St.accessDenied) :=
    (onVendor_none h _).trans (by rw [if_neg (by omega)]; simp only [if_neg hfail])
  generalize s.authResult k.fn r n sr ss = why at hrow
  generalize hu : s.event 0x1001 k.fn r why = u at hrow
  obtain ⟨hq, hsess⟩ := u.authFailed_frame k.fn why
  obtain ⟨hseen, htotal⟩ := u.authFailed_reports k.fn why
  refine ⟨_, hrow, h.adminRuns.finish_ended (State.cmd_congr c ?_) _, fun p => ?_, ?_, ?_⟩
  · rw [hq, ← hu, State.event_q]
  · rw [State.finish_frame, ← State.session_congr (s := s) (t := u) (by rw [← hu, State.event_sec]) p, ← hsess p]
    rfl
  · rw [State.flag, State.fld_finish, ← State.flag, hseen]
  · rw [State.fld_finish, htotal, ← hu, State.fld_event _ _ _ _ _ _ _ (by decide) (by decide)]

/-- The state in which a PF has assumed a role: its session is open, its 15 minutes run, and SEC_CNT[r] has counted it (R450, R466). -/
def State.assumed (s : State) (fn r : Nat) : State :=
  ((s.setSession fn (some ⟨Role.ofNum r, s.clk.mono⟩)).arm (.sessionIdle fn) (nsSec 900)).secCnt r

theorem State.assumed_q (s : State) (fn r : Nat) : (s.assumed fn r).q = s.q := by
  rw [State.assumed, State.setSession_frame]
  rfl

theorem State.assumed_sessions (s : State) (hfn : fn < 2) (hr : r ≤ 3) :
    (s.assumed fn r).session (1 - fn) = s.session (1 - fn) ∧ ((s.assumed fn r).roleOf fn).num = r := by
  have hopen : (s.assumed fn r).session fn = some ⟨Role.ofNum r, s.clk.mono⟩ := s.session_setSession hfn _
  refine ⟨s.session_setSession_other hfn _, ?_⟩
  rw [State.roleOf, hopen]
  exact Role.ofNum_num hr

/-- Of the registers only SEC_CNT[r] changes. -/
theorem State.assumed_fld (s : State) (fn r : Nat) :
    (s.assumed fn r).fld (F.secCntCount r) = (s.fld (F.secCntCount r) + 1) % 2 ^ 32 ∧ (s.assumed fn r).fld F.secFailTotal = s.fld F.secFailTotal := by
  rw [State.assumed, State.fld_secCnt, State.fld_secCnt_below _ _ (by decide), State.setSession_frame]
  exact ⟨rfl, rfl⟩

theorem exec_roleAssume_passes (h : s.PfRuns c k) (hlo : 1 ≤ r) (hhi : r ≤ 3) (hpass : s.authResult k.fn r n sr ss = 0) :
    ∃ t, exec (.roleAssume c r n sr ss) s = .next t ∧ t.Ended c St.ok ∧ t.session (1 - k.fn) = s.session (1 - k.fn) ∧ (t.roleOf k.fn).num = r ∧
      t.armed (.sessionIdle k.fn) = true ∧ t.fld (F.secCntCount r) = (s.fld (F.secCntCount r) + 1) % 2 ^ 32 ∧
      t.fld F.secFailTotal = s.fld F.secFailTotal := by
  have hrow : exec (.roleAssume c r n sr ss) s = .next (((s.event 0x1001 k.fn r 0).assumed k.fn r).finish c St.ok) :=
    (onVendor_none h _).trans (by rw [if_neg (by omega)]; simp only [hpass, if_true]; rfl)
  obtain ⟨hother, hrole⟩ := (s.event 0x1001 k.fn r 0).assumed_sessions h.2 hhi
  obtain ⟨hcnt, htotal⟩ := (s.event 0x1001 k.fn r 0).assumed_fld k.fn r
  refine ⟨_, hrow, h.adminRuns.finish_ended (State.cmd_congr c ?_) _, ?_, ?_, ?_, ?_, ?_⟩
  · rw [State.assumed_q, State.event_q]
  · rw [State.session_finish, hother, State.session_congr (State.event_sec _ _ _ _ _ _)]
  · rw [State.roleOf, State.session_finish]
    exact hrole
  · rw [State.armed_finish _ _ _ _ (by simp)]
    exact State.armed_arm _ _ _
  · rw [State.fld_finish, hcnt, State.fld_event_secCnt _ _ _ _ _ _ _ (by omega)]
  · rw [State.fld_finish, htotal, State.fld_event _ _ _ _ _ _ _ (by decide) (by decide)]

/-! ### The rows of C2h and C3h (R152, R450) -/

/-- A response in time to the PF's own challenge passes or fails by its signature. -/
theorem exec_roleAssume_fresh (h : s.PfRuns c k) (hlo : 1 ≤ r) (hhi : r ≤ 3)
    (hch : (if k.fn = 0 then s.sec.chal0 else s.sec.chal1) = some ch) (hn : ch.number = n) (hr : ch.role.num = r)
    (htime : s.clk.mono ≤ ch.issued + 30000000000) (hfails : (s.recentFails k.fn).length < 3)
    (hmaker : r = 3 ∧ s.lc = 1 → s.flag F.secCtlMakeren = true) (hkey : s.keys.key ch.role = some key) :
    ∃ t, exec (.roleAssume c r n sr ss) s = .next t ∧ t.session (1 - k.fn) = s.session (1 - k.fn) ∧
      (Config.ecdsaOk key (Config.sha384 (ch.block k.fn s.lc)) sr ss = true → t.Ended c St.ok ∧ (t.roleOf k.fn).num = r ∧
        t.armed (.sessionIdle k.fn) = true ∧ t.fld (F.secCntCount r) = (s.fld (F.secCntCount r) + 1) % 2 ^ 32 ∧
        t.fld F.secFailTotal = s.fld F.secFailTotal) ∧
      (Config.ecdsaOk key (Config.sha384 (ch.block k.fn s.lc)) sr ss = false → t.Ended c St.accessDenied ∧ t.session k.fn = s.session k.fn ∧
        t.flag F.secStatAuthfailseen = true ∧ t.fld F.secFailTotal = Nat.min 65535 (s.fld F.secFailTotal + 1)) := by
  have hresult := State.authResult_of_fresh (sr := sr) (ss := ss) hch hn hr htime hfails hmaker hkey
  cases hsig : Config.ecdsaOk key (Config.sha384 (ch.block k.fn s.lc)) sr ss with
  | true =>
    obtain ⟨t, hrow, hended, hother, hrest⟩ := exec_roleAssume_passes h hlo hhi (hresult.trans (if_pos hsig))
    exact ⟨t, hrow, hother, fun _ => ⟨hended, hrest⟩, nofun⟩
  | false =>
    obtain ⟨t, hrow, hended, hsess, hrest⟩ := exec_roleAssume_fails h hlo hhi (by rw [hresult, hsig]; decide)
    exact ⟨t, hrow, hsess _, nofun, fun _ => ⟨hended, hsess _, hrest⟩⟩

theorem exec_roleRelease_ok (h : s.PfRuns c k) :
    ∃ t, exec (.roleRelease c 0) s = .next t ∧ t.Ended c St.ok ∧ t.session k.fn = none ∧ t.session (1 - k.fn) = s.session (1 - k.fn) := by
  have hrow : exec (.roleRelease c 0) s = .next ((s.endSession k.fn 1).finish c St.ok) :=
    (onVendor_none h _).trans (by rw [if_neg (by simp)])
  obtain ⟨hgone, hother⟩ := State.endSession_sessions (s := s) h.2 1
  exact ⟨_, hrow, h.adminRuns.finish_ended (State.cmd_congr c (s.endSession_q _ _)) _, (State.session_finish _ _ _ _ _).trans hgone,
    (State.session_finish _ _ _ _ _).trans hother⟩

theorem exec_roleRelease_badField {x : Nat} (h : s.PfRuns c k) (hx : x ≠ 0) :
    ∃ t, exec (.roleRelease c x) s = .next t ∧ t.Ended c St.badField ∧ t.sec = s.sec := by
  obtain ⟨hended, hsec, -⟩ := h.refused_sec St.badField
  exact ⟨_, (onVendor_none h _).trans (by rw [if_pos hx]), hended, hsec⟩

end

/-! ### Life-cycle transitions (R151, R456 to R458) -/

section
variable {s : State} {c target x : Nat} {k : Cmd} {need : Role}

/-- A refusal of a vendor command is noted in registers and by an event; sessions, challenges and commands stay as they are (R451). -/
theorem State.deny_command (s : State) (need : Role) (fn op : Nat) :
    (s.deny 3 need fn op).sec = s.sec ∧ (s.deny 3 need fn op).q = s.q ∧ (s.deny 3 need fn op).flag F.secStatDenyseen = true ∧
      (s.deny 3 need fn op).fld (F.secCntCount 17) = s.fld (F.secCntCount 17) := by
  unfold State.deny
  extract_lets t u v w
  show (w.secCnt 13).sec = s.sec ∧ (w.secCnt 13).q = s.q ∧ (w.secCnt 13).flag F.secStatDenyseen = true ∧
    (w.secCnt 13).fld (F.secCntCount 17) = s.fld (F.secCntCount 17)
  have hw : ∀ f : Fld, f.dw ∈ [Reg.secStat, Reg.secCnt 17] → (w.secCnt 13).fld f = (s.setFld F.secStatDenyseen 1).fld f := fun f hf => by
    have hapart : ∀ o ∈ [Reg.secStat, Reg.secCnt 17], o ≠ (F.secCntCount 13).dw ∧ o ≠ F.evwDropCount.dw ∧ o ≠ F.evwStatDropseen.dw ∧
      o ≠ Reg.secDenylog := by decide
    obtain ⟨hcnt, hdrop, hstat, hlog⟩ := hapart _ hf
    rw [State.secCnt, State.addWrap_eq, State.fld_setFld_ne _ _ _ _ (by decide) (.inl hcnt), State.fld_event _ _ _ _ _ _ _ hdrop hstat]
    simp only [v, u, t, State.setFlag_eq]
    rw [State.fld_setFld_ne _ _ _ _ (by decide) (.inl hlog), State.fld_setFld_ne _ _ _ _ (by decide) (.inl hlog),
      State.fld_setFld_ne _ _ _ _ (by decide) (.inl hlog), State.fld_setFld_ne _ _ _ _ (by decide) (.inl hlog),
      State.fld_setFld_ne _ _ _ _ (by decide) (.inl hlog)]
  refine ⟨State.event_sec _ _ _ _ _ _, State.event_q _ _ _ _ _ _, ?_, ?_⟩
  · rw [State.flag, hw _ (by decide), State.fld_setFld _ _ _ (by decide)]
    rfl
  · rw [hw _ (by decide), State.fld_setFld_ne _ _ _ _ (by decide) (.inl (by decide))]

/-- A transition refused after SEC_CNT[17] has counted the refusal. -/
theorem State.PfRuns.counted_refusal (h : s.PfRuns c k) (st : Status) :
    ((s.secCnt 17).finish c st).Ended c st ∧ ((s.secCnt 17).finish c st).sec = s.sec ∧
      ((s.secCnt 17).finish c st).fld (F.secCntCount 17) = (s.fld (F.secCntCount 17) + 1) % 2 ^ 32 :=
  ⟨h.adminRuns.finish_ended (by rfl) st, by rw [State.finish_frame]; rfl, by rw [State.fld_finish, State.fld_secCnt]⟩

/-- The state in which a transition has begun: it runs at step 2 of R458, and fetch has stopped. -/
def State.transitionBegun (s : State) (c target fn : Nat) : State :=
  { s.noteGated 0xC6 target fn with
    sec := { (s.noteGated 0xC6 target fn).sec with lcRun := some (c, target, (s.roleOf fn).num, s.clk.mono, 2) }
    q := { (s.noteGated 0xC6 target fn).q with fetchStop := true } }

theorem exec_lifeCycleTransition_begins (h : s.PfRuns c k) (hsup : s.SupervisorFree) (hrole : transitionRole s.lc target = some need)
    (hmay : s.mayTransit k.fn target need = true) (hrun : s.sec.lcRun = none) (hblock : s.transitionBlocked target = false) :
    ∃ t, exec (.lifeCycleTransition c target 0) s = .next t ∧
      t.sec.lcRun = some (c, target, (s.roleOf k.fn).num, s.clk.mono, 2) ∧ t.q.fetchStop = true ∧ t.lc = s.lc ∧
      (t.cmd c).map (·.phase) = some .active := by
  have hrow : execLifeCycleTransition c target 0 s = _ := onVendor_none h _
  rw [State.superGate_free hsup, hrole] at hrow
  simp only [hmay, hrun, hblock, Bool.not_true, Bool.false_eq_true, if_false, ne_eq, not_true_eq_false, Option.isSome_none, or_self] at hrow
  obtain ⟨-, -, hactive⟩ := State.adminAt_cmd s c k h.adminRuns.1
  have hcmd : (s.transitionBegun c target k.fn).cmd c = some k :=
    (State.cmd_congr c (State.noteGated_q s 0xC6 target k.fn)).trans h.adminRuns.cmd_eq
  refine ⟨s.transitionBegun c target k.fn, hrow, rfl, rfl, s.noteGated_fld 0xC6 target k.fn F.secLcState (by decide), ?_⟩
  rw [hcmd, Option.map_some, hactive]

theorem exec_lifeCycleTransition_unlisted (h : s.PfRuns c k) (hsup : s.SupervisorFree) (hnone : transitionRole s.lc target = none) :
    ∃ t, exec (.lifeCycleTransition c target x) s = .next t ∧ t.Ended c St.badField ∧ t.sec = s.sec ∧
      t.fld (F.secCntCount 17) = (s.fld (F.secCntCount 17) + 1) % 2 ^ 32 := by
  have hrow : execLifeCycleTransition c target x s = _ := onVendor_none h _
  rw [State.superGate_free hsup, hnone] at hrow
  exact ⟨_, hrow, h.counted_refusal St.badField⟩

/-- The transitions that R456 does not list. -/
theorem transitionRole_unlisted {lc : Nat} (hlc : lc ≤ 2) (ht : target = lc ∨ 3 ≤ target ∨ (lc = 2 ∧ target = 1)) :
    transitionRole lc target = none := by
  unfold transitionRole
  split
  case h_6 => rfl
  all_goals omega

theorem exec_lifeCycleTransition_denied (h : s.PfRuns c k) (hsup : s.SupervisorFree) (hrole : transitionRole s.lc target = some need)
    (hmay : s.mayTransit k.fn target need = false) :
    ∃ t, exec (.lifeCycleTransition c target x) s = .next t ∧ t.Ended c St.roleRequired ∧ t.sec = s.sec ∧ t.flag F.secStatDenyseen = true ∧
      t.fld (F.secCntCount 17) = (s.fld (F.secCntCount 17) + 1) % 2 ^ 32 := by
  have hrow : execLifeCycleTransition c target x s = _ := onVendor_none h _
  rw [State.superGate_free hsup, hrole] at hrow
  simp only [hmay, Bool.not_false, if_true] at hrow
  obtain ⟨hsec, hq, hseen, hcnt⟩ := s.deny_command need k.fn 0xC6
  refine ⟨_, hrow, h.adminRuns.finish_ended (State.cmd_congr c ?_) _, ?_, ?_, ?_⟩
  · rw [State.secCnt_q, hq]
  · rw [State.finish_frame]
    exact hsec
  · rw [State.flag, State.fld_finish, State.fld_secCnt_below _ _ (by decide), ← State.flag, hseen]
  · rw [State.fld_finish, State.fld_secCnt, hcnt]

/-- Each of the conditions of R457 blocks a transition. -/
theorem State.transitionBlocked_of (hcond : (target ≠ 2 ∧ s.nss ≠ []) ∨ s.adm.format.state = 1 ∨ s.fwu.run.isSome = true ∨ s.map.stalled ≠ [] ∨
    s.fwu.armed.isSome = true) : s.transitionBlocked target = true := by
  unfold State.transitionBlocked
  rcases hcond with ⟨ht, hn⟩ | hf | hr | hm | ha
  · simp [ht, hn]
  · simp [hf]
  · simp [hr]
  · simp [hm]
  · simp [ha]

theorem exec_lifeCycleTransition_blocked (h : s.PfRuns c k) (hsup : s.SupervisorFree) (hrole : transitionRole s.lc target = some need)
    (hmay : s.mayTransit k.fn target need = true) (hblock : s.transitionBlocked target = true) :
    ∃ t, exec (.lifeCycleTransition c target 0) s = .next t ∧ t.Ended c St.sequence ∧ t.sec = s.sec := by
  have hrow : execLifeCycleTransition c target 0 s = _ := onVendor_none h _
  rw [State.superGate_free hsup, hrole] at hrow
  simp only [hmay, hblock, Bool.not_true, Bool.false_eq_true, if_false, ne_eq, not_true_eq_false, or_true, if_true] at hrow
  obtain ⟨hended, hsec, -⟩ := h.counted_refusal St.sequence
  exact ⟨_, hrow, hended, hsec⟩

end

/-- Settles O30: each row finds its session, its challenge or its transition as stated, and opens, ends, refuses or begins by it. -/
theorem securityRowsComplete : Obligations.SecurityRowsComplete := by
  unfold Obligations.SecurityRowsComplete
  refine ⟨fun _ _ hpf ha ho => exec_sessionIdleTimeout_ends hpf ha ho, ?cancelled, fun _ _ _ _ h hlo hhi => exec_roleChallenge_ok h hlo hhi,
    fun _ _ _ _ _ h hb => exec_roleChallenge_badField h hb,
    fun _ _ _ _ _ _ _ _ _ h hlo hhi hch hn hr ht hf hm hk => exec_roleAssume_fresh h hlo hhi hch hn hr ht hf hm hk, ?denied,
    fun _ _ _ h => exec_roleRelease_ok h, fun _ _ _ _ h hx => exec_roleRelease_badField h hx,
    fun _ _ _ _ _ h hs hr hm hrun hb => exec_lifeCycleTransition_begins h hs hr hm hrun hb,
    fun _ _ _ _ _ h hs hlc ht => exec_lifeCycleTransition_unlisted h hs (transitionRole_unlisted hlc ht),
    fun _ _ _ _ _ _ h hs hr hm => exec_lifeCycleTransition_denied h hs hr hm,
    fun _ _ _ _ _ h hs hr hm hc => exec_lifeCycleTransition_blocked h hs hr hm (State.transitionBlocked_of hc)⟩
  case cancelled =>
    intro s pf _ ha
    show execSessionIdleTimeout pf s = _
    exact onTimer_unarmed ha _
  case denied =>
    intro s c r n sr ss key k ch h hlo hhi hch _ hbad
    obtain ⟨t, hrow, hended, hsess, hrest⟩ := exec_roleAssume_fails h hlo hhi (State.authResult_of_bad (sr := sr) (ss := ss) hch hbad)
    exact ⟨t, hrow, hended, hsess 0, hsess 1, hrest⟩

end Sys2Proof.Machine
end

section
/-! SUPPORT. The strand commands C8h, C9h and Strand Copy Push (R154, R392, R393, R399): which commands survive what a selector sets, and what each row
finds and answers. -/

namespace Sys2Proof.Machine

/-! ### Commands that stay in their slots (R121) -/

/-- A command is in its slot, and no reset has dropped it: its end will be posted. -/
def State.Stays (s : State) (c : Nat) : Prop := ∃ k, s.cmd c = some k ∧ k.dropped = false

section
variable {s t : State} {c : Nat} {k : Cmd}

theorem State.AdminRuns.stays (h : s.AdminRuns c k) : s.Stays c := ⟨k, h.cmd_eq, h.not_dropped⟩

theorem State.Stays.congr (h : s.Stays c) (hq : t.q = s.q) : t.Stays c := by
  obtain ⟨k, hk, hd⟩ := h
  exact ⟨k, (State.cmd_congr c hq).trans hk, hd⟩

/-- Whatever its phase, such a command ends with what `finish` is given. -/
theorem State.Stays.finish_ended (h : s.Stays c) (st : Status) (d : Nat := 0) : (s.finish c st d).Ended c st d := by
  obtain ⟨k, hk, hd⟩ := h
  rw [State.Ended, State.finish_cmd s c k st d hk hd]
  rfl

theorem State.finish_cmd_ne (s : State) {a : Nat} (st : Status) (d : Nat) (h : c ≠ a) : (s.finish a st d).cmd c = s.cmd c := by
  unfold State.finish
  split
  · rfl
  · simp only
    split
    · exact (Tab.find_del_ne _ _ _ h).trans (s.dropStitches_cmd a c)
    · exact ((s.dropStitches a).cmd_updCmd_ne a c (fun k => { k with phase := .finished st d }) h).trans (s.dropStitches_cmd a c)

/-- The end of any command, its own included, leaves it in its slot. -/
theorem State.Stays.finish (h : s.Stays c) (a : Nat) (st : Status) (d : Nat) : (s.finish a st d).Stays c := by
  obtain ⟨k, hk, hd⟩ := h
  by_cases ha : c = a
  · subst ha
    exact ⟨_, State.finish_cmd s c k st d hk hd, hd⟩
  · exact ⟨k, (s.finish_cmd_ne st d ha).trans hk, hd⟩

theorem State.Stays.asyncEvent (h : s.Stays c) (i type info page : Nat) : (s.asyncEvent i type info page).Stays c := by
  unfold State.asyncEvent
  simp only
  split
  · exact h
  · split
    · exact State.Stays.finish (h.congr (t := s.setFunc i _) rfl) _ _ _
    · exact h.congr rfl

/-- A change of role is noted, and reported to every ready controller (R149, R393). -/
theorem State.Stays.roleChanged (h : s.Stays c) : s.roleChanged.Stays c := by
  refine List.foldlRecOn _ _ (motive := fun t : State => t.Stays c) (h.congr rfl) fun t ht i _ => ?_
  split
  · exact ht.asyncEvent _ _ _ _
  · exact ht

end

/-! ### What a selector of C8h sets (R392) -/

section
variable (s : State)

@[simp] theorem State.cfsRequest_q (r : Nat) (w : CfsWork) (n : Nat) : (s.cfsRequest r w n).q = s.q := by rw [State.cfsRequest_frame]
@[simp] theorem State.cfsRequest_str (r : Nat) (w : CfsWork) (n : Nat) : (s.cfsRequest r w n).str = s.str := by rw [State.cfsRequest_frame]

theorem State.saveSettings_q : s.saveSettings.q = s.q := by
  unfold State.saveSettings
  simp

theorem State.sendReliable_q (dst type : Nat) (data : List Nat) : (s.sendReliable dst type data).q = s.q := by
  unfold State.sendReliable State.sendFrame
  simp only [State.arm_q]
  split <;> rfl

theorem State.sendReliable_ticket (dst type : Nat) (data : List Nat) : (s.sendReliable dst type data).str.ticket = s.str.ticket := by
  unfold State.sendReliable State.sendFrame
  simp only [State.arm_str]
  split <;> rfl

/-- Sending JOIN uses the ticket, and changes neither it nor a command (R393). -/
theorem State.sendJoin_frame : s.sendJoin.q = s.q ∧ s.sendJoin.str.ticket = s.str.ticket := by
  unfold State.sendJoin
  split
  · split
    · exact ⟨rfl, rfl⟩
    · exact ⟨s.sendReliable_q _ _ _, s.sendReliable_ticket _ _ _⟩
  · exact ⟨rfl, rfl⟩

theorem State.startFleet_q : s.startFleet.q = s.q := by
  unfold State.startFleet State.armOnce
  simp only [apply_ite State.q, State.arm_q, ite_self]

theorem State.closeWindows_q (nsid : Nat) : (s.closeWindows nsid).q = s.q :=
  List.foldlRecOn _ _ (motive := fun t : State => t.q = s.q) rfl fun t ht _ _ => (t.cfsRequest_q _ _ _).trans ht

variable {s} {c : Nat}

/-- Leaving the system closes windows and cancels timers, and its report ends event requests alone. -/
theorem State.Stays.leave (h : s.Stays c) : s.leave.Stays c := by
  have hclosed : ∀ l : List Nat, (l.foldl (fun (t : State) n => t.closeWindows n) s).q = s.q := fun l =>
    List.foldlRecOn l _ (motive := fun t : State => t.q = s.q) rfl fun t ht n _ => (t.closeWindows_q n).trans ht
  unfold State.leave
  refine State.Stays.roleChanged (h.congr ?_)
  simp only [State.cancel_q, State.setFld_q, State.clrFlag_eq, hclosed]

theorem State.Stays.strandSet (h : s.Stays c) (sel : Nat) (v : List Nat) : (s.strandSet sel v).Stays c := by
  unfold State.strandSet
  split
  · exact h.congr (State.saveSettings_q _)
  · exact h.congr (State.sendJoin_frame _).1
  · refine State.Stays.roleChanged (h.congr ?_)
    simp only [apply_ite State.q, State.startFleet_q, State.arm_q, State.setFld_q, ite_self]
  · exact h.leave

end

/-! ### The rows -/

section
variable {s : State} {c : Nat} {k : Cmd} {n : Ns}

/-- The row of a vendor command that a supervisor owns is what its body does while a supervisor serves it. -/
theorem onVendor_of_served {need : Role} (h : s.PfRuns c k) (hrole : s.mayAs k.fn need = true) (hsup : s.SupervisorFree) (body : Cmd → State) :
    onVendor s c need (fun x => s.superGate c (body x)) = .next (body k) :=
  (onVendor_of_runs h hrole _).trans (by rw [State.superGate_free hsup])

@[simp] theorem State.event_str (s : State) (c a b d e : Nat) : (s.event c a b d e).str = s.str := by rw [State.event_frame]
@[simp] theorem State.finish_str (s : State) (c : Nat) (st : Status) (d : Nat) : (s.finish c st d).str = s.str := by rw [State.finish_frame]

theorem exec_strandConfigure_stores {sel : Nat} {v : List Nat} (h : s.PfRuns c k) (hrole : s.mayAs k.fn .installer = true)
    (hsup : s.SupervisorFree) (hv : strandValid sel v = true) :
    ∃ t, exec (.strandConfigure c sel true v) s = .next t ∧ t.Ended c St.ok ∧ Tab.find sel t.str.config = some v := by
  have hrow : execStrandConfigure c sel true v s = _ := onVendor_of_served h hrole hsup _
  rw [if_neg (by simp [hv])] at hrow
  have hset : ((s.noteGated 0xC8 sel k.fn).strandSet sel v).Stays c := (h.adminRuns.stays.congr (State.noteGated_q _ _ _ _)).strandSet sel v
  refine ⟨_, hrow, (hset.congr ?_).finish_ended _, ?_⟩
  · rw [State.event_q, State.cfsRequest_q]
  · rw [State.finish_str, State.event_str, State.cfsRequest_str]
    exact Tab.find_put_self _ _ _

theorem exec_strandConfigure_invalid {sel : Nat} {v : List Nat} (h : s.PfRuns c k) (hrole : s.mayAs k.fn .installer = true)
    (hsup : s.SupervisorFree) (hv : strandValid sel v = false) :
    ∃ t, exec (.strandConfigure c sel true v) s = .next t ∧ t.Ended c St.badField ∧ t.str = s.str := by
  have hrow : exec (.strandConfigure c sel true v) s = .next (s.finish c St.badField) :=
    (onVendor_of_served h hrole hsup _).trans (by rw [if_pos (by simp [hv])])
  exact ⟨_, hrow, h.adminRuns.finish_ended rfl _, State.finish_str _ _ _ _⟩

theorem exec_strandJoin_stores {j : JoinTicket} (h : s.PfRuns c k) (hrole : s.mayAs k.fn .operator = true) (hsup : s.SupervisorFree)
    (hok : s.ticketOk j = true) (hsn : j.sn = ownSerial) :
    ∃ t, exec (.strandJoin c j) s = .next t ∧ t.Ended c St.ok j.id ∧ t.str.ticket = some j := by
  have hrow : execStrandJoin c j s = _ := onVendor_of_served h hrole hsup _
  rw [if_neg (by simp [hok, hsn])] at hrow
  obtain ⟨hq, hticket⟩ := State.sendJoin_frame (({ s.noteGated 0xC9 j.id k.fn with
    str := { (s.noteGated 0xC9 j.id k.fn).str with ticket := some j } } : State).cfsRequest 5 (.record 5 4 (ticketWords j) false) 9)
  refine ⟨_, hrow, h.adminRuns.finish_ended (State.cmd_congr c ?_) _ _, ?_⟩
  · rw [hq, State.cfsRequest_q]
    exact State.noteGated_q s 0xC9 j.id k.fn
  · rw [State.finish_str, hticket, State.cfsRequest_str]

theorem exec_strandJoin_refused {j : JoinTicket} (h : s.PfRuns c k) (hrole : s.mayAs k.fn .operator = true) (hsup : s.SupervisorFree)
    (hbad : s.ticketOk j = false ∨ j.sn ≠ ownSerial) :
    ∃ t, exec (.strandJoin c j) s = .next t ∧ t.Ended c St.badField ∧ t.str = s.str := by
  have hrow : exec (.strandJoin c j) s = .next (s.finish c St.badField) :=
    (onVendor_of_served h hrole hsup _).trans (by rw [if_pos (by simpa using hbad)])
  exact ⟨_, hrow, h.adminRuns.finish_ended rfl _, State.finish_str _ _ _ _⟩

end

/-! ### Strand Copy Push (R154, R399) -/

section
variable {s : State} {c path win target off : Nat} {k : Cmd} {n : Ns}

theorem exec_strandCopyPush_metadata (h : s.NsRuns c 0x81 k n) (hlbaf : n.lbaf ≠ 0) :
    ∃ t, exec (.strandCopyPush c path win target off) s = .next t ∧ t.Ended c St.badField ∧ t.str.out = s.str.out := by
  have hrow : exec (.strandCopyPush c path win target off) s = .next (s.fail c St.badField) :=
    (onNs_of_runs h _).trans (by rw [if_pos (.inr (.inl hlbaf))])
  exact ⟨_, hrow, h.fail_ended _, by rw [State.fail_frame]⟩

/-- A push whose fields and range are in order gets as far as the target's membership. -/
theorem strandCopyPush_fields_ok (hlbaf : n.lbaf = 0) (hpath : path < 3) (hwin : win ≤ 255) (hlo : 1 ≤ target) (hhi : target ≤ 0x4000)
    (hnlb : 1 ≤ k.sqe.nlb) (hmost : k.sqe.nlb ≤ 65536) :
    ¬(path = 3 ∨ n.lbaf ≠ 0 ∨ target = 0 ∨ 0x4000 < target ∨ 255 < win ∨ k.sqe.nlb = 0 ∨ 65536 < k.sqe.nlb) := by omega

theorem exec_strandCopyPush_apart (h : s.NsRuns c 0x81 k n) (hlbaf : n.lbaf = 0) (hpath : path < 3) (hwin : win ≤ 255) (hlo : 1 ≤ target)
    (hhi : target ≤ 0x4000) (hnlb : 1 ≤ k.sqe.nlb) (hmost : k.sqe.nlb ≤ 65536) (hsize : k.sqe.slba + k.sqe.nlb ≤ n.size)
    (hjoined : s.joined = false) :
    ∃ t, exec (.strandCopyPush c path win target off) s = .next t ∧ t.Ended c St.unreachable := by
  have hrow : exec (.strandCopyPush c path win target off) s = .next ((s.fail c St.unreachable).strCnt 14) :=
    (onNs_of_runs h _).trans (by
      rw [if_neg (strandCopyPush_fields_ok hlbaf hpath hwin hlo hhi hnlb hmost), if_neg (Nat.not_lt.2 hsize), if_pos (by simp [hjoined])])
  exact ⟨_, hrow, h.fail_ended _⟩

theorem exec_strandCopyPush_opens (h : s.NsRuns c 0x81 k n) (hlbaf : n.lbaf = 0) (hpath : path < 3) (hwin : win ≤ 255) (hlo : 1 ≤ target)
    (hhi : target ≤ 0x4000) (hnlb : 1 ≤ k.sqe.nlb) (hmost : k.sqe.nlb ≤ 65536) (hsize : k.sqe.slba + k.sqe.nlb ≤ n.size)
    (hjoined : s.joined = true) (hmember : Tab.has target s.str.members = true) (hup : s.strandUp = true)
    (hnew : s.str.out.any (fun x => decide (x.2.cmd = c)) = false) (hstaged : k.buffered = true) :
    exec (.strandCopyPush c path win target off) s = .next ((({ s with str := { s.str with
        nextCopy := s.str.nextCopy % (2 ^ 32 - 1) + 1
        out := Tab.put s.str.nextCopy { cmd := c, fn := k.fn, peer := target, win := win, off := off, path := path, nsid := k.sqe.nsid,
                                        slba := k.sqe.slba, total := k.sqe.nlb, sent := 0, acked := 0 } s.str.out } } : State).sendReliable target 0x10
        [s.str.nextCopy, win, off, k.sqe.nlb]).pumpAll target) :=
  (onNs_of_runs h _).trans (by
    rw [if_neg (strandCopyPush_fields_ok hlbaf hpath hwin hlo hhi hnlb hmost), if_neg (Nat.not_lt.2 hsize),
      if_neg (by simp [hjoined, hmember, hup]), if_neg (by simp [hnew]), if_neg (by simp [hstaged])])

end

/-- Settles O27: each row finds its selector, its ticket or its target as stated, and stores, sends or refuses by it. -/
theorem strandCommandsComplete : Obligations.StrandCommandsComplete := by
  unfold Obligations.StrandCommandsComplete
  refine ⟨fun _ _ _ _ _ h _ hr hs hv => exec_strandConfigure_stores h hr hs hv,
    fun _ _ _ _ _ h hr hs hv => exec_strandConfigure_invalid h hr hs hv, ?join, fun _ _ _ _ _ _ _ _ h hl => exec_strandCopyPush_metadata h hl,
    fun _ _ _ _ _ _ _ _ h hl hp hw hlo hhi hn hm hs hj => exec_strandCopyPush_apart h hl hp hw hlo hhi hn hm hs hj,
    fun _ _ _ _ _ _ _ _ h hl hp hw hlo hhi hn hm hs hj hmem hup hnew hb =>
      exec_strandCopyPush_opens h hl hp hw hlo hhi hn hm hs hj hmem hup hnew hb⟩
  case join =>
    intro s c j k h _ hrole hsup
    by_cases hgood : s.ticketOk j = true ∧ j.sn = ownSerial
    · obtain ⟨hok, hsn⟩ := hgood
      obtain ⟨t, hrow, hends⟩ := exec_strandJoin_stores h hrole hsup hok hsn
      exact ⟨t, hrow, fun _ _ => hends, fun hbad => by simp [hok, hsn] at hbad⟩
    · obtain ⟨t, hrow, hends⟩ := exec_strandJoin_refused h hrole hsup (j := j) (by
        rw [not_and_or, Bool.not_eq_true] at hgood
        exact hgood)
      exact ⟨t, hrow, fun hok hsn => absurd ⟨hok, hsn⟩ hgood, fun _ => hends⟩

end Sys2Proof.Machine
end

section
/-! SUPPORT. What the reports of warnings and failures leave (R116, R147, R149, R252): the map stays as it is, and of the registers only counters
and the recorder's own change. -/

namespace Sys2Proof.Machine

/-! ### Warnings (R147, R149) -/

section
variable (s : State)

/-- The endurance group's notice changes commands, functions and the admin data alone. -/
theorem State.egWarn_frame (bit : Nat) :
    s.egWarn bit =
      { s with timers := (s.egWarn bit).timers, q := (s.egWarn bit).q, fns := (s.egWarn bit).fns, adm := (s.egWarn bit).adm } := by
  unfold State.egWarn
  simp only
  split
  · exact State.foldl_frame (fun s t => { s with timers := t.timers, q := t.q, fns := t.fns, adm := t.adm }) _ _ _ (fun _ => rfl)
      (fun _ _ _ h1 h2 => by rw [h2, h1]) (fun s i => by
        split
        · rw [State.asyncEvent_frame]
        · rfl)
  · rfl

theorem State.critWarn_frame (bit : Nat) :
    s.critWarn bit =
      { s with timers := (s.critWarn bit).timers, q := (s.critWarn bit).q, fns := (s.critWarn bit).fns, adm := (s.critWarn bit).adm } := by
  unfold State.critWarn
  simp only
  split
  · rfl
  · split
    · rw [State.asyncAll_frame]
    · rw [State.egWarn_frame, State.asyncAll_frame]

theorem State.degrade_frame (cause : Nat) :
    s.degrade cause = { s with timers := (s.degrade cause).timers, q := (s.degrade cause).q, fns := (s.degrade cause).fns,
                               adm := (s.degrade cause).adm } := by
  unfold State.degrade
  rw [State.critWarn_frame]

theorem State.noteC0_frame :
    s.noteC0 = { s with timers := s.noteC0.timers, q := s.noteC0.q, fns := s.noteC0.fns, adm := s.noteC0.adm } := by
  unfold State.noteC0
  split
  · rfl
  · rw [State.asyncVendor_frame]

@[simp] theorem State.event_map (c a b d e : Nat) : (s.event c a b d e).map = s.map := by rw [State.event_frame]
@[simp] theorem State.critWarn_map (bit : Nat) : (s.critWarn bit).map = s.map := by rw [State.critWarn_frame]
@[simp] theorem State.degrade_map (cause : Nat) : (s.degrade cause).map = s.map := by rw [State.degrade_frame]
@[simp] theorem State.noteC0_map : s.noteC0.map = s.map := by rw [State.noteC0_frame]
@[simp] theorem State.fail_map (c : Nat) (st : Status) : (s.fail c st).map = s.map := by rw [State.fail_frame]
@[simp] theorem State.expire_map (id : TimerId) : (s.expire id).map = s.map := by rw [State.expire_frame]
@[simp] theorem State.mapCnt_map (n k : Nat) : (s.mapCnt n k).map = s.map := rfl
@[simp] theorem State.rclCnt_map (n k : Nat) : (s.rclCnt n k).map = s.map := rfl

theorem State.flag_degrade (cause : Nat) (f : Fld) : (s.degrade cause).flag f = s.flag f := by rw [State.degrade_frame]; rfl

/-- Failing writes one after another leaves the registers and the map. -/
theorem State.foldl_failWrite_leaves (st : Status) (l : List Nat) :
    (l.foldl (fun t c => t.failWrite c st) s).regs = s.regs ∧ (l.foldl (fun t c => t.failWrite c st) s).map = s.map := by
  refine List.foldlRecOn l _ (motive := fun t : State => t.regs = s.regs ∧ t.map = s.map) ⟨rfl, rfl⟩ fun t ht c _ => ?_
  rw [State.failWrite_frame]
  exact ht

end

/-! ### Read-only mode (R252) -/

/-- The registers that report read-only mode, as its entry writes them. -/
def State.readOnlyNoted (s : State) (cause : Nat) : State := ((s.setFlag F.rclRoRo).setFld F.rclRoCause cause).setFlag F.rclStatRoseen

/-- The registers that the rest of the entry may write: the count of refused writes and the recorder's own. -/
def readOnlyRegs : List Nat := [Reg.rclCnt 10, Reg.evwDrop, Reg.evwStat]

theorem State.WritesOnly.critWarn (offs : List Nat) (s : State) (bit : Nat) : s.WritesOnly offs (s.critWarn bit) :=
  .of_eq (by rw [State.critWarn_frame]) (by rw [State.critWarn_frame])

theorem State.WritesOnly.failWrite (offs : List Nat) (s : State) (c : Nat) (st : Status) : s.WritesOnly offs (s.failWrite c st) :=
  .of_eq (by rw [State.failWrite_frame]) (by rw [State.failWrite_frame])

/-- Entering read-only mode notes it, and then reports and fails writes: the map and the other registers stay. -/
theorem State.enterReadOnly_leaves {s : State} (cause : Nat) (h : s.flag F.rclRoRo = false) :
    (s.readOnlyNoted cause).WritesOnly readOnlyRegs (s.enterReadOnly cause) ∧ (s.enterReadOnly cause).map = s.map := by
  unfold State.enterReadOnly
  rw [if_neg (by simp [h])]
  extract_lets t u ws
  have hu : t.WritesOnly readOnlyRegs u ∧ u.map = s.map :=
    ⟨(State.WritesOnly.critWarn _ t 3).trans (.event _ _ _ _ _ (by decide) (by decide)), (State.event_map _ _ _ _ _ _).trans (t.critWarn_map 3)⟩
  have hws : t.WritesOnly readOnlyRegs (ws.foldl (fun t p => (t.failWrite p.1 St.writeProtected).rclCnt 10) u) ∧
      (ws.foldl (fun t p => (t.failWrite p.1 St.writeProtected).rclCnt 10) u).map = s.map := by
    refine List.foldlRecOn ws _ (motive := fun v : State => t.WritesOnly readOnlyRegs v ∧ v.map = s.map) hu fun v ⟨hwrites, hmap⟩ p _ => ?_
    exact ⟨hwrites.trans ((State.WritesOnly.failWrite _ v p.1 _).trans (.setFld _ _ (by decide))), (v.failWrite_map p.1 _).trans hmap⟩
  rw [State.noteC0_frame]
  exact hws

end Sys2Proof.Machine
end

section
/-! SUPPORT. The rows of the two-grain map (R162, R169, R174, R176, R179, R204): what an error notes, which of a row's checks decides, and what the
recovery of a segment leaves. -/

namespace Sys2Proof.Machine

/-! ### Errors and stalled segments (R163, R179) -/

section
variable {s : State} {cause e : Nat}

theorem segOf_lt (he : e < 2 ^ 34) : segOf e < 2 ^ 13 := by
  rw [segOf]
  omega

theorem State.fld_setWord_ne (s : State) (f : Fld) (o : Nat) (w : Word) (h : f.dw ≠ o) : (s.setWord o w).fld f = s.fld f :=
  congrArg f.get (s.word_setWord_ne o f.dw w h)

/-- MAP_UE_LAST holds the cause and the segment of an error; the index and the count are other registers. -/
theorem State.fld_mapError {f : Fld} (hf : f.dw = Reg.mapUeLast) :
    (s.mapError cause e).fld f = ((s.setFld F.mapUeLastCause cause).setFld F.mapUeLastSeg (segOf e)).fld f := by
  rw [State.mapError, State.mapCnt, State.addWrap_eq, State.fld_setFld_ne _ _ _ _ (by decide) (.inl (by rw [hf]; decide)),
    State.fld_setFld_ne _ _ _ _ (by decide) (.inl (by rw [hf]; decide)), State.fld_setWord_ne _ _ _ _ (by rw [hf]; decide)]

theorem State.fld_mapError_cause (hc : cause < 4) : (s.mapError cause e).fld F.mapUeLastCause = cause := by
  rw [State.fld_mapError rfl, State.fld_setFld_ne _ _ _ _ (by decide) (by decide), State.fld_setFld _ _ _ (by decide)]
  exact Nat.mod_eq_of_lt hc

theorem State.fld_mapError_seg (he : e < 2 ^ 34) : (s.mapError cause e).fld F.mapUeLastSeg = segOf e := by
  rw [State.fld_mapError rfl, State.fld_setFld _ _ _ (by decide)]
  exact Nat.mod_eq_of_lt (segOf_lt he)

theorem State.mapError_map : (s.mapError cause e).map = s.map := rfl

/-- A segment in service stalls: it joins the list, its sticky bit is set, and the error is noted. -/
theorem State.stall_new (hlost : s.segLost (segOf e) = false) (hstall : s.segStalled (segOf e) = false) :
    (s.stall cause e).map = { s.map with stalled := s.map.stalled ++ [(segOf e, s.clk.mono)] } ∧
      (s.stall cause e).flag F.mapStatStallseen = true ∧ (s.stall cause e).fld F.mapUeLastCause = (s.mapError cause e).fld F.mapUeLastCause ∧
      (s.stall cause e).fld F.mapUeLastSeg = (s.mapError cause e).fld F.mapUeLastSeg := by
  have hgo : ¬((s.mapError cause e).segStalled (segOf e) = true) := by
    rw [State.segStalled, State.mapError_map]
    exact Bool.eq_false_iff.1 hstall
  simp only [State.stall, hlost, Bool.false_eq_true, hgo, if_false, State.setFlag_eq]
  refine ⟨State.event_map _ _ _ _ _ _, ?_, ?_, ?_⟩
  · rw [State.flag_event _ _ _ _ _ _ _ (by decide) (by decide)]
    exact State.flag_setFld_one _ _ (by decide) rfl
  all_goals
    rw [State.fld_event _ _ _ _ _ _ _ (by decide) (by decide), State.fld_setFld_ne _ _ _ _ (by decide) (by decide)]
    exact State.fld_congr _ rfl

theorem exec_mapSegmentStall_row (he : e < 2 ^ 34) (hc : cause ≤ 1 ∨ cause = 3) : exec (.mapSegmentStall cause e) s = .next (s.stall cause e) :=
  guarded_true _ _ _ (by simp only [he, hc, decide_true, Bool.true_and, Bool.or_eq_true, decide_eq_true_eq])

theorem exec_mapSegmentStall_new (he : e < 2 ^ 34) (hc : cause ≤ 1 ∨ cause = 3) (hlost : s.segLost (segOf e) = false)
    (hstall : s.segStalled (segOf e) = false) :
    ∃ t, exec (.mapSegmentStall cause e) s = .next t ∧ t.map = { s.map with stalled := s.map.stalled ++ [(segOf e, s.clk.mono)] } ∧
      t.flag F.mapStatStallseen = true ∧ t.fld F.mapUeLastCause = cause ∧ t.fld F.mapUeLastSeg = segOf e := by
  obtain ⟨hmap, hseen, hcause, hseg⟩ := State.stall_new (cause := cause) hlost hstall
  exact ⟨_, exec_mapSegmentStall_row he hc, hmap, hseen, hcause.trans (State.fld_mapError_cause (by omega)),
    hseg.trans (State.fld_mapError_seg he)⟩

theorem exec_mapSegmentStall_lost (he : e < 2 ^ 34) (hc : cause ≤ 1 ∨ cause = 3) (hlost : s.segLost (segOf e) = true) :
    exec (.mapSegmentStall cause e) s = .next s := by
  rw [exec_mapSegmentStall_row he hc, State.stall, if_pos hlost]

/-- Seaming suspended while the coarse map is scanned for the owner table. -/
def State.scanBegun (u : State) : State := { u with map := { u.map with scanning := true } }

theorem State.scanBegun_leaves (u : State) :
    u.scanBegun.map.scanning = true ∧ u.scanBegun.map.overlays = u.map.overlays ∧ ∀ f, u.scanBegun.fld f = u.fld f := ⟨rfl, rfl, fun _ => rfl⟩

theorem exec_ownerTableError_begins (s : State) (e : Nat) :
    ∃ t, exec (.ownerTableError e false) s = .next t ∧ t.map.scanning = true ∧ t.map.overlays = s.map.overlays ∧ t.fld F.mapUeLastCause = 2 := by
  have hrow : exec (.ownerTableError e false) s = .next (s.mapError 2 e).scanBegun := by
    show execOwnerTableError e false s = _
    rw [execOwnerTableError, if_neg (by decide), State.scanBegun]
  obtain ⟨hscan, hoverlays, hfld⟩ := (s.mapError 2 e).scanBegun_leaves
  exact ⟨_, hrow, hscan, by rw [hoverlays, State.mapError_map], by rw [hfld, State.fld_mapError_cause (by decide)]⟩

theorem exec_ownerTableError_ends (s : State) (e : Nat) :
    ∃ t, exec (.ownerTableError e true) s = .next t ∧ t.map.scanning = false ∧ t.map.coarse = s.map.coarse := by
  have hrow : execOwnerTableError e true s = _ := if_pos rfl
  exact ⟨_, hrow, rfl, rfl⟩

/-! ### The age epoch (R162) -/

theorem exec_ageEpochTick_counts (ha : s.armed .ageEpoch = true) :
    ∃ t, exec .ageEpochTick s = .next t ∧ t.fld F.mapEpochEpoch = (s.fld F.mapEpochEpoch + 1) % 2 ^ 32 ∧ t.armed .ageEpoch = true := by
  have hrow : execAgeEpochTick s = _ := onTimer_armed ha _
  refine ⟨_, hrow, ?_, State.armed_arm _ _ _⟩
  rw [State.fld_arm, State.fld_addWrap _ _ _ (by decide), State.fld_expire]
  rfl

theorem exec_ageEpochTick_cancelled (ha : s.armed .ageEpoch = false) : exec .ageEpochTick s = .next s := by
  have hrow : execAgeEpochTick s = _ := onTimer_unarmed ha _
  exact hrow

end

/-! ### Deallocations and marks (R132, R169, R174, R176) -/

section
variable {s : State} {c : Nat} {k : Cmd} {n : Ns}

/-- A list of 1 to 256 ranges is not refused for a bad field (R132). -/
theorem ranges_ok {α : Type} {rs : List α} (hne : rs ≠ []) (hlen : rs.length ≤ 256) : ¬(rs.isEmpty = true ∨ 256 < rs.length) := by
  simp [hne, hlen]

theorem exec_datasetManagement_integral (h : s.NsRuns c 0x09 k n) (hne : k.sqe.ranges ≠ []) (hlen : k.sqe.ranges.length ≤ 256)
    (hr : ∀ r ∈ k.sqe.ranges, r.1 + r.2 ≤ n.size) :
    ∃ t, exec (.datasetManagement c false) s = .next t ∧ t.Ended c St.ok ∧ t.map = s.map := by
  have hrow : exec (.datasetManagement c false) s = .next (s.fail c St.ok) :=
    (onNs_of_runs h _).trans (by rw [if_neg (ranges_ok hne hlen), if_neg (by simp [no_range_past_end hr]), if_pos Bool.not_false])
  exact ⟨_, hrow, h.fail_ended _, s.fail_map c _⟩

theorem exec_datasetManagement_deallocates (h : s.NsRuns c 0x09 k n) (hne : k.sqe.ranges ≠ []) (hlen : k.sqe.ranges.length ≤ 256)
    (hr : ∀ r ∈ k.sqe.ranges, r.1 + r.2 ≤ n.size) (hwait : s.mustWait c = false) (hgate : s.segGate c n k.sqe.ranges = none) :
    exec (.datasetManagement c true) s =
      .next (((s.unpark c).deallocRanges n k.sqe.ranges).1.deallocated c ((s.unpark c).deallocRanges n k.sqe.ranges).2) :=
  (onNs_of_runs h _).trans (by
    simp only [ranges_ok hne hlen, no_range_past_end hr, hwait, hgate, Bool.not_true, Bool.false_eq_true, if_false])

theorem exec_datasetManagement_pastEnd (ad : Bool) (h : s.NsRuns c 0x09 k n) (hne : k.sqe.ranges ≠ []) (hlen : k.sqe.ranges.length ≤ 256)
    (hr : ∃ r ∈ k.sqe.ranges, n.size < r.1 + r.2) :
    ∃ t, exec (.datasetManagement c ad) s = .next t ∧ t.Ended c St.lbaRange ∧ t.map = s.map := by
  have hrow : exec (.datasetManagement c ad) s = .next (s.fail c St.lbaRange) :=
    (onNs_of_runs h _).trans (by rw [if_neg (ranges_ok hne hlen), if_pos (by simpa using hr)])
  exact ⟨_, hrow, h.fail_ended _, s.fail_map c _⟩

/-- A Write Uncorrectable that no check before the pool's ends or holds is what the pool's room makes of it. -/
theorem exec_writeUncorrectable_gated (h : s.NsRuns c 0x04 k n) (href : n.refuses k.sqe.slba k.sqe.nlb 65536 = none)
    (hro : s.flag F.rclRoRo = false) (hwait : s.mustWait c = false) (hgate : s.segGate c n [(k.sqe.slba, k.sqe.nlb)] = none) :
    exec (.writeUncorrectable c) s = .next (
      if poolTotal < s.map.overlays.length + s.overlaysNeeded n k.sqe.slba k.sqe.nlb then
        ((s.fail c St.internal).setFlag F.mapStatPoolfullseen).mapCnt 25
      else ((s.unpark c).updCmd c (fun k => { k with buffered := true })).markRange c k.sqe.nsid n k.sqe.slba k.sqe.nlb) :=
  (onNs_of_runs h _).trans (by simp only [href, hro, hwait, hgate, Bool.false_eq_true, if_false])

theorem exec_writeUncorrectable_marks (h : s.NsRuns c 0x04 k n) (href : n.refuses k.sqe.slba k.sqe.nlb 65536 = none)
    (hro : s.flag F.rclRoRo = false) (hwait : s.mustWait c = false) (hgate : s.segGate c n [(k.sqe.slba, k.sqe.nlb)] = none)
    (hroom : s.map.overlays.length + s.overlaysNeeded n k.sqe.slba k.sqe.nlb ≤ poolTotal) :
    exec (.writeUncorrectable c) s =
      .next (((s.unpark c).updCmd c (fun k => { k with buffered := true })).markRange c k.sqe.nsid n k.sqe.slba k.sqe.nlb) := by
  rw [exec_writeUncorrectable_gated h href hro hwait hgate, if_neg (Nat.not_lt.2 hroom)]

theorem exec_writeUncorrectable_poolFull (h : s.NsRuns c 0x04 k n) (href : n.refuses k.sqe.slba k.sqe.nlb 65536 = none)
    (hro : s.flag F.rclRoRo = false) (hwait : s.mustWait c = false) (hgate : s.segGate c n [(k.sqe.slba, k.sqe.nlb)] = none)
    (hfull : poolTotal < s.map.overlays.length + s.overlaysNeeded n k.sqe.slba k.sqe.nlb) :
    ∃ t, exec (.writeUncorrectable c) s = .next t ∧ t.Ended c St.internal ∧ t.map = s.map ∧ t.flag F.mapStatPoolfullseen = true := by
  have hrow := exec_writeUncorrectable_gated h href hro hwait hgate
  rw [if_pos hfull] at hrow
  refine ⟨_, hrow, h.fail_ended _, s.fail_map c _, ?_⟩
  rw [State.mapCnt, State.addWrap_eq, State.flag_setFld_ne _ _ _ _ (by decide) (by decide)]
  exact State.flag_setFld_one _ _ (by decide) rfl

end

/-! ### Units and read-modify-writes (R165, R173, R179, R204) -/

section
variable {s : State}

theorem State.laneHeld_none (h : s.crs.rmws = []) (e me : Nat) : s.laneHeld e me = false := by simp [State.laneHeld, h]
theorem State.segStalled_none (h : s.map.stalled = []) (g : Nat) : s.segStalled g = false := by simp [State.segStalled, h, Tab.has, Tab.find]
theorem State.segLost_none (h : s.map.lost = []) (g : Nat) : s.segLost g = false := by simp [State.segLost, h]

theorem exec_mapUnitApply_applies {c nsid u : Nat} {p : Nat × BufSlot} {ps : List (Nat × BufSlot)} (hps : s.unitSlots c nsid u = p :: ps)
    (hready : ∀ x ∈ p :: ps, s.slotReady x.2 = true) (hbuf : s.cmdBuffered c = true) (hwrites : s.earlierLocks c true = [])
    (hreads : s.earlierLocks c false = []) (hrmws : s.crs.rmws = []) (hstalled : s.map.stalled = []) (hlost : s.map.lost = []) :
    exec (.mapUnitApply c nsid u) s = .next (s.applyUnit c nsid u) := by
  have hall : (p :: ps).all (fun x => s.slotReady x.2) = true := List.all_eq_true.2 hready
  have hrow : execMapUnitApply c nsid u s = _ := guarded_true _ _ _ (by
    simp only [hps, hall, hbuf, hwrites, hreads, State.laneHeld_none hrmws, List.isEmpty_cons, List.isEmpty_nil]
    simp)
  have hserved : ∀ gs : List Nat, gs.find? (fun g => s.segStalled g) = none ∧ gs.any s.segLost = false := fun gs => by
    simp [State.segStalled_none hstalled, State.segLost_none hlost]
  refine hrow.trans ?_
  rw [(hserved _).1]
  simp only [(hserved _).2, Bool.false_eq_true, if_false]

variable {j p : Nat} {r : Rmw}

/-- The row of a read-modify-write whose image is program-safe and whose command is its segment's next is what the segment's state makes of it. -/
theorem exec_rmwWriteback_safe (hr : Tab.find j s.crs.rmws = some r) (hp : r.place = some p)
    (hsafe : s.runSafe p (if r.frame = 0 then 16 else r.frame) = true) (hbuf : s.cmdBuffered r.cmd = true)
    (hwrites : s.earlierLocks r.cmd true = []) (hreads : s.earlierLocks r.cmd false = []) :
    exec (.rmwWriteback j []) s = .next (
      if s.segStalled (segOf r.e) then { s with map := { s.map with held := insertNew (segOf r.e, HeldUpd.rmw j) s.map.held } }
      else if s.segLost (segOf r.e) then s.discardHeld (.rmw j)
      else if s.ext r.e ≠ r.seen then
        (s.mapCnt 28).placeRmw j { r with seen := s.ext r.e, place := none, bad := [], restarts := r.restarts + 1 }
          (((Tab.find r.nsid s.nss).map (·.compress)).getD false)
      else s.writeBack j r) := by
  show execRmwWriteback j [] s = _
  simp only [execRmwWriteback, hr, List.filter_nil, List.isEmpty_nil, Bool.not_true, Bool.false_and, Bool.false_eq_true, if_false, List.append_nil]
  exact guarded_true _ _ _ (by simp [hp, hsafe, hbuf, hwrites, hreads])

theorem exec_rmwWriteback_applies (hr : Tab.find j s.crs.rmws = some r) (hp : r.place = some p)
    (hsafe : s.runSafe p (if r.frame = 0 then 16 else r.frame) = true) (hbuf : s.cmdBuffered r.cmd = true)
    (hwrites : s.earlierLocks r.cmd true = []) (hreads : s.earlierLocks r.cmd false = []) (hstall : s.segStalled (segOf r.e) = false)
    (hlost : s.segLost (segOf r.e) = false) (hseen : s.ext r.e = r.seen) :
    exec (.rmwWriteback j []) s = .next (s.writeBack j r) := by
  rw [exec_rmwWriteback_safe hr hp hsafe hbuf hwrites hreads, if_neg (by simp [hstall]), if_neg (by simp [hlost]),
    if_neg (not_not_intro hseen)]

theorem exec_rmwWriteback_held (hr : Tab.find j s.crs.rmws = some r) (hp : r.place = some p)
    (hsafe : s.runSafe p (if r.frame = 0 then 16 else r.frame) = true) (hbuf : s.cmdBuffered r.cmd = true)
    (hwrites : s.earlierLocks r.cmd true = []) (hreads : s.earlierLocks r.cmd false = []) (hstall : s.segStalled (segOf r.e) = true) :
    ∃ t, exec (.rmwWriteback j []) s = .next t ∧ t.map.coarse = s.map.coarse ∧ t.map.held = insertNew (segOf r.e, HeldUpd.rmw j) s.map.held := by
  have hrow := exec_rmwWriteback_safe hr hp hsafe hbuf hwrites hreads
  rw [if_pos hstall] at hrow
  exact ⟨_, hrow, rfl, rfl⟩

end

/-! ### The recovery of a segment (R179) -/

section
variable {s : State} {g m n : Nat} {rest : List (Nat × Nat)}

/-- The oldest stalled segment taken from the list, with the updates held for it; the frames read meanwhile are a free value (R346). -/
def State.unstalled (s : State) (g : Nat) (rest : List (Nat × Nat)) : State :=
  ({ s with map := { s.map with stalled := rest, held := s.map.held.filter (fun h => h.1 ≠ g) } } : State).framesRead

theorem State.unstalled_map (hheld : s.map.held = []) : (s.unstalled g rest).map = { s.map with stalled := rest } := by
  show ({ s.map with stalled := rest, held := s.map.held.filter (fun h => h.1 ≠ g) } : MapSt) = _
  simp only [hheld, List.filter_nil]

/-- The counter of frames read is another register than the map's counters. -/
theorem State.fld_unstalled_mapCnt {i : Nat} (hi : i < 32) : (s.unstalled g rest).fld (F.mapCntCount i) = s.fld (F.mapCntCount i) := by
  have hne : (F.mapCntCount i).dw ≠ (F.cmpCntCount 9).dw := by
    simp only [Fld.dw, F.mapCntCount, F.cmpCntCount, Reg.mapCnt, Reg.cmpCnt]
    omega
  exact State.fld_setFld_ne _ (F.cmpCntCount 9) _ _ (by decide) (.inl hne)

/-- A segment reloaded in `ms` milliseconds, `n` records replayed. -/
def State.segmentReloaded (u : State) (g ms n : Nat) : State :=
  (((u.putSat F.mapRecLastMs ms).event 0x0302 g ms).mapCnt 21).mapCnt 23 n

theorem State.segmentReloaded_counts (u : State) (g ms n : Nat) :
    (u.segmentReloaded g ms n).fld (F.mapCntCount 21) = (u.fld (F.mapCntCount 21) + 1) % 2 ^ 32 ∧
      (u.segmentReloaded g ms n).fld (F.mapCntCount 23) = (u.fld (F.mapCntCount 23) + n) % 2 ^ 32 := by
  have hreport : ∀ f : Fld, f.dw ≠ Reg.mapRecLast → f.dw ≠ Reg.evwDrop → f.dw ≠ Reg.evwStat →
      ((u.putSat F.mapRecLastMs ms).event 0x0302 g ms).fld f = u.fld f := fun f hrec hdrop hstat => by
    rw [State.fld_event _ _ _ _ _ _ _ hdrop hstat, State.putSat_eq, State.fld_setFld_ne _ _ _ _ (by decide) (.inl hrec)]
  rw [State.segmentReloaded, State.mapCnt, State.mapCnt]
  constructor
  · rw [State.addWrap_eq, State.fld_setFld_ne _ _ _ _ (by decide) (by decide), State.fld_addWrap _ _ _ (by decide),
      hreport _ (by decide) (by decide) (by decide)]
    rfl
  · rw [State.fld_addWrap _ _ _ (by decide), State.addWrap_eq, State.fld_setFld_ne _ _ _ _ (by decide) (by decide),
      hreport _ (by decide) (by decide) (by decide)]
    rfl

/-- A segment lost `ms` milliseconds after it stalled: it is reported, and the commands parked on it fail. -/
def State.segmentLost (u : State) (g ms : Nat) : State :=
  let t : State := { u with map := { u.map with lost := insertNew g u.map.lost } }
  let t := (((t.setFlag F.mapStatLostseen).event 0x0303 g ms).degrade 1).mapCnt 22
  (t.parkedOn g).foldl (fun t c => t.failWrite c St.internal) t

theorem State.segmentLost_notes (u : State) (g ms : Nat) :
    (u.segmentLost g ms).map = { u.map with lost := insertNew g u.map.lost } ∧ (u.segmentLost g ms).flag F.mapStatLostseen = true := by
  obtain ⟨hregs, hmap⟩ := State.foldl_failWrite_leaves _ _ _
  refine ⟨hmap.trans ?_, ?_⟩
  · rw [State.mapCnt_map, State.degrade_map, State.event_map, State.setFlag_eq, State.setFld_map]
  · rw [State.segmentLost, State.flag, State.fld_congr _ hregs, State.mapCnt, State.addWrap_eq,
      State.fld_setFld_ne _ _ _ _ (by decide) (by decide)]
    refine (State.flag_degrade _ _ _).trans ?_
    rw [State.flag_event _ _ _ _ _ _ _ (by decide) (by decide)]
    exact State.flag_setFld_one _ _ (by decide) rfl

/-- The recovery of a segment for which no update is held. -/
theorem exec_segmentRecoveryComplete_row (ok : Bool) (n : Nat) (hs : s.map.stalled = (g, m) :: rest) (hheld : s.map.held = []) :
    ∃ ms, exec (.segmentRecoveryComplete ok n) s =
      .next (if ok then (s.unstalled g rest).segmentReloaded g ms n else (s.unstalled g rest).segmentLost g ms) := by
  have hnone : (s.map.held.filter (fun h => h.1 = g)).map (·.2) = [] := by rw [hheld]; rfl
  refine ⟨((s.unstalled g rest).clk.mono - m) / 1000000, ?_⟩
  show execSegmentRecoveryComplete ok n s = _
  rw [execSegmentRecoveryComplete, hs]
  simp only [hnone, List.foldl_nil]
  rfl

theorem exec_segmentRecoveryComplete_ok (hs : s.map.stalled = (g, m) :: rest) (hheld : s.map.held = []) :
    ∃ t, exec (.segmentRecoveryComplete true n) s = .next t ∧ t.map = { s.map with stalled := rest } ∧
      t.fld (F.mapCntCount 21) = (s.fld (F.mapCntCount 21) + 1) % 2 ^ 32 ∧ t.fld (F.mapCntCount 23) = (s.fld (F.mapCntCount 23) + n) % 2 ^ 32 := by
  obtain ⟨ms, hrow⟩ := exec_segmentRecoveryComplete_row true n hs hheld
  rw [if_pos rfl] at hrow
  obtain ⟨hreplays, hrecords⟩ := (s.unstalled g rest).segmentReloaded_counts g ms n
  rw [State.fld_unstalled_mapCnt (by decide)] at hreplays hrecords
  exact ⟨_, hrow, (State.event_map _ _ _ _ _ _).trans (State.unstalled_map hheld), hreplays, hrecords⟩

theorem exec_segmentRecoveryComplete_lost (n : Nat) (hs : s.map.stalled = (g, m) :: rest) (hheld : s.map.held = []) :
    ∃ t, exec (.segmentRecoveryComplete false n) s = .next t ∧ t.map = { s.map with stalled := rest, lost := insertNew g s.map.lost } ∧
      t.flag F.mapStatLostseen = true := by
  obtain ⟨ms, hrow⟩ := exec_segmentRecoveryComplete_row false n hs hheld
  rw [if_neg (by decide)] at hrow
  obtain ⟨hmap, hseen⟩ := (s.unstalled g rest).segmentLost_notes g ms
  rw [State.unstalled_map hheld] at hmap
  exact ⟨_, hrow, hmap, hseen⟩

end

/-- Settles O11: each row finds its segment, its ranges, its unit or its image as stated, and stalls, deallocates, marks, applies or holds. -/
theorem mapRowsComplete : Obligations.MapRowsComplete := by
  unfold Obligations.MapRowsComplete
  exact ⟨fun _ _ _ he hc hlost hstall => exec_mapSegmentStall_new he hc hlost hstall,
    fun _ _ _ he hc hlost => exec_mapSegmentStall_lost he hc hlost,
    exec_ownerTableError_begins, exec_ownerTableError_ends, fun _ ha => exec_ageEpochTick_counts ha, fun _ ha => exec_ageEpochTick_cancelled ha,
    fun _ _ _ _ h hne hlen hr => exec_datasetManagement_integral h hne hlen hr,
    fun _ _ _ _ h hne hlen hr hwait hgate => exec_datasetManagement_deallocates h hne hlen hr hwait hgate,
    fun _ _ ad _ _ h hne hlen hr => exec_datasetManagement_pastEnd ad h hne hlen hr,
    fun _ _ _ _ h href hro hwait hgate hroom => exec_writeUncorrectable_marks h href hro hwait hgate hroom,
    fun _ _ _ _ h href hro hwait hgate hfull => exec_writeUncorrectable_poolFull h href hro hwait hgate hfull,
    fun _ _ _ _ _ _ hps hready hbuf hw hr hrmws hstalled hlost => exec_mapUnitApply_applies hps hready hbuf hw hr hrmws hstalled hlost,
    fun _ _ _ _ hr hp hsafe hbuf hw hrd hstall hlost hseen => exec_rmwWriteback_applies hr hp hsafe hbuf hw hrd hstall hlost hseen,
    fun _ _ _ _ hr hp hsafe hbuf hw hrd hstall => exec_rmwWriteback_held hr hp hsafe hbuf hw hrd hstall,
    fun _ _ _ _ _ hs hheld => exec_segmentRecoveryComplete_ok hs hheld,
    fun _ _ _ n _ hs hheld => exec_segmentRecoveryComplete_lost n hs hheld⟩

end Sys2Proof.Machine
end

section
/-! SUPPORT. The rows of reclamation (R168, R197, R202, R239 to R242, R246, R252, R253): which victims, courses and copies each row finds, and what it
makes of them. -/

namespace Sys2Proof.Machine

/-! ### Victims, passes and seams (R202, R239 to R242, R246) -/

section
variable {s : State}

theorem exec_victimSelect_idle (h : s.sanitizing = true ∨ s.victimTarget ≤ s.freeF) : exec .victimSelect s = .next s :=
  if_pos h

theorem exec_victimSelect_queues (hsan : s.sanitizing = false) (hlow : s.freeF < s.victimTarget) :
    exec .victimSelect s = .next (State.queueBest (s.fld F.rclVictBatch - (s.crs.victims.filter (fun v => v.reason = 0)).length) s) :=
  if_neg (not_or.2 ⟨by simp [hsan], Nat.not_le.2 hlow⟩)

variable {n : Nat} {c : Course}

theorem exec_courseAgeRefresh_queues (hc : s.course n = some c) (hclosed : c.closed = true) (hband : c.band ≤ 2)
    (hage : c.closeTime + 86400 * s.fld F.rclRefCtlAgedays * 1000000000 ≤ s.clk.mono) :
    exec (.courseAgeRefresh n) s = .next (s.queueVictim n 2 6) := by
  show execCourseAgeRefresh n s = _
  rw [execCourseAgeRefresh, hc]
  exact guarded_true _ _ _ (by simp [hclosed, hband, nsSec, hage])

/-- A victim for space or refresh is copied whole (R240). -/
theorem exec_reclaimCopy_one {v : Victim} (bad : List Nat) (hc : s.course n = some c) (hv : s.crs.victims = [v]) (hn : v.course = n)
    (hr : v.reason ≤ 5) :
    exec (.reclaimCopy n bad) s = .next (({ s with crs := { s.crs with victims := [] } } : State).copyBlocks n v.reason 2 bad
      ((c.dataPos n).filterMap (fun p => (c.mem p).map Member.id))) := by
  have hfind : s.crs.victims.find? (fun v => v.course = n) = some v := by simp [hv, hn]
  have hnot9 : ¬(v.reason = 9) := by omega
  have hnot10 : ¬(v.reason = 10) := by omega
  show execReclaimCopy n bad s = _
  simp only [execReclaimCopy, hfind, hc, hnot9, hnot10, false_and, if_false]
  simp [hv]

theorem exec_destageMove_moves (bad : List Nat) (hc : s.course n = some c) (hclosed : c.closed = true) (hband : c.band = 1) :
    exec (.destageMove n bad) s = .next (s.copyBlocks n 8 0 bad ((c.dataPos n).filterMap (fun p => (c.mem p).map Member.id))) := by
  show execDestageMove n bad s = _
  rw [execDestageMove, hc]
  exact guarded_true _ _ _ (by simp [hclosed, hband])

theorem exec_seamStart_seams {e : Nat} (bad : List Nat) (hmay : s.maySeam e = true) (hpool : 1 ≤ s.pool) :
    exec (.seamStart e bad) s = .next (s.seamStart e bad) :=
  guarded_true _ _ _ (by simp [hmay, hpool])

end

/-! ### Copies handed to the map engine (R168, R179, R241) -/

section
variable {s : State} {id : Nat} {c : Copy}

theorem State.commitCopy_seam (h : c.reason = 11) (hstall : s.segStalled (segOf c.e) = false) (hlost : s.segLost (segOf c.e) = false) :
    s.commitCopy id c = s.seamCommit id c := by
  simp [State.commitCopy, h, hstall, hlost]

theorem State.commitCopy_move (h : c.reason ≠ 11) (hstall : s.segStalled (segOf c.e) = false) (hlost : s.segLost (segOf c.e) = false) :
    s.commitCopy id c = s.moveCommit id c := by
  simp [State.commitCopy, h, hstall, hlost]

theorem exec_seamCommit_row (hc : Tab.find id s.crs.copies = some c) (h : c.reason = 11) (hsafe : s.copySafe c = true) :
    exec (.seamCommit id) s = .next (s.commitCopy id c) := by
  show execSeamCommit id s = _
  rw [execSeamCommit, hc]
  exact guarded_true _ _ _ (by simp [h, hsafe])

theorem exec_moveCommit_row (hc : Tab.find id s.crs.copies = some c) (h : c.reason ≠ 11) (hsafe : s.copySafe c = true) :
    exec (.moveCommit id) s = .next (s.commitCopy id c) := by
  show execMoveCommit id s = _
  rw [execMoveCommit, hc]
  exact guarded_true _ _ _ (by simp [h, hsafe])

theorem exec_seamCommit_seams (hc : Tab.find id s.crs.copies = some c) (h : c.reason = 11) (hsafe : s.copySafe c = true)
    (hstall : s.segStalled (segOf c.e) = false) (hlost : s.segLost (segOf c.e) = false) :
    exec (.seamCommit id) s = .next (s.seamCommit id c) := by
  rw [exec_seamCommit_row hc h hsafe, State.commitCopy_seam h hstall hlost]

theorem exec_moveCommit_moves (hc : Tab.find id s.crs.copies = some c) (h : c.reason ≠ 11) (hsafe : s.copySafe c = true)
    (hstall : s.segStalled (segOf c.e) = false) (hlost : s.segLost (segOf c.e) = false) :
    exec (.moveCommit id) s = .next (s.moveCommit id c) := by
  rw [exec_moveCommit_row hc h hsafe, State.commitCopy_move h hstall hlost]

/-- An extent that no longer holds what the seam read keeps its entries: the seam is discarded and counted (R168). -/
theorem State.seamCommit_stale (hseen : s.ext c.e ≠ c.seen) :
    (s.seamCommit id c).map = s.map ∧ Tab.find id (s.seamCommit id c).crs.copies = none ∧
      (s.seamCommit id c).fld (F.mapCntCount 10) = (s.fld (F.mapCntCount 10) + 1) % 2 ^ 32 := by
  have hdiscard : s.seamCommit id c = ({ s with crs := { s.crs with copies := Tab.del id s.crs.copies } } : State).mapCnt 10 := if_neg hseen
  rw [hdiscard]
  exact ⟨rfl, Tab.find_del_self _ _, State.fld_addWrap _ _ _ (by decide)⟩

/-- The result of a copy for a stalled segment waits for its recovery (R179). -/
theorem State.commitCopy_stalled (hstall : s.segStalled (segOf c.e) = true) :
    s.commitCopy id c = { s with map := { s.map with held := insertNew (segOf c.e, HeldUpd.copy id) s.map.held } } :=
  if_pos hstall

theorem exec_moveCommit_held (hc : Tab.find id s.crs.copies = some c) (h : c.reason ≠ 11) (hsafe : s.copySafe c = true)
    (hstall : s.segStalled (segOf c.e) = true) :
    ∃ t, exec (.moveCommit id) s = .next t ∧ t.map = { s.map with held := insertNew (segOf c.e, HeldUpd.copy id) s.map.held } ∧
      t.crs = s.crs :=
  ⟨_, (exec_moveCommit_row hc h hsafe).trans (congrArg _ (State.commitCopy_stalled hstall)), rfl, rfl⟩

end

/-! ### The spare stall (R253) -/

section
variable {s : State}

theorem exec_readOnlyStall_enters (ha : s.armed .readOnlyStall = true) (hf : s.freeF ≤ 4) (hw : s.worthwhile = false)
    (hro : s.flag F.rclRoRo = false) :
    ∃ t, exec .readOnlyStall s = .next t ∧ t.flag F.rclRoRo = true ∧ t.fld F.rclRoCause = 2 ∧ t.flag F.rclStatRoseen = true ∧ t.map = s.map := by
  have hstall : (s.expire .readOnlyStall).freeF ≤ 4 ∧ (!(s.expire .readOnlyStall).worthwhile) = true := by
    rw [State.expire_frame]
    exact ⟨hf, congrArg not hw⟩
  have hrow : execReadOnlyStall s = _ := onTimer_armed ha _
  rw [if_pos hstall] at hrow
  obtain ⟨hwrites, hmap⟩ := (s.expire .readOnlyStall).enterReadOnly_leaves 2 ((s.flag_expire _ _).trans hro)
  refine ⟨_, hrow, ?_, ?_, ?_, hmap.trans (s.expire_map _)⟩
  · rw [hwrites.flag _ (by decide), State.readOnlyNoted]
    simp only [State.setFlag_eq]
    rw [State.flag_setFld_ne _ _ _ _ (by decide) (by decide), State.flag_setFld_ne _ _ _ _ (by decide) (by decide)]
    exact State.flag_setFld_one _ _ (by decide) rfl
  · rw [hwrites.fld _ (by decide), State.readOnlyNoted, State.setFlag_eq, State.fld_setFld_ne _ _ _ _ (by decide) (by decide),
      State.fld_setFld _ _ _ (by decide)]
    rfl
  · rw [hwrites.flag _ (by decide), State.readOnlyNoted]
    exact State.flag_setFld_one _ _ (by decide) rfl

theorem exec_readOnlyStall_cancelled (ha : s.armed .readOnlyStall = false) : exec .readOnlyStall s = .next s :=
  onTimer_unarmed ha _

end

/-! ### Reclaim unit handles (R132, R139, R140, R197) -/

section
variable {s : State} {c i : Nat} {k : Cmd} {n : Ns}

theorem State.NsRuns.finish_ended {op : Nat} {t : State} (h : s.NsRuns c op k n) (hq : t.q = s.q) (st : Status) : (t.finish c st).Ended c st :=
  State.Stays.finish_ended ⟨k, (State.cmd_congr c hq).trans h.cmd_eq, h.not_dropped⟩ st

theorem exec_ioManagementReceive_status (h : s.NsRuns c 0x12 k n) (hfdp : s.adm.fdp = some i) :
    ∃ t, exec (.ioManagementReceive c 1) s = .next t ∧ t.Ended c St.ok ∧
      t.tx = .hostBuf c (n.handles.length :: (List.range n.handles.length).flatMap
        (fun j => [j, n.handles.getD j 0, s.handleRoom (n.handles.getD j 0)])) :: s.tx := by
  have hrow : execIoManagementReceive c 1 s = _ := onNs_of_runs h _
  rw [if_neg (by decide), if_neg (by simp [hfdp])] at hrow
  exact ⟨_, hrow, h.finish_ended (t := s.send _) rfl _, State.finish_tx _ _ _ _⟩

theorem exec_ioManagementReceive_badOperation {mo : Nat} (h : s.NsRuns c 0x12 k n) (hmo : mo ≠ 1) :
    ∃ t, exec (.ioManagementReceive c mo) s = .next t ∧ t.Ended c St.badField ∧ t.tx = s.tx := by
  have hrow : exec (.ioManagementReceive c mo) s = .next (s.fail c St.badField) := (onNs_of_runs h _).trans (by rw [if_pos hmo])
  exact ⟨_, hrow, h.fail_ended _, State.fail_tx _ _ _⟩

theorem exec_reclaimUnitHandleUpdate_updates {hs : List Nat} (h : s.NsRuns c 0x1D k n) (hfdp : s.adm.fdp = some i)
    (hhs : ∀ j ∈ hs, j < n.handles.length) :
    exec (.reclaimUnitHandleUpdate c hs) s = .next ((hs.foldl (fun t j => t.updateHandle (n.handles.getD j 0)) s).finish c St.ok) :=
  (onNs_of_runs h _).trans (by rw [if_neg (by simp [hfdp]), if_neg (by simpa using hhs)])

theorem exec_reclaimUnitHandleUpdate_badHandle {hs : List Nat} {j : Nat} (h : s.NsRuns c 0x1D k n) (hfdp : s.adm.fdp = some i)
    (hj : j ∈ hs) (hbad : n.handles.length ≤ j) :
    ∃ t, exec (.reclaimUnitHandleUpdate c hs) s = .next t ∧ t.Ended c St.badField ∧ t.crs = s.crs := by
  have hany : hs.any (fun j => decide (n.handles.length ≤ j)) = true := List.any_eq_true.2 ⟨j, hj, decide_eq_true hbad⟩
  have hrow : exec (.reclaimUnitHandleUpdate c hs) s = .next (s.fail c St.badField) :=
    (onNs_of_runs h _).trans (by rw [if_neg (by simp [hfdp]), if_pos hany])
  exact ⟨_, hrow, h.fail_ended _, by rw [State.fail_frame]⟩

theorem exec_reclaimUnitHandleUpdate_fdpOff (hs : List Nat) (h : s.NsRuns c 0x1D k n) (hfdp : s.adm.fdp = none) :
    ∃ t, exec (.reclaimUnitHandleUpdate c hs) s = .next t ∧ t.Ended c St.fdpDisabled ∧ t.crs = s.crs := by
  have hrow : exec (.reclaimUnitHandleUpdate c hs) s = .next (s.fail c St.fdpDisabled) :=
    (onNs_of_runs h _).trans (by rw [if_pos (by simp [hfdp])])
  exact ⟨_, hrow, h.fail_ended _, by rw [State.fail_frame]⟩

end

/-- Settles O16: each row finds its victims, its course, its copy or its handles as stated, and queues, copies, commits or refuses by them. -/
theorem reclaimRowsComplete : Obligations.ReclaimRowsComplete := by
  unfold Obligations.ReclaimRowsComplete
  exact ⟨fun _ h => exec_victimSelect_idle h, fun _ hsan hlow => exec_victimSelect_queues hsan hlow,
    fun _ _ _ hc hclosed hband hage => exec_courseAgeRefresh_queues hc hclosed hband hage,
    fun _ _ bad _ _ hc hv hn hr => exec_reclaimCopy_one bad hc hv hn hr,
    fun _ _ bad _ hc hclosed hband => exec_destageMove_moves bad hc hclosed hband,
    fun _ _ bad hmay hpool => exec_seamStart_seams bad hmay hpool,
    fun _ _ _ hc h hsafe hstall hlost hseen => ⟨_, exec_seamCommit_seams hc h hsafe hstall hlost, State.seamCommit_stale hseen⟩,
    fun _ _ _ hc h hsafe hstall hlost => exec_seamCommit_seams hc h hsafe hstall hlost,
    fun _ _ _ hc h hsafe hstall hlost => exec_moveCommit_moves hc h hsafe hstall hlost,
    fun _ _ _ hc h hsafe hstall => exec_moveCommit_held hc h hsafe hstall,
    fun _ ha hf hw hro => exec_readOnlyStall_enters ha hf hw hro, fun _ ha => exec_readOnlyStall_cancelled ha,
    fun _ _ _ _ _ h hfdp => exec_ioManagementReceive_status h hfdp, fun _ _ _ _ _ h hmo => exec_ioManagementReceive_badOperation h hmo,
    fun _ _ _ _ _ _ h hfdp hhs => exec_reclaimUnitHandleUpdate_updates h hfdp hhs,
    fun _ _ _ _ _ _ _ h hfdp hj hbad => exec_reclaimUnitHandleUpdate_badHandle h hfdp hj hbad,
    fun _ _ hs _ _ h hfdp => exec_reclaimUnitHandleUpdate_fdpOff hs h hfdp⟩

end Sys2Proof.Machine
end

section
/-! SUPPORT. The rows that carry a write (R132, R133, R136, R183 to R187, R252): what holds a write back, which of a write's checks decides, and what a
change of the mode of R184 notes. -/

namespace Sys2Proof.Machine

/-! ### Writes held back (R111, R183, R245, R267) -/

section
variable {s : State} {c : Nat}

theorem State.park_frame (id reason : Nat) :
    s.park id reason = { s with timers := (s.park id reason).timers, regs := (s.park id reason).regs, q := (s.park id reason).q } := by
  unfold State.park
  extract_lets t u
  split
  · split <;> rfl
  · rfl

/-- Parking stitches changes them, their aging timers and the counts of it (R111). -/
theorem State.parkAll_frame (reason : Nat) :
    s.parkAll c reason =
      { s with timers := (s.parkAll c reason).timers, regs := (s.parkAll c reason).regs, q := (s.parkAll c reason).q } :=
  State.foldl_frame (fun s t => { s with timers := t.timers, regs := t.regs, q := t.q }) _ _ s (fun _ => rfl)
    (fun _ _ _ h1 h2 => by rw [h2, h1]) (fun _ _ => State.park_frame _ _)

/-- A stitch parked for another reason than translation is counted in one register (R111). -/
theorem State.WritesOnly.parkAll {reason : Nat} (h : reason ≠ 0) : s.WritesOnly [Reg.qenCnt 5] (s.parkAll c reason) := by
  refine .foldl _ _ s fun u p _ => ?_
  unfold State.park
  extract_lets q t v
  rw [if_neg h]
  exact State.WritesOnly.trans (t := t.cancel (.stitchAging p.1)) (.of_eq rfl rfl) (.setFld _ _ (by decide))

/-- A write held back buffers and sends nothing. -/
theorem State.holdWrite_leaves : (s.holdWrite c).buf = s.buf ∧ (s.holdWrite c).tx = s.tx := by
  have hpark : (s.parkAll c 4).buf = s.buf ∧ (s.parkAll c 4).tx = s.tx := by
    rw [State.parkAll_frame]
    exact ⟨rfl, rfl⟩
  unfold State.holdWrite
  extract_lets t u
  have hu : u.buf = s.buf ∧ u.tx = s.tx := by
    unfold u
    split <;> exact hpark
  split <;> exact hu

/-- The registers that tell what holds a write back: a full journal and write tension (R245, R267). -/
def holdRegs : List Nat := [Reg.lifStat, Reg.lifCnt 21, Reg.rclCnt 9]

theorem State.WritesOnly.holdWrite : ((s.parkAll c 4).crsCnt 18).WritesOnly holdRegs (s.holdWrite c) := by
  unfold State.holdWrite
  extract_lets t u
  have hfull : t.WritesOnly holdRegs u := by
    unfold u
    split
    · exact (State.WritesOnly.setFld F.lifStatJfullseen 1 (by decide)).trans (.setFld _ _ (by decide))
    · exact .refl _ _
  split
  · exact hfull
  · exact hfull.trans (.setFld _ _ (by decide))

theorem State.fld_holdWrite_count : (s.holdWrite c).fld (F.crsCntCount 18) = (s.fld (F.crsCntCount 18) + 1) % 2 ^ 32 := by
  rw [State.WritesOnly.holdWrite.fld _ (by decide), State.crsCnt, State.fld_addWrap _ _ _ (by decide),
    (State.WritesOnly.parkAll (by decide)).fld _ (by decide)]
  rfl

end

/-! ### The checks of a write (R133, R136, R252) -/

section
variable {s : State} {k : Cmd} {n : Ns}

theorem State.writeRefused_pastEnd (hlo : 1 ≤ k.sqe.nlb) (hhi : k.sqe.nlb ≤ 1024) (hend : n.size < k.sqe.slba + k.sqe.nlb) :
    s.writeRefused k n = some St.lbaRange := by
  have hlen : ¬(k.sqe.nlb = 0 ∨ 1024 < k.sqe.nlb) := by omega
  simp only [State.writeRefused, Ns.refuses, if_neg hlen, if_pos hend]

theorem State.writeRefused_readOnly (href : n.refuses k.sqe.slba k.sqe.nlb 1024 = none) (hh : (s.handleOf n k.sqe).isSome = true)
    (hro : s.flag F.rclRoRo = true) : s.writeRefused k n = some St.writeProtected := by
  have hh' : ¬(s.handleOf n k.sqe).isNone = true := by simpa using Option.isSome_iff_ne_none.mp hh
  simp only [State.writeRefused, href, if_neg hh', if_pos hro]

/-- One wrong guard among the data fails the check where PRCHK asks for it, before the tags are looked at. -/
theorem Ns.ingress_badGuard {prchk : Nat} {data : List HostSlot} (hpi : n.pi ≠ 0) (hp : prchk.testBit 2 = true)
    (hd : ∃ d ∈ data, d.guardOk = false) : n.ingress prchk data = some St.guardCheck := by
  have hany : data.any (fun d => !d.guardOk) = true := by simpa using hd
  simp only [Ns.ingress, if_neg hpi, hp, hany, Bool.and_self, if_true]

end

/-! ### WRITE and WRITE_ZEROES (R20, R132) -/

section
variable {s : State} {c : Nat} {k : Cmd} {n : Ns} (data : List HostSlot) (cmp : CmpOutcome)

/-- A write refused before its data is read ends with the refusal; those that meet read-only mode are counted. -/
theorem exec_write_refused {st : Status} (h : s.NsRuns c 0x01 k n) (href : s.writeRefused k n = some st) :
    exec (.write c data cmp) s = .next (if st = St.writeProtected then (s.failWrite c st).rclCnt 10 else s.failWrite c st) :=
  (onNs_of_runs h _).trans (by rw [href])

/-- A write that nothing refuses or keeps waiting is buffered where it is admitted and its data passes, and held or failed where not. -/
theorem exec_write_goes (h : s.NsRuns c 0x01 k n) (href : s.writeRefused k n = none) (hstitch : s.stitchHeld c = false)
    (hdma : s.dmaWaits c = false) :
    exec (.write c data cmp) s = .next (
      if s.admits c k.fn k.sqe.nlb = false then s.holdWrite c
      else (n.ingress k.sqe.prchk data).elim
        (if (!cmp.badInput.isEmpty && k.cmpEn) = true then (s.failWrite c St.dataTransfer).cmpCnt 5
         else (s.unpark c).bufferWrite c k n k.sqe.slba k.sqe.nlb ((s.handleOf n k.sqe).getD 0)
           ((List.range k.sqe.nlb).map (fun i => ((data[i]?).map (fun d => (d.data, d.meta_))).getD (0, 0))) cmp)
        (s.failWrite c)) := by
  refine (onNs_of_runs h _).trans ?_
  rw [href]
  simp only [hstitch, hdma, Bool.or_self, Bool.false_eq_true, if_false, Bool.not_eq_true']
  cases n.ingress k.sqe.prchk data <;> rfl

theorem exec_write_buffers (h : s.NsRuns c 0x01 k n) (href : s.writeRefused k n = none) (hstitch : s.stitchHeld c = false)
    (hdma : s.dmaWaits c = false) (hadmit : s.admits c k.fn k.sqe.nlb = true) (hpi : n.ingress k.sqe.prchk data = none)
    (hcmp : cmp.badInput = [] ∨ k.cmpEn = false) :
    exec (.write c data cmp) s = .next ((s.unpark c).bufferWrite c k n k.sqe.slba k.sqe.nlb ((s.handleOf n k.sqe).getD 0)
      ((List.range k.sqe.nlb).map (fun i => ((data[i]?).map (fun d => (d.data, d.meta_))).getD (0, 0))) cmp) := by
  have hin : ¬(!cmp.badInput.isEmpty && k.cmpEn) = true := by rcases hcmp with hb | hb <;> simp [hb]
  rw [exec_write_goes data cmp h href hstitch hdma, if_neg (by simp [hadmit]), hpi, Option.elim_none, if_neg hin]

theorem exec_write_held (h : s.NsRuns c 0x01 k n) (href : s.writeRefused k n = none) (hstitch : s.stitchHeld c = false)
    (hdma : s.dmaWaits c = false) (hadmit : s.admits c k.fn k.sqe.nlb = false) :
    ∃ t, exec (.write c data cmp) s = .next t ∧ t.buf = s.buf ∧ t.tx = s.tx ∧
      t.fld (F.crsCntCount 18) = (s.fld (F.crsCntCount 18) + 1) % 2 ^ 32 := by
  obtain ⟨hbuf, htx⟩ := s.holdWrite_leaves (c := c)
  refine ⟨s.holdWrite c, ?_, hbuf, htx, State.fld_holdWrite_count⟩
  rw [exec_write_goes data cmp h href hstitch hdma, if_pos hadmit]

theorem exec_write_pastEnd (h : s.NsRuns c 0x01 k n) (hlo : 1 ≤ k.sqe.nlb) (hhi : k.sqe.nlb ≤ 1024)
    (hend : n.size < k.sqe.slba + k.sqe.nlb) :
    ∃ t, exec (.write c data cmp) s = .next t ∧ t.Ended c St.lbaRange ∧ t.map = s.map :=
  ⟨_, exec_write_refused data cmp h (State.writeRefused_pastEnd hlo hhi hend), h.failWrite_ended _, s.failWrite_map c _⟩

theorem exec_write_readOnly (h : s.NsRuns c 0x01 k n) (href : n.refuses k.sqe.slba k.sqe.nlb 1024 = none)
    (hh : (s.handleOf n k.sqe).isSome = true) (hro : s.flag F.rclRoRo = true) :
    ∃ t, exec (.write c data cmp) s = .next t ∧ t.Ended c St.writeProtected ∧ t.map = s.map :=
  ⟨_, exec_write_refused data cmp h (State.writeRefused_readOnly href hh hro), h.failWrite_ended _, s.failWrite_map c _⟩

theorem exec_write_badGuard (h : s.NsRuns c 0x01 k n) (href : s.writeRefused k n = none) (hstitch : s.stitchHeld c = false)
    (hdma : s.dmaWaits c = false) (hadmit : s.admits c k.fn k.sqe.nlb = true) (hpi : n.pi ≠ 0) (hp : k.sqe.prchk.testBit 2 = true)
    (hd : ∃ d ∈ data, d.guardOk = false) :
    ∃ t, exec (.write c data cmp) s = .next t ∧ t.Ended c St.guardCheck ∧ t.map = s.map := by
  refine ⟨_, ?_, h.failWrite_ended St.guardCheck, s.failWrite_map c _⟩
  rw [exec_write_goes data cmp h href hstitch hdma, if_neg (by simp [hadmit]), Ns.ingress_badGuard hpi hp hd, Option.elim_some]

theorem exec_writeZeroes_buffers (h : s.NsRuns c 0x08 k n) (href : s.writeRefused k n = none)
    (hadmit : s.admits c k.fn k.sqe.nlb = true) :
    exec (.writeZeroes c) s = .next ((s.unpark c).bufferWrite c k n k.sqe.slba k.sqe.nlb ((s.handleOf n k.sqe).getD 0)
      (List.replicate k.sqe.nlb (0, 0)) ⟨false, [], []⟩) :=
  (onNs_of_runs h _).trans (by rw [href]; simp only [hadmit, Bool.not_true, Bool.false_eq_true, if_false])

end

/-! ### Buffered data lost (R187) -/

section
variable {s : State} {c lba : Nat} {p : Nat × BufSlot}

@[simp] theorem State.event_buf (s : State) (c a b d e : Nat) : (s.event c a b d e).buf = s.buf := by rw [State.event_frame]

/-- A slot lost after full buffering is marked lost, and the error is counted; the command's completion is settled after it. -/
theorem exec_writeBufferUe_buffered
    (hp : s.buf.slots.find? (fun p => decide (p.2.cmd = c) && decide (p.2.lba = lba) && !p.2.applied) = some p)
    (hbuf : s.cmdBuffered c = true) :
    ∃ t, exec (.writeBufferUe c lba) s = .next t ∧ t.buf.slots = Tab.upd p.1 (fun b => { b with lost := true }) s.buf.slots ∧
      t.adm.mediaErrs = s.adm.mediaErrs + 1 := by
  show ∃ t, execWriteBufferUe c lba s = _ ∧ _
  unfold execWriteBufferUe
  simp only [hp, hbuf, Bool.not_true, Bool.false_eq_true, if_false]
  refine ⟨_, rfl, ?_⟩
  split <;> exact ⟨congrArg Buf.slots (State.event_buf _ _ _ _ _ _), congrArg Admin.mediaErrs (State.event_adm _ _ _ _ _ _)⟩

theorem exec_writeBufferUe_unbuffered {k : Cmd}
    (hp : s.buf.slots.find? (fun p => decide (p.2.cmd = c) && decide (p.2.lba = lba) && !p.2.applied) = some p)
    (hk : s.cmd c = some k) (hbuf : k.buffered = false) (hd : k.dropped = false) :
    ∃ t, exec (.writeBufferUe c lba) s = .next t ∧ t.Ended c St.dataTransfer ∧ t.map = s.map := by
  have hnot : s.cmdBuffered c = false := by simp [State.cmdBuffered, hk, hbuf]
  have hstays : ((s.discardSlots c).unlock c).Stays c := ⟨k, hk, hd⟩
  refine ⟨s.failWrite c St.dataTransfer, ?_, hstays.finish_ended _, s.failWrite_map c _⟩
  show execWriteBufferUe c lba s = _
  unfold execWriteBufferUe
  simp only [hp, hnot, Bool.not_false, if_true]

end

/-! ### Protected and exposed mode (R184, R185) -/

section
variable {s : State}

/-- EXPOSED and its sticky bit set, the cause and the entry counted in CRS_EXP, as the entry to exposed mode writes them. -/
def State.exposedNoted (s : State) (cause : Nat) : State :=
  (((s.setFlag F.crsStatExposed).setFlag F.crsStatExposedseen).setFld F.crsExpCause cause).addSat F.crsExpEntries 1

/-- The registers that the rest of the entry may write: its count of R210 and the recorder's own. -/
def exposedRegs : List Nat := [Reg.crsCnt 19, Reg.evwDrop, Reg.evwStat]

theorem State.WritesOnly.armOnce (offs : List Nat) (s : State) (id : TimerId) (n : Nat) : s.WritesOnly offs (s.armOnce id n) :=
  .of_eq (by rw [State.armOnce_frame]) (by rw [State.armOnce_frame])

theorem State.WritesOnly.noteC0 (offs : List Nat) (s : State) : s.WritesOnly offs s.noteC0 :=
  .of_eq (by rw [State.noteC0_frame]) (by rw [State.noteC0_frame])

theorem State.WritesOnly.critClear (offs : List Nat) (s : State) (bit : Nat) : s.WritesOnly offs (s.critClear bit) := by
  unfold State.critClear
  split
  · exact .of_eq rfl rfl
  · exact .refl _ _

/-- Once the entry is noted, it is counted and reported, and the timers of the open rows are armed. -/
theorem State.WritesOnly.enterExposed (cause : Nat) : (s.exposedNoted cause).WritesOnly exposedRegs (s.enterExposed cause) := by
  unfold State.enterExposed
  extract_lets t u v
  have hu : (s.exposedNoted cause).WritesOnly exposedRegs u :=
    (State.WritesOnly.setFld (F.crsCntCount 19) _ (by decide)).trans (.event _ _ _ _ _ (by decide) (by decide))
  exact ((hu.trans (.critWarn _ _ _)).trans (.foldl _ _ _ (fun w n _ => .armOnce _ w _ _))).trans (.noteC0 _ _)

theorem State.exposedNoted_fields {cause : Nat} (hc : cause < 8) :
    (s.exposedNoted cause).flag F.crsStatExposed = true ∧ (s.exposedNoted cause).flag F.crsStatExposedseen = true ∧
      (s.exposedNoted cause).fld F.crsExpCause = cause ∧ (s.exposedNoted cause).flag F.lifStatHoldok = s.flag F.lifStatHoldok := by
  have hkept : ∀ f : Fld, f.dw ≠ Reg.crsExp → (s.exposedNoted cause).flag f = ((s.setFlag F.crsStatExposed).setFlag F.crsStatExposedseen).flag f :=
    fun f hf => by
      rw [State.exposedNoted, State.addSat_eq, State.flag_setFld_ne _ _ _ _ (by decide) (.inl hf),
        State.flag_setFld_ne _ _ _ _ (by decide) (.inl hf)]
  refine ⟨?_, ?_, ?_, ?_⟩
  · rw [hkept _ (by decide), State.setFlag_eq, State.flag_setFld_ne _ _ _ _ (by decide) (by decide)]
    exact State.flag_setFld_one _ _ (by decide) rfl
  · rw [hkept _ (by decide)]
    exact State.flag_setFld_one _ _ (by decide) rfl
  · rw [State.exposedNoted, State.addSat_eq, State.fld_setFld_ne _ _ _ _ (by decide) (by decide), State.fld_setFld _ _ _ (by decide)]
    exact Nat.mod_eq_of_lt hc
  · rw [hkept _ (by decide), State.setFlag_eq, State.flag_setFld_ne _ _ _ _ (by decide) (by decide), State.setFlag_eq,
      State.flag_setFld_ne _ _ _ _ (by decide) (by decide)]

theorem State.exposedCause_of_holdLow (h : s.flag F.lifStatHoldok = false) : s.exposedCause = 1 := by
  rw [State.exposedCause, h, Bool.not_false, if_pos rfl]

/-- The conditions of R184 are about the registers, the dies, the limit and the dump area. -/
theorem State.exposedCause_expire (id : TimerId) : (s.expire id).exposedCause = s.exposedCause := by
  rw [State.expire_frame]
  rfl

theorem State.protCheck_enters (hx : s.flag F.crsStatExposed = false) (hc : s.exposedCause ≠ 0) :
    s.protCheck = s.enterExposed s.exposedCause := by
  simp only [State.protCheck, hx, hc, Bool.not_false, if_true, if_false]

theorem State.protCheck_counts (hx : s.flag F.crsStatExposed = true) (hc : s.exposedCause = 0) :
    s.protCheck = s.armOnce .protectedMode (nsSec 1) := by
  simp only [State.protCheck, hx, hc, Bool.not_true, Bool.false_eq_true, if_true, if_false]

theorem State.armed_armOnce (id : TimerId) (n : Nat) : (s.armOnce id n).armed id = true := by
  unfold State.armOnce
  split
  · assumption
  · exact State.armed_arm _ _ _

theorem exec_holdOkDeassert_exposes (hx : s.flag F.crsStatExposed = false) :
    ∃ t, exec .holdOkDeassert s = .next t ∧ t.flag F.crsStatExposed = true ∧ t.flag F.crsStatExposedseen = true ∧
      t.fld F.crsExpCause = 1 ∧ t.flag F.lifStatHoldok = false := by
  have hlow : (s.clrFlag F.lifStatHoldok).flag F.lifStatHoldok = false := State.flag_setFld _ _ _ (by decide)
  have hx' : (s.clrFlag F.lifStatHoldok).flag F.crsStatExposed = false :=
    (State.flag_setFld_ne _ _ _ _ (by decide) (by decide)).trans hx
  have hcause := State.exposedCause_of_holdLow hlow
  have henter := State.protCheck_enters hx' (by rw [hcause]; decide)
  rw [hcause] at henter
  have hrow : execHoldOkDeassert s = _ := congrArg Host.Outcome.next henter
  have hw := State.WritesOnly.enterExposed (s := s.clrFlag F.lifStatHoldok) 1
  obtain ⟨hexp, hseen, hc, hok⟩ := (s.clrFlag F.lifStatHoldok).exposedNoted_fields (cause := 1) (by decide)
  exact ⟨_, hrow, (hw.flag _ (by decide)).trans hexp, (hw.flag _ (by decide)).trans hseen, (hw.fld _ (by decide)).trans hc,
    (hw.flag _ (by decide)).trans (hok.trans hlow)⟩

theorem exec_holdOkAssert_counts (hx : s.flag F.crsStatExposed = true) (hc : (s.setFlag F.lifStatHoldok).exposedCause = 0) :
    ∃ t, exec .holdOkAssert s = .next t ∧ t.flag F.lifStatHoldok = true ∧ t.flag F.crsStatExposed = true ∧ t.armed .protectedMode = true := by
  have hx' : (s.setFlag F.lifStatHoldok).flag F.crsStatExposed = true :=
    (State.flag_setFld_ne _ _ _ _ (by decide) (by decide)).trans hx
  have hw := State.WritesOnly.armOnce [] (s.setFlag F.lifStatHoldok) .protectedMode (nsSec 1)
  have hrow : execHoldOkAssert s = _ := congrArg Host.Outcome.next (State.protCheck_counts hx' hc)
  exact ⟨_, hrow,
    (hw.flag _ List.not_mem_nil).trans (State.flag_setFld_one _ _ (by decide) rfl), (hw.flag _ List.not_mem_nil).trans hx',
    State.armed_armOnce _ _⟩

/-- A completion that protected mode releases is counted in one register (R185). -/
theorem State.WritesOnly.finishWrite (s : State) (c : Nat) : s.WritesOnly [Reg.crsCnt 20] (s.finishWrite c) := by
  have hfinish : ∀ st, s.WritesOnly [Reg.crsCnt 20] (s.finish c st) := fun st =>
    .of_eq (by rw [State.finish_frame]) (by rw [State.finish_frame])
  unfold State.finishWrite
  split
  · split
    · split
      · exact hfinish _
      · exact (hfinish _).trans (.setFld _ _ (by decide))
    · exact .refl _ _
  · exact .refl _ _

theorem exec_protectedModeTimer_protects (ha : s.armed .protectedMode = true) (hc : s.exposedCause = 0) :
    ∃ t, exec .protectedModeTimer s = .next t ∧ t.flag F.crsStatExposed = false := by
  have hrow : execProtectedModeTimer s = _ := onTimer_armed ha _
  rw [if_neg (not_not_intro ((State.exposedCause_expire _).trans hc))] at hrow
  have hw : ((s.expire .protectedMode).clrFlag F.crsStatExposed).WritesOnly [Reg.crsCnt 20]
      (((s.expire .protectedMode).clrFlag F.crsStatExposed).critClear 4).noteC0 :=
    (State.WritesOnly.critClear _ _ _).trans (.noteC0 _ _)
  refine ⟨_, hrow, ((hw.trans (.foldl _ _ _ fun u p _ => .finishWrite u p.1)).flag _ (by decide)).trans ?_⟩
  exact State.flag_setFld _ _ _ (by decide)

theorem exec_protectedModeTimer_cancelled (ha : s.armed .protectedMode = false) : exec .protectedModeTimer s = .next s := by
  have hrow : execProtectedModeTimer s = _ := onTimer_unarmed ha _
  exact hrow

end

/-- Settles O12: each write meets the check that decides it, and each change of HOLD_OK or of the timer the mode of R184 that follows from it. -/
theorem writeRowsComplete : Obligations.WriteRowsComplete := by
  unfold Obligations.WriteRowsComplete
  obtain ⟨hbypass, -, -⟩ := bypassRowCompletes
  exact ⟨fun _ _ data cmp _ _ h href hstitch hdma hadmit hpi hcmp => exec_write_buffers data cmp h href hstitch hdma hadmit hpi hcmp,
    fun _ _ data cmp _ _ h href hstitch hdma hadmit => exec_write_held data cmp h href hstitch hdma hadmit,
    fun _ _ data cmp _ _ h hlo hhi hend => exec_write_pastEnd data cmp h hlo hhi hend,
    fun _ _ data cmp _ _ h href hh hro => exec_write_readOnly data cmp h href hh hro,
    fun _ _ data cmp _ _ h href hstitch hdma hadmit hpi hp hd => exec_write_badGuard data cmp h href hstitch hdma hadmit hpi hp hd,
    fun _ _ _ _ h href hadmit => exec_writeZeroes_buffers h href hadmit,
    hbypass,
    fun _ _ _ _ hp hbuf => exec_writeBufferUe_buffered hp hbuf,
    fun _ _ _ _ _ hp hk hbuf hd => exec_writeBufferUe_unbuffered hp hk hbuf hd,
    fun _ hx => exec_holdOkDeassert_exposes hx, fun _ hx hc => exec_holdOkAssert_counts hx hc,
    fun _ ha hc => exec_protectedModeTimer_protects ha hc, fun _ ha => exec_protectedModeTimer_cancelled ha⟩

end Sys2Proof.Machine
end

section
/-! SUPPORT. The rows that program and erase flash (R193, R196, R200, R203, R205 to R207): what a program and an erase leave of courses, blocks and dies,
and what a failure notes. -/

namespace Sys2Proof.Machine

/-! ### Courses and blocks after an update -/

section
variable {s t : State}

theorem State.course_updCourse (n : Nat) (f : Course → Course) : (s.updCourse n f).course n = (s.course n).map f := Tab.find_upd_self _ _ _

theorem State.blk_updBlk (b : Nat) (f : Blk → Blk) : (s.updBlk b f).blk b = f (s.blk b) := Sparse.get_set_self _ _ _ _

theorem State.blk_congr (h : t.fl.blks = s.fl.blks) (b : Nat) : t.blk b = s.blk b := by rw [State.blk, State.blk, h]

theorem State.opEnd_frees (d : Nat) : Tab.find d (s.opEnd d).fl.ops = none := Tab.find_del_self _ _

theorem State.openNew_fl : s.openNew.fl = s.fl := by
  unfold State.openNew
  split <;> rfl

/-- Accepting a batch of records leaves the flash side (R261). -/
theorem State.batch_fl (rs : List Rec) : (s.batch rs).fl = s.fl := by
  unfold State.batch
  split
  · rfl
  · refine State.openNew_fl.trans ?_
    split
    · exact State.closeGroup_fl _ _ _
    · rfl

end

/-! ### Padding and programs (R196, R200, R203) -/

section
variable {s : State} {n pos : Nat} {c : Course} {m : Member}

theorem exec_rowIdleTimeout_pads (ha : s.armed (.rowIdle n) = true) : exec (.rowIdleTimeout n) s = .next ((s.expire (.rowIdle n)).padRow n) := by
  have hrow : execRowIdleTimeout n s = _ := onTimer_armed ha _
  exact hrow

theorem exec_rowIdleTimeout_cancelled (ha : s.armed (.rowIdle n) = false) : exec (.rowIdleTimeout n) s = .next s := by
  have hrow : execRowIdleTimeout n s = _ := onTimer_unarmed ha _
  exact hrow

theorem exec_exposedRowTimeout_pads (ha : s.armed (.exposedRow n) = true) (hx : s.flag F.crsStatExposed = true) :
    exec (.exposedRowTimeout n) s = .next ((s.expire (.exposedRow n)).padRow n) := by
  have hrow : execExposedRowTimeout n s = _ := onTimer_armed ha _
  exact hrow.trans (by rw [if_pos ((s.flag_expire _ _).trans hx)])

theorem exec_rowProgramIssue_issues (hc : s.course n = some c) (hopen : c.closed = false) (hm : c.mem pos = some m)
    (hmay : s.mayIssue n c pos m = true) :
    ∃ t, exec (.rowProgramIssue n pos) s = .next t ∧ t.course n = some (c.setMem pos { m with iss := m.iss + 1 }) ∧
      (Tab.find m.die t.fl.ops).map (·.kind) = some 1 ∧ t.armed (.flashOp m.die) = true ∧ t.map = s.map := by
  show ∃ t, execRowProgramIssue n pos s = _ ∧ _
  unfold execRowProgramIssue
  rw [hc]
  simp only [hm]
  refine ⟨_, guarded_true _ _ _ (by simp [hopen, hmay]), ?_, congrArg _ (Tab.find_put_self _ _ _), State.armed_arm _ _ _, rfl⟩
  exact (s.course_updCourse n _).trans (by rw [hc, Option.map_some])

theorem State.programOf_course (h : s.programOf n pos = some (c, m)) : s.course n = some c := by
  obtain ⟨c', hc, h⟩ := Option.bind_eq_some_iff.1 h
  obtain ⟨m', -, h⟩ := Option.bind_eq_some_iff.1 h
  split at h
  · rw [hc, (Prod.mk.inj (Option.some.inj h)).1]
  · simp at h

/-- A course whose member has programmed all that was issued to it. -/
def Course.memPassed (c : Course) (pos : Nat) (m : Member) : Course := c.setMem pos { m with done := m.iss }

/-- A member's program passed: its die is free, its program-safe point moves, and the program is counted as data or as parity (R203, R210). -/
def State.programPassed (s : State) (n pos : Nat) (c : Course) (m : Member) : State :=
  let t := (s.opEnd m.die).updCourse n (fun c => c.memPassed pos m)
  if (c.parityPos n).contains pos then t.crsCnt 7 (if c.slc then 1 else 3) else t.crsCnt 6

theorem State.programPassed_leaves (hc : s.course n = some c) :
    (s.programPassed n pos c m).course n = some (c.memPassed pos m) ∧
      Tab.find m.die (s.programPassed n pos c m).fl.ops = none ∧ (s.programPassed n pos c m).buf = s.buf ∧
      (s.programPassed n pos c m).map = s.map := by
  have hcourse : ((s.opEnd m.die).updCourse n (fun c => c.memPassed pos m)).course n = some (c.memPassed pos m) :=
    (State.course_updCourse n _).trans (congrArg _ hc)
  have hfree := s.opEnd_frees m.die
  unfold State.programPassed
  simp only
  split <;> exact ⟨hcourse, hfree, rfl, rfl⟩

/-- A wordline programmed is counted for the write amplification, and as host data where its band takes host slots. -/
def State.wordlineCounted (s : State) (c : Course) : State :=
  { s with crs := { s.crs with
      allProg := s.crs.allProg + spw c.slc, hostProg := if c.band ≤ 1 then s.crs.hostProg + spw c.slc else s.crs.hostProg } }

/-- What a pass brings about: the close of a finished course, or the padding of a row that slots below it wait for (R196, R203). -/
def State.programFollowed (s : State) (n : Nat) (c : Course) (row : Nat) : State :=
  if c.finished && (decide (c.band ≤ 2) || decide (c.band = 5)) then s.closeCourse n c.last
  else if c.rowDone row && !(s.unsafeIn n).isEmpty then
    (if s.flag F.crsStatExposed then s.padRow n else s.armOnce (.rowIdle n) (nsMs (s.fld F.crsCtlIdlems)))
  else s

/-- The row of a pass notes it, and what follows is that of the course with its member's new point. -/
theorem exec_programComplete_row (hp : s.programOf n pos = some (c, m)) :
    exec (.programComplete n pos) s = .next (((s.programPassed n pos c m).wordlineCounted (c.memPassed pos m)).programFollowed n
      (c.memPassed pos m) (m.iss - 1)) := by
  refine (withSome_next _ _ _).2 ⟨(c, m), hp, ?_⟩
  extract_lets m' t par u
  obtain ⟨hcourse, -, -, -⟩ := State.programPassed_leaves (pos := pos) (m := m) (State.programOf_course hp)
  have hu : u = s.programPassed n pos c m := rfl
  rw [hu, hcourse]
  rfl

/-- With nothing buffered, no slot waits for a program-safe point. -/
theorem State.unsafeIn_nil (h : s.buf.slots = []) : s.unsafeIn n = [] := by simp [State.unsafeIn, h]

/-- A journal or dump course stays open after a pass, and with nothing buffered no row is padded for it (R196, R275). -/
theorem State.programFollowed_idle {row : Nat} (hband : 3 ≤ c.band) (hsys : c.band ≠ 5) (hslots : s.buf.slots = []) :
    s.programFollowed n c row = s := by
  have hlow : ¬c.band ≤ 2 := by omega
  simp [State.programFollowed, hlow, hsys, State.unsafeIn_nil hslots]

/-- A pass in a journal or dump course frees the die and moves the member's point, and does nothing more. -/
theorem exec_programComplete_passes (hp : s.programOf n pos = some (c, m)) (hband : 3 ≤ c.band) (hsys : c.band ≠ 5)
    (hslots : s.buf.slots = []) :
    ∃ t, exec (.programComplete n pos) s = .next t ∧ t.course n = some (c.setMem pos { m with done := m.iss }) ∧
      Tab.find m.die t.fl.ops = none ∧ t.map = s.map := by
  obtain ⟨hcourse, hfree, hbuf, hmap⟩ := State.programPassed_leaves (pos := pos) (m := m) (State.programOf_course hp)
  have hrow := exec_programComplete_row hp
  have hidle := State.programFollowed_idle (s := (s.programPassed n pos c m).wordlineCounted (c.memPassed pos m)) (n := n)
    (c := c.memPassed pos m) (row := m.iss - 1) hband hsys ((congrArg Buf.slots hbuf).trans hslots)
  rw [hidle] at hrow
  exact ⟨_, hrow, hcourse, hfree, hmap⟩

theorem exec_programComplete_completes {x : Course × Member} (hp : s.programOf n pos = some x) : ∃ t, exec (.programComplete n pos) s = .next t :=
  ⟨_, (withSome_next _ _ _).2 ⟨x, hp, rfl⟩⟩

/-! ### Failed programs (R200, R205, R206) -/

theorem exec_programFail_drops (hp : s.programOf n pos = some (c, m)) (hdata : (c.parityPos n).contains pos = false) :
    exec (.programFail n pos) s = .next (s.dataFail n c pos m) := by
  show execProgramFail n pos s = _
  unfold execProgramFail
  rw [hp]
  exact guarded_true _ _ _ (by rw [hdata, Bool.not_false])

theorem exec_parityProgramFail_closes (hp : s.programOf n pos = some (c, m)) (hpar : (c.parityPos n).contains pos = true) :
    exec (.parityProgramFail n pos) s = .next (s.parityFail n c pos m) := by
  show execParityProgramFail n pos s = _
  unfold execParityProgramFail
  rw [hp]
  exact guarded_true _ _ _ hpar

theorem exec_parityAccumulatorUe_counts (hc : s.course n = some c) (hopen : c.closed = false) :
    ∃ t, exec (.parityAccumulatorUe n) s = .next t ∧ t.fld (F.crsCntCount 22) = (s.fld (F.crsCntCount 22) + 1) % 2 ^ 32 ∧ t.crs = s.crs ∧
      t.map = s.map :=
  ⟨s.crsCnt 22, guarded_true _ _ _ (by simp [hc, hopen]), State.fld_addWrap _ _ _ (by decide), rfl, rfl⟩

end

/-! ### Erases (R193, R207) -/

section
variable {s : State} {d b : Nat}

/-- An erase under way holds its die, and nothing of the block can be read any more. -/
theorem exec_eraseIssue_issues (hmay : s.mayErase d b = true) :
    ∃ t, exec (.eraseIssue d b) s = .next t ∧ (Tab.find d t.fl.ops).map (·.kind) = some 2 ∧ t.armed (.flashOp d) = true ∧
      (∀ p ∈ t.crs.media, psaBlk p.1 ≠ blkId d b) :=
  ⟨_, guarded_true _ _ _ hmay, congrArg _ (Tab.find_put_self _ _ _), State.armed_arm _ _ _,
    fun _ hp => of_decide_eq_true (List.mem_filter.1 hp).2⟩

theorem State.erasedOk_leaves :
    (s.erasedOk b).blk b = { s.blk b with ec := (s.blk b).ec + 1, checking := true, eFails := 0, reads := 0, level := 0, tinked := none,
                                          course := 0, pos := 0 } ∧
      (s.erasedOk b).fl.ops = s.fl.ops := by
  unfold State.erasedOk
  extract_lets t fl u
  have hfl : (u.batch [.eraseDone (b / 4096) (b % 4096) (u.blk b).ec]).fl = u.fl := State.batch_fl _
  have ht : t.blk b = _ := s.blk_updBlk b _
  have hops : u.fl.ops = s.fl.ops := rfl
  exact ⟨(State.blk_congr (congrArg Fl.blks hfl) b).trans ht, (congrArg Fl.ops hfl).trans hops⟩

theorem exec_eraseComplete_passes (he : s.eraseOf d = some b) :
    ∃ t, exec (.eraseComplete d true) s = .next t ∧ (t.blk b).ec = (s.blk b).ec + 1 ∧ (t.blk b).checking = true ∧ Tab.find d t.fl.ops = none := by
  have hrow : exec (.eraseComplete d true) s = .next ((s.opEnd d).erasedOk b) := (withSome_next _ _ _).2 ⟨b, he, rfl⟩
  obtain ⟨hblk, hops⟩ := State.erasedOk_leaves (s := s.opEnd d) (b := b)
  exact ⟨_, hrow, congrArg Blk.ec hblk, congrArg Blk.checking hblk, (congrArg _ hops).trans (s.opEnd_frees d)⟩

/-- The registers that the log of a failed erase or open check may write: CRS_PFLOG, its counts of R210 and the recorder's own. -/
def failLogRegs : List Nat := (List.range 8).map Reg.crsPflog ++ [Reg.crsCnt 9, Reg.crsCnt 10, Reg.crsCnt 11, Reg.evwDrop, Reg.evwStat]

theorem State.WritesOnly.pfLog (kind : Nat) : s.WritesOnly failLogRegs (s.pfLog kind b) := by
  have hshift : ∀ i ∈ List.range 7, Reg.crsPflog (7 - i) ∈ failLogRegs := by decide
  unfold State.pfLog
  extract_lets t
  have ht : s.WritesOnly failLogRegs t := .foldl _ _ _ fun u i hi => .setWord _ _ (hshift i hi)
  exact (((ht.trans (.setFld _ _ (by decide))).trans (.setFld _ _ (by decide))).trans (.setFld _ _ (by decide))).trans (.setFld _ _ (by decide))

/-- A failure logged, reported and counted. -/
theorem State.WritesOnly.failLogged (kind code p0 p1 : Nat) {n : Nat} (hn : (F.crsCntCount n).dw ∈ failLogRegs) :
    s.WritesOnly failLogRegs (((s.pfLog kind b).event code p0 p1).crsCnt n) :=
  ((State.WritesOnly.pfLog kind).trans (.event _ _ _ _ _ (by decide) (by decide))).trans (.setFld _ _ hn)

theorem F.chnErrFails_dw (c : Nat) : (F.chnErrFails c).dw = 0x4008 + 16 * c := by
  simp only [Fld.dw, F.chnErrFails, Reg.chnErr]
  omega

theorem F.chnErrFails_fits (c : Nat) : (F.chnErrFails c).sh + (F.chnErrFails c).wid ≤ 32 := by
  simp only [Fld.sh, F.chnErrFails, Reg.chnErr]
  omega

/-- A block's first failed erase: the failure is noted, and the block waits for one more erase (R207). -/
theorem State.eraseFailed_first (h : (s.blk b).eFails = 0) :
    (s.eraseFailed b).fl = (s.updBlk b (fun x => { x with eFails := 1, checking := false })).fl ∧
      (s.eraseFailed b).flag F.crsStatEfailseen = true := by
  unfold State.eraseFailed
  extract_lets n t u v
  have hn : n = 1 := by simp only [n, h]
  rw [if_neg (by omega)]
  have hu : (t.setFlag F.crsStatEfailseen).WritesOnly failLogRegs u := .failLogged 1 0x0403 _ _ (by decide)
  have ht : t = s.updBlk b (fun x => { x with eFails := 1, checking := false }) := by simp only [t, hn]
  have hfl : t.fl = (s.updBlk b (fun x => { x with eFails := 1, checking := false })).fl := congrArg State.fl ht
  have hdw : F.crsStatEfailseen.dw ≠ (F.chnErrFails (b / 4096 / 16)).dw := by
    rw [F.chnErrFails_dw, show F.crsStatEfailseen.dw = 0x804 by decide]
    omega
  refine ⟨hu.1.trans hfl, ?_⟩
  refine (State.flag_setFld_ne u (F.chnErrFails (b / 4096 / 16)) _ _ (F.chnErrFails_fits _) (.inl hdw)).trans ?_
  exact (hu.flag _ (by decide)).trans (State.flag_setFld_one _ _ (by decide) rfl)

theorem exec_eraseComplete_fails (he : s.eraseOf d = some b) (hfirst : (s.blk b).eFails = 0) :
    ∃ t, exec (.eraseComplete d false) s = .next t ∧ (t.blk b).eFails = 1 ∧ t.flag F.crsStatEfailseen = true ∧ Tab.find d t.fl.ops = none := by
  have hrow : exec (.eraseComplete d false) s = .next ((s.opEnd d).eraseFailed b) := (withSome_next _ _ _).2 ⟨b, he, rfl⟩
  obtain ⟨hfl, hseen⟩ := State.eraseFailed_first (s := s.opEnd d) hfirst
  have hblk : ((s.opEnd d).eraseFailed b).blk b = _ := (State.blk_congr (congrArg Fl.blks hfl) b).trans (State.blk_updBlk _ _)
  exact ⟨_, hrow, congrArg Blk.eFails hblk, hseen, (congrArg (fun x : Fl => Tab.find d x.ops) hfl).trans (s.opEnd_frees d)⟩

/-! ### The open check (R193) -/

theorem exec_openCheck_passes (hcheck : (s.blk (blkId d b)).checking = true) (hpend : (s.blk (blkId d b)).state = .erasePending) :
    exec (.openCheck d b true) s =
      .next (((s.updBlk (blkId d b) (fun x => { x with state := .erased, checking := false, cFails := 0 })).noteF).placeWaiting) :=
  guarded_true _ _ _ (by simp [hcheck, hpend])

/-- A block's first failed check, with OPENCHKSEEN: the block waits for one more erase. -/
def State.checkFailed (s : State) (b : Nat) : State :=
  (s.updBlk b (fun x => { x with checking := false, cFails := 1 })).setFlag F.crsStatOpenchkseen

theorem exec_openCheck_fails_row (hcheck : (s.blk (blkId d b)).checking = true) (hpend : (s.blk (blkId d b)).state = .erasePending)
    (hfirst : (s.blk (blkId d b)).cFails = 0) :
    exec (.openCheck d b false) s =
      .next (((((s.checkFailed (blkId d b)).pfLog 2 (blkId d b)).event 0x0404 d b).crsCnt 10).crsCnt 11) := by
  have hrow : execOpenCheck d b false s = _ := guarded_true _ _ _ (by simp [hcheck, hpend])
  simp only [Bool.false_eq_true, if_false, hfirst] at hrow
  exact hrow

theorem exec_openCheck_fails (hcheck : (s.blk (blkId d b)).checking = true) (hpend : (s.blk (blkId d b)).state = .erasePending)
    (hfirst : (s.blk (blkId d b)).cFails = 0) :
    ∃ t, exec (.openCheck d b false) s = .next t ∧ (t.blk (blkId d b)).cFails = 1 ∧ (t.blk (blkId d b)).state = .erasePending ∧
      (t.blk (blkId d b)).checking = false ∧ t.flag F.crsStatOpenchkseen = true := by
  have hw : (s.checkFailed (blkId d b)).WritesOnly failLogRegs
      (((((s.checkFailed (blkId d b)).pfLog 2 (blkId d b)).event 0x0404 d b).crsCnt 10).crsCnt 11) :=
    (State.WritesOnly.failLogged 2 0x0404 d b (by decide)).trans (.setFld _ _ (by decide))
  have hblk := (State.blk_congr (congrArg Fl.blks hw.1) (blkId d b)).trans
    (s.blk_updBlk (blkId d b) (fun x => { x with checking := false, cFails := 1 }))
  exact ⟨_, exec_openCheck_fails_row hcheck hpend hfirst, congrArg Blk.cFails hblk, (congrArg Blk.state hblk).trans hpend,
    congrArg Blk.checking hblk, (hw.flag _ (by decide)).trans (State.flag_setFld_one _ _ (by decide) rfl)⟩

end

/-- Settles O13: each row finds its timer, its member, its erase or its block as stated, and pads, programs, passes or fails by it. -/
theorem flashWriteRowsComplete : Obligations.FlashWriteRowsComplete := by
  unfold Obligations.FlashWriteRowsComplete
  exact ⟨fun _ _ ha => exec_rowIdleTimeout_pads ha, fun _ _ ha => exec_rowIdleTimeout_cancelled ha,
    fun _ _ ha hx => exec_exposedRowTimeout_pads ha hx,
    fun _ _ _ _ _ hc hopen hm hmay => exec_rowProgramIssue_issues hc hopen hm hmay,
    fun _ _ _ _ _ hp hband hsys hslots => exec_programComplete_passes hp hband hsys hslots,
    fun _ _ _ _ hp => exec_programComplete_completes hp,
    fun _ _ _ _ _ hp hdata => exec_programFail_drops hp hdata, fun _ _ _ _ _ hp hpar => exec_parityProgramFail_closes hp hpar,
    fun _ _ _ hc hopen => exec_parityAccumulatorUe_counts hc hopen,
    fun _ _ _ hmay => exec_eraseIssue_issues hmay, fun _ _ _ he => exec_eraseComplete_passes he,
    fun _ _ _ he hfirst => exec_eraseComplete_fails he hfirst, fun _ _ _ hcheck hpend => exec_openCheck_passes hcheck hpend,
    fun _ _ _ hcheck hpend hfirst => exec_openCheck_fails hcheck hpend hfirst⟩

end Sys2Proof.Machine
end

section
/-! SUPPORT. The rows of codeword reads (R218 to R229, R231, R232): what the counters, the refresh queue and the work on a die leave of the reads,
how a read goes to its die, climbs, is rebuilt or ends, and what each row does with it. -/

namespace Sys2Proof.Machine

/-! ### Counters of reads and of skeins (R237, R309) -/

section
variable {s : State} {n k : Nat} {offs : List Nat}

theorem eccCntCount_dw (n : Nat) : (F.eccCntCount n).dw = Reg.eccCnt n := by
  simp only [Fld.dw, F.eccCntCount, Reg.eccCnt]
  omega

theorem eccCntCount_fits (n : Nat) : (F.eccCntCount n).sh + (F.eccCntCount n).wid ≤ 32 := by
  simp only [Fld.sh, F.eccCntCount, Reg.eccCnt]
  omega

theorem sknCntCount_dw (i j : Nat) : (F.sknCntCount i j).dw = 0x2040 + 128 * i + 4 * j := by
  simp only [Fld.dw, F.sknCntCount, Reg.sknCnt]
  omega

theorem sknCntCount_fits (i j : Nat) : (F.sknCntCount i j).sh + (F.sknCntCount i j).wid ≤ 32 := by
  simp only [Fld.sh, F.sknCntCount, Reg.sknCnt]
  omega

/-- Beside its counter, a raised count of ECC_CNT notes how many codewords ended at each step. -/
theorem State.eccCnt_regs (s : State) (n k : Nat) : (s.eccCnt n k).regs = (s.addWrap (F.eccCntCount n) k).regs := by
  unfold State.eccCnt
  simp only
  split <;> rfl

theorem State.eccCnt_timers (s : State) (n k : Nat) : (s.eccCnt n k).timers = s.timers := by
  unfold State.eccCnt
  simp only
  split <;> rfl

theorem State.fld_eccCnt : (s.eccCnt n k).fld (F.eccCntCount n) = (s.fld (F.eccCntCount n) + k) % 2 ^ 32 :=
  (State.fld_congr _ (s.eccCnt_regs n k)).trans (s.fld_addWrap _ _ (eccCntCount_fits n))

theorem State.WritesOnly.eccCnt (h : Reg.eccCnt n ∈ offs) : s.WritesOnly offs (s.eccCnt n k) :=
  ⟨s.eccCnt_fl n k, fun o ho => (State.word_congr o (s.eccCnt_regs n k)).trans
    ((State.WritesOnly.setFld (F.eccCntCount n) _ (by rwa [eccCntCount_dw])).2 o ho)⟩

theorem State.fld_eccCnt_ne {f : Fld} (hf : f.dw ≠ Reg.eccCnt n) : (s.eccCnt n k).fld f = s.fld f :=
  (State.WritesOnly.eccCnt (List.mem_singleton_self _)).fld f (by simpa using hf)

theorem State.fld_sknCnt (s : State) (die n k : Nat) {f : Fld} (hf : f.dw < 0x2040) : (s.sknCnt die n k).fld f = s.fld f := by
  refine State.fld_setFld_ne _ _ _ _ (sknCntCount_fits _ _) (.inl ?_)
  rw [sknCntCount_dw]
  omega

end

/-! ### What leaves the codeword reads as they are -/

/-- `t` is `s` with its codeword reads, their deadlines, the map and the messages sent as they were. -/
structure State.SparesReads (s t : State) : Prop where
  reads : t.rd.reads = s.rd.reads
  late : t.rd.late = s.rd.late
  map : t.map = s.map
  tx : t.tx = s.tx
  tailCut : ∀ r, t.armed (.tailCut r) = s.armed (.tailCut r)

theorem State.cw_congr {s t : State} (h : t.rd.reads = s.rd.reads) (r : Nat) : t.cw r = s.cw r := by rw [State.cw, State.cw, h]

theorem State.armed_arm_ne (s : State) {id other : TimerId} (ns : Nat) (h : id ≠ other) : (s.arm other ns).armed id = s.armed id := by
  rw [State.armed_eq_dueOf, s.dueOf_arm_ne ns h, ← State.armed_eq_dueOf]

section
variable {s t u : State}

theorem State.SparesReads.refl (s : State) : s.SparesReads s := ⟨rfl, rfl, rfl, rfl, fun _ => rfl⟩

theorem State.SparesReads.trans (h : s.SparesReads t) (h' : t.SparesReads u) : s.SparesReads u :=
  ⟨h'.reads.trans h.reads, h'.late.trans h.late, h'.map.trans h.map, h'.tx.trans h.tx, fun r => (h'.tailCut r).trans (h.tailCut r)⟩

theorem State.SparesReads.cw (h : s.SparesReads t) (r : Nat) : t.cw r = s.cw r := State.cw_congr h.reads r

theorem State.SparesReads.of_eq (hrd : t.rd = s.rd) (hmap : t.map = s.map) (htx : t.tx = s.tx) (htimers : t.timers = s.timers) :
    s.SparesReads t :=
  ⟨by rw [hrd], by rw [hrd], hmap, htx, fun _ => by rw [State.armed, State.armed, htimers]⟩

theorem State.SparesReads.cancel {id : TimerId} (h : ∀ r, TimerId.tailCut r ≠ id) : s.SparesReads (s.cancel id) :=
  ⟨rfl, rfl, rfl, rfl, fun r => s.armed_cancel_ne (h r)⟩

theorem State.SparesReads.arm {id : TimerId} (ns : Nat) (h : ∀ r, TimerId.tailCut r ≠ id) : s.SparesReads (s.arm id ns) :=
  ⟨rfl, rfl, rfl, rfl, fun r => s.armed_arm_ne ns (h r)⟩

theorem State.SparesReads.event (c a b d e : Nat) : s.SparesReads (s.event c a b d e) := by
  have hrd : (s.event c a b d e).rd = s.rd := by rw [State.event_frame]
  exact ⟨congrArg _ hrd, congrArg _ hrd, s.event_map _ _ _ _ _, s.event_tx _ _ _ _ _, fun _ => s.armed_event _ _ _ _ _ nofun⟩

theorem State.SparesReads.setFld (f : Fld) (v : Nat) : s.SparesReads (s.setFld f v) := .of_eq rfl rfl rfl rfl

theorem State.SparesReads.stamp (off : Nat) : s.SparesReads (s.stamp off) := .of_eq rfl rfl rfl rfl

theorem State.SparesReads.setFl (x : Fl) : s.SparesReads { s with fl := x } := .of_eq rfl rfl rfl rfl

theorem State.SparesReads.sknCnt (die n k : Nat) : s.SparesReads (s.sknCnt die n k) := .setFld _ _

theorem State.SparesReads.eccCnt (n k : Nat) : s.SparesReads (s.eccCnt n k) := by
  unfold State.eccCnt
  simp only
  split
  · exact ⟨rfl, rfl, rfl, rfl, fun _ => rfl⟩
  · exact .setFld _ _

/-! ### The refresh queue and slow dies (R226 to R229, R246) -/

/-- The registers that queueing a course may write: RCL_LASTVIC and its counts. -/
def victimRegs : List Nat := Reg.rclLastvic :: (List.range 6).map Reg.rclCnt

/-- A queued course changes the reclaim engine's queue and the registers that report it. -/
theorem State.queueVictim_leaves (s : State) (n reason level : Nat) :
    s.SparesReads (s.queueVictim n reason level) ∧ s.WritesOnly victimRegs (s.queueVictim n reason level) := by
  have hset : ∀ (u : State) (f : Fld) (v : Nat), f.dw ∈ victimRegs → s.SparesReads u ∧ s.WritesOnly victimRegs u →
      s.SparesReads (u.setFld f v) ∧ s.WritesOnly victimRegs (u.setFld f v) :=
    fun u f v hf ⟨hspares, hwrites⟩ => ⟨hspares.trans (.setFld _ _), hwrites.trans (.setFld _ _ hf)⟩
  have hcrs : ∀ x : Crs, s.SparesReads { s with crs := x } ∧ s.WritesOnly victimRegs { s with crs := x } :=
    fun _ => ⟨.of_eq rfl rfl rfl rfl, .of_eq rfl rfl⟩
  have hcount : ∀ i < 6, (F.rclCntCount i).dw ∈ victimRegs := by decide
  unfold State.queueVictim
  extract_lets same crs t pct u v
  have hu : s.SparesReads u ∧ s.WritesOnly victimRegs u := hset _ _ _ (by decide) (hset _ _ _ (by decide) (hcrs _))
  have hv : s.SparesReads v ∧ s.WritesOnly victimRegs v := by
    unfold v
    split <;> exact hset _ _ _ (hcount _ (by decide)) hu
  split
  · exact hcrs _
  · split
    · exact hcrs _
    · split
      · exact hset _ _ _ (hcount _ (by split_ifs <;> decide)) hv
      · exact hv

theorem State.SparesReads.countRead (b : Nat) : s.SparesReads (s.countRead b) := by
  unfold State.countRead
  extract_lets t
  have ht : s.SparesReads t := .setFl _
  split
  · exact ht.trans (t.queueVictim_leaves _ _ _).1
  · exact ht

theorem State.fld_countRead (b : Nat) {f : Fld} (hf : f.dw ∉ victimRegs) : (s.countRead b).fld f = s.fld f := by
  unfold State.countRead
  extract_lets t
  have ht : t.fld f = s.fld f := rfl
  split
  · exact ((t.queueVictim_leaves _ _ _).2.fld f hf).trans ht
  · exact ht

theorem State.slowLog_timers (e d : Nat) : (s.slowLog e d).timers = s.timers := by
  simp only [State.slowLog, State.stamp, State.setFld_timers]
  rw [State.shiftLog_frame]

theorem State.SparesReads.slowLog (e d : Nat) : s.SparesReads (s.slowLog e d) := by
  have hshift : s.SparesReads (s.shiftLog Reg.eccSlowlog 8) := by
    rw [State.shiftLog_frame]
    exact .of_eq rfl rfl rfl rfl
  exact ((((hshift.trans (.setFld _ _)).trans (.setFld _ _)).trans (.setFld _ _)).trans (.stamp _))

theorem State.SparesReads.holdSlow (d : Nat) : s.SparesReads (s.holdSlow d) := .trans (.setFl _) (.arm _ nofun)

theorem State.SparesReads.classSlow (d : Nat) : s.SparesReads (s.classSlow d) :=
  .trans (.trans (.trans (.trans (.trans (.setFld _ _) (.slowLog 0 d)) (.event _ _ _ _ _)) (.eccCnt _ _)) (.holdSlow d)) (.arm _ nofun)

theorem State.SparesReads.countMiss (d : Nat) : s.SparesReads (s.countMiss d) := by
  unfold State.countMiss
  split
  · exact .holdSlow d
  · extract_lets l fl t
    have ht : s.SparesReads t := .setFl _
    split
    · exact (ht.trans (.setFl _)).trans (.classSlow d)
    · exact ht

/-- A released die is off the list of slow dies, and is probed no more. -/
theorem State.releaseSlow_probe (s : State) (d : Nat) : (s.releaseSlow d).armed (.slowProbe d) = false := by
  simp only [State.releaseSlow]
  rw [State.armed, State.eccCnt_timers, ← State.armed, State.armed_event (id := .slowProbe d) _ _ _ _ _ _ nofun, State.armed,
    State.slowLog_timers, ← State.armed]
  exact State.armed_cancel _ _

/-! ### Operations suspended and resumed (R230, R293) -/

theorem State.SparesReads.suspendFor (d level : Nat) : s.SparesReads (s.suspendFor d level) := by
  unfold State.suspendFor
  split
  · exact .refl s
  · next o _ =>
    refine iteInduction (fun _ => .refl s) (fun _ => ?_)
    extract_lets run
    generalize (if o.kind = 1 then _ else _ : Nat × Nat) = limits
    obtain ⟨least, most⟩ := limits
    refine iteInduction (fun _ => .setFld _ _) (fun _ => iteInduction (fun _ => .refl s) (fun _ => ?_))
    exact .trans (.trans (.trans (.trans (.setFl _) (.cancel (id := .flashOp d) nofun)) (.eccCnt _ _)) (.sknCnt _ _ _)) (.sknCnt _ _ _)

/-- Resuming an operation changes the flash side, the operation's timer and a count of its skein. -/
theorem State.resumeOp_leaves (s : State) (d : Nat) :
    s.SparesReads (s.resumeOp d) ∧ ∀ f : Fld, f.dw < 0x2040 → (s.resumeOp d).fld f = s.fld f := by
  unfold State.resumeOp
  split
  · exact ⟨.refl s, fun _ _ => rfl⟩
  · split
    · exact ⟨.trans (.trans (.setFl _) (.sknCnt _ _ _)) (.arm _ nofun), fun _ hf => State.fld_sknCnt _ _ _ _ hf⟩
    · exact ⟨.refl s, fun _ _ => rfl⟩

end

/-! ### A codeword read changed, rebuilt or ended -/

section
variable {s : State} {r : Nat} {x : CwRead}

theorem State.cw_updCw (f : CwRead → CwRead) : (s.updCw r f).cw r = (s.cw r).map f := Tab.find_upd_self _ _ _

/-- A rebuild begun changes the read and counts the reads of its row, and no more (R221). -/
theorem State.rebuild_leaves (s : State) (r : Nat) (x : CwRead) (why : Nat) :
    (s.rebuild r x why).cw r =
        (s.cw r).map (fun y => { y with phase := .rebuilding, why := why, step := if why = 0 then 4 else y.step }) ∧
      (s.rebuild r x why).rd.late = s.rd.late ∧
      (s.rebuild r x why).fld (F.eccCntCount 9) = s.fld (F.eccCntCount 9) := by
  unfold State.rebuild
  extract_lets n k
  have hcnt := State.SparesReads.eccCnt (s := (s.cancel (.tailCut r)).updCw r
    (fun y => { y with phase := .rebuilding, why := why, step := if why = 0 then 4 else y.step })) 10 k
  exact ⟨(hcnt.cw r).trans (State.cw_updCw _), hcnt.late, State.fld_eccCnt_ne (by decide)⟩

/-- A command on which a failure was noted has one. -/
theorem State.noteFailure_failed (s : State) (c : Nat) (st : Status) {k : Cmd} (h : (s.noteFailure c st).cmd c = some k) : k.failure ≠ none := by
  rw [State.noteFailure, State.cmd_updCmd, Option.map_eq_some_iff] at h
  obtain ⟨a, -, rfl⟩ := h
  simp only
  split
  · exact Option.some_ne_none _
  · next hno => exact fun hnone => hno (.inl hnone)

theorem State.endFailed_leaves (s : State) (c : Nat) (k : Cmd) (st : Status) :
    s.WritesOnly [Reg.eccCnt 22] (s.endFailed c k st) ∧ (s.endFailed c k st).rd.reads = s.rd.reads := by
  unfold State.endFailed
  extract_lets u v t
  have ht : s.WritesOnly [Reg.eccCnt 22] t ∧ t.rd.reads = s.rd.reads := by
    unfold t
    split
    · exact ⟨.trans (.eccCnt (by decide)) (.of_eq rfl rfl), (State.SparesReads.eccCnt 22 1).reads⟩
    · exact ⟨.refl _ s, rfl⟩
  obtain ⟨hwrites, hreads⟩ := ht
  exact ⟨hwrites.trans (.failWrite _ t c st), by rwa [State.failWrite_frame]⟩

/-- A command that has failed waits for its other reads or ends: the reads stay, and of the registers only the count of failed reads moves. -/
theorem State.readsDone_failed {c : Nat} (h : ∀ k, s.cmd c = some k → k.failure ≠ none) :
    s.WritesOnly [Reg.eccCnt 22] (s.readsDone c) ∧ (s.readsDone c).rd.reads = s.rd.reads := by
  unfold State.readsDone
  split
  · exact ⟨.refl _ s, rfl⟩
  · next k hk =>
    split
    · exact ⟨.refl _ s, rfl⟩
    · split
      · exact s.endFailed_leaves c k _
      · next hnone => exact absurd hnone (h k hk)

/-- A single codeword abandoned is no read any more. -/
theorem State.abandonCw_single (st : Status) (hsingle : x.frame = 0) :
    s.WritesOnly [Reg.eccCnt 22] (s.abandonCw r x st) ∧ (s.abandonCw r x st).cw r = none := by
  unfold State.abandonCw
  rw [if_pos hsingle]
  extract_lets t
  have hdone := State.readsDone_failed (s := (t.noteBad x.cmd x.lba).noteFailure x.cmd st) (fun _ => State.noteFailure_failed _ _ _)
  have hgone : t.cw r = none := Tab.find_del_self _ _
  exact ⟨.trans (.of_eq rfl rfl) hdone.1, (State.cw_congr hdone.2 r).trans hgone⟩

/-- A single codeword at L6 is no read any more; ECC_UE_PAGE holds the cause, and UESEEN is set (R233, R236). -/
theorem State.atL6_single {cause : Nat} (hsingle : x.frame = 0) (hc : cause < 8) :
    (s.atL6 r x cause).cw r = none ∧ (s.atL6 r x cause).fld F.eccUePageCause = cause ∧ (s.atL6 r x cause).flag F.eccStatUeseen = true := by
  unfold State.atL6
  extract_lets d located paged t
  have hnoted : (paged.setFlag F.eccStatUeseen).WritesOnly [Reg.eccCnt 6, Reg.evwDrop, Reg.evwStat, Reg.eccCnt 22] t :=
    .trans (.eccCnt (by decide)) (.event _ _ _ _ _ (by decide) (by decide))
  obtain ⟨hends, hgone⟩ := State.abandonCw_single (s := t) (r := r) (St.unrecovered (decide (cause = 2))) hsingle
  refine ⟨hgone, ?cause, ?seen⟩
  case cause =>
    rw [hends.fld _ (by decide), hnoted.fld _ (by decide)]
    simp (disch := decide) only [paged, State.setFlag_eq, State.fld_setFld_ne, State.fld_setFld]
    exact Nat.mod_eq_of_lt hc
  case seen =>
    rw [hends.flag _ (by decide), hnoted.flag _ (by decide)]
    exact State.flag_setFld_one _ _ (by decide) rfl

end

/-! ### Page reads issued (R224, R228) -/

section
variable {s : State} {r : Nat} {x : CwRead}

/-- A read sent to its die, before its deadline starts. -/
def State.sentToDie (s : State) (r : Nat) (x : CwRead) : State :=
  (((s.updCw r (fun y => { y with phase := .atDie, start := s.clk.mono })).sknCnt (psaDie x.psa) 0).sknCnt (psaDie x.psa) 11).countRead (psaBlk x.psa)

theorem State.sentToDie_leaves (s : State) (r : Nat) (x : CwRead) :
    (s.updCw r (fun y => { y with phase := .atDie, start := s.clk.mono })).SparesReads (s.sentToDie r x) ∧
      (s.sentToDie r x).flag F.eccCtlTcuten = s.flag F.eccCtlTcuten := by
  refine ⟨.trans (.trans (.sknCnt _ _ _) (.sknCnt _ _ _)) (.countRead _), ?_⟩
  rw [State.flag, State.sentToDie, State.fld_countRead _ (by decide), State.fld_sknCnt _ _ _ _ (by decide), State.fld_sknCnt _ _ _ _ (by decide)]
  rfl

/-- A read under way: its deadline and the TLER limit of its function start, and an operation in its way may be suspended. -/
def State.readIssued (s : State) (r : Nat) (x : CwRead) : State :=
  let tler := ((s.cmd x.cmd).map (fun k => Tab.getD 0x05 0 (s.func k.fn).feats % 65536)).getD 0
  let t := s.sentToDie r x
  let u := if t.flag F.eccCtlTcuten && !x.again then t.arm (.tailCut r) (t.fld F.eccTcutDeadline * 10000) else t
  let v := if tler = 0 then u else u.arm (.tler r) (nsMs (100 * tler))
  v.suspendFor (psaDie x.psa) (s.readLevel x)

theorem exec_pageReadIssue_row (hx : s.cw r = some x) (hp : x.phase = .queued) (hdown : Tab.has (psaDie x.psa / 1024) s.fl.down = false)
    (hturn : s.inTurn (psaDie x.psa) = true) :
    exec (.pageReadIssue r) s =
      .next (if s.bypassed (psaDie x.psa) && !x.again then (s.rebuild r x 2).eccCnt 9 else s.readIssued r x) := by
  show execPageReadIssue r s = _
  simp -zeta only [execPageReadIssue, hx]
  exact guarded_true _ _ _ (by simp [hp, hdown, hturn])

/-- A read with its deadline on has it running once it is issued. -/
theorem State.readIssued_leaves (hx : s.cw r = some x) (hagain : x.again = false) (hen : s.flag F.eccCtlTcuten = true) :
    ((s.readIssued r x).cw r).map (·.phase) = some .atDie ∧ (s.readIssued r x).armed (.tailCut r) = true ∧ (s.readIssued r x).map = s.map ∧
      (s.readIssued r x).tx = s.tx := by
  unfold State.readIssued
  extract_lets tler t u v
  obtain ⟨hsent, hflag⟩ : (s.updCw r _).SparesReads t ∧ t.flag _ = _ := s.sentToDie_leaves r x
  have hu : u = t.arm (.tailCut r) (t.fld F.eccTcutDeadline * 10000) := if_pos (by rw [hflag, hen, hagain]; rfl)
  have hv : u.SparesReads v := by
    unfold v
    split
    · exact .refl u
    · exact .arm _ nofun
  have hend := hv.trans (.suspendFor (psaDie x.psa) (s.readLevel x))
  have hcw : u.cw r = t.cw r := by rw [hu]; rfl
  refine ⟨?phase, ?deadline, ?map, ?tx⟩
  case phase =>
    rw [hend.cw r, hcw, hsent.cw r, State.cw_updCw, hx]
    rfl
  case deadline =>
    rw [hend.tailCut r, hu]
    exact State.armed_arm _ _ _
  case map =>
    rw [hend.map, hu]
    exact hsent.map
  case tx =>
    rw [hend.tx, hu]
    exact hsent.tx

theorem exec_pageReadIssue_issues (hx : s.cw r = some x) (hp : x.phase = .queued) (hagain : x.again = false)
    (hby : s.bypassed (psaDie x.psa) = false) (hdown : Tab.has (psaDie x.psa / 1024) s.fl.down = false)
    (hturn : s.inTurn (psaDie x.psa) = true) (hen : s.flag F.eccCtlTcuten = true) :
    ∃ t, exec (.pageReadIssue r) s = .next t ∧ (t.cw r).map (·.phase) = some .atDie ∧ t.armed (.tailCut r) = true ∧ t.map = s.map ∧
      t.tx = s.tx := by
  have hrow := exec_pageReadIssue_row hx hp hdown hturn
  rw [if_neg (by simp [hby])] at hrow
  exact ⟨_, hrow, State.readIssued_leaves hx hagain hen⟩

theorem exec_pageReadIssue_bypasses (hx : s.cw r = some x) (hp : x.phase = .queued) (hagain : x.again = false)
    (hby : s.bypassed (psaDie x.psa) = true) (hdown : Tab.has (psaDie x.psa / 1024) s.fl.down = false)
    (hturn : s.inTurn (psaDie x.psa) = true) :
    ∃ t, exec (.pageReadIssue r) s = .next t ∧ (t.cw r).map (·.phase) = some .rebuilding ∧ (t.cw r).map (·.why) = some 2 ∧
      t.fld (F.eccCntCount 9) = (s.fld (F.eccCntCount 9) + 1) % 2 ^ 32 := by
  have hrow := exec_pageReadIssue_row hx hp hdown hturn
  rw [if_pos (by simp [hby, hagain])] at hrow
  obtain ⟨hcw, -, hcount⟩ := s.rebuild_leaves r x 2
  have hread := ((State.SparesReads.eccCnt 9 1).cw r).trans hcw
  rw [hx] at hread
  exact ⟨_, hrow, congrArg _ hread, congrArg _ hread, by rw [State.fld_eccCnt, hcount]⟩

end

/-! ### Arrivals and deadlines (R214, R219, R225, R226) -/

section
variable {s : State} {r : Nat} {x : CwRead}

theorem exec_codewordArrival_late (erased : Bool) (hlate : s.rd.late.contains r = true) :
    ∃ t, exec (.codewordArrival r erased) s = .next t ∧ t.rd.reads = s.rd.reads ∧ t.rd.late.contains r = false ∧
      t.fld (F.eccCntCount 8) = (s.fld (F.eccCntCount 8) + 1) % 2 ^ 32 := by
  have hrow : execCodewordArrival r erased s = _ := if_pos hlate
  have hcnt := State.SparesReads.eccCnt (s := { s with rd := { s.rd with late := s.rd.late.filter (· ≠ r) } }) 8 1
  refine ⟨_, hrow, hcnt.reads, ?_, State.fld_eccCnt⟩
  rw [hcnt.late]
  simp

/-- The row of a codeword that arrives in time: its deadline is cancelled. -/
theorem exec_codewordArrival_inTime (erased : Bool) (hlate : s.rd.late.contains r = false) (hx : s.cw r = some x) (hp : x.phase = .atDie) :
    exec (.codewordArrival r erased) s = .next
      (let t := (s.cancel (.tailCut r)).sknCnt (psaDie x.psa) 1
       (if erased then
          (if x.again then t.atL6 r { x with skipped := true } (t.causeOf { x with skipped := true })
           else (t.updCw r (fun y => { y with skipped := true })).rebuild r x 0)
        else t.updCw r (fun y => { y with phase := .decoding })).resumeOp (psaDie x.psa)) := by
  show execCodewordArrival r erased s = _
  simp only [execCodewordArrival, hlate, hx, Bool.false_eq_true, if_false]
  exact guarded_true _ _ _ (decide_eq_true hp)

theorem exec_codewordArrival_decodes (hlate : s.rd.late.contains r = false) (hx : s.cw r = some x) (hp : x.phase = .atDie) :
    ∃ t, exec (.codewordArrival r false) s = .next t ∧ (t.cw r).map (·.phase) = some .decoding ∧ t.armed (.tailCut r) = false := by
  have hrow := exec_codewordArrival_inTime false hlate hx hp
  extract_lets t at hrow
  simp only [Bool.false_eq_true, if_false] at hrow
  have hend := ((t.updCw r (fun y => { y with phase := .decoding })).resumeOp_leaves (psaDie x.psa)).1
  refine ⟨_, hrow, ?_, (hend.tailCut r).trans (State.armed_cancel _ _)⟩
  rw [hend.cw r, State.cw_updCw, show t.cw r = s.cw r from rfl, hx]
  rfl

theorem exec_codewordArrival_erased (hlate : s.rd.late.contains r = false) (hx : s.cw r = some x) (hp : x.phase = .atDie)
    (hagain : x.again = false) :
    ∃ t, exec (.codewordArrival r true) s = .next t ∧ (t.cw r).map (·.phase) = some .rebuilding ∧ (t.cw r).map (·.step) = some 4 := by
  have hrow := exec_codewordArrival_inTime true hlate hx hp
  extract_lets t at hrow
  simp only [hagain, Bool.false_eq_true, if_true, if_false] at hrow
  have hread := ((State.resumeOp_leaves _ (psaDie x.psa)).1.cw r).trans
    ((t.updCw r (fun y => { y with skipped := true })).rebuild_leaves r x 0).1
  rw [State.cw_updCw, show t.cw r = s.cw r from rfl, hx] at hread
  exact ⟨_, hrow, congrArg _ hread, congrArg _ hread⟩

theorem exec_tailCutDeadline_rebuilds (ha : s.armed (.tailCut r) = true) (hx : s.cw r = some x) :
    ∃ t, exec (.tailCutDeadline r) s = .next t ∧ (t.cw r).map (·.phase) = some .rebuilding ∧ (t.cw r).map (·.why) = some 1 ∧
      t.rd.late = s.rd.late ++ [r] := by
  have hrd : (s.expire (.tailCut r)).rd = s.rd := by rw [State.expire_frame]
  have hx' : (s.expire (.tailCut r)).cw r = some x := (State.cw_congr (congrArg _ hrd) r).trans hx
  have hrow : execTailCutDeadline r s = _ := onTimer_armed ha _
  simp -zeta only [hx'] at hrow
  extract_lets d blocked u rd v at hrow
  obtain ⟨hcw, hlate, -⟩ := (s.expire (.tailCut r)).rebuild_leaves r x 1
  have hcnt : ((s.expire (.tailCut r)).rebuild r x 1).SparesReads u := .eccCnt 7 1
  have hmiss : v.SparesReads (if blocked = true then v else v.countMiss d) := iteInduction (fun _ => .refl v) (fun _ => .countMiss d)
  have hend := hmiss.trans (State.resumeOp_leaves _ d).1
  have hread := ((hend.cw r).trans (hcnt.cw r)).trans hcw
  rw [hx'] at hread
  have hnoted : v.rd.late = s.rd.late ++ [r] := congrArg (· ++ [r]) ((hcnt.late.trans hlate).trans (congrArg _ hrd))
  exact ⟨_, hrow, congrArg _ hread, congrArg _ hread, hend.late.trans hnoted⟩

theorem exec_tailCutDeadline_cancelled (ha : s.armed (.tailCut r) = false) : exec (.tailCutDeadline r) s = .next s := by
  show execTailCutDeadline r s = _
  exact onTimer_unarmed ha _

theorem exec_tlerLimit_ends (ha : s.armed (.tler r) = true) (hx : s.cw r = some x) (hsingle : x.frame = 0) :
    ∃ t, exec (.tlerLimit r) s = .next t ∧ t.cw r = none ∧ t.fld F.eccUePageCause = 2 ∧ t.flag F.eccStatUeseen = true := by
  have hrd : (s.expire (.tler r)).rd = s.rd := by rw [State.expire_frame]
  have hx' : (s.expire (.tler r)).cw r = some x := (State.cw_congr (congrArg _ hrd) r).trans hx
  have hrow : execTlerLimit r s = _ := onTimer_armed ha _
  simp only [hx'] at hrow
  obtain ⟨hgone, hcause, hseen⟩ := State.atL6_single (s := (s.expire (.tler r)).eccCnt 23) (r := r) (cause := 2) hsingle (by decide)
  obtain ⟨hend, hfld⟩ := State.resumeOp_leaves (((s.expire (.tler r)).eccCnt 23).atL6 r x 2) (psaDie x.psa)
  refine ⟨_, hrow, (hend.cw r).trans hgone, (hfld _ (by decide)).trans hcause, ?_⟩
  rw [State.flag, hfld _ (by decide), ← State.flag, hseen]

end

/-! ### Decodes and the ladder (R218 to R223, R231) -/

section
variable {s : State} {r synd level check pi : Nat} {x : CwRead}

/-- The row of a decode that ends: at L0 its syndrome weight is noted first. -/
theorem exec_decodeComplete_row (ok : Bool) (hx : s.cw r = some x) (hp : x.phase = .decoding) :
    exec (.decodeComplete r ok synd level check pi) s = .next
      (let t := if x.step = 0 then s.noteSynd (psaBlk x.psa) synd else s
       if ok then (if x.step = 1 ∨ x.step = 2 then t.noteLevel (psaBlk x.psa) level else t).decoded r x check pi else t.climb r x) := by
  show execDecodeComplete r ok synd level check pi s = _
  simp only [execDecodeComplete, hx]
  exact guarded_true _ _ _ (decide_eq_true hp)

theorem exec_decodeComplete_first (hx : s.cw r = some x) (hp : x.phase = .decoding) (hstep : x.step = 0) :
    exec (.decodeComplete r true synd level 0 pi) s = .next ((s.noteSynd (psaBlk x.psa) synd).decoded r x 0 pi) := by
  rw [exec_decodeComplete_row true hx hp]
  simp [hstep]

theorem exec_decodeComplete_atLevel (hx : s.cw r = some x) (hp : x.phase = .decoding) (hstep : x.step = 1 ∨ x.step = 2) :
    exec (.decodeComplete r true synd level 0 pi) s = .next ((s.noteLevel (psaBlk x.psa) level).decoded r x 0 pi) := by
  have hlater : x.step ≠ 0 := by omega
  rw [exec_decodeComplete_row true hx hp]
  simp [hstep, hlater]

/-- A syndrome weight noted changes the weights kept and the level of the block at most (R220). -/
theorem State.noteSynd_leaves (s : State) (b w : Nat) : s.SparesReads (s.noteSynd b w) ∧ (s.noteSynd b w).fl.slow = s.fl.slow := by
  unfold State.noteSynd
  extract_lets old n sum rest t
  split
  · exact ⟨.setFl _, rfl⟩
  · split
    · exact ⟨.of_eq rfl rfl rfl rfl, rfl⟩
    · exact ⟨.setFl _, rfl⟩

/-- A read whose first decode failed climbs to L1, where its die is not slow (R218, R228). -/
theorem State.climb_first (hstep : x.step = 0) (hslow : Tab.has (psaDie x.psa) s.fl.slow = false) :
    ((s.climb r x).cw r).map (·.step) = (s.cw r).map (fun _ => 1) ∧ (s.climb r x).tx = s.tx := by
  have hnext : s.nextStep x = 1 := by simp [State.nextStep, hstep, hslow]
  unfold State.climb
  extract_lets n skip t
  have hn : n = 1 := hnext
  rw [hn, if_neg (by decide), if_neg (by decide)]
  have hend : (t.updCw r (fun y => { y with step := 1 })).SparesReads
      ((((t.updCw r (fun y => { y with step := 1 })).sknCnt (psaDie x.psa) 0).sknCnt (psaDie x.psa) 11).sknCnt (psaDie x.psa) 14 2) :=
    .trans (.trans (.sknCnt _ _ _) (.sknCnt _ _ _)) (.sknCnt _ _ _)
  refine ⟨?_, hend.tx⟩
  rw [hend.cw r, State.cw_updCw, State.cw_updCw, Option.map_map, Option.map_map]
  rfl

theorem exec_decodeComplete_climbs (hx : s.cw r = some x) (hp : x.phase = .decoding) (hstep : x.step = 0)
    (hslow : Tab.has (psaDie x.psa) s.fl.slow = false) :
    ∃ t, exec (.decodeComplete r false synd level 0 pi) s = .next t ∧ (t.cw r).map (·.step) = some 1 ∧ t.tx = s.tx := by
  have hrow := exec_decodeComplete_row (synd := synd) (level := level) (check := 0) (pi := pi) false hx hp
  simp only [hstep, Bool.false_eq_true, if_true, if_false] at hrow
  obtain ⟨hsynd, hslows⟩ := s.noteSynd_leaves (psaBlk x.psa) synd
  obtain ⟨hcw, htx⟩ := State.climb_first (s := s.noteSynd (psaBlk x.psa) synd) (r := r) hstep (by rwa [hslows])
  refine ⟨_, hrow, ?_, htx.trans hsynd.tx⟩
  rw [hcw, hsynd.cw r, hx]
  rfl

/-- A single codeword that failed a check at L0 to L3 goes to L4 (R231). -/
theorem exec_decodeComplete_checkFails (hx : s.cw r = some x) (hp : x.phase = .decoding) (hstep : x.step = 3) (hagain : x.again = false)
    (hsingle : x.frame = 0) (hfails : check ≠ 0) (hkind : check ≠ 2) :
    ∃ t, exec (.decodeComplete r true synd level check pi) s = .next t ∧ (t.cw r).map (·.phase) = some .rebuilding ∧
      (t.cw r).map (·.step) = some 4 := by
  have hdecoded : s.decoded r x check pi = (s.eccCnt (checkCounter check)).rebuild r x 0 := by
    simp [State.decoded, State.noteCheck, hfails, hkind, hagain, hsingle]
  have hrow : exec (.decodeComplete r true synd level check pi) s = .next (s.decoded r x check pi) := by
    rw [exec_decodeComplete_row true hx hp]
    simp [hstep]
  rw [hdecoded] at hrow
  have hread := ((s.eccCnt (checkCounter check)).rebuild_leaves r x 0).1
  rw [(State.SparesReads.eccCnt _ _).cw r, hx] at hread
  exact ⟨_, hrow, congrArg _ hread, congrArg _ hread⟩

end

/-! ### Reconstructions (R221, R223) -/

section
variable {s : State} {r lost pi : Nat} {x : CwRead} {c : Course}

/-- The row of a reconstruction whose checks passed: it fails where more members were lost than the course's ply allows. -/
theorem exec_reconstructionComplete_row (hx : s.cw r = some x) (hp : x.phase = .rebuilding)
    (hc : s.course (s.blk (psaBlk x.psa)).course = some c) :
    exec (.reconstructionComplete r lost 0 pi) s = .next
      (if c.ply < lost + 1 then s.rebuildFailed r x
       else if x.why = 0 then ((s.eccCnt 4).refreshBlock (psaBlk x.psa)).passCw r x pi
       else s.passCw r x pi) := by
  show execReconstructionComplete r lost 0 pi s = _
  simp only [execReconstructionComplete, hx, hc]
  exact guarded_true _ _ _ (decide_eq_true hp)

theorem exec_reconstructionComplete_passes (hx : s.cw r = some x) (hp : x.phase = .rebuilding)
    (hc : s.course (s.blk (psaBlk x.psa)).course = some c) (hlost : lost < c.ply) (hwhy : x.why ≠ 0) :
    exec (.reconstructionComplete r lost 0 pi) s = .next (s.passCw r x pi) := by
  rw [exec_reconstructionComplete_row hx hp hc, if_neg (by omega), if_neg hwhy]

theorem exec_reconstructionComplete_refreshes (hx : s.cw r = some x) (hp : x.phase = .rebuilding)
    (hc : s.course (s.blk (psaBlk x.psa)).course = some c) (hlost : lost < c.ply) (hwhy : x.why = 0) :
    exec (.reconstructionComplete r lost 0 pi) s = .next (((s.eccCnt 4).refreshBlock (psaBlk x.psa)).passCw r x pi) := by
  rw [exec_reconstructionComplete_row hx hp hc, if_neg (by omega), if_pos hwhy]

/-- A failed rebuild that was begun for time alone has its codeword read again (R223). -/
theorem exec_reconstructionComplete_readsAgain (hx : s.cw r = some x) (hp : x.phase = .rebuilding)
    (hc : s.course (s.blk (psaBlk x.psa)).course = some c) (hlost : c.ply ≤ lost) (hwhy : x.why ≠ 0) :
    ∃ t, exec (.reconstructionComplete r lost 0 pi) s = .next t ∧ (t.cw r).map (·.phase) = some .queued ∧ (t.cw r).map (·.again) = some true ∧
      t.flag F.eccStatRecfailseen = true := by
  have hrow := exec_reconstructionComplete_row (lost := lost) (pi := pi) hx hp hc
  rw [if_pos (by omega), State.rebuildFailed, if_neg hwhy] at hrow
  have hread := State.cw_updCw (s := (s.setFlag F.eccStatRecfailseen).eccCnt 11) (r := r)
    (fun y => { y with again := true, phase := .queued, step := 0 })
  rw [(State.SparesReads.eccCnt _ _).cw r, show (s.setFlag F.eccStatRecfailseen).cw r = s.cw r from rfl, hx] at hread
  have hflag : ((s.setFlag F.eccStatRecfailseen).eccCnt 11).flag F.eccStatRecfailseen = true := by
    rw [State.flag, State.fld_eccCnt_ne (by decide), ← State.flag]
    exact State.flag_setFld_one _ _ (by decide) rfl
  exact ⟨_, hrow, congrArg _ hread, congrArg _ hread, hflag⟩

end

/-! ### Slow dies (R227, R229) -/

section
variable {s : State} {d tr total : Nat}

theorem exec_slowProbeTimer_inTime (ha : s.armed (.slowProbe d) = true) (hslow : Tab.has d s.fl.slow = true)
    (htr : 10 * tr ≤ s.fld F.eccSlowCtlProbetr * s.fl.geom.tr) (htotal : total ≤ s.fld F.eccTcutDeadline * 10000) :
    ∃ t, exec (.slowProbeTimer d tr total) s = .next t ∧ t.armed (.slowProbe d) = true ∧ t.fl = s.fl ∧
      t.fld (F.eccCntCount 14) = (s.fld (F.eccCntCount 14) + 1) % 2 ^ 32 := by
  have hrow : execSlowProbeTimer d tr total s = _ := onTimer_armed ha _
  have hfl : (s.expire (.slowProbe d)).fl = s.fl := by rw [State.expire_frame]
  rw [if_neg (by rw [hfl, hslow]; decide)] at hrow
  extract_lets t at hrow
  have htfl : t.fl = s.fl := ((s.expire (.slowProbe d)).eccCnt_fl 14 1).trans hfl
  have hfld : ∀ f : Fld, f.dw < 0x2040 → t.fld f = ((s.expire (.slowProbe d)).eccCnt 14).fld f := fun f hf => State.fld_sknCnt _ _ _ _ hf
  have hkept : ∀ f : Fld, f.dw < 0x2040 → f.dw ≠ Reg.eccCnt 14 → t.fld f = s.fld f :=
    fun f hf hne => (hfld f hf).trans ((State.fld_eccCnt_ne hne).trans (s.fld_expire _ f))
  rw [if_neg (by
    rw [htfl, hkept F.eccSlowCtlProbetr (by decide) (by decide), hkept F.eccTcutDeadline (by decide) (by decide)]
    omega)] at hrow
  refine ⟨_, hrow, State.armed_arm _ _ _, htfl, ?_⟩
  rw [hfld _ (by decide), State.fld_eccCnt, State.fld_expire]

theorem exec_slowDieHoldExpiry_releases (ha : s.armed (.slowHold d) = true) (hslow : Tab.has d s.fl.slow = true) :
    ∃ t, exec (.slowDieHoldExpiry d) s = .next t ∧ Tab.has d t.fl.slow = false ∧ t.armed (.slowProbe d) = false := by
  have hrow : execSlowDieHoldExpiry d s = _ := onTimer_armed ha _
  rw [if_pos (by rw [State.expire_frame]; exact hslow)] at hrow
  refine ⟨_, hrow, ?_, State.releaseSlow_probe _ d⟩
  rw [State.releaseSlow_fl, Tab.has, Tab.find_del_self]
  rfl

theorem exec_slowDieHoldExpiry_cancelled (ha : s.armed (.slowHold d) = false) : exec (.slowDieHoldExpiry d) s = .next s := onTimer_unarmed ha _

end

/-- Settles O15: each row finds its read, its deadline or its slow die as stated, and sends, decodes, rebuilds, ends or releases it. -/
theorem codewordRowsComplete : Obligations.CodewordRowsComplete := by
  unfold Obligations.CodewordRowsComplete
  exact ⟨fun _ _ _ hx hp hagain hby hdown hturn hen => exec_pageReadIssue_issues hx hp hagain hby hdown hturn hen,
    fun _ _ _ hx hp hagain hby hdown hturn => exec_pageReadIssue_bypasses hx hp hagain hby hdown hturn,
    fun _ _ _ hlate hx hp => exec_codewordArrival_decodes hlate hx hp,
    fun _ _ _ hlate hx hp hagain => exec_codewordArrival_erased hlate hx hp hagain,
    fun _ _ erased hlate => exec_codewordArrival_late erased hlate,
    fun _ _ _ ha hx => exec_tailCutDeadline_rebuilds ha hx, fun _ _ ha => exec_tailCutDeadline_cancelled ha,
    fun _ _ _ ha hx hsingle => exec_tlerLimit_ends ha hx hsingle,
    fun _ _ _ _ _ _ hx hp hstep => exec_decodeComplete_first hx hp hstep,
    fun _ _ _ _ _ _ hx hp hstep => exec_decodeComplete_atLevel hx hp hstep,
    fun _ _ _ _ _ _ hx hp hstep _ hslow => exec_decodeComplete_climbs hx hp hstep hslow,
    fun _ _ _ _ _ _ _ hx hp hstep hagain hsingle hfails hkind =>
      exec_decodeComplete_checkFails hx hp hstep hagain hsingle hfails hkind,
    fun _ _ _ _ _ _ hx hp hc hlost hwhy => exec_reconstructionComplete_passes hx hp hc hlost hwhy,
    fun _ _ _ _ _ _ hx hp hc hlost hwhy => exec_reconstructionComplete_refreshes hx hp hc hlost hwhy,
    fun _ _ _ _ _ _ hx hp hc hlost hwhy => exec_reconstructionComplete_readsAgain hx hp hc hlost hwhy,
    fun _ _ _ _ ha hslow htr htotal => exec_slowProbeTimer_inTime ha hslow htr htotal,
    fun _ _ ha hslow => exec_slowDieHoldExpiry_releases ha hslow, fun _ _ ha => exec_slowDieHoldExpiry_cancelled ha⟩

end Sys2Proof.Machine
end

section
/-! SUPPORT. The rows of the lifeline (R261, R263, R264, R266, R268): what closing a group and accepting a batch leave of the lifeline and its
counters, and which checkpoint a round comes to. -/

namespace Sys2Proof.Machine

/-! ### The counters of the lifeline (R287) -/

section
variable {s : State} {n : Nat} {offs : List Nat}

theorem lifCntCount_dw (n : Nat) : (F.lifCntCount n).dw = Reg.lifCnt n := by
  simp only [Fld.dw, F.lifCntCount, Reg.lifCnt]
  omega

theorem lifCntCount_fits (n : Nat) : (F.lifCntCount n).sh + (F.lifCntCount n).wid ≤ 32 := by
  simp only [Fld.sh, F.lifCntCount, Reg.lifCnt]
  omega

theorem State.fld_lifCnt (k : Nat := 1) : (s.lifCnt n k).fld (F.lifCntCount n) = (s.fld (F.lifCntCount n) + k) % 2 ^ 32 :=
  State.fld_addWrap s _ k (lifCntCount_fits n)

theorem State.WritesOnly.lifCnt (k : Nat) (h : Reg.lifCnt n ∈ offs) : s.WritesOnly offs (s.lifCnt n k) :=
  .setFld _ _ ((lifCntCount_dw n).symm ▸ h)

end

/-! ### Groups and batches (R261) -/

section
variable {s : State} {g : Group}

/-- The open group as it waits for its commit: its marker ends it, under the next SEQ. -/
def State.marked (s : State) (g : Group) (final clean : Bool) : Group :=
  { g with recs := g.recs ++ [(s.lif.nextRec, true, .stitchMarker g.num (g.recs.length + 1)
      (crc32c ((g.recs ++ [(s.lif.nextRec, true, Rec.stitchMarker g.num (g.recs.length + 1) 0 final clean)]).flatMap recDwords)) final clean)] }

/-- The lifeline after the open group is closed: the marked group waits behind the others. -/
def State.lifClosed (s : State) (g : Group) (final clean : Bool) : Lif :=
  { s.lif with openGroup := none, waiting := s.lif.waiting ++ [s.marked g final clean], closed := g.num, nextRec := nextRecSeq s.lif.nextRec }

/-- The marker is one more record behind those of the group, which stay. -/
theorem State.marked_recs (s : State) (g : Group) (final clean : Bool) :
    (s.marked g final clean).recs.take g.recs.length = g.recs ∧ (s.marked g final clean).recs.length = g.recs.length + 1 :=
  ⟨List.take_left, List.length_append⟩

/-- Closing the open group stops its timer and counts the marker. -/
theorem State.closeGroup_open (h : s.lif.openGroup = some g) (final clean : Bool) :
    s.closeGroup final clean = ({ s.cancel .groupTimer with lif := s.lifClosed g final clean } : State).lifCnt 0 := by
  unfold State.closeGroup
  rw [h]
  rfl

theorem State.closeGroup_running (final clean : Bool) : (s.closeGroup final clean).lif.running = s.lif.running := by
  unfold State.closeGroup
  split <;> rfl

theorem State.WritesOnly.closeGroup {offs : List Nat} (final clean : Bool) (h : Reg.lifCnt 0 ∈ offs) :
    s.WritesOnly offs (s.closeGroup final clean) := by
  unfold State.closeGroup
  split
  · exact .refl _ _
  · exact .trans (.of_eq rfl rfl) (.lifCnt 1 h)

theorem State.openNew_running : s.openNew.lif.running = s.lif.running := by
  unfold State.openNew
  split <;> rfl

theorem State.WritesOnly.openNew (offs : List Nat) (s : State) : s.WritesOnly offs s.openNew := by
  unfold State.openNew
  split
  · exact .refl _ _
  · exact .of_eq rfl rfl

theorem State.batch_running (rs : List Rec) : (s.batch rs).lif.running = s.lif.running := by
  unfold State.batch
  split
  · rfl
  · refine State.openNew_running.trans ?_
    split
    · exact State.closeGroup_running _ _
    · rfl

/-- A batch counts its records, and the group that it closes, in LIF_CNT[0] and [3], and writes no other register. -/
theorem State.batch_writes (rs : List Rec) : s.WritesOnly [Reg.lifCnt 0, Reg.lifCnt 3] (s.batch rs) := by
  unfold State.batch
  split
  · exact .refl _ _
  · extract_lets full t u ns og tc lif v
    have hclosed : s.WritesOnly [Reg.lifCnt 0, Reg.lifCnt 3] t :=
      iteInduction (fun _ => .trans (.closeGroup false false (by decide)) (.lifCnt 1 (by decide))) (fun _ => .refl _ _)
    have hjoined : u.WritesOnly [Reg.lifCnt 0, Reg.lifCnt 3] v := .of_eq rfl rfl
    exact ((hclosed.trans (.openNew _ t)).trans hjoined).trans (.lifCnt _ (by decide))

theorem exec_groupTimerExpiry_closes (ha : s.armed .groupTimer = true) (hg : s.lif.openGroup = some g) :
    ∃ t, exec .groupTimerExpiry s = .next t ∧ t.lif.openGroup = none ∧ t.lif.closed = g.num ∧ t.armed .groupTimer = false ∧
      t.lif.waiting.dropLast = s.lif.waiting ∧
      t.lif.waiting.getLast?.map (fun h => (h.num, h.recs.take g.recs.length, h.recs.length)) = some (g.num, g.recs, g.recs.length + 1) ∧
      t.lif.nextRec = nextRecSeq s.lif.nextRec ∧ t.fld (F.lifCntCount 2) = (s.fld (F.lifCntCount 2) + 1) % 2 ^ 32 ∧ t.map = s.map := by
  have hlif : (s.expire .groupTimer).lif = s.lif := by rw [State.expire_frame]
  have hclosed : (s.expire .groupTimer).lifClosed g false false = s.lifClosed g false false := by
    rw [State.lifClosed, State.marked, hlif]
    rfl
  have hrow : execGroupTimerExpiry s = _ := onTimer_armed ha _
  have hwrites : (s.expire .groupTimer).WritesOnly [Reg.lifCnt 0] ((s.expire .groupTimer).closeGroup false false) := .closeGroup _ _ (by decide)
  have hcount := State.fld_lifCnt (s := (s.expire .groupTimer).closeGroup false false) (n := 2)
  rw [hwrites.fld _ (by decide), State.fld_expire] at hcount
  rw [State.closeGroup_open (hlif ▸ hg), hclosed] at hrow hcount
  obtain ⟨hrecs, hlength⟩ := s.marked_recs g false false
  refine ⟨_, hrow, rfl, rfl, State.armed_cancel (s.expire .groupTimer) .groupTimer, List.dropLast_concat, ?_, rfl, hcount, State.expire_map _ _⟩
  refine (congrArg _ List.getLast?_concat).trans ?_
  rw [Option.map_some, hrecs, hlength]
  rfl

theorem exec_groupTimerExpiry_cancelled (ha : s.armed .groupTimer = false) : exec .groupTimerExpiry s = .next s := by
  show execGroupTimerExpiry s = _
  exact onTimer_unarmed ha _

end

/-! ### Commits, and copies that fail (R263, R264) -/

section
variable {s : State}

theorem exec_groupCommit_commits {a b : Nat} {g : Group} {gs : List Group} (hw : s.lif.waiting = g :: gs) (ha : 0 < a) (hb : 0 < b) :
    exec (.groupCommit a b) s = .next (s.commitGroup g a b) := by
  show execGroupCommit a b s = _
  rw [execGroupCommit, hw]
  exact guarded_true _ _ _ (by simp [ha, hb])

theorem exec_groupCommit_none (a b : Nat) (hw : s.lif.waiting = []) : exec (.groupCommit a b) s = .fault .noSuchObject := by
  show execGroupCommit a b s = _
  rw [execGroupCommit, hw]

theorem exec_journalCopyFail_moves {copy pos : Nat} {c : Course} {m : Member} (hcopy : copy < 2)
    (hc : s.course (s.lif.copy copy).course = some c) (hm : c.mem pos = some m) :
    exec (.journalCopyFail copy pos) s =
      .next (((((s.copyError copy 0 ((s.lif.waiting.head?.map (·.num)).getD s.lif.closed)).lifCnt 11).journalBlockFailed m
        (s.lif.copy copy).rows)).moveCopy copy) := by
  have hfound : (s.course (s.lif.copy copy).course).bind (fun c => c.mem pos) = some m := by rw [hc]; exact hm
  show execJournalCopyFail copy pos s = _
  simp only [execJournalCopyFail, hfound]
  exact guarded_true _ _ _ (decide_eq_true hcopy)

end

/-! ### Checkpoints (R268) -/

section
variable {s : State} {num : Nat}

/-- The round moves on in its own two registers and in the next part alone. -/
theorem State.nextCkpt_writes : s.WritesOnly [Reg.lifCkptStat] s.nextCkpt.2 := by
  unfold State.nextCkpt
  extract_lets g p lif t
  have hseg : s.WritesOnly [Reg.lifCkptStat] t := .setFld _ _ (by decide)
  refine iteInduction (motive := fun r : Nat × State => s.WritesOnly [Reg.lifCkptStat] r.2) (fun _ => .of_eq rfl rfl) fun _ => ?_
  exact hseg.trans (iteInduction (fun _ => .setFld _ _ (by decide)) (fun _ => .refl _ _))

theorem State.nextCkpt_lif : s.nextCkpt.2.lif = { s.lif with nextPart := s.nextCkpt.2.lif.nextPart } := by
  unfold State.nextCkpt
  extract_lets g p lif t
  refine iteInduction (motive := fun r : Nat × State => r.2.lif = { s.lif with nextPart := r.2.lif.nextPart }) (fun _ => rfl) fun _ => ?_
  exact iteInduction (motive := fun u : State => u.lif = { s.lif with nextPart := u.lif.nextPart }) (fun _ => rfl) (fun _ => rfl)

/-- Naming a checkpoint again begins none, and counts in LIF_CNT[8]. -/
theorem State.markUnchanged_leaves (s : State) (num : Nat) :
    (s.markUnchanged num).lif.running = s.lif.running ∧
      (s.markUnchanged num).fld (F.lifCntCount 8) = (s.fld (F.lifCntCount 8) + 1) % 2 ^ 32 := by
  unfold State.markUnchanged
  extract_lets c psa t
  have hrunning : t.lif.running = s.lif.running := State.batch_running _
  have hcount : t.fld (F.lifCntCount 8) = (s.fld (F.lifCntCount 8) + 1) % 2 ^ 32 :=
    State.fld_lifCnt.trans (by rw [(State.batch_writes _).fld _ (by decide)])
  clear_value t c
  cases c with
  | some c => exact ⟨hrunning, hcount⟩
  | none => exact ⟨hrunning, hcount⟩

/-- Whatever the round comes to, its row ends with the interval armed afresh. -/
theorem exec_checkpointInterval_rearms (len : Nat) (ha : s.armed .checkpointInterval = true) :
    ∃ t, exec (.checkpointInterval len) s = .next t ∧ t.armed .checkpointInterval = true := by
  have hrow : execCheckpointInterval len s = _ := onTimer_armed ha _
  exact ⟨_, hrow, State.armed_arm _ _ _⟩

theorem exec_checkpointInterval_unchanged (len : Nat) (ha : s.armed .checkpointInterval = true)
    (hturn : (s.expire .checkpointInterval).outOfTurn = none) (hnum : (s.expire .checkpointInterval).nextCkpt.1 = num)
    (hrun : s.lif.running.any (fun c => c.num = num) = false) (htouch : s.lif.touched.contains num = false) :
    ∃ t, exec (.checkpointInterval len) s = .next t ∧ t.lif.running = s.lif.running ∧ t.armed .checkpointInterval = true ∧
      t.fld (F.lifCntCount 8) = (s.fld (F.lifCntCount 8) + 1) % 2 ^ 32 := by
  have hrow : execCheckpointInterval len s = _ := onTimer_armed ha _
  simp only [hturn, hnum] at hrow
  have hlif : (s.expire .checkpointInterval).nextCkpt.2.lif = { s.lif with nextPart := (s.expire .checkpointInterval).nextCkpt.2.lif.nextPart } :=
    State.nextCkpt_lif.trans (by rw [show (s.expire .checkpointInterval).lif = s.lif by rw [State.expire_frame]])
  rw [if_neg (by rw [hlif, hrun]; decide), if_neg (by rw [hlif, htouch]; decide)] at hrow
  obtain ⟨hrunning, hcount⟩ := (s.expire .checkpointInterval).nextCkpt.2.markUnchanged_leaves num
  refine ⟨_, hrow, hrunning.trans (by rw [hlif]), State.armed_arm _ _ _, hcount.trans ?_⟩
  rw [State.nextCkpt_writes.fld _ (by decide), State.fld_expire]

theorem exec_checkpointMark_marks {c : Ckpt} (hc : s.lif.running.find? (fun c => c.num = num) = some c)
    (hsafe : s.runSafe c.psa (s.ckptSlots c.len) = true) : exec (.checkpointMark num) s = .next (s.markCkpt c) := by
  show execCheckpointMark num s = _
  simp only [execCheckpointMark, hc]
  exact guarded_true _ _ _ hsafe

end

/-! ### Anchors (R266) -/

section
variable {s : State}

theorem State.writeAnchor_waits (clean : Bool) :
    (s.writeAnchor clean).armed .anchorTimer = true ∧ (s.writeAnchor clean).lif.anchorNext.isSome = true := by
  refine ⟨State.armed_arm _ _ _, ?_⟩
  rw [State.writeAnchor, State.cfsRequest_frame]
  rfl

theorem exec_anchorTimer_writes (ha : s.armed .anchorTimer = true) :
    ∃ t, exec .anchorTimer s = .next t ∧ t.armed .anchorTimer = true ∧ t.lif.anchorNext.isSome = true := by
  have hrow : execAnchorTimer s = _ := onTimer_armed ha _
  exact ⟨_, hrow, State.writeAnchor_waits false⟩

theorem exec_anchorTimer_cancelled (ha : s.armed .anchorTimer = false) : exec .anchorTimer s = .next s := by
  show execAnchorTimer s = _
  exact onTimer_unarmed ha _

end

/-- Settles O17: each row finds its timer, its group, its failed member or its checkpoint as stated, and closes, commits, moves, marks or anchors. -/
theorem lifelineRowsComplete : Obligations.LifelineRowsComplete := by
  unfold Obligations.LifelineRowsComplete
  exact ⟨fun _ _ ha hg => exec_groupTimerExpiry_closes ha hg, fun _ ha => exec_groupTimerExpiry_cancelled ha,
    fun _ _ _ _ _ hw ha hb => exec_groupCommit_commits hw ha hb, fun _ a b hw => exec_groupCommit_none a b hw,
    fun _ _ _ _ _ hcopy hc hm => exec_journalCopyFail_moves hcopy hc hm,
    fun _ _ len ha hturn hnum hrun htouch _ => exec_checkpointInterval_unchanged len ha hturn hnum hrun htouch,
    fun _ len ha => exec_checkpointInterval_rearms len ha, fun _ _ _ hc hsafe => exec_checkpointMark_marks hc hsafe,
    fun _ ha => exec_anchorTimer_writes ha, fun _ ha => exec_anchorTimer_cancelled ha⟩

end Sys2Proof.Machine
end

section
/-! SUPPORT. The rows of the flash channels (R293, R294, R300, R301, R306): what each row of polls, timeouts, calibration, training and skein links
leaves of timers, counters and the flash side. -/

namespace Sys2Proof.Machine

/-! ### Events of a skein and dies in service -/

section
variable {s t : State}

/-- A staged record arms the persistence timer at most. -/
theorem State.armed_stageRec (s : State) {id : TimerId} (c src lvl a b d e : Nat) (h : id ≠ .eventPersist) :
    (s.stageRec c src lvl a b d e).armed id = s.armed id := by
  have harm : ∀ u : State, u.timers = s.timers → (u.armOnce .eventPersist 1000000000).armed id = s.armed id := fun u hu => by
    rw [State.armed_eq_dueOf, u.dueOf_armOnce_ne _ h, ← State.armed_eq_dueOf, State.armed, State.armed, hu]
  unfold State.stageRec
  extract_lets n r stg t u
  split
  · rw [State.persistStaged_frame]
    exact harm t rfl
  · exact harm t rfl

theorem State.armed_eventFrom (s : State) {id : TimerId} (c k a b d e : Nat) (h : id ≠ .eventPersist) :
    (s.eventFrom c k a b d e).armed id = s.armed id := by
  unfold State.eventFrom State.stageEvent
  extract_lets n
  split
  · rfl
  · exact s.armed_stageRec _ _ _ _ _ _ _ h

@[simp] theorem State.eventFrom_fl (s : State) (c k a b d e : Nat) : (s.eventFrom c k a b d e).fl = s.fl := by rw [State.eventFrom_frame]

@[simp] theorem State.expire_fl (s : State) (id : TimerId) : (s.expire id).fl = s.fl := by rw [State.expire_frame]

theorem State.diesOn_congr (h : t.fl = s.fl) (k : Nat) : t.diesOn k = s.diesOn k := by
  have hsvc : t.inSvc = s.inSvc := funext fun d => by rw [State.inSvc, State.inSvc, h]
  rw [State.diesOn, State.diesOn, hsvc]

end

/-! ### Registers of a skein (R309) -/

section
variable (s : State) (k : Nat)

theorem sknTempTj_dw : (F.sknTempTj k).dw = 0x200C + 128 * k := by
  simp only [Fld.dw, F.sknTempTj, Reg.sknTemp]
  omega

theorem sknTempTraintj_dw : (F.sknTempTraintj k).dw = 0x200C + 128 * k := by
  simp only [Fld.dw, F.sknTempTraintj, Reg.sknTemp]
  omega

theorem sknTempTj_fits : (F.sknTempTj k).sh + (F.sknTempTj k).wid ≤ 32 := by
  simp only [Fld.sh, F.sknTempTj, Reg.sknTemp]
  omega

/-- TRAINTJ lies below TJ in SKN_TEMP. -/
theorem sknTempTraintj_below : (F.sknTempTraintj k).sh + (F.sknTempTraintj k).wid ≤ (F.sknTempTj k).sh := by
  simp only [Fld.sh, F.sknTempTraintj, F.sknTempTj, Reg.sknTemp]
  omega

theorem sknTempTraintj_fits : (F.sknTempTraintj k).sh + (F.sknTempTraintj k).wid ≤ 32 :=
  (sknTempTraintj_below k).trans ((Nat.le_add_right _ _).trans (sknTempTj_fits k))

theorem sknStatDownseen_dw : (F.sknStatDownseen k).dw = 0x2004 + 128 * k := by
  simp only [Fld.dw, F.sknStatDownseen, Reg.sknStat]
  omega

theorem sknStatDownseen_fits : (F.sknStatDownseen k).sh + (F.sknStatDownseen k).wid ≤ 32 := by
  simp only [Fld.sh, F.sknStatDownseen, Reg.sknStat]
  omega

/-- A raised counter of a skein; it wraps. -/
theorem State.fld_addSkn (j n : Nat) :
    (s.addWrap (F.sknCntCount k j) n).fld (F.sknCntCount k j) = (s.fld (F.sknCntCount k j) + n) % 2 ^ 32 :=
  s.fld_addWrap _ n (sknCntCount_fits k j)

theorem State.fld_addSkn_ne (j n : Nat) {f : Fld} (hf : f.dw ≠ 0x2040 + 128 * k + 4 * j) :
    (s.addWrap (F.sknCntCount k j) n).fld f = s.fld f :=
  State.fld_setFld_ne _ _ _ _ (sknCntCount_fits k j) (.inl (by rwa [sknCntCount_dw]))

end

/-! ### Status polls (R293, R294) -/

section
variable {s : State} {d : Nat}

theorem exec_statusPoll_busy (h : s.inSvc d = true) : exec (.statusPoll d false) s = .next (s.sknCnt d 4) :=
  guarded_true _ _ _ h

theorem exec_statusPoll_endsReset (h : s.inSvc d = true) (hreset : Tab.has d s.fl.resets = true) :
    ∃ t, exec (.statusPoll d true) s = .next t ∧ Tab.has d t.fl.resets = false ∧ t.armed (.lunReset d) = false := by
  have hrow : execStatusPoll d true s = _ := guarded_true _ _ _ h
  rw [if_neg (by decide), if_pos (show Tab.has d (s.sknCnt d 4).fl.resets = true from hreset)] at hrow
  refine ⟨_, hrow, ?_, State.armed_cancel _ _⟩
  exact congrArg Option.isSome (Tab.find_del_self d _)

theorem exec_statusPoll_endsOp (h : s.inSvc d = true) (hreset : Tab.has d s.fl.resets = false) :
    ∃ t, exec (.statusPoll d true) s = .next t ∧ t.armed (.flashOp d) = false ∧ t.fl = s.fl := by
  have hrow : execStatusPoll d true s = _ := guarded_true _ _ _ h
  have hnone : ¬Tab.has d (s.sknCnt d 4).fl.resets = true := ne_true_of_eq_false hreset
  rw [if_neg (by decide), if_neg hnone] at hrow
  exact ⟨_, hrow, State.armed_cancel _ _, rfl⟩

end

/-! ### Timeouts (R294) -/

section
variable {s : State} {d id r : Nat}

theorem exec_flashOpTimeout_noRead (h : s.cw id = none) : exec (.flashOpTimeout d 0 id r) s = .next s := by
  show execFlashOpTimeout d 0 id r s = _
  simp only [execFlashOpTimeout, h]

theorem exec_flashOpTimeout_rebuilds {x : CwRead} (hx : s.cw id = some x) (hp : x.phase = .atDie) (hd : psaDie x.psa = d) (hagain : x.again = false) :
    exec (.flashOpTimeout d 0 id r) s =
      .next ((((((s.noteTimeout d 0).cancel (.tailCut id)).countMiss d).updCw id (fun z => { z with skipped := true })).rebuild id
        { x with skipped := true } 0).afterTimeout d 0) := by
  show execFlashOpTimeout d 0 id r s = _
  simp only [execFlashOpTimeout, hx]
  rw [if_pos ⟨hp, hd⟩, if_neg (by rw [hagain]; decide)]

theorem exec_flashOpTimeout_cancelled (h : s.armed (.flashOp d) = false) : exec (.flashOpTimeout d 1 id r) s = .next s := by
  show execFlashOpTimeout d 1 id r s = _
  rw [execFlashOpTimeout]
  exact onTimer_unarmed h _

theorem exec_flashOpTimeout_eraseFails {o : FlashOp} (ha : s.armed (.flashOp d) = true) (ho : Tab.find d s.fl.ops = some o) (hkind : o.kind = 2) :
    exec (.flashOpTimeout d 1 id r) s = .next ((((s.expire (.flashOp d)).noteTimeout d 2).opFails d).afterTimeout d 2) := by
  show execFlashOpTimeout d 1 id r s = _
  rw [execFlashOpTimeout, onTimer_armed ha]
  have herase : (Tab.find d (s.expire (.flashOp d)).fl.ops).any (fun o => decide (o.kind = 2)) = true := by
    rw [State.expire_fl, ho]
    exact decide_eq_true hkind
  simp only [herase, if_true]

theorem exec_flashOpTimeout_firstMiss (h : s.inSvc d = true) : exec (.flashOpTimeout d 3 1 r) s = .next ((s.noteTimeout d 3).afterTimeout d 3) :=
  guarded_true _ _ _ h

theorem exec_lunResetTimeout_gone (ha : s.armed (.lunReset d) = true) :
    exec (.lunResetTimeout d) s = .next ((s.expire (.lunReset d)).lunGone d) := by
  show execLunResetTimeout d s = _
  exact onTimer_armed ha _

theorem exec_lunResetTimeout_cancelled (ha : s.armed (.lunReset d) = false) : exec (.lunResetTimeout d) s = .next s := by
  show execLunResetTimeout d s = _
  exact onTimer_unarmed ha _

end

/-! ### Calibration and training (R300, R301) -/

section
variable {s : State} {k : Nat}

theorem exec_zqShortTimer_calibrates (ha : s.armed (.zqShort k) = true) (hdump : s.dump.running = none) :
    ∃ t, exec (.zqShortTimer k) s = .next t ∧ t.armed (.zqShort k) = true ∧
      t.fld (F.sknCntCount k 8) = (s.fld (F.sknCntCount k 8) + (s.diesOn k).length) % 2 ^ 32 ∧ t.fl = s.fl := by
  have hrow : execZqShortTimer k s = _ := onTimer_armed ha _
  extract_lets t at hrow
  have hfl : t.fl = s.fl := s.expire_fl _
  have hidle : t.dump.running.isSome = false := by
    rw [show t.dump = (s.expire (.zqShort k)).dump from rfl, State.expire_frame, hdump]
    rfl
  rw [if_neg (by rw [hidle]; decide)] at hrow
  refine ⟨_, hrow, State.armed_arm _ _ _, ?_, hfl⟩
  rw [State.fld_addSkn, State.diesOn_congr hfl]
  exact congrArg (fun n => (n + (s.diesOn k).length) % 2 ^ 32) (State.fld_expire s _ _)

theorem State.setTemp_skein (s : State) (hk : k < 8) (tj : Nat) :
    s.setTemp (k + 1) tj = ({ s with pwr := { s.pwr with temps := s.pwr.temps.set (k + 1) (tj % 256) } } : State).setFld (F.sknTempTj k) tj := by
  rw [State.setTemp, if_pos (by omega)]
  rfl

/-- Training notes the temperature in both fields of SKN_TEMP, and is counted once for each LUN trained. -/
theorem exec_tempRetrain_trains {tj : Nat} (hk : k < 8) (hmoved : s.fld (F.sknTrainDt k) ≤ s.tjMoved k tj) (hdump : s.dump.running = none) :
    ∃ t, exec (.tempRetrain k tj []) s = .next t ∧ t.fld (F.sknTempTj k) = tj % 256 ∧ t.fld (F.sknTempTraintj k) = tj % 256 ∧
      t.fld (F.sknCntCount k 8) = (s.fld (F.sknCntCount k 8) + (s.diesOn k).length) % 2 ^ 32 ∧ t.fl = s.fl := by
  have hrow : execTempRetrain k tj [] s = _ := guarded_true _ _ _ (by simp [hk, hmoved, hdump])
  have htj := sknTempTj_dw k
  have htrain := sknTempTraintj_dw k
  rw [State.setTemp_skein s hk] at hrow
  refine ⟨_, hrow, ?_, ?_, ?_, rfl⟩
  · refine (State.fld_addSkn_ne _ k 8 _ (by omega)).trans ?_
    rw [State.fld_setFld_ne _ _ _ _ (sknTempTraintj_fits k) (.inr (.inr (sknTempTraintj_below k)))]
    exact State.fld_setFld _ _ _ (sknTempTj_fits k)
  · refine (State.fld_addSkn_ne _ k 8 _ (by omega)).trans ?_
    exact State.fld_setFld _ _ _ (sknTempTraintj_fits k)
  · refine (State.fld_addSkn _ k 8 _).trans ?_
    rw [State.fld_setFld_ne _ _ _ _ (sknTempTraintj_fits k) (.inl (by rw [sknCntCount_dw]; omega)),
      State.fld_setFld_ne _ _ _ _ (sknTempTj_fits k) (.inl (by rw [sknCntCount_dw]; omega))]
    rfl

end

/-! ### Loss of a skein link (R306) -/

section
variable {s : State} {k : Nat} {x : Nat × Nat}

/-- What the first stall of a link adds to the recovery it begins: DOWNSEEN, the timers of the loss, and its event. -/
def State.linkLost (s : State) (k : Nat) : State :=
  (((s.setFlag (F.sknStatDownseen k)).arm (.skeinDown k) 999990000).arm (.skeinFail k) 4999990000).eventFrom 0x0803 k 10

theorem State.linkLost_fl (s : State) (k : Nat) : (s.linkLost k).fl = s.fl := State.eventFrom_fl _ _ _ _ _ _ _

theorem State.linkLost_downseen (s : State) (k : Nat) : (s.linkLost k).flag (F.sknStatDownseen k) = true := by
  have habove : ∀ n < 0x2004, (F.sknStatDownseen k).dw ≠ n := fun n hn => by
    rw [sknStatDownseen_dw]
    omega
  rw [State.linkLost, State.flag, State.fld_eventFrom _ _ _ _ _ _ _ _ (habove _ (by decide)) (habove _ (by decide)), ← State.flag]
  exact State.flag_setFld_one _ _ (sknStatDownseen_fits k) rfl

theorem State.linkLost_armed (s : State) (k : Nat) : (s.linkLost k).armed (.skeinDown k) = true ∧ (s.linkLost k).armed (.skeinFail k) = true := by
  have hne : TimerId.skeinDown k ≠ .skeinFail k := nofun
  constructor <;> rw [State.linkLost, State.armed_eventFrom _ _ _ _ _ _ _ (by nofun)]
  · rw [State.armed_arm_ne _ _ hne]
    exact State.armed_arm _ _ _
  · exact State.armed_arm _ _ _

theorem exec_skeinLinkStall_first (hk : k < 8) (hfailed : s.flag (F.sknStatFailed k) = false) (hmono : 10000 ≤ s.clk.mono)
    (hdown : Tab.find k s.fl.down = none) :
    ∃ t, exec (.skeinLinkStall k) s = .next t ∧ Tab.find k t.fl.down = some (s.clk.mono - 10000, 0) ∧ t.flag (F.sknStatDownseen k) = true ∧
      t.armed (.skeinDown k) = true ∧ t.armed (.skeinFail k) = true := by
  have hrow : execSkeinLinkStall k s = _ := guarded_true _ _ _ (by simp [hk, hfailed, hmono, hdown])
  simp only [hdown, Option.isSome_none, Bool.false_eq_true, if_false] at hrow
  refine ⟨_, hrow, ?_, State.linkLost_downseen _ k, State.linkLost_armed _ k⟩
  refine (congrArg (fun x : Fl => Tab.find k x.down) (State.linkLost_fl _ k)).trans ?_
  exact Tab.find_put_self _ _ _

/-- A link back in service is no longer down, and its two timers are cancelled. -/
theorem State.linkBack_ends (s : State) (k : Nat) :
    Tab.find k (s.linkBack k).fl.down = none ∧ (s.linkBack k).armed (.skeinDown k) = false ∧ (s.linkBack k).armed (.skeinFail k) = false ∧
      (s.linkBack k).fl.chans = s.fl.chans := by
  have hne : TimerId.skeinDown k ≠ .skeinFail k := nofun
  refine ⟨Tab.find_del_self _ _, ?_, State.armed_cancel _ _, rfl⟩
  exact (State.armed_cancel_ne _ hne).trans (State.armed_cancel _ _)

theorem exec_skeinLinkRecovered_ends (rates : List (Nat × Nat)) (hdown : Tab.find k s.fl.down = some x) (hx : x.2 < 8) :
    exec (.skeinLinkRecovered k rates) s = .next (s.linkBack k) := by
  show execSkeinLinkRecovered k rates s = _
  simp only [execSkeinLinkRecovered, hdown, withSome]
  rw [if_neg (by omega)]

theorem exec_skeinLinkDownLong_resets (hdown : Tab.find k s.fl.down = some x) (hlo : 3 ≤ x.2) (hhi : x.2 < 8) :
    exec (.skeinLinkDownLong k) s = .next ((s.cancel (.skeinDown k)).resetSkein k) := by
  show execSkeinLinkDownLong k s = _
  simp only [execSkeinLinkDownLong, hdown]
  rw [if_neg (by omega), if_pos hlo]

theorem exec_skeinLinkDownLong_up (hdown : Tab.find k s.fl.down = none) : exec (.skeinLinkDownLong k) s = .next s := by
  show execSkeinLinkDownLong k s = _
  simp only [execSkeinLinkDownLong, hdown]

theorem exec_skeinFailed_cancelled (ha : s.armed (.skeinFail k) = false) : exec (.skeinFailed k) s = .next s := by
  show execSkeinFailed k s = _
  exact onTimer_unarmed ha _

theorem exec_skeinFailed_gone (ha : s.armed (.skeinFail k) = true) :
    exec (.skeinFailed k) s = .next ((s.expire (.skeinFail k)).skeinGone k) := by
  show execSkeinFailed k s = _
  exact onTimer_armed ha _

end

/-- Settles O19: each row finds its die, its timer or its link as stated, and counts, resets, trains, recovers or retires it. -/
theorem channelRowsComplete : Obligations.ChannelRowsComplete := by
  unfold Obligations.ChannelRowsComplete
  exact ⟨fun _ _ h => ⟨_, exec_statusPoll_busy h, State.fld_addSkn _ _ 4 1, rfl⟩,
    fun _ _ h hreset => exec_statusPoll_endsReset h hreset, fun _ _ h hreset => exec_statusPoll_endsOp h hreset,
    fun _ _ _ _ hnone => exec_flashOpTimeout_noRead hnone,
    fun _ _ _ _ _ hx hp hd hagain => exec_flashOpTimeout_rebuilds hx hp hd hagain,
    fun _ _ _ _ ha => exec_flashOpTimeout_cancelled ha,
    fun _ _ _ _ _ ha ho hkind => exec_flashOpTimeout_eraseFails ha ho hkind, fun _ _ _ h => exec_flashOpTimeout_firstMiss h,
    fun _ _ ha => exec_lunResetTimeout_gone ha, fun _ _ ha => exec_lunResetTimeout_cancelled ha,
    fun _ _ ha hdump => exec_zqShortTimer_calibrates ha hdump,
    fun _ _ _ hk hmoved hdump => exec_tempRetrain_trains hk hmoved hdump,
    fun _ _ hk hfailed hmono hdown => exec_skeinLinkStall_first hk hfailed hmono hdown,
    fun s k _ rates hdown hx => ⟨_, exec_skeinLinkRecovered_ends rates hdown hx, s.linkBack_ends k⟩,
    fun _ _ _ hdown hlo hhi => exec_skeinLinkDownLong_resets hdown hlo hhi, fun _ _ hdown => exec_skeinLinkDownLong_up hdown,
    fun _ _ ha => exec_skeinFailed_cancelled ha, fun _ _ ha => exec_skeinFailed_gone ha⟩

end Sys2Proof.Machine
end

section
/-! SUPPORT. The rows of the map memory (R315 to R317, R320, R322 to R326): which registers each row writes, and what it leaves of the throttles, the
postponed refreshes and the zeroing. -/

namespace Sys2Proof.Machine

@[simp] theorem State.event_hbm (s : State) (c a b d e : Nat) : (s.event c a b d e).hbm = s.hbm := by rw [State.event_frame]
@[simp] theorem State.expire_hbm (s : State) (id : TimerId) : (s.expire id).hbm = s.hbm := by rw [State.expire_frame]

theorem State.fld_degrade (s : State) (cause : Nat) (f : Fld) : (s.degrade cause).fld f = s.fld f := by rw [State.degrade_frame]; rfl

/-! ### Registers of the map memory (R328, R329) -/

section
variable {s : State} {offs : List Nat} {n k : Nat}

theorem hbmCntCount_dw (n : Nat) : (F.hbmCntCount n).dw = Reg.hbmCnt n := by
  simp only [Fld.dw, F.hbmCntCount, Reg.hbmCnt]
  omega

theorem hbmCntCount_fits (n : Nat) : (F.hbmCntCount n).sh + (F.hbmCntCount n).wid ≤ 32 := by
  simp only [Fld.sh, F.hbmCntCount, Reg.hbmCnt]
  omega

theorem hbmStackTemp_dw (k : Nat) : (F.hbmStackTemp k).dw = Reg.hbmStack k := by
  simp only [Fld.dw, F.hbmStackTemp, Reg.hbmStack]
  omega

theorem hbmStackHot_dw (k : Nat) : (F.hbmStackHot k).dw = Reg.hbmStack k := by
  simp only [Fld.dw, F.hbmStackHot, Reg.hbmStack]
  omega

theorem hbmStackUe_dw (k : Nat) : (F.hbmStackUe k).dw = Reg.hbmStack k := by
  simp only [Fld.dw, F.hbmStackUe, Reg.hbmStack]
  omega

theorem hbmStackTemp_fits (k : Nat) : (F.hbmStackTemp k).sh + (F.hbmStackTemp k).wid ≤ 32 := by
  simp only [Fld.sh, F.hbmStackTemp, Reg.hbmStack]
  omega

/-- HOT lies below TEMP in HBM_STACK. -/
theorem hbmStackHot_below (k : Nat) : (F.hbmStackHot k).sh + (F.hbmStackHot k).wid ≤ (F.hbmStackTemp k).sh := by
  simp only [Fld.sh, F.hbmStackHot, F.hbmStackTemp, Reg.hbmStack]
  omega

theorem hbmStackHot_fits (k : Nat) : (F.hbmStackHot k).sh + (F.hbmStackHot k).wid ≤ 32 :=
  (hbmStackHot_below k).trans ((Nat.le_add_right _ _).trans (hbmStackTemp_fits k))

theorem hbmPcStatCe_dw (i : Nat) : (F.hbmPcStatCe i).dw = Reg.hbmPcStat i := by
  simp only [Fld.dw, F.hbmPcStatCe, Reg.hbmPcStat]
  omega

theorem hbmPcStatUe_dw (i : Nat) : (F.hbmPcStatUe i).dw = Reg.hbmPcStat i := by
  simp only [Fld.dw, F.hbmPcStatUe, Reg.hbmPcStat]
  omega

theorem hbmPcStatThrot_dw (i : Nat) : (F.hbmPcStatThrot i).dw = Reg.hbmPcStat i := by
  simp only [Fld.dw, F.hbmPcStatThrot, Reg.hbmPcStat]
  omega

theorem hbmCnt_ne_hbmStat (n : Nat) : Reg.hbmCnt n ≠ Reg.hbmStat := by
  simp only [Reg.hbmCnt, Reg.hbmStat]
  omega

theorem hbmStat_ne_hbmStack (k : Nat) : Reg.hbmStat ≠ Reg.hbmStack k := by
  simp only [Reg.hbmStat, Reg.hbmStack]
  omega

theorem State.fld_hbmCnt : (s.hbmCnt n k).fld (F.hbmCntCount n) = (s.fld (F.hbmCntCount n) + k) % 2 ^ 32 :=
  s.fld_addWrap _ k (hbmCntCount_fits n)

theorem State.WritesOnly.hbmCnt (s : State) (n k : Nat) : s.WritesOnly [Reg.hbmCnt n] (s.hbmCnt n k) :=
  .setFld _ _ (by simp [hbmCntCount_dw])

end

/-! ### Refresh (R320) -/

section
variable {s : State} {pc b : Nat}

theorem exec_hbmRefresh_postpones (hpc : pc < 128) (hb : b < 48) (hsref : s.flag F.hbmStatSref = false)
    (hp : Tab.getD (pc * 48 + b) 0 s.hbm.postponed < 4) :
    exec (.hbmRefresh pc b true) s = .next { s with hbm := { s.hbm with
      postponed := Tab.put (pc * 48 + b) (Tab.getD (pc * 48 + b) 0 s.hbm.postponed + 1) s.hbm.postponed } } := by
  refine (guarded_true _ _ _ (by simp [hpc, hb, hsref])).trans ?_
  rw [if_pos (by simpa using hp)]

/-- With no read waiting the bank's refresh is issued, after those postponed before it. -/
theorem exec_hbmRefresh_issues (hpc : pc < 128) (hb : b < 48) (hsref : s.flag F.hbmStatSref = false) :
    exec (.hbmRefresh pc b false) s = .next (({ s with hbm := { s.hbm with
      postponed := Tab.del (pc * 48 + b) s.hbm.postponed } } : State).countRefresh (Tab.getD (pc * 48 + b) 0 s.hbm.postponed + 1)) := by
  refine (guarded_true _ _ _ (by simp [hpc, hb, hsref])).trans ?_
  rw [if_neg (by simp)]

end

/-! ### Row activation and requests raised (R315 to R317) -/

section
variable {s : State} {pc b r q : Nat}

/-- The registers that note a throttle: the two counts of it, THROT of its pseudo-channel and THROTSEEN. -/
def State.countThrottle (s : State) (pc rows : Nat) : State :=
  (((s.hbmCnt 8 rows).hbmCnt 9).addSat (F.hbmPcStatThrot pc) 1).setFlag F.hbmStatThrotseen

theorem State.WritesOnly.countThrottle (s : State) (pc rows : Nat) :
    ((s.hbmCnt 8 rows).hbmCnt 9).WritesOnly [Reg.hbmPcStat pc, Reg.hbmStat] (s.countThrottle pc rows) :=
  (State.WritesOnly.setFld (F.hbmPcStatThrot pc) _ (by simp [hbmPcStatThrot_dw])).trans (.setFld F.hbmStatThrotseen 1 (List.mem_pair.mpr (.inr rfl)))

theorem State.fld_countThrottle_count (s : State) (pc rows : Nat) :
    (s.countThrottle pc rows).fld (F.hbmCntCount 9) = (s.fld (F.hbmCntCount 9) + 1) % 2 ^ 32 := by
  have hapart : (F.hbmCntCount 9).dw ∉ [Reg.hbmPcStat pc, Reg.hbmStat] := by
    simp only [List.mem_pair, hbmCntCount_dw, Reg.hbmCnt, Reg.hbmPcStat, Reg.hbmStat]
    omega
  rw [(State.WritesOnly.countThrottle s pc rows).fld _ hapart, State.fld_hbmCnt, (State.WritesOnly.hbmCnt s 8 rows).fld _ (by decide)]

theorem State.fld_countThrottle_lastpc (s : State) (pc rows : Nat) : (s.countThrottle pc rows).fld F.hbmThrotLastpc = s.fld F.hbmThrotLastpc := by
  have hapart : F.hbmThrotLastpc.dw ∉ [Reg.hbmPcStat pc, Reg.hbmStat] := by
    simp only [List.mem_pair, Fld.dw, F.hbmThrotLastpc, Reg.hbmThrot, Reg.hbmPcStat, Reg.hbmStat]
    omega
  rw [(State.WritesOnly.countThrottle s pc rows).fld _ hapart, (State.WritesOnly.hbmCnt _ 9 1).fld _ (by decide),
    (State.WritesOnly.hbmCnt s 8 rows).fld _ (by decide)]

/-- PORTS is the other field of HBM_THROT. -/
theorem State.fld_noteThrottles_lastpc (s : State) : s.noteThrottles.fld F.hbmThrotLastpc = s.fld F.hbmThrotLastpc :=
  State.fld_setFld_ne _ _ _ _ (by decide) (by decide)

theorem exec_rowActivateLimit_throttles (hpc : pc < 128) (hb : b < 48) (hr : r < 32768) (hq : q < 8) :
    ∃ t, exec (.rowActivateLimit pc b r q) s = .next t ∧ ⟨pc, b, r, q⟩ ∈ t.hbm.throttles ∧ t.armed (.throttle pc b q) = true ∧
      t.flag F.hbmStatThrotseen = true ∧ t.fld F.hbmThrotLastpc = pc ∧ t.fld (F.hbmCntCount 9) = (s.fld (F.hbmCntCount 9) + 1) % 2 ^ 32 := by
  have hrow : execRowActivateLimit pc b r q s = _ := guarded_true _ _ _ (by simp [hpc, hb, hr, hq])
  refine ⟨_, hrow, ?_, State.armed_arm _ _ _, ?_, ?_, ?_⟩
  · rw [State.arm_hbm, State.event_hbm]
    exact List.mem_append_right _ (List.mem_singleton_self _)
  · rw [State.flag_arm, State.flag_event _ _ _ _ _ _ _ (by decide) (by decide)]
    exact State.flag_setFld_one _ _ (by decide) rfl
  · rw [State.fld_arm, State.fld_event _ _ _ _ _ _ _ (by decide) (by decide)]
    refine (State.fld_countThrottle_lastpc _ pc _).trans ?_
    rw [State.fld_noteThrottles_lastpc, State.fld_setFld _ _ _ (by decide)]
    exact Nat.mod_eq_of_lt hpc
  · rw [State.fld_arm, State.fld_event _ _ _ _ _ _ _ (by decide) (by decide)]
    refine (State.fld_countThrottle_count _ pc _).trans ?_
    rw [State.noteThrottles, State.fld_setFld_ne _ _ _ _ (by decide) (by decide), State.fld_setFld_ne _ _ _ _ (by decide) (by decide)]
    rfl

/-- The throttle of the port on the bank ends, and the others stay. -/
theorem exec_throttleExpiry_ends (ha : s.armed (.throttle pc b q) = true) :
    ∃ t, exec (.throttleExpiry pc b q) s = .next t ∧ (∀ x ∈ t.hbm.throttles, ¬(x.pc = pc ∧ x.bank = b ∧ x.port = q)) ∧
      (∀ x ∈ s.hbm.throttles, ¬(x.pc = pc ∧ x.bank = b ∧ x.port = q) → x ∈ t.hbm.throttles) := by
  have hrow : execThrottleExpiry pc b q s = _ := onTimer_armed ha _
  refine ⟨_, hrow, fun x hx => ?_, fun x hx hother => ?_⟩
  · have hkept := (List.mem_filter.mp hx).2
    simpa [or_assoc, imp_iff_not_or] using hkept
  · refine List.mem_filter.mpr ⟨by rwa [State.expire_hbm], ?_⟩
    simpa [or_assoc, imp_iff_not_or] using hother

theorem exec_throttleExpiry_cancelled (ha : s.armed (.throttle pc b q) = false) : exec (.throttleExpiry pc b q) s = .next s := by
  show execThrottleExpiry pc b q s = _
  exact onTimer_unarmed ha _

theorem exec_hbmMaxwait_counts (hq : q < 8) : exec (.hbmMaxwait q) s = .next (s.addWrap (F.hbmCntCount 14) 1) :=
  guarded_true _ _ _ (decide_eq_true hq)

end

/-! ### A stack's temperature (R320) -/

section
variable {s : State} {k temp : Nat}

/-- HBM_STACK as it shows a temperature and whether it is hot. -/
def State.stackShown (s : State) (k temp : Nat) : State := (s.setTemp (9 + k) temp).putFlag (F.hbmStackHot k) (decide (85 < toSigned 8 temp))

theorem State.setTemp_stack (s : State) (hk : k < 4) (temp : Nat) :
    s.setTemp (9 + k) temp =
      ({ s with pwr := { s.pwr with temps := s.pwr.temps.set (9 + k) (temp % 256) } } : State).setFld (F.hbmStackTemp k) temp := by
  rw [State.setTemp, if_neg (by omega), if_pos (by omega), Nat.add_sub_cancel_left]

theorem State.fld_stackShown_temp (hk : k < 4) (ht : temp < 256) : (s.stackShown k temp).fld (F.hbmStackTemp k) = temp := by
  rw [State.stackShown, State.putFlag_eq, State.fld_setFld_ne _ _ _ _ (hbmStackHot_fits k) (.inr (.inr (hbmStackHot_below k))),
    State.setTemp_stack s hk, State.fld_setFld _ _ _ (hbmStackTemp_fits k)]
  exact Nat.mod_eq_of_lt ht

theorem State.flag_stackShown_hot : (s.stackShown k temp).flag (F.hbmStackHot k) = decide (85 < toSigned 8 temp) := by
  rw [State.stackShown, State.putFlag_eq, State.flag_setFld _ _ _ (hbmStackHot_fits k)]
  cases decide (85 < toSigned 8 temp) <;> rfl

theorem State.flag_stackShown_seen (hk : k < 4) : (s.stackShown k temp).flag F.hbmStatHotseen = s.flag F.hbmStatHotseen := by
  have hapart : F.hbmStatHotseen.dw ≠ Reg.hbmStack k := hbmStat_ne_hbmStack k
  rw [State.stackShown, State.putFlag_eq, State.flag_setFld_ne _ _ _ _ (hbmStackHot_fits k) (.inl (by rwa [hbmStackHot_dw])),
    State.setTemp_stack s hk, State.flag_setFld_ne _ _ _ _ (hbmStackTemp_fits k) (.inl (by rwa [hbmStackTemp_dw]))]
  rfl

/-- HOTSEEN is set where a stack becomes hot that was not; the stack's own register shows the temperature either way. -/
theorem exec_hbmStackPast85_shows (hk : k < 4) (ht : temp < 256) :
    ∃ t, exec (.hbmStackPast85 k temp) s = .next t ∧ t.fld (F.hbmStackTemp k) = temp ∧
      t.flag (F.hbmStackHot k) = decide (85 < toSigned 8 temp) ∧
      t.flag F.hbmStatHotseen = (s.flag F.hbmStatHotseen || (decide (85 < toSigned 8 temp) && !s.flag (F.hbmStackHot k))) := by
  have hrow : execHbmStackPast85 k temp s =
      .next (if (decide (85 < toSigned 8 temp) && !(s.flag (F.hbmStackHot k))) = true then (s.stackShown k temp).setFlag F.hbmStatHotseen
        else s.stackShown k temp) := guarded_true _ _ _ (by simp [hk, ht])
  refine ⟨_, hrow, ?_⟩
  split
  case isTrue hnew =>
    have hapart := (hbmStat_ne_hbmStack k).symm
    refine ⟨?_, ?_, ?_⟩
    · rw [State.setFlag_eq, State.fld_setFld_ne _ _ _ _ (by decide) (.inl (by rwa [hbmStackTemp_dw])), State.fld_stackShown_temp hk ht]
    · rw [State.setFlag_eq, State.flag_setFld_ne _ _ _ _ (by decide) (.inl (by rwa [hbmStackHot_dw])), State.flag_stackShown_hot]
    · rw [hnew, Bool.or_true]
      exact State.flag_setFld_one _ _ (by decide) rfl
  case isFalse hold =>
    refine ⟨State.fld_stackShown_temp hk ht, State.flag_stackShown_hot, ?_⟩
    rw [State.flag_stackShown_seen hk, Bool.eq_false_iff.mpr hold, Bool.or_false]

end

/-! ### Scrubbing (R322, R323) -/

section
variable {s : State} {l : List Nat}

/-- The corrections of a pass, each counted in CE of its pseudo-channel. -/
def State.countCorrected (s : State) (l : List Nat) : State := l.foldl (fun t p => t.addSat (F.hbmPcStatCe (p % 128)) 1) s

theorem State.fld_countCorrected (s : State) (l : List Nat) {f : Fld} (hf : f.dw < 0x1004) : (s.countCorrected l).fld f = s.fld f := by
  refine List.foldlRecOn l _ (motive := fun t : State => t.fld f = s.fld f) rfl fun t ht p _ => ?_
  have hwrites : t.WritesOnly [Reg.hbmPcStat (p % 128)] (t.addSat (F.hbmPcStatCe (p % 128)) 1) := .setFld _ _ (by simp [hbmPcStatCe_dw])
  rw [hwrites.fld f (by simp only [List.mem_singleton, Reg.hbmPcStat]; omega), ht]

/-- What a pass that corrected `n` bursts shows: CESEEN, and its counts. -/
def State.passNoted (s : State) (n : Nat) : State := (((if n = 0 then s else s.setFlag F.hbmStatCeseen).hbmCnt 10 n).hbmCnt 13 n).hbmCnt 12

theorem State.fld_seenCorrections_count (s : State) (n i : Nat) :
    (if n = 0 then s else s.setFlag F.hbmStatCeseen).fld (F.hbmCntCount i) = s.fld (F.hbmCntCount i) := by
  split
  · rfl
  · exact State.fld_setFld_ne _ _ _ _ (by decide) (.inl (by rw [hbmCntCount_dw]; exact hbmCnt_ne_hbmStat i))

theorem State.fld_passNoted_passes (s : State) (n : Nat) : (s.passNoted n).fld (F.hbmCntCount 12) = (s.fld (F.hbmCntCount 12) + 1) % 2 ^ 32 := by
  rw [State.passNoted, State.fld_hbmCnt, (State.WritesOnly.hbmCnt _ 13 n).fld _ (by decide), (State.WritesOnly.hbmCnt _ 10 n).fld _ (by decide),
    State.fld_seenCorrections_count]

theorem State.fld_passNoted_written (s : State) (n : Nat) : (s.passNoted n).fld (F.hbmCntCount 13) = (s.fld (F.hbmCntCount 13) + n) % 2 ^ 32 := by
  rw [State.passNoted, (State.WritesOnly.hbmCnt _ 12 1).fld _ (by decide), State.fld_hbmCnt, (State.WritesOnly.hbmCnt _ 10 n).fld _ (by decide),
    State.fld_seenCorrections_count]

theorem State.flag_passNoted_seen (s : State) {n : Nat} (hn : n ≠ 0) : (s.passNoted n).flag F.hbmStatCeseen = true := by
  rw [State.passNoted, (State.WritesOnly.hbmCnt _ 12 1).flag _ (by decide), (State.WritesOnly.hbmCnt _ 13 n).flag _ (by decide),
    (State.WritesOnly.hbmCnt _ 10 n).flag _ (by decide), if_neg hn]
  exact State.flag_setFld_one _ _ (by decide) rfl

/-- The pass noted as the newest, and the next one due HBM_CTL.SCRUBH later. -/
def State.nextPass (s : State) : State :=
  ({ s with hbm := { s.hbm with scrubbed := s.clk.mono } } : State).arm .hbmScrub (nsSec (3600 * s.fld F.hbmCtlScrubh))

theorem State.fld_nextPass (s : State) (f : Fld) : s.nextPass.fld f = s.fld f := rfl

theorem State.flag_nextPass (s : State) (f : Fld) : s.nextPass.flag f = s.flag f := rfl

theorem exec_hbmScrubPeriod_eq (hsref : s.flag F.hbmStatSref = false) (hdump : s.dump.running = none) (ha : s.armed .hbmScrub = true) :
    exec (.hbmScrubPeriod l) s = .next (((s.expire .hbmScrub).countCorrected l).passNoted l.length).nextPass := by
  show execHbmScrubPeriod l s = _
  exact (if_neg (by simp [hsref, hdump])).trans (onTimer_armed ha _)

theorem exec_hbmScrubPeriod_passes (hsref : s.flag F.hbmStatSref = false) (hdump : s.dump.running = none) (ha : s.armed .hbmScrub = true) :
    ∃ t, exec (.hbmScrubPeriod l) s = .next t ∧ t.armed .hbmScrub = true ∧ t.fld (F.hbmCntCount 12) = (s.fld (F.hbmCntCount 12) + 1) % 2 ^ 32 ∧
      t.fld (F.hbmCntCount 13) = (s.fld (F.hbmCntCount 13) + l.length) % 2 ^ 32 ∧ (l ≠ [] → t.flag F.hbmStatCeseen = true) := by
  have hcount (i : Nat) (hi : i ≤ 15) : ((s.expire .hbmScrub).countCorrected l).fld (F.hbmCntCount i) = s.fld (F.hbmCntCount i) :=
    (State.fld_countCorrected _ l (by rw [hbmCntCount_dw, Reg.hbmCnt]; omega)).trans (State.fld_expire _ _ _)
  refine ⟨_, exec_hbmScrubPeriod_eq hsref hdump ha, State.armed_arm _ _ _, ?_, ?_, fun hl => ?_⟩
  · rw [State.fld_nextPass, State.fld_passNoted_passes, hcount 12 (by decide)]
  · rw [State.fld_nextPass, State.fld_passNoted_written, hcount 13 (by decide)]
  · rw [State.flag_nextPass, State.flag_passNoted_seen _ (List.length_pos_of_ne_nil hl).ne']

theorem exec_hbmScrubPeriod_waits (h : s.flag F.hbmStatSref = true ∨ s.dump.running.isSome = true) : exec (.hbmScrubPeriod l) s = .next s := by
  show execHbmScrubPeriod l s = _
  exact if_pos h

end

/-! ### Uncorrectable errors (R324, R325) -/

section
variable {s : State} {a q : Nat}

theorem hbmPc_lt (order a : Nat) : hbmPc order a < 128 := by
  unfold hbmPc
  split
  · exact Nat.xor_lt_two_pow (n := 7) (Nat.mod_lt _ (by decide)) (Nat.mod_lt _ (by decide))
  · split <;> exact Nat.mod_lt _ (by decide)

theorem hbmArea_lt (a : Nat) : hbmArea a < 8 := by
  unfold hbmArea
  split_ifs <;> decide

/-- The error as HBM_UE_LAST, HBM_UE_ADDR and UESEEN show it. -/
def State.ueShown (s : State) (a q : Nat) : State :=
  (((((s.setFld F.hbmUeLastArea (hbmArea a)).setFld F.hbmUeLastPort q).setFld F.hbmUeLastPc (hbmPc (s.orderOf (hbmArea a)) a)).setFld
    F.hbmUeAddrLoAddr (a % 2 ^ 32)).setFld F.hbmUeAddrHiAddr (a / 2 ^ 32)).setFlag F.hbmStatUeseen

/-- The error counted for its stack, its pseudo-channel and the memory. -/
def State.ueCounted (s : State) (pc : Nat) : State := ((s.addSat (F.hbmStackUe (pc / 32)) 1).addSat (F.hbmPcStatUe pc) 1).hbmCnt 11

/-- The note of an error: it is shown, counted and recorded, and from a pseudo-channel's fourth on it raises bit 2 of the critical warning. -/
theorem State.noteUe_cases (s : State) (a q : Nat) :
    ∃ t b c d, t = ((s.ueShown a q).ueCounted (hbmPc (s.orderOf (hbmArea a)) a)).event 0x0901 b c d ∧
      (s.noteUe a q = t.degrade 4 ∨ s.noteUe a q = t) :=
  ⟨_, _, _, _, rfl, ite_eq_or_eq _ _ _⟩

/-- Of the registers that the recorder does not write, the note of an error leaves what was shown and counted. -/
theorem State.fld_noteUe (s : State) (a q : Nat) {f : Fld} (hf : f.dw < 0x1000) :
    (s.noteUe a q).fld f = ((s.ueShown a q).ueCounted (hbmPc (s.orderOf (hbmArea a)) a)).fld f := by
  have hevent (t : State) (b c d : Nat) : (t.event 0x0901 b c d).fld f = t.fld f :=
    t.fld_event _ _ _ _ _ _ (hf.trans (by decide)).ne (hf.trans (by decide)).ne
  obtain ⟨t, b, c, d, rfl, h | h⟩ := s.noteUe_cases a q
  · rw [h, State.fld_degrade, hevent]
  · rw [h, hevent]

theorem State.noteUe_map (s : State) (a q : Nat) : (s.noteUe a q).map = s.map := by
  have hcounted (u : State) (pc : Nat) : (u.ueCounted pc).map = u.map := rfl
  have hshown : (s.ueShown a q).map = s.map := by simp only [State.ueShown, State.setFlag_eq, State.setFld_map]
  obtain ⟨t, b, c, d, rfl, h | h⟩ := s.noteUe_cases a q
  · rw [h, State.degrade_map, State.event_map, hcounted, hshown]
  · rw [h, State.event_map, hcounted, hshown]

theorem State.WritesOnly.ueCounts (s : State) (pc : Nat) :
    s.WritesOnly [Reg.hbmStack (pc / 32), Reg.hbmPcStat pc] ((s.addSat (F.hbmStackUe (pc / 32)) 1).addSat (F.hbmPcStatUe pc) 1) :=
  (State.WritesOnly.setFld (F.hbmStackUe (pc / 32)) _ (by simp [hbmStackUe_dw])).trans (.setFld (F.hbmPcStatUe pc) _ (by simp [hbmPcStatUe_dw]))

/-- Every register that shows the error lies below those that count it. -/
theorem State.fld_noteUe_shown (s : State) (a q : Nat) {f : Fld} (hf : f.dw < 0xE30) : (s.noteUe a q).fld f = (s.ueShown a q).fld f := by
  rw [State.fld_noteUe s a q (hf.trans (by decide)), State.ueCounted,
    (State.WritesOnly.hbmCnt _ 11 1).fld _ (by simp only [List.mem_singleton, Reg.hbmCnt]; omega),
    (State.WritesOnly.ueCounts _ _).fld _ (by simp only [List.mem_pair, Reg.hbmStack, Reg.hbmPcStat]; omega)]

theorem State.WritesOnly.ueShown (s : State) (a q : Nat) :
    s.WritesOnly [Reg.hbmUeLast, Reg.hbmUeAddrLo, Reg.hbmUeAddrHi, Reg.hbmStat] (s.ueShown a q) :=
  ((((((State.WritesOnly.setFld F.hbmUeLastArea _ (by decide)).trans (.setFld F.hbmUeLastPort _ (by decide))).trans
    (.setFld F.hbmUeLastPc _ (by decide))).trans (.setFld F.hbmUeAddrLoAddr _ (by decide))).trans (.setFld F.hbmUeAddrHiAddr _ (by decide))).trans
    (.setFld F.hbmStatUeseen _ (by decide)))

theorem State.fld_noteUe_count (s : State) (a q : Nat) :
    (s.noteUe a q).fld (F.hbmCntCount 11) = (s.fld (F.hbmCntCount 11) + 1) % 2 ^ 32 := by
  have hpc := hbmPc_lt (s.orderOf (hbmArea a)) a
  have hapart : (F.hbmCntCount 11).dw ∉
      [Reg.hbmStack (hbmPc (s.orderOf (hbmArea a)) a / 32), Reg.hbmPcStat (hbmPc (s.orderOf (hbmArea a)) a)] := by
    simp only [List.mem_pair, hbmCntCount_dw, Reg.hbmCnt, Reg.hbmStack, Reg.hbmPcStat]
    omega
  rw [State.fld_noteUe s a q (by decide), State.ueCounted, State.fld_hbmCnt, (State.WritesOnly.ueCounts _ _).fld _ hapart,
    (State.WritesOnly.ueShown s a q).fld _ (by decide)]

theorem State.flag_noteUe_seen (s : State) (a q : Nat) : (s.noteUe a q).flag F.hbmStatUeseen = true := by
  rw [State.flag, State.fld_noteUe_shown s a q (by decide), ← State.flag]
  exact State.flag_setFld_one _ _ (by decide) rfl

theorem State.fld_noteUe_area (s : State) (a q : Nat) : (s.noteUe a q).fld F.hbmUeLastArea = hbmArea a := by
  rw [State.fld_noteUe_shown s a q (by decide), State.ueShown, State.setFlag_eq]
  iterate 5 rw [State.fld_setFld_ne _ _ _ _ (by decide) (by decide)]
  rw [State.fld_setFld _ _ _ (by decide)]
  exact Nat.mod_eq_of_lt (hbmArea_lt a)

theorem State.fld_noteUe_port (s : State) (a : Nat) (hq : q < 8) : (s.noteUe a q).fld F.hbmUeLastPort = q := by
  rw [State.fld_noteUe_shown s a q (by decide), State.ueShown, State.setFlag_eq]
  iterate 4 rw [State.fld_setFld_ne _ _ _ _ (by decide) (by decide)]
  rw [State.fld_setFld _ _ _ (by decide)]
  exact Nat.mod_eq_of_lt hq

theorem State.fld_noteUe_addrLo (s : State) (a q : Nat) : (s.noteUe a q).fld F.hbmUeAddrLoAddr = a % 2 ^ 32 := by
  rw [State.fld_noteUe_shown s a q (by decide), State.ueShown, State.setFlag_eq]
  iterate 2 rw [State.fld_setFld_ne _ _ _ _ (by decide) (by decide)]
  rw [State.fld_setFld _ _ _ (by decide)]
  exact Nat.mod_mod _ _

/-- HBM_UE_ADDR_HI has the 6 bits that an address of 192 GiB needs. -/
theorem State.fld_noteUe_addrHi (s : State) (q : Nat) (ha : a < 192 * 2 ^ 30) : (s.noteUe a q).fld F.hbmUeAddrHiAddr = a / 2 ^ 32 := by
  rw [State.fld_noteUe_shown s a q (by decide), State.ueShown, State.setFlag_eq, State.fld_setFld_ne _ _ _ _ (by decide) (by decide),
    State.fld_setFld _ _ _ (by decide)]
  exact Nat.mod_eq_of_lt (by simp only [F.hbmUeAddrHiAddr]; omega)

/-- An error with no repair is noted, then handled by the object that it hit. -/
theorem exec_hbmUncorrectable_handled {h : HbmObject} (ha : a < 192 * 2 ^ 30) (hq : q < 8) (hfits : hitFits h a = true) :
    exec (.hbmUncorrectable a q h false) s = (s.noteUe a q).ueHandle a h := by
  show execHbmUncorrectable a q h false s = _
  rw [execHbmUncorrectable, if_pos (by rw [decide_eq_true ha, decide_eq_true hq, hfits]; rfl), if_neg (by decide)]

theorem exec_hbmUncorrectable_unused (ha : a < 192 * 2 ^ 30) (hq : q < 8) :
    ∃ t, exec (.hbmUncorrectable a q .unused false) s = .next t ∧ t.flag F.hbmStatUeseen = true ∧ t.fld F.hbmUeLastArea = hbmArea a ∧
      t.fld F.hbmUeLastPort = q ∧ t.fld F.hbmUeAddrLoAddr = a % 2 ^ 32 ∧ t.fld F.hbmUeAddrHiAddr = a / 2 ^ 32 ∧
      t.fld (F.hbmCntCount 11) = (s.fld (F.hbmCntCount 11) + 1) % 2 ^ 32 ∧ t.map = s.map :=
  ⟨s.noteUe a q, exec_hbmUncorrectable_handled ha hq rfl, s.flag_noteUe_seen a q, s.fld_noteUe_area a q, s.fld_noteUe_port a hq,
    s.fld_noteUe_addrLo a q, s.fld_noteUe_addrHi q ha, s.fld_noteUe_count a q, s.noteUe_map a q⟩

end

/-! ### Zeroing (R326) -/

section
variable {s : State} {m : Nat}

theorem exec_hbmZeroDone_ends (ms : Nat) (hz : s.hbm.zeroing = some m) :
    ∃ t, exec (.hbmZeroDone ms) s = .next t ∧ t.hbm.zeroing = none ∧ t.flag F.hbmStatZerodone = true ∧ t.fld F.hbmZeroMs = Nat.min 65535 ms := by
  have hrow : exec (.hbmZeroDone ms) s = execHbmZeroDone ms s := rfl
  simp only [execHbmZeroDone, hz] at hrow
  refine ⟨_, hrow, rfl, ?_, ?_⟩
  · rw [State.putSat_eq, State.flag_setFld_ne _ _ _ _ (by decide) (by decide)]
    exact State.flag_setFld_one _ _ (by decide) rfl
  · rw [State.putSat_eq, State.fld_setFld _ _ _ (by decide)]
    exact Nat.mod_eq_of_lt (Nat.lt_of_le_of_lt (Nat.min_le_left _ _) (by decide))

theorem exec_hbmZeroDone_none (ms : Nat) (hz : s.hbm.zeroing = none) : exec (.hbmZeroDone ms) s = .fault .noSuchObject := by
  show execHbmZeroDone ms s = _
  simp only [execHbmZeroDone, hz]

end

/-- Settles O20: each row finds its bank, its throttle's timer, its stack, its pass, its address or its zeroing, and counts, shows or ends it. -/
theorem mapMemoryRowsComplete : Obligations.MapMemoryRowsComplete := by
  unfold Obligations.MapMemoryRowsComplete
  exact ⟨fun _ _ _ hpc hb hsref hp => exec_hbmRefresh_postpones hpc hb hsref hp, fun _ _ _ hpc hb hsref => exec_hbmRefresh_issues hpc hb hsref,
    fun _ _ _ _ _ hpc hb hr hq => exec_rowActivateLimit_throttles hpc hb hr hq, fun _ _ _ _ ha => exec_throttleExpiry_ends ha,
    fun _ _ _ _ ha => exec_throttleExpiry_cancelled ha, fun _ _ hq => exec_hbmMaxwait_counts hq,
    fun _ _ _ hk ht => exec_hbmStackPast85_shows hk ht, fun _ _ hsref hdump ha => exec_hbmScrubPeriod_passes hsref hdump ha,
    fun _ _ h => exec_hbmScrubPeriod_waits h, fun _ _ _ ha hq => exec_hbmUncorrectable_unused ha hq,
    fun _ _ _ _ ha hq harea => exec_hbmUncorrectable_handled ha hq (decide_eq_true harea),
    fun _ ms _ hz => exec_hbmZeroDone_ends ms hz, fun _ ms hz => exec_hbmZeroDone_none ms hz⟩

end Sys2Proof.Machine
end

section
/-! SUPPORT. What a step keeps (R427, R434, R447, R453, R460 to R462, R469, R470, R472, R478): every row leaves the queue, the maker key and the
cast-on area as they are, but for the record of the next SEQ that a start or the end of a program brings into the area; the store, the event areas
and the key set change in the few rows that name them. -/

namespace Sys2Proof.Machine

/-! ### The queue, the maker key and the cast-on area -/

/-- An outcome that does no more to the queue, the maker key and the cast-on area than `Grew` says. -/
def Grows (s : State) (o : Host.Outcome State Fault Refusal) : Prop := ∀ t, o = .next t → Grew s t

theorem Keeps.grew {s : State} {o : Host.Outcome State Fault Refusal} (h : Keeps s o) : Grows s o := fun t ht => .kept (h t ht)

/-- The cases are those of `exec`: each row's own lemma says what it keeps; COLD_START and CFS_PROGRAM_COMPLETE alone may add a record. -/
theorem exec_grows (s : State) : (c : Instr) → Grows s (exec c s)
  | .vddAonApplied => (execVddAonApplied_kept s).grew
  | .gaugeWindowEnd region cycles => (execGaugeWindowEnd_kept region cycles s).grew
  | .gaugePeriodEnd vout iout => (execGaugePeriodEnd_kept vout iout s).grew
  | .pmbusTransactionDone ok code data => (execPmbusTransactionDone_kept ok code data s).grew
  | .voutDeviationTimeout => (execVoutDeviationTimeout_kept s).grew
  | .vrAlert status => (execVrAlert_kept status s).grew
  | .vddCoreLow => (execVddCoreLow_kept s).grew
  | .railLow rail => (execRailLow_kept rail s).grew
  | .reftLost => (execReftLost_kept s).grew
  | .reftRegained => (execReftRegained_kept s).grew
  | .deviceTimeSlewDone => (execDeviceTimeSlewDone_kept s).grew
  | .timeOffsetApply => (execTimeOffsetApply_kept s).grew
  | .latchedPairLoRead requester pair => (execLatchedPairLoRead_kept requester pair s).grew
  | .paceMinclr pf => (execPaceMinclr_kept pf s).grew
  | .registerWrite pf off val be => (execRegisterWrite_kept pf off val be s).grew
  | .perstAssert port => (execPerstAssert_kept port s).grew
  | .coldReset => (execColdReset_kept s).grew
  | .perstDeassert port width rate reversed => (execPerstDeassert_kept port width rate reversed s).grew
  | .coldStart f => execColdStart_grew f s
  | .hotResetReceived port => (execHotResetReceived_kept port s).grew
  | .dlDown port => (execDlDown_kept port s).grew
  | .linkTrainingFail port => (execLinkTrainingFail_kept port s).grew
  | .linkLayerError port error lane => (execLinkLayerError_kept port error lane s).grew
  | .l1IdleTimer port => (execL1IdleTimer_kept port s).grew
  | .memoryRequestReceived port tag write dws poisoned => (execMemoryRequestReceived_kept port tag write dws poisoned s).grew
  | .configRead fn tag reg => (execConfigRead_kept fn tag reg s).grew
  | .configWrite fn tag reg val => (execConfigWrite_kept fn tag reg val s).grew
  | .busMasterEnableClear fn => (execBusMasterEnableClear_kept fn s).grew
  | .busMasterEnableSet fn => (execBusMasterEnableSet_kept fn s).grew
  | .vfEnableClear pf => (execVfEnableClear_kept pf s).grew
  | .vfEnableSet pf => (execVfEnableSet_kept pf s).grew
  | .pfFlr pf => (execPfFlr_kept pf s).grew
  | .vfFlr vf => (execVfFlr_kept vf s).grew
  | .flrComplete fn => (execFlrComplete_kept fn s).grew
  | .translationCompletion port tag stitch pages => (execTranslationCompletion_kept port tag stitch pages s).grew
  | .prgResponse prg outcome => (execPrgResponse_kept prg outcome s).grew
  | .pageRequestTimeout prg => (execPageRequestTimeout_kept prg s).grew
  | .invalidateRequest fn itag page pages => (execInvalidateRequest_kept fn itag page pages s).grew
  | .invalidateCompletionSend fn itag => (execInvalidateCompletionSend_kept fn itag s).grew
  | .atcFlush pf => (execAtcFlush_kept pf s).grew
  | .completionReceived port tag fits poisoned header requester => (execCompletionReceived_kept port tag fits poisoned header requester s).grew
  | .completionTimeout port tag => (execCompletionTimeout_kept port tag s).grew
  | .tagQuarantineEnd port tag => (execTagQuarantineEnd_kept port tag s).grew
  | .getVersion pf => (execGetVersion_kept pf s).grew
  | .getCapabilities pf => (execGetCapabilities_kept pf s).grew
  | .negotiateAlgorithms pf asym hash => (execNegotiateAlgorithms_kept pf asym hash s).grew
  | .getDigests pf => (execGetDigests_kept pf s).grew
  | .getCertificate pf slot offset length => (execGetCertificate_kept pf slot offset length s).grew
  | .challenge pf slot nonce => (execChallenge_kept pf slot nonce s).grew
  | .getMeasurements pf index nonce signed => (execGetMeasurements_kept pf index nonce signed s).grew
  | .spdmUnsupportedRequest pf code => (execSpdmUnsupportedRequest_kept pf code s).grew
  | .hifCntclr pf => (execHifCntclr_kept pf s).grew
  | .sqTailDoorbellWrite fn qid val => (execSqTailDoorbellWrite_kept fn qid val s).grew
  | .cqHeadDoorbellWrite fn qid val => (execCqHeadDoorbellWrite_kept fn qid val s).grew
  | .fetchGrant => (execFetchGrant_kept s).grew
  | .submissionFetchComplete port tag entries => (execSubmissionFetchComplete_kept port tag entries s).grew
  | .interlockAdmit => (execInterlockAdmit_kept s).grew
  | .stitchCut => (execStitchCut_kept s).grew
  | .resourceGrant res => (execResourceGrant_kept res s).grew
  | .stitchResume stitch => (execStitchResume_kept stitch s).grew
  | .stitchAgingExpiry stitch => (execStitchAgingExpiry_kept stitch s).grew
  | .level6Starvation res => (execLevel6Starvation_kept res s).grew
  | .completionPost cmd => (execCompletionPost_kept cmd s).grew
  | .interruptAggregationTimeout fn cq => (execInterruptAggregationTimeout_kept fn cq s).grew
  | .msixVectorUnmask fn vec => (execMsixVectorUnmask_kept fn vec s).grew
  | .controllerReset fn => (execControllerReset_kept fn s).grew
  | .controllerEnable fn ams asqSize acqSize => (execControllerEnable_kept fn ams asqSize acqSize s).grew
  | .shutdownNormal fn => (execShutdownNormal_kept fn s).grew
  | .shutdownAbrupt fn => (execShutdownAbrupt_kept fn s).grew
  | .shutdownComplete fn => (execShutdownComplete_kept fn s).grew
  | .cleanStop len => (execCleanStop_kept len s).grew
  | .qenCntclr pf => (execQenCntclr_kept pf s).grew
  | .qenHistclr pf => (execQenHistclr_kept pf s).grew
  | .unsupportedCommand cmd => (execUnsupportedCommand_kept cmd s).grew
  | .createIoSq cmd qid size cq prio contiguous inCmb => (execCreateIoSq_kept cmd qid size cq prio contiguous inCmb s).grew
  | .createIoCq cmd qid size vec intEn contiguous inCmb => (execCreateIoCq_kept cmd qid size vec intEn contiguous inCmb s).grew
  | .deleteIoSq cmd qid => (execDeleteIoSq_kept cmd qid s).grew
  | .deleteIoCq cmd qid => (execDeleteIoCq_kept cmd qid s).grew
  | .getLogPage cmd page numd offset sel rae => (execGetLogPage_kept cmd page numd offset sel rae s).grew
  | .identify cmd cns cntid => (execIdentify_kept cmd cns cntid s).grew
  | .abort cmd sqid cid => (execAbort_kept cmd sqid cid s).grew
  | .setFeatures cmd fid save cdw11 cdw12 cdw13 data => (execSetFeatures_kept cmd fid save cdw11 cdw12 cdw13 data s).grew
  | .setFeaturesTimestamp cmd timeMs => (execSetFeaturesTimestamp_kept cmd timeMs s).grew
  | .getFeatures cmd fid select cdw11 => (execGetFeatures_kept cmd fid select cdw11 s).grew
  | .asyncEventRequest cmd => (execAsyncEventRequest_kept cmd s).grew
  | .namespaceCreate cmd nsze ncap lbaf pi piFirst handles => (execNamespaceCreate_kept cmd nsze ncap lbaf pi piFirst handles s).grew
  | .namespaceDelete cmd => (execNamespaceDelete_kept cmd s).grew
  | .namespaceAttachment cmd attach controllers => (execNamespaceAttachment_kept cmd attach controllers s).grew
  | .directiveSend cmd dtype doper dspec cdw12 => (execDirectiveSend_kept cmd dtype doper dspec cdw12 s).grew
  | .directiveReceive cmd dtype doper dspec => (execDirectiveReceive_kept cmd dtype doper dspec s).grew
  | .formatNvm cmd ses lbaf pi piFirst => (execFormatNvm_kept cmd ses lbaf pi piFirst s).grew
  | .formatProgressRecord progress => (execFormatProgressRecord_kept progress s).grew
  | .sanitize cmd action passes pattern invert noDealloc => (execSanitize_kept cmd action passes pattern invert noDealloc s).grew
  | .sanitizeProgressRecord progress => (execSanitizeProgressRecord_kept progress s).grew
  | .sanitizeOperationEnd ok => (execSanitizeOperationEnd_kept ok s).grew
  | .firmwareImageDownload cmd offset length data => (execFirmwareImageDownload_kept cmd offset length data s).grew
  | .firmwareCommit cmd ca fs ms failed => (execFirmwareCommit_kept cmd ca fs ms failed s).grew
  | .activationDrainTimeout => (execActivationDrainTimeout_kept s).grew
  | .scheduledActivationDue ms failed => (execScheduledActivationDue_kept ms failed s).grew
  | .registerAccess cmd write off val mask reserved => (execRegisterAccess_kept cmd write off val mask reserved s).grew
  | .roleChallenge cmd role reserved => (execRoleChallenge_kept cmd role reserved s).grew
  | .roleAssume cmd role number sigR sigS => (execRoleAssume_kept cmd role number sigR sigS s).grew
  | .roleRelease cmd reserved => (execRoleRelease_kept cmd reserved s).grew
  | .eventWindowRead cmd area count first => (execEventWindowRead_kept cmd area count first s).grew
  | .eventRoundClear cmd arg => (execEventRoundClear_kept cmd arg s).grew
  | .lifeCycleTransition cmd target reserved => (execLifeCycleTransition_kept cmd target reserved s).grew
  | .strandConfigure cmd sel valid vals => (execStrandConfigure_kept cmd sel valid vals s).grew
  | .strandJoin cmd t => (execStrandJoin_kept cmd t s).grew
  | .patrolConfigure cmd period flags absW rise reserved => (execPatrolConfigure_kept cmd period flags absW rise reserved s).grew
  | .supervisorTestRun cmd reserved code => (execSupervisorTestRun_kept cmd reserved code s).grew
  | .supervisorTestYield cmd reserved => (execSupervisorTestYield_kept cmd reserved s).grew
  | .calibrationRowRead cmd numd offset => (execCalibrationRowRead_kept cmd numd offset s).grew
  | .flush cmd => (execFlush_kept cmd s).grew
  | .read cmd => (execRead_kept cmd s).grew
  | .write cmd data cmp => (execWrite_kept cmd data cmp s).grew
  | .writeUncorrectable cmd => (execWriteUncorrectable_kept cmd s).grew
  | .compare cmd data => (execCompare_kept cmd data s).grew
  | .writeZeroes cmd => (execWriteZeroes_kept cmd s).grew
  | .datasetManagement cmd ad => (execDatasetManagement_kept cmd ad s).grew
  | .verify cmd => (execVerify_kept cmd s).grew
  | .ioManagementReceive cmd mo => (execIoManagementReceive_kept cmd mo s).grew
  | .reclaimUnitHandleUpdate cmd handles => (execReclaimUnitHandleUpdate_kept cmd handles s).grew
  | .copy cmd => (execCopy_kept cmd s).grew
  | .strandCopyPush cmd path win target off => (execStrandCopyPush_kept cmd path win target off s).grew
  | .mapUnitApply cmd nsid unit => (execMapUnitApply_kept cmd nsid unit s).grew
  | .seamStart e bad => (execSeamStart_kept e bad s).grew
  | .seamCommit copy => (execSeamCommit_kept copy s).grew
  | .rmwWriteback job bad => (execRmwWriteback_kept job bad s).grew
  | .mapSegmentStall cause e => (execMapSegmentStall_kept cause e s).grew
  | .segmentRecoveryComplete ok replayed => (execSegmentRecoveryComplete_kept ok replayed s).grew
  | .ownerTableError e done => (execOwnerTableError_kept e done s).grew
  | .ageEpochTick => (execAgeEpochTick_kept s).grew
  | .mapCntclr pf => (execMapCntclr_kept pf s).grew
  | .mapHistclr pf => (execMapHistclr_kept pf s).grew
  | .holdOkDeassert => (execHoldOkDeassert_kept s).grew
  | .holdOkAssert => (execHoldOkAssert_kept s).grew
  | .protectedModeTimer => (execProtectedModeTimer_kept s).grew
  | .writeBufferUe cmd lba => (execWriteBufferUe_kept cmd lba s).grew
  | .rowProgramIssue course pos => (execRowProgramIssue_kept course pos s).grew
  | .programComplete course pos => (execProgramComplete_kept course pos s).grew
  | .programFail course pos => (execProgramFail_kept course pos s).grew
  | .parityProgramFail course pos => (execParityProgramFail_kept course pos s).grew
  | .rowIdleTimeout course => (execRowIdleTimeout_kept course s).grew
  | .exposedRowTimeout course => (execExposedRowTimeout_kept course s).grew
  | .eraseIssue die block => (execEraseIssue_kept die block s).grew
  | .eraseComplete die pass => (execEraseComplete_kept die pass s).grew
  | .openCheck die block pass => (execOpenCheck_kept die block pass s).grew
  | .destageMove course bad => (execDestageMove_kept course bad s).grew
  | .parityAccumulatorUe course => (execParityAccumulatorUe_kept course s).grew
  | .crsCntclr pf => (execCrsCntclr_kept pf s).grew
  | .crsPflogclr pf => (execCrsPflogclr_kept pf s).grew
  | .pageReadIssue read => (execPageReadIssue_kept read s).grew
  | .codewordArrival read erased => (execCodewordArrival_kept read erased s).grew
  | .decodeComplete read ok synd level check pi => (execDecodeComplete_kept read ok synd level check pi s).grew
  | .reconstructionComplete read lost check pi => (execReconstructionComplete_kept read lost check pi s).grew
  | .tailCutDeadline read => (execTailCutDeadline_kept read s).grew
  | .tlerLimit read => (execTlerLimit_kept read s).grew
  | .slowProbeTimer die tr total => (execSlowProbeTimer_kept die tr total s).grew
  | .slowDieHoldExpiry die => (execSlowDieHoldExpiry_kept die s).grew
  | .eccCntclr pf => (execEccCntclr_kept pf s).grew
  | .eccSlowlogclr pf => (execEccSlowlogclr_kept pf s).grew
  | .eccRelease pf => (execEccRelease_kept pf s).grew
  | .victimSelect => (execVictimSelect_kept s).grew
  | .reclaimCopy course bad => (execReclaimCopy_kept course bad s).grew
  | .moveCommit copy => (execMoveCommit_kept copy s).grew
  | .courseAgeRefresh course => (execCourseAgeRefresh_kept course s).grew
  | .readOnlyStall => (execReadOnlyStall_kept s).grew
  | .rclCntclr pf => (execRclCntclr_kept pf s).grew
  | .rclTtclr pf => (execRclTtclr_kept pf s).grew
  | .groupTimerExpiry => (execGroupTimerExpiry_kept s).grew
  | .groupCommit rowsA rowsB => (execGroupCommit_kept rowsA rowsB s).grew
  | .journalCopyFail copy pos => (execJournalCopyFail_kept copy pos s).grew
  | .anchorTimer => (execAnchorTimer_kept s).grew
  | .checkpointInterval len => (execCheckpointInterval_kept len s).grew
  | .checkpointMark num => (execCheckpointMark_kept num s).grew
  | .pfailAssert => (execPfailAssert_kept s).grew
  | .dumpEnd quiet written rows back => (execDumpEnd_kept quiet written rows back s).grew
  | .lifCntclr pf => (execLifCntclr_kept pf s).grew
  | .lifPfhistclr pf => (execLifPfhistclr_kept pf s).grew
  | .statusPoll die ready => (execStatusPoll_kept die ready s).grew
  | .flashOpTimeout die kind obj rate => (execFlashOpTimeout_kept die kind obj rate s).grew
  | .lunResetTimeout die => (execLunResetTimeout_kept die s).grew
  | .zqShortTimer skein => (execZqShortTimer_kept skein s).grew
  | .tempRetrain skein tj failed => (execTempRetrain_kept skein tj failed s).grew
  | .skeinLinkStall skein => (execSkeinLinkStall_kept skein s).grew
  | .skeinLinkDownLong skein => (execSkeinLinkDownLong_kept skein s).grew
  | .skeinFailed skein => (execSkeinFailed_kept skein s).grew
  | .sknCntclr pf skein => (execSknCntclr_kept pf skein s).grew
  | .sknRetrain pf skein => (execSknRetrain_kept pf skein s).grew
  | .chnRetrain pf chan => (execChnRetrain_kept pf chan s).grew
  | .hbmRefresh pc bank waiting => (execHbmRefresh_kept pc bank waiting s).grew
  | .rowActivateLimit pc bank row port => (execRowActivateLimit_kept pc bank row port s).grew
  | .throttleExpiry pc bank port => (execThrottleExpiry_kept pc bank port s).grew
  | .hbmMaxwait port => (execHbmMaxwait_kept port s).grew
  | .hbmScrubPeriod corrected => (execHbmScrubPeriod_kept corrected s).grew
  | .hbmUncorrectable addr port hit repaired => (execHbmUncorrectable_kept addr port hit repaired s).grew
  | .hbmZeroDone ms => (execHbmZeroDone_kept ms s).grew
  | .hbmCntclr pf => (execHbmCntclr_kept pf s).grew
  | .hbmScrubnow pf => (execHbmScrubnow_kept pf s).grew
  | .cmpBypassTimeout slot => (execCmpBypassTimeout_kept slot s).grew
  | .cmpTestRun pf failed => (execCmpTestRun_kept pf failed s).grew
  | .cmpCntclr pf => (execCmpCntclr_kept pf s).grew
  | .supervisorWatchdog => (execSupervisorWatchdog_kept s).grew
  | .taskLimitExpiry => (execTaskLimitExpiry_kept s).grew
  | .supervisorSelfCheckFail cause => (execSupervisorSelfCheckFail_kept cause s).grew
  | .switchOver ms badBank completed redone tested => (execSwitchOver_kept ms badBank completed redone tested s).grew
  | .snapshotTimer => (execSnapshotTimer_kept s).grew
  | .standbySelfTest code failed => (execStandbySelfTest_kept code failed s).grew
  | .standbyTestRetry code => (execStandbyTestRetry_kept code s).grew
  | .supCntclr pf => (execSupCntclr_kept pf s).grew
  | .supLogclr pf => (execSupLogclr_kept pf s).grew
  | .apstIdleTimeout fn => (execApstIdleTimeout_kept fn s).grew
  | .powerStateEntry base => (execPowerStateEntry_kept base s).grew
  | .drainLimit => (execDrainLimit_kept s).grew
  | .wake cause dur ok => (execWake_kept cause dur ok s).grew
  | .ps2SlotTimer => (execPs2SlotTimer_kept s).grew
  | .patrolWake temps holdOk canaries us dur ok => (execPatrolWake_kept temps holdOk canaries us dur ok s).grew
  | .ps3SensorSample temps holdOk => (execPs3SensorSample_kept temps holdOk s).grew
  | .pwrCntclr pf => (execPwrCntclr_kept pf s).grew
  | .pwrHistclr pf => (execPwrHistclr_kept pf s).grew
  | .patCntclr pf => (execPatCntclr_kept pf s).grew
  | .heartbeat h digest => (execHeartbeat_kept h digest s).grew
  | .hbReply h t1 t2 t3 t4 epoch => (execHbReply_kept h t1 t2 t3 t4 epoch s).grew
  | .ack h copy slots => (execAck_kept h copy slots s).grew
  | .nak h cause win copy seq => (execNak_kept h cause win copy seq s).grew
  | .hold h ms => (execHold_kept h ms s).grew
  | .copyOpen h copy win off count => (execCopyOpen_kept h copy win off count s).grew
  | .data h copy win off slots wellFormed => (execData_kept h copy win off slots wellFormed s).grew
  | .copyEnd h copy sent reason => (execCopyEnd_kept h copy sent reason s).grew
  | .rollup h entries => (execRollup_kept h entries s).grew
  | .registry h seq entries => (execRegistry_kept h seq entries s).grew
  | .manager h role epoch id => (execManager_kept h role epoch id s).grew
  | .join h t => (execJoin_kept h t s).grew
  | .joinAck h entries => (execJoinAck_kept h entries s).grew
  | .patrolNotice h => (execPatrolNotice_kept h s).grew
  | .fwPart h offset blocks => (execFwPart_kept h offset blocks s).grew
  | .schedule h answer time ok => (execSchedule_kept h answer time ok s).grew
  | .heartbeatTimer => (execHeartbeatTimer_kept s).grew
  | .heartbeatMiss peer => (execHeartbeatMiss_kept peer s).grew
  | .ackDelayTimer peer => (execAckDelayTimer_kept peer s).grew
  | .retransmitTimeout peer seq => (execRetransmitTimeout_kept peer seq s).grew
  | .holdExpiry peer => (execHoldExpiry_kept peer s).grew
  | .strandWriteTimeout copy => (execStrandWriteTimeout_kept copy s).grew
  | .strandWriteAck copy fetch => (execStrandWriteAck_kept copy fetch s).grew
  | .creditWaitTimeout peer => (execCreditWaitTimeout_kept peer s).grew
  | .rollupTimer => (execRollupTimer_kept s).grew
  | .sectionRollupStale sect => (execSectionRollupStale_kept sect s).grew
  | .registryTimer => (execRegistryTimer_kept s).grew
  | .managerLost => (execManagerLost_kept s).grew
  | .registryLoadTimeout => (execRegistryLoadTimeout_kept s).grew
  | .timeExchangeTimeout => (execTimeExchangeTimeout_kept s).grew
  | .strandPortLinkChange port up => (execStrandPortLinkChange_kept port up s).grew
  | .strWselWrite pf win => (execStrWselWrite_kept pf win s).grew
  | .strWctlCommit pf => (execStrWctlCommit_kept pf s).grew
  | .strCntclr pf => (execStrCntclr_kept pf s).grew
  | .fwuCntclr pf => (execFwuCntclr_kept pf s).grew
  | .fwuDiscard pf => (execFwuDiscard_kept pf s).grew
  | .cfsProgramComplete erased pulses pass => execCfsProgramComplete_grew erased pulses pass s
  | .cfsEraseComplete pass blank => (execCfsEraseComplete_kept pass blank s).grew
  | .cfsScrubPeriod one two bad => (execCfsScrubPeriod_kept one two bad s).grew
  | .cfsScrub pf one two bad => (execCfsScrub_kept pf one two bad s).grew
  | .cfsCntclr pf => (execCfsCntclr_kept pf s).grew
  | .cfsDpselWrite pf val => (execCfsDpselWrite_kept pf val s).grew
  | .cfsDpdataAccess pf write val => (execCfsDpdataAccess_kept pf write val s).grew
  | .cfsDpctlCommit pf => (execCfsDpctlCommit_kept pf s).grew
  | .cfsDpctlDiscard pf => (execCfsDpctlDiscard_kept pf s).grew
  | .sessionIdleTimeout pf => (execSessionIdleTimeout_kept pf s).grew
  | .secKselWrite pf val => (execSecKselWrite_kept pf val s).grew
  | .secKdataAccess pf write val => (execSecKdataAccess_kept pf write val s).grew
  | .secKctlCommit pf => (execSecKctlCommit_kept pf s).grew
  | .secKctlDiscard pf => (execSecKctlDiscard_kept pf s).grew
  | .secDbgUnlock pf => (execSecDbgUnlock_kept pf s).grew
  | .secCntclr pf => (execSecCntclr_kept pf s).grew
  | .secDenyclr pf => (execSecDenyclr_kept pf s).grew
  | .eventPersistTimer => (execEventPersistTimer_kept s).grew
  | .evwData0Read pf => (execEvwData0Read_kept pf s).grew
  | .evwData7Read pf => (execEvwData7Read_kept pf s).grew
  | .evwCursorWrite pf seq => (execEvwCursorWrite_kept pf seq s).grew
  | .evwSeekold pf => (execEvwSeekold_kept pf s).grew
  | .evwSeeknew pf => (execEvwSeeknew_kept pf s).grew
  | .genScrclr pf => (execGenScrclr_kept pf s).grew
  | .miStatusRead dur ok => (execMiStatusRead_kept dur ok s).grew
  | .miVendorIdRead dur ok => (execMiVendorIdRead_kept dur ok s).grew
  | .i3cSetdasa addr => (execI3cSetdasa_kept addr s).grew
  | .i3cRstdaa => (execI3cRstdaa_kept s).grew
  | .healthPublishTimer => (execHealthPublishTimer_kept s).grew
  | .dieTjPast105 die above => (execDieTjPast105_kept die above s).grew
  | .hbmStackPast85 stack temp => (execHbmStackPast85_kept stack temp s).grew
  | .temperatureThresholdCross sensor temp => (execTemperatureThresholdCross_kept sensor temp s).grew
  | .skeinLinkRecovered skein rates => (execSkeinLinkRecovered_kept skein rates s).grew
  | .neighbourSolicitation port target source mac advert => (execNeighbourSolicitation_kept port target source mac advert s).grew

/-- A tick keeps all three; the row of the front command starts from the queue's rest. -/
theorem step_grows {s t : State} (h : step s = .next t) : Grew { s with pending := s.pending.tail } t := by
  unfold step at h
  cases hp : s.pending with
  | nil =>
    simp only [hp] at h
    cases h
    refine .kept (s.tick_kept.trans ?_)
    simp only [State.kept, hp, List.tail_nil]
  | cons c rest =>
    simp only [hp] at h
    exact exec_grows _ c t h

/-- Settles O37: `step` is defined by the two forms of the queue. -/
theorem stepRunsTheFrontCommand : Obligations.StepRunsTheFrontCommand := by
  unfold Obligations.StepRunsTheFrontCommand
  refine ⟨fun s c rest hp => ?_, fun s hp => ?_⟩ <;> simp only [step, hp]

/-- Settles O38: what every row keeps, and what a step starts from. -/
theorem queueIsTakenInOrder : Obligations.QueueIsTakenInOrder := by
  unfold Obligations.QueueIsTakenInOrder
  exact ⟨fun s t c h => (exec_grows s c t h).same.1, fun _ _ h => (step_grows h).same.1⟩

/-- Settles O40: every row keeps the maker key. -/
theorem makerKeyNeverChanges : Obligations.MakerKeyNeverChanges := by
  unfold Obligations.MakerKeyNeverChanges
  exact fun _ _ h => (step_grows h).same.2

/-! ### The cast-on area (R469) -/

section
variable {s t : State}

/-- A full area takes no further record. -/
theorem Grew.cast_full (h : Grew s t) (hfull : 16384 ≤ s.areas.cast.length) : t.areas.cast = s.areas.cast := by
  induction h with
  | kept e => exact congrArg (fun x => x.2.2) e
  | add r hroom _ _ => omega
  | trans _ _ ih ih' => exact (ih' (ih hfull ▸ hfull)).trans (ih hfull)

/-- The record added has the SEQ of its index, and there was room for it. -/
theorem Grew.castOk (h : Grew s t) (hok : s.CastOk) : t.CastOk := by
  induction h with
  | @kept s t e =>
    have hcast : t.areas.cast = s.areas.cast := congrArg (fun x => x.2.2) e
    simpa only [State.CastOk, hcast] using hok
  | @add s t r hroom hseq e =>
    have hcast : t.areas.cast = s.areas.cast ++ [r] := congrArg (fun x => x.2.2) e
    obtain ⟨_, hidx⟩ := hok
    refine ⟨by rw [hcast, List.length_append]; exact hroom, fun i x hx => ?_⟩
    rw [hcast, List.getElem?_append] at hx
    split at hx
    · exact hidx i x hx
    · obtain ⟨hi, rfl⟩ := List.getElem?_eq_some_iff.1 hx
      simp only [List.length_singleton] at hi
      simp only [List.getElem_singleton, hseq]
      omega
  | trans _ _ ih ih' => exact ih' (ih hok)

theorem State.compact_frame :
    s.compact = { s with regs := s.compact.regs, cfs := s.compact.cfs, sup := s.compact.sup, areaTab := s.compact.areaTab } := by
  have hmoves : ∀ (l : List (Nat × Nat)) (g : State → Nat × Nat → CfsJob), l.foldl (fun u kx => u.cfsPut (g u kx)) s =
      { s with cfs := (l.foldl (fun u kx => u.cfsPut (g u kx)) s).cfs } := fun l g =>
    State.foldl_frame (fun s t => { s with cfs := t.cfs }) _ l s (fun _ => rfl) (fun _ _ _ h1 h2 => by rw [h2, h1]) (fun _ _ => rfl)
  unfold State.compact
  simp only
  split
  · split
    · rfl
    · rw [hmoves, State.cfsRequest_frame]
      rfl
  · rfl

/-- Moving a write point on changes the area table, and what the requests and the compaction it may bring about change (R424, R429, R437). -/
theorem State.advanceArea_frame (a : Nat) :
    s.advanceArea a = { s with regs := (s.advanceArea a).regs, cfs := (s.advanceArea a).cfs, sup := (s.advanceArea a).sup,
                               areaTab := (s.advanceArea a).areaTab } := by
  unfold State.advanceArea
  simp only
  split
  · rfl
  · split
    · rw [State.cfsRequest_frame]; rfl
    · rw [State.cfsRequest_frame]; rfl
    · rw [State.cfsRequest_frame]; rfl
    · rw [State.cfsRequest_frame]; rfl
    · rw [State.compact_frame]; rfl
    · rfl

theorem State.advanceJob_frame (j : CfsJob) :
    s.advanceJob j = { s with regs := (s.advanceJob j).regs, cfs := (s.advanceJob j).cfs, sup := (s.advanceJob j).sup,
                              areaTab := (s.advanceJob j).areaTab } := by
  unfold State.advanceJob
  split
  · rfl
  · exact State.advanceArea_frame _

end

/-! ### A record enters, and the full area (R469) -/

section
variable {s : State}

theorem State.castAdd_next {r : EventRec} (hseq : r.seq = s.areas.cast.length + 1) (hroom : r.seq ≤ 16384) :
    (s.castAdd r).areas.cast = s.areas.cast ++ [r] := by
  unfold State.castAdd
  rw [if_pos ⟨by omega, hroom, hseq⟩]

/-- Nothing else of a record's persistence touches the cast-on area. -/
theorem State.persisted_cast {r : EventRec} (hr : s.stg.staged.find? (fun x => x.seq = r.seq) = some r) :
    (s.persisted r.seq).areas.cast = (s.castAdd r).areas.cast := by
  refine congrArg (fun x => x.2.2) (?_ : (s.persisted r.seq).kept = (s.castAdd r).kept)
  simp only [State.persisted, hr, State.reportDrops_kept, apply_ite State.kept, State.cancel_kept, State.arm_kept, kept_mk, kept_fold,
    State.roundAdd_kept, ite_self]

/-- The end of the last program of a staged record's job persists the record. -/
theorem State.programComplete_event {j : CfsJob} {seq : Nat} (n : Nat) (endRole : State → Nat → State) (hwork : j.work = .event seq)
    (hwords : j.words = 1) :
    s.programComplete j true n true endRole = ((((s.cfsCnt 0).cfsCnt 1 n).advanceJob j).cfsFree.persisted seq).cfsStart := by
  simp only [State.programComplete, State.cfsDone, hwork, hwords, Bool.not_true, Bool.false_and, Bool.false_eq_true, if_false, Nat.le_refl, if_true]

theorem exec_cfsProgramComplete_program {j : CfsJob} {erased pass : Bool} {n : Nat} (hop : s.cfs.op = some j) (hprog : j.isErase = false) :
    exec (.cfsProgramComplete erased n pass) s = .next (s.programComplete j erased n pass State.endRole).lcReset := by
  show execCfsProgramComplete erased n pass s = _
  simp only [execCfsProgramComplete, hop, hprog, Bool.false_eq_true, if_false]

theorem CfsJob.isErase_event {j : CfsJob} {seq : Nat} (h : j.work = .event seq) : j.isErase = false := by
  simp only [CfsJob.isErase, h]

theorem exec_cfsProgramComplete_enters {j : CfsJob} {r : EventRec} {n : Nat} (hop : s.cfs.op = some j) (hwork : j.work = .event r.seq)
    (hwords : j.words = 1) (hr : s.stg.staged.find? (fun x => x.seq = r.seq) = some r) (hseq : r.seq = s.areas.cast.length + 1)
    (hroom : r.seq ≤ 16384) :
    ∃ t, exec (.cfsProgramComplete true n true) s = .next t ∧ t.areas.cast = s.areas.cast ++ [r] := by
  refine ⟨_, exec_cfsProgramComplete_program hop (CfsJob.isErase_event hwork), ?_⟩
  rw [State.programComplete_event n _ hwork hwords]
  have hframe : (((s.cfsCnt 0).cfsCnt 1 n).advanceJob j).cfsFree.stg = s.stg ∧ (((s.cfsCnt 0).cfsCnt 1 n).advanceJob j).cfsFree.areas = s.areas := by
    rw [State.advanceJob_frame]
    exact ⟨rfl, rfl⟩
  generalize (((s.cfsCnt 0).cfsCnt 1 n).advanceJob j).cfsFree = u at hframe ⊢
  obtain ⟨hstg, hareas⟩ := hframe
  calc (u.persisted r.seq).cfsStart.lcReset.areas.cast
      = (u.persisted r.seq).areas.cast := congrArg (fun x => x.2.2) ((State.lcReset_kept _).trans (State.cfsStart_kept _))
    _ = (u.castAdd r).areas.cast := State.persisted_cast (hstg ▸ hr)
    _ = s.areas.cast ++ [r] := by rw [State.castAdd_next (hareas ▸ hseq) hroom, hareas]

/-- EVW_CASTUSE holds the number of the cast-on area's records and nothing else that is live. -/
theorem State.liveWord_evwCastuse : (s.liveWord Reg.evwCastuse).1 = F.evwCastuseUsed.put s.areas.cast.length (s.word Reg.evwCastuse) := by
  have hlive : liveRows.flatMap (fun r => r.at s Reg.evwCastuse) = [(F.evwCastuseUsed, some s.areas.cast.length)] := rfl
  rw [State.liveWord, hlive]
  rfl

/-- Of EVW_STAT, CASTFULL and STAGED are live. -/
theorem State.liveWord_evwStat : (s.liveWord Reg.evwStat).1 =
    F.evwStatStaged.put s.stg.staged.length (F.evwStatCastfull.put (b2n (decide (16384 ≤ s.areas.cast.length))) (s.word Reg.evwStat)) := by
  have hlive : liveRows.flatMap (fun r => r.at s Reg.evwStat) =
      [(F.evwStatCastfull, some (b2n (decide (16384 ≤ s.areas.cast.length)))), (F.evwStatStaged, some s.stg.staged.length)] := rfl
  rw [State.liveWord, hlive]
  rfl

theorem State.liveWord_castFull (hfull : s.areas.cast.length = 16384) :
    F.evwCastuseUsed.get (s.liveWord Reg.evwCastuse).1 = 16384 ∧ F.evwStatCastfull.get (s.liveWord Reg.evwStat).1 = 1 := by
  refine ⟨?_, ?_⟩
  · rw [State.liveWord_evwCastuse, Fld.get_put _ _ _ (by decide), hfull]
    rfl
  · rw [State.liveWord_evwStat, Fld.get_put_ne _ _ _ _ (by decide) (by decide), Fld.get_put _ _ _ (by decide), hfull]
    rfl

end

/-- Settles O39: by what `Grew` says of a step, the last word of a record's program, and the two live fields. -/
theorem castOnAreaKeptForLife : Obligations.CastOnAreaKeptForLife := by
  unfold Obligations.CastOnAreaKeptForLife
  exact ⟨fun _ _ hok h => (step_grows h).castOk hok, fun _ _ h => (step_grows h).prefixed,
    fun _ _ _ _ hop hwork hwords hr hseq hroom => exec_cfsProgramComplete_enters hop hwork hwords hr hseq hroom,
    fun _ _ hfull h => (step_grows h).cast_full (Nat.le_of_eq hfull.symm), fun _ hfull => State.liveWord_castFull hfull⟩

/-! ### The store, the event areas and the key set -/

section
variable {s : State} {c : Instr}

theorem Holds.store {o : Host.Outcome State Fault Refusal} (h : Holds s o) : HoldsR s o := fun t ht => by rw [h t ht]
theorem Holds.areas {o : Host.Outcome State Fault Refusal} (h : Holds s o) : HoldsA s o := fun t ht => by rw [h t ht]
theorem Holds.keys {o : Host.Outcome State Fault Refusal} (h : Holds s o) : HoldsK s o := fun t ht => by rw [h t ht]

/-- Of the rows that change a part of `Held`, those outside `endsStoreWork` leave the store as it is. -/
theorem exec_holdsR (hc : endsStoreWork c = false) : HoldsR s (exec c s) := by
  by_cases hheld : changesHeld c = false
  · exact (exec_holds s c hheld).store
  · unfold changesHeld changesNamespaces at hheld
    split at hheld
    · exact execColdStart_heldR _ s
    · exact execCleanStop_heldR _ s
    · exact execSanitize_heldR _ _ _ _ _ _ s
    · exact execEventRoundClear_heldR _ _ s
    · nomatch hc
    · split at hheld
      · exact execNamespaceCreate_heldR _ _ _ _ _ _ _ s
      · exact execNamespaceDelete_heldR _ s
      · exact execFormatNvm_heldR _ _ _ _ _ s
      · exact execSetFeatures_heldR _ _ _ _ _ _ _ s
      · exact execGroupCommit_heldR _ _ s
      · exact execDumpEnd_heldR _ _ _ _ s
      · nomatch hc
      · exact absurd rfl hheld

/-- Likewise of the event areas. -/
theorem exec_holdsA (hc : changesEventAreas c = false) : HoldsA s (exec c s) := by
  by_cases hheld : changesHeld c = false
  · exact (exec_holds s c hheld).areas
  · unfold changesHeld changesNamespaces at hheld
    split at hheld
    · nomatch hc
    · exact execCleanStop_heldA _ s
    · exact execSanitize_heldA _ _ _ _ _ _ s
    · nomatch hc
    · nomatch hc
    · split at hheld
      · exact execNamespaceCreate_heldA _ _ _ _ _ _ _ s
      · exact execNamespaceDelete_heldA _ s
      · exact execFormatNvm_heldA _ _ _ _ _ s
      · exact execSetFeatures_heldA _ _ _ _ _ _ _ s
      · exact execGroupCommit_heldA _ _ s
      · exact execDumpEnd_heldA _ _ _ _ s
      · exact execCfsEraseComplete_heldA _ _ s
      · exact absurd rfl hheld

/-- Likewise of the key set; three rows that change another part of `Held` are left. -/
theorem exec_holdsK (hc : changesKeys c = false) : HoldsK s (exec c s) := by
  by_cases hheld : changesHeld c = false
  · exact (exec_holds s c hheld).keys
  · unfold changesHeld changesNamespaces at hheld
    split at hheld
    · nomatch hc
    · nomatch hc
    · nomatch hc
    · exact execEventRoundClear_heldK _ _ s
    · nomatch hc
    · split at hheld
      · nomatch hc
      · nomatch hc
      · nomatch hc
      · exact execSetFeatures_heldK _ _ _ _ _ _ _ s
      · nomatch hc
      · nomatch hc
      · exact execCfsEraseComplete_heldK _ _ s
      · exact absurd rfl hheld

end

/-- Settles O41: a row that ends no store work leaves the four parts that `Held` has of the store. -/
theorem storeChangesOnlyByItsController : Obligations.StoreChangesOnlyByItsController := by
  unfold Obligations.StoreChangesOnlyByItsController
  intro s t c hc ht
  have h : (t.records, t.savedRegs, t.sectors, t.reserve) = (s.records, s.savedRegs, s.sectors, s.reserve) := exec_holdsR hc t ht
  simpa only [Prod.mk.injEq] using h

/-- Settles O42: a row outside `changesEventAreas` leaves the areas. -/
theorem eventAreasChangeOnlyByPersistence : Obligations.EventAreasChangeOnlyByPersistence := by
  unfold Obligations.EventAreasChangeOnlyByPersistence
  exact fun s t _ hc ht => exec_holdsA hc t ht

/-- Settles O43: a row outside `changesKeys` leaves the key set. -/
theorem keySetChangesOnlyWhereTheSpecSays : Obligations.KeySetChangesOnlyWhereTheSpecSays := by
  unfold Obligations.KeySetChangesOnlyWhereTheSpecSays
  exact fun s t _ hc ht => exec_holdsK hc t ht

end Sys2Proof.Machine
end

section
/-! SUPPORT. Roles and ownership (R447, R449, R451, R453 to R455): what `mayAs` grants, what a key commit is refused for, and when the maker role can be
taken. -/

namespace Sys2Proof.Machine

/-! ### What a role grants (R447, R449, R451) -/

section
variable {s : State} {fn pf : Nat}

theorem State.roleOf_vf (h : 2 ≤ fn) : s.roleOf fn = .none := by
  rw [State.roleOf, State.session, if_neg (by omega), if_neg (by omega)]
  rfl

theorem State.mayAs_vf {r : Role} (h : 2 ≤ fn) (hr : r ≠ .none) : s.mayAs fn r = false := by
  rw [State.mayAs, decide_eq_false hr, isPf, decide_eq_false (by omega)]
  rfl

theorem State.mayAs_pf {r : Role} (h : pf < 2) (hr : r ≠ .none) :
    s.mayAs pf r = true ↔ r.num ≤ (s.roleOf pf).num ∨ (s.lc = 0 ∧ r.num ≤ 2) := by
  simp only [State.mayAs, decide_eq_false hr, isPf_of_lt h, Bool.false_or, Bool.true_and, Bool.or_eq_true, Bool.and_eq_true, decide_eq_true_eq]

theorem Role.eq_none_of_num {r : Role} (h : r.num = 0) : r = .none := by
  cases r with
  | none => rfl
  | operator | installer | maker => nomatch h

theorem Role.eq_maker_of_num {r : Role} (h : 3 ≤ r.num) : r = .maker := by
  cases r with
  | maker => rfl
  | none | operator | installer => exact absurd h (by decide)

/-- A function that may act in a role may act in every lower one. -/
theorem State.mayAs_of_le {a b : Role} (hle : b.num ≤ a.num) (ha : s.mayAs pf a = true) : s.mayAs pf b = true := by
  by_cases hb : b = .none
  · simp [State.mayAs, hb]
  · have hna : a ≠ .none := fun h => hb (Role.eq_none_of_num (Nat.le_zero.1 (by rw [h] at hle; exact hle)))
    have hpf : pf < 2 := by
      by_contra h
      rw [State.mayAs_vf (Nat.le_of_not_lt h) hna] at ha
      nomatch ha
    rw [State.mayAs_pf hpf hna] at ha
    rw [State.mayAs_pf hpf hb]
    omega

theorem State.mayAs_in_test {r : Role} (hpf : pf < 2) (hlc : s.lc = 0) (hr : r.num ≤ 2) : s.mayAs pf r = true := by
  by_cases h : r = .none
  · simp [State.mayAs, h]
  · exact (State.mayAs_pf hpf h).2 (.inr ⟨hlc, hr⟩)

theorem State.mayAs_maker_iff : s.mayAs pf .maker = true ↔ pf < 2 ∧ s.roleOf pf = .maker := by
  by_cases hpf : pf < 2
  · rw [State.mayAs_pf hpf (by decide)]
    constructor
    · rintro (h | ⟨_, h⟩)
      · exact ⟨hpf, Role.eq_maker_of_num h⟩
      · exact absurd h (by decide)
    · rintro ⟨_, h⟩
      exact .inl (Nat.le_of_eq (congrArg Role.num h.symm))
  · rw [State.mayAs_vf (Nat.le_of_not_lt hpf) (by decide)]
    exact ⟨nofun, fun h => absurd h.1 hpf⟩

theorem State.not_mayAs_installer (hlc : s.lc ≠ 0) (hrole : (s.roleOf pf).num < 2) : s.mayAs pf .installer = false := by
  by_cases hpf : pf < 2
  · rw [Bool.eq_false_iff, ne_eq, State.mayAs_pf hpf (by decide)]
    rintro (h | ⟨h, _⟩)
    · exact absurd (Nat.lt_of_le_of_lt h hrole) (by decide)
    · exact hlc h
  · exact State.mayAs_vf (Nat.le_of_not_lt hpf) (by decide)

/-! ### Ownership (R453, R454) -/

/-- The first installer key needs no role in TEST. -/
theorem State.keyError_first (hmay : s.mayAs pf .installer = true) (hnone : s.keys.instKey = none) (hkey : s.fld F.secKselKey = 2)
    (hcurve : onCurve (kbufValue s.sec.kbuf) = true) : s.keyError pf = 0 := by
  simp [State.keyError, hmay, hnone, hkey, hcurve]

theorem State.keyError_replaced (hthere : s.keys.instKey.isSome = true) (hkey : s.fld F.secKselKey = 2) (hrole : (s.roleOf pf).num < 2) :
    s.keyError pf = 1 := by
  simp [State.keyError, hthere, hkey, hrole]

theorem exec_secKctlCommit_owns (h : s.BitLands pf .installer) (hnone : s.keys.instKey = none) (hkey : s.fld F.secKselKey = 2)
    (hcurve : onCurve (kbufValue s.sec.kbuf) = true) :
    ∃ t, exec (.secKctlCommit pf) s = .next t ∧ t.sec.commit = some (2, kbufValue s.sec.kbuf) ∧ t.flag F.secKctlBusy = true ∧
      t.fld F.secKctlErr = 0 := by
  obtain ⟨-, -, -, -, hmay⟩ := id h
  obtain ⟨t, hrow, hbusy, herr, -, hcommit⟩ := exec_secKctlCommit_ok h (State.keyError_first hmay hnone hkey hcurve)
  exact ⟨t, hrow, by rw [hcommit, hkey], hbusy, herr⟩

theorem exec_secKctlCommit_guarded (h : s.BitLands pf .installer) (hthere : s.keys.instKey.isSome = true) (hkey : s.fld F.secKselKey = 2)
    (hrole : (s.roleOf pf).num < 2) :
    ∃ t, exec (.secKctlCommit pf) s = .next t ∧ t.fld F.secKctlErr = 1 ∧ t.sec.commit = s.sec.commit ∧ t.keys = s.keys := by
  have he := State.keyError_replaced hthere hkey hrole
  obtain ⟨t, hrow, herr, hkeys, hcommit, -⟩ := exec_secKctlCommit_refused h (by rw [he]; decide)
  exact ⟨t, hrow, herr.trans he, hcommit, hkeys⟩

/-! ### The maker role (R455) -/

theorem State.authResult_maker_installed (n sr ss : Nat) (hlc : s.lc = 1) (hoff : s.flag F.secCtlMakeren = false) :
    s.authResult fn 3 n sr ss ≠ 0 := by
  cases hch : (if fn = 0 then s.sec.chal0 else s.sec.chal1) with
  | none =>
    simp only [State.authResult, hch]
    split <;> decide
  | some ch => exact State.authResult_of_bad hch (.inr (.inr (.inr (.inr ⟨rfl, hlc, hoff⟩))))

theorem exec_roleAssume_maker_denied {c : Nat} {k : Cmd} (n sr ss : Nat) (h : s.PfRuns c k) (hlc : s.lc = 1)
    (hoff : s.flag F.secCtlMakeren = false) :
    ∃ t, exec (.roleAssume c 3 n sr ss) s = .next t ∧ t.Ended c St.accessDenied ∧ t.session 0 = s.session 0 ∧ t.session 1 = s.session 1 := by
  obtain ⟨t, hrow, hended, hsess, -⟩ := exec_roleAssume_fails h (by decide) (by decide) (State.authResult_maker_installed n sr ss hlc hoff)
  exact ⟨t, hrow, hended, hsess 0, hsess 1⟩

theorem exec_roleAssume_maker_fresh {c n key : Nat} {k : Cmd} {ch : Challenge} (sr ss : Nat) (h : s.PfRuns c k)
    (hon : s.lc ≠ 1 ∨ s.flag F.secCtlMakeren = true) (hch : (if k.fn = 0 then s.sec.chal0 else s.sec.chal1) = some ch) (hn : ch.number = n)
    (hrole : ch.role = .maker) (htime : s.clk.mono ≤ ch.issued + 30000000000) (hfails : (s.recentFails k.fn).length < 3)
    (hkey : s.keys.makerKey = some key) :
    ∃ t, exec (.roleAssume c 3 n sr ss) s = .next t ∧
      (Config.ecdsaOk key (Config.sha384 (ch.block k.fn s.lc)) sr ss = true → t.Ended c St.ok ∧ t.roleOf k.fn = .maker) := by
  obtain ⟨t, hrow, -, hok, -⟩ := exec_roleAssume_fresh (r := 3) (sr := sr) (ss := ss) h (by decide) (by decide) hch hn (by rw [hrole]; rfl) htime hfails
    (fun hm => hon.resolve_left (not_not_intro hm.2)) (by rw [hrole]; exact hkey)
  refine ⟨t, hrow, fun hsig => ?_⟩
  obtain ⟨hended, hnum, -⟩ := hok hsig
  exact ⟨hended, Role.eq_maker_of_num (Nat.le_of_eq hnum.symm)⟩

end

/-- Settles O48: a VF has no session, and `mayAs` compares the numbers of the roles. -/
theorem rolesAllowWhatTheSpecSays : Obligations.RolesAllowWhatTheSpecSays := by
  unfold Obligations.RolesAllowWhatTheSpecSays
  exact ⟨fun _ _ h => State.roleOf_vf h, fun _ _ _ h hr => State.mayAs_vf h hr, fun _ _ _ _ hle ha => State.mayAs_of_le hle ha,
    fun _ _ hpf hlc => ⟨State.mayAs_in_test hpf hlc (by decide), State.mayAs_in_test hpf hlc (by decide)⟩, fun _ _ => State.mayAs_maker_iff⟩

/-- Settles O47: in INSTALLED without MAKEREN no response passes; otherwise the signature decides. -/
theorem makerRoleByLifeCycleState : Obligations.MakerRoleByLifeCycleState := by
  unfold Obligations.MakerRoleByLifeCycleState
  exact ⟨fun _ _ n sr ss _ h hlc hoff => exec_roleAssume_maker_denied n sr ss h hlc hoff,
    fun _ _ _ sr ss _ _ _ h hon hch hn hrole htime hfails hkey => exec_roleAssume_maker_fresh sr ss h hon hch hn hrole htime hfails hkey⟩

/-- Settles O46: the key port's checks for the installer key, the grants of TEST, and the state a module leaves Uskai in. -/
theorem ownershipOfANewUnit : Obligations.OwnershipOfANewUnit := by
  unfold Obligations.OwnershipOfANewUnit
  exact ⟨fun _ _ h _ hnone _ hkey hcurve => exec_secKctlCommit_owns h hnone hkey hcurve,
    fun _ _ hlc hpf => State.mayAs_in_test hpf hlc (by decide), fun _ _ h hthere hkey hrole => exec_secKctlCommit_guarded h hthere hkey hrole,
    fun _ _ hlc hrole => State.not_mayAs_installer hlc hrole, by decide, rfl, rfl, rfl, rfl, rfl, by decide⟩

end Sys2Proof.Machine
end

section
/-! SUPPORT. Two ways of saying what an update leaves: `Noted`, where it changes no more than registers, timers, the recorder and the store's requests,
and `PutsOnly`, where of the register fields it writes none but those listed. -/

namespace Sys2Proof.Machine

/-! ### Registers, the recorder and the store's requests -/

section
variable {s t u : State}

/-- A state that differs from `s` in timers, registers, the staging ring, and what the store has been asked for: what setting fields, recording
events and arming timers changes. -/
def State.Noted (s t : State) : Prop := t = { s with timers := t.timers, regs := t.regs, stg := t.stg, cfs := t.cfs, sup := t.sup }

theorem State.Noted.refl (s : State) : s.Noted s := rfl

theorem State.Noted.trans (h : s.Noted t) (k : t.Noted u) : s.Noted u := by
  rw [State.Noted] at h k ⊢
  rw [k, h]

theorem State.Noted.setFld (h : s.Noted t) (f : Fld) (n : Nat) : s.Noted (t.setFld f n) := h.trans rfl
theorem State.Noted.arm (h : s.Noted t) (id : TimerId) (n : Nat) : s.Noted (t.arm id n) := h.trans rfl
theorem State.Noted.cancel (h : s.Noted t) (id : TimerId) : s.Noted (t.cancel id) := h.trans rfl

theorem State.Noted.event (h : s.Noted t) (c a b d e : Nat) : s.Noted (t.event c a b d e) :=
  h.trans (by rw [State.Noted, State.event_frame])

theorem State.Noted.cfsRequest (h : s.Noted t) (r : Nat) (w : CfsWork) (n : Nat) : s.Noted (t.cfsRequest r w n) :=
  h.trans (by rw [State.Noted, State.cfsRequest_frame])

theorem State.Noted.noteGated (h : s.Noted t) (a b c : Nat) : s.Noted (t.noteGated a b c) :=
  h.trans (by rw [State.Noted, State.noteGated_frame])

theorem State.Noted.foldl {α : Type} (h : s.Noted t) {g : State → α → State} {l : List α} (hg : ∀ (u : State) a, u.Noted (g u a)) :
    s.Noted (l.foldl g t) :=
  List.foldlRecOn l g (motive := fun u => s.Noted u) h (fun u hu a _ => hu.trans (hg u a))

theorem State.Noted.q (h : s.Noted t) : t.q = s.q := by rw [h]
theorem State.Noted.tx (h : s.Noted t) : t.tx = s.tx := by rw [h]
theorem State.Noted.areas (h : s.Noted t) : t.areas = s.areas := by rw [h]
theorem State.Noted.sectors (h : s.Noted t) : t.sectors = s.sectors := by rw [h]
theorem State.Noted.bank0 (h : s.Noted t) : t.bank0 = s.bank0 := by rw [h]
theorem State.Noted.bank1 (h : s.Noted t) : t.bank1 = s.bank1 := by rw [h]

end

/-! ### Register fields -/

/-- Two fields share no bit: they lie in different registers, or in different bits of one. -/
def Fld.apart (g f : Fld) : Bool := decide (g.dw ≠ f.dw ∨ g.sh + g.wid ≤ f.sh ∨ f.sh + f.wid ≤ g.sh)

/-- Of the register fields, `t` has none otherwise than `s` but those that share a bit with one of `fs`. -/
def State.PutsOnly (fs : List Fld) (s t : State) : Prop := ∀ g : Fld, fs.all (fun f => g.apart f) = true → t.fld g = s.fld g

/-- The fields of a refused event (R471). -/
def dropFields : List Fld := [F.evwDropCount, F.evwStatDropseen]

section
variable {s t u : State} {fs : List Fld}

theorem State.fld_setFld_apart (s : State) (f g : Fld) (v : Nat) (h : f.sh + f.wid ≤ 32) (hd : g.apart f = true) : (s.setFld f v).fld g = s.fld g :=
  State.fld_setFld_ne s f g v h (of_decide_eq_true hd)

theorem State.PutsOnly.flag (h : s.PutsOnly fs t) (g : Fld) (hg : fs.all (fun f => g.apart f) = true) : t.flag g = s.flag g := by
  simp only [State.flag, h g hg]

theorem State.PutsOnly.of_regs (h : t.regs = s.regs) : s.PutsOnly fs t := fun g _ => State.fld_congr g h

theorem State.PutsOnly.refl (fs : List Fld) (s : State) : s.PutsOnly fs s := .of_regs rfl

theorem State.PutsOnly.trans (h : s.PutsOnly fs t) (k : t.PutsOnly fs u) : s.PutsOnly fs u := fun g hg => (k g hg).trans (h g hg)

theorem State.PutsOnly.regs (h : s.PutsOnly fs t) (hu : u.regs = t.regs) : s.PutsOnly fs u := h.trans (.of_regs hu)

theorem State.PutsOnly.setFld (h : s.PutsOnly fs t) {f : Fld} {v : Nat} (hf : f ∈ fs) (hfit : f.sh + f.wid ≤ 32) : s.PutsOnly fs (t.setFld f v) :=
  h.trans fun g hg => State.fld_setFld_apart t f g v hfit (List.all_eq_true.1 hg f hf)

theorem State.PutsOnly.event (h : s.PutsOnly fs t) {c a b d e : Nat} (hf : dropFields ⊆ fs) : s.PutsOnly fs (t.event c a b d e) := by
  refine h.trans fun g hg => ?_
  rw [List.all_eq_true] at hg
  unfold State.event State.stageEvent
  simp only
  split
  · refine (State.fld_congr g t.refuseRec_regs).trans ?_
    rw [State.setFlag_eq, State.addSat_eq, State.fld_setFld_apart _ _ _ _ (by decide) (hg _ (hf (by decide))),
      State.fld_setFld_apart _ _ _ _ (by decide) (hg _ (hf (by decide)))]
  · refine State.fld_congr g ?_
    rw [State.stageRec_frame]

theorem State.PutsOnly.cfsRequest (h : s.PutsOnly fs t) {r n : Nat} {w : CfsWork} : s.PutsOnly fs (t.cfsRequest r w n) :=
  h.regs (by rw [State.cfsRequest_frame])

theorem State.PutsOnly.foldl {α : Type} (h : s.PutsOnly fs t) {g : State → α → State} {l : List α} (hg : ∀ (u : State) a, u.PutsOnly fs (g u a)) :
    s.PutsOnly fs (l.foldl g t) :=
  List.foldlRecOn l g (motive := fun u => s.PutsOnly fs u) h (fun u hu a _ => hu.trans (hg u a))

theorem State.PutsOnly.setArea (h : s.PutsOnly fs t) (a : Nat) (x : AreaState) : s.PutsOnly fs (t.setArea a x) := h.regs rfl
theorem State.PutsOnly.setSector (h : s.PutsOnly fs t) (b : Nat) (x : Sector) : s.PutsOnly fs (t.setSector b x) := h.regs rfl
theorem State.PutsOnly.cfsPut (h : s.PutsOnly fs t) (j : CfsJob) : s.PutsOnly fs (t.cfsPut j) := h.regs rfl
theorem State.PutsOnly.cfsFree (h : s.PutsOnly fs t) : s.PutsOnly fs t.cfsFree := h.regs rfl

theorem State.PutsOnly.cfsStart (h : s.PutsOnly fs t) : s.PutsOnly fs t.cfsStart := h.regs (by rw [State.cfsStart_frame])

theorem State.PutsOnly.mono {gs : List Fld} (h : s.PutsOnly fs t) (hsub : fs ⊆ gs) : s.PutsOnly gs t := fun g hg =>
  h g (List.all_eq_true.2 fun f hf => List.all_eq_true.1 hg f (hsub hf))

end

end Sys2Proof.Machine
end

section
/-! SUPPORT. The rows of the event recorder (R472, R476 to R478): when a record's persistence has been asked for, what reading from a cursor gives and
moves, and what a round clear leaves. -/

namespace Sys2Proof.Machine

/-! ### Persistence asked for (R429, R472) -/

section
variable {s : State} {seq : Nat}

theorem State.persisting_iff : s.persisting seq = true ↔
    (∃ j ∈ s.cfs.queue, j.work = .event seq) ∨ (∃ j ∈ s.sup.writes, j.work = .event seq) ∨ ∃ j, s.cfs.op = some j ∧ j.work = .event seq := by
  simp only [State.persisting, Bool.or_eq_true, List.any_eq_true, List.mem_append, Option.any_eq_true, decide_eq_true_eq, or_and_right, exists_or,
    or_assoc]

theorem CfsJob.work_ne_event {e : CfsJob} (h : e.isErase = true) : e.work ≠ .event seq := fun hw => by simp [CfsJob.isErase, hw] at h

/-- A request taken from the queue is the controller's operation; what the queue held besides it still waits. -/
theorem State.persisting_taken {t : State} {j : CfsJob} (h : s.persisting seq = true) (hop : ∀ e, s.cfs.op = some e → e.isErase = true)
    (htop : t.cfs.op = some j) (hqueue : t.cfs.queue = s.cfs.queue.erase j) (hsup : t.sup = s.sup) : t.persisting seq = true := by
  rw [State.persisting_iff] at h ⊢
  rw [hqueue, htop, hsup]
  rcases h with ⟨x, hx, hw⟩ | hwrites | ⟨x, hx, hw⟩
  · by_cases he : x = j
    · exact .inr (.inr ⟨j, rfl, he ▸ hw⟩)
    · exact .inl ⟨x, (List.mem_erase_of_ne he).2 hx, hw⟩
  · exact .inr (.inl hwrites)
  · exact absurd hw (CfsJob.work_ne_event (hop x hx))

/-- The controller's next operation is an erase resumed or a request of the queue, and only an erase gives way to it. -/
theorem State.cfsStart_persisting (h : s.persisting seq = true) : s.cfsStart.persisting seq = true := by
  unfold State.cfsStart
  split
  · next hop =>
    have hnone : ∀ e, s.cfs.op = some e → e.isErase = true := fun e he => by simp [hop] at he
    split
    · rw [State.persisting_iff] at h ⊢
      simpa [hop] using h.imp_right Or.inl
    · exact State.persisting_taken h hnone rfl rfl rfl
    · split
      · exact State.persisting_taken h hnone rfl rfl rfl
      · exact h
  · next e hop =>
    split
    · next herase _ =>
      rw [Bool.and_eq_true] at herase
      exact State.persisting_taken h (fun x hx => by rw [hop] at hx; exact Option.some.inj hx ▸ herase.1) rfl rfl rfl
    · exact h

/-- A request leaves what has been asked for, and adds its own work. -/
theorem State.cfsRequest_persisting {r n : Nat} {w : CfsWork} (h : s.persisting seq = true ∨ w = .event seq) :
    (s.cfsRequest r w n).persisting seq = true := by
  unfold State.cfsRequest
  split
  · rw [State.persisting_iff] at h ⊢
    simp only [List.mem_append, List.mem_singleton]
    rcases h with (hq | ⟨x, hx, hw⟩ | hop) | hw
    · exact .inl hq
    · exact .inr (.inl ⟨x, .inl hx, hw⟩)
    · exact .inr (.inr hop)
    · exact .inr (.inl ⟨_, .inr rfl, hw⟩)
  · refine State.cfsStart_persisting ?_
    rw [State.persisting_iff] at h ⊢
    simp only [State.cfsPut, List.mem_append, List.mem_singleton]
    rcases h with (⟨x, hx, hw⟩ | hrest) | hw
    · exact .inl ⟨x, .inl hx, hw⟩
    · exact .inr hrest
    · exact .inl ⟨_, .inr rfl, hw⟩

/-- Once every staged record has been asked for, each is persisting. -/
theorem State.persistStaged_persisting (rank : Nat) : ∀ r ∈ s.stg.staged, (s.persistStaged rank).persisting r.seq = true := by
  have hfold : ∀ (l : List EventRec) (u : State), (∀ x, u.persisting x = true ∨ (∃ r ∈ l, r.seq = x) →
      (l.foldl (fun t r => if t.persisting r.seq then t else t.cfsRequest rank (.event r.seq) (if r.seq ≤ 16384 then 2 else 1)) u).persisting x
        = true) := by
    intro l
    induction l with
    | nil => exact fun u x h => h.resolve_right (by simp)
    | cons a l ih =>
      refine fun u x h => ih _ x ?_
      rcases h with h | ⟨r, hr, rfl⟩
      · refine .inl ?_
        dsimp only
        split
        · exact h
        · exact State.cfsRequest_persisting (.inl h)
      · rcases List.mem_cons.1 hr with rfl | hr
        · refine .inl ?_
          dsimp only
          split
          · next h => exact h
          · exact State.cfsRequest_persisting (.inr rfl)
        · exact .inr ⟨r, hr, rfl⟩
  exact fun r hr => hfold _ _ _ (.inr ⟨r, hr, rfl⟩)

theorem exec_eventPersistTimer_hands (ha : s.armed .eventPersist = true) :
    ∃ t, exec .eventPersistTimer s = .next t ∧ (∀ r ∈ s.stg.staged, t.persisting r.seq = true) ∧ t.stg = s.stg ∧ t.areas = s.areas := by
  have hrow : execEventPersistTimer s = .next ((s.expire .eventPersist).persistStaged 4) := onTimer_armed ha _
  have hstg : (s.expire .eventPersist).stg = s.stg := by rw [State.expire_frame]
  have hareas : (s.expire .eventPersist).areas = s.areas := by rw [State.expire_frame]
  refine ⟨_, hrow, fun r hr => State.persistStaged_persisting 4 r (hstg ▸ hr), ?_, ?_⟩
  · rw [State.persistStaged_frame]
    exact hstg
  · rw [State.persistStaged_frame]
    exact hareas

theorem exec_eventPersistTimer_cancelled (ha : s.armed .eventPersist = false) : exec .eventPersistTimer s = .next s := by
  have hrow : execEventPersistTimer s = _ := onTimer_unarmed ha _
  exact hrow

end

/-! ### Reading events (R474 to R477) -/

section
variable {s : State} {pf : Nat}

theorem EventRec.dwords_length (r : EventRec) : r.dwords.length = 8 := rfl

theorem flatMap_dwords_length (rs : List EventRec) : (rs.flatMap EventRec.dwords).length = 8 * rs.length := by
  simp [List.length_flatMap, EventRec.dwords_length, Nat.mul_comm]

/-- A buffer of records is filled up with zeros to the length asked for (R476). -/
theorem padded_length {rs : List EventRec} {n : Nat} (h : rs.length ≤ n) :
    (rs.flatMap EventRec.dwords ++ List.replicate (8 * n - (rs.flatMap EventRec.dwords).length) 0).length = 8 * n := by
  rw [List.length_append, List.length_replicate, flatMap_dwords_length]
  omega

/-- A PF's cursor has moved: the areas, the ring, the commands, what was sent, and the marks of its bank are as they were. -/
structure State.CursorMoved (s : State) (pf : Nat) (t : State) : Prop where
  areas : t.areas = s.areas
  stg : t.stg = s.stg
  q : t.q = s.q
  tx : t.tx = s.tx
  overrun : (t.bank pf).overrun = (s.bank pf).overrun
  behind : (t.bank pf).behind = (s.bank pf).behind

theorem State.setBank_frame (b : EvwBank) : s.setBank pf b = { s with bank0 := (s.setBank pf b).bank0, bank1 := (s.setBank pf b).bank1 } := by
  unfold State.setBank
  split <;> rfl

theorem State.setBank_cursorMoved (n : Nat) : s.CursorMoved pf (s.setBank pf { s.bank pf with cursor := n }) where
  areas := by rw [State.setBank_frame]
  stg := by rw [State.setBank_frame]
  q := by rw [State.setBank_frame]
  tx := by rw [State.setBank_frame]
  overrun := by rw [State.bank_setBank]
  behind := by rw [State.bank_setBank]

theorem State.CursorMoved.trans {t u : State} (h : s.CursorMoved pf t) (k : t.CursorMoved pf u) : s.CursorMoved pf u where
  areas := k.areas.trans h.areas
  stg := k.stg.trans h.stg
  q := k.q.trans h.q
  tx := k.tx.trans h.tx
  overrun := k.overrun.trans h.overrun
  behind := k.behind.trans h.behind

/-- Reading up to `n` records takes no more and moves only the cursor. -/
theorem State.takeRound_moves (n : Nat) (s : State) : (State.takeRound n pf s).1.length ≤ n ∧ s.CursorMoved pf (State.takeRound n pf s).2 := by
  induction n generalizing s with
  | zero => exact ⟨Nat.le_refl _, rfl, rfl, rfl, rfl, rfl, rfl⟩
  | succ n ih =>
    rw [State.takeRound]
    split
    · exact ⟨Nat.zero_le _, rfl, rfl, rfl, rfl, rfl, rfl⟩
    · obtain ⟨hlen, hmoved⟩ := ih (s.setBank pf { s.bank pf with cursor := nextSeq (s.bank pf).cursor })
      exact ⟨Nat.succ_le_succ hlen, (State.setBank_cursorMoved _).trans hmoved⟩

/-- The first record taken is the one the cursor names. -/
theorem State.takeRound_head {n : Nat} {r : EventRec} (hr : s.findRec (s.bank pf).cursor = some r) :
    ∃ rs, (State.takeRound (n + 1) pf s).1 = r :: rs := by
  rw [State.takeRound, hr]
  exact ⟨_, rfl⟩

theorem State.catchUp_behind (h : (s.bank pf).behind = true) :
    s.catchUp pf = s.setBank pf { s.bank pf with cursor := s.evwOldest, behind := false, overrun := true } := by
  simp only [State.catchUp, h, if_true]

theorem State.catchUp_current (h : (s.bank pf).behind = false) : s.catchUp pf = s := by
  simp only [State.catchUp, h, Bool.false_eq_true, if_false]

/-- A refusal of a vendor command changes registers, the recorder and the store's requests (R451). -/
theorem State.deny_noted (src : Nat) (need : Role) (fn target : Nat) : s.Noted (s.deny src need fn target) := by
  unfold State.deny
  extract_lets t u v w
  have hw : s.Noted w := (((((((State.Noted.refl s).setFld _ _).setFld _ _).setFld _ _).setFld _ _).setFld _ _).setFld _ _).event _ _ _ _ _
  split
  · exact hw.setFld _ _
  · exact hw.setFld _ _
  · exact hw.setFld _ _

theorem State.bank_finish (c : Nat) (st : Status) (d p : Nat) : (s.finish c st d).bank p = s.bank p := by
  rw [State.finish_frame]
  rfl

end

section
variable {s : State} {c n i : Nat} {k : Cmd}

theorem exec_eventWindowRead_cast (h : s.PfRuns c k) (hmay : s.mayReadEvents k.fn = true) (hlo : 1 ≤ n) (hhi : n ≤ 128) (hi : i < 16384) :
    ∃ t ds, exec (.eventWindowRead c 1 n i) s = .next t ∧ t.Ended c St.ok ((s.areas.cast.drop i).take n).length ∧
      t.tx = .hostBuf c ds :: s.tx ∧ ds.length = 8 * n ∧
      ds.take (8 * ((s.areas.cast.drop i).take n).length) = ((s.areas.cast.drop i).take n).flatMap EventRec.dwords ∧
      t.bank0 = s.bank0 ∧ t.bank1 = s.bank1 ∧ t.areas = s.areas := by
  have hrow : execEventWindowRead c 1 n i s = _ := onAdmin_of_runs h.adminRuns _
  rw [if_neg (by simp [h.isPf_fn]), if_neg (by simp [hmay]), if_neg (by omega), if_pos rfl] at hrow
  dsimp only at hrow
  refine ⟨_, _, hrow, h.adminRuns.finish_ended (by rfl) _ _, ?_, padded_length (rs := (s.areas.cast.drop i).take n) (List.length_take_le _ _), ?_, ?_, ?_, ?_⟩
  · rw [State.finish_tx]
    rfl
  · rw [← flatMap_dwords_length, List.take_left]
  · rw [State.finish_frame]; rfl
  · rw [State.finish_frame]; rfl
  · rw [State.finish_frame]; rfl

/-- C4h from a cursor returns what `takeRound` finds once the cursor has caught up, and says whether it was behind (R475, R476). -/
theorem exec_eventWindowRead_round (h : s.PfRuns c k) (hmay : s.mayReadEvents k.fn = true) (hlo : 1 ≤ n) (hhi : n ≤ 128) :
    ∃ t ds, exec (.eventWindowRead c 0 n 0) s = .next t ∧
      t.Ended c St.ok ((State.takeRound n k.fn (s.catchUp k.fn)).1.length + 2 ^ 31 * b2n (s.bank k.fn).behind) ∧
      t.tx = .hostBuf c ds :: s.tx ∧ ds.length = 8 * n ∧
      (∃ zs, ds = (State.takeRound n k.fn (s.catchUp k.fn)).1.flatMap EventRec.dwords ++ zs) ∧
      (s.catchUp k.fn).CursorMoved k.fn (State.takeRound n k.fn (s.catchUp k.fn)).2 ∧
      t.bank k.fn = (State.takeRound n k.fn (s.catchUp k.fn)).2.bank k.fn ∧ t.areas = s.areas ∧ t.stg = s.stg := by
  have hrow : execEventWindowRead c 0 n 0 s = _ := onAdmin_of_runs h.adminRuns _
  rw [if_neg (by simp [h.isPf_fn]), if_neg (by simp [hmay]), if_neg (by omega), if_neg (by decide)] at hrow
  dsimp only at hrow
  have hcatch : (s.catchUp k.fn).areas = s.areas ∧ (s.catchUp k.fn).stg = s.stg ∧ (s.catchUp k.fn).q = s.q ∧ (s.catchUp k.fn).tx = s.tx := by
    cases hb : (s.bank k.fn).behind with
    | true =>
      rw [State.catchUp_behind hb, State.setBank_frame]
      exact ⟨rfl, rfl, rfl, rfl⟩
    | false =>
      rw [State.catchUp_current hb]
      exact ⟨rfl, rfl, rfl, rfl⟩
  obtain ⟨hareas, hstg, hq, htx⟩ := hcatch
  obtain ⟨hlen, hmoved⟩ := State.takeRound_moves (pf := k.fn) n (s.catchUp k.fn)
  refine ⟨_, _, hrow, h.adminRuns.finish_ended (State.cmd_congr c (by exact hmoved.q.trans hq)) _ _, ?_, padded_length hlen, ⟨_, rfl⟩, hmoved,
    State.bank_finish _ _ _ _, ?_, ?_⟩
  · rw [State.finish_tx]
    exact congrArg _ (hmoved.tx.trans htx)
  · rw [State.finish_frame]
    exact hmoved.areas.trans hareas
  · rw [State.finish_frame]
    exact hmoved.stg.trans hstg

theorem exec_eventWindowRead_current {r : EventRec} (h : s.PfRuns c k) (hmay : s.mayReadEvents k.fn = true) (hb : (s.bank k.fn).behind = false)
    (hr : s.findRec (s.bank k.fn).cursor = some r) (hlo : 1 ≤ n) (hhi : n ≤ 128) :
    ∃ t ds m, exec (.eventWindowRead c 0 n 0) s = .next t ∧ t.Ended c St.ok m ∧ 1 ≤ m ∧ m ≤ n ∧ t.tx = .hostBuf c ds :: s.tx ∧
      ds.length = 8 * n ∧ ds.take 8 = r.dwords ∧ (t.bank k.fn).overrun = (s.bank k.fn).overrun ∧ t.areas = s.areas ∧ t.stg = s.stg := by
  obtain ⟨t, ds, hrow, hended, htx, hlen, ⟨zs, hds⟩, hmoved, hbank, hareas, hstg⟩ := exec_eventWindowRead_round h hmay hlo hhi
  rw [State.catchUp_current hb] at hended hds hmoved hbank
  obtain ⟨hle, -⟩ := State.takeRound_moves (pf := k.fn) n s
  obtain ⟨m, rfl⟩ := Nat.exists_eq_add_of_le' hlo
  obtain ⟨rs, hrs⟩ := State.takeRound_head (n := m) hr
  rw [hb, show 2 ^ 31 * b2n false = 0 from rfl, Nat.add_zero] at hended
  refine ⟨t, ds, _, hrow, hended, ?_, hle, htx, hlen, ?_, ?_, hareas, hstg⟩
  · rw [hrs]
    exact Nat.succ_pos _
  · rw [hds, hrs]
    rfl
  · rw [hbank, hmoved.overrun]

theorem exec_eventWindowRead_behind (h : s.PfRuns c k) (hmay : s.mayReadEvents k.fn = true) (hb : (s.bank k.fn).behind = true) (hlo : 1 ≤ n)
    (hhi : n ≤ 128) :
    ∃ t m, exec (.eventWindowRead c 0 n 0) s = .next t ∧ t.Ended c St.ok (m + 2 ^ 31) ∧ m ≤ n ∧ (t.bank k.fn).overrun = true ∧
      (t.bank k.fn).behind = false := by
  obtain ⟨t, ds, hrow, hended, -, -, -, hmoved, hbank, -, -⟩ := exec_eventWindowRead_round h hmay hlo hhi
  obtain ⟨hle, -⟩ := State.takeRound_moves (pf := k.fn) n (s.catchUp k.fn)
  rw [hb] at hended
  refine ⟨t, _, hrow, hended, hle, ?_, ?_⟩
  · rw [hbank, hmoved.overrun, State.catchUp_behind hb, State.bank_setBank]
  · rw [hbank, hmoved.behind, State.catchUp_behind hb, State.bank_setBank]

theorem exec_eventWindowRead_badField {a : Nat} (h : s.PfRuns c k) (hmay : s.mayReadEvents k.fn = true) (hbad : n = 0 ∨ 128 < n ∨ 1 < a) :
    ∃ t, exec (.eventWindowRead c a n i) s = .next t ∧ t.Ended c St.badField ∧ t.tx = s.tx ∧ t.bank0 = s.bank0 ∧ t.bank1 = s.bank1 := by
  have hrow : execEventWindowRead c a n i s = _ := onAdmin_of_runs h.adminRuns _
  rw [if_neg (by simp [h.isPf_fn]), if_neg (by simp [hmay]), if_pos (by tauto)] at hrow
  exact ⟨_, hrow, h.adminRuns.finish_ended (by rfl) _, State.finish_tx _ _ _ _, by rw [State.finish_frame], by rw [State.finish_frame]⟩

theorem exec_eventWindowRead_denied {a : Nat} (h : s.PfRuns c k) (hmay : s.mayReadEvents k.fn = false) :
    ∃ t, exec (.eventWindowRead c a n i) s = .next t ∧ t.Ended c St.roleRequired ∧ t.tx = s.tx ∧ t.bank0 = s.bank0 ∧ t.bank1 = s.bank1 := by
  have hrow : execEventWindowRead c a n i s = _ := onAdmin_of_runs h.adminRuns _
  rw [if_neg (by simp [h.isPf_fn]), if_pos (by simp [hmay])] at hrow
  have hdeny := s.deny_noted 3 .operator k.fn 0xC4
  refine ⟨_, hrow, h.adminRuns.finish_ended (State.cmd_congr c hdeny.q) _, (State.finish_tx _ _ _ _).trans hdeny.tx, ?_, ?_⟩
  · rw [State.finish_frame]
    exact hdeny.bank0
  · rw [State.finish_frame]
    exact hdeny.bank1

/-! ### The round clear (R478) -/

theorem State.roundClear_leaves (fn : Nat) :
    (s.roundClear fn).q = s.q ∧ (s.roundClear fn).areas = { s.areas with round := [], clearTo := some (prevSeq s.stg.nextSeq) } := by
  unfold State.roundClear
  extract_lets m last first old t u v a
  have hevent : t.Noted u := (State.Noted.refl t).event _ _ _ _ _
  have herases : v.Noted ((a.full ++ [a.cur]).foldl (fun u sec => u.cfsRequest 4 (.erase sec) 1) v) :=
    (State.Noted.refl v).foldl fun u b => (State.Noted.refl u).cfsRequest _ _ _
  exact ⟨herases.q.trans hevent.q, herases.areas.trans hevent.areas⟩

theorem exec_eventRoundClear_clears (h : s.PfRuns c k) (hrole : s.mayAs k.fn .installer = true) :
    ∃ t, exec (.eventRoundClear c 1) s = .next t ∧ t.AwaitsStore c ∧ t.areas.round = [] ∧ t.areas.cast = s.areas.cast ∧
      t.areas.clearTo.isSome = true := by
  have hrow : exec (.eventRoundClear c 1) s = .next (((s.noteGated 0xC5 1 k.fn).roundClear k.fn).updCmd c (fun x => { x with phase := .waitStore })) :=
    (onVendor_of_runs h hrole _).trans (by rw [if_neg (by simp)])
  obtain ⟨hq, hareas⟩ := (s.noteGated 0xC5 1 k.fn).roundClear_leaves k.fn
  have hcast : (s.noteGated 0xC5 1 k.fn).areas = s.areas := by rw [State.noteGated_frame]
  refine ⟨_, hrow, ?_, ?_, ?_, ?_⟩
  · rw [State.AwaitsStore, State.cmd_updCmd, State.cmd_congr c (hq.trans (State.noteGated_q _ _ _ _)), h.adminRuns.cmd_eq]
    rfl
  · rw [State.updCmd_areas, hareas]
  · rw [State.updCmd_areas, hareas, hcast]
  · rw [State.updCmd_areas, hareas]
    rfl

theorem exec_eventRoundClear_badField {x : Nat} (h : s.PfRuns c k) (hrole : s.mayAs k.fn .installer = true) (hx : x ≠ 1) :
    ∃ t, exec (.eventRoundClear c x) s = .next t ∧ t.Ended c St.badField ∧ t.areas = s.areas :=
  ⟨_, (onVendor_of_runs h hrole _).trans (by rw [if_pos hx]), h.adminRuns.finish_ended (by rfl) _, by rw [State.finish_frame]⟩

/-- A vendor command without its role is refused before its fields are looked at (R129, R151). -/
theorem onVendor_refused {need : Role} (h : s.PfRuns c k) (hrole : s.mayAs k.fn need = false) (body : Cmd → State) :
    onVendor s c need body = .next ((s.deny 3 need k.fn k.sqe.opcode).finish c St.roleRequired) :=
  (onAdmin_of_runs h.adminRuns _).trans (by rw [if_neg (by simp [h.isPf_fn]), if_neg (by simp [hrole])])

theorem exec_eventRoundClear_denied {x : Nat} (h : s.PfRuns c k) (hrole : s.mayAs k.fn .installer = false) :
    ∃ t, exec (.eventRoundClear c x) s = .next t ∧ t.Ended c St.roleRequired ∧ t.areas = s.areas := by
  have hrow : exec (.eventRoundClear c x) s = .next ((s.deny 3 .installer k.fn k.sqe.opcode).finish c St.roleRequired) := onVendor_refused h hrole _
  have hdeny := s.deny_noted 3 .installer k.fn k.sqe.opcode
  refine ⟨_, hrow, h.adminRuns.finish_ended (State.cmd_congr c hdeny.q) _, ?_⟩
  rw [State.finish_frame]
  exact hdeny.areas

end

/-- Settles O31: the timer asks for every staged record; C4h and C5h by their checks in turn. -/
theorem recorderRowsComplete : Obligations.RecorderRowsComplete := by
  unfold Obligations.RecorderRowsComplete
  exact ⟨fun _ ha _ => exec_eventPersistTimer_hands ha, fun _ ha => exec_eventPersistTimer_cancelled ha,
    fun _ _ _ _ _ h hmay hlo hhi hi => exec_eventWindowRead_cast h hmay hlo hhi hi,
    fun _ _ _ _ _ h hmay hb hr hlo hhi => exec_eventWindowRead_current h hmay hb hr hlo hhi,
    fun _ _ _ _ h hmay hb hlo hhi => exec_eventWindowRead_behind h hmay hb hlo hhi,
    fun _ _ _ _ _ _ h hmay hbad => exec_eventWindowRead_badField h hmay hbad, fun _ _ _ _ _ _ h hmay => exec_eventWindowRead_denied h hmay,
    fun _ _ _ h hrole => exec_eventRoundClear_clears h hrole, fun _ _ _ _ h hrole hx => exec_eventRoundClear_badField h hrole hx,
    fun _ _ _ _ h hrole => exec_eventRoundClear_denied h hrole⟩

end Sys2Proof.Machine
end

section
/-! SUPPORT. The rows of the configuration store (R425, R427 to R429, R431, R437, R443): which fields the ends of a program and of an erase write, and
what they leave of the security unit's and the store's own parts. -/

namespace Sys2Proof.Machine

/-! ### What the controller's bookkeeping leaves (R424, R425, R429, R437) -/

/-- The fields of a compaction (R437). -/
def compactFields : List Fld := [F.cfsCntCount 10, F.cfsCfguseCompact]

/-- The fields of a sector's retirement (R425). -/
def retireFields : List Fld := [F.cfsSpareRetired, F.cfsStatRetireseen, F.cfsCntCount 6, F.cfsStatNoreserve] ++ dropFields

/-- The fields in which a refused request is reported (R427, R440). -/
def refusedFields : List Fld := [F.cfsDpctlBusy, F.cfsDpctlErr, F.secKctlBusy, F.secKctlErr]

section
variable {s t u : State} {fs : List Fld}

theorem State.compact_puts : s.PutsOnly compactFields s.compact := by
  unfold State.compact
  simp only
  split
  · split
    · exact .refl _ _
    · refine State.PutsOnly.cfsRequest (.setFld (.setFld ?_ (by decide) (by decide)) (by decide) (by decide))
      exact ((State.PutsOnly.refl _ s).foldl fun u a => (State.PutsOnly.refl _ u).cfsPut _).setArea _ _
  · exact .refl _ _

theorem State.advanceArea_puts (a : Nat) : s.PutsOnly compactFields (s.advanceArea a) := by
  have hset : ∀ x, s.PutsOnly compactFields (s.setArea a x) := fun x => (State.PutsOnly.refl _ s).setArea a x
  unfold State.advanceArea
  simp only
  split
  · exact hset _
  · split
    · exact (hset _).cfsRequest
    · exact (hset _).cfsRequest
    · exact (hset _).cfsRequest
    · exact (hset _).cfsRequest
    · exact (hset _).trans State.compact_puts
    · exact hset _

theorem State.advanceJob_puts (j : CfsJob) : s.PutsOnly compactFields (s.advanceJob j) := by
  unfold State.advanceJob
  split
  · exact .refl _ _
  · exact State.advanceArea_puts _

theorem State.cfsRefused_puts (j : CfsJob) : s.PutsOnly refusedFields (s.cfsRefused j) := by
  unfold State.cfsRefused
  split
  · exact .setFld (.setFld (.refl _ _) (by decide) (by decide)) (by decide) (by decide)
  · split
    · exact .setFld (.setFld (by exact .of_regs rfl) (by decide) (by decide)) (by decide) (by decide)
    · exact .of_regs rfl
  · exact .of_regs rfl

/-- A state that differs from `s` in what `Noted` allows and in the store's areas, sectors and reserve: the controller's own work. -/
def State.Stored (s t : State) : Prop :=
  t = { s with timers := t.timers, regs := t.regs, stg := t.stg, cfs := t.cfs, sup := t.sup, areaTab := t.areaTab, sectors := t.sectors,
               reserve := t.reserve }

theorem State.Stored.trans (h : s.Stored t) (k : t.Stored u) : s.Stored u := by
  rw [State.Stored] at h k ⊢
  rw [k, h]

theorem State.Stored.refl (s : State) : s.Stored s := rfl
theorem State.Stored.setFld (h : s.Stored t) (f : Fld) (n : Nat) : s.Stored (t.setFld f n) := h.trans rfl
theorem State.Stored.setSector (h : s.Stored t) (b : Nat) (x : Sector) : s.Stored (t.setSector b x) := h.trans rfl
theorem State.Stored.setArea (h : s.Stored t) (a : Nat) (x : AreaState) : s.Stored (t.setArea a x) := h.trans rfl
theorem State.Stored.cfsPut (h : s.Stored t) (j : CfsJob) : s.Stored (t.cfsPut j) := h.trans rfl

theorem State.Noted.stored (h : s.Noted t) : s.Stored t := by
  rw [State.Noted] at h
  rw [State.Stored, h]

theorem State.Stored.advanceJob (h : s.Stored t) (j : CfsJob) : s.Stored (t.advanceJob j) :=
  h.trans (by rw [State.Stored, State.advanceJob_frame])

theorem State.Stored.event (h : s.Stored t) (c a b d e : Nat) : s.Stored (t.event c a b d e) := h.trans ((State.Noted.refl t).event c a b d e).stored

theorem State.Stored.cfsStart (h : s.Stored t) : s.Stored t.cfsStart := h.trans (by rw [State.Stored, State.cfsStart_frame])

@[simp] theorem State.sector_setSector (b : Nat) (x : Sector) : (s.setSector b x).sector b = x := by
  simp [State.sector, State.setSector]

@[simp] theorem cfsCntCount_wid (n : Nat) : (F.cfsCntCount n).wid = 32 := rfl

/-- A sector marked retired, and counted (R425). -/
def State.retireMarked (s : State) (b : Nat) : State :=
  (((s.setSector b { s.sector b with retired := true }).addSat F.cfsSpareRetired 1).setFlag F.cfsStatRetireseen).cfsCnt 6

/-- What retiring a sector does once it is marked: an event, the moves of its records, and a sector of the reserve in its place (R425). -/
theorem State.retireSector_marked (b : Nat) : (s.retireMarked b).PutsOnly (F.cfsStatNoreserve :: dropFields) (s.retireSector b) ∧
    (s.retireMarked b).Stored (s.retireSector b) ∧ (s.retireSector b).sectors = (s.retireMarked b).sectors := by
  unfold State.retireSector
  extract_lets old t₁ t₂ t₃ t₄
  change t₂.PutsOnly _ _ ∧ t₂.Stored _ ∧ _ = t₂.sectors
  have hputs : t₂.PutsOnly (F.cfsStatNoreserve :: dropFields) t₄ :=
    (((State.PutsOnly.refl _ t₂).event (List.subset_cons_self _ _)).cfsRequest).foldl fun u _ => (State.PutsOnly.refl _ u).cfsRequest
  have hnoted : t₂.Noted t₄ :=
    (((State.Noted.refl t₂).event _ _ _ _ _).cfsRequest _ _ _).foldl fun u _ => (State.Noted.refl u).cfsRequest _ _ _
  clear_value t₄ t₂
  have htaken : ∀ (rest : List Nat) (a : Nat) (x : AreaState), t₂.Stored (({ t₄ with reserve := rest } : State).setArea a x) :=
    fun rest _ _ => State.Stored.setArea (t := { t₄ with reserve := rest }) (hnoted.stored.trans rfl) _ _
  split
  · exact ⟨hputs, hnoted.stored, hnoted.sectors⟩
  · simp only
    split
    · exact ⟨(hputs.setArea _ _).setFld (by decide) (by decide), (hnoted.stored.setArea _ _).setFld _ _, hnoted.sectors⟩
    · refine ⟨State.PutsOnly.cfsRequest (State.PutsOnly.setArea (hputs.regs (by rfl)) _ _),
        (htaken _ _ _).trans ((State.Noted.refl _).cfsRequest _ _ _).stored, ?_⟩
      rw [State.cfsRequest_frame]
      exact hnoted.sectors

theorem State.retireMarked_puts (b : Nat) : s.PutsOnly retireFields (s.retireMarked b) :=
  ((((State.PutsOnly.refl _ s).setSector _ _).setFld (by decide) (by decide)).setFld (by decide) (by decide)).setFld (by decide) (by decide)

theorem State.retireSector_puts (b : Nat) : s.PutsOnly retireFields (s.retireSector b) :=
  (State.retireMarked_puts b).trans ((State.retireSector_marked b).1.mono (by decide))

theorem State.retireSector_stored (b : Nat) : s.Stored (s.retireSector b) :=
  ((((State.Stored.refl s).setSector _ _).setFld _ _).setFld _ _).setFld _ _ |>.trans (State.retireSector_marked b).2.1

/-- A retired sector is marked and counted. -/
theorem State.retireSector_reports (b : Nat) : ((s.retireSector b).sector b).retired = true ∧ (s.retireSector b).flag F.cfsStatRetireseen = true ∧
    (s.retireSector b).fld (F.cfsCntCount 6) = (s.fld (F.cfsCntCount 6) + 1) % 2 ^ 32 := by
  obtain ⟨hputs, -, hsectors⟩ := s.retireSector_marked b
  refine ⟨?_, ?_, ?_⟩
  · rw [State.sector, hsectors]
    exact congrArg Sector.retired (s.sector_setSector b _)
  · rw [hputs.flag _ (by decide), State.flag, State.retireMarked]
    simp (disch := decide) [State.cfsCnt, State.fld_setFld_apart, State.fld_setFld]
  · rw [hputs _ (by decide), State.retireMarked]
    simp (disch := decide) [State.cfsCnt, State.fld_setFld_apart, State.fld_setFld]
    rfl

theorem State.Stored.sec (h : s.Stored t) : t.sec = s.sec := by rw [h]

/-- A refused request leaves a life-cycle change as it is. -/
theorem State.cfsRefused_lcRun (j : CfsJob) : (s.cfsRefused j).sec.lcRun = s.sec.lcRun := by
  unfold State.cfsRefused
  split
  · rfl
  · split <;> rfl
  · rfl

theorem State.lcReset_none (h : s.sec.lcRun = none) : s.lcReset = s := by
  simp only [State.lcReset, h]

theorem State.sector_congr (b : Nat) (h : t.held.1 = s.held.1) : t.sector b = s.sector b := by
  have hs : t.sectors = s.sectors := congrArg (fun x => x.2.2.1) h
  rw [State.sector, hs, State.sector]

end

/-! ### The end of a program (R427) -/

section
variable {s : State} {j : CfsJob} {p : Nat} {endRole : State → Nat → State}

/-- The state after a word that passed: counted, and the write point moved on. -/
def State.wordPassed (s : State) (j : CfsJob) (p : Nat) : State := ((s.cfsCnt 0).cfsCnt 1 p).advanceJob j

theorem State.wordPassed_counts :
    (s.wordPassed j p).fld (F.cfsCntCount 0) = (s.fld (F.cfsCntCount 0) + 1) % 2 ^ 32 ∧
      (s.wordPassed j p).fld (F.cfsCntCount 1) = (s.fld (F.cfsCntCount 1) + p) % 2 ^ 32 := by
  have hadv := State.advanceJob_puts (s := (s.cfsCnt 0).cfsCnt 1 p) j
  rw [State.wordPassed, hadv _ (by decide), hadv _ (by decide)]
  constructor
  · rw [State.cfsCnt, State.addWrap_eq, State.fld_setFld_apart _ _ _ _ (by decide) (by decide)]
    exact State.fld_addWrap _ _ _ (by decide)
  · refine (State.fld_addWrap _ _ _ (by decide)).trans ?_
    rw [State.cfsCnt, State.addWrap_eq, State.fld_setFld_apart _ _ _ _ (by decide) (by decide)]
    rfl

theorem State.wordPassed_sec : (s.wordPassed j p).sec = s.sec := (State.Stored.advanceJob (t := (s.cfsCnt 0).cfsCnt 1 p) rfl j).sec

theorem exec_cfsProgramComplete_next (hop : s.cfs.op = some j) (hprog : j.isErase = false) (hwords : 2 ≤ j.words) (hlc : s.sec.lcRun = none) :
    ∃ t, exec (.cfsProgramComplete true p true) s = .next t ∧ t.cfs.op = some { j with words := j.words - 1 } ∧
      t.fld (F.cfsCntCount 0) = (s.fld (F.cfsCntCount 0) + 1) % 2 ^ 32 ∧ t.fld (F.cfsCntCount 1) = (s.fld (F.cfsCntCount 1) + p) % 2 ^ 32 := by
  have hdone : s.programComplete j true p true State.endRole =
      { s.wordPassed j p with cfs := { (s.wordPassed j p).cfs with op := some { j with words := j.words - 1 } } } := by
    have hmore : ¬j.words ≤ 1 := by omega
    simp only [State.programComplete, Bool.not_true, Bool.false_and, Bool.false_eq_true, if_false, if_neg hmore]
    rfl
  have hrow := exec_cfsProgramComplete_program (erased := true) (n := p) (pass := true) hop hprog
  rw [hdone, State.lcReset_none (by exact (congrArg Sec.lcRun s.wordPassed_sec).trans hlc)] at hrow
  obtain ⟨h0, h1⟩ := s.wordPassed_counts (j := j) (p := p)
  exact ⟨_, hrow, rfl, h0, h1⟩

theorem State.reportDrops_noted : s.Noted s.reportDrops := by
  unfold State.reportDrops
  split
  · exact ((State.Noted.refl s).event _ _ _ _ _).trans rfl
  · exact .refl s

theorem State.reportDrops_puts : s.PutsOnly dropFields s.reportDrops := by
  unfold State.reportDrops
  split
  · exact ((State.PutsOnly.refl _ s).event (List.Subset.refl _)).regs rfl
  · exact .refl _ _

theorem State.castAdd_leaves (r : EventRec) : (s.castAdd r).sec = s.sec ∧ (s.castAdd r).regs = s.regs := by
  unfold State.castAdd
  split <;> exact ⟨rfl, rfl⟩

theorem State.roundAdd_leaves (r : EventRec) : (s.roundAdd r).sec = s.sec ∧ (s.roundAdd r).regs = s.regs := by
  unfold State.roundAdd
  simp only
  split <;> exact ⟨rfl, rfl⟩

/-- A record taken from the ring is the newest persisted; the registers change only where refused records are reported. -/
theorem State.persisted_leaves {seq : Nat} (h : s.stg.staged.any (fun r => r.seq = seq) = true) :
    (s.persisted seq).areas.last = seq ∧ (s.persisted seq).sec = s.sec ∧ s.PutsOnly dropFields (s.persisted seq) := by
  unfold State.persisted
  split
  · next hnone =>
    rw [List.find?_eq_none] at hnone
    obtain ⟨r, hr, hseq⟩ := List.any_eq_true.1 h
    exact absurd hseq (hnone r hr)
  · next r _ =>
    extract_lets named t₁ t₂ stg₀ a₀ t₃ t₄
    have hadded : t₂.sec = s.sec ∧ t₂.regs = s.regs := by
      obtain ⟨hsec, hregs⟩ := s.castAdd_leaves r
      simp only [t₂]
      split
      · exact ⟨hsec, hregs⟩
      · obtain ⟨hsec', hregs'⟩ := (s.castAdd r).roundAdd_leaves r
        exact ⟨hsec'.trans hsec, hregs'.trans hregs⟩
    have htaken : t₄.areas.last = seq ∧ t₄.sec = s.sec ∧ t₄.regs = s.regs := by
      simp only [t₄]
      split
      · exact ⟨rfl, hadded⟩
      · exact ⟨rfl, hadded⟩
    clear_value t₄
    obtain ⟨hlast, hsec, hregs⟩ := htaken
    have hdrops : t₄.Noted t₄.reportDrops := State.reportDrops_noted
    exact ⟨by rw [hdrops.areas, hlast], by rw [hdrops.stored.sec, hsec], State.PutsOnly.trans (.of_regs hregs) State.reportDrops_puts⟩

theorem exec_cfsProgramComplete_event {seq : Nat} (hop : s.cfs.op = some j) (hwork : j.work = .event seq) (hwords : j.words = 1)
    (hlc : s.sec.lcRun = none) (hstaged : s.stg.staged.any (fun r => r.seq = seq) = true) :
    ∃ t, exec (.cfsProgramComplete true p true) s = .next t ∧ t.fld (F.cfsCntCount 0) = (s.fld (F.cfsCntCount 0) + 1) % 2 ^ 32 ∧
      t.areas.last = seq := by
  have hrow := exec_cfsProgramComplete_program (erased := true) (n := p) (pass := true) hop (CfsJob.isErase_event hwork)
  have hstg : (s.wordPassed j p).cfsFree.stg = s.stg := by
    rw [State.wordPassed, State.advanceJob_frame]
    rfl
  have hdone : s.programComplete j true p true State.endRole = ((s.wordPassed j p).cfsFree.persisted seq).cfsStart :=
    State.programComplete_event p State.endRole hwork hwords
  obtain ⟨hlast, hsec, hputs⟩ := State.persisted_leaves (s := (s.wordPassed j p).cfsFree) (by rw [hstg]; exact hstaged)
  rw [hdone, State.cfsStart_frame, State.lcReset_none (by rw [hsec]; exact (congrArg Sec.lcRun s.wordPassed_sec).trans hlc)] at hrow
  exact ⟨_, hrow, (hputs _ (by decide)).trans s.wordPassed_counts.1, hlast⟩

/-- The state after a word that failed: PFAILSEEN, the error and the counts of R446, and the write point moved on. -/
def State.wordFailed (s : State) (j : CfsJob) : State :=
  ((((s.setFlag F.cfsStatPfailseen).cfsErr 1 (s.cfsWord j)).cfsCnt 3).cfsCnt 1 16).advanceJob j

theorem State.wordFailed_reports :
    (s.wordFailed j).flag F.cfsStatPfailseen = true ∧ (s.wordFailed j).fld (F.cfsCntCount 3) = (s.fld (F.cfsCntCount 3) + 1) % 2 ^ 32 ∧
      (s.wordFailed j).fld (F.cfsCntCount 1) = (s.fld (F.cfsCntCount 1) + 16) % 2 ^ 32 ∧ (s.wordFailed j).fld F.cfsLasterrKind = 1 ∧
      (s.wordFailed j).flag F.cfsLasterrValid = true := by
  have hadv := State.advanceJob_puts (s := (((s.setFlag F.cfsStatPfailseen).cfsErr 1 (s.cfsWord j)).cfsCnt 3).cfsCnt 1 16) j
  simp only [State.wordFailed, State.flag]
  rw [hadv _ (by decide), hadv _ (by decide), hadv _ (by decide), hadv _ (by decide), hadv _ (by decide)]
  simp (disch := decide) [State.cfsErr, State.cfsCnt, State.fld_setFld_apart, State.fld_setFld]

/-- The state after a failed word's sector has been noted, retired where this was its fourth, and the job put back (R425, R427). -/
def State.wordRetried (s : State) (j : CfsJob) : State :=
  let t := s.wordFailed j
  let x := t.sector (s.cfsWord j / 512)
  let u := (t.setSector (s.cfsWord j / 512) { x with progFails := x.progFails + 1 }).cfsPut { j with words := j.total }
  (if 4 ≤ x.progFails + 1 then u.retireSector (s.cfsWord j / 512) else u).cfsFree.cfsStart

theorem State.wordRetried_puts : (s.wordFailed j).PutsOnly retireFields (s.wordRetried j) ∧ (s.wordRetried j).sec = s.sec := by
  unfold State.wordRetried
  extract_lets t x u
  have hputs : t.PutsOnly retireFields u := ((State.PutsOnly.refl _ t).setSector _ _).cfsPut _
  have hstored : s.Stored u :=
    (((((((State.Stored.refl s).setFld _ _).setFld _ _).setFld _ _).setFld _ _).setFld _ _).setFld _ _).advanceJob j |>.setSector _ _ |>.cfsPut _
  clear_value u
  split
  · refine ⟨State.PutsOnly.cfsStart ?_, State.Stored.sec (State.Stored.cfsStart ?_)⟩
    · exact (hputs.trans (State.retireSector_puts _)).regs rfl
    · exact (hstored.trans (State.retireSector_stored _)).trans rfl
  · refine ⟨State.PutsOnly.cfsStart ?_, State.Stored.sec (State.Stored.cfsStart ?_)⟩
    · exact hputs.regs rfl
    · exact hstored.trans rfl

theorem exec_cfsProgramComplete_fails (hop : s.cfs.op = some j) (hprog : j.isErase = false) (hlc : s.sec.lcRun = none) :
    ∃ t, exec (.cfsProgramComplete true p false) s = .next t ∧ t.flag F.cfsStatPfailseen = true ∧
      t.fld (F.cfsCntCount 3) = (s.fld (F.cfsCntCount 3) + 1) % 2 ^ 32 ∧ t.fld (F.cfsCntCount 1) = (s.fld (F.cfsCntCount 1) + 16) % 2 ^ 32 ∧
      t.fld F.cfsLasterrKind = 1 ∧ t.flag F.cfsLasterrValid = true := by
  have hrow := exec_cfsProgramComplete_program (erased := true) (n := p) (pass := false) hop hprog
  have hfail : s.programComplete j true p false State.endRole = s.wordRetried j := by
    simp only [State.programComplete, Bool.not_true, Bool.false_and, Bool.not_false, Bool.false_eq_true, if_false, if_true]
    rfl
  obtain ⟨hputs, hsec⟩ := s.wordRetried_puts (j := j)
  rw [hfail, State.lcReset_none ((congrArg Sec.lcRun hsec).trans hlc)] at hrow
  obtain ⟨hseen, h3, h1, hkind, hvalid⟩ := s.wordFailed_reports (j := j)
  exact ⟨_, hrow, (hputs.flag _ (by decide)).trans hseen, (hputs _ (by decide)).trans h3, (hputs _ (by decide)).trans h1,
    (hputs _ (by decide)).trans hkind, (hputs.flag _ (by decide)).trans hvalid⟩

/-- The state after a program to a word that is not erased was refused: REPROGSEEN, the error, the count and the event (R427). -/
def State.wordRefused (s : State) (j : CfsJob) : State :=
  (((s.setFlag F.cfsStatReprogseen).cfsErr 0 (s.cfsWord j)).cfsCnt 2).event 0x0F01 (s.cfsWord j)

theorem State.wordRefused_reports :
    (s.wordRefused j).flag F.cfsStatReprogseen = true ∧ (s.wordRefused j).fld (F.cfsCntCount 2) = (s.fld (F.cfsCntCount 2) + 1) % 2 ^ 32 ∧
      (s.wordRefused j).fld (F.cfsCntCount 0) = s.fld (F.cfsCntCount 0) ∧ (s.wordRefused j).fld F.cfsLasterrKind = 0 ∧
      (s.wordRefused j).fld F.cfsLasterrWord = s.cfsWord j % 2 ^ 18 := by
  have hevent := State.PutsOnly.event (fs := dropFields) (.refl _ (((s.setFlag F.cfsStatReprogseen).cfsErr 0 (s.cfsWord j)).cfsCnt 2))
    (c := 0x0F01) (a := s.cfsWord j) (b := 0) (d := 0) (e := 0) (List.Subset.refl _)
  simp only [State.wordRefused, State.flag]
  rw [hevent _ (by decide), hevent _ (by decide), hevent _ (by decide), hevent _ (by decide), hevent _ (by decide)]
  simp (disch := decide) [State.cfsErr, State.cfsCnt, State.fld_setFld_apart, State.fld_setFld]
  rfl

theorem exec_cfsProgramComplete_refused {pass : Bool} (hop : s.cfs.op = some j) (hprog : j.isErase = false) (hret : j.retires = false)
    (hlc : s.sec.lcRun = none) :
    ∃ t, exec (.cfsProgramComplete false p pass) s = .next t ∧ t.flag F.cfsStatReprogseen = true ∧
      t.fld (F.cfsCntCount 2) = (s.fld (F.cfsCntCount 2) + 1) % 2 ^ 32 ∧ t.fld (F.cfsCntCount 0) = s.fld (F.cfsCntCount 0) ∧
      t.fld F.cfsLasterrKind = 0 ∧ t.fld F.cfsLasterrWord = s.cfsWord j % 2 ^ 18 := by
  have hrow := exec_cfsProgramComplete_program (erased := false) (n := p) (pass := pass) hop hprog
  have hrefused : s.programComplete j false p pass State.endRole = (((s.wordRefused j).advanceJob j).cfsFree.cfsRefused j).cfsStart := by
    simp only [State.programComplete, hret, Bool.not_false, Bool.and_self, if_true]
    rfl
  have hsec : ((s.wordRefused j).advanceJob j).cfsFree.sec = s.sec := by
    have h : s.Stored ((s.wordRefused j).advanceJob j) :=
      (((((((State.Stored.refl s).setFld _ _).setFld _ _).setFld _ _).setFld _ _).setFld _ _).event _ _ _ _ _).advanceJob j
    exact h.sec
  have hputs : (s.wordRefused j).PutsOnly (compactFields ++ refusedFields) (((s.wordRefused j).advanceJob j).cfsFree.cfsRefused j).cfsStart :=
    (((State.advanceJob_puts j).mono (List.subset_append_left _ _)).cfsFree.trans
      ((State.cfsRefused_puts j).mono (List.subset_append_right _ _))).cfsStart
  rw [hrefused, State.lcReset_none] at hrow
  · obtain ⟨hseen, h2, h0, hkind, hword⟩ := s.wordRefused_reports (j := j)
    exact ⟨_, hrow, (hputs.flag _ (by decide)).trans hseen, (hputs _ (by decide)).trans h2, (hputs _ (by decide)).trans h0,
      (hputs _ (by decide)).trans hkind, (hputs _ (by decide)).trans hword⟩
  · rw [State.cfsStart_frame]
    exact (State.cfsRefused_lcRun j).trans ((congrArg Sec.lcRun hsec).trans hlc)

end

/-! ### The end of an erase (R428) -/

section
variable {s : State} {j : CfsJob} {b : Nat}

theorem exec_cfsEraseComplete_ends (pass blank : Bool) (hop : s.cfs.op = some j) (hwork : j.work = .erase b) :
    exec (.cfsEraseComplete pass blank) s = .next (s.eraseComplete j b pass blank) := by
  show execCfsEraseComplete pass blank s = _
  simp only [execCfsEraseComplete, hop, hwork]

theorem State.ecMax_puts (b n : Nat) : s.PutsOnly [F.cfsEcmaxCount, F.cfsEcmaxSector] (s.ecMax b n) := by
  unfold State.ecMax
  split
  · exact ((State.PutsOnly.refl _ s).setFld (by decide) (by decide)).setFld (by decide) (by decide)
  · exact .refl _ _

theorem State.ecMax_sectors (b n : Nat) : (s.ecMax b n).sectors = s.sectors := by
  unfold State.ecMax
  split <;> rfl

/-- The state with the controller free and the sector's erases one more. -/
def State.eraseOpened (s : State) (b : Nat) : State :=
  State.setSector { s with cfs := { s.cfs with op := none } } b { s.sector b with erases := (s.sector b).erases + 1 }

theorem State.eraseOpened_regs : (s.eraseOpened b).regs = s.regs := rfl

theorem State.eraseOpened_sector : (s.eraseOpened b).sector b = { s.sector b with erases := (s.sector b).erases + 1 } :=
  State.sector_setSector _ _

/-- The state after any erase: its sector's erases and CFS_CNT[4] counted, and the largest count kept. -/
def State.eraseCounted (s : State) (b : Nat) : State := ((s.eraseOpened b).ecMax b ((s.sector b).erases + 1)).cfsCnt 4

theorem State.eraseCounted_sectors : (s.eraseCounted b).sectors = (s.eraseOpened b).sectors :=
  (s.eraseOpened b).ecMax_sectors b _

theorem State.eraseCounted_sector : (s.eraseCounted b).sector b = { s.sector b with erases := (s.sector b).erases + 1 } := by
  rw [State.sector, State.eraseCounted_sectors]
  exact State.eraseOpened_sector

theorem State.eraseCounted_fld (g : Fld) (hg : [F.cfsEcmaxCount, F.cfsEcmaxSector, F.cfsCntCount 4].all (fun f => g.apart f) = true) :
    (s.eraseCounted b).fld g = s.fld g := by
  simp only [List.all_cons, List.all_nil, Bool.and_true, Bool.and_eq_true] at hg
  obtain ⟨hcount, hsector, h4⟩ := hg
  refine (State.fld_setFld_apart _ _ _ _ (by decide) h4).trans ?_
  refine ((s.eraseOpened b).ecMax_puts b _ g ?_).trans (State.fld_congr g State.eraseOpened_regs)
  simp only [List.all_cons, List.all_nil, hcount, hsector, Bool.and_self]

theorem State.eraseCounted_count : (s.eraseCounted b).fld (F.cfsCntCount 4) = (s.fld (F.cfsCntCount 4) + 1) % 2 ^ 32 := by
  refine (State.fld_addWrap _ _ _ (by decide)).trans ?_
  rw [(s.eraseOpened b).ecMax_puts b _ _ (by decide), State.fld_congr _ State.eraseOpened_regs]
  rfl

/-- What a failed erase reports: EFAILSEEN, the error and CFS_CNT[5]. -/
def State.eraseReported (s : State) (b : Nat) : State := ((s.setFlag F.cfsStatEfailseen).cfsErr 2 (b * 512)).cfsCnt 5

theorem State.setFld_sector (f : Fld) (v : Nat) : (s.setFld f v).sector b = s.sector b := rfl

theorem State.eraseReported_sector : (s.eraseReported b).sector b = s.sector b := by
  simp only [State.eraseReported, State.cfsErr, State.cfsCnt, State.addWrap_eq, State.setFlag_eq, State.setFld_sector]

/-- The failed erase reported, and noted with its sector. -/
def State.eraseNoted (s : State) (b : Nat) : State :=
  (s.eraseReported b).setSector b { (s.eraseReported b).sector b with eraseFails := ((s.eraseReported b).sector b).eraseFails + 1 }

theorem State.eraseNoted_sector : (s.eraseNoted b).sector b = { s.sector b with eraseFails := (s.sector b).eraseFails + 1 } := by
  rw [State.eraseNoted, State.sector_setSector, State.eraseReported_sector]

theorem State.eraseNoted_reports : (s.eraseNoted b).flag F.cfsStatEfailseen = true ∧
    (s.eraseNoted b).fld (F.cfsCntCount 5) = (s.fld (F.cfsCntCount 5) + 1) % 2 ^ 32 ∧ (s.eraseNoted b).fld F.cfsLasterrKind = 2 ∧
    (s.eraseNoted b).fld (F.cfsCntCount 6) = s.fld (F.cfsCntCount 6) := by
  have hfld : ∀ g : Fld, (s.eraseNoted b).fld g = (s.eraseReported b).fld g := fun _ => State.fld_congr _ rfl
  simp only [State.flag, hfld]
  simp (disch := decide) [State.eraseReported, State.cfsErr, State.cfsCnt, State.fld_setFld_apart, State.fld_setFld]
  rfl

/-- What a blank sector's return does: its area has it back, and what waited for it goes on. -/
def State.eraseReturned (s : State) (b : Nat) : State :=
  let t := match s.areaOfSector b with
    | some a => s.setArea a ((s.area a).blanked b)
    | none => s
  let left := t.cfs.queue.filter (·.isErase)
  let t := if t.areaOfSector b = some 1 then t.keySetSettled else t
  let bank := left.any (fun k => k.erases (fun c => decide (t.areaOfSector c = some 8)))
  let t := if decide (t.fwu.bankWords ≠ 0) && decide (t.areaOfSector b = some 8) && !bank then
      ({ t with fwu := { t.fwu with bankWords := 0 } } : State).cfsRequest 5 .loader t.fwu.bankWords else t
  let more := left.any (fun k => k.erases (fun c => decide (t.areaOfSector c = some 6)))
  if decide (t.areaOfSector b = some 6) && !more then t.finishWaiting 0xC5 else t

/-- The erases and its sector's failures cleared (R428). -/
def State.eraseReset (s : State) (b : Nat) : State := s.setSector b { s.sector b with progFails := 0, eraseFails := 0 }

/-- The three ends of an erase (R428). -/
theorem State.eraseComplete_eq (pass blank : Bool) : s.eraseComplete j b pass blank =
    if !pass then (if 2 ≤ (((s.eraseCounted b).eraseReported b).sector b).eraseFails + 1 then ((s.eraseCounted b).eraseNoted b).retireSector b
      else ((s.eraseCounted b).eraseNoted b).cfsPut { j with words := 1 }).cfsStart
    else if !blank then (((s.eraseCounted b).cfsErr 4 (b * 512)).cfsPut { j with words := 1 }).cfsStart
    else (((s.eraseCounted b).eraseReset b).eraseReturned b).cfsStart := rfl

theorem State.eraseComplete_failed (blank : Bool) :
    s.eraseComplete j b false blank = (if 1 ≤ (s.sector b).eraseFails then ((s.eraseCounted b).eraseNoted b).retireSector b
      else ((s.eraseCounted b).eraseNoted b).cfsPut { j with words := 1 }).cfsStart := by
  have hfails : ((s.eraseCounted b).eraseReported b |>.sector b).eraseFails = (s.sector b).eraseFails := by
    rw [State.eraseReported_sector, State.eraseCounted_sector]
  have hiff : (2 ≤ ((s.eraseCounted b).eraseReported b |>.sector b).eraseFails + 1) = (1 ≤ (s.sector b).eraseFails) := by
    rw [hfails, Nat.succ_le_succ_iff]
  rw [State.eraseComplete_eq]
  simp only [hiff, Bool.not_false, if_true]

theorem State.eraseNoted_kept : ((s.eraseCounted b).eraseNoted b).sector b =
    { s.sector b with erases := (s.sector b).erases + 1, eraseFails := (s.sector b).eraseFails + 1 } := by
  rw [State.eraseNoted_sector, State.eraseCounted_sector]

theorem State.cfsStart_sector (a : Nat) : s.cfsStart.sector a = s.sector a := by
  rw [State.cfsStart_frame]
  rfl

theorem State.cfsPut_sector (k : CfsJob) : (s.cfsPut k).sector b = s.sector b := rfl

theorem exec_cfsEraseComplete_fails (blank : Bool) (hop : s.cfs.op = some j) (hwork : j.work = .erase b) (hfirst : (s.sector b).eraseFails = 0) :
    ∃ t, exec (.cfsEraseComplete false blank) s = .next t ∧ (t.sector b).erases = (s.sector b).erases + 1 ∧
      (t.sector b).retired = (s.sector b).retired ∧ t.flag F.cfsStatEfailseen = true ∧
      t.fld (F.cfsCntCount 5) = (s.fld (F.cfsCntCount 5) + 1) % 2 ^ 32 ∧ t.fld F.cfsLasterrKind = 2 := by
  have hrow := exec_cfsEraseComplete_ends false blank hop hwork
  rw [State.eraseComplete_failed, if_neg (by omega)] at hrow
  obtain ⟨hseen, h5, hkind, -⟩ := (s.eraseCounted b).eraseNoted_reports (b := b)
  have hsector := s.eraseNoted_kept (b := b)
  rw [s.eraseCounted_fld _ (by decide)] at h5
  generalize (s.eraseCounted b).eraseNoted b = u at *
  have hputs : u.PutsOnly [] (u.cfsPut { j with words := 1 }).cfsStart := ((State.PutsOnly.refl _ _).cfsPut _).cfsStart
  have hlast := (State.cfsStart_sector (s := u.cfsPut { j with words := 1 }) b).trans (State.cfsPut_sector _)
  rw [hsector] at hlast
  exact ⟨_, hrow, by rw [hlast], by rw [hlast], (hputs.flag _ rfl).trans hseen, (hputs _ rfl).trans h5, (hputs _ rfl).trans hkind⟩

theorem exec_cfsEraseComplete_retires (blank : Bool) (hop : s.cfs.op = some j) (hwork : j.work = .erase b) (hagain : 1 ≤ (s.sector b).eraseFails) :
    ∃ t, exec (.cfsEraseComplete false blank) s = .next t ∧ (t.sector b).retired = true ∧ t.flag F.cfsStatRetireseen = true ∧
      t.fld (F.cfsCntCount 6) = (s.fld (F.cfsCntCount 6) + 1) % 2 ^ 32 := by
  have hrow := exec_cfsEraseComplete_ends false blank hop hwork
  rw [State.eraseComplete_failed, if_pos hagain] at hrow
  obtain ⟨-, -, -, h6⟩ := (s.eraseCounted b).eraseNoted_reports (b := b)
  rw [s.eraseCounted_fld _ (by decide)] at h6
  generalize (s.eraseCounted b).eraseNoted b = u at *
  obtain ⟨hretired, hseen, hcount⟩ := u.retireSector_reports b
  have hputs : (u.retireSector b).PutsOnly [] (u.retireSector b).cfsStart := (State.PutsOnly.refl _ _).cfsStart
  exact ⟨_, hrow, by rw [State.cfsStart_sector]; exact hretired, (hputs.flag _ rfl).trans hseen, (hputs _ rfl).trans (by rw [hcount, h6])⟩

theorem exec_cfsEraseComplete_notBlank (hop : s.cfs.op = some j) (hwork : j.work = .erase b) :
    ∃ t, exec (.cfsEraseComplete true false) s = .next t ∧ t.fld F.cfsLasterrKind = 4 ∧ (t.sector b).retired = (s.sector b).retired ∧
      t.fld (F.cfsCntCount 4) = (s.fld (F.cfsCntCount 4) + 1) % 2 ^ 32 := by
  have hrow : exec (.cfsEraseComplete true false) s =
      .next (((s.eraseCounted b).cfsErr 4 (b * 512)).cfsPut { j with words := 1 }).cfsStart := exec_cfsEraseComplete_ends true false hop hwork
  have hcount := s.eraseCounted_count (b := b)
  have hsector := congrArg Sector.retired (s.eraseCounted_sector (b := b))
  generalize s.eraseCounted b = u at *
  have hputs : (u.cfsErr 4 (b * 512)).PutsOnly [] ((u.cfsErr 4 (b * 512)).cfsPut { j with words := 1 }).cfsStart :=
    ((State.PutsOnly.refl _ _).cfsPut _).cfsStart
  refine ⟨_, hrow, ?_, ?_, ?_⟩
  · rw [hputs _ rfl]
    simp (disch := decide) [State.cfsErr, State.fld_setFld_apart, State.fld_setFld]
    rfl
  · rw [State.cfsStart_sector, State.cfsPut_sector, ← hsector]
    simp only [State.cfsErr, State.setFlag_eq, State.setFld_sector]
  · rw [hputs _ rfl, ← hcount]
    simp (disch := decide) only [State.cfsErr, State.setFlag_eq, State.fld_setFld_apart]

/-- What follows a blank sector's return to its area changes no sector. -/
theorem State.eraseReturned_sector : (s.eraseReturned b).sector b = s.sector b := by
  refine State.sector_congr b ?_
  unfold State.eraseReturned
  extract_lets t left t₂ bank _ t₃ more
  have h : t.held.1 = s.held.1 := by
    simp only [t]
    split
    · rfl
    · rfl
  have h₂ : t₂.held.1 = t.held.1 := by
    simp only [t₂]
    split
    · exact State.keySetSettled_heldR _
    · rfl
  have h₃ : t₃.held.1 = t₂.held.1 := by
    simp only [t₃]
    split
    · rw [State.cfsRequest_held]
      rfl
    · rfl
  refine Eq.trans ?_ (h₃.trans (h₂.trans h))
  split
  · rw [State.finishWaiting_held]
  · rfl

theorem exec_cfsEraseComplete_passes (hop : s.cfs.op = some j) (hwork : j.work = .erase b) :
    ∃ t, exec (.cfsEraseComplete true true) s = .next t ∧ (t.sector b).erases = (s.sector b).erases + 1 ∧ (t.sector b).progFails = 0 ∧
      (t.sector b).eraseFails = 0 := by
  have hrow := exec_cfsEraseComplete_ends true true hop hwork
  refine ⟨_, hrow, ?_⟩
  have hsector : (s.eraseComplete j b true true).sector b = ((s.eraseCounted b).eraseReset b).sector b := by
    rw [State.eraseComplete_eq, if_neg (by decide), if_neg (by decide), State.cfsStart_sector, State.eraseReturned_sector]
  rw [hsector, State.eraseReset, State.sector_setSector, State.eraseCounted_sector]
  exact ⟨rfl, rfl, rfl⟩

end

/-! ### Scrub (R443) and the calibration row (R151, R431) -/

section
variable {s : State}

/-- A pass counts its words and reports the uncorrectable ones. -/
theorem State.cfsScrubPass_reports (one two bad : List Nat) :
    (s.cfsScrubPass one two bad).fld (F.cfsCntCount 8) = (s.fld (F.cfsCntCount 8) + two.length) % 2 ^ 32 ∧
      (bad ≠ [] → (s.cfsScrubPass one two bad).flag F.cfsStatUeseen = true) := by
  obtain ⟨u, hu⟩ : ∃ u, u = ((s.cfsCnt 7 one.length).cfsCnt 8 two.length).cfsCnt 9 bad.length := ⟨_, rfl⟩
  have herrors : ∀ (l : List Nat) (v : State), v.PutsOnly [F.cfsStatUeseen, F.cfsLasterrValid, F.cfsLasterrKind, F.cfsLasterrWord]
      (l.foldl (fun u w => (u.setFlag F.cfsStatUeseen).cfsErr 3 w) v) := fun l v =>
    (State.PutsOnly.refl _ v).foldl fun w _ =>
      ((((State.PutsOnly.refl _ w).setFld (by decide) (by decide)).setFld (by decide) (by decide)).setFld (by decide) (by decide)).setFld
        (by decide) (by decide)
  have hrest : ∀ v : State, v.PutsOnly [] ((two.foldl (fun u w =>
      if w / 512 = 0 ∨ u.areaOfSector (w / 512) = some 5 then u else u.cfsRequest 6 (.rewrite w) 1) v).arm .cfsScrub (nsSec 86400)) := fun v => by
    refine State.PutsOnly.regs ((State.PutsOnly.refl _ v).foldl fun w _ => ?_) rfl
    split
    · exact .refl _ _
    · exact (State.PutsOnly.refl _ w).cfsRequest
  have hseen : ∀ (l : List Nat) (v : State), v.flag F.cfsStatUeseen = true ∨ l ≠ [] →
      (l.foldl (fun u w => (u.setFlag F.cfsStatUeseen).cfsErr 3 w) v).flag F.cfsStatUeseen = true := by
    intro l
    induction l with
    | nil => exact fun v h => h.resolve_right (by simp)
    | cons w l ih =>
      refine fun v _ => ih _ (.inl ?_)
      rw [State.flag]
      simp (disch := decide) [State.cfsErr, State.fld_setFld_apart, State.fld_setFld]
  have hpass : s.cfsScrubPass one two bad = (two.foldl (fun u w =>
      if w / 512 = 0 ∨ u.areaOfSector (w / 512) = some 5 then u else u.cfsRequest 6 (.rewrite w) 1)
      (bad.foldl (fun u w => (u.setFlag F.cfsStatUeseen).cfsErr 3 w) u)).arm .cfsScrub (nsSec 86400) := by rw [hu]; rfl
  rw [hpass]
  refine ⟨?_, fun hbad => ((hrest _).flag _ rfl).trans (hseen _ _ (.inr hbad))⟩
  rw [hrest _ _ rfl, herrors _ _ _ (by decide), hu]
  simp (disch := decide) [State.cfsCnt, State.fld_setFld_apart, State.fld_setFld]

theorem exec_cfsScrubPeriod_passes (one two bad : List Nat) (ha : s.armed .cfsScrub = true) :
    ∃ t, exec (.cfsScrubPeriod one two bad) s = .next t ∧ t.armed .cfsScrub = true ∧
      t.fld (F.cfsCntCount 7) = (s.fld (F.cfsCntCount 7) + one.length) % 2 ^ 32 ∧
      t.fld (F.cfsCntCount 8) = (s.fld (F.cfsCntCount 8) + two.length) % 2 ^ 32 ∧
      t.fld (F.cfsCntCount 9) = (s.fld (F.cfsCntCount 9) + bad.length) % 2 ^ 32 ∧ (bad ≠ [] → t.flag F.cfsStatUeseen = true) ∧
      t.records = s.records := by
  have hrow : execCfsScrubPeriod one two bad s = .next ((s.expire .cfsScrub).cfsScrubPass one two bad) := onTimer_armed ha _
  obtain ⟨h7, h9⟩ := (s.expire .cfsScrub).cfsScrubPass_counts one two bad
  obtain ⟨h8, hseen⟩ := (s.expire .cfsScrub).cfsScrubPass_reports one two bad
  rw [State.fld_expire] at h7 h8 h9
  refine ⟨_, hrow, State.armed_arm _ _ _, h7, h8, h9, hseen, ?_⟩
  exact (congrArg (·.1.1) (State.cfsScrubPass_held _ one two bad)).trans (congrArg (·.1.1) (State.expire_held _ _))

theorem exec_cfsScrubPeriod_cancelled (one two bad : List Nat) (ha : s.armed .cfsScrub = false) : exec (.cfsScrubPeriod one two bad) s = .next s := by
  have hrow : execCfsScrubPeriod one two bad s = _ := onTimer_unarmed ha _
  exact hrow

variable {c n o : Nat} {k : Cmd}

theorem exec_calibrationRowRead_ok (h : s.PfRuns c k) (hlo : 1 ≤ n) (hin : o + n ≤ 1024) :
    ∃ t, exec (.calibrationRowRead c n o) s = .next t ∧ t.Ended c St.ok ∧ t.regs = s.regs ∧
      t.tx.any (fun x => decide (x = .hostBuf c ((List.range n).map (fun i => Config.calDword (o + i))))) = true := by
  have hrow : execCalibrationRowRead c n o s = _ := onAdmin_of_runs h.adminRuns _
  rw [if_neg (by simp [h.isPf_fn]), if_neg (by omega)] at hrow
  refine ⟨_, hrow, h.adminRuns.finish_ended (by rfl) _, ?_, ?_⟩
  · rw [State.finish_frame]
    rfl
  · rw [State.finish_tx]
    simp [State.send]

theorem exec_calibrationRowRead_badField (h : s.PfRuns c k) (hbad : n = 0 ∨ 1024 < o + n) :
    ∃ t, exec (.calibrationRowRead c n o) s = .next t ∧ t.Ended c St.badField ∧ t.tx = s.tx := by
  have hrow : execCalibrationRowRead c n o s = _ := onAdmin_of_runs h.adminRuns _
  rw [if_neg (by simp [h.isPf_fn]), if_pos (by omega)] at hrow
  exact ⟨_, hrow, h.adminRuns.finish_ended (by rfl) _, State.finish_tx _ _ _ _⟩

end

/-- Settles O29: each end of a program or an erase counts and reports; a scrub pass and CCh by their own lemmas. -/
theorem storeRowsComplete : Obligations.StoreRowsComplete := by
  unfold Obligations.StoreRowsComplete
  exact ⟨fun _ _ _ hop hprog hwords hlc => exec_cfsProgramComplete_next hop hprog hwords hlc,
    fun _ _ _ _ hop hwork hwords hlc hstaged => exec_cfsProgramComplete_event hop hwork hwords hlc hstaged,
    fun _ _ _ hop hprog _ hlc => exec_cfsProgramComplete_fails hop hprog hlc,
    fun _ _ _ _ hop hprog hret hlc => exec_cfsProgramComplete_refused hop hprog hret hlc,
    fun _ _ _ hop hwork _ => exec_cfsEraseComplete_passes hop hwork,
    fun _ _ _ bl hop hwork _ hfirst => exec_cfsEraseComplete_fails bl hop hwork hfirst,
    fun _ _ _ bl hop hwork _ hagain => exec_cfsEraseComplete_retires bl hop hwork hagain,
    fun _ _ _ hop hwork _ => exec_cfsEraseComplete_notBlank hop hwork, fun _ one two bad ha => exec_cfsScrubPeriod_passes one two bad ha,
    fun _ one two bad ha => exec_cfsScrubPeriod_cancelled one two bad ha, fun _ _ _ _ _ h hlo hin => exec_calibrationRowRead_ok h hlo hin,
    fun _ _ _ _ _ h hbad => exec_calibrationRowRead_badField h hbad⟩

end Sys2Proof.Machine
end

section
/-! SUPPORT. Reliable frames: what a row of R389 and R398 brings about. -/

namespace Sys2Proof.Machine

section
variable {s u : State} {h : FrameHdr} {memb : Bool} {b : FrameBody}

/-- A frame on a port in use is checked, and handled where it passes (R389). -/
theorem onFrame_of_up (k : State → State) (hup : s.strandUp = true) (hport : h.port < 2) :
    onFrame s h memb k = .next (if (s.frameIn h memb).1 then k (s.frameIn h memb).2 else (s.frameIn h memb).2) := by
  have hgate : (s.strandUp && decide (h.port < 2)) = true := by simp [hup, hport]
  rw [onFrame, hgate]
  rfl

theorem onFrame_of_taken (k : State → State) (ht : s.FrameTaken h memb u) : onFrame s h memb k = .next (k u) := by
  obtain ⟨hup, hport, hin⟩ := ht
  rw [onFrame_of_up k hup hport, hin]
  rfl

/-- The next frame of its pair is delivered, with the held frames that it lets through (R398). -/
theorem onReliable_of_next (hn : s.FrameNext h memb b u) : onReliable s h memb b = .next (u.delivered h b) := by
  obtain ⟨ht, hawake, hseq, hearly⟩ := hn
  have hnew : ¬(h.seq ≤ (u.peer h.src).got ∨ Tab.has h.seq (u.peer h.src).early = true) := by
    rw [hearly, hseq]
    simp
  refine (onFrame_of_taken _ ht).trans (congrArg Host.Outcome.next ?_)
  dsimp only
  rw [if_neg hawake, if_neg hnew, if_pos hseq]
  rfl

/-- A frame already delivered is counted and acknowledged again (R398). -/
theorem onReliable_of_duplicate (ht : s.FrameTaken h memb u) (hcopy : isCopyFrame b = false) (hseq : h.seq ≤ (u.peer h.src).got) :
    onReliable s h memb b = .next ((u.strCnt 5).sendFrame h.src 0x03 0 []) := by
  refine (onFrame_of_taken _ ht).trans (congrArg Host.Outcome.next ?_)
  dsimp only
  rw [if_neg (by simp [hcopy]), if_pos (Or.inl hseq)]

/-- A frame for a window wakes a device in PS3 and is answered with a hold (R369, R404). -/
theorem onReliable_of_asleep (ht : s.FrameTaken h memb u) (hcopy : isCopyFrame b = true) (hps : u.ps = 3) :
    onReliable s h memb b = .next ((u.sendFrame h.src 0x05 0 [5]).strCnt 10) := by
  refine (onFrame_of_taken _ ht).trans (congrArg Host.Outcome.next ?_)
  dsimp only
  rw [if_pos ⟨hps, hcopy⟩]

theorem State.frameIn_badCrc (hcrc : h.crcOk = false) : s.frameIn h memb = (false, (s.strCnt 1).strCnt 6) := by
  rw [State.frameIn, hcrc]
  rfl

theorem State.frameIn_elsewhere (hcrc : h.crcOk = true) (hdst : h.dst ≠ s.ownId) :
    s.frameIn h memb = (false, ((s.strCnt 1).strCnt 7).setFlag F.strStatRejectseen) := by
  rw [State.frameIn, hcrc]
  exact if_pos (Or.inr (Or.inr (Or.inl hdst)))

/-- A frame that fails a check of R389 is dropped. -/
theorem onReliable_of_dropped (hup : s.strandUp = true) (hport : h.port < 2) (hin : s.frameIn h memb = (false, u)) :
    onReliable s h memb b = .next u := by
  refine (onFrame_of_up _ hup hport).trans ?_
  rw [hin]
  rfl

end

/-- Settles O25: every reliable row is `onReliable` of its frame. -/
theorem reliableFramesComplete : Obligations.ReliableFramesComplete := by
  unfold Obligations.ReliableFramesComplete
  exact ⟨fun _ _ _ _ _ _ _ hn => onReliable_of_next hn, fun _ _ _ _ _ _ _ _ hn => onReliable_of_next hn, fun _ _ _ _ _ _ hn => onReliable_of_next hn,
    fun _ _ _ _ hn => onReliable_of_next hn, fun _ _ _ _ _ hn => onReliable_of_next hn, fun _ _ _ _ _ _ hn => onReliable_of_next hn,
    fun _ _ _ _ hn => onReliable_of_next hn, fun _ _ _ _ hn => onReliable_of_next hn, fun _ _ _ hn => onReliable_of_next hn,
    fun _ _ _ _ _ hn => onReliable_of_next hn, fun _ _ _ _ _ _ hn => onReliable_of_next hn,
    fun _ _ _ ht hseq => onReliable_of_duplicate ht rfl hseq,
    fun _ _ hup hport hcrc => onReliable_of_dropped hup hport (State.frameIn_badCrc hcrc),
    fun _ _ hup hport hcrc hdst => onReliable_of_dropped hup hport (State.frameIn_elsewhere hcrc hdst),
    fun _ _ _ _ _ _ _ _ ht hps => onReliable_of_asleep ht rfl hps⟩

end Sys2Proof.Machine
end

section
/-! SUPPORT. The rows of the supervisors (R347 to R361): what holds of the supervisors' own part whatever is asked of the store, what a yield sets, what a
self-test's result sets, and what is left when the new core takes control. -/

namespace Sys2Proof.Machine

/-! ### The supervisors' own part -/

/-- The supervisors' own part without the store's writes that a switch-over holds. -/
def Sup.core (u : Sup) : Sup := { u with writes := [] }

theorem Sup.yielded_of_core {u v : Sup} (h : u.core = v.core) : u.yielded = v.yielded := by
  have hcore : u.core.yielded = v.core.yielded := by rw [h]
  exact hcore

theorem Sup.stFail_of_core {u v : Sup} (h : u.core = v.core) : u.stFail = v.stFail := by
  have hcore : u.core.stFail = v.core.stFail := by rw [h]
  exact hcore

section
variable (s : State)

theorem State.cfsStart_sup : s.cfsStart.sup = s.sup := by rw [State.cfsStart_frame]

@[simp] theorem State.cfsRequest_supCore (r : Nat) (w : CfsWork) (n : Nat) : (s.cfsRequest r w n).sup.core = s.sup.core := by
  unfold State.cfsRequest
  split
  · rfl
  · rw [State.cfsStart_sup]
    rfl

theorem State.persistStaged_supCore (r : Nat) : (s.persistStaged r).sup.core = s.sup.core := by
  refine List.foldlRecOn _ _ (motive := fun t : State => t.sup.core = s.sup.core) rfl fun t ht x _ => ?_
  split
  · exact ht
  · exact (t.cfsRequest_supCore _ _ _).trans ht

@[simp] theorem State.event_supCore (c a b d e : Nat) : (s.event c a b d e).sup.core = s.sup.core := by
  unfold State.event State.stageEvent
  simp only
  split
  · rfl
  · unfold State.stageRec
    simp only
    split
    · rw [State.persistStaged_supCore, State.armOnce_frame]
    · rw [State.armOnce_frame]

@[simp] theorem State.deny_supCore (src : Nat) (need : Role) (fn target : Nat) : (s.deny src need fn target).sup.core = s.sup.core := by
  unfold State.deny
  extract_lets t u v w
  have hw : w.sup.core = s.sup.core := State.event_supCore _ _ _ _ _ _
  split
  · exact hw
  · exact hw
  · exact hw

theorem State.finish_sup (c : Nat) (st : Status) (d : Nat) : (s.finish c st d).sup = s.sup := by rw [State.finish_frame]

@[simp] theorem State.noteC0_sup : s.noteC0.sup = s.sup := by rw [State.noteC0_frame]
@[simp] theorem State.fld_noteC0 (f : Fld) : s.noteC0.fld f = s.fld f := State.fld_congr f (by rw [State.noteC0_frame])

theorem State.saveSettings_supCore : s.saveSettings.sup.core = s.sup.core := by
  unfold State.saveSettings
  exact State.cfsRequest_supCore _ _ _ _

theorem State.setPs_sup (n : Nat) : (s.setPs n).sup = s.sup := by
  unfold State.setPs
  extract_lets ts u
  split <;> rfl

theorem State.applyPs_sup : s.applyPs.sup = s.sup := by
  unfold State.applyPs
  split
  · rfl
  · exact State.setPs_sup _ _

theorem State.cfsRelease_supCore : s.cfsRelease.sup.core = s.sup.core := by
  unfold State.cfsRelease
  rw [State.cfsStart_sup]
  exact List.foldlRecOn _ _ (motive := fun t : State => t.sup.core = s.sup.core) rfl fun t ht x _ => ht

end

/-! ### Yields (R347, R348, R353, R356, R357) -/

section
variable {s : State} {cause : Nat}

theorem State.fld_withSup (w : State) (u : Sup) (f : Fld) : ({ w with sup := u } : State).fld f = w.fld f := State.fld_congr (t := w) f rfl

theorem State.q_withSup (w : State) (u : Sup) : ({ w with sup := u } : State).q = w.q := rfl

theorem State.flag_withSup (w : State) (u : Sup) (f : Fld) : ({ w with sup := u } : State).flag f = w.flag f := by
  rw [State.flag, State.fld_withSup, State.flag]

theorem State.armed_withSup (w : State) (u : Sup) (id : TimerId) : ({ w with sup := u } : State).armed id = w.armed id := rfl

/-- A first yield up to the entry of the switch-over: the work stopped, the cause latched, no standby, and the yielding core's test due. -/
def State.yieldOpened (s : State) (cause : Nat) : State :=
  (((((s.stopOwned St.interrupted).setFld F.supSwlastCause cause).setFlag F.supStatRestoring).clrFlag F.supStatStbyok).cancel .standbyRetry).arm
    .standbyTest 0

theorem State.yieldOpened_reports (hc : cause < 8) : (s.yieldOpened cause).fld F.supSwlastCause = cause ∧
    (s.yieldOpened cause).flag F.supStatRestoring = true ∧ (s.yieldOpened cause).flag F.supStatStbyok = false := by
  have hregs : (s.yieldOpened cause).regs =
      ((((s.stopOwned St.interrupted).setFld F.supSwlastCause cause).setFld F.supStatRestoring 1).setFld F.supStatStbyok 0).regs := rfl
  simp only [State.flag, State.fld_congr _ hregs]
  simp (disch := decide) only [State.fld_setFld_apart, State.fld_setFld]
  exact ⟨Nat.mod_eq_of_lt hc, rfl, rfl⟩

/-- A first yield that is not the fourth of R357. -/
theorem State.superYield_first (hfail : s.flag F.supStatFailed = false) (hdump : s.dump.running = none) (hy : s.sup.yielded = none)
    (h4 : s.fourth = false) : ∃ m l, s.superYield cause = { s.yieldOpened cause with
      sup := { (s.yieldOpened cause).sup with yielded := some (cause, m), switches := l, onto := !s.flag F.supStatStbyok,
                                              target := if s.flag F.supStatStbyok then 1 - s.fld F.supStatActive else s.fld F.supStatActive } } := by
  refine ⟨(s.yieldOpened cause).clk.mono, ((s.yieldOpened cause).clk.mono :: (s.yieldOpened cause).sup.switches).take 3, ?_⟩
  unfold State.superYield
  rw [if_neg (by simp [hfail, hdump])]
  extract_lets stby core _ act t u
  have hu : u = s.yieldOpened cause := rfl
  clear_value u
  subst hu
  simp only [hy, h4, Bool.false_eq_true, if_false]
  rfl

/-- What a first yield brings about. -/
theorem State.superYield_starts (hc : cause < 8) (hfail : s.flag F.supStatFailed = false) (hdump : s.dump.running = none) (hy : s.sup.yielded = none)
    (h4 : s.fourth = false) :
    (s.superYield cause).sup.yielded.map (·.1) = some cause ∧ (s.superYield cause).fld F.supSwlastCause = cause ∧
      (s.superYield cause).flag F.supStatRestoring = true ∧ (s.superYield cause).flag F.supStatStbyok = false ∧
      (s.superYield cause).armed .standbyTest = true ∧
      (s.superYield cause).sup.target = (if s.flag F.supStatStbyok then 1 - s.fld F.supStatActive else s.fld F.supStatActive) := by
  obtain ⟨m, l, h⟩ := State.superYield_first (cause := cause) hfail hdump hy h4
  obtain ⟨hcause, hrest, hok⟩ := s.yieldOpened_reports hc
  have harmed : (s.yieldOpened cause).armed .standbyTest = true := State.armed_arm _ _ _
  rw [h]
  generalize s.yieldOpened cause = w at *
  exact ⟨rfl, (w.fld_withSup _ _).trans hcause, (w.flag_withSup _ _).trans hrest, (w.flag_withSup _ _).trans hok,
    (w.armed_withSup _ _).trans harmed, rfl⟩

/-- A second yield turns the switch-over to the other core, where that has passed its test (R356). -/
theorem State.superYield_again {c m : Nat} (hfail : s.flag F.supStatFailed = false) (hdump : s.dump.running = none) (hy : s.sup.yielded = some (c, m)) :
    (s.superYield cause).sup.yielded = some (cause, m) ∧ (s.superYield cause).sup.onto = !s.flag F.supStatStbyok ∧
      (s.superYield cause).sup.target = (if s.flag F.supStatStbyok then 1 - s.sup.target else s.sup.target) ∧ (s.superYield cause).q = s.q := by
  unfold State.superYield
  rw [if_neg (by simp [hfail, hdump]), hy]
  exact ⟨rfl, rfl, rfl, rfl⟩

/-- The watchdog's row before the yield: the longest heartbeat and the count of its expiries. -/
def State.watchdogNoted (s : State) : State :=
  (if s.fld F.supHbMaxus < Nat.min 65535 (s.fld F.supDiagWdms * 1000) then s.setFld F.supHbMaxus (Nat.min 65535 (s.fld F.supDiagWdms * 1000))
    else s).supCnt 15

theorem State.watchdogNoted_noted : s.Noted s.watchdogNoted := by
  unfold State.watchdogNoted
  split
  · exact ((State.Noted.refl s).setFld _ _).setFld _ _
  · exact (State.Noted.refl s).setFld _ _

theorem State.watchdogNoted_sup : s.watchdogNoted.sup = s.sup := by
  unfold State.watchdogNoted
  split <;> rfl

theorem State.watchdogNoted_puts : s.PutsOnly [F.supHbMaxus, F.supCntCount 15] s.watchdogNoted := by
  unfold State.watchdogNoted
  split
  · exact ((State.PutsOnly.refl _ s).setFld (by decide) (by decide)).setFld (by decide) (by decide)
  · exact (State.PutsOnly.refl _ s).setFld (by decide) (by decide)

theorem exec_supervisorWatchdog_yields (ha : s.armed .watchdog = true) (hfail : (s.expire .watchdog).flag F.supStatFailed = false)
    (hdump : s.dump.running = none) (hy : s.sup.yielded = none) (h4 : (s.expire .watchdog).fourth = false) :
    ∃ t, exec .supervisorWatchdog s = .next t ∧ t.sup.yielded.map (·.1) = some 0 ∧ t.fld F.supSwlastCause = 0 ∧ t.flag F.supStatRestoring = true := by
  have hrow : exec .supervisorWatchdog s = .next ((s.expire .watchdog).watchdogNoted.superYield 0) := by
    have hrow : execSupervisorWatchdog s = _ := onTimer_armed ha _
    exact hrow
  have hsup := (s.expire .watchdog).watchdogNoted_sup
  have hnoted := (s.expire .watchdog).watchdogNoted_noted
  have hdump' : (s.expire .watchdog).watchdogNoted.dump.running = none := by
    rw [hnoted, State.expire_frame]
    exact hdump
  have hy' : (s.expire .watchdog).watchdogNoted.sup.yielded = none := by
    rw [hsup, State.expire_frame]
    exact hy
  have h4' : (s.expire .watchdog).watchdogNoted.fourth = false := by
    rw [State.fourth, hsup, hnoted]
    exact h4
  obtain ⟨hyielded, hcause, hrest, -⟩ :=
    State.superYield_starts (cause := 0) (by decide) (((s.expire .watchdog).watchdogNoted_puts.flag _ (by decide)).trans hfail) hdump' hy' h4'
  exact ⟨_, hrow, hyielded, hcause, hrest⟩

end

/-! ### Snapshots (R350) -/

section
variable {s : State}

/-- The snapshot of a state goes to bank 0 where bank 1 holds the newest, and where there is none. -/
def State.snapped (s : State) : State :=
  let n := s.sup.newest
  let sn := s.snapshot ((n.1 + 1) % 2 ^ 32)
  let u := if n.2 || decide (n.1 = 0) then { s.sup with snap0 := some sn } else { s.sup with snap1 := some sn }
  ((({ s with sup := u } : State).setFld F.supSnapSeq sn.seq).stamp Reg.supSnap).supCnt 9

theorem exec_snapshotTimer_armed (ha : s.armed .snapshot = true) :
    exec .snapshotTimer s = .next ((s.expire .snapshot).snapped.arm .snapshot (nsMs 50)) := by
  have hrow : execSnapshotTimer s = _ := onTimer_armed ha _
  exact hrow

theorem State.snapped_count : s.snapped.fld (F.supCntCount 9) = (s.fld (F.supCntCount 9) + 1) % 2 ^ 32 := by
  refine (State.fld_addWrap _ _ _ (by decide)).trans ?_
  rw [State.fld_stamp, State.fld_setFld_apart _ _ _ _ (by decide) (by decide)]
  rfl

theorem State.snapped_first (h : s.sup.newest.2 = true) :
    s.snapped.sup = { s.sup with snap0 := some (s.snapshot ((s.sup.newest.1 + 1) % 2 ^ 32)) } := by
  unfold State.snapped
  simp only [h, Bool.true_or, State.supCnt, State.addWrap_eq, State.setFld_sup, State.stamp_sup, if_true]

theorem State.snapped_second (h : s.sup.newest.2 = false) (hpos : 0 < s.sup.newest.1) :
    s.snapped.sup = { s.sup with snap1 := some (s.snapshot ((s.sup.newest.1 + 1) % 2 ^ 32)) } := by
  unfold State.snapped
  simp only [h, Bool.false_or, State.supCnt, State.addWrap_eq, State.setFld_sup, State.stamp_sup, decide_eq_true_eq]
  rw [if_neg (Nat.pos_iff_ne_zero.1 hpos)]

theorem State.expire_sup (id : TimerId) : (s.expire id).sup = s.sup := by rw [State.expire_frame]

theorem exec_snapshotTimer_first (ha : s.armed .snapshot = true) (h : s.sup.newest.2 = true) :
    ∃ t, exec .snapshotTimer s = .next t ∧ (t.sup.snap0.map (·.seq)) = some ((s.sup.newest.1 + 1) % 2 ^ 32) ∧ t.sup.snap1 = s.sup.snap1 ∧
      t.armed .snapshot = true ∧ t.fld (F.supCntCount 9) = (s.fld (F.supCntCount 9) + 1) % 2 ^ 32 := by
  have hsup := State.snapped_first (s := s.expire .snapshot) (by rw [State.expire_sup]; exact h)
  have hcount := (s.expire .snapshot).snapped_count
  rw [State.expire_sup] at hsup
  rw [State.fld_expire] at hcount
  refine ⟨_, exec_snapshotTimer_armed ha, ?_, ?_, State.armed_arm _ _ _, (State.fld_arm _ _ _ _).trans hcount⟩
  · rw [State.arm_sup, hsup]
    rfl
  · rw [State.arm_sup, hsup]

theorem exec_snapshotTimer_second (ha : s.armed .snapshot = true) (h : s.sup.newest.2 = false) (hpos : 0 < s.sup.newest.1) :
    ∃ t, exec .snapshotTimer s = .next t ∧ (t.sup.snap1.map (·.seq)) = some ((s.sup.newest.1 + 1) % 2 ^ 32) ∧ t.sup.snap0 = s.sup.snap0 := by
  have hsup := State.snapped_second (s := s.expire .snapshot) (by rw [State.expire_sup]; exact h) (by rw [State.expire_sup]; exact hpos)
  rw [State.expire_sup] at hsup
  refine ⟨_, exec_snapshotTimer_armed ha, ?_, ?_⟩
  · rw [State.arm_sup, hsup]
    rfl
  · rw [State.arm_sup, hsup]

end

/-! ### Self-tests (R348, R358) -/

section
variable {s : State} {c n : Nat} {k : Cmd}

theorem State.noteTest_reports (hc : n ≤ 5) :
    (s.noteTest n).fld F.supStresCode = n ∧ (s.noteTest n).flag F.supStresPass = decide (n = 0) := by
  have hcode : n % 2 ^ 8 = n := Nat.mod_eq_of_lt (by omega)
  obtain ⟨u, hu⟩ : ∃ u, u = ((s.setFlag F.supStresValid).putFlag F.supStresPass (decide (n = 0))).setFld F.supStresCode n := ⟨_, rfl⟩
  have hputs : u.PutsOnly [F.supCntCount 7, F.supCntCount 8] (s.noteTest n) := by
    have hstamp : u.PutsOnly [F.supCntCount 7, F.supCntCount 8] (u.stamp Reg.supStres) := .of_regs rfl
    unfold State.noteTest
    simp only
    rw [← hu]
    split
    · exact hstamp.setFld (by decide) (by decide)
    · exact (hstamp.setFld (by decide) (by decide)).setFld (by decide) (by decide)
  rw [State.flag, hputs _ (by decide), hputs _ (by decide), hu]
  simp (disch := decide) only [State.putFlag_eq, State.setFlag_eq, State.fld_setFld_apart, State.fld_setFld]
  refine ⟨hcode, ?_⟩
  cases decide (n = 0) <;> rfl

/-- A passed test in the registers and in flag [3]. -/
def State.testPassed (s : State) : State :=
  ({ s.noteTest 0 with sup := { (s.noteTest 0).sup with stFail := false } } : State).setFlag F.supStatStbyok

theorem State.standbyResult_pass (retry : Bool) : s.standbyResult 0 retry = s.testPassed.noteC0.cancel .standbyRetry := by
  unfold State.standbyResult
  exact if_pos rfl

/-- A pass makes the core the standby and clears flag [3]. -/
theorem State.standbyResult_passes (retry : Bool) : (s.standbyResult 0 retry).flag F.supStatStbyok = true ∧
    (s.standbyResult 0 retry).sup.stFail = false ∧ (s.standbyResult 0 retry).armed .standbyRetry = false := by
  rw [State.standbyResult_pass]
  refine ⟨?_, ?_, State.armed_cancel _ _⟩
  · rw [State.flag, State.fld_cancel, State.fld_noteC0, State.testPassed, State.setFlag_eq, State.fld_setFld _ _ _ (by decide)]
    rfl
  · rw [State.cancel_sup, State.noteC0_sup]
    rfl

/-- A first failure is repeated after 1 s. -/
theorem State.standbyResult_fails (hc : n ≠ 0) : s.standbyResult n false = (s.noteTest n).arm .standbyRetry (nsSec 1) := by
  simp only [State.standbyResult, if_neg hc, Bool.false_eq_true, if_false]

/-- A second failure sets flag [3]. -/
theorem State.standbyResult_failsAgain (hc : n ≠ 0) : (s.standbyResult n true).flag F.supStatStbyok = false ∧
    (s.standbyResult n true).flag F.supStatStfailseen = true ∧ (s.standbyResult n true).sup.stFail = true := by
  have h : s.standbyResult n true = (((({ s.noteTest n with sup := { (s.noteTest n).sup with stFail := true } } : State).clrFlag F.supStatStbyok).setFlag
      F.supStatStfailseen).noteC0).event 0x0B02 n := by
    simp only [State.standbyResult, if_neg hc, if_true]
  rw [h]
  refine ⟨?_, ?_, ?_⟩
  · rw [State.flag_event _ _ _ _ _ _ _ (by decide) (by decide), State.flag, State.fld_noteC0]
    simp (disch := decide) only [State.clrFlag_eq, State.setFlag_eq, State.fld_setFld_apart, State.fld_setFld]
    rfl
  · rw [State.flag_event _ _ _ _ _ _ _ (by decide) (by decide), State.flag, State.fld_noteC0]
    simp (disch := decide) only [State.clrFlag_eq, State.setFlag_eq, State.fld_setFld]
    rfl
  · refine (Sup.stFail_of_core (State.event_supCore _ _ _ _ _ _)).trans ?_
    rw [State.noteC0_sup]
    rfl

theorem exec_standbySelfTest_passes {l : List (Nat × Nat)} (ha : s.armed .standbyTest = true) (hy : s.sup.yielded = none) :
    ∃ t, exec (.standbySelfTest 0 l) s = .next t ∧ t.flag F.supStatStbyok = true ∧ t.sup.stFail = false ∧ t.armed .standbyRetry = false := by
  have hrow : execStandbySelfTest 0 l s = _ := (if_pos (decide_eq_true (Nat.zero_le 5))).trans (onTimer_armed ha _)
  rw [State.expire_sup, hy] at hrow
  exact ⟨_, hrow, State.standbyResult_passes false⟩

theorem exec_standbySelfTest_fails {l : List (Nat × Nat)} (hlo : 1 ≤ n) (hhi : n ≤ 5) (ha : s.armed .standbyTest = true) (hy : s.sup.yielded = none) :
    ∃ t, exec (.standbySelfTest n l) s = .next t ∧ t.armed .standbyRetry = true ∧ t.fld F.supStresCode = n ∧ t.flag F.supStresPass = false := by
  have hrow : execStandbySelfTest n l s = _ := (if_pos (decide_eq_true hhi)).trans (onTimer_armed ha _)
  rw [State.expire_sup, hy] at hrow
  simp only [Option.isSome_none, Bool.false_eq_true, if_false] at hrow
  rw [State.standbyResult_fails (by omega)] at hrow
  obtain ⟨hcode, hpass⟩ := (((s.expire .standbyTest).arm .standbyTest (nsSec ((s.expire .standbyTest).fld F.supStestPeriod))).cmpTested l).noteTest_reports hhi
  refine ⟨_, hrow, State.armed_arm _ _ _, (State.fld_arm _ _ _ _).trans hcode, ?_⟩
  rw [State.flag, State.fld_arm]
  exact hpass.trans (decide_eq_false (by omega))

theorem exec_standbySelfTest_idle {l : List (Nat × Nat)} (hc : n ≤ 5) (ha : s.armed .standbyTest = false) : exec (.standbySelfTest n l) s = .next s := by
  have hrow : execStandbySelfTest n l s = _ := (if_pos (decide_eq_true hc)).trans (onTimer_unarmed ha _)
  exact hrow

theorem exec_standbyTestRetry_fails (hlo : 1 ≤ n) (hhi : n ≤ 5) (ha : s.armed .standbyRetry = true) :
    ∃ t, exec (.standbyTestRetry n) s = .next t ∧ t.flag F.supStatStbyok = false ∧ t.flag F.supStatStfailseen = true ∧ t.sup.stFail = true := by
  have hrow : execStandbyTestRetry n s = _ := (if_pos (decide_eq_true hhi)).trans (onTimer_armed ha _)
  exact ⟨_, hrow, State.standbyResult_failsAgain (by omega)⟩

theorem exec_standbyTestRetry_idle (hc : n ≤ 5) (ha : s.armed .standbyRetry = false) : exec (.standbyTestRetry n) s = .next s := by
  have hrow : execStandbyTestRetry n s = _ := (if_pos (decide_eq_true hc)).trans (onTimer_unarmed ha _)
  exact hrow

/-! ### CBh (R153) -/

theorem State.Stays.noteC0 (h : s.Stays c) : s.noteC0.Stays c := by
  unfold State.noteC0
  split
  · exact h
  · refine List.foldlRecOn _ _ (motive := fun t : State => t.Stays c) (h.congr rfl) fun t ht i _ => ?_
    split
    · exact ht.asyncEvent _ _ _ _
    · exact ht

theorem State.noteTest_q : (s.noteTest n).q = s.q := by
  unfold State.noteTest
  simp only
  split <;> rfl

theorem State.standbyResult_stays (h : s.Stays c) (retry : Bool) : (s.standbyResult 0 retry).Stays c := by
  have hq : s.testPassed.q = s.q := by rw [State.testPassed, State.setFlag_eq, State.setFld_q, State.q_withSup, State.noteTest_q]
  rw [State.standbyResult_pass]
  exact (h.congr hq).noteC0.congr (State.cancel_q _ _)

theorem exec_supervisorTestRun_ok (h : s.PfRuns c k) (hrole : s.mayAs k.fn .maker = true) :
    ∃ t, exec (.supervisorTestRun c 0 0) s = .next t ∧ t.Ended c St.ok 1 ∧ t.flag F.supStatStbyok = true := by
  have hrow : execSupervisorTestRun c 0 0 s = .next ((s.standbyResult 0 false).finish c St.ok 1) := onVendor_of_runs h hrole _
  refine ⟨_, hrow, (State.standbyResult_stays h.adminRuns.stays false).finish_ended _ _, ?_⟩
  rw [State.flag, State.fld_finish]
  exact (State.standbyResult_passes false).1

theorem exec_supervisorTestRun_badField {r : Nat} (h : s.PfRuns c k) (hrole : s.mayAs k.fn .maker = true) (hr : r ≠ 0) (hn : n ≤ 5) :
    ∃ t, exec (.supervisorTestRun c r n) s = .next t ∧ t.Ended c St.badField ∧ t.sup = s.sup := by
  have hrow : execSupervisorTestRun c r n s = _ := (if_pos (decide_eq_true hn)).trans (onVendor_of_runs h hrole _)
  rw [if_pos hr] at hrow
  exact ⟨_, hrow, h.adminRuns.finish_ended (by rfl) _, by rw [State.finish_frame]⟩

theorem exec_supervisorTestYield_yields (h : s.PfRuns c k) (hrole : s.mayAs k.fn .maker = true) :
    exec (.supervisorTestYield c 0) s = .next ((s.finish c St.ok).superYield 5) := by
  have hrow : execSupervisorTestYield c 0 s = _ := onVendor_of_runs h hrole _
  exact hrow

theorem exec_supervisorTestYield_refused {r : Nat} (h : s.PfRuns c k) (hrole : s.mayAs k.fn .maker = false) :
    ∃ t, exec (.supervisorTestYield c r) s = .next t ∧ t.Ended c St.roleRequired ∧ t.sup.yielded = s.sup.yielded := by
  have hrow : exec (.supervisorTestYield c r) s = .next ((s.deny 3 .maker k.fn k.sqe.opcode).finish c St.roleRequired) := onVendor_refused h hrole _
  refine ⟨_, hrow, h.adminRuns.finish_ended (State.cmd_congr c (State.deny_noted _ _ _ _).q) _, ?_⟩
  rw [State.finish_sup]
  exact Sup.yielded_of_core (State.deny_supCore _ _ _ _ _)

end

/-! ### The end of a switch-over (R353) -/

section
variable {s : State}

theorem State.takeControl_over (cause ms completed redone : Nat) (bad : Bool) :
    (s.takeControl cause ms bad completed redone).sup.yielded = none := by
  unfold State.takeControl
  extract_lets t₁ t₂ t₃ t₄ f g _ _ u
  have hu : u.sup.yielded = none := rfl
  clear_value u
  have hwatch : ∀ w : State, w.watch.sup = w.sup := fun _ => rfl
  refine (Sup.yielded_of_core (State.cfsRelease_supCore _)).trans ?_
  rw [State.applyPs_sup]
  refine (Sup.yielded_of_core (State.saveSettings_supCore _)).trans ?_
  rw [hwatch, State.noteC0_sup]
  exact (Sup.yielded_of_core (State.event_supCore _ _ _ _ _ _)).trans hu

theorem exec_switchOver_ends {ms done redone x c m : Nat} {bad : Bool} (hy : s.sup.yielded = some (c, m)) (ha : s.armed .standbyTest = false)
    (hms : ms ≤ 600) (hx : x ≤ 5) : ∃ t, exec (.switchOver ms bad done redone x) s = .next t ∧ t.sup.yielded = none := by
  have harmed : (s.advanceTo (m + nsMs ms)).armed .standbyTest = false := by
    rw [State.advanceTo_frame]
    exact ha
  have hrow : execSwitchOver ms bad done redone x s = .next (if (s.advanceTo (m + nsMs ms)).sup.yielded.isNone then s.advanceTo (m + nsMs ms)
      else (s.advanceTo (m + nsMs ms)).takeControl c ms bad done redone) := by
    unfold execSwitchOver
    rw [hy]
    dsimp -zeta only
    extract_lets u v
    have hv : v = u := if_neg (by simp [u, harmed])
    have hguard : (decide (ms ≤ 600) && testCode x) = true := by simp [hms, testCode, hx]
    rw [hv, hguard, guarded, if_pos rfl]
  have hsup : (s.advanceTo (m + nsMs ms)).sup.yielded = some (c, m) := by
    rw [State.advanceTo_frame]
    exact hy
  rw [hsup, Option.isNone_some, if_neg (by decide)] at hrow
  exact ⟨_, hrow, State.takeControl_over _ _ _ _ _⟩

theorem exec_switchOver_none {ms done redone x : Nat} {bad : Bool} (hy : s.sup.yielded = none) :
    exec (.switchOver ms bad done redone x) s = .fault .noSuchObject := by
  show execSwitchOver ms bad done redone x s = _
  rw [execSwitchOver, hy]

end

/-- Settles O22: each cause of a yield by `superYield_starts` or `superYield_again`; snapshots, self-tests and the end of the switch-over by their own
lemmas. -/
theorem supervisorRowsComplete : Obligations.SupervisorRowsComplete := by
  unfold Obligations.SupervisorRowsComplete
  refine ⟨fun s hfail hdump hy h4 => ⟨_, rfl, State.superYield_starts (by decide) hfail hdump hy h4⟩, ?selfCheck,
    fun s c m hfail hdump hy => ⟨_, rfl, State.superYield_again hfail hdump hy⟩,
    fun _ ha hfail hdump hy h4 => exec_supervisorWatchdog_yields ha hfail hdump hy h4, fun s ha => ?watchdogIdle,
    fun _ ha h => exec_snapshotTimer_first ha h, fun _ ha h hpos => exec_snapshotTimer_second ha h hpos, fun s ha => ?snapshotIdle,
    fun _ _ ha hy => exec_standbySelfTest_passes ha hy, fun _ _ _ hlo hhi ha hy => exec_standbySelfTest_fails hlo hhi ha hy,
    fun _ _ _ hc ha => exec_standbySelfTest_idle hc ha, fun _ _ hlo hhi ha => exec_standbyTestRetry_fails hlo hhi ha,
    fun _ _ hc ha => exec_standbyTestRetry_idle hc ha, fun _ _ _ h _ hrole => exec_supervisorTestRun_ok h hrole,
    fun _ _ _ _ _ h hrole hr hx => exec_supervisorTestRun_badField h hrole hr hx, fun _ _ _ h hrole => exec_supervisorTestYield_yields h hrole,
    fun _ _ _ _ h hrole => exec_supervisorTestYield_refused h hrole,
    fun _ _ _ _ _ _ _ _ hy ha hms hx => exec_switchOver_ends hy ha hms hx, fun _ _ _ _ _ _ hy => exec_switchOver_none hy⟩
  case selfCheck =>
    intro s c hc hfail hdump hy h4
    have hrow : execSupervisorSelfCheckFail c s = .next (s.superYield c) := by
      rw [execSupervisorSelfCheckFail, List.contains_iff_mem.2 hc]
      rfl
    have hlt : c < 8 := by
      simp only [List.mem_cons, List.not_mem_nil, or_false] at hc
      omega
    obtain ⟨hyielded, hcause, hrest, -⟩ := State.superYield_starts hlt hfail hdump hy h4
    exact ⟨_, hrow, hyielded, hcause, hrest⟩
  case watchdogIdle =>
    show execSupervisorWatchdog s = _
    exact onTimer_unarmed ha _
  case snapshotIdle =>
    show execSnapshotTimer s = _
    exact onTimer_unarmed ha _

end Sys2Proof.Machine
end

section
/-! SUPPORT. The rows of the power states and of patrol (R364 to R369, R373, R375, R376): what entry, its end and its abandonment set, what a sample and a
move between power states leave. -/

namespace Sys2Proof.Machine

/-! ### Moves between power states (R363, R364, R366) -/

section
variable (s : State)

theorem State.setPs_q (n : Nat) : (s.setPs n).q = s.q := by
  unfold State.setPs
  extract_lets ts t u
  split <;> rfl

theorem State.applyPs_q : s.applyPs.q = s.q := by
  unfold State.applyPs
  split
  · rfl
  · exact s.setPs_q _

/-- The fields that a move to a power state writes. -/
def psFields (n : Nat) : List Fld := [F.pwrStatPs, F.pwrCntCount n, F.pwrStatOdd]

theorem State.setPs_puts (n : Nat) : s.PutsOnly (psFields n) (s.setPs n) := by
  unfold State.setPs
  extract_lets ts _ t u
  have ht : s.PutsOnly (psFields n) t := .of_regs rfl
  have hu : s.PutsOnly (psFields n) u :=
    ((ht.setFld (by simp [psFields]) (by decide)).setFld (f := F.pwrCntCount n) (by simp [psFields]) (by simp only [F.pwrCntCount, Fld.sh, Reg.pwrCnt]; omega)).setFld (by simp [psFields])
      (by decide)
  split
  · exact hu.regs (State.arm_regs _ _ _)
  · exact hu.regs (State.cancel_regs _ _)

theorem State.setPs_ps {n : Nat} (hn : n = 3 ∨ n = 4) : (s.setPs n).fld F.pwrStatPs = n := by
  unfold State.setPs
  extract_lets ts _ t u
  have hu : u.fld F.pwrStatPs = n := by
    obtain rfl | rfl := hn
    · simp (disch := decide) only [u, State.addWrap_eq, State.clrFlag_eq, State.fld_setFld_apart, State.fld_setFld]
      rfl
    · simp (disch := decide) only [u, State.addWrap_eq, State.clrFlag_eq, State.fld_setFld_apart, State.fld_setFld]
      rfl
  rw [if_neg (by omega), State.fld_cancel]
  exact hu

end

section
variable {s : State} {fn : Nat}

theorem exec_apstIdleTimeout_moves (hrdy : (s.func fn).rdy = true) (hcmds : s.q.cmds = []) (haim : (s.func fn).apstTarget = 3 ∨ (s.func fn).apstTarget = 4) :
    ∃ t, exec (.apstIdleTimeout fn) s = .next t ∧ (t.func fn).psel = (s.func fn).apstTarget ∧ t.q = s.q := by
  have hrow : execApstIdleTimeout fn s = .next (s.setFunc fn { s.func fn with
      psel := (s.func fn).apstTarget, plast := if (s.func fn).psel ≤ 2 then (s.func fn).psel else (s.func fn).plast }).applyPs :=
    congrArg Host.Outcome.next (if_pos ⟨by simp [hrdy, hcmds], haim⟩)
  refine ⟨_, hrow, ?_, State.applyPs_q _⟩
  rw [State.func_applyPs, State.func_setFunc]

theorem exec_apstIdleTimeout_stays (h3 : (s.func fn).apstTarget ≠ 3) (h4 : (s.func fn).apstTarget ≠ 4) :
    exec (.apstIdleTimeout fn) s = .next s := by
  have hrow : execApstIdleTimeout fn s = .next s := congrArg Host.Outcome.next (if_neg fun h => h.2.elim h3 h4)
  exact hrow

end

/-! ### Entry (R366, R367) -/

section
variable {s : State} {b : List Nat} {e : Nat × Nat}

theorem exec_powerStateEntry_begins (he : s.pwr.entry = none) (haim : 3 ≤ s.chosenPs) (hps : s.ps ≤ 2) (hwait : s.entryWaits = false) :
    ∃ t, exec (.powerStateEntry b) s = .next t ∧ t.pwr.entry = some (s.chosenPs, s.clk.mono) ∧ t.q.fetchStop = true ∧ t.fld F.pwrStatStep = 1 := by
  have hrow : execPowerStateEntry b s = .next (({ s with
      pwr := { s.pwr with entry := some (s.chosenPs, s.clk.mono) }
      q := { s.q with fetchStop := true } } : State).setFld F.pwrStatStep 1) := by
    rw [execPowerStateEntry, he]
    simp only [decide_eq_true haim, decide_eq_true hps, hwait, Bool.and_self, guarded, if_true, Bool.false_eq_true, if_false]
  exact ⟨_, hrow, rfl, rfl, State.fld_setFld _ _ _ (by decide)⟩

theorem exec_powerStateEntry_waits (he : s.pwr.entry = none) (haim : 3 ≤ s.chosenPs) (hps : s.ps ≤ 2) (hwait : s.entryWaits = true) :
    exec (.powerStateEntry b) s = .next s := by
  show execPowerStateEntry b s = _
  rw [execPowerStateEntry, he]
  simp only [decide_eq_true haim, decide_eq_true hps, hwait, Bool.and_self, guarded, if_true]

theorem exec_powerStateEntry_drains (he : s.pwr.entry = some e) (hstep : s.fld F.pwrStatStep = 1) :
    ∃ t, exec (.powerStateEntry b) s = .next t ∧ t.fld F.pwrStatStep = 2 ∧ t.armed .drain = true := by
  have hrow : execPowerStateEntry b s = .next ((s.setFld F.pwrStatStep 2).arm .drain (nsMs (10 * s.fld F.pwrCtlDrain))) := by
    rw [execPowerStateEntry, he]
    simp only [hstep]
  exact ⟨_, hrow, (State.fld_arm _ _ _ _).trans (State.fld_setFld _ _ _ (by decide)), State.armed_arm _ _ _⟩

theorem exec_powerStateEntry_saves (he : s.pwr.entry = some e) (hstep : s.fld F.pwrStatStep = 2) (hdrained : s.drainedAll = true) :
    exec (.powerStateEntry b) s = .next (s.entrySave e.1 b) := by
  show execPowerStateEntry b s = _
  rw [execPowerStateEntry, he]
  simp only [hstep, hdrained, if_true]

theorem exec_powerStateEntry_refreshes (he : s.pwr.entry = some e) (hstep : s.fld F.pwrStatStep = 3) :
    ∃ t, exec (.powerStateEntry b) s = .next t ∧ t.fld F.pwrStatStep = 4 ∧ t.flag F.hbmStatSref = true := by
  have hrow : execPowerStateEntry b s = .next ((s.setFld F.pwrStatStep 4).setFlag F.hbmStatSref) := by
    rw [execPowerStateEntry, he]
    simp only [hstep]
  refine ⟨_, hrow, ?_, State.flag_setFld_one _ _ (by decide) (by decide)⟩
  rw [State.setFlag_eq, State.fld_setFld_apart _ _ _ _ (by decide) (by decide), State.fld_setFld _ _ _ (by decide)]
  rfl

/-! ### The record of an entry attempt and the end of entry (R367, R368, R373) -/

/-- The registers of PWR_ENTHIST. -/
def entryLog : List Nat := (List.range 8).map Reg.pwrEnthist

theorem State.shiftLog_writes (reg : Nat → Nat) (n : Nat) : s.WritesOnly ((List.range n).map reg) (s.shiftLog reg n) := by
  refine State.WritesOnly.foldl _ _ s fun u i hi => ?_
  have hmem : reg (n - 1 - i) ∈ (List.range n).map reg := by
    rw [List.mem_range] at hi
    exact List.mem_map_of_mem (List.mem_range.2 (by omega))
  dsimp only
  split
  · exact (State.WritesOnly.setWord _ _ hmem).trans (.of_eq rfl rfl)
  · exact (State.WritesOnly.setWord _ _ hmem).trans (.of_eq rfl rfl)

theorem State.logEntry_writes (target reached cause : Nat) : s.WritesOnly entryLog (s.logEntry target reached cause) := by
  unfold State.logEntry
  extract_lets t u
  have ht : s.WritesOnly entryLog t := s.shiftLog_writes Reg.pwrEnthist 8
  have hu : t.WritesOnly entryLog u :=
    ((State.WritesOnly.setFld (F.pwrEnthistValid 0) 1 (by decide)).trans (.setFld (F.pwrEnthistTarget 0) target (by decide))).trans
      (.setFld (F.pwrEnthistReached 0) reached (by decide))
  exact ((ht.trans hu).trans (.setFld (F.pwrEnthistCause 0) cause (by decide))).trans (.of_eq (State.stamp_regs _ _) (State.stamp_fl _ _))

theorem State.requestVolts_puts (mv : Nat) : s.PutsOnly [F.paceVstatReq] (s.requestVolts mv) := by
  unfold State.requestVolts
  split
  · exact .refl _ _
  · exact ((State.PutsOnly.refl _ s).setFld (by decide) (by decide)).regs rfl

theorem State.sendLtr_puts (fs : List Fld) (us : Nat) : s.PutsOnly fs (s.sendLtr us) :=
  (State.PutsOnly.refl _ s).foldl fun u p => by
    split
    · exact .of_regs rfl
    · exact .refl _ _

/-- The end of entry up to the clearing of the attempt: the log, the step, the state, the voltage, LTR and the times. -/
def State.entryLeft (s : State) (target begun : Nat) : State :=
  let t := ((s.setFld F.pwrStatLastop s.ps).logEntry target 5 15).setFld F.pwrStatStep 0
  let t := ((t.setPs target).requestVolts 650).sendLtr (if target = 3 then 5000 else 40000)
  (t.putSat F.pwrEntryMs ((t.clk.mono - begun) / 1000000)).putSat F.pwrEntryDrainms ((t.pwr.drained - begun) / 1000000)

theorem State.entryLeft_reports {target : Nat} (begun : Nat) (ht : target = 3 ∨ target = 4) :
    (s.entryLeft target begun).fld F.pwrStatPs = target ∧ (s.entryLeft target begun).fld F.pwrStatStep = 0 := by
  unfold State.entryLeft
  extract_lets t u
  have hstep : t.fld F.pwrStatStep = 0 := State.fld_setFld _ _ _ (by decide)
  have hps := t.setPs_ps ht
  have hputs := t.setPs_puts target
  have hu : (t.setPs target).PutsOnly [F.paceVstatReq] u := (State.requestVolts_puts 650).trans (State.sendLtr_puts _ _)
  clear_value u t
  have hsteps : (psFields target).all (fun f => F.pwrStatStep.apart f) = true := by
    obtain rfl | rfl := ht <;> decide
  simp (disch := decide) only [State.putSat_eq, State.fld_setFld_apart]
  rw [hu _ (by decide), hu _ (by decide), hps, hputs _ hsteps, hstep]
  exact ⟨rfl, rfl⟩

theorem State.fld_withPwr (w : State) (p : Pwr) (f : Fld) : ({ w with pwr := p } : State).fld f = w.fld f := State.fld_congr (t := w) f rfl

/-- The attempt over: no entry, and no return of R375 noted. -/
def State.entryOver (s : State) (target begun : Nat) : State :=
  { s.entryLeft target begun with pwr := { (s.entryLeft target begun).pwr with entry := none, back := none } }

theorem State.entryEnd_eq (target begun : Nat) : s.entryEnd target begun =
    if target = 4 then (s.entryOver target begun).arm .patrol (nsSec ((s.entryOver target begun).fld F.patCtlPeriod))
    else (s.entryOver target begun).arm .ps3Sensor (nsSec ((s.entryOver target begun).fld F.patCtlPeriod)) := rfl

theorem State.entryOver_reports {target : Nat} (begun : Nat) (ht : target = 3 ∨ target = 4) : (s.entryOver target begun).pwr.entry = none ∧
    (s.entryOver target begun).fld F.pwrStatPs = target ∧ (s.entryOver target begun).fld F.pwrStatStep = 0 := by
  obtain ⟨hps, hstep⟩ := s.entryLeft_reports begun ht
  exact ⟨rfl, (State.fld_withPwr _ _ _).trans hps, (State.fld_withPwr _ _ _).trans hstep⟩

theorem exec_powerStateEntry_ends (he : s.pwr.entry = some e) (hstep : s.fld F.pwrStatStep = 4) (haim : e.1 = 3 ∨ e.1 = 4) :
    ∃ t, exec (.powerStateEntry b) s = .next t ∧ t.pwr.entry = none ∧ t.fld F.pwrStatPs = e.1 ∧ t.fld F.pwrStatStep = 0 ∧
      t.armed (if e.1 = 4 then .patrol else .ps3Sensor) = true := by
  have hrow : execPowerStateEntry b s = .next ((s.setFld F.pwrStatStep 5).entryEnd e.1 e.2) := by
    rw [execPowerStateEntry, he]
    simp only [hstep]
  obtain ⟨hentry, hps, hzero⟩ := (s.setFld F.pwrStatStep 5).entryOver_reports e.2 haim
  rw [State.entryEnd_eq] at hrow
  generalize (s.setFld F.pwrStatStep 5).entryOver e.1 e.2 = w at *
  split at hrow
  next h4 => exact ⟨_, hrow, hentry, (State.fld_arm _ _ _ _).trans hps, (State.fld_arm _ _ _ _).trans hzero, by rw [if_pos h4]; exact State.armed_arm _ _ _⟩
  next h4 => exact ⟨_, hrow, hentry, (State.fld_arm _ _ _ _).trans hps, (State.fld_arm _ _ _ _).trans hzero, by rw [if_neg h4]; exact State.armed_arm _ _ _⟩

end

/-! ### Entry abandoned (R368) -/

section
variable {s : State} {e : Nat × Nat} {cause : Nat}

/-- The attempt dropped: logged, fetch resumed, the flags of its steps cleared. -/
def State.entryDropped (s : State) (target cause : Nat) : State :=
  let t := (s.logEntry target (s.fld F.pwrStatStep) cause).cancel .drain
  let t : State := { t with pwr := { t.pwr with entry := none, saved := none }, q := { t.q with fetchStop := false } }
  (((t.setFld F.pwrStatStep 0).setFlag F.pwrStatAbortseen).clrFlag F.pwrSaveValid).clrFlag F.hbmStatSref

/-- The supervisor watched again where its watch had been paused. -/
def State.entryAbandoned (s : State) (target cause : Nat) : State :=
  if s.fld F.pwrStatStep ≤ 2 then s.entryDropped target cause else (s.entryDropped target cause).watch

theorem State.abandonEntry_eq (he : s.pwr.entry = some e) : s.abandonEntry cause =
    if cause = 8 then ((s.entryAbandoned e.1 cause).setFlag F.pwrStatDrainseen).pwrCnt 6
    else if cause = 9 then (s.entryAbandoned e.1 cause).pwrCnt 7 else (s.entryAbandoned e.1 cause).pwrCnt 5 := by
  rw [State.abandonEntry, he]
  rfl

theorem State.watch_pwr (s : State) : s.watch.pwr = s.pwr := by simp only [State.watch, State.arm_pwr]
theorem State.watch_q (s : State) : s.watch.q = s.q := by simp only [State.watch, State.arm_q]
theorem State.watch_hif (s : State) : s.watch.hif = s.hif := by simp only [State.watch, State.arm_hif]
theorem State.fld_watch (s : State) (f : Fld) : s.watch.fld f = s.fld f := by simp only [State.watch, State.fld_arm]

theorem State.entryDropped_reports (target : Nat) : (s.entryDropped target cause).pwr.entry = none ∧ (s.entryDropped target cause).q.fetchStop = false ∧
    (s.entryDropped target cause).hif = s.hif ∧ (s.entryDropped target cause).fld F.pwrStatStep = 0 ∧
    (s.entryDropped target cause).flag F.pwrStatAbortseen = true ∧
    (s.entryDropped target cause).fld (F.pwrCntCount 6) = s.fld (F.pwrCntCount 6) := by
  unfold State.entryDropped
  extract_lets t _ _ u
  have ht : s.WritesOnly entryLog t := (State.logEntry_writes _ _ _).trans (.of_eq (State.cancel_regs _ _) (State.cancel_fl _ _))
  have hhif : t.hif = s.hif := by
    simp only [t, State.logEntry, State.cancel_hif, State.stamp_hif, State.setFld_hif]
    rw [State.shiftLog_frame]
  have hcount := ht.fld (F.pwrCntCount 6) (by decide)
  clear_value t
  have hregs : u.regs = t.regs := rfl
  have hentry : u.pwr.entry = none := rfl
  have hfetch : u.q.fetchStop = false := rfl
  have huhif : u.hif = t.hif := rfl
  clear_value u
  simp only [State.setFlag_eq, State.clrFlag_eq, State.setFld_pwr, State.setFld_q, State.setFld_hif]
  refine ⟨hentry, hfetch, huhif.trans hhif, ?_⟩
  simp (disch := decide) only [State.flag, State.fld_setFld_apart, State.fld_setFld]
  exact ⟨rfl, rfl, (State.fld_congr _ hregs).trans hcount⟩

theorem State.entryAbandoned_reports (target : Nat) :
    (s.entryAbandoned target cause).pwr.entry = none ∧ (s.entryAbandoned target cause).q.fetchStop = false ∧
    (s.entryAbandoned target cause).hif = s.hif ∧ (s.entryAbandoned target cause).fld F.pwrStatStep = 0 ∧
    (s.entryAbandoned target cause).flag F.pwrStatAbortseen = true ∧
    (s.entryAbandoned target cause).fld (F.pwrCntCount 6) = s.fld (F.pwrCntCount 6) := by
  have h := s.entryDropped_reports (cause := cause) target
  unfold State.entryAbandoned
  generalize s.entryDropped target cause = w at *
  split
  · exact h
  · obtain ⟨hentry, hfetch, hhif, hstep, habort, hcount⟩ := h
    rw [State.flag] at habort ⊢
    simp only [State.fld_watch, State.watch_pwr, State.watch_q, State.watch_hif]
    exact ⟨hentry, hfetch, hhif, hstep, habort, hcount⟩

theorem exec_drainLimit_abandons (ha : s.armed .drain = true) (he : s.pwr.entry = some e) :
    ∃ t, exec .drainLimit s = .next t ∧ t.pwr.entry = none ∧ t.flag F.pwrStatDrainseen = true ∧ t.flag F.pwrStatAbortseen = true ∧
      t.q.fetchStop = false ∧ t.fld (F.pwrCntCount 6) = (s.fld (F.pwrCntCount 6) + 1) % 2 ^ 32 := by
  have hrow : execDrainLimit s = .next ((s.expire .drain).abandonEntry 8) := onTimer_armed ha _
  have he' : (s.expire .drain).pwr.entry = some e := by
    rw [State.expire_frame]
    exact he
  obtain ⟨hentry, hfetch, -, -, habort, hcount⟩ := (s.expire .drain).entryAbandoned_reports (cause := 8) e.1
  rw [State.abandonEntry_eq he', if_pos rfl] at hrow
  rw [State.fld_expire] at hcount
  generalize (s.expire .drain).entryAbandoned e.1 8 = w at *
  refine ⟨_, hrow, hentry, ?_, ?_, hfetch, ?_⟩
  · simp (disch := decide) only [State.flag, State.pwrCnt, State.addWrap_eq, State.setFlag_eq, State.fld_setFld_apart, State.fld_setFld]
    rfl
  · rw [← habort]
    simp (disch := decide) only [State.flag, State.pwrCnt, State.addWrap_eq, State.setFlag_eq, State.fld_setFld_apart]
  · rw [← hcount]
    simp (disch := decide) only [State.pwrCnt, State.addWrap_eq, State.setFlag_eq, State.fld_setFld_apart, State.fld_setFld]
    rfl

/-! ### Wakes (R368, R369) -/

/-- With no BAR2 write held, a wake ends as it is. -/
theorem State.applyBarHeld_of_empty (h : s.hif.held = []) : s.applyBarHeld = s := by
  have hhif : ({ s.hif with held := [] } : Hif) = s.hif := by rw [← h]
  unfold State.applyBarHeld
  split
  · rfl
  · rw [h, hhif]
    rfl

theorem exec_wake_eq (d : Nat) (ok : Bool) (hc : cause ≤ 5) (hps : s.ps ≠ 4) : exec (.wake cause d ok) s = .next (s.wakeUp cause d ok) := by
  show execWake cause d ok s = _
  rw [execWake, decide_eq_true hc, decide_eq_false hps, Bool.and_false]
  rfl

theorem exec_wake_awake (d : Nat) (ok : Bool) (hc : cause ≤ 5) (he : s.pwr.entry = none) (hps : s.ps ≤ 2) (hheld : s.hif.held = []) :
    exec (.wake cause d ok) s = .next s := by
  rw [exec_wake_eq d ok hc (by omega), State.wakeUp, State.wake, he, Option.isSome_none, if_neg (by decide), if_pos hps,
    State.applyBarHeld_of_empty hheld]

theorem exec_wake_abandons (d : Nat) (ok : Bool) (hc : cause ≤ 5) (he : s.pwr.entry = some e) (hps : s.ps ≤ 2) (hheld : s.hif.held = []) :
    ∃ t, exec (.wake cause d ok) s = .next t ∧ t.pwr.entry = none ∧ t.fld F.pwrStatStep = 0 ∧ t.flag F.pwrStatAbortseen = true ∧
      t.q.fetchStop = false := by
  have hrow := exec_wake_eq d ok hc (s := s) (by omega)
  obtain ⟨hentry, hfetch, hhif, hstep, habort, -⟩ := s.entryAbandoned_reports (cause := cause) e.1
  rw [State.wakeUp, State.wake, he, Option.isSome_some, if_pos rfl, State.abandonEntry_eq he, if_neg (by omega), if_neg (by omega)] at hrow
  generalize s.entryAbandoned e.1 cause = w at *
  rw [State.applyBarHeld_of_empty (s := w.pwrCnt 5) ((congrArg Hif.held hhif).trans hheld)] at hrow
  have hputs : w.PutsOnly [F.pwrCntCount 5] (w.pwrCnt 5) := (State.PutsOnly.refl _ w).setFld (by decide) (by decide)
  exact ⟨_, hrow, hentry, (hputs _ (by decide)).trans hstep, (hputs.flag _ (by decide)).trans habort, hfetch⟩

end

/-! ### PS2's halves and PS3's samples (R364, R373) -/

section
variable {s : State} {l : List Nat} {h : Bool}

theorem exec_ps2SlotTimer_turns (ha : s.armed .ps2Slot = true) :
    ∃ t, exec .ps2SlotTimer s = .next t ∧ t.flag F.pwrStatOdd = !s.flag F.pwrStatOdd ∧ t.armed .ps2Slot = true ∧
      t.fld (F.pwrCntCount 15) = (s.fld (F.pwrCntCount 15) + 1) % 2 ^ 32 ∧ t.fl = s.fl := by
  have hrow : execPs2SlotTimer s = _ := onTimer_armed ha _
  refine ⟨_, hrow, ?_, State.armed_arm _ _ _, ?_, ?_⟩
  · rw [State.flag, State.fld_arm, State.pwrCnt, State.addWrap_eq, State.putFlag_eq, State.flag_expire,
      State.fld_setFld_apart _ _ _ _ (by decide) (by decide), State.fld_setFld _ _ _ (by decide)]
    cases s.flag F.pwrStatOdd <;> rfl
  · rw [State.fld_arm, State.pwrCnt, State.fld_addWrap _ _ _ (by decide), State.putFlag_eq,
      State.fld_setFld_apart _ _ _ _ (by decide) (by decide), State.fld_expire]
    rfl
  · rw [State.arm_fl, State.pwrCnt, State.addWrap_eq, State.setFld_fl, State.putFlag_eq, State.setFld_fl, State.expire_frame]

/-- The registers of the temperature sensors (R145). -/
def tempRegs : List Nat := (List.range 8).map Reg.sknTemp ++ (List.range 4).map Reg.hbmStack

theorem State.setTemp_writes (i c : Nat) : s.WritesOnly tempRegs (s.setTemp i c) := by
  unfold State.setTemp
  extract_lets _ t
  have ht : s.WritesOnly tempRegs t := .of_eq rfl rfl
  split
  next hi =>
    refine ht.trans (.setFld _ _ ?_)
    obtain ⟨j, rfl, hj⟩ : ∃ j, i = j + 1 ∧ j < 8 := ⟨i - 1, by omega, by omega⟩
    interval_cases j <;> decide
  next =>
    split
    next hi =>
      refine ht.trans (.setFld _ _ ?_)
      obtain ⟨j, rfl, hj⟩ : ∃ j, i = j + 9 ∧ j < 4 := ⟨i - 9, by omega, by omega⟩
      interval_cases j <;> decide
    next => exact ht

/-- What a sample brings: the low level it saw, the highest temperature, and no count of R384 but CNT[8]. -/
theorem State.sample_reports : (s.sample l h).pwr.lowLast = !h ∧ (s.sample l h).fld F.patTempHighest = (hottest l).1 % 256 ∧
    (s.sample l h).fld (F.patCntCount 11) = s.fld (F.patCntCount 11) := by
  unfold State.sample
  extract_lets hot t _ u v
  have ht : s.WritesOnly tempRegs t := State.WritesOnly.foldl _ _ s fun w i _ => State.setTemp_writes _ _
  have hcount := ht.fld (F.patCntCount 11) (by decide)
  clear_value t
  have hlow : u.pwr.lowLast = !h := rfl
  have hhot : u.fld F.patTempHighest = hot.1 % 256 := by
    rw [State.fld_setFld_apart _ _ _ _ (by decide) (by decide), State.fld_setFld _ _ _ (by decide)]
    rfl
  have hu : u.fld (F.patCntCount 11) = s.fld (F.patCntCount 11) := by
    rw [State.fld_setFld_apart _ _ _ _ (by decide) (by decide), State.fld_setFld_apart _ _ _ _ (by decide) (by decide), State.fld_withPwr, hcount]
  clear_value u
  have hv : u.PutsOnly [F.patHoldSamples, F.lifStatHoldok] v := ((State.PutsOnly.refl _ u).setFld (by decide) (by decide)).setFld (by decide) (by decide)
  have hvlow : v.pwr = u.pwr := rfl
  have hvhot := (hv _ (by decide)).trans hhot
  have hvu := (hv _ (by decide)).trans hu
  clear_value v
  split
  · exact ⟨(congrArg Pwr.lowLast hvlow).trans hlow, hvhot, hvu⟩
  · refine ⟨(congrArg Pwr.lowLast hvlow).trans hlow, ?_, ?_⟩
    · rw [← hvhot]
      simp (disch := decide) only [State.patCnt, State.addWrap_eq, State.addSat_eq, State.setFlag_eq, State.fld_setFld_apart]
    · rw [← hvu]
      simp (disch := decide) only [State.patCnt, State.addWrap_eq, State.addSat_eq, State.setFlag_eq, State.fld_setFld_apart]

theorem exec_ps3SensorSample_samples (hl : l.length = 13) (ha : s.armed .ps3Sensor = true) :
    ∃ t, exec (.ps3SensorSample l h) s = .next t ∧ t.pwr.lowLast = !h ∧ t.armed .ps3Sensor = true ∧ t.fld F.patTempHighest = (hottest l).1 % 256 ∧
      t.fld (F.patCntCount 11) = (s.fld (F.patCntCount 11) + 1) % 2 ^ 32 := by
  have hrow : execPs3SensorSample l h s = _ := (if_neg (not_not_intro hl)).trans (onTimer_armed ha _)
  obtain ⟨hlow, hhot, hcount⟩ := (s.expire .ps3Sensor).sample_reports (l := l) (h := h)
  rw [State.fld_expire] at hcount
  generalize (s.expire .ps3Sensor).sample l h = w at *
  refine ⟨_, hrow, hlow, State.armed_arm _ _ _, ?_, ?_⟩
  · rw [State.fld_arm, State.patCnt, State.addWrap_eq, State.fld_setFld_apart _ _ _ _ (by decide) (by decide), hhot]
  · rw [State.fld_arm, State.patCnt, State.fld_addWrap _ _ _ (by decide), hcount]
    rfl

theorem exec_ps3SensorSample_idle (hl : l.length = 13) (ha : s.armed .ps3Sensor = false) : exec (.ps3SensorSample l h) s = .next s := by
  have hrow : execPs3SensorSample l h s = _ := (if_neg (not_not_intro hl)).trans (onTimer_unarmed ha _)
  exact hrow

/-! ### Patrol (R373, R375, R376) -/

theorem exec_patrolWake_armed (cs : List (Bool × Nat × Nat)) (us d : Nat) (ok : Bool) (hl : l.length = 13) (ha : s.armed .patrol = true) :
    exec (.patrolWake l h cs us d ok) s = .next (if ((s.expire .patrol).patrol l h cs us).1
      then ((s.expire .patrol).patrol l h cs us).2.wakeUp 2 d ok
      else ((s.expire .patrol).patrol l h cs us).2.arm .patrol (nsSec (((s.expire .patrol).patrol l h cs us).2.fld F.patCtlPeriod))) := by
  have hrow : execPatrolWake l h cs us d ok s = _ := (if_neg (not_not_intro hl)).trans (onTimer_armed ha _)
  exact hrow

theorem exec_patrolWake_idle (cs : List (Bool × Nat × Nat)) (us d : Nat) (ok : Bool) (hl : l.length = 13) (ha : s.armed .patrol = false) :
    exec (.patrolWake l h cs us d ok) s = .next s := by
  have hrow : execPatrolWake l h cs us d ok s = _ := (if_neg (not_not_intro hl)).trans (onTimer_unarmed ha _)
  exact hrow

end

section
variable {s : State} {c p f a r x : Nat} {k : Cmd}

theorem State.saveSettings_puts (s : State) : s.PutsOnly [F.genCfgpendPend] s.saveSettings :=
  ((State.PutsOnly.refl _ s).setFld (by decide) (by decide)).cfsRequest

/-- The PAT registers as CAh sets them (R376). -/
def State.patrolSet (s : State) (p f a r : Nat) : State :=
  ((((s.setFld F.patCtlPeriod p).setFld F.patCtlCanen (f % 2)).setFld F.patCtlHoldesc (f / 2)).setFld F.patThrAbs a).setFld F.patThrRise r

theorem State.patrolSet_reports (hp : p ≤ 3600) (hf : f ≤ 3) (ha : a ≤ 1000) (hr : r ≤ 500) :
    (s.patrolSet p f a r).fld F.patCtlPeriod = p ∧ (s.patrolSet p f a r).fld F.patCtlCanen = f % 2 ∧
      (s.patrolSet p f a r).fld F.patCtlHoldesc = f / 2 ∧ (s.patrolSet p f a r).fld F.patThrAbs = a ∧ (s.patrolSet p f a r).fld F.patThrRise = r := by
  simp (disch := decide) only [State.patrolSet, State.fld_setFld_apart, State.fld_setFld, F.patCtlPeriod, F.patCtlCanen, F.patCtlHoldesc, F.patThrAbs,
    F.patThrRise]
  omega

theorem exec_patrolConfigure_ok (h : s.PfRuns c k) (hrole : s.mayAs k.fn .operator = true) (hsup : s.SupervisorFree) (hp1 : 1 ≤ p) (hp : p ≤ 3600)
    (hf : f ≤ 3) (ha1 : 64 ≤ a) (ha : a ≤ 1000) (hr1 : 16 ≤ r) (hr : r ≤ 500) :
    ∃ t, exec (.patrolConfigure c p f a r 0) s = .next t ∧ t.Ended c St.ok ∧ t.fld F.patCtlPeriod = p ∧ t.fld F.patCtlCanen = f % 2 ∧
      t.fld F.patCtlHoldesc = f / 2 ∧ t.fld F.patThrAbs = a ∧ t.fld F.patThrRise = r := by
  have hrow : execPatrolConfigure c p f a r 0 s = _ := onVendor_of_served h hrole hsup _
  rw [if_neg (by omega)] at hrow
  have hset : execPatrolConfigure c p f a r 0 s = .next (((s.noteGated 0xCA p k.fn).patrolSet p f a r).saveSettings.finish c St.ok) := hrow
  obtain ⟨hper, hcan, hhold, habs, hrise⟩ := (s.noteGated 0xCA p k.fn).patrolSet_reports hp hf ha hr
  have hq : ((s.noteGated 0xCA p k.fn).patrolSet p f a r).q = s.q := by simp only [State.patrolSet, State.setFld_q, State.noteGated_q]
  generalize (s.noteGated 0xCA p k.fn).patrolSet p f a r = w at *
  have hputs := w.saveSettings_puts
  refine ⟨_, hset, h.adminRuns.finish_ended (State.cmd_congr c (w.saveSettings_q.trans hq)) _, ?_⟩
  simp only [State.fld_finish]
  rw [hputs _ (by decide), hputs _ (by decide), hputs _ (by decide), hputs _ (by decide), hputs _ (by decide)]
  exact ⟨hper, hcan, hhold, habs, hrise⟩

theorem exec_patrolConfigure_badField (h : s.PfRuns c k) (hrole : s.mayAs k.fn .operator = true) (hsup : s.SupervisorFree) :
    ∃ t, exec (.patrolConfigure c 0 f a r 0) s = .next t ∧ t.Ended c St.badField ∧ t.regs = s.regs := by
  have hrow : execPatrolConfigure c 0 f a r 0 s = _ := onVendor_of_served h hrole hsup _
  rw [if_pos (Or.inl rfl)] at hrow
  exact ⟨_, hrow, h.adminRuns.finish_ended (by rfl) _, by rw [State.finish_frame]⟩

/-- The fields of a refusal (R451, R465). -/
def denyFields : List Fld :=
  [F.secStatDenyseen, F.secDenylogValid, F.secDenylogSrc, F.secDenylogNeed, F.secDenylogFunc, F.secDenylogTarget, F.evwDropCount, F.evwStatDropseen,
   F.secCntCount 11, F.secCntCount 12, F.secCntCount 13]

theorem State.deny_puts (s : State) (src : Nat) (need : Role) (fn target : Nat) : s.PutsOnly denyFields (s.deny src need fn target) := by
  unfold State.deny
  extract_lets t u v w
  have ht : s.PutsOnly denyFields t := ((State.PutsOnly.refl _ s).setFld (by decide) (by decide)).setFld (by decide) (by decide)
  have hu : s.PutsOnly denyFields u := ((ht.setFld (by decide) (by decide)).setFld (by decide) (by decide)).setFld (by decide) (by decide)
  have hw : s.PutsOnly denyFields w := (hu.setFld (by decide) (by decide)).event (by decide)
  split
  · exact hw.setFld (by decide) (by decide)
  · exact hw.setFld (by decide) (by decide)
  · exact hw.setFld (by decide) (by decide)

theorem exec_patrolConfigure_refused (h : s.PfRuns c k) (hrole : s.mayAs k.fn .operator = false) :
    ∃ t, exec (.patrolConfigure c p f a r x) s = .next t ∧ t.Ended c St.roleRequired ∧ t.fld F.patCtlPeriod = s.fld F.patCtlPeriod := by
  have hrow : exec (.patrolConfigure c p f a r x) s = .next ((s.deny 3 .operator k.fn k.sqe.opcode).finish c St.roleRequired) :=
    onVendor_refused h hrole _
  exact ⟨_, hrow, h.adminRuns.finish_ended (State.cmd_congr c (s.deny_noted _ _ _ _).q) _,
    (State.fld_finish _ _ _ _ _).trans (s.deny_puts _ _ _ _ _ (by decide))⟩

end

/-- Settles O23: APST, each step of entry, its abandonment, wakes, samples, patrol and CAh by their own lemmas. -/
theorem powerStateRowsComplete : Obligations.PowerStateRowsComplete := by
  unfold Obligations.PowerStateRowsComplete
  refine ⟨fun _ _ hrdy hcmds haim => exec_apstIdleTimeout_moves hrdy hcmds haim, fun _ _ h3 h4 => exec_apstIdleTimeout_stays h3 h4,
    fun _ _ he haim hps hw => exec_powerStateEntry_begins he haim hps hw, fun _ _ he haim hps hw => exec_powerStateEntry_waits he haim hps hw,
    fun _ _ _ he hstep => exec_powerStateEntry_drains he hstep, fun _ _ _ he hstep hd => exec_powerStateEntry_saves he hstep hd,
    fun _ _ _ he hstep => exec_powerStateEntry_refreshes he hstep, fun _ _ _ he hstep haim => exec_powerStateEntry_ends he hstep haim,
    fun _ _ ha he => exec_drainLimit_abandons ha he, fun s ha => ?drainIdle,
    fun _ _ d ok hc he hps hheld => exec_wake_awake d ok hc he hps hheld,
    fun _ _ d ok _ hc he hps hheld => exec_wake_abandons d ok hc he hps hheld,
    fun _ _ d ok hc hps => exec_wake_eq d ok hc (by omega), fun _ ha => exec_ps2SlotTimer_turns ha, fun s ha => ?slotIdle,
    fun _ _ _ hl ha => exec_ps3SensorSample_samples hl ha, fun _ _ _ hl ha => exec_ps3SensorSample_idle hl ha,
    fun _ _ _ cs us d ok hl ha => exec_patrolWake_armed cs us d ok hl ha, fun _ _ _ cs us d ok hl ha => exec_patrolWake_idle cs us d ok hl ha,
    fun _ _ _ _ _ _ _ h hrole hsup hp1 hp hf ha1 ha hr1 hr => exec_patrolConfigure_ok h hrole hsup hp1 hp hf ha1 ha hr1 hr,
    fun _ _ _ _ _ _ h hrole hsup => exec_patrolConfigure_badField h hrole hsup,
    fun _ _ _ _ _ _ _ _ h hrole => exec_patrolConfigure_refused h hrole⟩
  case drainIdle =>
    show execDrainLimit s = _
    exact onTimer_unarmed ha _
  case slotIdle =>
    show execPs2SlotTimer s = _
    exact onTimer_unarmed ha _

end Sys2Proof.Machine
end

section
/-! SUPPORT. The firmware rows (R412 to R417, R420): what a download stages, what verification, a slot's writing, an activation's start and its end set,
and what the steps between leave of the unit's status, verification, slot and activation registers. -/

namespace Sys2Proof.Machine

/-! ### The unit's registers (R410) -/

/-- The registers in which the unit tells its status, the last verification, its slots and the last activation. -/
def fwRegs : List Nat := [Reg.fwuStat, Reg.fwuVerify, Reg.fwuSlot, Reg.fwuAct]

/-- The fields of those registers are as they were. -/
def State.FwRegsKept (s t : State) : Prop := ∀ g : Fld, g.dw ∈ fwRegs → t.fld g = s.fld g

section
variable {s t u : State}

theorem State.FwRegsKept.refl (s : State) : s.FwRegsKept s := fun _ _ => rfl

theorem State.FwRegsKept.trans (h : s.FwRegsKept t) (k : t.FwRegsKept u) : s.FwRegsKept u := fun g hg => (k g hg).trans (h g hg)

theorem State.FwRegsKept.of_regs (h : t.regs = s.regs) : s.FwRegsKept t := fun g _ => State.fld_congr g h

theorem State.FwRegsKept.flag (h : s.FwRegsKept t) (g : Fld) (hg : g.dw ∈ fwRegs) : t.flag g = s.flag g := by
  rw [State.flag, h g hg, State.flag]

theorem State.FwRegsKept.setFld (h : s.FwRegsKept t) {f : Fld} {v : Nat} (hf : f.dw ∉ fwRegs) (hfit : f.sh + f.wid ≤ 32) :
    s.FwRegsKept (t.setFld f v) :=
  h.trans fun g hg => State.fld_setFld_ne t f g v hfit (.inl fun heq => hf (heq ▸ hg))

theorem State.FwRegsKept.event (h : s.FwRegsKept t) (c a b d e : Nat) : s.FwRegsKept (t.event c a b d e) :=
  h.trans fun g hg => State.fld_event t g c a b d e (fun heq => absurd (heq ▸ hg) (by decide)) (fun heq => absurd (heq ▸ hg) (by decide))

theorem State.FwRegsKept.cfsRequest (h : s.FwRegsKept t) (r : Nat) (w : CfsWork) (n : Nat) : s.FwRegsKept (t.cfsRequest r w n) :=
  h.trans (.of_regs (by rw [State.cfsRequest_frame]))

theorem State.FwRegsKept.foldl {α : Type} (h : s.FwRegsKept t) {g : State → α → State} {l : List α}
    (hg : ∀ (u : State) a, a ∈ l → u.FwRegsKept (g u a)) : s.FwRegsKept (l.foldl g t) :=
  List.foldlRecOn l g (motive := fun u => s.FwRegsKept u) h (fun u hu a ha => hu.trans (hg u a ha))

theorem State.Noted.fwu (h : s.Noted t) : t.fwu = s.fwu := by rw [h]

end

/-! ### Security versions and reported versions (R411, R415) -/

section
variable (s : State)

theorem State.raiseSvn_leaves (img : List FwPart) : s.Noted (s.raiseSvn img) ∧ s.FwRegsKept (s.raiseSvn img) := by
  refine ⟨(State.Noted.refl s).foldl fun u p => ?_, (State.FwRegsKept.refl s).foldl fun u p _ => ?_⟩
  · split
    · exact (State.Noted.refl u).setFld _ _
    · exact .refl u
  · split
    · refine (State.FwRegsKept.refl u).setFld ?_ ?_
      · simp only [fwRegs, F.fwuSvnSvn, Fld.dw, Reg.fwuSvn, Reg.fwuStat, Reg.fwuVerify, Reg.fwuSlot, Reg.fwuAct, List.mem_cons, List.not_mem_nil,
          or_false, not_or]
        omega
      · simp only [F.fwuSvnSvn, Fld.sh, Reg.fwuSvn]
        omega
    · exact .refl u

/-- The version of one part as the registers report it. -/
theorem State.noteVersions_leaves : s.Noted s.noteVersions ∧ s.FwRegsKept s.noteVersions := by
  refine ⟨(State.Noted.refl s).foldl fun u p => ?_, (State.FwRegsKept.refl s).foldl fun u p _ => ?_⟩
  · dsimp only
    split
    · exact ((((((State.Noted.refl u).setFld _ _).setFld _ _).setFld _ _).setFld _ _).setFld _ _).setFld _ _
    · split
      · exact (State.Noted.refl u).foldl fun w k => (((State.Noted.refl w).setFld _ _).setFld _ _).setFld _ _
      · exact .refl u
  · dsimp only
    split
    · exact ((((((State.FwRegsKept.refl u).setFld (by decide) (by decide)).setFld (by decide) (by decide)).setFld (by decide) (by decide)).setFld
        (by decide) (by decide)).setFld (by decide) (by decide)).setFld (by decide) (by decide)
    · split
      · refine (State.FwRegsKept.refl u).foldl fun w k hk => ?_
        have hk8 : k < 8 := List.mem_range.1 hk
        interval_cases k <;>
          exact (((State.FwRegsKept.refl w).setFld (by decide) (by decide)).setFld (by decide) (by decide)).setFld (by decide) (by decide)
      · exact .refl u

end

/-! ### The fetch stop (R415) -/

section
variable (s : State)

theorem State.finish_fetchStop (c : Nat) (st : Status) (d : Nat) : (s.finish c st d).q.fetchStop = s.q.fetchStop := by
  have hdrop : (s.dropStitches c).q.fetchStop = s.q.fetchStop := by
    unfold State.dropStitches
    extract_lets mine t
    have ht : t.q = s.q := List.foldlRecOn mine _ (motive := fun u : State => u.q = s.q) rfl fun u hu x _ => (State.cancel_q u _).trans hu
    show t.q.fetchStop = s.q.fetchStop
    rw [ht]
  unfold State.finish
  split
  · rfl
  · simp only
    split
    · exact hdrop
    · exact hdrop

theorem State.asyncAll_fetchStop (a b c d : Nat) : (s.asyncAll a b c d).q.fetchStop = s.q.fetchStop := by
  refine List.foldlRecOn _ _ (motive := fun t : State => t.q.fetchStop = s.q.fetchStop) rfl fun t ht i _ => ?_
  split
  · unfold State.asyncEvent
    simp only
    split
    · exact ht
    · split
      · exact (State.finish_fetchStop _ _ _ _).trans ht
      · exact ht
  · exact ht

theorem State.finish_fwu (c : Nat) (st : Status) (d : Nat) : (s.finish c st d).fwu = s.fwu := by rw [State.finish_frame]

end

/-! ### Downloads (R412) -/

section
variable {s : State} {c off len : Nat} {d : List Nat} {k : Cmd}

/-- Blocks put one after another from block 0 are those staged. -/
theorem Tab.has_foldl_put {α : Type} (g : Nat → α) (n b : Nat) :
    Tab.has b ((List.range n).foldl (fun l i => Tab.put i (g i) l) []) = decide (b < n) := by
  induction n with
  | zero => rfl
  | succ n ih =>
    rw [List.range_succ, List.foldl_append]
    by_cases hb : b = n
    · subst hb
      simp [Tab.has]
    · have hlt : b < n + 1 ↔ b < n := by omega
      rw [decide_eq_decide.2 hlt, ← ih]
      simp [Tab.has, Tab.find_put_ne _ _ _ _ hb]

/-- The state of a download from offset 0 before it is answered. -/
def State.fwStaged (s : State) (fn len : Nat) (d : List Nat) : State :=
  let st := (List.range (len / 4096)).foldl (fun l i => Tab.put (0 / 4096 + i) (d.getD i 0) l) []
  let t : State := { s.fwDiscard with fwu := { s.fwDiscard.fwu with stage := st, owner := some fn } }
  ((t.setFld F.fwuStageFunc fn).setFld F.fwuStageBlocks st.length).addWrap (F.fwuCntCount 0) (len / 4096)

theorem State.fld_withFwu (w : State) (x : Fwu) (f : Fld) : ({ w with fwu := x } : State).fld f = w.fld f := State.fld_congr (t := w) f rfl

theorem State.fwStaged_count (fn len : Nat) (d : List Nat) :
    (s.fwStaged fn len d).fld (F.fwuCntCount 0) = (s.fld (F.fwuCntCount 0) + len / 4096) % 2 ^ 32 := by
  unfold State.fwStaged
  extract_lets st _ _ t
  have ht : t.fld (F.fwuCntCount 0) = s.fld (F.fwuCntCount 0) := by
    rw [State.fld_withFwu]
    show s.fwDiscard.fld _ = _
    unfold State.fwDiscard
    rw [State.fld_setFld_apart _ _ _ _ (by decide) (by decide),
      State.fld_setFld_apart _ _ _ _ (by decide) (by decide), State.fld_withFwu]
  rw [State.fld_addWrap _ _ _ (by decide), State.fld_setFld_apart _ _ _ _ (by decide) (by decide),
    State.fld_setFld_apart _ _ _ _ (by decide) (by decide), ht]
  rfl

theorem exec_firmwareImageDownload_opens (h : s.PfRuns c k) (hsup : s.SupervisorFree) (hlen : len % 4096 = 0) (hpos : 0 < len) (hmax : len ≤ 67108864) :
    exec (.firmwareImageDownload c 0 len d) s = .next ((s.fwStaged k.fn len d).finish c St.ok) := by
  have hrow : execFirmwareImageDownload c 0 len d s = _ := onPf_of_served h hsup _
  rw [if_neg (by omega), if_neg (by omega)] at hrow
  exact hrow

theorem exec_firmwareImageDownload_stages (h : s.PfRuns c k) (hsup : s.SupervisorFree) (hlen : len % 4096 = 0) (hpos : 0 < len) (hmax : len ≤ 67108864) :
    ∃ t, exec (.firmwareImageDownload c 0 len d) s = .next t ∧ t.Ended c St.ok ∧ t.fwu.owner = some k.fn ∧
      (∀ b, Tab.has b t.fwu.stage = decide (b < len / 4096)) ∧ t.fld (F.fwuCntCount 0) = (s.fld (F.fwuCntCount 0) + len / 4096) % 2 ^ 32 ∧
      t.fwu.slot1 = s.fwu.slot1 ∧ t.fwu.slot2 = s.fwu.slot2 := by
  refine ⟨_, exec_firmwareImageDownload_opens h hsup hlen hpos hmax, h.adminRuns.finish_ended (by rfl) _, ?_⟩
  simp only [State.finish_fwu, State.fld_finish]
  refine ⟨rfl, fun b => ?_, ?_, rfl, rfl⟩
  · have hst : (s.fwStaged k.fn len d).fwu.stage = (List.range (len / 4096)).foldl (fun l i => Tab.put (0 / 4096 + i) (d.getD i 0) l) [] := rfl
    rw [hst]
    simp only [Nat.zero_div, Nat.zero_add]
    exact Tab.has_foldl_put _ _ _
  · exact State.fwStaged_count _ _ _

theorem exec_firmwareImageDownload_badField (h : s.PfRuns c k) (hsup : s.SupervisorFree)
    (hbad : off % 4096 ≠ 0 ∨ len % 4096 ≠ 0 ∨ 67108864 < off + len ∨ (off ≠ 0 ∧ ∃ o, s.fwu.owner = some o ∧ o ≠ k.fn)) :
    ∃ t, exec (.firmwareImageDownload c off len d) s = .next t ∧ t.Ended c St.badField ∧ t.fwu = s.fwu ∧ t.regs = s.regs := by
  have hrow : execFirmwareImageDownload c off len d s = _ := onPf_of_served h hsup _
  have hends : execFirmwareImageDownload c off len d s = .next (s.finish c St.badField) := by
    rw [hrow]
    split
    · rfl
    next hok =>
      obtain ⟨hoff, o, howner, hne⟩ : off ≠ 0 ∧ ∃ o, s.fwu.owner = some o ∧ o ≠ k.fn := by tauto
      rw [if_pos ⟨hoff, by simp [howner, hne]⟩]
  exact ⟨_, hends, h.adminRuns.finish_ended (by rfl) _, State.finish_fwu _ _ _ _, by rw [State.finish_frame]⟩

end

/-! ### Commits refused (R412, R414, R416) -/

section
variable {s : State} {c ca fs ms x : Nat} {k : Cmd}

/-- With no activation running, a commit is what its role, its fields and its action make of it. -/
theorem exec_firmwareCommit_of_idle (h : s.PfRuns c k) (hsup : s.SupervisorFree) (hrun : s.fwu.run = none) :
    exec (.firmwareCommit c ca fs ms x) s = .next (
      if !(s.mayCommit k.fn) then (s.deny 3 (if s.lc = 0 then .maker else .installer) k.fn 0x10).finish c St.roleRequired
      else if 3 < ca ∨ 2 < fs then s.finish c St.badField
      else
        let t := s.fwRelease.noteGated 0x10 ca k.fn
        if ca = 2 then t.commitSlot c (t.slotOf fs) ms
        else if ca = 3 ∧ t.activationBarred then t.finish c St.prohibitedNow
        else t.commitStaged c ca (t.slotOf fs) ms) := by
  have hrow : execFirmwareCommit c ca fs ms x s = _ := onPf_of_served h hsup _
  rw [hrun] at hrow
  exact hrow

theorem State.mayCommit_eq (hlc : s.lc ≠ 0) (fn : Nat) : s.mayCommit fn = decide (2 ≤ (s.roleOf fn).num) := by
  rw [State.mayCommit, if_neg hlc]

theorem exec_firmwareCommit_denied (h : s.PfRuns c k) (hsup : s.SupervisorFree) (hrun : s.fwu.run = none) (hlc : s.lc ≠ 0)
    (hrole : (s.roleOf k.fn).num < 2) :
    ∃ t, exec (.firmwareCommit c ca fs ms x) s = .next t ∧ t.Ended c St.roleRequired ∧ t.fwu = s.fwu := by
  have hmay : s.mayCommit k.fn = false := by rw [State.mayCommit_eq hlc, decide_eq_false (by omega)]
  have hrow := exec_firmwareCommit_of_idle (ca := ca) (fs := fs) (ms := ms) (x := x) h hsup hrun
  rw [hmay, Bool.not_false, if_pos rfl] at hrow
  have hdeny := s.deny_noted 3 (if s.lc = 0 then .maker else .installer) k.fn 0x10
  exact ⟨_, hrow, h.adminRuns.finish_ended (State.cmd_congr c hdeny.q) _, (State.finish_fwu _ _ _ _).trans hdeny.fwu⟩

/-- A commit allowed by its role. -/
theorem exec_firmwareCommit_of_may (h : s.PfRuns c k) (hsup : s.SupervisorFree) (hrun : s.fwu.run = none) (hlc : s.lc ≠ 0)
    (hrole : 2 ≤ (s.roleOf k.fn).num) :
    exec (.firmwareCommit c ca fs ms x) s = .next (
      if 3 < ca ∨ 2 < fs then s.finish c St.badField
      else
        let t := s.fwRelease.noteGated 0x10 ca k.fn
        if ca = 2 then t.commitSlot c (t.slotOf fs) ms
        else if ca = 3 ∧ t.activationBarred then t.finish c St.prohibitedNow
        else t.commitStaged c ca (t.slotOf fs) ms) := by
  have hmay : s.mayCommit k.fn = true := by rw [State.mayCommit_eq hlc, decide_eq_true hrole]
  have hrow := exec_firmwareCommit_of_idle (ca := ca) (fs := fs) (ms := ms) (x := x) h hsup hrun
  rw [hmay, Bool.not_true, if_neg (by decide)] at hrow
  exact hrow

theorem exec_firmwareCommit_badField (h : s.PfRuns c k) (hsup : s.SupervisorFree) (hrun : s.fwu.run = none) (hlc : s.lc ≠ 0)
    (hrole : 2 ≤ (s.roleOf k.fn).num) (hbad : 3 < ca ∨ 2 < fs) :
    ∃ t, exec (.firmwareCommit c ca fs ms x) s = .next t ∧ t.Ended c St.badField ∧ t.fwu = s.fwu ∧ t.regs = s.regs := by
  have hrow := exec_firmwareCommit_of_may (ca := ca) (fs := fs) (ms := ms) (x := x) h hsup hrun hlc hrole
  rw [if_pos hbad] at hrow
  exact ⟨_, hrow, h.adminRuns.finish_ended (by rfl) _, State.finish_fwu _ _ _ _, by rw [State.finish_frame]⟩

end

/-! ### The state a commit works on -/

section
variable {s t : State}

theorem State.fwByte_congr (h : t.fwu.stage = s.fwu.stage) : t.fwByte = s.fwByte := by
  funext i
  rw [State.fwByte, h, State.fwByte]

theorem State.fwField_congr (h : t.fwu.stage = s.fwu.stage) : t.fwField = s.fwField := by
  funext lo n
  rw [State.fwField, State.fwByte_congr h, State.fwField]

theorem State.fwParts_congr (h : t.fwu.stage = s.fwu.stage) : t.fwParts = s.fwParts := by
  rw [State.fwParts, State.fwByte_congr h, State.fwField_congr h, State.fwParts]

theorem State.fwFrameFault_congr (h : t.fwu.stage = s.fwu.stage) : t.fwFrameFault = s.fwFrameFault := by
  have hbytes : t.fwBytes = s.fwBytes := by
    funext lo n
    rw [State.fwBytes, State.fwByte_congr h, State.fwBytes]
  rw [State.fwFrameFault, State.fwParts_congr h, State.fwByte_congr h, State.fwField_congr h, hbytes, State.fwFrameFault]

theorem State.committedImage_congr (hslot : t.fld F.fwuSlotCommitted = s.fld F.fwuSlotCommitted) (h1 : t.fwu.slot1 = s.fwu.slot1)
    (h2 : t.fwu.slot2 = s.fwu.slot2) : t.committedImage = s.committedImage := by
  simp only [State.committedImage, hslot, h1, h2]

theorem State.slotOf_congr (hslot : t.fld F.fwuSlotCommitted = s.fld F.fwuSlotCommitted) (fs : Nat) : t.slotOf fs = s.slotOf fs := by
  simp only [State.slotOf, hslot]

/-- What a commit works on differs from what was staged in the owner of the download. -/
structure State.CommitBase (s u : State) : Prop where
  fwu : u.fwu = { s.fwu with owner := none }
  q : u.q = s.q
  adm : u.adm = s.adm
  map : u.map = s.map
  regs : s.FwRegsKept u

theorem State.commitBase_of (s : State) (ca fn : Nat) : s.CommitBase (s.fwRelease.noteGated 0x10 ca fn) := by
  have hnoted := (State.Noted.refl s.fwRelease).noteGated 0x10 ca fn
  have hregs : s.FwRegsKept s.fwRelease := by
    have h : s.FwRegsKept ({ s with fwu := { s.fwu with owner := none } } : State) := .of_regs rfl
    exact h.setFld (by decide) (by decide)
  refine ⟨hnoted.fwu, hnoted.q, by rw [hnoted]; rfl, by rw [hnoted]; rfl, hregs.trans fun g hg => State.noteGated_fld _ _ _ _ g fun hmem => ?_⟩
  simp only [fwRegs, gatedRegs, List.mem_cons, List.not_mem_nil, or_false] at hg hmem
  rcases hg with hg | hg | hg | hg <;> rw [hg] at hmem <;> revert hmem <;> decide

end

/-! ### Verification (R414) -/

section
variable {s : State} {v : Nat × Nat} {ms : Nat}

theorem State.noteVerify_noted : s.Noted (s.noteVerify v ms) := by
  unfold State.noteVerify
  extract_lets t
  have ht : s.Noted t := (((State.Noted.refl s).setFld _ _).setFld _ _).setFld _ _
  split
  · exact ht.setFld _ _
  · exact (ht.setFld _ _).event _ _ _ _ _

theorem State.noteVerify_puts (hv : v.1 = 0) :
    s.PutsOnly [F.fwuVerifyResult, F.fwuVerifyPart, F.fwuVerifyMs, F.fwuCntCount 1] (s.noteVerify v ms) := by
  unfold State.noteVerify
  rw [if_pos hv]
  exact ((((State.PutsOnly.refl _ s).setFld (by decide) (by decide)).setFld (by decide) (by decide)).setFld (by decide) (by decide)).setFld
    (by decide) (by decide)

theorem State.noteVerify_passes (hv : v.1 = 0) : (s.noteVerify v ms).fld F.fwuVerifyResult = 1 := by
  unfold State.noteVerify
  rw [if_pos hv, hv]
  simp (disch := decide) only [State.addWrap_eq, State.putSat_eq, State.fld_setFld_apart, State.fld_setFld]
  rfl

theorem State.noteVerify_fails (hv : v.1 ≠ 0) : (s.noteVerify v ms).flag F.fwuStatVfailseen = true := by
  unfold State.noteVerify
  extract_lets t
  rw [if_neg hv, State.flag_event _ _ _ _ _ _ _ (by decide) (by decide)]
  exact State.flag_setFld_one _ _ (by decide) rfl

theorem State.rejectFrame_fwu (obj kind unit : Nat) : (s.rejectFrame obj kind unit).fwu = s.fwu := by
  have hdraw : ∀ w : State, w.draw.2.fwu = w.fwu := fun _ => rfl
  unfold State.rejectFrame
  simp only [((State.Noted.refl _).event _ _ _ _ _).fwu, State.cmpCnt, State.addWrap_eq, State.setFlag_eq, State.setFld_fwu, hdraw]

end

/-! ### The writing of a slot (R413, R442) -/

section
variable {s : State} {c ca slot ms : Nat} {k : Cmd}

/-- The boot loader's bank, its area and the store's requests alone change with the loader. -/
theorem State.writeLoader_leaves : s.writeLoader.q = s.q ∧ s.writeLoader.regs = s.regs ∧ s.writeLoader.fns = s.fns ∧
    s.writeLoader.fwu.run = s.fwu.run := by
  unfold State.writeLoader
  split
  · exact ⟨rfl, rfl, rfl, rfl⟩
  · extract_lets len a all h pending half rest t u
    obtain ⟨hq, hregs, hfns, hfwu⟩ : u.q = s.q ∧ u.regs = s.regs ∧ u.fns = s.fns ∧ u.fwu = s.fwu := by
      refine List.foldlRecOn half _ (motive := fun w : State => w.q = s.q ∧ w.regs = s.regs ∧ w.fns = s.fns ∧ w.fwu = s.fwu) ⟨rfl, rfl, rfl, rfl⟩
        fun w hw i _ => ?_
      rw [State.cfsRequest_frame]
      exact hw
    have hrun : u.fwu.run = s.fwu.run := by rw [hfwu]
    clear_value u
    exact ⟨hq, hregs, hfns, hrun⟩

/-- A slot written after the loader: nothing of the registers, the commands and the activation changes, and the slot holds its image. -/
theorem State.slotWritten_leaves (img : List FwPart) : (s.writeLoader.writeSlot slot img).q = s.q ∧ (s.writeLoader.writeSlot slot img).regs = s.regs ∧
    (s.writeLoader.writeSlot slot img).fwu.run = s.fwu.run ∧ (s.writeLoader.writeSlot slot img).slotImage slot = img := by
  obtain ⟨hq, hregs, -, hrun⟩ := s.writeLoader_leaves
  generalize s.writeLoader = w at *
  refine ⟨hq, hregs, hrun, ?_⟩
  by_cases h2 : slot = 2 <;> simp [State.slotImage, State.writeSlot, h2]

theorem State.slotImage_congr {t : State} (h1 : t.fwu.slot1 = s.fwu.slot1) (h2 : t.fwu.slot2 = s.fwu.slot2) (n : Nat) :
    t.slotImage n = s.slotImage n := by
  rw [State.slotImage, h1, h2, State.slotImage]

theorem State.makePending_leaves : s.Noted (s.makePending slot) := by
  unfold State.makePending
  exact (((State.Noted.refl s).setFld _ _).setFld _ _).cfsRequest _ _ _

theorem State.makePending_reports (hslot : slot < 4) : (s.makePending slot).flag F.fwuStatPending = true ∧
    (s.makePending slot).fld F.fwuSlotPendingslot = slot := by
  have hputs : ((s.setFlag F.fwuStatPending).setFld F.fwuSlotPendingslot slot).PutsOnly [] (s.makePending slot) := (State.PutsOnly.refl _ _).cfsRequest
  rw [State.flag, hputs _ rfl, hputs _ rfl]
  simp (disch := decide) only [State.setFlag_eq, State.fld_setFld_apart, State.fld_setFld]
  exact ⟨rfl, Nat.mod_eq_of_lt hslot⟩

theorem State.makePending_puts : s.PutsOnly [F.fwuStatPending, F.fwuSlotPendingslot] (s.makePending slot) :=
  (((State.PutsOnly.refl _ s).setFld (by decide) (by decide)).setFld (by decide) (by decide)).cfsRequest

theorem State.commitWrite_done (img : List FwPart) (hs : s.Stays c) (himg : mergeParts s.committedImage s.fwParts = img) :
    (s.commitWrite c 0 slot).Ended c St.ok ∧ (s.commitWrite c 0 slot).regs = s.regs ∧ (s.commitWrite c 0 slot).fwu.run = s.fwu.run ∧
      (s.commitWrite c 0 slot).slotImage slot = img := by
  have hrow : s.commitWrite c 0 slot = (s.writeLoader.writeSlot slot img).finish c St.ok := by rw [← himg]; rfl
  obtain ⟨hq, hregs, hrun, hslot⟩ := s.slotWritten_leaves (slot := slot) img
  rw [hrow]
  generalize s.writeLoader.writeSlot slot img = w at *
  refine ⟨(hs.congr hq).finish_ended _ _, ?_, ?_, ?_⟩
  · rw [State.finish_frame]
    exact hregs
  · rw [State.finish_fwu, hrun]
  · rw [State.slotImage_congr (s := w) (by rw [State.finish_fwu]) (by rw [State.finish_fwu]), hslot]

theorem State.commitWrite_pends (img : List FwPart) (hcmd : s.cmd c = some k) (himg : mergeParts s.committedImage s.fwParts = img) (hslot : slot < 4) :
    (s.commitWrite c 1 slot).AwaitsStore c ∧ (s.commitWrite c 1 slot).fwu.run = s.fwu.run ∧ (s.commitWrite c 1 slot).slotImage slot = img ∧
      (s.commitWrite c 1 slot).flag F.fwuStatPending = true ∧ (s.commitWrite c 1 slot).fld F.fwuSlotPendingslot = slot ∧
      (s.commitWrite c 1 slot).fld F.fwuVerifyResult = s.fld F.fwuVerifyResult := by
  have hrow : s.commitWrite c 1 slot =
      ((s.writeLoader.writeSlot slot img).updCmd c (fun c => { c with phase := .waitStore })).makePending slot := by rw [← himg]; rfl
  obtain ⟨hq, hregs, hrun, hheld⟩ := s.slotWritten_leaves (slot := slot) img
  rw [hrow]
  generalize s.writeLoader.writeSlot slot img = w at *
  obtain ⟨v, hv⟩ : ∃ v, v = w.updCmd c (fun c => { c with phase := .waitStore }) := ⟨_, rfl⟩
  have hvregs : v.regs = s.regs := by rw [hv]; exact hregs
  have hvfwu : v.fwu = w.fwu := by rw [hv]; rfl
  have hvwaits : v.AwaitsStore c := by
    rw [hv, State.AwaitsStore, State.cmd_updCmd, State.cmd_congr c hq, hcmd]
    rfl
  rw [← hv]
  have hnoted := v.makePending_leaves (slot := slot)
  obtain ⟨hpend, hslots⟩ := v.makePending_reports hslot
  refine ⟨?_, ?_, ?_, hpend, hslots, (v.makePending_puts _ (by decide)).trans (State.fld_congr _ hvregs)⟩
  · rw [State.AwaitsStore, State.cmd_congr c hnoted.q]
    exact hvwaits
  · rw [hnoted.fwu, hvfwu, hrun]
  · rw [State.slotImage_congr (s := w) (by rw [hnoted.fwu, hvfwu]) (by rw [hnoted.fwu, hvfwu]), hheld]

end

/-! ### The start of an activation (R415) -/

section
variable {s : State} {slot : Nat} {cmd : Option Nat}

theorem State.activate_reports : (s.activate cmd slot).fwu.run = some ⟨cmd, s.clk.mono, slot⟩ ∧ (s.activate cmd slot).fwu.armed = none ∧
    (s.activate cmd slot).flag F.fwuStatActivating = true ∧ (s.activate cmd slot).fld F.fwuActStep = 1 ∧ (s.activate cmd slot).q.fetchStop = true ∧
    (s.activate cmd slot).armed .activationDrain = true := by
  unfold State.activate
  extract_lets _ _ t u
  have hstep : u.fld F.fwuActStep = 1 := State.fld_setFld _ _ _ (by decide)
  have hflag : u.flag F.fwuStatActivating = true := by
    simp (disch := decide) only [u, State.flag, State.setFlag_eq, State.clrFlag_eq, State.fld_setFld_apart, State.fld_setFld]
    rfl
  have hrun : u.fwu.run = some ⟨cmd, s.clk.mono, slot⟩ := rfl
  have harmed : u.fwu.armed = none := rfl
  have hstop : u.q.fetchStop = true := rfl
  clear_value u
  have hfwu : (u.asyncAll 9 2 1 3).fwu = u.fwu := by rw [State.asyncAll_frame]
  have hregs : (u.asyncAll 9 2 1 3).regs = u.regs := by rw [State.asyncAll_frame]
  have hfetch := (u.asyncAll_fetchStop 9 2 1 3).trans hstop
  generalize u.asyncAll 9 2 1 3 = w at *
  refine ⟨?_, ?_, ?_, ?_, hfetch, (State.armed_cancel_ne _ (by decide)).trans (State.armed_arm _ _ _)⟩
  · rw [State.cancel_fwu, State.arm_fwu, hfwu, hrun]
  · rw [State.cancel_fwu, State.arm_fwu, hfwu, harmed]
  · rw [← hflag, State.flag, State.fld_cancel, State.fld_arm, State.fld_congr _ hregs, State.flag]
  · rw [State.fld_cancel, State.fld_arm, State.fld_congr _ hregs, hstep]

end

/-! ### Commits of a staged package (R413, R414) -/

section
variable {s u w : State} {c ca slot ms fs x : Nat} {k : Cmd}

theorem State.CommitBase.slotOf (h : s.CommitBase u) (fs : Nat) : u.slotOf fs = s.slotOf fs := State.slotOf_congr (h.regs _ (by decide)) fs

/-- The image that a commit writes does not depend on what the commit has noted before. -/
theorem State.CommitBase.image (h : s.CommitBase u) (hw : u.Noted w) (hslot : w.fld F.fwuSlotCommitted = u.fld F.fwuSlotCommitted) :
    mergeParts w.committedImage w.fwParts = mergeParts s.committedImage s.fwParts := by
  have hfwu := hw.fwu.trans h.fwu
  rw [State.committedImage_congr (hslot.trans (h.regs _ (by decide))) (by rw [hfwu]) (by rw [hfwu]), State.fwParts_congr (s := s) (by rw [hfwu])]

/-- A failed check of R414 ends the commit with its status, and no slot changes. -/
theorem State.commitStaged_fails (hs : u.Stays c) (hv : (u.fwVerify (decide (ca = 3))).1 ≠ 0) :
    (u.commitStaged c ca slot ms).Ended c (verifyStatus (u.fwVerify (decide (ca = 3))).1) ∧ (u.commitStaged c ca slot ms).fwu = u.fwu ∧
      (u.commitStaged c ca slot ms).flag F.fwuStatVfailseen = true := by
  have hrow : u.commitStaged c ca slot ms =
      (u.noteVerify (u.fwVerify (decide (ca = 3))) ms).finish c (verifyStatus (u.fwVerify (decide (ca = 3))).1) := if_pos hv
  have hnoted := u.noteVerify_noted (v := u.fwVerify (decide (ca = 3))) (ms := ms)
  rw [hrow]
  refine ⟨(hs.congr hnoted.q).finish_ended _ _, (State.finish_fwu _ _ _ _).trans hnoted.fwu, ?_⟩
  rw [State.flag, State.fld_finish]
  exact State.noteVerify_fails hv

/-- A package that verifies and whose frames hold is written. -/
theorem State.commitStaged_writes (hv : (u.fwVerify (decide (ca = 3))).1 = 0) (hf : u.fwFrameFault = none) :
    u.commitStaged c ca slot ms = (u.noteVerify (u.fwVerify (decide (ca = 3))) ms).commitWrite c ca slot := by
  have hf' := (State.fwFrameFault_congr (congrArg Fwu.stage (u.noteVerify_noted (v := u.fwVerify (decide (ca = 3))) (ms := ms)).fwu)).trans hf
  refine (if_neg (not_not_intro hv)).trans ?_
  rw [hf']

/-- A compressed part with a faulty frame ends the commit. -/
theorem State.commitStaged_faulty {kind : Nat} (hv : (u.fwVerify (decide (ca = 3))).1 = 0) (hf : u.fwFrameFault = some kind) :
    (u.commitStaged c ca slot ms).fwu = u.fwu := by
  have hnoted := u.noteVerify_noted (v := u.fwVerify (decide (ca = 3))) (ms := ms)
  have hf' := (State.fwFrameFault_congr (congrArg Fwu.stage hnoted.fwu)).trans hf
  have hrow : u.commitStaged c ca slot ms =
      ((u.noteVerify (u.fwVerify (decide (ca = 3))) ms).rejectFrame 3 kind 0).finish c St.badImage := by
    refine (if_neg (not_not_intro hv)).trans ?_
    rw [hf']
  rw [hrow, State.finish_fwu, State.rejectFrame_fwu, hnoted.fwu]

/-- What a commit of a staged package with CA 000b or 001b comes to. -/
def State.CommitDone (s t : State) (c ca fs : Nat) : Prop :=
  t.fld F.fwuVerifyResult = 1 ∧ t.slotImage (s.slotOf fs) = mergeParts s.committedImage s.fwParts ∧
    (ca = 0 → t.Ended c St.ok ∧ t.fld F.fwuSlotPendingslot = s.fld F.fwuSlotPendingslot) ∧
    (ca = 1 → t.AwaitsStore c ∧ t.flag F.fwuStatPending = true ∧ t.fld F.fwuSlotPendingslot = fs)

theorem State.CommitBase.done (h : s.CommitBase u) (hcmd : u.cmd c = some k) (hdrop : k.dropped = false) (hrun : s.fwu.run = none) (hfs : fs ≤ 2)
    (hca : ca = 0 ∨ (ca = 1 ∧ 1 ≤ fs)) (hv : (u.fwVerify (decide (ca = 3))).1 = 0) (hf : u.fwFrameFault = none) :
    (u.commitStaged c ca (u.slotOf fs) ms).fwu.run = none ∧ s.CommitDone (u.commitStaged c ca (u.slotOf fs) ms) c ca fs := by
  rw [State.commitStaged_writes hv hf, h.slotOf]
  have hnoted := u.noteVerify_noted (v := u.fwVerify (decide (ca = 3))) (ms := ms)
  have hputs := u.noteVerify_puts (ms := ms) hv
  have hresult := u.noteVerify_passes (ms := ms) hv
  have himg := h.image hnoted (hputs _ (by decide))
  have hpending := (hputs F.fwuSlotPendingslot (by decide)).trans (h.regs _ (by decide))
  generalize u.noteVerify (u.fwVerify (decide (ca = 3))) ms = w at *
  have hwcmd : w.cmd c = some k := (State.cmd_congr c hnoted.q).trans hcmd
  have hwrun : w.fwu.run = none := by rw [hnoted.fwu, h.fwu, hrun]
  rcases hca with rfl | ⟨rfl, hpos⟩
  · obtain ⟨hended, hregs, hr, hslot⟩ := State.commitWrite_done (slot := s.slotOf fs) _ ⟨k, hwcmd, hdrop⟩ himg
    exact ⟨hr.trans hwrun, (State.fld_congr _ hregs).trans hresult, hslot, fun _ => ⟨hended, (State.fld_congr _ hregs).trans hpending⟩,
      fun h1 => absurd h1 (by decide)⟩
  · have hslotOf : s.slotOf fs = fs := if_neg (by omega)
    obtain ⟨hwait, hr, hslot, hpend, hnum, hres⟩ := State.commitWrite_pends (slot := s.slotOf fs) _ hwcmd himg (by omega)
    exact ⟨hr.trans hwrun, hres.trans hresult, hslot, fun h0 => absurd h0 (by decide), fun _ => ⟨hwait, hpend, hnum.trans hslotOf⟩⟩

theorem exec_firmwareCommit_staged (h : s.PfRuns c k) (hsup : s.SupervisorFree) (hrun : s.fwu.run = none) (hlc : s.lc ≠ 0)
    (hrole : 2 ≤ (s.roleOf k.fn).num) (hfs : fs ≤ 2) (hca : ca = 0 ∨ (ca = 1 ∧ 1 ≤ fs)) :
    ∃ t, exec (.firmwareCommit c ca fs ms x) s = .next t ∧ t.fwu.run = none ∧
      ((s.fwRelease.noteGated 0x10 ca k.fn).fwVerify false = (0, 0) → (s.fwRelease.noteGated 0x10 ca k.fn).fwFrameFault = none →
        s.CommitDone t c ca fs) ∧
      (1 ≤ ((s.fwRelease.noteGated 0x10 ca k.fn).fwVerify false).1 →
        t.Ended c (verifyStatus ((s.fwRelease.noteGated 0x10 ca k.fn).fwVerify false).1) ∧ t.fwu.slot1 = s.fwu.slot1 ∧ t.fwu.slot2 = s.fwu.slot2 ∧
        t.flag F.fwuStatVfailseen = true) := by
  have hrow := exec_firmwareCommit_of_may (ca := ca) (fs := fs) (ms := ms) (x := x) h hsup hrun hlc hrole
  have hbase := s.commitBase_of ca k.fn
  have hlive : decide (ca = 3) = false := decide_eq_false (by omega)
  rw [if_neg (by omega)] at hrow
  dsimp only at hrow
  rw [if_neg (by omega), if_neg (by omega)] at hrow
  generalize s.fwRelease.noteGated 0x10 ca k.fn = u at *
  have hcmd : u.cmd c = some k := (State.cmd_congr c hbase.q).trans h.adminRuns.cmd_eq
  have hnone : u.fwu.run = none := by rw [hbase.fwu, hrun]
  refine ⟨_, hrow, ?_⟩
  by_cases hv : (u.fwVerify (decide (ca = 3))).1 = 0
  · cases hf : u.fwFrameFault with
    | none =>
      obtain ⟨hr, hdone⟩ := hbase.done (ms := ms) hcmd h.adminRuns.not_dropped hrun hfs hca hv hf
      rw [hlive] at hv
      exact ⟨hr, fun _ _ => hdone, fun h1 => absurd h1 (by omega)⟩
    | some kind =>
      have hfwu := State.commitStaged_faulty (c := c) (slot := u.slotOf fs) (ms := ms) hv hf
      rw [hlive] at hv
      exact ⟨by rw [hfwu, hnone], fun _ h0 => absurd h0 (by simp), fun h1 => absurd h1 (by omega)⟩
  · obtain ⟨hended, hfwu, hseen⟩ := State.commitStaged_fails (slot := u.slotOf fs) (ms := ms) ⟨k, hcmd, h.adminRuns.not_dropped⟩ hv
    rw [hlive] at hv hended
    exact ⟨by rw [hfwu, hnone], fun h0 => absurd (congrArg Prod.fst h0) hv, fun _ => ⟨hended, by rw [hfwu, hbase.fwu], by rw [hfwu, hbase.fwu], hseen⟩⟩

/-! ### Commits that activate (R415, R416) -/

theorem State.CommitBase.barred (h : s.CommitBase u) : u.activationBarred = s.activationBarred := by
  simp only [State.activationBarred, State.sanitizing, h.adm, h.map]

theorem exec_firmwareCommit_barred (h : s.PfRuns c k) (hsup : s.SupervisorFree) (hrun : s.fwu.run = none) (hlc : s.lc ≠ 0)
    (hrole : 2 ≤ (s.roleOf k.fn).num) (hfs : fs ≤ 2) (hbar : s.adm.format.state = 1 ∨ s.map.stalled ≠ []) :
    ∃ t, exec (.firmwareCommit c 3 fs ms x) s = .next t ∧ t.Ended c St.prohibitedNow ∧ t.fwu.slot1 = s.fwu.slot1 ∧ t.fwu.slot2 = s.fwu.slot2 := by
  have hrow := exec_firmwareCommit_of_may (ca := 3) (fs := fs) (ms := ms) (x := x) h hsup hrun hlc hrole
  have hbase := s.commitBase_of 3 k.fn
  have hbarred : s.activationBarred = true := by
    rcases hbar with hb | hb
    · simp [State.activationBarred, hb]
    · simp [State.activationBarred, hb]
  rw [if_neg (by omega)] at hrow
  dsimp only at hrow
  rw [if_neg (by omega), if_pos ⟨rfl, hbase.barred.trans hbarred⟩] at hrow
  exact ⟨_, hrow, h.adminRuns.finish_ended (State.cmd_congr c hbase.q) _, by rw [State.finish_fwu, hbase.fwu], by rw [State.finish_fwu, hbase.fwu]⟩

theorem exec_firmwareCommit_activates (h : s.PfRuns c k) (hsup : s.SupervisorFree) (hrun : s.fwu.run = none) (hlc : s.lc ≠ 0)
    (hrole : 2 ≤ (s.roleOf k.fn).num) (hfs : fs ≤ 2) (hfmt : s.adm.format.state ≠ 1) (hstall : s.map.stalled = []) :
    ∃ t, exec (.firmwareCommit c 3 fs ms x) s = .next t ∧
      ((s.fwRelease.noteGated 0x10 3 k.fn).fwVerify true = (0, 0) → (s.fwRelease.noteGated 0x10 3 k.fn).fwFrameFault = none →
        t.fwu.run.map (fun r => (r.cmd, r.slot)) = some (some c, s.slotOf fs) ∧ t.flag F.fwuStatActivating = true ∧ t.fld F.fwuActStep = 1 ∧
        t.q.fetchStop = true ∧ t.armed .activationDrain = true) := by
  have hrow := exec_firmwareCommit_of_may (ca := 3) (fs := fs) (ms := ms) (x := x) h hsup hrun hlc hrole
  have hbase := s.commitBase_of 3 k.fn
  have hfree : s.activationBarred = false := by simp [State.activationBarred, hfmt, hstall, h.adminRuns.2.2]
  rw [if_neg (by omega)] at hrow
  dsimp only at hrow
  rw [if_neg (by omega), if_neg (by simp [hbase.barred, hfree])] at hrow
  generalize s.fwRelease.noteGated 0x10 3 k.fn = u at *
  refine ⟨_, hrow, fun hv hf => ?_⟩
  have hwrites : u.commitStaged c 3 (u.slotOf fs) ms = ((u.noteVerify (0, 0) ms).writeLoader.writeSlot (u.slotOf fs)
      (mergeParts (u.noteVerify (0, 0) ms).committedImage (u.noteVerify (0, 0) ms).fwParts)).activate (some c) (u.slotOf fs) := by
    have hpass : (u.fwVerify (decide (3 = 3))).1 = 0 := congrArg Prod.fst hv
    rw [State.commitStaged_writes hpass hf]
    have hv' : u.fwVerify (decide (3 = 3)) = (0, 0) := hv
    rw [hv']
    rfl
  rw [hwrites]
  generalize (u.noteVerify (0, 0) ms).writeLoader.writeSlot (u.slotOf fs) _ = w
  obtain ⟨hr, -, hflag, hstep, hfetch, harmed⟩ := w.activate_reports (cmd := some c) (slot := u.slotOf fs)
  refine ⟨?_, hflag, hstep, hfetch, harmed⟩
  rw [hr, ← hbase.slotOf]
  rfl

end

/-! ### The end of an activation (R415 to R417) -/

section
variable {s : State} {r : Activation} {outcome : Nat}

theorem State.activationOver_reports (ho : outcome < 8) : (s.activationOver r outcome).fwu = { s.fwu with run := none } ∧
    (s.activationOver r outcome).q = { s.q with fetchStop := false } ∧ (s.activationOver r outcome).fld F.fwuActOutcome = outcome ∧
    (s.activationOver r outcome).flag F.fwuStatActivating = false ∧
    s.PutsOnly [F.fwuStatActivating, F.fwuActOutcome, F.fwuActMs] (s.activationOver r outcome) := by
  unfold State.activationOver
  extract_lets _ _ t u
  have hfwu : u.fwu = { s.fwu with run := none } := rfl
  have hq : u.q = { s.q with fetchStop := false } := rfl
  have hflag : u.fld F.fwuStatActivating = 0 := by
    rw [State.fld_cancel, State.clrFlag_eq, State.fld_setFld _ _ _ (by decide)]
    rfl
  have hputs : s.PutsOnly [F.fwuStatActivating, F.fwuActOutcome, F.fwuActMs] u := by
    have ht : s.PutsOnly [F.fwuStatActivating, F.fwuActOutcome, F.fwuActMs] t := .of_regs rfl
    exact (ht.setFld (by decide) (by decide)).regs (State.cancel_regs _ _)
  clear_value u
  refine ⟨hfwu, hq, ?_, ?_, (hputs.setFld (by decide) (by decide)).setFld (by decide) (by decide)⟩
  · simp (disch := decide) only [State.putSat_eq, State.fld_setFld_apart, State.fld_setFld]
    exact Nat.mod_eq_of_lt ho
  · simp (disch := decide) only [State.flag, State.putSat_eq, State.fld_setFld_apart, hflag]
    rfl

/-- What an activation that switched its parts has left. -/
def State.Switched (t : State) (slot : Nat) : Prop :=
  t.fwu.run = none ∧ t.fld F.fwuSlotCommitted = slot ∧ t.fld F.fwuSlotRunning = slot ∧ t.flag F.fwuStatPending = false ∧
    t.fld F.fwuActOutcome = 1 ∧ t.q.fetchStop = false ∧ t.flag F.fwuStatActivating = false

/-- The end of the command that an activation served changes none of it. -/
theorem State.Switched.finish {t : State} {slot : Nat} (h : t.Switched slot) (c : Nat) (st : Status) (d : Nat) : (t.finish c st d).Switched slot := by
  rw [State.Switched, State.finish_fwu, State.finish_fetchStop]
  simp only [State.flag, State.fld_finish]
  exact h

/-- The end of an activation keeps the fields named by the steps before it. -/
theorem State.fld_stepOver (g : Fld) (ho : outcome < 8) (hg : g.apart F.fwuActStep = true)
    (hend : [F.fwuStatActivating, F.fwuActOutcome, F.fwuActMs].all (fun f => g.apart f) = true) (n : Nat) :
    ((s.setFld F.fwuActStep n).activationOver r outcome).fld g = s.fld g :=
  ((State.activationOver_reports ho).2.2.2.2 g hend).trans (State.fld_setFld_apart _ _ _ _ (by decide) hg)

theorem State.activateParts_switches (ms : Nat) (hhi : r.slot ≤ 2) : (s.activateParts r ms 0).Switched r.slot := by
  unfold State.activateParts
  extract_lets t img live _ t₁ t₂ t₃ t₄ t₅ f₁ f₂ f₃
  rw [if_pos rfl]
  obtain ⟨p, hp⟩ : ∃ p, p = t₂.clrFlag F.fwuStatPending := ⟨_, rfl⟩
  obtain ⟨hcommitted, hrunning, hpending⟩ : p.fld F.fwuSlotCommitted = r.slot ∧ p.fld F.fwuSlotRunning = r.slot ∧ p.fld F.fwuStatPending = 0 := by
    rw [hp]
    simp (disch := decide) only [t₂, State.clrFlag_eq, State.fld_setFld_apart, State.fld_setFld, F.fwuSlotCommitted, F.fwuSlotRunning]
    exact ⟨Nat.mod_eq_of_lt (by omega), Nat.mod_eq_of_lt (by omega), rfl⟩
  have h₃ : p.FwRegsKept t₃ := by
    rw [hp]
    exact (((State.FwRegsKept.refl _).cfsRequest _ _ _).trans (State.raiseSvn_leaves _ _).2).cfsRequest _ _ _
  clear_value t₃
  obtain ⟨hfwu, hq, houtcome, hactive, -⟩ := (t₃.setFld F.fwuActStep 7).activationOver_reports (r := r) (outcome := 1) (by decide)
  have hcommitted₄ := (State.fld_stepOver (s := t₃) (r := r) (outcome := 1) F.fwuSlotCommitted (by decide) (by decide) (by decide) 7).trans
    ((h₃ _ (by decide)).trans hcommitted)
  have hrunning₄ := (State.fld_stepOver (s := t₃) (r := r) (outcome := 1) F.fwuSlotRunning (by decide) (by decide) (by decide) 7).trans
    ((h₃ _ (by decide)).trans hrunning)
  have hpending₄ := (State.fld_stepOver (s := t₃) (r := r) (outcome := 1) F.fwuStatPending (by decide) (by decide) (by decide) 7).trans
    ((h₃ _ (by decide)).trans hpending)
  obtain ⟨hnoted₄, hkept₄⟩ := ((t₃.setFld F.fwuActStep 7).activationOver r 1).noteVersions_leaves
  have hnoted := (hnoted₄.event 0x0E02 (t₄.word Reg.fwuAct).toNat 0 0 0).setFld (F.fwuCntCount 2)
    ((t₄.event 0x0E02 (t₄.word Reg.fwuAct).toNat).fld (F.fwuCntCount 2) + 1)
  have hkept : ((t₃.setFld F.fwuActStep 7).activationOver r 1).FwRegsKept t₅ :=
    (hkept₄.event 0x0E02 (t₄.word Reg.fwuAct).toNat 0 0 0).setFld (by decide) (by decide)
  have h₅ : t₅.Switched r.slot := by
    refine ⟨?_, (hkept _ (by decide)).trans hcommitted₄, (hkept _ (by decide)).trans hrunning₄, ?_, (hkept _ (by decide)).trans houtcome, ?_,
      (hkept.flag _ (by decide)).trans hactive⟩
    · exact (congrArg Fwu.run hnoted.fwu).trans (congrArg Fwu.run hfwu)
    · rw [State.flag, hkept _ (by decide), hpending₄]
      rfl
    · exact (congrArg Qen.fetchStop hnoted.q).trans (congrArg Qen.fetchStop hq)
  clear_value t₅
  split
  · exact h₅.finish _ _ _
  · exact h₅

/-- What an activation that failed at a step has left: the old image, and no image pending. -/
def State.RolledBack (s t : State) : Prop :=
  t.fwu.run = none ∧ t.fld F.fwuSlotCommitted = s.fld F.fwuSlotCommitted ∧ t.fld F.fwuSlotRunning = s.fld F.fwuSlotRunning ∧
    t.fwu.running = s.fwu.running ∧ t.flag F.fwuStatPending = false ∧ t.flag F.fwuStatAfailseen = true ∧ t.fld F.fwuActOutcome = 2 ∧
    t.q.fetchStop = false

theorem State.activateParts_fails {n c : Nat} (ms : Nat) (hn : n ≠ 0) (hcmd : r.cmd = some c) :
    ∃ w, s.activateParts r ms n = w.finish c St.badImage ∧ s.RolledBack w ∧ w.cmd c = s.cmd c := by
  unfold State.activateParts
  extract_lets t img live _ t₁ t₂ t₃ t₄ t₅ f₁ f₂ f₃
  rw [if_neg hn, hcmd]
  have ht : t = { s with clk := t.clk } := State.advanceTo_frame _ _
  have htregs : t.regs = s.regs := by rw [ht]
  have htrunning : t.fwu.running = s.fwu.running := by rw [ht]
  have htcmds : t.q.cmds = s.q.cmds := by rw [ht]
  obtain ⟨hfwu, hq, houtcome, -, -⟩ := (t.setFld F.fwuActStep (Nat.min 6 n)).activationOver_reports (r := r) (outcome := 2) (by decide)
  have hcommitted := State.fld_stepOver (s := t) (r := r) (outcome := 2) F.fwuSlotCommitted (by decide) (by decide) (by decide) (Nat.min 6 n)
  have hrunning := State.fld_stepOver (s := t) (r := r) (outcome := 2) F.fwuSlotRunning (by decide) (by decide) (by decide) (Nat.min 6 n)
  have hnoted : f₁.Noted f₃ := ((((((State.Noted.refl f₁).setFld _ _).setFld _ _).setFld _ _).cfsRequest _ _ _).event _ _ _ _ _)
  have hkept : f₂.FwRegsKept f₃ := ((State.FwRegsKept.refl f₂).cfsRequest _ _ _).event _ _ _ _ _
  have hputs : f₁.PutsOnly [F.fwuStatAfailseen, F.fwuStatPending, F.fwuSlotPendingslot] f₂ :=
    (((State.PutsOnly.refl _ f₁).setFld (by decide) (by decide)).setFld (by decide) (by decide)).setFld (by decide) (by decide)
  have hpending : f₂.flag F.fwuStatPending = false := by
    simp (disch := decide) only [f₂, State.flag, State.setFlag_eq, State.clrFlag_eq, State.fld_setFld_apart, State.fld_setFld]
    rfl
  have hseen : f₂.flag F.fwuStatAfailseen = true := by
    simp (disch := decide) only [f₂, State.flag, State.setFlag_eq, State.clrFlag_eq, State.fld_setFld_apart, State.fld_setFld]
    rfl
  refine ⟨f₃, rfl, ⟨?_, ?_, ?_, ?_, (hkept.flag _ (by decide)).trans hpending, (hkept.flag _ (by decide)).trans hseen,
    ((hkept _ (by decide)).trans (hputs _ (by decide))).trans houtcome, ?_⟩, ?_⟩
  · exact (congrArg Fwu.run hnoted.fwu).trans (congrArg Fwu.run hfwu)
  · exact ((hkept _ (by decide)).trans (hputs _ (by decide))).trans (hcommitted.trans (State.fld_congr _ htregs))
  · exact ((hkept _ (by decide)).trans (hputs _ (by decide))).trans (hrunning.trans (State.fld_congr _ htregs))
  · exact (congrArg Fwu.running hnoted.fwu).trans ((congrArg Fwu.running hfwu).trans htrunning)
  · exact (congrArg Qen.fetchStop hnoted.q).trans (congrArg Qen.fetchStop hq)
  · have hcmds : f₃.q.cmds = s.q.cmds := (congrArg Qen.cmds hnoted.q).trans ((congrArg Qen.cmds hq).trans htcmds)
    rw [State.cmd, hcmds, State.cmd]

end

/-! ### The rows of a running activation (R415 to R417) -/

section
variable {s : State} {r : Activation} {c ca fs ms x : Nat} {k : Cmd}

/-- The row of the command that an activation serves, while it runs. -/
theorem exec_firmwareCommit_of_running (h : s.PfRuns c k) (hsup : s.SupervisorFree) (hrun : s.fwu.run = some r) (hcmd : r.cmd = some c) :
    exec (.firmwareCommit c ca fs ms x) s = .next (if s.drainedFor (some c) then s.activateParts r ms x else s) := by
  have hrow : execFirmwareCommit c ca fs ms x s = _ := onPf_of_served h hsup _
  rw [hrun] at hrow
  dsimp only at hrow
  rw [if_pos hcmd] at hrow
  exact hrow

theorem exec_firmwareCommit_waits (h : s.PfRuns c k) (hsup : s.SupervisorFree) (hrun : s.fwu.run = some r) (hcmd : r.cmd = some c)
    (hd : s.drainedFor (some c) = false) : exec (.firmwareCommit c ca fs ms x) s = .next s := by
  rw [exec_firmwareCommit_of_running h hsup hrun hcmd, hd, if_neg (by decide)]

theorem exec_firmwareCommit_switches (h : s.PfRuns c k) (hsup : s.SupervisorFree) (hrun : s.fwu.run = some r) (hcmd : r.cmd = some c)
    (hd : s.drainedFor (some c) = true) (hhi : r.slot ≤ 2) :
    ∃ t, exec (.firmwareCommit c ca fs ms 0) s = .next t ∧ t.fwu.run = none ∧ t.fld F.fwuSlotCommitted = r.slot ∧
      t.fld F.fwuSlotRunning = r.slot ∧ t.fld F.fwuActOutcome = 1 ∧ t.q.fetchStop = false ∧ t.flag F.fwuStatActivating = false := by
  have hrow := exec_firmwareCommit_of_running (ca := ca) (fs := fs) (ms := ms) (x := 0) h hsup hrun hcmd
  rw [hd, if_pos rfl] at hrow
  obtain ⟨hnone, hcommitted, hrunning, -, houtcome, hfetch, hactive⟩ := State.activateParts_switches (s := s) ms hhi
  exact ⟨_, hrow, hnone, hcommitted, hrunning, houtcome, hfetch, hactive⟩

theorem exec_firmwareCommit_rollsBack (h : s.PfRuns c k) (hsup : s.SupervisorFree) (hrun : s.fwu.run = some r) (hcmd : r.cmd = some c)
    (hd : s.drainedFor (some c) = true) (hx : 2 ≤ x) :
    ∃ t, exec (.firmwareCommit c ca fs ms x) s = .next t ∧ t.fwu.run = none ∧ t.fld F.fwuSlotCommitted = s.fld F.fwuSlotCommitted ∧
      t.fld F.fwuSlotRunning = s.fld F.fwuSlotRunning ∧ t.fwu.running = s.fwu.running ∧ t.flag F.fwuStatPending = false ∧
      t.flag F.fwuStatAfailseen = true ∧ t.fld F.fwuActOutcome = 2 ∧ t.q.fetchStop = false ∧ t.Ended c St.badImage := by
  have hrow := exec_firmwareCommit_of_running (ca := ca) (fs := fs) (ms := ms) (x := x) h hsup hrun hcmd
  obtain ⟨w, hw, ⟨hnone, hcommitted, hrunning, hlive, hpending, hseen, houtcome, hfetch⟩, hslot⟩ :=
    State.activateParts_fails (s := s) (n := x) ms (by omega) hcmd
  rw [hd, if_pos rfl, hw] at hrow
  refine ⟨_, hrow, ?_⟩
  rw [State.finish_fwu, State.finish_fetchStop]
  simp only [State.flag, State.fld_finish]
  exact ⟨hnone, hcommitted, hrunning, hlive, hpending, hseen, houtcome, hfetch, h.adminRuns.finish_ended hslot _⟩

/-- An activation given up at 800 ms: the image stays in its slot, pending. -/
theorem State.gaveUp_reports (hhi : r.slot ≤ 2) : ((s.activationOver r 5).makePending r.slot).fwu = { s.fwu with run := none } ∧
    ((s.activationOver r 5).makePending r.slot).fld F.fwuActOutcome = 5 ∧
    ((s.activationOver r 5).makePending r.slot).flag F.fwuStatPending = true ∧
    ((s.activationOver r 5).makePending r.slot).fld F.fwuSlotPendingslot = r.slot ∧
    ((s.activationOver r 5).makePending r.slot).q.fetchStop = false := by
  obtain ⟨hfwu, hq, houtcome, -, -⟩ := s.activationOver_reports (r := r) (outcome := 5) (by decide)
  generalize s.activationOver r 5 = w at *
  have hnoted := w.makePending_leaves (slot := r.slot)
  obtain ⟨hpending, hnum⟩ := w.makePending_reports (slot := r.slot) (by omega)
  exact ⟨hnoted.fwu.trans hfwu, (w.makePending_puts _ (by decide)).trans houtcome, hpending, hnum,
    (congrArg Qen.fetchStop hnoted.q).trans (congrArg Qen.fetchStop hq)⟩

theorem exec_activationDrainTimeout_abandons (ha : s.armed .activationDrain = true) (hrun : s.fwu.run = some r) (hhi : r.slot ≤ 2) :
    ∃ t, exec .activationDrainTimeout s = .next t ∧ t.fwu.run = none ∧ t.fwu.running = s.fwu.running ∧ t.fld F.fwuActOutcome = 5 ∧
      t.flag F.fwuStatPending = true ∧ t.fld F.fwuSlotPendingslot = r.slot ∧ t.q.fetchStop = false := by
  have hrow : execActivationDrainTimeout s = _ := onTimer_armed ha _
  have hfwu : (s.expire .activationDrain).fwu = s.fwu := by rw [State.expire_frame]
  obtain ⟨hend, houtcome, hpending, hnum, hfetch⟩ := (s.expire .activationDrain).gaveUp_reports (r := r) hhi
  rw [hfwu, hrun] at hrow
  rw [hfwu] at hend
  dsimp only at hrow
  generalize ((s.expire .activationDrain).activationOver r 5).makePending r.slot = w at *
  cases hc : r.cmd with
  | none =>
    rw [hc] at hrow
    exact ⟨w, hrow, by rw [hend], by rw [hend], houtcome, hpending, hnum, hfetch⟩
  | some c =>
    rw [hc] at hrow
    refine ⟨_, hrow, ?_⟩
    rw [State.finish_fwu, State.finish_fetchStop]
    simp only [State.flag, State.fld_finish]
    exact ⟨by rw [hend], by rw [hend], houtcome, hpending, hnum, hfetch⟩

/-! ### Scheduled activations (R420) -/

theorem exec_scheduledActivationDue_starts {at_ : Nat} (hrun : s.fwu.run = none) (harm : s.fwu.armed = some at_) (hdue : at_ ≤ s.devTime)
    (hy : s.sup.yielded = none) (hpend : s.flag F.fwuStatPending = true) (hbar : s.activationBarred = false) :
    ∃ t r, exec (.scheduledActivationDue ms x) s = .next t ∧ t.fwu.run = some r ∧ r.cmd = none ∧ r.slot = s.fld F.fwuSlotPendingslot ∧
      t.fwu.armed = none ∧ t.fld F.fwuActStep = 1 ∧ t.q.fetchStop = true := by
  have hrow : execScheduledActivationDue ms x s = .next (s.activate none (s.fld F.fwuSlotPendingslot)) := by
    rw [execScheduledActivationDue, hrun, harm]
    dsimp only
    rw [if_neg (by omega), hy, if_neg (by decide), hbar, hpend, if_neg (by decide)]
  obtain ⟨hr, harmed, -, hstep, hfetch, -⟩ := s.activate_reports (cmd := none) (slot := s.fld F.fwuSlotPendingslot)
  exact ⟨_, _, hrow, hr, rfl, rfl, harmed, hstep, hfetch⟩

theorem State.skipActivation_reports : s.skipActivation.fwu = { s.fwu with armed := none } ∧ s.skipActivation.flag F.fwuStatSkipseen = true ∧
    s.skipActivation.fld F.fwuActOutcome = 3 ∧ s.skipActivation.flag F.fwuStatPending = s.flag F.fwuStatPending := by
  unfold State.skipActivation
  extract_lets _ t u
  have hputs : s.PutsOnly [F.fwuStatArmed, F.fwuStatSkipseen, F.fwuActOutcome] u := by
    have ht : s.PutsOnly [F.fwuStatArmed, F.fwuStatSkipseen, F.fwuActOutcome] t := .of_regs rfl
    exact ((ht.setFld (by decide) (by decide)).setFld (by decide) (by decide)).setFld (by decide) (by decide)
  have hseen : u.flag F.fwuStatSkipseen = true := by
    simp (disch := decide) only [u, State.flag, State.setFlag_eq, State.clrFlag_eq, State.fld_setFld_apart, State.fld_setFld]
    rfl
  have houtcome : u.fld F.fwuActOutcome = 3 := State.fld_setFld _ _ _ (by decide)
  have hfwu : u.fwu = { s.fwu with armed := none } := rfl
  clear_value u
  have hnoted := ((State.Noted.refl u).cancel .scheduled).event 0x0E04 (u.word Reg.fwuAct).toNat 0 0 0
  have hkept : u.FwRegsKept ((u.cancel .scheduled).event 0x0E04 (u.word Reg.fwuAct).toNat 0 0 0) :=
    State.FwRegsKept.event (.of_regs (State.cancel_regs _ _)) _ _ _ _ _
  exact ⟨hnoted.fwu.trans hfwu, (hkept.flag _ (by decide)).trans hseen, (hkept _ (by decide)).trans houtcome,
    (hkept.flag _ (by decide)).trans (hputs.flag _ (by decide))⟩

theorem exec_scheduledActivationDue_skips {at_ : Nat} (hrun : s.fwu.run = none) (harm : s.fwu.armed = some at_) (hdue : at_ ≤ s.devTime)
    (hy : s.sup.yielded = none) (hbar : s.activationBarred = true) :
    ∃ t, exec (.scheduledActivationDue ms x) s = .next t ∧ t.fwu.run = none ∧ t.fwu.armed = none ∧ t.flag F.fwuStatSkipseen = true ∧
      t.fld F.fwuActOutcome = 3 ∧ t.flag F.fwuStatPending = s.flag F.fwuStatPending := by
  have hrow : execScheduledActivationDue ms x s = .next s.skipActivation := by
    rw [execScheduledActivationDue, hrun, harm]
    dsimp only
    rw [if_neg (by omega), hy, if_neg (by decide), hbar, Bool.true_or, if_pos rfl]
  obtain ⟨hfwu, hseen, houtcome, hpend⟩ := s.skipActivation_reports
  exact ⟨_, hrow, by rw [hfwu, hrun], by rw [hfwu], hseen, houtcome, hpend⟩

theorem exec_scheduledActivationDue_early {at_ : Nat} (hrun : s.fwu.run = none) (harm : s.fwu.armed = some at_) (hearly : s.devTime < at_) :
    exec (.scheduledActivationDue ms x) s = .next s := by
  show execScheduledActivationDue ms x s = _
  rw [execScheduledActivationDue, hrun, harm]
  dsimp only
  rw [if_pos hearly]

theorem exec_scheduledActivationDue_switches (hrun : s.fwu.run = some r) (hcmd : r.cmd = none) (hd : s.drainedFor none = true) (hhi : r.slot ≤ 2) :
    ∃ t, exec (.scheduledActivationDue ms 0) s = .next t ∧ t.fwu.run = none ∧ t.fld F.fwuSlotCommitted = r.slot ∧
      t.flag F.fwuStatPending = false ∧ t.fld F.fwuActOutcome = 1 ∧ t.q.fetchStop = false := by
  have hrow : execScheduledActivationDue ms 0 s = .next (s.activateParts r ms 0) := by
    rw [execScheduledActivationDue, hrun]
    dsimp only
    rw [hcmd, hd, Option.isNone_none, Bool.and_self, if_pos rfl]
  obtain ⟨hnone, hcommitted, -, hpending, houtcome, hfetch, -⟩ := State.activateParts_switches (s := s) ms hhi
  exact ⟨_, hrow, hnone, hcommitted, hpending, houtcome, hfetch⟩

end

/-- Settles O28: downloads, commits, activations and schedules by their own lemmas. -/
theorem firmwareRowsComplete : Obligations.FirmwareRowsComplete := by
  unfold Obligations.FirmwareRowsComplete
  refine ⟨fun _ _ _ _ _ h hsup hlen hpos hmax => exec_firmwareImageDownload_stages h hsup hlen hpos hmax,
    fun _ _ _ _ _ _ h hsup hbad => exec_firmwareImageDownload_badField h hsup hbad,
    fun _ _ _ _ _ _ _ h hsup hrun hlc hrole => exec_firmwareCommit_denied h hsup hrun hlc hrole,
    fun _ _ _ _ _ _ _ h hsup hrun hlc hrole hbad => exec_firmwareCommit_badField h hsup hrun hlc hrole hbad,
    fun _ _ _ _ _ _ _ h hsup hrun hlc hrole hfs hca => exec_firmwareCommit_staged h hsup hrun hlc hrole hfs hca,
    fun _ _ _ _ _ _ h hsup hrun hlc hrole hfs _ hbar => exec_firmwareCommit_barred h hsup hrun hlc hrole hfs hbar,
    fun _ _ _ _ _ _ h hsup hrun hlc hrole hfs hfmt hstall => exec_firmwareCommit_activates h hsup hrun hlc hrole hfs hfmt hstall,
    fun _ _ _ _ _ _ _ _ h hsup hrun hcmd hd => exec_firmwareCommit_waits h hsup hrun hcmd hd,
    fun _ _ _ _ _ _ _ h hsup hrun hcmd hd _ hhi => exec_firmwareCommit_switches h hsup hrun hcmd hd hhi,
    fun _ _ _ _ _ _ _ _ h hsup hrun hcmd hd hx _ => exec_firmwareCommit_rollsBack h hsup hrun hcmd hd hx,
    fun _ _ ha hrun _ hhi => exec_activationDrainTimeout_abandons ha hrun hhi, fun s ha => ?drainIdle,
    fun _ _ _ _ hrun harm hdue hy hpend hbar => exec_scheduledActivationDue_starts hrun harm hdue hy hpend hbar,
    fun _ _ _ _ hrun harm hdue hy hbar => exec_scheduledActivationDue_skips hrun harm hdue hy hbar,
    fun _ _ _ _ hrun harm hearly => exec_scheduledActivationDue_early hrun harm hearly,
    fun _ _ _ hrun hcmd hd _ hhi => exec_scheduledActivationDue_switches hrun hcmd hd hhi⟩
  show execActivationDrainTimeout s = _
  exact onTimer_unarmed ha _

end Sys2Proof.Machine
end

section
/-! SUPPORT. Writes of the registers whose fields only store what they are given (R451, R452, R511, R514): what the register holds after one, and that
an accepted write changes nothing else but its note. -/

namespace Sys2Proof.Machine

/-! ### The bits of a stored field -/

/-- A bit lies in a field of its word. -/
def Fld.holds (f : Fld) (i : Nat) : Bool := decide (f.sh ≤ i) && decide (i < f.sh + f.wid)

theorem Fld.getLsbD_put_get (f : Fld) (v w : Word) (h : f.sh + f.wid ≤ 32) (i : Nat) :
    (f.put (f.get v) w).getLsbD i = if f.holds i = true then v.getLsbD i else w.getLsbD i := by
  have hval : (f.put (f.get v) w).toNat =
      2 ^ f.sh * (2 ^ f.wid * (w.toNat / 2 ^ (f.sh + f.wid)) + f.get v % 2 ^ f.wid) + w.toNat % 2 ^ f.sh := by
    rw [Fld.put_toNat f _ w h, pow_add]
    ring
  have hlow : w.toNat % 2 ^ f.sh < 2 ^ f.sh := Nat.mod_lt _ (Nat.two_pow_pos _)
  have hmid : f.get v % 2 ^ f.wid < 2 ^ f.wid := Nat.mod_lt _ (Nat.two_pow_pos _)
  simp only [← BitVec.testBit_toNat, hval, Nat.testBit_two_pow_mul_add _ hlow, Nat.testBit_two_pow_mul_add _ hmid, Fld.holds, Bool.and_eq_true,
    decide_eq_true_eq]
  rcases Nat.lt_or_ge i f.sh with hi | hi
  · simp [hi, Nat.not_le.2 hi, Nat.testBit_mod_two_pow]
  · rcases Nat.lt_or_ge i (f.sh + f.wid) with hj | hj
    · have hk : i - f.sh < f.wid := by omega
      simp [Nat.not_lt.2 hi, hi, hj, hk, Fld.get, Nat.testBit_mod_two_pow, Nat.testBit_div_two_pow, Nat.sub_add_cancel hi]
    · have hk : ¬ i - f.sh < f.wid := by omega
      have he : i - f.sh - f.wid + (f.sh + f.wid) = i := by omega
      simp [Nat.not_lt.2 hi, hi, Nat.not_lt.2 hj, hk, Nat.testBit_div_two_pow, he]

theorem Fld.testBit_get (f : Fld) (w : Word) (i : Nat) : (f.get w).testBit i = (decide (i < f.wid) && w.getLsbD (i + f.sh)) := by
  rw [Fld.get, Nat.testBit_mod_two_pow, Nat.testBit_div_two_pow, BitVec.testBit_toNat]

/-- A field that holds a bit of a mask is reached by it. -/
theorem Fld.get_ne_zero (f : Fld) (m : Word) {i : Nat} (hi : f.holds i = true) (hm : m.getLsbD i = true) : f.get m ≠ 0 := by
  simp only [Fld.holds, Bool.and_eq_true, decide_eq_true_eq] at hi
  intro h0
  have hbit := f.testBit_get m (i - f.sh)
  rw [h0, Nat.zero_testBit, Nat.sub_add_cancel hi.1, hm, Bool.and_true, eq_comm, decide_eq_false_iff_not] at hbit
  omega

/-- A mask that holds all bits of a field leaves it. -/
theorem Fld.get_and (f : Fld) (w m : Word) (hm : ∀ i < f.wid, m.getLsbD (i + f.sh) = true) : f.get (w &&& m) = f.get w := by
  refine Nat.eq_of_testBit_eq fun i => ?_
  rw [f.testBit_get, f.testBit_get, BitVec.getLsbD_and]
  by_cases hi : i < f.wid
  · rw [hm i hi, Bool.and_true]
  · simp [hi]

/-! ### Registers that only store -/

/-- Every field of the register stores any value and needs one role, none is a setting; `m` marks bits that lie in fields, and a write has no effect
beyond the store. -/
structure PlainReg (off : Nat) (need : Role) (m : Word) : Prop where
  rows : ∀ r ∈ rowsOf off, r.acc = .rw ∧ r.clip = .any ∧ r.role = need ∧ r.cls ≠ .k ∧ r.fld.sh + r.fld.wid ≤ 32
  covers : ∀ i < 32, m.getLsbD i = true → ∃ r ∈ rowsOf off, r.fld.holds i = true
  some : rowsOf off ≠ []
  role : need ≠ .none
  high : off < 0x10000
  effect : off ∉ [Reg.mapCapCtl, Reg.crsLayout, Reg.lifHoldup, Reg.rclEol, Reg.crsCtl, Reg.crsStage, Reg.lifCkptCtl]

/-- The word that a masked write merges of the old word and the value (R451). -/
def mergeWord (old val mask : Word) : Word := (old &&& ~~~mask) ||| (val &&& mask)

theorem mergeWord_full (old val : Word) : mergeWord old val (beMask 15) = val := by
  have hm : beMask 15 = BitVec.allOnes 32 := by decide
  rw [mergeWord, hm, BitVec.not_allOnes, BitVec.and_zero, BitVec.zero_or, BitVec.and_allOnes]

/-- Within the mask, the value's bits. -/
theorem mergeWord_and (old val mask : Word) : mergeWord old val mask &&& mask = val &&& mask := by
  refine BitVec.eq_of_getLsbD_eq fun i hi => ?_
  cases hm : mask.getLsbD i <;>
    simp only [mergeWord, BitVec.getLsbD_and, BitVec.getLsbD_or, BitVec.getLsbD_not, hm, hi, decide_true, Bool.not_true, Bool.not_false,
      Bool.and_true, Bool.and_false, Bool.or_false, Bool.false_or]

theorem mergeWord_zero (old val : Word) : mergeWord old val 0 = old := by
  show (old &&& ~~~0#32) ||| (val &&& 0#32) = old
  rw [BitVec.and_zero, BitVec.or_zero, BitVec.not_zero, BitVec.and_allOnes]

section
variable {off : Nat} {need : Role} {m : Word} (s : State)

/-- Once a bit is as merged, the fields stored after keep it. -/
theorem State.storeRw_keeps (old merged mask : Word) {i : Nat} : ∀ (rows : List FieldRow) (w : Word),
    (∀ r ∈ rows, r.clip = .any ∧ r.fld.sh + r.fld.wid ≤ 32) → w.getLsbD i = merged.getLsbD i →
    (rows.foldl (fun w r => if r.acc = .rw ∧ r.fld.get mask ≠ 0 then r.fld.put (s.clipped r w (r.fld.get old) (r.fld.get merged)) w else w)
      w).getLsbD i = merged.getLsbD i
  | [], _, _, hw => hw
  | r :: rows, w, hrows, hw => by
    obtain ⟨hclip, hfit⟩ := hrows r (List.mem_cons_self ..)
    refine State.storeRw_keeps old merged mask rows _ (fun x hx => hrows x (List.mem_cons_of_mem _ hx)) ?_
    simp only
    split
    · have hv : s.clipped r w (r.fld.get old) (r.fld.get merged) = r.fld.get merged := by rw [State.clipped, hclip]; rfl
      rw [hv, Fld.getLsbD_put_get _ _ _ hfit]
      split
      · rfl
      · exact hw
    · exact hw

/-- A masked write of a bit in a field: the bit is as merged. -/
theorem PlainReg.storeRw_bit (h : PlainReg off need m) (old val mask : Word) {i : Nat} (hi : i < 32) (hm : m.getLsbD i = true) :
    (s.storeRw (rowsOf off) old (mergeWord old val mask) mask).getLsbD i = (mergeWord old val mask).getLsbD i := by
  have hrows : ∀ r ∈ rowsOf off, r.clip = .any ∧ r.fld.sh + r.fld.wid ≤ 32 := fun r hr => by
    obtain ⟨-, hclip, -, -, hfit⟩ := h.rows r hr
    exact ⟨hclip, hfit⟩
  cases hmask : mask.getLsbD i with
  | false =>
    exact s.storeRw_keeps old _ mask _ _ hrows
      (by simp only [mergeWord, BitVec.getLsbD_or, BitVec.getLsbD_and, BitVec.getLsbD_not, hmask, hi, decide_true, Bool.not_false,
        Bool.and_true, Bool.and_false, Bool.or_false])
  | true =>
    obtain ⟨r, hr, hold⟩ := h.covers i hi hm
    obtain ⟨hrw, hclip, -, -, hfit⟩ := h.rows r hr
    obtain ⟨before, after, hsplit⟩ := List.append_of_mem hr
    have hgo : r.acc = .rw ∧ r.fld.get mask ≠ 0 := ⟨hrw, r.fld.get_ne_zero mask hold hmask⟩
    rw [State.storeRw, hsplit, List.foldl_append, List.foldl_cons]
    refine s.storeRw_keeps old _ mask after _ (fun x hx => hrows x (by rw [hsplit]; simp [hx])) ?_
    rw [if_pos hgo, State.clipped, hclip]
    exact (Fld.getLsbD_put_get _ _ _ hfit i).trans (if_pos hold)

/-- What a masked write stores, as far as fields reach. -/
theorem PlainReg.storeRw_and (h : PlainReg off need m) (old val mask : Word) :
    s.storeRw (rowsOf off) old (mergeWord old val mask) mask &&& m = mergeWord old val mask &&& m := by
  refine BitVec.eq_of_getLsbD_eq fun i hi => ?_
  simp only [BitVec.getLsbD_and]
  cases hm : m.getLsbD i with
  | false => simp
  | true => rw [h.storeRw_bit s old val mask hi hm]

end

/-! ### The accepted write (R452) -/

/-- The state of an accepted write, with its note where it changed a field. -/
def State.MaybeNoted (s t : State) : Prop := t = s ∨ ∃ a b c, t = s.noteGated a b c

section
variable {s t : State}

theorem State.MaybeNoted.noted (h : s.MaybeNoted t) : s.Noted t := by
  obtain rfl | ⟨a, b, c, rfl⟩ := h
  · exact .refl _
  · exact (State.Noted.refl s).noteGated a b c

theorem State.MaybeNoted.word (h : s.MaybeNoted t) {o : Nat} (ho : o ∉ gatedRegs) : t.word o = s.word o := by
  obtain rfl | ⟨a, b, c, rfl⟩ := h
  · rfl
  · exact s.noteGated_word a b c ho

theorem State.MaybeNoted.fld (h : s.MaybeNoted t) (f : Fld) (hf : f.dw ∉ gatedRegs) : t.fld f = s.fld f :=
  congrArg f.get (h.word hf)

theorem State.MaybeNoted.dpBuf (h : s.MaybeNoted t) : t.cfs.dpBuf = s.cfs.dpBuf := by
  obtain rfl | ⟨a, b, c, rfl⟩ := h
  · rfl
  · exact s.noteGated_dpBuf a b c

theorem State.MaybeNoted.bank (h : s.MaybeNoted t) (pf : Nat) : t.bank pf = s.bank pf := by rw [h.noted]; rfl
theorem State.MaybeNoted.sec (h : s.MaybeNoted t) : t.sec = s.sec := by rw [h.noted]
theorem State.MaybeNoted.str (h : s.MaybeNoted t) : t.str = s.str := by rw [h.noted]
theorem State.MaybeNoted.keys (h : s.MaybeNoted t) : t.keys = s.keys := by rw [h.noted]
theorem State.MaybeNoted.records (h : s.MaybeNoted t) : t.records = s.records := by rw [h.noted]

end

section
variable {off : Nat} {need : Role} {m : Word} (s : State)

theorem PlainReg.clearBits (h : PlainReg off need m) (ones : Word) : Machine.clearBits (rowsOf off) ones = 0 := by
  refine List.foldlRecOn _ _ (motive := fun w => w = 0) rfl fun w hw r hr => ?_
  obtain ⟨hrw, -⟩ := h.rows r hr
  exact (if_neg (by rw [hrw]; decide)).trans hw

theorem PlainReg.not_readOnly (h : PlainReg off need m) : (rowsOf off).all (fun r => decide (r.acc = .ro)) = false := by
  obtain ⟨r, hr⟩ := List.exists_mem_of_ne_nil _ h.some
  obtain ⟨hrw, -⟩ := h.rows r hr
  exact List.all_eq_false.2 ⟨r, hr, by rw [hrw]; decide⟩

theorem PlainReg.regEffect (h : PlainReg off need m) : s.regEffect off = s := by
  have heff := h.effect
  simp only [List.mem_cons, List.not_mem_nil, or_false, not_or] at heff
  obtain ⟨-, -, hhold, heol, hctl, hstage, hckpt⟩ := heff
  rw [State.regEffect, if_neg hhold, if_neg heol, if_neg (not_or.2 ⟨hctl, hstage⟩), if_neg hckpt]

theorem PlainReg.newWord (h : PlainReg off need m) (old merged mask : Word) :
    s.newWord off (rowsOf off) old merged mask = (s.storeRw (rowsOf off) old merged mask, s) := by
  have heff := h.effect
  simp only [List.mem_cons, List.not_mem_nil, or_false, not_or] at heff
  obtain ⟨hcap, hlayout, -⟩ := heff
  exact s.newWord_plain _ _ _ _ hcap hlayout

/-- The fields changed are all of the register's one kind. -/
theorem PlainReg.rows_changes (h : PlainReg off need m) {old merged mask ones : Word} {r : FieldRow}
    (hr : r ∈ s.changes (rowsOf off) old merged mask ones) : r.acc = .rw ∧ r.role = need ∧ r.cls ≠ .k := by
  obtain ⟨hacc, -, hrole, hcls, -⟩ := h.rows r (List.mem_filter.1 hr).1
  exact ⟨hacc, hrole, hcls⟩

/-- A block that BAR2 decodes, reached by a mask. -/
theorem State.regWrite_guard {mask : Word} (hdead : s.flag F.genStateDead = false) (hoff : off < 0x10000) (hmask : mask ≠ 0) :
    ¬(!(s.decodesReg off) ∨ mask = 0 ∨ (s.flag F.genStateDead = true ∧ off < 0x100)) := by
  have hdec : s.decodesReg off = true := by simp [State.decodesReg, hoff, hdead]
  rintro (h | h | ⟨h, -⟩)
  · simp [hdec] at h
  · exact hmask h
  · simp [hdead] at h

/-- With its role, a write of such a register is stored, and noted where it changes something. -/
theorem PlainReg.regWrite (h : PlainReg off need m) (src pf : Nat) (val mask : Word) (hdead : s.flag F.genStateDead = false)
    (hrole : s.mayAs pf need = true) (hmask : mask ≠ 0) :
    ∃ w t, s.regWrite src pf off val mask = (true, t) ∧ (s.storeWord pf off w).MaybeNoted t ∧
      w &&& m = mergeWord (s.writeView pf off) val mask &&& m := by
  have hhit : ∀ r ∈ s.changes (rowsOf off) (s.writeView pf off) (mergeWord (s.writeView pf off) val mask) mask (val &&& mask),
      r.acc = .rw ∧ r.role = need ∧ r.cls ≠ .k := fun r hr => h.rows_changes s hr
  have hw := h.storeRw_and s (s.writeView pf off) val mask
  simp only [mergeWord] at hhit hw
  unfold State.regWrite
  rw [if_neg (s.regWrite_guard hdead h.high hmask)]
  simp only
  generalize s.changes (rowsOf off) (s.writeView pf off) _ mask (val &&& mask) = hit at hhit ⊢
  have hmissing : s.missing pf hit = none := by
    have hnone : hit.filter (fun r => !(s.mayWrite pf r)) = [] := List.filter_eq_nil_iff.2 fun r hr => by
      obtain ⟨-, hneed, -⟩ := hhit r hr
      simp [State.mayWrite, hneed, hrole]
    rw [State.missing, hnone, List.foldl_nil]
  have hact : hit.filter (fun r => decide (r.acc = .wo) || decide (r.acc = .w1s)) = [] := List.filter_eq_nil_iff.2 fun r hr => by
    obtain ⟨hrw, -, -⟩ := hhit r hr
    rw [hrw]
    decide
  have hkeep : hit.any (fun r => decide (r.cls = .k)) = false := List.any_eq_false.2 fun r hr => by
    obtain ⟨-, -, hcls⟩ := hhit r hr
    simpa using hcls
  have hclear : ∀ w : Word, w &&& ~~~(0 : Word) = w := fun _ => BitVec.and_allOnes
  simp only [hmissing, h.not_readOnly, h.newWord, h.clearBits, hclear, hact, hkeep, h.regEffect, List.foldl_nil, Bool.false_eq_true, if_false]
  refine ⟨_, _, rfl, ?_, hw⟩
  split
  · exact .inr ⟨_, _, _, rfl⟩
  · exact .inl rfl

/-- Where every changed field needs the role that is missing, that role is asked for. -/
theorem State.missing_of_role {pf : Nat} {hit : List FieldRow} (hmay : ∀ r ∈ hit, s.mayWrite pf r = false) (hneed : ∀ r ∈ hit, r.role = need)
    (hne : hit ≠ []) : s.missing pf hit = some need := by
  have hall : hit.filter (fun r => !(s.mayWrite pf r)) = hit := List.filter_eq_self.2 fun r hr => by simp [hmay r hr]
  rw [State.missing, hall]
  obtain ⟨r, rest, rfl⟩ := List.exists_cons_of_ne_nil hne
  rw [List.foldl_cons, hneed r (List.mem_cons_self ..)]
  refine List.foldlRecOn _ _ (motive := fun b => b = some need) rfl fun b hb x hx => ?_
  rw [hb, hneed x (List.mem_cons_of_mem _ hx)]
  exact if_neg (Nat.lt_irrefl _)

/-- Without its role, a write that would change such a register is refused whole. -/
theorem PlainReg.regWrite_refused (h : PlainReg off need m) (src pf : Nat) (val mask : Word) (hdead : s.flag F.genStateDead = false)
    (hrole : s.mayAs pf need = false) {r : FieldRow} (hr : r ∈ rowsOf off) (hreach : r.fld.get mask ≠ 0)
    (hnew : r.fld.get (mergeWord (s.writeView pf off) val mask) ≠ r.fld.get (s.writeView pf off)) :
    s.regWrite src pf off val mask = (false, s.deny src need pf (off / 4)) := by
  have hmask : mask ≠ 0 := by
    rintro rfl
    exact hreach (by simp [Fld.get])
  have hhit : ∀ x ∈ s.changes (rowsOf off) (s.writeView pf off) (mergeWord (s.writeView pf off) val mask) mask (val &&& mask), x.role = need :=
    fun x hx => by
      obtain ⟨-, hneed, -⟩ := h.rows_changes s hx
      exact hneed
  have hin : r ∈ s.changes (rowsOf off) (s.writeView pf off) (mergeWord (s.writeView pf off) val mask) mask (val &&& mask) := by
    obtain ⟨hrw, hclip, -⟩ := h.rows r hr
    refine List.mem_filter.2 ⟨hr, ?_⟩
    simp only [hrw, State.clipped, hclip, Clip.apply, Bool.and_eq_true, decide_eq_true_eq]
    exact ⟨hreach, hnew⟩
  simp only [mergeWord] at hhit hin
  unfold State.regWrite
  rw [if_neg (s.regWrite_guard hdead h.high hmask)]
  simp only
  generalize s.changes (rowsOf off) (s.writeView pf off) _ mask (val &&& mask) = hit at hhit hin ⊢
  rw [s.missing_of_role (fun x hx => by simp [State.mayWrite, hhit x hx, hrole, hdead]) hhit (List.ne_nil_of_mem hin)]

end

/-! ### Writes over BAR2 (R451, R452, R511, R518) -/

section
variable {s : State} {off pf : Nat} {need : Role} {m : Word}

/-- An awake device takes a write of a register at once. -/
theorem State.barWrite_awake (hps : s.ps ≠ 4) (hoff : off < 0x10000) (v : Word) (be : Nat) :
    s.barWrite pf off v be = ((s.touch pf).regWrite 0 pf off v (beMask be)).2 := by
  have hawake : (s.touch pf).ps ≠ 4 := fun h => hps (((s.touch_found pf).fld _).symm.trans h)
  rw [State.barWrite]
  simp only
  rw [if_neg (fun h => hawake h.1), State.barStore, if_neg (by omega)]

/-- A write that lands on such a register stores its word in the state found. -/
theorem PlainReg.barWrite (h : PlainReg off need m) (hl : s.BitLands pf need) (v : Word) {be : Nat} (hmask : beMask be ≠ 0) :
    ∃ x w, s.Found pf x ∧ (x.storeWord pf off w).MaybeNoted (s.barWrite pf off v be) ∧
      w &&& m = mergeWord (x.writeView pf off) v (beMask be) &&& m := by
  obtain ⟨-, -, hdead, hps, hrole⟩ := hl
  have hx := s.touch_found pf
  obtain ⟨w, t, hw, hnoted, hword⟩ :=
    h.regWrite (s.touch pf) 0 pf v (beMask be) ((hx.flag _).trans hdead) ((hx.mayAs _ _).trans hrole) hmask
  refine ⟨_, w, hx, ?_, hword⟩
  rw [State.barWrite_awake hps h.high, hw]
  exact hnoted

/-- A write of all four bytes stores the bits of the value, as far as fields reach. -/
theorem PlainReg.barWrite_full (h : PlainReg off need m) (hl : s.BitLands pf need) (v : Word) :
    ∃ x w, s.Found pf x ∧ (x.storeWord pf off w).MaybeNoted (s.barWrite pf off v 15) ∧ w &&& m = v &&& m := by
  obtain ⟨x, w, hx, hnoted, hw⟩ := h.barWrite hl v (be := 15) (by decide)
  exact ⟨x, w, hx, hnoted, by rw [hw, mergeWord_full]⟩

/-- The same for a register that is one field. -/
theorem PlainReg.barWrite_whole (h : PlainReg off need (BitVec.allOnes 32)) (hl : s.BitLands pf need) (v : Word) :
    ∃ x, s.Found pf x ∧ (x.storeWord pf off v).MaybeNoted (s.barWrite pf off v 15) := by
  obtain ⟨x, w, hx, hnoted, hw⟩ := h.barWrite_full hl v
  rw [BitVec.and_allOnes, BitVec.and_allOnes] at hw
  exact ⟨x, hx, hw ▸ hnoted⟩

end

/-! ### The registers -/

/-- `PlainReg` of a register whose offset is known. -/
def plainReg (off : Nat) (need : Role) (m : Word) : Bool :=
  (rowsOf off).all (fun r => decide (r.acc = .rw) && decide (r.clip = .any) && decide (r.role = need) && decide (r.cls ≠ .k) &&
    decide (r.fld.sh + r.fld.wid ≤ 32)) &&
  (List.range 32).all (fun i => !(m.getLsbD i) || (rowsOf off).any (fun r => r.fld.holds i)) && !(rowsOf off).isEmpty && decide (need ≠ .none) &&
  decide (off < 0x10000) &&
  decide (off ∉ [Reg.mapCapCtl, Reg.crsLayout, Reg.lifHoldup, Reg.rclEol, Reg.crsCtl, Reg.crsStage, Reg.lifCkptCtl])

theorem PlainReg.of_plainReg {off : Nat} {need : Role} {m : Word} (h : plainReg off need m = true) : PlainReg off need m := by
  simp only [plainReg, Bool.and_eq_true, List.all_eq_true, decide_eq_true_eq, Bool.or_eq_true, Bool.not_eq_true', List.any_eq_true,
    List.mem_range, List.isEmpty_eq_false_iff] at h
  obtain ⟨⟨⟨⟨⟨hrows, hcovers⟩, hsome⟩, hrole⟩, hhigh⟩, heffect⟩ := h
  refine ⟨fun r hr => ?_, fun i hi hm => ?_, hsome, hrole, hhigh, heffect⟩
  · obtain ⟨⟨⟨⟨hacc, hclip⟩, hneed⟩, hcls⟩, hfit⟩ := hrows r hr
    exact ⟨hacc, hclip, hneed, hcls, hfit⟩
  · exact (hcovers i hi).resolve_left (by simp [hm])

theorem plain_genScratch {k : Nat} (hk : k < 4) : PlainReg (Reg.genScratch k) .operator (BitVec.allOnes 32) :=
  .of_plainReg ((by decide : ∀ k < 4, plainReg (Reg.genScratch k) .operator (BitVec.allOnes 32) = true) k hk)

theorem plain_strWsel : PlainReg Reg.strWsel .operator 0xFF := .of_plainReg (by decide)
theorem plain_cfsDpsel : PlainReg Reg.cfsDpsel .operator 0xFFFF0FFC := .of_plainReg (by decide)
theorem plain_cfsDpdata : PlainReg Reg.cfsDpdata .installer (BitVec.allOnes 32) := .of_plainReg (by decide)
theorem plain_secKsel : PlainReg Reg.secKsel .operator 0xFF := .of_plainReg (by decide)
theorem plain_secKdata : PlainReg Reg.secKdata .installer (BitVec.allOnes 32) := .of_plainReg (by decide)
theorem plain_evwCursor : PlainReg Reg.evwCursor .operator (BitVec.allOnes 32) := .of_plainReg (by decide)

end Sys2Proof.Machine
end

section
/-! SUPPORT. The rows of register accesses (R440, R451, R453, R474, R475, R510 to R514, R518, R151). -/

namespace Sys2Proof.Machine

theorem onBar_next {s : State} {pf : Nat} (hpf : pf < 2) (hport : (s.port pf).perst = false) (t : State) : onBar s pf t = .next t := by
  rw [onBar, if_neg (by omega), if_neg (by simp [hport])]

/-! ### Where words lie -/

section
variable (s : State) (pf : Nat) {off : Nat}

theorem State.storeWord_plain (h : off ∉ specialRegs) (hc : off ≠ Reg.evwCtl) (w : Word) : s.storeWord pf off w = s.setWord off w := by
  simp only [specialRegs, List.mem_cons, List.not_mem_nil, or_false, not_or] at h
  obtain ⟨-, -, -, -, -, -, -, hs, hcur, hks, hkd, hds, hdd, hw⟩ := h
  unfold State.storeWord
  simp only [if_neg hc, if_neg hs, if_neg hcur, if_neg hks, if_neg hkd, if_neg hds, if_neg hdd, if_neg hw]

theorem State.writeView_plain (h : off ∉ specialRegs) (hc : off ≠ Reg.evwCtl) : s.writeView pf off = s.word off := by
  simp only [specialRegs, List.mem_cons, List.not_mem_nil, or_false, not_or] at h
  obtain ⟨-, -, -, -, -, -, -, hs, hcur, -, hkd, -, hdd, -⟩ := h
  unfold State.writeView State.banked
  simp only [if_neg hc, if_neg hs, if_neg hcur, if_neg hkd, if_neg hdd]

end

/-! ### The scratch registers (R451, R452) -/

/-- The scratch registers are plain words, apart from those that a note or a refusal may change. -/
theorem genScratch_apart {k : Nat} (hk : k < 4) :
    Reg.genScratch k ∉ specialRegs ∧ Reg.genScratch k ≠ Reg.evwCtl ∧ Reg.genScratch k ∉ gatedRegs ∧ Reg.genScratch k ∉ denyRegs :=
  (by decide : ∀ k < 4, Reg.genScratch k ∉ specialRegs ∧ Reg.genScratch k ≠ Reg.evwCtl ∧ Reg.genScratch k ∉ gatedRegs ∧
    Reg.genScratch k ∉ denyRegs) k hk

section
variable {s : State} {pf k : Nat}

theorem exec_registerWrite_scratch (h : s.BitLands pf .operator) (hk : k < 4) (v : Word) :
    ∃ t, exec (.registerWrite pf (Reg.genScratch k) v 15) s = .next t ∧ t.word (Reg.genScratch k) = v ∧
      (∀ j, j < 4 → j ≠ k → t.word (Reg.genScratch j) = s.word (Reg.genScratch j)) ∧ t.q = s.q := by
  obtain ⟨x, hx, hnoted⟩ := (plain_genScratch hk).barWrite_whole h v
  obtain ⟨hplain, hctl, hgated, -⟩ := genScratch_apart hk
  rw [x.storeWord_plain pf hplain hctl] at hnoted
  refine ⟨_, h.onBar _, ?_, fun j hj hne => ?_, ?_⟩
  · rw [hnoted.word hgated, State.word_setWord]
  · obtain ⟨-, -, hgatedj, -⟩ := genScratch_apart hj
    have hoff : Reg.genScratch j ≠ Reg.genScratch k := by simp only [Reg.genScratch]; omega
    rw [hnoted.word hgatedj, State.word_setWord_ne _ _ _ _ hoff, hx.word]
  · rw [hnoted.noted.q]
    show x.q = s.q
    rw [hx.frame]

end

theorem Fld.get_whole {off : Nat} (hoff : off % 4 = 0) (w : Word) : (⟨off, 0, 32⟩ : Fld).get w = w.toNat := by
  simp only [Fld.get, Fld.sh, hoff, Nat.mul_zero, Nat.add_zero, Nat.pow_zero, Nat.div_one]
  exact Nat.mod_eq_of_lt w.isLt

/-- A register that is one field, kept where the field is. -/
theorem State.word_of_whole {s t : State} {off : Nat} (hoff : off % 4 = 0) (h : t.fld ⟨off, 0, 32⟩ = s.fld ⟨off, 0, 32⟩) :
    t.word off = s.word off := by
  have hdw : (⟨off, 0, 32⟩ : Fld).dw = off := by simp [Fld.dw, hoff]
  simp only [State.fld, hdw, Fld.get_whole hoff] at h
  exact BitVec.eq_of_toNat_eq h

theorem State.deny_scratch (s : State) (src : Nat) (need : Role) (fn target : Nat) {k : Nat} (hk : k < 4) :
    (s.deny src need fn target).word (Reg.genScratch k) = s.word (Reg.genScratch k) := by
  have hapart : denyFields.all (fun f => (F.genScratchData k).apart f) = true :=
    (by decide : ∀ k < 4, denyFields.all (fun f => (F.genScratchData k).apart f) = true) k hk
  exact State.word_of_whole (by simp only [Reg.genScratch]; omega) (s.deny_puts src need fn target _ hapart)

/-- SEC_STAT and SEC_DENYLOG tell of a refused register write: its source, its function and the register's dword (R451, R465). -/
theorem State.deny_log (s : State) {src fn target : Nat} (need : Role) (hsrc : src < 2) (hfn : fn < 2 ^ 11) (htarget : target < 2 ^ 15) :
    (s.deny src need fn target).flag F.secStatDenyseen = true ∧ (s.deny src need fn target).fld F.secDenylogSrc = src ∧
      (s.deny src need fn target).fld F.secDenylogFunc = fn ∧ (s.deny src need fn target).fld F.secDenylogTarget = target := by
  have hnum : src % 2 ^ F.secDenylogSrc.wid = src ∧ fn % 2 ^ F.secDenylogFunc.wid = fn ∧ target % 2 ^ F.secDenylogTarget.wid = target :=
    ⟨Nat.mod_eq_of_lt (Nat.lt_trans hsrc (by decide)), Nat.mod_eq_of_lt hfn, Nat.mod_eq_of_lt htarget⟩
  obtain ⟨hsrcNum, hfnNum, htargetNum⟩ := hnum
  unfold State.deny
  extract_lets t u v w
  have hend : ∀ f : Fld, f.dw ∈ [Reg.secStat, Reg.secDenylog] → (w.secCnt 11).fld f = v.fld f := fun f hf => by
    have hapart : ∀ o ∈ [Reg.secStat, Reg.secDenylog], o ≠ (F.secCntCount 11).dw ∧ o ≠ F.evwDropCount.dw ∧ o ≠ F.evwStatDropseen.dw := by decide
    obtain ⟨hcnt, hdrop, hstat⟩ := hapart _ hf
    rw [State.secCnt, State.addWrap_eq, State.fld_setFld_ne _ _ _ _ (by decide) (.inl hcnt), State.fld_event _ _ _ _ _ _ _ hdrop hstat]
  split
  · exact absurd hsrc (by decide)
  · exact absurd hsrc (by decide)
  · simp only [State.flag, hend F.secStatDenyseen (by decide), hend F.secDenylogSrc (by decide), hend F.secDenylogFunc (by decide),
      hend F.secDenylogTarget (by decide), v, u, t, State.setFlag_eq]
    simp (disch := decide) only [State.fld_setFld_apart, State.fld_setFld, hsrcNum, hfnNum, htargetNum]
    decide

section
variable {s : State} {pf k : Nat}

/-- Without the operator role, a write that would change a scratch register is refused. -/
theorem State.regWrite_scratch_refused (src : Nat) {v mask : Word} (hk : k < 4) (hdead : s.flag F.genStateDead = false) (hrole : s.mayAs pf .operator = false)
    (hnew : mergeWord (s.word (Reg.genScratch k)) v mask ≠ s.word (Reg.genScratch k)) :
    s.regWrite src pf (Reg.genScratch k) v mask = (false, s.deny src .operator pf (Reg.genScratch k / 4)) := by
  obtain ⟨hplain, hctl, -, -⟩ := genScratch_apart hk
  have hview := s.writeView_plain pf hplain hctl
  have hrows : (rowsOf (Reg.genScratch k)).map (·.fld) = [F.genScratchData k] :=
    (by decide : ∀ k < 4, (rowsOf (Reg.genScratch k)).map (·.fld) = [F.genScratchData k]) k hk
  obtain ⟨r, hr, hfld⟩ := List.mem_map.1 (hrows ▸ List.mem_singleton.2 rfl : F.genScratchData k ∈ (rowsOf (Reg.genScratch k)).map (·.fld))
  have hget : ∀ w : Word, r.fld.get w = w.toNat := fun w => by rw [hfld]; exact Fld.get_whole (by simp only [Reg.genScratch]; omega) w
  refine (plain_genScratch hk).regWrite_refused s src pf v mask hdead hrole hr ?_ ?_
  · rw [hget]
    intro h0
    rw [BitVec.eq_of_toNat_eq (x := mask) (y := 0) h0, mergeWord_zero] at hnew
    exact hnew rfl
  · rw [hget, hget, hview]
    exact fun h => hnew (BitVec.eq_of_toNat_eq h)

theorem exec_registerWrite_refused (hpf : pf < 2) (hport : (s.port pf).perst = false) (hdead : s.flag F.genStateDead = false) (hps : s.ps ≠ 4)
    (hrole : s.mayAs pf .operator = false) (hk : k < 4) {v : Word} (hv : v ≠ s.word (Reg.genScratch k)) :
    ∃ t, exec (.registerWrite pf (Reg.genScratch k) v 15) s = .next t ∧ t.word (Reg.genScratch k) = s.word (Reg.genScratch k) ∧
      t.flag F.secStatDenyseen = true ∧ t.fld F.secDenylogTarget = Reg.genScratch k / 4 ∧ t.fld F.secDenylogFunc = pf := by
  have hx := s.touch_found pf
  have hhigh : Reg.genScratch k < 0x10000 := (plain_genScratch hk).high
  have hrow : exec (.registerWrite pf (Reg.genScratch k) v 15) s = .next (s.barWrite pf (Reg.genScratch k) v 15) := onBar_next hpf hport _
  have hnew : mergeWord ((s.touch pf).word (Reg.genScratch k)) v (beMask 15) ≠ (s.touch pf).word (Reg.genScratch k) := by
    rwa [mergeWord_full, hx.word]
  rw [State.barWrite_awake hps hhigh, State.regWrite_scratch_refused 0 hk ((hx.flag _).trans hdead) ((hx.mayAs _ _).trans hrole) hnew] at hrow
  obtain ⟨hseen, -, hfunc, htarget⟩ := (s.touch pf).deny_log .operator (src := 0) (fn := pf) (target := Reg.genScratch k / 4) (by decide)
    (by omega) (by omega)
  exact ⟨_, hrow, (State.deny_scratch _ _ _ _ _ hk).trans (hx.word _), hseen, htarget, hfunc⟩

end

/-! ### Offsets without a register, and blocks that are gated (R451, R518) -/

section
variable {s : State} {pf off : Nat}

/-- A write where no register lies does nothing. -/
theorem State.regWrite_unnamed (h : rowsOf off = []) (src : Nat) (v mask : Word) : s.regWrite src pf off v mask = (true, s) := by
  unfold State.regWrite
  split
  · rfl
  · simp only [h, State.changes, List.filter_nil, State.missing, List.foldl_nil, List.all_nil, if_true]

theorem State.touch_regs : (s.touch pf).regs = s.regs := by
  unfold State.touch State.setSession
  split
  · split <;> rfl
  · rfl

theorem exec_registerWrite_unnamed (hpf : pf < 2) (hport : (s.port pf).perst = false) (hps : s.ps ≠ 4) (hoff : off < 0x10000)
    (hrows : rowsOf off = []) (v : Word) (be : Nat) : ∃ t, exec (.registerWrite pf off v be) s = .next t ∧ t.regs = s.regs ∧ t.q = s.q := by
  have hrow : exec (.registerWrite pf off v be) s = .next (s.barWrite pf off v be) := onBar_next hpf hport _
  rw [State.barWrite_awake hps hoff, State.regWrite_unnamed hrows] at hrow
  exact ⟨_, hrow, State.touch_regs, s.touch_q pf⟩

theorem exec_registerWrite_held (hpf : pf < 2) (hport : (s.port pf).perst = false) (hps : s.ps = 4) (hlo : 0x200 ≤ off) (hhi : off < 0xC00)
    (v : Word) (be : Nat) :
    ∃ t, exec (.registerWrite pf off v be) s = .next t ∧ t.hif.held = s.hif.held ++ [(pf, ⟨off, v, be⟩)] ∧ t.regs = s.regs := by
  have hx := s.touch_found pf
  have hasleep : (s.touch pf).ps = 4 := (hx.fld _).trans hps
  have hgated : (!(alwaysOn off)) = true := by simp [alwaysOn]; omega
  have hrow : exec (.registerWrite pf off v be) s = .next (s.barWrite pf off v be) := onBar_next hpf hport _
  unfold State.barWrite at hrow
  simp only at hrow
  rw [if_pos ⟨hasleep, hgated⟩] at hrow
  refine ⟨_, hrow, ?_, State.touch_regs⟩
  show (s.touch pf).hif.held ++ _ = _
  rw [hx.frame]

end

/-! ### Reads and writes by C0h (R151, R512) -/

/-- GEN_ID reads the device and vendor numbers whatever is stored. -/
theorem State.liveWord_genId (s : State) : (s.liveWord Reg.genId).1 = 0x75121F9E := by
  have hlive : liveRows.flatMap (fun r => r.at s Reg.genId) = [(F.genIdDevice, some 0x7512), (F.genIdVendor, some 0x1F9E)] := rfl
  rw [State.liveWord, hlive]
  simp only [List.foldl_cons, List.foldl_nil]
  refine BitVec.eq_of_toNat_eq ?_
  rw [Fld.put_toNat _ _ _ (by decide), Fld.put_toNat _ _ _ (by decide)]
  have hw := (s.word Reg.genId).isLt
  generalize (s.word Reg.genId).toNat = n at hw
  show ((n / 2 ^ 32 * 2 ^ 32 + 0x7512 % 2 ^ 16 * 2 ^ 16 + n % 2 ^ 16) / 2 ^ 16 * 2 ^ 16 + 0x1F9E % 2 ^ 16 * 2 ^ 0 +
    (n / 2 ^ 32 * 2 ^ 32 + 0x7512 % 2 ^ 16 * 2 ^ 16 + n % 2 ^ 16) % 2 ^ 0) = 0x75121F9E
  omega

/-- A scratch register has no live field. -/
theorem State.liveWord_genScratch (s : State) {k : Nat} (hk : k < 4) : s.liveWord (Reg.genScratch k) = (s.word (Reg.genScratch k), s) := by
  have hlive : liveRows.flatMap (fun r => r.at s (Reg.genScratch k)) = [] := by interval_cases k <;> rfl
  rw [State.liveWord, hlive, List.foldl_nil]

theorem State.word_finish (s : State) (c : Nat) (st : Status) (d o : Nat) : (s.finish c st d).word o = s.word o :=
  State.word_congr o (by rw [State.finish_frame])

section
variable {s : State} {c off x : Nat} {k : Cmd} {v m : Word}

theorem exec_registerAccess_badField (h : s.PfRuns c k) (w : Bool) (v : Word) (hbad : x ≠ 0 ∨ off % 4 ≠ 0 ∨ 0x10000 ≤ off) :
    ∃ t, exec (.registerAccess c w off v 0 x) s = .next t ∧ t.Ended c St.badField ∧ t.regs = s.regs := by
  have hrow : execRegisterAccess c w off v 0 x s = .next (s.finish c St.badField) := by
    refine (onAdmin_of_runs h.adminRuns _).trans ?_
    rw [if_neg (by simp [h.isPf_fn])]
    cases w with
    | false => rw [if_pos (by rfl), if_pos hbad]
    | true =>
      have hnone : s.regWrite 1 k.fn off v 0 = (true, s) := by rw [State.regWrite, if_pos (.inr (.inl rfl))]
      simp only [hnone, Bool.not_true, Bool.false_eq_true, if_false, if_pos hbad]
  exact ⟨_, hrow, h.adminRuns.finish_ended rfl _, by rw [State.finish_frame]⟩

theorem exec_registerAccess_read (h : s.PfRuns c k) (v m : Word) (halign : off % 4 = 0) (hoff : off < 0x10000) :
    exec (.registerAccess c false off v m 0) s = .next ((s.regRead (2 + k.fn) off).2.finish c St.ok (s.regRead (2 + k.fn) off).1.toNat) := by
  refine (onAdmin_of_runs h.adminRuns _).trans ?_
  rw [if_neg (by simp [h.isPf_fn]), if_pos (by rfl), if_neg (by omega)]

theorem State.regRead_genId (hdead : s.flag F.genStateDead = false) (req : Nat) : (s.regRead req Reg.genId).1 = 0x75121F9E := by
  have hdec : s.decodesReg Reg.genId = true := by simp [State.decodesReg, hdead, Reg.genId]
  have hnamed : namesReg Reg.genId = true := by decide
  have hlo : pairRegs.findIdx? (fun p => decide (p.1 = Reg.genId)) = none := by decide
  have hhi : pairRegs.findIdx? (fun p => decide (p.2 = Reg.genId)) = none := by decide
  unfold State.regRead
  simp only [hdec, hnamed, hlo, hhi, Bool.not_true, Bool.or_false, Bool.false_eq_true, if_false]
  rw [if_neg (by decide), if_neg (by decide), if_neg (by decide)]
  exact s.liveWord_genId

theorem exec_registerAccess_unnamed (h : s.PfRuns c k) (v m : Word) (halign : off % 4 = 0) (hoff : off < 0x10000)
    (hnone : namesReg off = false) :
    ∃ t, exec (.registerAccess c false off v m 0) s = .next t ∧ t.Ended c St.ok 0 ∧ t.regs = s.regs := by
  have hread : s.regRead (2 + k.fn) off = (0, s) := by simp [State.regRead, hnone]
  refine ⟨_, exec_registerAccess_read h v m halign hoff, ?_, ?_⟩
  · rw [hread]
    exact h.adminRuns.finish_ended rfl _ _
  · rw [hread, State.finish_frame]

end

section
variable {s : State} {c j : Nat} {k : Cmd} {v m : Word}

/-- With the operator role, the masked bits of a scratch register are stored, whatever the mask. -/
theorem State.regWrite_scratch (src pf : Nat) (v m : Word) (hdead : s.flag F.genStateDead = false) (hrole : s.mayAs pf .operator = true) (hj : j < 4) :
    ∃ t, s.regWrite src pf (Reg.genScratch j) v m = (true, t) ∧ t.word (Reg.genScratch j) = mergeWord (s.word (Reg.genScratch j)) v m ∧
      t.q = s.q := by
  obtain ⟨hplain, hctl, hgated, -⟩ := genScratch_apart hj
  by_cases hm : m = 0
  · refine ⟨s, by rw [State.regWrite, if_pos (.inr (.inl hm))], ?_, rfl⟩
    rw [hm, mergeWord_zero]
  · obtain ⟨w, t, hwrite, hnoted, hw⟩ := (plain_genScratch hj).regWrite s src pf v m hdead hrole hm
    rw [s.storeWord_plain pf hplain hctl] at hnoted
    rw [BitVec.and_allOnes, BitVec.and_allOnes, s.writeView_plain pf hplain hctl] at hw
    exact ⟨t, hwrite, by rw [hnoted.word hgated, State.word_setWord, hw], hnoted.noted.q⟩

theorem State.regPeek_scratch (s : State) (req : Nat) (hj : j < 4) :
    s.regPeek req (Reg.genScratch j) = (s.word (Reg.genScratch j), s) := by
  have hlo : pairRegs.findIdx? (fun p => decide (p.1 = Reg.genScratch j)) = none := by interval_cases j <;> decide
  have hhi : pairRegs.findIdx? (fun p => decide (p.2 = Reg.genScratch j)) = none := by interval_cases j <;> decide
  have hapart : ¬(Reg.evwData 0 ≤ Reg.genScratch j ∧ Reg.genScratch j ≤ Reg.evwData 7) ∧ Reg.genScratch j ≠ Reg.evwCtl ∧
      Reg.genScratch j ≠ Reg.evwStat ∧ Reg.genScratch j ≠ Reg.evwCursor := by interval_cases j <;> decide
  obtain ⟨hdata, hctl, hstat, hcur⟩ := hapart
  unfold State.regPeek
  simp only [hlo, hhi, if_neg hdata, s.liveWord_genScratch hj, State.banked, if_neg hctl, if_neg hstat, if_neg hcur]

theorem exec_registerAccess_scratch (h : s.PfRuns c k) (v m : Word) (hdead : s.flag F.genStateDead = false)
    (hrole : s.mayAs k.fn .operator = true) (hj : j < 4) :
    ∃ t, exec (.registerAccess c true (Reg.genScratch j) v m 0) s = .next t ∧
      t.word (Reg.genScratch j) = mergeWord (s.word (Reg.genScratch j)) v m ∧
      t.Ended c St.ok (mergeWord (s.word (Reg.genScratch j)) v m).toNat := by
  obtain ⟨t, hwrite, hword, hq⟩ := State.regWrite_scratch 1 k.fn v m hdead hrole hj
  have hport : ¬(Reg.genScratch j = Reg.secKdata ∨ Reg.genScratch j = Reg.cfsDpdata) := by interval_cases j <;> decide
  have hrow : exec (.registerAccess c true (Reg.genScratch j) v m 0) s = .next (t.finish c St.ok (t.word (Reg.genScratch j)).toNat) := by
    refine (onAdmin_of_runs h.adminRuns _).trans ?_
    rw [if_neg (by simp [h.isPf_fn]), if_neg (by decide)]
    simp only [hwrite, Bool.not_true, Bool.false_eq_true, if_false, if_neg hport, t.regPeek_scratch _ hj]
    rw [if_neg (by simp only [Reg.genScratch]; omega)]
  refine ⟨_, hrow, ?_, ?_⟩
  · exact (t.word_finish _ _ _ _).trans hword
  · rw [hword]
    exact h.adminRuns.finish_ended (State.cmd_congr c hq) _ _

theorem exec_registerAccess_refused (h : s.PfRuns c k) (hdead : s.flag F.genStateDead = false) (hrole : s.mayAs k.fn .operator = false)
    (hj : j < 4) (hnew : mergeWord (s.word (Reg.genScratch j)) v m ≠ s.word (Reg.genScratch j)) :
    ∃ t, exec (.registerAccess c true (Reg.genScratch j) v m 0) s = .next t ∧ t.Ended c St.roleRequired ∧
      t.word (Reg.genScratch j) = s.word (Reg.genScratch j) ∧ t.fld F.secDenylogSrc = 1 := by
  have hdeny := State.regWrite_scratch_refused 1 hj hdead hrole hnew
  have hhigh : Reg.genScratch j < 0x10000 := (plain_genScratch hj).high
  have hfn : k.fn < 2 := h.2
  have hrow : exec (.registerAccess c true (Reg.genScratch j) v m 0) s =
      .next ((s.deny 1 .operator k.fn (Reg.genScratch j / 4)).finish c St.roleRequired) := by
    refine (onAdmin_of_runs h.adminRuns _).trans ?_
    rw [if_neg (by simp [h.isPf_fn]), if_neg (by decide)]
    simp only [hdeny, Bool.not_false, if_true]
  obtain ⟨-, hsrc, -⟩ := s.deny_log .operator (src := 1) (fn := k.fn) (target := Reg.genScratch j / 4) (by decide) (by omega) (by omega)
  refine ⟨_, hrow, h.adminRuns.finish_ended (State.cmd_congr c (s.deny_noted _ _ _ _).q) _, ?_, (State.fld_finish _ _ _ _ _).trans hsrc⟩
  rw [State.word_finish, s.deny_scratch _ _ _ _ hj]

end

/-! ### Selectors and data ports (R400, R440, R453) -/

/-- An entry of a sparse table with one default reads as it was set. -/
theorem Tab.getD_set {α : Type} [DecidableEq α] (k : Nat) (d v : α) (t : List (Nat × α)) :
    Tab.getD k d (Sparse.set (fun _ => d) k v t) = v := by
  have hget : ∀ l : List (Nat × α), Tab.getD k d l = Sparse.get (fun _ => d) k l := fun l => by
    induction l with
    | nil => rfl
    | cons p rest ih =>
      rw [Tab.getD, Tab.find, Sparse.get]
      split
      · rfl
      · exact ih
  rw [hget, Sparse.get_set_self]

section
variable {s : State} {pf : Nat}

/-- Selecting a window fills the staging copy and leaves the windows. -/
theorem State.windowSelect_staged (s : State) (w : Nat) :
    (s.windowSelect w).fld F.strWselWin = w % 2 ^ 8 ∧ (s.windowSelect w).str = s.str ∧
      ∀ x, Tab.find w s.str.windows = some x →
        (s.windowSelect w).fld F.strWbaseLoLba = x.base % 2 ^ 32 ∧ (s.windowSelect w).fld F.strWctlOpen = b2n x.open_ := by
  have hbit : ∀ b : Bool, b2n b % 2 ^ F.strWctlOpen.wid = b2n b := by decide
  have hnoted : s.Noted (s.windowSelect w) :=
    (((((((State.Noted.refl s).setFld _ _).setFld _ _).setFld _ _).setFld _ _).setFld _ _).setFld _ _).setFld _ _ |>.setFld _ _
  refine ⟨?_, by rw [hnoted], fun x hx => ?_⟩
  all_goals unfold State.windowSelect
  · simp (disch := decide) only [State.fld_setFld_apart, State.fld_setFld]
    rfl
  · simp (disch := decide) only [hx, Option.getD_some, State.fld_setFld_apart, State.fld_setFld, hbit, and_true]
    exact Nat.mod_mod _ _

theorem exec_strWselWrite_selects (h : s.BitLands pf .operator) {w : Nat} (hw : w < 256) :
    ∃ t, exec (.strWselWrite pf w) s = .next t ∧ t.fld F.strWselWin = w ∧ t.str.windows = s.str.windows ∧
      (∀ x, Tab.find w s.str.windows = some x → t.fld F.strWbaseLoLba = x.base % 2 ^ 32 ∧ t.fld F.strWctlOpen = b2n x.open_) := by
  obtain ⟨x, y, hx, hnoted, hy⟩ := plain_strWsel.barWrite h (BitVec.ofNat 32 w) (be := 1) (by decide)
  have hwin : F.strWselWin.get y = w := by
    have hfit : ∀ i < F.strWselWin.wid, (0xFF : Word).getLsbD (i + F.strWselWin.sh) = true := by decide
    have hmask : beMask 1 = 0xFF := by decide
    rw [← F.strWselWin.get_and y 0xFF hfit, hy, hmask, mergeWord_and, F.strWselWin.get_and _ _ hfit]
    show w % 2 ^ 32 / 2 ^ 0 % 2 ^ 8 = w
    omega
  have hstore : x.storeWord pf Reg.strWsel y = x.windowSelect w := by
    rw [← hwin]
    rfl
  have hstr : x.str = s.str := by rw [hx.frame]
  obtain ⟨hsel, hkept, hcopy⟩ := x.windowSelect_staged w
  rw [hstore] at hnoted
  rw [hstr] at hcopy hkept
  refine ⟨_, h.onBar _, ?_, ?_, fun z hz => ?_⟩
  · rw [hnoted.fld _ (by decide), hsel, Nat.mod_eq_of_lt (show w < 2 ^ 8 from hw)]
  · rw [hnoted.str, hkept]
  · rw [hnoted.fld _ (by decide), hnoted.fld _ (by decide)]
    exact hcopy z hz

/-- Selecting a record of the store loads its payload, or zeros where it is not there. -/
theorem State.dpSelect_loads (s : State) (v : Word) :
    (s.dpSelect v).word Reg.cfsDpsel = v &&& 0xFFFF0FFC ∧ (s.dpSelect v).records = s.records ∧
      (Tab.has (F.cfsDpselKind.get v * 256 + F.cfsDpselIndex.get v) s.records = false → (s.dpSelect v).cfs.dpBuf = []) := by
  have hkey : (s.setWord Reg.cfsDpsel (v &&& 0xFFFF0FFC)).fld F.cfsDpselKind * 256 + (s.setWord Reg.cfsDpsel (v &&& 0xFFFF0FFC)).fld F.cfsDpselIndex =
      F.cfsDpselKind.get v * 256 + F.cfsDpselIndex.get v := by
    have hdw : F.cfsDpselKind.dw = Reg.cfsDpsel ∧ F.cfsDpselIndex.dw = Reg.cfsDpsel := by decide
    rw [State.fld, State.fld, hdw.1, hdw.2, State.word_setWord, Fld.get_and _ _ _ (by decide), Fld.get_and _ _ _ (by decide)]
  refine ⟨s.word_setWord _ _, rfl, fun hnone => ?_⟩
  have hfind : Tab.find (F.cfsDpselKind.get v * 256 + F.cfsDpselIndex.get v) s.records = none := by
    simpa [Tab.has] using hnone
  have hrecords : (s.setWord Reg.cfsDpsel (v &&& 0xFFFF0FFC)).records = s.records := rfl
  unfold State.dpSelect
  simp only [hkey]
  rw [hrecords, hfind]
  rfl

theorem State.dpAdvance_offset (s : State) : s.dpAdvance.fld F.cfsDpselOffset = (s.fld F.cfsDpselOffset + 1) % 1024 := by
  rw [State.dpAdvance, State.addWrap_eq, State.fld_setFld _ _ _ (by decide)]
  rfl

/-- A dword written through the data port is staged at the offset, which moves on. -/
theorem State.dpAccess_writes (s : State) (v : Word) :
    (s.dpAccess true v).2.dpDword (s.fld F.cfsDpselOffset) = v ∧
      (s.dpAccess true v).2.fld F.cfsDpselOffset = (s.fld F.cfsDpselOffset + 1) % 1024 ∧ (s.dpAccess true v).2.records = s.records := by
  refine ⟨?_, ?_, rfl⟩
  · exact Tab.getD_set _ _ _ _
  · exact State.dpAdvance_offset _

theorem State.dpAccess_reads (s : State) (v : Word) :
    (s.dpAccess false v).2.fld F.cfsDpselOffset = (s.fld F.cfsDpselOffset + 1) % 1024 ∧ (s.dpAccess false v).2.cfs = s.cfs :=
  ⟨s.dpAdvance_offset, rfl⟩

theorem exec_cfsDpselWrite_loads (h : s.BitLands pf .operator) (v : Word) :
    ∃ t, exec (.cfsDpselWrite pf v) s = .next t ∧ t.word Reg.cfsDpsel = v &&& 0xFFFF0FFC ∧ t.records = s.records ∧
      (Tab.has (F.cfsDpselKind.get v * 256 + F.cfsDpselIndex.get v) s.records = false → t.cfs.dpBuf = []) := by
  obtain ⟨x, w, hx, hnoted, hw⟩ := plain_cfsDpsel.barWrite_full h v
  have hstore : x.storeWord pf Reg.cfsDpsel w = x.dpSelect v := by
    show x.dpSelect w = x.dpSelect v
    rw [State.dpSelect, State.dpSelect, hw]
  have hrecords : x.records = s.records := by rw [hx.frame]
  obtain ⟨hword, hkept, hbuf⟩ := x.dpSelect_loads v
  rw [hstore] at hnoted
  rw [hrecords] at hkept hbuf
  refine ⟨_, h.onBar _, ?_, ?_, fun hnone => ?_⟩
  · rw [hnoted.word (by decide), hword]
  · rw [hnoted.records, hkept]
  · rw [hnoted.dpBuf, hbuf hnone]

theorem exec_cfsDpdataAccess_writes (h : s.BitLands pf .installer) (v : Word) :
    ∃ t, exec (.cfsDpdataAccess pf true v) s = .next t ∧ t.dpDword (s.fld F.cfsDpselOffset) = v ∧
      t.fld F.cfsDpselOffset = (s.fld F.cfsDpselOffset + 1) % 1024 ∧ t.records = s.records := by
  obtain ⟨x, hx, hnoted⟩ := plain_cfsDpdata.barWrite_whole h v
  have hrow : exec (.cfsDpdataAccess pf true v) s = .next (s.barWrite pf Reg.cfsDpdata v 15) := h.onBar _
  have hstore : x.storeWord pf Reg.cfsDpdata v = (x.dpAccess true v).2 := rfl
  obtain ⟨hdword, hoffset, hrecords⟩ := x.dpAccess_writes v
  rw [hstore] at hnoted
  rw [hx.fld] at hdword hoffset
  refine ⟨_, hrow, ?_, ?_, ?_⟩
  · rw [State.dpDword, hnoted.dpBuf]
    exact hdword
  · rw [hnoted.fld _ (by decide), hoffset]
  · rw [hnoted.records, hrecords, hx.frame]

theorem State.withSec_regs (s : State) (x : Sec) : ({ s with sec := x } : State).regs = s.regs := rfl

/-- Selecting a key loads its dwords. -/
theorem State.keySelect_loads (s : State) (v : Word) :
    (s.keySelect v).word Reg.secKsel = v &&& 0xFF ∧ (s.keySelect v).keys = s.keys ∧
      (s.keySelect v).sec.kbuf = kbufOf ((s.keys.key (Role.ofNum (F.secKselKey.get v))).getD 0) := by
  have hkey : (s.setWord Reg.secKsel (v &&& 0xFF)).fld F.secKselKey = F.secKselKey.get v := by
    have hdw : F.secKselKey.dw = Reg.secKsel := by decide
    rw [State.fld, hdw, State.word_setWord, Fld.get_and _ _ _ (by decide)]
  unfold State.keySelect
  extract_lets t k
  have hword : t.word Reg.secKsel = v &&& 0xFF := s.word_setWord _ _
  have hkeys : t.keys = s.keys := rfl
  have hk : k = (s.keys.key (Role.ofNum (F.secKselKey.get v))).getD 0 := by simp only [k, hkeys, t, hkey]
  rw [← hk]
  clear_value k t
  exact ⟨(State.word_congr _ (t.withSec_regs _)).trans hword, hkeys, rfl⟩

theorem exec_secKselWrite_loads (h : s.BitLands pf .operator) (v : Word) :
    ∃ t, exec (.secKselWrite pf v) s = .next t ∧ t.word Reg.secKsel = v &&& 0xFF ∧ t.keys = s.keys ∧
      t.sec.kbuf = kbufOf ((s.keys.key (Role.ofNum (F.secKselKey.get v))).getD 0) := by
  obtain ⟨x, w, hx, hnoted, hw⟩ := plain_secKsel.barWrite_full h v
  have hstore : x.storeWord pf Reg.secKsel w = x.keySelect v := by
    show x.keySelect w = x.keySelect v
    rw [State.keySelect, State.keySelect, hw]
  have hkeys : x.keys = s.keys := by rw [hx.frame]
  obtain ⟨hword, hkept, hbuf⟩ := x.keySelect_loads v
  rw [hstore] at hnoted
  rw [hkeys] at hkept hbuf
  refine ⟨_, h.onBar _, ?_, ?_, ?_⟩
  · rw [hnoted.word (by decide), hword]
  · rw [hnoted.keys, hkept]
  · rw [hnoted.sec, hbuf]

/-- An access to a key's dwords moves the offset on. -/
theorem State.keyAccess_offset (s : State) (write : Bool) (v : Word) :
    (s.keyAccess write v).2.fld F.secKselOffset = (s.fld F.secKselOffset + 1) % 64 := by
  have hadd : (s.addWrap F.secKselOffset 1).fld F.secKselOffset = (s.fld F.secKselOffset + 1) % 64 := by
    rw [State.addWrap_eq, State.fld_setFld _ _ _ (by decide)]
    rfl
  unfold State.keyAccess
  simp only
  split
  · split
    · exact hadd
    · exact hadd
  · exact hadd

/-- A dword of a key is staged at the offset. -/
theorem State.keyAccess_writes (s : State) (v : Word) (ho : s.fld F.secKselOffset < 24) :
    Tab.getD (s.fld F.secKselOffset) 0 (s.keyAccess true v).2.sec.kbuf = v ∧ (s.keyAccess true v).2.keys = s.keys := by
  simp only [State.keyAccess, if_true, if_pos ho]
  exact ⟨Tab.getD_set _ _ _ _, rfl⟩

theorem State.keyAccess_reads (s : State) (v : Word) : (s.keyAccess false v).2.sec = s.sec := rfl

theorem exec_secKdataAccess_writes (h : s.BitLands pf .installer) (v : Word) (ho : s.fld F.secKselOffset < 24) :
    ∃ t, exec (.secKdataAccess pf true v) s = .next t ∧ Tab.getD (s.fld F.secKselOffset) 0 t.sec.kbuf = v ∧
      t.fld F.secKselOffset = s.fld F.secKselOffset + 1 ∧ t.keys = s.keys := by
  obtain ⟨x, hx, hnoted⟩ := plain_secKdata.barWrite_whole h v
  have hrow : exec (.secKdataAccess pf true v) s = .next (s.barWrite pf Reg.secKdata v 15) := h.onBar _
  have hstore : x.storeWord pf Reg.secKdata v = (x.keyAccess true v).2 := rfl
  obtain ⟨hdword, hkeys⟩ := x.keyAccess_writes v (by rwa [hx.fld])
  have hoffset := x.keyAccess_offset true v
  rw [hstore] at hnoted
  rw [hx.fld] at hdword hoffset
  refine ⟨_, hrow, ?_, ?_, ?_⟩
  · rw [hnoted.sec, hdword]
  · rw [hnoted.fld _ (by decide), hoffset, Nat.mod_eq_of_lt (by omega)]
  · rw [hnoted.keys, hkeys, hx.frame]

/-- An awake device reads a register at once. -/
theorem State.barRead_awake (hps : s.ps ≠ 4) {off : Nat} (hoff : off < 0x10000) : s.barRead pf off = s.regRead pf off := by
  rw [State.barRead, if_neg (fun h => hps h.1), if_neg (by omega)]

/-- A register that a read reaches and that is no half of a pair. -/
def singleReg (off : Nat) : Bool :=
  namesReg off && decide (off < 0x10000) && decide (pairRegs.findIdx? (fun p => decide (p.1 = off)) = none) &&
    decide (pairRegs.findIdx? (fun p => decide (p.2 = off)) = none)

/-- A read of a register that is no half of a pair: an event dword, a data port, or the word with its live fields. -/
theorem State.regRead_single {off : Nat} (hsingle : singleReg off = true) (hdec : s.decodesReg off = true) (hpf : pf < 2) :
    s.regRead pf off =
      if Reg.evwData 0 ≤ off ∧ off ≤ Reg.evwData 7 then
        if s.mayReadEvents pf = false then (0, s)
        else if (off - Reg.evwData 0) / 4 = 0 then (BitVec.ofNat 32 (s.evwRead0 pf).1, (s.evwRead0 pf).2)
        else if (off - Reg.evwData 0) / 4 = 7 then (BitVec.ofNat 32 (s.evwRead7 pf).1, (s.evwRead7 pf).2)
        else (BitVec.ofNat 32 ((s.bank pf).latch.getD ((off - Reg.evwData 0) / 4) 0), s)
      else if off = Reg.secKdata then s.keyAccess false 0
      else if off = Reg.cfsDpdata then s.dpAccess false 0
      else (s.banked pf off (s.liveWord off).1, (s.liveWord off).2) := by
  simp only [singleReg, Bool.and_eq_true, decide_eq_true_eq] at hsingle
  obtain ⟨⟨⟨hnamed, -⟩, hlo⟩, hhi⟩ := hsingle
  unfold State.regRead
  simp only [hnamed, hdec, hlo, hhi, Nat.mod_eq_of_lt hpf, Bool.not_true, Bool.or_false, Bool.false_eq_true, if_false, Bool.not_eq_true']

theorem exec_cfsDpdataAccess_reads (hpf : pf < 2) (hport : (s.port pf).perst = false) (hdead : s.flag F.genStateDead = false) (hps : s.ps ≠ 4)
    (v : Word) :
    ∃ t, exec (.cfsDpdataAccess pf false v) s = .next t ∧ t.cfs = s.cfs ∧ t.fld F.cfsDpselOffset = (s.fld F.cfsDpselOffset + 1) % 1024 := by
  have hrow : exec (.cfsDpdataAccess pf false v) s = .next (s.barRead pf Reg.cfsDpdata).2 := onBar_next hpf hport _
  have hdec : s.decodesReg Reg.cfsDpdata = true := by simp [State.decodesReg, hdead, Reg.cfsDpdata]
  rw [State.barRead_awake hps (by decide), State.regRead_single (by decide) hdec hpf, if_neg (by decide), if_neg (by decide), if_pos rfl] at hrow
  obtain ⟨hoffset, hcfs⟩ := s.dpAccess_reads 0
  exact ⟨_, hrow, hcfs, hoffset⟩

theorem exec_secKdataAccess_reads (hpf : pf < 2) (hport : (s.port pf).perst = false) (hdead : s.flag F.genStateDead = false) (hps : s.ps ≠ 4)
    (v : Word) :
    ∃ t, exec (.secKdataAccess pf false v) s = .next t ∧ t.sec = s.sec ∧ t.fld F.secKselOffset = (s.fld F.secKselOffset + 1) % 64 := by
  have hrow : exec (.secKdataAccess pf false v) s = .next (s.barRead pf Reg.secKdata).2 := onBar_next hpf hport _
  have hdec : s.decodesReg Reg.secKdata = true := by simp [State.decodesReg, hdead, Reg.secKdata]
  rw [State.barRead_awake hps (by decide), State.regRead_single (by decide) hdec hpf, if_neg (by decide), if_pos rfl] at hrow
  exact ⟨_, hrow, s.keyAccess_reads 0, s.keyAccess_offset false 0⟩

end

/-! ### The event window (R474, R475, R477) -/

section
variable {s : State} {pf : Nat}

/-- The event window is read in the dead state too (R519). -/
theorem State.barRead_evwData (hps : s.ps ≠ 4) (hpf : pf < 2) {i : Nat} (hi : i < 8) :
    s.barRead pf (Reg.evwData i) =
      if s.mayReadEvents pf = false then (0, s)
      else if i = 0 then (BitVec.ofNat 32 (s.evwRead0 pf).1, (s.evwRead0 pf).2)
      else if i = 7 then (BitVec.ofNat 32 (s.evwRead7 pf).1, (s.evwRead7 pf).2)
      else (BitVec.ofNat 32 ((s.bank pf).latch.getD i 0), s) := by
  have hrange : singleReg (Reg.evwData i) = true ∧ (Reg.evwData 0 ≤ Reg.evwData i ∧ Reg.evwData i ≤ Reg.evwData 7) ∧
      (Reg.evwData i - Reg.evwData 0) / 4 = i ∧ Reg.evwData i < 0x1B00 ∧ 0x1A00 ≤ Reg.evwData i := by
    interval_cases i <;> decide
  obtain ⟨hsingle, hin, hidx, hhi, hlo⟩ := hrange
  have hdec : s.decodesReg (Reg.evwData i) = true := by
    simp only [State.decodesReg, decide_eq_true hlo, decide_eq_true hhi, decide_eq_true (Nat.lt_trans hhi (by decide : 0x1B00 < 0x10000)),
      Bool.and_self, Bool.or_true]
  rw [State.barRead_awake hps (Nat.lt_trans hhi (by decide)), State.regRead_single hsingle hdec hpf, if_pos hin, hidx]

theorem exec_evwData0Read_latches {r : EventRec} (hpf : pf < 2) (hport : (s.port pf).perst = false) (hps : s.ps ≠ 4)
    (hmay : s.mayReadEvents pf = true) (hbehind : (s.bank pf).behind = false) (hr : s.atCursor pf = some r) :
    ∃ t, exec (.evwData0Read pf) s = .next t ∧ (t.bank pf).latch = r.dwords ∧ (t.bank pf).cursor = (s.bank pf).cursor ∧
      t.bank (1 - pf) = s.bank (1 - pf) := by
  have hrow : exec (.evwData0Read pf) s = .next (s.barRead pf (Reg.evwData 0)).2 := onBar_next hpf hport _
  have hread : s.evwRead0 pf = (r.dwords.headD 0, s.setBank pf { s.bank pf with latch := r.dwords }) := by
    rw [State.evwRead0, State.catchUp_current hbehind]
    simp only [ite_self, hr]
  rw [State.barRead_evwData hps hpf (by decide), if_neg (by simp [hmay]), if_pos rfl, hread] at hrow
  refine ⟨_, hrow, ?_, ?_, s.bank_setBank_other pf _ hpf⟩
  · rw [State.bank_setBank]
  · rw [State.bank_setBank]

theorem exec_evwData0Read_overrun (hpf : pf < 2) (hport : (s.port pf).perst = false) (hps : s.ps ≠ 4) (hmay : s.mayReadEvents pf = true)
    (hbehind : (s.bank pf).behind = true) (harea : (s.bank pf).area = 0) :
    ∃ t, exec (.evwData0Read pf) s = .next t ∧ (t.bank pf).cursor = s.evwOldest ∧ (t.bank pf).behind = false ∧ (t.bank pf).overrun = true := by
  have hrow : exec (.evwData0Read pf) s = .next (s.barRead pf (Reg.evwData 0)).2 := onBar_next hpf hport _
  have hread : ∃ d l, s.evwRead0 pf = (d, (s.catchUp pf).setBank pf { (s.catchUp pf).bank pf with latch := l }) := by
    rw [State.evwRead0, if_pos harea]
    simp only
    split
    · exact ⟨_, _, rfl⟩
    · exact ⟨_, _, rfl⟩
  obtain ⟨d, l, hread⟩ := hread
  rw [State.barRead_evwData hps hpf (by decide), if_neg (by simp [hmay]), if_pos rfl, hread] at hrow
  refine ⟨_, hrow, ?_, ?_, ?_⟩
  all_goals rw [State.bank_setBank, State.catchUp_behind hbehind, State.bank_setBank]

theorem exec_evwData_refused (hpf : pf < 2) (hport : (s.port pf).perst = false) (hps : s.ps ≠ 4) (hmay : s.mayReadEvents pf = false) :
    exec (.evwData0Read pf) s = .next s ∧ exec (.evwData7Read pf) s = .next s := by
  have hrow0 : exec (.evwData0Read pf) s = .next (s.barRead pf (Reg.evwData 0)).2 := onBar_next hpf hport _
  have hrow7 : exec (.evwData7Read pf) s = .next (s.barRead pf (Reg.evwData 7)).2 := onBar_next hpf hport _
  rw [State.barRead_evwData hps hpf (by decide), if_pos hmay] at hrow0 hrow7
  exact ⟨hrow0, hrow7⟩

theorem exec_evwData7Read_advances (hpf : pf < 2) (hport : (s.port pf).perst = false) (hps : s.ps ≠ 4) (hmay : s.mayReadEvents pf = true)
    (hlatch : (s.bank pf).latch ≠ []) (harea : (s.bank pf).area = 0) :
    ∃ t, exec (.evwData7Read pf) s = .next t ∧ (t.bank pf).cursor = nextSeq (s.bank pf).cursor ∧ (t.bank pf).latch = (s.bank pf).latch := by
  have hrow : exec (.evwData7Read pf) s = .next (s.barRead pf (Reg.evwData 7)).2 := onBar_next hpf hport _
  have hread : (s.evwRead7 pf).2 = s.setBank pf { s.bank pf with cursor := nextSeq (s.bank pf).cursor } := by
    simp only [State.evwRead7, List.isEmpty_eq_false_iff.2 hlatch, Bool.false_eq_true, if_false, EvwBank.advance, if_pos harea]
  rw [State.barRead_evwData hps hpf (by decide), if_neg (by simp [hmay]), if_neg (by decide), if_pos rfl, hread] at hrow
  refine ⟨_, hrow, ?_, ?_⟩
  · rw [State.bank_setBank]
  · rw [State.bank_setBank]

theorem exec_evwCursorWrite_moves (h : s.BitLands pf .operator) {seq : Nat} (hseq : seq < 2 ^ 32) :
    ∃ t, exec (.evwCursorWrite pf seq) s = .next t ∧ (t.bank pf).cursor = seq ∧ (t.bank pf).behind = !(s.evwInRange seq) ∧
      t.bank (1 - pf) = s.bank (1 - pf) := by
  obtain ⟨x, hx, hnoted⟩ := plain_evwCursor.barWrite_whole h (BitVec.ofNat 32 seq)
  have hpf : pf < 2 := h.1
  have hnum : (BitVec.ofNat 32 seq).toNat = seq := Nat.mod_eq_of_lt hseq
  have hstore : x.storeWord pf Reg.evwCursor (BitVec.ofNat 32 seq) = x.evwCursor pf seq := by
    show x.evwCursor pf (BitVec.ofNat 32 seq).toNat = _
    rw [hnum]
  have hrange : x.evwInRange seq = s.evwInRange seq := by
    rw [hx.frame]
    rfl
  rw [hstore, State.evwCursor, hrange] at hnoted
  refine ⟨_, h.onBar _, ?_, ?_, ?_⟩
  · rw [hnoted.bank, State.bank_setBank]
  · rw [hnoted.bank, State.bank_setBank]
  · rw [hnoted.bank, State.bank_setBank_other _ _ _ hpf, hx.bank]

end

/-- Settles O36: BAR2 writes of the scratch registers, C0h, the selectors and data ports and the event window by their own lemmas. -/
theorem registerRowsComplete : Obligations.RegisterRowsComplete := by
  unfold Obligations.RegisterRowsComplete
  exact ⟨fun _ _ _ _ v h hk hbe => hbe ▸ exec_registerWrite_scratch h hk v,
    fun _ _ _ _ hpf hport hdead hps hrole hk hv => exec_registerWrite_refused hpf hport hdead hps hrole hk hv,
    fun _ _ _ be v hpf hport _ hps hoff hrows => exec_registerWrite_unnamed hpf hport hps hoff hrows v be,
    fun _ _ _ be v hpf hport hps hlo hhi => exec_registerWrite_held hpf hport hps hlo hhi v be,
    fun s _ k v m h hdead => by
      rw [exec_registerAccess_read h v m (by decide) (by decide), s.regRead_genId hdead]
      rfl,
    fun _ _ _ _ v m h _ halign hoff hnone => exec_registerAccess_unnamed h v m halign hoff hnone,
    fun _ _ _ _ w _ v h hbad => exec_registerAccess_badField h w v hbad,
    fun _ _ _ _ v m h hdead hrole hj => exec_registerAccess_scratch h v m hdead hrole hj,
    fun _ _ _ _ _ _ h hdead hrole hj hnew => exec_registerAccess_refused h hdead hrole hj hnew,
    fun _ _ _ h hw => exec_strWselWrite_selects h hw, fun _ _ v h => exec_cfsDpselWrite_loads h v,
    fun _ _ v h => exec_cfsDpdataAccess_writes h v, fun _ _ v hpf hport hdead hps => exec_cfsDpdataAccess_reads hpf hport hdead hps v,
    fun _ _ v h => exec_secKselWrite_loads h v, fun _ _ v h ho => exec_secKdataAccess_writes h v ho,
    fun _ _ v hpf hport hdead hps => exec_secKdataAccess_reads hpf hport hdead hps v,
    fun _ _ _ hpf hport hps hmay hbehind hr => exec_evwData0Read_latches hpf hport hps hmay hbehind hr,
    fun _ _ hpf hport hps hmay hbehind harea => exec_evwData0Read_overrun hpf hport hps hmay hbehind harea,
    fun _ _ hpf hport hps hmay => exec_evwData_refused hpf hport hps hmay,
    fun _ _ hpf hport hps hmay hlatch harea => exec_evwData7Read_advances hpf hport hps hmay hlatch harea,
    fun _ _ _ h hseq => exec_evwCursorWrite_moves h hseq⟩

end Sys2Proof.Machine
end
